-- ==== Sys2Proof/Word.lean ====
section
/-!
DEFINITION. The plainest types of the model: a byte, a string of bytes, a 64-bit word and a 32-bit word.
The manual's structures are little-endian byte strings (R13) and its registers are 64-bit words (R17).
-/

namespace Sys2Proof

/-- One byte of a structure, a slot or a memory. -/
abbrev Byte := BitVec 8

/-- A string of bytes: a payload, a body, a range of memory. -/
abbrev Bytes := List Byte

/-- A register or strand register: 64 bits. -/
abbrev Word := BitVec 64

/-- An instruction word of a strand program, or an FP32 value: 32 bits. -/
abbrev Half := BitVec 32

end Sys2Proof
end

