-- ==== Sys2Proof/Syntax.lean ====
section
/-!
DEFINITION. The commands of the module: one constructor per row of the table of operations and events, with the
operands that come from outside. A mailbox command's operands are bytes that the module has copied from a command slot
(R444), so its row names only where the command came from.
-/

namespace Sys2Proof

/-- Where a running command came from: mailbox m (R444), or the engine command with this issue number that a strand
issued (R371). -/
inductive Src where
  | mbox (m : Nat)
  | eiss (n : Nat)
  deriving DecidableEq, Repr

/-- A mirror record as it arrives: the fields of its header and its body (R314). -/
structure MirrorRec where
  seq : Nat
  kind : Nat
  partition : Nat
  flags : Nat
  step : Nat
  capsule : Nat
  arg0 : Nat
  arg1 : Nat
  body : Bytes
  check : Nat
  deriving DecidableEq, Repr

/-- A session-protocol frame as it arrives, with the address and port it came from (R466). -/
structure SessFrame where
  srcAddr : Nat
  srcPort : Nat
  magic : Nat
  version : Nat
  type : Nat
  src : Nat
  dst : Nat
  seq : Nat
  ack : Nat
  capsule : Nat
  length : Nat
  flags : Nat
  check : Nat
  body : Bytes
  deriving DecidableEq, Repr

/-- A QUERY or OUTPUT message of the model plane (R465). -/
structure ModelMsg where
  capsule : Nat
  request : Nat
  step : Nat
  kind : Nat
  maskMode : Nat
  layer : Nat
  headFirst : Nat
  headCount : Nat
  queryCount : Nat
  basePos : Nat
  scale : Nat
  bytes : Nat
  check : Nat
  body : Bytes
  deriving DecidableEq, Repr

/-- A management request as it arrives on the management port (R506). -/
structure MgmtMsg where
  op : Nat
  credential : Nat
  counter : Nat
  body : Bytes
  signature : Bytes
  deriving DecidableEq, Repr

/-- A PTP Announce: the clock that sends it, the dataset fields that the best-master choice compares, and the
sub-port it came in on (R477). -/
structure Announce where
  subport : Nat
  domain : Nat
  priority1 : Nat
  clockClass : Nat
  accuracy : Nat
  variance : Nat
  priority2 : Nat
  clockId : Nat
  stepsRemoved : Nat
  intervalNs : Nat
  deriving DecidableEq, Repr

/-- What a start finds outside the module's state (R564): the resistances read at CAP_SEL and PAIR_ID in ohms (none: open,
R538, R553), the energy of the hold-up bank in millijoules (R537), whether the Dyone image and the Crook image of the active
slot and of the other slot pass their signature check (R490), and what the quick diagnostics find (R567 to R569): the tests
that fail as bits, the attention cores that fail test 0, the strand cores that fail test 1 and the check-value units that
fail test 3. -/
structure StartIn where
  capSel : Option Nat
  pairId : Option Nat
  holdup : Nat
  dyone : Bool
  dyoneOther : Bool
  crook : Bool
  crookOther : Bool
  failed : Nat
  cores : Nat
  strands : List Nat
  units : Nat
  deriving DecidableEq, Repr

/-- The commands and events of the module, in the order of the table. -/
inductive Instr where
  /-- REGISTER_WRITE (R439) -/
  | registerWrite (off : Nat) (bytes : Nat) (value : Nat)
  /-- NOW_NS_READ (R476) -/
  | nowNsRead
  /-- MAILBOX_SLOT_WRITE (R451) -/
  | mailboxSlotWrite (mb : Nat) (off : Nat) (data : Bytes)
  /-- MAILBOX_GO (R444) -/
  | mailboxGo (mb : Nat) (value : Nat)
  /-- RING_TAIL_WRITE (R173) -/
  | ringTailWrite (p : Nat) (v : Nat)
  /-- MODULE_RESET (R561) -/
  | moduleReset (value : Nat)
  /-- PARTITION_RESET (R565) -/
  | partitionReset (value : Nat)
  /-- CURSOR_WRITE (R521) -/
  | cursorWrite (off : Nat) (bytes : Nat) (value : Nat)
  /-- ADVANCE (R521) -/
  | advance (off : Nat) (bytes : Nat) (value : Nat)
  /-- WINDOW_LOAD_COMPLETE (R521) -/
  | windowLoadComplete
  /-- NOP (R455) -/
  | nop (src : Src)
  /-- IDENTIFY (R455) -/
  | identify (src : Src)
  /-- CAPSULE_CREATE (R66) -/
  | capsuleCreate (src : Src)
  /-- CAPSULE_DELETE (R67) -/
  | capsuleDelete (src : Src)
  /-- CAPSULE_QUERY (R68) -/
  | capsuleQuery (src : Src)
  /-- CAPSULE_READ (R69) -/
  | capsuleRead (src : Src)
  /-- CAPSULE_PARK (R70) -/
  | capsulePark (src : Src)
  /-- CAPSULE_TRUNCATE (R71) -/
  | capsuleTruncate (src : Src)
  /-- CAPSULE_REPAIR (R72) -/
  | capsuleRepair (src : Src)
  /-- REPAIR_BLOCK_ARRIVAL (R576) -/
  | repairBlockArrival (capsule : Nat) (entry : Nat) (block : Nat) (b : Bytes) (check : Nat) (ok : Bool)
  /-- CAPSULE_SWEEP (R73) -/
  | capsuleSweep (src : Src)
  /-- SWEEP_INTERVAL (R42) -/
  | sweepInterval
  /-- SLIDE_PLACE (R101) -/
  | slidePlace (src : Src)
  /-- SLIDE_SCHEDULE (R102) -/
  | slideSchedule (src : Src)
  /-- SLIDE_SWAP_REGISTER (R103) -/
  | slideSwapRegister (src : Src)
  /-- SLIDE_SWAP_RELEASE (R104) -/
  | slideSwapRelease (src : Src)
  /-- HINT_MOVE (R80) -/
  | hintMove
  /-- PREFETCH_ISSUE (R87) -/
  | prefetchIssue (entry : Nat)
  /-- TILE_TRANSFER_COMPLETE (R578) -/
  | tileTransferComplete (xfer : Nat) (corrected : Nat) (failed : Bool)
  /-- PREFETCH_DEADLINE (R89) -/
  | prefetchDeadline (entry step : Nat)
  /-- STALL_WARN (R89) -/
  | stallWarn (entry : Nat)
  /-- HOST_SWAP_CASCADE (R95) -/
  | hostSwapCascade
  /-- HOST_TIER_READ_TIMEOUT (R99) -/
  | hostTierReadTimeout (xfer : Nat)
  /-- ATTN_MODEL_REGISTER (R126) -/
  | attnModelRegister (src : Src)
  /-- ATTN_MODEL_RELEASE (R127) -/
  | attnModelRelease (src : Src)
  /-- ATTN_SUBMIT (R128) -/
  | attnSubmit (src : Src)
  /-- ATTN_PROGRAM_LOAD (R129) -/
  | attnProgramLoad (src : Src)
  /-- ATTN_PROGRAM_START (R130) -/
  | attnProgramStart (src : Src)
  /-- ATTN_PROGRAM_STOP (R131) -/
  | attnProgramStop (src : Src)
  /-- ATTN_CORE_ASSIGN (R132) -/
  | attnCoreAssign (src : Src)
  /-- CORE_MODE_DRAINED (R123) -/
  | coreModeDrained (core : Nat)
  /-- QUERY (R122) -/
  | query (endpoint : Nat) (g : ModelMsg)
  /-- BATCH_WAIT_EXPIRY (R112) -/
  | batchWaitExpiry (core : Nat)
  /-- BLOCK_BOUNDARY (R121) -/
  | blockBoundary (core : Nat)
  /-- QUERY_TIMEOUT (R123) -/
  | queryTimeout
  /-- ORPHAN_QUERY_EXPIRY (R123) -/
  | orphanQueryExpiry
  /-- PROGRAM_SLICE_EXPIRY (R107) -/
  | programSliceExpiry (core : Nat)
  /-- LOAD (R124) -/
  | coreLoad (core : Nat)
  /-- STORE (R124) -/
  | coreStore (core : Nat)
  /-- CAPREAD (R124) -/
  | coreCapread (core : Nat)
  /-- MATMUL (R142) -/
  | coreMatmul (core : Nat)
  /-- VECOP (R144) -/
  | coreVecop (core : Nat)
  /-- FUSED (R124) -/
  | coreFused (core : Nat)
  /-- WAIT (R388) -/
  | coreWait (core : Nat)
  /-- SIGNAL (R388) -/
  | coreSignal (core : Nat)
  /-- LOOP (R124) -/
  | coreLoop (core : Nat)
  /-- CORE_END (R124) -/
  | coreEnd (core : Nat)
  /-- STEP_ADMIT (R176) -/
  | stepAdmit (src : Src)
  /-- ADMIT_INPUT_READ (R159) -/
  | admitInputRead (src : Src) (ok : Bool)
  /-- STEP_APPEND (R177) -/
  | stepAppend (src : Src)
  /-- STEP_WAIT (R178) -/
  | stepWait (src : Src)
  /-- STEP_END (R178) -/
  | stepEnd (src : Src)
  /-- STEP_QUERY (R178) -/
  | stepQuery (src : Src)
  /-- STEP_SET (R179) -/
  | stepSet (src : Src)
  /-- STEP_BATCH (R180) -/
  | stepBatch (src : Src)
  /-- STEP_POOL_BIND (R181) -/
  | stepPoolBind (src : Src)
  /-- STEP_RING_SET (R182) -/
  | stepRingSet (src : Src)
  /-- STEP_BUILD (R165) -/
  | stepBuild (p : Nat)
  /-- SAMPLE_RECORD_PREPARE (R239) -/
  | sampleRecordPrepare (p : Nat)
  /-- ACCOUNT_PHASE (R188) -/
  | accountPhase (p : Nat)
  /-- WRITE_PHASE (R207) -/
  | writePhase (p : Nat)
  /-- OUTPUT_COMMIT (R172) -/
  | outputCommit (p : Nat)
  /-- BUDGET_OPEN (R209) -/
  | budgetOpen (src : Src)
  /-- BUDGET_CLOSE (R210) -/
  | budgetClose (src : Src)
  /-- BUDGET_SET (R211) -/
  | budgetSet (src : Src)
  /-- BUDGET_QUERY (R212) -/
  | budgetQuery (src : Src)
  /-- ACCOUNT_PERIOD_END (R187) -/
  | accountPeriodEnd (a : Nat)
  /-- PREFIX_CREATE (R213) -/
  | prefixCreate (src : Src)
  /-- PREFIX_DELETE (R214) -/
  | prefixDelete (src : Src)
  /-- PREFIX_FIND (R215) -/
  | prefixFind (src : Src)
  /-- PREFIX_PLACE (R215) -/
  | prefixPlace (src : Src)
  /-- ADAPTER_LOAD (R216) -/
  | adapterLoad (src : Src)
  /-- ADAPTER_RETIRE (R217) -/
  | adapterRetire (src : Src)
  /-- ADAPTER_QUERY (R217) -/
  | adapterQuery (src : Src)
  /-- ADAPTER_POOL_BIND (R218) -/
  | adapterPoolBind (src : Src)
  /-- SPEC_BIND (R219) -/
  | specBind (src : Src)
  /-- MOUTH_TOKENIZER_LOAD (R244) -/
  | mouthTokenizerLoad (src : Src)
  /-- MOUTH_TOKENIZER_UNLOAD (R244) -/
  | mouthTokenizerUnload (src : Src)
  /-- MOUTH_GRAMMAR_LOAD (R245) -/
  | mouthGrammarLoad (src : Src)
  /-- MOUTH_GRAMMAR_UNLOAD (R245) -/
  | mouthGrammarUnload (src : Src)
  /-- MOUTH_GRAMMAR_SET (R246) -/
  | mouthGrammarSet (src : Src)
  /-- MOUTH_STOP_LOAD (R247) -/
  | mouthStopLoad (src : Src)
  /-- MOUTH_TEXT_SET (R248) -/
  | mouthTextSet (src : Src)
  /-- MOUTH_TOKENIZE (R249) -/
  | mouthTokenize (src : Src)
  /-- MOUTH_CARRY_FLUSH (R250) -/
  | mouthCarryFlush (src : Src)
  /-- NEXT_MASK_WRITE (R242) -/
  | nextMaskWrite (p : Nat) (i : Nat)
  /-- BORE_INDEX_CREATE (R280) -/
  | boreIndexCreate (src : Src)
  /-- BORE_INDEX_DROP (R281) -/
  | boreIndexDrop (src : Src)
  /-- BORE_INDEX_INFO (R281) -/
  | boreIndexInfo (src : Src)
  /-- BORE_QUERY (R282) -/
  | boreQuery (src : Src)
  /-- BORE_INSERT (R283) -/
  | boreInsert (src : Src)
  /-- BORE_DELETE (R284) -/
  | boreDelete (src : Src)
  /-- BORE_REPAIR (R285) -/
  | boreRepair (src : Src)
  /-- BORE_RECORD_ARRIVAL (R263) -/
  | boreRecordArrival (reader : Nat) (node : Nat) (corrected : Nat) (failed : Bool)
  /-- REPAIR_PASS (R275) -/
  | repairPass (index : Nat) (shard : Nat)
  /-- SHARD_OPEN (R277) -/
  | shardOpen (index : Nat) (shard : Nat)
  /-- FTL_HEALTH (R308) -/
  | ftlHealth (src : Src)
  /-- FTL_FLUSH (R309) -/
  | ftlFlush (src : Src)
  /-- FTL_SCRUB (R310) -/
  | ftlScrub (src : Src)
  /-- WRITE_ACCEPT (R290) -/
  | writeAccept (c : Nat)
  /-- PROGRAM_COMPLETE (R290) -/
  | programComplete (c : Nat) (ok : Bool)
  /-- ERASE_COMPLETE (R300) -/
  | eraseComplete (c : Nat) (b : Nat) (ok : Bool)
  /-- JOURNAL_FLUSH (R292) -/
  | journalFlush
  /-- GARBAGE_COLLECTION (R300) -/
  | garbageCollection (c : Nat)
  /-- WEAR_MOVE (R303) -/
  | wearMove (c : Nat)
  /-- REFRESH (R304) -/
  | refresh (c : Nat) (b : Nat)
  /-- NAND_TEMP_SAMPLE (R306) -/
  | nandTempSample (temps : List Int)
  /-- FTL_REBUILD (R296) -/
  | ftlRebuild (holdsOk : Bool)
  /-- MIRROR_PAIR (R334) -/
  | mirrorPair (src : Src)
  /-- MIRROR_STATUS (R335) -/
  | mirrorStatus (src : Src)
  /-- MIRROR_HANDOVER (R336) -/
  | mirrorHandover (src : Src)
  /-- MIRROR_CLAIM (R337) -/
  | mirrorClaim (src : Src)
  /-- MIRROR_TAKEOVER (R337) -/
  | mirrorTakeover (src : Src)
  /-- MIRROR_FENCE (R338) -/
  | mirrorFence (src : Src)
  /-- MIRROR_RESYNC (R339) -/
  | mirrorResync (src : Src)
  /-- SLOTS (R320) -/
  | recSlots (r : MirrorRec)
  /-- COPY_SHARED (R315) -/
  | recCopyShared (r : MirrorRec)
  /-- HEADER (R315) -/
  | recHeader (r : MirrorRec)
  /-- TRUNCATE (R315) -/
  | recTruncate (r : MirrorRec)
  /-- ENTRY (R579) -/
  | recEntry (r : MirrorRec)
  /-- TEXT (R315) -/
  | recText (r : MirrorRec)
  /-- ACCOUNT (R315) -/
  | recAccount (r : MirrorRec)
  /-- PREFIX (R315) -/
  | recPrefix (r : MirrorRec)
  /-- OUTPUT (R320) -/
  | recOutput (r : MirrorRec)
  /-- STEP_MARK (R320) -/
  | recStepMark (r : MirrorRec)
  /-- COMMIT_NOTE (R315) -/
  | recCommitNote (r : MirrorRec)
  /-- CLAIM (R323) -/
  | recClaim (r : MirrorRec)
  /-- HANDOVER (R323) -/
  | recHandover (r : MirrorRec)
  /-- LEASE_QUERY (R324) -/
  | recLeaseQuery (r : MirrorRec)
  /-- SLOT_REQUEST (R44) -/
  | recSlotRequest (r : MirrorRec)
  /-- SLOT_GRANT (R44) -/
  | recSlotGrant (r : MirrorRec)
  /-- HEARTBEAT (R316) -/
  | recHeartbeat (r : MirrorRec)
  /-- ACK (R316) -/
  | recAck (r : MirrorRec)
  /-- REPLAY (R316) -/
  | recReplay (r : MirrorRec)
  /-- RESYNC_TILE (R576) -/
  | recResyncTile (r : MirrorRec)
  /-- FENCE_NOTE (R327) -/
  | recFenceNote (r : MirrorRec)
  /-- REFUSE (R318) -/
  | recRefuse (r : MirrorRec)
  /-- HELLO (R332) -/
  | recHello (r : MirrorRec) (keys : List Nat)
  /-- INPUT (R579) -/
  | recInput (r : MirrorRec)
  /-- RESERVED_RECORD_KIND (R315) -/
  | recReservedKind (r : MirrorRec)
  /-- LINK_HEARTBEAT_TICK (R326) -/
  | linkHeartbeatTick
  /-- NET_HEARTBEAT_TICK (R470) -/
  | netHeartbeatTick
  /-- ACK_SEND_TICK (R316) -/
  | ackSendTick
  /-- LINK_SILENT (R326) -/
  | linkSilent
  /-- NET_SILENT (R326) -/
  | netSilent
  /-- LEASE_LAPSE (R322) -/
  | leaseLapse (capsule : Nat)
  /-- HELD_WRITE_TIMEOUT (R325) -/
  | heldWriteTimeout (held : Nat)
  /-- LANE_FAILURE (R312) -/
  | laneFailure (lane : Nat)
  /-- PARTNER_LINK_RETRAINED (R312) -/
  | partnerLinkRetrained (lost : Nat)
  /-- CKPT_TARGET_SET (R358) -/
  | ckptTargetSet (src : Src)
  /-- CKPT_TAKE (R359) -/
  | ckptTake (src : Src)
  /-- CKPT_ABORT (R360) -/
  | ckptAbort (src : Src)
  /-- CKPT_RELEASE (R360) -/
  | ckptRelease (src : Src)
  /-- CKPT_RESTORE (R361) -/
  | ckptRestore (src : Src) (fetched : Option Bytes)
  /-- CHECKPOINT_CUT (R342) -/
  | checkpointCut
  /-- CUT_WAIT_EXPIRY (R342) -/
  | cutWaitExpiry
  /-- CHECKPOINT_COPY_COMPLETE (R351) -/
  | checkpointCopyComplete
  /-- MANIFEST_WRITE_COMPLETE (R351) -/
  | manifestWriteComplete
  /-- DESTINATION_TIMEOUT (R344) -/
  | destinationTimeout
  /-- FAILURE_WARNING (R353) -/
  | failureWarning (src : Nat) (count : Nat)
  /-- STRAND_LOAD (R379) -/
  | strandLoad (src : Src)
  /-- STRAND_UNLOAD (R379) -/
  | strandUnload (src : Src)
  /-- STRAND_START (R380) -/
  | strandStart (src : Src)
  /-- STRAND_STOP (R381) -/
  | strandStop (src : Src)
  /-- STRAND_JOB_QUERY (R381) -/
  | strandJobQuery (src : Src)
  /-- STRAND_NOP (R369) -/
  | strandNop (t : Nat)
  /-- ADD (R369) -/
  | sAdd (t : Nat)
  /-- SUB (R369) -/
  | sSub (t : Nat)
  /-- MUL (R369) -/
  | sMul (t : Nat)
  /-- MULHU (R369) -/
  | sMulhu (t : Nat)
  /-- DIVU (R369) -/
  | sDivu (t : Nat)
  /-- REMU (R369) -/
  | sRemu (t : Nat)
  /-- AND (R369) -/
  | sAnd (t : Nat)
  /-- OR (R369) -/
  | sOr (t : Nat)
  /-- XOR (R369) -/
  | sXor (t : Nat)
  /-- SHL (R369) -/
  | sShl (t : Nat)
  /-- SHR (R369) -/
  | sShr (t : Nat)
  /-- SRA (R369) -/
  | sSra (t : Nat)
  /-- SLT (R369) -/
  | sSlt (t : Nat)
  /-- SLTU (R369) -/
  | sSltu (t : Nat)
  /-- SEL (R369) -/
  | sSel (t : Nat)
  /-- POPC (R369) -/
  | sPopc (t : Nat)
  /-- ADDI (R369) -/
  | sAddi (t : Nat)
  /-- ANDI (R369) -/
  | sAndi (t : Nat)
  /-- ORI (R369) -/
  | sOri (t : Nat)
  /-- XORI (R369) -/
  | sXori (t : Nat)
  /-- SHLI (R369) -/
  | sShli (t : Nat)
  /-- SHRI (R369) -/
  | sShri (t : Nat)
  /-- SRAI (R369) -/
  | sSrai (t : Nat)
  /-- LDI (R369) -/
  | sLdi (t : Nat)
  /-- LDIH (R369) -/
  | sLdih (t : Nat)
  /-- BEQ (R369) -/
  | sBeq (t : Nat)
  /-- BNE (R369) -/
  | sBne (t : Nat)
  /-- BLT (R369) -/
  | sBlt (t : Nat)
  /-- BGE (R369) -/
  | sBge (t : Nat)
  /-- BLTU (R369) -/
  | sBltu (t : Nat)
  /-- BGEU (R369) -/
  | sBgeu (t : Nat)
  /-- JAL (R369) -/
  | sJal (t : Nat)
  /-- JALR (R369) -/
  | sJalr (t : Nat)
  /-- HALT (R369) -/
  | sHalt (t : Nat)
  /-- YIELD (R369) -/
  | sYield (t : Nat)
  /-- GETS (R370) -/
  | sGets (t : Nat)
  /-- LD8U (R369) -/
  | sLd8u (t : Nat)
  /-- LD16U (R369) -/
  | sLd16u (t : Nat)
  /-- LD32U (R369) -/
  | sLd32u (t : Nat)
  /-- LD32S (R369) -/
  | sLd32s (t : Nat)
  /-- LD64 (R369) -/
  | sLd64 (t : Nat)
  /-- ST8 (R369) -/
  | sSt8 (t : Nat)
  /-- ST16 (R369) -/
  | sSt16 (t : Nat)
  /-- ST32 (R369) -/
  | sSt32 (t : Nat)
  /-- ST64 (R369) -/
  | sSt64 (t : Nat)
  /-- AMOADD (R374) -/
  | sAmoadd (t : Nat)
  /-- AMOSWAP (R374) -/
  | sAmoswap (t : Nat)
  /-- AMOCAS (R374) -/
  | sAmocas (t : Nat)
  /-- FENCE (R374) -/
  | sFence (t : Nat)
  /-- CLD8U (R367) -/
  | sCld8u (t : Nat)
  /-- CLD32U (R367) -/
  | sCld32u (t : Nat)
  /-- CLD64 (R367) -/
  | sCld64 (t : Nat)
  /-- CST32 (R372) -/
  | sCst32 (t : Nat)
  /-- CST64 (R372) -/
  | sCst64 (t : Nat)
  /-- CRDB (R369) -/
  | sCrdb (t : Nat)
  /-- EISS (R371) -/
  | sEiss (t : Nat)
  /-- TACC (R373) -/
  | sTacc (t : Nat)
  /-- RAND (R370) -/
  | sRand (t : Nat)
  /-- RSEED (R370) -/
  | sRseed (t : Nat)
  /-- LALLOC (R384) -/
  | sLalloc (t : Nat)
  /-- LFREE (R391) -/
  | sLfree (t : Nat)
  /-- LSIG (R386) -/
  | sLsig (t : Nat)
  /-- LWAIT (R386) -/
  | sLwait (t : Nat)
  /-- LTRY (R386) -/
  | sLtry (t : Nat)
  /-- LSEND (R386) -/
  | sLsend (t : Nat)
  /-- LRECV (R386) -/
  | sLrecv (t : Nat)
  /-- LOAD_RETURN (R375) -/
  | loadReturn (t : Nat)
  /-- HOST_ACCESS_TIMEOUT (R366) -/
  | hostAccessTimeout (t : Nat)
  /-- LIG_ALLOC (R397) -/
  | ligAlloc (src : Src)
  /-- LIG_FREE (R398) -/
  | ligFree (src : Src)
  /-- LIG_SIGNAL (R399) -/
  | ligSignal (src : Src)
  /-- LIG_QUERY (R400) -/
  | ligQuery (src : Src)
  /-- LWAIT_TIMEOUT (R387) -/
  | lwaitTimeout (t : Nat)
  /-- SCHED_TABLE_LOAD (R418) -/
  | schedTableLoad (src : Src)
  /-- SCHED_TABLE_OFF (R418) -/
  | schedTableOff (src : Src)
  /-- SCHED_JOB_SET (R419) -/
  | schedJobSet (src : Src)
  /-- SCHED_SUSPEND (R420) -/
  | schedSuspend (src : Src)
  /-- SCHED_RESUME (R420) -/
  | schedResume (src : Src)
  /-- SCHED_PARTITION_QUERY (R421) -/
  | schedPartitionQuery (src : Src)
  /-- SLOT_BOUNDARY (R408) -/
  | slotBoundary
  /-- PREEMPT_WINDOW_EXPIRY (R413) -/
  | preemptWindowExpiry (j : Nat)
  /-- REED_DECISION (R426) -/
  | reedDecision (i : Nat)
  /-- BURST_EXPIRY (R427) -/
  | burstExpiry (i : Nat)
  /-- HDM_READ (R440) -/
  | hdmRead (addr : Nat) (n : Nat)
  /-- HDM_WRITE (R440) -/
  | hdmWrite (addr : Nat) (n : Nat)
  /-- FUNCTION_LEVEL_RESET (R437) -/
  | functionLevelReset
  /-- HOST_LINK_DOWN (R437) -/
  | hostLinkDown
  /-- HOST_LINK_RETRAINED (R437) -/
  | hostLinkRetrained (mode : Nat) (width : Nat)
  /-- UNCORRECTABLE_TRANSFER_ERROR (R437) -/
  | uncorrectableTransferError (src : Src)
  /-- D3HOT_ENTRY (R436) -/
  | d3hotEntry
  /-- D0_RETURN (R436) -/
  | d0Return
  /-- HOST_MEMORY_TIMEOUT (R447) -/
  | hostMemoryTimeout (src : Src)
  /-- EXEC_TIMEOUT (R447) -/
  | execTimeout (src : Src)
  /-- MSIX_HOLDOFF_EXPIRY (R449) -/
  | msixHoldoffExpiry (v : Nat)
  /-- ADMIT (R467) -/
  | sessAdmit (f : SessFrame)
  /-- APPEND (R467) -/
  | sessAppend (f : SessFrame)
  /-- END (R467) -/
  | sessEnd (f : SessFrame)
  /-- ATTACH (R469) -/
  | sessAttach (f : SessFrame)
  /-- SESSION_ACK (R468) -/
  | sessAck (f : SessFrame)
  /-- NET_HEARTBEAT (R326) -/
  | netHeartbeat (f : SessFrame)
  /-- MAP (R461) -/
  | fabricMap (f : SessFrame)
  /-- RDMA_TARGETING_MODULE (R463) -/
  | rdmaTargetingModule (endpoint : Nat)
  /-- CNP (R464) -/
  | cnp (endpoint : Nat)
  /-- SESSION_RETRANSMIT (R468) -/
  | sessionRetransmit (endpoint : Nat)
  /-- SESSION_ACK_TIMER (R468) -/
  | sessionAckTimer (endpoint : Nat)
  /-- ENDPOINT_DOWN (R469) -/
  | endpointDown (endpoint : Nat)
  /-- MAP_DELIVERY_TIMEOUT (R461) -/
  | mapDeliveryTimeout
  /-- REGISTER (R462) -/
  | registerFrameDue
  /-- SUBPORT_LINK_CHANGE (R471) -/
  | subportLinkChange (sp : Nat) (up : Bool)
  /-- TRANSMIT_OPPORTUNITY (R472) -/
  | transmitOpportunity (sp : Nat)
  /-- QUEUE_SAMPLE_TICK (R474) -/
  | queueSampleTick
  /-- GATE_INTERVAL_END (R475) -/
  | gateIntervalEnd (sp : Nat)
  /-- PTP_ANNOUNCE (R477) -/
  | ptpAnnounce (a : Announce)
  /-- PTP_TIMING_MESSAGE (R478) -/
  | ptpTimingMessage (offset : Int) (delay : Int)
  /-- PTP_ANNOUNCE_TIMEOUT (R478) -/
  | ptpAnnounceTimeout
  /-- BELL_PORT_SET (R480) -/
  | bellPortSet (src : Src)
  /-- BELL_PORT_STATUS (R480) -/
  | bellPortStatus (src : Src)
  /-- BELL_QUEUE_SET (R481) -/
  | bellQueueSet (src : Src)
  /-- BELL_QUEUE_SAMPLE (R482) -/
  | bellQueueSample (src : Src)
  /-- BELL_POLICER_SET (R483) -/
  | bellPolicerSet (src : Src)
  /-- BELL_GATE_LOAD (R484) -/
  | bellGateLoad (src : Src)
  /-- BELL_ENDPOINT_QUERY (R484) -/
  | bellEndpointQuery (src : Src)
  /-- TIME_SET (R485) -/
  | timeSet (src : Src)
  /-- TIME_STEP_ALLOW (R485) -/
  | timeStepAllow (src : Src)
  /-- SEC_ATTEST (R508) -/
  | secAttest (src : Src)
  /-- SEC_IDENTITY (R509) -/
  | secIdentity (src : Src)
  /-- SEC_IMPORT (R510) -/
  | secImport (src : Src)
  /-- ENROL_CREDENTIAL (R507) -/
  | enrolCredential (g : MgmtMsg)
  /-- REVOKE_CREDENTIAL (R507) -/
  | revokeCredential (g : MgmtMsg)
  /-- ENROL_KEY (R507) -/
  | enrolKey (g : MgmtMsg)
  /-- REMOVE_KEY (R507) -/
  | removeKey (g : MgmtMsg)
  /-- SET_CONFIG (R507) -/
  | setConfig (g : MgmtMsg)
  /-- FW_STAGE (R493) -/
  | fwStage (g : MgmtMsg)
  /-- FW_ACTIVATE (R493) -/
  | fwActivate (g : MgmtMsg)
  /-- FW_COMMIT (R493) -/
  | fwCommit (g : MgmtMsg)
  /-- ATTEST (R496) -/
  | mgmtAttest (g : MgmtMsg)
  /-- EVREC_READ (R522) -/
  | evrecRead (g : MgmtMsg)
  /-- EVREC_CLEAR (R523) -/
  | evrecClear (g : MgmtMsg)
  /-- RESET (R507) -/
  | mgmtReset (g : MgmtMsg)
  /-- STATUS (R507) -/
  | mgmtStatus (g : MgmtMsg)
  /-- MGMT_MESSAGE_TIMEOUT (R506) -/
  | mgmtMessageTimeout
  /-- MGMT_LOCKOUT_END (R506) -/
  | mgmtLockoutEnd
  /-- CROOK_RESTART_END (R493) -/
  | crookRestartEnd
  /-- ATTEST_HOLD_EXPIRY (R496) -/
  | attestHoldExpiry
  /-- EVREC_NOTE (R526) -/
  | evrecNote (src : Src)
  /-- EVREC_RECORD_WRITE (R517) -/
  | evrecRecordWrite
  /-- RATE_SECOND_END (R519) -/
  | rateSecondEnd
  /-- SECTOR_ERASE_COMPLETE (R523) -/
  | sectorEraseComplete
  /-- CHECK_CONFIG (R532) -/
  | checkConfig (src : Src)
  /-- CHECK_SCAN (R533) -/
  | checkScan (src : Src)
  /-- POWER_BREATH (R544) -/
  | powerBreath (src : Src)
  /-- BREATH_WINDOW_START (R545) -/
  | breathWindowStart (i : Nat)
  /-- BREATH_WINDOW_END (R545) -/
  | breathWindowEnd (i : Nat)
  /-- CORE_MONITOR_SAMPLE (R542) -/
  | coreMonitorSample (mv : List Nat)
  /-- TRIM_PERIOD_END (R542) -/
  | trimPeriodEnd
  /-- POWER_WINDOW (R539) -/
  | powerWindow (watts : Nat)
  /-- THERMAL_LIMIT (R547) -/
  | thermalLimit (junction : Int)
  /-- THERMAL_TRIP (R548) -/
  | thermalTrip
  /-- CONVERTER_FAULT (R555) -/
  | converterFault
  /-- POWER_ON (R535) -/
  | powerOn
  /-- INPUT_LOST (R535) -/
  | inputLost
  /-- INPUT_OVERVOLTAGE (R535) -/
  | inputOvervoltage
  /-- PWR_EN_FALL (R552) -/
  | pwrEnFall
  /-- J3_SENSE_BREAK (R551) -/
  | j3SenseBreak
  /-- INPUT_RETURN (R558) -/
  | inputReturn
  /-- HOLDUP_WORK_END (R536) -/
  | holdupWorkEnd
  /-- RESET_N_LOW (R560) -/
  | resetNLow
  /-- PERST_N_LOW (R560) -/
  | perstNLow
  /-- RESET_RELEASE (R564) -/
  | resetRelease (x : StartIn)
  /-- READY_SET (R564) -/
  | readySet
  /-- TEST_DIAG (R573) -/
  | testDiag (src : Src) (failed : Nat) (cores : Nat) (strands : List Nat) (units : Nat)
  /-- TEST_PERTURB (R574) -/
  | testPerturb (src : Src)
  /-- PERTURB_SLOT_END (R570) -/
  | perturbSlotEnd (n : Nat)
  /-- OP_HOUR_TICK (R512) -/
  | opHourTick
  /-- SWEEP_PARTNER_QUERY (R73) -/
  | sweepPartnerQuery (batch : List Nat)
  /-- SWEEP_QUERY_ANSWER (R42) -/
  | sweepQueryAnswer (batch : List Nat) (held : List Nat)
  /-- REPAIR_FETCH_REQUEST (R63) -/
  | repairFetchRequest (capsule : Nat) (entry : Nat) (block : Nat)
  /-- MIRROR_RECORD_CHECK_FAIL (R316) -/
  | mirrorRecordCheckFail (r : MirrorRec)
  /-- COMMAND_TIME_BOUND_EXPIRY (R309) -/
  | commandTimeBoundExpiry (src : Src)
  /-- HOST_WRITE_ACKNOWLEDGED (R374) -/
  | hostWriteAcknowledged (t : Nat)
  /-- PRIORITY_FLOW_CONTROL (R459) -/
  | priorityFlowControl (sp : Nat) (classes : Nat) (pause : Nat)
  /-- MSIX_VECTOR_UNMASK (R449) -/
  | msixVectorUnmask (v : Nat)
  deriving DecidableEq, Repr

end Sys2Proof
end

