-- ==== Sys2Proof/Decode.lean ====
section
/-!
DEFINITION. The commands that a word spells. The table of operations and events gives no row any bits: a command reaches the
module as bytes of a command slot, a register write, a frame or an event, and never as an instruction word. So no word
spells a command.
-/

namespace Sys2Proof

/-- The command that a word spells by the table's bits: none, for the table has none. -/
def decodeTableWord (nbits w : Nat) : Option Instr :=
  match nbits, w with
  | _, _ => none

end Sys2Proof
end

