-- ==== Sys2Proof/Config.lean ====
section
/-!
DEFINITION. The values that the manual leaves to the part or leaves open: constants and functions without a body, so that
nothing can evaluate them and no proof can rest on a value of them. Assumption 5 lists what each stands for.
-/

namespace Sys2Proof.Config

/-- The hardware stepping of the Oleri die (R457). -/
opaque stepping : BitVec 8
/-- The module's serial (R457). -/
opaque serial : BitVec 64
/-- The version of the Dyone image in the factory slot (R511). -/
opaque dyoneVersion : BitVec 64
/-- The version of the Crook image in the factory slot (R511). -/
opaque crookVersion : BitVec 64
/-- The Dyone and Crook images in the factory slots (R490). -/
opaque dyoneImage : Sys2Proof.Bytes
opaque crookImage : Sys2Proof.Bytes
/-- The version that an uploaded firmware image carries, and whether it is an image of a kind (1 Dyone, 2 Crook) whose
signature verifies under the firmware key: the manual gives the image no layout (R490, R493). -/
opaque imageVersion : Sys2Proof.Bytes → Nat
opaque imageSigned : Nat → Sys2Proof.Bytes → Bool
/-- AES-256-XTS of a body under the key that a key, a use (1 a checkpoint's, 2 the mirror's, 3 the host tier's) and a number
derive, at a tweak: enciphering and deciphering (R499). -/
opaque encipher : Sys2Proof.Bytes → Nat → Nat → Nat → Sys2Proof.Bytes → Sys2Proof.Bytes
opaque decipher : Sys2Proof.Bytes → Nat → Nat → Nat → Sys2Proof.Bytes → Sys2Proof.Bytes
/-- A partition's memory key, by the number of the reset that made it (R499). -/
opaque memoryKey : Nat → Nat → Sys2Proof.Bytes
/-- The rollback counters in fuses: Dyone in [5:0], Crook in [13:8] (R511). -/
opaque rollbackFuses : BitVec 16
/-- A fresh value: the answer to the n-th choice that the manual leaves open, such as which free frame, list block,
input block or flash index is taken (R54, R75, R155). -/
opaque freeChoice : Nat → Nat
/-- A 64-bit value of the n-th draw from the module's entropy source (R370). -/
opaque entropy : Nat → BitVec 64
/-- The strand generator: from a 128-bit state the next state and 64 bits (R370). -/
opaque rngNext : Nat × Nat → (Nat × Nat) × BitVec 64
/-- The exponent approximator's output for an FP32 input (R146). -/
opaque expApprox : BitVec 32 → BitVec 32
/-- The reciprocal approximator's output for an FP32 input (R146). -/
opaque recipApprox : BitVec 32 → BitVec 32
/-- The reciprocal square root approximator's output for an FP32 input (R146). -/
opaque rsqrtApprox : BitVec 32 → BitVec 32
/-- The pow2 approximator's output for the FP32 pattern of a fraction (R146). -/
opaque pow2Approx : BitVec 32 → BitVec 32
/-- What a conversion of an FP32 NaN to INT32 gives: R145 names INT8 and no wider integer. -/
opaque nanToInt32 : BitVec 32
/-- Whether the norms, and whether the quotient, of a COSINE distance are rounded to FP32 before they are used: the manual rounds
each product and each addition, and says nothing of roots and quotients (R256). -/
opaque cosineRoots : Bool
opaque cosineQuotient : Bool
/-- The hash that places a flow on a sub-port (R471). -/
opaque flowHash : Nat → Nat
/-- The HBM channel group of a physical address (R49). -/
opaque hbmGroup : Nat → Nat
/-- The LPDDR channel group of a frame index (R49, R423). -/
opaque lpddrGroup : Nat → Nat
/-- A byte of memory whose content the manual leaves undefined, by a fresh number and its place (R530). -/
opaque undefinedByte : Nat → Nat → Sys2Proof.Byte
/-- The bases and sizes that Crook writes into a block's RW registers before the first command (BAR0 offset to value). -/
opaque crookRegister : Nat → BitVec 64
/-- SHA-512 (R494). -/
opaque sha512 : Sys2Proof.Bytes → Sys2Proof.Bytes
/-- Ed25519 verification: public key, message, signature (R461, R494). -/
opaque edVerify : Sys2Proof.Bytes → Sys2Proof.Bytes → Sys2Proof.Bytes → Bool
/-- Ed25519 signature of a message with the module's identity key (R494). -/
opaque edSign : Sys2Proof.Bytes → Sys2Proof.Bytes
/-- The module's identity public key, 32 bytes (R509). -/
opaque identityKey : Sys2Proof.Bytes
/-- The module's sealing public key, 32 bytes (R509). -/
opaque sealingKey : Sys2Proof.Bytes
/-- The certificate of the identity key (R509). -/
opaque certificate : Sys2Proof.Bytes
/-- The content that a sealed envelope opens to, none when it does not authenticate (R501). -/
opaque openSealed : Sys2Proof.Bytes → Option Sys2Proof.Bytes
/-- A new state key made by Dyone, by a fresh number (R500). -/
opaque newStateKey : Nat → Sys2Proof.Bytes
/-- The claim code of the label (R505). -/
opaque claimCode : Sys2Proof.Bytes

/-- By how much a counter of hits, misses or repeated reads of storage inside a block advances at a tick of the clock, by its
BAR0 offset and the elapsed time: the counters of the header cache, the state-record cache and the NAND retries follow parts
that the manual does not describe (R74, R251, R311). -/
opaque innerCount : Nat → Nat → Nat

/-- Array waves that the manual gives no count for: of a MATMUL, from its FORMAT and its three dimensions, and of an
up-projection stream, from its query rows, its two dimensions and the bytes of an element (R106, R112, R133). -/
opaque matmulWaves : Nat → Nat → Nat → Nat → Nat
opaque streamWaves : Nat → Nat → Nat → Nat → Nat

/-- The address of the module's ports, as REGISTER names it (R462). -/
opaque portAddress : BitVec 128

end Sys2Proof.Config
end

