-- ==== Sys2Proof/Machine/Bytes.lean ====
section
/-!
DEFINITION. Bit fields, little-endian numbers in byte strings, the 32-bit serial-number order, and the cyclic
redundancy checks that the module's structures carry.
-/

namespace Sys2Proof.Machine

open Sys2Proof

/-- Bits hi down to lo of n, both ends inclusive (R12). -/
def bits (n hi lo : Nat) : Nat := (n / 2 ^ lo) % 2 ^ (hi + 1 - lo)

/-- Bit i of n. -/
def bit (n i : Nat) : Bool := (n / 2 ^ i) % 2 == 1

/-- n with bits hi down to lo replaced by the low bits of v. -/
def setBits (n hi lo v : Nat) : Nat :=
  (n / 2 ^ (hi + 1)) * 2 ^ (hi + 1) + (v % 2 ^ (hi + 1 - lo)) * 2 ^ lo + n % 2 ^ lo

/-- 1 for true, 0 for false. -/
def b2n (b : Bool) : Nat := if b then 1 else 0

/-- The number that a byte string spells, least significant byte first (R13). -/
def leNat : Bytes → Nat
  | [] => 0
  | b :: bs => b.toNat + 256 * leNat bs

/-- The low n bytes of v, least significant byte first (R13). -/
def leBytes : Nat → Nat → Bytes
  | 0, _ => []
  | n + 1, v => BitVec.ofNat 8 v :: leBytes n (v / 256)

/-- n zero bytes. -/
def zeros (n : Nat) : Bytes := List.replicate n 0

/-- The n bytes at offset off, zeros where the string ends (an absent byte reads as zero). -/
def slice (b : Bytes) (off n : Nat) : Bytes :=
  let s := (b.drop off).take n
  s ++ zeros (n - s.length)

/-- The byte string b with the bytes v written at offset off, b lengthened with zeros where needed. -/
def splice (b : Bytes) (off : Nat) (v : Bytes) : Bytes :=
  let head := b.take off
  head ++ zeros (off - head.length) ++ v ++ b.drop (off + v.length)

/-- The n-byte field at offset off (R14). -/
def field (b : Bytes) (off n : Nat) : Nat := leNat (slice b off n)

/-- The 1-byte field at offset off. -/
def u8 (b : Bytes) (off : Nat) : Nat := field b off 1

/-- The 2-byte field at offset off. -/
def u16 (b : Bytes) (off : Nat) : Nat := field b off 2

/-- The 4-byte field at offset off. -/
def u32 (b : Bytes) (off : Nat) : Nat := field b off 4

/-- The 8-byte field at offset off. -/
def u64 (b : Bytes) (off : Nat) : Nat := field b off 8

/-- The offset of the first non-zero byte among the n bytes at offset off, if there is one. -/
def firstNonZero (b : Bytes) (off n : Nat) : Option Nat :=
  ((slice b off n).findIdx? (fun x => x != 0)).map (off + ·)

/-- The bytes at off to off + n − 1 are all zero. -/
def allZero (b : Bytes) (off n : Nat) : Bool := (firstNonZero b off n).isNone

/-- b as a field of n bytes: cut to n bytes and padded with zeros. -/
def padTo (b : Bytes) (n : Nat) : Bytes := b.take n ++ zeros (n - b.length)

/-- b padded with zeros to a multiple of n bytes. -/
def padMul (b : Bytes) (n : Nat) : Bytes := b ++ zeros ((n - b.length % n) % n)

/-- The two's-complement value of the low w bits of n. -/
def sext (w n : Nat) : Int :=
  let m := n % 2 ^ w
  if m < 2 ^ (w - 1) then (m : Int) else (m : Int) - (2 : Int) ^ w

/-- The low w bits of an integer. -/
def trunc (w : Nat) (i : Int) : Nat := (i % (2 : Int) ^ w).toNat

/-- a is later than b by 32-bit serial-number arithmetic (R24). -/
def serialLater (a b : Nat) : Bool :=
  let d := (a + 2 ^ 32 - b % 2 ^ 32) % 2 ^ 32
  decide (0 < d) && decide (d < 2 ^ 31)

/-- a and b are exactly 2^31 apart and so do not compare (R24). -/
def serialUnordered (a b : Nat) : Bool := (a + 2 ^ 32 - b % 2 ^ 32) % 2 ^ 32 == 2 ^ 31

/-- a is later than b or equal to it. -/
def serialGE (a b : Nat) : Bool := a % 2 ^ 32 == b % 2 ^ 32 || serialLater a b

/-- One byte of a reflected 32-bit CRC with polynomial poly (reflected form). -/
def crcByte (poly : Nat) (crc : Nat) (b : Byte) : Nat :=
  let rec go : Nat → Nat → Nat
    | 0, c => c
    | k + 1, c => go k (if c % 2 == 1 then (c / 2) ^^^ poly else c / 2)
  go 8 (crc ^^^ b.toNat)

/-- CRC-32C: reflected polynomial 0x82F63B78, all-ones start and final inversion. -/
def crc32c (b : Bytes) : Nat :=
  (b.foldl (crcByte 0x82F63B78) 0xFFFFFFFF) ^^^ 0xFFFFFFFF

/-- The low w bits of n in reversed order. -/
def reflect (w n : Nat) : Nat :=
  (List.range w).foldl (fun acc i => acc + (if bit n i then 2 ^ (w - 1 - i) else 0)) 0

/-- The number of one bits among the low w bits of n. -/
def popcount (w n : Nat) : Nat := ((List.range w).filter (fun i => bit n i)).length

/-- The set bits of n among the low w, lowest first. -/
def setBitsOf (w n : Nat) : List Nat := (List.range w).filter (fun i => bit n i)

/-- Division rounding up. -/
def ceilDiv (a b : Nat) : Nat := (a + b - 1) / b

/-- a rounded up to a multiple of b. -/
def roundUp (a b : Nat) : Nat := ceilDiv a b * b

/-- The first entry of an ordered list of checks that fails, as the manual's check tables read. -/
def firstFail {α : Type} : List (Bool × α) → Option α
  | [] => none
  | (ok, a) :: rest => if ok then firstFail rest else some a

/-- A list with its first n entries dropped while p holds of them: the longest prefix. -/
def prefixWhile {α : Type} (p : α → Bool) (l : List α) : List α := l.takeWhile p

/-- Insert by a key into a list that is sorted by it, after the entries whose key is not greater. -/
def insertBy {α : Type} (le : α → α → Bool) (a : α) : List α → List α
  | [] => [a]
  | b :: bs => if le b a then b :: insertBy le a bs else a :: b :: bs

/-- Stable insertion sort. -/
def sortBy {α : Type} (le : α → α → Bool) (l : List α) : List α :=
  l.foldl (fun acc a => insertBy le a acc) []

/-- The entry at place i, or a default. -/
def nthD {α : Type} (l : List α) (i : Nat) (d : α) : α := (l[i]?).getD d

/-- The list with place i replaced. -/
def setNth {α : Type} (l : List α) (i : Nat) (a : α) : List α := l.set i a

/-- The list with place i changed by f. -/
def updNth {α : Type} (l : List α) (i : Nat) (f : α → α) : List α := l.modify i f

end Sys2Proof.Machine
end

