-- ==== Sys2Proof/Machine/KMap.lean ====
section
/-!
DEFINITION. Sparse tables as lists of (key, value) pairs with strictly rising keys, and byte memories as such lists
with no entry equal to what an unlisted address reads as.
-/

namespace Sys2Proof.Machine

open Sys2Proof

/-- A table by key: pairs with strictly rising keys. -/
abbrev KMap (α : Type) := List (Nat × α)

/-- The keys rise strictly. -/
def KMap.wf {α : Type} : KMap α → Bool
  | [] => true
  | [_] => true
  | (a, _) :: (b, y) :: rest => decide (a < b) && KMap.wf ((b, y) :: rest)

/-- The value at key k. -/
def KMap.get {α : Type} : KMap α → Nat → Option α
  | [], _ => none
  | (a, x) :: rest, k => if a == k then some x else KMap.get rest k

/-- The table with v at key k. -/
def KMap.put {α : Type} : KMap α → Nat → α → KMap α
  | [], k, v => [(k, v)]
  | (a, x) :: rest, k, v =>
    if a < k then (a, x) :: KMap.put rest k v
    else if a == k then (k, v) :: rest
    else (k, v) :: (a, x) :: rest

/-- The table without key k. -/
def KMap.del {α : Type} : KMap α → Nat → KMap α
  | [], _ => []
  | (a, x) :: rest, k => if a == k then rest else (a, x) :: KMap.del rest k

/-- The value at key k changed by f; nothing where there is none. -/
def KMap.upd {α : Type} : KMap α → Nat → (α → α) → KMap α
  | [], _, _ => []
  | (a, x) :: rest, k, f => if a == k then (a, f x) :: rest else (a, x) :: KMap.upd rest k f

/-- Key k is present. -/
def KMap.has {α : Type} (m : KMap α) (k : Nat) : Bool := (m.get k).isSome

/-- The value at key k, or d. -/
def KMap.getD {α : Type} (m : KMap α) (k : Nat) (d : α) : α := (m.get k).getD d

/-- Every value changed by f, which sees the key. -/
def KMap.mapV {α : Type} (m : KMap α) (f : Nat → α → α) : KMap α := m.map (fun (k, v) => (k, f k v))

/-- The entries that p holds of. -/
def KMap.keep {α : Type} (m : KMap α) (p : Nat → α → Bool) : KMap α := m.filter (fun (k, v) => p k v)

/-- The keys, rising. -/
def KMap.keys {α : Type} (m : KMap α) : List Nat := m.map (·.1)

/-- The values in the order of their keys. -/
def KMap.vals {α : Type} (m : KMap α) : List α := m.map (·.2)

/-- The least key at or above lo and below hi that the table does not hold. -/
def KMap.lowestFree {α : Type} (m : KMap α) (lo hi : Nat) : Option Nat :=
  let rec go : KMap α → Nat → Nat
    | [], k => k
    | (a, _) :: rest, k => if a < k then go rest k else if a == k then go rest (k + 1) else k
  let k := go m lo
  if k < hi then some k else none

/-- A byte memory: addresses strictly rising, no listed byte zero. An unlisted address reads as zero
(DESIGN CHOICE, assumption 3: the manual states no contents of memory that nothing has written). -/
abbrev Mem := List Host.Cell

/-- What an unlisted address reads as. -/
def Mem.blank : Byte := 0

/-- The canonical form: addresses strictly rising and no entry equal to what an unlisted address reads as. -/
def Mem.wf (m : Mem) : Bool := KMap.wf m && m.all (fun c => c.2 != Mem.blank)

/-- The byte at address a. -/
def Mem.rd (m : Mem) (a : Nat) : Byte := (KMap.get m a).getD Mem.blank

/-- Memory with byte v at address a. -/
def Mem.wr (m : Mem) (a : Nat) (v : Byte) : Mem :=
  if v == Mem.blank then KMap.del m a else KMap.put m a v

/-- The n bytes from address a. -/
def Mem.rdN (m : Mem) (a n : Nat) : Bytes := (List.range n).map (fun i => m.rd (a + i))

/-- Memory with the bytes b from address a. -/
def Mem.wrN (m : Mem) : Nat → Bytes → Mem
  | _, [] => m
  | a, b :: bs => Mem.wrN (m.wr a b) (a + 1) bs

/-- Memory with n zero bytes from address a. -/
def Mem.zeroN (m : Mem) (a n : Nat) : Mem := m.filter (fun c => decide (c.1 < a) || decide (a + n ≤ c.1))

/-- The little-endian number of n bytes at address a. -/
def Mem.num (m : Mem) (a n : Nat) : Nat := leNat (m.rdN a n)

/-- Memory with v as a little-endian number of n bytes at address a. -/
def Mem.putNum (m : Mem) (a n v : Nat) : Mem := m.wrN a (leBytes n v)

end Sys2Proof.Machine
end

