-- ==== Sys2Proof/Machine/RegMap.lean ====
section
/-!
DEFINITION. The register maps of the blocks, field by field: R74, R105, R133, R184, R220, R251, R286, R311, R340, R362,
R382, R401, R422, R433, R456, R457, R486, R487, R511, R527, R534, R559 and R575.
-/

namespace Sys2Proof.Machine

open Sys2Proof

/-- The access codes of R19. -/
inductive Access where
  | ro | rw | rw1c | wo | rsat | wlock
  deriving DecidableEq, Repr

/-- One field of a register map: the BAR0 offset of its register, its bits, its access code, whether the host may
write it (the /H of R18) and its reset value. -/
structure Fld where
  off : Nat
  hi : Nat
  lo : Nat
  acc : Access
  host : Bool
  reset : Nat
  deriving DecidableEq, Repr

/-- The same field in element i of an array of registers that lie stride bytes apart. -/
def Fld.at (f : Fld) (stride i : Nat) : Fld := { f with off := f.off + stride * i }

/-- A row of a register map: the field, how many registers carry it and their distance. -/
structure RegRow where
  fld : Fld
  count : Nat
  stride : Nat
  deriving DecidableEq, Repr

/-! ### GLOBAL: R457 -/

def Reg.GLOBAL.IDENT_PART : Fld := ⟨0x0000000, 31, 0, .ro, false, 0x9208⟩
def Reg.GLOBAL.IDENT_STEPPING : Fld := ⟨0x0000000, 39, 32, .ro, false, 0⟩
def Reg.GLOBAL.SERIAL_SERIAL : Fld := ⟨0x0000008, 63, 0, .ro, false, 0⟩
def Reg.GLOBAL.STATUS_READY : Fld := ⟨0x0000010, 0, 0, .ro, false, 0⟩
def Reg.GLOBAL.STATUS_HOST_WRITE_DROPPED : Fld := ⟨0x0000010, 1, 1, .rw1c, true, 0⟩
def Reg.GLOBAL.STATUS_SECOND_MASTER : Fld := ⟨0x0000010, 2, 2, .rw1c, true, 0⟩
def Reg.GLOBAL.STATUS_HDM_DENIED : Fld := ⟨0x0000010, 3, 3, .rw1c, true, 0⟩
def Reg.GLOBAL.STATUS_LINK_RETRAINED : Fld := ⟨0x0000010, 4, 4, .rw1c, true, 0⟩
def Reg.GLOBAL.LINK_MODE : Fld := ⟨0x0000018, 3, 0, .ro, false, 0⟩
def Reg.GLOBAL.LINK_WIDTH : Fld := ⟨0x0000018, 12, 8, .ro, false, 0⟩
def Reg.GLOBAL.LINK_CXL_MEM : Fld := ⟨0x0000018, 16, 16, .ro, false, 0⟩
def Reg.GLOBAL.DROPPED_WRITE_OFFSET : Fld := ⟨0x0000020, 24, 0, .ro, false, 0⟩
def Reg.GLOBAL.MSIX_CTRL_HOLDOFF_US : Fld := ⟨0x0000028, 15, 0, .rw, true, 0xA⟩
def Reg.GLOBAL.RESET_KEY : Fld := ⟨0x0000030, 15, 0, .wo, true, 0⟩
def Reg.GLOBAL.RESET_PARTITIONS : Fld := ⟨0x0000030, 23, 16, .wo, true, 0⟩
def Reg.GLOBAL.RESET_MODULE : Fld := ⟨0x0000030, 24, 24, .wo, true, 0⟩
def Reg.GLOBAL.HOST_WRITES_DROPPED_COUNT : Fld := ⟨0x0000038, 63, 0, .rsat, false, 0⟩
def Reg.GLOBAL.HDM_DENIED_READS_COUNT : Fld := ⟨0x0000040, 63, 0, .rsat, false, 0⟩
def Reg.GLOBAL.LINK_RETRAINS_COUNT : Fld := ⟨0x0000048, 63, 0, .rsat, false, 0⟩
def Reg.GLOBAL.FLRS_COUNT : Fld := ⟨0x0000050, 63, 0, .rsat, false, 0⟩

/-- The rows of the GLOBAL register map. -/
def Reg.GLOBAL.rows : List RegRow := [
  ⟨Reg.GLOBAL.IDENT_PART, 1, 8⟩,
  ⟨Reg.GLOBAL.IDENT_STEPPING, 1, 8⟩,
  ⟨Reg.GLOBAL.SERIAL_SERIAL, 1, 8⟩,
  ⟨Reg.GLOBAL.STATUS_READY, 1, 8⟩,
  ⟨Reg.GLOBAL.STATUS_HOST_WRITE_DROPPED, 1, 8⟩,
  ⟨Reg.GLOBAL.STATUS_SECOND_MASTER, 1, 8⟩,
  ⟨Reg.GLOBAL.STATUS_HDM_DENIED, 1, 8⟩,
  ⟨Reg.GLOBAL.STATUS_LINK_RETRAINED, 1, 8⟩,
  ⟨Reg.GLOBAL.LINK_MODE, 1, 8⟩,
  ⟨Reg.GLOBAL.LINK_WIDTH, 1, 8⟩,
  ⟨Reg.GLOBAL.LINK_CXL_MEM, 1, 8⟩,
  ⟨Reg.GLOBAL.DROPPED_WRITE_OFFSET, 1, 8⟩,
  ⟨Reg.GLOBAL.MSIX_CTRL_HOLDOFF_US, 1, 8⟩,
  ⟨Reg.GLOBAL.RESET_KEY, 1, 8⟩,
  ⟨Reg.GLOBAL.RESET_PARTITIONS, 1, 8⟩,
  ⟨Reg.GLOBAL.RESET_MODULE, 1, 8⟩,
  ⟨Reg.GLOBAL.HOST_WRITES_DROPPED_COUNT, 1, 8⟩,
  ⟨Reg.GLOBAL.HDM_DENIED_READS_COUNT, 1, 8⟩,
  ⟨Reg.GLOBAL.LINK_RETRAINS_COUNT, 1, 8⟩,
  ⟨Reg.GLOBAL.FLRS_COUNT, 1, 8⟩]

/-! ### MBOX: R456 -/

def Reg.MBOX.OWN_OWNER : Fld := ⟨0x0180000, 0, 0, .rw, true, 0⟩
def Reg.MBOX.OWN_RUNNING : Fld := ⟨0x0180000, 1, 1, .ro, false, 0⟩
def Reg.MBOX.OWN_SEQ : Fld := ⟨0x0180000, 63, 32, .ro, false, 0⟩
def Reg.MBOX.TIMEOUT_HOST_READ_US : Fld := ⟨0x0180200, 31, 0, .rw, true, 0x64⟩
def Reg.MBOX.TIMEOUT_RETRIES : Fld := ⟨0x0180200, 35, 32, .rw, true, 3⟩
def Reg.MBOX.TIMEOUT_EXEC_S : Fld := ⟨0x0180200, 63, 48, .rw, true, 0x258⟩
def Reg.MBOX.STATUS_DOUBLE_GO : Fld := ⟨0x0180208, 0, 0, .rw1c, true, 0⟩
def Reg.MBOX.STATUS_SLOT_WRITE_DROPPED : Fld := ⟨0x0180208, 1, 1, .rw1c, true, 0⟩
def Reg.MBOX.STATUS_EXEC_TIMEOUT : Fld := ⟨0x0180208, 2, 2, .rw1c, true, 0⟩
def Reg.MBOX.OWNERS_OWNER : Fld := ⟨0x0180210, 63, 0, .ro, false, 0⟩
def Reg.MBOX.DONE_MASK_DONE : Fld := ⟨0x0180218, 63, 0, .rw1c, true, 0⟩
def Reg.MBOX.COMMANDS_COUNT : Fld := ⟨0x0180220, 63, 0, .rsat, false, 0⟩
def Reg.MBOX.BAD_FIELDS_COUNT : Fld := ⟨0x0180228, 63, 0, .rsat, false, 0⟩
def Reg.MBOX.TIMEOUTS_COUNT : Fld := ⟨0x0180230, 63, 0, .rsat, false, 0⟩
def Reg.MBOX.DOUBLE_GOS_COUNT : Fld := ⟨0x0180238, 63, 0, .rsat, false, 0⟩
def Reg.MBOX.SLOT_WRITES_DROPPED_COUNT : Fld := ⟨0x0180240, 63, 0, .rsat, false, 0⟩

/-- The rows of the MBOX register map. -/
def Reg.MBOX.rows : List RegRow := [
  ⟨Reg.MBOX.OWN_OWNER, 64, 8⟩,
  ⟨Reg.MBOX.OWN_RUNNING, 64, 8⟩,
  ⟨Reg.MBOX.OWN_SEQ, 64, 8⟩,
  ⟨Reg.MBOX.TIMEOUT_HOST_READ_US, 1, 8⟩,
  ⟨Reg.MBOX.TIMEOUT_RETRIES, 1, 8⟩,
  ⟨Reg.MBOX.TIMEOUT_EXEC_S, 1, 8⟩,
  ⟨Reg.MBOX.STATUS_DOUBLE_GO, 1, 8⟩,
  ⟨Reg.MBOX.STATUS_SLOT_WRITE_DROPPED, 1, 8⟩,
  ⟨Reg.MBOX.STATUS_EXEC_TIMEOUT, 1, 8⟩,
  ⟨Reg.MBOX.OWNERS_OWNER, 1, 8⟩,
  ⟨Reg.MBOX.DONE_MASK_DONE, 1, 8⟩,
  ⟨Reg.MBOX.COMMANDS_COUNT, 1, 8⟩,
  ⟨Reg.MBOX.BAD_FIELDS_COUNT, 1, 8⟩,
  ⟨Reg.MBOX.TIMEOUTS_COUNT, 1, 8⟩,
  ⟨Reg.MBOX.DOUBLE_GOS_COUNT, 1, 8⟩,
  ⟨Reg.MBOX.SLOT_WRITES_DROPPED_COUNT, 1, 8⟩]

/-! ### CAPS: R74 -/

def Reg.CAPS.TABLE_BASE_BASE : Fld := ⟨0x0200000, 39, 0, .rw, false, 0⟩
def Reg.CAPS.LIST_POOL_BASE_BASE : Fld := ⟨0x0200008, 39, 0, .rw, false, 0⟩
def Reg.CAPS.LIST_POOL_SIZE_BLOCKS : Fld := ⟨0x0200010, 31, 0, .rw, false, 0⟩
def Reg.CAPS.SHARE_TABLE_BASE_BASE : Fld := ⟨0x0200018, 39, 0, .rw, false, 0⟩
def Reg.CAPS.LIVE_COUNT_COUNT : Fld := ⟨0x0200020, 24, 0, .ro, false, 0⟩
def Reg.CAPS.RETIRED_COUNT_COUNT : Fld := ⟨0x0200028, 24, 0, .ro, false, 0⟩
def Reg.CAPS.FREE_OWN_COUNT : Fld := ⟨0x0200030, 23, 0, .ro, false, 0⟩
def Reg.CAPS.SWEEP_CTRL_INTERVAL : Fld := ⟨0x0200038, 31, 0, .rw, true, 0xE10⟩
def Reg.CAPS.SWEEP_CTRL_QUARANTINE_MIN : Fld := ⟨0x0200038, 47, 32, .rw, true, 0x3C⟩
def Reg.CAPS.SWEEP_STATUS_RUNNING : Fld := ⟨0x0200040, 0, 0, .ro, false, 0⟩
def Reg.CAPS.SWEEP_STATUS_DONE : Fld := ⟨0x0200040, 1, 1, .rw1c, true, 0⟩
def Reg.CAPS.SWEEP_STATUS_SWEEPS : Fld := ⟨0x0200040, 63, 32, .ro, false, 0⟩
def Reg.CAPS.CACHE_HITS_COUNT : Fld := ⟨0x0200048, 63, 0, .rsat, false, 0⟩
def Reg.CAPS.CACHE_MISSES_COUNT : Fld := ⟨0x0200050, 63, 0, .rsat, false, 0⟩
def Reg.CAPS.CHECK_FAILS_COUNT : Fld := ⟨0x0200058, 63, 0, .rsat, false, 0⟩
def Reg.CAPS.DAMAGED_COUNT_COUNT : Fld := ⟨0x0200060, 24, 0, .ro, false, 0⟩
def Reg.CAPS.COW_COPIES_COUNT : Fld := ⟨0x0200068, 63, 0, .rsat, false, 0⟩
def Reg.CAPS.SHARE_USED_COUNT : Fld := ⟨0x0200070, 22, 0, .ro, false, 0⟩
def Reg.CAPS.LAST_DAMAGE_FRAME : Fld := ⟨0x0200078, 31, 0, .ro, false, 0⟩
def Reg.CAPS.LAST_DAMAGE_BLOCK : Fld := ⟨0x0200078, 36, 32, .ro, false, 0⟩
def Reg.CAPS.LAST_DAMAGE_SLOT : Fld := ⟨0x0200078, 63, 40, .ro, false, 0⟩

/-- The rows of the CAPS register map. -/
def Reg.CAPS.rows : List RegRow := [
  ⟨Reg.CAPS.TABLE_BASE_BASE, 1, 8⟩,
  ⟨Reg.CAPS.LIST_POOL_BASE_BASE, 1, 8⟩,
  ⟨Reg.CAPS.LIST_POOL_SIZE_BLOCKS, 1, 8⟩,
  ⟨Reg.CAPS.SHARE_TABLE_BASE_BASE, 1, 8⟩,
  ⟨Reg.CAPS.LIVE_COUNT_COUNT, 1, 8⟩,
  ⟨Reg.CAPS.RETIRED_COUNT_COUNT, 1, 8⟩,
  ⟨Reg.CAPS.FREE_OWN_COUNT, 1, 8⟩,
  ⟨Reg.CAPS.SWEEP_CTRL_INTERVAL, 1, 8⟩,
  ⟨Reg.CAPS.SWEEP_CTRL_QUARANTINE_MIN, 1, 8⟩,
  ⟨Reg.CAPS.SWEEP_STATUS_RUNNING, 1, 8⟩,
  ⟨Reg.CAPS.SWEEP_STATUS_DONE, 1, 8⟩,
  ⟨Reg.CAPS.SWEEP_STATUS_SWEEPS, 1, 8⟩,
  ⟨Reg.CAPS.CACHE_HITS_COUNT, 1, 8⟩,
  ⟨Reg.CAPS.CACHE_MISSES_COUNT, 1, 8⟩,
  ⟨Reg.CAPS.CHECK_FAILS_COUNT, 1, 8⟩,
  ⟨Reg.CAPS.DAMAGED_COUNT_COUNT, 1, 8⟩,
  ⟨Reg.CAPS.COW_COPIES_COUNT, 1, 8⟩,
  ⟨Reg.CAPS.SHARE_USED_COUNT, 1, 8⟩,
  ⟨Reg.CAPS.LAST_DAMAGE_FRAME, 1, 8⟩,
  ⟨Reg.CAPS.LAST_DAMAGE_BLOCK, 1, 8⟩,
  ⟨Reg.CAPS.LAST_DAMAGE_SLOT, 1, 8⟩]

/-! ### SLIDE: R105 -/

def Reg.SLIDE.PF_DEADLINE_BASE_NS : Fld := ⟨0x0300000, 31, 0, .rw, true, 0x186A0⟩
def Reg.SLIDE.PF_DEADLINE_LAYER_NS : Fld := ⟨0x0300000, 63, 32, .rw, true, 0xF4240⟩
def Reg.SLIDE.PF_WINDOW_LOOKAHEAD_NS : Fld := ⟨0x0300008, 31, 0, .rw, true, 0x1E8480⟩
def Reg.SLIDE.MISS_CTRL_STALL_WARN_NS : Fld := ⟨0x0300010, 31, 0, .rw, true, 0x989680⟩
def Reg.SLIDE.HBM_POOL_FRAMES : Fld := ⟨0x0300018, 23, 0, .rw, false, 0⟩
def Reg.SLIDE.LPDDR_POOL_FRAMES : Fld := ⟨0x0300020, 23, 0, .rw, false, 0⟩
def Reg.SLIDE.HBM_WATER_FREE_LOW : Fld := ⟨0x0300028, 23, 0, .rw, true, 0x2000⟩
def Reg.SLIDE.HBM_WATER_FREE_TARGET : Fld := ⟨0x0300028, 55, 32, .rw, true, 0x8000⟩
def Reg.SLIDE.HOST_WATER_FREE_LOW : Fld := ⟨0x0300030, 29, 0, .rw, true, 0x2000⟩
def Reg.SLIDE.HOST_WATER_FREE_TARGET : Fld := ⟨0x0300030, 61, 32, .rw, true, 0x8000⟩
def Reg.SLIDE.HOST_CTRL_TIMEOUT_NS : Fld := ⟨0x0300038, 31, 0, .rw, true, 0x186A0⟩
def Reg.SLIDE.HOST_CTRL_RETRIES : Fld := ⟨0x0300038, 35, 32, .rw, true, 3⟩
def Reg.SLIDE.HBM_FREE_FRAMES : Fld := ⟨0x0300040, 23, 0, .ro, false, 0⟩
def Reg.SLIDE.LPDDR_FREE_FRAMES : Fld := ⟨0x0300048, 23, 0, .ro, false, 0⟩
def Reg.SLIDE.HOST_FREE_FRAMES : Fld := ⟨0x0300050, 29, 0, .ro, false, 0⟩
def Reg.SLIDE.STATUS_FLASH_DEMOTE_OFF : Fld := ⟨0x0300058, 0, 0, .ro, false, 0⟩
def Reg.SLIDE.STATUS_HOST_REGION : Fld := ⟨0x0300058, 1, 1, .ro, false, 0⟩
def Reg.SLIDE.STATUS_RELIEVING : Fld := ⟨0x0300058, 2, 2, .ro, false, 0⟩
def Reg.SLIDE.STATUS_STALL_WARN : Fld := ⟨0x0300058, 3, 3, .rw1c, true, 0⟩
def Reg.SLIDE.REVIVE_CTRL_ENABLE : Fld := ⟨0x0300060, 0, 0, .rw, true, 1⟩
def Reg.SLIDE.REVIVE_CTRL_LAYERS : Fld := ⟨0x0300060, 14, 8, .rw, true, 0x7F⟩
def Reg.SLIDE.MISS_DROP_COUNT : Fld := ⟨0x0300068, 63, 0, .rsat, false, 0⟩
def Reg.SLIDE.MISS_STALL_COUNT : Fld := ⟨0x0300070, 63, 0, .rsat, false, 0⟩
def Reg.SLIDE.STALL_NS_COUNT : Fld := ⟨0x0300078, 63, 0, .rsat, false, 0⟩
def Reg.SLIDE.MISS_CAUSE_COUNT : Fld := ⟨0x0300080, 63, 0, .rsat, false, 0⟩
def Reg.SLIDE.PREEMPTIONS_COUNT : Fld := ⟨0x03000B0, 63, 0, .rsat, false, 0⟩
def Reg.SLIDE.SWAP_HOST_FRAMES_COUNT : Fld := ⟨0x03000B8, 63, 0, .rsat, false, 0⟩
def Reg.SLIDE.SWAP_FLASH_FRAMES_COUNT : Fld := ⟨0x03000C0, 63, 0, .rsat, false, 0⟩
def Reg.SLIDE.TILES_MOVED_COUNT : Fld := ⟨0x03000C8, 63, 0, .rsat, false, 0⟩
def Reg.SLIDE.REVIVES_COUNT : Fld := ⟨0x03000D0, 63, 0, .rsat, false, 0⟩
def Reg.SLIDE.HBM_QUOTA_FRAMES : Fld := ⟨0x0300100, 23, 0, .rw, false, 0⟩
def Reg.SLIDE.HBM_USED_FRAMES : Fld := ⟨0x0300140, 23, 0, .ro, false, 0⟩

/-- The rows of the SLIDE register map. -/
def Reg.SLIDE.rows : List RegRow := [
  ⟨Reg.SLIDE.PF_DEADLINE_BASE_NS, 1, 8⟩,
  ⟨Reg.SLIDE.PF_DEADLINE_LAYER_NS, 1, 8⟩,
  ⟨Reg.SLIDE.PF_WINDOW_LOOKAHEAD_NS, 1, 8⟩,
  ⟨Reg.SLIDE.MISS_CTRL_STALL_WARN_NS, 1, 8⟩,
  ⟨Reg.SLIDE.HBM_POOL_FRAMES, 1, 8⟩,
  ⟨Reg.SLIDE.LPDDR_POOL_FRAMES, 1, 8⟩,
  ⟨Reg.SLIDE.HBM_WATER_FREE_LOW, 1, 8⟩,
  ⟨Reg.SLIDE.HBM_WATER_FREE_TARGET, 1, 8⟩,
  ⟨Reg.SLIDE.HOST_WATER_FREE_LOW, 1, 8⟩,
  ⟨Reg.SLIDE.HOST_WATER_FREE_TARGET, 1, 8⟩,
  ⟨Reg.SLIDE.HOST_CTRL_TIMEOUT_NS, 1, 8⟩,
  ⟨Reg.SLIDE.HOST_CTRL_RETRIES, 1, 8⟩,
  ⟨Reg.SLIDE.HBM_FREE_FRAMES, 1, 8⟩,
  ⟨Reg.SLIDE.LPDDR_FREE_FRAMES, 1, 8⟩,
  ⟨Reg.SLIDE.HOST_FREE_FRAMES, 1, 8⟩,
  ⟨Reg.SLIDE.STATUS_FLASH_DEMOTE_OFF, 1, 8⟩,
  ⟨Reg.SLIDE.STATUS_HOST_REGION, 1, 8⟩,
  ⟨Reg.SLIDE.STATUS_RELIEVING, 1, 8⟩,
  ⟨Reg.SLIDE.STATUS_STALL_WARN, 1, 8⟩,
  ⟨Reg.SLIDE.REVIVE_CTRL_ENABLE, 1, 8⟩,
  ⟨Reg.SLIDE.REVIVE_CTRL_LAYERS, 1, 8⟩,
  ⟨Reg.SLIDE.MISS_DROP_COUNT, 1, 8⟩,
  ⟨Reg.SLIDE.MISS_STALL_COUNT, 1, 8⟩,
  ⟨Reg.SLIDE.STALL_NS_COUNT, 1, 8⟩,
  ⟨Reg.SLIDE.MISS_CAUSE_COUNT, 6, 8⟩,
  ⟨Reg.SLIDE.PREEMPTIONS_COUNT, 1, 8⟩,
  ⟨Reg.SLIDE.SWAP_HOST_FRAMES_COUNT, 1, 8⟩,
  ⟨Reg.SLIDE.SWAP_FLASH_FRAMES_COUNT, 1, 8⟩,
  ⟨Reg.SLIDE.TILES_MOVED_COUNT, 1, 8⟩,
  ⟨Reg.SLIDE.REVIVES_COUNT, 1, 8⟩,
  ⟨Reg.SLIDE.HBM_QUOTA_FRAMES, 8, 8⟩,
  ⟨Reg.SLIDE.HBM_USED_FRAMES, 8, 8⟩]

/-! ### ATTN: R133 -/

def Reg.ATTN.BATCH_CTRL_WAIT_NS : Fld := ⟨0x0400000, 31, 0, .rw, true, 0x4E20⟩
def Reg.ATTN.QUERY_CTRL_WAIT_NS : Fld := ⟨0x0400008, 31, 0, .rw, true, 0x1E8480⟩
def Reg.ATTN.PROG_CTRL_SLICE_NS : Fld := ⟨0x0400010, 31, 0, .rw, true, 0xC350⟩
def Reg.ATTN.STATUS_QUERY_TIMEOUT : Fld := ⟨0x0400018, 0, 0, .rw1c, true, 0⟩
def Reg.ATTN.STATUS_PROG_FAULT : Fld := ⟨0x0400018, 1, 1, .rw1c, true, 0⟩
def Reg.ATTN.STATUS_ORPHAN : Fld := ⟨0x0400018, 2, 2, .rw1c, true, 0⟩
def Reg.ATTN.MODELS_REGISTERED : Fld := ⟨0x0400020, 63, 0, .ro, false, 0⟩
def Reg.ATTN.FUSED_DONE_COUNT : Fld := ⟨0x0400028, 63, 0, .rsat, false, 0⟩
def Reg.ATTN.FUSED_FAILED_COUNT : Fld := ⟨0x0400030, 63, 0, .rsat, false, 0⟩
def Reg.ATTN.TILES_USED_COUNT : Fld := ⟨0x0400038, 63, 0, .rsat, false, 0⟩
def Reg.ATTN.TILES_SKIPPED_COUNT : Fld := ⟨0x0400040, 63, 0, .rsat, false, 0⟩
def Reg.ATTN.TILES_DISCARDED_COUNT : Fld := ⟨0x0400048, 63, 0, .rsat, false, 0⟩
def Reg.ATTN.TILES_REREAD_COUNT : Fld := ⟨0x0400050, 63, 0, .rsat, false, 0⟩
def Reg.ATTN.ARRAY_WAVES_COUNT : Fld := ⟨0x0400058, 63, 0, .rsat, false, 0⟩
def Reg.ATTN.UPPROJ_BYTES_COUNT : Fld := ⟨0x0400060, 63, 0, .rsat, false, 0⟩
def Reg.ATTN.QUERY_TIMEOUTS_COUNT : Fld := ⟨0x0400068, 63, 0, .rsat, false, 0⟩
def Reg.ATTN.ORPHAN_QUERIES_COUNT : Fld := ⟨0x0400070, 63, 0, .rsat, false, 0⟩
def Reg.ATTN.CANCELLED_COUNT : Fld := ⟨0x0400078, 63, 0, .rsat, false, 0⟩
def Reg.ATTN.PROG_FAULTS_COUNT : Fld := ⟨0x0400080, 63, 0, .rsat, false, 0⟩
def Reg.ATTN.NEWSLOT_BASE_BASE : Fld := ⟨0x0400088, 39, 0, .rw, false, 0⟩
def Reg.ATTN.CORE_STATE_MODE : Fld := ⟨0x0400100, 1, 0, .rw, false, 0⟩
def Reg.ATTN.CORE_STATE_PARTITION : Fld := ⟨0x0400100, 6, 4, .ro, false, 0⟩
def Reg.ATTN.CORE_STATE_FUSED_QUEUED : Fld := ⟨0x0400100, 15, 8, .ro, false, 0⟩
def Reg.ATTN.CORE_STATE_PROG_QUEUED : Fld := ⟨0x0400100, 20, 16, .ro, false, 0⟩
def Reg.ATTN.CORE_STATE_WALKS : Fld := ⟨0x0400100, 27, 24, .ro, false, 0⟩
def Reg.ATTN.CORE_STATE_PROGRAM : Fld := ⟨0x0400100, 41, 32, .ro, false, 0⟩
def Reg.ATTN.CORE_STATE_PROG_RUN : Fld := ⟨0x0400100, 42, 42, .ro, false, 0⟩
def Reg.ATTN.CORE_STATE_FAULT : Fld := ⟨0x0400100, 55, 48, .ro, false, 0⟩

/-- The rows of the ATTN register map. -/
def Reg.ATTN.rows : List RegRow := [
  ⟨Reg.ATTN.BATCH_CTRL_WAIT_NS, 1, 8⟩,
  ⟨Reg.ATTN.QUERY_CTRL_WAIT_NS, 1, 8⟩,
  ⟨Reg.ATTN.PROG_CTRL_SLICE_NS, 1, 8⟩,
  ⟨Reg.ATTN.STATUS_QUERY_TIMEOUT, 1, 8⟩,
  ⟨Reg.ATTN.STATUS_PROG_FAULT, 1, 8⟩,
  ⟨Reg.ATTN.STATUS_ORPHAN, 1, 8⟩,
  ⟨Reg.ATTN.MODELS_REGISTERED, 1, 8⟩,
  ⟨Reg.ATTN.FUSED_DONE_COUNT, 1, 8⟩,
  ⟨Reg.ATTN.FUSED_FAILED_COUNT, 1, 8⟩,
  ⟨Reg.ATTN.TILES_USED_COUNT, 1, 8⟩,
  ⟨Reg.ATTN.TILES_SKIPPED_COUNT, 1, 8⟩,
  ⟨Reg.ATTN.TILES_DISCARDED_COUNT, 1, 8⟩,
  ⟨Reg.ATTN.TILES_REREAD_COUNT, 1, 8⟩,
  ⟨Reg.ATTN.ARRAY_WAVES_COUNT, 1, 8⟩,
  ⟨Reg.ATTN.UPPROJ_BYTES_COUNT, 1, 8⟩,
  ⟨Reg.ATTN.QUERY_TIMEOUTS_COUNT, 1, 8⟩,
  ⟨Reg.ATTN.ORPHAN_QUERIES_COUNT, 1, 8⟩,
  ⟨Reg.ATTN.CANCELLED_COUNT, 1, 8⟩,
  ⟨Reg.ATTN.PROG_FAULTS_COUNT, 1, 8⟩,
  ⟨Reg.ATTN.NEWSLOT_BASE_BASE, 1, 8⟩,
  ⟨Reg.ATTN.CORE_STATE_MODE, 64, 8⟩,
  ⟨Reg.ATTN.CORE_STATE_PARTITION, 64, 8⟩,
  ⟨Reg.ATTN.CORE_STATE_FUSED_QUEUED, 64, 8⟩,
  ⟨Reg.ATTN.CORE_STATE_PROG_QUEUED, 64, 8⟩,
  ⟨Reg.ATTN.CORE_STATE_WALKS, 64, 8⟩,
  ⟨Reg.ATTN.CORE_STATE_PROGRAM, 64, 8⟩,
  ⟨Reg.ATTN.CORE_STATE_PROG_RUN, 64, 8⟩,
  ⟨Reg.ATTN.CORE_STATE_FAULT, 64, 8⟩]

/-! ### STEP: R184 -/

def Reg.STEP.CTRL_STEP_MAX : Fld := ⟨0x0500000, 10, 0, .rw, true, 0x400⟩
def Reg.STEP.CTRL_INGEST_MAX : Fld := ⟨0x0500000, 28, 16, .rw, true, 0x200⟩
def Reg.STEP.CTRL_STEP_TOKENS : Fld := ⟨0x0500000, 63, 32, .rw, true, 0x10000⟩
def Reg.STEP.ORDER_URGENT_NS : Fld := ⟨0x0500008, 31, 0, .rw, true, 0x4C4B40⟩
def Reg.STEP.ORDER_AGE_STEPS : Fld := ⟨0x0500008, 47, 32, .rw, true, 0x40⟩
def Reg.STEP.INPUT_POOL_BASE_BASE : Fld := ⟨0x0500010, 39, 0, .rw, false, 0⟩
def Reg.STEP.INPUT_POOL_SIZE_BLOCKS : Fld := ⟨0x0500018, 31, 0, .rw, false, 0⟩
def Reg.STEP.ENTRIES_USED_COUNT : Fld := ⟨0x0500020, 18, 0, .ro, false, 0⟩
def Reg.STEP.READY_COUNT_COUNT : Fld := ⟨0x0500028, 18, 0, .ro, false, 0⟩
def Reg.STEP.STATUS_NO_POOL : Fld := ⟨0x0500030, 7, 0, .ro, false, 0xFF⟩
def Reg.STEP.STATUS_RING_FULL : Fld := ⟨0x0500030, 15, 8, .ro, false, 0⟩
def Reg.STEP.STATUS_HOST_FORMED : Fld := ⟨0x0500030, 23, 16, .ro, false, 0⟩
def Reg.STEP.STATUS_NO_CORE : Fld := ⟨0x0500030, 31, 24, .ro, false, 0xFF⟩
def Reg.STEP.ADMITTED_COUNT : Fld := ⟨0x0500038, 63, 0, .rsat, false, 0⟩
def Reg.STEP.ADMIT_BUSY_COUNT : Fld := ⟨0x0500040, 63, 0, .rsat, false, 0⟩
def Reg.STEP.ADMIT_REFUSED_COUNT : Fld := ⟨0x0500048, 63, 0, .rsat, false, 0⟩
def Reg.STEP.STEPS_BUILT_COUNT : Fld := ⟨0x0500050, 63, 0, .rsat, false, 0⟩
def Reg.STEP.SEQS_STEPPED_COUNT : Fld := ⟨0x0500058, 63, 0, .rsat, false, 0⟩
def Reg.STEP.DROPS_COUNT : Fld := ⟨0x0500060, 63, 0, .rsat, false, 0⟩
def Reg.STEP.BUDGET_SKIPS_COUNT : Fld := ⟨0x0500068, 63, 0, .rsat, false, 0⟩
def Reg.STEP.DEADLINE_LATE_COUNT : Fld := ⟨0x0500070, 63, 0, .rsat, false, 0⟩
def Reg.STEP.OUTPUT_RECORDS_COUNT : Fld := ⟨0x0500078, 63, 0, .rsat, false, 0⟩
def Reg.STEP.SPILL_BASE_BASE : Fld := ⟨0x0500080, 39, 0, .rw, false, 0⟩
def Reg.STEP.ENTRY_QUOTA_ENTRIES : Fld := ⟨0x0500100, 18, 0, .rw, false, 0⟩
def Reg.STEP.ENTRY_USED_ENTRIES : Fld := ⟨0x0500140, 18, 0, .ro, false, 0⟩
def Reg.STEP.STEP_NUM_BUILT : Fld := ⟨0x0500180, 31, 0, .ro, false, 0⟩
def Reg.STEP.STEP_NUM_COMMITTED : Fld := ⟨0x0500180, 63, 32, .ro, false, 0⟩
def Reg.STEP.POOL_ENDPOINT : Fld := ⟨0x05001C0, 31, 0, .ro, false, 0⟩
def Reg.STEP.POOL_BOUND : Fld := ⟨0x05001C0, 32, 32, .ro, false, 0⟩
def Reg.STEP.RING_HEAD_OFFSET : Fld := ⟨0x0500200, 29, 0, .ro, false, 0⟩
def Reg.STEP.RING_TAIL_OFFSET : Fld := ⟨0x0500240, 29, 0, .rw, true, 0⟩

/-- The rows of the STEP register map. -/
def Reg.STEP.rows : List RegRow := [
  ⟨Reg.STEP.CTRL_STEP_MAX, 1, 8⟩,
  ⟨Reg.STEP.CTRL_INGEST_MAX, 1, 8⟩,
  ⟨Reg.STEP.CTRL_STEP_TOKENS, 1, 8⟩,
  ⟨Reg.STEP.ORDER_URGENT_NS, 1, 8⟩,
  ⟨Reg.STEP.ORDER_AGE_STEPS, 1, 8⟩,
  ⟨Reg.STEP.INPUT_POOL_BASE_BASE, 1, 8⟩,
  ⟨Reg.STEP.INPUT_POOL_SIZE_BLOCKS, 1, 8⟩,
  ⟨Reg.STEP.ENTRIES_USED_COUNT, 1, 8⟩,
  ⟨Reg.STEP.READY_COUNT_COUNT, 1, 8⟩,
  ⟨Reg.STEP.STATUS_NO_POOL, 1, 8⟩,
  ⟨Reg.STEP.STATUS_RING_FULL, 1, 8⟩,
  ⟨Reg.STEP.STATUS_HOST_FORMED, 1, 8⟩,
  ⟨Reg.STEP.STATUS_NO_CORE, 1, 8⟩,
  ⟨Reg.STEP.ADMITTED_COUNT, 1, 8⟩,
  ⟨Reg.STEP.ADMIT_BUSY_COUNT, 1, 8⟩,
  ⟨Reg.STEP.ADMIT_REFUSED_COUNT, 1, 8⟩,
  ⟨Reg.STEP.STEPS_BUILT_COUNT, 1, 8⟩,
  ⟨Reg.STEP.SEQS_STEPPED_COUNT, 1, 8⟩,
  ⟨Reg.STEP.DROPS_COUNT, 1, 8⟩,
  ⟨Reg.STEP.BUDGET_SKIPS_COUNT, 1, 8⟩,
  ⟨Reg.STEP.DEADLINE_LATE_COUNT, 1, 8⟩,
  ⟨Reg.STEP.OUTPUT_RECORDS_COUNT, 1, 8⟩,
  ⟨Reg.STEP.SPILL_BASE_BASE, 1, 8⟩,
  ⟨Reg.STEP.ENTRY_QUOTA_ENTRIES, 8, 8⟩,
  ⟨Reg.STEP.ENTRY_USED_ENTRIES, 8, 8⟩,
  ⟨Reg.STEP.STEP_NUM_BUILT, 8, 8⟩,
  ⟨Reg.STEP.STEP_NUM_COMMITTED, 8, 8⟩,
  ⟨Reg.STEP.POOL_ENDPOINT, 8, 8⟩,
  ⟨Reg.STEP.POOL_BOUND, 8, 8⟩,
  ⟨Reg.STEP.RING_HEAD_OFFSET, 8, 8⟩,
  ⟨Reg.STEP.RING_TAIL_OFFSET, 8, 8⟩]

/-! ### BUDGET: R220 -/

def Reg.BUDGET.PREFIX_TABLE_BASE_BASE : Fld := ⟨0x0600000, 39, 0, .rw, false, 0⟩
def Reg.BUDGET.SPEC_BASE_BASE : Fld := ⟨0x0600008, 39, 0, .rw, false, 0⟩
def Reg.BUDGET.ACCOUNTS_OPEN_COUNT : Fld := ⟨0x0600010, 16, 0, .ro, false, 0⟩
def Reg.BUDGET.PREFIXES_COUNT : Fld := ⟨0x0600018, 16, 0, .ro, false, 0⟩
def Reg.BUDGET.ADAPTERS_COUNT : Fld := ⟨0x0600020, 12, 0, .ro, false, 0⟩
def Reg.BUDGET.STATUS_SPEC_ON : Fld := ⟨0x0600028, 7, 0, .ro, false, 0⟩
def Reg.BUDGET.STATUS_PIN_BOUND : Fld := ⟨0x0600028, 15, 8, .ro, false, 0⟩
def Reg.BUDGET.STATUS_STRICT_ON : Fld := ⟨0x0600028, 23, 16, .ro, false, 0⟩
def Reg.BUDGET.STATUS_DEBT : Fld := ⟨0x0600028, 24, 24, .rw1c, true, 0⟩
def Reg.BUDGET.TOKENS_DEBITED_COUNT : Fld := ⟨0x0600030, 63, 0, .rsat, false, 0⟩
def Reg.BUDGET.DEBT_ENTRIES_COUNT : Fld := ⟨0x0600038, 63, 0, .rsat, false, 0⟩
def Reg.BUDGET.STRICT_PREEMPTS_COUNT : Fld := ⟨0x0600040, 63, 0, .rsat, false, 0⟩
def Reg.BUDGET.PREFIX_INSTALLS_COUNT : Fld := ⟨0x0600048, 63, 0, .rsat, false, 0⟩
def Reg.BUDGET.PINS_TAKEN_COUNT : Fld := ⟨0x0600050, 63, 0, .rsat, false, 0⟩
def Reg.BUDGET.VERSIONS_FREED_COUNT : Fld := ⟨0x0600058, 63, 0, .rsat, false, 0⟩
def Reg.BUDGET.TREES_USED_COUNT : Fld := ⟨0x0600060, 63, 0, .rsat, false, 0⟩
def Reg.BUDGET.TREES_MISSING_COUNT : Fld := ⟨0x0600068, 63, 0, .rsat, false, 0⟩
def Reg.BUDGET.TREES_INVALID_COUNT : Fld := ⟨0x0600070, 63, 0, .rsat, false, 0⟩
def Reg.BUDGET.NODES_DRAFTED_COUNT : Fld := ⟨0x0600078, 63, 0, .rsat, false, 0⟩
def Reg.BUDGET.NODES_ACCEPTED_COUNT : Fld := ⟨0x0600080, 63, 0, .rsat, false, 0⟩

/-- The rows of the BUDGET register map. -/
def Reg.BUDGET.rows : List RegRow := [
  ⟨Reg.BUDGET.PREFIX_TABLE_BASE_BASE, 1, 8⟩,
  ⟨Reg.BUDGET.SPEC_BASE_BASE, 1, 8⟩,
  ⟨Reg.BUDGET.ACCOUNTS_OPEN_COUNT, 1, 8⟩,
  ⟨Reg.BUDGET.PREFIXES_COUNT, 1, 8⟩,
  ⟨Reg.BUDGET.ADAPTERS_COUNT, 1, 8⟩,
  ⟨Reg.BUDGET.STATUS_SPEC_ON, 1, 8⟩,
  ⟨Reg.BUDGET.STATUS_PIN_BOUND, 1, 8⟩,
  ⟨Reg.BUDGET.STATUS_STRICT_ON, 1, 8⟩,
  ⟨Reg.BUDGET.STATUS_DEBT, 1, 8⟩,
  ⟨Reg.BUDGET.TOKENS_DEBITED_COUNT, 1, 8⟩,
  ⟨Reg.BUDGET.DEBT_ENTRIES_COUNT, 1, 8⟩,
  ⟨Reg.BUDGET.STRICT_PREEMPTS_COUNT, 1, 8⟩,
  ⟨Reg.BUDGET.PREFIX_INSTALLS_COUNT, 1, 8⟩,
  ⟨Reg.BUDGET.PINS_TAKEN_COUNT, 1, 8⟩,
  ⟨Reg.BUDGET.VERSIONS_FREED_COUNT, 1, 8⟩,
  ⟨Reg.BUDGET.TREES_USED_COUNT, 1, 8⟩,
  ⟨Reg.BUDGET.TREES_MISSING_COUNT, 1, 8⟩,
  ⟨Reg.BUDGET.TREES_INVALID_COUNT, 1, 8⟩,
  ⟨Reg.BUDGET.NODES_DRAFTED_COUNT, 1, 8⟩,
  ⟨Reg.BUDGET.NODES_ACCEPTED_COUNT, 1, 8⟩]

/-! ### MOUTH: R251 -/

def Reg.MOUTH.TEXT_BASE_BASE : Fld := ⟨0x0700000, 39, 0, .rw, false, 0⟩
def Reg.MOUTH.SAMPLE_BASE_BASE : Fld := ⟨0x0700008, 39, 0, .rw, false, 0⟩
def Reg.MOUTH.STOP_BASE_BASE : Fld := ⟨0x0700010, 39, 0, .rw, false, 0⟩
def Reg.MOUTH.TOKENIZERS_LOADED : Fld := ⟨0x0700018, 63, 0, .ro, false, 0⟩
def Reg.MOUTH.GRAMMARS_COUNT : Fld := ⟨0x0700020, 10, 0, .ro, false, 0⟩
def Reg.MOUTH.STATUS_VIOLATION : Fld := ⟨0x0700028, 0, 0, .rw1c, true, 0⟩
def Reg.MOUTH.STATUS_DEAD_END : Fld := ⟨0x0700028, 1, 1, .rw1c, true, 0⟩
def Reg.MOUTH.STATUS_INVALID : Fld := ⟨0x0700028, 2, 2, .rw1c, true, 0⟩
def Reg.MOUTH.BYTES_TOKENIZED_COUNT : Fld := ⟨0x0700030, 63, 0, .rsat, false, 0⟩
def Reg.MOUTH.TOKENS_PRODUCED_COUNT : Fld := ⟨0x0700038, 63, 0, .rsat, false, 0⟩
def Reg.MOUTH.INPUT_INVALID_COUNT : Fld := ⟨0x0700040, 63, 0, .rsat, false, 0⟩
def Reg.MOUTH.OUTPUT_INVALID_COUNT : Fld := ⟨0x0700048, 63, 0, .rsat, false, 0⟩
def Reg.MOUTH.CARRY_FLUSHES_COUNT : Fld := ⟨0x0700050, 63, 0, .rsat, false, 0⟩
def Reg.MOUTH.STOP_MATCHES_COUNT : Fld := ⟨0x0700058, 63, 0, .rsat, false, 0⟩
def Reg.MOUTH.END_TOKENS_COUNT : Fld := ⟨0x0700060, 63, 0, .rsat, false, 0⟩
def Reg.MOUTH.DEAD_ENDS_COUNT : Fld := ⟨0x0700068, 63, 0, .rsat, false, 0⟩
def Reg.MOUTH.VIOLATIONS_COUNT : Fld := ⟨0x0700070, 63, 0, .rsat, false, 0⟩
def Reg.MOUTH.TEXT_RELEASED_COUNT : Fld := ⟨0x0700078, 63, 0, .rsat, false, 0⟩
def Reg.MOUTH.STATE_HITS_COUNT : Fld := ⟨0x0700080, 63, 0, .rsat, false, 0⟩
def Reg.MOUTH.STATE_MISSES_COUNT : Fld := ⟨0x0700088, 63, 0, .rsat, false, 0⟩
def Reg.MOUTH.STOP_DEFAULT_SET : Fld := ⟨0x0700100, 15, 0, .rw, true, 0xFFFF⟩

/-- The rows of the MOUTH register map. -/
def Reg.MOUTH.rows : List RegRow := [
  ⟨Reg.MOUTH.TEXT_BASE_BASE, 1, 8⟩,
  ⟨Reg.MOUTH.SAMPLE_BASE_BASE, 1, 8⟩,
  ⟨Reg.MOUTH.STOP_BASE_BASE, 1, 8⟩,
  ⟨Reg.MOUTH.TOKENIZERS_LOADED, 1, 8⟩,
  ⟨Reg.MOUTH.GRAMMARS_COUNT, 1, 8⟩,
  ⟨Reg.MOUTH.STATUS_VIOLATION, 1, 8⟩,
  ⟨Reg.MOUTH.STATUS_DEAD_END, 1, 8⟩,
  ⟨Reg.MOUTH.STATUS_INVALID, 1, 8⟩,
  ⟨Reg.MOUTH.BYTES_TOKENIZED_COUNT, 1, 8⟩,
  ⟨Reg.MOUTH.TOKENS_PRODUCED_COUNT, 1, 8⟩,
  ⟨Reg.MOUTH.INPUT_INVALID_COUNT, 1, 8⟩,
  ⟨Reg.MOUTH.OUTPUT_INVALID_COUNT, 1, 8⟩,
  ⟨Reg.MOUTH.CARRY_FLUSHES_COUNT, 1, 8⟩,
  ⟨Reg.MOUTH.STOP_MATCHES_COUNT, 1, 8⟩,
  ⟨Reg.MOUTH.END_TOKENS_COUNT, 1, 8⟩,
  ⟨Reg.MOUTH.DEAD_ENDS_COUNT, 1, 8⟩,
  ⟨Reg.MOUTH.VIOLATIONS_COUNT, 1, 8⟩,
  ⟨Reg.MOUTH.TEXT_RELEASED_COUNT, 1, 8⟩,
  ⟨Reg.MOUTH.STATE_HITS_COUNT, 1, 8⟩,
  ⟨Reg.MOUTH.STATE_MISSES_COUNT, 1, 8⟩,
  ⟨Reg.MOUTH.STOP_DEFAULT_SET, 8, 8⟩]

/-! ### BORE: R286 -/

def Reg.BORE.POOL_BASE_BASE : Fld := ⟨0x0800000, 39, 0, .rw, false, 0⟩
def Reg.BORE.POOL_SIZE_BYTES : Fld := ⟨0x0800008, 39, 0, .rw, false, 0⟩
def Reg.BORE.QUERY_CTRL_MAX_HOPS : Fld := ⟨0x0800010, 10, 0, .rw, true, 0x100⟩
def Reg.BORE.QUERY_CTRL_BEAM : Fld := ⟨0x0800010, 19, 16, .rw, true, 4⟩
def Reg.BORE.REPAIR_CTRL_AUTO : Fld := ⟨0x0800018, 0, 0, .rw, true, 1⟩
def Reg.BORE.REPAIR_CTRL_TOMB_PCT : Fld := ⟨0x0800018, 15, 8, .rw, true, 5⟩
def Reg.BORE.REPAIR_CTRL_SHARE_PCT : Fld := ⟨0x0800018, 23, 16, .rw, true, 0xA⟩
def Reg.BORE.STATUS_READY : Fld := ⟨0x0800020, 15, 0, .ro, false, 0⟩
def Reg.BORE.STATUS_REPAIRING : Fld := ⟨0x0800020, 31, 16, .ro, false, 0⟩
def Reg.BORE.STATUS_READ_ONLY : Fld := ⟨0x0800020, 32, 32, .ro, false, 0⟩
def Reg.BORE.STATUS_CHECK_FAIL : Fld := ⟨0x0800020, 33, 33, .rw1c, true, 0⟩
def Reg.BORE.STATUS_SHARD_OFFLINE : Fld := ⟨0x0800020, 34, 34, .rw1c, true, 0⟩
def Reg.BORE.WALKS_ACTIVE_COUNT : Fld := ⟨0x0800028, 11, 0, .ro, false, 0⟩
def Reg.BORE.QUERIES_COUNT : Fld := ⟨0x0800030, 63, 0, .rsat, false, 0⟩
def Reg.BORE.QUERIES_EXHAUSTED_COUNT : Fld := ⟨0x0800038, 63, 0, .rsat, false, 0⟩
def Reg.BORE.WALKS_TRUNCATED_COUNT : Fld := ⟨0x0800040, 63, 0, .rsat, false, 0⟩
def Reg.BORE.EXPANSIONS_COUNT : Fld := ⟨0x0800048, 63, 0, .rsat, false, 0⟩
def Reg.BORE.NOT_LIVE_EXPANDED_COUNT : Fld := ⟨0x0800050, 63, 0, .rsat, false, 0⟩
def Reg.BORE.FILTERED_COUNT : Fld := ⟨0x0800058, 63, 0, .rsat, false, 0⟩
def Reg.BORE.INSERTS_COUNT : Fld := ⟨0x0800060, 63, 0, .rsat, false, 0⟩
def Reg.BORE.DELETES_COUNT : Fld := ⟨0x0800068, 63, 0, .rsat, false, 0⟩
def Reg.BORE.FOLDED_COUNT : Fld := ⟨0x0800070, 63, 0, .rsat, false, 0⟩
def Reg.BORE.SECTOR_READS_COUNT : Fld := ⟨0x0800078, 63, 0, .rsat, false, 0⟩
def Reg.BORE.SECTOR_WRITES_COUNT : Fld := ⟨0x0800080, 63, 0, .rsat, false, 0⟩
def Reg.BORE.CHECK_FAILS_COUNT : Fld := ⟨0x0800088, 63, 0, .rsat, false, 0⟩
def Reg.BORE.LIVE_COUNT : Fld := ⟨0x0800100, 32, 0, .ro, false, 0⟩
def Reg.BORE.TOMB_COUNT : Fld := ⟨0x0800180, 32, 0, .ro, false, 0⟩

/-- The rows of the BORE register map. -/
def Reg.BORE.rows : List RegRow := [
  ⟨Reg.BORE.POOL_BASE_BASE, 1, 8⟩,
  ⟨Reg.BORE.POOL_SIZE_BYTES, 1, 8⟩,
  ⟨Reg.BORE.QUERY_CTRL_MAX_HOPS, 1, 8⟩,
  ⟨Reg.BORE.QUERY_CTRL_BEAM, 1, 8⟩,
  ⟨Reg.BORE.REPAIR_CTRL_AUTO, 1, 8⟩,
  ⟨Reg.BORE.REPAIR_CTRL_TOMB_PCT, 1, 8⟩,
  ⟨Reg.BORE.REPAIR_CTRL_SHARE_PCT, 1, 8⟩,
  ⟨Reg.BORE.STATUS_READY, 1, 8⟩,
  ⟨Reg.BORE.STATUS_REPAIRING, 1, 8⟩,
  ⟨Reg.BORE.STATUS_READ_ONLY, 1, 8⟩,
  ⟨Reg.BORE.STATUS_CHECK_FAIL, 1, 8⟩,
  ⟨Reg.BORE.STATUS_SHARD_OFFLINE, 1, 8⟩,
  ⟨Reg.BORE.WALKS_ACTIVE_COUNT, 1, 8⟩,
  ⟨Reg.BORE.QUERIES_COUNT, 1, 8⟩,
  ⟨Reg.BORE.QUERIES_EXHAUSTED_COUNT, 1, 8⟩,
  ⟨Reg.BORE.WALKS_TRUNCATED_COUNT, 1, 8⟩,
  ⟨Reg.BORE.EXPANSIONS_COUNT, 1, 8⟩,
  ⟨Reg.BORE.NOT_LIVE_EXPANDED_COUNT, 1, 8⟩,
  ⟨Reg.BORE.FILTERED_COUNT, 1, 8⟩,
  ⟨Reg.BORE.INSERTS_COUNT, 1, 8⟩,
  ⟨Reg.BORE.DELETES_COUNT, 1, 8⟩,
  ⟨Reg.BORE.FOLDED_COUNT, 1, 8⟩,
  ⟨Reg.BORE.SECTOR_READS_COUNT, 1, 8⟩,
  ⟨Reg.BORE.SECTOR_WRITES_COUNT, 1, 8⟩,
  ⟨Reg.BORE.CHECK_FAILS_COUNT, 1, 8⟩,
  ⟨Reg.BORE.LIVE_COUNT, 16, 8⟩,
  ⟨Reg.BORE.TOMB_COUNT, 16, 8⟩]

/-! ### FTL: R311 -/

def Reg.FTL.JOURNAL_CTRL_INTERVAL_US : Fld := ⟨0x0900000, 31, 0, .rw, true, 0xFA0⟩
def Reg.FTL.GC_CTRL_FREE_LOW : Fld := ⟨0x0900008, 15, 0, .rw, true, 0x800⟩
def Reg.FTL.GC_CTRL_FREE_TARGET : Fld := ⟨0x0900008, 31, 16, .rw, true, 0x1000⟩
def Reg.FTL.GC_CTRL_SHARE_PCT : Fld := ⟨0x0900008, 39, 32, .rw, true, 0x19⟩
def Reg.FTL.WEAR_CTRL_SPREAD : Fld := ⟨0x0900010, 15, 0, .rw, true, 0x100⟩
def Reg.FTL.SPARE_CTRL_WARN : Fld := ⟨0x0900018, 15, 0, .rw, true, 0x800⟩
def Reg.FTL.SPARE_CTRL_FLOOR : Fld := ⟨0x0900018, 31, 16, .ro, false, 0x200⟩
def Reg.FTL.ERR_CTRL_REFRESH_BITS : Fld := ⟨0x0900020, 7, 0, .rw, true, 0x48⟩
def Reg.FTL.ERR_CTRL_ECC_BITS : Fld := ⟨0x0900020, 15, 8, .ro, false, 0x78⟩
def Reg.FTL.TEMP_CTRL_THROTTLE_C : Fld := ⟨0x0900028, 7, 0, .rw, true, 0x50⟩
def Reg.FTL.STATUS_READ_ONLY : Fld := ⟨0x0900030, 0, 0, .ro, false, 0⟩
def Reg.FTL.STATUS_SPARE_WARN : Fld := ⟨0x0900030, 1, 1, .ro, false, 0⟩
def Reg.FTL.STATUS_REBUILT : Fld := ⟨0x0900030, 2, 2, .rw1c, true, 0⟩
def Reg.FTL.STATUS_HOLDUP_SHORT : Fld := ⟨0x0900030, 3, 3, .rw1c, true, 0⟩
def Reg.FTL.STATUS_UNCORRECTABLE : Fld := ⟨0x0900030, 4, 4, .rw1c, true, 0⟩
def Reg.FTL.STATUS_THROTTLED : Fld := ⟨0x0900030, 5, 5, .ro, false, 0⟩
def Reg.FTL.STATUS_TEMP_PAUSE : Fld := ⟨0x0900030, 6, 6, .ro, false, 0⟩
def Reg.FTL.STATUS_GC_ACTIVE : Fld := ⟨0x0900030, 7, 7, .ro, false, 0⟩
def Reg.FTL.WRITE_SEQ_NEXT : Fld := ⟨0x0900038, 63, 0, .ro, false, 0⟩
def Reg.FTL.FRAMES_MAPPED_COUNT : Fld := ⟨0x0900040, 29, 0, .ro, false, 0⟩
def Reg.FTL.USER_FREE_SECTORS : Fld := ⟨0x0900048, 34, 0, .ro, false, 0⟩
def Reg.FTL.SPARE_MIN_BLOCKS : Fld := ⟨0x0900050, 15, 0, .ro, false, 0⟩
def Reg.FTL.SPARE_MIN_CHANNEL : Fld := ⟨0x0900050, 20, 16, .ro, false, 0⟩
def Reg.FTL.WEAR_PCT : Fld := ⟨0x0900058, 7, 0, .ro, false, 0⟩
def Reg.FTL.WEAR_ERASE_MEAN : Fld := ⟨0x0900058, 31, 16, .ro, false, 0⟩
def Reg.FTL.WEAR_ERASE_MAX : Fld := ⟨0x0900058, 47, 32, .ro, false, 0⟩
def Reg.FTL.TEMP_NOW : Fld := ⟨0x0900060, 7, 0, .ro, false, 0⟩
def Reg.FTL.TEMP_MAX : Fld := ⟨0x0900060, 15, 8, .ro, false, 0⟩
def Reg.FTL.CLIENT_SECTORS_COUNT : Fld := ⟨0x0900080, 63, 0, .rsat, false, 0⟩
def Reg.FTL.NAND_SECTORS_COUNT : Fld := ⟨0x0900088, 63, 0, .rsat, false, 0⟩
def Reg.FTL.GC_COPIES_COUNT : Fld := ⟨0x0900090, 63, 0, .rsat, false, 0⟩
def Reg.FTL.ERASES_COUNT : Fld := ⟨0x0900098, 63, 0, .rsat, false, 0⟩
def Reg.FTL.CORRECTED_BITS_COUNT : Fld := ⟨0x09000A0, 63, 0, .rsat, false, 0⟩
def Reg.FTL.READ_RETRIES_COUNT : Fld := ⟨0x09000A8, 63, 0, .rsat, false, 0⟩
def Reg.FTL.UNCORRECTABLE_READS_COUNT : Fld := ⟨0x09000B0, 63, 0, .rsat, false, 0⟩
def Reg.FTL.PROGRAM_FAILS_COUNT : Fld := ⟨0x09000B8, 63, 0, .rsat, false, 0⟩
def Reg.FTL.ERASE_FAILS_COUNT : Fld := ⟨0x09000C0, 63, 0, .rsat, false, 0⟩
def Reg.FTL.BLOCKS_RETIRED_COUNT : Fld := ⟨0x09000C8, 63, 0, .rsat, false, 0⟩
def Reg.FTL.JOURNAL_FLUSHES_COUNT : Fld := ⟨0x09000D0, 63, 0, .rsat, false, 0⟩
def Reg.FTL.REFRESHES_COUNT : Fld := ⟨0x09000D8, 63, 0, .rsat, false, 0⟩
def Reg.FTL.READ_ONLY_REFUSALS_COUNT : Fld := ⟨0x09000E0, 63, 0, .rsat, false, 0⟩
def Reg.FTL.CHAN_SPARE : Fld := ⟨0x0900100, 15, 0, .ro, false, 0⟩
def Reg.FTL.CHAN_FREE : Fld := ⟨0x0900100, 32, 16, .ro, false, 0⟩

/-- The rows of the FTL register map. -/
def Reg.FTL.rows : List RegRow := [
  ⟨Reg.FTL.JOURNAL_CTRL_INTERVAL_US, 1, 8⟩,
  ⟨Reg.FTL.GC_CTRL_FREE_LOW, 1, 8⟩,
  ⟨Reg.FTL.GC_CTRL_FREE_TARGET, 1, 8⟩,
  ⟨Reg.FTL.GC_CTRL_SHARE_PCT, 1, 8⟩,
  ⟨Reg.FTL.WEAR_CTRL_SPREAD, 1, 8⟩,
  ⟨Reg.FTL.SPARE_CTRL_WARN, 1, 8⟩,
  ⟨Reg.FTL.SPARE_CTRL_FLOOR, 1, 8⟩,
  ⟨Reg.FTL.ERR_CTRL_REFRESH_BITS, 1, 8⟩,
  ⟨Reg.FTL.ERR_CTRL_ECC_BITS, 1, 8⟩,
  ⟨Reg.FTL.TEMP_CTRL_THROTTLE_C, 1, 8⟩,
  ⟨Reg.FTL.STATUS_READ_ONLY, 1, 8⟩,
  ⟨Reg.FTL.STATUS_SPARE_WARN, 1, 8⟩,
  ⟨Reg.FTL.STATUS_REBUILT, 1, 8⟩,
  ⟨Reg.FTL.STATUS_HOLDUP_SHORT, 1, 8⟩,
  ⟨Reg.FTL.STATUS_UNCORRECTABLE, 1, 8⟩,
  ⟨Reg.FTL.STATUS_THROTTLED, 1, 8⟩,
  ⟨Reg.FTL.STATUS_TEMP_PAUSE, 1, 8⟩,
  ⟨Reg.FTL.STATUS_GC_ACTIVE, 1, 8⟩,
  ⟨Reg.FTL.WRITE_SEQ_NEXT, 1, 8⟩,
  ⟨Reg.FTL.FRAMES_MAPPED_COUNT, 1, 8⟩,
  ⟨Reg.FTL.USER_FREE_SECTORS, 1, 8⟩,
  ⟨Reg.FTL.SPARE_MIN_BLOCKS, 1, 8⟩,
  ⟨Reg.FTL.SPARE_MIN_CHANNEL, 1, 8⟩,
  ⟨Reg.FTL.WEAR_PCT, 1, 8⟩,
  ⟨Reg.FTL.WEAR_ERASE_MEAN, 1, 8⟩,
  ⟨Reg.FTL.WEAR_ERASE_MAX, 1, 8⟩,
  ⟨Reg.FTL.TEMP_NOW, 1, 8⟩,
  ⟨Reg.FTL.TEMP_MAX, 1, 8⟩,
  ⟨Reg.FTL.CLIENT_SECTORS_COUNT, 1, 8⟩,
  ⟨Reg.FTL.NAND_SECTORS_COUNT, 1, 8⟩,
  ⟨Reg.FTL.GC_COPIES_COUNT, 1, 8⟩,
  ⟨Reg.FTL.ERASES_COUNT, 1, 8⟩,
  ⟨Reg.FTL.CORRECTED_BITS_COUNT, 1, 8⟩,
  ⟨Reg.FTL.READ_RETRIES_COUNT, 1, 8⟩,
  ⟨Reg.FTL.UNCORRECTABLE_READS_COUNT, 1, 8⟩,
  ⟨Reg.FTL.PROGRAM_FAILS_COUNT, 1, 8⟩,
  ⟨Reg.FTL.ERASE_FAILS_COUNT, 1, 8⟩,
  ⟨Reg.FTL.BLOCKS_RETIRED_COUNT, 1, 8⟩,
  ⟨Reg.FTL.JOURNAL_FLUSHES_COUNT, 1, 8⟩,
  ⟨Reg.FTL.REFRESHES_COUNT, 1, 8⟩,
  ⟨Reg.FTL.READ_ONLY_REFUSALS_COUNT, 1, 8⟩,
  ⟨Reg.FTL.CHAN_SPARE, 32, 8⟩,
  ⟨Reg.FTL.CHAN_FREE, 32, 8⟩]

/-! ### MIRROR: R340 -/

def Reg.MIRROR.CTRL_SOLO : Fld := ⟨0x0A00000, 0, 0, .rw, true, 1⟩
def Reg.MIRROR.CTRL_AUTO_TAKEOVER : Fld := ⟨0x0A00000, 1, 1, .rw, true, 1⟩
def Reg.MIRROR.LEASE_LEASE_MS : Fld := ⟨0x0A00008, 15, 0, .rw, true, 0x32⟩
def Reg.MIRROR.HB_LINK_HB_US : Fld := ⟨0x0A00010, 15, 0, .rw, true, 0x3E8⟩
def Reg.MIRROR.HB_LINK_SILENT_MS : Fld := ⟨0x0A00010, 23, 16, .rw, true, 5⟩
def Reg.MIRROR.HB_NET_HB_MS : Fld := ⟨0x0A00010, 39, 32, .rw, true, 0xA⟩
def Reg.MIRROR.HB_NET_SILENT_MS : Fld := ⟨0x0A00010, 55, 48, .rw, true, 0x64⟩
def Reg.MIRROR.PLACE_PARKED_TIER : Fld := ⟨0x0A00018, 1, 0, .rw, true, 3⟩
def Reg.MIRROR.STATE_PAIR_STATE : Fld := ⟨0x0A00020, 2, 0, .ro, false, 0⟩
def Reg.MIRROR.STATE_LINK_ID : Fld := ⟨0x0A00020, 3, 3, .ro, false, 0⟩
def Reg.MIRROR.STATE_LANES : Fld := ⟨0x0A00020, 12, 8, .ro, false, 0⟩
def Reg.MIRROR.STATE_PAIR_EPOCH : Fld := ⟨0x0A00020, 63, 32, .ro, false, 0⟩
def Reg.MIRROR.PARTNER_SERIAL : Fld := ⟨0x0A00028, 63, 0, .ro, false, 0⟩
def Reg.MIRROR.STATUS_ID_CONFLICT : Fld := ⟨0x0A00030, 0, 0, .rw1c, true, 0⟩
def Reg.MIRROR.STATUS_LEASE_CONFLICT : Fld := ⟨0x0A00030, 1, 1, .rw1c, true, 0⟩
def Reg.MIRROR.STATUS_TAKEOVER : Fld := ⟨0x0A00030, 2, 2, .rw1c, true, 0⟩
def Reg.MIRROR.STATUS_LANE_DEGRADED : Fld := ⟨0x0A00030, 3, 3, .ro, false, 0⟩
def Reg.MIRROR.STATUS_COMMIT_STALL : Fld := ⟨0x0A00030, 4, 4, .ro, false, 0⟩
def Reg.MIRROR.STATUS_MIRROR_REFUSED : Fld := ⟨0x0A00030, 5, 5, .rw1c, true, 0⟩
def Reg.MIRROR.TX_SEQ_NEXT : Fld := ⟨0x0A00038, 31, 0, .ro, false, 0⟩
def Reg.MIRROR.TX_SEQ_ACKED : Fld := ⟨0x0A00038, 63, 32, .ro, false, 0⟩
def Reg.MIRROR.RX_SEQ_APPLIED : Fld := ⟨0x0A00040, 31, 0, .ro, false, 0⟩
def Reg.MIRROR.RESYNC_LEFT : Fld := ⟨0x0A00048, 31, 0, .ro, false, 0⟩
def Reg.MIRROR.RESYNC_DONE : Fld := ⟨0x0A00048, 63, 32, .ro, false, 0⟩
def Reg.MIRROR.SHADOW_BASE_BASE : Fld := ⟨0x0A00050, 39, 0, .rw, false, 0⟩
def Reg.MIRROR.PENDING_BASE_BASE : Fld := ⟨0x0A00058, 39, 0, .rw, false, 0⟩
def Reg.MIRROR.PENDING_SIZE_BYTES : Fld := ⟨0x0A00060, 31, 0, .rw, false, 0⟩
def Reg.MIRROR.DIRTY_BASE_BASE : Fld := ⟨0x0A00068, 39, 0, .rw, false, 0⟩
def Reg.MIRROR.RECORDS_TX_COUNT : Fld := ⟨0x0A00080, 63, 0, .rsat, false, 0⟩
def Reg.MIRROR.BYTES_TX_COUNT : Fld := ⟨0x0A00088, 63, 0, .rsat, false, 0⟩
def Reg.MIRROR.RECORDS_RX_COUNT : Fld := ⟨0x0A00090, 63, 0, .rsat, false, 0⟩
def Reg.MIRROR.REPLAYS_COUNT : Fld := ⟨0x0A00098, 63, 0, .rsat, false, 0⟩
def Reg.MIRROR.RECORD_CHECK_FAILS_COUNT : Fld := ⟨0x0A000A0, 63, 0, .rsat, false, 0⟩
def Reg.MIRROR.LINK_DOWNS_COUNT : Fld := ⟨0x0A000A8, 63, 0, .rsat, false, 0⟩
def Reg.MIRROR.TAKEOVERS_COUNT : Fld := ⟨0x0A000B0, 63, 0, .rsat, false, 0⟩
def Reg.MIRROR.CLAIMS_COUNT : Fld := ⟨0x0A000B8, 63, 0, .rsat, false, 0⟩
def Reg.MIRROR.HANDOVERS_COUNT : Fld := ⟨0x0A000C0, 63, 0, .rsat, false, 0⟩
def Reg.MIRROR.LEASE_CONFLICTS_COUNT : Fld := ⟨0x0A000C8, 63, 0, .rsat, false, 0⟩
def Reg.MIRROR.RERELEASES_COUNT : Fld := ⟨0x0A000D0, 63, 0, .rsat, false, 0⟩
def Reg.MIRROR.COMMIT_WAIT_NS_COUNT : Fld := ⟨0x0A000D8, 63, 0, .rsat, false, 0⟩
def Reg.MIRROR.MARK_ACKED_STEP : Fld := ⟨0x0A00100, 31, 0, .ro, false, 0⟩

/-- The rows of the MIRROR register map. -/
def Reg.MIRROR.rows : List RegRow := [
  ⟨Reg.MIRROR.CTRL_SOLO, 1, 8⟩,
  ⟨Reg.MIRROR.CTRL_AUTO_TAKEOVER, 1, 8⟩,
  ⟨Reg.MIRROR.LEASE_LEASE_MS, 1, 8⟩,
  ⟨Reg.MIRROR.HB_LINK_HB_US, 1, 8⟩,
  ⟨Reg.MIRROR.HB_LINK_SILENT_MS, 1, 8⟩,
  ⟨Reg.MIRROR.HB_NET_HB_MS, 1, 8⟩,
  ⟨Reg.MIRROR.HB_NET_SILENT_MS, 1, 8⟩,
  ⟨Reg.MIRROR.PLACE_PARKED_TIER, 1, 8⟩,
  ⟨Reg.MIRROR.STATE_PAIR_STATE, 1, 8⟩,
  ⟨Reg.MIRROR.STATE_LINK_ID, 1, 8⟩,
  ⟨Reg.MIRROR.STATE_LANES, 1, 8⟩,
  ⟨Reg.MIRROR.STATE_PAIR_EPOCH, 1, 8⟩,
  ⟨Reg.MIRROR.PARTNER_SERIAL, 1, 8⟩,
  ⟨Reg.MIRROR.STATUS_ID_CONFLICT, 1, 8⟩,
  ⟨Reg.MIRROR.STATUS_LEASE_CONFLICT, 1, 8⟩,
  ⟨Reg.MIRROR.STATUS_TAKEOVER, 1, 8⟩,
  ⟨Reg.MIRROR.STATUS_LANE_DEGRADED, 1, 8⟩,
  ⟨Reg.MIRROR.STATUS_COMMIT_STALL, 1, 8⟩,
  ⟨Reg.MIRROR.STATUS_MIRROR_REFUSED, 1, 8⟩,
  ⟨Reg.MIRROR.TX_SEQ_NEXT, 1, 8⟩,
  ⟨Reg.MIRROR.TX_SEQ_ACKED, 1, 8⟩,
  ⟨Reg.MIRROR.RX_SEQ_APPLIED, 1, 8⟩,
  ⟨Reg.MIRROR.RESYNC_LEFT, 1, 8⟩,
  ⟨Reg.MIRROR.RESYNC_DONE, 1, 8⟩,
  ⟨Reg.MIRROR.SHADOW_BASE_BASE, 1, 8⟩,
  ⟨Reg.MIRROR.PENDING_BASE_BASE, 1, 8⟩,
  ⟨Reg.MIRROR.PENDING_SIZE_BYTES, 1, 8⟩,
  ⟨Reg.MIRROR.DIRTY_BASE_BASE, 1, 8⟩,
  ⟨Reg.MIRROR.RECORDS_TX_COUNT, 1, 8⟩,
  ⟨Reg.MIRROR.BYTES_TX_COUNT, 1, 8⟩,
  ⟨Reg.MIRROR.RECORDS_RX_COUNT, 1, 8⟩,
  ⟨Reg.MIRROR.REPLAYS_COUNT, 1, 8⟩,
  ⟨Reg.MIRROR.RECORD_CHECK_FAILS_COUNT, 1, 8⟩,
  ⟨Reg.MIRROR.LINK_DOWNS_COUNT, 1, 8⟩,
  ⟨Reg.MIRROR.TAKEOVERS_COUNT, 1, 8⟩,
  ⟨Reg.MIRROR.CLAIMS_COUNT, 1, 8⟩,
  ⟨Reg.MIRROR.HANDOVERS_COUNT, 1, 8⟩,
  ⟨Reg.MIRROR.LEASE_CONFLICTS_COUNT, 1, 8⟩,
  ⟨Reg.MIRROR.RERELEASES_COUNT, 1, 8⟩,
  ⟨Reg.MIRROR.COMMIT_WAIT_NS_COUNT, 1, 8⟩,
  ⟨Reg.MIRROR.MARK_ACKED_STEP, 8, 8⟩]

/-! ### CKPT: R362 -/

def Reg.CKPT.CTRL_CUT_WAIT_MS : Fld := ⟨0x0B00000, 15, 0, .rw, true, 0xC8⟩
def Reg.CKPT.CTRL_RATE_GBPS : Fld := ⟨0x0B00000, 24, 16, .rw, true, 0x64⟩
def Reg.CKPT.CTRL_TARGET_TIMEOUT_MS : Fld := ⟨0x0B00000, 47, 32, .rw, true, 0x1388⟩
def Reg.CKPT.WARN_CTRL_AUTO : Fld := ⟨0x0B00008, 0, 0, .rw, true, 1⟩
def Reg.CKPT.WARN_CTRL_TARGET : Fld := ⟨0x0B00008, 3, 1, .rw, true, 0⟩
def Reg.CKPT.WARN_CTRL_SCOPE : Fld := ⟨0x0B00008, 4, 4, .rw, true, 0⟩
def Reg.CKPT.WARN_CTRL_HOLDOFF_S : Fld := ⟨0x0B00008, 63, 32, .rw, true, 0xE10⟩
def Reg.CKPT.STAGE_BASE_BASE : Fld := ⟨0x0B00010, 39, 0, .rw, false, 0⟩
def Reg.CKPT.BITMAP_BASE_BASE : Fld := ⟨0x0B00018, 39, 0, .rw, false, 0⟩
def Reg.CKPT.STATUS_STATE : Fld := ⟨0x0B00020, 2, 0, .ro, false, 0⟩
def Reg.CKPT.STATUS_WARNING : Fld := ⟨0x0B00020, 3, 3, .rw1c, true, 0⟩
def Reg.CKPT.STATUS_ABANDONED : Fld := ⟨0x0B00020, 4, 4, .rw1c, true, 0⟩
def Reg.CKPT.STATUS_WARN_SOURCES : Fld := ⟨0x0B00020, 15, 8, .rw1c, true, 0⟩
def Reg.CKPT.STATUS_TARGETS : Fld := ⟨0x0B00020, 23, 16, .ro, false, 0⟩
def Reg.CKPT.LAST_ID_CHECKPOINT_ID : Fld := ⟨0x0B00028, 63, 0, .ro, false, 0⟩
def Reg.CKPT.PROGRESS_BYTES : Fld := ⟨0x0B00030, 63, 0, .ro, false, 0⟩
def Reg.CKPT.TAKEN_COUNT : Fld := ⟨0x0B00038, 63, 0, .rsat, false, 0⟩
def Reg.CKPT.FAILED_COUNT : Fld := ⟨0x0B00040, 63, 0, .rsat, false, 0⟩
def Reg.CKPT.RESTORES_COUNT : Fld := ⟨0x0B00048, 63, 0, .rsat, false, 0⟩
def Reg.CKPT.DAMAGED_SKIPS_COUNT : Fld := ⟨0x0B00050, 63, 0, .rsat, false, 0⟩
def Reg.CKPT.HEADER_COPIES_COUNT : Fld := ⟨0x0B00058, 63, 0, .rsat, false, 0⟩
def Reg.CKPT.HELD_FRAMES_COUNT : Fld := ⟨0x0B00060, 29, 0, .ro, false, 0⟩
def Reg.CKPT.WARN_SRC_THRESHOLD : Fld := ⟨0x0B00100, 31, 0, .rw, true, 0⟩
def Reg.CKPT.WARN_SRC_WINDOW_S : Fld := ⟨0x0B00100, 47, 32, .rw, true, 0x3C⟩
def Reg.CKPT.WARN_SRC_ENABLE : Fld := ⟨0x0B00100, 48, 48, .rw, true, 0⟩
def Reg.CKPT.WARN_COUNT_COUNT : Fld := ⟨0x0B00140, 63, 0, .rsat, false, 0⟩

/-- The rows of the CKPT register map. -/
def Reg.CKPT.rows : List RegRow := [
  ⟨Reg.CKPT.CTRL_CUT_WAIT_MS, 1, 8⟩,
  ⟨Reg.CKPT.CTRL_RATE_GBPS, 1, 8⟩,
  ⟨Reg.CKPT.CTRL_TARGET_TIMEOUT_MS, 1, 8⟩,
  ⟨Reg.CKPT.WARN_CTRL_AUTO, 1, 8⟩,
  ⟨Reg.CKPT.WARN_CTRL_TARGET, 1, 8⟩,
  ⟨Reg.CKPT.WARN_CTRL_SCOPE, 1, 8⟩,
  ⟨Reg.CKPT.WARN_CTRL_HOLDOFF_S, 1, 8⟩,
  ⟨Reg.CKPT.STAGE_BASE_BASE, 1, 8⟩,
  ⟨Reg.CKPT.BITMAP_BASE_BASE, 1, 8⟩,
  ⟨Reg.CKPT.STATUS_STATE, 1, 8⟩,
  ⟨Reg.CKPT.STATUS_WARNING, 1, 8⟩,
  ⟨Reg.CKPT.STATUS_ABANDONED, 1, 8⟩,
  ⟨Reg.CKPT.STATUS_WARN_SOURCES, 1, 8⟩,
  ⟨Reg.CKPT.STATUS_TARGETS, 1, 8⟩,
  ⟨Reg.CKPT.LAST_ID_CHECKPOINT_ID, 1, 8⟩,
  ⟨Reg.CKPT.PROGRESS_BYTES, 1, 8⟩,
  ⟨Reg.CKPT.TAKEN_COUNT, 1, 8⟩,
  ⟨Reg.CKPT.FAILED_COUNT, 1, 8⟩,
  ⟨Reg.CKPT.RESTORES_COUNT, 1, 8⟩,
  ⟨Reg.CKPT.DAMAGED_SKIPS_COUNT, 1, 8⟩,
  ⟨Reg.CKPT.HEADER_COPIES_COUNT, 1, 8⟩,
  ⟨Reg.CKPT.HELD_FRAMES_COUNT, 1, 8⟩,
  ⟨Reg.CKPT.WARN_SRC_THRESHOLD, 8, 8⟩,
  ⟨Reg.CKPT.WARN_SRC_WINDOW_S, 8, 8⟩,
  ⟨Reg.CKPT.WARN_SRC_ENABLE, 8, 8⟩,
  ⟨Reg.CKPT.WARN_COUNT_COUNT, 8, 8⟩]

/-! ### STRAND: R382 -/

def Reg.STRAND.CTRL_ISSUE_MAX : Fld := ⟨0x0C00000, 15, 0, .rw, true, 0x100⟩
def Reg.STRAND.CTRL_HOST_TIMEOUT_US : Fld := ⟨0x0C00000, 47, 32, .rw, true, 0x64⟩
def Reg.STRAND.PROGRAMS_COUNT : Fld := ⟨0x0C00008, 8, 0, .ro, false, 0⟩
def Reg.STRAND.JOBS_COUNT : Fld := ⟨0x0C00010, 12, 0, .ro, false, 0⟩
def Reg.STRAND.THREADS_BUSY_COUNT : Fld := ⟨0x0C00018, 13, 0, .ro, false, 0⟩
def Reg.STRAND.STATUS_FAULT : Fld := ⟨0x0C00020, 0, 0, .rw1c, true, 0⟩
def Reg.STRAND.STATUS_ISSUE_FULL : Fld := ⟨0x0C00020, 1, 1, .rw1c, true, 0⟩
def Reg.STRAND.LAST_FAULT_THREAD : Fld := ⟨0x0C00028, 12, 0, .ro, false, 0⟩
def Reg.STRAND.LAST_FAULT_CAUSE : Fld := ⟨0x0C00028, 23, 16, .ro, false, 0⟩
def Reg.STRAND.LAST_FAULT_JOB : Fld := ⟨0x0C00028, 43, 32, .ro, false, 0⟩
def Reg.STRAND.LAST_FAULT_PC_PC : Fld := ⟨0x0C00030, 63, 0, .ro, false, 0⟩
def Reg.STRAND.LAST_FAULT_ADDR_ADDR : Fld := ⟨0x0C00038, 63, 0, .ro, false, 0⟩
def Reg.STRAND.INSTRUCTIONS_COUNT : Fld := ⟨0x0C00040, 63, 0, .rsat, false, 0⟩
def Reg.STRAND.FAULTS_COUNT : Fld := ⟨0x0C00048, 63, 0, .rsat, false, 0⟩
def Reg.STRAND.ISSUES_COUNT : Fld := ⟨0x0C00050, 63, 0, .rsat, false, 0⟩
def Reg.STRAND.ISSUE_REFUSED_COUNT : Fld := ⟨0x0C00058, 63, 0, .rsat, false, 0⟩
def Reg.STRAND.TOKENS_HANDED_COUNT : Fld := ⟨0x0C00060, 63, 0, .rsat, false, 0⟩
def Reg.STRAND.ISSUE_DEPTH_COUNT : Fld := ⟨0x0C00100, 12, 0, .ro, false, 0⟩
def Reg.STRAND.CORE_PARTITION : Fld := ⟨0x0C02000, 2, 0, .ro, false, 0⟩
def Reg.STRAND.CORE_ENABLED : Fld := ⟨0x0C02000, 3, 3, .ro, false, 0⟩
def Reg.STRAND.CORE_BUSY : Fld := ⟨0x0C02000, 15, 8, .ro, false, 0⟩

/-- The rows of the STRAND register map. -/
def Reg.STRAND.rows : List RegRow := [
  ⟨Reg.STRAND.CTRL_ISSUE_MAX, 1, 8⟩,
  ⟨Reg.STRAND.CTRL_HOST_TIMEOUT_US, 1, 8⟩,
  ⟨Reg.STRAND.PROGRAMS_COUNT, 1, 8⟩,
  ⟨Reg.STRAND.JOBS_COUNT, 1, 8⟩,
  ⟨Reg.STRAND.THREADS_BUSY_COUNT, 1, 8⟩,
  ⟨Reg.STRAND.STATUS_FAULT, 1, 8⟩,
  ⟨Reg.STRAND.STATUS_ISSUE_FULL, 1, 8⟩,
  ⟨Reg.STRAND.LAST_FAULT_THREAD, 1, 8⟩,
  ⟨Reg.STRAND.LAST_FAULT_CAUSE, 1, 8⟩,
  ⟨Reg.STRAND.LAST_FAULT_JOB, 1, 8⟩,
  ⟨Reg.STRAND.LAST_FAULT_PC_PC, 1, 8⟩,
  ⟨Reg.STRAND.LAST_FAULT_ADDR_ADDR, 1, 8⟩,
  ⟨Reg.STRAND.INSTRUCTIONS_COUNT, 1, 8⟩,
  ⟨Reg.STRAND.FAULTS_COUNT, 1, 8⟩,
  ⟨Reg.STRAND.ISSUES_COUNT, 1, 8⟩,
  ⟨Reg.STRAND.ISSUE_REFUSED_COUNT, 1, 8⟩,
  ⟨Reg.STRAND.TOKENS_HANDED_COUNT, 1, 8⟩,
  ⟨Reg.STRAND.ISSUE_DEPTH_COUNT, 8, 8⟩,
  ⟨Reg.STRAND.CORE_PARTITION, 1024, 8⟩,
  ⟨Reg.STRAND.CORE_ENABLED, 1024, 8⟩,
  ⟨Reg.STRAND.CORE_BUSY, 1024, 8⟩]

/-! ### LIG: R401 -/

def Reg.LIG.ALLOCATED_COUNT : Fld := ⟨0x0D00000, 16, 0, .ro, false, 0⟩
def Reg.LIG.MSG_FREE_COUNT : Fld := ⟨0x0D00008, 18, 0, .ro, false, 0x40000⟩
def Reg.LIG.STATUS_ALLOC_FAIL : Fld := ⟨0x0D00010, 0, 0, .rw1c, true, 0⟩
def Reg.LIG.STATUS_LOST_SIGNAL : Fld := ⟨0x0D00010, 1, 1, .rw1c, true, 0⟩
def Reg.LIG.STATUS_REVOKED : Fld := ⟨0x0D00010, 2, 2, .rw1c, true, 0⟩
def Reg.LIG.OPS_COUNT : Fld := ⟨0x0D00018, 63, 0, .rsat, false, 0⟩
def Reg.LIG.WAITS_COUNT : Fld := ⟨0x0D00020, 63, 0, .rsat, false, 0⟩
def Reg.LIG.TIMEOUTS_COUNT : Fld := ⟨0x0D00028, 63, 0, .rsat, false, 0⟩
def Reg.LIG.ALLOC_FAILS_COUNT : Fld := ⟨0x0D00030, 63, 0, .rsat, false, 0⟩
def Reg.LIG.REVOCATIONS_COUNT : Fld := ⟨0x0D00038, 63, 0, .rsat, false, 0⟩
def Reg.LIG.LOST_SIGNALS_COUNT : Fld := ⟨0x0D00040, 63, 0, .rsat, false, 0⟩
def Reg.LIG.BANK_QUEUED_COUNT : Fld := ⟨0x0D00048, 63, 0, .rsat, false, 0⟩
def Reg.LIG.QUOTA_OBJECTS : Fld := ⟨0x0D00100, 16, 0, .rw, false, 0⟩
def Reg.LIG.USED_OBJECTS : Fld := ⟨0x0D00140, 16, 0, .ro, false, 0⟩

/-- The rows of the LIG register map. -/
def Reg.LIG.rows : List RegRow := [
  ⟨Reg.LIG.ALLOCATED_COUNT, 1, 8⟩,
  ⟨Reg.LIG.MSG_FREE_COUNT, 1, 8⟩,
  ⟨Reg.LIG.STATUS_ALLOC_FAIL, 1, 8⟩,
  ⟨Reg.LIG.STATUS_LOST_SIGNAL, 1, 8⟩,
  ⟨Reg.LIG.STATUS_REVOKED, 1, 8⟩,
  ⟨Reg.LIG.OPS_COUNT, 1, 8⟩,
  ⟨Reg.LIG.WAITS_COUNT, 1, 8⟩,
  ⟨Reg.LIG.TIMEOUTS_COUNT, 1, 8⟩,
  ⟨Reg.LIG.ALLOC_FAILS_COUNT, 1, 8⟩,
  ⟨Reg.LIG.REVOCATIONS_COUNT, 1, 8⟩,
  ⟨Reg.LIG.LOST_SIGNALS_COUNT, 1, 8⟩,
  ⟨Reg.LIG.BANK_QUEUED_COUNT, 1, 8⟩,
  ⟨Reg.LIG.QUOTA_OBJECTS, 8, 8⟩,
  ⟨Reg.LIG.USED_OBJECTS, 8, 8⟩]

/-! ### SCHED: R422 -/

def Reg.SCHED.CTRL_PREEMPT_WINDOW_NS : Fld := ⟨0x0E00000, 31, 0, .rw, true, 0x7D0⟩
def Reg.SCHED.CTRL_HOST_WEIGHT : Fld := ⟨0x0E00000, 35, 32, .rw, true, 4⟩
def Reg.SCHED.EPOCH_EPOCH_NS : Fld := ⟨0x0E00008, 63, 0, .rw, true, 0⟩
def Reg.SCHED.TABLE_ACTIVE_BANK : Fld := ⟨0x0E00010, 0, 0, .ro, false, 0⟩
def Reg.SCHED.TABLE_PENDING : Fld := ⟨0x0E00010, 1, 1, .ro, false, 0⟩
def Reg.SCHED.TABLE_ON : Fld := ⟨0x0E00010, 2, 2, .ro, false, 0⟩
def Reg.SCHED.TABLE_RT_MASK : Fld := ⟨0x0E00010, 15, 8, .ro, false, 0⟩
def Reg.SCHED.SLOT_INDEX : Fld := ⟨0x0E00018, 13, 0, .ro, false, 0⟩
def Reg.SCHED.SLOT_CYCLE : Fld := ⟨0x0E00018, 63, 32, .ro, false, 0⟩
def Reg.SCHED.STATUS_CONFIG_DEFAULT : Fld := ⟨0x0E00020, 0, 0, .ro, false, 0⟩
def Reg.SCHED.STATUS_TIME_STEP : Fld := ⟨0x0E00020, 1, 1, .rw1c, true, 0⟩
def Reg.SCHED.STATUS_WINDOW_EXPIRED : Fld := ⟨0x0E00020, 2, 2, .rw1c, true, 0⟩
def Reg.SCHED.STATUS_SUSPENDED : Fld := ⟨0x0E00020, 15, 8, .ro, false, 0⟩
def Reg.SCHED.STATUS_FOREGROUND : Fld := ⟨0x0E00020, 23, 16, .ro, false, 0⟩
def Reg.SCHED.STATUS_BEFORE_EPOCH : Fld := ⟨0x0E00020, 24, 24, .ro, false, 0⟩
def Reg.SCHED.PREEMPTIONS_COUNT : Fld := ⟨0x0E00028, 63, 0, .rsat, false, 0⟩
def Reg.SCHED.WINDOW_EXPIRIES_COUNT : Fld := ⟨0x0E00030, 63, 0, .rsat, false, 0⟩
def Reg.SCHED.CREDITS_RETURNED_COUNT : Fld := ⟨0x0E00038, 63, 0, .rsat, false, 0⟩
def Reg.SCHED.SLOTS_SKIPPED_COUNT : Fld := ⟨0x0E00040, 63, 0, .rsat, false, 0⟩
def Reg.SCHED.BUILD_SLOTS_UNUSED_COUNT : Fld := ⟨0x0E00048, 63, 0, .rsat, false, 0⟩
def Reg.SCHED.ATTN_MASK_CORES : Fld := ⟨0x0E00100, 63, 0, .ro, false, 0⟩
def Reg.SCHED.PART_STRAND_FIRST : Fld := ⟨0x0E00140, 9, 0, .ro, false, 0⟩
def Reg.SCHED.PART_STRAND_COUNT : Fld := ⟨0x0E00140, 26, 16, .ro, false, 0⟩
def Reg.SCHED.PART_PRESENT : Fld := ⟨0x0E00140, 32, 32, .ro, false, 0⟩
def Reg.SCHED.PART_MUTE : Fld := ⟨0x0E00140, 33, 33, .ro, false, 0⟩
def Reg.SCHED.PART_RT_ALLOWED : Fld := ⟨0x0E00140, 34, 34, .ro, false, 0⟩
def Reg.SCHED.CREDITS_POOL : Fld := ⟨0x0E00180, 15, 0, .ro, false, 0⟩
def Reg.SCHED.CREDITS_FREE : Fld := ⟨0x0E00180, 47, 32, .ro, false, 0⟩

/-- The rows of the SCHED register map. -/
def Reg.SCHED.rows : List RegRow := [
  ⟨Reg.SCHED.CTRL_PREEMPT_WINDOW_NS, 1, 8⟩,
  ⟨Reg.SCHED.CTRL_HOST_WEIGHT, 1, 8⟩,
  ⟨Reg.SCHED.EPOCH_EPOCH_NS, 1, 8⟩,
  ⟨Reg.SCHED.TABLE_ACTIVE_BANK, 1, 8⟩,
  ⟨Reg.SCHED.TABLE_PENDING, 1, 8⟩,
  ⟨Reg.SCHED.TABLE_ON, 1, 8⟩,
  ⟨Reg.SCHED.TABLE_RT_MASK, 1, 8⟩,
  ⟨Reg.SCHED.SLOT_INDEX, 1, 8⟩,
  ⟨Reg.SCHED.SLOT_CYCLE, 1, 8⟩,
  ⟨Reg.SCHED.STATUS_CONFIG_DEFAULT, 1, 8⟩,
  ⟨Reg.SCHED.STATUS_TIME_STEP, 1, 8⟩,
  ⟨Reg.SCHED.STATUS_WINDOW_EXPIRED, 1, 8⟩,
  ⟨Reg.SCHED.STATUS_SUSPENDED, 1, 8⟩,
  ⟨Reg.SCHED.STATUS_FOREGROUND, 1, 8⟩,
  ⟨Reg.SCHED.STATUS_BEFORE_EPOCH, 1, 8⟩,
  ⟨Reg.SCHED.PREEMPTIONS_COUNT, 1, 8⟩,
  ⟨Reg.SCHED.WINDOW_EXPIRIES_COUNT, 1, 8⟩,
  ⟨Reg.SCHED.CREDITS_RETURNED_COUNT, 1, 8⟩,
  ⟨Reg.SCHED.SLOTS_SKIPPED_COUNT, 1, 8⟩,
  ⟨Reg.SCHED.BUILD_SLOTS_UNUSED_COUNT, 1, 8⟩,
  ⟨Reg.SCHED.ATTN_MASK_CORES, 8, 8⟩,
  ⟨Reg.SCHED.PART_STRAND_FIRST, 8, 8⟩,
  ⟨Reg.SCHED.PART_STRAND_COUNT, 8, 8⟩,
  ⟨Reg.SCHED.PART_PRESENT, 8, 8⟩,
  ⟨Reg.SCHED.PART_MUTE, 8, 8⟩,
  ⟨Reg.SCHED.PART_RT_ALLOWED, 8, 8⟩,
  ⟨Reg.SCHED.CREDITS_POOL, 8, 8⟩,
  ⟨Reg.SCHED.CREDITS_FREE, 8, 8⟩]

/-! ### REED: R433 -/

def Reg.REED.SUMMARY_OVERSTAY_ANY : Fld := ⟨0x0F00000, 0, 0, .ro, false, 0⟩
def Reg.REED.SUMMARY_STARVING_ANY : Fld := ⟨0x0F00000, 1, 1, .ro, false, 0⟩
def Reg.REED.SUMMARY_NO_SLOTS_ANY : Fld := ⟨0x0F00000, 2, 2, .ro, false, 0⟩
def Reg.REED.CTRL_CLASS : Fld := ⟨0x0F01000, 0, 0, .ro, false, 0⟩
def Reg.REED.CTRL_POLICY : Fld := ⟨0x0F01000, 1, 1, .ro, false, 0⟩
def Reg.REED.CTRL_SLOT : Fld := ⟨0x0F01000, 2, 2, .wlock, false, 0⟩
def Reg.REED.CTRL_STARVE_MODE : Fld := ⟨0x0F01000, 3, 3, .rw, true, 0⟩
def Reg.REED.CTRL_N : Fld := ⟨0x0F01000, 16, 8, .rw, true, 0x10⟩
def Reg.REED.BURST_BURST_NS : Fld := ⟨0x0F01008, 31, 0, .rw, true, 0⟩
def Reg.REED.PRIO_PRIO : Fld := ⟨0x0F01010, 63, 0, .rw, true, 0x8888888888888888⟩
def Reg.REED.MASK_MASKED : Fld := ⟨0x0F01018, 7, 0, .ro, false, 0⟩
def Reg.REED.STATUS_OVERSTAY : Fld := ⟨0x0F01020, 15, 0, .rw1c, true, 0⟩
def Reg.REED.STATUS_STARVING : Fld := ⟨0x0F01020, 31, 16, .rw1c, true, 0⟩
def Reg.REED.STATUS_NO_SLOTS : Fld := ⟨0x0F01020, 32, 32, .rw1c, true, 0⟩
def Reg.REED.STATUS_HOLDER : Fld := ⟨0x0F01020, 45, 40, .ro, false, 0x3F⟩
def Reg.REED.GRANTS_COUNT : Fld := ⟨0x0F01028, 63, 0, .rsat, false, 0⟩
def Reg.REED.OVERSTAYS_COUNT : Fld := ⟨0x0F01030, 63, 0, .rsat, false, 0⟩
def Reg.REED.STARVE_FLAGS_COUNT : Fld := ⟨0x0F01038, 63, 0, .rsat, false, 0⟩

/-- The rows of the REED register map. -/
def Reg.REED.rows : List RegRow := [
  ⟨Reg.REED.SUMMARY_OVERSTAY_ANY, 1, 8⟩,
  ⟨Reg.REED.SUMMARY_STARVING_ANY, 1, 8⟩,
  ⟨Reg.REED.SUMMARY_NO_SLOTS_ANY, 1, 8⟩,
  ⟨Reg.REED.CTRL_CLASS, 93, 64⟩,
  ⟨Reg.REED.CTRL_POLICY, 93, 64⟩,
  ⟨Reg.REED.CTRL_SLOT, 93, 64⟩,
  ⟨Reg.REED.CTRL_STARVE_MODE, 93, 64⟩,
  ⟨Reg.REED.CTRL_N, 93, 64⟩,
  ⟨Reg.REED.BURST_BURST_NS, 93, 64⟩,
  ⟨Reg.REED.PRIO_PRIO, 93, 64⟩,
  ⟨Reg.REED.MASK_MASKED, 93, 64⟩,
  ⟨Reg.REED.STATUS_OVERSTAY, 93, 64⟩,
  ⟨Reg.REED.STATUS_STARVING, 93, 64⟩,
  ⟨Reg.REED.STATUS_NO_SLOTS, 93, 64⟩,
  ⟨Reg.REED.STATUS_HOLDER, 93, 64⟩,
  ⟨Reg.REED.GRANTS_COUNT, 93, 64⟩,
  ⟨Reg.REED.OVERSTAYS_COUNT, 93, 64⟩,
  ⟨Reg.REED.STARVE_FLAGS_COUNT, 93, 64⟩]

/-! ### BELL: R486 -/

def Reg.BELL.SESSION_PORT : Fld := ⟨0x1000000, 15, 0, .rw, true, 0x4B08⟩
def Reg.BELL.SESSION_RETX_US : Fld := ⟨0x1000000, 31, 16, .rw, true, 0x1F4⟩
def Reg.BELL.SESSION_DOWN_MS : Fld := ⟨0x1000000, 47, 32, .rw, true, 0x1388⟩
def Reg.BELL.SESSION_RETAIN_MAX_KIB : Fld := ⟨0x1000000, 63, 48, .rw, true, 0x1000⟩
def Reg.BELL.FM_ADDR_ENDPOINT : Fld := ⟨0x1000008, 63, 0, .rw, true, 0⟩
def Reg.BELL.FM_IP_ADDRESS : Fld := ⟨0x1000010, 63, 0, .rw, true, 0⟩
def Reg.BELL.RETAIN_BASE_BASE : Fld := ⟨0x1000020, 39, 0, .rw, false, 0⟩
def Reg.BELL.PFC_CLASSES : Fld := ⟨0x1000028, 7, 0, .rw, true, 8⟩
def Reg.BELL.QLIMIT_QLIMIT_KIB : Fld := ⟨0x1000030, 23, 0, .rw, true, 0x400⟩
def Reg.BELL.STATUS_ENDPOINT_DOWN : Fld := ⟨0x1000038, 0, 0, .rw1c, true, 0⟩
def Reg.BELL.STATUS_MAP_REJECT : Fld := ⟨0x1000038, 1, 1, .rw1c, true, 0⟩
def Reg.BELL.STATUS_QP_ERROR : Fld := ⟨0x1000038, 2, 2, .rw1c, true, 0⟩
def Reg.BELL.STATUS_REGISTERED : Fld := ⟨0x1000038, 15, 8, .ro, false, 0⟩
def Reg.BELL.STATUS_LINK_UP : Fld := ⟨0x1000038, 31, 16, .ro, false, 0⟩
def Reg.BELL.MAP_VERSION : Fld := ⟨0x1000040, 31, 0, .ro, false, 0⟩
def Reg.BELL.MAP_ENTRIES : Fld := ⟨0x1000040, 48, 32, .ro, false, 0⟩
def Reg.BELL.RX_BAD_COUNT : Fld := ⟨0x1000048, 63, 0, .rsat, false, 0⟩
def Reg.BELL.RX_UNKNOWN_COUNT : Fld := ⟨0x1000050, 63, 0, .rsat, false, 0⟩
def Reg.BELL.POLICED_COUNT : Fld := ⟨0x1000058, 63, 0, .rsat, false, 0⟩
def Reg.BELL.MAP_REJECTS_COUNT : Fld := ⟨0x1000060, 63, 0, .rsat, false, 0⟩
def Reg.BELL.QP_ERRORS_COUNT : Fld := ⟨0x1000068, 63, 0, .rsat, false, 0⟩
def Reg.BELL.RETRANSMITS_COUNT : Fld := ⟨0x1000070, 63, 0, .rsat, false, 0⟩
def Reg.BELL.OUTPUT_LOST_COUNT : Fld := ⟨0x1000078, 63, 0, .rsat, false, 0⟩
def Reg.BELL.QUEUE_FULL_WAITS_COUNT : Fld := ⟨0x1000080, 63, 0, .rsat, false, 0⟩
def Reg.BELL.GATE_OVERSIZE_COUNT : Fld := ⟨0x1000088, 63, 0, .rsat, false, 0⟩
def Reg.BELL.TX_BYTES_COUNT : Fld := ⟨0x1000090, 63, 0, .rsat, false, 0⟩
def Reg.BELL.RX_BYTES_COUNT : Fld := ⟨0x1000098, 63, 0, .rsat, false, 0⟩

/-- The rows of the BELL register map. -/
def Reg.BELL.rows : List RegRow := [
  ⟨Reg.BELL.SESSION_PORT, 1, 8⟩,
  ⟨Reg.BELL.SESSION_RETX_US, 1, 8⟩,
  ⟨Reg.BELL.SESSION_DOWN_MS, 1, 8⟩,
  ⟨Reg.BELL.SESSION_RETAIN_MAX_KIB, 1, 8⟩,
  ⟨Reg.BELL.FM_ADDR_ENDPOINT, 1, 8⟩,
  ⟨Reg.BELL.FM_IP_ADDRESS, 2, 8⟩,
  ⟨Reg.BELL.RETAIN_BASE_BASE, 1, 8⟩,
  ⟨Reg.BELL.PFC_CLASSES, 1, 8⟩,
  ⟨Reg.BELL.QLIMIT_QLIMIT_KIB, 1, 8⟩,
  ⟨Reg.BELL.STATUS_ENDPOINT_DOWN, 1, 8⟩,
  ⟨Reg.BELL.STATUS_MAP_REJECT, 1, 8⟩,
  ⟨Reg.BELL.STATUS_QP_ERROR, 1, 8⟩,
  ⟨Reg.BELL.STATUS_REGISTERED, 1, 8⟩,
  ⟨Reg.BELL.STATUS_LINK_UP, 1, 8⟩,
  ⟨Reg.BELL.MAP_VERSION, 1, 8⟩,
  ⟨Reg.BELL.MAP_ENTRIES, 1, 8⟩,
  ⟨Reg.BELL.RX_BAD_COUNT, 1, 8⟩,
  ⟨Reg.BELL.RX_UNKNOWN_COUNT, 1, 8⟩,
  ⟨Reg.BELL.POLICED_COUNT, 1, 8⟩,
  ⟨Reg.BELL.MAP_REJECTS_COUNT, 1, 8⟩,
  ⟨Reg.BELL.QP_ERRORS_COUNT, 1, 8⟩,
  ⟨Reg.BELL.RETRANSMITS_COUNT, 1, 8⟩,
  ⟨Reg.BELL.OUTPUT_LOST_COUNT, 1, 8⟩,
  ⟨Reg.BELL.QUEUE_FULL_WAITS_COUNT, 1, 8⟩,
  ⟨Reg.BELL.GATE_OVERSIZE_COUNT, 1, 8⟩,
  ⟨Reg.BELL.TX_BYTES_COUNT, 1, 8⟩,
  ⟨Reg.BELL.RX_BYTES_COUNT, 1, 8⟩]

/-! ### TIME: R487 -/

def Reg.TIME.NOW_NS_NS : Fld := ⟨0x1100000, 63, 0, .ro, false, 0⟩
def Reg.TIME.NOW_FRAC_FRAC : Fld := ⟨0x1100008, 31, 0, .ro, false, 0⟩
def Reg.TIME.FREQ_PPB : Fld := ⟨0x1100010, 31, 0, .ro, false, 0⟩
def Reg.TIME.PTP_ENABLE : Fld := ⟨0x1100018, 0, 0, .rw, true, 1⟩
def Reg.TIME.PTP_DOMAIN : Fld := ⟨0x1100018, 15, 8, .rw, true, 0⟩
def Reg.TIME.PTP_OUTLIER_NS : Fld := ⟨0x1100018, 47, 16, .rw, true, 0x3E8⟩
def Reg.TIME.STEP_THRESHOLD_NS : Fld := ⟨0x1100020, 31, 0, .rw, true, 0x4E20⟩
def Reg.TIME.STEP_MAX_NS : Fld := ⟨0x1100028, 63, 0, .rw, true, 0x2540BE400⟩
def Reg.TIME.BACK_MAX_NS : Fld := ⟨0x1100030, 63, 0, .rw, true, 0xF4240⟩
def Reg.TIME.STATUS_SET : Fld := ⟨0x1100038, 0, 0, .ro, false, 0⟩
def Reg.TIME.STATUS_LOCKED : Fld := ⟨0x1100038, 1, 1, .ro, false, 0⟩
def Reg.TIME.STATUS_HOLDOVER : Fld := ⟨0x1100038, 2, 2, .ro, false, 0⟩
def Reg.TIME.STATUS_TIME_STEP : Fld := ⟨0x1100038, 3, 3, .rw1c, true, 0⟩
def Reg.TIME.STATUS_STEP_REFUSED : Fld := ⟨0x1100038, 4, 4, .rw1c, true, 0⟩
def Reg.TIME.STATUS_PTP_SUBPORT : Fld := ⟨0x1100038, 11, 8, .ro, false, 0⟩
def Reg.TIME.OFFSET_NS : Fld := ⟨0x1100040, 63, 0, .ro, false, 0⟩
def Reg.TIME.MASTER_CLOCK_ID : Fld := ⟨0x1100048, 63, 0, .ro, false, 0⟩
def Reg.TIME.STEPS_COUNT : Fld := ⟨0x1100050, 63, 0, .rsat, false, 0⟩
def Reg.TIME.OUTLIERS_COUNT : Fld := ⟨0x1100058, 63, 0, .rsat, false, 0⟩

/-- The rows of the TIME register map. -/
def Reg.TIME.rows : List RegRow := [
  ⟨Reg.TIME.NOW_NS_NS, 1, 8⟩,
  ⟨Reg.TIME.NOW_FRAC_FRAC, 1, 8⟩,
  ⟨Reg.TIME.FREQ_PPB, 1, 8⟩,
  ⟨Reg.TIME.PTP_ENABLE, 1, 8⟩,
  ⟨Reg.TIME.PTP_DOMAIN, 1, 8⟩,
  ⟨Reg.TIME.PTP_OUTLIER_NS, 1, 8⟩,
  ⟨Reg.TIME.STEP_THRESHOLD_NS, 1, 8⟩,
  ⟨Reg.TIME.STEP_MAX_NS, 1, 8⟩,
  ⟨Reg.TIME.BACK_MAX_NS, 1, 8⟩,
  ⟨Reg.TIME.STATUS_SET, 1, 8⟩,
  ⟨Reg.TIME.STATUS_LOCKED, 1, 8⟩,
  ⟨Reg.TIME.STATUS_HOLDOVER, 1, 8⟩,
  ⟨Reg.TIME.STATUS_TIME_STEP, 1, 8⟩,
  ⟨Reg.TIME.STATUS_STEP_REFUSED, 1, 8⟩,
  ⟨Reg.TIME.STATUS_PTP_SUBPORT, 1, 8⟩,
  ⟨Reg.TIME.OFFSET_NS, 1, 8⟩,
  ⟨Reg.TIME.MASTER_CLOCK_ID, 1, 8⟩,
  ⟨Reg.TIME.STEPS_COUNT, 1, 8⟩,
  ⟨Reg.TIME.OUTLIERS_COUNT, 1, 8⟩]

/-! ### SEC: R511 -/

def Reg.SEC.STATUS_UPDATE : Fld := ⟨0x1200000, 1, 0, .ro, false, 0⟩
def Reg.SEC.STATUS_MUTE : Fld := ⟨0x1200000, 15, 8, .ro, false, 0⟩
def Reg.SEC.STATUS_DEBUG_LOCKED : Fld := ⟨0x1200000, 16, 16, .ro, false, 0⟩
def Reg.SEC.STATUS_FIREWALL_DEFAULT : Fld := ⟨0x1200000, 17, 17, .ro, false, 0⟩
def Reg.SEC.STATUS_TRANSITION : Fld := ⟨0x1200000, 18, 18, .ro, false, 0⟩
def Reg.SEC.STATUS_NO_CREDENTIAL : Fld := ⟨0x1200000, 19, 19, .ro, false, 1⟩
def Reg.SEC.DYONE_VERSION_RUNNING : Fld := ⟨0x1200008, 63, 0, .ro, false, 0⟩
def Reg.SEC.CROOK_VERSION_RUNNING : Fld := ⟨0x1200010, 63, 0, .ro, false, 0⟩
def Reg.SEC.STAGED_VERSION_VERSION : Fld := ⟨0x1200018, 63, 0, .ro, false, 0⟩
def Reg.SEC.ROLLBACK_DYONE_MIN : Fld := ⟨0x1200020, 5, 0, .ro, false, 0⟩
def Reg.SEC.ROLLBACK_CROOK_MIN : Fld := ⟨0x1200020, 13, 8, .ro, false, 0⟩
def Reg.SEC.RANGES_COUNT : Fld := ⟨0x1200028, 8, 0, .ro, false, 0⟩
def Reg.SEC.ATTESTATIONS_COUNT : Fld := ⟨0x1200030, 63, 0, .rsat, false, 0⟩
def Reg.SEC.TRANSITIONAL_REPORTS_COUNT : Fld := ⟨0x1200038, 63, 0, .rsat, false, 0⟩
def Reg.SEC.IMPORTS_COUNT : Fld := ⟨0x1200040, 63, 0, .rsat, false, 0⟩
def Reg.SEC.IMPORT_FAILS_COUNT : Fld := ⟨0x1200048, 63, 0, .rsat, false, 0⟩
def Reg.SEC.FIREWALL_DENIALS_COUNT : Fld := ⟨0x1200050, 63, 0, .rsat, false, 0⟩
def Reg.SEC.MGMT_REJECTS_COUNT : Fld := ⟨0x1200058, 63, 0, .rsat, false, 0⟩
def Reg.SEC.CONTENT_DENIALS_COUNT : Fld := ⟨0x1200060, 63, 0, .rsat, false, 0⟩
def Reg.SEC.RANGE_BASE_BASE : Fld := ⟨0x1201000, 63, 0, .ro, false, 0⟩
def Reg.SEC.RANGE_SIZE_SIZE : Fld := ⟨0x1201008, 63, 0, .ro, false, 0⟩
def Reg.SEC.RANGE_ATTR_PARTITION : Fld := ⟨0x1201010, 2, 0, .ro, false, 0⟩
def Reg.SEC.RANGE_ATTR_TIER : Fld := ⟨0x1201010, 9, 8, .ro, false, 0⟩
def Reg.SEC.RANGE_ATTR_ACCESS : Fld := ⟨0x1201010, 19, 16, .ro, false, 0⟩

/-- The rows of the SEC register map. -/
def Reg.SEC.rows : List RegRow := [
  ⟨Reg.SEC.STATUS_UPDATE, 1, 8⟩,
  ⟨Reg.SEC.STATUS_MUTE, 1, 8⟩,
  ⟨Reg.SEC.STATUS_DEBUG_LOCKED, 1, 8⟩,
  ⟨Reg.SEC.STATUS_FIREWALL_DEFAULT, 1, 8⟩,
  ⟨Reg.SEC.STATUS_TRANSITION, 1, 8⟩,
  ⟨Reg.SEC.STATUS_NO_CREDENTIAL, 1, 8⟩,
  ⟨Reg.SEC.DYONE_VERSION_RUNNING, 1, 8⟩,
  ⟨Reg.SEC.CROOK_VERSION_RUNNING, 1, 8⟩,
  ⟨Reg.SEC.STAGED_VERSION_VERSION, 1, 8⟩,
  ⟨Reg.SEC.ROLLBACK_DYONE_MIN, 1, 8⟩,
  ⟨Reg.SEC.ROLLBACK_CROOK_MIN, 1, 8⟩,
  ⟨Reg.SEC.RANGES_COUNT, 1, 8⟩,
  ⟨Reg.SEC.ATTESTATIONS_COUNT, 1, 8⟩,
  ⟨Reg.SEC.TRANSITIONAL_REPORTS_COUNT, 1, 8⟩,
  ⟨Reg.SEC.IMPORTS_COUNT, 1, 8⟩,
  ⟨Reg.SEC.IMPORT_FAILS_COUNT, 1, 8⟩,
  ⟨Reg.SEC.FIREWALL_DENIALS_COUNT, 1, 8⟩,
  ⟨Reg.SEC.MGMT_REJECTS_COUNT, 1, 8⟩,
  ⟨Reg.SEC.CONTENT_DENIALS_COUNT, 1, 8⟩,
  ⟨Reg.SEC.RANGE_BASE_BASE, 256, 24⟩,
  ⟨Reg.SEC.RANGE_SIZE_SIZE, 256, 24⟩,
  ⟨Reg.SEC.RANGE_ATTR_PARTITION, 256, 24⟩,
  ⟨Reg.SEC.RANGE_ATTR_TIER, 256, 24⟩,
  ⟨Reg.SEC.RANGE_ATTR_ACCESS, 256, 24⟩]

/-! ### EVREC: R527 -/

def Reg.EVREC.STATUS_FULL : Fld := ⟨0x1300000, 0, 0, .ro, false, 0⟩
def Reg.EVREC.STATUS_WARN : Fld := ⟨0x1300000, 1, 1, .ro, false, 0⟩
def Reg.EVREC.STATUS_CLEARING : Fld := ⟨0x1300000, 2, 2, .ro, false, 0⟩
def Reg.EVREC.STATUS_QUEUE_OVERFLOW : Fld := ⟨0x1300000, 3, 3, .rw1c, true, 0⟩
def Reg.EVREC.STATUS_TORN : Fld := ⟨0x1300000, 4, 4, .rw1c, true, 0⟩
def Reg.EVREC.USAGE_SECTORS_USED : Fld := ⟨0x1300008, 8, 0, .ro, false, 0⟩
def Reg.EVREC.USAGE_WARN_PCT : Fld := ⟨0x1300008, 23, 16, .rw, true, 0x5A⟩
def Reg.EVREC.NEXT_SEQ_SEQ : Fld := ⟨0x1300010, 63, 0, .ro, false, 0⟩
def Reg.EVREC.OLDEST_SEQ_SEQ : Fld := ⟨0x1300018, 63, 0, .ro, false, 0⟩
def Reg.EVREC.LIFETIME_OP_HOURS : Fld := ⟨0x1300020, 31, 0, .ro, false, 0⟩
def Reg.EVREC.LIFETIME_POWER_CYCLES : Fld := ⟨0x1300020, 63, 32, .ro, false, 0⟩
def Reg.EVREC.RATE_PER_TYPE : Fld := ⟨0x1300028, 15, 0, .rw, true, 0x64⟩
def Reg.EVREC.CURSOR_SEQ : Fld := ⟨0x1300030, 63, 0, .rw, true, 0⟩
def Reg.EVREC.FILTER_PART_MASK : Fld := ⟨0x1300038, 7, 0, .rw, true, 0xFF⟩
def Reg.EVREC.FILTER_MODULE : Fld := ⟨0x1300038, 8, 8, .rw, true, 1⟩
def Reg.EVREC.FILTER_MIN_SEVERITY : Fld := ⟨0x1300038, 17, 16, .rw, true, 0⟩
def Reg.EVREC.FILTER_TYPE_BLOCK : Fld := ⟨0x1300038, 39, 32, .rw, true, 0xFF⟩
def Reg.EVREC.WINDOW_CTRL_ADVANCE : Fld := ⟨0x1300040, 0, 0, .wo, true, 0⟩
def Reg.EVREC.WINDOW_STATE_READY : Fld := ⟨0x1300048, 0, 0, .ro, false, 0⟩
def Reg.EVREC.WINDOW_STATE_EMPTY : Fld := ⟨0x1300048, 1, 1, .ro, false, 0⟩
def Reg.EVREC.WINDOW_STATE_GAP : Fld := ⟨0x1300048, 2, 2, .ro, false, 0⟩
def Reg.EVREC.WINDOW_STATE_BYTES : Fld := ⟨0x1300048, 28, 16, .ro, false, 0⟩
def Reg.EVREC.WINDOW_SEQ_SEQ : Fld := ⟨0x1300050, 63, 0, .ro, false, 0⟩
def Reg.EVREC.RECORDS_COUNT : Fld := ⟨0x1300058, 63, 0, .rsat, false, 0⟩
def Reg.EVREC.DROPPED_COUNT : Fld := ⟨0x1300060, 63, 0, .rsat, false, 0⟩
def Reg.EVREC.SUPPRESSED_COUNT : Fld := ⟨0x1300068, 63, 0, .rsat, false, 0⟩
def Reg.EVREC.TORN_COUNT : Fld := ⟨0x1300070, 63, 0, .rsat, false, 0⟩

/-- The rows of the EVREC register map. -/
def Reg.EVREC.rows : List RegRow := [
  ⟨Reg.EVREC.STATUS_FULL, 1, 8⟩,
  ⟨Reg.EVREC.STATUS_WARN, 1, 8⟩,
  ⟨Reg.EVREC.STATUS_CLEARING, 1, 8⟩,
  ⟨Reg.EVREC.STATUS_QUEUE_OVERFLOW, 1, 8⟩,
  ⟨Reg.EVREC.STATUS_TORN, 1, 8⟩,
  ⟨Reg.EVREC.USAGE_SECTORS_USED, 1, 8⟩,
  ⟨Reg.EVREC.USAGE_WARN_PCT, 1, 8⟩,
  ⟨Reg.EVREC.NEXT_SEQ_SEQ, 1, 8⟩,
  ⟨Reg.EVREC.OLDEST_SEQ_SEQ, 1, 8⟩,
  ⟨Reg.EVREC.LIFETIME_OP_HOURS, 1, 8⟩,
  ⟨Reg.EVREC.LIFETIME_POWER_CYCLES, 1, 8⟩,
  ⟨Reg.EVREC.RATE_PER_TYPE, 1, 8⟩,
  ⟨Reg.EVREC.CURSOR_SEQ, 1, 8⟩,
  ⟨Reg.EVREC.FILTER_PART_MASK, 1, 8⟩,
  ⟨Reg.EVREC.FILTER_MODULE, 1, 8⟩,
  ⟨Reg.EVREC.FILTER_MIN_SEVERITY, 1, 8⟩,
  ⟨Reg.EVREC.FILTER_TYPE_BLOCK, 1, 8⟩,
  ⟨Reg.EVREC.WINDOW_CTRL_ADVANCE, 1, 8⟩,
  ⟨Reg.EVREC.WINDOW_STATE_READY, 1, 8⟩,
  ⟨Reg.EVREC.WINDOW_STATE_EMPTY, 1, 8⟩,
  ⟨Reg.EVREC.WINDOW_STATE_GAP, 1, 8⟩,
  ⟨Reg.EVREC.WINDOW_STATE_BYTES, 1, 8⟩,
  ⟨Reg.EVREC.WINDOW_SEQ_SEQ, 1, 8⟩,
  ⟨Reg.EVREC.RECORDS_COUNT, 1, 8⟩,
  ⟨Reg.EVREC.DROPPED_COUNT, 1, 8⟩,
  ⟨Reg.EVREC.SUPPRESSED_COUNT, 1, 8⟩,
  ⟨Reg.EVREC.TORN_COUNT, 1, 8⟩]

/-! ### CHECK: R534 -/

def Reg.CHECK.STATUS_BUSY : Fld := ⟨0x1400000, 15, 0, .ro, false, 0⟩
def Reg.CHECK.STATUS_MISMATCH : Fld := ⟨0x1400000, 16, 16, .rw1c, true, 0⟩
def Reg.CHECK.SCANS_COUNT : Fld := ⟨0x1400008, 63, 0, .rsat, false, 0⟩
def Reg.CHECK.BYTES_COUNT : Fld := ⟨0x1400010, 63, 0, .rsat, false, 0⟩
def Reg.CHECK.MISMATCHES_COUNT : Fld := ⟨0x1400018, 63, 0, .rsat, false, 0⟩
def Reg.CHECK.CFG_WIDTH : Fld := ⟨0x1400100, 6, 0, .rw, false, 0x20⟩
def Reg.CHECK.CFG_REFIN : Fld := ⟨0x1400100, 8, 8, .rw, false, 1⟩
def Reg.CHECK.CFG_REFOUT : Fld := ⟨0x1400100, 9, 9, .rw, false, 1⟩
def Reg.CHECK.CFG_PRESET : Fld := ⟨0x1400100, 23, 16, .rw, false, 1⟩
def Reg.CHECK.POLY_POLY : Fld := ⟨0x1400108, 63, 0, .rw, false, 0x1EDC6F41⟩
def Reg.CHECK.INIT_INIT : Fld := ⟨0x1400110, 63, 0, .rw, false, 0xFFFFFFFF⟩
def Reg.CHECK.XOROUT_XOROUT : Fld := ⟨0x1400118, 63, 0, .rw, false, 0xFFFFFFFF⟩
def Reg.CHECK.SAVED_REG : Fld := ⟨0x1400120, 63, 0, .ro, false, 0xFFFFFFFF⟩

/-- The rows of the CHECK register map. -/
def Reg.CHECK.rows : List RegRow := [
  ⟨Reg.CHECK.STATUS_BUSY, 1, 8⟩,
  ⟨Reg.CHECK.STATUS_MISMATCH, 1, 8⟩,
  ⟨Reg.CHECK.SCANS_COUNT, 1, 8⟩,
  ⟨Reg.CHECK.BYTES_COUNT, 1, 8⟩,
  ⟨Reg.CHECK.MISMATCHES_COUNT, 1, 8⟩,
  ⟨Reg.CHECK.CFG_WIDTH, 16, 64⟩,
  ⟨Reg.CHECK.CFG_REFIN, 16, 64⟩,
  ⟨Reg.CHECK.CFG_REFOUT, 16, 64⟩,
  ⟨Reg.CHECK.CFG_PRESET, 16, 64⟩,
  ⟨Reg.CHECK.POLY_POLY, 16, 64⟩,
  ⟨Reg.CHECK.INIT_INIT, 16, 64⟩,
  ⟨Reg.CHECK.XOROUT_XOROUT, 16, 64⟩,
  ⟨Reg.CHECK.SAVED_REG, 16, 64⟩]

/-! ### POWER: R559 -/

def Reg.POWER.CAP_CAP_W : Fld := ⟨0x1500000, 11, 0, .ro, false, 0⟩
def Reg.POWER.CAP_STRAP_DEFAULT : Fld := ⟨0x1500000, 16, 16, .ro, false, 0⟩
def Reg.POWER.STRAPS_PAIR_ID : Fld := ⟨0x1500008, 0, 0, .ro, false, 0⟩
def Reg.POWER.STRAPS_PAIR_DEFAULT : Fld := ⟨0x1500008, 1, 1, .ro, false, 0⟩
def Reg.POWER.ALERT_SPARE_WARN : Fld := ⟨0x1500010, 0, 0, .ro, false, 0⟩
def Reg.POWER.ALERT_FLASH_READ_ONLY : Fld := ⟨0x1500010, 1, 1, .ro, false, 0⟩
def Reg.POWER.ALERT_EVREC_FULL : Fld := ⟨0x1500010, 2, 2, .ro, false, 0⟩
def Reg.POWER.ALERT_STRAP : Fld := ⟨0x1500010, 3, 3, .ro, false, 0⟩
def Reg.POWER.ALERT_HOLDUP_LOW : Fld := ⟨0x1500010, 4, 4, .ro, false, 0⟩
def Reg.POWER.FAULT_LAST_CAUSE : Fld := ⟨0x1500018, 7, 0, .ro, false, 0⟩
def Reg.POWER.FAULT_LAST_OP_HOURS : Fld := ⟨0x1500018, 47, 16, .ro, false, 0⟩
def Reg.POWER.HINTS_COUNT : Fld := ⟨0x1500020, 63, 0, .rsat, false, 0⟩
def Reg.POWER.HINTS_MERGED_COUNT : Fld := ⟨0x1500028, 63, 0, .rsat, false, 0⟩

/-- The rows of the POWER register map. -/
def Reg.POWER.rows : List RegRow := [
  ⟨Reg.POWER.CAP_CAP_W, 1, 8⟩,
  ⟨Reg.POWER.CAP_STRAP_DEFAULT, 1, 8⟩,
  ⟨Reg.POWER.STRAPS_PAIR_ID, 1, 8⟩,
  ⟨Reg.POWER.STRAPS_PAIR_DEFAULT, 1, 8⟩,
  ⟨Reg.POWER.ALERT_SPARE_WARN, 1, 8⟩,
  ⟨Reg.POWER.ALERT_FLASH_READ_ONLY, 1, 8⟩,
  ⟨Reg.POWER.ALERT_EVREC_FULL, 1, 8⟩,
  ⟨Reg.POWER.ALERT_STRAP, 1, 8⟩,
  ⟨Reg.POWER.ALERT_HOLDUP_LOW, 1, 8⟩,
  ⟨Reg.POWER.FAULT_LAST_CAUSE, 1, 8⟩,
  ⟨Reg.POWER.FAULT_LAST_OP_HOURS, 1, 8⟩,
  ⟨Reg.POWER.HINTS_COUNT, 1, 8⟩,
  ⟨Reg.POWER.HINTS_MERGED_COUNT, 1, 8⟩]

/-! ### TEST: R575 -/

def Reg.TEST.CAUSE_RESET_CAUSE : Fld := ⟨0x1600000, 7, 0, .ro, false, 0⟩
def Reg.TEST.CAUSE_START_MS : Fld := ⟨0x1600000, 63, 32, .ro, false, 0⟩
def Reg.TEST.RESET_STATE_IN_RESET : Fld := ⟨0x1600008, 7, 0, .ro, false, 0⟩
def Reg.TEST.RESET_STATE_DONE : Fld := ⟨0x1600008, 15, 8, .rw1c, true, 0⟩
def Reg.TEST.DIAG_RESULT_FAILED : Fld := ⟨0x1600010, 7, 0, .ro, false, 0⟩
def Reg.TEST.DIAG_RESULT_RUNNING : Fld := ⟨0x1600010, 8, 8, .ro, false, 0⟩
def Reg.TEST.DIAG_CORES_FAILED : Fld := ⟨0x1600018, 63, 0, .ro, false, 0⟩
def Reg.TEST.DIAG_STRANDS_COUNT : Fld := ⟨0x1600020, 10, 0, .ro, false, 0⟩
def Reg.TEST.DIAG_STRANDS_FIRST : Fld := ⟨0x1600020, 25, 16, .ro, false, 0⟩
def Reg.TEST.STATUS_ACTIVE : Fld := ⟨0x1600028, 15, 0, .ro, false, 0⟩
def Reg.TEST.STATUS_EXPIRED : Fld := ⟨0x1600028, 16, 16, .rw1c, true, 0⟩
def Reg.TEST.PERTURB_NS_COUNT : Fld := ⟨0x1600030, 63, 0, .rsat, false, 0⟩
def Reg.TEST.PERT_CTRL_PATH : Fld := ⟨0x1600100, 7, 0, .ro, false, 0⟩
def Reg.TEST.PERT_CTRL_MODE : Fld := ⟨0x1600100, 9, 8, .ro, false, 0⟩
def Reg.TEST.PERT_CTRL_PARTITION : Fld := ⟨0x1600100, 12, 10, .ro, false, 0⟩
def Reg.TEST.PERT_CTRL_ALL : Fld := ⟨0x1600100, 13, 13, .ro, false, 0⟩
def Reg.TEST.PERT_CTRL_AMOUNT : Fld := ⟨0x1600100, 63, 32, .ro, false, 0⟩
def Reg.TEST.PERT_END_END_NS : Fld := ⟨0x1600108, 63, 0, .ro, false, 0⟩

/-- The rows of the TEST register map. -/
def Reg.TEST.rows : List RegRow := [
  ⟨Reg.TEST.CAUSE_RESET_CAUSE, 1, 8⟩,
  ⟨Reg.TEST.CAUSE_START_MS, 1, 8⟩,
  ⟨Reg.TEST.RESET_STATE_IN_RESET, 1, 8⟩,
  ⟨Reg.TEST.RESET_STATE_DONE, 1, 8⟩,
  ⟨Reg.TEST.DIAG_RESULT_FAILED, 1, 8⟩,
  ⟨Reg.TEST.DIAG_RESULT_RUNNING, 1, 8⟩,
  ⟨Reg.TEST.DIAG_CORES_FAILED, 1, 8⟩,
  ⟨Reg.TEST.DIAG_STRANDS_COUNT, 1, 8⟩,
  ⟨Reg.TEST.DIAG_STRANDS_FIRST, 1, 8⟩,
  ⟨Reg.TEST.STATUS_ACTIVE, 1, 8⟩,
  ⟨Reg.TEST.STATUS_EXPIRED, 1, 8⟩,
  ⟨Reg.TEST.PERTURB_NS_COUNT, 1, 8⟩,
  ⟨Reg.TEST.PERT_CTRL_PATH, 16, 16⟩,
  ⟨Reg.TEST.PERT_CTRL_MODE, 16, 16⟩,
  ⟨Reg.TEST.PERT_CTRL_PARTITION, 16, 16⟩,
  ⟨Reg.TEST.PERT_CTRL_ALL, 16, 16⟩,
  ⟨Reg.TEST.PERT_CTRL_AMOUNT, 16, 16⟩,
  ⟨Reg.TEST.PERT_END_END_NS, 16, 16⟩]

/-- The register map of the block whose BAR0 window index is b (R438). -/
def blockRows : Nat → List RegRow
  | 0 => Reg.GLOBAL.rows
  | 1 => Reg.MBOX.rows
  | 2 => Reg.CAPS.rows
  | 3 => Reg.SLIDE.rows
  | 4 => Reg.ATTN.rows
  | 5 => Reg.STEP.rows
  | 6 => Reg.BUDGET.rows
  | 7 => Reg.MOUTH.rows
  | 8 => Reg.BORE.rows
  | 9 => Reg.FTL.rows
  | 10 => Reg.MIRROR.rows
  | 11 => Reg.CKPT.rows
  | 12 => Reg.STRAND.rows
  | 13 => Reg.LIG.rows
  | 14 => Reg.SCHED.rows
  | 15 => Reg.REED.rows
  | 16 => Reg.BELL.rows
  | 17 => Reg.TIME.rows
  | 18 => Reg.SEC.rows
  | 19 => Reg.EVREC.rows
  | 20 => Reg.CHECK.rows
  | 21 => Reg.POWER.rows
  | 22 => Reg.TEST.rows
  | _ => []

/-- The rows whose register stands at BAR0 offset off. -/
def rowsAt (off : Nat) : List RegRow :=
  (blockRows (off / 0x100000)).filter (fun r =>
    decide (r.fld.off ≤ off) && decide (off < r.fld.off + r.stride * r.count) && (off - r.fld.off) % r.stride == 0)

/-- Reset values that the tables name by another rule: the thresholds and enables of the warning sources (R353) and the
class, policy and burst limit of the Reed instances (R423). -/
def specialReset (off : Nat) : Nat :=
  if off / 0x100000 == 0xB then
    if off < 0xB00100 || 0xB00140 ≤ off then 0
    else
      let n := (off - 0xB00100) / 8
      ([1000, 1000, 500000000, 1000000, 1000000, 100][n]?).getD 0 + (if n < 6 then 2 ^ 48 else 0)
  else if off / 0x100000 == 0xF && 0xF01000 ≤ off && off < 0xF01000 + 64 * 93 then
    let i := (off - 0xF01000) / 64
    let r := (off - 0xF01000) % 64
    if r == 0 then (if 89 ≤ i then 1 else 0) + (if i == 91 then 2 else 0)
    else if r == 8 then
      (if i < 32 then 200 else if i < 40 then 500 else if i < 72 then 10000 else if i < 89 then 2000 else 10000)
    else 0
  else 0

end Sys2Proof.Machine
end

