-- ==== Sys2Proof/Machine/DataHost.lean ====
section
/-!
DEFINITION. The state of the host attachment, of the event recorder, of the time counter and of the network ports,
as plain records.
-/

namespace Sys2Proof.Machine

open Sys2Proof

/-- The status codes of R454. -/
inductive Status where
  | ok | busy | noSpace | stale | denied | badField | timeout | readOnly | deadEnd | exhausted | mismatch
  | transitional | revoked | damaged | cancelled
  deriving DecidableEq, Repr

/-- The value of a status code (R454). -/
def Status.code : Status → Nat
  | .ok => 0 | .busy => 1 | .noSpace => 2 | .stale => 3 | .denied => 4 | .badField => 5 | .timeout => 6
  | .readOnly => 7 | .deadEnd => 8 | .exhausted => 9 | .mismatch => 10 | .transitional => 11 | .revoked => 12
  | .damaged => 13 | .cancelled => 14

/-- One MSI-X vector: its mask and pending bits, when a block vector last sent, and whether events wait merged in its
holdoff (R449). -/
structure MsixVec where
  masked : Bool
  pending : Bool
  lastSent : Option Nat
  held : Bool
  deriving DecidableEq, Repr

/-- A response slot (R443): its header fields and RESPONSE_LEN bytes of body. -/
structure Response where
  opcode : Nat
  status : Nat
  len : Nat
  tag : Nat
  doneTime : Nat
  detail : Nat
  seq : Nat
  body : Bytes
  deriving DecidableEq, Repr

/-- A mailbox (R441): OWNER, RUNNING, SEQ, the bytes of the command slot and the last response. -/
structure Mailbox where
  owner : Bool
  running : Bool
  seq : Nat
  cmd : Mem
  resp : Option Response
  deriving DecidableEq, Repr

/-- Where a running command stands: not yet acted on, or waiting for a later event to complete it. -/
inductive Stage where
  | fresh | waiting
  deriving DecidableEq, Repr

/-- A command between step 4 and step 6 of R444. data holds what the command remembers while it waits; answered says
that its response has been written with TIMEOUT while its work goes on (R447); tries counts how often its row has been
presented, and reads the attempts of its host-memory transfer that have failed. -/
structure RunCmd where
  id : Nat
  src : Src
  opcode : Nat
  flags : Nat
  tag : Nat
  payload : Bytes
  start : Nat
  stage : Stage
  data : List Nat
  body : Bytes
  tries : Nat
  reads : Nat
  answered : Bool
  noMsix : Bool
  deriving DecidableEq, Repr

/-- The host attachment: the link (R434), the power state (R436), the MSI-X vectors, the mailboxes and the running
commands. -/
structure HostSt where
  linkUp : Bool
  linkMode : Nat
  linkWidth : Nat
  everUp : Bool
  d3hot : Bool
  msix : KMap MsixVec
  boxes : KMap Mailbox
  running : List RunCmd
  nextRun : Nat
  deriving DecidableEq, Repr

/-- An event record of R513 before or after it is programmed. -/
structure EvRecord where
  type : Nat
  partition : Nat
  severity : Nat
  seq : Nat
  time : Nat
  opHours : Nat
  powerCycles : Nat
  body : Bytes
  deriving DecidableEq, Repr

/-- The MARK of a stored record (R513); headless is a record whose MARK is erased or torn and whose LENGTH is out of range
(R517). -/
inductive Mark where
  | erased | valid | discarded | torn | headless
  deriving DecidableEq, Repr

/-- A sector of the record region (R512): absent from the table when erased and free. -/
structure NorSector where
  sectorSeq : Nat
  firstSeq : Nat
  used : Nat
  headerOk : Bool
  closed : Bool
  records : List (EvRecord × Mark)
  deriving DecidableEq, Repr

/-- The loaded window of R521. -/
inductive WindowLoad where
  | idle
  | loading (fromSeq : Nat)
  deriving DecidableEq, Repr

/-- The event recorder: the region, the lifetime block, the queue, the per-type counts of the running second, the
window and a running clear. -/
structure EvSt where
  sectors : KMap NorSector
  erases : KMap Nat
  nextSectorSeq : Nat
  nextSeq : Nat
  opHours : Nat
  powerCycles : Nat
  queue : List EvRecord
  lostCount : Nat
  lostBytes : Nat
  second : Nat
  counts : KMap Nat
  suppressed : KMap Nat
  window : Option EvRecord
  load : WindowLoad
  clearing : Option Nat
  lastHour : Nat
  deriving DecidableEq, Repr

/-- The time counter (R476). mono counts elapsed nanoseconds and is not moved by a step, so that an interval measured
from a start in it keeps its length across a step (R479). -/
structure Clk where
  now : Nat
  frac : Nat
  mono : Nat
  deriving DecidableEq, Repr

/-- The PTP servo (R477, R478). -/
structure PtpSt where
  master : Option Announce
  lastAnnounce : Nat
  meanDelay : Option Int
  smallRun : Nat
  largeRun : List Int
  stepAllowed : Bool
  setByPtp : Bool
  deriving DecidableEq, Repr

/-- An entry of the fabric map (R460). -/
structure MapEntry where
  endpoint : Nat
  kind : Nat
  partition : Nat
  udpPort : Nat
  address : Nat
  serial : Nat
  deriving DecidableEq, Repr

/-- A map delivery under way (R461). -/
structure MapDelivery where
  version : Nat
  parts : Nat
  started : Nat
  got : KMap (List MapEntry)
  deriving DecidableEq, Repr

/-- What a frame of the network carries. -/
inductive Pkt where
  /-- a session-protocol frame to an endpoint -/
  | session (endpoint : Nat) (f : SessFrame)
  /-- an RDMA WRITE to an endpoint's memory -/
  | write (endpoint addr : Nat) (data : Bytes)
  /-- an RDMA READ request -/
  | read (endpoint addr len : Nat)
  /-- a SEND of a model message -/
  | send (endpoint : Nat) (msg : ModelMsg)
  /-- connection set-up of a queue pair -/
  | connect (endpoint : Nat)
  /-- a NAK with remote access error -/
  | nak (endpoint : Nat)
  deriving DecidableEq, Repr

/-- The bytes of a packet on the wire, headers of the published standards left out. -/
def Pkt.length : Pkt → Nat
  | .session _ f => 32 + f.body.length
  | .write _ _ d => d.length
  | .read _ _ _ => 16
  | .send _ m => 48 + m.body.length
  | .connect _ => 256
  | .nak _ => 4

/-- A frame in an egress queue. -/
structure QFrame where
  pkt : Pkt
  bytes : Nat
  since : Nat
  deriving DecidableEq, Repr

/-- An egress queue (R471): configuration, the two buckets of its shaper, its frames, the frames whose producer waits
for room, the deficit of its round robin and its samples (R474). -/
structure EgressQueue where
  portMask : Nat
  tc : Nat
  partition : Nat
  weight : Nat
  bind : Nat
  cir : Nat
  pir : Nat
  cbs : Nat
  pbs : Nat
  cLevel : Nat
  pLevel : Nat
  filled : Nat
  frames : List QFrame
  waiting : List QFrame
  deficit : Nat
  depthNow : Nat
  depthMax : Nat
  delayNow : Nat
  delayMax : Nat
  framesSent : Nat
  deriving DecidableEq, Repr

/-- A policer (R473). -/
structure Policer where
  endpoint : Nat
  dropYellow : Bool
  cir : Nat
  pir : Nat
  cbs : Nat
  pbs : Nat
  cLevel : Nat
  pLevel : Nat
  filled : Nat
  yellow : Nat
  deriving DecidableEq, Repr

/-- A gate control list (R475). -/
structure GateList where
  baseTime : Nat
  entries : List (Nat × Nat)
  deriving DecidableEq, Repr

/-- A sub-port: whether it is up, when that last changed, the traffic classes that flow control pauses, its gate lists
and the frames that stand at its arbiter (R458, R459, R472, R475). -/
structure SubPort where
  up : Bool
  lastChange : Nat
  paused : Nat
  gates : Option GateList
  nextGates : Option GateList
  gateState : Nat
  atArbiter : List (Nat × QFrame)
  rr : Nat
  deriving DecidableEq, Repr

/-- A port: split, MTU and VLAN (R458, R459). -/
structure PortCfg where
  split : Nat
  mtu : Nat
  vlan : Nat
  deriving DecidableEq, Repr

/-- A frame that the module keeps until an ACK covers it (R468). -/
structure Retained where
  seq : Nat
  frame : SessFrame
  sent : Nat
  first : Nat
  interval : Nat
  deriving DecidableEq, Repr

/-- The session with one endpoint (R468, R469): the number of the module's next frame and whether NEW_SESSION goes with it,
the number that the other side's next frame has and whether its numbering has begun, the frames held ahead of a gap, the
frames retained, and since when an ACK is owed. -/
structure Session where
  txNext : Nat
  txFresh : Bool
  rxNext : Nat
  rxOpen : Bool
  ahead : List SessFrame
  retained : List Retained
  ackOwed : Option Nat
  down : Bool
  deriving DecidableEq, Repr

/-- A queue pair to a dense pool or a storage node (R464). -/
structure QueuePair where
  endpoint : Nat
  error : Bool
  slowed : Bool
  deriving DecidableEq, Repr

/-- The network block (R458 to R486). -/
structure BellSt where
  ports : List PortCfg
  subports : List SubPort
  map : KMap MapEntry
  mapVersion : Nat
  mapInstalled : Bool
  delivery : Option MapDelivery
  sessions : KMap Session
  queues : KMap EgressQueue
  policers : KMap Policer
  qps : KMap QueuePair
  takenOver : Bool
  lastRegister : Option Nat
  lastSample : Nat
  deriving DecidableEq, Repr

/-- A partition's configuration record (R402). -/
structure PartCfg where
  attnMask : Nat
  strandFirst : Nat
  strandCount : Nat
  flags : Nat
  hbmQuota : Nat
  entryQuota : Nat
  ligQuota : Nat
  hostCredits : Nat
  deriving DecidableEq, Repr

/-- What left the module, as an observer outside sees it. -/
inductive Emission where
  /-- an MSI-X message on a vector (R449) -/
  | msix (vector : Nat)
  /-- a record on the partner link (R314) -/
  | record (r : MirrorRec)
  /-- a packet on a sub-port (R472) -/
  | packet (subport : Nat) (p : Pkt)
  /-- a fetch or a query between the modules of the pair that no mirror record carries (R63, R73): what it is, the numbers
  and the data -/
  | pair (what : Nat) (nums : List Nat) (data : Bytes)
  /-- the data of a CXL.mem read (R440) -/
  | hdmData (addr : Nat) (data : Bytes)
  /-- the value of a register read (R476) -/
  | regData (offset value : Nat)
  /-- a response on the management port: the operation, the counter echoed, the status code, the body and the signature of
  the identity key (R505) -/
  | mgmt (op counter status : Nat) (body signature : Bytes)
  deriving DecidableEq, Repr

end Sys2Proof.Machine
end

