-- ==== Sys2Proof/Machine/DataSync.lean ====
section
/-!
DEFINITION. The state of the strand cores, of the Ligature objects and of the partition schedule, as plain records.
-/

namespace Sys2Proof.Machine

open Sys2Proof

/-- Who waits on a Ligature object: a strand thread (core × 8 + thread) or the program of an attention core. -/
inductive Party where
  | thread (t : Nat)
  | core (c : Nat)
  deriving DecidableEq, Repr

/-- A wait in an object's bank (R386, R387): who, when it started, its timeout and whether it is an LRECV. -/
structure LigWait where
  who : Party
  start : Nat
  timeout : Option Nat
  recv : Bool
  deriving DecidableEq, Repr

/-- A Ligature object (R383 to R392). value is the count, the arrivals, or 1 for SET. owner is the job that owns it,
none for the partition. revokedJob is its former owner, and ended tells that this job is over (R392). -/
structure LigObj where
  kind : Nat
  partition : Nat
  param : Nat
  value : Nat
  msgs : List Nat
  waiters : List LigWait
  owner : Option Nat
  revokedJob : Option Nat
  ended : Bool
  deriving DecidableEq, Repr

/-- The Ligature fabric: the live objects by index and the generation that each index has reached. -/
structure LigSt where
  objs : KMap LigObj
  gens : KMap Nat
  deriving DecidableEq, Repr

/-- A load in flight (R375): the register it writes, the value it brings, whether it crosses the host link, and where
it was issued. -/
structure LoadInFlight where
  reg : Nat
  value : Word
  host : Bool
  pc : Nat
  addr : Nat
  start : Nat
  credited : Bool
  deriving DecidableEq, Repr

/-- A HOST-window store that the host link has not acknowledged (R374). -/
structure HostStore where
  pc : Nat
  addr : Nat
  start : Nat
  credited : Bool
  deriving DecidableEq, Repr

/-- What a thread waits for. -/
inductive TWait where
  | none
  /-- a Ligature wait on the object at an index; d and c are the destination registers -/
  | lig (index d c : Nat) (recv : Bool)
  /-- FENCE with IMM 1 -/
  | fence
  /-- an access through the host link that is down -/
  | host (addr start : Nat)
  deriving DecidableEq, Repr

/-- A hardware thread that is in a job (R364, R368). Registers not listed hold zero. -/
structure Thread where
  job : Nat
  index : Nat
  regs : KMap Word
  pc : Nat
  slice : Mem
  rng : Nat × Nat
  loads : List LoadInFlight
  stores : List HostStore
  wait : TWait
  suspended : Bool
  deriving DecidableEq, Repr

/-- A job (R364, R380) with its class, weight, credits and pre-emption window (R405, R406, R413, R416). -/
structure Job where
  program : Nat
  partition : Nat
  startTime : Nat
  threads : Nat
  faulted : Nat
  stopOnFault : Bool
  doneObj : Nat
  faultObj : Nat
  background : Bool
  weight : Nat
  credits : Nat
  window : Option Nat
  suspended : Bool
  deriving DecidableEq, Repr

/-- A loaded strand program (R377, R379). -/
structure StrandProg where
  addr : Nat
  words : Nat
  entry : Nat
  partition : Nat
  deriving DecidableEq, Repr

/-- An engine command that a strand issued and that has not completed (R371). -/
structure Issued where
  partition : Nat
  thread : Nat
  job : Nat
  block : Nat
  flag : Nat
  deriving DecidableEq, Repr

/-- A line of a strand core's data cache (R363, R374): the strand address of its first byte and its bytes as they were read. -/
structure CacheLine where
  core : Nat
  addr : Nat
  bytes : Bytes
  deriving DecidableEq, Repr

/-- The strand cores. lines are those of every core's data cache. -/
structure StrandSt where
  programs : KMap StrandProg
  jobs : KMap Job
  threads : KMap Thread
  issued : KMap Issued
  nextIssue : Nat
  lines : List CacheLine
  deriving DecidableEq, Repr

/-- A bank of the schedule table (R407): entries not listed are zero. -/
structure SchedBank where
  entries : KMap Nat
  rtMask : Nat
  loaded : Bool
  deriving DecidableEq, Repr

/-- Where the weighted round of an engine's lanes stands (R405): how many commands a lane of enough weight has had its turn to give,
and the lane that gave the last one. -/
structure LaneTurn where
  turn : Nat
  last : Nat
  deriving DecidableEq, Repr

/-- The partition schedule (R402 to R418). lanes holds the rounds by engine, partition and class (R405, R406). -/
structure SchedSt where
  configDefault : Bool
  active : Nat
  bank0 : SchedBank
  bank1 : SchedBank
  pending : Bool
  offPending : Bool
  epoch : Nat
  nextEpoch : Option Nat
  lastBoundary : Option Nat
  cycleOn : Bool
  notice : KMap Nat
  suspended : Nat
  foreground : Nat
  buildSlot : Nat
  freeCredits : KMap Nat
  progBackground : KMap Bool
  progWeight : KMap Nat
  lanes : KMap LaneTurn
  deriving DecidableEq, Repr

/-- One frame of a core program's LOOP stack (R124): the operations repeated and the repetitions left. -/
structure LoopFrame where
  first : Nat
  last : Nat
  left : Nat
  deriving DecidableEq, Repr

/-- A core program that runs on a core (R124, R130). stop is the fault code with which it stops at its next operation boundary
(R125, R131). -/
structure CoreRun where
  program : Nat
  partition : Nat
  image : Nat
  ops : Nat
  sram : Nat
  regionBase : Nat
  regionSize : Nat
  doneObj : Nat
  op : Nat
  loops : List LoopFrame
  waiting : Bool
  suspended : Bool
  window : Option Nat
  sliceStart : Nat
  stop : Option Nat
  deriving DecidableEq, Repr

/-- A request at a Reed arbiter (R424): the requester, its partition tag (8 for MODULE), when it arrived, its length in
64-byte units and what it has waited through. -/
structure ReedReq where
  requester : Nat
  tag : Nat
  arrival : Nat
  units : Nat
  waited : Nat
  flagged : Bool
  deriving DecidableEq, Repr

/-- A Reed arbiter (R423 to R432): the requests that wait, the holder and when it was granted, the last holder, the
counter of NTH and the masked partitions. -/
structure ReedInst where
  waiting : List ReedReq
  holder : Option ReedReq
  granted : Nat
  lastHolder : Nat
  nth : Nat
  deriving DecidableEq, Repr

/-- A range of the firewall record (R497): TIER 0 HBM, 1 LPDDR, 2 host; ACCESS [0] STRAND_READ, [1] STRAND_WRITE,
[2] ENGINE, [3] HOST_READ. -/
structure FwRange where
  partition : Nat
  tier : Nat
  access : Nat
  base : Nat
  size : Nat
  deriving DecidableEq, Repr

end Sys2Proof.Machine
end

