-- ==== Sys2Proof/Machine/Float.lean ====
section
/-!
DEFINITION. Number formats and arithmetic: exact values, the element encodings of R135, block scaling (R137, R138),
rounding (R144, R145) and the approximators (R146).
-/

namespace Sys2Proof.Machine

open Sys2Proof

/-- A floating-point value: a NaN, an infinity, or ±m × 2^e. A zero keeps its sign. -/
inductive FV where
  | nan
  | inf (neg : Bool)
  | fin (neg : Bool) (m : Nat) (e : Int)
  deriving DecidableEq, Repr

/-- A binary element format of R135: exponent and fraction bits, bias, and the codes of its largest finite value,
its infinity and its NaN. -/
structure FFmt where
  ebits : Nat
  fbits : Nat
  bias : Nat
  maxCode : Nat
  infCode : Option Nat
  nanCode : Option Nat
  deriving DecidableEq, Repr

def fp32 : FFmt := ⟨8, 23, 127, 0x7F7FFFFF, some 0x7F800000, some 0x7FC00000⟩
def bf16 : FFmt := ⟨8, 7, 127, 0x7F7F, some 0x7F80, some 0x7FC0⟩
def fp16 : FFmt := ⟨5, 10, 15, 0x7BFF, some 0x7C00, some 0x7E00⟩
def e5m2 : FFmt := ⟨5, 2, 15, 0x7B, some 0x7C, some 0x7F⟩
def e4m3 : FFmt := ⟨4, 3, 7, 0x7E, none, some 0x7F⟩
def e3m2 : FFmt := ⟨3, 2, 3, 0x1F, none, none⟩
def e2m3 : FFmt := ⟨2, 3, 1, 0x1F, none, none⟩
def e2m1 : FFmt := ⟨2, 1, 1, 0x7, none, none⟩

/-- Bits of a code, sign included. -/
def FFmt.width (f : FFmt) : Nat := 1 + f.ebits + f.fbits

/-- The value of a code. Subnormals are decoded exactly (R136). -/
def FFmt.decode (f : FFmt) (code : Nat) : FV :=
  let neg := bit code (f.ebits + f.fbits)
  let mag := code % 2 ^ (f.ebits + f.fbits)
  if mag ≤ f.maxCode then
    let ex := mag / 2 ^ f.fbits
    let fr := mag % 2 ^ f.fbits
    if ex == 0 then .fin neg fr (1 - (f.bias : Int) - f.fbits)
    else .fin neg (2 ^ f.fbits + fr) ((ex : Int) - f.bias - f.fbits)
  else if f.infCode == some mag then .inf neg
  else .nan

/-- m × 2^s rounded to an integer, to nearest even. -/
def rneShift (m : Nat) (s : Int) : Nat :=
  if 0 ≤ s then m * 2 ^ s.toNat
  else
    let d := 2 ^ (-s).toNat
    let q := m / d
    let r := m % d
    if 2 * r < d then q else if 2 * r == d then q + q % 2 else q + 1

/-- The magnitude code of m × 2^e, rounded to nearest even, not yet bounded. -/
def FFmt.roundMag (f : FFmt) (m : Nat) (e : Int) : Nat :=
  if m == 0 then 0
  else
    let low : Int := 1 - (f.bias : Int) - f.fbits
    let q : Int := max ((Nat.log2 m : Int) + e - f.fbits) low
    (q - low).toNat * 2 ^ f.fbits + rneShift m (e - q)

/-- The code of a value. A finite value beyond the largest finite saturates when sat is set (R145) and becomes an
infinity otherwise (IEEE 754, R144). -/
def FFmt.encode (f : FFmt) (sat : Bool) (v : FV) : Nat :=
  let sgn (neg : Bool) : Nat := if neg then 2 ^ (f.ebits + f.fbits) else 0
  match v with
  | .nan => f.nanCode.getD 0
  | .inf neg => sgn neg + f.infCode.getD f.maxCode
  | .fin neg m e =>
    let c := f.roundMag m e
    if c ≤ f.maxCode then sgn neg + c
    else if sat then sgn neg + f.maxCode
    else sgn neg + f.infCode.getD f.maxCode

/-- A value of FP32 after rounding to nearest even, with IEEE overflow. -/
def round32 (v : FV) : FV := fp32.decode (fp32.encode false v)

/-- The signed integer mantissa of ±m × 2^e over the common exponent c ≤ e. -/
def scaled (neg : Bool) (m : Nat) (e c : Int) : Int :=
  let a : Int := (m : Int) * 2 ^ (e - c).toNat
  if neg then -a else a

/-- The exact sum. A zero sum of opposite signs is +0 (IEEE 754). -/
def FV.add : FV → FV → FV
  | .nan, _ => .nan
  | _, .nan => .nan
  | .inf a, .inf b => if a == b then .inf a else .nan
  | .inf a, _ => .inf a
  | _, .inf b => .inf b
  | .fin sa ma ea, .fin sb mb eb =>
    let c := min ea eb
    let t := scaled sa ma ea c + scaled sb mb eb c
    if t == 0 then .fin (sa && sb) 0 c else .fin (decide (t < 0)) t.natAbs c

/-- The exact product. -/
def FV.mul : FV → FV → FV
  | .nan, _ => .nan
  | _, .nan => .nan
  | .inf a, .inf b => .inf (a != b)
  | .inf a, .fin b m _ => if m == 0 then .nan else .inf (a != b)
  | .fin a m _, .inf b => if m == 0 then .nan else .inf (a != b)
  | .fin a m e, .fin b n k => .fin (a != b) (m * n) (e + k)

/-- The quotient of two finite values with enough bits, and a sticky bit, that one later rounding is correct. -/
def FV.div : FV → FV → FV
  | .nan, _ => .nan
  | _, .nan => .nan
  | .inf _, .inf _ => .nan
  | .inf a, .fin b _ _ => .inf (a != b)
  | .fin a _ _, .inf b => .fin (a != b) 0 0
  | .fin a m e, .fin b n k =>
    if n == 0 then (if m == 0 then .nan else .inf (a != b))
    else
      let sh := 80 + Nat.log2 n
      let q := (m * 2 ^ sh) / n
      let r := (m * 2 ^ sh) % n
      .fin (a != b) (2 * q + (if r == 0 then 0 else 1)) (e - k - sh - 1)

/-- x × 2^k, exact. -/
def FV.scale (k : Int) : FV → FV
  | .fin s m e => .fin s m (e + k)
  | v => v

/-- The value is a NaN. -/
def FV.isNan : FV → Bool
  | .nan => true
  | _ => false

/-- The value is an infinity. -/
def FV.isInf : FV → Bool
  | .inf _ => true
  | _ => false

/-- The order of the maximum: −0 below +0 (R144). NaNs are handled by the caller. -/
def FV.lt : FV → FV → Bool
  | .inf a, .inf b => a && !b
  | .inf a, _ => a
  | _, .inf b => !b
  | .fin sa ma ea, .fin sb mb eb =>
    let c := min ea eb
    let x := scaled sa ma ea c
    let y := scaled sb mb eb c
    decide (x < y) || (x == 0 && y == 0 && sa && !sb)
  | _, _ => false

/-- The maximum; a NaN propagates (R144). -/
def FV.max (a b : FV) : FV := if a.isNan || b.isNan then .nan else if a.lt b then b else a

/-- The greatest integer not above a finite value; 0 for the rest. -/
def FV.floor : FV → Int
  | .fin s m e =>
    if 0 ≤ e then scaled s m e 0
    else (if s then -(m : Int) else (m : Int)) / (2 ^ (-e).toNat : Nat)
  | _ => 0

/-- The least integer not below a finite value; 0 for the rest. -/
def FV.ceil : FV → Int
  | .fin s m e => -(FV.floor (.fin (!s) m e))
  | _ => 0

/-- The rational value of a finite value; 0 for the rest. -/
def FV.toRat : FV → Rat
  | .fin s m e =>
    let q : Rat := if 0 ≤ e then (m * 2 ^ e.toNat : Nat) else mkRat m (2 ^ (-e).toNat)
    if s then -q else q
  | _ => 0

/-- The value of an integer. -/
def FV.ofInt (i : Int) : FV := .fin (decide (i < 0)) i.natAbs 0

/-- FP32 addition, correctly rounded (R144). -/
def add32 (a b : FV) : FV := round32 (a.add b)

/-- FP32 multiplication, correctly rounded (R144). -/
def mul32 (a b : FV) : FV := round32 (a.mul b)

/-- A value rounded to n fraction bits below its leading bit, to nearest even. -/
def roundBits (n : Nat) : FV → FV
  | .fin s m e =>
    if m == 0 then .fin s 0 e
    else
      let q : Int := (Nat.log2 m : Int) - n
      .fin s (rneShift m (-q)) (e + q)
  | v => v

/-! ### Format codes (R134) -/

/-- The plain element format of a FORMAT code, with true for the block-scaled (MX) codes. -/
def elemFmt : Nat → Option (FFmt × Bool)
  | 0x01 => some (fp32, false)
  | 0x02 => some (bf16, false)
  | 0x03 => some (fp16, false)
  | 0x04 => some (e4m3, false)
  | 0x05 => some (e5m2, false)
  | 0x06 => some (e4m3, true)
  | 0x07 => some (e5m2, true)
  | 0x08 => some (e3m2, true)
  | 0x09 => some (e2m3, true)
  | 0x0A => some (e2m1, true)
  | _ => none

/-- FORMAT is allowed in MATMUL. -/
def matmulFmt (f : Nat) : Bool := decide (2 ≤ f) && decide (f ≤ 0x0B)

/-- FORMAT is allowed in VECOP. -/
def vecopFmt (f : Nat) : Bool := decide (1 ≤ f) && decide (f ≤ 0x0C)

/-- The value of an E8M0 scale code; 0xFF is NaN (R135, R138). -/
def scaleVal (code : Nat) : FV := if code == 0xFF then .nan else .fin false 1 ((code : Int) - 127)

/-- Element i of a packed row of w-bit elements (R137). -/
def packedElem (w : Nat) (b : Bytes) (i : Nat) : Nat :=
  if w == 6 then bits (field b (3 * (i / 4)) 3) (6 * (i % 4) + 5) (6 * (i % 4))
  else if w == 4 then bits (u8 b (i / 2)) (4 * (i % 2) + 3) (4 * (i % 2))
  else field b (i * (w / 8)) (w / 8)

/-- The element bytes of a row of n elements of w bits (R137). -/
def rowElemBytes (w n : Nat) : Nat :=
  if w == 6 then 3 * ceilDiv n 4 else ceilDiv (n * w) 8

/-- The bytes of a row of n elements in FORMAT f, scales included. -/
def rowBytes (f n : Nat) : Nat :=
  match elemFmt f with
  | some (e, mx) => rowElemBytes e.width n + (if mx then ceilDiv n 32 else 0)
  | none => if f == 0x0B then n else 4 * n

/-- Element values of a row in FORMAT f, before its block scales, and the scales by block. -/
def rowParts (f n : Nat) (b : Bytes) : List FV × List FV :=
  match elemFmt f with
  | some (e, mx) =>
    let w := e.width
    ((List.range n).map (fun i => e.decode (packedElem w b i)),
     if mx then (List.range (ceilDiv n 32)).map (fun i => scaleVal (u8 b (rowElemBytes w n + i))) else [])
  | none =>
    ((List.range n).map (fun i =>
      if f == 0x0B then FV.ofInt (sext 8 (u8 b i)) else FV.ofInt (sext 32 (u32 b (4 * i)))), [])

/-- The values of a row in FORMAT f: element times block scale, MX values beyond the FP32 range becoming infinities and
INT32 rounding to nearest even (R144). -/
def rowVals (f n : Nat) (b : Bytes) : List FV :=
  let (es, ss) := rowParts f n b
  if ss.isEmpty then es.map round32
  else (es.zipIdx).map (fun (v, i) => round32 (v.mul (nthD ss (i / 32) (.fin false 1 0))))

/-- The scale exponent of R138 for the largest magnitude of a block: an infinite magnitude gives the clamp's 127, and in a block
that holds a NaN only the finite values count (R145). -/
def scaleExp (f : FFmt) (vs : List FV) : Int :=
  let fin := vs.filterMap (fun v => match v with
    | .fin _ m e => if m == 0 then none else some (m, e)
    | _ => none)
  let fmax := f.decode f.maxCode
  -- the least E with |v| ≤ fmax × 2^E for every finite v
  let need (m : Nat) (e : Int) : Int :=
    match fmax with
    | .fin _ fm fe =>
      let base := (Nat.log2 m : Int) + e - ((Nat.log2 fm : Int) + fe)
      let fits (k : Int) : Bool :=
        let c := min e (fe + k)
        decide (scaled false m e c ≤ scaled false fm (fe + k) c)
      if fits (base - 1) then base - 1 else if fits base then base else base + 1
    | _ => 0
  if vs.any FV.isInf && !vs.any FV.isNan then 127
  else match fin with
  | [] => -127
  | _ => Max.max (-127) (Min.min 127 (fin.foldl (fun a (m, e) => Max.max a (need m e)) (-200000)))

/-- Pack codes of w bits into bytes (R137). -/
def packCodes (w : Nat) (cs : List Nat) : Bytes :=
  if w == 6 then
    (List.range (ceilDiv cs.length 4)).flatMap (fun i =>
      leBytes 3 (nthD cs (4 * i) 0 + 64 * nthD cs (4 * i + 1) 0 + 4096 * nthD cs (4 * i + 2) 0
        + 262144 * nthD cs (4 * i + 3) 0))
  else if w == 4 then
    (List.range (ceilDiv cs.length 2)).flatMap (fun i =>
      leBytes 1 (nthD cs (2 * i) 0 + 16 * nthD cs (2 * i + 1) 0))
  else cs.flatMap (fun c => leBytes (w / 8) c)

/-- An integer conversion: to nearest even, saturating at the ends of w bits; a NaN gives nan (R145). -/
def toIntCode (w : Nat) (nan : Nat) : FV → Nat
  | .nan => nan
  | .inf neg => if neg then 2 ^ (w - 1) else 2 ^ (w - 1) - 1
  | .fin neg m e =>
    let q := rneShift m e
    let i : Int := if neg then -(q : Int) else q
    trunc w (Max.max (-(2 : Int) ^ (w - 1)) (Min.min ((2 : Int) ^ (w - 1) - 1) i))

/-- FP32 values converted to FORMAT f (R138, R145). -/
def convertRow (f : Nat) (vs : List FV) : Bytes :=
  match elemFmt f with
  | some (e, false) => packCodes e.width (vs.map (e.encode true))
  | some (e, true) =>
    let nb := ceilDiv vs.length 32
    let exps := (List.range nb).map (fun b => scaleExp e ((vs.drop (32 * b)).take 32))
    packCodes e.width ((vs.zipIdx).map (fun (v, i) => e.encode true (v.scale (-(nthD exps (i / 32) 0)))))
      ++ exps.map (fun x => BitVec.ofInt 8 (x + 127))
  | none =>
    if f == 0x0B then vs.map (fun v => BitVec.ofNat 8 (toIntCode 8 0 v))
    else vs.flatMap (fun v => leBytes 4 (toIntCode 32 Config.nanToInt32.toNat v))

/-- FP32 values as bytes. -/
def fp32Bytes (vs : List FV) : Bytes := vs.flatMap (fun v => leBytes 4 (fp32.encode false v))

/-! ### Approximators (R146) -/

/-- e^x to a relative error far below 2^-40, as a rational: a Taylor sum at x / 256, squared eight times. -/
def expRat (x : Rat) : Rat :=
  let y := x / 256
  let s := ((List.range 24).foldl (fun (acc : Rat × Rat) i => (acc.1 + acc.2, acc.2 * y / (i + 1))) (0, 1)).1
  (List.range 8).foldl (fun (a : Rat) _ => a * a) s

/-- ln 2 to 2^-60. -/
def ln2Rat : Rat := mkRat 799144290325165979 (2 ^ 60)

/-- c lies within a relative error 2^-n of v, with 2^-40 for the rational approximation of v. -/
def within (n : Nat) (c v : Rat) : Bool :=
  decide ((if c < v then v - c else c - v) ≤ (if v < 0 then -v else v) * (mkRat 1 (2 ^ n) - mkRat 1 (2 ^ 40)))

/-- A rational rounded to FP32. -/
def ratTo32 (q : Rat) : FV :=
  round32 (FV.div (FV.ofInt q.num) (FV.ofInt q.den))

/-- The approximator's output where it meets the bound of R146, and the correctly rounded value where it does not, so
that every value stays inside the bound and no value inside it is chosen. -/
def bounded (n : Nat) (c : FV) (exact : Rat) : FV :=
  if !c.isNan && !c.isInf && within n c.toRat exact then c else ratTo32 exact

/-- VECOP exponent. Beyond |x| = 88 and up to the saturation points the bound does not apply. -/
def exp32 (x : FV) : FV :=
  match x with
  | .nan => .nan
  | .inf neg => if neg then .fin false 0 0 else .inf false
  | .fin _ _ _ =>
    let q := x.toRat
    let c := fp32.decode (Config.expApprox (BitVec.ofNat 32 (fp32.encode false x))).toNat
    if q > mkRat 8872 100 then .inf false
    else if q < mkRat (-10397) 100 then .fin false 0 0
    else if q ≤ 88 ∧ -88 ≤ q then bounded 11 c (expRat q)
    else c

/-- The value is a subnormal or a zero of FP32 (R136). -/
def tiny32 : FV → Bool
  | .fin _ m e => decide (fp32.roundMag m e < 0x800000)
  | _ => false

/-- The sign of a value. -/
def FV.isNeg : FV → Bool
  | .nan => false
  | .inf n => n
  | .fin n _ _ => n

/-- VECOP reciprocal. -/
def recip32 (x : FV) : FV :=
  match x with
  | .nan => .nan
  | .inf n => .fin n 0 0
  | .fin n _ _ =>
    if tiny32 x then .inf n
    else bounded 14 (fp32.decode (Config.recipApprox (BitVec.ofNat 32 (fp32.encode false x))).toNat) (x.toRat)⁻¹

/-- The square root of a positive rational to a relative error below 2^-60. -/
def sqrtRat (q : Rat) : Rat :=
  let k := 2 * (64 + Nat.log2 q.den + 1)
  mkRat (Nat.sqrt ((q.num.toNat * 2 ^ k) / q.den)) (2 ^ (k / 2))

/-- VECOP reciprocal square root. A subnormal input is a zero of the same sign (R136); −0 is not named among the
special inputs and follows the rule of a zero of a negative number, a NaN (DEDUCED, assumption 30). -/
def rsqrt32 (x : FV) : FV :=
  match x with
  | .nan => .nan
  | .inf n => if n then .nan else .fin false 0 0
  | .fin n _ _ =>
    if n then .nan
    else if tiny32 x then .inf false
    else bounded 13 (fp32.decode (Config.rsqrtApprox (BitVec.ofNat 32 (fp32.encode false x))).toNat)
      (sqrtRat x.toRat)⁻¹

/-- pow2 of a fraction in [0, 1) inside fused commands; pow2(0) is 1 exactly. -/
def pow2f (x : FV) : FV :=
  match x with
  | .fin _ 0 _ => .fin false 1 0
  | _ => bounded 12 (fp32.decode (Config.pow2Approx (BitVec.ofNat 32 (fp32.encode false x))).toNat)
      (expRat (x.toRat * ln2Rat))

/-! ### The array (R142) -/

/-- The sum of products in reduction order, each addition rounded to FP32. -/
def dotAcc (acc : FV) : List FV → List FV → FV
  | a :: as, b :: bs => dotAcc (add32 acc (a.mul b)) as bs
  | _, _ => acc

/-- The dot product of block-scaled operands: 32-deep partial sums, each rounded, times the block's scales, added in
block order (quarter mode). -/
def dotBlocks (acc : FV) (n : Nat) (a b : List FV) (sa sb : List FV) : FV :=
  (List.range (ceilDiv n 32)).foldl (fun acc i =>
    let part := dotAcc (.fin false 0 0) ((a.drop (32 * i)).take 32) ((b.drop (32 * i)).take 32)
    let s := (nthD sa i (.fin false 1 0)).mul (nthD sb i (.fin false 1 0))
    add32 acc (mul32 part s)) acc

/-- INT32 accumulation, exact and saturating (R142). -/
def satI32 (i : Int) : Int := Max.max (-(2 : Int) ^ 31) (Min.min ((2 : Int) ^ 31 - 1) i)

/-- Pairwise sum in a fixed tree over the element index: neighbours are added again and again, whatever the row's length (R144,
assumption 196). -/
def pairSum (fuel : Nat) (vs : List FV) : FV :=
  match fuel with
  | 0 => vs.headD (.fin false 0 0)
  | fuel + 1 =>
    match vs with
    | [] => .fin false 0 0
    | [v] => v
    | _ =>
      let rec pairs : List FV → List FV
        | a :: b :: rest => add32 a b :: pairs rest
        | l => l
      pairSum fuel (pairs vs)

/-- The k greatest of a row with their indices, greatest first, ties to the lower index, NaN below every number; −0 ranks below
+0, as it does in a maximum (R144, assumption 197). -/
def topK (k : Nat) (vs : List FV) : List (Nat × FV) :=
  let ge (a b : Nat × FV) : Bool := b.2.isNan || (!a.2.isNan && !(a.2.lt b.2))
  ((sortBy (fun a b => ge a b) (vs.zipIdx.map (fun (v, i) => (i, v)))).take k)

end Sys2Proof.Machine
end

