-- ==== Sys2Proof/Machine/DataAttn.lean ====
section
/-!
DEFINITION. The state of page frames as a tier holds them and of the attention cores, as plain records.
-/

namespace Sys2Proof.Machine

open Sys2Proof

/-- A token slot of a page with its SLOT_META (R50): position, state, tree node and SLOT_BYTES bytes of latent. -/
structure Slot where
  pos : Nat
  state : Nat
  node : Nat
  bytes : Bytes
  deriving DecidableEq, Repr

/-- A page frame (R49, R50) by its meaning: the header fields that its eight tiles share, per tile the LEASE_EPOCH and
WRITE_TIME, the slots that have been written, and the 4 KiB blocks whose check value fails. -/
structure Frame where
  capsule : Nat
  layer : Nat
  page : Nat
  fmt : Nat
  slotBytes : Nat
  fill : Nat
  shared : Bool
  tiles : KMap (Nat × Nat)
  slots : KMap Slot
  bad : List Nat
  deriving DecidableEq, Repr

/-- A registered model (R109, R126). -/
structure Model where
  layers : Nat
  heads : Nat
  latentDim : Nat
  ropeDim : Nat
  latFmt : Nat
  qkDim : Nat
  vDim : Nat
  upFmt : Nat
  partition : Nat
  upAddr : Nat
  windows : List Nat
  deriving DecidableEq, Repr

/-- A fused attention descriptor (R113). -/
structure Desc where
  kind : Nat
  maskMode : Nat
  flags : Nat
  partition : Nat
  capsule : Nat
  request : Nat
  step : Nat
  model : Nat
  layer : Nat
  headFirst : Nat
  headCount : Nat
  route : Nat
  queryCount : Nat
  basePos : Nat
  window : Nat
  scale : Nat
  queryAddr : Nat
  outAddr : Nat
  treeAddr : Nat
  deriving DecidableEq, Repr

/-- Who issued a fused command (R108): a program by the launch it belongs to. -/
inductive FOrigin where
  | derived
  | submit (run index : Nat)
  | program (launch : Nat)
  deriving DecidableEq, Repr

/-- A block of 128 key columns of a walk (R119): tiles of pages, a run of the command's own new slots, or new slots of
its feed group in the staging area by position and step ordinal. -/
inductive KeyBlock where
  | tiles (ts : List (Nat × Nat))
  | own (first count : Nat)
  | staged (keys : List (Nat × Nat))
  deriving DecidableEq, Repr

/-- The running softmax of a query row (R147). qa are the E4M3 elements of the absorbed query, qs their block scales. -/
structure RowState where
  tok : Nat
  head : Nat
  qa : List FV
  bad : Bool
  k : Option Int
  l : FV
  acc : List FV
  qs : List FV
  deriving DecidableEq, Repr

/-- A fused command on a core: its descriptor, its query block once that has arrived, its rows and the blocks left. since is
when its walk started, from which its wait for earlier new slots runs (R123, assumption 195). -/
structure FCmd where
  id : Nat
  desc : Desc
  origin : FOrigin
  queued : Nat
  query : Option Bytes
  parents : List Nat
  ordinal : Nat
  staged : Bool
  absorbed : Bool
  walkId : Option Nat
  rows : List RowState
  left : List KeyBlock
  status : Option Status
  since : Nat
  deriving DecidableEq, Repr

/-- A layer batch (R112): open while it gathers, then walking. -/
structure Batch where
  model : Nat
  layer : Nat
  opened : Nat
  walking : Bool
  cmds : List Nat
  deriving DecidableEq, Repr

/-- A tile in a landing buffer (R86, R106). -/
structure Landed where
  capsule : Nat
  request : Nat
  step : Nat
  layer : Nat
  page : Nat
  tile : Nat
  slots : KMap Slot
  deriving DecidableEq, Repr

/-- A launch that waits in a program queue (R130). -/
structure Launch where
  id : Nat
  program : Nat
  regionBase : Nat
  regionSize : Nat
  deriving DecidableEq, Repr

/-- An attention core (R106 to R108). walks are the active walks (R121); walked are the groups, by request, layer and step, whose
tiles a walk of this core has taken (R118, R119). -/
structure Core where
  mode : Nat
  nextMode : Option Nat
  fused : List FCmd
  batches : List Batch
  landing : List Landed
  progQueue : List Launch
  run : Option CoreRun
  launch : Nat
  fault : Nat
  sram : Mem
  walks : List Nat
  walked : List (Nat × Nat × Nat)
  deriving DecidableEq, Repr

/-- The walks of a core that have blocks left, in queue order. -/
def Core.openWalks (k : Core) : List Nat :=
  ((k.fused.filter (fun f => f.absorbed && !f.left.isEmpty)).filterMap (·.walkId)).eraseDups

/-- The active walks of a core that are not over (R121). -/
def Core.active (k : Core) : List Nat := k.walks.filter k.openWalks.contains

/-- A core keeps the walks that are active and takes further ones from the head of its queue, up to eight (R121). -/
def Core.keepWalks (k : Core) : Core :=
  { k with walks := (k.active ++ k.openWalks.filter (fun w => !k.walks.contains w)).take 8 }

/-- A command of a group: of one request, layer and step (R115). -/
def Desc.inGroup (d : Desc) (request layer step : Nat) : Bool := d.request == request && d.layer == layer && d.step == step

/-- A command still needs a tile: it has not started, or the tile is in a block it has left. -/
def FCmd.needs (f : FCmd) (page tile : Nat) : Bool :=
  !f.absorbed || f.left.any (fun b => match b with
    | .tiles ts => ts.contains (page, tile)
    | _ => false)

/-- A tile that lands is not needed: a walk of its group has started, and no command of the group needs it (R118). -/
def Core.pastTile (k : Core) (l : Landed) : Bool :=
  k.walked.contains (l.request, l.layer, l.step) &&
  !k.fused.any (fun f => f.desc.inGroup l.request l.layer l.step && f.needs l.page l.tile)

/-- A loaded core program (R129). -/
structure CoreProg where
  addr : Nat
  length : Nat
  ops : Nat
  sram : Nat
  entry : Nat
  deriving DecidableEq, Repr

/-- A launch that is not over: cores that have not ended and its completion object (R130). -/
structure LaunchSt where
  left : Nat
  doneObj : Nat
  deriving DecidableEq, Repr

/-- An expected query of a published step (R122): rows covered so far are (head, token) ranges. -/
structure Expected where
  partition : Nat
  capsule : Nat
  request : Nat
  step : Nat
  layer : Nat
  model : Nat
  core : Nat
  tree : Bool
  basePos : Nat
  queryCount : Nat
  ordinal : Nat
  deadline : Nat
  covered : List (Nat × Nat × Nat × Nat)
  cmds : List Nat
  deriving DecidableEq, Repr

/-- A host-formed batch under way (R128): the command that waits, its place in host memory and the statuses so far. -/
structure SubmitSt where
  statusAddr : Nat
  count : Nat
  statuses : KMap Nat
  deriving DecidableEq, Repr

/-- A new slot that a query block brought and the step has not written yet (R114, R115): its step, layer, index within
the entry's tokens, and latent. -/
structure NewSlot where
  partition : Nat
  step : Nat
  request : Nat
  layer : Nat
  index : Nat
  bytes : Bytes
  deriving DecidableEq, Repr

/-- The attention cores and the ATTN block. store holds the new slots of uncommitted steps by layer; upReads are the HBM reads
of up-projections by core, model, layer and time (R112). -/
structure AttnSt where
  models : KMap Model
  programs : KMap CoreProg
  cores : KMap Core
  launches : KMap LaunchSt
  nextLaunch : Nat
  nextCmd : Nat
  waiting : List (Nat × FCmd)
  expected : List Expected
  orphans : List (Nat × ModelMsg)
  submits : KMap SubmitSt
  store : List NewSlot
  upReads : List (Nat × Nat × Nat × Nat)
  deriving DecidableEq, Repr

end Sys2Proof.Machine
end

