-- ==== Sys2Proof/Machine/DataBore.lean ====
section
/-!
DEFINITION. The state of the Bore units, as plain records.
-/

namespace Sys2Proof.Machine

open Sys2Proof

/-- A shard's structures in LPDDR (R262): whether it has been opened or stays offline (R277), the state of each record that
is not FREE, the sketch of each record that has been written, and the header's entry nodes. -/
structure BoreShard where
  opened : Bool
  offline : Bool
  states : KMap Nat
  sketches : KMap Bytes
  entries : List Nat
  deriving DecidableEq, Repr

/-- An index (R252, R259) with the commands that create or drop it. -/
structure BoreIndex where
  partition : Nat
  element : Nat
  metric : Nat
  dims : Nat
  maxDegree : Nat
  sketchBytes : Nat
  recordBytes : Nat
  capacity : Nat
  alpha : Nat
  buildQueue : Nat
  created : Nat
  creating : Option Nat
  dropping : Option Nat
  shards : List BoreShard
  deriving DecidableEq, Repr

/-- A candidate of a walk's queue (R263): its key, its node ID and whether it has been expanded. -/
structure BoreCand where
  key : Nat
  node : Nat
  expanded : Bool
  deriving DecidableEq, Repr

/-- A node found (R263): its FP32 distance, its ID and its LABEL. -/
structure BoreHit where
  dist : Nat
  node : Nat
  label : Nat
  deriving DecidableEq, Repr

/-- What a walk serves: a query's command, or an insert by its number. -/
inductive WalkFor where
  | query (cmd : Nat)
  | insert (n : Nat)
  deriving DecidableEq, Repr

/-- A walk (R263). reads are the records in flight; all holds every expanded LIVE node, for an insert;
places are the flash locations of the reads in flight (R302). -/
structure BoreWalk where
  why : WalkFor
  index : Nat
  shard : Nat
  vec : Bytes
  sketch : Bytes
  k : Nat
  limit : Nat
  beam : Nat
  hops : Nat
  filterAny : Bool
  filterMask : Nat
  filterValue : Nat
  queue : List BoreCand
  visited : List Nat
  expansions : Nat
  reads : List Nat
  found : List BoreHit
  all : List BoreHit
  places : KMap (Nat × Nat)
  deriving DecidableEq, Repr

/-- A query that runs (R264, R265, R267): what its ended walks have left. -/
structure BoreQuery where
  cmd : Nat
  index : Nat
  k : Nat
  out : Nat
  outHbm : Bool
  object : Nat
  found : List BoreHit
  expansions : Nat
  truncated : Bool
  partial_ : Bool
  damaged : Bool
  deriving DecidableEq, Repr

/-- An insert entry (R270). stage: 0 waits for its unit, 1 walks, 2 its back-edges are written, 3 its LIVE record is
written. -/
structure BoreInsert where
  cmd : Nat
  place : Nat
  index : Nat
  shard : Nat
  label : Nat
  attr : Nat
  sketch : Bytes
  vec : Bytes
  stage : Nat
  record : Nat
  deriving DecidableEq, Repr

/-- A batch of inserts (R283): the answers so far by place in the batch, and where they go. -/
structure BoreBatch where
  cmd : Nat
  index : Nat
  count : Nat
  out : Nat
  outHbm : Bool
  done : KMap (Nat × Nat)
  deriving DecidableEq, Repr

/-- A repair pass (R274): the tombstones that it folds, the records still to read, the one in flight, the records written
since it began, the commands that wait, and the flash location of the read in flight. -/
structure BorePass where
  index : Nat
  shard : Nat
  tombs : List Nat
  left : List Nat
  reading : Bool
  written : List Nat
  folded : Bool
  cmds : List Nat
  place : Option (Nat × Nat)
  deriving DecidableEq, Repr

/-- The Bore units. -/
structure BoreSt where
  indexes : KMap BoreIndex
  walks : KMap BoreWalk
  nextWalk : Nat
  queries : List BoreQuery
  inserts : KMap BoreInsert
  nextInsert : Nat
  batches : List BoreBatch
  passes : KMap BorePass
  deriving DecidableEq, Repr

end Sys2Proof.Machine
end

