-- ==== Sys2Proof/Machine/DataCaps.lean ====
section
/-!
DEFINITION. The state of the capsule table, of the shared frames, of the Slide engine and of the flash translation
layer, as plain records.
-/

namespace Sys2Proof.Machine

open Sys2Proof

/-- A slot of the capsule table that is not FREE with generation 0 (R46): the header's fields, the page map as a list of
frame handles in map order with the list blocks that hold it (R54), the map entries under KEEP (R80), when the slot
retired, and whether the stored header fails HEADER_CRC (R47). flags: [0] DAMAGED, [1] PRIVILEGED. -/
structure Capsule where
  gen : Nat
  state : Nat
  flags : Nat
  partition : Nat
  fmt : Nat
  layers : Nat
  owner : Nat
  slotBytes : Nat
  epoch : Nat
  expiry : Nat
  tokens : Nat
  pages : Nat
  shared : Nat
  lastCommit : Nat
  mirrorSeq : Nat
  account : Nat
  created : Nat
  parked : Nat
  grammar : Nat
  grammarState : Nat
  tokenizer : Nat
  carry : Bytes
  pins : List Nat
  prefixHandle : Nat
  damageFrame : Nat
  damageBlock : Nat
  map : List Nat
  lists : List Nat
  keep : List Nat
  settled : Bool
  retiredAt : Nat
  headerBad : Bool
  deriving DecidableEq, Repr

/-- An entry of the share table (R58). -/
structure ShareEntry where
  count : Nat
  damaged : Bool
  deriving DecidableEq, Repr

/-- A table sweep that runs (R42, R73): when it started, the retired slots that the partner has been asked about, and
the slots returned so far. -/
structure Sweep where
  started : Nat
  asked : List Nat
  returned : Nat
  deriving DecidableEq, Repr

/-- A park under way (R70): the tier, the state to fall back to, the command that waits, and how it
failed. -/
structure Park where
  capsule : Nat
  tier : Nat
  back : Nat
  cmd : Option Nat
  failed : Option Status
  deriving DecidableEq, Repr

/-- A repair under way (R63): the command, and the blocks asked of the partner that have not come, each with the frame
it repairs. -/
structure Repair where
  capsule : Nat
  cmd : Nat
  left : List (Nat × Nat)
  failed : Bool
  deriving DecidableEq, Repr

/-- Capsules, frames and shares. Frames are held by handle for the tiers HBM, LPDDR and host; flash frames lie in the
FTL. badLists are the list blocks whose stored CHECK fails (R54, R51). lastRead orders frames by their last read; grants are slots of this half that the partner was granted (R44);
wanted are creations that wait for a SLOT_GRANT, by tag. -/
structure CapsSt where
  slots : KMap Capsule
  frames : KMap Frame
  share : KMap ShareEntry
  lists : List Nat
  badLists : List Nat
  lastRead : KMap Nat
  grants : List Nat
  wanted : KMap Nat
  nextTag : Nat
  sweep : Option Sweep
  lastSweep : Nat
  parks : List Park
  repairs : List Repair
  deriving DecidableEq, Repr

/-- A prefetch entry (R84) with what has become of it (R86, R89): when the engine received it, and whether its fetches
were issued, it has arrived, missed or been cancelled. left lists the tiles that have not arrived. since is the elapsed time
of its receipt, from which its waits are measured (R90). -/
structure PfEntry where
  id : Nat
  partition : Nat
  capsule : Nat
  request : Nat
  layer : Nat
  core : Nat
  privileged : Bool
  promote : Bool
  first : Nat
  count : Nat
  deadline : Nat
  step : Nat
  received : Nat
  issued : Bool
  left : List Nat
  arrived : Bool
  missed : Bool
  since : Nat
  deriving DecidableEq, Repr

/-- Why a tile is transferred: for a prefetch entry, for a revive prefetch (R91), or for a move. -/
inductive XferFor where
  | entry (id : Nat)
  | revive (request : Nat)
  | move (id : Nat)
  deriving DecidableEq, Repr

/-- A tile transfer in flight: the capsule, or a prefix when that bit is set, its map entry, the tile, the frame it is
read from, the core it is delivered to (none below 64), how often a host-tier read has been retried (R99), and since when it
waits for room in the landing buffer (R90). -/
structure Xfer where
  why : XferFor
  capsule : Nat
  layer : Nat
  page : Nat
  tile : Nat
  source : Nat
  core : Nat
  issued : Nat
  tries : Nat
  blocked : Option Nat
  place : Option (Nat × Nat)
  deriving DecidableEq, Repr

/-- What a move serves. -/
inductive MoveFor where
  | place (cmd : Nat)
  | park (capsule : Nat)
  | relief
  | cascade
  | release (extent cmd : Nat)
  | mirror
  | promote
  | revive (request : Nat)
  | hint
  deriving DecidableEq, Repr

/-- A frame that moves (R75): its handle, the handle of the frame taken in the target tier, and the filled tiles not yet
copied. -/
structure Move where
  why : MoveFor
  source : Nat
  target : Nat
  left : List Nat
  deriving DecidableEq, Repr

/-- A registered extent of the host swap region (R97): its first host-tier frame index. -/
structure Extent where
  id : Nat
  base : Nat
  size : Nat
  first : Nat
  deriving DecidableEq, Repr

/-- A privileged stall (R89): the partition, step and layer, when it began, and whether the warning has been given. -/
structure Stall where
  entry : Nat
  began : Nat
  warned : Bool
  deriving DecidableEq, Repr

/-- A HINT placement that waits for an idle tier (R80): the frames and the tier. -/
structure Hint where
  capsule : Nat
  entries : List Nat
  tier : Nat
  deriving DecidableEq, Repr

/-- A swap release under way (R98). -/
structure Release where
  extent : Nat
  cmd : Nat
  moved : Nat
  deriving DecidableEq, Repr

/-- The Slide engine. supplied holds host schedules by partition and step that no published step has taken, accepted every
partition and step that a schedule was accepted for (R102). leaving are the old frames of moves, whose map entry is replaced
and of which a read is still in flight (R75). -/
structure SlideSt where
  extents : List Extent
  entries : List PfEntry
  nextId : Nat
  supplied : List (Nat × Nat × List PfEntry)
  accepted : List (Nat × Nat)
  xfers : KMap Xfer
  moves : KMap Move
  queued : List (Nat × MoveFor × Nat)
  leaving : List Nat
  revives : List Nat
  stalls : List Stall
  hints : List Hint
  releases : List Release
  deriving DecidableEq, Repr

/-! ### Flash -/

/-- What a flash place holds: a page frame, a sector's bytes, or a program unit of the FTL's own metadata, as the KIND of each of
its sectors (R291). -/
inductive FContent where
  | frame (f : Frame)
  | sector (b : Bytes)
  | book (kinds : List Nat)
  deriving DecidableEq, Repr

/-- A unit as the FTL holds it (R290, R291): its place in sectors of its channel, its tag, what it holds, the place it is a
collection copy of, whether a read of it failed error correction (R302), and whether it is torn. -/
structure FUnit where
  loc : Nat
  writeSeq : Nat
  dataSeq : Nat
  ext : Nat
  logical : Nat
  content : FContent
  copyOf : Option Nat
  lost : Bool
  torn : Bool
  deriving DecidableEq, Repr

/-- A write that waits for room in a channel's write buffer. -/
structure FWait where
  ext : Nat
  logical : Nat
  content : FContent
  deriving DecidableEq, Repr

/-- An erase block (R287): its erase count, whether it is in use, marked for refresh, to be retired once its readable
sectors have been moved (R304), or retired. -/
structure FBlock where
  erases : Nat
  inUse : Bool
  marked : Bool
  doomed : Bool
  retired : Bool
  deriving DecidableEq, Repr

/-- A journal record (R293). -/
structure JRec where
  seq : Nat
  data : Nat
  ext : Nat
  op : Nat
  logical : Nat
  entry : Nat
  deriving DecidableEq, Repr

/-- The lifetime figures of the health report (R307). -/
structure FlashLife where
  clientSectors : Nat
  nandSectors : Nat
  corrected : Nat
  retries : Nat
  uncorrectable : Nat
  programFails : Nat
  eraseFails : Nat
  retired : Nat
  factoryBad : Nat
  tempMax : Int
  tempMaxTime : Nat
  tempHours : List Nat
  deriving DecidableEq, Repr

/-- A flush record (R292): the last WRITE_SEQ that it covers, the write pointers of the open blocks, the open list of each write
stream, the lifetime figures, the read-only state and the CLEAN mark of a hold-up (R299). -/
structure FlushRec where
  seq : Nat
  points : List Nat
  named : List (List Nat)
  life : FlashLife
  readOnly : Bool
  clean : Bool
  deriving DecidableEq, Repr

/-- The newest copy of a map segment (R294): its SEG_SEQ, its channel and the map entries that it holds. -/
structure MapSeg where
  seq : Nat
  chan : Nat
  entries : KMap Nat
  deriving DecidableEq, Repr

/-- A channel: programmed units and the write buffer's units by place, the blocks that differ from a fresh one, the write points
of the client, collection and metadata streams, the changes that no flush has written yet, the journal records kept on flash
with the WRITE_SEQ at their flush, the last flush record, the block that collection works on, the blocks whose mapped sectors
are being moved out, the blocks being erased, and its temperature. -/
structure FChan where
  units : KMap FUnit
  buffer : List FUnit
  waiting : List FWait
  blocks : KMap FBlock
  client : Option Nat
  copies : Option Nat
  book : Option Nat
  changes : List JRec
  journal : List (Nat × Bytes)
  record : FlushRec
  collecting : Option Nat
  emptying : List Nat
  erasing : List Nat
  programFails : Nat
  retiredCount : Nat
  temp : Int
  paused : Bool
  throttled : Bool
  deriving DecidableEq, Repr

/-- A sector extent (R288): its channel, its size in sectors, whether a flush holds its creation, whether it has been dropped,
and the WRITE_SEQ of its creation. -/
structure SecExtent where
  channel : Nat
  size : Nat
  durable : Bool
  dropped : Bool
  born : Nat
  deriving DecidableEq, Repr

/-- The flash translation layer. The map gives a channel and a place in sectors for each mapped unit of an extent. segs are the
map segments by extent and part, segLast the last one written, segChan the channel whose turn comes next, rotSeq the SEG_SEQ of
the first segment of the newest complete rotation and rotNow that of the rotation under way (R294). due are the channels whose
flush waits for them to cool (R306). -/
structure FtlSt where
  chans : KMap FChan
  frames : KMap (Nat × Nat)
  sectors : KMap (KMap (Nat × Nat))
  extents : KMap SecExtent
  nextSeq : Nat
  readOnly : Bool
  lastFlush : Nat
  segs : KMap MapSeg
  segLast : Option Nat
  segChan : Nat
  rotSeq : Nat
  rotNow : Nat
  due : List Nat
  lastTemp : Nat
  life : FlashLife
  holdup : Bool
  deriving DecidableEq, Repr

end Sys2Proof.Machine
end

