-- ==== Sys2Proof/Machine/DataSteps.lean ====
section
/-!
DEFINITION. The state of the request table and of steps, of accounts, prefixes and adapters, of speculation and of the
Mouthpiece, as plain records.
-/

namespace Sys2Proof.Machine

open Sys2Proof

/-- A text record (R230). flags: [0] INCLUDE_STOP, [1] NO_TEXT. -/
structure TextRec where
  stopSet : Nat
  flags : Nat
  released : Nat
  hold : Bytes
  deriving DecidableEq, Repr

/-- A request entry (R154) with what the table keeps beside it: the pending input with its blocks (R155), the count of
tokens that have left it (R315), input that R175 holds until a commit, who holds a pre-emption (relief, budget,
schedule), the text record, changes that wait for the step (R243), the park that an end leads to, the mailbox admission
that reserves it (R159), whether its pins are held and its pin entry has been written (R198, R199), whether relief has
pre-empted it since its last commit (R96), and whether it has changed while in a step, so that its entry follows the commit
(R157).
return_ is the number of the session with the RETURN endpoint.
flags as the entry's: [0] PRIVILEGED, [1] SPECULATE, [2] RETURN_HOST, [3] BUDGET_HELD, [4] END_PENDING,
[5] WAIT_PENDING. -/
structure Req where
  capsule : Nat
  state : Nat
  flags : Nat
  partition : Nat
  priority : Nat
  length : Nat
  deadline : Nat
  account : Nat
  model : Nat
  lastStep : Nat
  input : List Nat
  inputBlocks : List Nat
  fed : Nat
  held : List Nat
  maxTokens : Nat
  generated : Nat
  return_ : Nat
  outputSeq : Nat
  waitSteps : Nat
  endStatus : Nat
  endReason : Nat
  preRelief : Bool
  preBudget : Bool
  preSched : Bool
  text : TextRec
  newText : Option (Nat × Nat)
  newGrammar : Option (Nat × Nat)
  parkTo : Option (Nat × Option Nat)
  reserved : Option Nat
  pinned : Bool
  pinsSent : Bool
  relieved : Bool
  touched : Bool
  deriving DecidableEq, Repr

/-- A sampled token that a sampling program handed over (R240): the node, the token, the state it leads to, and whether
NEXT_MASK has been written. -/
structure HandOff where
  node : Nat
  token : Nat
  next : Nat
  flag : Nat
  written : Bool
  deriving DecidableEq, Repr

/-- A sequence of a published step (R168): its query tokens, its tree, the hand-offs it has taken, what it accepts, and
how it left the step. refused lists nodes whose hand-off was refused. -/
structure Seq where
  request : Nat
  capsule : Nat
  kind : Nat
  flags : Nat
  basePos : Nat
  core : Nat
  priority : Nat
  deadline : Nat
  model : Nat
  tokens : List Nat
  parents : List Nat
  prepared : Bool
  hands : List HandOff
  refused : List Nat
  accepted : List Nat
  path : List Nat
  finalState : Nat
  endStatus : Nat
  endReason : Nat
  released : Bytes
  text : TextRec
  accounted : Bool
  written : Bool
  dropped : Bool
  reserve : Nat
  debited : Nat
  deriving DecidableEq, Repr

/-- An output record (R171). -/
structure OutRec where
  capsule : Nat
  request : Nat
  step : Nat
  status : Nat
  flags : Nat
  reason : Nat
  seq : Nat
  tokens : List Nat
  text : Bytes
  toHost : Bool
  endpoint : Nat
  deriving DecidableEq, Repr

/-- A published step that has not committed (R165, R172): its sequences, whether its write phase has ended, the SEQ of
its STEP_MARK, its output records, and the STEP_BATCH that waits for it. -/
structure LiveStep where
  num : Nat
  form : Nat
  buildTime : Nat
  seqs : List Seq
  writing : Bool
  markSeq : Option Nat
  writeEnd : Nat
  outputs : List OutRec
  batch : Option Nat
  included : Nat
  leftOut : Nat
  deriving DecidableEq, Repr

/-- The dense pool bound to a partition (R181): the endpoint, the ring and the next offset. -/
structure Pool where
  endpoint : Nat
  addr : Nat
  key : Nat
  size : Nat
  offset : Nat
  deriving DecidableEq, Repr

/-- A partition's host ring (R173, R182). -/
structure HostRing where
  vector : Nat
  size : Nat
  base : Nat
  deriving DecidableEq, Repr

/-- A partition's speculation (R219). -/
structure SpecCfg where
  maxNodes : Nat
  semaphore : Nat
  ring : Nat
  jobs : Nat
  next : Nat
  deriving DecidableEq, Repr

/-- What the step builder keeps for a partition. wait holds records that do not fit in the host ring, oldest first;
batches are host batches that wait for the write phase of the step before. -/
structure PartSteps where
  built : Nat
  committed : Nat
  pool : Option Pool
  nextPool : Option Pool
  ring : Option HostRing
  wait : List Bytes
  live : List LiveStep
  pinTable : Option (Nat × Nat)
  spec : Option SpecCfg
  batches : List (Nat × List (Nat × Nat))
  afterDrops : Nat
  deriving DecidableEq, Repr

/-- An account record (R185). flags: [0] OPEN, [1] COUNT_INPUT, [2] STRICT, [3] END_ON_STRICT. -/
structure Account where
  quota : Nat
  allowance : Int
  debited0 : Nat
  debited1 : Nat
  periodStart : Nat
  periodS : Nat
  partition : Nat
  flags : Nat
  lastDebit : Nat
  deriving DecidableEq, Repr

/-- A prefix record (R193) with its frame list; pages 0 marks a free one, of which only the next generation stands. order
tells the newest of one name. -/
structure Prefix where
  gen : Nat
  partition : Nat
  fmt : Nat
  layers : Nat
  tier : Nat
  slotBytes : Nat
  tokenizer : Nat
  model : Nat
  pages : Nat
  tokens : Nat
  users : Nat
  name : Nat
  map : List Nat
  lists : List Nat
  order : Nat
  deriving DecidableEq, Repr

/-- A live version of an adapter (R197): state 1 CURRENT, 2 DRAINING, 3 FREED. -/
structure AdVersion where
  version : Nat
  state : Nat
  pins : Nat
  addr : Nat
  length : Nat
  deriving DecidableEq, Repr

/-- An adapter. -/
structure Adapter where
  partition : Nat
  versions : List AdVersion
  deriving DecidableEq, Repr

/-- The request table, the steps and the budget unit's tables. inputBlocks are the input blocks in use, badInput those
whose CHECK no longer holds (R155). -/
structure StepSt where
  reqs : KMap Req
  parts : KMap PartSteps
  inputBlocks : List Nat
  accounts : KMap Account
  prefixes : KMap Prefix
  prefixOrder : Nat
  adapters : KMap Adapter
  badInput : List Nat
  deriving DecidableEq, Repr

/-- A loaded image (R244, R245): its place in HBM. -/
structure Image where
  addr : Nat
  length : Nat
  deriving DecidableEq, Repr

/-- The Mouthpiece: loaded tokenizers and grammars, and the stop sets, each a list of strings. -/
structure MouthSt where
  tokenizers : KMap Image
  grammars : KMap Image
  stops : KMap (List Bytes)
  deriving DecidableEq, Repr

/-! ### Mirroring -/

/-- A shadow request entry (R315, R579): the 64 bytes, the 128 bytes of text record, the shadow input and the count of
tokens that have left it. -/
structure Shadow where
  entry : Bytes
  text : Bytes
  input : List Nat
  count : Nat
  fresh : Bool
  deriving DecidableEq, Repr

/-- A lease change that waits for its acknowledgement or reply (R323): a HANDOVER command or a claim. -/
structure LeaseOp where
  capsule : Nat
  seq : Nat
  cmd : Option Nat
  claim : Bool
  deriving DecidableEq, Repr

/-- A command or admission that a lapsed lease holds (R325), by its running command. -/
structure HeldWrite where
  cmd : Nat
  capsule : Nat
  since : Nat
  deriving DecidableEq, Repr

/-- The mirror engine. sent holds the sequenced records that no ACK covers, oldest first; beats the last sixteen
heartbeats with their send times; pend the records held for their step's mark, and outs the OUTPUT records held until
COMMIT_NOTE, by partition and step. -/
structure MirrorSt where
  state : Nat
  before : Nat
  linkId : Nat
  lanesLost : Nat
  lanes : Nat
  epoch : Nat
  partnerSerial : Nat
  expect : Nat
  txNext : Nat
  txAcked : Nat
  sent : List MirrorRec
  rxApplied : Nat
  rxGap : Bool
  beats : List (Nat × Nat)
  lastBeatArg : Nat
  beatAcked : Option Nat
  lastRecord : Nat
  lastBeat : Nat
  lastNet : Nat
  lastTick : Nat
  lastNetTick : Nat
  ackDue : Bool
  shadow : KMap Shadow
  pend : List MirrorRec
  outs : List (Nat × Nat × Bytes)
  dirty : List Nat
  source : Bool
  queue : List Nat
  syncing : List (Nat × Nat)
  leaseOps : List LeaseOp
  asked : List Nat
  held : List HeldWrite
  pairCmd : Option Nat
  fenceCmd : Option Nat
  draining : Bool
  netPartnerState : Nat
  rxPrefix : Nat
  deriving DecidableEq, Repr

end Sys2Proof.Machine
end

