-- ==== Sys2Proof/Machine/DataCkpt.lean ====
section
/-!
DEFINITION. The state of the checkpoint unit, as plain records.
-/

namespace Sys2Proof.Machine

open Sys2Proof

/-- A record of the checkpoint stream (R348). -/
structure CkRec where
  kind : Nat
  capsule : Nat
  arg : Nat
  body : Bytes
  deriving DecidableEq, Repr

/-- A destination (R345, R358): for HOST its extents as base and size, for LOCAL its sector extents as number and sectors.
used is where the newest sealed checkpoint lies, as offset and length. -/
structure CkTarget where
  kind : Nat
  endpoint : Nat
  addr : Nat
  size : Nat
  key : Nat
  extents : List (Nat × Nat)
  used : Option (Nat × Nat)
  deriving DecidableEq, Repr

/-- A checkpoint that runs (R342 to R352): stage 1 CUTTING, 2 COPYING, 3 SEALING. shards are its shards in order, offset
where the first lies in the destination. -/
structure CkRun where
  cmd : Option Nat
  target : Nat
  scope : Nat
  parts : Nat
  indexes : Nat
  trigger : Nat
  stage : Nat
  began : Nat
  id : Nat
  cutSteps : List Nat
  shards : List Bytes
  offset : Nat
  held : List Nat
  skips : Nat
  capsules : Nat
  slotsLeft : List Nat
  epoch : Nat
  mute : Nat
  lastAnswer : Nat
  deriving DecidableEq, Repr

/-- A sealed LOCAL checkpoint in one of the two manifest slots (R351): its manifest, its hold list,
and the sector extents that hold its shards, each with its size. -/
structure CkLocal where
  id : Nat
  manifest : Bytes
  holds : List Nat
  extents : List (Nat × Nat)
  deriving DecidableEq, Repr

/-- The checkpoint unit. deferred holds flash frames whose free waits for a hold (R346). -/
structure CkptSt where
  targets : KMap CkTarget
  run : Option CkRun
  local_ : List CkLocal
  deferred : List Nat
  lastWarn : Option Nat
  progress : Nat
  deriving DecidableEq, Repr

end Sys2Proof.Machine
end

