-- ==== Sys2Proof/Machine/DataPower.lean ====
section
/-!
DEFINITION. The state of the power block, of resets and of test perturbation, as plain records.
-/

namespace Sys2Proof.Machine

open Sys2Proof

/-- Where the module stands between power and READY (R536, R560, R564): off; held in reset; started up to READY or past it;
or in the work that the hold-up storage carries. -/
inductive PowerPhase where
  | off | held | started | holdup
  deriving DecidableEq, Repr

/-- A breath hint (R545): its level, its window in elapsed time, and whether the window has begun. -/
structure BreathHint where
  level : Nat
  from_ : Nat
  until_ : Nat
  on : Bool
  deriving DecidableEq, Repr

/-- A perturbation slot (R570): partition 8 stands for all partitions; endNs is a value of the time counter. -/
structure Perturb where
  path : Nat
  mode : Nat
  partition : Nat
  amount : Nat
  endNs : Nat
  deriving DecidableEq, Repr

/-- The power block (R535 to R559): the phase; whether the input and PWR_EN are up and RESET_N or PERST_N is low; the core
margin in millivolts with its trim period (R542), the handshake hold and each monitor's run of samples above 0.90 V (R543); the mean
input power of the last windows in watts and the throttle they led to (R539, R540); the thermal limit (R547); the hints; the
straps as read (R538, R553); the alerts of this start; the last fault (R555) and the FAULT_N pin;
the reset cause (R561), when the reset was released and how long the start took (R564); whether the input has returned during
hold-up work (R558), whether the FTL rebuild of this start has run, and whether this start has set READY. -/
structure PowerSt where
  phase : PowerPhase
  input : Bool
  pwrEn : Bool
  resetN : Bool
  perstN : Bool
  margin : Nat
  trimStart : Nat
  trimDip : Bool
  handshakeHold : Bool
  highRuns : List Nat
  lastSample : Nat
  windows : List Nat
  lastWindow : Nat
  throttle : Nat
  thermal : Bool
  hints : List BreathHint
  capW : Nat
  capDefault : Bool
  pairDefault : Bool
  holdupLow : Bool
  faultCause : Nat
  faultHours : Nat
  faultN : Bool
  cause : Nat
  released : Nat
  startMs : Nat
  returned : Bool
  rebuilt : Bool
  up : Bool
  deriving DecidableEq, Repr

/-- Diagnostics and perturbation (R567 to R575): the failed tests, the attention cores, strand cores and check-value units
held off by them, and the slots with when their time was last counted. -/
structure TestSt where
  failed : Nat
  cores : Nat
  strands : List Nat
  units : Nat
  slots : KMap Perturb
  counted : Nat
  deriving DecidableEq, Repr

end Sys2Proof.Machine
end

