-- ==== Sys2Proof/Machine/DataSec.lean ====
section
/-!
DEFINITION. The state of the security block, as plain records.
-/

namespace Sys2Proof.Machine

open Sys2Proof

/-- An entry of the measurement log (R492). partition is 0xFF for an object of no partition. -/
structure Measure where
  kind : Nat
  id : Nat
  version : Nat
  partition : Nat
  digest : Bytes
  deriving DecidableEq, Repr

/-- A management credential: its public key and the last COUNTER accepted (R505, R506). -/
structure Credential where
  key : Bytes
  counter : Nat
  deriving DecidableEq, Repr

/-- A firmware image in a slot: its version and its digest (R490). -/
structure FwImage where
  version : Nat
  digest : Bytes
  deriving DecidableEq, Repr

/-- The two slots of a kind of image (R490, R493): the running image, a staged one with whether FW_ACTIVATE selected it for
the next reset, the old one while a new one waits for its commit, the rollback counter, and the bytes of an image that is
being staged. -/
structure FwKind where
  running : FwImage
  staged : Option FwImage
  selected : Bool
  old : Option FwImage
  rollback : Nat
  upload : Bytes
  deriving DecidableEq, Repr

/-- An attestation request that a transition holds (R496): of the management port with its COUNTER, or of a command that a
strand issued. -/
structure HeldAttest where
  partition : Nat
  nonce : Bytes
  since : Nat
  counter : Nat
  cmd : Option Nat
  deriving DecidableEq, Repr

/-- The security block: the measurement log; the keys of R488; the configuration and the firewall record stored for the
next module reset; the firmware and the update state of R493 with the start of a Crook restart; and the management port:
whether a connection is open, its rejects of the last second, a lockout's start and the attestations held. memKey numbers the
resets, each of which makes new memory keys (R499). -/
structure SecSt where
  log : List Measure
  creds : KMap Credential
  fabricKey : Option Bytes
  trusted : List Bytes
  stateKeys : KMap Bytes
  storedParts : Option (List PartCfg)
  storedFw : List FwRange
  dyone : FwKind
  crook : FwKind
  update : Nat
  restart : Option Nat
  connected : Bool
  rejects : List Nat
  lockout : Option Nat
  held : List HeldAttest
  memKey : Nat
  deriving DecidableEq, Repr

end Sys2Proof.Machine
end

