-- ==== Sys2Proof/Machine/State.lean ====
section
/-!
DEFINITION. The state of the module: its queue of waiting commands, and everything the manual gives it, as plain data.
-/

namespace Sys2Proof.Machine

open Sys2Proof

/-- Why a step stops the machine. -/
inductive Fault where
  /-- Raised by a CXL.mem access beyond the 1 TiB of the HDM range (R440): the address does not exist. Safe: the model
  stops where the manual gives no address. -/
  | noSuchAddress
  deriving DecidableEq, Repr

/-- Why a command has no meaning. -/
inductive Refusal where
  /-- Raised by an arm that has no meaning yet. Safe: nothing can be proved of the command. -/
  | notModelled (mnemonic : String)
  /-- Raised by a command whose operands name a place the module does not have, such as mailbox 64. Safe: no such
  command can reach the module. -/
  | illFormed
  deriving DecidableEq, Repr

/-- Everything the module holds but the queue of waiting commands. -/
structure Module where
  /-- the time counter (R476) -/
  clk : Clk
  /-- how many free values have been taken: the model's own counter, no state of the manual (assumption 5) -/
  free : Nat
  /-- the register bits that stand apart from their reset values, by BAR0 offset (R17) -/
  regs : KMap Word
  /-- HBM by physical address -/
  hbm : Mem
  /-- LPDDR by physical address -/
  lpddr : Mem
  /-- the host memory that the module reads and writes over the host link, by host address -/
  hostMem : Mem
  /-- what has left the module, oldest first: an observer's record, no state of the manual (assumption 6) -/
  out : List Emission
  /-- the eight partition configuration records as applied (R402) -/
  parts : List PartCfg
  /-- the host attachment -/
  host : HostSt
  /-- the event recorder -/
  ev : EvSt
  /-- the PTP servo -/
  ptp : PtpSt
  /-- the network ports -/
  bell : BellSt
  /-- the Ligature objects -/
  lig : LigSt
  /-- the strand cores -/
  strand : StrandSt
  /-- the partition schedule -/
  sched : SchedSt
  /-- the attention cores -/
  attn : AttnSt
  /-- the Reed arbiters that have ever held a request (R423) -/
  reed : KMap ReedInst
  /-- the firewall ranges as applied (R497) -/
  firewall : List FwRange
  /-- the capsule table, the frames outside flash and the share table (R45, R49, R58) -/
  caps : CapsSt
  /-- the Slide engine (R75 to R105) -/
  slide : SlideSt
  /-- the flash translation layer with the flash itself (R287 to R311) -/
  ftl : FtlSt
  /-- the request table, steps, accounts, prefixes and adapters (R153 to R220) -/
  steps : StepSt
  /-- the Mouthpiece (R221 to R251) -/
  mouth : MouthSt
  /-- the mirror engine (R312 to R340) -/
  mirror : MirrorSt
  /-- the checkpoint unit (R341 to R362) -/
  ckpt : CkptSt
  /-- the Bore units (R252 to R286) -/
  bore : BoreSt
  /-- the security block (R487 to R511) -/
  secur : SecSt
  /-- the power block and resets (R535 to R566) -/
  power : PowerSt
  /-- diagnostics and test perturbation (R567 to R575) -/
  test : TestSt
  deriving DecidableEq, Repr

/-- The state: the commands that wait, first in first out, and the module. -/
structure State where
  pending : List Instr
  m : Module
  deriving DecidableEq, Repr

/-- The default configuration of R403: partition 0 alone, with every core, and no quotas. -/
def PartCfg.default : List PartCfg :=
  ⟨2 ^ 64 - 1, 0, 1024, 1, 0, 0, 0, 4096⟩ :: List.replicate 7 ⟨0, 0, 0, 0, 0, 0, 0, 0⟩

/-- The host attachment at reset: the link not trained, every vector masked, every mailbox the host's. -/
def HostSt.reset : HostSt := ⟨false, 0, 0, false, false, [], [], [], 0⟩

/-- The event recorder of a module that has never held a record. -/
def EvSt.reset : EvSt := ⟨[], [], 1, 1, 0, 0, [], 0, 0, 0, [], [], none, .idle, none, 0⟩

/-- A sub-port at reset: down, no gate list, every gate open. -/
def SubPort.reset : SubPort := ⟨false, 0, 0, none, none, 255, [], 0⟩

/-- A queue fixed to its producer (R471) with no shaping. -/
def EgressQueue.fixed (partition tc : Nat) : EgressQueue :=
  ⟨15, tc, partition, 1, 0, 0, 0, 0, 0, 0, 0, 0, [], [], 0, 0, 0, 0, 0, 0⟩

/-- The network ports at reset: split 0, MTU 1,500, no VLAN; the eighteen fixed queues; no map. -/
def BellSt.reset : BellSt where
  ports := List.replicate 4 ⟨0, 1500, 0⟩
  subports := List.replicate 16 SubPort.reset
  map := []
  mapVersion := 0
  mapInstalled := false
  delivery := none
  sessions := []
  queues := (List.range 8).map (fun p => (p, EgressQueue.fixed p 0)) ++
    (List.range 8).map (fun p => (8 + p, EgressQueue.fixed p 3)) ++
    [(16, EgressQueue.fixed 0xFF 7), (17, EgressQueue.fixed 0xFF 0)]
  policers := []
  qps := []
  takenOver := false
  lastRegister := none
  lastSample := 0

/-- The partition schedule at reset: the default configuration, no table, every credit in its pool. -/
def SchedSt.reset : SchedSt where
  configDefault := true
  active := 0
  bank0 := ⟨[], 0, false⟩
  bank1 := ⟨[], 0, false⟩
  pending := false
  offPending := false
  epoch := 0
  nextEpoch := none
  lastBoundary := none
  cycleOn := false
  notice := []
  suspended := 0
  foreground := 0
  buildSlot := 0
  freeCredits := [(0, 4096)]
  progBackground := []
  progWeight := []
  lanes := []

/-- The attention cores at reset: every core in mode OFF. -/
def AttnSt.reset : AttnSt := ⟨[], [], [], [], 0, 0, [], [], [], [], [], []⟩

/-- The capsule table at the first start: every slot FREE with generation 0, no frame and no share. -/
def CapsSt.reset : CapsSt := ⟨[], [], [], [], [], [], [], [], 0, none, 0, [], []⟩

/-- The Slide engine at reset. -/
def SlideSt.reset : SlideSt := ⟨[], [], 0, [], [], [], [], [], [], [], [], [], []⟩

/-- Flash that has never been written: every block fresh, nothing mapped, no figures. -/
def FtlSt.reset : FtlSt where
  chans := []
  frames := []
  sectors := []
  extents := []
  nextSeq := 1
  readOnly := false
  lastFlush := 0
  segs := []
  segLast := none
  segChan := 0
  rotSeq := 0
  rotNow := 0
  due := []
  lastTemp := 0
  life := ⟨0, 0, 0, 0, 0, 0, 0, 0, 0, 0, 0, List.replicate 8 0⟩
  holdup := false

/-- The firmware of a kind as it runs from its factory slot. -/
def FwKind.factory (version : Nat) (image : Bytes) (rollback : Nat) : FwKind :=
  ⟨⟨version, Config.sha512 image⟩, none, false, none, rollback, []⟩

/-- The security block at reset: the factory's firmware runs and is measured, and no key is enrolled. -/
def SecSt.reset : SecSt where
  log := [⟨1, 0, Config.dyoneVersion.toNat, 0xFF, Config.sha512 Config.dyoneImage⟩,
    ⟨2, 0, Config.crookVersion.toNat, 0xFF, Config.sha512 Config.crookImage⟩]
  creds := []
  fabricKey := none
  trusted := []
  stateKeys := []
  storedParts := none
  storedFw := []
  dyone := FwKind.factory Config.dyoneVersion.toNat Config.dyoneImage (Config.rollbackFuses.toNat % 64)
  crook := FwKind.factory Config.crookVersion.toNat Config.crookImage (Config.rollbackFuses.toNat / 256 % 64)
  update := 0
  restart := none
  connected := false
  rejects := []
  lockout := none
  held := []
  memKey := 0

/-- The mirror engine at reset: UNPAIRED, the link not trained. -/
def MirrorSt.reset : MirrorSt where
  state := 0
  before := 0
  linkId := 0
  lanesLost := 0
  lanes := 0
  epoch := 0
  partnerSerial := 0
  expect := 0
  txNext := 0
  txAcked := 0
  sent := []
  rxApplied := 0
  rxGap := false
  beats := []
  lastBeatArg := 0
  beatAcked := none
  lastRecord := 0
  lastBeat := 0
  lastNet := 0
  lastTick := 0
  lastNetTick := 0
  ackDue := false
  shadow := []
  pend := []
  outs := []
  dirty := []
  source := false
  queue := []
  syncing := []
  leaseOps := []
  asked := []
  held := []
  pairCmd := none
  fenceCmd := none
  draining := false
  netPartnerState := 0
  rxPrefix := 0

/-- The power block at reset: input and PWR_EN up, the reset held, the margin at its start (R542), no strap read yet. -/
def PowerSt.reset : PowerSt where
  phase := .held
  input := true
  pwrEn := true
  resetN := false
  perstN := false
  margin := 60
  trimStart := 0
  trimDip := false
  handshakeHold := false
  highRuns := List.replicate 32 0
  lastSample := 0
  windows := []
  lastWindow := 0
  throttle := 0
  thermal := false
  hints := []
  capW := 1200
  capDefault := false
  pairDefault := false
  holdupLow := false
  faultCause := 0
  faultHours := 0
  faultN := false
  cause := 0
  released := 0
  startMs := 0
  returned := false
  rebuilt := false
  up := false

/-- The module after reset. -/
def Module.reset : Module where
  clk := ⟨0, 0, 0⟩
  free := 0
  regs := []
  hbm := []
  lpddr := []
  hostMem := []
  out := []
  parts := PartCfg.default
  host := HostSt.reset
  ev := EvSt.reset
  ptp := ⟨none, 0, none, 0, [], false, false⟩
  bell := BellSt.reset
  lig := ⟨[], []⟩
  strand := ⟨[], [], [], [], 0, []⟩
  sched := SchedSt.reset
  attn := AttnSt.reset
  reed := []
  firewall := []
  caps := CapsSt.reset
  slide := SlideSt.reset
  ftl := FtlSt.reset
  steps := ⟨[], [], [], [], [], 0, [], []⟩
  mouth := ⟨[], [], []⟩
  mirror := MirrorSt.reset
  ckpt := ⟨[], none, [], [], none, 0⟩
  bore := ⟨[], [], 0, [], [], 0, [], []⟩
  secur := SecSt.reset
  power := PowerSt.reset
  test := ⟨0, 0, [], 0, [], 0⟩

/-- The machine right after reset: the module at its reset values and no command waiting. -/
def State.reset : State where
  pending := []
  m := Module.reset

end Sys2Proof.Machine
end

