-- ==== Sys2Proof/Machine/Ops.lean ====
section
/-!
DEFINITION. The shared operations: how a command runs on a state, registers, the event recorder's queue, MSI-X,
partitions and the firewall.
-/

namespace Sys2Proof.Machine

open Sys2Proof

/-- The outcome of a command or event. -/
abbrev Out := Host.Outcome State Fault Refusal

/-- The module runs: power is up and no reset is held (R536, R562). -/
def Module.live (m : Module) : Bool := m.power.phase == .started

/-- A command acts at once: it changes the module by f and leaves the time counter where it stands (assumption 1). A module
that is off, held in reset or in its hold-up work takes no command and no event but those of the power block (R536, R562). -/
def run (f : Module → Module) (s : State) : Out :=
  .next (if s.m.live then { s with m := { f s.m with clk := s.m.clk } } else s)

/-- A command that may step the time counter: what it shows changes, and the elapsed time does not (R479). -/
def runStep (f : Module → Module) (s : State) : Out :=
  let m1 := f s.m
  .next (if s.m.live then { s with m := { m1 with clk := { s.m.clk with now := m1.clk.now % 2 ^ 64 } } } else s)

/-- The time counter after an event that may reset the module: it runs on while the module runs or does its hold-up work,
and stands at 0 while the module is off or held in reset (R476, R562). -/
def Module.clkAfter (old : Clk) (m : Module) : Module :=
  { m with clk := if m.live || m.power.phase == .holdup then old else ⟨0, 0, old.mono⟩ }

/-- A command that may reset the module. -/
def runReset (f : Module → Module) (s : State) : Out :=
  .next (if s.m.live then { s with m := (f s.m).clkAfter s.m.clk } else s)

/-- An event of the power block and of resets, which acts in every phase. -/
def runPower (f : Module → Module) (s : State) : Out := .next { s with m := (f s.m).clkAfter s.m.clk }

/-- The command runs when its operands name places that the module has, and is refused as ill-formed otherwise. -/
def runIf (ok : Bool) (f : Module → Module) (s : State) : Out :=
  if ok then run f s else .refused .illFormed

/-- The time counter advanced by d nanoseconds. -/
def Clk.advance (c : Clk) (d : Nat) : Clk := { c with now := (c.now + d) % 2 ^ 64, mono := c.mono + d }

/-- The module with its time counter advanced to the elapsed time due, or as it stands when that has passed. -/
def Module.advanceTo (due : Nat) (m : Module) : Module :=
  if m.clk.mono < due then { m with clk := m.clk.advance (due - m.clk.mono) } else m

/-- A timed event: the time counter advances to the instant that the event is due, if it has not passed it, and the
event then acts at once (assumption 2). -/
def runAt (due : Module → Nat) (f : Module → Module) (s : State) : Out :=
  let m0 := s.m.advanceTo (due s.m)
  .next (if s.m.live then { s with m := { f m0 with clk := m0.clk } } else s)

/-- A timed event of the power block. -/
def runPowerAt (due : Module → Nat) (f : Module → Module) (s : State) : Out :=
  let m0 := s.m.advanceTo (due s.m)
  .next { s with m := (f m0).clkAfter m0.clk }

/-- The elapsed time at which the time counter will show t, or now when it has passed t. -/
def Module.dueAt (m : Module) (t : Nat) : Nat := m.clk.mono + (t - m.clk.now)

/-- f when the condition holds, and no change otherwise: an event that is presented when its condition does not hold
does not occur (assumption 4). -/
def when (c : Module → Bool) (f : Module → Module) (m : Module) : Module := if c m then f m else m

/-- Nanoseconds of microseconds, milliseconds and seconds. -/
def us (n : Nat) : Nat := n * 1000
def ms (n : Nat) : Nat := n * 1000000
def sec (n : Nat) : Nat := n * 1000000000

/-! ### Registers (R15 to R21) -/

/-- The reset value of the register at a BAR0 offset. -/
def regReset (off : Nat) : Word :=
  BitVec.ofNat 64 ((rowsAt off).foldl (fun a r => a + r.fld.reset * 2 ^ r.fld.lo) (specialReset off))

/-- The register at a BAR0 offset as it is held. -/
def Module.reg (m : Module) (off : Nat) : Word := (m.regs.get off).getD (regReset off)

/-- The module with the register at off set to v. -/
def Module.setReg (off : Nat) (v : Word) (m : Module) : Module :=
  { m with regs := if v == regReset off then m.regs.del off else m.regs.put off v }

/-- A field's value. -/
def Module.get (m : Module) (f : Fld) : Nat := bits (m.reg f.off).toNat f.hi f.lo

/-- A one-bit field. -/
def Module.flag (m : Module) (f : Fld) : Bool := m.get f == 1

/-- The module with a field set. -/
def Module.set (f : Fld) (v : Nat) (m : Module) : Module :=
  m.setReg f.off (BitVec.ofNat 64 (setBits (m.reg f.off).toNat f.hi f.lo v))

/-- The module with bit i of a field set. -/
def Module.setBit (f : Fld) (i : Nat) (m : Module) : Module := m.set f (m.get f ||| 2 ^ i)

/-- The module with bit i of a field clear. -/
def Module.clearBit (f : Fld) (i : Nat) (m : Module) : Module :=
  m.set f (m.get f - (if bit (m.get f) i then 2 ^ i else 0))

/-- The count of a saturating counter: bits [62:0] below the sticky overflow flag in bit [63], and for a narrower count
the flag in the bit above it (R21). The flag is set when the count reaches its maximum (R20). -/
def bumpVal (w : Nat) (old n : Nat) : Nat :=
  let cw := if w == 64 then 63 else w
  let c := old % 2 ^ cw
  let fl := old / 2 ^ cw
  if c + n < 2 ^ cw - 1 then fl * 2 ^ cw + c + n else 2 ^ cw + (2 ^ cw - 1)

/-- An RSAT counter advanced by n (R20, R21). -/
def Module.bumpBy (f : Fld) (n : Nat) (m : Module) : Module :=
  let w := f.hi + 1 - f.lo
  if w == 64 then m.setReg f.off (BitVec.ofNat 64 (bumpVal 64 (m.reg f.off).toNat n))
  else
    let v := bumpVal w (bits (m.reg f.off).toNat (f.hi + 1) f.lo) n
    m.setReg f.off (BitVec.ofNat 64 (setBits (m.reg f.off).toNat (f.hi + 1) f.lo v))

/-- An RSAT counter advanced by one. -/
def Module.bump (f : Fld) (m : Module) : Module := m.bumpBy f 1

/-! ### Free values -/

/-- A fresh free choice below n (0 when n is 0), and the module that has taken it. -/
def Module.choose (m : Module) (n : Nat) : Nat × Module :=
  (Config.freeChoice m.free % Max.max n 1, { m with free := m.free + 1 })

/-! ### MSI-X (R449) -/

/-- A vector not listed stands as at reset: masked, nothing pending. -/
def Module.vec (m : Module) (v : Nat) : MsixVec := m.host.msix.getD v ⟨true, false, none, false⟩

/-- The module with vector v replaced. -/
def Module.setVec (v : Nat) (x : MsixVec) (m : Module) : Module :=
  { m with host := { m.host with msix := m.host.msix.put v x } }

/-- Something leaves the module. -/
def Module.emit (e : Emission) (m : Module) : Module := { m with out := m.out ++ [e] }

/-- A message on a vector: sent, or held as pending while the vector is masked or the host link cannot carry it. -/
def Module.msix (v : Nat) (m : Module) : Module :=
  let x := m.vec v
  if x.masked || !m.host.linkUp || m.host.d3hot then m.setVec v { x with pending := true }
  else m.emit (.msix v)

/-- An event of the block whose BAR0 window index is b: one message, merged into the holdoff of an earlier one. -/
def Module.blockEvent (b : Nat) (m : Module) : Module :=
  let x := m.vec (64 + b)
  match x.lastSent with
  | some t =>
    if m.clk.mono < t + us (m.get Reg.GLOBAL.MSIX_CTRL_HOLDOFF_US) then m.setVec (64 + b) { x with held := true }
    else (m.setVec (64 + b) { x with lastSent := some m.clk.mono }).msix (64 + b)
  | none => (m.setVec (64 + b) { x with lastSent := some m.clk.mono }).msix (64 + b)

/-! ### Partitions (R402) -/

/-- Partition p's configuration record. -/
def Module.part (m : Module) (p : Nat) : PartCfg := nthD m.parts p ⟨0, 0, 0, 0, 0, 0, 0, 0⟩

/-- Partition p is present. -/
def Module.present (m : Module) (p : Nat) : Bool := decide (p < 8) && bit (m.part p).flags 0

/-- Partition p is in Mute mode. -/
def Module.mute (m : Module) (p : Nat) : Bool := decide (p < 8) && bit (m.part p).flags 1

/-- The partition that holds attention core c; none when diagnostics hold it OFF (R568). -/
def Module.corePart (m : Module) (c : Nat) : Option Nat :=
  (List.range 8).find? (fun p => m.present p && bit (m.part p).attnMask c && !bit m.test.cores c)

/-- The partition that holds strand core c; none when diagnostics leave it not ENABLED (R568). -/
def Module.strandPart (m : Module) (c : Nat) : Option Nat :=
  (List.range 8).find? (fun p => m.present p && !m.test.strands.contains c && decide ((m.part p).strandFirst ≤ c) &&
    decide (c < (m.part p).strandFirst + (m.part p).strandCount))

/-- How many attention cores a partition holds. -/
def Module.coreCount (m : Module) (p : Nat) : Nat := popcount 64 (m.part p).attnMask

/-! ### The event recorder's queue (R514, R518, R519) -/

/-- The bytes of a stored record: header, body and trailer (R513). -/
def EvRecord.size (r : EvRecord) : Nat := 40 + r.body.length

/-- The bytes of the queue. -/
def queueBytes (q : List EvRecord) : Nat := q.foldl (fun a r => a + r.size) 0

/-- Types that R519 never suppresses. -/
def neverSuppressed (t : Nat) : Bool := t == 0x1301 || t == 0x1302 || t == 0x1303 || t == 0x1305 || t == 0x1501

/-- A record with the SEQ, TIME and lifetime figures of now. -/
def Module.mkRecord (m : Module) (type part sev : Nat) (body : Bytes) : EvRecord :=
  ⟨type, part, sev, m.ev.nextSeq, m.clk.now, m.ev.opHours, m.ev.powerCycles, body⟩

/-- What became of a record that was offered to the queue. -/
inductive Offer where
  | queued | suppressed | dropped
  deriving DecidableEq, Repr

/-- The fate of a record of a type and size offered now. -/
def Module.offerFate (m : Module) (type size : Nat) : Offer :=
  if !neverSuppressed type && decide (m.get Reg.EVREC.RATE_PER_TYPE ≤ m.ev.counts.getD type 0) then .suppressed
  else if m.flag Reg.EVREC.STATUS_FULL then .dropped
  else if queueBytes m.ev.queue + size ≤ 65536 then .queued else .dropped

/-- A record enters the queue, or is suppressed (R519), or is dropped (R518, R520). -/
def Module.offer (type part sev : Nat) (body : Bytes) (m : Module) : Module :=
  let r := m.mkRecord type part sev body
  match m.offerFate type r.size with
  | .queued =>
    { m with ev := { m.ev with queue := m.ev.queue ++ [r], nextSeq := m.ev.nextSeq + 1,
                               counts := m.ev.counts.put type (m.ev.counts.getD type 0 + 1) } }
  | .suppressed =>
    Module.bump Reg.EVREC.SUPPRESSED_COUNT
      { m with ev := { m.ev with suppressed := m.ev.suppressed.put type (m.ev.suppressed.getD type 0 + 1) } }
  | .dropped =>
    let m1 := m.bump Reg.EVREC.DROPPED_COUNT
    if m.flag Reg.EVREC.STATUS_FULL then m1
    else
      let m2 := m1.set Reg.EVREC.STATUS_QUEUE_OVERFLOW 1
      { m2 with ev := { m2.ev with lostCount := m2.ev.lostCount + 1, lostBytes := m2.ev.lostBytes + r.size } }

/-- An event: its record is offered to the recorder and the vector of the block that raises it carries a message. The
record of a partition in Mute mode is REDUCED, its body eight zero bytes (R515). -/
def Module.event (type part sev arg0 arg1 : Nat) (m : Module) : Module :=
  let m1 :=
    if m.mute part then m.offer type part (sev + 4) (zeros 8)
    else m.offer type part sev (leBytes 8 arg0 ++ leBytes 8 arg1)
  m1.blockEvent (type / 256)

/-- An identifier counter that does not compare (R24): the value is ignored and an event recorded. -/
def Module.serialStale (block value : Nat) (m : Module) : Module := m.event 0x0003 0xFF 1 block value

/-! ### Host memory over the host link (R436, R447) -/

/-- The host link carries a transfer now. -/
def Module.hostUp (m : Module) : Bool := m.host.linkUp && !m.host.d3hot

/-- Memory of a tier code of R533: 0 host, 1 HBM, 2 LPDDR. -/
def Module.mem (m : Module) (tier : Nat) : Mem :=
  if tier == 0 then m.hostMem else if tier == 1 then m.hbm else m.lpddr

/-- The module with bytes written to the memory of a tier code. -/
def Module.wrMem (tier addr : Nat) (b : Bytes) (m : Module) : Module :=
  if tier == 0 then { m with hostMem := m.hostMem.wrN addr b }
  else if tier == 1 then { m with hbm := m.hbm.wrN addr b }
  else { m with lpddr := m.lpddr.wrN addr b }

/-- Sizes of HBM and LPDDR. -/
def hbmSize : Nat := 288 * 2 ^ 30
def lpddrSize : Nat := 2 ^ 40

end Sys2Proof.Machine
end

