-- ==== Sys2Proof/Machine/OpsSched.lean ====
section
/-!
DEFINITION. The cyclic schedule as other blocks read it (R407 to R411) and the Reed arbiters' requests and decisions
(R423 to R432).
-/

namespace Sys2Proof.Machine

open Sys2Proof

/-- Length of a cycle in nanoseconds: 16,384 slots of 1 µs. -/
def cycleNs : Nat := 16384000

/-- The number of the slot that covers time t, counted from the epoch over all cycles; none before the epoch (R408,
R409). -/
def Module.slotNumber (m : Module) (t : Nat) : Option Nat :=
  if t < m.sched.epoch then none else some ((t - m.sched.epoch) / 1000)

/-- The active bank. -/
def Module.bank (m : Module) : SchedBank := if m.sched.active == 0 then m.sched.bank0 else m.sched.bank1

/-- A table is active: a bank has become active at a cycle start and slots are running (R409, R411). -/
def Module.tableOn (m : Module) : Bool := m.sched.cycleOn && decide (m.sched.epoch ≤ m.clk.now)

/-- The table entry of a slot number. -/
def Module.slotEntry (m : Module) (n : Nat) : Nat := m.bank.entries.getD (n % 16384) 0

/-- Partition p runs a real-time schedule (R410). -/
def Module.realTime (m : Module) (p : Nat) : Bool := m.tableOn && bit m.bank.rtMask p

/-- The partition that owns the running slot, when ARB_VALID is set (R407). -/
def Module.slotOwner (m : Module) : Option Nat :=
  if m.tableOn then
    match m.slotNumber m.clk.now with
    | some n => let e := m.slotEntry n; if bit e 19 then some (bits e 18 16) else none
    | none => none
  else none

/-- Nanoseconds left in the running slot. -/
def Module.slotLeft (m : Module) : Nat := 1000 - (m.clk.now - m.sched.epoch) % 1000

/-! ### Reed arbiters -/

/-- The register fields of instance i. -/
def reedFld (f : Fld) (i : Nat) : Fld := f.at 64 i

/-- Instance i as it stands; one that has never held a request is free and last held by requester 15. -/
def Module.reedInst (m : Module) (i : Nat) : ReedInst := m.reed.getD i ⟨[], none, 0, 15, 0⟩

/-- The module with instance i replaced. -/
def Module.setReed (i : Nat) (x : ReedInst) (m : Module) : Module :=
  (({ m with reed := m.reed.put i x }).set (reedFld Reg.REED.STATUS_HOLDER i)
    (match x.holder with
      | some h => h.requester
      | none => 0x3F))

/-- Instance i is partition-class. -/
def reedPartClass (i : Nat) : Bool := decide (89 ≤ i)

/-- The priority of a requester of instance i (R428). -/
def Module.prio (m : Module) (i r : Nat) : Nat :=
  bits (m.get (reedFld Reg.REED.PRIO_PRIO i)) (4 * r + 3) (4 * r)

/-- Bytes that instance i carries in 1,000 ns: its rate (R423). linkRate gives an egress sub-port's and the partner
link's. -/
def reedRate (linkRate : Nat → Nat) (i : Nat) : Nat :=
  if i < 32 then 307200 else if i < 40 then 68250 else if i < 72 then 3590 else linkRate i

/-- A request is masked: a partition-class instance, and the sideband masks the partition (R430). -/
def Module.reedMasked (m : Module) (i : Nat) (r : ReedReq) : Bool :=
  reedPartClass i && bit (m.get (reedFld Reg.REED.MASK_MASKED i)) r.requester

/-- The partition tag of a request: of a partition-class request the requester. -/
def reedTag (i : Nat) (r : ReedReq) : Nat := if reedPartClass i then r.requester else r.tag

/-- A request is eligible now: unmasked, and under slot arbitration the owner's, or in a slot without an owner outside
Mute mode, and with a burst that ends before the slot boundary (R431). -/
def Module.reedEligible (m : Module) (linkRate : Nat → Nat) (i : Nat) (r : ReedReq) : Bool :=
  !m.reedMasked i r &&
  (if m.flag (reedFld Reg.REED.CTRL_SLOT i) then
    (match m.slotOwner with
      | some o => reedTag i r == o
      | none => reedTag i r == 8 || !m.mute (reedTag i r)) &&
    (!m.tableOn ||
      (if reedPartClass i then decide (m.get (reedFld Reg.REED.BURST_BURST_NS i) < m.slotLeft)
       else decide (r.units * 64 * 1000 < m.slotLeft * reedRate linkRate i)))
  else true)

/-- The longest waiter: the earliest arrival, the lower index on equal waits (R426). -/
def longestWaiter : List ReedReq → Option ReedReq
  | [] => none
  | r :: rs =>
    match longestWaiter rs with
    | none => some r
    | some b =>
      if decide (r.arrival < b.arrival) || (r.arrival == b.arrival && decide (r.requester ≤ b.requester)) then some r
      else some b

/-- Places of a requester after the last holder, cyclically. -/
def reedDistance (last r : Nat) : Nat := (r + 16 - (last + 1) % 16) % 16

/-- The choice of R426 under the instance's policy. -/
def Module.reedChoice (m : Module) (i : Nat) (x : ReedInst) (cands : List ReedReq) : Option ReedReq :=
  if m.flag (reedFld Reg.REED.CTRL_POLICY i) then longestWaiter cands
  else
    let better (a b : ReedReq) : Bool :=
      let pa := m.prio i a.requester
      let pb := m.prio i b.requester
      let da := reedDistance x.lastHolder a.requester
      let db := reedDistance x.lastHolder b.requester
      decide (pb < pa) || (pa == pb && (decide (da < db) || (da == db && decide (a.arrival ≤ b.arrival))))
    cands.foldl (fun best r => match best with
      | none => some r
      | some b => if better b r then some b else some r) none

/-- The same request. -/
def sameReq (a b : ReedReq) : Bool := a.requester == b.requester && a.tag == b.tag

/-- A request is presented, at most one for each requester and tag (R424). -/
def Module.reedRequest (i requester tag units : Nat) (m : Module) : Module :=
  let x := m.reedInst i
  let r : ReedReq := ⟨requester, tag, m.clk.mono, units, 0, false⟩
  if x.waiting.any (sameReq r) || (x.holder.map (sameReq r)).getD false then m
  else m.setReed i { x with waiting := x.waiting ++ [r] }

/-- A requester drops its request: the grant ends, or the request is withdrawn. -/
def Module.reedDrop (i requester tag : Nat) (m : Module) : Module :=
  let x := m.reedInst i
  let p (r : ReedReq) : Bool := r.requester == requester && r.tag == tag
  match x.holder with
  | some h =>
    if p h then m.setReed i { x with holder := none }
    else m.setReed i { x with waiting := x.waiting.filter (fun r => !p r) }
  | none => m.setReed i { x with waiting := x.waiting.filter (fun r => !p r) }

/-- A decision of instance i (R426, R429): the holder granted and the waiters' histories. -/
def Module.reedDecide (linkRate : Nat → Nat) (i : Nat) (m : Module) : Module :=
  let x := m.reedInst i
  let cands := x.waiting.filter (m.reedEligible linkRate i)
  match x.holder, m.reedChoice i x cands with
  | none, some pick =>
    let n := m.get (reedFld Reg.REED.CTRL_N i)
    let flagMode := m.flag (reedFld Reg.REED.CTRL_STARVE_MODE i)
    let longest := (longestWaiter cands).getD pick
    let due := !flagMode && decide (n ≤ x.nth + 1)
    let win := if due then longest else pick
    let nth := if flagMode then x.nth else if due || sameReq win longest then 0 else x.nth + 1
    let others := (x.waiting.filter (fun r => !sameReq r win)).map (fun r => { r with waited := r.waited + 1 })
    let flagNow := fun (r : ReedReq) => flagMode && decide (n ≤ r.waited) && !r.flagged
    let m1 := m.setReed i { x with
      waiting := others.map (fun r => if flagNow r then { r with flagged := true } else r)
      holder := some { win with waited := 0, flagged := false }
      granted := m.clk.mono
      lastHolder := win.requester
      nth := nth }
    let m2 := m1.bump (reedFld Reg.REED.GRANTS_COUNT i)
    (others.filter flagNow).foldl (fun (a : Module) r =>
      ((a.setBit (reedFld Reg.REED.STATUS_STARVING i) r.requester).bump (reedFld Reg.REED.STARVE_FLAGS_COUNT i)).event
        0x0F02 0xFF 1 i r.requester) m2
  | _, _ => m

/-- BURST_NS has passed since the grant of instance i (R427). -/
def Module.reedBurst (i : Nat) (m : Module) : Module :=
  let x := m.reedInst i
  match x.holder with
  | none => m
  | some h =>
    let again := { h with arrival := m.clk.mono, waited := 0, flagged := false }
    let slotMode := m.flag (reedFld Reg.REED.CTRL_SLOT i)
    if reedPartClass i then
      if slotMode || !x.waiting.isEmpty then
        m.setReed i { x with holder := none, waiting := x.waiting ++ [again] }
      else m
    else if slotMode then m
    else
      let m1 := m.setReed i { x with holder := none, waiting := x.waiting ++ [again] }
      ((m1.setBit (reedFld Reg.REED.STATUS_OVERSTAY i) h.requester).bump (reedFld Reg.REED.OVERSTAYS_COUNT i)).event
        0x0F01 0xFF 2 i h.requester

/-- The sideband masks partition p in every partition-class instance: its grant ends and its requests are withdrawn
(R430). -/
def Module.reedMask (p : Nat) (m : Module) : Module :=
  [89, 90, 91, 92].foldl (fun (a : Module) i =>
    let x := a.reedInst i
    let y := { x with
      holder := x.holder.filter (fun h => h.requester != p)
      waiting := x.waiting.filter (fun r => r.requester != p) }
    (a.setReed i y).setBit (reedFld Reg.REED.MASK_MASKED i) p) m

/-- The sideband releases partition p. -/
def Module.reedUnmask (p : Nat) (m : Module) : Module :=
  [89, 90, 91, 92].foldl (fun (a : Module) i => a.clearBit (reedFld Reg.REED.MASK_MASKED i) p) m

end Sys2Proof.Machine
end

