-- ==== Sys2Proof/Machine/OpsLig.lean ====
section
/-!
DEFINITION. The Ligature operations on objects (R383 to R392), the waking of a waiting strand thread or core program,
the end of jobs and of launches, and their suspension and resumption (R413, R415).
-/

namespace Sys2Proof.Machine

open Sys2Proof

/-- NONE, valid only in fields whose definition allows it (R383). -/
def ligNone : Nat := 0xFFFFFFFF

/-- The generation that an index has reached. -/
def Module.ligGen (m : Module) (i : Nat) : Nat := m.lig.gens.getD i 0

/-- The handle of the live object at an index. -/
def Module.ligHandle (m : Module) (i : Nat) : Nat := m.ligGen i * 65536 + i

/-- The object that a handle names, with its index; none when the generation differs or nothing is allocated (R383). -/
def Module.ligFind (m : Module) (h : Nat) : Option (Nat × LigObj) :=
  let i := h % 65536
  if h / 65536 == m.ligGen i then (m.lig.objs.get i).map (fun o => (i, o)) else none

/-- The module with the object at an index replaced. -/
def Module.ligPut (i : Nat) (o : LigObj) (m : Module) : Module :=
  { m with lig := { m.lig with objs := m.lig.objs.put i o } }

/-- Free message slots of the pool of 262,144 (R385). -/
def Module.msgFree (m : Module) : Nat :=
  262144 - (m.lig.objs.vals.foldl (fun a o => a + (if o.kind == 4 then o.param else 0)) 0)

/-- Objects that partition p holds. -/
def Module.ligUsed (m : Module) (p : Nat) : Nat := (m.lig.objs.vals.filter (fun o => o.partition == p)).length

/-- Kind and parameter are defined (R385). -/
def ligKindOk (kind param : Nat) : Bool :=
  (kind == 1 && decide (param ≤ 16777215)) || (kind == 2 && decide (1 ≤ param) && decide (param ≤ 65535)) ||
  (kind == 3 && decide (param ≤ 3)) || (kind == 4 && decide (1 ≤ param) && decide (param ≤ 64))

/-- Allocation (R384): the lowest free index, or BAD_FIELD, or NO_SPACE. -/
def Module.ligAlloc (part : Nat) (owner : Option Nat) (kind param : Nat) (m : Module) : Module × (Status ⊕ Nat) :=
  let m := m.bump Reg.LIG.OPS_COUNT
  if !ligKindOk kind param then (m.bump Reg.LIG.ALLOC_FAILS_COUNT, .inl .badField)
  else
    let quota := m.get (Reg.LIG.QUOTA_OBJECTS.at 8 part)
    let full := quota != 0 && decide (quota ≤ m.ligUsed part)
    match m.lig.objs.lowestFree 0 65536 with
    | some i =>
      if full || (kind == 4 && decide (m.msgFree < param)) then
        ((m.bump Reg.LIG.ALLOC_FAILS_COUNT).set Reg.LIG.STATUS_ALLOC_FAIL 1, .inl .noSpace)
      else
        let v := if kind == 1 then param else if kind == 3 && bit param 1 then 1 else 0
        (m.ligPut i ⟨kind, part, param, v, [], [], owner, none, false⟩, .inr (m.ligHandle i))
    | none => ((m.bump Reg.LIG.ALLOC_FAILS_COUNT).set Reg.LIG.STATUS_ALLOC_FAIL 1, .inl .noSpace)

/-- The object at an index is freed and the index's generation advances modulo 2^15 (R383). -/
def Module.ligFreeIndex (i : Nat) (m : Module) : Module :=
  { m with lig := { objs := m.lig.objs.del i, gens := m.lig.gens.put i ((m.ligGen i + 1) % 2 ^ 15) } }

/-! ### Waking -/

/-- A register of a thread; g0 reads as zero (R368). -/
def Thread.reg (t : Thread) (r : Nat) : Word := if r == 0 then 0 else t.regs.getD r 0

/-- A thread with register r written; a write to g0 is discarded, and a load in flight to r no longer writes it. -/
def Thread.setReg (r : Nat) (v : Word) (t : Thread) : Thread :=
  if r == 0 then t
  else { t with regs := (if v == 0 then t.regs.del r else t.regs.put r v),
                loads := t.loads.map (fun l => if l.reg == r then { l with reg := 0 } else l) }

/-- The module with thread t changed by f. -/
def Module.updThread (t : Nat) (f : Thread → Thread) (m : Module) : Module :=
  { m with strand := { m.strand with threads := m.strand.threads.upd t f } }

/-- An acquire empties the data cache of thread t's core (R374). -/
def Module.dropLines (t : Nat) (m : Module) : Module :=
  { m with strand := { m.strand with lines := m.strand.lines.filter (fun l => l.core != t / 8) } }

/-- The module with job j changed by f. -/
def Module.updJob (j : Nat) (f : Job → Job) (m : Module) : Module :=
  { m with strand := { m.strand with jobs := m.strand.jobs.upd j f } }

/-- The module with core c changed by f. A core that has never been used stands in mode OFF. -/
def Module.updCore (c : Nat) (f : Core → Core) (m : Module) : Module :=
  let k := f (m.attn.cores.getD c ⟨0, none, [], [], [], [], none, 0, 0, [], [], []⟩)
  { m with attn := { m.attn with cores := m.attn.cores.put c k } }

/-- Core c as it stands. -/
def Module.core (m : Module) (c : Nat) : Core := m.attn.cores.getD c ⟨0, none, [], [], [], [], none, 0, 0, [], [], []⟩

/-- The program at its next operation: past the end of a repeated group it goes back while repetitions are left
(R124). -/
def CoreRun.nextOp (r : CoreRun) : CoreRun :=
  let rec settle : Nat → Nat → List LoopFrame → Nat × List LoopFrame
    | 0, i, ls => (i, ls)
    | _ + 1, i, [] => (i, [])
    | k + 1, i, l :: ls =>
      if i == l.last + 1 then
        if 1 < l.left then (l.first, { l with left := l.left - 1 } :: ls) else settle k i ls
      else (i, l :: ls)
  let (i, ls) := settle 6 (r.op + 1) r.loops
  { r with op := i, loops := ls }

/-- A waiting thread or program goes on: a thread with its status, and a message for LRECV, and past the instruction, an acquire when
it is OK (R374); a
program past its WAIT, to stop there with fault 0x05 when the object was revoked or is gone (R388). -/
def Module.wake (w : LigWait) (st : Status) (msg : Nat) (m : Module) : Module :=
  match w.who with
  | .thread t =>
    (if st == .ok then m.dropLines t else m).updThread t (fun th =>
      match th.wait with
      | .lig _ d c recv =>
        let th1 := if recv then (if st == .ok then th.setReg d (BitVec.ofNat 64 msg) else th).setReg c (BitVec.ofNat 64 st.code)
          else th.setReg d (BitVec.ofNat 64 st.code)
        { th1 with pc := th1.pc + 8, wait := .none }
      | _ => th)
  | .core c => m.updCore c (fun k =>
      match k.run with
      | some r => { k with run := some { r.nextOp with
          waiting := false, stop := if st == .ok || r.stop.isSome then r.stop else some 5 } }
      | none => k)

/-- Waiters of a semaphore or queue served in arrival order while there is something to take (R387). -/
def serveCount : Nat → LigObj → List LigWait → LigObj × List LigWait
  | 0, o, woken => (o, woken)
  | n + 1, o, woken =>
    match o.waiters with
    | [] => (o, woken)
    | w :: ws => if o.value == 0 then (o, woken)
      else serveCount n { o with value := o.value - 1, waiters := ws } (woken ++ [w])

/-- LSIG with count b on the object at an index (R386). -/
def Module.ligSignal (i : Nat) (o : LigObj) (b : Nat) (m : Module) : Module × Status :=
  let m := m.bump Reg.LIG.OPS_COUNT
  if o.kind == 1 then
    if 2 ^ 32 - 1 < o.value + b then (m, .busy)
    else
      let (o1, woken) := serveCount o.waiters.length { o with value := o.value + b } []
      (woken.foldl (fun (a : Module) w => a.wake w .ok 0) (m.ligPut i o1), .ok)
  else if o.kind == 2 then
    if b == 0 || 65535 < b then (m, .badField)
    else if o.param ≤ o.value + b then
      (o.waiters.foldl (fun (a : Module) w => a.wake w .ok 0)
        (m.ligPut i { o with value := (o.value + b) % o.param, waiters := [] }), .ok)
    else (m.ligPut i { o with value := o.value + b }, .ok)
  else if o.kind == 3 then
    if b == 0 then (m.ligPut i { o with value := 0 }, .ok)
    else if bit o.param 0 then
      match o.waiters with
      | [] => (m.ligPut i { o with value := 1 }, .ok)
      | w :: ws => ((m.ligPut i { o with value := 0, waiters := ws }).wake w .ok 0, .ok)
    else
      (o.waiters.foldl (fun (a : Module) w => a.wake w .ok 0) (m.ligPut i { o with value := 1, waiters := [] }), .ok)
  else (m, .badField)

/-- LSEND of a message: appended, or handed to the oldest LRECV that waits, or BUSY when the queue is full. -/
def Module.ligSend (i : Nat) (o : LigObj) (msg : Nat) (m : Module) : Module × Status :=
  let m := m.bump Reg.LIG.OPS_COUNT
  if o.kind != 4 then (m, .badField)
  else
    match o.waiters with
    | w :: ws => ((m.ligPut i { o with waiters := ws }).wake w .ok msg, .ok)
    | [] => if o.param ≤ o.msgs.length then (m, .busy) else (m.ligPut i { o with msgs := o.msgs ++ [msg] }, .ok)

/-- What a wait or try finds: taken at once with a status and a message, or nothing to take yet. -/
inductive Take where
  | done (o : LigObj) (woken : List LigWait) (st : Status) (msg : Nat)
  | wait (o : LigObj)
  deriving DecidableEq, Repr

/-- LWAIT or LRECV at the object's bank (R386): a barrier arrival is counted before the wait. -/
def ligTake (o : LigObj) (recv : Bool) : Take :=
  if recv then
    if o.kind != 4 then .done o [] .badField 0
    else
      match o.msgs with
      | x :: xs => .done { o with msgs := xs } [] .ok x
      | [] => .wait o
  else if o.kind == 1 then
    if o.value == 0 then .wait o else .done { o with value := o.value - 1 } [] .ok 0
  else if o.kind == 2 then
    if o.param ≤ o.value + 1 then .done { o with value := 0, waiters := [] } o.waiters .ok 0
    else .wait { o with value := o.value + 1 }
  else if o.kind == 3 then
    if o.value == 0 then .wait o
    else .done (if bit o.param 0 then { o with value := 0 } else o) [] .ok 0
  else .done o [] .badField 0

/-- LTRY (R386): as LWAIT, but BUSY where it would wait, and then without effect. -/
def ligTry (o : LigObj) : Take :=
  match ligTake o false with
  | .wait _ => .done o [] .busy 0
  | t => t

/-- An engine signals an object with count 1; a signal to an object that no longer exists is dropped (R389). -/
def Module.engineSignal (h block : Nat) (m : Module) : Module :=
  if h == ligNone then m
  else
    match m.ligFind h with
    | some (i, o) => (m.ligSignal i o 1).1
    | none =>
      ((m.bump Reg.LIG.LOST_SIGNALS_COUNT).set Reg.LIG.STATUS_LOST_SIGNAL 1).event 0x0D01 0xFF 1 h block

/-- A wait is taken out of its object without effect: a barrier arrival is withdrawn (R387, R393). -/
def Module.ligWithdraw (who : Party) (m : Module) : Module :=
  { m with lig := { m.lig with objs := m.lig.objs.mapV (fun _ o =>
      let n := (o.waiters.filter (fun w => w.who == who)).length
      if n == 0 then o
      else { o with waiters := o.waiters.filter (fun w => w.who != who),
                    value := if o.kind == 2 then o.value - n else o.value }) } }

/-- Revocation (R392): the partition becomes the owner, and the kind's rule acts. -/
def Module.ligRevoke (i : Nat) (m : Module) : Module :=
  match m.lig.objs.get i with
  | none => m
  | some o =>
    let o1 := { o with owner := none, revokedJob := o.owner, ended := false }
    let m1 := (m.bump Reg.LIG.REVOCATIONS_COUNT).set Reg.LIG.STATUS_REVOKED 1
    if o.kind == 1 then
      let (o2, woken) := serveCount o.waiters.length { o1 with value := o.param } []
      woken.foldl (fun (a : Module) w => a.wake w .ok 0) (m1.ligPut i o2)
    else if o.kind == 2 then
      o.waiters.foldl (fun (a : Module) w => a.wake w .revoked 0) (m1.ligPut i { o1 with value := 0, waiters := [] })
    else m1.ligPut i o1

/-- Indexes of the objects that job j owns. -/
def Module.ownedBy (m : Module) (j : Nat) : List Nat :=
  (m.lig.objs.filter (fun (_, o) => o.owner == some j)).map (·.1)

/-! ### Jobs and launches -/

/-- The job's credits go back to its partition's pool (R416); transfers in flight give none back again. -/
def Module.returnCredits (j : Nat) (m : Module) : Module :=
  match m.strand.jobs.get j with
  | none => m
  | some job =>
    let p := job.partition
    let free := m.sched.freeCredits.getD p 0 + job.credits
    let m1 := { m with sched := { m.sched with freeCredits := m.sched.freeCredits.put p free } }
    let m2 := m1.bumpBy Reg.SCHED.CREDITS_RETURNED_COUNT job.credits
    let m3 := m2.updJob j (fun x => { x with credits := 0 })
    { m3 with strand := { m3.strand with threads := m3.strand.threads.mapV (fun _ t =>
        if t.job == j then
          { t with loads := t.loads.map (fun l => { l with credited := false }),
                   stores := t.stores.map (fun s => { s with credited := false }) }
        else t) } }

/-- The last thread of job j is gone: DONE_OBJECT is signalled, the objects that the job owns are freed and waits of
others on them end with STALE_HANDLE, and the handle is freed (R376, R390, R391). An object revoked for it is open to the jobs that
take its handle after it (R392). -/
def Module.endJob (j : Nat) (m : Module) : Module :=
  match m.strand.jobs.get j with
  | none => m
  | some job =>
    let m1 := m.engineSignal job.doneObj 12
    let m2 := (m1.ownedBy j).foldl (fun (a : Module) i =>
      match a.lig.objs.get i with
      | some o => (o.waiters.foldl (fun (b : Module) w => b.wake w .stale 0) a).ligFreeIndex i
      | none => a) m1
    let m3 := { m2 with lig := { m2.lig with objs := m2.lig.objs.mapV (fun _ o =>
      if o.revokedJob == some j then { o with ended := true } else o) } }
    let free := m3.sched.freeCredits.getD job.partition 0 + job.credits
    { m3 with strand := { m3.strand with jobs := m3.strand.jobs.del j },
              sched := { m3.sched with freeCredits := m3.sched.freeCredits.put job.partition free } }

/-- Job j has no thread left. -/
def Module.jobEmpty (m : Module) (j : Nat) : Bool := m.strand.threads.vals.all (fun t => t.job != j)

/-- Thread t is taken out of its job: its waits are withdrawn, and the job ends with its last thread. -/
def Module.dropThread (t : Nat) (m : Module) : Module :=
  match m.strand.threads.get t with
  | none => m
  | some th =>
    let m1 := m.ligWithdraw (.thread t)
    let m2 := { m1 with strand := { m1.strand with threads := m1.strand.threads.del t } }
    if m2.jobEmpty th.job then m2.endJob th.job else m2

/-- A fault of thread t (R376): recorded, reported and signalled; the thread stops at its instruction. -/
def Module.faultOne (t cause addr : Nat) (m : Module) : Module :=
  match m.strand.threads.get t with
  | none => m
  | some th =>
    let part := ((m.strand.jobs.get th.job).map (·.partition)).getD 0xFF
    let m1 := if m.mute part then m
      else ((((m.set Reg.STRAND.LAST_FAULT_THREAD t).set Reg.STRAND.LAST_FAULT_CAUSE cause).set
        Reg.STRAND.LAST_FAULT_JOB th.job).set Reg.STRAND.LAST_FAULT_PC_PC th.pc).set Reg.STRAND.LAST_FAULT_ADDR_ADDR addr
    let m2 := ((m1.set Reg.STRAND.STATUS_FAULT 1).bump Reg.STRAND.FAULTS_COUNT).event 0x0C01 part 2
      (t + cause * 2 ^ 16 + th.job * 2 ^ 32) th.pc
    let fo := ((m.strand.jobs.get th.job).map (·.faultObj)).getD ligNone
    ((m2.updJob th.job (fun j => { j with faulted := j.faulted + 1 })).engineSignal fo 12).dropThread t

/-- Every thread of job j stops with cause STOPPED. -/
def Module.stopJob (j : Nat) (m : Module) : Module :=
  (m.strand.threads.filter (fun (_, t) => t.job == j)).foldl (fun (a : Module) (t, _) => a.faultOne t 0x0D 0) m

/-- A fault, with STOP_ON_FAULT acting on the job's other threads (R376). -/
def Module.strandFault (t cause addr : Nat) (m : Module) : Module :=
  match m.strand.threads.get t with
  | none => m
  | some th =>
    let stop := ((m.strand.jobs.get th.job).map (·.stopOnFault)).getD false
    let m1 := m.faultOne t cause addr
    if stop then m1.stopJob th.job else m1

/-- Thread t halts; the job ends with its last thread (R369, R376). -/
def Module.haltThread (t : Nat) (m : Module) : Module := m.dropThread t

/-- A launch ends on one core; the completion object is signalled when every core has ended (R130). -/
def Module.endLaunch (id : Nat) (m : Module) : Module :=
  match m.attn.launches.get id with
  | none => m
  | some l =>
    if l.left ≤ 1 then
      ({ m with attn := { m.attn with launches := m.attn.launches.del id } }).engineSignal l.doneObj 4
    else { m with attn := { m.attn with launches := m.attn.launches.put id { l with left := l.left - 1 } } }

/-- The program of core c is held by SCHED_SUSPEND or by a foreground run (R413, R417). -/
def Module.runHeld (m : Module) (program partition : Nat) : Bool :=
  bit m.sched.suspended partition ||
    (m.sched.progBackground.getD program false && bit m.sched.foreground partition)

/-- The next launch of core c's program queue starts, when the core runs no program; on a core in SHARED mode the fused commands
are served first (R107). -/
def Module.startNext (c : Nat) (m : Module) : Module :=
  let k := m.core c
  match k.run, k.progQueue with
  | none, l :: ls =>
    if k.mode == 2 && !k.fused.isEmpty then m
    else
      match m.attn.programs.get l.program with
      | some p =>
        let part := (m.corePart c).getD 0
        m.updCore c (fun k => { k with
          run := some ⟨l.program, part, p.addr, p.ops, p.sram, l.regionBase, l.regionSize, 0, p.entry, [], false,
            m.runHeld l.program part, none, m.clk.mono, none⟩,
          progQueue := ls, launch := l.id })
      | none => m
  | _, _ => m

/-- A core program stops, with a fault code or 0 for END (R124, R125). A fused command that it has issued is cancelled. -/
def Module.endProgram (c fault : Nat) (m : Module) : Module :=
  let k := m.core c
  match k.run with
  | none => m
  | some r =>
    let m1 := (m.ligWithdraw (.core c)).updCore c (fun k => { k with
      run := none, fault := if fault == 0 then k.fault else fault,
      fused := k.fused.map (fun f => if f.origin == .program k.launch && f.status.isNone then
        { f with status := some .cancelled } else f) })
    let m2 := if fault == 0 then m1 else m1.event 0x0401 r.partition 2 c fault
    (m2.endLaunch k.launch).startNext c

/-! ### Suspension (R413, R415) -/

/-- Job j is suspended: threads stop, waits are withdrawn, credits return and owned objects are revoked. -/
def Module.suspendJob (j : Nat) (m : Module) : Module :=
  match m.strand.jobs.get j with
  | none => m
  | some _ =>
    let ts := (m.strand.threads.filter (fun (_, t) => t.job == j)).map (·.1)
    let m1 := ts.foldl (fun (a : Module) t =>
      (a.ligWithdraw (.thread t)).updThread t (fun th => { th with suspended := true, wait := .none })) m
    let m2 := (m1.updJob j (fun x => { x with suspended := true, window := none })).returnCredits j
    ((m2.ownedBy j).foldl (fun (a : Module) i => a.ligRevoke i) m2).bump Reg.SCHED.PREEMPTIONS_COUNT

/-- Job j is to be pre-empted: the notice flag is set and the window opens, or ends at once when the job owns nothing or
the window is 0. -/
def Module.preemptJob (j : Nat) (m : Module) : Module :=
  match m.strand.jobs.get j with
  | none => m
  | some job =>
    if job.suspended || job.window.isSome then m
    else
      let m1 := match m.sched.notice.get job.partition with
        | some h => m.engineSignal h 14
        | none => m
      if (m1.ownedBy j).isEmpty then m1.suspendJob j
      else m1.updJob j (fun x => { x with window := some m.clk.mono })

/-- The job's threads are ready again, or its open window is cancelled (R415). -/
def Module.resumeJob (j : Nat) (m : Module) : Module :=
  let m1 := m.updJob j (fun x => { x with suspended := false, window := none })
  { m1 with strand := { m1.strand with threads := m1.strand.threads.mapV (fun _ t =>
      if t.job == j then { t with suspended := false } else t) } }

/-- Job j is held by SCHED_SUSPEND or by a foreground run (R417). -/
def Module.jobHeld (m : Module) (job : Job) : Bool :=
  bit m.sched.suspended job.partition || (job.background && bit m.sched.foreground job.partition)

/-- Every job and core program follows what holds it now: pre-emption where it is held and resumption where it is not. -/
def Module.followHolds (m : Module) : Module :=
  let m1 := m.strand.jobs.foldl (fun (a : Module) (j, job) =>
    if m.jobHeld job then a.preemptJob j
    else if job.suspended || job.window.isSome then a.resumeJob j else a) m
  m1.attn.cores.foldl (fun (a : Module) (c, k) =>
    match k.run with
    | some r =>
      if a.runHeld r.program r.partition && !r.suspended then
        (a.updCore c (fun k => { k with run := k.run.map (fun r => { r with suspended := true }) })).bump
          Reg.SCHED.PREEMPTIONS_COUNT
      else if !(a.runHeld r.program r.partition) && r.suspended then
        a.updCore c (fun k => { k with run := k.run.map (fun r => { r with suspended := false }) })
      else a
    | none => a) m1

end Sys2Proof.Machine
end

