-- ==== Sys2Proof/Machine/OpsCmd.lean ====
section
/-!
DEFINITION. Commands between their start and their completion: finding the one a row acts on, its payload checks, its
response (R443, R444) and the completion block of a command that a strand issued (R371); the firewall (R498) and the
strand address space (R365).
-/

namespace Sys2Proof.Machine

open Sys2Proof

/-! ### Measurement (R492) -/

/-- Dyone records a measurement of bytes, in place of an earlier one of the same object. -/
def Module.measure (kind id version part : Nat) (b : Bytes) (m : Module) : Module :=
  let x : Measure := ⟨kind, id, version, part, Config.sha512 b⟩
  { m with secur := { m.secur with log := m.secur.log.filter (fun e =>
      !(e.kind == kind && e.id == id && e.version == version)) ++ [x] } }

/-- The key ID of a key: the first 4 bytes of SHA-512 over "KDT-KEYID" and the key (R489). -/
def keyId (key : Bytes) : Nat := u32 (Config.sha512 ([0x4B, 0x44, 0x54, 0x2D, 0x4B, 0x45, 0x59, 0x49, 0x44] ++ key)) 0

/-- An object's entries leave the log when it is released, unloaded or freed. -/
def Module.unmeasure (kind id : Nat) (keep : Nat → Bool) (m : Module) : Module :=
  { m with secur := { m.secur with log := m.secur.log.filter (fun e => !(e.kind == kind && e.id == id) || keep e.version) } }

/-! ### The firewall (R498) -/

/-- Every byte of the range lies in ranges of partition p and tier with the access bit set. Ranges are multiples of
2 MiB, so the range is judged by the 2 MiB units it touches. -/
def Module.granted (m : Module) (p tier accessBit addr len : Nat) : Bool :=
  let unit := 2 ^ 21
  len == 0 ||
    (List.range ((addr + len - 1) / unit - addr / unit + 1)).all (fun i =>
      let a := (addr / unit + i) * unit
      m.firewall.any (fun r => r.partition == p && r.tier == tier && bit r.access accessBit &&
        decide (r.base ≤ a) && decide (a < r.base + r.size)))

/-- An engine may reach the range for a command of partition p. -/
def Module.engineMay (m : Module) (p tier addr len : Nat) : Bool := m.granted p tier 2 addr len

/-! ### The strand address space (R365) -/

/-- Where a strand address leads. -/
inductive Place where
  | slice (off : Nat)
  | code (off : Nat)
  | hbm (addr : Nat)
  | lpddr (addr : Nat)
  | host (addr : Nat)
  | capsule
  | reserved
  deriving DecidableEq, Repr

/-- The window of an address (R365). -/
def place (a : Nat) : Place :=
  if a ≤ 0x7FFF then .slice a
  else if 0x10000000 ≤ a ∧ a ≤ 0x1FFFFFFF then .code (a - 0x10000000)
  else if 0x4000000000 ≤ a ∧ a ≤ 0x87FFFFFFFF then .hbm (a - 0x4000000000)
  else if 0x10000000000 ≤ a ∧ a ≤ 0x1FFFFFFFFFF then .lpddr (a - 0x10000000000)
  else if 0x100000000000 ≤ a ∧ a ≤ 0x1FFFFFFFFFFF then .host (a - 0x100000000000)
  else if 0x8000000000000000 ≤ a ∧ a ≤ 0x8FFFFFFFFFFFFFFF then .capsule
  else .reserved

/-- The program of thread t's job. -/
def Module.threadProg (m : Module) (t : Nat) : Option StrandProg :=
  ((m.strand.threads.get t).bind (fun th => m.strand.jobs.get th.job)).bind (fun j => m.strand.programs.get j.program)

/-- The partition of thread t's job. -/
def Module.threadPart (m : Module) (t : Nat) : Nat :=
  (((m.strand.threads.get t).bind (fun th => m.strand.jobs.get th.job)).map (·.partition)).getD 8

/-- The bytes of a program image: header and words (R377). -/
def StrandProg.bytes (p : StrandProg) : Nat := 64 + 8 * p.words

/-- Bytes that thread t reads at a strand address, as memory stands; zeros where nothing can be read. -/
def Module.strandRead (m : Module) (t a n : Nat) : Bytes :=
  match place a with
  | .slice o => ((m.strand.threads.get t).map (fun th => th.slice.rdN o n)).getD (zeros n)
  | .code o => ((m.threadProg t).map (fun p => m.hbm.rdN (p.addr + o) n)).getD (zeros n)
  | .hbm p => m.hbm.rdN p n
  | .lpddr p => m.lpddr.rdN p n
  | .host h => m.hostMem.rdN h n
  | _ => zeros n

/-- Thread t's bytes written at a strand address. -/
def Module.strandWrite (t a : Nat) (b : Bytes) (m : Module) : Module :=
  match place a with
  | .slice o => m.updThread t (fun th => { th with slice := th.slice.wrN o b })
  | .hbm p => { m with hbm := m.hbm.wrN p b }
  | .lpddr p => { m with lpddr := m.lpddr.wrN p b }
  | .host h => { m with hostMem := m.hostMem.wrN h b }
  | _ => m

/-- The data cache holds reads of the HBM and LPDDR windows (R374). -/
def isCached (a : Nat) : Bool :=
  match place a with
  | .hbm _ => true
  | .lpddr _ => true
  | _ => false

/-- Bytes of a line, and the lines of a core's 32 KiB (R363). DESIGN CHOICE (log 33): the length of a line. -/
def lineBytes : Nat := 64
def coreLines : Nat := 512

/-- The line at an address as the core of thread t reads it (R374): a line that the cache holds may have stayed there, as old as it
is, or may have been given up, a free choice; another is read from memory, and where the cache is full takes a place of the
module's choice. -/
def Module.takeLine (t a : Nat) (m : Module) : Bytes × Module :=
  let mine (l : CacheLine) : Bool := l.core == t / 8
  let now := m.strandRead t a lineBytes
  let put (m : Module) (ls : List CacheLine) : Module := { m with strand := { m.strand with lines := ls } }
  match m.strand.lines.find? (fun l => mine l && l.addr == a) with
  | some l =>
    let (stays, m1) := m.choose 2
    if stays == 1 then (l.bytes, m1)
    else (now, put m1 (m.strand.lines.map (fun x => if mine x && x.addr == a then { x with bytes := now } else x)))
  | none =>
    let held := m.strand.lines.filter mine
    let fresh : CacheLine := ⟨t / 8, a, now⟩
    if held.length < coreLines then (now, put m (m.strand.lines ++ [fresh]))
    else
      let (i, m1) := m.choose held.length
      let gone := ((held[i]?).map (·.addr)).getD 0
      (now, put m1 (m.strand.lines.filter (fun l => !(mine l && l.addr == gone)) ++ [fresh]))

/-- Bytes that a load of thread t brings, which never straddle a line. -/
def Module.strandLoad (t a n : Nat) (m : Module) : Bytes × Module :=
  if isCached a then
    let (b, m1) := m.takeLine t (a / lineBytes * lineBytes)
    (slice b (a % lineBytes) n, m1)
  else (m.strandRead t a n, m)

/-- A line with the bytes that a store at an address puts into it. -/
def CacheLine.patch (a : Nat) (b : Bytes) (l : CacheLine) : CacheLine :=
  { l with bytes := l.bytes.zipIdx.map (fun (x, i) => if a ≤ l.addr + i then (b[l.addr + i - a]?).getD x else x) }

/-- Bytes that a store of thread t writes: through its core's cache, so that its later loads see them (R374). -/
def Module.strandStore (t a : Nat) (b : Bytes) (m : Module) : Module :=
  let m1 := m.strandWrite t a b
  { m1 with strand := { m1.strand with lines := m1.strand.lines.map (fun l => if l.core == t / 8 then l.patch a b else l) } }

/-- Why an access of n bytes by partition p, whose program image has code bytes, fails: none, or a fault cause of R376.
write tells a store or atomic, atomic an atomic. A denial by the firewall is ADDRESS (R366, R498). DEDUCED (log 212): an atomic to
CODE is READ_ONLY, the cause that names it. -/
def Module.strandCheckAs (m : Module) (p code a n : Nat) (write atomic : Bool) : Option Nat :=
  let acc := if write then 1 else 0
  match place a with
  | .slice o => if o + n ≤ 0x8000 then none else some 0x02
  | .code o =>
    if write then some 0x03
    else if o + n ≤ code then none else some 0x02
  | .hbm x =>
    if m.granted p 0 acc x n && (!atomic || m.granted p 0 0 x n) then none else some 0x02
  | .lpddr x =>
    if m.granted p 1 acc x n && (!atomic || m.granted p 1 0 x n) then none else some 0x02
  | .host x =>
    if atomic then some 0x0B
    else if m.granted p 2 acc x n then none else some 0x02
  | .capsule => some 0x05
  | .reserved => some 0x02

/-- Why an access of n bytes by thread t fails. -/
def Module.strandCheck (m : Module) (t a n : Nat) (write atomic : Bool) : Option Nat :=
  m.strandCheckAs (m.threadPart t) (((m.threadProg t).map (·.bytes)).getD 0) a n write atomic

/-- The address lies in the HOST window. -/
def isHostPlace (a : Nat) : Bool :=
  match place a with
  | .host _ => true
  | _ => false

/-! ### Running commands -/

/-- The host gave the command through a mailbox; a strand issued it otherwise (R371). -/
def RunCmd.fromMailbox (c : RunCmd) : Bool :=
  match c.src with
  | .mbox _ => true
  | .eiss _ => false

/-- The command of a source that has not been answered. -/
def Module.cmdOf (m : Module) (src : Src) : Option RunCmd :=
  m.host.running.find? (fun c => c.src == src && !c.answered)

/-- The module with the running command id changed by f. -/
def Module.updCmd (id : Nat) (f : RunCmd → RunCmd) (m : Module) : Module :=
  { m with host := { m.host with running := m.host.running.map (fun c => if c.id == id then f c else c) } }

/-- The running command id is removed. -/
def Module.dropCmd (id : Nat) (m : Module) : Module :=
  { m with
    host := { m.host with running := m.host.running.filter (fun c => c.id != id) },
    mirror := { m.mirror with held := m.mirror.held.filter (fun h => h.cmd != id) } }

/-- Mailbox b as it stands. -/
def Module.box (m : Module) (b : Nat) : Mailbox := m.host.boxes.getD b ⟨false, false, 0, [], none⟩

/-- The module with mailbox b replaced, and with OWNb and OWNERS showing it (R456). -/
def Module.setBox (b : Nat) (x : Mailbox) (m : Module) : Module :=
  let m1 : Module := { m with host := { m.host with boxes := m.host.boxes.put b x } }
  let m2 := ((m1.set (Reg.MBOX.OWN_OWNER.at 8 b) (b2n x.owner)).set (Reg.MBOX.OWN_RUNNING.at 8 b) (b2n x.running)).set
    (Reg.MBOX.OWN_SEQ.at 8 b) x.seq
  if x.owner then m2.setBit Reg.MBOX.OWNERS_OWNER b else m2.clearBit Reg.MBOX.OWNERS_OWNER b

/-- A dropped write at a BAR0 offset is counted, and the first since HOST_WRITE_DROPPED was cleared leaves its offset
(R439). -/
def Module.dropWrite (off : Nat) (m : Module) : Module :=
  let m1 := m.bump Reg.GLOBAL.HOST_WRITES_DROPPED_COUNT
  if m1.flag Reg.GLOBAL.STATUS_HOST_WRITE_DROPPED then m1
  else (m1.set Reg.GLOBAL.STATUS_HOST_WRITE_DROPPED 1).set Reg.GLOBAL.DROPPED_WRITE_OFFSET off

/-- DETAIL of a response that names no field. -/
def noDetail : Nat := 0xFFFFFFFF

/-- Steps 6 and 7 of R444: the response is written, DONE_MASK set, RUNNING and OWNER cleared, and MSI-X sent unless
NO_MSIX is set. -/
def Module.respond (b : Nat) (c : RunCmd) (st : Status) (body : Bytes) (detail : Nat) (m : Module) : Module :=
  let x := m.box b
  let seq := (x.seq + 1) % 2 ^ 32
  let m1 := m.setBox b { x with
    owner := false, running := false, seq := seq
    resp := some ⟨c.opcode, st.code, body.length, c.tag, m.clk.now, detail, seq, body⟩ }
  let m2 := (m1.setBit Reg.MBOX.DONE_MASK_DONE b).bump Reg.MBOX.COMMANDS_COUNT
  let m3 := if st == .badField then m2.bump Reg.MBOX.BAD_FIELDS_COUNT else m2
  let m4 := if st == .timeout then m3.bump Reg.MBOX.TIMEOUTS_COUNT else m3
  if bit c.flags 0 || c.noMsix then m4 else m4.msix b

/-- An engine command that a strand issued completes: its completion block is written and its event flag signalled
(R371). -/
def Module.finishIssued (n : Nat) (st : Status) (body : Bytes) (m : Module) : Module :=
  match m.strand.issued.get n with
  | none => m
  | some i =>
    let m1 := { m with strand := { m.strand with issued := m.strand.issued.del n } }
    let m2 := m1.strandWrite i.thread i.block (leBytes 2 st.code ++ zeros 6 ++ slice body 0 56)
    m2.engineSignal i.flag 12

/-- A running command completes with a status, a response body and, for BAD_FIELD, the slot offset of the field. One
that has been answered with TIMEOUT ends without a second response (R447). -/
def Module.complete (c : RunCmd) (st : Status) (body : Bytes) (detail : Nat) (m : Module) : Module :=
  let m1 := m.dropCmd c.id
  if c.answered then m1
  else
    match c.src with
    | .mbox b => m1.respond b c st body detail
    | .eiss n => m1.finishIssued n st body

/-- Completion with OK. -/
def Module.ok (c : RunCmd) (body : Bytes) (m : Module) : Module := m.complete c .ok body noDetail

/-- Completion with a status other than BAD_FIELD and no response. -/
def Module.fail (c : RunCmd) (st : Status) (m : Module) : Module := m.complete c st [] noDetail

/-- Completion with BAD_FIELD for the payload field at an offset: the slot offset is 0x40 above it (R443). -/
def Module.badField (c : RunCmd) (off : Nat) (m : Module) : Module := m.complete c .badField [] (0x40 + off)

/-- The command stays, waiting for a later event, with what it remembers. -/
def Module.await (c : RunCmd) (data : List Nat) (m : Module) : Module :=
  m.updCmd c.id (fun x => { x with stage := .waiting, data := data })

/-- A status with the payload offset of the field that failed, for a command's ordered checks. -/
structure Verdict where
  status : Status
  off : Nat
  deriving DecidableEq, Repr

/-- BAD_FIELD at a payload offset. -/
def bad (off : Nat) : Verdict := ⟨.badField, off⟩

/-- A status with no field. -/
def stop (st : Status) : Verdict := ⟨st, 0⟩

/-- DENIED by the firewall, which is counted (R498), and for the content of a Mute-mode partition (R502). -/
def stopFw : Verdict := ⟨.denied, 1⟩
def stopMute : Verdict := ⟨.denied, 2⟩

/-- A denial is counted where it is one of the firewall or of content. -/
def Module.countDenial (v : Verdict) (m : Module) : Module :=
  if v == stopFw then m.bump Reg.SEC.FIREWALL_DENIALS_COUNT
  else if v == stopMute then m.bump Reg.SEC.CONTENT_DENIALS_COUNT else m

/-- Completion with the verdict of a failed check. -/
def Module.verdict (c : RunCmd) (v : Verdict) (m : Module) : Module :=
  if v.status == .badField then m.badField c v.off else (m.countDenial v).fail c v.status

/-- Reserved ranges of a payload are zero, or the first byte that is not (R15). -/
def reservedOk (p : Bytes) (ranges : List (Nat × Nat)) : Option Verdict :=
  (ranges.findSome? (fun (o, n) => firstNonZero p o n)).map bad

/-- The checks of a command in order: reserved bytes first, then the command's own; the first that fails completes the
command and nothing else happens (R446), else act runs. -/
def Module.checked (c : RunCmd) (reserved : List (Nat × Nat)) (checks : List (Bool × Verdict))
    (act : Module → Module) (m : Module) : Module :=
  match reservedOk c.payload reserved with
  | some v => m.verdict c v
  | none =>
    match firstFail checks with
    | some v => m.verdict c v
    | none => act m

/-! ### Lanes (R405, R406) -/

/-- The engine whose lanes hold a command: SLIDE, the ATTN program queues, STEP, MOUTH or BORE. -/
def laneEngine (op : Nat) : Option Nat :=
  if op / 256 == 3 then some 0
  else if op == 0x0421 || op == 0x0422 then some 1
  else if op / 256 == 5 then some 2
  else if op / 256 == 7 then some 3
  else if op / 256 == 8 then some 4
  else none

/-- The partition in whose lanes a command stands: an issued command's is its thread's, and a mailbox command's is that of the
partition, core, index or capsule that its payload names, none where it names none of them (R445). -/
def Module.lanePart (m : Module) (c : RunCmd) : Option Nat :=
  match c.src with
  | .eiss i => (m.strand.issued.get i).map (·.partition)
  | .mbox _ =>
    let op := c.opcode
    if op == 0x0421 || op == 0x0422 then (setBitsOf 64 (u64 c.payload 0)).head?.bind m.corePart
    else if op == 0x0310 then some (u8 c.payload 0x10)
    else if op == 0x0510 then some (u8 c.payload 0x0A)
    else if op == 0x0520 || op == 0x0521 then some (u8 c.payload 0)
    else if op / 256 == 8 && op != 0x0800 then (m.bore.indexes.get (u8 c.payload 0)).map (·.partition)
    else if op == 0x0300 || op / 256 == 5 || op == 0x0712 || op == 0x0721 || op == 0x0731 then
      (m.caps.slots.get (u32 c.payload 0 / 256)).map (·.partition)
    else none

/-- The job that issued a command. -/
def Module.laneJob (m : Module) (c : RunCmd) : Option Nat :=
  match c.src with
  | .eiss i => (m.strand.issued.get i).map (·.job)
  | .mbox _ => none

/-- A command's lane in its engine and partition: 1 is the host's, and each strand job has one of its own. -/
def Module.lane (m : Module) (c : RunCmd) : Nat := ((m.laneJob c).map (· + 2)).getD 1

/-- The weight of a lane: the job's, or HOST_WEIGHT. -/
def Module.laneWeight (m : Module) (lane : Nat) : Nat :=
  if lane == 1 then m.get Reg.SCHED.CTRL_HOST_WEIGHT
  else ((m.strand.jobs.get (lane - 2)).map (·.weight)).getD 4

/-- The command stands in a BACKGROUND lane: its job's (R406). -/
def Module.laneBack (m : Module) (c : RunCmd) : Bool :=
  (((m.laneJob c).bind m.strand.jobs.get).map (·.background)).getD false

/-- The commands that wait in the lanes which command c competes with, itself among them: those of its engine and partition that no
one has acted on and that no lapsed lease holds. -/
def Module.laneRivals (m : Module) (c : RunCmd) : List RunCmd :=
  m.host.running.filter (fun x => x.id == c.id || (laneEngine x.opcode == laneEngine c.opcode && m.lanePart x == m.lanePart c &&
    x.stage == .fresh && !x.answered && m.mirror.held.all (fun h => h.cmd != x.id)))

/-- The lane that gives the next command, with the round's new place (R405): in its turn number k of a round every lane of a weight
above k gives one command, in the order of the lanes' numbers; an empty lane is passed over. -/
def laneNext (weight : Nat → Nat) (held : List Nat) (x : LaneTurn) : Option LaneTurn :=
  (List.range 31).findSome? (fun k =>
    let t := (x.turn + k) % 15
    let may (l : Nat) : Bool := held.contains l && decide (t < weight l) && (k != 0 || decide (x.last < l))
    ((held.filter may).foldl (fun (a : Option Nat) l => some ((a.map (Min.min l)).getD l)) none).map (fun l => ⟨t, l⟩))

/-- The rivals of a command in its own class. -/
def Module.laneClass (m : Module) (c : RunCmd) : List RunCmd :=
  (m.laneRivals c).filter (fun x => m.laneBack x == m.laneBack c)

/-- A command is the first of its lane, and no FOREGROUND lane goes before its BACKGROUND one (R406). -/
def Module.laneHead (m : Module) (c : RunCmd) : Bool :=
  !(m.laneBack c && (m.laneClass c).length != (m.laneRivals c).length) &&
  ((m.laneClass c).find? (fun x => m.lane x == m.lane c)).map (·.id) == some c.id

/-- The lanes of a command's class that hold commands. -/
def Module.lanesHeld (m : Module) (c : RunCmd) : List Nat := ((m.laneClass c).map m.lane).eraseDups

/-- A command has its turn and no round moves on: it stands in no lane, or its lane alone holds commands. -/
def Module.laneFree (m : Module) (c : RunCmd) : Bool :=
  (laneEngine c.opcode).isNone || (m.lanePart c).isNone || (m.laneHead c && decide ((m.lanesHeld c).length ≤ 1))

/-- An engine serves a command that has its turn: the first of its lane, a FOREGROUND lane before a BACKGROUND one (R406), and
among several lanes the one whose turn it is; none where the command has to wait. DESIGN CHOICE (log 55): a round goes on only while
more than one lane holds commands, lanes take their turns in the order of their numbers, the host's first, and a command that names
no partition stands in no lane. -/
def Module.laneTurn (c : RunCmd) (m : Module) : Option Module :=
  match laneEngine c.opcode, m.lanePart c with
  | some e, some p =>
    if !m.laneHead c then none
    else if (m.lanesHeld c).length ≤ 1 then some m
    else
      let key := (e * 8 + p) * 2 + b2n (m.laneBack c)
      match laneNext m.laneWeight (m.lanesHeld c) (m.sched.lanes.getD key ⟨0, 0⟩) with
      | some x => if x.last == m.lane c then some { m with sched := { m.sched with lanes := m.sched.lanes.put key x } } else none
      | none => none
  | _, _ => some m

/-- A mailbox or engine command's row: it acts on the command of its source when that has the row's opcode, has not
been acted on, and has its turn among the lanes of its engine. -/
def onCmd (opcode : Nat) (src : Src) (f : RunCmd → Module → Module) (m : Module) : Module :=
  match m.cmdOf src with
  | some c => if c.opcode == opcode && c.stage == .fresh then ((m.laneTurn c).map (f c)).getD m else m
  | none => m

/-- A command that reads or writes host memory: with the host link down it completes with TIMEOUT (R437, R447), in D3hot
it waits (R436), and otherwise it goes on. -/
def Module.withHost (c : RunCmd) (act : Module → Module) (m : Module) : Module :=
  if !m.host.linkUp then m.fail c .timeout
  else if m.host.d3hot then m
  else act m

/-- Bytes at an address that a payload gives as a host address: host memory for a mailbox, and for a command that a
strand issued a strand address (R371). -/
def Module.cmdRead (m : Module) (c : RunCmd) (addr n : Nat) : Bytes :=
  match c.src with
  | .mbox _ => m.hostMem.rdN addr n
  | .eiss i => m.strandRead (((m.strand.issued.get i).map (·.thread)).getD 0) addr n

/-- Bytes written at an address that a payload gives as a host address. -/
def Module.cmdWrite (c : RunCmd) (addr : Nat) (b : Bytes) (m : Module) : Module :=
  match c.src with
  | .mbox _ => { m with hostMem := m.hostMem.wrN addr b }
  | .eiss i => m.strandWrite (((m.strand.issued.get i).map (·.thread)).getD 0) addr b

/-- A host address field of a command needs the host link: always for a mailbox, and for an issued command when it lies
in the HOST window. -/
def cmdNeedsHost (c : RunCmd) (addr : Nat) : Bool :=
  match c.src with
  | .mbox _ => true
  | .eiss _ => isHostPlace addr

/-- The range of a host address field is the partition's to use: an ENGINE range for a mailbox (R498), and for an
issued command a strand range under R366. -/
def Module.cmdMay (m : Module) (c : RunCmd) (p addr len : Nat) (write : Bool) : Bool :=
  match c.src with
  | .mbox _ => m.engineMay p 2 addr len
  | .eiss i => (m.strandCheckAs (((m.strand.issued.get i).map (·.partition)).getD 8) 0 addr len write false).isNone

/-- Running commands of an opcode that wait and whose data satisfies p. -/
def Module.waitingCmds (m : Module) (opcode : Nat) (p : RunCmd → Bool) : List RunCmd :=
  m.host.running.filter (fun c => c.opcode == opcode && c.stage == .waiting && p c)

/-- The payload of a command names an absent partition (R403). -/
def Module.partOk (m : Module) (p : Nat) : Bool := m.present p

end Sys2Proof.Machine
end

