-- ==== Sys2Proof/Machine/OpsFtl.lean ====
section
/-!
DEFINITION. The flash translation layer's shared operations: capacity and spare (R289, R305), acceptance of writes
(R290), unmaps, flushes (R292), and the frames of every tier (R49).
-/

namespace Sys2Proof.Machine

open Sys2Proof

/-- The lifetime figures of new flash. -/
def FlashLife.zero : FlashLife := ⟨0, 0, 0, 0, 0, 0, 0, 0, 0, 0, 0, List.replicate 8 0⟩

/-- The flush record of a channel that has never been written: CLEAN, and an open list of its lowest blocks (assumption 205). -/
def FlushRec.blank : FlushRec := ⟨0, [], [[0, 1], [2, 3], [4, 5]], FlashLife.zero, false, true⟩

/-- A channel that has never been written. -/
def FChan.blank : FChan := ⟨[], [], [], [], none, none, none, [], [], FlushRec.blank, none, [], [], 0, 0, 25, false, false⟩

/-- Channel c as it stands. -/
def Module.chan (m : Module) (c : Nat) : FChan := m.ftl.chans.getD c FChan.blank

/-- The module with channel c changed. -/
def Module.setChan (c : Nat) (x : FChan) (m : Module) : Module :=
  { m with ftl := { m.ftl with chans := m.ftl.chans.put c x } }

/-- Block b of a channel; one not listed is fresh. -/
def FChan.block (x : FChan) (b : Nat) : FBlock := x.blocks.getD b ⟨0, false, false, false, false⟩

/-- Sectors of a block, blocks of a channel and user sectors of a channel (R287). -/
def blockSectors : Nat := 8192
def chanBlocks : Nat := 98304
def userSectors : Nat := 721420288

/-- Retired blocks of a channel. -/
def FChan.retired (x : FChan) : Nat := (x.blocks.vals.filter (·.retired)).length

/-- The spare of a channel (R305): good blocks less the 88,064 user blocks. -/
def FChan.spare (x : FChan) : Nat := chanBlocks - x.retired - 88064

/-- Free blocks of a channel. -/
def FChan.freeBlocks (x : FChan) : Nat := chanBlocks - (x.blocks.vals.filter (fun b => b.retired || b.inUse)).length

/-- User sectors of channel c that are taken: mapped frames, frames that wait to be written there, and sector extents (R289). -/
def Module.chanUsed (m : Module) (c : Nat) : Nat :=
  32 * ((m.ftl.frames.vals.filter (fun p => p.1 == c)).length + ((m.chan c).waiting.filter (fun w => w.ext == 0)).length) +
  (m.ftl.extents.vals.foldl (fun a e => if e.channel == c && !e.dropped then a + e.size else a) 0)

/-- Free user sectors of channel c. -/
def Module.chanFree (m : Module) (c : Nat) : Nat := userSectors - m.chanUsed c

/-- Sectors of a content. -/
def FContent.sectors : FContent → Nat
  | .sector _ => 1
  | _ => 32

/-- The write queue of channel c in bytes (R289): accepted client data not yet programmed, and the writes that wait. -/
def FChan.queueBytes (x : FChan) : Nat :=
  4096 * ((x.buffer.filter (·.copyOf.isNone)).foldl (fun a u => a + u.content.sectors) 0 +
    x.waiting.foldl (fun a w => a + w.content.sectors) 0)

/-- The channel a new frame goes to (R289, R300): enough free capacity, not held up by collection, then the shortest
queue, the most free capacity and the lower number. -/
def Module.pickChannel (m : Module) : Option Nat :=
  let ok := (List.range 32).filter (fun c => decide (32 ≤ m.chanFree c))
  let free := ok.filter (fun c => decide (256 ≤ (m.chan c).freeBlocks))
  let cands := if free.isEmpty then ok else free
  let better (a b : Nat) : Bool :=
    let qa := (m.chan a).queueBytes
    let qb := (m.chan b).queueBytes
    decide (qa < qb) || (qa == qb && decide (m.chanFree b ≤ m.chanFree a))
  cands.foldl (fun best c => match best with
    | none => some c
    | some b => if better b c then some b else some c) none

/-- The free block with the lowest erase count, then the lowest number (R303). -/
def FChan.nextBlock (x : FChan) : Option Nat :=
  let fresh := x.blocks.lowestFree 0 chanBlocks
  let used := (x.blocks.filter (fun (_, b) => !b.retired && !b.inUse)).map (fun (k, b) => (b.erases, k))
  let all := (match fresh with
    | some f => [(0, f)]
    | none => []) ++ used
  (all.foldl (fun best p => match best with
    | none => some p
    | some q => if decide (p.1 < q.1) || (p.1 == q.1 && decide (p.2 < q.2)) then some p else some q)
    (none : Option (Nat × Nat))).map (·.2)

/-- The channel with block b changed. -/
def FChan.setBlock (b : Nat) (f : FBlock → FBlock) (x : FChan) : FChan :=
  { x with blocks := x.blocks.put b (f (x.block b)) }

/-- The free blocks in the order of their erase counts, at most n. -/
def FChan.fresh : Nat → FChan → List Nat
  | 0, _ => []
  | n + 1, x =>
    match x.nextBlock with
    | none => []
    | some b => b :: FChan.fresh n (x.setBlock b (fun k => { k with inUse := true }))

/-- The open list: the next two blocks that each of the three write streams will open (R292). -/
def FChan.openList (x : FChan) : List (List Nat) :=
  let f := x.fresh 6
  [f.take 2, (f.drop 2).take 2, f.drop 4]

/-- The write point of a stream: 0 client data, 1 collection copies, 2 metadata (R292). -/
def FChan.point (x : FChan) (k : Nat) : Option Nat := if k == 0 then x.client else if k == 1 then x.copies else x.book

/-- The channel with a stream's write point set. -/
def FChan.setPoint (k : Nat) (p : Option Nat) (x : FChan) : FChan :=
  if k == 0 then { x with client := p } else if k == 1 then { x with copies := p } else { x with book := p }

/-- A stream opens block b and takes its first n sectors. -/
def FChan.opened (k b n : Nat) (x : FChan) : Nat × FChan :=
  (b * blockSectors, (x.setBlock b (fun y => { y with inUse := true })).setPoint k (some (b * blockSectors + n)))

/-- A place of n sectors at a stream's write point: in the block that it writes, or at the start of the next block that the open
list of the last flush names for it; none when it names none (R292). A frame takes a whole program unit (R288). -/
def FChan.place (x : FChan) (k n : Nat) : Option (Nat × FChan) :=
  match ((x.point k).map (fun p => if n == 32 then roundUp p 32 else p)).filter (fun p => p % blockSectors != 0) with
  | some p => some (p, x.setPoint k (some (p + n)))
  | none =>
    ((nthD x.record.named k []).find? (fun b => !(x.block b).inUse && !(x.block b).retired)).map (fun b => x.opened k b n)

/-- Blocks of a channel that a stream writes. -/
def FChan.openBlocks (x : FChan) : List Nat :=
  [x.client, x.copies, x.book].filterMap (fun p =>
    p.bind (fun q => if q % blockSectors == 0 then none else some (q / blockSectors)))

/-- The open blocks' write pointers (R292): the first sector of each that is not yet programmed. -/
def FChan.pointers (x : FChan) : List Nat :=
  let streams := [x.client, x.copies, x.book].filterMap (fun p => p.filter (fun q => q % blockSectors != 0))
  let firsts := x.buffer.map (·.loc)
  ((streams ++ firsts).map (· / blockSectors)).eraseDups.map (fun b =>
    let here := firsts.filter (fun q => q / blockSectors == b)
    here.foldl Min.min ((streams.find? (fun q => q / blockSectors == b)).getD ((b + 1) * blockSectors)))

/-- The bytes of a tag (R291). -/
def tagBytes (writeSeq dataSeq ext kind part logical : Nat) : Bytes :=
  let b := leBytes 8 writeSeq ++ leBytes 8 dataSeq ++ leBytes 2 ext ++ leBytes 1 kind ++ leBytes 1 part ++ leBytes 4 logical ++
    zeros 4
  b ++ leBytes 4 (crc32c b)

/-- The tag of one sector of a unit (R291). -/
def FUnit.tag (u : FUnit) (part : Nat) : Bytes :=
  match u.content with
  | .frame _ => tagBytes u.writeSeq u.dataSeq 0 1 part u.logical
  | .sector _ => tagBytes u.writeSeq u.dataSeq u.ext 2 0 u.logical
  | .book kinds => tagBytes u.writeSeq u.dataSeq 0xFFFF (nthD kinds part 6) 0 u.logical

/-- The bytes of a journal record (R293). -/
def JRec.bytes (r : JRec) : Bytes :=
  let b := leBytes 8 r.seq ++ leBytes 8 r.data ++ leBytes 2 r.ext ++ leBytes 1 r.op ++ leBytes 1 0 ++ leBytes 4 r.logical ++
    leBytes 4 r.entry
  b ++ leBytes 4 (crc32c b)

/-- A journal record read back; none when its CHECK fails. -/
def readJRec (b : Bytes) : Option JRec :=
  if u32 b 0x1C == crc32c (slice b 0 0x1C) then
    some ⟨u64 b 0, u64 b 8, u16 b 0x10, u8 b 0x12, u32 b 0x14, u32 b 0x18⟩
  else none

/-- A map entry (R289): MAPPED, and the program unit of a frame with its channel, or the sector of its extent's channel. -/
def mapEntry (ext : Nat) (p : Nat × Nat) : Nat := 2 ^ 31 + (if ext == 0 then 2 ^ 25 * p.1 + p.2 / 32 else p.2)

/-- The place that a map entry of an extent on a channel gives. -/
def entryPlace (ext chan e : Nat) : Option (Nat × Nat) :=
  if !bit e 31 then none
  else if ext == 0 then some (bits e 29 25, 32 * bits e 24 0) else some (chan, bits e 29 0)

/-- Map entries in a segment of 4 MiB, and the number of a segment (R294). -/
def segEntries : Nat := 1048576
def segKey (ext logical : Nat) : Nat := 1024 * ext + logical / segEntries

/-- A program unit of metadata is written at the channel's metadata stream. A flush that is due while no block is named for the
stream runs all the same, in the free block with the lowest erase count (R302). -/
def FChan.bookUnit (index seq : Nat) (kinds : List Nat) (x : FChan) : FChan :=
  let put (r : Nat × FChan) : FChan :=
    { r.2 with units := r.2.units.put r.1 ⟨r.1, seq, seq, 0xFFFF, index, .book kinds, none, false, false⟩ }
  match x.place 2 32 with
  | some r => put r
  | none =>
    match x.nextBlock with
    | some b => put (x.opened 2 b 32)
    | none => x

/-- A program unit of metadata is still of use: the newest copy of its map segment, the last flush record, or a journal record
that the FTL keeps (R294). -/
def Module.bookNeeded (m : Module) (c : Nat) (u : FUnit) : Bool :=
  match u.content with
  | .book kinds =>
    if kinds.contains 4 then ((m.ftl.segs.get u.logical).map (fun s => s.seq == u.writeSeq && s.chan == c)).getD false
    else decide (m.ftl.rotSeq ≤ u.writeSeq) || u.writeSeq == (m.chan c).record.seq
  | _ => false

/-- A block holds metadata. -/
def FChan.bookBlock (x : FChan) (b : Nat) : Bool :=
  x.units.vals.any (fun u => u.loc / blockSectors == b && (match u.content with
    | .book _ => true
    | _ => false))

/-- Metadata blocks of a channel that hold nothing of use any more go the way of emptied blocks. -/
def Module.bookSweep (c : Nat) (m : Module) : Module :=
  let x := m.chan c
  let gone := (x.blocks.keys).filter (fun b => (x.block b).inUse && !(x.block b).retired && !x.openBlocks.contains b &&
    !x.emptying.contains b && !x.erasing.contains b && x.bookBlock b &&
    x.units.vals.all (fun u => u.loc / blockSectors != b || !m.bookNeeded c u))
  if gone.isEmpty then m else m.setChan c { x with erasing := x.erasing ++ gone }

/-- A flush of channel c (R292): its journal records and its flush record fill whole program units of the metadata stream, padded;
the records of extents make their creation durable or their drop final (R295); records older than the newest complete rotation of
map segments are kept no longer (R294). -/
def Module.flushChan (clean : Bool) (c : Nat) (m : Module) : Module :=
  let x := m.chan c
  let last := m.ftl.nextSeq - 1
  let n := ceilDiv (32 * x.changes.length) 4096 + 1
  let kinds := List.replicate (n - 1) 3 ++ [5]
  let k := ceilDiv n 32
  let x1 := (List.range k).foldl (fun (y : FChan) i =>
    let ks := (kinds.drop (32 * i)).take 32
    y.bookUnit 0 last (ks ++ List.replicate (32 - ks.length) 6)) x
  let life := { m.ftl.life with nandSectors := m.ftl.life.nandSectors + 32 * k }
  let x2 := { x1 with
    changes := [],
    journal := (x.journal.filter (fun j => decide (m.ftl.rotSeq ≤ j.1))) ++ x.changes.map (fun r => (last, r.bytes)),
    record := ⟨last, x1.pointers, x1.openList, life, m.ftl.readOnly, clean⟩ }
  let made := (x.changes.filter (fun r => r.op == 5)).map (·.ext)
  let gone := (x.changes.filter (fun r => r.op == 6)).map (·.ext)
  let m1 := m.setChan c x2
  let m2 := { m1 with ftl := { m1.ftl with
    life := life,
    extents := (m1.ftl.extents.keep (fun e k => !(gone.contains e && k.dropped))).mapV (fun e k =>
      if made.contains e then { k with durable := true } else k),
    segs := m1.ftl.segs.keep (fun i _ => !gone.contains (i / 1024)) } }
  ((m2.bump Reg.FTL.JOURNAL_FLUSHES_COUNT).bumpBy Reg.FTL.NAND_SECTORS_COUNT (32 * k)).bookSweep c

/-- A flush of every channel; one that has paused programs nothing until it has cooled, and its flush waits (R306). -/
def Module.flush (m : Module) : Module :=
  let cold := (List.range 32).filter (fun c => !(m.chan c).paused)
  let m1 := cold.foldl (fun (a : Module) c => a.flushChan false c) m
  { m1 with ftl := { m1.ftl with lastFlush := m1.clk.mono, due := (List.range 32).filter (fun c => (m.chan c).paused) } }

/-- A place of n sectors at a stream of channel c; a stream that needs a block that no flush names runs the flush at once
(R292). -/
def Module.placeOn (c k n : Nat) (m : Module) : Option (Nat × Module) :=
  match (m.chan c).place k n with
  | some r => some (r.1, m.setChan c r.2)
  | none =>
    if (m.chan c).paused then none
    else
      let m1 := m.flushChan false c
      ((m1.chan c).place k n).map (fun r => (r.1, m1.setChan c r.2))

/-- The next WRITE_SEQ is given (R290). -/
def Module.takeSeq (m : Module) : Nat × Module :=
  (m.ftl.nextSeq,
   ({ m with ftl := { m.ftl with nextSeq := m.ftl.nextSeq + 1 } }).set Reg.FTL.WRITE_SEQ_NEXT (m.ftl.nextSeq + 1))

/-- A change waits for the next flush of channel c. -/
def Module.change (c : Nat) (r : JRec) (m : Module) : Module :=
  m.setChan c { m.chan c with changes := (m.chan c).changes ++ [r] }

/-- A change that has no data of its own is recorded under a fresh sequence number. -/
def Module.changeNow (c ext op logical : Nat) (m : Module) : Module :=
  let r := m.takeSeq
  r.2.change c ⟨r.1, r.1, ext, op, logical, 0⟩

/-- Sector extents are created (R288, R295): each is its number, its channel and its size. -/
def Module.makeExtents (l : List (Nat × Nat × Nat)) (m : Module) : Module :=
  l.foldl (fun (a : Module) (e, c, n) =>
    let b := a.changeNow c e 5 n
    { b with ftl := { b.ftl with extents := b.ftl.extents.put e ⟨c, n, false, false, a.ftl.nextSeq⟩ } }) m

/-- Sector extents are dropped: their sectors are unmapped and their waiting writes go (R295). -/
def Module.dropExtents (es : List Nat) (m : Module) : Module :=
  es.foldl (fun (a : Module) e =>
    match a.ftl.extents.get e with
    | none => a
    | some k =>
      let b := a.changeNow k.channel e 6 0
      { b with ftl := { b.ftl with
        extents := b.ftl.extents.upd e (fun k => { k with dropped := true }),
        sectors := b.ftl.sectors.del e,
        chans := b.ftl.chans.mapV (fun _ c => { c with waiting := c.waiting.filter (fun w => w.ext != e) }) } }) m

/-- The location that the map gives for a unit of an extent; extent 0 is the frame extent. -/
def Module.ftlLoc (m : Module) (ext logical : Nat) : Option (Nat × Nat) :=
  if ext == 0 then m.ftl.frames.get logical else (m.ftl.sectors.get ext).bind (fun t => t.get logical)

/-- The module with the map entry of a unit set. -/
def Module.setLoc (ext logical : Nat) (p : Nat × Nat) (m : Module) : Module :=
  if ext == 0 then { m with ftl := { m.ftl with frames := m.ftl.frames.put logical p } }
  else { m with ftl := { m.ftl with sectors := m.ftl.sectors.put ext ((m.ftl.sectors.getD ext []).put logical p) } }

/-- The unit at a place of a channel, in its write buffer or programmed. -/
def FChan.unit (x : FChan) (loc : Nat) : Option FUnit :=
  match x.buffer.find? (fun u => u.loc == loc) with
  | some u => some u
  | none => x.units.get loc

/-- The content of a mapped unit (R290). -/
def Module.ftlRead (m : Module) (ext logical : Nat) : Option FContent :=
  (m.ftlLoc ext logical).bind (fun p => ((m.chan p.1).unit p.2).map (·.content))

/-- What became of a write. -/
inductive Accept where
  | accepted | waits | noSpace | readOnly
  deriving DecidableEq, Repr

/-- Sectors of the write buffer that are taken; collection copies do not count. -/
def FChan.bufferUsed (x : FChan) : Nat :=
  (x.buffer.filter (·.copyOf.isNone)).foldl (fun a u => a + u.content.sectors) 0

/-- A write enters the write buffer of channel c (R290): the next WRITE_SEQ and the map entry in one action. It waits for room, for
a paused channel to cool (R306), and below 256 free blocks for collection (R300). -/
def Module.ftlAcceptOn (c ext logical : Nat) (content : FContent) (m : Module) : Option Module :=
  let n := content.sectors
  if 1024 < (m.chan c).bufferUsed + n || (m.chan c).paused || decide ((m.chan c).freeBlocks < 256) then none
  else
    (m.placeOn c 0 n).map (fun r =>
      let (seq, m1) := r.2.takeSeq
      let u : FUnit := ⟨r.1, seq, seq, ext, logical, content, none, false, false⟩
      let m2 := (m1.setChan c { m1.chan c with buffer := (m1.chan c).buffer ++ [u] }).setLoc ext logical (c, r.1)
      let life := { m2.ftl.life with clientSectors := m2.ftl.life.clientSectors + n }
      ({ m2 with ftl := { m2.ftl with life := life } }).bumpBy Reg.FTL.CLIENT_SECTORS_COUNT n)

/-- A client write of a unit: refused while the flash is read-only or the hold-up runs, accepted, or waiting for room
(R290, R302, R305). A frame goes to the channel that holds it, or that R289 chooses. -/
def Module.ftlWrite (ext logical : Nat) (content : FContent) (m : Module) : Module × Accept :=
  if m.ftl.readOnly || m.ftl.holdup then (m.bump Reg.FTL.READ_ONLY_REFUSALS_COUNT, .readOnly)
  else
    let chan := if ext == 0 then m.pickChannel else (m.ftl.extents.get ext).map (·.channel)
    match chan with
    | none => (m, .noSpace)
    | some c =>
      match m.ftlAcceptOn c ext logical content with
      | some m1 => (m1, .accepted)
      | none => (m.setChan c { m.chan c with waiting := (m.chan c).waiting ++ [⟨ext, logical, content⟩] }, .waits)

/-- A unit is unmapped (R293, R305): the record goes to the channel of the old location (R292). -/
def Module.ftlUnmap (ext logical : Nat) (m : Module) : Module :=
  let chans := m.ftl.chans.mapV (fun _ x =>
    { x with waiting := x.waiting.filter (fun w => !(w.ext == ext && w.logical == logical)) })
  let m1 := { m with ftl := { m.ftl with chans := chans } }
  match m1.ftlLoc ext logical with
  | none => m1
  | some (c, _) =>
    (if ext == 0 then { m1 with ftl := { m1.ftl with frames := m1.ftl.frames.del logical } }
     else { m1 with ftl := { m1.ftl with
       sectors := m1.ftl.sectors.put ext ((m1.ftl.sectors.getD ext []).del logical) } }).changeNow c ext 2 logical

/-- Mapped units of channel c whose place lies in block b, as (extent, logical, place). -/
def Module.mappedIn (m : Module) (c b : Nat) : List (Nat × Nat × Nat) :=
  let inB (p : Nat × Nat) : Bool := p.1 == c && p.2 / blockSectors == b
  (m.ftl.frames.filter (fun (_, p) => inB p)).map (fun (k, p) => (0, k, p.2)) ++
  m.ftl.sectors.flatMap (fun (e, t) => (t.filter (fun (_, p) => inB p)).map (fun (k, p) => (e, k, p.2)))

/-- Spares fall: SPARE_WARN, and read-only at the floor of 512 blocks, which also ends demotion to flash (R305, R100). -/
def Module.checkSpare (c : Nat) (m : Module) : Module :=
  let sp := (m.chan c).spare
  let m1 := if decide (sp ≤ m.get Reg.FTL.SPARE_CTRL_WARN) && !m.flag Reg.FTL.STATUS_SPARE_WARN then
      (m.set Reg.FTL.STATUS_SPARE_WARN 1).event 0x0903 0xFF 1 c sp
    else m
  if decide (sp ≤ 512) && !m1.ftl.readOnly then
    (((({ m1 with ftl := { m1.ftl with readOnly := true } }).set Reg.FTL.STATUS_READ_ONLY 1).set
      Reg.SLIDE.STATUS_FLASH_DEMOTE_OFF 1).set Reg.BORE.STATUS_READ_ONLY 1).event 0x0904 0xFF 3 c sp
  else m1

/-- Block b of channel c is retired for good (R304). -/
def Module.retireBlock (c b : Nat) (m : Module) : Module :=
  if ((m.chan c).block b).retired then m
  else
    let x := (m.chan c).setBlock b (fun k => { k with retired := true, inUse := true })
    let m1 := ((m.setChan c { x with retiredCount := x.retiredCount + 1 }).bump Reg.FTL.BLOCKS_RETIRED_COUNT).changeNow c 0xFFFF 4 b
    ({ m1 with ftl := { m1.ftl with life := { m1.ftl.life with retired := m1.ftl.life.retired + 1 } } }).checkSpare c

/-- A read of block b of channel c is in flight: of a frame, or of a Bore record (R300, R302). -/
def Module.readsBlock (m : Module) (c b : Nat) : Bool :=
  let here (p : Option (Nat × Nat)) : Bool := (p.map (fun q => q.1 == c && q.2 / blockSectors == b)).getD false
  m.slide.xfers.vals.any (fun x => here x.place) ||
  m.bore.walks.vals.any (fun w => w.places.vals.any (fun q => here (some q))) ||
  m.bore.passes.vals.any (fun p => here p.place)

/-- A block can be erased: it holds no mapped sector, no copy into it is under way, and no read of it is in flight (R300). Of a
block that is to be retired an unreadable sector stays behind (R304). -/
def Module.blockEmpty (m : Module) (c b : Nat) : Bool :=
  (m.mappedIn c b).all (fun q => ((m.chan c).block b).doomed && (((m.chan c).unit q.2.2).map (·.lost)).getD false) &&
  ((m.chan c).buffer.all (fun u => u.loc / blockSectors != b)) && !m.readsBlock c b

/-- Blocks being emptied that can go are erased, or retired when a read of them failed (R300, R304). -/
def Module.emptied (c : Nat) (m : Module) : Module :=
  ((m.chan c).emptying.filter (fun b => m.blockEmpty c b)).foldl (fun (a : Module) b =>
    let x := a.chan c
    let x1 := { x with emptying := x.emptying.erase b }
    if (x.block b).doomed then (a.setChan c x1).retireBlock c b
    else a.setChan c { x1 with erasing := x1.erasing ++ [b] }) m

/-- A read of flash is over: an erase that waited for it goes on (R302). -/
def Module.readOver (p : Option (Nat × Nat)) (m : Module) : Module :=
  match p with
  | some (c, _) => if (m.chan c).emptying.isEmpty then m else m.emptied c
  | none => m

/-! ### Frames of every tier -/

/-- The tier and the index of a frame handle (R8). -/
def tierOf (h : Nat) : Nat := h / 2 ^ 30 % 4
def indexOf (h : Nat) : Nat := h % 2 ^ 30
def mkHandle (tier index : Nat) : Nat := tier * 2 ^ 30 + index

/-- The frame that a handle names. -/
def Module.frame (m : Module) (h : Nat) : Option Frame :=
  if tierOf h == 3 then
    match m.ftlRead 0 (indexOf h) with
    | some (.frame f) => some f
    | _ => none
  else m.caps.frames.get h

/-- The first 1,008 bytes of tile t's header (R50). -/
def Frame.tileHead (f : Frame) (t : Nat) : Bytes :=
  let (ep, tm) := f.tiles.getD t (0, 0)
  leBytes 4 f.capsule ++ leBytes 2 f.layer ++ leBytes 2 f.page ++ leBytes 1 t ++ leBytes 1 f.fmt ++
  leBytes 2 f.slotBytes ++ leBytes 2 f.fill ++ leBytes 2 (b2n f.shared) ++ leBytes 4 ep ++ zeros 4 ++ leBytes 8 tm ++
  (List.range 32).flatMap (fun i =>
    match f.slots.get (32 * t + i) with
    | some s => leBytes 4 s.pos ++ leBytes 1 s.state ++ leBytes 1 s.node ++ zeros 2
    | none => zeros 8) ++ zeros 720

/-- The slots of tile t as bytes: 480 each, zero beyond SLOT_BYTES and in an empty slot (R52). -/
def Frame.tileSlots (f : Frame) (t : Nat) : Bytes :=
  (List.range 32).flatMap (fun i =>
    match f.slots.get (32 * t + i) with
    | some s => padTo (s.bytes.take 480) 480
    | none => zeros 480)

/-- The 16 KiB of tile t with its four check values (R51). -/
def Frame.tileBytes (f : Frame) (t : Nat) : Bytes :=
  let head := f.tileHead t
  let slots := f.tileSlots t
  let body := head ++ zeros 16 ++ slots
  let crcs := (List.range 4).flatMap (fun b => leBytes 4 (crc32c (slice body (4096 * b) 4096)))
  head ++ crcs ++ slots

/-- NONE (R40). -/
def capNone : Nat := 0xFFFFFFFF

/-- A slot that has never been used: FREE, generation 0 (R45). -/
def Capsule.blank : Capsule :=
  ⟨0, 0, 0, 0, 0, 0, 0, 0, 0, 0, 0, 0, 0, 0, 0, 0, 0, 0, 0xFFFFFFFF, 0, 0, [], List.replicate 4 0xFFFFFFFF, 0, 0, 0, [],
   [], [], true, 0, false⟩

/-- A slot's header as held. -/
def Module.slot (m : Module) (s : Nat) : Capsule := m.caps.slots.getD s Capsule.blank

/-- Where host-tier frame i lies in host memory (R97). -/
def Module.hostPlace (m : Module) (i : Nat) : Option Nat :=
  (m.slide.extents.find? (fun e => decide (e.first ≤ i) && decide (i < e.first + e.size / 131072))).map (fun e =>
    e.base + (i - e.first) * 131072)

/-- The partition whose frame this is: its capsule's, or that of the prefix that names it. -/
def Module.framePart (m : Module) (h : Nat) (f : Frame) : Nat :=
  if f.capsule == capNone then ((m.steps.prefixes.vals.find? (fun x => x.pages != 0 && x.map.contains h)).map (·.partition)).getD 8
  else (m.slot (f.capsule / 256)).partition

/-- Tile t of host-tier frame i as it lies in host memory: enciphered block by block for a partition in Mute mode (R97, R499). -/
def Module.hostTile (m : Module) (h : Nat) (f : Frame) (t : Nat) : Bytes :=
  let b := f.tileBytes t
  let p := m.framePart h f
  if m.mute p then
    (List.range 4).flatMap (fun k =>
      Config.encipher (Config.memoryKey p m.secur.memKey) 3 0 (indexOf h * 32 + 4 * t + k) (slice b (4096 * k) 4096))
  else b

/-- The tiles of a host-tier frame that differ from what stood there are written to host memory (R97). -/
def Module.hostStore (h : Nat) (f : Frame) (m : Module) : Module :=
  match m.hostPlace (indexOf h) with
  | none => m
  | some a =>
    let old := (m.caps.frames.get h).map (fun g => { g with bad := [] })
    let mem := (List.range 8).foldl (fun (x : Mem) t =>
      if (old.map (fun g => g.tileBytes t)) == some (f.tileBytes t) then x else x.wrN (a + 16384 * t) (m.hostTile h f t)) m.hostMem
    { m with hostMem := mem }

/-- A tile of a host-tier frame is no longer what the module wrote: its check values fail (R51, assumption 203). -/
def Module.hostTouched (m : Module) (h : Nat) (f : Frame) (t : Nat) : Bool :=
  tierOf h == 2 && ((m.hostPlace (indexOf h)).map (fun a => m.hostMem.rdN (a + 16384 * t) 16384 != m.hostTile h f t)).getD false

/-- The module with the frame of a handle written in place. A flash frame is written again through the FTL, a host-tier frame to
host memory. -/
def Module.putFrame (h : Nat) (f : Frame) (m : Module) : Module :=
  if tierOf h == 3 then (m.ftlWrite 0 (indexOf h) (.frame f)).1
  else
    let m := if tierOf h == 2 then m.hostStore h f else m
    { m with caps := { m.caps with frames := m.caps.frames.put h f } }

/-- The module with the frame of a handle changed by g. -/
def Module.updFrame (h : Nat) (g : Frame → Frame) (m : Module) : Module :=
  match m.frame h with
  | some f => m.putFrame h (g f)
  | none => m

/-- Frames of the host tier: the extents registered (R97). -/
def Module.hostFrames (m : Module) : Nat := m.slide.extents.foldl (fun a e => a + e.size / 131072) 0

/-- A host-tier index lies in a registered extent that is not being released. -/
def Module.hostIndexOk (m : Module) (i : Nat) : Bool :=
  m.slide.extents.any (fun e => decide (e.first ≤ i) && decide (i < e.first + e.size / 131072) &&
    m.slide.releases.all (fun r => r.extent != e.id))

/-- Indexes of a tier that frames or moves under way hold. -/
def Module.usedIndexes (m : Module) (tier : Nat) : List Nat :=
  let held := if tier == 3 then m.ftl.frames.keys
    else (m.caps.frames.keys.filter (fun h => tierOf h == tier)).map indexOf
  let moving := ((m.slide.moves.vals.map (·.target)).filter (fun h => tierOf h == tier)).map indexOf
  let waiting := if tier == 3 then
      m.ftl.chans.vals.flatMap (fun x => (x.waiting.filter (fun w => w.ext == 0)).map (·.logical))
    else []
  held ++ moving ++ waiting

/-- Frames that a tier has: the pools of R76, the registered extents, the flash frame indexes. -/
def Module.tierSize (m : Module) (tier : Nat) : Nat :=
  if tier == 0 then m.get Reg.SLIDE.HBM_POOL_FRAMES
  else if tier == 1 then m.get Reg.SLIDE.LPDDR_POOL_FRAMES
  else if tier == 2 then m.hostFrames else 721420288

/-- Frames of a tier that nothing holds. -/
def Module.tierUnused (m : Module) (tier : Nat) : Nat :=
  if tier == 2 then
    ((List.range m.slide.extents.length).foldl (fun a i =>
      match m.slide.extents[i]? with
      | some e => if m.slide.releases.all (fun r => r.extent != e.id) then a + e.size / 131072 else a
      | none => a) 0) - ((m.usedIndexes 2).eraseDups.filter m.hostIndexOk).length
  else m.tierSize tier - (m.usedIndexes tier).eraseDups.length

/-- HBM frames that published steps have reserved and not yet taken (R92). -/
def Module.hbmReserved (m : Module) : Nat :=
  m.steps.parts.vals.foldl (fun a p => p.live.foldl (fun b s => s.seqs.foldl (fun c q =>
    if q.dropped || q.written then c else c + q.reserve) b) a) 0

/-- Free frames of a tier: in HBM those that no step has reserved (R92). -/
def Module.tierFree (m : Module) (tier : Nat) : Nat :=
  if tier == 0 then m.tierUnused 0 - m.hbmReserved else m.tierUnused tier

/-- A tier takes a new frame: it has a free one, and flash is not read-only and has capacity. -/
def Module.tierTakes (m : Module) (tier : Nat) : Bool :=
  if tier == 3 then !m.ftl.readOnly && m.pickChannel.isSome && decide (0 < m.tierFree 3)
  else decide (0 < m.tierFree tier)

/-- The first index at or after a start, going round below n, that p holds of; at most `fuel` indexes are tried. -/
def findFrom (p : Nat → Bool) (n : Nat) : Nat → Nat → Option Nat
  | 0, _ => none
  | fuel + 1, i => if n == 0 then none else if p (i % n) then some (i % n) else findFrom p n fuel (i + 1)

/-- A free frame of a tier, any of them (R75): a free choice decides where the search starts. none when the tier takes no
frame. -/
def Module.allocFrame (tier : Nat) (m : Module) : Option Nat × Module :=
  if !m.tierTakes tier then (none, m)
  else
    let used := m.usedIndexes tier
    let n := if tier == 2 then m.slide.extents.foldl (fun a e => Max.max a (e.first + e.size / 131072)) 0
      else m.tierSize tier
    let (start, m1) := m.choose n
    let ok (i : Nat) : Bool := !used.contains i && (tier != 2 || m.hostIndexOk i)
    match findFrom ok n n start with
    | some i => (some (mkHandle tier i), m1)
    | none => (none, m1)

/-- A flash frame that the newest LOCAL checkpoint, or one being written, names (R346). -/
def Module.heldFrame (m : Module) (i : Nat) : Bool :=
  (match m.ckpt.local_.getLast? with
    | some l => l.holds.contains i
    | none => false) ||
  (match m.ckpt.run with
    | some r => r.held.contains i
    | none => false)

/-- The frame of a handle is freed: moves of it have nothing left to move. The free of a held flash frame is deferred
(R346). -/
def Module.freeFrame (h : Nat) (m : Module) : Module :=
  let moves := m.slide.moves.mapV (fun _ v => if v.source == h then { v with source := 0xFFFFFFFF, left := [] } else v)
  let m1 := { m with
    caps := { m.caps with lastRead := m.caps.lastRead.del h },
    slide := { m.slide with moves := moves, queued := m.slide.queued.filter (fun q => q.1 != h) } }
  if tierOf h == 3 then
    if m1.heldFrame (indexOf h) then
      { m1 with ckpt := { m1.ckpt with deferred := m1.ckpt.deferred ++ [indexOf h] } }
    else m1.ftlUnmap 0 (indexOf h)
  else { m1 with caps := { m1.caps with frames := m1.caps.frames.del h } }

/-- Blocks of a frame are noted as failing their check value. -/
def Module.spoil (h : Nat) (blocks : List Nat) (m : Module) : Module :=
  let mark (f : Frame) : Frame := { f with bad := f.bad ++ blocks.filter (fun b => !f.bad.contains b) }
  if tierOf h == 3 then
    match m.ftlLoc 0 (indexOf h) with
    | none => m
    | some (c, loc) =>
      let x := m.chan c
      let g (u : FUnit) : FUnit := if u.loc == loc then
        { u with content := match u.content with
          | .frame f => .frame (mark f)
          | k => k } else u
      m.setChan c { x with buffer := x.buffer.map g, units := x.units.mapV (fun _ u => g u) }
  else { m with caps := { m.caps with frames := m.caps.frames.upd h mark } }

/-- The media figures of a read of n sectors of flash channel c at a place: the corrected bits; a refresh mark where one sector had
more than REFRESH_BITS of them; or a failure that retires the block once its readable sectors have moved (R302, R304). How the
bits of a read of several sectors lie in them is a free choice (assumption 206). -/
def Module.flashRead (c loc n corrected : Nat) (failed : Bool) (m : Module) : Module :=
  let b := loc / blockSectors
  let least := ceilDiv corrected n
  let (more, m) := if n ≤ 1 then (0, m) else m.choose (Min.min 120 corrected + 1 - least)
  let worst := least + more
  let m1 := m.bumpBy Reg.FTL.CORRECTED_BITS_COUNT corrected
  let life := { m1.ftl.life with
    corrected := m1.ftl.life.corrected + corrected, uncorrectable := m1.ftl.life.uncorrectable + b2n failed }
  let m2 := { m1 with ftl := { m1.ftl with life := life } }
  let many := decide (m2.get Reg.FTL.ERR_CTRL_REFRESH_BITS < worst)
  let lose (u : FUnit) : FUnit := if failed && u.loc == loc then { u with lost := true } else u
  let m3 := if many || failed then
      let x := (m2.chan c).setBlock b (fun k => { k with marked := true, doomed := (k.doomed || failed) })
      m2.setChan c { x with units := x.units.mapV (fun _ u => lose u) }
    else m2
  if failed then (m3.bump Reg.FTL.UNCORRECTABLE_READS_COUNT).set Reg.FTL.STATUS_UNCORRECTABLE 1 else m3

/-- A frame was read now: what relief orders by (R93). -/
def Module.touch (h : Nat) (m : Module) : Module :=
  { m with caps := { m.caps with lastRead := m.caps.lastRead.put h m.clk.mono } }

end Sys2Proof.Machine
end

