-- ==== Sys2Proof/Machine/OpsCap.lean ====
section
/-!
DEFINITION. Mirror records as they leave (R314 to R316), and the shared operations on capsules: headers (R46), page maps
(R54), shares (R58), damage (R62), slots of frames (R49, R50) and their byte view, and copy-on-write (R60).
-/

namespace Sys2Proof.Machine

open Sys2Proof

/-! ### Mirror records -/

/-- The 32-byte header of a record, its CHECK given (R314). -/
def recHead (r : MirrorRec) (check : Nat) : Bytes :=
  leBytes 4 r.seq ++ leBytes 1 r.kind ++ leBytes 1 r.partition ++ leBytes 2 r.flags ++ leBytes 4 r.step ++
  leBytes 4 r.capsule ++ leBytes 4 r.body.length ++ leBytes 4 r.arg0 ++ leBytes 4 r.arg1 ++ leBytes 4 check

/-- The CHECK of a record: CRC-32C over header and body, the field itself read as zero. -/
def recCrc (r : MirrorRec) : Nat := crc32c (recHead r 0 ++ r.body)

/-- A record with its CHECK. -/
def recSealed (r : MirrorRec) : MirrorRec := { r with check := recCrc r }

/-- A kind that carries SEQ 0 (R316). -/
def unsequenced (kind : Nat) : Bool := kind == 0x11 || kind == 0x12 || kind == 0x13

/-- The link carries records now: lanes are trained and the pair is pairing, in resync or paired. -/
def Module.linkOpen (m : Module) : Bool :=
  decide (0 < m.mirror.lanes) && (m.mirror.state == 1 || m.mirror.state == 2 || m.mirror.state == 3)

/-- A record as it travels: the body of a Mute-mode partition's is enciphered, its tweak the SEQ with the sender in bit [32]
(R499). -/
def Module.hidden (m : Module) (r : MirrorRec) : MirrorRec :=
  match m.secur.stateKeys.get r.partition with
  | some k => if m.mute r.partition then
      { r with body := Config.encipher k 2 m.mirror.epoch (r.seq + m.mirror.linkId * 2 ^ 32) r.body } else r
  | none => r

/-- A record that arrives with its body in plain text. -/
def Module.plain (m : Module) (r : MirrorRec) : MirrorRec :=
  match m.secur.stateKeys.get r.partition with
  | some k => if m.mute r.partition then
      { r with body := Config.decipher k 2 m.mirror.epoch (r.seq + (1 - m.mirror.linkId) * 2 ^ 32) r.body } else r
  | none => r

/-- A record leaves on the link, or waits to be replayed while the link is down (R316, R327). -/
def Module.transmit (r : MirrorRec) (m : Module) : Module :=
  if m.linkOpen then
    ((m.emit (.record (m.hidden r))).bump Reg.MIRROR.RECORDS_TX_COUNT).bumpBy Reg.MIRROR.BYTES_TX_COUNT (32 + r.body.length)
  else m

/-- A record is formed with the next SEQ and sent; a sequenced one is kept until an ACK covers it. -/
def Module.send (kind part flags step capsule arg0 arg1 : Nat) (body : Bytes) (m : Module) : Module :=
  if unsequenced kind then m.transmit (recSealed ⟨0, kind, part, flags, step, capsule, arg0, arg1, body, 0⟩)
  else
    let seq := m.mirror.txNext
    let r := recSealed ⟨seq, kind, part, flags, step, capsule, arg0, arg1, body, 0⟩
    let m1 := { m with mirror := { m.mirror with txNext := (seq + 1) % 2 ^ 32, sent := m.mirror.sent ++ [r] } }
    m1.transmit r

/-- The pair keeps a stream of writes: PAIRED, RESYNC, or LINK_DOWN with the stream to be replayed (R327). -/
def Module.streaming (m : Module) : Bool :=
  m.mirror.state == 2 || m.mirror.state == 3 || m.mirror.state == 4

/-- A write to a capsule slot reaches the stream (R317, R332): the dirty bit outside PAIRED, and a record unless the slot
still waits in the resync queue or no stream runs. The header's MIRROR_SEQ becomes the record's. -/
def Module.mirrorSlot (kind part step id arg0 arg1 : Nat) (body : Bytes) (m : Module) : Module :=
  let slot := id / 256
  let m1 := if m.mirror.state == 3 then m
    else { m with mirror := { m.mirror with
      dirty := if m.mirror.dirty.contains slot then m.mirror.dirty else m.mirror.dirty ++ [slot] } }
  if m1.streaming && !m1.mirror.queue.contains slot then
    let seq := m1.mirror.txNext
    let m2 := m1.send kind part 0 step id arg0 arg1 body
    { m2 with caps := { m2.caps with slots := m2.caps.slots.upd slot (fun c => { c with mirrorSeq := seq }) } }
  else m1

/-- A record of a kind that names no capsule reaches the stream. -/
def Module.mirrorPlain (kind part step arg0 arg1 : Nat) (body : Bytes) (m : Module) : Module :=
  if m.streaming then m.send kind part 0 step 0xFFFFFFFF arg0 arg1 body else m

/-! ### Capsules -/

/-- The module with slot s changed. -/
def Module.updSlot (s : Nat) (f : Capsule → Capsule) (m : Module) : Module :=
  { m with caps := { m.caps with slots := m.caps.slots.put s (f (m.slot s)) } }

/-- A state of a live capsule: IDLE, ACTIVE, PARKING, PARKED, DELETING (R64). -/
def liveState (st : Nat) : Bool := decide (1 ≤ st) && decide (st ≤ 5)

/-- The capsule that an ID names: the slot is live and the generation matches (R57). -/
def Module.capsule (m : Module) (id : Nat) : Option Capsule :=
  let c := m.slot (id / 256)
  if decide (id < 2 ^ 32) && liveState c.state && c.gen == id % 256 then some c else none

/-- The module with the capsule of an ID changed. -/
def Module.updCap (id : Nat) (f : Capsule → Capsule) (m : Module) : Module := m.updSlot (id / 256) f

/-- The first checks of a command that names a capsule: an ID with generation 0xFF and a field out of range are BAD_FIELD,
and an ID that names no live capsule is STALE_HANDLE (R40, R57; the ranges come first as in R158, assumption 46). -/
def capChecks (m : Module) (id off : Nat) (ranges : List (Bool × Verdict) := []) : List (Bool × Verdict) :=
  (id % 256 != 255, bad off) :: (ranges ++ [((m.capsule id).isSome, stop .stale)])

/-- The capsule's ID. -/
def Capsule.id (slot : Nat) (c : Capsule) : Nat := slot * 256 + c.gen

/-- DAMAGED and PRIVILEGED. -/
def Capsule.damaged (c : Capsule) : Bool := bit c.flags 0
def Capsule.privileged (c : Capsule) : Bool := bit c.flags 1

/-- The module owns the capsule (R48). -/
def Module.owns (m : Module) (c : Capsule) : Bool := c.owner == m.mirror.linkId

/-- The 252 bytes of the header before HEADER_CRC (R46). PAGE_MAP is the first list block, FLAGS [2] follows
SHARED_PAGES. -/
def Capsule.headBytes (slot : Nat) (c : Capsule) : Bytes :=
  leBytes 4 (c.id slot) ++ leBytes 1 c.state ++ leBytes 1 (c.flags + (if c.shared == 0 then 0 else 4)) ++
  leBytes 1 c.partition ++ leBytes 1 c.fmt ++ leBytes 1 c.layers ++ leBytes 1 c.owner ++ leBytes 2 c.slotBytes ++
  leBytes 4 c.epoch ++ leBytes 8 c.expiry ++ leBytes 4 c.tokens ++ leBytes 2 c.pages ++ leBytes 2 c.shared ++
  leBytes 4 (c.lists.headD 0) ++ leBytes 4 c.lastCommit ++ leBytes 4 c.mirrorSeq ++ leBytes 2 c.account ++ zeros 2 ++
  leBytes 8 c.created ++ leBytes 8 c.parked ++ leBytes 4 c.grammar ++ leBytes 4 c.grammarState ++
  leBytes 2 c.tokenizer ++ leBytes 1 c.carry.length ++ padTo c.carry 3 ++ zeros 2 ++
  c.pins.flatMap (leBytes 4) ++ leBytes 4 c.prefixHandle ++ zeros 4 ++ leBytes 4 c.damageFrame ++
  leBytes 1 c.damageBlock ++ zeros 143

/-- The 256-byte header with its check value. -/
def Capsule.bytes (slot : Nat) (c : Capsule) : Bytes :=
  let b := c.headBytes slot
  b ++ leBytes 4 (crc32c b)

/-- A header of the given bytes over a slot's own placement and damage fields (R315). -/
def Capsule.ofBytes (b : Bytes) (own : Capsule) : Capsule :=
  { own with
    gen := u8 b 0, state := u8 b 4, flags := (u8 b 5) / 2 % 2 * 2 + own.flags % 2, partition := u8 b 6, fmt := u8 b 7,
    layers := u8 b 8, owner := u8 b 9, slotBytes := u16 b 0x0A, epoch := u32 b 0x0C, expiry := u64 b 0x10,
    tokens := u32 b 0x18, pages := u16 b 0x1C, shared := u16 b 0x1E, lastCommit := u32 b 0x24, mirrorSeq := u32 b 0x28,
    account := u16 b 0x2C, created := u64 b 0x30, parked := u64 b 0x38, grammar := u32 b 0x40,
    grammarState := u32 b 0x44, tokenizer := u16 b 0x48, carry := slice b 0x4B (Min.min (u8 b 0x4A) 3),
    pins := (List.range 4).map (fun i => u32 b (0x50 + 4 * i)), prefixHandle := u32 b 0x60 }

/-- A slot's bit in the bitmap of copied headers (R343). -/
def Module.markCopied (slot : Nat) (m : Module) : Module :=
  let a := m.get Reg.CKPT.BITMAP_BASE_BASE + slot / 8
  let v := (m.lpddr.rd a).toNat
  if bit v (slot % 8) then m else { m with lpddr := m.lpddr.wr a (BitVec.ofNat 8 (v + 2 ^ (slot % 8))) }

/-- The first write to a header after a cut copies the old header into the checkpoint stream (R343). -/
def Module.ckptHeader (slot : Nat) (m : Module) : Module :=
  match m.ckpt.run with
  | some r =>
    if r.stage == 2 && r.slotsLeft.contains slot then
      (({ m with ckpt := { m.ckpt with run := some { r with slotsLeft := r.slotsLeft.filter (· != slot) } } }).bump
        Reg.CKPT.HEADER_COPIES_COUNT).markCopied slot
    else m
  | none => m

/-- The header record of a capsule goes to the partner (R315), with the step of the write set it belongs to or 0. -/
def Module.sendHeader (step id : Nat) (m : Module) : Module :=
  let c := m.slot (id / 256)
  (m.ckptHeader (id / 256)).mirrorSlot 0x03 c.partition step id 0 0 (c.bytes (id / 256))

/-- The capsule of an ID is changed and its header mirrored. -/
def Module.writeCap (id : Nat) (f : Capsule → Capsule) (m : Module) : Module := (m.updCap id f).sendHeader 0 id

/-! ### Page maps and list blocks (R54) -/

/-- List blocks that a map of n entries takes: 1,022 handles each. -/
def listBlocks (n : Nat) : Nat := ceilDiv n 1022

/-- Free list blocks of the pool; index 0 is never allocated. -/
def Module.listsFree (m : Module) : Nat := m.get Reg.CAPS.LIST_POOL_SIZE_BLOCKS - 1 - m.caps.lists.length

/-- n free list blocks, any of them, are taken; none when fewer are free. -/
def Module.takeLists (n : Nat) (m : Module) : Option (List Nat) × Module :=
  if m.listsFree < n then (none, m)
  else
    let size := m.get Reg.CAPS.LIST_POOL_SIZE_BLOCKS
    let r := (List.range n).foldl (fun (acc : List Nat × Module) _ =>
      let (start, m1) := acc.2.choose size
      match findFrom (fun i => i != 0 && !m1.caps.lists.contains i) size size start with
      | some i => (acc.1 ++ [i], { m1 with caps := { m1.caps with lists := m1.caps.lists ++ [i] } })
      | none => (acc.1, m1)) ([], m)
    (some r.1, r.2)

/-- List blocks are freed. -/
def Module.freeLists (ls : List Nat) (m : Module) : Module :=
  { m with caps := { m.caps with lists := m.caps.lists.filter (fun i => !ls.contains i) } }

/-- The handle of a layer's page (R54). -/
def Capsule.handle (c : Capsule) (layer page : Nat) : Nat := nthD c.map (page * c.layers + layer) 0xFFFFFFFF

/-! ### Shares (R58) -/

/-- The share count of a frame; 0 for one not in the share table. -/
def Module.shareCount (m : Module) (h : Nat) : Nat := ((m.caps.share.get h).map (·.count)).getD 0

/-- A reference to a shared frame is dropped; a frame whose count falls to 0 is freed. -/
def Module.dropShare (h : Nat) (m : Module) : Module :=
  match m.caps.share.get h with
  | none => m
  | some e =>
    if e.count ≤ 1 then ({ m with caps := { m.caps with share := m.caps.share.del h } }).freeFrame h
    else { m with caps := { m.caps with share := m.caps.share.put h { e with count := e.count - 1 } } }

/-- A reference to a shared frame is added. -/
def Module.addShare (h : Nat) (m : Module) : Module :=
  { m with caps := { m.caps with share := m.caps.share.upd h (fun e => { e with count := e.count + 1 }) } }

/-- Free entries of the share table (R58). -/
def Module.shareFree (m : Module) : Nat := 4194304 - m.caps.share.length

/-! ### Damage (R62) -/

/-- A check value failed on a read of a frame by capsule id: the capsule is marked, the registers and the share table
follow, and the event is recorded. The owner's header goes to the partner; a mark on the other module's copy stays its own
(R48). -/
def Module.damage (id frame block : Nat) (m : Module) : Module :=
  let first := !(m.slot (id / 256)).damaged
  let m1 := m.updCap id (fun c => if c.damaged then c else
    { c with flags := c.flags + 1, damageFrame := frame, damageBlock := block })
  let m2 := { m1 with caps := { m1.caps with share := m1.caps.share.upd frame (fun e => { e with damaged := true }) } }
  let m3 := (((m2.bump Reg.CAPS.CHECK_FAILS_COUNT).set Reg.CAPS.LAST_DAMAGE_FRAME frame).set
    Reg.CAPS.LAST_DAMAGE_BLOCK block).set Reg.CAPS.LAST_DAMAGE_SLOT (id / 256)
  let part := if id == capNone then 0xFF else (m3.slot (id / 256)).partition
  let m4 := m3.event 0x0201 part 2 id (frame + block * 2 ^ 32)
  if first && (m4.capsule id).any m4.owns then m4.sendHeader 0 id else m4

/-- The header is loaded and its HEADER_CRC fails (R47): the capsule is damaged with DAMAGE_FRAME 0xFFFFFFFF. -/
def Module.loadHeader (id : Nat) (m : Module) : Module :=
  if (m.capsule id).any (fun c => c.headerBad && !c.damaged) then m.damage id 0xFFFFFFFF 0 else m

/-- A list block of the capsule's map fails its CHECK (R54). -/
def Module.mapBad (m : Module) (c : Capsule) : Bool := c.lists.any m.caps.badLists.contains

/-- The map is read through its list blocks, whose CHECK values are tested (R51, R54). A failed one is damage with no frame
to name, which DAMAGE_FRAME 0xFFFFFFFF says (assumption 182). -/
def Module.loadMap (id : Nat) (m : Module) : Module :=
  if (m.capsule id).any (fun c => m.mapBad c && !c.damaged) then m.damage id 0xFFFFFFFF 0 else m

/-! ### Frames: slots and bytes (R49 to R52) -/

/-- A frame of a capsule's page with no filled slot. -/
def Frame.empty (id layer page fmt slotBytes : Nat) : Frame := ⟨id, layer, page, fmt, slotBytes, 0, false, [], [], []⟩

/-- A write of slot i writes block b of the frame: the header block of the slot's tile or a block that holds its bytes
(R49). -/
def slotWrites (i b : Nat) : Bool :=
  b / 4 == i / 32 && (b % 4 == 0 ||
    (decide ((1024 + 480 * (i % 32)) / 4096 ≤ b % 4) && decide (b % 4 ≤ (1024 + 480 * (i % 32) + 479) / 4096)))

/-- A frame with slot i written: its tile takes the lease epoch and the time of the write, and the check values of the blocks
written are recomputed (R51). A slot that stays empty fills nothing. -/
def Frame.setSlot (i : Nat) (s : Slot) (epoch time : Nat) (f : Frame) : Frame :=
  { f with slots := f.slots.put i s, fill := if s.state == 0 then f.fill else Max.max f.fill (i + 1),
           tiles := f.tiles.put (i / 32) (epoch, time), bad := f.bad.filter (fun b => !slotWrites i b) }

/-- A frame with slot i empty. -/
def Frame.dropSlot (i : Nat) (f : Frame) : Frame :=
  let slots := f.slots.del i
  { f with slots := slots,
           fill := (slots.filter (fun (_, s) => s.state != 0)).foldl (fun n x => Max.max n (x.1 + 1)) 0,
           bad := f.bad.filter (fun b => !slotWrites i b) }

/-- A frame with every slot from n on empty. -/
def Frame.cut (n epoch time : Nat) (f : Frame) : Frame :=
  if f.fill ≤ n then f
  else { f with slots := f.slots.keep (fun i _ => decide (i < n)), fill := n,
                tiles := (List.range 8).foldl (fun t i => if n / 32 ≤ i && decide (32 * i < f.fill) then
                  t.put i (epoch, time) else t) f.tiles }

/-- The tiles of a frame that hold a filled slot (R77). -/
def Frame.filledTiles (f : Frame) : List Nat := (List.range 8).filter (fun t => decide (32 * t < f.fill))

/-- n bytes of a frame from an offset. -/
def Frame.read (f : Frame) (off n : Nat) : Bytes :=
  let first := off / 16384
  let last := (off + n - 1) / 16384
  let all := (List.range (last + 1 - first)).flatMap (fun i => f.tileBytes (first + i))
  slice all (off - first * 16384) n

/-- The first block whose check value fails among those that hold bytes off to off + n − 1, with the header block of each
tile, which every use of a tile checks. -/
def Frame.badIn (f : Frame) (off n : Nat) : Option Nat :=
  f.bad.find? (fun b => decide (off / 4096 ≤ b) && decide (b ≤ (off + n - 1) / 4096))

/-- A slot of a frame written from bytes at an offset within a token slot; none where the offset lies in a tile header
(R57). -/
def Frame.slotOf (off : Nat) : Option (Nat × Nat) :=
  let t := off / 16384
  let o := off % 16384
  if o < 1024 then none else some (32 * t + (o - 1024) / 480, (o - 1024) % 480)

/-! ### Copy-on-write (R60) -/

/-- The first tier from a tier on, in the order HBM, LPDDR, host, flash, that takes a frame (R60); from 8, the tiers of mirror
frames: LPDDR, then flash (R318); from 9, HBM alone, where new frames lie (R81). -/
def firstTier (m : Module) (from_ : Nat) : Option Nat :=
  (if from_ == 8 then [1, 3] else if from_ == 9 then [0] else (List.range 4).filter (fun t => decide (from_ ≤ t))).find? m.tierTakes

/-- A frame is reserved in the first tier from a tier on that takes one: an empty frame stands there. A flash reserve is
written when the copy is. -/
def Module.reserveFrom (tier : Nat) (f : Frame) (m : Module) : Option Nat × Module :=
  match firstTier m tier with
  | none => (none, m)
  | some t =>
    match m.allocFrame t with
    | (some h, m1) => (some h, m1.putFrame h f)
    | (none, m1) => (none, m1)

/-- Tiles that hold the first n slots of a frame. -/
def tilesOf (n : Nat) : List Nat := List.range (ceilDiv n 32)

/-- The first block that fails among those that a copy of the last shared page reads: the tiles of the capsule's own slots in
each frame with other references (R51, R60), as frame and block. -/
def Module.copyBad (m : Module) (id : Nat) : Option (Nat × Nat) :=
  let c := m.slot (id / 256)
  let page := c.shared - 1
  let own := c.tokens - page * 256
  (List.range c.layers).findSome? (fun l =>
    let h := c.handle l page
    if m.shareCount h ≤ 1 then none
    else (m.frame h).bind (fun f => (f.bad.find? (fun b => (tilesOf own).contains (b / 4))).map (fun b => (h, b))))

/-- The last shared page of a capsule becomes its own (R60): frames with other references are copied, a frame with none
is taken over, both cut to the capsule's own fill. The tiles written carry the lease epoch and the time of the copy (R50).
NO_SPACE changes nothing. tiers lets the mirror's copy choose its own place (R318). -/
def Module.copyShared (id : Nat) (tiers : Nat → Nat) (m : Module) : Option Module :=
  let c := m.slot (id / 256)
  let page := c.shared - 1
  let own := c.tokens - page * 256
  let olds := (List.range c.layers).map (fun l => (l, c.handle l page))
  let step (acc : Option (Module × List (Nat × Nat × Bool))) (p : Nat × Nat) :
      Option (Module × List (Nat × Nat × Bool)) :=
    acc.bind (fun (a, got) =>
      if a.shareCount p.2 ≤ 1 then some (a, got ++ [(p.1, p.2, false)])
      else
        let f := (a.frame p.2).getD (Frame.empty id p.1 page c.fmt c.slotBytes)
        let g := { f with capsule := id, shared := false, slots := f.slots.keep (fun i _ => decide (i < own)),
                          fill := own, bad := f.bad.filter (fun b => (tilesOf own).contains (b / 4)),
                          tiles := (tilesOf own).map (fun t => (t, (c.epoch, a.clk.now))) }
        match a.reserveFrom (tiers (tierOf p.2)) g with
        | (some h, a1) => some (a1, got ++ [(p.1, h, true)])
        | (none, _) => none)
  (olds.foldl step (some (m, []))).map (fun (a, news) =>
    let a1 := news.foldl (fun (b : Module) (l, h, copied) =>
      let old := c.handle l page
      if copied then (b.dropShare old).bump Reg.CAPS.COW_COPIES_COUNT
      else
        let b1 := { b with caps := { b.caps with share := b.caps.share.del old } }
        b1.updFrame h (fun f => { (f.cut own c.epoch b.clk.now) with shared := false, capsule := id, fill := own })) a
    a1.updCap id (fun k => { k with
      map := news.foldl (fun mp (l, h, _) => setNth mp (page * k.layers + l) h) k.map,
      shared := page }))

/-- Users of a prefix follow the headers (R193): capsules whose PREFIX_HANDLE is the handle and whose SHARED_PAGES is not
0. -/
def Module.prefixUsers (m : Module) (handle : Nat) : Nat :=
  (m.caps.slots.vals.filter (fun c => liveState c.state && c.prefixHandle == handle && c.shared != 0)).length

/-! ### Slots of a capsule -/

/-- The page list of a layer gets one more page: LAYERS new frames and the list blocks that the map then needs; none when
there is no space (R54, R55). -/
def Module.addPage (id : Nat) (tier : Nat) (m : Module) : Option Module :=
  let c := m.slot (id / 256)
  if 4096 ≤ c.pages then none
  else
    let need := listBlocks (c.map.length + c.layers) - c.lists.length
    match m.takeLists need with
    | (none, _) => none
    | (some ls, m1) =>
      let r := (List.range c.layers).foldl (fun (acc : Option (Module × List Nat)) l =>
        acc.bind (fun (a, hs) =>
          match a.reserveFrom tier (Frame.empty id l c.pages c.fmt c.slotBytes) with
          | (some h, a1) => some (a1, hs ++ [h])
          | (none, _) => none)) (some (m1, []))
      r.map (fun (a, hs) => a.updCap id (fun k =>
        { k with map := k.map ++ hs, lists := k.lists ++ ls, pages := k.pages + 1 }))

/-- Slot contents of a capsule's position in a layer. -/
def Module.slotAt (m : Module) (id layer pos : Nat) : Option Slot :=
  ((m.capsule id).bind (fun c => m.frame (c.handle layer (pos / 256)))).bind (fun f => f.slots.get (pos % 256))

/-- A slot of a layer is written; the page must exist and be the capsule's own. -/
def Module.writeSlot (id layer pos : Nat) (s : Slot) (m : Module) : Module :=
  let c := m.slot (id / 256)
  m.updFrame (c.handle layer (pos / 256)) (fun f => f.setSlot (pos % 256) s c.epoch m.clk.now)

/-- The body of a SLOTS record: per slot its SLOT_META and its latent (R315). -/
def slotBody (slots : List Slot) : Bytes :=
  slots.flatMap (fun s => leBytes 4 s.pos ++ leBytes 1 s.state ++ leBytes 1 s.node ++ zeros 2 ++ s.bytes)

/-- A SLOTS record for slots of one page. -/
def Module.sendSlots (part step id layer page first slotBytes : Nat) (slots : List Slot) (m : Module) : Module :=
  m.mirrorSlot 0x01 part step id (layer + page * 2 ^ 8 + first * 2 ^ 20) (slots.length + slotBytes * 2 ^ 16)
    (slotBody slots)

/-- Private frames of a capsule: entry number and handle of every page from SHARED_PAGES on. -/
def Capsule.private_ (c : Capsule) : List (Nat × Nat) :=
  c.map.zipIdx.filterMap (fun (h, i) => if c.shared * c.layers ≤ i then some (i, h) else none)

/-- A capsule is cut to n tokens (R71): slots from there on emptied, pages left empty freed, SHARED_PAGES lowered. -/
def Module.truncateTo (id n : Nat) (m : Module) : Module :=
  let c := m.slot (id / 256)
  let pages := ceilDiv n 256
  let gone := c.map.drop (pages * c.layers)
  let m1 := gone.zipIdx.foldl (fun (a : Module) (h, i) =>
    if (pages * c.layers + i) / c.layers < c.shared then a.dropShare h else a.freeFrame h) m
  let last := if n % 256 == 0 || c.shared ≥ pages then []
    else (List.range c.layers).map (fun l => c.handle l (pages - 1))
  let m2 := last.foldl (fun (a : Module) h => a.updFrame h (fun f => f.cut (n % 256) c.epoch a.clk.now)) m1
  let keepLists := listBlocks (pages * c.layers)
  let m3 := m2.freeLists (c.lists.drop keepLists)
  m3.updCap id (fun k =>
    { k with
      tokens := n, pages := Min.min k.pages pages, map := k.map.take (pages * k.layers),
      lists := k.lists.take keepLists, shared := Min.min k.shared pages,
      keep := k.keep.filter (fun i => decide (i < pages * k.layers)) })

/-- Every frame and list block of a capsule is given up: private frames freed, shares dropped (R64). -/
def Module.releaseFrames (id : Nat) (m : Module) : Module :=
  let c := m.slot (id / 256)
  let m1 := c.map.zipIdx.foldl (fun (a : Module) (h, i) =>
    if i < c.shared * c.layers then a.dropShare h else a.freeFrame h) m
  (m1.freeLists c.lists).updCap id (fun k =>
    { k with map := [], lists := [], keep := [], pages := 0, shared := 0, tokens := 0 })

/-- The slot is left by its capsule: the next generation, or RETIRED when that would be 0xFF (R41). -/
def Module.freeSlot (slot : Nat) (m : Module) : Module :=
  let g := (m.slot slot).gen + 1
  if g == 255 then m.updSlot slot (fun _ => { Capsule.blank with gen := g, state := 6, retiredAt := m.clk.mono })
  else m.updSlot slot (fun _ => { Capsule.blank with gen := g })

/-- The lowest free slot of a half that no grant holds (R44). -/
def Module.freeSlotOf (m : Module) (half : Nat) : Option Nat :=
  let used := (m.caps.slots.filter (fun (s, c) => s % 2 == half && c.state != 0)).map (·.1)
  let taken := used ++ m.caps.grants.filter (fun s => s % 2 == half)
  let cands := (List.range (taken.length + 1)).map (fun i => 2 * i + half)
  (cands.find? (fun s => !taken.contains s)).filter (fun s => decide (s < 2 ^ 24))

end Sys2Proof.Machine
end

