-- ==== Sys2Proof/Machine/OpsMove.lean ====
section
/-!
DEFINITION. Tile transfers (R77, R578), moves of frames (R75, R79) and parks (R70).
-/

namespace Sys2Proof.Machine

open Sys2Proof

/-! ### Transfers -/

/-- The partition of a capsule's slot. -/
def Module.capPart (m : Module) (id : Nat) : Nat := (m.slot (id / 256)).partition

/-- The Reed instance and requester that a read of a frame waits for: its HBM or LPDDR channel group, its flash channel,
or the host link in the name of the partition (R423 to R425). -/
def Module.readArbiter (m : Module) (h part : Nat) : Nat × Nat :=
  if tierOf h == 0 then (Config.hbmGroup (indexOf h) % 32, 0)
  else if tierOf h == 1 then (32 + Config.lpddrGroup (indexOf h) % 8, 0)
  else if tierOf h == 2 then (89, part)
  else (40 + ((m.ftlLoc 0 (indexOf h)).map (·.1)).getD 0 % 32, 0)

/-- A tile transfer starts: it is in flight and its request stands at the arbiter of its tier. A read of flash uses the location
that the map gives now (R302). -/
def Module.startXfer (x : Xfer) (m : Module) : Module :=
  let id := m.slide.nextId
  let y := { x with place := if tierOf x.source == 3 then m.ftlLoc 0 (indexOf x.source) else none }
  let m1 := { m with slide := { m.slide with xfers := m.slide.xfers.put id y, nextId := id + 1 } }
  let p := m.capPart x.capsule
  let (i, r) := m1.readArbiter x.source p
  m1.reedRequest i r p 256

/-- The arbiter of a transfer has granted it (R578): when that was, or none while its request waits. -/
def Module.grantOf (m : Module) (x : Xfer) : Option Nat :=
  let p := m.capPart x.capsule
  let (i, r) := m.readArbiter x.source p
  ((m.reedInst i).holder.filter (fun h => h.requester == r && h.tag == p)).map (fun _ => (m.reedInst i).granted)

/-- The arbiters of a tier's channels (R423). -/
def tierArbiters (tier : Nat) : List Nat :=
  if tier == 0 then List.range 32 else if tier == 1 then (List.range 8).map (· + 32)
  else if tier == 2 then [89] else (List.range 32).map (· + 40)

/-- A tier's channels are idle: no transfer holds or waits for their arbiters (R80, R87). -/
def Module.tierIdle (m : Module) (tier : Nat) : Bool :=
  (tierArbiters tier).all (fun i => (m.reedInst i).waiting.isEmpty && (m.reedInst i).holder.isNone)

/-- An old frame of a move is freed once no read of it is in flight (R75). -/
def Module.checkLeaving (h : Nat) (m : Module) : Module :=
  if m.slide.leaving.contains h && m.slide.xfers.vals.all (fun x => x.source != h) then
    ({ m with slide := { m.slide with leaving := m.slide.leaving.filter (· != h) } }).freeFrame h
  else m

/-- A tile transfer is over: its request drops, and is raised again when more of the kind are in flight; an old frame that it
read last is freed. -/
def Module.endXfer (id : Nat) (m : Module) : Module :=
  match m.slide.xfers.get id with
  | none => m
  | some x =>
    let m1 := { m with slide := { m.slide with xfers := m.slide.xfers.del id } }
    let p := m.capPart x.capsule
    let a := m1.readArbiter x.source p
    let m2 := m1.reedDrop a.1 a.2 p
    let m3 := if m2.slide.xfers.vals.any (fun y => m2.readArbiter y.source (m2.capPart y.capsule) == a &&
        m2.capPart y.capsule == p) then m2.reedRequest a.1 a.2 p 256 else m2
    (m3.checkLeaving x.source).readOver x.place

/-! ### Moves -/

/-- A status code as a number remembered by a waiting command; 0 is none. -/
def statusOf (n : Nat) : Status :=
  if n == 2 then .noSpace else if n == 7 then .readOnly else if n == 13 then .damaged else if n == 1 then .busy else .ok

/-- A published step writes slots in a frame until its write phase ends (R79). -/
def Module.frameBusy (m : Module) (h : Nat) : Bool :=
  m.steps.parts.vals.any (fun p => p.live.any (fun s => s.seqs.any (fun q =>
    !q.dropped && !q.written &&
    ((m.capsule q.capsule).map (fun c =>
      (c.map.drop (q.basePos / 256 * c.layers)).contains h)).getD false)))

/-- Frames under KEEP in their tier stay in place for background moves and revives (R80). -/
def Module.kept (m : Module) (h : Nat) : Bool :=
  match m.frame h with
  | some f =>
    let c := m.slot (f.capsule / 256)
    (c.map.findIdx? (· == h)).any (fun i => c.keep.contains i)
  | none => false

/-- A park has no move left and everything of the capsule is mirrored: the capsule is PARKED (R64, R70). -/
def Module.checkPark (id : Nat) (m : Module) : Module :=
  match m.caps.parks.find? (fun p => p.capsule == id) with
  | none => m
  | some p =>
    let moving := m.slide.moves.vals.any (fun v => v.why == .park id) ||
      m.slide.queued.any (fun q => q.2.1 == .park id)
    let mirrored := m.mirror.state != 3 || m.mirror.sent.all (fun r => r.capsule != id)
    if moving then m
    else
      let answer (st : Status) (a : Module) : Module :=
        match p.cmd.bind (fun n => a.host.running.find? (fun c => c.id == n)) with
        | some c => a.fail c st
        | none => a
      let m1 := { m with caps := { m.caps with parks := m.caps.parks.filter (fun q => q.capsule != id) } }
      match p.failed with
      | some st => answer st (m1.writeCap id (fun c => { c with state := p.back }))
      | none =>
        if !mirrored then m
        else answer .ok (m1.writeCap id (fun c => { c with state := 4, parked := m.clk.now }))

/-- Parks that waited for acknowledgements are looked at again. -/
def Module.checkParks (m : Module) : Module := (m.caps.parks.map (·.capsule)).foldl (fun (a : Module) id => a.checkPark id) m

/-- A SLIDE_PLACE whose moves are over completes (R101). -/
def Module.checkPlace (cmd : Nat) (m : Module) : Module :=
  let busy := m.slide.moves.vals.any (fun v => v.why == .place cmd) || m.slide.queued.any (fun q => q.2.1 == .place cmd)
  match m.host.running.find? (fun c => c.id == cmd) with
  | some c => if busy then m else m.fail c (statusOf (c.data.headD 0))
  | none => m

/-- A host-tier frame lies in an extent (R97). -/
def Extent.holds (e : Extent) (h : Nat) : Bool :=
  tierOf h == 2 && decide (e.first ≤ indexOf h) && decide (indexOf h < e.first + e.size / 131072)

/-- A swap release whose moves are over, and whose frames no read holds any more, completes: the extent goes, or stays when frames were left (R98, R104). -/
def Module.checkRelease (extent : Nat) (m : Module) : Module :=
  match m.slide.releases.find? (fun r => r.extent == extent) with
  | none => m
  | some r =>
    let mine : MoveFor → Bool
      | .release e _ => e == extent
      | _ => false
    let inside (h : Nat) : Bool := match m.slide.extents.find? (fun e => e.id == extent) with
      | some e => e.holds h
      | none => false
    if m.slide.moves.vals.any (fun v => mine v.why || inside v.target) || m.slide.queued.any (fun q => mine q.2.1) ||
       m.slide.leaving.any inside then m
    else
      let left := m.caps.frames.keys.any inside
      let m1 := { m with slide := { m.slide with
        releases := m.slide.releases.filter (fun q => q.extent != extent),
        extents := if left then m.slide.extents else m.slide.extents.filter (fun e => e.id != extent) } }
      match m1.host.running.find? (fun c => c.id == r.cmd) with
      | some c => if left then m1.fail c .noSpace else m1.ok c (leBytes 4 r.moved)
      | none => m1

/-- What waits for the moves of a purpose is looked at. -/
def Module.moveEnded (why : MoveFor) (m : Module) : Module :=
  match why with
  | .place c => m.checkPlace c
  | .park id => m.checkPark id
  | .release e _ => m.checkRelease e
  | _ => m

/-- A move that failed is remembered by what waits for it: the first failure stands. -/
def Module.moveFailed (why : MoveFor) (st : Status) (m : Module) : Module :=
  match why with
  | .place c => m.updCmd c (fun x => { x with data := if x.data.headD 0 == 0 then st.code :: x.data.drop 1 else x.data })
  | .park id => if st == .ok then m else { m with caps := { m.caps with parks := m.caps.parks.map (fun p =>
      if p.capsule == id then { p with failed := some (p.failed.getD st) } else p) } }
  | _ => m

/-- The counters of a frame that has moved (R105). -/
def Module.moveCounted (why : MoveFor) (target : Nat) (m : Module) : Module :=
  match why with
  | .relief => if tierOf target == 2 then m.bump Reg.SLIDE.SWAP_HOST_FRAMES_COUNT
      else if tierOf target == 3 then m.bump Reg.SLIDE.SWAP_FLASH_FRAMES_COUNT else m
  | .cascade => m.bump Reg.SLIDE.SWAP_FLASH_FRAMES_COUNT
  | .release e _ => { m with slide := { m.slide with releases := m.slide.releases.map (fun r =>
      if r.extent == e then { r with moved := r.moved + 1 } else r) } }
  | _ => m

/-- A frame of a prefix that moves: the share table, the prefix's list and every map that names it (R196). -/
def Module.renameShared (old new : Nat) (m : Module) : Module :=
  let sub (h : Nat) : Nat := if h == old then new else h
  let share := match m.caps.share.get old with
    | some e => (m.caps.share.del old).put new e
    | none => m.caps.share
  { m with
    caps := { m.caps with share := share, slots := m.caps.slots.mapV (fun _ c => { c with map := c.map.map sub }) },
    steps := { m.steps with prefixes := m.steps.prefixes.mapV (fun _ p => { p with map := p.map.map sub }) } }

/-- The map entry of a frame takes its new handle in one write, and the old frame is freed once no read of it is in flight
(R75, R79). -/
def Module.rehome (old new : Nat) (m : Module) : Module :=
  let last := m.caps.lastRead.getD old 0
  let owner := ((m.frame new).map (·.capsule)).getD capNone
  let m1 := if m.caps.share.has old then m.renameShared old new
    else m.updCap owner (fun c => { c with map := c.map.map (fun h => if h == old then new else h) })
  let queued := m1.slide.queued.map (fun (q : Nat × MoveFor × Nat) => if q.1 == old then (new, q.2) else q)
  let m2 := ({ m1 with slide := { m1.slide with queued := queued, leaving := m1.slide.leaving ++ [old] } }).checkLeaving old
  { m2 with caps := { m2.caps with lastRead := m2.caps.lastRead.put new last } }

/-- A write of a frame waits for room in the flash write buffer. -/
def Module.flashWaits (m : Module) (i : Nat) : Bool :=
  m.ftl.chans.vals.any (fun x => x.waiting.any (fun w => w.ext == 0 && w.logical == i))

/-- A write of a frame that waits for a channel's buffer is taken back. -/
def Module.dropWait (i : Nat) (m : Module) : Module :=
  let chans := m.ftl.chans.mapV (fun _ x =>
    { x with waiting := x.waiting.filter (fun w => !(w.ext == 0 && w.logical == i)) })
  { m with ftl := { m.ftl with chans := chans } }

/-- A move ends without its map write: the old frame stays the home, and the new one is free again (R75). A frame of an extent
being released that flash refuses goes to LPDDR instead (R98). -/
def Module.abortMove (id : Nat) (st : Status) (m : Module) : Module :=
  match m.slide.moves.get id with
  | none => m
  | some v =>
    let mine := (m.slide.xfers.filter (fun (_, x) => x.why == .move id)).map (·.1)
    let m1 := mine.foldl (fun (a : Module) k => a.endXfer k) m
    let m2 := { m1 with slide := { m1.slide with moves := m1.slide.moves.del id } }
    let m3 := if tierOf v.target == 3 then m2.dropWait (indexOf v.target) else m2
    let again : Bool := match v.why with
      | .release _ _ => tierOf v.target == 3 && (st == .noSpace || st == .readOnly)
      | _ => false
    if again then { m3 with slide := { m3.slide with queued := m3.slide.queued ++ [(v.source, v.why, 1)] } }
    else (m3.moveFailed v.why st).moveEnded v.why

/-- The content that a move writes to its target: every tile was read and passed its check, or holds no filled slot and is
written valid (R75, R77). -/
def Frame.moved (f : Frame) : Frame := { f with bad := [] }

/-- The last step of a move whose tiles have all been copied: unless a step still writes the frame, the target is written
with the content that stands, the map entry replaced and the old frame freed. A flash target waits for its acceptance. -/
def Module.finishMove (id : Nat) (m : Module) : Module :=
  match m.slide.moves.get id with
  | none => m
  | some v =>
    if !v.left.isEmpty || m.frameBusy v.source then m
    else
      match m.frame v.source with
      | none => m.abortMove id .ok
      | some f =>
        let done (a : Module) : Module :=
          let a1 := { a with slide := { a.slide with moves := a.slide.moves.del id } }
          ((a1.rehome v.source v.target).moveCounted v.why v.target).moveEnded v.why
        if tierOf v.target == 3 then
          match m.ftlRead 0 (indexOf v.target) with
          | some _ => done m
          | none =>
            if m.flashWaits (indexOf v.target) then m
            else
              match m.ftlWrite 0 (indexOf v.target) (.frame f.moved) with
              | (m1, .accepted) => done m1
              | (m1, .waits) => m1
              | (m1, .noSpace) => m1.abortMove id .noSpace
              | (m1, .readOnly) => m1.abortMove id .readOnly
        else done (m.putFrame v.target f.moved)

/-- Why a move cannot start, if it cannot (R79). -/
def Module.moveBar (m : Module) (tier : Nat) : Option Status :=
  if tier == 3 && (m.ftl.readOnly || m.ftl.holdup) then some .readOnly
  else if m.tierTakes tier then none else some .noSpace

/-- A move of one frame starts (R75): a frame of the target tier is taken, and its filled tiles are read, those that are
already in flight from the frame serving the move too. A second move of a frame waits for the first, and a move of a frame that
a step is writing waits for that step's write phase (R79). -/
def Module.startMove (why : MoveFor) (source tier : Nat) (m : Module) : Module :=
  if m.slide.moves.vals.any (fun v => v.source == source) || (m.frameBusy source && tierOf source != tier) then
    { m with slide := { m.slide with queued := m.slide.queued ++ [(source, why, tier)] } }
  else if tierOf source == tier then m
  else
    match m.moveBar tier, m.frame source with
    | some st, _ => m.moveFailed why st
    | none, none => m
    | none, some f =>
      match m.allocFrame tier with
      | (none, m1) => m1.moveFailed why .noSpace
      | (some t, m1) =>
        let id := m1.slide.nextId
        let v : Move := ⟨why, source, t, f.filledTiles⟩
        let m2 := { m1 with slide := { m1.slide with moves := m1.slide.moves.put id v, nextId := id + 1 } }
        let flying := (m2.slide.xfers.vals.filter (fun x => x.source == source)).map (·.tile)
        let m3 := (f.filledTiles.filter (fun k => !flying.contains k)).foldl (fun (a : Module) k =>
          a.startXfer ⟨.move id, f.capsule, f.layer, f.page, k, source, 64, a.clk.mono, 0, none, none⟩) m2
        if f.filledTiles.isEmpty then m3.finishMove id else m3

/-- Moves whose tiles are all copied end where nothing holds them any more, and moves that waited for them start from the
frame's new home. -/
def Module.finishMoves (m : Module) : Module :=
  let m1 := ((m.slide.moves.filter (fun (_, v) => v.left.isEmpty)).map (·.1)).foldl (fun (a : Module) id => a.finishMove id) m
  let held (h : Nat) : Bool := m1.slide.moves.vals.any (fun v => v.source == h) || m1.frameBusy h
  let ready := m1.slide.queued.filter (fun q => !held q.1)
  let m2 := { m1 with slide := { m1.slide with queued := m1.slide.queued.filter (fun q => held q.1) } }
  let m3 := ready.foldl (fun (a : Module) q =>
    (a.startMove q.2.1 q.1 q.2.2).moveEnded q.2.1) m2
  (m3.slide.releases.map (·.extent)).foldl (fun (a : Module) e => a.checkRelease e) m3

/-- A tile of a frame has been read for a move: it is copied, and the move goes on. -/
def Module.tickMove (source tile : Nat) (m : Module) : Module :=
  match m.slide.moves.find? (fun (_, v) => v.source == source && v.left.contains tile) with
  | none => m
  | some (id, v) =>
    let m1 := ({ m with slide := { m.slide with moves := m.slide.moves.put id { v with left := v.left.erase tile } } }).bump
      Reg.SLIDE.TILES_MOVED_COUNT
    m1.finishMoves

/-- A revive prefetch ends early: its reads and its promotions stop (R91). -/
def Module.endRevive (r : Nat) (m : Module) : Module :=
  let mine := (m.slide.xfers.filter (fun (_, x) => x.why == .revive r)).map (·.1)
  let m1 := mine.foldl (fun (a : Module) k => a.endXfer k) m
  let moves := (m1.slide.moves.filter (fun (_, v) => v.why == .revive r)).map (·.1)
  let m2 := moves.foldl (fun (a : Module) k => a.abortMove k .ok) m1
  { m2 with slide := { m2.slide with
    revives := m2.slide.revives.filter (· != r), queued := m2.slide.queued.filter (fun q => q.2.1 != .revive r) } }

/-! ### Parks -/

/-- A park starts (R70): the capsule is PARKING and its private frames outside the tier move. back is the state it falls
back to. -/
def Module.startPark (id tier back : Nat) (cmd : Option Nat) (m : Module) : Module :=
  let m1 := m.writeCap id (fun c => { c with state := 3 })
  let park : Park := ⟨id, tier, back, cmd, none⟩
  let gone := m1.slide.revives.filter (fun r => !((m1.steps.reqs.get r).map (fun q => q.capsule != id)).getD false)
  let m0 := gone.foldl (fun (a : Module) r => a.endRevive r) m1
  let m2 : Module := { m0 with caps := { m0.caps with parks := m0.caps.parks ++ [park] } }
  let frames := ((m2.slot (id / 256)).private_.map (·.2)).filter (fun h => tierOf h != tier)
  let m3 := frames.foldl (fun (a : Module) h =>
    if ((a.caps.parks.find? (fun p => p.capsule == id)).bind (·.failed)).isSome then a
    else a.startMove (.park id) h tier) m2
  m3.checkPark id

/-- A park is abandoned when a request is admitted on the capsule: its command completes with BUSY (R64, R65). -/
def Module.abandonPark (id : Nat) (m : Module) : Module :=
  match m.caps.parks.find? (fun p => p.capsule == id) with
  | none => m
  | some p =>
    let m1 := { m with
      caps := { m.caps with parks := m.caps.parks.filter (fun q => q.capsule != id) },
      slide := { m.slide with queued := m.slide.queued.filter (fun q => q.2.1 != .park id) } }
    match p.cmd.bind (fun n => m1.host.running.find? (fun c => c.id == n)) with
    | some c => m1.fail c .busy
    | none => m1

end Sys2Proof.Machine
end

