-- ==== Sys2Proof/Machine/AttnMath.lean ====
section
/-!
DEFINITION. What a fused attention command computes, as functions of its inputs: the descriptor (R113), the query block
(R114), masks (R116, R117), skips (R118), blocks and waves (R119, R120) and the arithmetic of R139 to R148.
-/

namespace Sys2Proof.Machine

open Sys2Proof

/-- The descriptor that 64 bytes spell (R113). -/
def Desc.parse (b : Bytes) : Desc :=
  { kind := u8 b 0, maskMode := u8 b 1, flags := u8 b 2, partition := u8 b 3, capsule := u32 b 4,
    request := u32 b 8, step := u32 b 0x0C, model := u16 b 0x10, layer := u8 b 0x12, headFirst := u8 b 0x13,
    headCount := u8 b 0x14, route := u8 b 0x15, queryCount := u16 b 0x16, basePos := u32 b 0x18,
    window := u32 b 0x1C, scale := u32 b 0x20, queryAddr := u64 b 0x28, outAddr := u64 b 0x30,
    treeAddr := u64 b 0x38 }

/-- Query rows of a command. -/
def Desc.rows (d : Desc) : Nat := d.headCount * d.queryCount

/-- QUERY_SRC is HBM. -/
def Desc.queryHbm (d : Desc) : Bool := bits d.route 1 0 == 1

/-- OUT_DEST is HBM. -/
def Desc.outHbm (d : Desc) : Bool := bits d.route 3 2 == 1

/-- OUT_FORMAT: 0 BF16, 1 FP32, 2 FP8 E4M3. -/
def Desc.outFmt (d : Desc) : FFmt :=
  if bits d.route 5 4 == 0 then bf16 else if bits d.route 5 4 == 1 then fp32 else e4m3

/-- MASK_MODE is TREE. -/
def Desc.isTree (d : Desc) : Bool := d.maskMode == 1

/-- The descriptor is a descriptor of R113 for the model: encodings, ranges, reserved bits and the address fields.
reserved24 is the reserved word at 0x24. -/
def Desc.fieldsOk (d : Desc) (m : Model) (reserved24 : Nat) : Bool :=
  d.kind == 1 && decide (d.maskMode ≤ 1) && decide (d.flags ≤ 1) && decide (d.partition ≤ 7) &&
  decide (d.request < 2 ^ 18) && decide (d.layer < m.layers) && decide (1 ≤ d.headCount) &&
  decide (d.headCount ≤ 128) && decide (d.headFirst + d.headCount ≤ m.heads) &&
  decide (bits d.route 1 0 ≤ 1) && decide (bits d.route 3 2 ≤ 1) && decide (bits d.route 5 4 ≤ 2) &&
  bits d.route 7 6 == 0 && decide (1 ≤ d.queryCount) &&
  decide (d.queryCount ≤ (if d.isTree then 64 else 256)) && decide (d.rows ≤ 768) && reserved24 == 0 &&
  (d.queryHbm || d.queryAddr == 0) && (d.outHbm || d.outAddr == 0) && (d.isTree || d.treeAddr == 0)

/-- Depths of the nodes of a parent array of n nodes, none when the array breaks R117. -/
def treeDepths (parents : List Nat) (n : Nat) : Option (List Nat) :=
  let rec go : Nat → Nat → List Nat → Option (List Nat)
    | 0, _, ds => some ds
    | k + 1, i, ds =>
      let p := nthD parents i 0xFF
      if i == 0 then (if p == 0xFF then go k 1 [1] else none)
      else if decide (p < i) then
        let d := nthD ds p 0 + 1
        if d ≤ 8 then go k (i + 1) (ds ++ [d]) else none
      else none
  if (parents.drop n).all (· == 0xFF) then go n 0 [] else none

/-- Node j is node i or an ancestor of it. -/
def isAncestor (parents : List Nat) (j i : Nat) : Bool :=
  let rec go : Nat → Nat → Bool
    | 0, i => i == j
    | k + 1, i => i == j || (i != 0 && go k (nthD parents i 0))
  go 8 i

/-- The position of query i (R116). -/
def qpos (d : Desc) (depths : List Nat) (i : Nat) : Nat :=
  if d.isTree then d.basePos + nthD depths i 1 - 1 else d.basePos + i

/-- The window test (R116). -/
def inWindow (w q k : Nat) : Bool := w == 0 || decide (q - k < w)

/-- A slot of the page list is attendable by query position q (R116). -/
def slotAttends (w q : Nat) (s : Slot) : Bool := s.state == 1 && decide (s.pos ≤ q) && inWindow w q s.pos

/-- New slot j of the command's own block is attendable by query i (R116). -/
def ownAttends (d : Desc) (parents depths : List Nat) (i j : Nat) : Bool :=
  if d.isTree then isAncestor parents j i && inWindow d.window (qpos d depths i) (qpos d depths j)
  else decide (j ≤ i) && inWindow d.window (d.basePos + i) (d.basePos + j)

/-- A tile is skipped (R118). tokens is the layer's fill of the capsule. -/
def skipTile (d : Desc) (qmin qmax tokens page tile : Nat) : Bool :=
  let first := page * 256 + 32 * tile
  !(bit d.flags 0) &&
    (decide (qmax < first) || (d.window != 0 && decide (first + 31 + d.window ≤ qmin)) || decide (tokens ≤ first))

/-- The tiles of a layer in walk order with the skipped ones left out (R119), and how many were skipped. -/
def walkTiles (d : Desc) (depths : List Nat) (tokens pages : Nat) : List (Nat × Nat) × Nat :=
  let qs := (List.range d.queryCount).map (qpos d depths)
  let qmin := qs.foldl Min.min (qs.headD 0)
  let qmax := qs.foldl Max.max 0
  let all := (List.range pages).flatMap (fun p => (List.range 8).map (fun t => (p, t)))
  let kept := all.filter (fun (p, t) => !skipTile d qmin qmax tokens p t)
  (kept, all.length - kept.length)

/-- A list cut into pieces of n. -/
def chunks {α : Type} (n : Nat) : Nat → List α → List (List α)
  | 0, _ => []
  | _ + 1, [] => []
  | fuel + 1, l => l.take n :: chunks n fuel (l.drop n)

/-- The key blocks of a command (R115, R119): four tiles a block, then earlier new slots of the feed group and the
command's own new slots in blocks of 128. -/
def keyBlocks (tiles : List (Nat × Nat)) (staged : List (Nat × Nat)) (own : Nat) : List KeyBlock :=
  (chunks 4 (tiles.length + 1) tiles).map KeyBlock.tiles ++
  (chunks 128 (staged.length + 1) staged).map KeyBlock.staged ++
  ((List.range (ceilDiv own 128)).map (fun i => KeyBlock.own (128 * i) (Min.min 128 (own - 128 * i))))

/-- The array waves of a walk of b blocks over some query rows (R120). -/
def walkWaves (rows b dk latentDim : Nat) : Nat :=
  Max.max rows 16 * (ceilDiv (b * ceilDiv dk 32) 4 + b * ceilDiv latentDim 128)

/-- The key width of a slot (R109). -/
def Model.dk (m : Model) : Nat := m.latentDim + m.ropeDim

/-- SLOT_BYTES of a capsule in the model's latent format (R139, R140). -/
def Model.slotBytes (m : Model) : Nat :=
  if m.latFmt == 1 then roundUp m.dk 16 else roundUp (ceilDiv m.dk 2 + ceilDiv m.dk 32) 16

/-- The shapes of a model are within R109. -/
def Model.ok (m : Model) : Bool :=
  decide (1 ≤ m.layers) && decide (m.layers ≤ 127) && decide (1 ≤ m.heads) && decide (m.heads ≤ 128) &&
  decide (32 ≤ m.latentDim) && decide (m.latentDim ≤ 384) && m.latentDim % 32 == 0 &&
  (m.ropeDim == 0 || m.ropeDim == 32 || m.ropeDim == 64) &&
  decide (32 ≤ m.qkDim) && decide (m.qkDim ≤ 256) && m.qkDim % 32 == 0 &&
  decide (32 ≤ m.vDim) && decide (m.vDim ≤ 256) && m.vDim % 32 == 0 &&
  decide (m.latentDim + m.ropeDim + 4 * m.latentDim + 16 ≤ 2048)

/-- Bytes of an element of the up-projection (R141). -/
def Model.upBytes (m : Model) : Nat := if m.upFmt == 1 then 1 else 2

/-- Bytes of the up-projection of one head of one layer (R110). -/
def Model.headBytes (m : Model) : Nat := (m.qkDim * m.latentDim + m.latentDim * m.vDim) * m.upBytes

/-- Bytes of a model's whole up-projection. -/
def Model.upTotal (m : Model) : Nat := m.layers * m.heads * m.headBytes

/-- Bytes of a query block for a command (R114). -/
def queryBlockBytes (m : Model) (heads tokens slotBytes : Nat) : Nat :=
  tokens * heads * (m.qkDim + m.ropeDim) * 2 + tokens * slotBytes

/-- A row of elements with its block scales, none where the format carries no scale (R137). -/
structure Scaled where
  els : List FV
  scales : List FV
  deriving DecidableEq, Repr

/-- The values of a row: each element times its block's scale. -/
def Scaled.vals (x : Scaled) : List FV :=
  if x.scales.isEmpty then x.els
  else (x.els.zipIdx).map (fun (v, i) => v.mul (nthD x.scales (i / 32) (.fin false 1 0)))

/-- The DK elements of a latent in a slot (R139, R140). -/
def latentRow (m : Model) (b : Bytes) : Scaled :=
  if m.latFmt == 1 then ⟨(List.range m.dk).map (fun i => e4m3.decode (u8 b i)), []⟩
  else
    let (es, ss) := rowParts 0x0A m.dk b
    ⟨es, ss⟩

/-- A row of BF16 values. -/
def bf16Row (b : Bytes) (off n : Nat) : List FV := (List.range n).map (fun i => bf16.decode (u16 b (off + 2 * i)))

/-- Row r of W_UK of a head, or row e of W_UV, read from memory (R110, R141). -/
def upRow (m : Model) (mem : Mem) (addr n : Nat) : List FV :=
  let b := mem.rdN addr (n * m.upBytes)
  if m.upFmt == 1 then (List.range n).map (fun i => e4m3.decode (u8 b i)) else bf16Row b 0 n

/-- The address of a head's W_UK (R110). -/
def Model.headAddr (m : Model) (layer head : Nat) : Nat := m.upAddr + (layer * m.heads + head) * m.headBytes

/-- A block-scaled E4M3 rounding of a row (R138). -/
def mxE4m3 (vs : List FV) : Scaled :=
  let exps := (List.range (ceilDiv vs.length 32)).map (fun b => scaleExp e4m3 ((vs.drop (32 * b)).take 32))
  ⟨(vs.zipIdx).map (fun (v, i) => e4m3.decode (e4m3.encode true (v.scale (-(nthD exps (i / 32) 0))))),
    exps.map (FV.fin false 1)⟩

/-- W_UK applied to a query row: qa and whether the row holds a NaN or an infinity (R147, R148). -/
def absorbRow (m : Model) (mem : Mem) (layer head : Nat) (qc qr : List FV) : Scaled × Bool :=
  let base := m.headAddr layer head
  let wide := (List.range m.qkDim).foldl (fun (acc : List FV) r =>
    let w := upRow m mem (base + r * m.latentDim * m.upBytes) m.latentDim
    (acc.zip w).map (fun (a, x) => add32 a (x.mul (nthD qc r (.fin false 0 0)))))
    (List.replicate m.latentDim (FV.fin false 0 0))
  (mxE4m3 (wide ++ qr), (qc ++ qr).any (fun v => v.isNan || v.isInf))

/-- The dot product of qa and a latent: 32-deep partial sums in quarter mode, each rounded and then scaled (R142, R147). -/
def scoreDot (qa lat : Scaled) : FV :=
  dotBlocks (.fin false 0 0) qa.els.length qa.els lat.els qa.scales lat.scales

/-- The command's factor of the scores: SCALE times log2 e, rounded once (R147). -/
def scoreFactor (scale : FV) : FV :=
  match scale with
  | .fin _ _ _ => ratTo32 (scale.toRat / ln2Rat)
  | v => v

/-- A weight times an element in the value pass: exact, and zero below 2^-149 (R147). -/
def weighted (p v : FV) : FV :=
  match p.mul v with
  | .fin s m e => if m != 0 && decide ((Nat.log2 m : Int) + e < -149) then .fin false 0 0 else .fin s m e
  | x => x

/-- One block of keys added to a row (R147, R148). keys are the latents of the attendable keys in order. -/
def blockRow (latentDim : Nat) (c : FV) (keys : List Scaled) (r : RowState) : RowState :=
  if keys.isEmpty then r
  else
    let lats := keys.map Scaled.vals
    let xs : List FV := keys.map (fun k => round32 (c.mul (scoreDot ⟨r.qa, r.qs⟩ k)))
    let bad := r.bad || lats.any (fun k => k.any FV.isNan) || xs.any (fun (x : FV) => x.isNan || x.isInf)
    if bad then { r with bad := true }
    else
      let top := (xs.map FV.ceil).foldl Max.max ((xs.map FV.ceil).headD 0)
      let kNew := match r.k with
        | some k => Max.max k top
        | none => top
      let (l0, acc0) : FV × List FV := match r.k with
        | some k =>
          if k < kNew then (round32 (r.l.scale (k - kNew)), r.acc.map (fun (a : FV) => round32 (a.scale (k - kNew))))
          else (r.l, r.acc)
        | none => (r.l, r.acc)
      let ps := xs.map (fun (x : FV) =>
        let f := x.floor
        let frac := x.add (FV.ofInt (-f))
        (roundBits 3 (pow2f frac)).scale (f - kNew))
      let l := add32 l0 (ps.foldl add32 (.fin false 0 0))
      let acc := (acc0.zipIdx).map (fun (a, e) =>
        add32 a (((ps.zip lats).map (fun (p, k) => weighted p (nthD k e (.fin false 0 0)))).foldl add32 (.fin false 0 0)))
      { r with k := some kNew, l := l, acc := acc.take latentDim }

/-- The output row of a head (R147): W_UV applied to BF16 of acc / l, in OUT_FORMAT. -/
def outputRow (m : Model) (mem : Mem) (layer : Nat) (f : FFmt) (r : RowState) : Bytes :=
  if r.bad then (List.range m.vDim).flatMap (fun _ => leBytes (f.width / 8) (f.encode true .nan))
  else
    let o := r.acc.map (fun (a : FV) => bf16.decode (bf16.encode true (round32 (a.div r.l))))
    let base := m.headAddr layer r.head + m.qkDim * m.latentDim * m.upBytes
    let out := (List.range m.latentDim).foldl (fun (acc : List FV) e =>
      let w := upRow m mem (base + e * m.vDim * m.upBytes) m.vDim
      (acc.zip w).map (fun (a, x) => add32 a (x.mul (nthD o e (.fin false 0 0)))))
      (List.replicate m.vDim (FV.fin false 0 0))
    out.flatMap (fun v => leBytes (f.width / 8) (f.encode true v))

end Sys2Proof.Machine
end

