-- ==== Sys2Proof/Machine/MouthMath.lean ====
section
/-!
DEFINITION. What the Mouthpiece computes, as functions of bytes: UTF-8 and its replacements (R227), pieces and merges
(R224, R225), the images of tokenizers and grammars with their checks (R222, R223, R235, R236), and the matching of stop
strings (R233).
-/

namespace Sys2Proof.Machine

open Sys2Proof

/-! ### UTF-8 -/

/-- The bytes that the second byte of a character may take after a lead byte, and the character's length; length 0 for a
byte that begins no character (Table 3-7 of the Unicode Standard). -/
def utf8Lead (b : Nat) : Nat × Nat × Nat :=
  if b ≤ 0x7F then (1, 0, 0)
  else if b < 0xC2 then (0, 0, 0)
  else if b ≤ 0xDF then (2, 0x80, 0xBF)
  else if b == 0xE0 then (3, 0xA0, 0xBF)
  else if b == 0xED then (3, 0x80, 0x9F)
  else if b ≤ 0xEF then (3, 0x80, 0xBF)
  else if b == 0xF0 then (4, 0x90, 0xBF)
  else if b ≤ 0xF3 then (4, 0x80, 0xBF)
  else if b == 0xF4 then (4, 0x80, 0x8F)
  else (0, 0, 0)

/-- What stands at the start of a byte string: a character of n bytes, a maximal ill-formed subpart of n bytes, or the
n bytes that end the string as a proper prefix of a character. -/
inductive Utf8 where
  | char (n : Nat)
  | bad (n : Nat)
  | part (n : Nat)
  deriving DecidableEq, Repr

/-- The next character, subpart or prefix of a non-empty byte string. -/
def utf8Next (b : Bytes) : Utf8 :=
  let l := (b.headD 0).toNat
  let (n, lo, hi) := utf8Lead l
  if n == 0 then .bad 1
  else if n == 1 then .char 1
  else
    let okAt (i : Nat) (x : Byte) : Bool :=
      if i == 1 then decide (lo ≤ x.toNat) && decide (x.toNat ≤ hi) else decide (0x80 ≤ x.toNat) && decide (x.toNat ≤ 0xBF)
    let rest := (b.drop 1).take (n - 1)
    let good := ((rest.zipIdx 1).takeWhile (fun (x, i) => okAt i x)).length
    if good == n - 1 then .char n
    else if good == rest.length then .part (good + 1)
    else .bad (good + 1)

/-- U+FFFD. -/
def fffd : Bytes := [0xEF, 0xBF, 0xBD]

/-- A byte string as characters, ill-formed subparts replaced by U+FFFD: the characters, the replacements made, and the
trailing proper prefix of a character. -/
def utf8Split (b : Bytes) : List Bytes × Nat × Bytes :=
  let rec go : Nat → Bytes → List Bytes → Nat → List Bytes × Nat × Bytes
    | 0, rest, acc, k => (acc.reverse, k, rest)
    | fuel + 1, rest, acc, k =>
      if rest.isEmpty then (acc.reverse, k, [])
      else
        match utf8Next rest with
        | .char n => go fuel (rest.drop n) (rest.take n :: acc) k
        | .bad n => go fuel (rest.drop n) (fffd :: acc) (k + 1)
        | .part _ => (acc.reverse, k, rest)
  go (b.length + 1) b [] 0

/-- A byte string is well-formed UTF-8. -/
def utf8Ok (b : Bytes) : Bool :=
  let (_, k, rest) := utf8Split b
  k == 0 && rest.isEmpty

/-! ### Tokenizer images -/

/-- A loaded tokenizer as the module sees it: memory and the image's place (R222). -/
structure TokImage where
  mem : Mem
  addr : Nat

/-- Fields of the header. -/
def TokImage.vocab (t : TokImage) : Nat := t.mem.num (t.addr + 8) 4
def TokImage.maxBytes (t : TokImage) : Nat := t.mem.num (t.addr + 4) 1
def TokImage.merges (t : TokImage) : Nat := t.mem.num (t.addr + 0x0C) 4
def TokImage.endTokens (t : TokImage) : List Nat := (List.range 4).map (fun i => t.mem.num (t.addr + 0x10 + 4 * i) 4)
def TokImage.slots (t : TokImage) : Nat := t.mem.num (t.addr + 0x20) 4
def TokImage.tokenOff (t : TokImage) : Nat := t.mem.num (t.addr + 0x28) 8
def TokImage.poolOff (t : TokImage) : Nat := t.mem.num (t.addr + 0x30) 8
def TokImage.mergeOff (t : TokImage) : Nat := t.mem.num (t.addr + 0x38) 8
def TokImage.byteToken (t : TokImage) (b : Nat) : Nat := t.mem.num (t.addr + 0x40 + 4 * b) 4
def TokImage.cls (t : TokImage) (b : Nat) : Nat := t.mem.num (t.addr + 0x440 + b) 1

/-- A token record (R223): pool offset, length, flags and the reserved bytes. -/
def TokImage.rec_ (t : TokImage) (tok : Nat) : Nat × Nat × Nat × Nat :=
  let a := t.addr + t.tokenOff + 8 * tok
  (t.mem.num a 4, t.mem.num (a + 4) 1, t.mem.num (a + 5) 1, t.mem.num (a + 6) 2)

/-- A token's string in the pool. -/
def TokImage.str (t : TokImage) (tok : Nat) : Bytes :=
  let (p, n, _, _) := t.rec_ tok
  t.mem.rdN (t.addr + t.poolOff + p) n

/-- A SPECIAL token. -/
def TokImage.special (t : TokImage) (tok : Nat) : Bool := bit (t.rec_ tok).2.2.1 0

/-- What a token appends to a text: its string, and nothing for a SPECIAL token (R231). -/
def TokImage.text (t : TokImage) (tok : Nat) : Bytes := if t.special tok then [] else t.str tok

/-- A slot of the merge table: LEFT, RIGHT, MERGED, RANK. -/
def TokImage.slot (t : TokImage) (i : Nat) : Nat × Nat × Nat × Nat :=
  let a := t.addr + t.mergeOff + 16 * i
  (t.mem.num a 4, t.mem.num (a + 4) 4, t.mem.num (a + 8) 4, t.mem.num (a + 12) 4)

/-- The merged token and the rank of a pair, found by linear probing (R223). -/
def TokImage.merge (t : TokImage) (l r : Nat) : Option (Nat × Nat) :=
  let n := t.slots
  let start := crc32c (leBytes 4 l ++ leBytes 4 r) % Max.max n 1
  let rec go : Nat → Nat → Option (Nat × Nat)
    | 0, _ => none
    | fuel + 1, i =>
      let (a, b, m, k) := t.slot (i % n)
      if a == 0xFFFFFFFF then none else if a == l && b == r then some (m, k) else go fuel (i + 1)
  if n == 0 then none else go n start

/-! ### Tokenizing -/

/-- Characters cut into pieces (R224). -/
def TokImage.pieces (t : TokImage) (chars : List Bytes) : List Bytes :=
  let c (x : Bytes) : Nat := t.cls (x.headD 0).toNat
  let step (acc : List Bytes × Bytes × Nat × Bool) (x : Bytes) : List Bytes × Bytes × Nat × Bool :=
    let (done, cur, prev, prevBegins) := acc
    if cur.isEmpty then (done, x, c x, true)
    else
      let cut := c x == 0 || (c x != prev && !(prev == 0 && prevBegins)) || decide (256 < cur.length + x.length)
      if cut then (done ++ [cur], x, c x, true) else (done, cur ++ x, c x, false)
  let (done, cur, _, _) := chars.foldl step ([], [], 0, false)
  if cur.isEmpty then done else done ++ [cur]

/-- The pair of a sequence with the lowest rank, then the lowest place: its place and the merged token. -/
def TokImage.bestPair (t : TokImage) (seq : List Nat) : Option (Nat × Nat) :=
  let pairs := (seq.zip (seq.drop 1)).zipIdx.filterMap (fun ((l, r), i) => (t.merge l r).map (fun (m, k) => (k, i, m)))
  (pairs.foldl (fun best p => match best with
    | none => some p
    | some q => if decide (p.1 < q.1) then some p else some q) (none : Option (Nat × Nat × Nat))).map (fun p => (p.2.1, p.2.2))

/-- A piece encoded (R225). -/
def TokImage.encodePiece (t : TokImage) (piece : Bytes) : List Nat :=
  let rec go : Nat → List Nat → List Nat
    | 0, s => s
    | fuel + 1, s =>
      match t.bestPair s with
      | some (i, m) => go fuel (s.take i ++ m :: s.drop (i + 2))
      | none => s
  go piece.length (piece.map (fun b => t.byteToken b.toNat))

/-- A buffer tokenized after a carry (R224 to R227): the tokens, the replacements made and the new carry. -/
def TokImage.tokenize (t : TokImage) (carry buf : Bytes) : List Nat × Nat × Bytes :=
  let (chars, k, rest) := utf8Split (carry ++ buf)
  ((t.pieces chars).flatMap t.encodePiece, k, rest)

/-- The tokens of a flushed carry: one U+FFFD, a piece of its own (R228). -/
def TokImage.flush (t : TokImage) : List Nat := t.encodePiece fffd

/-! ### Checks of a tokenizer image (R222, R223) -/

/-- Whether a list of numbers holds no number twice. -/
def distinct (l : List Nat) : Bool :=
  let s := sortBy (fun (a b : Nat) => decide (a ≤ b)) l
  (s.zip (s.drop 1)).all (fun (a, b) => a != b)

/-- A power of two. -/
def isPow2 (n : Nat) : Bool := n != 0 && (List.range 64).any (fun k => n == 2 ^ k)

/-- The header is in range and the tables lie in the image's LENGTH bytes. -/
def TokImage.headerOk (t : TokImage) (len : Nat) : Bool :=
  t.mem.num t.addr 4 == 1 && decide (1 ≤ t.maxBytes) && decide (t.maxBytes ≤ 64) && t.mem.num (t.addr + 5) 3 == 0 &&
  decide (256 ≤ t.vocab) && decide (t.vocab ≤ 262144) && decide (t.merges ≤ t.vocab - 256) && isPow2 t.slots &&
  decide (64 ≤ t.slots) && decide (2 * t.merges ≤ t.slots) && t.mem.num (t.addr + 0x24) 4 == 0 &&
  t.tokenOff % 64 == 0 && t.mergeOff % 64 == 0 && decide (t.tokenOff + 8 * t.vocab ≤ len) &&
  decide (t.poolOff ≤ len) && decide (t.mergeOff + 16 * t.slots ≤ len) &&
  (List.range 256).all (fun b => decide (t.byteToken b < t.vocab) && decide (t.cls b ≤ 15) &&
    (t.cls b == 0 || decide (b < 0x80) || (decide (0xC2 ≤ b) && decide (b ≤ 0xF4)))) &&
  t.endTokens.all (fun e => e == 0xFFFFFFFF || decide (e < t.vocab))

/-- Every check of R223 on an image of LENGTH bytes. -/
def TokImage.ok (t : TokImage) (len : Nat) : Bool :=
  decide (0x540 ≤ len) && t.headerOk len &&
  (List.range t.vocab).all (fun k =>
    let (p, n, f, r) := t.rec_ k
    decide (n ≤ t.maxBytes) && decide (f ≤ 1) && r == 0 && (n != 0 || bit f 0) && decide (t.poolOff + p + n ≤ len)) &&
  (List.range 256).all (fun b => t.str (t.byteToken b) == [BitVec.ofNat 8 b] && !t.special (t.byteToken b)) &&
  (let live := ((List.range t.slots).map t.slot).filter (fun s => s.1 != 0xFFFFFFFF)
   live.length == t.merges &&
   live.all (fun (l, r, m, _) => decide (l < t.vocab) && decide (r < t.vocab) && decide (m < t.vocab) &&
     t.str m == t.str l ++ t.str r && !t.special l && !t.special r && !t.special m) &&
   distinct (live.map (fun s => s.2.2.2)) && distinct (live.map (fun s => s.1 * 2 ^ 32 + s.2.1))) &&
  t.endTokens.all (fun e => e == 0xFFFFFFFF || t.special e)

/-! ### Grammar images (R235, R236) -/

/-- A loaded grammar: memory and the image's place. -/
structure GramImage where
  mem : Mem
  addr : Nat

def GramImage.tokenizer (g : GramImage) : Nat := g.mem.num (g.addr + 4) 2
def GramImage.vocab (g : GramImage) : Nat := g.mem.num (g.addr + 8) 4
def GramImage.states (g : GramImage) : Nat := g.mem.num (g.addr + 0x0C) 4
def GramImage.masks (g : GramImage) : Nat := g.mem.num (g.addr + 0x10) 4
def GramImage.start (g : GramImage) : Nat := g.mem.num (g.addr + 0x14) 4
def GramImage.stateOff (g : GramImage) : Nat := g.mem.num (g.addr + 0x18) 8
def GramImage.maskOff (g : GramImage) : Nat := g.mem.num (g.addr + 0x20) 8
def GramImage.excOff (g : GramImage) : Nat := g.mem.num (g.addr + 0x28) 8
def GramImage.excBytes (g : GramImage) : Nat := g.mem.num (g.addr + 0x30) 8

/-- MASK_BYTES. -/
def GramImage.maskBytes (g : GramImage) : Nat := ceilDiv g.vocab 512 * 64

/-- A state record: MASK, DEFAULT_NEXT, EXC, EXC_COUNT, FLAGS. -/
def GramImage.rec_ (g : GramImage) (s : Nat) : Nat × Nat × Nat × Nat × Nat :=
  let a := g.addr + g.stateOff + 16 * s
  (g.mem.num a 4, g.mem.num (a + 4) 4, g.mem.num (a + 8) 4, g.mem.num (a + 12) 2, g.mem.num (a + 14) 2)

/-- The mask index of a state. -/
def GramImage.maskOf (g : GramImage) (s : Nat) : Nat := (g.rec_ s).1

/-- EMPTY. -/
def GramImage.empty (g : GramImage) (s : Nat) : Bool := bit (g.rec_ s).2.2.2.2 0

/-- Bit t of mask i. -/
def GramImage.maskBit (g : GramImage) (i t : Nat) : Bool :=
  bit (g.mem.num (g.addr + g.maskOff + i * g.maskBytes + t / 8) 1) (t % 8)

/-- A token is allowed in a state. -/
def GramImage.allows (g : GramImage) (s t : Nat) : Bool := decide (t < g.vocab) && g.maskBit (g.maskOf s) t

/-- Bytes of the fence before a list of n exceptions. -/
def fenceBytes (n : Nat) : Nat := if n ≤ 8 then 0 else roundUp (4 * ceilDiv n 8) 64

/-- Exception k of a state: TOKEN and NEXT. -/
def GramImage.exc (g : GramImage) (s k : Nat) : Nat × Nat :=
  let (_, _, e, n, _) := g.rec_ s
  let a := g.addr + g.excOff + 64 * e + fenceBytes n + 8 * k
  (g.mem.num a 4, g.mem.num (a + 4) 4)

/-- The transition of a state on an allowed token. -/
def GramImage.next (g : GramImage) (s t : Nat) : Nat :=
  let (_, d, _, n, _) := g.rec_ s
  match ((List.range n).map (g.exc s)).find? (fun e => e.1 == t) with
  | some e => e.2
  | none => d

/-- Every check of R236 on an image of LENGTH bytes; vocab is the named tokenizer's VOCAB, none when it is not loaded. -/
def GramImage.ok (g : GramImage) (len : Nat) (vocab : Option Nat) : Bool :=
  decide (64 ≤ len) && g.mem.num g.addr 4 == 1 && g.mem.num (g.addr + 6) 2 == 0 && g.mem.num (g.addr + 0x38) 8 == 0 &&
  vocab == some g.vocab && decide (1 ≤ g.states) && decide (g.states ≤ 16777216) && decide (1 ≤ g.masks) &&
  decide (g.masks ≤ g.states) && decide (g.start < g.states) && g.stateOff % 64 == 0 && g.maskOff % 64 == 0 &&
  g.excOff % 64 == 0 && decide (g.stateOff + 16 * g.states ≤ len) &&
  decide (g.maskOff + g.masks * g.maskBytes ≤ len) && decide (g.excOff + g.excBytes ≤ len) &&
  (List.range g.masks).all (fun i => (List.range (8 * g.maskBytes - g.vocab)).all (fun k => !g.maskBit i (g.vocab + k))) &&
  (List.range g.states).all (fun s =>
    let (mi, d, e, n, f) := g.rec_ s
    let es := (List.range n).map (g.exc s)
    let fence := g.addr + g.excOff + 64 * e
    decide (mi < g.masks) && decide (d < g.states) && decide (n ≤ 4096) && decide (f ≤ 1) &&
    decide (64 * e + fenceBytes n + 8 * n ≤ g.excBytes) &&
    (bit f 0 == (List.range g.vocab).all (fun t => !g.maskBit mi t)) &&
    es.all (fun x => decide (x.1 < g.vocab) && g.maskBit mi x.1 && decide (x.2 < g.states)) &&
    (es.zip (es.drop 1)).all (fun (a, b) => decide (a.1 < b.1)) &&
    (decide (n ≤ 8) ||
      ((List.range (ceilDiv n 8)).all (fun k => g.mem.num (fence + 4 * k) 4 == (nthD es (8 * k) (0, 0)).1) &&
       g.mem.rdN (fence + 4 * ceilDiv n 8) (fenceBytes n - 4 * ceilDiv n 8) ==
         zeros (fenceBytes n - 4 * ceilDiv n 8))))

/-! ### Releasing text (R231, R233) -/

/-- Ill-formed subparts that the bytes settle are replaced; an incomplete character at the end stays. -/
def settle (b : Bytes) : Bytes × Nat :=
  let (chars, k, rest) := utf8Split b
  (chars.flatten ++ rest, k)

/-- A trailing incomplete character. -/
def tailPart (b : Bytes) : Bytes := (utf8Split b).2.2

/-- The complete occurrence of a stop string in a text whose end is earliest, then whose start is earliest. -/
def firstStop (stops : List Bytes) (text : Bytes) : Option (Nat × Nat) :=
  let at_ (e : Nat) : Option Nat :=
    ((stops.filter (fun s => !s.isEmpty && decide (s.length ≤ e) && ((text.take e).drop (e - s.length)) == s)).map
      (fun s => e - s.length)).foldl (fun b x => match b with
        | none => some x
        | some y => some (Min.min x y)) none
  (List.range (text.length + 1)).findSome? (fun e => (at_ e).map (fun s => (s, e)))

/-- Length of the longest suffix of a text that is a proper prefix of a stop string. -/
def keepLen (stops : List Bytes) (text : Bytes) : Nat :=
  ((List.range (Min.min text.length 63 + 1)).filter (fun n =>
    let suf := text.drop (text.length - n)
    stops.any (fun s => decide (n < s.length) && s.take n == suf))).foldl Max.max 0

/-- What one token does to the held text: the bytes released, the new hold, the replacements, and whether a stop string
matched. include_ is INCLUDE_STOP. -/
def detokStep (stops : List Bytes) (include_ : Bool) (hold new : Bytes) : Bytes × Bytes × Nat × Bool :=
  let (text, k) := settle (hold ++ new)
  match firstStop stops text with
  | some (s, e) => (text.take (if include_ then e else s), [], k, true)
  | none =>
    let n := Max.max (keepLen stops text) (tailPart text).length
    (text.take (text.length - n), text.drop (text.length - n), k, false)

/-- The held bytes as an end releases them: a trailing incomplete character as U+FFFD (R234). -/
def releaseHold (hold : Bytes) : Bytes × Nat :=
  let (chars, k, rest) := utf8Split hold
  if rest.isEmpty then (chars.flatten, k) else (chars.flatten ++ fffd, k + 1)

end Sys2Proof.Machine
end

