-- ==== Sys2Proof/Machine/OpsBell.lean ====
section
/-!
DEFINITION. The network ports' shared operations: the fabric map (R460), session frames (R466, R468), egress queues and
their shapers (R471, R473), gates (R475), messages to a dense pool (R464, R465), and ingress (R463).
-/

namespace Sys2Proof.Machine

open Sys2Proof

/-! ### The map -/

/-- The map entry of an endpoint (R460). -/
def Module.endpoint (m : Module) (e : Nat) : Option MapEntry := m.bell.map.get e

/-- The first map entry of this module with a kind and a partition, by serial. -/
def Module.ownEndpoint (m : Module) (kind part serial : Nat) : Option MapEntry :=
  m.bell.map.vals.find? (fun x => x.kind == kind && x.partition == part && x.serial == serial)

/-- The serial of this module. -/
def ownSerial : Nat := Config.serial.toNat

/-- The module serves a partition's sessions: the map shows its endpoint (R462). -/
def Module.sessionEndpoint (m : Module) (part : Nat) : Nat := ((m.ownEndpoint 3 part ownSerial).map (·.endpoint)).getD 0

/-! ### Frames -/

/-- The 32-byte header of a session frame (R466). -/
def sessHead (f : SessFrame) (check : Nat) : Bytes :=
  leBytes 2 f.magic ++ leBytes 1 f.version ++ leBytes 1 f.type ++ leBytes 4 f.src ++ leBytes 4 f.dst ++
  leBytes 4 f.seq ++ leBytes 4 f.ack ++ leBytes 4 f.capsule ++ leBytes 2 f.length ++ leBytes 2 f.flags ++
  leBytes 4 check

/-- A frame as far as its LENGTH reaches: what a datagram holds beyond it belongs to nothing. One whose LENGTH exceeds the
datagram stays as it is. -/
def trimFrame (f : SessFrame) : SessFrame := { f with body := f.body.take f.length }

/-- The CHECK of a session frame. -/
def sessCrc (f : SessFrame) : Nat := crc32c (sessHead f 0 ++ f.body)

/-- The 48-byte header of a model message (R465). -/
def modelHead (g : ModelMsg) (check : Nat) : Bytes :=
  leBytes 4 g.capsule ++ leBytes 4 g.request ++ leBytes 4 g.step ++ leBytes 1 g.kind ++ leBytes 1 g.maskMode ++
  leBytes 1 g.layer ++ leBytes 1 g.headFirst ++ leBytes 1 g.headCount ++ zeros 1 ++ leBytes 2 g.queryCount ++
  leBytes 4 g.basePos ++ leBytes 4 g.scale ++ leBytes 4 g.bytes ++ zeros 12 ++ leBytes 4 check

/-- The CHECK of a model message. -/
def modelCrc (g : ModelMsg) : Nat := crc32c (modelHead g 0 ++ g.body)

/-! ### Egress queues -/

/-- A queue that has not been configured. -/
def EgressQueue.blank : EgressQueue := ⟨15, 0, 0xFF, 1, 0, 0, 0, 0, 0, 0, 0, 0, [], [], 0, 0, 0, 0, 0, 0⟩

/-- Queue q as it stands. -/
def Module.queue (m : Module) (q : Nat) : EgressQueue := m.bell.queues.getD q EgressQueue.blank

/-- The module with queue q replaced. -/
def Module.setQueue (q : Nat) (x : EgressQueue) (m : Module) : Module :=
  { m with bell := { m.bell with queues := m.bell.queues.put q x } }

/-- Bytes in a queue. -/
def EgressQueue.depth (x : EgressQueue) : Nat := x.frames.foldl (fun a f => a + f.bytes) 0

/-- A packet enters queue q, or its producer waits while it would exceed QLIMIT_KIB (R471). -/
def Module.enqueue (q : Nat) (p : Pkt) (m : Module) : Module :=
  let x := m.queue q
  let f : QFrame := ⟨p, p.length, m.clk.mono⟩
  if m.get Reg.BELL.QLIMIT_QLIMIT_KIB * 1024 < x.depth + f.bytes || !x.waiting.isEmpty then
    (m.setQueue q { x with waiting := x.waiting ++ [f] }).bump Reg.BELL.QUEUE_FULL_WAITS_COUNT
  else m.setQueue q { x with frames := x.frames ++ [f] }

/-- Waiting frames enter their queue as room comes. -/
def EgressQueue.takeIn (limit : Nat) : Nat → EgressQueue → EgressQueue
  | 0, x => x
  | fuel + 1, x =>
    match x.waiting with
    | [] => x
    | f :: fs => if limit < x.depth + f.bytes then x
      else EgressQueue.takeIn limit fuel { x with frames := x.frames ++ [f], waiting := fs }

/-- The queue of an endpoint's traffic: the one bound to it, or the fixed one (R471). -/
def Module.queueFor (m : Module) (endpoint fixed : Nat) : Nat :=
  ((m.bell.queues.find? (fun (_, x) => x.bind == endpoint && endpoint != 0)).map (·.1)).getD fixed

/-! ### Sessions (R468) -/

/-- The number of a session: the endpoint, and 2^32 above it when the module speaks for its partner's endpoint after a
takeover (R462), so that the numbering of each pair of endpoints is its own (R468). -/
def sessionKey (endpoint : Nat) (partner : Bool) : Nat := endpoint + (if partner then 2 ^ 32 else 0)

/-- The session with a number as it stands. -/
def Module.session (m : Module) (e : Nat) : Session := m.bell.sessions.getD e ⟨1, true, 0, false, [], [], none, false⟩

/-- The module with the session of endpoint e replaced. -/
def Module.setSession (e : Nat) (x : Session) (m : Module) : Module :=
  { m with bell := { m.bell with sessions := m.bell.sessions.put e x } }

/-- A session frame from one of the module's endpoints enters queue q: sequenced frames are numbered and retained until an
ACK covers them; every frame acknowledges what has been received. -/
def Module.sessPut (dst own q type capsule : Nat) (body : Bytes) (m : Module) : Module :=
  let s := m.session dst
  let sequenced := type != 7 && type != 8
  let f0 : SessFrame := ⟨0, 0, 0x4B46, 1, type, own, dst % 2 ^ 32, if sequenced then s.txNext else 0,
    if s.rxOpen then (s.rxNext + 2 ^ 32 - 1) % 2 ^ 32 else 0, capsule, body.length,
    if sequenced && s.txFresh then 1 else 0, 0, body⟩
  let f := { f0 with check := sessCrc f0 }
  let retx := us (m.get Reg.BELL.SESSION_RETX_US)
  let s1 := if sequenced then
      { s with txNext := (s.txNext + 1) % 2 ^ 32, txFresh := false, ackOwed := none,
               retained := s.retained ++ [⟨f.seq, f, m.clk.mono, m.clk.mono, retx⟩] }
    else { s with ackOwed := none }
  (m.setSession dst s1).enqueue q (.session (dst % 2 ^ 32) f)

/-- The endpoint of the partition's sessions from which session dst is served. -/
def Module.ownOf (m : Module) (dst part : Nat) : Nat :=
  if dst < 2 ^ 32 then m.sessionEndpoint part
  else ((m.ownEndpoint 3 part m.mirror.partnerSerial).map (·.endpoint)).getD 0

/-- A session frame to an endpoint. Nothing is sent to an endpoint outside the map (R461). -/
def Module.sessSend (dst type capsule : Nat) (body : Bytes) (m : Module) : Module :=
  match m.endpoint (dst % 2 ^ 32) with
  | none => m
  | some e =>
    let part := e.partition
    let q := if decide (part < 8) then m.queueFor (dst % 2 ^ 32) part else 16
    m.sessPut dst (m.ownOf dst part) q type capsule body

/-- Frames that an ACK covers are released (R468). -/
def Module.sessAcked (e ack : Nat) (m : Module) : Module :=
  let s := m.session e
  if s.retained.any (fun r => serialUnordered ack r.seq) then m.serialStale 0x10 ack
  else m.setSession e { s with retained := s.retained.filter (fun r => !(serialGE ack r.seq)) }

/-- Bytes that the retention pool holds for an endpoint. -/
def Session.retainedBytes (s : Session) : Nat := s.retained.foldl (fun a r => a + 32 + r.frame.body.length) 0

/-! ### Messages to a dense pool -/

/-- A packet on the queue pair of partition p's pool endpoint; nothing leaves while the pair is in its error state or
has not been connected. -/
def Module.toPool (p endpoint : Nat) (pkt : Pkt) (m : Module) : Module :=
  match m.bell.qps.get endpoint with
  | some q => if q.error then m else m.enqueue (m.queueFor endpoint (8 + p)) pkt
  | none => m

/-! ### Shapers and gates -/

/-- A bucket filled at a rate in bytes per second for a time, up to its size. -/
def bucketFill (level rate size dt : Nat) : Nat := Min.min size (level + rate * dt / 1000000000)

/-- A queue with its buckets filled to now. -/
def EgressQueue.fill (now : Nat) (x : EgressQueue) : EgressQueue :=
  { x with cLevel := bucketFill x.cLevel x.cir x.cbs (now - x.filled),
           pLevel := bucketFill x.pLevel x.pir x.pbs (now - x.filled), filled := now }

/-- The cycle of a gate list (R475). -/
def GateList.cycle (g : GateList) : Nat := g.entries.foldl (fun a e => a + e.2) 0

/-- The entry of a list at time t and the time left in it; before BASE_TIME the cycles run backwards alike. -/
def GateList.at (g : GateList) (t : Nat) : Nat × Nat :=
  let c := Max.max g.cycle 1
  let pos := ((t : Int) - (g.baseTime : Int)) % (c : Int)
  let rec go : List (Nat × Nat) → Nat → Nat → Nat × Nat
    | [], _, _ => (0, 1)
    | (_, d) :: rest, i, p => if p < d then (i, d - p) else go rest (i + 1) (p - d)
  go g.entries 0 pos.toNat

/-- The time from t for which a class's gate stays open: 0 when it is shut, none when it never shuts. -/
def GateList.openFor (g : GateList) (cls t : Nat) : Option Nat :=
  let (i, left) := g.at t
  let n := g.entries.length
  let isOpen (k : Nat) : Bool := bit (nthD g.entries (k % Max.max n 1) (255, 1)).1 cls
  let rec go : Nat → Nat → Nat → Option Nat
    | 0, _, _ => none
    | fuel + 1, k, acc =>
      if isOpen k then go fuel (k + 1) (acc + (nthD g.entries (k % Max.max n 1) (255, 1)).2) else some acc
  if cls == 7 then none
  else if !isOpen i then some 0
  else go n (i + 1) left

/-- The longest open window of a class; none when it never shuts. -/
def GateList.longest (g : GateList) (cls : Nat) : Option Nat :=
  let starts := (List.range g.entries.length).map (fun i =>
    g.openFor cls (g.baseTime + (g.entries.take i).foldl (fun a e => a + e.2) 0))
  if starts.any (·.isNone) then none else some ((starts.filterMap id).foldl Max.max 0)

/-- Nanoseconds that a frame takes on a sub-port, with 20 bytes of preamble and gap; rate in bytes per 1,000 ns. -/
def frameTime (rate bytes : Nat) : Nat := ceilDiv ((bytes + 20) * 1000) (Max.max rate 1)

/-- Sub-port s as it stands. -/
def Module.subport (m : Module) (s : Nat) : SubPort := nthD m.bell.subports s SubPort.reset

/-- The module with sub-port s replaced. -/
def Module.setSubport (s : Nat) (x : SubPort) (m : Module) : Module :=
  { m with bell := { m.bell with subports := m.bell.subports.set s x } }

/-- Sub-ports in use under their port's split (R458). -/
def Module.subportUsed (m : Module) (s : Nat) : Bool :=
  let split := (nthD m.bell.ports (s / 4) ⟨0, 1500, 0⟩).split
  s % 4 == 0 || (split == 1 && s % 4 == 1) || decide (2 ≤ split)

/-- Bytes per 1,000 ns of a sub-port by its port's split (R458). -/
def Module.subportRate (m : Module) (s : Nat) : Nat :=
  let split := (nthD m.bell.ports (s / 4) ⟨0, 1500, 0⟩).split
  if split == 0 then 100000 else if split == 1 then 50000 else if split == 2 then 25000 else 12500

/-- The endpoint whose flow a packet belongs to. -/
def Pkt.flow : Pkt → Nat
  | .session e _ => e
  | .write e _ _ => e
  | .read e _ _ => e
  | .send e _ => e
  | .connect e => e
  | .nak e => e

/-- The up sub-port that a packet's flow is placed on, by hashing the flow over those of the queue's port mask (R471). -/
def Module.placed (m : Module) (x : EgressQueue) (p : Pkt) : Option Nat :=
  let ups := (List.range 16).filter (fun s => bit x.portMask (s / 4) && (m.subport s).up)
  if ups.isEmpty then none else ups[Config.flowHash p.flow % ups.length]?

/-! ### Ingress (R463, R473) -/

/-- A policer's colour for a frame of n bytes: red, yellow or green, and the policer after it (RFC 2698, colour-blind). -/
def Policer.colour (now n : Nat) (x : Policer) : Nat × Policer :=
  let c := bucketFill x.cLevel x.cir x.cbs (now - x.filled)
  let p := bucketFill x.pLevel x.pir x.pbs (now - x.filled)
  let x1 := { x with cLevel := c, pLevel := p, filled := now }
  if x.pir != 0 && decide (p < n) then (2, x1)
  else if x.cir != 0 && decide (c < n) then (1, { x1 with pLevel := p - n, yellow := x.yellow + 1 })
  else (0, { x1 with pLevel := p - n, cLevel := c - n })

/-- A frame passes its endpoint's policer, or is dropped (R473). -/
def Module.police (f : SessFrame) (m : Module) : Module × Bool :=
  match m.bell.policers.find? (fun (_, x) => x.endpoint == f.src && f.src != 0) with
  | none => (m, true)
  | some (k, x) =>
    let (c, x1) := x.colour m.clk.mono (32 + f.body.length)
    let m1 := { m with bell := { m.bell with policers := m.bell.policers.put k x1 } }
    if c == 2 || (c == 1 && x.dropYellow) then (m1.bump Reg.BELL.POLICED_COUNT, false) else (m1, true)

/-- A session frame passes the checks of R463 for its type, and the module takes note of its ACK; otherwise it is
dropped and counted. -/
def Module.ingress (type : Nat) (f : SessFrame) (m : Module) : Module × Bool :=
  let known := m.bell.map.vals.any (fun x => x.address == f.srcAddr && x.udpPort == f.srcPort)
  if !known then (m.bump Reg.BELL.RX_UNKNOWN_COUNT, false)
  else if f.magic != 0x4B46 || f.version != 1 || f.type != type || f.length != f.body.length || f.check != sessCrc f then
    (m.bump Reg.BELL.RX_BAD_COUNT, false)
  else
    match m.police f with
    | (m1, false) => (m1, false)
    | (m1, true) =>
      let m2 := m1.bumpBy Reg.BELL.RX_BYTES_COUNT (32 + f.body.length)
      let k := sessionKey f.src (m2.bell.takenOver && (m2.endpoint f.dst).map (·.serial) == some m2.mirror.partnerSerial)
      let s := m2.session k
      let m3 := if s.down then m2.setSession k { s with txNext := 1, txFresh := true, retained := [], down := false } else m2
      (m3.sessAcked k f.ack, true)

/-- A fresh absolute deadline rule of sessions: the RETURN endpoint is mapped and not down. -/
def Module.endpointUp (m : Module) (e : Nat) : Bool := (m.endpoint (e % 2 ^ 32)).isSome && !(m.session e).down

end Sys2Proof.Machine
end

