-- ==== Sys2Proof/Machine/OpsStep.lean ====
section
/-!
DEFINITION. The shared operations on requests (R153 to R157), accounts (R185 to R188), prefixes and adapters (R192 to
R201), leases (R322), output records and the host ring (R171, R173), and a sequence's leaving of a step (R170).
-/

namespace Sys2Proof.Machine

open Sys2Proof

/-! ### Leases -/

/-- The partner is lost (R186, R322). -/
def Module.lost (m : Module) : Bool := m.mirror.state == 5

/-- This module's own leases are live (R322). -/
def Module.leaseLive (m : Module) : Bool :=
  m.lost ||
  (match m.mirror.beatAcked with
    | some t => decide (m.clk.mono < t + ms (m.get Reg.MIRROR.LEASE_LEASE_MS))
    | none => false)

/-- The partner's lease on a capsule is live as this module judges it (R322). -/
def Module.partnerLive (m : Module) (c : Capsule) : Bool :=
  (c.settled && decide (m.clk.mono < m.mirror.lastBeat + ms (m.get Reg.MIRROR.LEASE_LEASE_MS))) || decide (m.clk.now < c.expiry)

/-- The lease on a capsule has lapsed (R322). -/
def Module.lapsed (m : Module) (c : Capsule) : Bool := if m.owns c then !m.leaseLive else !m.partnerLive c

/-- This module may write a capsule once its lease is settled: it owns the capsule, or the partner's lease has lapsed and may be
claimed (R324, R325). -/
def Module.mayOwn (m : Module) (c : Capsule) : Bool := m.owns c || m.lapsed c

/-- A command that would write capsule id is held while the lease on it has lapsed, whoever owns it (R325). A command whose hold
has ended has been tried. -/
def Module.heldOr (c : RunCmd) (id : Nat) (f : Module → Module) (m : Module) : Module :=
  match m.capsule id with
  | some k =>
    if m.lapsed k && c.tries == 0 then
      if m.mirror.held.any (fun h => h.cmd == c.id) then m
      else { m with mirror := { m.mirror with held := m.mirror.held ++ [⟨c.id, id, m.clk.mono⟩] } }
    else f { m with mirror := { m.mirror with held := m.mirror.held.filter (fun h => h.cmd != c.id) } }
  | none => f m

/-- A FENCED module completes write commands and admissions with DENIED (R329). -/
def Module.fenced (m : Module) : Bool := m.mirror.state == 6

/-! ### Partitions' steps -/

/-- What the step builder keeps for a partition that has never stepped. -/
def PartSteps.blank : PartSteps := ⟨0, 0, none, none, none, [], [], none, none, [], 0⟩

/-- Partition p's steps. -/
def Module.pstep (m : Module) (p : Nat) : PartSteps := m.steps.parts.getD p PartSteps.blank

/-- The module with partition p's steps changed. -/
def Module.updPart (p : Nat) (f : PartSteps → PartSteps) (m : Module) : Module :=
  { m with steps := { m.steps with parts := m.steps.parts.put p (f (m.pstep p)) } }

/-- The step whose write set a change outside a step belongs to (R157). -/
def Module.nextStep (m : Module) (p : Nat) : Nat := ((m.pstep p).built + 1) % 2 ^ 32

/-! ### Requests -/

/-- The request at an index that holds a capsule ID: a reserved entry reads as FREE (R153, R159). -/
def Module.request (m : Module) (i id : Nat) : Option Req :=
  (m.steps.reqs.get i).filter (fun r => decide (i < 2 ^ 18) && r.capsule == id && r.reserved.isNone && r.state != 0)

/-- The module with request i changed. -/
def Module.updReq (i : Nat) (f : Req → Req) (m : Module) : Module :=
  { m with steps := { m.steps with reqs := m.steps.reqs.upd i f } }

/-- The request of a capsule, reserved ones included. -/
def Module.requestOf (m : Module) (id : Nat) : Option (Nat × Req) := m.steps.reqs.find? (fun (_, r) => r.capsule == id)

/-- The 64 bytes of a request entry (R154). -/
def reqBytes (m : Module) (r : Req) : Bytes :=
  let c := m.slot (r.capsule / 256)
  leBytes 4 r.capsule ++ leBytes 1 r.state ++ leBytes 1 r.flags ++ leBytes 1 r.partition ++ leBytes 1 r.priority ++
  leBytes 4 r.length ++ leBytes 4 (c.lists.headD 0) ++ leBytes 8 r.deadline ++ leBytes 2 r.account ++
  leBytes 2 r.model ++ leBytes 4 r.lastStep ++ leBytes 4 (if r.input.isEmpty then 0 else r.inputBlocks.headD 0) ++
  leBytes 4 r.input.length ++ leBytes 4 r.maxTokens ++ leBytes 4 r.generated ++ leBytes 4 r.return_ ++
  leBytes 4 r.outputSeq ++ leBytes 2 r.waitSteps ++ leBytes 2 r.endStatus ++ leBytes 1 r.endReason ++ zeros 3

/-- The 128 bytes of a text record (R230). -/
def textBytes (id : Nat) (t : TextRec) : Bytes :=
  leBytes 4 id ++ leBytes 2 t.stopSet ++ leBytes 1 t.flags ++ leBytes 1 t.hold.length ++ leBytes 8 t.released ++
  zeros 16 ++ padTo t.hold 64 ++ zeros 32

/-- A request's entry and text record reach the partner with a step's write set (R157). -/
def Module.sendReq (step i : Nat) (m : Module) : Module :=
  match m.steps.reqs.get i with
  | none => m
  | some r =>
    (m.mirrorSlot 0x05 r.partition step r.capsule i (r.fed % 2 ^ 32) (reqBytes m r)).mirrorSlot 0x06 r.partition step
      r.capsule i 0 (textBytes r.capsule r.text)

/-- A request changed: the change travels with the partition's next step. That of a request in a step follows its commit, whose
write set holds the entry as the step leaves it (R157). -/
def Module.touchReq (i : Nat) (m : Module) : Module :=
  match m.steps.reqs.get i with
  | some r =>
    if r.state == 2 then m.updReq i (fun r => { r with touched := true })
    else (m.updReq i (fun r => { r with touched := false })).sendReq (m.nextStep r.partition) i
  | none => m

/-- The Mouthpiece changes a capsule's carry or grammar: while a request has the capsule the header travels with its partition's
next step, so that a takeover finds what the last commit left (R157, R243); else at once. -/
def Module.writeText (id : Nat) (f : Capsule → Capsule) (m : Module) : Module :=
  match m.requestOf id with
  | some (_, r) => if r.reserved.isSome || r.state == 5 then m.writeCap id f
      else (m.updCap id f).sendHeader (m.nextStep r.partition) id
  | none => m.writeCap id f

/-- The sample record of request i counts no token yet (R238). -/
def Module.clearHands (i : Nat) (m : Module) : Module :=
  { m with hbm := m.hbm.putNum (m.get Reg.MOUTH.SAMPLE_BASE_BASE + 512 * i + 0x20) 4 0 }

/-- Input blocks that hold tokens fed to fed + n − 1, counted since admission: 1,022 a block (R155). -/
def blocksFor (fed n : Nat) : Nat := if n == 0 then 0 else ceilDiv (fed + n) 1022 - fed / 1022

/-- Input blocks that the held input of a request will take (R175). -/
def Req.owed (r : Req) : Nat := blocksFor r.fed (r.input.length + r.held.length) - r.inputBlocks.length

/-- Free input blocks, those that held input will take left out. -/
def Module.inputFree (m : Module) : Nat :=
  m.get Reg.STEP.INPUT_POOL_SIZE_BLOCKS - 1 - m.steps.inputBlocks.length -
    m.steps.reqs.vals.foldl (fun n r => n + (if r.held.isEmpty then 0 else r.owed)) 0

/-- A request's input blocks follow its pending input: blocks fed out are freed and new ones, any free ones, are
taken. -/
def Module.fixBlocks (i : Nat) (fedBefore : Nat) (m : Module) : Module :=
  match m.steps.reqs.get i with
  | none => m
  | some r =>
    let out := r.fed / 1022 - fedBefore / 1022
    let gone := if r.input.isEmpty then r.inputBlocks else r.inputBlocks.take out
    let left := if r.input.isEmpty then [] else r.inputBlocks.drop out
    let m1 := { m with steps := { m.steps with inputBlocks := m.steps.inputBlocks.filter (fun b => !gone.contains b) } }
    let need := blocksFor r.fed r.input.length - left.length
    let size := m.get Reg.STEP.INPUT_POOL_SIZE_BLOCKS
    let got := (List.range need).foldl (fun (acc : List Nat × Module) _ =>
      let (start, a) := acc.2.choose size
      match findFrom (fun b => b != 0 && !a.steps.inputBlocks.contains b) size size start with
      | some b => (acc.1 ++ [b], { a with steps := { a.steps with
          inputBlocks := a.steps.inputBlocks ++ [b], badInput := a.steps.badInput.filter (· != b) } })
      | none => (acc.1, a)) (left, m1)
    got.2.updReq i (fun r => { r with inputBlocks := got.1 })

/-- INPUT records carry tokens that join the pending input outside a commit (R579). -/
def Module.sendInput (i : Nat) (toks : List Nat) (reset : Bool) (m : Module) : Module :=
  match m.steps.reqs.get i with
  | none => m
  | some r =>
    let step := m.nextStep r.partition
    let parts := chunks 32768 (toks.length + 1) toks
    parts.zipIdx.foldl (fun (a : Module) (t, k) =>
      a.mirrorSlot 0x18 r.partition step r.capsule i (t.length + (if reset && k == 0 then 2 ^ 31 else 0))
        (t.flatMap (leBytes 4))) m

/-- Tokens are appended to the pending input of request i outside a commit. -/
def Module.appendInput (i : Nat) (toks : List Nat) (m : Module) : Module :=
  match m.steps.reqs.get i with
  | none => m
  | some r =>
    if toks.isEmpty then m
    else ((m.updReq i (fun r => { r with input := r.input ++ toks })).fixBlocks i r.fed).sendInput i toks false

/-- Tokens leave the front of the pending input and a sampled one may join it, at a commit (R166). -/
def Module.feedInput (i n : Nat) (more : List Nat) (m : Module) : Module :=
  match m.steps.reqs.get i with
  | none => m
  | some r =>
    let k := Min.min n r.input.length
    (m.updReq i (fun r => { r with input := r.input.drop k ++ more, fed := r.fed + k })).fixBlocks i r.fed

/-- Input that check 10 of R158 lets through: LENGTH and the input stay within 1,048,576 tokens and input blocks are
free. -/
def Module.inputFits (m : Module) (r : Req) (n : Nat) : Bool :=
  decide (r.length + r.input.length + r.held.length + n ≤ 1048576) &&
  decide (blocksFor r.fed (r.input.length + r.held.length + n) - r.inputBlocks.length ≤
    m.inputFree + (if r.held.isEmpty then 0 else r.owed))

/-! ### Accounts -/

/-- An account never opened. -/
def Account.blank : Account := ⟨0, 0, 0, 0, 0, 0, 0, 0, 0⟩

/-- Account a's record. -/
def Module.account (m : Module) (a : Nat) : Account := m.steps.accounts.getD a Account.blank

/-- The module with account a replaced. -/
def Module.setAccount (a : Nat) (x : Account) (m : Module) : Module :=
  { m with steps := { m.steps with accounts := m.steps.accounts.put a x } }

/-- OPEN, COUNT_INPUT, STRICT, END_ON_STRICT. -/
def Account.open_ (x : Account) : Bool := bit x.flags 0
def Account.strict (x : Account) : Bool := bit x.flags 2
def Account.endOn (x : Account) : Bool := bit x.flags 3

/-- The balance (R186), as a signed 64-bit value. -/
def Account.balance (x : Account) : Int := sext 64 (trunc 64 (x.allowance - (x.debited0 : Int) - (x.debited1 : Int)))

/-- The 64-byte record (R185). -/
def Account.bytes (x : Account) : Bytes :=
  leBytes 8 x.quota ++ leBytes 8 (trunc 64 x.allowance) ++ leBytes 8 x.debited0 ++ leBytes 8 x.debited1 ++
  leBytes 8 x.periodStart ++ leBytes 4 x.periodS ++ leBytes 1 x.partition ++ leBytes 1 x.flags ++ zeros 2 ++
  leBytes 8 x.lastDebit ++ zeros 8

/-- A record of the given bytes. -/
def Account.ofBytes (b : Bytes) : Account :=
  ⟨u64 b 0, sext 64 (u64 b 8), u64 b 0x10, u64 b 0x18, u64 b 0x20, u32 b 0x28, u8 b 0x2C, u8 b 0x2D, u64 b 0x30⟩

/-- This module serves a number by its bit [0] (R186). -/
def Module.serves (m : Module) (n : Nat) : Bool := m.lost || n % 2 == m.mirror.linkId

/-- ALLOWANCE saturates at 2^63 − 1 (R191). -/
def satAllow (a : Int) : Int := Min.min a ((2 : Int) ^ 63 - 1)

/-- Debits of an account whose steps have not committed (R188). -/
def Module.openDebits (m : Module) (a : Nat) : Nat :=
  (m.pstep (m.account a).partition).live.foldl (fun n s => s.seqs.foldl (fun k q =>
    if !q.dropped && ((m.steps.reqs.get q.request).map (·.account)) == some a then k + q.debited else k) n) 0

/-- The body of an ACCOUNT record: that of a step its debits, one with STEP 0, which the partner applies at
once, no debit of a step that has not committed (R188). -/
def Module.accountBody (m : Module) (step a : Nat) : Bytes :=
  let x := m.account a
  let n := if step == 0 then m.openDebits a else 0
  if m.mirror.linkId == 0 then ({ x with debited0 := x.debited0 - n } : Account).bytes
  else ({ x with debited1 := x.debited1 - n } : Account).bytes

/-- An ACCOUNT record carries an account's change (R188). -/
def Module.sendAccount (step a : Nat) (m : Module) : Module :=
  m.mirrorPlain 0x07 (m.account a).partition step a 0 (m.accountBody step a)

/-- The requests of account a that the budget unit pre-empted are ready again unless something else holds them (R190,
R156). -/
def Module.easeReqs (a : Nat) (m : Module) : Module :=
  m.steps.reqs.foldl (fun (b : Module) (i, r) =>
    if r.account == a && r.preBudget then
      (b.updReq i (fun r => { r with
        preBudget := false,
        state := if r.state == 4 && !r.preRelief && !r.preSched then (if bit r.flags 5 then 3 else 1) else r.state,
        flags := if r.state == 4 && !r.preRelief && !r.preSched && bit r.flags 5 then r.flags - 32 else r.flags })).touchReq
        i
    else b) m

/-- STRICT clears when the balance becomes positive, and the requests of the account go on (R190). -/
def Module.easeStrict (a : Nat) (m : Module) : Module :=
  let x := m.account a
  if x.strict && decide (0 < x.balance) then (m.setAccount a { x with flags := x.flags % 4 }).easeReqs a else m

/-- Whole periods that have passed are closed by the serving module (R187). -/
def Module.closePeriods (a : Nat) (m : Module) : Module :=
  let x := m.account a
  let per := sec x.periodS
  if !x.open_ || x.periodS == 0 || !m.serves a || decide (m.clk.now < x.periodStart + per) then m
  else
    let n := (m.clk.now - x.periodStart) / per
    let d : Int := (x.debited0 : Int) + (x.debited1 : Int)
    -- n closings in a row: each caps ALLOWANCE at the debits and adds QUOTA
    let al := satAllow (Min.min (Min.min x.allowance d + (n : Int) * (x.quota : Int)) (d + (x.quota : Int)))
    ((m.setAccount a { x with allowance := al, periodStart := x.periodStart + n * per }).easeStrict a).sendAccount 0 a

/-- The period in force is closed at once, and the next starts now (R211). -/
def Account.newPeriod (now : Nat) (x : Account) : Account :=
  { x with allowance := satAllow (Min.min x.allowance ((x.debited0 : Int) + (x.debited1 : Int)) + (x.quota : Int)),
           periodStart := now }

/-- A debit of n tokens in a step (R188). -/
def Module.debit (step a n : Nat) (m : Module) : Module :=
  let m0 := m.closePeriods a
  let x := m0.account a
  let before := x.balance
  let x1 := if m0.mirror.linkId == 0 then { x with debited0 := x.debited0 + n, lastDebit := m0.clk.now }
    else { x with debited1 := x.debited1 + n, lastDebit := m0.clk.now }
  let m1 := (m0.setAccount a x1).bumpBy Reg.BUDGET.TOKENS_DEBITED_COUNT n
  let m2 := if decide (0 ≤ before) && decide (x1.balance < 0) then
      (m1.bump Reg.BUDGET.DEBT_ENTRIES_COUNT).set Reg.BUDGET.STATUS_DEBT 1
    else m1
  m2.sendAccount step a

/-! ### Prefixes and adapters -/

/-- The live prefix that a handle names (R192). -/
def Module.prefix_ (m : Module) (h : Nat) : Option Prefix :=
  (m.steps.prefixes.get (h % 65536)).filter (fun x => x.pages != 0 && x.gen == h / 65536)

/-- The 64-byte record; users is derived from the headers held (R193). -/
def prefixBytes (m : Module) (i : Nat) (x : Prefix) : Bytes :=
  if x.pages == 0 then leBytes 4 (i + x.gen * 65536) ++ zeros 60
  else
    leBytes 4 (i + x.gen * 65536) ++ leBytes 1 x.partition ++ leBytes 1 x.fmt ++ leBytes 1 x.layers ++
    leBytes 1 x.tier ++ leBytes 2 x.slotBytes ++ leBytes 2 x.tokenizer ++ leBytes 2 x.model ++ leBytes 2 x.pages ++
    leBytes 4 x.tokens ++ leBytes 4 (m.prefixUsers (i + x.gen * 65536)) ++ leBytes 8 x.name ++
    leBytes 4 (x.lists.headD 0) ++ zeros 28

/-- A PREFIX record carries the record's change. -/
def Module.sendPrefix (i src : Nat) (m : Module) : Module :=
  match m.steps.prefixes.get i with
  | some x => if m.streaming then
      m.send 0x08 x.partition 0 0 src i 0 (prefixBytes m i x) else m
  | none => m

/-- A live version of an adapter. -/
def Module.adVersion (m : Module) (ad v : Nat) : Option AdVersion :=
  (m.steps.adapters.get ad).bind (fun a => a.versions.find? (fun x => x.version == v && x.state != 3))

/-- The CURRENT version of an adapter. -/
def Module.adCurrent (m : Module) (ad : Nat) : Option AdVersion :=
  (m.steps.adapters.get ad).bind (fun a => a.versions.find? (fun x => x.state == 1))

/-- The version that an admission of capsule c pins for an adapter (R198). -/
def Module.pinFor (m : Module) (c : Capsule) (ad : Nat) : Option AdVersion :=
  let recorded := (c.pins.find? (fun p => p != 0xFFFFFFFF && p % 65536 == ad)).bind (fun p => m.adVersion ad (p / 65536))
  match recorded with
  | some v => some v
  | none => m.adCurrent ad

/-- The module with the versions of an adapter changed; DRAINING versions without pins become FREED, and an adapter with
no live version is removed (R197, R217). -/
def Module.updAdapter (ad : Nat) (f : AdVersion → AdVersion) (m : Module) : Module :=
  match m.steps.adapters.get ad with
  | none => m
  | some a =>
    let vs := (a.versions.map f).map (fun v => if v.state == 2 && v.pins == 0 then { v with state := 3 } else v)
    let freed := (vs.filter (fun v => v.state == 3)).length - (a.versions.filter (fun v => v.state == 3)).length
    let m1 := (m.bumpBy Reg.BUDGET.VERSIONS_FREED_COUNT freed).unmeasure 5 ad (fun v =>
      vs.any (fun x => x.version == v && x.state != 3))
    if vs.all (fun v => v.state == 3) then { m1 with steps := { m1.steps with adapters := m1.steps.adapters.del ad } }
    else { m1 with steps := { m1.steps with adapters := m1.steps.adapters.put ad { a with versions := vs } } }

/-- Pins of a request are taken or dropped: each pin counts on its version. -/
def Module.pins (up : Bool) (ps : List Nat) (m : Module) : Module :=
  (ps.filter (· != 0xFFFFFFFF)).foldl (fun (a : Module) p =>
    a.updAdapter (p % 65536) (fun v => if v.version == p / 65536 && v.state != 3 then
      { v with pins := if up then v.pins + 1 else v.pins - 1 } else v)) m

/-- The frames of a prefix follow R82: in HBM while a capsule that shares them is ACTIVE, else in the prefix's tier. -/
def Module.followPrefix (h : Nat) (m : Module) : Module :=
  match m.prefix_ h with
  | none => m
  | some x =>
    let active := m.caps.slots.vals.any (fun c => c.state == 2 && c.prefixHandle == h && c.shared != 0)
    let t := if active then 0 else x.tier
    x.map.foldl (fun (a : Module) f => a.startMove (if t == 0 then .promote else .hint) f t) m

/-! ### Output (R171 to R173) -/

/-- The bytes of an output record, padded to a multiple of 8. -/
def OutRec.bytes (o : OutRec) : Bytes :=
  padMul (leBytes 4 o.capsule ++ leBytes 4 o.request ++ leBytes 4 o.step ++ leBytes 2 o.status ++ leBytes 1 o.flags ++
    leBytes 1 o.tokens.length ++ leBytes 2 o.text.length ++ leBytes 1 o.reason ++ zeros 1 ++ leBytes 4 o.seq ++
    o.tokens.flatMap (leBytes 4) ++ o.text) 8

/-- Bytes of a partition's records that wait for its ring. -/
def PartSteps.waitBytes (p : PartSteps) : Nat := p.wait.foldl (fun a b => a + b.length) 0

/-- The ring registers of partition p. -/
def ringHead (p : Nat) : Fld := Reg.STEP.RING_HEAD_OFFSET.at 8 p
def ringTail (p : Nat) : Fld := Reg.STEP.RING_TAIL_OFFSET.at 8 p

/-- Bytes written at an offset of the ring, going round at its end. -/
def ringBytes (r : HostRing) (head : Nat) (b : Bytes) (m : Module) : Module :=
  let n := r.size - head
  (m.wrMem 0 (r.base + head) (b.take n)).wrMem 0 r.base (b.drop n)

/-- Records that wait pass to the ring in order while they fit, HEAD never reaching TAIL from behind (R173). -/
def Module.drainRing (p : Nat) : Nat → Module → Module
  | 0, m => m
  | fuel + 1, m =>
    let x := m.pstep p
    match x.ring, x.wait with
    | some r, b :: rest =>
      let head := m.get (ringHead p)
      let tail := m.get (ringTail p)
      let used := (head + r.size - tail) % r.size
      if used + b.length < r.size then
        ((ringBytes r head b m).set (ringHead p) ((head + b.length) % r.size)).updPart p (fun x =>
          { x with wait := rest }) |>.drainRing p fuel
      else m
    | _, _ => m

/-- The partition's ring limit shows in STATUS (R173). -/
def Module.ringFlag (p : Nat) (m : Module) : Module :=
  let full := decide (65536 < (m.pstep p).waitBytes)
  if full then m.setBit Reg.STEP.STATUS_RING_FULL p else m.clearBit Reg.STEP.STATUS_RING_FULL p

/-- Records of a commit for the host ring of partition p, with MSI-X after those that it takes (R173). -/
def Module.toRing (p : Nat) (recs : List Bytes) (m : Module) : Module :=
  if recs.isEmpty then m
  else
    let m1 := m.updPart p (fun x => { x with wait := x.wait ++ recs })
    let m2 := (if m1.hostUp then m1.drainRing p (m1.pstep p).wait.length else m1).ringFlag p
    match (m2.pstep p).ring with
    | some r => if (m2.pstep p).wait.length < (m1.pstep p).wait.length then m2.msix r.vector else m2
    | none => m2

/-- Whole records cut into bodies of at most n bytes. -/
def packRecords (n : Nat) (recs : List Bytes) : List Bytes :=
  let (done, cur) := recs.foldl (fun (acc : List Bytes × Bytes) b =>
    if !acc.2.isEmpty && decide (n < acc.2.length + b.length) then (acc.1 ++ [acc.2], b) else (acc.1, acc.2 ++ b))
    ([], [])
  if cur.isEmpty then done else done ++ [cur]

/-- Records leave (R172): the batches of each front end in session frames, then the host ring's. A record for an endpoint
that is not in the map or is down is lost. -/
def Module.release (p : Nat) (outs : List OutRec) (m : Module) : Module :=
  let m0 := m.bumpBy Reg.STEP.OUTPUT_RECORDS_COUNT outs.length
  let mtu := (m.bell.ports.map (·.mtu)).foldl Min.min 9000
  let ends := ((outs.filter (fun o => !o.toHost)).map (·.endpoint)).eraseDups
  let m1 := ends.foldl (fun (a : Module) e =>
    let mine := (outs.filter (fun o => !o.toHost && o.endpoint == e)).map OutRec.bytes
    if a.endpointUp e then
      (packRecords (mtu - 80) mine).foldl (fun (b : Module) body => b.sessSend e 6 0xFFFFFFFF body) a
    else a.bumpBy Reg.BELL.OUTPUT_LOST_COUNT mine.length) m0
  m1.toRing p ((outs.filter (·.toHost)).map OutRec.bytes)

/-! ### The end of a request -/

/-- A request goes (R156): pins drop, the capsule becomes IDLE, or PARKING when the end leads to a park, and the entry is
FREE. -/
def Module.freeReq (i : Nat) (m : Module) : Module :=
  match m.steps.reqs.get i with
  | none => m
  | some r =>
    let c := m.slot (r.capsule / 256)
    let m1 := if r.pinned then m.pins false c.pins else m
    let m2 := { m1 with steps := { m1.steps with
      inputBlocks := m1.steps.inputBlocks.filter (fun b => !r.inputBlocks.contains b) } }
    let step := m2.nextStep r.partition
    let m3 := m2.mirrorSlot 0x05 r.partition step r.capsule i (r.fed % 2 ^ 32) (reqBytes m2 { r with state := 0 })
    let m4 := ({ m3 with steps := { m3.steps with reqs := m3.steps.reqs.del i } }).endRevive i
    if (m4.capsule r.capsule).isSome && c.state == 2 then
      match r.parkTo with
      | some (tier, cmd) => (m4.startPark r.capsule tier 1 cmd).followPrefix c.prefixHandle
      | none => (m4.writeCap r.capsule (fun k => { k with state := 1 })).followPrefix c.prefixHandle
    else m4

/-- The record with END of a request that ends outside a step: it carries the last committed step, and the held bytes
(R171, R234). -/
def Module.endRecord (i : Nat) (m : Module) : Option (OutRec × Nat) :=
  (m.steps.reqs.get i).map (fun r =>
    let (txt, bad) := releaseHold r.text.hold
    (⟨r.capsule, i, (m.pstep r.partition).committed, r.endStatus, 1, r.endReason, (r.outputSeq + 1) % 2 ^ 32, [],
      if bit r.text.flags 1 then [] else txt, bit r.flags 2, r.return_⟩, bad))

/-- A request that is in no step ends (R156): ENDING, its record released, then FREE. -/
def Module.endNow (i reason status : Nat) (m : Module) : Module :=
  let m1 := m.updReq i (fun r => { r with state := 5, endReason := reason, endStatus := status })
  match m1.endRecord i, m1.steps.reqs.get i with
  | some (o, badN), some r =>
    let m2 := m1.updReq i (fun r => { r with outputSeq := o.seq, text := { r.text with hold := [], released := r.text.released + o.text.length } })
    let m3 := if badN == 0 then m2 else (m2.bumpBy Reg.MOUTH.OUTPUT_INVALID_COUNT badN).set Reg.MOUTH.STATUS_INVALID 1
    ((m3.bumpBy Reg.MOUTH.TEXT_RELEASED_COUNT o.text.length).release r.partition [o]).freeReq i
  | _, _ => m1

/-! ### Leaving a step -/

/-- The module with a live step's sequence of request i changed. -/
def Module.updSeq (p num i : Nat) (f : Seq → Seq) (m : Module) : Module :=
  m.updPart p (fun x => { x with live := x.live.map (fun s => if s.num == num then
    { s with seqs := s.seqs.map (fun q => if q.request == i then f q else q) } else s) })

/-- The live step that holds request i still in it: the partition's step number and the sequence. -/
def Module.seqOf (m : Module) (i : Nat) : Option (LiveStep × Seq) :=
  (m.steps.reqs.get i).bind (fun r =>
    (m.pstep r.partition).live.findSome? (fun s =>
      (s.seqs.find? (fun q => q.request == i && !q.dropped)).map (fun q => (s, q))))

/-- A message of n bytes takes the ring's next offset that is a multiple of 64, or offset 0 when it would cross the end
(R170). -/
def Pool.take (x : Pool) (n : Nat) : Nat × Pool :=
  let o := roundUp x.offset 64
  let at_ := if x.size < o + n then 0 else o
  (at_, { x with offset := at_ + n })

/-- A list written into the pool's ring. -/
def Module.toPoolRing (p : Nat) (b : Bytes) (m : Module) : Module :=
  match (m.pstep p).pool with
  | none => m
  | some x =>
    let (o, x1) := x.take b.length
    (m.updPart p (fun s => { s with pool := some x1 })).toPool p x.endpoint (.write x.endpoint (x.addr + o) b)

/-- The header of a work list with its CHECK over the whole (R167). -/
def listHead (step part form count time tokenBytes committed : Nat) (rest : Bytes) : Bytes :=
  let h := leBytes 4 step ++ leBytes 1 part ++ leBytes 1 form ++ leBytes 2 count ++ leBytes 8 time ++
    leBytes 4 tokenBytes ++ leBytes 4 committed ++ zeros 36
  h ++ leBytes 4 (crc32c (h ++ zeros 4 ++ rest)) ++ rest

/-- An amendment for one sequence: a DROP entry (R170). -/
def Module.amend (p : Nat) (s : LiveStep) (q : Seq) (m : Module) : Module :=
  let e := leBytes 4 q.capsule ++ leBytes 4 q.request ++ leBytes 2 q.model ++ leBytes 1 0x10 ++ leBytes 1 q.flags ++
    leBytes 4 q.basePos ++ leBytes 2 q.tokens.length ++ leBytes 1 q.core ++ leBytes 1 q.priority ++ zeros 4 ++
    leBytes 8 q.deadline
  (m.toPoolRing p (listHead s.num p 2 1 s.buildTime 0 (m.pstep p).committed e)).bump Reg.STEP.DROPS_COUNT

/-- A grammar set while the request was in a step becomes the capsule's (R243). -/
def Module.takeGrammar (i : Nat) (m : Module) : Module :=
  match m.steps.reqs.get i with
  | none => m
  | some r =>
    match r.newGrammar with
    | some (g, st) => (m.updReq i (fun r => { r with newGrammar := none })).writeText r.capsule (fun c =>
        { c with grammar := g, grammarState := st })
    | none => m

/-- Changes that a request has held until it left the step take effect: its input, its text settings, its grammar
(R175, R243). What changed reaches the partner with the next step (R157). -/
def Module.afterStep (i : Nat) (m : Module) : Module :=
  match m.steps.reqs.get i with
  | none => m
  | some r =>
    let m1 := ((m.updReq i (fun r => { r with
      held := [], newText := none,
      text := match r.newText with
        | some (s, f) => { r.text with stopSet := s, flags := f }
        | none => r.text })).appendInput i r.held).takeGrammar i
    if r.touched || !r.held.isEmpty || r.newText.isSome then m1.touchReq i else m1

/-- The slots that a SLOTS record wrote, as layer and position. -/
def slotsOf (r : MirrorRec) : List (Nat × Nat) :=
  (List.range (bits r.arg1 8 0)).map (fun i => (bits r.arg0 7 0, 256 * bits r.arg0 19 8 + bits r.arg0 27 20 + i))

/-- A SLOTS record that the partner has yet to acknowledge names a slot of the capsule, by layer and position, of which p holds:
until then the owner changes no such slot (R316). -/
def Module.unacked (id : Nat) (p : Nat → Nat → Bool) (m : Module) : Bool :=
  (m.mirror.state == 2 || m.mirror.state == 3 || m.mirror.state == 4) &&
  m.mirror.sent.any (fun r => r.kind == 0x01 && r.capsule == id && (slotsOf r).any (fun x => p x.1 x.2))

/-- A truncation takes effect (R71): the capsule is cut, the partner cuts its copy, the request follows, and the command
completes. -/
def Module.truncateNow (c : RunCmd) (id n : Nat) (m : Module) : Module :=
  let k := m.slot (id / 256)
  let m1 := ((m.truncateTo id n).mirrorSlot 0x04 k.partition 0 id n 0 []).sendHeader 0 id
  let m2 := match m1.requestOf id with
    | some (i, _) => (m1.updReq i (fun r => { r with length := n })).touchReq i
    | none => m1
  m2.finishMoves.ok c []

/-- A truncation may not take effect yet: the capsule is in a step (R65), or a slot that it empties has not been acknowledged
(R316). -/
def Module.truncateWaits (id n : Nat) (m : Module) : Bool :=
  ((m.requestOf id).map (fun x => (m.seqOf x.1).isSome)).getD false || m.unacked id (fun _ q => decide (n ≤ q))

/-- Truncations of a capsule that waited take effect in order. -/
def Module.runTruncates (id : Nat) (m : Module) : Module :=
  (m.waitingCmds 0x0211 (fun c => c.data.headD 0 == id)).foldl (fun (a : Module) c =>
    if a.truncateWaits id (nthD c.data 1 0) then a
    else a.truncateNow c id (Min.min (nthD c.data 1 0) (a.slot (id / 256)).tokens)) m

/-- Truncations that waited for an acknowledgement, or for a partner that is lost, take effect. -/
def Module.allTruncates (m : Module) : Module :=
  ((m.waitingCmds 0x0211 (fun _ => true)).map (fun c => c.data.headD 0)).eraseDups.foldl (fun (a : Module) id => a.runTruncates id) m

/-- The attention work of request i for a step is cancelled (R123): its commands stop at the next block boundary, those
that wait for a queue place go, and no query of the step is expected any more. -/
def Module.cancelWork (p num i : Nat) (m : Module) : Module :=
  let mine (d : Desc) : Bool := d.partition == p && d.request == i && d.step == num
  let gone := (m.attn.waiting.filter (fun w => mine w.2.desc)).length
  let held (t : Landed) : Bool := t.request == i && t.step == num
  let unread := m.attn.cores.vals.foldl (fun a k => a + (k.landing.filter held).length) 0
  let m1 := ((m.bumpBy Reg.ATTN.CANCELLED_COUNT gone).bumpBy Reg.ATTN.FUSED_FAILED_COUNT gone).bumpBy
    Reg.ATTN.TILES_DISCARDED_COUNT unread
  { m1 with attn := { m1.attn with
      waiting := m1.attn.waiting.filter (fun w => !mine w.2.desc),
      expected := m1.attn.expected.filter (fun e => !(e.partition == p && e.request == i && e.step == num)),
      store := m1.attn.store.filter (fun x => !(x.partition == p && x.request == i && x.step == num)),
      cores := m1.attn.cores.mapV (fun _ k => { k with
        landing := k.landing.filter (fun t => !held t),
        walked := k.walked.filter (fun (r, _, n) => !(r == i && n == num)),
        fused := k.fused.map (fun f => if mine f.desc && f.status.isNone then
          { f with status := some .cancelled } else f) }) } }

/-- What a sequence has been debited in a step that has not told its end is taken back: a step that does not commit debits
nothing (R188). -/
def Module.undebit (s : LiveStep) (q : Seq) (m : Module) : Module :=
  match m.steps.reqs.get q.request with
  | some r =>
    if q.debited == 0 || s.writing then m
    else
      let x := m.account r.account
      let y := if m.mirror.linkId == 0 then { x with debited0 := x.debited0 - q.debited }
        else { x with debited1 := x.debited1 - q.debited }
      (m.setAccount r.account y).sendAccount s.num r.account
  | none => m

/-- Request i leaves its published step without completing it: an amendment goes to the pool, nothing of the step is
written for it, and the request is READY again, or ends or waits as it was told to (R156, R170). -/
def Module.leaveStep (i : Nat) (m : Module) : Module :=
  match m.seqOf i, m.steps.reqs.get i with
  | some (s, q), some r =>
    let m0 := ((m.updSeq r.partition s.num i (fun q => { q with dropped := true })).undebit s q).updPart r.partition (fun x =>
      { x with live := x.live.map (fun y => if y.num == s.num then
          { y with outputs := y.outputs.filter (fun o => o.request != i) } else y) })
    let m1 := (m0.amend r.partition s q).cancelWork r.partition s.num i
    let mine (e : PfEntry) : Bool := e.request == i && e.step == s.num && e.partition == r.partition
    let ended := m1.slide.stalls.filter (fun t => m1.slide.entries.any (fun e => e.id == t.entry && mine e))
    let m2 := (ended.foldl (fun (a : Module) t => a.bumpBy Reg.SLIDE.STALL_NS_COUNT (a.clk.mono - t.began))
      { m1 with slide := { m1.slide with
          entries := m1.slide.entries.filter (fun e => !mine e), stalls := m1.slide.stalls.filter (fun t => !ended.contains t) } })
    let endP := bit r.flags 4
    let waitP := bit r.flags 5
    let m3 := (m2.updReq i (fun r => { r with
      state := if waitP && !endP then 3 else 1, flags := r.flags % 16 })).afterStep i
    let m4 := m3.runTruncates r.capsule
    if endP then m4.endNow i (if r.endReason == 0 then 3 else r.endReason) r.endStatus else m4.touchReq i
  | _, _ => m

/-- Request i ends at once, in a step or outside one, for an error (R62, R170). -/
def Module.endError (i status : Nat) (m : Module) : Module :=
  let m1 := if (m.seqOf i).isSome then
      (m.updReq i (fun r => { r with flags := r.flags % 16 })).leaveStep i else m
  m1.endNow i 5 status

end Sys2Proof.Machine
end

