-- ==== Sys2Proof/Machine/OpsSlide.lean ====
section
/-!
DEFINITION. The Slide engine's shared operations: prefetch entries (R84 to R90), revive prefetches (R91) and relief of HBM
(R92 to R95).
-/

namespace Sys2Proof.Machine

open Sys2Proof

/-- Core c is in ATTENTION or SHARED mode (R107). -/
def Module.attends (m : Module) (c : Nat) : Bool := (m.core c).mode == 1 || (m.core c).mode == 2

/-- Core c takes fused commands: it attends, and no change of its mode is pending. -/
def Module.servesFused (m : Module) (c : Nat) : Bool := m.attends c && (m.core c).nextMode.isNone

/-! ### Prefetch entries -/

/-- The map entry that tile number t of a capsule's layer lies in, as its frame handle, and the tile of the frame. -/
def Module.tileHome (m : Module) (id layer t : Nat) : Option (Nat × Nat) :=
  (m.capsule id).bind (fun c => (c.map[t / 8 * c.layers + layer]?).map (fun h => (h, t % 8)))

/-- The tiles of an entry's range that hold a filled slot (R77, R85). -/
def Module.rangeTiles (m : Module) (id layer first count : Nat) : List Nat :=
  match m.capsule id with
  | none => []
  | some c =>
    ((List.range c.pages).flatMap (fun p =>
      if 8 * p + 8 ≤ first || first + count ≤ 8 * p then []
      else
        ((m.frame (c.handle layer p)).map (fun f =>
          (f.filledTiles.map (fun k => 8 * p + k)).filter (fun t => decide (first ≤ t) && decide (t < first + count)))).getD
          []))

/-- The module with a prefetch entry changed. -/
def Module.updEntry (id : Nat) (f : PfEntry → PfEntry) (m : Module) : Module :=
  { m with slide := { m.slide with entries := m.slide.entries.map (fun e => if e.id == id then f e else e) } }

/-- An entry has arrived: a stall for it ends, and the time waited counts (R89). -/
def Module.arrive (id : Nat) (m : Module) : Module :=
  let m1 := m.updEntry id (fun e => { e with arrived := true })
  match m1.slide.stalls.find? (fun t => t.entry == id) with
  | some t =>
    ({ m1 with slide := { m1.slide with stalls := m1.slide.stalls.filter (fun x => x.entry != id) } }).bumpBy
      Reg.SLIDE.STALL_NS_COUNT (m1.clk.mono - t.began)
  | none => m1

/-- A tile of an entry need not be waited for any more. -/
def Module.entryTile (id tile : Nat) (m : Module) : Module :=
  match m.slide.entries.find? (fun e => e.id == id) with
  | none => m
  | some e =>
    let left := e.left.erase tile
    let m1 := m.updEntry id (fun e => { e with left := left })
    if left.isEmpty && !e.arrived then m1.arrive id else m1

/-- Tiles of entries that go to HBM only have arrived when their frame is in HBM, issued or not (R86). -/
def Module.hbmArrivals (m : Module) : Module :=
  (m.slide.entries.filter (fun e => e.core == 0xFF && !e.arrived)).foldl (fun (a : Module) e =>
    (e.left.filter (fun t => ((a.tileHome e.capsule e.layer t).map (fun p => tierOf p.1 == 0)).getD true)).foldl
      (fun (b : Module) t => b.entryTile e.id t) a) m

/-- The rate of the host link in bytes per nanosecond, by the mode and width trained (R434). -/
def Module.hostRate (m : Module) : Nat := Max.max 1 (64 * 2 ^ ((m.host.linkMode + 2) % 3) * m.host.linkWidth / 16)

/-- The unloaded read time of one tile of a tier; from the host at the rate of the mode trained (R578, R447). -/
def Module.tileReadNs (m : Module) (tier : Nat) : Nat :=
  if tier == 0 then 620 else if tier == 1 then 950 else if tier == 2 then 1200 + ceilDiv 16384 m.hostRate else 67100

/-- The cause counters (R90). -/
def missCause (k : Nat) : Fld := Reg.SLIDE.MISS_CAUSE_COUNT.at 8 k

/-- The place of the greatest of a list, the first on equal ones. -/
def argMax (l : List Nat) : Nat :=
  (l.zipIdx.foldl (fun (best : Nat × Nat) (v, i) => if best.2 < v then (i, v) else best) (0, 0)).1

/-- The fetches of an entry that have not arrived, the one issued first in front (R90). -/
def Module.lateXfer (m : Module) (e : PfEntry) : Option Xfer :=
  (sortBy (fun (a b : Xfer) => decide (a.issued ≤ b.issued))
    (m.slide.xfers.vals.filter (fun x => x.why == .entry e.id && e.left.contains (8 * x.page + x.tile)))).head?

/-- The six shares of a late tile's wait up to now, by cause (R90): before its issue; for the grant of its tier's arbiter, with
an LPDDR access; on the host link; in the flash channel; for room in the landing buffer. -/
def Module.waitShares (m : Module) (e : PfEntry) : List Nat :=
  let now := m.clk.mono
  match m.lateXfer e with
  | none => [now - e.since, 0, 0, 0, 0, 0]
  | some x =>
    let full := x.blocked.getD now
    let granted := Min.min ((m.grantOf x).getD full) full
    let wait := granted - x.issued
    let tier := tierOf x.source
    [x.issued - e.since, if tier == 0 then wait else 0, if tier == 1 then full - x.issued else 0,
      if tier == 2 then full - x.issued else 0, if tier == 3 then full - x.issued else 0, now - full]

/-- The tier of the late tile: of the fetch issued first among those not arrived, or of the first tile of the range. -/
def Module.lateTier (m : Module) (e : PfEntry) : Nat :=
  match m.lateXfer e with
  | some x => tierOf x.source
  | none => ((m.tileHome e.capsule e.layer (e.left.headD e.first)).map (fun p => tierOf p.1)).getD 0

/-- The cause of a miss (R90): LATE_ENTRY when the entry came after its deadline or with less time than its tier's read
takes, else the largest share of the late tile's wait, the lower on equal shares. -/
def Module.missCauseOf (m : Module) (e : PfEntry) : Nat :=
  if decide (e.deadline < e.received + m.tileReadNs (m.lateTier e)) then 0 else argMax (m.waitShares e)

/-- A prefetch entry misses (R89): a normal sequence leaves the step, a privileged one stalls its layer. -/
def Module.miss (e : PfEntry) (m : Module) : Module :=
  let m1 := (m.updEntry e.id (fun x => { x with missed := true })).bump (missCause (m.missCauseOf e))
  if e.privileged then
    let st : Stall := ⟨e.id, m1.clk.mono, false⟩
    ({ m1 with slide := { m1.slide with stalls := m1.slide.stalls ++ [st] } }).bump Reg.SLIDE.MISS_STALL_COUNT
  else (m1.bump Reg.SLIDE.MISS_DROP_COUNT).leaveStep e.request

/-- Entries of a published step reach the engine: the filled tiles of each range are noted, a range without one has
arrived, as have tiles in HBM for an entry that names no core, and an entry whose deadline has passed misses at once (R85, R86,
R89). -/
def Module.takeEntries (es : List PfEntry) (m : Module) : Module :=
  es.foldl (fun (a : Module) e =>
    let all := a.rangeTiles e.capsule e.layer e.first e.count
    let left := if e.core == 0xFF then
        all.filter (fun t => ((a.tileHome e.capsule e.layer t).map (fun p => tierOf p.1 != 0)).getD false) else all
    let id := a.slide.nextId
    let e1 := { e with id := id, left := left, received := a.clk.now, since := a.clk.mono, arrived := left.isEmpty }
    let a1 := { a with slide := { a.slide with entries := a.slide.entries ++ [e1], nextId := id + 1 } }
    if e1.deadline < a.clk.now && !e1.arrived && (a1.seqOf e1.request).isSome then a1.miss e1 else a1) m

/-! ### Revive -/

/-- The private frames of a capsule's layer 0 are not all in HBM (R91). -/
def Module.needsRevive (m : Module) (id : Nat) : Bool :=
  match m.capsule id with
  | some c => c.private_.any (fun (i, h) => i % c.layers == 0 && tierOf h != 0)
  | none => false

/-- An attention core that is idle and has room in its landing buffer. -/
def Module.idleCore (m : Module) (part : Nat) : Option Nat :=
  (List.range 64).find? (fun c => m.corePart c == some part && (m.core c).fused.isEmpty && (m.core c).run.isNone &&
    decide ((m.core c).landing.length < 96))

/-- A revive prefetch starts (R91): in layer, page and tile order, the tiles of the private frames of the first LAYERS
layers that are not in HBM are read, and promoted where a frame is free and KEEP does not hold them. The core that takes a tile
is the one that is idle when it arrives. -/
def Module.revive (request id : Nat) (m : Module) : Module :=
  if !m.flag Reg.SLIDE.REVIVE_CTRL_ENABLE || !m.needsRevive id then m
  else
    match m.capsule id with
    | none => m
    | some c =>
      let lim := m.get Reg.SLIDE.REVIVE_CTRL_LAYERS
      let frames := (List.range (Min.min lim c.layers)).flatMap (fun l =>
        (List.range c.pages).filterMap (fun p =>
          if c.shared ≤ p && tierOf (c.handle l p) != 0 then some (l, p, c.handle l p) else none))
      let m1 := ({ m with slide := { m.slide with revives := m.slide.revives ++ [request] } }).bump Reg.SLIDE.REVIVES_COUNT
      frames.foldl (fun (a : Module) (l, p, h) =>
        match a.frame h with
        | none => a
        | some f =>
          let a1 := f.filledTiles.foldl (fun (b : Module) k =>
            b.startXfer ⟨.revive request, id, l, p, k, h, 64, b.clk.mono, 0, none, none⟩) a
          if a1.kept h then a1 else a1.startMove (.revive request) h 0) m1

/-! ### Relief (R92 to R95) -/

/-- HBM frames that a partition holds, by the capsules and prefixes whose maps name them. -/
def Module.hbmHeld (m : Module) (p : Nat) : Nat :=
  let own := m.caps.slots.vals.foldl (fun a c => if c.partition == p then
    a + ((c.map.drop (c.shared * c.layers)).filter (fun h => tierOf h == 0)).length else a) 0
  let shared := m.steps.prefixes.vals.foldl (fun a x => if x.partition == p && x.pages != 0 then
    a + (x.map.filter (fun h => tierOf h == 0)).length else a) 0
  own + shared

/-- HBM frames of a partition that moves under way take elsewhere. -/
def Module.hbmGoing (m : Module) (p : Nat) : Nat :=
  (m.slide.moves.vals.filter (fun v => tierOf v.source == 0 && tierOf v.target != 0 &&
    (m.frame v.source).any (fun f => m.capPart f.capsule == p))).length

/-- A partition holds more than its quota, counting the frames that are leaving as gone (R93). -/
def Module.overQuota (m : Module) (p : Nat) : Bool :=
  let q := m.get (Reg.SLIDE.HBM_QUOTA_FRAMES.at 8 p)
  q != 0 && decide (q + m.hbmGoing p < m.hbmHeld p)

/-- HBM frames that are free, or whose demotion has started (R183), without those that steps have reserved. -/
def Module.hbmComing (m : Module) : Nat :=
  m.tierUnused 0 + (m.slide.moves.vals.filter (fun v => tierOf v.source == 0 && tierOf v.target != 0)).length +
    (m.slide.leaving.filter (fun h => tierOf h == 0)).length - m.hbmReserved

/-- The private HBM frames of a capsule that no move takes yet. -/
def Module.hbmPrivate (m : Module) (c : Capsule) : List Nat :=
  (c.private_.map (·.2)).filter (fun h => tierOf h == 0 && m.slide.moves.vals.all (fun v => v.source != h))

/-- Frames of stage one in a partition: of capsules that are not in the step being built, least recently read first. The
frames of a sequence that is pre-empted already are as much its victim's (R190). -/
def Module.coldFrames (m : Module) (p : Nat) (inStep : List Nat) : List Nat :=
  let cold := m.caps.slots.filter (fun (s, c) => c.partition == p && !inStep.contains (c.id s) && m.owns c &&
    (c.state == 1 || c.state == 3 || c.state == 4 ||
      (c.state == 2 && (m.steps.reqs.vals.any (fun r => r.capsule == c.id s && (r.state == 3 || r.state == 4))))))
  let hs := cold.flatMap (fun (_, c) => m.hbmPrivate c)
  sortBy (fun a b => decide (m.caps.lastRead.getD a 0 ≤ m.caps.lastRead.getD b 0)) hs

/-- The tier that takes a relieved frame: LPDDR first in stage one, then the host region, then flash. -/
def Module.reliefTier (m : Module) (first : Nat) : Option Nat :=
  ((List.range 4).filter (fun t => decide (first ≤ t))).find? (fun t => m.tierTakes t &&
    !(t == 3 && m.flag Reg.SLIDE.STATUS_FLASH_DEMOTE_OFF))

/-- Stage one in a partition: frames are demoted until stop holds. -/
def Module.demote (p : Nat) (inStep : List Nat) (stop : Module → Bool) (m : Module) : Module :=
  (m.coldFrames p inStep).foldl (fun (a : Module) h =>
    if stop a then a
    else
      match a.reliefTier 1 with
      | some t => a.startMove .relief h t
      | none => a) m

/-- A privileged request (R88, R154). -/
def Module.privileged (m : Module) (r : Req) : Bool :=
  bit r.flags 0 || (m.slot (r.capsule / 256)).privileged || m.realTime r.partition

/-- One ready sequence is taken before another (R94). -/
def Module.victimBefore (m : Module) (a b : Nat × Req) : Bool :=
  let key (x : Nat × Req) : List Nat :=
    [b2n (m.privileged x.2), x.2.priority, (if x.2.deadline == 0 then 0 else 2 ^ 64 - x.2.deadline),
     2 ^ 24 - ((m.slot (x.2.capsule / 256)).map.filter (fun h => tierOf h == 0)).length, x.1]
  let rec lt : List Nat → List Nat → Bool
    | p :: ps, q :: qs => decide (p < q) || (p == q && lt ps qs)
    | _, _ => false
  lt (key a) (key b)

/-- Stage two in a partition: ready sequences are pre-empted in the order of R94 while stop does not hold; one none of whose
frames can be written elsewhere is passed over. A sequence of the work list being built may be a victim and leaves it; the one
that needs the frames may not. Gives the requests pre-empted. -/
def Module.preempt (p : Nat) (taken : List Nat) (stop : Module → Bool) (m : Module) : Module × List Nat :=
  let ready := m.steps.reqs.filter (fun (i, r) => r.partition == p && r.state == 1 && r.reserved.isNone &&
    !taken.contains i)
  let order := sortBy (fun a b => !m.victimBefore b a) ready
  order.foldl (fun (acc : Module × List Nat) (i, r) =>
    let a := acc.1
    if stop a then acc
    else
      let hs := a.hbmPrivate (a.slot (r.capsule / 256))
      match a.reliefTier 2, hs with
      | some _, _ :: _ =>
        let a1 := hs.foldl (fun (b : Module) h =>
          match b.reliefTier 2 with
          | some t => b.startMove .relief h t
          | none => b) a
        let a2 := (a1.updReq i (fun q => { q with state := 4, preRelief := true, relieved := true })).bump Reg.SLIDE.PREEMPTIONS_COUNT
        (a2.touchReq i, acc.2 ++ [i])
      | _, _ => acc) (m, [])

/-- Relief for partition p (R92, R93) until FREE_TARGET frames are free beside those the build has reserved already: over-quota
partitions first, each until within its quota, then the partition that needs the frames. inStep are the capsules of the step
being built, spared the request that needs the frames. Gives the requests pre-empted. -/
def Module.relieve (p : Nat) (inStep spared : List Nat) (reserved : Nat) (m : Module) : Module × List Nat :=
  let target := m.get Reg.SLIDE.HBM_WATER_FREE_TARGET
  let enough (a : Module) : Bool := decide (target + reserved ≤ a.hbmComing)
  let overs := (List.range 8).filter m.overQuota
  let m1 := overs.foldl (fun (a : Module) q => a.demote q inStep (fun b => enough b || !b.overQuota q)) m
  let m2 := m1.demote p inStep enough
  let r1 := overs.foldl (fun (acc : Module × List Nat) q =>
    let r := acc.1.preempt q (spared ++ acc.2) (fun b => enough b || !b.overQuota q)
    (r.1, acc.2 ++ r.2)) (m2, [])
  let r2 := r1.1.preempt p (spared ++ r1.2) enough
  (r2.1, r1.2 ++ r2.2)

/-- A supplied entry as the engine takes it: privileged whenever the capsule or the partition makes it so (R88), and without a
core when the one it names does not serve attention (R107). -/
def Module.suppliedEntry (m : Module) (p : Nat) (e : PfEntry) : PfEntry :=
  { e with privileged := e.privileged || (m.slot (e.capsule / 256)).privileged || m.realTime p,
           core := if e.core < 64 && m.servesFused e.core then e.core else 0xFF }

/-- The entries of a supplied schedule for the sequences of its step; those of a sequence that relief pre-empted since its last
step promote what they read (R96). Entries for requests left out are ignored (R180). -/
def Module.stepEntries (m : Module) (p : Nat) (qs : List Seq) (es : List PfEntry) : List PfEntry :=
  (es.filter (fun (e : PfEntry) => qs.any (fun q => q.request == e.request && q.capsule == e.capsule))).map (fun e =>
    let x := m.suppliedEntry p e
    { x with promote := x.promote || (m.steps.reqs.get e.request).any (·.relieved) })

end Sys2Proof.Machine
end

