-- ==== Sys2Proof/Machine/Caps.lean ====
section
/-!
DEFINITION. Capsules: their commands (R66 to R73), repair from the partner (R63, R576) and the table sweep (R42).
-/

namespace Sys2Proof.Machine

open Sys2Proof

/-! ### Creation, deletion, reading -/

/-- The image of a loaded tokenizer or grammar. -/
def Module.tokImage (m : Module) (id : Nat) : Option TokImage := (m.mouth.tokenizers.get id).map (fun i => ⟨m.hbm, i.addr⟩)
def Module.gramImage (m : Module) (id : Nat) : Option GramImage := (m.mouth.grammars.get id).map (fun i => ⟨m.hbm, i.addr⟩)

/-- A capsule takes a slot (R44, R66): the header, the lease and the mirror's HEADER, and the answer. -/
def Module.createIn (slot : Nat) (c : RunCmd) (m : Module) : Module :=
  let b := c.payload
  let gen := (m.slot slot).gen
  let start := match m.gramImage (u32 b 0x0C) with
    | some g => g.start
    | none => 0
  let k : Capsule := { Capsule.blank with
    gen := gen, state := 1, flags := 2 * (u8 b 3), partition := u8 b 0, fmt := u8 b 1, layers := u8 b 2,
    owner := m.mirror.linkId, slotBytes := u16 b 4, epoch := 1,
    expiry := (m.clk.now + ms (m.get Reg.MIRROR.LEASE_LEASE_MS)) % 2 ^ 64, account := u16 b 6, created := m.clk.now,
    grammar := u32 b 0x0C, grammarState := start, tokenizer := u16 b 8, settled := !m.streaming }
  let id := slot * 256 + gen
  ((m.updSlot slot (fun _ => k)).sendHeader 0 id).ok c (leBytes 4 id ++ leBytes 4 1)

/-- The next tag of a SLOT_REQUEST, and the request (R44). -/
def Module.askSlot (c : RunCmd) (m : Module) : Module :=
  let tag := m.caps.nextTag
  let m1 := { m with caps := { m.caps with wanted := m.caps.wanted.put tag c.id, nextTag := (tag + 1) % 2 ^ 32 } }
  if m1.mirror.state == 4 then m1 else m1.send 0x0F 0xFF 0 0 capNone tag 0 []

/-- CAPSULE_CREATE (R44, R66, R237): the lowest free slot of the own half, then of the partner's: by a grant, or at once while
no partner serves the other half, lost or not yet paired (assumption 66). -/
def capsuleCreateCmd (c : RunCmd) (m : Module) : Module :=
  let b := c.payload
  let g := u32 b 0x0C
  let a := m.account (u16 b 6)
  let gram := m.gramImage g
  m.checked c [(0x0A, 2)]
    [(m.partOk (u8 b 0), bad 0), (u8 b 1 == 1 || u8 b 1 == 2, bad 1), (decide (1 ≤ u8 b 2) && decide (u8 b 2 ≤ 127), bad 2),
     (decide (u8 b 3 ≤ 1), bad 3), (decide (16 ≤ u16 b 4) && decide (u16 b 4 ≤ 480) && u16 b 4 % 16 == 0, bad 4),
     ((m.tokImage (u16 b 8)).isSome, bad 8),
     (g == 0xFFFFFFFF || (gram.map (fun i => i.tokenizer == u16 b 8)).getD false, bad 0x0C),
     (!m.fenced, stop .denied), (a.open_ && a.partition == u8 b 0, stop .denied)]
    (fun m =>
      let own := m.mirror.linkId
      match m.freeSlotOf own with
      | some s => m.createIn s c
      | none =>
        if m.lost || decide (m.mirror.state ≤ 1) then
          match m.freeSlotOf (1 - own) with
          | some s => m.createIn s c
          | none => m.fail c .noSpace
        else (m.askSlot c).await c [])

/-- CAPSULE_DELETE (R41, R64, R67). -/
def capsuleDeleteCmd (c : RunCmd) (m0 : Module) : Module :=
  let id := u32 c.payload 0
  let m := m0.loadHeader id
  let k := m.slot (id / 256)
  m.checked c [(4, 4)]
    (capChecks m id 0 ++
     [(!m.fenced && m.mayOwn k, stop .denied), (k.state == 1 || k.state == 4, stop .busy), ((m.requestOf id).isNone, stop .busy)])
    (fun m => m.heldOr c id (fun m =>
      let m1 := m.writeCap id (fun k => { k with state := 5 })
      let m2 := m1.releaseFrames id
      let m3 := (m2.freeSlot (id / 256)).finishMoves
      m3.ok c []))

/-- CAPSULE_QUERY: the header of this module's copy (R48, R68). -/
def capsuleQueryCmd (c : RunCmd) (m : Module) : Module :=
  let id := u32 c.payload 0
  m.checked c [(4, 4)] (capChecks m id 0) (fun m =>
    let m1 := m.loadHeader id
    let k := m1.slot (id / 256)
    let shown := if m1.mute k.partition then { k with carry := zeros k.carry.length, grammarState := 0 } else k
    m1.ok c (shown.bytes (id / 256)))

/-- The bytes of a page map as the metadata region shows them (R56). -/
def Capsule.mapBytes (c : Capsule) (off n : Nat) : Bytes :=
  let first := off / 4
  slice ((c.map.drop first).take (n / 4 + 2) |>.flatMap (leBytes 4)) (off - 4 * first) n

/-- A range of a capsule's address space: within one frame, the header or the map (R56, R57). -/
inductive CapRange where
  | frame (layer page byte : Nat)
  | header (byte : Nat)
  | map (byte : Nat)
  deriving DecidableEq, Repr

/-- What an offset and a length name, none where it is no valid range. -/
def Capsule.range (c : Capsule) (off n : Nat) : Option CapRange :=
  let layer := bits off 35 29
  let page := bits off 28 17
  let byte := bits off 16 0
  if off / 2 ^ 36 != 0 then none
  else if layer == 127 then
    (if page == 0 then (if byte + n ≤ 256 then some (.header byte) else none)
     else
      let o := (page - 1) * 131072 + byte
      if o + n ≤ 4 * c.map.length then some (.map o) else none)
  else if layer < c.layers && page < c.pages && decide (byte + n ≤ 131072) then some (.frame layer page byte)
  else none

/-- CAPSULE_READ (R57, R69). A failed check value completes with DAMAGED (R62). -/
def capsuleReadCmd (c : RunCmd) (m : Module) : Module :=
  let b := c.payload
  let id := u32 b 0
  let off := u64 b 8
  let n := u32 b 0x10
  let k := m.slot (id / 256)
  m.checked c [(4, 4), (0x14, 4)]
    (capChecks m id 0 [(decide (1 ≤ n) && decide (n ≤ 3584), bad 0x10)] ++ [((k.range off 1).isSome, bad 8),
      ((k.range off n).isSome, bad 0x10), (!m.mute k.partition, stopMute)])
    (fun m =>
      match k.range off n with
      | none => m
      | some (.header o) =>
        let m1 := m.loadHeader id
        if k.headerBad then m1.fail c .damaged else m1.ok c (slice (k.bytes (id / 256)) o n)
      | some (.map o) => if m.mapBad k then (m.loadMap id).fail c .damaged else m.ok c (k.mapBytes o n)
      | some (.frame l p o) =>
        let h := k.handle l p
        match m.frame h with
        | none => m.ok c (zeros n)
        | some f =>
          let go (m : Module) : Module :=
            let m1 := m.touch h
            match f.badIn o n with
            | some bl => (m1.damage id h bl).fail c .damaged
            | none => m1.ok c (f.read o n)
          if tierOf h == 2 then m.withHost c go else go m)

/-- CAPSULE_PARK (R64, R65, R70): a request in a step ends after that step's commit, one outside a step ends at once, and
the park follows. BUSY for a capsule whose request is still a reserved admission, or is told to park already, is the model's
choice (assumption 183). -/
def capsuleParkCmd (c : RunCmd) (m0 : Module) : Module :=
  let id := u32 c.payload 0
  let tier := u8 c.payload 4
  let m := (m0.loadHeader id).loadMap id
  let k := m.slot (id / 256)
  m.checked c [(5, 3)]
    (capChecks m id 0 [(decide (1 ≤ tier) && decide (tier ≤ 3), bad 4)] ++
     [(!m.fenced && m.mayOwn k, stop .denied),
      (k.state != 3 && k.state != 5, stop .busy), (!k.damaged, stop .damaged), (tier != 3 || !m.ftl.readOnly, stop .readOnly),
      ((m.requestOf id).all (fun (_, r) => r.reserved.isNone && r.parkTo.isNone), stop .busy)])
    (fun m => m.heldOr c id (fun m =>
      let m1 := m.await c []
      if k.state == 2 then
        match m1.requestOf id with
        | none => m1.startPark id tier 1 (some c.id)
        | some (i, _) =>
          let m2 := m1.updReq i (fun r => { r with parkTo := some (tier, some c.id), endReason := 4 })
          if (m2.seqOf i).isSome then m2.updReq i (fun r => { r with flags := if bit r.flags 4 then r.flags else r.flags + 16 })
          else m2.endNow i 4 0
      else m1.startPark id tier k.state (some c.id)))

/-- CAPSULE_TRUNCATE (R65, R71): at once, or after the commit of the step that contains the sequence, and once the partner has
acknowledged the slots that it empties (R316). -/
def capsuleTruncateCmd (c : RunCmd) (m0 : Module) : Module :=
  let id := u32 c.payload 0
  let m := (m0.loadHeader id).loadMap id
  let n := u32 c.payload 4
  let k := m.slot (id / 256)
  m.checked c []
    (capChecks m id 0 ++
     [(decide (n ≤ k.tokens), bad 4), (!m.fenced && m.mayOwn k, stop .denied), (k.state != 3 && k.state != 5, stop .busy)])
    (fun m => m.heldOr c id (fun m => if m.truncateWaits id n then m.await c [id, n] else m.truncateNow c id n))

def execCapsuleCreate (src : Src) (s : State) : Out := run (onCmd 0x0200 src capsuleCreateCmd) s
def execCapsuleDelete (src : Src) (s : State) : Out := run (onCmd 0x0201 src capsuleDeleteCmd) s
def execCapsuleQuery (src : Src) (s : State) : Out := run (onCmd 0x0202 src capsuleQueryCmd) s
def execCapsuleRead (src : Src) (s : State) : Out := run (onCmd 0x0203 src capsuleReadCmd) s
def execCapsulePark (src : Src) (s : State) : Out := run (onCmd 0x0210 src capsuleParkCmd) s
def execCapsuleTruncate (src : Src) (s : State) : Out := run (onCmd 0x0211 src capsuleTruncateCmd) s

/-! ### Repair (R63, R576) -/

/-- The frame with the 16 KiB of tile t given as bytes: the header's fill and slots as received, the share flag its own
(R576); its check values hold again. -/
def Frame.readTile (t : Nat) (b : Bytes) (f : Frame) : Frame :=
  let fill := u16 b 0x0C
  let slots := (List.range 32).foldl (fun (s : KMap Slot) i =>
    let o := 0x20 + 8 * i
    let k := 32 * t + i
    if k < fill then s.put k ⟨u32 b o, u8 b (o + 4), u8 b (o + 5), slice b (1024 + 480 * i) f.slotBytes⟩ else s.del k) f.slots
  { f with fill := fill, slots := slots, tiles := f.tiles.put t (u32 b 0x10, u64 b 0x18),
           bad := f.bad.filter (fun k => k / 4 != t) }

/-- A received tile or block 0 names the place it is written to (R576). -/
def tilePlace (b : Bytes) (capsule layer page t : Nat) : Bool :=
  u32 b 0 == capsule && u16 b 4 == layer && u16 b 6 == page && u8 b 8 == t

/-- Block k of a tile passes the CHECK values in its header. -/
def tileCheck (b : Bytes) (k : Nat) : Bool :=
  let blk := slice b (4096 * k) 4096
  let blk := if k == 0 then splice blk 0x3F0 (zeros 16) else blk
  crc32c blk == u32 b (0x3F0 + 4 * k)

/-- The place that a repair gives for the header and for a list block of the map, whose number is its block. -/
def repairHeader : Nat := 0xFFFFFFFF
def repairList : Nat := 0xFFFFFFFE

/-- Damaged blocks of a capsule: the header, the list blocks of its map, and the blocks of its frames, each with its map
entry. -/
def Module.damagedBlocks (m : Module) (id : Nat) : List (Nat × Nat) :=
  let k := m.slot (id / 256)
  (if k.headerBad then [(repairHeader, 0)] else []) ++
  (k.lists.zipIdx.filter (fun (l, _) => m.caps.badLists.contains l)).map (fun (_, i) => (repairList, i)) ++
  k.map.zipIdx.flatMap (fun (h, i) => ((m.frame h).map (fun f => f.bad.map (fun b => (i, b)))).getD [])

/-- A repair that has no block left is over (R63). -/
def Module.endRepair (id : Nat) (m : Module) : Module :=
  match m.caps.repairs.find? (fun (r : Repair) => r.capsule == id) with
  | none => m
  | some r =>
    if !r.left.isEmpty then m
    else
      let m1 := { m with caps := { m.caps with repairs := m.caps.repairs.filter (fun (q : Repair) => q.capsule != id) } }
      match m1.host.running.find? (fun c => c.id == r.cmd) with
      | none => m1
      | some c =>
        if r.failed then m1.fail c .damaged
        else
          let hs := (m1.slot (id / 256)).map
          let share := m1.caps.share.mapV (fun h e => if hs.contains h then { e with damaged := false } else e)
          let m2 := { m1 with caps := { m1.caps with share := share } }
          (m2.writeCap id (fun k => { k with flags := k.flags / 2 * 2, damageFrame := 0, damageBlock := 0 })).ok c []

/-- CAPSULE_REPAIR: every damaged block is asked of the partner; with the partner lost it completes with DAMAGED (R63). That a
link that carries no records, whatever the pair's state, counts as the partner lost, and that a second repair of the capsule
waits unanswered while one runs, are the model's choices (assumptions 184 and 185). A write to the capsule, it is held while
the lease has lapsed (R48). -/
def capsuleRepairCmd (c : RunCmd) (m : Module) : Module :=
  let id := u32 c.payload 0
  let k := m.slot (id / 256)
  m.checked c [(4, 4)] (capChecks m id 0 ++ [(!m.fenced && m.mayOwn k, stop .denied)]) (fun m => m.heldOr c id (fun m =>
    let m0 := (m.loadHeader id).loadMap id
    let left := m0.damagedBlocks id
    if m0.caps.repairs.any (fun (r : Repair) => r.capsule == id) then m
    else if m0.linkOpen || left.isEmpty then
      let r : Repair := ⟨id, c.id, left, false⟩
      let m1 := ({ m0 with caps := { m0.caps with repairs := m0.caps.repairs ++ [r] } }).await c []
      let m2 := left.foldl (fun (a : Module) (p : Nat × Nat) => a.emit (.pair 1 [id, p.1, p.2] [])) m1
      m2.endRepair id
    else m0.fail c .damaged))

def execCapsuleRepair (src : Src) (s : State) : Out := run (onCmd 0x0220 src capsuleRepairCmd) s

/-- A block of a frame takes the received bytes. A frame of the host tier is restored into LPDDR in its place (R99). -/
def Module.restoreBlock (id entry block : Nat) (b : Bytes) (m : Module) : Module :=
  let k := m.slot (id / 256)
  let h := nthD k.map entry 0xFFFFFFFF
  match m.frame h with
  | none => m
  | some f =>
    let t := block / 4
    let whole := splice (f.tileBytes t) (4096 * (block % 4)) b
    let g := f.readTile t whole
    let g1 := { g with bad := g.bad.erase block }
    if tierOf h == 2 && g1.bad.isEmpty then
      match m.allocFrame 1 with
      | (some n, m1) => ({ m1 with caps := { m1.caps with frames := m1.caps.frames.put n g1 } }).rehome h n
      | (none, m1) => m1.putFrame h g1
    else m.putFrame h g1

/-- The bytes of list block k of a map, whose list blocks are listed in order (R54): the entries, NEXT and CHECK. -/
def listBlockBytes (map lists : List Nat) (k : Nat) : Bytes :=
  let part := (map.drop (1022 * k)).take 1022
  let body := (part ++ List.replicate (1022 - part.length) 0xFFFFFFFF).flatMap (leBytes 4) ++ leBytes 4 (nthD lists (k + 1) 0)
  body ++ leBytes 4 (crc32c body)

/-- A list block received passes its CHECK. -/
def listBlockOk (b : Bytes) : Bool := b.length == 4096 && crc32c (b.take 4092) == u32 b 4092

/-- REPAIR_BLOCK_ARRIVAL: a block of 4,096 bytes, or the header for entry 0xFFFFFFFF, arrives with its check value; ok tells
that the partner could read it. It is checked against its check value and, for block 0, its place, which is the frame's own
tile header, and written (R63, R576). A block that arrives and fails is a check-value failure under R62. The handles in a list
block of the map are this module's own and are written as such (assumption 186). -/
def repairArrival (id entry block : Nat) (b : Bytes) (check : Nat) (ok : Bool) (m : Module) : Module :=
  match m.caps.repairs.find? (fun (r : Repair) => r.capsule == id && r.left.contains (entry, block)) with
  | none => m
  | some r =>
    let k := m.slot (id / 256)
    let set (f : Repair → Repair) (a : Module) : Module := { a with caps := { a.caps with
      repairs := a.caps.repairs.map (fun (q : Repair) => if q.capsule == id then f q else q) } }
    let left := r.left.erase (entry, block)
    let h := nthD k.map entry 0xFFFFFFFF
    let good :=
      if entry == repairHeader then b.length == 256 && crc32c (b.take 252) == u32 b 252
      else if entry == repairList then listBlockOk b
      else if block % 4 == 0 then
        b.length == 4096 && tileCheck (padTo b 16384) 0 &&
          (m.frame h).any (fun f => tilePlace b f.capsule f.layer f.page (block / 4))
      else b.length == 4096 && crc32c b == check
    let m1 := if !ok then set (fun q => { q with failed := true, left := left }) m
      else if !good then set (fun q => { q with failed := true, left := left })
        (if decide (repairList ≤ entry) then m.damage id 0xFFFFFFFF 0 else m.damage id h block)
      else if entry == repairHeader then
        set (fun q => { q with left := left }) (m.updCap id (fun k => { Capsule.ofBytes b k with headerBad := false }))
      else if entry == repairList then
        set (fun q => { q with left := left })
          { m with caps := { m.caps with badLists := m.caps.badLists.filter (· != nthD k.lists block 0) } }
      else set (fun q => { q with left := left }) (m.restoreBlock id entry block b)
    m1.endRepair id

def execRepairBlockArrival (capsule entry block : Nat) (b : Bytes) (check : Nat) (ok : Bool) (s : State) : Out :=
  run (repairArrival capsule entry block b check ok) s

/-- REPAIR_FETCH_REQUEST: the partner asks for a block of this module's copy, which is read from its own tier and sent back,
or reported as failing (R63). -/
def repairFetch (id entry block : Nat) (m : Module) : Module :=
  match m.capsule id with
  | none => m.emit (.pair 2 [id, entry, block, 0] [])
  | some k =>
    if entry == repairHeader then
      (if k.headerBad then (m.loadHeader id).emit (.pair 2 [id, entry, block, 0] [])
       else m.emit (.pair 2 [id, entry, block, 1] (k.bytes (id / 256))))
    else if entry == repairList then
      (if m.caps.badLists.contains (nthD k.lists block 0) || decide (k.lists.length ≤ block) then
         (m.loadMap id).emit (.pair 2 [id, entry, block, 0] [])
       else m.emit (.pair 2 [id, entry, block, 1] (listBlockBytes k.map k.lists block)))
    else
      let h := nthD k.map entry 0xFFFFFFFF
      match m.frame h with
      | none => m.emit (.pair 2 [id, entry, block, 0] [])
      | some f =>
        if f.bad.contains block then (m.damage id h block).emit (.pair 2 [id, entry, block, 0] [])
        else (m.touch h).emit (.pair 2 [id, entry, block, 1] (slice (f.tileBytes (block / 4)) (4096 * (block % 4)) 4096))

def execRepairFetchRequest (capsule entry block : Nat) (s : State) : Out := run (repairFetch capsule entry block) s

/-! ### The table sweep (R42, R73) -/

/-- The capsule IDs in a body of output records (R171). -/
def recordIds (b : Bytes) : List Nat :=
  let rec go : Nat → Bytes → List Nat
    | 0, _ => []
    | fuel + 1, x =>
      if x.length < 24 then []
      else u32 x 0 :: go fuel (x.drop (roundUp (24 + 4 * u8 x 0x0F + u16 x 0x10) 8))
  go (b.length / 24) b

/-- The capsule that a command names, by its opcode (R67 to R72, R101, R128, R176 to R179, R191, R246 to R250, R336, R337). -/
def RunCmd.capsuleId (c : RunCmd) : Option Nat :=
  if [0x0201, 0x0202, 0x0203, 0x0210, 0x0211, 0x0220, 0x0300, 0x0500, 0x0501, 0x0502, 0x0503, 0x0504, 0x0505, 0x0610, 0x0712,
      0x0721, 0x0731, 0x0A10, 0x0A11].contains c.opcode then some (u32 c.payload 0)
  else if c.opcode == 0x0410 then some (u32 c.payload 4)
  else none

/-- The capsules that the fused commands of a core name. -/
def Core.capsuleIds (x : Core) : List Nat := x.fused.map (·.desc.capsule)

/-- A structure of this module holds an ID of the slot for later use (R42). -/
def Module.holdsSlot (m : Module) (s : Nat) : Bool :=
  let hit (id : Nat) : Bool := id / 256 == s
  let recs (p : Pkt) : Bool := match p with
    | .session _ f => f.type == 6 && (recordIds f.body).any hit
    | _ => false
  let named (r : MirrorRec) : Bool := hit r.capsule || (r.kind == 0x09 && (recordIds r.body).any hit)
  m.steps.reqs.vals.any (fun r => hit r.capsule) ||
  m.mirror.shadow.vals.any (fun e => hit (u32 e.entry 0)) ||
  m.steps.parts.vals.any (fun p => p.live.any (fun l => l.seqs.any (fun q => hit q.capsule)) ||
    p.wait.any (fun b => (recordIds b).any hit) || p.batches.any (fun b => b.2.any (fun x => hit x.1))) ||
  m.slide.entries.any (fun e => hit e.capsule) ||
  m.slide.supplied.any (fun x => x.2.2.any (fun e => hit e.capsule)) ||
  m.mirror.sent.any named || m.mirror.pend.any named ||
  m.mirror.outs.any (fun o => (recordIds o.2.2).any hit) ||
  m.bell.queues.vals.any (fun q => q.frames.any (fun f => recs f.pkt) || q.waiting.any (fun f => recs f.pkt)) ||
  m.bell.sessions.vals.any (fun x => x.retained.any (fun r => r.frame.type == 6 && (recordIds r.frame.body).any hit)) ||
  m.lig.objs.vals.any (fun o => o.msgs.any (fun w => hit (w % 2 ^ 32))) ||
  (m.ckpt.run.map (fun r => r.slotsLeft.contains s)).getD false ||
  m.attn.cores.vals.any (fun x => x.capsuleIds.any hit) ||
  m.host.running.any (fun c => c.capsuleId.any hit)

/-- A retired slot may return as far as this module can tell. -/
def Module.slotReady (m : Module) (s : Nat) : Bool :=
  let k := m.slot s
  k.state == 6 && decide (k.retiredAt + sec (Max.max 10 (m.get Reg.CAPS.SWEEP_CTRL_QUARANTINE_MIN)) ≤ m.clk.mono) &&
  !m.holdsSlot s

/-- Retired slots. -/
def Module.retiredSlots (m : Module) : List Nat := (m.caps.slots.filter (fun (_, k) => k.state == 6)).map (·.1)

/-- A slot returns to FREE with generation 0 (R42), and its header tells the partner's copy (R64). -/
def Module.returnSlot (s : Nat) (m : Module) : Module :=
  let m0 := { m with caps := { m.caps with slots := m.caps.slots.del s } }
  let m1 := m0.mirrorSlot 0x03 0xFF 0 (s * 256) 0 0 (Capsule.blank.bytes s)
  { m1 with caps := { m1.caps with sweep := m1.caps.sweep.map (fun w => { w with returned := w.returned + 1 }) } }

/-- The sweep ends when nothing is left to answer, and the commands that wait for it complete (R73). -/
def Module.endSweep (m : Module) : Module :=
  match m.caps.sweep with
  | none => m
  | some w =>
    if !w.asked.isEmpty then m
    else
      let n := m.get Reg.CAPS.SWEEP_STATUS_SWEEPS
      let m1 := (((({ m with caps := { m.caps with sweep := none } }).set Reg.CAPS.SWEEP_STATUS_RUNNING 0).set
        Reg.CAPS.SWEEP_STATUS_DONE 1).set Reg.CAPS.SWEEP_STATUS_SWEEPS ((n + 1) % 2 ^ 32))
      (m1.waitingCmds 0x0230 (fun _ => true)).foldl (fun (a : Module) c =>
        a.ok c (leBytes 4 w.returned ++ leBytes 4 a.retiredSlots.length)) m1

/-- A sweep starts, unless one runs: the slots that are ready here are asked of the partner in batches of up to 4,096, or
return at once when no partner serves the pair (R42). -/
def Module.startSweep (m : Module) : Module :=
  if m.caps.sweep.isSome then m
  else
    let ready := m.retiredSlots.filter m.slotReady
    let pairUp := m.mirror.state == 2 || m.mirror.state == 3
    let w : Sweep := ⟨m.clk.mono, if pairUp then ready else [], 0⟩
    let m1 := ({ m with caps := { m.caps with sweep := some w, lastSweep := m.clk.mono } }).set
      Reg.CAPS.SWEEP_STATUS_RUNNING 1
    let m2 := if pairUp then (chunks 4096 (ready.length + 1) ready).foldl (fun (a : Module) b =>
        a.emit (.pair 3 b [])) m1
      else if m.mirror.state == 4 then m1
      else ready.foldl (fun (a : Module) s => a.returnSlot s) m1
    m2.endSweep

/-- CAPSULE_SWEEP (R73). -/
def capsuleSweepCmd (c : RunCmd) (m : Module) : Module :=
  let m1 := m.await c []
  if m1.caps.sweep.isSome then m1 else m1.startSweep

def execCapsuleSweep (src : Src) (s : State) : Out := run (onCmd 0x0230 src capsuleSweepCmd) s

/-- SWEEP_INTERVAL: a periodic sweep; an interval of 0 disables them (R42). -/
def sweepInterval (m : Module) : Module := if m.get Reg.CAPS.SWEEP_CTRL_INTERVAL == 0 then m else m.startSweep

def execSweepInterval (s : State) : Out :=
  runAt (fun m => if m.get Reg.CAPS.SWEEP_CTRL_INTERVAL == 0 then 0 else m.caps.lastSweep + sec (m.get Reg.CAPS.SWEEP_CTRL_INTERVAL))
    sweepInterval s

/-- SWEEP_QUERY_ANSWER: for a batch that was asked, the partner names the slots it still holds; the others return when this
module's own conditions still hold (R42). -/
def sweepAnswer (batch held : List Nat) (m : Module) : Module :=
  match m.caps.sweep with
  | none => m
  | some w =>
    let mine := batch.filter (fun s => w.asked.contains s)
    let m1 := { m with caps := { m.caps with sweep := some { w with asked := w.asked.filter (fun s => !batch.contains s) } } }
    let m2 := mine.foldl (fun (a : Module) s => if !held.contains s && a.slotReady s then a.returnSlot s else a) m1
    m2.endSweep

def execSweepQueryAnswer (batch held : List Nat) (s : State) : Out := run (sweepAnswer batch held) s

/-- SWEEP_PARTNER_QUERY: the slots of a batch of which this module's structures hold an ID are named to the partner
(R73). -/
def sweepQuery (batch : List Nat) (m : Module) : Module :=
  m.emit (.pair 4 (batch.filter (fun s => m.holdsSlot s)) [])

def execSweepPartnerQuery (batch : List Nat) (s : State) : Out := runIf (batch.length ≤ 4096) (sweepQuery batch) s

end Sys2Proof.Machine
end

