-- ==== Sys2Proof/Machine/OpsAttn.lean ====
section
/-!
DEFINITION. The attention cores' shared operations: a fused command from its descriptor to its end (R108 to R123), and
the expected queries of a published step (R122).
-/

namespace Sys2Proof.Machine

open Sys2Proof

/-- Queries and new slots of a group: the first position of its work-list entry, the step ordinal of its first token, and
its tokens (R115); none outside a live step. -/
def Module.feedGroup (m : Module) (p step request : Nat) : Option (Nat × Nat × Nat) :=
  ((m.pstep p).live.find? (fun s => s.num == step)).bind (fun s =>
    let before := s.seqs.takeWhile (fun q => q.request != request)
    (s.seqs.find? (fun q => q.request == request && !q.dropped)).map (fun q =>
      (q.basePos, before.foldl (fun a q => a + q.tokens.length) 0, q.tokens.length)))

/-- The staging address of step ordinal t (R115). -/
def Module.stageAddr (m : Module) (step t : Nat) : Nat :=
  m.get Reg.ATTN.NEWSLOT_BASE_BASE + step % 2 * 134217728 + t * 512

/-- Why a fused command does not walk: the checks of R113, R116 and R123 in the order of R123's table. -/
def Module.descFault (m : Module) (core : Nat) (d : Desc) (reserved24 : Nat) : Option Status :=
  match m.capsule d.capsule, m.attn.models.get d.model with
  | none, _ => some (if d.capsule % 256 == 255 then .badField else .stale)
  | some c, mo =>
    if !m.owns c then some .denied
    else
      match mo with
      | none => some .badField
      | some x =>
        if x.partition != d.partition || !m.servesFused core then some .denied
        else if !d.fieldsOk x reserved24 || c.layers != x.layers || c.fmt != x.latFmt || c.slotBytes != x.slotBytes ||
            d.partition != c.partition || m.corePart core != some d.partition then some .badField
        else if d.isTree && (treeDepths ((m.hbm.rdN d.treeAddr 64).map (·.toNat)) d.queryCount).isNone then some .badField
        else if (d.queryHbm && !m.engineMay d.partition 0 d.queryAddr
              (queryBlockBytes x d.headCount d.queryCount x.slotBytes)) ||
            (d.outHbm && !m.engineMay d.partition 0 d.outAddr (d.rows * x.vDim * (d.outFmt.width / 8))) then some .denied
        else none

/-- The module with a fused command changed. -/
def Module.updFused (core id : Nat) (f : FCmd → FCmd) (m : Module) : Module :=
  m.updCore core (fun k => { k with fused := k.fused.map (fun x => if x.id == id then f x else x) })

/-- The query rows of a batch on a core. -/
def Core.rowsOf (k : Core) (b : Batch) : Nat := (k.fused.filter (fun x => b.cmds.contains x.id)).foldl (fun a x => a + x.desc.rows) 0

/-- A command whose query has arrived joins the batch of its model and layer that is open and whose first query came at most
WAIT_NS ago, or opens one (R112). -/
def Module.joinBatch (core id : Nat) (m : Module) : Module :=
  let k := m.core core
  match k.fused.find? (fun x => x.id == id) with
  | none => m
  | some f =>
    let fits (b : Batch) : Bool := b.model == f.desc.model && b.layer == f.desc.layer && !b.walking &&
      decide (m.clk.mono ≤ b.opened + m.get Reg.ATTN.BATCH_CTRL_WAIT_NS) && decide (k.rowsOf b + f.desc.rows ≤ 1536)
    if k.batches.any fits then
      let i := (k.batches.findIdx? fits).getD 0
      m.updCore core (fun k => { k with batches := updNth k.batches i (fun b => { b with cmds := b.cmds ++ [id] }) })
    else
      let b : Batch := ⟨f.desc.model, f.desc.layer, m.clk.mono, false, [id]⟩
      m.updCore core (fun k => { k with batches := k.batches ++ [b] })

/-- New slots of a query block are kept for the write phase, and under CAUSAL they go to the staging area (R115). -/
def Module.takeSlots (d : Desc) (ordinal base slotBytes : Nat) (block : Bytes) (m : Module) : Module :=
  let at_ := block.length - d.queryCount * slotBytes
  (List.range d.queryCount).foldl (fun (a : Module) j =>
    let b := slice block (at_ + j * slotBytes) slotBytes
    let idx := if d.isTree then j else d.basePos - base + j
    let x : NewSlot := ⟨d.partition, d.step, d.request, d.layer, idx, b⟩
    let a1 := { a with attn := { a.attn with store := a.attn.store.filter (fun y =>
      !(y.partition == x.partition && y.step == x.step && y.request == x.request && y.layer == x.layer &&
        y.index == x.index)) ++ [x] } }
    if d.isTree then a1
    else { a1 with hbm := a1.hbm.wrN (a1.stageAddr d.step (ordinal + idx)) b }) m

/-- A command's query has arrived: its new slots are taken and it joins a batch. -/
def Module.gotQuery (core id : Nat) (block : Bytes) (m : Module) : Module :=
  match (m.core core).fused.find? (fun x => x.id == id) with
  | none => m
  | some f =>
    let bytes := ((m.attn.models.get f.desc.model).map (·.slotBytes)).getD 0
    let (base, ord, inStep) := match m.feedGroup f.desc.partition f.desc.step f.desc.request with
      | some (b, o, _) => (b, o, true)
      | none => (f.desc.basePos, 0, false)
    let m1 := if inStep then m.takeSlots f.desc ord base bytes block else m
    (m1.updFused core id (fun f => { f with query := some block, ordinal := ord, staged := inStep && !f.desc.isTree })).joinBatch
      core id

/-- A command enters the fused queue of a core; one whose query lies in HBM has it at once. -/
def Module.pushFused (core : Nat) (d : Desc) (origin : FOrigin) (query : Option Bytes) (m : Module) : Module :=
  let id := m.attn.nextCmd
  let parents := if d.isTree then (m.hbm.rdN d.treeAddr 64).map (·.toNat) else []
  let f : FCmd := ⟨id, d, origin, m.clk.mono, none, parents, 0, false, false, none, [], [], none, 0⟩
  let m1 := ({ m with attn := { m.attn with nextCmd := id + 1 } }).updCore core (fun k => { k with fused := k.fused ++ [f] })
  let x := m1.attn.models.get d.model
  let block := if d.queryHbm then
      some (m1.hbm.rdN d.queryAddr ((x.map (fun x => queryBlockBytes x d.headCount d.queryCount x.slotBytes)).getD 0))
    else query
  match block with
  | some b => m1.gotQuery core id b
  | none => m1

/-- A descriptor of a submitted batch has ended; with the last one the command completes (R128). -/
def Module.submitDone (run index : Nat) (st : Status) (m : Module) : Module :=
  match m.attn.submits.get run, m.host.running.find? (fun c => c.id == run) with
  | some x, some c =>
    let sts := x.statuses.put index st.code
    if sts.length < x.count then
      { m with attn := { m.attn with submits := m.attn.submits.put run { x with statuses := sts } } }
    else
      let m1 := { m with attn := { m.attn with submits := m.attn.submits.del run } }
      let m2 := m1.cmdWrite c x.statusAddr (sts.vals.flatMap (leBytes 2))
      let bads := sts.vals.filter (· != 0)
      let worst := ([Status.stale, .badField, .denied, .damaged, .timeout, .busy, .cancelled].find? (fun s =>
        s.code == bads.headD 0)).getD .ok
      m2.complete c worst (leBytes 4 (sts.length - bads.length) ++ leBytes 4 bads.length) noDetail
  | some x, none =>
    let sts := x.statuses.put index st.code
    { m with attn := { m.attn with submits :=
        if sts.length < x.count then m.attn.submits.put run { x with statuses := sts } else m.attn.submits.del run } }
  | none, _ => m

/-- The counters of a command's end. -/
def Module.countFused (st : Status) (m : Module) : Module :=
  if st == .ok then m.bump Reg.ATTN.FUSED_DONE_COUNT
  else
    let m1 := m.bump Reg.ATTN.FUSED_FAILED_COUNT
    if st == .timeout then m1.bump Reg.ATTN.QUERY_TIMEOUTS_COUNT
    else if st == .cancelled then m1.bump Reg.ATTN.CANCELLED_COUNT else m1

/-- A derived command that waited for a place enters the queue (R108); on a core that no longer serves fused commands it ends
with DENIED and its sequence leaves the step (R123). -/
def Module.admitWaiting (core : Nat) (m : Module) : Module :=
  match m.attn.waiting.find? (fun w => w.1 == core) with
  | some (_, f) =>
    if !m.servesFused core then
      (({ m with attn := { m.attn with waiting := m.attn.waiting.filter (fun w => w.2.id != f.id) } }).countFused
        .denied).leaveStep f.desc.request
    else if (m.core core).fused.length < 64 then
      let m1 := { m with attn := { m.attn with waiting := m.attn.waiting.filter (fun w => w.2.id != f.id) } }
      match f.query with
      | some b => (m1.updCore core (fun k => { k with fused := k.fused ++ [{ f with query := none, queued := m1.clk.mono }] })).gotQuery
          core f.id b
      | none => m1
    else m
  | none => m

/-- A program stops with a fault (R125). -/
def Module.progFault (c code : Nat) (m : Module) : Module :=
  ((m.endProgram c code).bump Reg.ATTN.PROG_FAULTS_COUNT).set Reg.ATTN.STATUS_PROG_FAULT 1

/-- A program that is to stop has come to an operation boundary (R125, R131). -/
def Module.stopDue (c : Nat) (m : Module) : Module :=
  match (m.core c).run with
  | some r => if r.waiting then m else (r.stop.map (fun code => m.progFault c code)).getD m
  | none => m

/-- Every program that is to stop and stands at an operation boundary stops. -/
def Module.stopsDue (m : Module) : Module :=
  (m.attn.cores.filter (fun (_, k) => (k.run.bind (·.stop)).isSome)).foldl (fun (a : Module) (c, _) => a.stopDue c) m

/-- A core program whose FUSED operation ended goes on, or stops with fault 0x06 and the status in its region; a command that was
taken and then failed counts as refused (R125, assumption 198). -/
def Module.fusedOver (core launch : Nat) (st : Status) (m : Module) : Module :=
  match (m.core core).run with
  | none => m
  | some r =>
    if (m.core core).launch != launch then m
    else if st == .ok then
      (m.updCore core (fun k => { k with run := k.run.map (fun r => { r.nextOp with waiting := false }) })).stopDue core
    else ({ m with hbm := m.hbm.wrN r.regionBase (leBytes 2 st.code) }).progFault core 6

/-- A program that has yielded starts a new slice when no fused command is left, and a launch that waited starts (R107). -/
def Module.newSlice (c : Nat) (m : Module) : Module :=
  if (m.core c).fused.isEmpty then
    (m.updCore c (fun k => { k with run := k.run.map (fun r => { r with sliceStart := m.clk.mono }) })).startNext c
  else m

/-- The step of a request is live in a partition. -/
def Module.stepLive (m : Module) (p step : Nat) : Bool := (m.pstep p).live.any (fun s => s.num == step)

/-- A core forgets which groups have walked, but for those of live steps and of commands that are still queued. -/
def Module.forgetWalks (core : Nat) (d : Desc) (m : Module) : Module :=
  m.updCore core (fun k => { k with walked := k.walked.filter (fun (r, l, n) =>
    !d.inGroup r l n || m.stepLive d.partition d.step || k.fused.any (fun f => f.desc.inGroup r l n)) })

/-- Rows of an expected query that no frame has brought (R123). -/
def Expected.rowsLeft (heads : Nat) (e : Expected) : Bool :=
  (List.range heads).any (fun h => (List.range e.queryCount).any (fun t =>
    !e.covered.any (fun (h0, hn, t0, tn) => decide (h0 ≤ h) && decide (h < h0 + hn) && decide (t0 ≤ t) && decide (t < t0 + tn))))

/-- A command of an expected query has ended with OK; the query is met when its rows are covered and its commands have
ended. -/
def Module.expectMet (id : Nat) (m : Module) : Module :=
  let es := m.attn.expected.filterMap (fun (e : Expected) =>
    if e.cmds.contains id then
      let e1 := { e with cmds := e.cmds.filter (· != id) }
      let heads := ((m.attn.models.get e.model).map (·.heads)).getD 0
      if e1.cmds.isEmpty && !e1.rowsLeft heads then none else some e1
    else some e)
  { m with attn := { m.attn with expected := es } }

/-- A fused command ends on a core with a status (R123). A derived command that was refused takes its sequence out of the
step; a damaged one ends its request. -/
def Module.endFused (core id : Nat) (st : Status) (m : Module) : Module :=
  match (m.core core).fused.find? (fun x => x.id == id) with
  | none => m
  | some f =>
    let m1 := (m.updCore core (fun k => ({ k with
      fused := k.fused.filter (fun x => x.id != id),
      batches := (k.batches.map (fun b => { b with cmds := b.cmds.filter (· != id) })).filter (fun b => !b.cmds.isEmpty) } : Core).keepWalks)).countFused
      st
    let m2 := match f.origin with
      | .submit r i => m1.submitDone r i st
      | .program launch => m1.fusedOver core launch st
      | .derived =>
        if st == Status.ok then m1.expectMet id
        else if st == Status.cancelled || st == Status.damaged then m1
        else m1.leaveStep f.desc.request
    ((m2.forgetWalks core f.desc).admitWaiting core).newSlice core

/-- Expected queries of a published step are recorded, one for each sequence and layer (R122). t is the build time. -/
def Module.expect (p : Nat) (s : LiveStep) (m : Module) : Module :=
  let r := s.seqs.foldl (fun (acc : Nat × Module) q =>
    let layers := ((acc.2.attn.models.get q.model).map (·.layers)).getD 0
    let es : List Expected := (List.range layers).map (fun l =>
      ⟨p, q.capsule, q.request, s.num, l, q.model, q.core, q.kind == 2, q.basePos, q.tokens.length, acc.1,
        s.buildTime + acc.2.get Reg.SLIDE.PF_DEADLINE_BASE_NS + l * acc.2.get Reg.SLIDE.PF_DEADLINE_LAYER_NS, [], []⟩)
    (acc.1 + q.tokens.length, { acc.2 with attn := { acc.2.attn with expected := acc.2.attn.expected ++ es } })) (0, m)
  r.2

/-- A QUERY of an expected query forms a command on its core (R122), or waits there for a place. A frame outside its entry's
tokens, of the other mask or of the wrong length is a field out of range: its sequence leaves the step (R123, assumption 199). -/
def Module.formDerived (e : Expected) (g : ModelMsg) (m : Module) : Module :=
  let win := ((m.attn.models.get e.model).map (fun x => nthD x.windows e.layer 0)).getD 0
  let d : Desc := ⟨1, g.maskMode, 0, e.partition, e.capsule, e.request, e.step, e.model, e.layer, g.headFirst, g.headCount,
    0, g.queryCount, g.basePos, win, g.scale, 0, 0,
    if g.maskMode == 1 then m.get Reg.BUDGET.SPEC_BASE_BASE + e.request * 512 + 0x140 else 0⟩
  let need := ((m.attn.models.get e.model).map (fun x => queryBlockBytes x d.headCount d.queryCount x.slotBytes)).getD 0
  let inEntry := if e.tree then g.maskMode == 1 && g.basePos == e.basePos && g.queryCount == e.queryCount
    else g.maskMode == 0 && decide (e.basePos ≤ g.basePos) && decide (g.basePos + g.queryCount ≤ e.basePos + e.queryCount)
  let st : Option Status := match m.descFault e.core d 0 with
    | some s => some s
    | none => if g.body.length != need || !inEntry then some .badField else none
  match st with
  | some s => (m.countFused s).leaveStep e.request
  | none =>
    let same (x : Expected) : Bool := x.partition == e.partition && x.request == e.request && x.step == e.step &&
      x.layer == e.layer
    let m1 := { m with attn := { m.attn with expected := m.attn.expected.map (fun x => if same x then
      { x with covered := x.covered ++ [(g.headFirst, g.headCount, g.basePos - e.basePos, g.queryCount)],
               cmds := x.cmds ++ [m.attn.nextCmd] } else x) } }
    if (m1.core e.core).fused.length < 64 then m1.pushFused e.core d .derived (some g.body)
    else
      let id := m1.attn.nextCmd
      let parents := if d.isTree then (m1.hbm.rdN d.treeAddr 64).map (·.toNat) else []
      let f : FCmd := ⟨id, d, .derived, m1.clk.mono, some g.body, parents, 0, false, false, none, [], [], none, 0⟩
      { m1 with attn := { m1.attn with nextCmd := id + 1, waiting := m1.attn.waiting ++ [(e.core, f)] } }

/-- A message and a command that waits for its query belong together (R465). -/
def queryMatches (f : FCmd) (g : ModelMsg) : Bool :=
  let d := f.desc
  f.query.isNone && !d.queryHbm && f.status.isNone && d.capsule == g.capsule && d.request == g.request && d.step == g.step &&
  d.layer == g.layer && d.maskMode == g.maskMode && d.headFirst == g.headFirst && d.headCount == g.headCount &&
  d.queryCount == g.queryCount && d.basePos == g.basePos

/-- A QUERY finds its expected query or the command that waits for it; none when it matches nothing. -/
def Module.matchQuery (g : ModelMsg) (m : Module) : Option Module :=
  match m.attn.expected.find? (fun e => e.capsule == g.capsule && e.request == g.request && e.step == g.step &&
      e.layer == g.layer) with
  | some e => some (m.formDerived e g)
  | none =>
    (m.attn.cores.findSome? (fun (c, k) => (k.fused.find? (fun f => queryMatches f g)).map (fun f => (c, f)))).map (fun (c, f) =>
      let need := ((m.attn.models.get f.desc.model).map (fun x =>
        queryBlockBytes x f.desc.headCount f.desc.queryCount x.slotBytes)).getD 0
      if g.body.length != need then m.endFused c f.id .badField
      else m.gotQuery c f.id g.body)

/-- Frames that waited are matched again after new commands or expected queries stand. -/
def Module.adoptOrphans (m : Module) : Module :=
  m.attn.orphans.foldl (fun (a : Module) o =>
    match a.matchQuery o.2 with
    | some b => { b with attn := { b.attn with orphans := b.attn.orphans.erase o } }
    | none => a) m

end Sys2Proof.Machine
end

