-- ==== Sys2Proof/Machine/Attn.lean ====
section
/-!
DEFINITION. Attention cores: their commands (R126 to R132), layer batches and walks (R112, R121), queries and their
time-outs (R122, R123) and the operations of core programs (R124, R125).
-/

namespace Sys2Proof.Machine

open Sys2Proof

/-! ### Models -/

/-- ATTN_MODEL_REGISTER (R109, R110, R126). -/
def modelRegisterCmd (c : RunCmd) (m : Module) : Module :=
  let b := c.payload
  let id := u16 b 0
  let x : Model := ⟨u8 b 2, u8 b 3, u16 b 4, u8 b 6, u8 b 7, u16 b 8, u16 b 0x0A, u8 b 0x0C, u8 b 0x0D, u64 b 0x10, []⟩
  let win := u64 b 0x18
  m.checked c [(0x0E, 2)]
    [(decide (id < 64), bad 0), (decide (1 ≤ x.layers) && decide (x.layers ≤ 127), bad 2),
     (decide (1 ≤ x.heads) && decide (x.heads ≤ 128), bad 3),
     (decide (32 ≤ x.latentDim) && decide (x.latentDim ≤ 384) && x.latentDim % 32 == 0, bad 4),
     (x.ropeDim == 0 || x.ropeDim == 32 || x.ropeDim == 64, bad 6), (x.latFmt == 1 || x.latFmt == 2, bad 7),
     (decide (32 ≤ x.qkDim) && decide (x.qkDim ≤ 256) && x.qkDim % 32 == 0, bad 8),
     (decide (32 ≤ x.vDim) && decide (x.vDim ≤ 256) && x.vDim % 32 == 0, bad 0x0A), (x.ok, bad 4),
     (x.upFmt == 1 || x.upFmt == 2, bad 0x0C), (m.partOk x.partition, bad 0x0D), (x.upAddr % 4096 == 0, bad 0x10),
     (!m.attn.models.has id, stop .busy), (m.engineMay x.partition 0 x.upAddr x.upTotal, stopFw),
     (win == 0 || m.cmdMay c x.partition win (4 * x.layers) false, stopFw)]
    (fun m =>
      let fin (ws : List Nat) (m : Module) : Module :=
        (({ m with attn := { m.attn with models := m.attn.models.put id { x with windows := ws } } }).measure 4 id 0
          x.partition (m.hbm.rdN x.upAddr x.upTotal)).ok c []
      if win == 0 then fin (List.replicate x.layers 0) m
      else m.withHost c (fun m =>
        let w := m.cmdRead c win (4 * x.layers)
        fin ((List.range x.layers).map (fun i => u32 w (4 * i))) m))

/-- A running program names a model: an operation FUSED of its image points at a descriptor with its MODEL_ID. -/
def Module.runNames (m : Module) (r : CoreRun) (id : Nat) : Bool :=
  (List.range r.ops).any (fun i =>
    let op := r.image + 64 + 32 * i
    m.hbm.num op 1 == 0x20 && m.hbm.num (m.hbm.num (op + 0x10) 8 + 0x10) 2 == id)

/-- A registered model is in use by a queued command, a running program or a request (R123). -/
def Module.modelUsed (m : Module) (id : Nat) : Bool :=
  m.attn.cores.vals.any (fun k => (k.run.map (fun r => m.runNames r id)).getD false) ||
  m.attn.cores.vals.any (fun k => k.fused.any (fun f => f.desc.model == id)) ||
  m.attn.waiting.any (fun w => w.2.desc.model == id) || m.steps.reqs.vals.any (fun r => r.model == id)

/-- ATTN_MODEL_RELEASE (R127). -/
def modelReleaseCmd (c : RunCmd) (m : Module) : Module :=
  let id := u16 c.payload 0
  m.checked c [(2, 6)] [(m.attn.models.has id, bad 0), (!m.modelUsed id, stop .busy)] (fun m =>
    (({ m with attn := { m.attn with models := m.attn.models.del id } }).unmeasure 4 id (fun _ => false)).ok c [])

def execAttnModelRegister (src : Src) (s : State) : Out := run (onCmd 0x0400 src modelRegisterCmd) s
def execAttnModelRelease (src : Src) (s : State) : Out := run (onCmd 0x0401 src modelReleaseCmd) s

/-! ### Submitted batches -/

/-- The core that a schedule entry names for a request, layer and step: the first that names one which serves fused commands
(R107, R128). -/
def Module.scheduledCore (m : Module) (p request layer step : Nat) : Option Nat :=
  let es := (m.slide.entries.filter (fun e => e.partition == p)) ++
    (m.slide.supplied.filter (fun (q, n, _) => q == p && n == step)).flatMap (fun (_, _, l) => l)
  (es.find? (fun e => e.request == request && e.layer == layer && e.step == step && decide (e.core < 64) &&
    m.servesFused e.core)).map (·.core)

/-- The least occupied core of a partition, the lowest of several. -/
def Module.leastCore (m : Module) (p : Nat) : Option Nat :=
  ((List.range 64).filter (fun c => m.corePart c == some p && m.servesFused c)).foldl (fun (best : Option Nat) c =>
    match best with
    | none => some c
    | some b => if (m.core c).fused.length < (m.core b).fused.length then some c else some b) none

/-- A descriptor of a batch is queued on its core, or ends at once with its status. -/
def Module.submitOne (run p i : Nat) (b : Bytes) (m : Module) : Module :=
  let d := Desc.parse b
  match (match m.scheduledCore p d.request d.layer d.step with
    | some c => some c
    | none => m.leastCore p) with
  | none => (m.countFused .denied).submitDone run i .denied
  | some c =>
    match m.descFault c d (u32 b 0x24) with
    | some st => (m.countFused st).submitDone run i st
    | none =>
      if m.mute p && (d.queryHbm || d.outHbm) then
        ((m.bump Reg.SEC.CONTENT_DENIALS_COUNT).countFused .denied).submitDone run i .denied
      else if 64 ≤ (m.core c).fused.length then (m.countFused .busy).submitDone run i .busy
      else m.pushFused c d (.submit run i) none

/-- ATTN_SUBMIT (R128). -/
def submitCmd (c : RunCmd) (m : Module) : Module :=
  let addr := u64 c.payload 0
  let n := u32 c.payload 8
  let p := u8 c.payload 0x0C
  let sts := u64 c.payload 0x10
  m.checked c [(0x0D, 3)]
    [(addr % 64 == 0, bad 0), (decide (1 ≤ n) && decide (n ≤ 4096), bad 8), (m.partOk p, bad 0x0C),
     (decide (m.coreCount p ≤ 8), stop .denied),
     (m.cmdMay c p addr (64 * n) false && m.cmdMay c p sts (2 * n) true, stopFw)]
    (fun m => m.withHost c (fun m =>
      let descs := m.cmdRead c addr (64 * n)
      let m1 := (({ m with attn := { m.attn with submits := m.attn.submits.put c.id ⟨sts, n, []⟩ } }).await c [])
      ((List.range n).foldl (fun (a : Module) i => a.submitOne c.id p i (slice descs (64 * i) 64)) m1).adoptOrphans))

def execAttnSubmit (src : Src) (s : State) : Out := run (onCmd 0x0410 src submitCmd) s

/-! ### Core programs: commands -/

/-- The SRAM that a program may use on core c (R106, R107). -/
def Module.sramSpace (m : Module) (c : Nat) : Nat := if (m.core c).mode == 3 then 6291456 else 1048576

/-- An operation decodes to a reserved value (R124, R134). -/
def opReserved (b : Bytes) : Bool :=
  let op := u8 b 0
  let known := op == 1 || op == 2 || op == 3 || op == 0x10 || op == 0x11 || op == 0x20 || op == 0x30 || op == 0x31 ||
    op == 0x40 || op == 0xFF
  !known || (op == 0x10 && !matmulFmt (u8 b 1)) || (op == 0x11 && (!vecopFmt (u8 b 1) || decide (0x0A < u16 b 2))) ||
  (op != 0x11 && u16 b 2 != 0)

/-- ATTN_PROGRAM_LOAD (R124, R129). -/
def programLoadCmd (c : RunCmd) (m : Module) : Module :=
  let addr := u64 c.payload 0
  let len := u32 c.payload 8
  let n := m.hbm.num addr 4
  let need := m.hbm.num (addr + 4) 4
  let entry := m.hbm.num (addr + 8) 4
  m.checked c []
    [(addr % 4096 == 0 && decide (addr + len ≤ hbmSize), bad 0), (decide (64 ≤ len) && decide (64 + 32 * n ≤ len), bad 8),
     (allZero (m.hbm.rdN (addr + 12) 52) 0 52 && decide (entry < n), bad 0),
     ((List.range n).all (fun i => !opReserved (m.hbm.rdN (addr + 64 + 32 * i) 32)), bad 0)]
    (fun m =>
      match m.attn.programs.lowestFree 0 1024 with
      | none => m.fail c .noSpace
      | some h =>
        (({ m with attn := { m.attn with programs := m.attn.programs.put h ⟨addr, len, n, need, entry⟩ } }).measure 9 h 0
          0xFF (m.hbm.rdN addr len)).ok c (leBytes 2 h))

/-- ATTN_PROGRAM_START (R130); a CORE_MASK of 0 completes with BAD_FIELD (assumption 200). -/
def programStartCmd (c : RunCmd) (m : Module) : Module :=
  let b := c.payload
  let mask := u64 b 0
  let h := u16 b 8
  let done := u32 b 0x0C
  let base := u64 b 0x10
  let size := u64 b 0x18
  let cores := setBitsOf 64 mask
  let part := (cores.head?).bind m.corePart
  let prog := m.attn.programs.get h
  let obj := m.ligFind done
  m.checked c [(0x0A, 2)]
    [(mask != 0, bad 0), (prog.isSome, bad 8), ((obj.map (fun o => o.2.kind == 3)).getD false, bad 0x0C),
     (base % 4096 == 0, bad 0x10), (size % 4096 == 0, bad 0x18),
     (part.isSome && cores.all (fun k => m.corePart k == part), stop .denied),
     (cores.all (fun k => ((m.core k).mode == 3 || (m.core k).mode == 2) && (m.core k).nextMode.isNone), stop .denied),
     ((obj.map (·.2.partition)) == part, bad 0x0C), (m.engineMay (part.getD 8) 0 base size, stopFw),
     (cores.all (fun k => decide ((m.core k).progQueue.length < 16)), stop .busy),
     (cores.all (fun k => decide (((prog.map (·.sram)).getD 0) ≤ m.sramSpace k)), stop .noSpace)]
    (fun m =>
      let id := m.attn.nextLaunch
      let m1 := { m with attn := { m.attn with nextLaunch := id + 1, launches := m.attn.launches.put id ⟨cores.length, done⟩ } }
      (cores.foldl (fun (a : Module) k =>
        (a.updCore k (fun x => { x with progQueue := x.progQueue ++ [⟨id, h, base, size⟩] })).startNext k) m1).ok c [])

/-- A program is told to stop: at its next operation boundary, which is now but in the middle of a FUSED or a WAIT (R131). -/
def Module.tellStop (k : Nat) (m : Module) : Module :=
  (m.updCore k (fun x => { x with run := x.run.map (fun r => if r.stop.isSome then r else { r with stop := some 8 }) })).stopDue k

/-- ATTN_PROGRAM_STOP (R131); a CORE_MASK of 0 completes with BAD_FIELD (assumption 200). -/
def programStopCmd (c : RunCmd) (m : Module) : Module :=
  let mask := u64 c.payload 0
  m.checked c [] [(mask != 0, bad 0)] (fun m =>
    ((setBitsOf 64 mask).foldl (fun (a : Module) k => a.tellStop k) m).ok c [])

/-- Core c takes a mode. -/
def Module.setMode (c mode : Nat) (m : Module) : Module :=
  (m.updCore c (fun k => { k with mode := mode, nextMode := none })).set (Reg.ATTN.CORE_STATE_MODE.at 8 c) mode

/-- Core c has no queued work. -/
def Module.drained (m : Module) (c : Nat) : Bool :=
  let k := m.core c
  k.fused.isEmpty && k.progQueue.isEmpty && k.run.isNone

/-- ATTN_CORE_ASSIGN commands whose cores have all changed mode complete (R123, R132). -/
def Module.finishAssigns (m : Module) : Module :=
  (m.waitingCmds 0x0430 (fun c => (setBitsOf 64 (c.data.headD 0)).all (fun k => (m.core k).nextMode.isNone))).foldl
    (fun (a : Module) c => a.ok c []) m

/-- ATTN_CORE_ASSIGN (R132). -/
def coreAssignCmd (c : RunCmd) (m : Module) : Module :=
  let mask := u64 c.payload 0
  let mode := u8 c.payload 8
  let cores := setBitsOf 64 mask
  m.checked c [(9, 7)]
    [(mask != 0 && cores.all (fun k => (m.corePart k).isSome), bad 0), (decide (mode ≤ 3), bad 8),
     (cores.all (fun k => m.corePart k == (cores.head?).bind m.corePart), stop .denied)]
    (fun m =>
      let m1 := cores.foldl (fun (a : Module) k =>
        if a.drained k then a.setMode k mode else a.updCore k (fun x => { x with nextMode := some mode })) m
      (m1.await c [mask]).finishAssigns)

/-- CORE_MODE_DRAINED (R123). -/
def coreModeDrained (c : Nat) (m : Module) : Module :=
  match (m.core c).nextMode with
  | some mode => if m.drained c then (m.setMode c mode).finishAssigns else m
  | none => m

def execAttnProgramLoad (src : Src) (s : State) : Out := run (onCmd 0x0420 src programLoadCmd) s
def execAttnProgramStart (src : Src) (s : State) : Out := run (onCmd 0x0421 src programStartCmd) s
def execAttnProgramStop (src : Src) (s : State) : Out := run (onCmd 0x0422 src programStopCmd) s
def execAttnCoreAssign (src : Src) (s : State) : Out := run (onCmd 0x0430 src coreAssignCmd) s
def execCoreModeDrained (core : Nat) (s : State) : Out := runIf (core < 64) (coreModeDrained core) s

/-! ### Queries -/

/-- A frame that matches nothing is discarded (R123). -/
def Module.orphan (m : Module) : Module := (m.bump Reg.ATTN.ORPHAN_QUERIES_COUNT).set Reg.ATTN.STATUS_ORPHAN 1

/-- QUERY: a message on the queue pair of a dense pool (R122, R465). -/
def queryMsg (e : Nat) (g : ModelMsg) (m : Module) : Module :=
  match m.bell.qps.get e with
  | none => m
  | some q =>
    if q.error then m
    else if g.kind != 1 || g.bytes != g.body.length || 262144 < 48 + g.body.length || g.check != modelCrc g then m.orphan
    else
      match m.matchQuery g with
      | some m1 => m1
      | none => { m with attn := { m.attn with orphans := m.attn.orphans ++ [(m.clk.mono + m.get Reg.ATTN.QUERY_CTRL_WAIT_NS, g)] } }

def execQuery (endpoint : Nat) (g : ModelMsg) (s : State) : Out := run (queryMsg endpoint g) s

/-- The earliest of the frames that wait to match. -/
def firstOrphan (m : Module) : Option (Nat × ModelMsg) :=
  m.attn.orphans.foldl (fun (best : Option (Nat × ModelMsg)) o =>
    match best with
    | none => some o
    | some b => if o.1 < b.1 then some o else some b) none

/-- ORPHAN_QUERY_EXPIRY (R123). -/
def orphanExpiry (m : Module) : Module :=
  match firstOrphan m with
  | some o => if o.1 ≤ m.clk.mono then
      ({ m with attn := { m.attn with orphans := m.attn.orphans.erase o } }).orphan else m
  | none => m

def execOrphanQueryExpiry (s : State) : Out := runAt (fun m => ((firstOrphan m).map (·.1)).getD 0) orphanExpiry s

/-- Every command of a group that carries an earlier token range has written its new slots: none of them waits for its query,
every row of the earlier tokens has come, and their slots are there (R115). -/
def Module.stagedReady (m : Module) (d : Desc) : Bool :=
  let base := ((m.feedGroup d.partition d.step d.request).map (·.1)).getD d.basePos
  let n := d.basePos - base
  let mine (x : NewSlot) : Bool := x.partition == d.partition && x.step == d.step && x.request == d.request && x.layer == d.layer
  let waits (f : FCmd) : Bool := f.desc.inGroup d.request d.layer d.step && f.desc.partition == d.partition &&
    decide (f.desc.basePos < d.basePos) && f.query.isNone
  let heads := ((m.attn.models.get d.model).map (·.heads)).getD 0
  (List.range n).all (fun i => m.attn.store.any (fun x => mine x && x.index == i)) &&
  !m.attn.cores.vals.any (fun k => k.fused.any waits) &&
  m.attn.expected.all (fun e => !(e.partition == d.partition && e.request == d.request && e.step == d.step &&
    e.layer == d.layer) || !({ e with queryCount := Min.min n e.queryCount } : Expected).rowsLeft heads)

/-- A command has blocks of earlier new slots left. -/
def FCmd.hasStaged (f : FCmd) : Bool := f.left.any (fun b => match b with
  | .staged _ => true
  | _ => false)

/-- What a query time-out can end. -/
inductive Late where
  | command (core id : Nat)
  | expected (e : Expected)
  deriving DecidableEq, Repr

/-- The commands and expected queries that wait, each with the elapsed time at which its wait ends (R123). -/
def Module.lates (m : Module) : List (Nat × Late) :=
  let w := m.get Reg.ATTN.QUERY_CTRL_WAIT_NS
  (m.attn.cores.flatMap (fun (c, k) => k.fused.filterMap (fun f =>
    let noQuery := f.query.isNone && !f.desc.queryHbm
    let noSlots := f.hasStaged && !m.stagedReady f.desc
    if f.status.isNone && (noQuery || noSlots) then
      some ((if noQuery then f.queued else f.since) + w, Late.command c f.id) else none))) ++
  (m.attn.expected.filter (fun (e : Expected) => e.rowsLeft (((m.attn.models.get e.model).map (·.heads)).getD 0))).map (fun e =>
    (m.dueAt (e.deadline + w), Late.expected e))

/-- The earliest of them. -/
def firstLate (m : Module) : Option (Nat × Late) :=
  m.lates.foldl (fun (best : Option (Nat × Late)) o =>
    match best with
    | none => some o
    | some b => if o.1 < b.1 then some o else some b) none

/-- QUERY_TIMEOUT (R123). -/
def queryTimeout (m : Module) : Module :=
  match firstLate m with
  | some (t, x) =>
    if m.clk.mono < t then m
    else
      let m1 := match x with
        | .command c id => m.endFused c id .timeout
        | .expected e => (m.bump Reg.ATTN.QUERY_TIMEOUTS_COUNT).leaveStep e.request
      (m1.set Reg.ATTN.STATUS_QUERY_TIMEOUT 1).blockEvent 4
  | none => m

def execQueryTimeout (s : State) : Out := runAt (fun m => ((firstLate m).map (·.1)).getD 0) queryTimeout s

/-! ### Layer batches and walks -/

/-- The rows of a command after absorption (R111, R112, R147). -/
def absorbRows (m : Module) (x : Model) (f : FCmd) : List RowState :=
  let q := f.query.getD []
  let w := x.qkDim + x.ropeDim
  (List.range f.desc.queryCount).flatMap (fun t => (List.range f.desc.headCount).map (fun h =>
    let off := (t * f.desc.headCount + h) * w * 2
    let (qa, badRow) := absorbRow x m.hbm f.desc.layer (f.desc.headFirst + h) (bf16Row q off x.qkDim)
      (bf16Row q (off + 2 * x.qkDim) x.ropeDim)
    ⟨t, f.desc.headFirst + h, qa.els, badRow, none, .fin false 0 0, List.replicate x.latentDim (.fin false 0 0), qa.scales⟩))

/-- The tiles that a command walks, in walk order, and how many its layer has (R118, R119). -/
def Module.tilesOf (m : Module) (f : FCmd) : List (Nat × Nat) × Nat :=
  let c := m.slot (f.desc.capsule / 256)
  let r := walkTiles f.desc ((treeDepths f.parents f.desc.queryCount).getD []) c.tokens c.pages
  (r.1, r.1.length + r.2)

/-- The earlier new slots that a command attends to, by position and step ordinal (R115). -/
def Module.earlierOf (m : Module) (f : FCmd) : List (Nat × Nat) :=
  if f.desc.isTree then []
  else
    match m.feedGroup f.desc.partition f.desc.step f.desc.request with
    | some (base, ord, _) => (List.range (f.desc.basePos - base)).map (fun i => (base + i, ord + i))
    | none => []

/-- The commands of a batch that walk together: those of one group, while their rows are at most 1,536 (R119). The rows of a
batch are no more, so every group of it is one walk. -/
def Module.groupsOf (m : Module) (core : Nat) (b : Batch) : List (List FCmd) :=
  let cmds := (m.core core).fused.filter (fun f => b.cmds.contains f.id)
  let same (f g : FCmd) : Bool := g.desc.inGroup f.desc.request f.desc.layer f.desc.step
  (cmds.filter (fun f => (cmds.find? (same f)).map (·.id) == some f.id)).map (fun f => cmds.filter (same f))

/-- A walk is formed of the commands of a group (R119, R120): the tiles that any of them does not skip, four a block, then each
command's blocks of earlier and of own new slots. Its waves are counted at its start, over the most blocks of new slots that one
of its commands has (assumption 193). A walk after another of the same group reads its tiles again. -/
def Module.formWalk (core : Nat) (x : Model) (group : List FCmd) (m : Module) : Module :=
  match group with
  | [] => m
  | f :: _ =>
    let lists := group.map m.tilesOf
    let most := lists.foldl (fun a l => Max.max a l.2) 0
    let wanted := lists.flatMap (·.1)
    let pages := ceilDiv most 8
    let tiles := ((List.range pages).flatMap (fun p => (List.range 8).map (fun t => (p, t)))).filter wanted.contains
    let blocks := group.map (fun g => (g.id, keyBlocks tiles (m.earlierOf g) g.desc.queryCount))
    let rows := group.foldl (fun a g => a + g.desc.rows) 0
    let b := blocks.foldl (fun a x => Max.max a x.2.length) 0
    let key := (f.desc.request, f.desc.layer, f.desc.step)
    let again := (m.core core).walked.contains key
    let m1 := blocks.foldl (fun (a : Module) (id, ks) => a.updFused core id (fun g => { g with
      rows := absorbRows m x g, left := ks, absorbed := true, walkId := some f.id, since := m.clk.mono })) m
    let m2 := ((m1.bumpBy Reg.ATTN.ARRAY_WAVES_COUNT (walkWaves rows b x.dk x.latentDim)).bumpBy
      Reg.ATTN.TILES_SKIPPED_COUNT (most - tiles.length)).bumpBy Reg.ATTN.TILES_REREAD_COUNT (if again then tiles.length else 0)
    m2.updCore core (fun k => { k with walked := if again then k.walked else k.walked ++ [key] })

/-- The waves of an up-projection stream of a batch (assumption 194). -/
def Model.streamWaves (x : Model) (rows inner outer : Nat) : Nat := Config.streamWaves rows inner outer x.upBytes

/-- A privileged stall holds a layer of a step: no core starts work on it (R89). -/
def Module.layerStalled (m : Module) (p step layer : Nat) : Bool :=
  m.slide.stalls.any (fun t => m.slide.entries.any (fun e => e.id == t.entry && e.partition == p && e.step == step &&
    e.layer == layer))

/-- A batch may start: its rows fit beside those of the batches that walk (R106), and no stall holds a layer of its commands. -/
def Module.mayStart (m : Module) (core : Nat) (b : Batch) : Bool :=
  let k := m.core core
  decide ((k.batches.filter (·.walking)).foldl (fun a y => a + k.rowsOf y) (k.rowsOf b) ≤ 1536) &&
  !(k.fused.filter (fun f => b.cmds.contains f.id)).any (fun f => m.layerStalled f.desc.partition f.desc.step f.desc.layer)

/-- W_UK of a layer is read for a batch, unless another core has read it within WAIT_NS (R112). -/
def Module.readUp (core : Nat) (b : Batch) (x : Model) (m : Module) : Module :=
  let reads := m.attn.upReads.filter (fun (_, _, _, t) => decide (m.clk.mono ≤ t + m.get Reg.ATTN.BATCH_CTRL_WAIT_NS))
  if reads.any (fun (c, mo, l, _) => c != core && mo == b.model && l == b.layer) then
    { m with attn := { m.attn with upReads := reads } }
  else
    ({ m with attn := { m.attn with upReads := reads ++ [(core, b.model, b.layer, m.clk.mono)] } }).bumpBy
      Reg.ATTN.UPPROJ_BYTES_COUNT (x.heads * x.qkDim * x.latentDim * x.upBytes)

/-- A batch starts: W_UK is streamed, the queries are absorbed and the walks of its groups are formed (R112, R119,
R120); their waves are counted whole here (assumption 193). -/
def Module.startBatch (core : Nat) (b : Batch) (m : Module) : Module :=
  match m.attn.models.get b.model with
  | none => m
  | some x =>
    let m1 := (m.readUp core b x).bumpBy Reg.ATTN.ARRAY_WAVES_COUNT (x.streamWaves ((m.core core).rowsOf b) x.qkDim x.latentDim)
    let m2 := m1.updCore core (fun k => { k with batches := k.batches.map (fun y => if y.cmds == b.cmds then
      { y with walking := true } else y) })
    ((m2.groupsOf core b).foldl (fun (a : Module) g => a.formWalk core x g) m2).updCore core Core.keepWalks

/-- The open batch of a core that was opened first. -/
def openBatch (core : Nat) (m : Module) : Option Batch :=
  ((m.core core).batches.filter (fun b => !b.walking)).head?

/-- BATCH_WAIT_EXPIRY (R112). A batch that may not start yet stays open. -/
def batchExpiry (core : Nat) (m : Module) : Module :=
  match openBatch core m with
  | some b => if m.mayStart core b then m.startBatch core b else m
  | none => m

def execBatchWaitExpiry (core : Nat) (s : State) : Out :=
  if core < 64 then
    runAt (fun m => ((openBatch core m).map (fun b => b.opened + m.get Reg.ATTN.BATCH_CTRL_WAIT_NS)).getD 0)
      (batchExpiry core) s
  else .refused .illFormed

/-- A tile that a walk needs has landed, or is read on demand because no prefetch entry covers it (R86, R121). -/
def Module.tileReady (m : Module) (core : Nat) (d : Desc) (page tile : Nat) : Bool :=
  let landed := (m.core core).landing.any (fun l => l.capsule == d.capsule && l.request == d.request && l.step == d.step &&
    l.layer == d.layer && l.page == page && l.tile == tile)
  let coming := m.slide.entries.any (fun e => e.partition == d.partition && e.request == d.request && e.step == d.step &&
    e.layer == d.layer && !e.arrived && e.left.contains (8 * page + tile))
  landed || !coming

/-- A block of a command may run: its tiles have landed, or the earlier new slots it reads have been written, and no privileged
stall holds its layer (R89, R115, R121). -/
def Module.blockReady (m : Module) (core : Nat) (f : FCmd) (b : KeyBlock) : Bool :=
  !m.layerStalled f.desc.partition f.desc.step f.desc.layer &&
  match b with
  | .tiles ts => ts.all (fun (p, t) => m.tileReady core f.desc p t)
  | .staged _ => m.stagedReady f.desc
  | .own _ _ => true

/-- The blocks of a command that may run. -/
def Module.readyBlocks (m : Module) (core : Nat) (f : FCmd) : List KeyBlock := f.left.filter (fun b => m.blockReady core f b)

/-- The slots of a tile: from the landing buffer, or from the frame, whose check values are tested. none when a check value
fails. -/
def Module.tileSlots (m : Module) (core : Nat) (d : Desc) (page tile : Nat) : Option (KMap Slot) :=
  match (m.core core).landing.find? (fun l => l.capsule == d.capsule && l.request == d.request && l.step == d.step &&
      l.layer == d.layer && l.page == page && l.tile == tile) with
  | some l => some l.slots
  | none =>
    match m.frame ((m.slot (d.capsule / 256)).handle d.layer page) with
    | none => none
    | some f => if f.bad.any (fun b => b / 4 == tile) then none else some (f.slots.keep (fun i _ => i / 32 == tile))

/-- The keys of a block that a row attends to, in order (R116). -/
def Module.rowKeys (m : Module) (x : Model) (core : Nat) (f : FCmd) (depths : List Nat) (b : KeyBlock) (r : RowState) :
    List Scaled :=
  let q := qpos f.desc depths r.tok
  let q' := f.query.getD []
  let at_ := q'.length - f.desc.queryCount * x.slotBytes
  match b with
  | .tiles ts => ts.flatMap (fun (p, t) => (((m.tileSlots core f.desc p t).getD []).vals.filter
      (slotAttends f.desc.window q)).map (fun s => latentRow x s.bytes))
  | .own first n => ((List.range n).filter (fun j => ownAttends f.desc f.parents depths r.tok (first + j))).map (fun j =>
      latentRow x (slice q' (at_ + (first + j) * x.slotBytes) x.slotBytes))
  | .staged keys =>
    let base := ((m.feedGroup f.desc.partition f.desc.step f.desc.request).map (·.1)).getD 0
    (keys.filter (fun (pos, _) => inWindow f.desc.window q pos)).map (fun (pos, _) =>
      latentRow x (((m.attn.store.find? (fun y => y.partition == f.desc.partition && y.step == f.desc.step &&
        y.request == f.desc.request && y.layer == f.desc.layer && y.index == pos - base)).map (·.bytes)).getD []))

/-- One block of a walk over a command's rows (R147). -/
def Module.walkBlock (core : Nat) (b : KeyBlock) (f : FCmd) (m : Module) : Module :=
  match m.attn.models.get f.desc.model with
  | some x =>
    let depths := (treeDepths f.parents f.desc.queryCount).getD []
    let c := scoreFactor (fp32.decode f.desc.scale)
    let rows := f.rows.map (fun r => blockRow x.latentDim c (m.rowKeys x core f depths b r) r)
    m.updFused core f.id (fun g => { g with rows := rows, left := g.left.erase b })
  | none => m

/-- The output of a command leaves: to HBM, or as an OUTPUT message to the pool (R112, R114, R465). -/
def Module.sendOutput (f : FCmd) (m : Module) : Module :=
  match m.attn.models.get f.desc.model with
  | none => m
  | some x =>
    let out := f.rows.flatMap (outputRow x m.hbm f.desc.layer f.desc.outFmt)
    if f.desc.outHbm then { m with hbm := m.hbm.wrN f.desc.outAddr out }
    else
      match (m.pstep f.desc.partition).pool with
      | none => m
      | some p =>
        let g : ModelMsg := ⟨f.desc.capsule, f.desc.request, f.desc.step, 2, f.desc.maskMode, f.desc.layer, f.desc.headFirst,
          f.desc.headCount, f.desc.queryCount, f.desc.basePos, f.desc.scale, out.length, 0, out⟩
        m.toPool f.desc.partition p.endpoint (.send p.endpoint { g with check := modelCrc g })

/-- A batch whose walks have all ended: W_UV is streamed and the outputs leave together (R112). -/
def Module.finishBatch (core : Nat) (b : Batch) (m : Module) : Module :=
  let k := m.core core
  let cmds := k.fused.filter (fun f => b.cmds.contains f.id)
  if !b.walking || cmds.any (fun f => !f.left.isEmpty) then m
  else
    let m1 := match m.attn.models.get b.model with
      | some x => (m.bumpBy Reg.ATTN.UPPROJ_BYTES_COUNT (x.heads * x.latentDim * x.vDim * x.upBytes)).bumpBy
          Reg.ATTN.ARRAY_WAVES_COUNT (x.streamWaves (k.rowsOf b) x.latentDim x.vDim)
      | none => m
    cmds.foldl (fun (a : Module) f =>
      let last := !((a.core core).fused.any (fun g => g.id != f.id && g.desc.request == f.desc.request &&
        g.desc.layer == f.desc.layer && g.desc.step == f.desc.step))
      let mine (l : Landed) : Bool := l.request == f.desc.request && l.step == f.desc.step && l.layer == f.desc.layer
      let a1 := if last then
          (a.updCore core (fun k => { k with landing := k.landing.filter (fun l => !mine l) })).bumpBy
            Reg.ATTN.TILES_DISCARDED_COUNT ((a.core core).landing.filter mine).length
        else a
      (a1.sendOutput f).endFused core f.id .ok) m1

/-- A tile of a walk fails its check value: the commands of the walk end, and the capsule and its request follow R62. -/
def Module.walkDamaged (core : Nat) (f : FCmd) (page tile : Nat) (m : Module) : Module :=
  let h := (m.slot (f.desc.capsule / 256)).handle f.desc.layer page
  let blk := ((m.frame h).bind (fun fr => fr.bad.find? (fun b => b / 4 == tile))).getD (4 * tile)
  let group := ((m.core core).fused.filter (fun g => g.walkId == f.walkId)).map (·.id)
  let m1 := group.foldl (fun (a : Module) id => a.endFused core id .damaged) (m.damage f.desc.capsule h blk)
  if (m1.request f.desc.request f.desc.capsule).isSome then m1.endError f.desc.request 13 else m1

/-- A program in SHARED mode has the core until its slice ends, when it neither waits nor is suspended (R107). -/
def Module.inSlice (m : Module) (c : Nat) : Bool :=
  match (m.core c).run with
  | some r => (m.core c).mode == 2 && !r.waiting && !r.suspended &&
      decide (m.clk.mono < r.sliceStart + m.get Reg.ATTN.PROG_CTRL_SLICE_NS)
  | none => false

/-- The tiles of a block. -/
def KeyBlock.tileList : KeyBlock → List (Nat × Nat)
  | .tiles ts => ts
  | _ => []

/-- A block runs on every command of its walk that has it left (R119, R121). -/
def Module.groupBlock (core : Nat) (b : KeyBlock) (f : FCmd) (m : Module) : Module :=
  ((m.core core).fused.filter (fun g => g.walkId == f.walkId && g.left.contains b && m.blockReady core g b)).foldl
    (fun (a : Module) g => a.walkBlock core b g) m

/-- The tiles of a block have been used: their landing buffers are free, they are counted and their frames are read. -/
def Module.useTiles (core : Nat) (d : Desc) (tiles : List (Nat × Nat)) (m : Module) : Module :=
  let used (l : Landed) : Bool := l.request == d.request && l.step == d.step && l.layer == d.layer &&
    tiles.contains (l.page, l.tile)
  tiles.foldl (fun (a : Module) (p, _) => a.touch ((a.slot (d.capsule / 256)).handle d.layer p))
    ((m.updCore core (fun k => { k with landing := k.landing.filter (fun l => !used l) })).bumpBy
      Reg.ATTN.TILES_USED_COUNT tiles.length)

/-- Batches whose walks have ended send their outputs. -/
def Module.sendDone (core : Nat) (m : Module) : Module :=
  (((m.core core).batches.foldl (fun (a : Module) b => a.finishBatch core b) m).updCore core Core.keepWalks).newSlice core

/-- The active walk nearest the head of the queue that has a block which may run. -/
def Module.nextWalk (core : Nat) (m : Module) : Option FCmd :=
  let active := (m.core core).active
  (m.core core).fused.find? (fun f => f.absorbed && ((f.walkId.map active.contains).getD false) &&
    !(m.readyBlocks core f).isEmpty)

/-- BLOCK_BOUNDARY: cancelled commands stop; the active walk nearest the head of the queue runs a block that has landed; batches
whose walks have ended send their outputs (R121, R123). The order in which the blocks of a walk reduce varies from run to run, so
which of those that may run comes next is a free choice (assumption 192). -/
def blockBoundary (core : Nat) (m : Module) : Module :=
  let stopped := ((m.core core).fused.filterMap (fun f => f.status.map (fun st => (f.id, st))))
  let m0 := stopped.foldl (fun (a : Module) (id, st) => a.endFused core id st) m
  if m0.inSlice core then m0
  else
    match m0.nextWalk core with
    | none => m0.sendDone core
    | some f =>
      let ready := m0.readyBlocks core f
      let r := m0.choose ready.length
      let b := nthD ready r.1 (.tiles [])
      match b.tileList.find? (fun (p, t) => (r.2.tileSlots core f.desc p t).isNone) with
      | some (p, t) => r.2.walkDamaged core f p t
      | none => ((r.2.groupBlock core b f).useTiles core f.desc b.tileList).sendDone core

def execBlockBoundary (core : Nat) (s : State) : Out := runIf (core < 64) (blockBoundary core) s

/-- PROGRAM_SLICE_EXPIRY: from here on the program yields while a fused command waits (R107). -/
def execProgramSliceExpiry (core : Nat) (s : State) : Out :=
  if core < 64 then
    runAt (fun m => match (m.core core).run with
        | some r => if (m.core core).mode == 2 then r.sliceStart + m.get Reg.ATTN.PROG_CTRL_SLICE_NS else 0
        | none => 0)
      (fun m => if (m.core core).mode == 2 && !m.inSlice core then m.newSlice core else m) s
  else .refused .illFormed

/-! ### Core programs: operations (R124, R125) -/

/-- A program in SHARED mode yields: its slice is over and a fused command is on the core. -/
def Module.yields (m : Module) (c : Nat) (r : CoreRun) : Bool :=
  (m.core c).mode == 2 && !(m.core c).fused.isEmpty && decide (r.sliceStart + m.get Reg.ATTN.PROG_CTRL_SLICE_NS ≤ m.clk.mono)

/-- The next operation of core c's program has this opcode: it runs. A reserved value stops the program with fault
0x01. -/
def coreOp (opcode : Nat) (f : CoreRun → Bytes → Module → Module) (c : Nat) (m : Module) : Module :=
  match (m.core c).run with
  | none => m
  | some r =>
    if r.waiting then m
    else if r.stop.isSome then m.stopDue c
    else if r.suspended || m.yields c r then m
    else
      let b := m.hbm.rdN (r.image + 64 + 32 * r.op) 32
      if r.ops ≤ r.op || opReserved b then m.progFault c 1
      else if u8 b 0 != opcode then m
      else f r b m

/-- Core c goes past its operation. -/
def Module.nextOp (c : Nat) (m : Module) : Module :=
  m.updCore c (fun k => { k with run := k.run.map (fun r => r.nextOp) })

/-- HBM that a program reaches: its region and its image (R125). -/
def CoreRun.reaches (r : CoreRun) (a n : Nat) : Bool :=
  (decide (r.regionBase ≤ a) && decide (a + n ≤ r.regionBase + r.regionSize)) ||
  (decide (r.image ≤ a) && decide (a + n ≤ r.image + 64 + 32 * r.ops))

/-- Core c's SRAM changed. -/
def Module.wrSram (c off : Nat) (b : Bytes) (m : Module) : Module :=
  m.updCore c (fun k => { k with sram := k.sram.wrN off b })

/-- LOAD. -/
def opLoad (c : Nat) : Module → Module :=
  coreOp 0x01 (fun r b m =>
    let n := u32 b 4
    let src := u64 b 0x10
    let dst := u64 b 0x18
    if m.sramSpace c < dst + n then m.progFault c 2
    else if !r.reaches src n then m.progFault c 3
    else (m.wrSram c dst (m.hbm.rdN src n)).nextOp c) c

/-- STORE. -/
def opStore (c : Nat) : Module → Module :=
  coreOp 0x02 (fun r b m =>
    let n := u32 b 4
    let dst := u64 b 0x10
    let src := u64 b 0x18
    if m.sramSpace c < src + n then m.progFault c 2
    else if !r.reaches dst n then m.progFault c 3
    else ({ m with hbm := m.hbm.wrN dst ((m.core c).sram.rdN src n) }).nextOp c) c

/-- CAPREAD, checked under R51. A range that is no part of the capsule stops the program with fault 0x04 (assumption 201). -/
def opCapread (c : Nat) : Module → Module :=
  coreOp 0x03 (fun r b m =>
    let n := u32 b 4
    let id := u32 b 8
    let off := u64 b 0x10
    let dst := u64 b 0x18
    if m.sramSpace c < dst + n then m.progFault c 2
    else
      match m.capsule id with
      | none => m.progFault c 4
      | some k =>
        if k.partition != r.partition then m.progFault c 4
        else
          match k.range off n with
          | none => m.progFault c 4
          | some (.header o) =>
            if k.headerBad then (m.loadHeader id).progFault c 4
            else (m.wrSram c dst (slice (k.bytes (id / 256)) o n)).nextOp c
          | some (.map o) => (m.wrSram c dst (k.mapBytes o n)).nextOp c
          | some (.frame l p o) =>
            match m.frame (k.handle l p) with
            | none => (m.wrSram c dst (zeros n)).nextOp c
            | some f =>
              match f.badIn o n with
              | some bl => ((m.damage id (k.handle l p) bl).progFault c 4)
              | none => ((m.touch (k.handle l p)).wrSram c dst (f.read o n)).nextOp c) c

/-- The INT8 elements of a row. -/
def intRow (b : Bytes) (n : Nat) : List Int := (List.range n).map (fun i => sext 8 (u8 b i))

/-- An INT8 dot product added to an accumulator, saturating at each product (R142). -/
def dotInt (acc : Int) (a b : List Int) : Int := (a.zip b).foldl (fun s p => satI32 (s + p.1 * p.2)) acc

/-- MATMUL, whose waves are a free value (assumption 194): acc at sram b += A (n0 × n2) × B (n2 × n1); a block-scaled B lies as n1 rows of n2, another as n2 rows of n1
(R142, assumption 41). -/
def opMatmul (c : Nat) : Module → Module :=
  coreOp 0x10 (fun _ b m =>
    let f := u8 b 1
    let n0 := u32 b 4
    let n1 := u32 b 8
    let n2 := u32 b 0x0C
    let pa := u32 b 0x10
    let pb := u32 b 0x14
    let dst := u64 b 0x18
    let mx := ((elemFmt f).map (·.2)).getD false
    let ra := rowBytes f n2
    let rb := if mx then rowBytes f n2 else rowBytes f n1
    let lenB := if mx then n1 * rb else n2 * rb
    if m.sramSpace c < pa + n0 * ra || m.sramSpace c < pb + lenB || m.sramSpace c < dst + 4 * n0 * n1 then m.progFault c 2
    else
      let s := (m.core c).sram
      let out := (List.range n0).flatMap (fun i =>
        let rowA := s.rdN (pa + i * ra) ra
        (List.range n1).flatMap (fun j =>
          let old := s.num (dst + 4 * (i * n1 + j)) 4
          if f == 0x0B then
            let col := (List.range n2).map (fun k => sext 8 (s.num (pb + k * rb + j) 1))
            leBytes 4 (trunc 32 (dotInt (sext 32 old) (intRow rowA n2) col))
          else if mx then
            let (ea, sa) := rowParts f n2 rowA
            let (eb, sb) := rowParts f n2 (s.rdN (pb + j * rb) rb)
            leBytes 4 (fp32.encode false (dotBlocks (fp32.decode old) n2 ea eb sa sb))
          else
            let ea := (rowParts f n2 rowA).1
            let col := (List.range n2).map (fun k => nthD ((rowParts f n1 (s.rdN (pb + k * rb) rb)).1) j (.fin false 0 0))
            leBytes 4 (fp32.encode false (dotAcc (fp32.decode old) ea col))))
      ((m.wrSram c dst out).bumpBy Reg.ATTN.ARRAY_WAVES_COUNT (Config.matmulWaves f n0 n1 n2)).nextOp c) c

/-- What a VECOP function gives for its operands; old are the FP32 values at the destination (R124, R144). -/
def vecResult (fn f k : Nat) (xs ys old : List FV) : Bytes :=
  let zip2 (g : FV → FV → FV) : Bytes := fp32Bytes ((xs.zip ys).map (fun (a, b) => g a b))
  if fn == 0 then zip2 add32
  else if fn == 1 then zip2 mul32
  else if fn == 2 then fp32Bytes (((xs.zip ys).zip old).map (fun ((a, b), o) => round32 ((a.mul b).add o)))
  else if fn == 3 then zip2 FV.max
  else if fn == 4 then fp32Bytes (xs.map exp32)
  else if fn == 5 then fp32Bytes (xs.map recip32)
  else if fn == 6 then fp32Bytes (xs.map rsqrt32)
  else if fn == 7 then convertRow f xs
  else if fn == 8 then fp32Bytes [pairSum xs.length xs]
  else if fn == 9 then fp32Bytes [xs.foldl FV.max (xs.headD (.fin false 0 0))]
  else (topK k xs).flatMap (fun (i, v) => leBytes 4 i ++ leBytes 4 (fp32.encode false v))

/-- VECOP: function FUNC over n0 elements of sram a[31:0], a second operand at a[63:32], the result at sram b; the operand
of a conversion is FP32 (R124, assumption 42). -/
def opVecop (c : Nat) : Module → Module :=
  coreOp 0x11 (fun _ b m =>
    let f := u8 b 1
    let fn := u16 b 2
    let n := u32 b 4
    let k := u32 b 8
    let pa := u32 b 0x10
    let pb := u32 b 0x14
    let dst := u64 b 0x18
    let fin := if fn == 7 then 1 else f
    let two := decide (fn ≤ 3)
    let outLen := if fn == 7 then rowBytes f n else if fn == 8 || fn == 9 then 4 else if fn == 0x0A then 8 * Min.min k n else 4 * n
    if m.sramSpace c < pa + rowBytes fin n || (two && decide (m.sramSpace c < pb + rowBytes fin n)) ||
        m.sramSpace c < dst + outLen then m.progFault c 2
    else
      let s := (m.core c).sram
      let xs := rowVals fin n (s.rdN pa (rowBytes fin n))
      let ys := if two then rowVals fin n (s.rdN pb (rowBytes fin n)) else []
      let old := if fn == 2 then rowVals 1 n (s.rdN dst (4 * n)) else []
      (m.wrSram c dst (vecResult fn f k xs ys old)).nextOp c) c

/-- FUSED: the descriptor at hbm a runs on this core; a refused one stops the program with fault 0x06. -/
def opFused (c : Nat) : Module → Module :=
  coreOp 0x20 (fun r b m =>
    let a := u64 b 0x10
    if !r.reaches a 64 then m.progFault c 3
    else
      let bs := m.hbm.rdN a 64
      let d := Desc.parse bs
      let st : Option Status := if !d.queryHbm || !d.outHbm then some .badField
        else match m.descFault c d (u32 bs 0x24) with
          | some s => some s
          | none => if 64 ≤ (m.core c).fused.length then some .busy else none
      match st with
      | some s => ((m.countFused s).updCore c (fun k => { k with run := k.run.map (fun r => { r with waiting := true }) })).fusedOver c (m.core c).launch s
      | none => (m.updCore c (fun k => { k with run := k.run.map (fun r => { r with waiting := true }) })).pushFused c d
          (.program (m.core c).launch) none) c

/-- A program owns an object of its partition that is not revoked and is no queue (R388). -/
def CoreRun.uses (r : CoreRun) (o : LigObj) : Bool := o.partition == r.partition && o.revokedJob.isNone && o.kind != 4

/-- WAIT: as LWAIT without timeout (R388). -/
def opWait (c : Nat) : Module → Module :=
  coreOp 0x30 (fun r b m =>
    match m.ligFind (u32 b 4) with
    | none => m.progFault c 5
    | some (i, o) =>
      if !r.uses o then m.progFault c 5
      else
        let m1 := m.bump Reg.LIG.OPS_COUNT
        match ligTake o false with
        | .done o1 woken st _ =>
          let m2 := woken.foldl (fun (a : Module) w => a.wake w .ok 0) (m1.ligPut i o1)
          if st == .ok then m2.nextOp c else m2.progFault c 5
        | .wait o1 =>
          (m1.ligPut i { o1 with waiters := o1.waiters ++ [⟨.core c, m.clk.mono, none, false⟩] }).updCore c (fun k =>
            { k with run := k.run.map (fun r => { r with waiting := true }) })) c

/-- SIGNAL: as LSIG with count 1 (R388); an object that is full takes nothing and the program goes on. -/
def opSignal (c : Nat) : Module → Module :=
  coreOp 0x31 (fun r b m =>
    match m.ligFind (u32 b 4) with
    | none => m.progFault c 5
    | some (i, o) =>
      if !r.uses o then m.progFault c 5
      else
        (m.ligSignal i o 1).1.nextOp c) c

/-- LOOP: the next n0 operations n1 times; deeper than 4 stops with fault 0x07. -/
def opLoop (c : Nat) : Module → Module :=
  coreOp 0x40 (fun r b m =>
    let n := u32 b 4
    let times := u32 b 8
    if n == 0 then m.nextOp c
    else if times == 0 then m.updCore c (fun k => { k with run := k.run.map (fun r => ({ r with op := r.op + n }).nextOp) })
    else if 4 ≤ r.loops.length then m.progFault c 7
    else m.updCore c (fun k => { k with run := k.run.map (fun r => { r with
      op := r.op + 1, loops := ⟨r.op + 1, r.op + n, times⟩ :: r.loops }) })) c

/-- END. -/
def opEnd (c : Nat) : Module → Module := coreOp 0xFF (fun _ _ m => m.endProgram c 0) c

def execCoreLoad (core : Nat) (s : State) : Out := runIf (core < 64) (opLoad core) s
def execCoreStore (core : Nat) (s : State) : Out := runIf (core < 64) (opStore core) s
def execCoreCapread (core : Nat) (s : State) : Out := runIf (core < 64) (opCapread core) s
def execCoreMatmul (core : Nat) (s : State) : Out := runIf (core < 64) (opMatmul core) s
def execCoreVecop (core : Nat) (s : State) : Out := runIf (core < 64) (opVecop core) s
def execCoreFused (core : Nat) (s : State) : Out := runIf (core < 64) (opFused core) s
def execCoreWait (core : Nat) (s : State) : Out := runIf (core < 64) (opWait core) s
def execCoreSignal (core : Nat) (s : State) : Out := runIf (core < 64) (opSignal core) s
def execCoreLoop (core : Nat) (s : State) : Out := runIf (core < 64) (opLoop core) s
def execCoreEnd (core : Nat) (s : State) : Out := runIf (core < 64) (opEnd core) s

end Sys2Proof.Machine
end

