-- ==== Sys2Proof/Machine/Bell.lean ====
section
/-!
DEFINITION. The network ports: their commands (R480 to R484), transmission (R471, R472), gates (R475), retransmission
(R468), and the events of links, queue pairs and samples.
-/

namespace Sys2Proof.Machine

open Sys2Proof

/-! ### Commands -/

/-- BELL_PORT_SET: the port's links go down, and the command completes when they have come up again or failed (R480). -/
def bellPortSetCmd (c : RunCmd) (m : Module) : Module :=
  let b := c.payload
  let p := u8 b 0
  let mtu := u16 b 2
  let vlan := u16 b 4
  let subs := (List.range 4).map (fun s => 4 * p + s)
  m.checked c [(6, 2)]
    [(decide (p ≤ 3), bad 0), (decide (u8 b 1 ≤ 3), bad 1), (decide (1500 ≤ mtu) && decide (mtu ≤ 9000), bad 2),
     (bits vlan 14 12 == 0, bad 4), (subs.all (fun s => (m.subport s).nextGates.isNone), stop .busy)]
    (fun m =>
      let m1 := { m with bell := { m.bell with ports := m.bell.ports.set p ⟨u8 b 1, mtu, vlan⟩ } }
      let m2 := subs.foldl (fun (a : Module) s =>
        a.setSubport s { a.subport s with up := false, lastChange := a.clk.now % 2 ^ 32 }) m1
      m2.await c (p :: subs.filter m2.subportUsed))

/-- BELL_PORT_STATUS (R480). -/
def bellPortStatusCmd (c : RunCmd) (m : Module) : Module :=
  let p := u8 c.payload 0
  m.checked c [(1, 7)] [(decide (p ≤ 3), bad 0)] (fun m =>
    m.ok c ((List.range 4).flatMap (fun s =>
      let x := m.subport (4 * p + s)
      leBytes 1 (b2n x.up) ++ leBytes 2 (if x.up then m.subportRate (4 * p + s) / 125 else 0) ++ zeros 1 ++
        leBytes 4 x.lastChange)))

/-- The partition and binding of a fixed queue (R471). -/
def fixedPart (q : Nat) : Option Nat := if q < 8 then some q else if q < 16 then some (q - 8) else if q < 18 then some 0xFF else none

/-- BELL_QUEUE_SET (R481). -/
def bellQueueSetCmd (c : RunCmd) (m : Module) : Module :=
  let b := c.payload
  let q := u16 b 0
  let part := u8 b 4
  let bind := u32 b 8
  let cir := u64 b 0x10
  let pir := u64 b 0x18
  let cbs := u32 b 0x20
  let pbs := u32 b 0x24
  let mtu := ((m.bell.ports.zipIdx.filter (fun (_, i) => bit (u8 b 2) i)).map (fun (p, _) => p.mtu)).foldl Max.max 1500
  let ep := m.endpoint bind
  m.checked c [(6, 2), (0x0C, 4)]
    [(decide (q ≤ 4095), bad 0), (decide (u8 b 2 ≤ 15), bad 2), (decide (u8 b 3 ≤ 7), bad 3),
     (decide (part ≤ 7) || part == 0xFF, bad 4), ((fixedPart q).isNone || fixedPart q == some part, bad 4),
     (decide (1 ≤ u8 b 5), bad 5), ((fixedPart q).isNone || bind == 0, bad 8), (bind == 0 || ep.isSome, bad 8),
     (pir == 0 || decide (cir ≤ pir), bad 0x10), (cir == 0 || decide (mtu ≤ cbs), bad 0x20),
     (pir == 0 || decide (mtu ≤ pbs), bad 0x24),
     (bind == 0 || (ep.map (fun x => x.partition == part || x.partition == 0xFF)).getD false, stop .denied),
     (bind == 0 || m.bell.queues.all (fun (k, x) => k == q || x.bind != bind), stop .busy)]
    (fun m =>
      let x := m.queue q
      (m.setQueue q { x with portMask := u8 b 2, tc := u8 b 3, partition := part, weight := u8 b 5, bind := bind,
                             cir := cir, pir := pir, cbs := cbs, pbs := pbs, cLevel := cbs, pLevel := pbs,
                             filled := m.clk.mono }).ok c [])

/-- BELL_QUEUE_SAMPLE: the samples, the maxima reset; those of a Mute-mode partition read zero (R474, R482). -/
def bellQueueSampleCmd (c : RunCmd) (m : Module) : Module :=
  let q := u16 c.payload 0
  m.checked c [(2, 6)] [(decide (q ≤ 4095), bad 0)] (fun m =>
    let x := m.queue q
    (m.setQueue q { x with depthMax := 0, delayMax := 0 }).ok c
      (leBytes 4 x.depthNow ++ leBytes 4 x.depthMax ++ leBytes 4 x.delayNow ++ leBytes 4 x.delayMax ++
        leBytes 8 x.framesSent))

/-- BELL_POLICER_SET (R483). -/
def bellPolicerSetCmd (c : RunCmd) (m : Module) : Module :=
  let b := c.payload
  let k := u16 b 0
  let e := u32 b 4
  let cir := u64 b 8
  let pir := u64 b 0x10
  m.checked c [(3, 1)]
    [(decide (k ≤ 1023), bad 0), (decide (u8 b 2 ≤ 1), bad 2),
     (e == 0 || ((m.endpoint e).map (fun x => x.kind == 1)).getD false, bad 4), (pir == 0 || decide (cir ≤ pir), bad 8),
     (e == 0 || m.bell.policers.all (fun (i, x) => i == k || x.endpoint != e), stop .busy)]
    (fun m =>
      let x : Policer := ⟨e, u8 b 2 == 1, cir, pir, u32 b 0x18, u32 b 0x1C, u32 b 0x18, u32 b 0x1C, m.clk.mono, 0⟩
      ({ m with bell := { m.bell with policers := if e == 0 then m.bell.policers.del k else m.bell.policers.put k x } }).ok
        c [])

/-- BELL_GATE_LOAD: the list waits for the old list's next cycle start (R475, R484). -/
def bellGateLoadCmd (c : RunCmd) (m : Module) : Module :=
  let b := c.payload
  let s := u8 b 0
  let n := u16 b 2
  let addr := u64 b 0x10
  m.checked c [(1, 1), (4, 4)]
    [(decide (s ≤ 15), bad 0), (decide (1 ≤ n) && decide (n ≤ 256), bad 2), ((m.subport s).nextGates.isNone, stop .busy)]
    (fun m => m.withHost c (fun m =>
      let es := (List.range n).map (fun i => m.cmdRead c (addr + 8 * i) 8)
      if es.any (fun e => !allZero e 1 3 || decide (u32 e 4 < 100) || decide (1000000000 < u32 e 4)) then m.badField c 0x10
      else (m.setSubport s { m.subport s with nextGates := some ⟨u64 b 8, es.map (fun e => (u8 e 0, u32 e 4))⟩ }).await c
        [s]))

/-- The 32 bytes of a map entry (R460). -/
def mapBytes (x : MapEntry) : Bytes :=
  leBytes 4 x.endpoint ++ leBytes 1 x.kind ++ leBytes 1 x.partition ++ leBytes 2 x.udpPort ++ leBytes 16 x.address ++
  leBytes 8 x.serial

/-- BELL_ENDPOINT_QUERY (R484). -/
def bellEndpointQueryCmd (c : RunCmd) (m : Module) : Module :=
  m.checked c [(4, 4)] [] (fun m =>
    match m.endpoint (u32 c.payload 0) with
    | some x => m.ok c (mapBytes x ++ leBytes 4 m.bell.mapVersion)
    | none => m.fail c .exhausted)

def execBellPortSet (src : Src) (s : State) : Out := run (onCmd 0x1000 src bellPortSetCmd) s
def execBellPortStatus (src : Src) (s : State) : Out := run (onCmd 0x1001 src bellPortStatusCmd) s
def execBellQueueSet (src : Src) (s : State) : Out := run (onCmd 0x1010 src bellQueueSetCmd) s
def execBellQueueSample (src : Src) (s : State) : Out := run (onCmd 0x1011 src bellQueueSampleCmd) s
def execBellPolicerSet (src : Src) (s : State) : Out := run (onCmd 0x1020 src bellPolicerSetCmd) s
def execBellGateLoad (src : Src) (s : State) : Out := run (onCmd 0x1030 src bellGateLoadCmd) s
def execBellEndpointQuery (src : Src) (s : State) : Out := run (onCmd 0x1031 src bellEndpointQueryCmd) s

/-! ### Links -/

/-- Sub-port s goes up or down: flows are placed anew by the up sub-ports (R471), and a BELL_PORT_SET whose sub-ports
have all reported completes (R480). -/
def subportChange (s : Nat) (up : Bool) (m : Module) : Module :=
  let m1 := m.setSubport s { m.subport s with up := up && m.subportUsed s, lastChange := m.clk.now % 2 ^ 32 }
  let m2 := { m1 with bell := { m1.bell with lastRegister := none } }
  (m2.waitingCmds 0x1000 (fun c => c.data.drop 1 |>.contains s)).foldl (fun (a : Module) c =>
    let left := (c.data.drop 1).filter (· != s)
    if left.isEmpty then a.ok c [] else a.updCmd c.id (fun x => { x with data := c.data.headD 0 :: left })) m2

def execSubportLinkChange (sp : Nat) (up : Bool) (s : State) : Out := runIf (sp < 16) (subportChange sp up) s

/-- A priority flow control frame: the named classes that BELL.PFC lists are paused or resumed (R459). pause gives a bit
for each class. -/
def flowControl (s classes pause : Nat) (m : Module) : Module :=
  let x := m.subport s
  let mask := classes &&& m.get Reg.BELL.PFC_CLASSES
  let new := (List.range 8).foldl (fun a i => if bit mask i then (if bit pause i then a ||| 2 ^ i else a - (if bit a i then 2 ^ i else 0))
    else a) x.paused
  m.setSubport s { x with paused := new }

def execPriorityFlowControl (sp classes pause : Nat) (s : State) : Out := runIf (sp < 16) (flowControl sp classes pause) s

/-! ### Transmission (R472) -/

/-- The requester of R424 and the partition tag of a packet of queue q. -/
def producer (q part : Nat) (p : Pkt) : Nat × Nat :=
  let tag := if part < 8 then part else 8
  (match p with
    | .write _ _ _ => if q == 17 then 9 else 4
    | .read _ _ _ => 9
    | .session _ f => if f.type == 8 then 8 else 10
    | _ => 10, tag)

/-- The gate of a class lets a frame of n bytes start and end on sub-port s now (R475). -/
def Module.gateFits (m : Module) (s cls n : Nat) : Bool :=
  match (m.subport s).gates with
  | none => true
  | some g =>
    match g.openFor cls m.clk.now with
    | none => true
    | some w => decide (frameTime (m.subportRate s) n ≤ w)

/-- A frame of n bytes is longer than every open window of its class. -/
def Module.gateOversize (m : Module) (s cls n : Nat) : Bool :=
  match (m.subport s).gates with
  | none => false
  | some g =>
    match g.longest cls with
    | none => false
    | some w => decide (w < frameTime (m.subportRate s) n)

/-- The network heartbeat, which no gate holds (R470). -/
def Pkt.ungated : Pkt → Bool
  | .session _ f => f.type == 8
  | _ => false

/-- No frame of the same flow was queued earlier in another queue: a flow that moves to the queue bound to its endpoint does so
after the frames already queued for it (R471, R481). -/
def Module.flowFirst (m : Module) (q : Nat) (f : QFrame) : Bool :=
  m.bell.queues.all (fun (k, y) => k == q || y.frames.all (fun g => g.pkt.flow != f.pkt.flow || decide (f.since ≤ g.since)))

/-- The first frame of a queue that is placed on sub-port s. -/
def Module.headOn (m : Module) (s : Nat) (x : EgressQueue) : Option QFrame :=
  x.frames.find? (fun f => m.placed x f.pkt == some s)

/-- A queue without one frame. -/
def EgressQueue.without (f : QFrame) (x : EgressQueue) : EgressQueue := { x with frames := x.frames.erase f }

/-- Frames too long for every window are dropped from the queues of sub-port s. -/
def Module.dropOversize (s : Nat) (m : Module) : Module :=
  m.bell.queues.foldl (fun (a : Module) (q, x) =>
    match m.headOn s x with
    | some f => if !f.pkt.ungated && m.gateOversize s x.tc f.bytes then
        (a.setQueue q (x.without f)).bump Reg.BELL.GATE_OVERSIZE_COUNT else a
    | none => a) m

/-- A transmission opportunity of sub-port s: the frame chosen by gate, peak bucket, committed bucket, class and deficit
round robin (R472) goes to the sub-port's Reed arbiter. -/
def transmit (s : Nat) (m0 : Module) : Module :=
  if !(m0.subport s).up then m0
  else
    let m := m0.dropOversize s
    let sp := m.subport s
    let now := m.clk.mono
    let qs : KMap EgressQueue := m.bell.queues.mapV (fun _ x => x.fill now)
    let cands := qs.filterMap (fun (q, x) =>
      (m.headOn s x).bind (fun f =>
        if (f.pkt.ungated || m.gateFits s x.tc f.bytes) && m.flowFirst q f && !bit sp.paused x.tc && (x.pir == 0 || decide (f.bytes ≤ x.pLevel)) then
          some (q, x, f) else none))
    let committed := cands.filter (fun (_, x, f) => x.cir == 0 || decide (f.bytes ≤ x.cLevel))
    let c1 := if committed.isEmpty then cands else committed
    let top := c1.foldl (fun a (_, x, _) => Max.max a x.tc) 0
    let c2 := c1.filter (fun (_, x, _) => x.tc == top)
    let need (x : EgressQueue) (f : QFrame) : Nat := ceilDiv (f.bytes - x.deficit) (Max.max x.weight 1 * 1500)
    let rounds := match c2 with
      | [] => 0
      | (_, x, f) :: rest => rest.foldl (fun a (_, y, g) => Min.min a (need y g)) (need x f)
    let ready := c2.filter (fun (_, x, f) => decide (need x f ≤ rounds))
    let order := ready.filter (fun (q, _, _) => decide (sp.rr < q)) ++ ready.filter (fun (q, _, _) => decide (q ≤ sp.rr))
    match order with
    | [] => { m with bell := { m.bell with queues := qs } }
    | (q, x, f) :: _ =>
      let given := c2.foldl (fun (t : KMap EgressQueue) (k, y, _) =>
        t.put k { y with deficit := y.deficit + rounds * Max.max y.weight 1 * 1500 }) qs
      let y := given.getD q x
      let y1 := (y.without f)
      let y2 := { y1 with deficit := if y1.frames.isEmpty then 0 else y.deficit - f.bytes, cLevel := y.cLevel - f.bytes,
                          pLevel := y.pLevel - f.bytes, framesSent := y.framesSent + 1 }
      let y3 := EgressQueue.takeIn (m.get Reg.BELL.QLIMIT_QLIMIT_KIB * 1024) y2.waiting.length y2
      let (r, tag) := producer q x.partition f.pkt
      let m1 := { m with bell := { m.bell with queues := given.put q y3 } }
      let m2 := m1.setSubport s { m1.subport s with atArbiter := sp.atArbiter ++ [(r * 16 + tag, f)], rr := q }
      m2.reedRequest (72 + s) r tag (ceilDiv f.bytes 64)

def execTransmitOpportunity (sp : Nat) (s : State) : Out := runIf (sp < 16) (transmit sp) s

/-- A grant of sub-port s's arbiter: the holder's oldest frame leaves, and the request is dropped, or raised again when
more frames of the requester and tag stand there. -/
def Module.egressGrant (s : Nat) (m : Module) : Module :=
  match (m.reedInst (72 + s)).holder with
  | none => m
  | some h =>
    let sp := m.subport s
    let key := h.requester * 16 + h.tag
    let m1 := m.reedDrop (72 + s) h.requester h.tag
    match sp.atArbiter.find? (fun (k, _) => k == key) with
    | none => m1
    | some (k, f) =>
      let rest := sp.atArbiter.erase (k, f)
      let m2 := ((m1.setSubport s { sp with atArbiter := rest }).emit (.packet s f.pkt)).bumpBy
        Reg.BELL.TX_BYTES_COUNT f.bytes
      match rest.find? (fun (k, _) => k == key) with
      | some (_, g) => m2.reedRequest (72 + s) h.requester h.tag (ceilDiv g.bytes 64)
      | none => m2

/-- Every 10,000 ns the depth of each queue and the wait of its head are sampled, but not those of a Mute-mode partition
(R474). -/
def queueSample (m : Module) : Module :=
  { m with bell := { m.bell with
    lastSample := m.clk.mono,
    queues := m.bell.queues.mapV (fun _ x =>
      if m.mute x.partition then { x with depthNow := 0, depthMax := 0, delayNow := 0, delayMax := 0 }
      else
        let w := match x.frames with
          | f :: _ => m.clk.mono - f.since
          | [] => 0
        { x with depthNow := x.depth, depthMax := Max.max x.depthMax x.depth, delayNow := w,
                 delayMax := Max.max x.delayMax w }) } }

def execQueueSampleTick (s : State) : Out := runAt (fun m => m.bell.lastSample + 10000) queueSample s

/-! ### Gates -/

/-- A waiting list takes effect at the old list's cycle start, or at its own BASE_TIME when there is no old list. -/
def Module.gateSwap (s : Nat) (m : Module) : Module :=
  let x := m.subport s
  match x.nextGates with
  | none => m
  | some g =>
    let due := match x.gates with
      | some old => let (i, left) := old.at m.clk.now; i == 0 && left == (nthD old.entries 0 (0, 0)).2
      | none => decide (g.baseTime ≤ m.clk.now)
    if !due then m
    else
      let m1 := m.setSubport s { x with gates := some g, nextGates := none }
      (m1.waitingCmds 0x1030 (fun c => c.data.headD 99 == s)).foldl (fun (a : Module) c => a.ok c []) m1

/-- The gate states of the time now (R475). -/
def Module.gateNow (s : Nat) (m : Module) : Module :=
  let x := m.subport s
  match x.gates with
  | none => m
  | some g => m.setSubport s { x with gateState := (nthD g.entries (g.at m.clk.now).1 (255, 1)).1 ||| 128 }

/-- When the running interval ends. -/
def gateDue (s : Nat) (m : Module) : Nat :=
  match (m.subport s).gates, (m.subport s).nextGates with
  | some g, _ => m.clk.mono + (g.at m.clk.now).2
  | none, some g => m.dueAt g.baseTime
  | none, none => 0

/-- GATE_INTERVAL_END (R475). -/
def gateEnd (s : Nat) (m : Module) : Module := (m.gateSwap s).gateNow s

def execGateIntervalEnd (sp : Nat) (s : State) : Out :=
  if sp < 16 then runAt (gateDue sp) (gateEnd sp) s else .refused .illFormed

/-! ### Sessions -/

/-- The first retained frame of an endpoint. -/
def Module.oldestRetained (m : Module) (e : Nat) : Option Retained := (m.session e).retained.head?

/-- The retained frame whose repetition falls due first; of equals the oldest. -/
def firstDue : List Retained → Option Retained
  | [] => none
  | r :: rs =>
    match firstDue rs with
    | none => some r
    | some x => if r.sent + r.interval ≤ x.sent + x.interval then some r else some x

/-- SESSION_RETRANSMIT: the unacknowledged frame that falls due first is repeated, and its interval doubles up to 8 ms
(R468). -/
def retransmit (e : Nat) (m : Module) : Module :=
  let s := m.session e
  match firstDue s.retained, m.endpoint (e % 2 ^ 32) with
  | some r, some x =>
    if s.down then m
    else
      let again (y : Retained) : Retained :=
        if y.seq == r.seq then { y with sent := m.clk.mono, interval := Min.min (2 * y.interval) (ms 8) } else y
      let q := if decide (x.partition < 8) then m.queueFor (e % 2 ^ 32) x.partition else 16
      ((m.setSession e { s with retained := s.retained.map again }).enqueue q (.session (e % 2 ^ 32) r.frame)).bump
        Reg.BELL.RETRANSMITS_COUNT
  | _, _ => m

/-- When it is due. -/
def retransmitDue (e : Nat) (m : Module) : Nat := ((firstDue (m.session e).retained).map (fun r => r.sent + r.interval)).getD 0

def execSessionRetransmit (endpoint : Nat) (s : State) : Out := runAt (retransmitDue endpoint) (retransmit endpoint) s

/-- SESSION_ACK_TIMER: an ACK for a sequenced frame that nothing has acknowledged for 100 µs (R468). -/
def ackTimer (e : Nat) (m : Module) : Module :=
  match (m.session e).ackOwed with
  | some _ => m.sessSend e 7 0xFFFFFFFF []
  | none => m

def execSessionAckTimer (endpoint : Nat) (s : State) : Out :=
  runAt (fun m => (((m.session endpoint).ackOwed).map (· + us 100)).getD 0) (ackTimer endpoint) s

/-- A session ACK frame releases what it covers (R468). -/
def sessAckFrame (f : SessFrame) (m : Module) : Module := (m.ingress 7 f).1

def execSessAck (f : SessFrame) (s : State) : Out := run (sessAckFrame (trimFrame f)) s

/-! ### Queue pairs -/

/-- RDMA_TARGETING_MODULE: a NAK, and the queue pair enters its error state (R463). -/
def rdmaTargeting (e : Nat) (m : Module) : Module :=
  match m.bell.qps.get e with
  | some q =>
    let p := ((m.endpoint e).map (·.partition)).getD 0xFF
    let m1 := (m.enqueue (m.queueFor e (if p < 8 then 8 + p else 16)) (.nak e))
    (({ m1 with bell := { m1.bell with qps := m1.bell.qps.put e { q with error := true } } }).bump
      Reg.BELL.QP_ERRORS_COUNT).set Reg.BELL.STATUS_QP_ERROR 1
  | none => m

def execRdmaTargetingModule (endpoint : Nat) (s : State) : Out := run (rdmaTargeting endpoint) s

/-- CNP: the queue pair slows down under the RoCEv2 congestion annex (R464). -/
def cnp (e : Nat) (m : Module) : Module :=
  { m with bell := { m.bell with qps := m.bell.qps.upd e (fun q => { q with slowed := true }) } }

def execCnp (endpoint : Nat) (s : State) : Out := run (cnp endpoint) s

/-- An incomplete map delivery is discarded after 1 s (R461). -/
def mapTimeout (m : Module) : Module := { m with bell := { m.bell with delivery := none } }

def execMapDeliveryTimeout (s : State) : Out :=
  runAt (fun m => (m.bell.delivery.map (fun d => d.started + sec 1)).getD 0) mapTimeout s

end Sys2Proof.Machine
end

