-- ==== Sys2Proof/Machine/Flash.lean ====
section
/-!
DEFINITION. The flash translation layer: its commands (R308 to R310), acceptance and programming (R290), collection, wear
moves and refresh (R300 to R304), temperature (R306), and the rebuild and hold-up (R296 to R299).
-/

namespace Sys2Proof.Machine

open Sys2Proof

/-! ### Figures and commands -/

/-- The erase counts of a channel: their sum and their greatest over good blocks. -/
def FChan.eraseSum (x : FChan) : Nat := (x.blocks.vals.filter (fun b => !b.retired)).foldl (fun a b => a + b.erases) 0
def FChan.eraseMax (x : FChan) : Nat := (x.blocks.vals.filter (fun b => !b.retired)).foldl (fun a b => Max.max a b.erases) 0
def FChan.good (x : FChan) : Nat := chanBlocks - x.retired

/-- The channel of the least spare, the lowest on equal ones. -/
def Module.spareMin (m : Module) : Nat × Nat :=
  (List.range 32).foldl (fun (best : Nat × Nat) c => if (m.chan c).spare < best.2 then (c, (m.chan c).spare) else best)
    (0, (m.chan 0).spare)

/-- The mean and the greatest erase count of the module's good blocks. -/
def Module.eraseMean (m : Module) : Nat :=
  (List.range 32).foldl (fun a c => a + (m.chan c).eraseSum) 0 /
    Max.max 1 ((List.range 32).foldl (fun a c => a + (m.chan c).good) 0)
def Module.eraseMax (m : Module) : Nat := (List.range 32).foldl (fun a c => Max.max a (m.chan c).eraseMax) 0

/-- The hottest channel's temperature. -/
def Module.flashHot (m : Module) : Int := (List.range 32).foldl (fun a c => Max.max a (m.chan c).temp) (m.chan 0).temp

/-- A lifetime counter saturates at its width (R307). -/
def satAt (w n : Nat) : Nat := Min.min n (2 ^ w - 1)

/-- The health report (R307). -/
def Module.healthReport (m : Module) : Bytes :=
  let l := m.ftl.life
  let sm := m.spareMin
  let total := (List.range 32).foldl (fun a c => a + (m.chan c).spare) 0
  let state := if m.ftl.readOnly then 2 else if sm.2 ≤ m.get Reg.FTL.SPARE_CTRL_WARN then 1 else 0
  leBytes 4 sm.2 ++ leBytes 4 total ++ leBytes 1 (sm.2 * 100 / 10240) ++
  leBytes 1 (Min.min 255 (m.eraseMean * 100 / 3000)) ++ leBytes 1 state ++ leBytes 1 sm.1 ++ leBytes 4 3000 ++
  leBytes 4 m.eraseMean ++ leBytes 4 m.eraseMax ++ leBytes 8 (satAt 64 l.clientSectors) ++
  leBytes 8 (satAt 64 l.nandSectors) ++ leBytes 8 (satAt 64 l.corrected) ++ leBytes 8 (satAt 64 l.retries) ++
  leBytes 8 (satAt 64 l.uncorrectable) ++ leBytes 4 (satAt 32 l.programFails) ++ leBytes 4 (satAt 32 l.eraseFails) ++
  leBytes 4 (satAt 32 l.retired) ++ leBytes 4 l.factoryBad ++ leBytes 1 (trunc 8 m.flashHot) ++
  leBytes 1 (trunc 8 l.tempMax) ++ zeros 6 ++ leBytes 8 l.tempMaxTime ++
  (List.range 8).flatMap (fun i => leBytes 4 (satAt 32 (nthD l.tempHours i 0))) ++
  (List.range 32).flatMap (fun c =>
    let x := m.chan c
    leBytes 4 x.spare ++ leBytes 4 (x.eraseSum / Max.max 1 x.good) ++ leBytes 4 x.retiredCount ++
      leBytes 1 (trunc 8 x.temp) ++ leBytes 1 (m.chanFree c * 100 / userSectors) ++ zeros 2)

/-- FTL_HEALTH (R308). -/
def ftlHealthCmd (c : RunCmd) (m : Module) : Module := m.ok c m.healthReport

/-- Commands that wait for a flush of every channel complete with the answers they remember (R295, R309). -/
def Module.flushedCmds (m : Module) : Module :=
  if !m.ftl.due.isEmpty then m else
  (m.host.running.filter (fun c => c.stage == .waiting && c.data.headD 0 == 0x295)).foldl
    (fun (a : Module) c => a.ok c c.body) m

/-- FTL_FLUSH (R309): it completes when every flush record is programmed, which a paused channel puts off (R306). -/
def ftlFlushCmd (c : RunCmd) (m : Module) : Module := ((m.await c [0x295]).updCmd c.id (fun r => { r with body := [] })).flush.flushedCmds

/-- Blocks of a channel that hold a mapped sector. -/
def Module.mappedBlocks (m : Module) (c : Nat) : List Nat :=
  ((m.chan c).blocks.keys).filter (fun b => !(m.mappedIn c b).isEmpty)

/-- Sectors of a list of mapped units. -/
def sectorsOf (l : List (Nat × Nat × Nat)) : Nat := l.foldl (fun a u => a + (if u.1 == 0 then 32 else 1)) 0

/-- FTL_SCRUB: every mapped sector of the channels is read, and blocks are marked by the bits corrected in them, a free value of the
media, in which 121 stands for a block with a sector that fails error correction (R302, R304, R310). -/
def ftlScrubCmd (c : RunCmd) (m : Module) : Module :=
  let mask := u32 c.payload 0
  m.checked c [(4, 4)] [] (fun m =>
    let chans := if mask == 0 then List.range 32 else setBitsOf 32 mask
    let r := chans.foldl (fun (acc : Module × Nat × Nat) ch =>
      (acc.1.mappedBlocks ch).foldl (fun (acc : Module × Nat × Nat) b =>
        let n := sectorsOf (acc.1.mappedIn ch b)
        let (worst, m1) := acc.1.choose 122
        let (total, m2) := m1.choose (121 * n)
        let (which, m3) := m2.choose (m2.mappedIn ch b).length
        let hit := decide (m3.get Reg.FTL.ERR_CTRL_REFRESH_BITS < worst) && !((m3.chan ch).block b).marked
        let m4 := if hit then m3.setChan ch ((m3.chan ch).setBlock b (fun k => { k with marked := true })) else m3
        let (bad, bits) := (worst == 121, if worst == 121 then total else Max.max worst total)
        let m5 := m4.bumpBy Reg.FTL.CORRECTED_BITS_COUNT bits
        let life := { m5.ftl.life with corrected := m5.ftl.life.corrected + bits }
        let m6 := { m5 with ftl := { m5.ftl with life := life } }
        let m7 := if bad then
            match (m6.mappedIn ch b)[which]? with
            | some (ext, logical, loc) =>
              let y := m6.flashRead ch loc 1 0 true
              if ext == 0 then y.spoil (mkHandle 3 logical) (List.range 4) else y
            | none => m6
          else m6
        (m7, acc.2.1 + n, acc.2.2 + b2n hit)) acc) (m, 0, 0)
    let body := leBytes 8 r.2.1 ++ leBytes 4 r.2.2
    r.1.complete c (if m.ftl.readOnly then .readOnly else .ok) body noDetail)

def execFtlHealth (src : Src) (s : State) : Out := run (onCmd 0x0900 src ftlHealthCmd) s
def execFtlFlush (src : Src) (s : State) : Out := run (onCmd 0x0901 src ftlFlushCmd) s
def execFtlScrub (src : Src) (s : State) : Out := run (onCmd 0x0910 src ftlScrubCmd) s

/-! ### Writes -/

/-- WRITE_ACCEPT on a channel: writes that wait enter the buffer in order while there is room (R290); moves whose target
was accepted make their map write. -/
def writeAccept (c : Nat) : Nat → Module → Module
  | 0, m => m
  | fuel + 1, m =>
    match (m.chan c).waiting with
    | [] => m
    | w :: rest =>
      if m.ftl.holdup || m.ftl.readOnly then m
      else
        let m1 := m.setChan c { m.chan c with waiting := rest }
        match m1.ftlAcceptOn c w.ext w.logical w.content with
        | some m2 => writeAccept c fuel m2
        | none => m

/-- Units of the buffer that stand in a failed block go to another one: a new place, and the map follows where it named the
old one (R304). -/
def Module.replace (c b : Nat) (m : Module) : Module :=
  let x := m.chan c
  let inB := x.buffer.filter (fun u => u.loc / blockSectors == b)
  let fresh (p : Option Nat) : Option Nat := p.filter (fun q => (q - 1) / blockSectors != b)
  let x0 := { x with client := fresh x.client, copies := fresh x.copies,
                     buffer := x.buffer.filter (fun u => u.loc / blockSectors != b) }
  inB.foldl (fun (a : Module) u =>
    let n := u.content.sectors
    match a.placeOn c (if u.copyOf.isSome then 1 else 0) n with
    | none => a
    | some (p, a0) =>
      let a1 := a0.setChan c { a0.chan c with buffer := (a0.chan c).buffer ++ [{ u with loc := p }] }
      if a1.ftlLoc u.ext u.logical == some (c, u.loc) then a1.setLoc u.ext u.logical (c, p) else a1) (m.setChan c x0)

/-- A unit has been programmed: a copy takes the map entry only while the entry names its source (R300, R302), and the change of the
map waits for the next flush (R292). -/
def Module.programmed (c : Nat) (m : Module) (u : FUnit) : Module :=
  let m1 := m.setChan c { m.chan c with units := (m.chan c).units.put u.loc u }
  let r : JRec := ⟨u.writeSeq, u.dataSeq, u.ext, 1, u.logical, mapEntry u.ext (c, u.loc)⟩
  match u.copyOf with
  | some src =>
    if m1.ftlLoc u.ext u.logical == some (c, src) then (m1.setLoc u.ext u.logical (c, u.loc)).change c r else m1
  | none => m1.change c r

/-- The program unit of a place. -/
def programUnit (loc : Nat) : Nat := loc / 32

/-- PROGRAM_COMPLETE on a channel: the program unit of the oldest unit of the write buffer is programmed (R287), with every unit of
the buffer that lies in it; what its streams have not filled is padded (R291, assumption 207). A failed program retires its block
and is repeated on another one (R304). -/
def programComplete (c : Nat) (ok : Bool) (m : Module) : Module :=
  let x := m.chan c
  match x.buffer with
  | [] => m
  | u :: _ =>
    let here (v : FUnit) : Bool := programUnit v.loc == programUnit u.loc
    let us := x.buffer.filter here
    let pad (p : Option Nat) : Option Nat := p.map (fun q => if programUnit q == programUnit u.loc then roundUp q 32 else q)
    if x.paused then m
    else
      let m0 := m.setChan c { x with client := pad x.client, copies := pad x.copies }
      if ok then
        let life := { m.ftl.life with nandSectors := m.ftl.life.nandSectors + 32 }
        let m1 := m0.setChan c { m0.chan c with buffer := x.buffer.filter (fun v => !here v) }
        let m2 := ({ m1 with ftl := { m1.ftl with life := life } }).bumpBy Reg.FTL.NAND_SECTORS_COUNT 32
        (us.foldl (Module.programmed c) m2).emptied c
      else
        let m1 := m0.setChan c { m0.chan c with
          units := us.foldl (fun t v => t.put v.loc { v with torn := true }) x.units, programFails := x.programFails + 1 }
        let life := { m1.ftl.life with programFails := m1.ftl.life.programFails + 1 }
        let m2 := ({ m1 with ftl := { m1.ftl with life := life } }).bump Reg.FTL.PROGRAM_FAILS_COUNT
        (m2.retireBlock c (u.loc / blockSectors)).replace c (u.loc / blockSectors)

/-- Collection goes on until FREE_TARGET blocks are free. -/
def Module.gcStatus (m : Module) : Module :=
  m.set Reg.FTL.STATUS_GC_ACTIVE (b2n (m.ftl.chans.vals.any (fun x => x.collecting.isSome)))

/-- ERASE_COMPLETE of a block: it returns to the free pool, or is retired when the erase failed (R300, R304). -/
def eraseComplete (c b : Nat) (ok : Bool) (m : Module) : Module :=
  let x := m.chan c
  if !x.erasing.contains b then m
  else
    let x1 := { x with erasing := x.erasing.erase b, units := x.units.keep (fun l _ => l / blockSectors != b) }
    let m1 := if ok then
        ((m.setChan c (x1.setBlock b (fun k => { k with erases := k.erases + 1, inUse := false, marked := false }))).bump
          Reg.FTL.ERASES_COUNT).changeNow c 0xFFFF 3 b
      else
        let life := { m.ftl.life with eraseFails := m.ftl.life.eraseFails + 1 }
        (({ (m.setChan c x1) with ftl := { (m.setChan c x1).ftl with life := life } }).bump
          Reg.FTL.ERASE_FAILS_COUNT).retireBlock c b
    let y := m1.chan c
    let m2 := if y.collecting.isSome && decide (m1.get Reg.FTL.GC_CTRL_FREE_TARGET ≤ y.freeBlocks) then
        m1.setChan c { y with collecting := none } else m1
    m2.gcStatus

def execEraseComplete (c b : Nat) (ok : Bool) (s : State) : Out := runIf (c < 32) (eraseComplete c b ok) s

/-! ### Journal -/

/-- The map segments of a rotation (R294): those of the frame map and of each sector extent, by number. -/
def Module.segKeys (m : Module) : List Nat :=
  (List.range (userSectors / segEntries)).map (segKey 0 ∘ (· * segEntries)) ++
  m.ftl.extents.flatMap (fun (e, k) => (List.range (ceilDiv k.size segEntries)).map (fun i => segKey e (i * segEntries)))

/-- The entries of a map segment as the map stands. -/
def Module.segment (m : Module) (key : Nat) : KMap Nat :=
  let ext := key / 1024
  let table := if ext == 0 then m.ftl.frames else m.ftl.sectors.getD ext []
  (table.filter (fun (l, _) => segKey ext l == key)).map (fun (l, p) => (l, mapEntry ext p))

/-- The next map segment of the rotation is written whole to the channel whose turn it is: 4 MiB, 32 program units, with the last
WRITE_SEQ given as its SEG_SEQ (R294). A channel that has paused programs nothing (R306), and its segment waits for the next
interval (assumption 208). -/
def Module.writeSegment (m : Module) : Module :=
  let c := m.ftl.segChan
  let keys := m.segKeys
  let later := keys.filter (fun k => (m.ftl.segLast.map (fun l => decide (l < k))).getD true)
  match later.head? <|> keys.head? with
  | none => m
  | some key =>
    if (m.chan c).paused then m
    else
      let seq := m.ftl.nextSeq - 1
      let starts := later.isEmpty || m.ftl.segLast.isNone
      let x := (List.range 32).foldl (fun (y : FChan) _ => y.bookUnit key seq (List.replicate 32 4)) (m.chan c)
      let life := { m.ftl.life with nandSectors := m.ftl.life.nandSectors + 1024 }
      let m1 := m.setChan c x
      let m2 := { m1 with ftl := { m1.ftl with
        segs := m1.ftl.segs.put key ⟨seq, c, m.segment key⟩, segLast := some key, segChan := (c + 1) % 32,
        rotSeq := if starts && m.ftl.segLast.isSome then m.ftl.rotNow else m.ftl.rotSeq,
        rotNow := if starts then seq else m.ftl.rotNow, life := life } }
      (m2.bumpBy Reg.FTL.NAND_SECTORS_COUNT 1024).bookSweep c

/-- JOURNAL_FLUSH: every channel flushes, and one map segment is written (R292, R294). -/
def journalFlush (m : Module) : Module := (m.flush.writeSegment).flushedCmds

def execJournalFlush (s : State) : Out :=
  runAt (fun m => m.ftl.lastFlush + us (m.get Reg.FTL.JOURNAL_CTRL_INTERVAL_US)) journalFlush s

/-! ### Collection, wear and refresh -/

/-- A block that may be emptied: in use, not retired, not open, not being emptied or erased, and with no metadata. -/
def FChan.movable (x : FChan) (b : Nat) : Bool :=
  let k := x.block b
  k.inUse && !k.retired && !x.openBlocks.contains b && !x.emptying.contains b && !x.erasing.contains b && !x.bookBlock b

/-- Copies of a block's mapped units enter the collection stream (R300): each with a WRITE_SEQ of its own and the DATA_SEQ of
what it copies. A sector that cannot be read has no copy (R304); a frame takes the marks of its failing sectors with it. -/
def Module.moveOut (c b : Nat) (m : Module) : Module :=
  let m0 := m.setChan c { m.chan c with emptying := (m.chan c).emptying ++ [b] }
  let m1 := (m0.mappedIn c b).foldl (fun (a : Module) (ext, logical, loc) =>
    match (a.chan c).unit loc with
    | none => a
    | some u =>
      let n := u.content.sectors
      match if n == 1 && u.lost then none else a.placeOn c 1 n with
      | none => a
      | some (p, a0) =>
        let (seq, a1) := a0.takeSeq
        let v : FUnit := { u with loc := p, writeSeq := seq, copyOf := some loc, ext := ext, logical := logical, lost := false }
        (a1.setChan c { a1.chan c with buffer := (a1.chan c).buffer ++ [v] }).bumpBy Reg.FTL.GC_COPIES_COUNT n) m0
  m1.emptied c

/-- The block that comes first by a key, lowest first. -/
def leastBlock (key : Nat → List Nat) (bs : List Nat) : Option Nat :=
  let rec lt : List Nat → List Nat → Bool
    | p :: ps, q :: qs => decide (p < q) || (p == q && lt ps qs)
    | _, _ => false
  bs.foldl (fun best b => match best with
    | none => some b
    | some a => if lt (key b) (key a) then some b else some a) none

/-- GARBAGE_COLLECTION of a channel: below FREE_LOW, or until FREE_TARGET once begun, its block with the fewest mapped
sectors is emptied; nothing runs while the flash is read-only or Crook restarts (R300, R305, R494). -/
def garbage (c : Nat) (m : Module) : Module :=
  let x := m.chan c
  let go := decide (x.freeBlocks < m.get Reg.FTL.GC_CTRL_FREE_LOW) ||
    (x.collecting.isSome && decide (x.freeBlocks < m.get Reg.FTL.GC_CTRL_FREE_TARGET))
  let busy := (x.collecting.map (fun b => x.emptying.contains b || x.erasing.contains b)).getD false
  if !go || busy || x.paused || m.ftl.readOnly || m.ftl.holdup || m.secur.restart.isSome then m
  else
    match leastBlock (fun b => [sectorsOf (m.mappedIn c b), (x.block b).erases, b]) (x.blocks.keys.filter x.movable) with
    | none => m
    | some b => ((m.setChan c { x with collecting := some b }).moveOut c b).gcStatus

def execGarbageCollection (c : Nat) (s : State) : Out := runIf (c < 32) (garbage c) s

/-- The least erase count of a channel's good blocks. -/
def FChan.eraseMin (x : FChan) : Nat :=
  if (x.blocks.lowestFree 0 chanBlocks).isSome then 0
  else ((x.blocks.vals.filter (fun b => !b.retired)).map (·.erases)).foldl Min.min x.eraseMax

/-- WEAR_MOVE of a channel: when the erase counts differ by more than SPREAD, its least-erased block is emptied (R303); with a free
block among the least-erased there is nothing to move, and of several the lowest is taken (assumption 209). -/
def wearMove (c : Nat) (m : Module) : Module :=
  let x := m.chan c
  if m.ftl.readOnly || m.ftl.holdup || x.paused || decide (x.eraseMax - x.eraseMin ≤ m.get Reg.FTL.WEAR_CTRL_SPREAD) then m
  else
    match leastBlock (fun b => [b]) (x.blocks.keys.filter (fun b => x.movable b && (x.block b).erases == x.eraseMin)) with
    | none => m
    | some b => m.moveOut c b

def execWearMove (c : Nat) (s : State) : Out := runIf (c < 32) (wearMove c) s

/-- REFRESH of a marked block (R304). -/
def refresh (c b : Nat) (m : Module) : Module :=
  let x := m.chan c
  if m.ftl.readOnly || m.ftl.holdup || x.paused || !(x.block b).marked || !x.movable b then m
  else (m.moveOut c b).bump Reg.FTL.REFRESHES_COUNT

def execRefresh (c b : Nat) (s : State) : Out := runIf (c < 32) (refresh c b) s

/-! ### Temperature -/

/-- NAND_TEMP_SAMPLE: each channel's temperature; above THROTTLE_C it programs at half rate, above 90 °C it programs nothing
until it has cooled to THROTTLE_C, when a flush that was due is made (R306). -/
def nandTemp (temps : List Int) (m : Module) : Module :=
  let lim : Int := (m.get Reg.FTL.TEMP_CTRL_THROTTLE_C : Int)
  let m1 := (List.range 32).foldl (fun (a : Module) c =>
    let t := nthD temps c 25
    let x := a.chan c
    let paused := decide (90 < t) || (x.paused && decide (lim < t))
    a.setChan c { x with temp := t, paused := paused, throttled := decide (lim < t) }) m
  let cooled := m1.ftl.due.filter (fun c => !(m1.chan c).paused)
  let m1 := cooled.foldl (fun (a : Module) c => a.flushChan false c) m1
  let m1 := { m1 with ftl := { m1.ftl with due := m1.ftl.due.filter (fun c => !cooled.contains c) } }
  let hot := m1.flashHot
  let l := m1.ftl.life
  let life := if l.tempMax < hot then { l with tempMax := hot, tempMaxTime := m1.clk.now } else l
  let m2 := { m1 with ftl := { m1.ftl with life := life, lastTemp := m1.clk.mono } }
  let old := sext 8 (m2.get Reg.FTL.TEMP_MAX)
  let m3 := ((m2.set Reg.FTL.STATUS_THROTTLED (b2n (m2.ftl.chans.vals.any (·.throttled)))).set Reg.FTL.STATUS_TEMP_PAUSE
    (b2n (m2.ftl.chans.vals.any (·.paused)))).set Reg.FTL.TEMP_NOW (trunc 8 hot)
  (if old < hot then m3.set Reg.FTL.TEMP_MAX (trunc 8 hot) else m3).flushedCmds

def execNandTempSample (temps : List Int) (s : State) : Out :=
  if temps.length == 32 && temps.all (fun t => decide (-128 ≤ t) && decide (t ≤ 127)) then
    runAt (fun m => m.ftl.lastTemp + sec 1) (nandTemp temps) s
  else .refused .illFormed

/-- The band of operating hours that a temperature counts in (R307). -/
def tempBand (t : Int) : Nat := if t < 25 then 0 else Min.min 7 ((t - 15) / 10).toNat

/-- The hour of the hottest channel counts in its band. -/
def Module.tempHour (m : Module) : Module :=
  let life := { m.ftl.life with tempHours := updNth m.ftl.life.tempHours (tempBand m.flashHot) (· + 1) }
  { m with ftl := { m.ftl with life := life } }

/-! ### Hold-up and rebuild -/

/-- What the FTL programs on the energy of the hold-up (R299): the programs in flight and the rest of the write buffers. -/
def Module.holdupPrograms (m : Module) : Module :=
  (List.range 32).foldl (fun (a : Module) c =>
    let us := (a.chan c).buffer
    let n := 32 * (us.map (fun u => programUnit u.loc)).eraseDups.length
    let life := { a.ftl.life with nandSectors := a.ftl.life.nandSectors + n }
    let a1 := ({ a with ftl := { a.ftl with life := life } }).bumpBy Reg.FTL.NAND_SECTORS_COUNT n
    us.foldl (Module.programmed c) (a1.setChan c { a1.chan c with buffer := [] })) m

/-- New writes are refused, and what waits or is under way ends. -/
def Module.flashStops (m : Module) : Module :=
  { m with ftl := { m.ftl with
    chans := m.ftl.chans.mapV (fun _ x => { x with buffer := [], waiting := [], emptying := [], erasing := [], collecting := none }),
    holdup := true, due := [] } }

/-- Everything that the hold-up does (R299): new writes are refused, the write buffers are programmed, and every channel writes a
flush record marked CLEAN. -/
def Module.holdupFlush (m : Module) : Module :=
  ((List.range 32).foldl (fun (a : Module) c => a.flushChan true c) m.holdupPrograms).flashStops

/-- What the power loss takes without a hold-up: the write buffers and every change that no flush holds. -/
def Module.flashPowerLoss (m : Module) : Module :=
  let m1 := m.flashStops
  let ext := (m1.ftl.extents.keep (fun _ e => e.durable)).mapV (fun _ e => { e with dropped := false })
  { m1 with ftl := { m1.ftl with chans := m1.ftl.chans.mapV (fun _ x => { x with changes := [] }), extents := ext } }

/-! ### Rebuild (R296, R297) -/

/-- What a tag scan meets in a sector: erased, a torn tag, a sector of padding, or a tag. -/
inductive FTag where
  | erased
  | torn
  | pad
  | tag (writeSeq dataSeq ext kind part logical : Nat)
  deriving DecidableEq, Repr

/-- A tag as it reads (R291). -/
def readTag (b : Bytes) : FTag :=
  if b.all (fun x => x == 0xFF) then .erased
  else if u32 b 0x1C != crc32c (slice b 0 0x1C) then .torn
  else if u8 b 0x12 == 6 then .pad
  else .tag (u64 b 0) (u64 b 8) (u16 b 0x10) (u8 b 0x12) (u8 b 0x13) (u32 b 0x14)

/-- The programmed unit that a sector of a channel lies in. -/
def FChan.over (x : FChan) (s : Nat) : Option FUnit :=
  match x.units.get s with
  | some u => some u
  | none => (x.units.get (32 * programUnit s)).filter (fun u => u.content.sectors == 32)

/-- The tag of a sector: a program unit that was programmed is padded where it holds nothing. -/
def FChan.sectorTag (x : FChan) (s : Nat) : FTag :=
  match x.over s with
  | some u => if u.torn then .torn else readTag (u.tag (s - u.loc))
  | none => if x.units.vals.any (fun u => programUnit u.loc == programUnit s) then .pad else .erased

/-- The scan from a sector to the first erased one or the block's end: places and tags. -/
def FChan.scanFrom (x : FChan) : Nat → Nat → List (Nat × FTag)
  | 0, _ => []
  | fuel + 1, p =>
    match x.sectorTag p with
    | .erased => []
    | t => (p, t) :: (if (p + 1) % blockSectors == 0 then [] else FChan.scanFrom x fuel (p + 1))

/-- The scan of a channel: its open blocks from their write pointers, and the blocks of the open list from their start. -/
def FChan.scan (x : FChan) : List (Nat × FTag) :=
  let r := x.record
  let named := (r.named.flatten.eraseDups.map (· * blockSectors)).filter (fun p =>
    r.points.all (fun q => q / blockSectors != p / blockSectors))
  (r.points ++ named).flatMap (fun p => x.scanFrom blockSectors p)

/-- A unit's entry in the map that is being rebuilt: the DATA_SEQ and the WRITE_SEQ that stand for it, and its place. -/
structure Best where
  data : Nat
  write : Nat
  place : Option (Nat × Nat)
  deriving DecidableEq, Repr

/-- The map that is being rebuilt, by extent and unit. -/
abbrev Rebuilt := KMap (KMap Best)

/-- The entry of a unit. -/
def Rebuilt.at (t : Rebuilt) (ext logical : Nat) : Option Best := (t.get ext).bind (fun k => k.get logical)

/-- The map with a unit's entry set. -/
def Rebuilt.set (ext logical : Nat) (b : Best) (t : Rebuilt) : Rebuilt := t.put ext ((t.getD ext []).put logical b)

/-- The programmed unit at a place, if it is that unit and not torn. -/
def Module.holdsUnit (m : Module) (ext logical : Nat) (p : Nat × Nat) : Option FUnit :=
  ((m.chan p.1).units.get p.2).filter (fun u => !u.torn && u.ext == ext && u.logical == logical)

/-- Step 2: the newest copies of the map segments; the sequence numbers of a location are those of its tag. -/
def Module.loadSegments (m : Module) : Rebuilt :=
  m.ftl.segs.foldl (fun (t : Rebuilt) (key, s) =>
    let ext := key / 1024
    let chan := ((m.ftl.extents.get ext).map (·.channel)).getD 0
    s.entries.foldl (fun (t : Rebuilt) (logical, e) =>
      let place := entryPlace ext chan e
      let u := place.bind (m.holdsUnit ext logical)
      t.set ext logical ⟨(u.map (·.dataSeq)).getD 0, (u.map (·.writeSeq)).getD 0, place⟩) t) []

/-- The journal records that are read back, those of a channel up to the first whose CHECK fails, in WRITE_SEQ order. -/
def Module.journalRecords (m : Module) : List JRec :=
  sortBy (fun a b => decide (a.seq ≤ b.seq)) (m.ftl.chans.vals.flatMap (fun x =>
    ((x.journal.map (fun j => readJRec j.2)).takeWhile Option.isSome).filterMap id))

/-- Step 3: a record changes an entry only when its WRITE_SEQ exceeds the SEG_SEQ of the entry's segment. -/
def Module.replay (m : Module) (t : Rebuilt) (r : JRec) : Rebuilt :=
  let newer := ((m.ftl.segs.get (segKey r.ext r.logical)).map (fun s => decide (s.seq < r.seq))).getD true
  let chan := ((m.ftl.extents.get r.ext).map (·.channel)).getD 0
  if r.op == 1 && newer then t.set r.ext r.logical ⟨r.data, r.seq, entryPlace r.ext chan r.entry⟩
  else if r.op == 2 && newer then t.set r.ext r.logical ⟨r.data, r.seq, none⟩
  else if r.op == 5 || r.op == 6 then t.put r.ext []
  else t

/-- Steps 4 and 5: a tag that the scan finds is mapped when its DATA_SEQ exceeds that of the location that the map gives, or equals
it with a greater WRITE_SEQ; the count is of the entries changed. A tag of an extent that does not exist, or is older than it, is
none of its units. -/
def Module.foldTag (m : Module) (c : Nat) (acc : Rebuilt × Nat) (p : Nat × FTag) : Rebuilt × Nat :=
  match p.2 with
  | .tag w d ext kind part logical =>
    let known := if ext == 0 then kind == 1 && part == 0
      else kind == 2 && ((m.ftl.extents.get ext).map (fun e => decide (e.born ≤ w))).getD false
    let wins := match acc.1.at ext logical with
      | none => true
      | some b => decide (b.data < d) || (b.data == d && decide (b.write < w))
    if known && wins then (acc.1.set ext logical ⟨d, w, some (c, p.1)⟩, acc.2 + 1) else acc
  | _ => acc

/-- The map that steps 1 to 5 give, and how many entries the scan changed. -/
def Module.rebuiltMap (m : Module) : Rebuilt × Nat :=
  let t := m.journalRecords.foldl (Module.replay m) m.loadSegments
  m.ftl.chans.foldl (fun acc (c, x) => x.scan.foldl (Module.foldTag m c) acc) (t, 0)

/-- The places of an extent's units in a rebuilt map; an entry whose location does not hold the unit gives nothing (R299). -/
def Module.rebuiltPlaces (m : Module) (t : Rebuilt) (ext : Nat) : KMap (Nat × Nat) :=
  (t.getD ext []).filterMap (fun (l, b) => (b.place.filter (fun p => (m.holdsUnit ext l p).isSome)).map (fun p => (l, p)))

/-- The greatest sequence number that a start finds (R290). -/
def Module.greatestSeq (m : Module) : Nat :=
  let top (l : List Nat) (a : Nat) : Nat := l.foldl Max.max a
  top (m.journalRecords.map (·.seq)) (top (m.ftl.segs.vals.map (·.seq)) (m.ftl.chans.vals.foldl (fun a x =>
    x.scan.foldl (fun a p => match p.2 with
      | .tag w d _ _ _ _ => Max.max a (Max.max w d)
      | _ => a) (Max.max a x.record.seq)) 0))

/-- The flush record with the newest lifetime figures (R307). -/
def Module.newestLife (m : Module) : FlashLife :=
  m.ftl.chans.vals.foldl (fun a x => if a.nandSectors < x.record.life.nandSectors then x.record.life else a) FlashLife.zero

/-- Flash frames that a page map, a share entry, a prefix list or a hold list names (R298); every mapped frame while a block of
the hold list fails its check (R346). -/
def Module.namedFrames (holdsOk : Bool) (m : Module) : List Nat :=
  let hs := m.caps.slots.vals.flatMap (·.map) ++ m.caps.share.keys ++ m.steps.prefixes.vals.flatMap (·.map)
  ((hs.filter (fun h => tierOf h == 3 && h != 0xFFFFFFFF)).map indexOf) ++
    (match m.ckpt.local_.getLast? with
      | some l => if holdsOk then l.holds else m.ftl.frames.keys
      | none => [])

/-- A write stream goes on after what the scan found in its block. -/
def FChan.resume (x : FChan) : FChan :=
  let last (p : Option Nat) : Option Nat := p.map (fun q =>
    let b := (q - 1) / blockSectors
    x.units.vals.foldl (fun a u => if u.loc / blockSectors == b then Max.max a (roundUp (u.loc + u.content.sectors) 32) else a)
      (b * blockSectors))
  { x with client := last x.client, copies := last x.copies, book := last x.book, changes := [] }

/-- FTL_REBUILD (R296 to R298): the maps are loaded from the segments, the journal is replayed and the tags of the open lists are
folded in; REBUILT tells that the scan changed an entry, blocks that hold nothing of use are erased and free, and frames that
nothing names are freed. The lifetime figures and the read-only state are those of the flush records (R305, R307). holdsOk tells
that every block of the hold list passes its check. -/
def ftlRebuild (holdsOk : Bool) (m : Module) : Module :=
  let (t, changed) := m.rebuiltMap
  let clean := m.ftl.chans.vals.all (fun x => x.record.clean)
  let ro := m.ftl.chans.vals.any (fun x => x.record.readOnly) || decide (m.spareMin.2 ≤ 512)
  let m1 := { m with ftl := { m.ftl with
    frames := m.rebuiltPlaces t 0,
    sectors := m.ftl.extents.keys.map (fun e => (e, m.rebuiltPlaces t e)),
    chans := m.ftl.chans.mapV (fun _ x => x.resume),
    nextSeq := m.greatestSeq + 1, holdup := false, readOnly := ro, life := m.newestLife,
    lastFlush := m.clk.mono, lastTemp := m.clk.mono } }
  let m2 := if changed == 0 then m1 else (m1.set Reg.FTL.STATUS_REBUILT 1).event 0x0901 0xFF 1 changed 0
  let m3 := if clean then m2 else (m2.set Reg.FTL.STATUS_HOLDUP_SHORT 1).event 0x0902 0xFF 2 0 0
  let named := m3.namedFrames holdsOk
  let m4 := (m3.ftl.frames.keys.filter (fun i => !named.contains i)).foldl (fun (a : Module) i => a.ftlUnmap 0 i) m3
  let m5 := (List.range 32).foldl (fun (a : Module) c =>
    let x := a.chan c
    let gone := (x.blocks.filter (fun (b, k) => k.inUse && !k.retired && (a.mappedIn c b).isEmpty &&
      x.units.vals.all (fun u => u.loc / blockSectors != b || !a.bookNeeded c u))).map (·.1)
    if gone.isEmpty then a
    else
      let x1 := gone.foldl (fun (y : FChan) b => y.setBlock b (fun k =>
        { k with inUse := false, marked := false, erases := k.erases + 1 })) x
      let open1 (p : Option Nat) : Option Nat := p.filter (fun q => !gone.contains (q / blockSectors))
      (a.setChan c { x1 with units := x1.units.keep (fun l _ => !gone.contains (l / blockSectors)),
                             client := open1 x1.client, copies := open1 x1.copies, book := open1 x1.book }).bumpBy
        Reg.FTL.ERASES_COUNT gone.length) m4
  let m6 := (((m5.set Reg.FTL.STATUS_READ_ONLY (b2n ro)).set Reg.SLIDE.STATUS_FLASH_DEMOTE_OFF (b2n ro)).set
    Reg.BORE.STATUS_READ_ONLY (b2n ro)).set Reg.FTL.STATUS_SPARE_WARN
      (b2n (decide (m5.spareMin.2 ≤ m5.get Reg.FTL.SPARE_CTRL_WARN)))
  m6.set Reg.FTL.WRITE_SEQ_NEXT m6.ftl.nextSeq

/-- It runs once in each start, before READY. -/
def execFtlRebuild (holdsOk : Bool) (s : State) : Out :=
  run (when (fun m => !m.power.rebuilt) (fun m =>
    ftlRebuild holdsOk { m with power := { m.power with rebuilt := true } })) s

end Sys2Proof.Machine
end

