-- ==== Sys2Proof/Machine/Sched.lean ====
section
/-!
DEFINITION. The partition schedule: its commands (R418 to R421), slot boundaries (R408 to R412) and pre-emption windows
(R413), and the Reed arbiters' events (R426, R427).
-/

namespace Sys2Proof.Machine

open Sys2Proof

/-! ### Commands -/

/-- The 16,384 entries at a host address, zero entries left out. -/
def readTable (m : Module) (c : RunCmd) (addr : Nat) : KMap Nat :=
  (List.range 16384).filterMap (fun i =>
    let e := leNat (m.cmdRead c (addr + 4 * i) 4)
    if e == 0 then none else some (i, e))

/-- An entry names only present partitions and sets no reserved bit (R407, R418). -/
def entryOk (m : Module) (e : Nat) : Bool :=
  (List.range 8).all (fun p => (!(bit e p) && !(bit e (8 + p))) || m.present p) &&
  (!(bit e 19) || m.present (bits e 18 16)) && bits e 31 20 == 0

/-- Every partition of a mask has a BUILD slot. -/
def buildsOk (es : KMap Nat) (mask : Nat) : Bool :=
  (List.range 8).all (fun p => !(bit mask p) || es.vals.any (fun e => bit e (8 + p)))

/-- The module with the inactive bank loaded. -/
def Module.loadBank (b : SchedBank) (m : Module) : Module :=
  let s := m.sched
  { m with sched := if s.active == 0 then { s with bank1 := b, pending := true } else { s with bank0 := b, pending := true } }

/-- SCHED_TABLE_LOAD: HOST_ADDR 0x00, RT_MASK 0x08; it completes when the bank becomes active (R418). -/
def tableLoadCmd (c : RunCmd) (m : Module) : Module :=
  let addr := u64 c.payload 0
  let mask := u8 c.payload 8
  m.checked c [(9, 7)]
    [(addr % 64 == 0, bad 0),
     ((List.range 8).all (fun p => !(bit mask p) || m.present p), bad 8),
     ((List.range 8).all (fun p => !(bit mask p) || bit (m.part p).flags 2), stop .denied),
     (!m.sched.pending, stop .busy)]
    (fun m => m.withHost c (fun m =>
      let es := readTable m c addr
      if !(es.vals.all (entryOk m)) then m.badField c 0
      else if !buildsOk es mask then m.badField c 8
      else (m.loadBank ⟨es, mask, true⟩).await c []))

/-- SCHED_TABLE_OFF completes at the next cycle start (R418). -/
def tableOffCmd (c : RunCmd) (m : Module) : Module :=
  ({ m with sched := { m.sched with offPending := true } }).await c []

/-- SCHED_JOB_SET (R419). -/
def jobSetCmd (c : RunCmd) (m : Module) : Module :=
  let kind := u8 c.payload 0
  let cls := u8 c.payload 1
  let weight := u8 c.payload 2
  let id := u16 c.payload 4
  let notice := u32 c.payload 8
  let part := if kind == 0 then (m.strand.jobs.get id).map (·.partition)
    else (m.attn.cores.findSome? (fun (_, k) => k.run.bind (fun r => if r.program == id then some r.partition else none)))
  let live := if kind == 0 then m.strand.jobs.has id else m.attn.programs.has id
  let obj := m.ligFind notice
  m.checked c [(3, 1), (6, 2)]
    [(decide (kind ≤ 1), bad 0), (decide (cls ≤ 1), bad 1),
     (decide (1 ≤ weight) && decide (weight ≤ 15), bad 2),
     (live, stop .stale),
     (notice == ligNone || obj.isSome, stop .stale),
     (notice == ligNone || ((obj.map (fun o => o.2.kind == 3)).getD false), bad 8),
     (notice == ligNone || part.isNone || (obj.map (·.2.partition)) == part, bad 8)]
    (fun m =>
      let m1 := if kind == 0 then m.updJob id (fun j => { j with background := cls == 1, weight := weight })
        else { m with sched := { m.sched with
          progBackground := m.sched.progBackground.put id (cls == 1), progWeight := m.sched.progWeight.put id weight } }
      let noticePart := match part with
        | some p => some p
        | none => obj.map (·.2.partition)
      let m2 := match noticePart with
        | some p => { m1 with sched := { m1.sched with
            notice := if notice == ligNone then m1.sched.notice.del p else m1.sched.notice.put p notice } }
        | none => m1
      m2.followHolds.ok c [])

/-- A program that waits, or has a fused command under way, has yet to come to an operation boundary. -/
def Core.midOp (k : Core) (r : CoreRun) : Bool :=
  r.waiting || k.fused.any (fun f => f.origin == .program k.launch && f.status.isNone)

/-- Every job and core program of partition p is suspended: a program at its next operation boundary (R413). -/
def Module.allSuspended (m : Module) (p : Nat) : Bool :=
  m.strand.jobs.vals.all (fun j => j.partition != p || j.suspended) &&
  m.attn.cores.vals.all (fun k => (k.run.map (fun r => r.partition != p || (r.suspended && !k.midOp r))).getD true)

/-- SCHED_SUSPEND commands whose partition is now wholly suspended complete (R420). -/
def Module.finishSuspends (m : Module) : Module :=
  (m.waitingCmds 0x0E20 (fun c => m.allSuspended (c.data.headD 8))).foldl (fun (a : Module) c => a.ok c []) m

/-- The suspended bits of STATUS follow the partition bits. -/
def Module.setSuspended (v : Nat) (m : Module) : Module :=
  ({ m with sched := { m.sched with suspended := v } }).set Reg.SCHED.STATUS_SUSPENDED v

/-- SCHED_SUSPEND: PARTITION 0x00 (R420). -/
def suspendCmd (c : RunCmd) (m : Module) : Module :=
  let p := u8 c.payload 0
  m.checked c [(1, 7)] [(m.partOk p, bad 0), (!(bit m.sched.suspended p), stop .busy)] (fun m =>
    (((m.setSuspended (m.sched.suspended ||| 2 ^ p)).followHolds).await c [p]).finishSuspends)

/-- SCHED_PARTITION_QUERY: the record of R402 with HOST_CREDITS as applied (R421). -/
def partRecord (x : PartCfg) : Bytes :=
  leBytes 8 x.attnMask ++ leBytes 2 x.strandFirst ++ leBytes 2 x.strandCount ++ leBytes 1 x.flags ++ zeros 3 ++
  leBytes 4 x.hbmQuota ++ leBytes 4 x.entryQuota ++ leBytes 4 x.ligQuota ++ leBytes 2 x.hostCredits ++ zeros 34

def partQueryCmd (c : RunCmd) (m : Module) : Module :=
  let p := u8 c.payload 0
  m.checked c [(1, 7)] [(m.partOk p, bad 0)] (fun m => m.ok c (partRecord (m.part p)))

def execSchedTableLoad (src : Src) (s : State) : Out := run (onCmd 0x0E00 src tableLoadCmd) s
def execSchedTableOff (src : Src) (s : State) : Out := run (onCmd 0x0E01 src tableOffCmd) s
def execSchedJobSet (src : Src) (s : State) : Out := run (onCmd 0x0E10 src jobSetCmd) s
/-- SCHED_SUSPEND's row: the command starts, or one that waits completes when the last job or program has come to its boundary
(R413, R420). -/
def suspendRow (src : Src) (m : Module) : Module :=
  if (m.cmdOf src).any (fun c => c.opcode == 0x0E20 && c.stage == .waiting) then m.finishSuspends
  else onCmd 0x0E20 src suspendCmd m

def execSchedSuspend (src : Src) (s : State) : Out := run (suspendRow src) s
def execSchedPartitionQuery (src : Src) (s : State) : Out := run (onCmd 0x0E30 src partQueryCmd) s

/-! ### Slot boundaries -/

/-- Without a table, slot arbitration has no slots to give: NO_SLOTS is set on every instance that slots (R432). -/
def Module.noSlots (m : Module) : Module :=
  (List.range 93).foldl (fun (a : Module) i =>
    if a.flag (reedFld Reg.REED.CTRL_SLOT i) then a.set (reedFld Reg.REED.STATUS_NO_SLOTS i) 1 else a) m

/-- At a cycle start: the pending epoch, the loaded bank and the switch-off take effect, and the commands that waited for
them complete (R408, R411). -/
def Module.cycleStart (m : Module) : Module :=
  let s := m.sched
  let s1 := { s with epoch := s.nextEpoch.getD s.epoch, nextEpoch := none }
  let s2 := if s1.pending then { s1 with active := 1 - s1.active, pending := false, cycleOn := true } else s1
  let s3 := if s2.offPending then
      (if s2.active == 0 then { s2 with bank0 := { s2.bank0 with rtMask := 0 }, offPending := false, cycleOn := false }
       else { s2 with bank1 := { s2.bank1 with rtMask := 0 }, offPending := false, cycleOn := false })
    else s2
  let m1 := { m with sched := s3 }
  let m2 := ((((m1.set Reg.SCHED.TABLE_ACTIVE_BANK s3.active).set Reg.SCHED.TABLE_PENDING (b2n s3.pending)).set
    Reg.SCHED.TABLE_ON (b2n s3.cycleOn)).set Reg.SCHED.TABLE_RT_MASK m1.bank.rtMask)
  let m3 := if s.pending then (m2.waitingCmds 0x0E00 (fun _ => true)).foldl (fun (a : Module) c => a.ok c []) m2 else m2
  if s.offPending then (m3.waitingCmds 0x0E01 (fun _ => true)).foldl (fun (a : Module) c => a.ok c []) m3.noSlots else m3

/-- The real-time partitions whose bits stand in a field of the slot's entry. -/
def Module.slotBits (m : Module) (entry lo : Nat) : Nat := bits entry (lo + 7) lo &&& m.bank.rtMask

/-- The foreground state becomes that of slot number n, and pre-emption and resumption follow (R410). -/
def Module.enterSlot (n : Nat) (m : Module) : Module :=
  let e := if m.sched.cycleOn then m.slotEntry n else 0
  let fg := m.slotBits e 0
  let m1 := { m with sched := { m.sched with foreground := fg, lastBoundary := some n } }
  let m2 := ((m1.set Reg.SCHED.STATUS_FOREGROUND fg).set Reg.SCHED.SLOT_INDEX (n % 16384)).set
    Reg.SCHED.SLOT_CYCLE (n / 16384 % 2 ^ 32)
  m2.followHolds.finishSuspends

/-- No slot is running: the counter is below the epoch that has just taken effect (R409). -/
def Module.beforeEpoch (m : Module) : Module :=
  let m1 := { m with sched := { m.sched with foreground := 0, buildSlot := 0, lastBoundary := none } }
  (((m1.set Reg.SCHED.STATUS_BEFORE_EPOCH 1).set Reg.SCHED.STATUS_FOREGROUND 0).followHolds).finishSuspends

/-- The slot that the epoch in force gives the instant begins; none does when an epoch that has just taken effect at a cycle
start lies ahead (R408, R409). -/
def Module.beginSlot (m : Module) : Module :=
  match m.slotNumber m.clk.now with
  | some k =>
    let m1 := m.enterSlot k
    let e := if m1.sched.cycleOn then m1.slotEntry k else 0
    { m1 with sched := { m1.sched with buildSlot := m1.slotBits e 8 } }
  | none => m.beforeEpoch

/-- When the next boundary is due: the start of the slot after the last one acted on, or the epoch. -/
def slotBoundaryDue (m : Module) : Nat :=
  match m.sched.lastBoundary with
  | some n => m.dueAt (m.sched.epoch + (n + 1) * 1000)
  | none => m.dueAt m.sched.epoch

/-- What a time step does to the schedule (R409, R412): boundaries passed over are counted and not acted on, the
foreground state becomes the new slot's, and after a backward step nothing is acted on until the last boundary is passed
again. -/
def Module.schedStep (old : Nat) (m : Module) : Module :=
  if m.sched.lastBoundary.isNone && decide (m.clk.now < m.sched.epoch) then m
  else
    let newSlot := m.slotNumber m.clk.now
    let skipped := match newSlot, m.sched.lastBoundary with
      | some n, some k => n - k
      | some n, none => n + 1
      | none, _ => 0
    let m1 := (m.set Reg.SCHED.STATUS_TIME_STEP 1).event 0x0E02 0xFF 1 skipped 0
    if old ≤ m.clk.now then
      match newSlot with
      | some n =>
        let m2 := m1.bumpBy Reg.SCHED.SLOTS_SKIPPED_COUNT skipped
        if skipped == 0 then m2
        else
          let crossed := match m.sched.lastBoundary with
            | some k => decide (k / 16384 < n / 16384)
            | none => true
          let m3 := if crossed then m2.cycleStart else m2
          let m4 := (m3.bumpBy Reg.SCHED.BUILD_SLOTS_UNUSED_COUNT (popcount 8 m3.sched.buildSlot)).beginSlot
          { m4 with sched := { m4.sched with buildSlot := 0 } }
      | none => m1
    else if m.clk.now < m.sched.epoch then
      let m2 := { m1.bumpBy Reg.SCHED.BUILD_SLOTS_UNUSED_COUNT (popcount 8 m1.sched.buildSlot) with
        sched := { m1.sched with foreground := 0, buildSlot := 0 } }
      ((m2.set Reg.SCHED.STATUS_BEFORE_EPOCH 1).set Reg.SCHED.STATUS_FOREGROUND 0).followHolds
    else m1.set Reg.SCHED.STATUS_BEFORE_EPOCH 0

/-- When the window of job j ends by time. -/
def preemptDue (j : Nat) (m : Module) : Nat :=
  match (m.strand.jobs.get j).bind (·.window) with
  | some t => t + m.get Reg.SCHED.CTRL_PREEMPT_WINDOW_NS
  | none => 0

/-- PREEMPT_WINDOW_EXPIRY: the window of job j has ended by time; the job is suspended, its credits return and its
objects are revoked (R413). -/
def preemptExpiry (j : Nat) (m : Module) : Module :=
  match (m.strand.jobs.get j).bind (·.window) with
  | some _ =>
    ((((m.bump Reg.SCHED.WINDOW_EXPIRIES_COUNT).set Reg.SCHED.STATUS_WINDOW_EXPIRED 1).suspendJob j).blockEvent
      14).finishSuspends
  | none => m

def execPreemptWindowExpiry (j : Nat) (s : State) : Out := runAt (preemptDue j) (preemptExpiry j) s

/-! ### Reed arbiters -/

/-- Bytes in 1,000 ns of an egress sub-port by its port's split (R458), and of the partner link by its lanes (R312). -/
def Module.linkRate (m : Module) (i : Nat) : Nat :=
  if 72 ≤ i ∧ i < 88 then
    let split := (nthD m.bell.ports ((i - 72) / 4) ⟨0, 1500, 0⟩).split
    if split == 0 then 100000 else if split == 1 then 50000 else if split == 2 then 25000 else 12500
  else m.get Reg.MIRROR.STATE_LANES * 14000

/-- When the running grant of instance i reaches BURST_NS. -/
def burstDue (i : Nat) (m : Module) : Nat :=
  (m.reedInst i).granted + m.get (reedFld Reg.REED.BURST_BURST_NS i)

def execBurstExpiry (i : Nat) (s : State) : Out :=
  if i < 93 then runAt (burstDue i) (Module.reedBurst i) s else .refused .illFormed

end Sys2Proof.Machine
end

