-- ==== Sys2Proof/Machine/OpsAdmit.lean ====
section
/-!
DEFINITION. Admission, shared by both paths (R158, R159, R195, R198, R201), and the input of a request (R155, R221 to
R229).
-/

namespace Sys2Proof.Machine

open Sys2Proof

/-- What an admission asks for: the fields of STEP_ADMIT that a session ADMIT carries too (R176, R467). -/
structure Admit where
  capsule : Nat
  partition : Nat
  priority : Nat
  flags : Nat
  model : Nat
  maxTokens : Nat
  deadline : Nat
  return_ : Nat
  prefixHandle : Nat
  adapters : List Nat
  deriving DecidableEq, Repr

/-! ### Input -/

/-- Input as it is checked: its tokens, behind a flushed carry or not, and for text the bytes tokenized, the replacements made
and the new carry; or the failed check. -/
inductive Input where
  | tokens (ts : List Nat)
  | flushed (ts : List Nat)
  | text (bytes : Nat) (ts : List Nat) (replaced : Nat) (carry : Bytes)
  | bad
  deriving DecidableEq, Repr

/-- The tokens of an input. -/
def Input.list : Input → List Nat
  | .tokens ts => ts
  | .flushed ts => ts
  | .text _ ts _ _ => ts
  | .bad => []

/-- Input bytes of a kind for a capsule: token IDs below VOCAB (R229), or text through its tokenizer and carry (R226). -/
def Module.parseInput (m : Module) (id kind : Nat) (b : Bytes) : Input :=
  let c := m.slot (id / 256)
  match m.tokImage c.tokenizer with
  | none => .bad
  | some t =>
    if kind == 0 then
      let ts := (List.range (b.length / 4)).map (fun i => u32 b (4 * i))
      if b.length % 4 != 0 || !ts.all (fun x => decide (x < t.vocab)) then .bad
      else if c.carry.isEmpty || ts.isEmpty then .tokens ts else .flushed (t.flush ++ ts)
    else if b.isEmpty then .tokens []
    else
      let (ts, k, carry) := t.tokenize c.carry b
      .text (c.carry.length + b.length - carry.length) ts k carry

/-- A capsule's carry is flushed (R228). -/
def Module.flushCarry (id : Nat) (m : Module) : Module :=
  (((m.bump Reg.MOUTH.INPUT_INVALID_COUNT).bump Reg.MOUTH.CARRY_FLUSHES_COUNT).set Reg.MOUTH.STATUS_INVALID 1).writeText id
    (fun c => { c with carry := [] })

/-- Input that is taken: the carry follows, and the Mouthpiece counts (R226 to R228). -/
def Module.tookInput (id : Nat) (x : Input) (m : Module) : Module :=
  match x with
  | .text n ts k carry =>
    let m1 := ((m.bumpBy Reg.MOUTH.BYTES_TOKENIZED_COUNT n).bumpBy Reg.MOUTH.TOKENS_PRODUCED_COUNT ts.length)
    let m2 := if k == 0 then m1 else (m1.bumpBy Reg.MOUTH.INPUT_INVALID_COUNT k).set Reg.MOUTH.STATUS_INVALID 1
    if (m2.slot (id / 256)).carry == carry then m2 else m2.writeText id (fun c => { c with carry := carry })
  | .flushed _ => m.flushCarry id
  | _ => m

/-! ### The checks -/

/-- Parts 1 to 8 of check 9 (R201); adOff and prefixOff are the fields' offsets. -/
def Module.pinChecks (m : Module) (a : Admit) (c : Capsule) (adOff prefixOff : Nat) : List (Bool × Verdict) :=
  let ads := a.adapters.filter (· != 0xFFFF)
  let pinned := ads.map (m.pinFor c)
  let uses := a.prefixHandle != 0 && c.tokens == 0
  let x := m.prefix_ a.prefixHandle
  [(ads.all (fun i => decide (i ≤ 4095)) && distinct ads, bad adOff),
   (pinned.all (·.isSome), stop .stale),
   (ads.all (fun i => ((m.steps.adapters.get i).map (·.partition)) == some a.partition) &&
      (ads.isEmpty || (m.pstep a.partition).pinTable.isSome), stop .denied),
   (pinned.all (fun v => decide (((v.map (·.pins)).getD 0) < 2 ^ 32 - 1)), stop .busy),
   (!uses || x.isSome, stop .stale),
   (!uses || (x.map (fun x => x.fmt == c.fmt && x.layers == c.layers && x.slotBytes == c.slotBytes &&
      x.tokenizer == c.tokenizer && x.model == a.model)).getD false, bad prefixOff),
   (!uses || (x.map (·.partition)) == some a.partition, stop .denied),
   (!uses || decide (listBlocks ((x.map (·.map.length)).getD 0) - c.lists.length ≤ m.listsFree), stop .noSpace)]

/-- Checks 2 to 9 of R158 in their order; a FENCED module denies every
admission, and one that drains too (R329, R338). -/
def Module.admitChecks (m : Module) (a : Admit) (modelOff adOff prefixOff : Nat) : List (Bool × Verdict) :=
  let c := m.slot (a.capsule / 256)
  let live := (m.capsule a.capsule).isSome
  let mo := m.attn.models.get a.model
  let acc := m.account c.account
  [(live, stop .stale), (m.owns c && !m.fenced && !m.mirror.draining, stop .denied), (c.partition == a.partition, stop .denied),
   (!c.damaged && !c.headerBad && !m.mapBad c, stop .damaged),
   ((c.state == 1 || c.state == 3 || c.state == 4) && (m.requestOf a.capsule).isNone, stop .busy),
   ((mo.map (fun x => x.layers == c.layers && x.latFmt == c.fmt && x.slotBytes == c.slotBytes)).getD false, bad modelOff),
   ((mo.map (·.partition)) == some a.partition && acc.open_ && acc.partition == a.partition &&
      (m.tokImage c.tokenizer).isSome &&
      (c.grammar == 0xFFFFFFFF || ((m.gramImage c.grammar).map (fun g => g.tokenizer == c.tokenizer)).getD false),
    stop .denied)] ++
  m.pinChecks a c adOff prefixOff

/-- Check 10 for an input of n tokens: tokens of a prefix that is resolved count (R158). -/
def Module.inputRoom (m : Module) (a : Admit) (n : Nat) : Bool :=
  let c := m.slot (a.capsule / 256)
  let have_ := if a.prefixHandle != 0 && c.tokens == 0 then ((m.prefix_ a.prefixHandle).map (·.tokens)).getD 0 else c.tokens
  decide (have_ + n ≤ 1048576) && decide (blocksFor 0 n ≤ m.inputFree)

/-- HBM is under pressure, and neither the host swap region nor flash takes a frame: no new sequence is let in (R39). -/
def Module.noSwap (m : Module) : Bool :=
  decide (m.tierUnused 0 < m.get Reg.SLIDE.HBM_WATER_FREE_LOW) && !m.tierTakes 2 && !m.tierTakes 3

/-- Check 11: a request entry is free and the partition is below its quota (R158), and the tiers have room for relief (R39). -/
def Module.entryFree (m : Module) (p : Nat) : Bool :=
  let q := m.get (Reg.STEP.ENTRY_QUOTA_ENTRIES.at 8 p)
  let held := (m.steps.reqs.vals.filter (fun r => r.partition == p)).length
  (m.steps.reqs.lowestFree 0 262144).isSome && (q == 0 || decide (held < q)) && !m.noSwap

/-! ### Taking a request -/

/-- The pins of an admission in the order of ADAPTERS (R198). -/
def Module.pinList (m : Module) (a : Admit) (c : Capsule) : List Nat :=
  a.adapters.map (fun i => if i == 0xFFFF then 0xFFFFFFFF
    else ((m.pinFor c i).map (fun v => i + v.version * 65536)).getD 0xFFFFFFFF)

/-- A prefix becomes the start of an empty capsule (R195): its frames are shared once more and the header follows. -/
def Module.installPrefix (id h : Nat) (m : Module) : Module :=
  match m.prefix_ h with
  | none => m
  | some x =>
    let c := m.slot (id / 256)
    let r := m.takeLists (listBlocks x.map.length - c.lists.length)
    let m1 := x.map.foldl (fun (a : Module) f => a.addShare f) r.2
    m1.updCap id (fun k => { k with
      map := x.map, lists := k.lists ++ r.1.getD [], pages := x.pages, shared := x.pages, tokens := x.tokens,
      prefixHandle := h })

/-- The text record of an admission (R230). -/
def Module.newText (m : Module) (p : Nat) : TextRec :=
  let s := m.get (Reg.MOUTH.STOP_DEFAULT_SET.at 8 p)
  ⟨if m.mouth.stops.has s then s else 0xFFFF, 0, 0, []⟩

/-- The entry that an admission takes: pins and prefix are in place, and cmd reserves it when a mailbox admission's input
is still to be read (R158, R159). The count of tokens handed over starts afresh in its sample record (R238). Gives the
index. -/
def Module.takeEntry (a : Admit) (cmd : Option Nat) (m : Module) : Module × Nat :=
  let c := m.slot (a.capsule / 256)
  let ps := m.pinList a c
  let i := (m.steps.reqs.lowestFree 0 262144).getD 0
  let m1 := (m.pins true ps).updCap a.capsule (fun k => { k with pins := ps })
  let m2 := if a.prefixHandle != 0 && c.tokens == 0 then m1.installPrefix a.capsule a.prefixHandle else m1
  let k := m2.slot (a.capsule / 256)
  let priv := bit a.flags 0 || k.privileged || m2.realTime a.partition
  let r : Req := ⟨a.capsule, 0, a.flags / 2 % 4 * 2 + b2n priv, a.partition, a.priority, k.tokens, a.deadline, k.account,
    a.model, 0, [], [], 0, [], a.maxTokens, 0, a.return_, 0, 0, 0, 0, false, false, false,
    m2.newText a.partition, none, none, none, cmd, true, false, false, false⟩
  ({ m2 with steps := { m2.steps with reqs := m2.steps.reqs.put i r } }.clearHands i, i)

/-- An admission is undone: pins drop, the resolved prefix goes, and the entry is free again (R158). olds are the pins and
the prefix handle that the header held. -/
def Module.undoEntry (i : Nat) (olds : List Nat) (oldPrefix : Nat) (resolved : Bool) (m : Module) : Module :=
  match m.steps.reqs.get i with
  | none => m
  | some r =>
    let m1 := m.pins false (m.slot (r.capsule / 256)).pins
    let m2 := if resolved then m1.releaseFrames r.capsule else m1
    let m3 := m2.updCap r.capsule (fun k => { k with
      pins := olds, prefixHandle := if resolved then oldPrefix else k.prefixHandle })
    ({ m3 with steps := { m3.steps with reqs := m3.steps.reqs.del i } }).endRevive i

/-- The input has passed: the request is READY, the capsule ACTIVE, a park is abandoned, and the pins count (R158,
R159). -/
def Module.activate (i : Nat) (x : Input) (resolved : Bool) (m : Module) : Module :=
  match m.steps.reqs.get i with
  | none => m
  | some r =>
    let m1 := m.updReq i (fun r => { r with state := 1, reserved := none })
    let m2 := if (m1.slot (r.capsule / 256)).state == 3 then m1.abandonPark r.capsule else m1
    let m3 := ((m2.writeCap r.capsule (fun k => { k with state := 2 })).tookInput r.capsule x).followPrefix
      (m2.slot (r.capsule / 256)).prefixHandle
    let n := ((m3.slot (r.capsule / 256)).pins.filter (· != 0xFFFFFFFF)).length
    let m4 := ((m3.bump Reg.STEP.ADMITTED_COUNT).bumpBy Reg.BUDGET.PINS_TAKEN_COUNT n).bumpBy Reg.BUDGET.PREFIX_INSTALLS_COUNT
      (b2n resolved)
    (m4.touchReq i).appendInput i x.list

/-- The counter of a refused admission. -/
def Module.countRefused (st : Status) (m : Module) : Module :=
  if st == .busy then m.bump Reg.STEP.ADMIT_BUSY_COUNT else m.bump Reg.STEP.ADMIT_REFUSED_COUNT

/-- Token IDs that are not below the VOCAB of the capsule's tokenizer fail check 1 (R158, R229). -/
def Module.tokensOk (m : Module) (id kind : Nat) (b : Bytes) : Bool :=
  kind != 0 || (m.capsule id).isNone || (m.tokImage (m.slot (id / 256)).tokenizer).isNone || m.parseInput id kind b != .bad

/-- The first check from 2 on of an admission that fails, when the input is at hand (the session path, R158). -/
def Module.admitFails (m : Module) (a : Admit) (modelOff adOff prefixOff inputOff : Nat) (kind : Nat) (b : Bytes) :
    Option Verdict :=
  let x := m.parseInput a.capsule kind b
  match firstFail (m.admitChecks a modelOff adOff prefixOff) with
  | some v => some v
  | none => firstFail [(x != .bad, bad inputOff), (m.inputRoom a x.list.length, stop .noSpace),
      (m.entryFree a.partition, stop .busy)]

/-- The session path takes the request whole (R159). -/
def Module.admitNow (a : Admit) (kind : Nat) (b : Bytes) (m : Module) : Module × Nat :=
  let x := m.parseInput a.capsule kind b
  let resolved := a.prefixHandle != 0 && (m.slot (a.capsule / 256)).tokens == 0
  let (m1, i) := m.takeEntry a none
  ((m1.revive i a.capsule).activate i x resolved, i)

/-! ### STEP_ADMIT -/

/-- The fields of a STEP_ADMIT payload (R176). -/
def Admit.ofPayload (b : Bytes) : Admit :=
  ⟨u32 b 0, u8 b 4, u8 b 5, u8 b 6, u16 b 8, u32 b 0x0C, u64 b 0x10, u32 b 0x18, u32 b 0x1C,
   (List.range 4).map (fun i => u16 b (0x20 + 2 * i))⟩

/-- STEP_ADMIT fails with a verdict. A capsule whose header or map did not pass its check is damaged (R47, R54). -/
def Module.refuseAdmit (c : RunCmd) (v : Verdict) (m : Module) : Module :=
  (((m.loadHeader (u32 c.payload 0)).loadMap (u32 c.payload 0)).countRefused v.status).verdict c v

/-- STEP_ADMIT: checks 1 to 9 and 11, then the reservation, the revive and the read of the input (R159, R176). -/
def stepAdmitCmd (c : RunCmd) (m : Module) : Module :=
  let b := c.payload
  let a := Admit.ofPayload b
  let kind := u8 b 7
  let addr := u64 b 0x28
  let len := u32 b 0x30
  let host := bit a.flags 2
  let ranges : List (Bool × Verdict) :=
    [(a.capsule % 256 != 255, bad 0), (m.partOk a.partition, bad 4), (decide (a.flags ≤ 7), bad 6), (decide (kind ≤ 1), bad 7),
     (decide (a.model < 64), bad 8), (if host then a.return_ == 0 else a.return_ != 0, bad 0x18),
     (len != 0 || addr == 0, bad 0x28), (decide (len ≤ 16777216) && (kind != 0 || len % 4 == 0), bad 0x30)]
  match reservedOk b [(0x0A, 2), (0x34, 4)] with
  | some v => m.refuseAdmit c v
  | none =>
    match firstFail ranges with
    | some v => m.refuseAdmit c v
    | none => m.heldOr c a.capsule (fun m =>
      match firstFail (m.admitChecks a 8 0x20 0x1C ++
          [(!host || !m.mute a.partition, stopMute), (m.entryFree a.partition, stop .busy), (len == 0 || m.cmdMay c a.partition addr len false, stopFw)]) with
      | some v => m.refuseAdmit c v
      | none =>
        let k := m.slot (a.capsule / 256)
        let resolved := a.prefixHandle != 0 && k.tokens == 0
        let (m1, i) := m.takeEntry a (some c.id)
        let m2 := m1.revive i a.capsule
        if len == 0 then ((m2.activate i (.tokens []) resolved).ok c (leBytes 4 i))
        else m2.await c ([i, b2n resolved, k.prefixHandle] ++ k.pins))

/-- The waiting admission of a source. -/
def Module.waitingAdmit (m : Module) (src : Src) : Option RunCmd :=
  (m.cmdOf src).filter (fun c => c.opcode == 0x0500 && c.stage == .waiting)

/-- A waiting admission ends with a failed check: everything is undone (R158, R159). -/
def Module.failAdmit (c : RunCmd) (v : Verdict) (m : Module) : Module :=
  (m.undoEntry (c.data.headD 0) (c.data.drop 3) (nthD c.data 2 0) (nthD c.data 1 0 == 1)).refuseAdmit c v

/-- ADMIT_INPUT_READ: the read of the input has ended, well or not; the input is checked and the request begins, or the
admission is undone (R159). -/
def admitInputRead (src : Src) (ok : Bool) (m : Module) : Module :=
  match m.waitingAdmit src with
  | none => m
  | some c =>
    let a := Admit.ofPayload c.payload
    let addr := u64 c.payload 0x28
    let len := u32 c.payload 0x30
    let i := c.data.headD 0
    let needs := cmdNeedsHost c addr
    if needs && m.host.d3hot && m.host.linkUp then m
    else if !ok || (needs && !m.host.linkUp) then m.failAdmit c (stop .timeout)
    else
      let x := m.parseInput a.capsule (u8 c.payload 7) (m.cmdRead c addr len)
      match firstFail [(x != .bad, bad 0x28),
          (decide ((m.slot (a.capsule / 256)).tokens + x.list.length ≤ 1048576) &&
            decide (blocksFor 0 x.list.length ≤ m.inputFree), stop .noSpace)] with
      | some v => m.failAdmit c v
      | none => (m.activate i x (nthD c.data 1 0 == 1)).ok c (leBytes 4 i)

def execStepAdmit (src : Src) (s : State) : Out := run (onCmd 0x0500 src stepAdmitCmd) s
def execAdmitInputRead (src : Src) (ok : Bool) (s : State) : Out := run (admitInputRead src ok) s

end Sys2Proof.Machine
end

