-- ==== Sys2Proof/Machine/Steps.lean ====
section
/-!
DEFINITION. Commands on requests (R177 to R182) and the events that the host and the partner cause in the request table.
-/

namespace Sys2Proof.Machine

open Sys2Proof

/-! ### Commands on a request -/

/-- Checks of a command that names a request (R153): its fields' ranges, then its index and capsule (assumption 46). -/
def reqChecks (m : Module) (id i : Nat) (ranges : List (Bool × Verdict) := []) : List (Bool × Verdict) :=
  (id % 256 != 255, bad 0) :: (ranges ++ [((m.request i id).isSome, stop .stale)])

/-- A request that is not in a step goes on with new input: TOOL_WAIT becomes READY and a pending wait is cancelled
(R156, R175, R177; assumption 43). -/
def Module.resumeReq (i : Nat) (m : Module) : Module :=
  m.updReq i (fun r => { r with
    state := if r.state == 3 then 1 else r.state,
    flags := if bit r.flags 5 then r.flags - 32 else r.flags })

/-- Input is appended to request i: at once, or held until it leaves its step (R175). -/
def Module.addInput (i : Nat) (x : Input) (m : Module) : Module :=
  match m.steps.reqs.get i with
  | none => m
  | some r =>
    let m1 := (m.tookInput r.capsule x).resumeReq i
    if r.state == 2 then (m1.updReq i (fun r => { r with held := r.held ++ x.list })).touchReq i
    else (m1.touchReq i).appendInput i x.list

/-- STEP_APPEND (R177). -/
def stepAppendCmd (c : RunCmd) (m : Module) : Module :=
  let b := c.payload
  let id := u32 b 0
  let i := u32 b 4
  let kind := u8 b 8
  let len := u32 b 0x0C
  let addr := u64 b 0x10
  let st := ((m.request i id).map (·.state)).getD 0
  let p := ((m.request i id).map (·.partition)).getD 8
  m.checked c [(9, 3)]
    (reqChecks m id i [(decide (kind ≤ 1), bad 8), (decide (len ≤ 16777216) && (kind != 0 || len % 4 == 0), bad 0x0C),
      (len != 0 || addr == 0, bad 0x10)] ++ [(st != 5, stop .busy), (!m.fenced, stop .denied),
      (len == 0 || m.cmdMay c p addr len false, stopFw)])
    (fun m => m.heldOr c id (fun m =>
      let go (m : Module) : Module :=
        let x := m.parseInput id kind (m.cmdRead c addr len)
        match m.request i id with
        | none => m.fail c .stale
        | some r =>
          if x == .bad then (if (m.tokImage (m.slot (id / 256)).tokenizer).isNone then m.fail c .denied else m.badField c 0x10)
          else if !m.inputFits r x.list.length then m.fail c .noSpace
          else (m.addInput i x).ok c []
      if len == 0 then (m.addInput i (.tokens [])).ok c []
      else if cmdNeedsHost c addr then m.withHost c go else go m))

/-- STEP_WAIT (R178). -/
def stepWaitCmd (c : RunCmd) (m : Module) : Module :=
  let id := u32 c.payload 0
  let i := u32 c.payload 4
  let st := ((m.request i id).map (·.state)).getD 0
  m.checked c [] (reqChecks m id i ++ [(st != 5, stop .busy), (!m.fenced, stop .denied)]) (fun m => m.heldOr c id (fun m =>
    let m1 := if st == 1 then m.updReq i (fun r => { r with state := 3 })
      else if st == 2 || st == 4 then m.updReq i (fun r => { r with flags := r.flags ||| 32 }) else m
    (if st == 3 then m1 else m1.touchReq i).ok c []))

/-- A request ends on a command: at once outside a step, and after the step's commit in one (R156, R175). -/
def Module.endByHost (i reason : Nat) (park : Option (Nat × Option Nat)) (m : Module) : Module :=
  match m.steps.reqs.get i with
  | none => m
  | some r =>
    let m1 := m.updReq i (fun r => { r with parkTo := match park with
      | some x => some x
      | none => r.parkTo })
    if r.state == 2 then
      (m1.updReq i (fun r => { r with flags := r.flags ||| 16, endReason := if bit r.flags 4 then r.endReason else reason })).touchReq i
    else m1.endNow i reason 0

/-- STEP_END (R178). -/
def stepEndCmd (c : RunCmd) (m : Module) : Module :=
  let id := u32 c.payload 0
  let i := u32 c.payload 4
  let st := ((m.request i id).map (·.state)).getD 0
  m.checked c [] (reqChecks m id i ++ [(st != 5, stop .busy), (!m.fenced, stop .denied)]) (fun m => m.heldOr c id (fun m =>
    (m.endByHost i 3 none).ok c []))

/-- STEP_QUERY (R178). -/
def stepQueryCmd (c : RunCmd) (m : Module) : Module :=
  let id := u32 c.payload 0
  let i := u32 c.payload 4
  m.checked c [] (reqChecks m id i) (fun m =>
    match m.request i id with
    | some r => m.ok c (reqBytes m r)
    | none => m)

/-- Request i is in a step whose account phase has passed for it, so that the next commit is that step's. -/
def Module.accountedIn (m : Module) (i : Nat) : Bool := ((m.seqOf i).map (fun x => x.2.accounted)).getD false

/-- STEP_SET. A MAX_TOKENS at or below GENERATED ends the request at its next commit: the account phase finds it, and a step
that is past that phase ends it by END_PENDING (R179). -/
def stepSetCmd (c : RunCmd) (m : Module) : Module :=
  let b := c.payload
  let id := u32 b 0
  let i := u32 b 4
  let mask := u8 b 8
  m.checked c [(0x0A, 2)] (reqChecks m id i [(decide (mask ≤ 7), bad 8)] ++ [(!m.fenced, stop .denied)]) (fun m =>
    m.heldOr c id (fun m =>
      let most := u32 b 0x0C
      let done := m.accountedIn i
      ((m.updReq i (fun r =>
        let past := bit mask 2 && most != 0 && decide (most ≤ r.generated) && r.state == 2 && done && !(bit r.flags 4)
        { r with
          priority := if bit mask 0 then u8 b 9 else r.priority,
          deadline := if bit mask 1 then u64 b 0x10 else r.deadline,
          maxTokens := if bit mask 2 then most else r.maxTokens,
          flags := if past then r.flags ||| 16 else r.flags,
          endReason := if past then 2 else r.endReason })).touchReq i).ok c []))

def execStepAppend (src : Src) (s : State) : Out := run (onCmd 0x0501 src stepAppendCmd) s
def execStepWait (src : Src) (s : State) : Out := run (onCmd 0x0502 src stepWaitCmd) s
def execStepEnd (src : Src) (s : State) : Out := run (onCmd 0x0503 src stepEndCmd) s
def execStepQuery (src : Src) (s : State) : Out := run (onCmd 0x0504 src stepQueryCmd) s
def execStepSet (src : Src) (s : State) : Out := run (onCmd 0x0505 src stepSetCmd) s

/-! ### Pools and rings -/

/-- STEP_POOL_BIND (R181, R464): the queue pair is connected, and the binding takes effect at the next build. -/
def poolBindCmd (c : RunCmd) (m : Module) : Module :=
  let b := c.payload
  let p := u8 b 0
  let e := u32 b 4
  let size := u32 b 0x14
  m.checked c [(1, 3)]
    [(m.partOk p, bad 0), (isPow2 size && decide (8388608 ≤ size) && decide (size ≤ 1073741824), bad 0x14),
     ((m.endpoint e).isSome, stop .denied)]
    (fun m =>
      let m1 := m.updPart p (fun x => { x with nextPool := some ⟨e, u64 b 8, u32 b 0x10, size, 0⟩ })
      let m2 := if m1.bell.qps.has e then m1
        else ({ m1 with bell := { m1.bell with qps := m1.bell.qps.put e ⟨e, false, false⟩ } }).enqueue
          (m1.queueFor e (8 + p)) (.connect e)
      m2.ok c [])

/-- STEP_RING_SET (R182). -/
def ringSetCmd (c : RunCmd) (m : Module) : Module :=
  let b := c.payload
  let p := u8 b 0
  let size := u32 b 4
  let base := u64 b 8
  let x := m.pstep p
  m.checked c [(2, 2)]
    [(m.partOk p, bad 0), (decide (96 ≤ u8 b 1) && decide (u8 b 1 ≤ 127), bad 1),
     (size % 4096 == 0 && decide (65536 ≤ size) && decide (size ≤ 1073741824), bad 4), (base % 4096 == 0, bad 8),
     (x.wait.isEmpty && m.get (ringHead p) == m.get (ringTail p), stop .busy), (m.engineMay p 2 base size, stopFw)]
    (fun m => (((m.updPart p (fun x => { x with ring := some ⟨u8 b 1, size, base⟩ })).set (ringHead p) 0).set (ringTail p) 0).ok c
      [])

def execStepPoolBind (src : Src) (s : State) : Out := run (onCmd 0x0520 src poolBindCmd) s
def execStepRingSet (src : Src) (s : State) : Out := run (onCmd 0x0521 src ringSetCmd) s

/-- The write of RING_TAIL lies in ring order: a multiple of 8 below the ring's size that stays between the old TAIL and
HEAD (R173, R184). -/
def Module.tailOk (m : Module) (p v : Nat) : Bool :=
  match (m.pstep p).ring with
  | none => false
  | some r =>
    let tail := m.get (ringTail p)
    let head := m.get (ringHead p)
    v % 8 == 0 && decide (v < r.size) && decide ((v + r.size - tail) % r.size ≤ (head + r.size - tail) % r.size)

/-- Records that wait for the host ring of partition p pass to it where it has room (R173). -/
def Module.ringGo (p : Nat) (m : Module) : Module :=
  (if m.hostUp then m.drainRing p (m.pstep p).wait.length else m).ringFlag p

/-- Records whose commit found the host link down pass to the ring, with the commit's MSI-X after them (R173, R436). -/
def Module.ringResume (p : Nat) (m : Module) : Module :=
  let m1 := m.ringGo p
  match (m1.pstep p).ring with
  | some r => if (m1.pstep p).wait.length < (m.pstep p).wait.length then m1.msix r.vector else m1
  | none => m1

/-- RING_TAIL_WRITE: a host write of STEP.RING_TAILp; records that wait pass to the ring (R173). A write out of ring order
is dropped and counted (R439). -/
def ringTailWrite (p v : Nat) (m : Module) : Module :=
  if m.tailOk p v then (m.set (ringTail p) v).ringGo p else m.dropWrite (ringTail p).off

def execRingTailWrite (p v : Nat) (s : State) : Out :=
  runIf (p < 8) (fun m => if m.host.d3hot || !m.host.linkUp then m else ringTailWrite p v m) s

/-! ### STEP_BATCH -/

/-- Pairs of CAPSULE_ID and REQUEST at a host address. -/
def pairsOf (b : Bytes) (n : Nat) : List (Nat × Nat) := (List.range n).map (fun k => (u32 b (8 * k), u32 b (8 * k + 4)))

/-- Batches of a partition that are outstanding: not yet formed, or in a step that has not committed (R180). -/
def Module.batchesOut (m : Module) (p : Nat) : Nat :=
  (m.pstep p).batches.length + ((m.pstep p).live.filter (fun s => s.batch.isSome)).length

/-- STEP_BATCH (R180): the list is read and waits for its build. -/
def stepBatchCmd (c : RunCmd) (m : Module) : Module :=
  let b := c.payload
  let addr := u64 b 0
  let n := u16 b 8
  let p := u8 b 0x0A
  let x := m.pstep p
  m.checked c [(0x0B, 1)]
    [(decide (1 ≤ n) && decide (n ≤ 256), bad 8), (m.partOk p, bad 0x0A),
     (decide (m.coreCount p ≤ 8) && !m.fenced, stop .denied), (decide (m.batchesOut p < 2), stop .busy),
     (u32 b 0x0C == (x.built + 1 + x.batches.length) % 2 ^ 32, bad 0x0C), (m.cmdMay c p addr (8 * n) false, stopFw)]
    (fun m => m.withHost c (fun m =>
      let ps := pairsOf (m.cmdRead c addr (8 * n)) n
      (m.updPart p (fun x => { x with batches := x.batches ++ [(c.id, ps)] })).await c [p]))

def execStepBatch (src : Src) (s : State) : Out := run (onCmd 0x0510 src stepBatchCmd) s

end Sys2Proof.Machine
end

