-- ==== Sys2Proof/Machine/Build.lean ====
section
/-!
DEFINITION. Step building: what a build does before it chooses (R190, R96), the order (R163), what a step feeds (R166,
R204), page reserves and relief (R92), the work list (R167 to R170), the pin entries (R199) and the prefetch schedule (R83 to
R88).
-/

namespace Sys2Proof.Machine

open Sys2Proof

/-! ### Before the choice -/

/-- Requests of a partition, reserved ones left out. -/
def Module.reqsOf (m : Module) (p : Nat) : List (Nat × Req) :=
  m.steps.reqs.filter (fun (_, r) => r.partition == p && r.reserved.isNone)

/-- A pre-empted request that nothing holds any more goes on (R156). -/
def Module.unhold (i : Nat) (m : Module) : Module :=
  match m.steps.reqs.get i with
  | none => m
  | some r =>
    if r.state == 4 && !r.preRelief && !r.preBudget && !r.preSched then
      (m.updReq i (fun r => { r with
        state := if bit r.flags 5 then 3 else 1, flags := if bit r.flags 5 then r.flags - 32 else r.flags })).touchReq i
    else m

/-- A strict cut acts on the requests of its account at a build (R190). -/
def Module.strictCuts (p : Nat) (m : Module) : Module :=
  (m.reqsOf p).foldl (fun (a : Module) (i, r) =>
    let x := a.account r.account
    if !x.strict then a
    else if x.endOn then
      if r.state == 1 || r.state == 3 || r.state == 4 then (a.bump Reg.BUDGET.STRICT_PREEMPTS_COUNT).endNow i 6 0
      else if r.state == 2 && !(bit r.flags 4) then
        ((a.updReq i (fun r => { r with flags := r.flags ||| 16, endReason := 6 })).touchReq i).bump
          Reg.BUDGET.STRICT_PREEMPTS_COUNT
      else a
    else if r.state == 1 then
      ((a.updReq i (fun r => { r with state := 4, preBudget := true })).touchReq i).bump Reg.BUDGET.STRICT_PREEMPTS_COUNT
    else a) m

/-- READY requests of a suspended partition are pre-empted by the schedule (R420). -/
def Module.schedHolds (p : Nat) (m : Module) : Module :=
  if bit m.sched.suspended p then
    (m.reqsOf p).foldl (fun (a : Module) (i, r) =>
      if r.state == 1 then (a.updReq i (fun r => { r with state := 4, preSched := true })).touchReq i else a) m
  else m

/-- The reserve of a request: LAYERS frames when its next token starts a page (R92). -/
def Module.reserveOf (m : Module) (r : Req) : Nat :=
  let c := m.slot (r.capsule / 256)
  c.layers * ((r.length + 256) / 256 - c.pages)

/-- Requests pre-empted by relief are eligible again when the free HBM frames exceed FREE_TARGET by their reserve (R96). -/
def Module.unrelieve (p : Nat) (m : Module) : Module :=
  (m.reqsOf p).foldl (fun (a : Module) (i, r) =>
    if r.preRelief && decide (a.get Reg.SLIDE.HBM_WATER_FREE_TARGET + a.reserveOf r ≤ a.tierFree 0) then
      (a.updReq i (fun r => { r with preRelief := false })).unhold i
    else a) m

/-- Requests whose account is not positive are skipped with BUDGET_HELD (R162, R175, R189). -/
def Module.budgetSkips (p : Nat) (m : Module) : Module :=
  (m.reqsOf p).foldl (fun (a : Module) (i, r) =>
    if r.state == 1 && decide ((a.account r.account).balance ≤ 0) then
      ((a.updReq i (fun r => { r with flags := r.flags ||| 8 })).touchReq i).bump Reg.STEP.BUDGET_SKIPS_COUNT
    else a) m

/-- Every period end of the partition's accounts that has passed closes before the build (R187, R191). -/
def Module.closeAll (p : Nat) (m : Module) : Module :=
  (m.steps.accounts.keys).foldl (fun (a : Module) k => if (a.account k).partition == p then a.closePeriods k else a) m

/-- A new pool binding takes effect (R181). -/
def Module.takePool (p : Nat) (m : Module) : Module :=
  m.updPart p (fun x => match x.nextPool with
    | some q => { x with pool := some q, nextPool := none }
    | none => x)

/-- Cores of a partition that are in ATTENTION or SHARED mode at the build (R122, R162). -/
def Module.attnCores (m : Module) (p : Nat) : List Nat :=
  (List.range 64).filter (fun c => m.corePart c == some p && m.attends c)

/-! ### Choice -/

/-- Eligible but for its page reserve (R162), with input to feed (R229). -/
def Module.eligible (m : Module) (p : Nat) (r : Req) : Bool :=
  r.state == 1 && r.reserved.isNone && r.partition == p && decide (0 < (m.account r.account).balance) &&
  (m.pstep p).pool.isSome && !(m.attnCores p).isEmpty &&
  (!(bit r.flags 2) || decide ((m.pstep p).waitBytes ≤ 65536)) && !r.input.isEmpty

/-- The effective priority (R163). -/
def Module.effPriority (m : Module) (r : Req) : Nat :=
  let age := m.get Reg.STEP.ORDER_AGE_STEPS
  if age == 0 then r.priority else Min.min 255 (r.priority + r.waitSteps / age)

/-- The request is urgent (R163). -/
def Module.urgent (m : Module) (r : Req) : Bool :=
  r.deadline != 0 && decide (r.deadline ≤ m.clk.now + m.get Reg.STEP.ORDER_URGENT_NS)

/-- The keys of R163 as numbers, lower first. -/
def Module.orderKey (m : Module) (i : Nat) (r : Req) : List Nat :=
  let dl := if r.deadline == 0 then 2 ^ 64 else r.deadline
  if m.urgent r then [0, r.deadline, 0, 65535 - r.waitSteps, i]
  else [1, 255 - m.effPriority r, dl, 65535 - r.waitSteps, i]

/-- Lexicographic order of keys. -/
def keyLe : List Nat → List Nat → Bool
  | p :: ps, q :: qs => decide (p < q) || (p == q && keyLe ps qs)
  | _, _ => true

/-- The eligible requests of a partition in the order of R163. -/
def Module.ordered (m : Module) (p : Nat) : List (Nat × Req) :=
  sortBy (fun a b => keyLe (m.orderKey a.1 a.2) (m.orderKey b.1 b.2)) ((m.reqsOf p).filter (fun (_, r) => m.eligible p r))

/-! ### What a sequence feeds -/

/-- What the tree record of a request offers (R203, R204). -/
inductive Tree where
  | ok (tokens parents : List Nat)
  | missing
  | invalid
  | off
  deriving DecidableEq, Repr

/-- The tree record of request i as a build finds it (R204). -/
def Module.treeOf (m : Module) (i : Nat) (r : Req) (room : Nat) : Tree :=
  match (m.pstep r.partition).spec, r.input with
  | some sp, [root] =>
    if !(bit r.flags 1) then .off
    else
      let a := m.get Reg.BUDGET.SPEC_BASE_BASE + 512 * i
      let nodes := m.hbm.num (a + 8) 1
      let toks := (List.range nodes).map (fun k => m.hbm.num (a + 0x40 + 4 * k) 4)
      let parents := (m.hbm.rdN (a + 0x140) 64).map (·.toNat)
      let ready := m.hbm.num (a + 9) 1
      if ready == 0 || m.hbm.num a 4 != r.capsule || m.hbm.num (a + 4) 4 != r.length || m.hbm.num (a + 0x40) 4 != root
      then .missing
      else if ready != 1 || nodes == 0 || sp.maxNodes < nodes || (treeDepths parents nodes).isNone then .invalid
      else if room < nodes then .off
      else .ok toks parents
  | _, _ => .off

/-- What a sequence feeds: KIND, query tokens and parents (R166); none when no token of the step is left. The tree counters
of the speculation unit follow, and READY of a taken tree is cleared. -/
def Module.feedOf (i : Nat) (r : Req) (room : Nat) (m : Module) : Option (Nat × List Nat × List Nat) × Module :=
  let most := m.get Reg.STEP.CTRL_INGEST_MAX
  let plain : Option (Nat × List Nat × List Nat) :=
    if room == 0 then none
    else if r.input.length ≤ most && r.input.length ≤ room then some (0, r.input, [])
    else some (1, r.input.take (Min.min most room), [])
  match m.treeOf i r room with
  | .ok toks parents =>
    let a := m.get Reg.BUDGET.SPEC_BASE_BASE + 512 * i
    let m1 := ({ m with hbm := m.hbm.wr (a + 9) 0 }).bump Reg.BUDGET.TREES_USED_COUNT
    (some (2, toks, parents), m1.bumpBy Reg.BUDGET.NODES_DRAFTED_COUNT (toks.length - 1))
  | .missing => (plain, if plain.isSome then m.bump Reg.BUDGET.TREES_MISSING_COUNT else m)
  | .invalid => (plain, if plain.isSome then m.bump Reg.BUDGET.TREES_INVALID_COUNT else m)
  | .off => (plain, m)

/-- The most slots that a sequence can write: its query tokens, or the longest path of its tree. -/
def mostSlots (kind : Nat) (toks parents : List Nat) : Nat :=
  if kind == 2 then ((treeDepths parents toks.length).getD []).foldl Max.max 1 else toks.length

/-- What a build has gathered: the module, the sequences, each with the tokens of the step that were left for it, the tokens left
now, and the requests passed over or pre-empted on the way, those that end with NO_SPACE and those whose capsule is damaged. -/
structure Gather where
  m : Module
  seqs : List (Seq × Nat)
  room : Nat
  gone : List Nat
  ended : List Nat
  damaged : List Nat

/-- HBM frames reserved for the sequences gathered so far (R92). -/
def Gather.reserved (g : Gather) : Nat := g.seqs.foldl (fun a x => a + x.1.reserve) 0

/-- Pre-empted sequences leave the work list being built, and their tokens are free again (R94). -/
def Gather.without (pre : List Nat) (g : Gather) : Gather :=
  let out := g.seqs.filter (fun x => pre.contains x.1.request)
  { g with seqs := g.seqs.filter (fun x => !pre.contains x.1.request), gone := g.gone ++ pre,
           room := g.room + out.foldl (fun a x => a + x.1.tokens.length) 0 }

/-- A check value of what a step reads to take a request fails: the capsule's header or map, or its first input block (R47, R51,
R54, R155). -/
def Module.inputBad (m : Module) (r : Req) : Bool :=
  let c := m.slot (r.capsule / 256)
  c.headerBad || m.mapBad c || r.inputBlocks.any m.steps.badInput.contains

/-- A request is taken into the step, or passed over when its pages cannot be reserved (R92, R162, R166). -/
def Gather.take (p : Nat) (g : Gather) (x : Nat × Req) : Gather :=
  let i := x.1
  let r := x.2
  if g.gone.contains i || g.room == 0 then g
  else if g.m.inputBad r then { g with damaged := g.damaged ++ [i], gone := g.gone ++ [i] }
  else
    let c := g.m.slot (r.capsule / 256)
    match (g.m.feedOf i r g.room).1 with
    | none => g
    | some (kind, toks, parents) =>
      let pages := ceilDiv (r.length + mostSlots kind toks parents) 256
      if 4096 < pages then { g with ended := g.ended ++ [i], gone := g.gone ++ [i] }
      else
        let need := c.layers * (pages - c.pages)
        let (m1, pre) := if need != 0 && decide (g.m.tierFree 0 < g.reserved + need + g.m.get Reg.SLIDE.HBM_WATER_FREE_LOW)
          then g.m.relieve p (r.capsule :: g.seqs.map (fun y => y.1.capsule)) [i] g.reserved else (g.m, [])
        let g1 := Gather.without pre { g with m := m1 }
        if need != 0 && decide (m1.hbmComing < g1.reserved + need) then { g1 with gone := g1.gone ++ [i] }
        else
          let q : Seq := ⟨i, r.capsule, kind, b2n (m1.privileged r) + (if c.pages < pages then 2 else 0), r.length, 0,
            m1.effPriority r, r.deadline, r.model, toks, parents, false, [], [], [], [], c.grammarState, 0, 0, [], r.text,
            false, false, false, need, 0⟩
          { g1 with seqs := g1.seqs ++ [(q, g.room)], room := g1.room - toks.length }

/-- The work list's sequences: each has its core, spread evenly over the partition's (R122), and the trees that they feed are
taken (R203, R204). -/
def Gather.finish (cores : List Nat) (g : Gather) : Module × List Seq :=
  let m1 := g.seqs.foldl (fun (a : Module) x =>
    match a.steps.reqs.get x.1.request with
    | some r => (a.feedOf x.1.request r x.2).2
    | none => a) g.m
  (m1, g.seqs.zipIdx.map (fun (x, k) => { x.1 with core := nthD cores (k % Max.max cores.length 1) 0 }))

/-! ### The work list -/

/-- An entry of 32 bytes (R168). -/
def seqEntry (q : Seq) (off : Nat) : Bytes :=
  leBytes 4 q.capsule ++ leBytes 4 q.request ++ leBytes 2 q.model ++ leBytes 1 q.kind ++ leBytes 1 q.flags ++
  leBytes 4 q.basePos ++ leBytes 2 q.tokens.length ++ leBytes 1 q.core ++ leBytes 1 q.priority ++ leBytes 4 off ++
  leBytes 8 q.deadline

/-- A sequence's part of the token section (R169). -/
def seqTokens (q : Seq) : Bytes :=
  padMul (q.tokens.flatMap (leBytes 4) ++ (if q.kind == 2 then q.parents.flatMap (leBytes 1) else [])) 8

/-- The work list of a step (R167 to R169). -/
def workList (p num form time committed : Nat) (qs : List Seq) : Bytes :=
  let r := qs.foldl (fun (acc : Bytes × Bytes) q => (acc.1 ++ seqEntry q acc.2.length, acc.2 ++ seqTokens q)) ([], [])
  listHead num p form qs.length time r.2.length committed (r.1 ++ r.2)

/-- The pin entries of requests that have not had theirs written (R199). -/
def Module.sendPins (p : Nat) (qs : List Seq) (m : Module) : Module :=
  qs.foldl (fun (a : Module) q =>
    match (a.pstep p).pool, (a.pstep p).pinTable, a.steps.reqs.get q.request with
    | some pool, some (_, addr), some r =>
      let pins := (a.slot (q.capsule / 256)).pins
      if r.pinsSent || pins.all (· == 0xFFFFFFFF) then a
      else
        let e := leBytes 4 q.capsule ++ leBytes 4 q.request ++ pins.flatMap (leBytes 4) ++ zeros 8
        (a.updReq q.request (fun r => { r with pinsSent := true })).toPool p pool.endpoint
          (.write pool.endpoint (addr + 32 * q.request) e)
    | _, _, _ => a) m

/-- The derived schedule of a step in layer order (R83 to R88): for each layer and sequence the range of tiles that its
command walks (R118). -/
def Module.derivedSchedule (m : Module) (p num time : Nat) (qs : List Seq) : List PfEntry :=
  (List.range 127).flatMap (fun l => qs.filterMap (fun q =>
    let c := m.slot (q.capsule / 256)
    let win := ((m.attn.models.get q.model).map (fun x => nthD x.windows l 0)).getD 0
    let first := if win == 0 || q.basePos < win then 0 else (q.basePos - win + 1) / 32
    let last := ceilDiv c.tokens 32
    if c.layers ≤ l || last ≤ first then none
    else
      let priv := bit q.flags 0
      some ⟨0, p, q.capsule, q.request, l, q.core, priv, true, first, last - first,
        time + m.get Reg.SLIDE.PF_DEADLINE_BASE_NS + l * m.get Reg.SLIDE.PF_DEADLINE_LAYER_NS, num, 0, false, [], false,
        false, 0⟩))

/-- The supplied schedule of a step: its entries for the requests that the step holds; a core that does not serve
attention counts as none (R83, R107, R180). -/
def Module.suppliedFor (m : Module) (p num : Nat) (qs : List Seq) : List PfEntry :=
  ((m.slide.supplied.find? (fun (q, n, _) => q == p && n == num)).map (fun (_, _, es) => m.stepEntries p qs es)).getD []

/-- A work list is published (R170): the requests are in the step, the pins go before the list, the Slide engine and the
ATTN block take what is theirs. -/
def Module.publish (p form : Nat) (qs : List Seq) (batch : Option Nat) (included leftOut : Nat) (m : Module) : Module :=
  let num := m.nextStep p
  let time := m.clk.now
  let s : LiveStep := ⟨num, form, time, qs, false, none, 0, [], batch, included, leftOut⟩
  let m1 := qs.foldl (fun (a : Module) q =>
    let late := (a.steps.reqs.get q.request).map (fun r => r.deadline != 0 && decide (r.deadline < time))
    (a.updReq q.request (fun r => { r with
      state := 2, waitSteps := 0, lastStep := num, flags := if bit r.flags 3 then r.flags - 8 else r.flags })).bumpBy
      Reg.STEP.DEADLINE_LATE_COUNT (b2n (late.getD false))) m
  let m2 := (((m1.updPart p (fun x => { x with built := num, live := x.live ++ [s] })).set (Reg.STEP.STEP_NUM_BUILT.at 8 p) num).bump
    Reg.STEP.STEPS_BUILT_COUNT).bumpBy Reg.STEP.SEQS_STEPPED_COUNT qs.length
  let m3 := (m2.sendPins p qs).toPoolRing p (workList p num form time (m2.pstep p).committed qs)
  let es := if form == 0 then m3.derivedSchedule p num time qs else m3.suppliedFor p num qs
  let m4 := if form == 0 then m3.expect p s else m3
  let m5 := { m4 with slide := { m4.slide with supplied := m4.slide.supplied.filter (fun (q, n, _) => !(q == p && n == num)) } }
  (m5.takeEntries es).adoptOrphans

/-- Nothing stands in the way of the build of step n + 1 (R165): step n's write phase has ended and step n − 1 has committed; a FENCED
module builds nothing (R329), and a checkpoint's cut holds every build (R342). -/
def Module.mayBuildNow (m : Module) (p : Nat) : Bool :=
  let x := m.pstep p
  m.present p && !m.fenced && (m.ckpt.run.map (·.stage)).getD 0 != 1 && x.live.all (·.writing) && decide (x.live.length ≤ 1)

/-- The build may start: in a partition with a real-time schedule in its BUILD slot (R410). -/
def Module.mayBuild (m : Module) (p : Nat) : Bool :=
  m.mayBuildNow p && (!m.realTime p || bit m.sched.buildSlot p)

/-- What a build does before it chooses. -/
def Module.preBuild (p : Nat) (m : Module) : Module :=
  ((((((m.takePool p).closeAll p).strictCuts p).schedHolds p).unrelieve p).budgetSkips p)

/-- The BUILD slot has been used (R410). -/
def Module.useSlot (p : Nat) (m : Module) : Module :=
  { m with sched := { m.sched with buildSlot := m.sched.buildSlot - (if bit m.sched.buildSlot p then 2 ^ p else 0) } }

/-- A request whose capsule's header or map, or whose input, fails its check ends with DAMAGED (R62). -/
def Module.endDamaged (i : Nat) (m : Module) : Module :=
  match m.steps.reqs.get i with
  | some r => ((m.loadHeader r.capsule).loadMap r.capsule).endNow i 5 13
  | none => m

/-- Sequences are gathered from candidates in order, at most most of them; gives those of the work list, and the requests that
were passed over. -/
def Module.gather (p most : Nat) (cands : List (Nat × Req)) (m : Module) : Module × List Seq × List Nat :=
  let g0 : Gather := ⟨m, [], m.get Reg.STEP.CTRL_STEP_TOKENS, [], [], []⟩
  let g := cands.foldl (fun (g : Gather) x => if g.seqs.length < most then g.take p x else g) g0
  let (m1, qs) := g.finish (m.attnCores p)
  let m2 := g.ended.foldl (fun (a : Module) i => a.endNow i 5 2) m1
  (g.damaged.foldl (fun (a : Module) i => a.endDamaged i) m2, qs, g.gone)

/-- Eligible requests that were not chosen age (R164); one whose pages could not be reserved is not eligible (R162). -/
def Module.age (left : List Nat) (m : Module) : Module :=
  left.foldl (fun (a : Module) i =>
    if ((a.steps.reqs.get i).map (·.state)).getD 0 == 1 then
      (a.updReq i (fun r => { r with waitSteps := Min.min 65535 (r.waitSteps + 1) })).touchReq i else a) m

/-- A build by the step builder (R161 to R170). -/
def Module.buildStep (p : Nat) (m : Module) : Module :=
  let m1 := m.preBuild p
  let cands := m1.ordered p
  let most := m1.get Reg.STEP.CTRL_STEP_MAX
  let (g, qs, gone) := m1.gather p most cands
  let left := (cands.map (·.1)).filter (fun i => !(qs.any (fun q => q.request == i)) && !gone.contains i)
  let m2 := if cands.isEmpty then g else (g.age left).useSlot p
  if qs.isEmpty then m2 else m2.publish p 0 qs none qs.length 0

/-- The oldest batch of a partition is formed (R180): pairs that are no eligible request are left out; a batch from which
every pair is left out completes at once. Eligible requests that the batch leaves out age (R164). -/
def Module.buildBatch (p : Nat) (m : Module) : Module :=
  let m1 := m.preBuild p
  match (m1.pstep p).batches with
  | [] => m1
  | (cmd, pairs) :: rest =>
    let m2 := m1.updPart p (fun x => { x with batches := rest })
    let cands := pairs.eraseDups.filterMap (fun (id, i) =>
      (m2.request i id).bind (fun r => if m2.eligible p r then some (i, r) else none))
    let (g, qs, gone) := m2.gather p 256 cands
    let left := ((m2.ordered p).map (·.1)).filter (fun i => !(qs.any (fun q => q.request == i)) && !gone.contains i)
    let m3 := (g.age left).useSlot p
    let n := qs.length
    if n == 0 then
      match m3.host.running.find? (fun c => c.id == cmd) with
      | some c => m3.ok c (leBytes 4 0 ++ leBytes 4 pairs.length ++ leBytes 8 m3.clk.now)
      | none => m3
    else m3.publish p 1 qs (some cmd) n (pairs.length - n)

/-- STEP_BUILD of a partition: the step builder's in a partition of more than eight cores, the next batch in another
(R161). -/
def stepBuild (p : Nat) (m : Module) : Module :=
  if !m.mayBuild p then m
  else if 8 < m.coreCount p then m.buildStep p
  else m.buildBatch p

/-- The conditions of R165 other than the slot's hold for partition p: nothing stands in a build's way and the build would find an
eligible request. -/
def Module.buildReady (p : Nat) (m : Module) : Bool :=
  m.mayBuildNow p && !((m.preBuild p).ordered p).isEmpty

/-- At its BUILD slot's boundary a build starts only where the other conditions of R165 hold; another waits for the next BUILD slot,
and this one is unused (R410, R417). -/
def Module.openBuilds (m : Module) : Module :=
  let shut := (setBitsOf 8 m.sched.buildSlot).filter (fun p => !m.buildReady p)
  ({ m with sched := { m.sched with buildSlot := shut.foldl (fun a p => a - 2 ^ p) m.sched.buildSlot } }).bumpBy
    Reg.SCHED.BUILD_SLOTS_UNUSED_COUNT shut.length

/-- SLOT_BOUNDARY: the counter passes the boundary of the next slot. Unused BUILD slots of the slot that ends are counted,
a cycle start switches tables, foreground runs begin and end, and the slot's builds may start (R408 to R411, R417). -/
def slotBoundary (m : Module) : Module :=
  if m.clk.now < m.sched.epoch then m.set Reg.SCHED.STATUS_BEFORE_EPOCH 1
  else
    let n := (m.clk.now - m.sched.epoch) / 1000
    let fresh := match m.sched.lastBoundary with
      | some k => decide (k < n)
      | none => true
    if !fresh then m
    else
      let unused := popcount 8 m.sched.buildSlot
      let m1 := (m.bumpBy Reg.SCHED.BUILD_SLOTS_UNUSED_COUNT unused).set Reg.SCHED.STATUS_BEFORE_EPOCH 0
      let newCycle := n % 16384 == 0 || m.sched.lastBoundary.isNone
      let m2 := if newCycle then m1.cycleStart else m1
      m2.beginSlot.openBuilds

def execSlotBoundary (s : State) : Out := runAt slotBoundaryDue slotBoundary s

def execStepBuild (p : Nat) (s : State) : Out := runIf (p < 8) (stepBuild p) s

end Sys2Proof.Machine
end

