-- ==== Sys2Proof/Machine/Phases.lean ====
section
/-!
DEFINITION. A published step after its layers: the sample records (R238, R239), the Account phase (R188, R205, R206, R231 to
R234, R241), the write phase (R60, R115, R207, R319) and the output commit (R171, R172, R202).
-/

namespace Sys2Proof.Machine

open Sys2Proof

/-! ### Sample records -/

/-- The grammar of a capsule. -/
def Module.grammarOf (m : Module) (id : Nat) : Option GramImage := m.gramImage (m.slot (id / 256)).grammar

/-- The state of every node of a sequence, none where it is unreachable (R239). start is GRAMMAR_STATE. -/
def nodeStates (g : GramImage) (start : Nat) (q : Seq) : List (Option Nat) :=
  if q.kind != 2 then [some start]
  else
    (List.range q.tokens.length).foldl (fun (acc : List (Option Nat)) i =>
      if i == 0 then acc ++ [some start]
      else
        let tok := nthD q.tokens i 0
        acc ++ [(nthD acc (nthD q.parents i 0) none).bind (fun s => if g.allows s tok then some (g.next s tok) else none)]) []

/-- NODE_MASK of a sequence (R238). A grammar that the capsule names but the module does not hold allows no node. -/
def Module.nodeMasks (m : Module) (q : Seq) : List Nat :=
  let c := m.slot (q.capsule / 256)
  let n := if q.kind == 2 then q.tokens.length else 1
  if c.grammar == 0xFFFFFFFF then List.replicate n 0xFFFFFFFE
  else
    match m.grammarOf q.capsule with
    | none => List.replicate n 0xFFFFFFFF
    | some g => (nodeStates g c.grammarState q).map (fun s => (s.map g.maskOf).getD 0xFFFFFFFF)

/-- The sample record of a request (R238). -/
def Module.sampleAddr (m : Module) (i : Nat) : Nat := m.get Reg.MOUTH.SAMPLE_BASE_BASE + 512 * i

/-- The sample record of a sequence is written, READY last. -/
def Module.prepareSeq (p num : Nat) (q : Seq) (m : Module) : Module :=
  let a := m.sampleAddr q.request
  let masks := m.nodeMasks q
  let (base, bytes) := match m.grammarOf q.capsule with
    | some g => (g.addr + g.maskOff, g.maskBytes)
    | none => (0, 0)
  let hbm := (((m.hbm.wrN a (leBytes 4 q.capsule ++ leBytes 4 num ++ leBytes 1 masks.length ++ leBytes 1 1 ++ zeros 6 ++
    leBytes 8 base ++ leBytes 4 bytes)).wrN (a + 0x24) (zeros 28)).wrN (a + 0x40)
    (padTo (masks.flatMap (leBytes 4)) 256)).wrN (a + 0x140) (zeros 192)
  ({ m with hbm := hbm }).updSeq p num q.request (fun q => { q with prepared := true })

/-- SAMPLE_RECORD_PREPARE: the records of the partition's published steps (R239). -/
def samplePrepare (p : Nat) (m : Module) : Module :=
  (m.pstep p).live.foldl (fun (a : Module) s => s.seqs.foldl (fun (b : Module) q =>
    if q.kind != 1 && !q.prepared && !q.dropped then b.prepareSeq p s.num q else b) a) m

def execSampleRecordPrepare (p : Nat) (s : State) : Out := runIf (p < 8) (samplePrepare p) s

/-! ### The Account phase -/

/-- What the Account phase has gathered for a sequence. -/
structure Taken where
  accepted : List Nat
  path : List Nat
  state : Nat
  released : Bytes
  hold : Bytes
  invalid : Nat
  matched : Bool
  ender : Bool
  status : Nat
  reason : Nat
  deriving DecidableEq, Repr

/-- The walk of R205, whose path takes in every node that an accepted token matched, with the cuts of R206, R231, R233, R240 and R241. left is how many tokens MAX_TOKENS still allows, none
without a limit. -/
def walkTokens (t : Option TokImage) (g : Option GramImage) (stops : List Bytes) (incl : Bool) (q : Seq) :
    Nat → Nat → Option Nat → Taken → Taken
  | 0, _, _, x => x
  | fuel + 1, node, left, x =>
    if left == some 0 then { x with reason := 2 }
    else if (g.map (fun g => g.empty x.state)).getD false then { x with reason := 5, status := 8 }
    else
      match q.hands.find? (fun h => h.node == node) with
      | none => if !q.refused.isEmpty then { x with reason := 5, status := 4 } else x
      | some h =>
        let (rel, hold, bads, hit) := detokStep stops incl x.hold ((t.map (fun t => t.text h.token)).getD [])
        let isEnd := (t.map (fun t => t.endTokens.contains h.token)).getD false
        let y : Taken := { x with
          accepted := x.accepted ++ [h.token], released := x.released ++ rel, hold := hold, invalid := x.invalid + bads,
          state := match g with
            | some g => g.next x.state h.token
            | none => x.state }
        let child := (List.range q.tokens.length).find? (fun c => q.kind == 2 && c != 0 && nthD q.parents c 0xFF == node &&
          nthD q.tokens c 0 == h.token)
        let z : Taken := { y with path := y.path ++ child.toList }
        if hit then { z with matched := true, reason := 1 }
        else if isEnd then { z with ender := true, reason := 1 }
        else
          let left1 := left.map (· - 1)
          match child with
          | some c => walkTokens t g stops incl q fuel c left1 z
          | none =>
            if left1 == some 0 then { y with reason := 2 }
            else if (g.map (fun g => g.empty y.state)).getD false then { y with reason := 5, status := 8 }
            else y

/-- A sequence in the Account phase: what it accepts, its text, its debit and how it ends. -/
def Module.accountSeq (p num : Nat) (q : Seq) (m : Module) : Module :=
  match m.steps.reqs.get q.request with
  | none => m
  | some r =>
    let c := m.slot (q.capsule / 256)
    let stops := (m.mouth.stops.get r.text.stopSet).getD []
    let left := if r.maxTokens == 0 then none else some (r.maxTokens - r.generated)
    let x0 : Taken := ⟨[], [0], c.grammarState, [], r.text.hold, 0, false, false, 0, 0⟩
    let x := if q.kind == 1 then (if left == some 0 then { x0 with reason := 2 } else x0)
      else walkTokens (m.tokImage c.tokenizer) (m.grammarOf q.capsule) stops (bit r.text.flags 0) q 65 0 left x0
    let m1 := m.updSeq p num q.request (fun q => { q with
      accepted := x.accepted, path := x.path, finalState := x.state, endStatus := x.status, endReason := x.reason,
      released := if bit r.text.flags 1 then [] else x.released,
      text := { r.text with hold := x.hold }, accounted := true })
    let m2 := if x.invalid == 0 then m1 else (m1.bumpBy Reg.MOUTH.OUTPUT_INVALID_COUNT x.invalid).set Reg.MOUTH.STATUS_INVALID 1
    let m3 := (m2.bumpBy Reg.MOUTH.STOP_MATCHES_COUNT (b2n x.matched)).bumpBy Reg.MOUTH.END_TOKENS_COUNT (b2n x.ender)
    let m4 := if x.status == 8 then
        ((m3.bump Reg.MOUTH.DEAD_ENDS_COUNT).set Reg.MOUTH.STATUS_DEAD_END 1).event 0x0701 p 0 q.capsule q.request
      else m3
    let m5 := m4.bumpBy Reg.BUDGET.NODES_ACCEPTED_COUNT (x.path.length - 1)
    let acc := m5.account r.account
    let fedN := if q.kind == 2 then 0 else q.tokens.length
    let n := x.accepted.length + (if bit acc.flags 1 then fedN else 0)
    if n == 0 then m5 else (m5.debit num r.account n).updSeq p num q.request (fun q => { q with debited := n })

/-- The layers of a sequence have ended: no query of it is expected or walking (R122). -/
def Module.layersDone (m : Module) (p num i : Nat) : Bool :=
  m.attn.expected.all (fun e => !(e.partition == p && e.step == num && e.request == i)) &&
  m.attn.cores.vals.all (fun k => k.fused.all (fun f => !(f.desc.partition == p && f.desc.step == num && f.desc.request == i)))

/-- ACCOUNT_PHASE of the oldest step of a partition that is not yet accounted, when the layers of all its sequences have
ended (R188). -/
def accountPhase (p : Nat) (m : Module) : Module :=
  match (m.pstep p).live.find? (fun s => s.seqs.any (fun q => !q.dropped && !q.accounted)) with
  | none => m
  | some s =>
    if s.seqs.all (fun q => q.dropped || m.layersDone p s.num q.request) then
      s.seqs.foldl (fun (a : Module) q => if q.dropped || q.accounted then a else a.accountSeq p s.num q) m
    else m

def execAccountPhase (p : Nat) (s : State) : Out := runIf (p < 8) (accountPhase p) s

/-! ### The write phase -/

/-- How many slots a sequence writes, and the indexes of their tokens or nodes (R207). -/
def Seq.writes (q : Seq) : List Nat := if q.kind == 2 then q.path else List.range q.tokens.length

/-- A new slot of the step in a layer, once its query block has come. -/
def Module.newSlot (m : Module) (p num i layer idx : Nat) : Option Bytes :=
  (m.attn.store.find? (fun x => x.partition == p && x.step == num && x.request == i && x.layer == layer && x.index == idx)).map
    (·.bytes)

/-- Every slot that the sequence writes has come, in every layer. -/
def Module.slotsReady (m : Module) (p num : Nat) (q : Seq) : Bool :=
  (List.range (m.slot (q.capsule / 256)).layers).all (fun l => q.writes.all (fun j => (m.newSlot p num q.request l j).isSome))

/-- The request as the step's commit leaves it (R156, R166, R172). outs tells whether the step releases a record for it. -/
def postReq (num : Nat) (q : Seq) (outs : Bool) (r : Req) : Req :=
  let k := Min.min (if q.kind == 2 then 1 else q.tokens.length) r.input.length
  let ends := q.endReason != 0
  { r with
    length := r.length + q.writes.length, generated := r.generated + q.accepted.length, lastStep := num,
    input := r.input.drop k ++ (if ends then [] else q.accepted.getLast?.toList), fed := r.fed + k,
    outputSeq := if outs then (r.outputSeq + 1) % 2 ^ 32 else r.outputSeq, text := q.text,
    state := if ends then 5 else if bit r.flags 5 then 3 else 1, flags := r.flags % 16, relieved := false,
    endReason := if ends then q.endReason else r.endReason, endStatus := if ends then q.endStatus else r.endStatus }

/-- The capsule header as the step's commit leaves it. -/
def postCap (num : Nat) (q : Seq) (c : Capsule) : Capsule :=
  { c with tokens := q.basePos + q.writes.length, lastCommit := num, grammarState := q.finalState }

/-- The first slot of a sequence falls in the last shared page, which its capsule then copies (R60). -/
def Module.copiesFirst (m : Module) (q : Seq) : Bool :=
  decide (q.basePos / 256 < (m.slot (q.capsule / 256)).shared) && !q.writes.isEmpty

/-- Pages that a sequence's slots add to its capsule. -/
def Module.pagesMore (m : Module) (q : Seq) : Nat :=
  ceilDiv (q.basePos + q.writes.length) 256 - (m.slot (q.capsule / 256)).pages

/-- The capsule has room for the slots of a sequence: the last shared page is copied when the first slot falls in it, each copy
in the tier of its frame or the next that takes one, and pages are added in HBM; none when there is no space (R55, R60, R81). -/
def Module.makeRoom (q : Seq) (m : Module) : Option Module :=
  let c := m.slot (q.capsule / 256)
  let m1 : Option Module := if m.copiesFirst q then
      (m.copyShared q.capsule (fun t => t)).map (fun (a : Module) =>
        a.mirrorSlot 0x02 c.partition 0 q.capsule (c.shared - 1) 0 [])
    else some m
  (List.range (m.pagesMore q)).foldl (fun (acc : Option Module) _ => acc.bind (fun a => a.addPage q.capsule 9)) m1

/-- The write phase takes new pages only from freed frames (R183): it waits while the pages of its sequences do not fit in HBM
and frames are still leaving. -/
def Module.awaitsFrames (m : Module) (qs : List Seq) : Bool :=
  let need := qs.foldl (fun n q => n + (m.slot (q.capsule / 256)).layers * m.pagesMore q) 0
  decide (m.tierUnused 0 < need) &&
  (m.slide.moves.vals.any (fun v => tierOf v.source == 0 && tierOf v.target != 0) ||
    m.slide.leaving.any (fun h => tierOf h == 0))

/-- The slots of a sequence are written in every layer, in state 0x02 until the output commit whatever the sequence's kind
(assumption 181), and sent to the partner, page by page (R207, R319). -/
def Module.writeSeqSlots (p num : Nat) (q : Seq) (m : Module) : Module :=
  let c := m.slot (q.capsule / 256)
  let idx := q.writes.zipIdx
  (List.range c.layers).foldl (fun (a : Module) l =>
    let slots : List Slot := idx.map (fun (j, k) =>
      ⟨q.basePos + k, 2, if q.kind == 2 then j else 0, (a.newSlot p num q.request l j).getD []⟩)
    let a1 := slots.foldl (fun (b : Module) s => b.writeSlot q.capsule l s.pos s) a
    let pages := (slots.map (fun s => s.pos / 256)).eraseDups
    pages.foldl (fun (b : Module) pg =>
      let mine := slots.filter (fun s => s.pos / 256 == pg)
      b.sendSlots p num q.capsule l pg ((mine.head?.map (fun s => s.pos % 256)).getD 0) c.slotBytes mine) a1) m

/-- The output record of a sequence (R171, R233, R234): one when it accepts a token or ends. Gives the record, and the
replacements that the release of held bytes made. -/
def Module.outputOf (m : Module) (num : Nat) (q : Seq) : Option (OutRec × Nat) :=
  match m.steps.reqs.get q.request with
  | none => none
  | some r =>
    let ends := q.endReason != 0
    if q.accepted.isEmpty && !ends then none
    else
      let stopHit := q.endReason == 1 && q.text.hold.isEmpty
      let (held, bads) := if ends && !stopHit then releaseHold q.text.hold else ([], 0)
      let txt := if bit r.text.flags 1 then [] else q.released ++ held
      let hold := if ends then [] else q.text.hold
      some (⟨q.capsule, q.request, num, q.endStatus,
        b2n ends + (if !ends && bit r.flags 5 then 2 else 0) + (if hold.isEmpty then 0 else 4), q.endReason,
        (r.outputSeq + 1) % 2 ^ 32, q.accepted, txt, bit r.flags 2, r.return_⟩, bads)

/-- A sequence takes over the end that its request was told while in the step (R175): END_PENDING without an end of its
own. -/
def Module.settleEnd (p num : Nat) (q : Seq) (m : Module) : Module :=
  match m.steps.reqs.get q.request with
  | some r =>
    if bit r.flags 4 && q.endReason == 0 then
      m.updSeq p num q.request (fun q => { q with endReason := if r.endReason == 0 then 3 else r.endReason, endStatus := r.endStatus })
    else m
  | none => m

/-- The sequence as the step holds it now. -/
def Module.seqNow (m : Module) (p num i : Nat) : Option Seq :=
  ((m.pstep p).live.find? (fun s => s.num == num)).bind (fun s => s.seqs.find? (fun q => q.request == i))

/-- The header, the entry and the text record of a sequence leave as the step's commit will make them (R320). -/
def Module.sendPost (p num : Nat) (q : Seq) (outs : Bool) (m : Module) : Module :=
  match m.steps.reqs.get q.request with
  | none => m
  | some r =>
    let r1 := postReq num q outs r
    let head := (postCap num q (m.slot (q.capsule / 256))).bytes (q.capsule / 256)
    ((m.mirrorSlot 0x03 p num q.capsule 0 0 head).mirrorSlot 0x05 p num q.capsule q.request (r1.fed % 2 ^ 32)
      (reqBytes m r1)).mirrorSlot 0x06 p num q.capsule q.request 0 (textBytes q.capsule r1.text)

/-- A sequence is written: room, slots, header, entry and text record travel with the step's values after the commit (R319,
R320). Without room the request ends with NO_SPACE; when the page to copy fails a check value, with DAMAGED (R62). -/
def Module.writeSeq (p num : Nat) (q0 : Seq) (m : Module) : Module :=
  let m0 := m.settleEnd p num q0
  match m0.seqNow p num q0.request with
  | none => m0
  | some q =>
    let bad := if m0.copiesFirst q then m0.copyBad q.capsule else none
    let room := (m0.updSeq p num q.request (fun x => { x with reserve := 0 })).makeRoom q
    match bad, room with
    | some (h, b), _ => (m0.damage q.capsule h b).endError q.request 13
    | none, none => m0.endError q.request 2
    | none, some m1 =>
      let m2 := m1.writeSeqSlots p num q
      let out := m2.outputOf num q
      let txt : TextRec := { q.text with
        hold := if q.endReason != 0 then [] else q.text.hold,
        released := q.text.released + ((out.map (fun o => o.1.text.length)).getD 0) }
      let m3 := (m2.updSeq p num q.request (fun x => { x with text := txt, written := true })).updReq q.request (fun r =>
        { r with touched := false })
      let q1 : Seq := { q with text := txt }
      let bads := (out.map (·.2)).getD 0
      let m4 := if bads == 0 then m3 else (m3.bumpBy Reg.MOUTH.OUTPUT_INVALID_COUNT bads).set Reg.MOUTH.STATUS_INVALID 1
      match m4.steps.reqs.get q.request with
      | none => m4
      | some _ =>
        let m5 := m4.sendPost p num q1 out.isSome
        match out with
        | some (o, _) => m5.updPart p (fun x => { x with live := x.live.map (fun s => if s.num == num then
            { s with outputs := s.outputs ++ [o] } else s) })
        | none => m5

/-- A sequence of the step writes a capsule that the resync has yet to send, so that a mark could not cover the writes (R30,
R332). -/
def Module.markWaits (m : Module) (p num : Nat) : Bool :=
  m.mirror.state == 2 && (m.pstep p).live.any (fun s => s.num == num &&
    s.seqs.any (fun q => !q.dropped && m.mirror.queue.contains (q.capsule / 256)))

/-- The step's OUTPUT record, empty when the step releases nothing, and its STEP_MARK leave (R319), once the partner has or is
sent every capsule that it wrote. -/
def Module.sendMark (p num : Nat) (outs : List OutRec) (m : Module) : Module :=
  if m.streaming && !m.markWaits p num then
    let m1 := m.send 0x09 p 0 num capNone 0 0 (outs.flatMap OutRec.bytes)
    let seq := m1.mirror.txNext
    (m1.send 0x0A p 0 num capNone 0 0 []).updPart p (fun x => { x with live := x.live.map (fun s => if s.num == num then
      { s with markSeq := some seq } else s) })
  else m

/-- The write set of a step whose write phase ended before the stream of the pairing began leaves again: slots, debits and
values after the commit, then its output and mark (R30, R319). -/
def Module.resendStep (p : Nat) (s : LiveStep) (m : Module) : Module :=
  let qs := s.seqs.filter (fun q => !q.dropped)
  let m1 := qs.foldl (fun (a : Module) q =>
    let c := a.slot (q.capsule / 256)
    let a1 := (List.range c.layers).foldl (fun (b : Module) l =>
      let slots := (List.range q.writes.length).filterMap (fun k => b.slotAt q.capsule l (q.basePos + k))
      ((slots.map (fun s => s.pos / 256)).eraseDups).foldl (fun (b : Module) pg =>
        let mine := slots.filter (fun s => s.pos / 256 == pg)
        b.sendSlots p s.num q.capsule l pg ((mine.head?.map (fun s => s.pos % 256)).getD 0) c.slotBytes mine) b) a
    let a2 := if q.debited == 0 then a1 else
      match a1.steps.reqs.get q.request with
      | some r => a1.sendAccount s.num r.account
      | none => a1
    a2.sendPost p s.num q (s.outputs.any (fun o => o.request == q.request))) m
  m1.sendMark p s.num s.outputs

/-- Marks that waited for the resync leave, in each partition in the order of its steps (R31, R332). -/
def Module.lateMarks (m : Module) : Module :=
  if m.streaming then
    (List.range 8).foldl (fun (a : Module) p => (a.pstep p).live.foldl (fun (b : Module) s =>
      if s.writing && s.markSeq.isNone && !b.markWaits p s.num &&
          (b.pstep p).live.all (fun y => y.markSeq.isSome || !serialLater s.num y.num) then b.resendStep p s else b) a) m
  else m

/-- A capsule that the resync has yet to copy (R332). -/
def Module.unsynced (m : Module) (id : Nat) : Bool :=
  m.mirror.state == 2 && (m.mirror.queue.contains (id / 256) || m.mirror.syncing.any (fun x => x.1 == id / 256))

/-- The step commits alone (R328): LOST with SOLO, or RESYNC with SOLO when none of its capsules is synced. -/
def Module.commitsAlone (m : Module) (s : LiveStep) : Bool :=
  m.flag Reg.MIRROR.CTRL_SOLO &&
  (m.lost || (m.mirror.state == 2 && s.seqs.all (fun q => q.dropped || m.unsynced q.capsule)))

/-- The partner has acknowledged the step's mark (R30, R319). -/
def Module.marked (m : Module) (s : LiveStep) : Bool :=
  match s.markSeq with
  | some q => (m.mirror.state == 2 || m.mirror.state == 3) && serialGE m.mirror.txAcked q
  | none => false

/-! ### The output commit -/

/-- Draft jobs of a step for the requests that speculate and have a single pending token (R202). -/
def Module.draftJobs (p : Nat) (qs : List Seq) (m : Module) : Module :=
  qs.foldl (fun (a : Module) q =>
    match (a.pstep p).spec, a.steps.reqs.get q.request with
    | some sp, some r =>
      match r.input with
      | [root] =>
        if bit r.flags 1 && r.state != 5 && r.capsule == q.capsule then
          let job := leBytes 4 q.request ++ leBytes 4 q.capsule ++ leBytes 4 r.length ++ leBytes 4 root
          let a1 := { a with hbm := a.hbm.wrN (sp.ring + 16 * (sp.next % sp.jobs)) job }
          (a1.updPart p (fun x => { x with spec := x.spec.map (fun s => { s with next := s.next + 1 }) })).engineSignal
            sp.semaphore 6
        else a
      | _ => a
    | _, _ => a) m

/-- A sequence's entry and capsule take the values of the commit, and its new slots become state 0x01 (R172, R207). -/
def Module.commitSeq (num : Nat) (outs : List OutRec) (q : Seq) (m : Module) : Module :=
  match m.steps.reqs.get q.request with
  | none => m
  | some r =>
    let m1 := (m.updReq q.request (postReq num q (outs.any (fun o => o.request == q.request)))).fixBlocks q.request r.fed
    let m2 := (m1.ckptHeader (q.capsule / 256)).updCap q.capsule (postCap num q)
    let c := m2.slot (q.capsule / 256)
    (List.range c.layers).foldl (fun (a : Module) l => (List.range q.writes.length).foldl (fun (b : Module) k =>
      match b.slotAt q.capsule l (q.basePos + k) with
      | some s => b.writeSlot q.capsule l s.pos { s with state := 1, node := 0 }
      | none => b) a) m2

/-- What follows a request out of its step: its end, or the changes that waited; a request told to end after its record was
formed ends now (R156, R175). A grammar set meanwhile becomes the capsule's either way (R243). -/
def Module.afterCommit (q : Seq) (late : Bool) (m : Module) : Module :=
  if q.endReason != 0 then (m.takeGrammar q.request).freeReq q.request
  else
    let m1 := m.afterStep q.request
    if late then
      let r := ((m1.steps.reqs.get q.request).map (fun r => (r.endReason, r.endStatus))).getD (0, 0)
      m1.endNow q.request (if r.1 == 0 then 3 else r.1) r.2
    else m1

/-- The step leaves: its prefetch entries, its new slots and the landed tiles of its sequences go, which nothing needed (R133). -/
def Module.clearStep (p : Nat) (s : LiveStep) (m : Module) : Module :=
  let ids := (m.slide.entries.filter (fun e => e.partition == p && e.step == s.num)).map (·.id)
  let reqs := s.seqs.map (·.request)
  let old (l : Landed) : Bool := reqs.contains l.request && serialGE s.num l.step
  let unread := m.attn.cores.vals.foldl (fun a k => a + (k.landing.filter old).length) 0
  let m := m.bumpBy Reg.ATTN.TILES_DISCARDED_COUNT unread
  { m with
    slide := { m.slide with
      entries := m.slide.entries.filter (fun e => !ids.contains e.id),
      stalls := m.slide.stalls.filter (fun t => !ids.contains t.entry) },
    attn := { m.attn with
      expected := m.attn.expected.filter (fun e => !(e.partition == p && e.step == s.num)),
      store := m.attn.store.filter (fun x => !(x.partition == p && x.step == s.num)),
      cores := m.attn.cores.mapV (fun _ k => { k with
        landing := k.landing.filter (fun l => !old l),
        walked := k.walked.filter (fun (r, _, n) => !(reqs.contains r && n == s.num)) }) } }

/-- The output commit of a partition's oldest step (R172): entries, output batches, host ring, COMMITTED, in that order; then
what waited for it. -/
def Module.commitStep (p : Nat) (s : LiveStep) (m : Module) : Module :=
  let qs := s.seqs.filter (fun q => !q.dropped)
  let late (q : Seq) : Bool := ((m.steps.reqs.get q.request).map (fun r => bit r.flags 4)).getD false
  let m1 := qs.foldl (fun (a : Module) q => a.commitSeq s.num s.outputs q) m
  let m2 := (m1.bumpBy Reg.MOUTH.TEXT_RELEASED_COUNT (s.outputs.foldl (fun n o => n + o.text.length) 0)).release p s.outputs
  let m3 := (m2.updPart p (fun x => { x with committed := s.num, live := x.live.filter (fun y => y.num != s.num) })).set
    (Reg.STEP.STEP_NUM_COMMITTED.at 8 p) s.num
  let m4 := if m3.streaming then m3.send 0x0B p 0 s.num capNone 0 0 [] else m3
  let m5 := (qs.foldl (fun (a : Module) q => a.afterCommit q (late q)) (m4.clearStep p s))
  let m6 := (qs.foldl (fun (a : Module) q => a.runTruncates q.capsule) m5).draftJobs p qs
  let m7 := match s.batch.bind (fun id => m6.host.running.find? (fun c => c.id == id)) with
    | some c => m6.ok c (leBytes 4 s.included ++ leBytes 4 s.leftOut ++ leBytes 8 m6.clk.now)
    | none => m6
  m7.finishMoves.checkParks

/-- WRITE_PHASE of a partition's oldest step whose write phase has not ended: its sequences are accounted and their new slots
have come. At its end the OUTPUT record and the mark leave, or the step commits alone (R165, R207, R319, R328). -/
def writePhase (p : Nat) (m : Module) : Module :=
  match (m.pstep p).live.find? (fun s => !s.writing) with
  | none => m
  | some s =>
    if !s.seqs.all (fun q => q.dropped || (q.accounted && m.slotsReady p s.num q)) then m
    else if m.awaitsFrames (s.seqs.filter (fun q => !q.dropped)) then m
    else
      let m1 := s.seqs.foldl (fun (a : Module) q => if q.dropped then a else a.writeSeq p s.num q) m
      let outs := (((m1.pstep p).live.find? (fun x => x.num == s.num)).map (·.outputs)).getD []
      let m2 := (m1.updPart p (fun x => { x with live := x.live.map (fun y => if y.num == s.num then
        { y with writing := true, writeEnd := m1.clk.mono } else y) })).sendMark p s.num outs
      let m3 := m2.finishMoves
      match (m3.pstep p).live.head? with
      | some f => if f.num == s.num && m3.commitsAlone f then m3.commitStep p f else m3
      | none => m3

/-- OUTPUT_COMMIT: the oldest step of a partition whose mark the partner has acknowledged, or that may commit alone by now,
commits (R172, R328). -/
def outputCommit (p : Nat) (m : Module) : Module :=
  match (m.pstep p).live.head? with
  | some s =>
    if s.writing && (m.marked s || m.commitsAlone s) then
      (if m.marked s then m.bumpBy Reg.MIRROR.COMMIT_WAIT_NS_COUNT (m.clk.mono - s.writeEnd) else m).commitStep p s
    else m
  | none => m

def execWritePhase (p : Nat) (s : State) : Out := runIf (p < 8) (writePhase p) s
def execOutputCommit (p : Nat) (s : State) : Out := runIf (p < 8) (outputCommit p) s

end Sys2Proof.Machine
end

