-- ==== Sys2Proof/Machine/Mouth.lean ====
section
/-!
DEFINITION. The Mouthpiece's commands (R244 to R250) and the hand-off of a sampled token (R240, R242).
-/

namespace Sys2Proof.Machine

open Sys2Proof

/-! ### Tokenizers and grammars -/

/-- The register of the loaded tokenizers (R251). -/
def Module.showTokenizers (m : Module) : Module :=
  m.set Reg.MOUTH.TOKENIZERS_LOADED (m.mouth.tokenizers.keys.foldl (fun n i => n + 2 ^ i) 0)

/-- The register of the loaded grammars (R251). -/
def Module.showGrammars (m : Module) : Module := m.set Reg.MOUTH.GRAMMARS_COUNT m.mouth.grammars.length

/-- MOUTH_TOKENIZER_LOAD: ID 0x00, ADDR 0x08, LENGTH 0x10 (R223, R244). -/
def tokenizerLoadCmd (c : RunCmd) (m : Module) : Module :=
  let id := u16 c.payload 0
  let addr := u64 c.payload 8
  let len := u64 c.payload 0x10
  m.checked c [(2, 6)]
    [(decide (id < 64), bad 0), (addr % 64 == 0 && decide (addr < hbmSize), bad 8),
     (decide (addr + len ≤ hbmSize), bad 0x10), (!m.mouth.tokenizers.has id, stop .busy),
     ((⟨m.hbm, addr⟩ : TokImage).ok len, bad 8)]
    (fun m =>
      let m1 := m.measure 6 id 0 0xFF (m.hbm.rdN addr len)
      ({ m1 with mouth := { m1.mouth with tokenizers := m1.mouth.tokenizers.put id ⟨addr, len⟩ } }).showTokenizers.ok c [])

/-- MOUTH_TOKENIZER_UNLOAD: BUSY while a capsule names the ID (R243, R244). -/
def tokenizerUnloadCmd (c : RunCmd) (m : Module) : Module :=
  let id := u16 c.payload 0
  m.checked c [(2, 6)]
    [(m.mouth.tokenizers.has id, bad 0),
     (m.caps.slots.vals.all (fun k => !liveState k.state || k.tokenizer != id), stop .busy)]
    (fun m =>
      let m1 := m.unmeasure 6 id (fun _ => false)
      ({ m1 with mouth := { m1.mouth with tokenizers := m1.mouth.tokenizers.del id } }).showTokenizers.ok c [])

/-- MOUTH_GRAMMAR_LOAD: GRAMMAR_ID 0x00, ADDR 0x08, LENGTH 0x10 (R236, R245). -/
def grammarLoadCmd (c : RunCmd) (m : Module) : Module :=
  let id := u32 c.payload 0
  let addr := u64 c.payload 8
  let len := u64 c.payload 0x10
  let g : GramImage := ⟨m.hbm, addr⟩
  m.checked c [(4, 4)]
    [(decide (id < 1024), bad 0), (addr % 64 == 0 && decide (addr < hbmSize), bad 8),
     (decide (addr + len ≤ hbmSize), bad 0x10), (!m.mouth.grammars.has id, stop .busy),
     (g.ok len ((m.tokImage g.tokenizer).map (·.vocab)), bad 8)]
    (fun m =>
      let m1 := m.measure 7 id 0 0xFF (m.hbm.rdN addr len)
      ({ m1 with mouth := { m1.mouth with grammars := m1.mouth.grammars.put id ⟨addr, len⟩ } }).showGrammars.ok c [])

/-- MOUTH_GRAMMAR_UNLOAD: BUSY while a capsule names the ID (R243, R245). -/
def grammarUnloadCmd (c : RunCmd) (m : Module) : Module :=
  let id := u32 c.payload 0
  m.checked c [(4, 4)]
    [(m.mouth.grammars.has id, bad 0),
     (m.caps.slots.vals.all (fun k => !liveState k.state || k.grammar != id), stop .busy)]
    (fun m =>
      let m1 := m.unmeasure 7 id (fun _ => false)
      ({ m1 with mouth := { m1.mouth with grammars := m1.mouth.grammars.del id } }).showGrammars.ok c [])

/-- MOUTH_GRAMMAR_SET: CAPSULE_ID 0x00, GRAMMAR_ID 0x04, STATE 0x08 (R246). A request in a step takes it when it leaves
the step (R243). -/
def grammarSetCmd (c : RunCmd) (m : Module) : Module :=
  let id := u32 c.payload 0
  let gid := u32 c.payload 4
  let st := u32 c.payload 8
  let k := m.slot (id / 256)
  let none_ := gid == 0xFFFFFFFF
  let g := m.gramImage gid
  m.checked c [(0x0C, 4)]
    (capChecks m id 0 ++
     [(none_ || (g.map (fun g => g.tokenizer == k.tokenizer)).getD false, bad 4),
      (st == 0xFFFFFFFF || (!none_ && decide (st < (g.map (·.states)).getD 0)), bad 8),
      (m.mayOwn k && !m.fenced, stop .denied)])
    (fun m => m.heldOr c id (fun m =>
      let dest := if none_ then 0 else if st == 0xFFFFFFFF then (g.map (·.start)).getD 0 else st
      match m.requestOf id with
      | some (i, r) =>
        if r.state == 2 then (m.updReq i (fun r => { r with newGrammar := some (gid, dest) })).ok c []
        else (m.writeText id (fun k => { k with grammar := gid, grammarState := dest })).ok c []
      | none => (m.writeCap id (fun k => { k with grammar := gid, grammarState := dest })).ok c []))

/-! ### Text -/

/-- The place of stop string i in a stop set's payload. -/
def stopAt (b : Bytes) (i : Nat) : Nat × Bytes := (u8 b (8 + 72 * i), slice b (16 + 72 * i) (u8 b (8 + 72 * i)))

/-- The first failed check of a stop set's strings (R232, R247). -/
def stopFault (b : Bytes) (count : Nat) : Option Verdict :=
  (List.range 16).findSome? (fun i =>
    let o := 8 + 72 * i
    if count ≤ i then (firstNonZero b o 72).map bad
    else
      let (n, str) := stopAt b i
      if n == 0 || decide (64 < n) then some (bad o)
      else ((firstNonZero b (o + 1) 7).map bad) <|> (if utf8Ok str then none else some (bad (o + 8))) <|>
        ((firstNonZero b (o + 8 + n) (64 - n)).map bad))

/-- MOUTH_STOP_LOAD: BUSY while a text record, this module's or the partner's, names the set (R232, R243, R247). -/
def stopLoadCmd (c : RunCmd) (m : Module) : Module :=
  let b := c.payload
  let set := u16 b 0
  let count := u8 b 2
  m.checked c [(3, 5)]
    [(decide (set < 4096), bad 0), (decide (count ≤ 16), bad 2), ((stopFault b count).isNone, (stopFault b count).getD (bad 2)),
     (m.steps.reqs.vals.all (fun r => r.text.stopSet != set && (r.newText.map (·.1)) != some set) &&
        m.mirror.shadow.vals.all (fun x => u16 x.text 4 != set), stop .busy)]
    (fun m =>
      let strs := (List.range count).map (fun i => (stopAt b i).2)
      let m1 := { m with mouth := { m.mouth with stops := m.mouth.stops.put set strs } }
      ({ m1 with lpddr := m1.lpddr.wrN (m1.get Reg.MOUTH.STOP_BASE_BASE + 2048 * set) (slice b 0 1160) }).ok c [])

/-- MOUTH_TEXT_SET: CAPSULE_ID 0x00, REQUEST 0x04, STOP_SET 0x08, FLAGS 0x0A (R243, R248). -/
def textSetCmd (c : RunCmd) (m : Module) : Module :=
  let id := u32 c.payload 0
  let i := u32 c.payload 4
  let set := u16 c.payload 8
  let fl := u8 c.payload 0x0A
  let st := ((m.request i id).map (·.state)).getD 0
  m.checked c [(0x0B, 5)]
    (reqChecks m id i [(decide (fl ≤ 3), bad 0x0A)] ++ [(set == 0xFFFF || m.mouth.stops.has set, bad 8), (!m.fenced, stop .denied), (st != 5, stop .busy)])
    (fun m => m.heldOr c id (fun m =>
      if st == 2 then (m.updReq i (fun r => { r with newText := some (set, fl) })).ok c []
      else ((m.updReq i (fun r => { r with text := { r.text with stopSet := set, flags := fl } })).touchReq i).ok c []))

/-- MOUTH_TOKENIZE: one buffer with no carry, a trailing partial character flushed (R249). -/
def tokenizeCmd (c : RunCmd) (m : Module) : Module :=
  let b := c.payload
  let len := u32 b 4
  let src := u64 b 8
  let dst := u64 b 0x10
  let max := u32 b 0x18
  let t := m.tokImage (u16 b 0)
  let may (a n : Nat) (w : Bool) (m : Module) : Bool := c.fromMailbox || m.cmdMay c 8 a n w
  m.checked c [(2, 2), (0x1C, 4)]
    [(t.isSome, bad 0), (decide (1 ≤ len) && decide (len ≤ 16777216), bad 4), (may src len false m, bad 8)]
    (fun m =>
      let go (m : Module) : Module :=
        match t with
        | none => m
        | some t =>
          let (ts, k, rest) := t.tokenize [] (m.cmdRead c src len)
          let all := if rest.isEmpty then ts else ts ++ t.flush
          let reps := if rest.isEmpty then k else k + 1
          let out := (all.take max).flatMap (leBytes 4)
          if !may dst out.length true m then m.badField c 0x10
          else
            let m1 := ((m.bumpBy Reg.MOUTH.BYTES_TOKENIZED_COUNT len).bumpBy Reg.MOUTH.TOKENS_PRODUCED_COUNT all.length)
            let m2 := if reps == 0 then m1
              else (m1.bumpBy Reg.MOUTH.INPUT_INVALID_COUNT reps).set Reg.MOUTH.STATUS_INVALID 1
            (m2.cmdWrite c dst out).complete c (if max < all.length then .noSpace else .ok)
              (leBytes 4 all.length ++ leBytes 4 reps) noDetail
      if cmdNeedsHost c src || cmdNeedsHost c dst then m.withHost c go else go m)

/-- MOUTH_CARRY_FLUSH (R228, R250). -/
def carryFlushCmd (c : RunCmd) (m : Module) : Module :=
  let id := u32 c.payload 0
  let k := m.slot (id / 256)
  let body := leBytes 1 k.carry.length
  let toks := ((m.tokImage k.tokenizer).map (·.flush)).getD []
  m.checked c []
    (capChecks m id 0 ++
     [(m.mayOwn k && !m.fenced, stop .denied),
      (k.carry.isEmpty || (match m.requestOf id with
        | some (_, r) => m.inputFits r toks.length
        | none => true), stop .noSpace)])
    (fun m => m.heldOr c id (fun m =>
      if k.carry.isEmpty then m.ok c body
      else
        match m.requestOf id with
        | some (i, r) =>
          if r.reserved.isSome || r.state == 5 then (m.flushCarry id).ok c body
          else (m.addInput i (.flushed toks)).ok c body
        | none => (m.flushCarry id).ok c body))

/-! ### The hand-off of a sampled token (R240, R373) -/

/-- What TACC meets: the step, the sequence and the grammar state at the node; none where the hand-off is stale. -/
def Module.handPlace (m : Module) (p i node : Nat) : Option (LiveStep × Seq × Option Nat) :=
  match m.steps.reqs.get i, m.seqOf i with
  | some r, some (s, q) =>
    if r.partition != p || r.state != 2 || !q.prepared then none
    else
      let mask := nthD (m.nodeMasks q) node 0xFFFFFFFF
      let taken (n : Nat) : Bool := q.hands.any (fun h => h.node == n) || q.refused.contains n
      let led : Bool := node == 0 || q.hands.any (fun h => h.node == nthD q.parents node 0 && h.token == nthD q.tokens node 0)
      if mask == 0xFFFFFFFF || taken node || !led then none
      else
        let c := m.slot (q.capsule / 256)
        some (s, q, (m.grammarOf q.capsule).bind (fun g => nthD (nodeStates g c.grammarState q) node none))
  | _, _ => none

/-- The test of a handed token (R240): the module that has taken it, and the status for TACC. -/
def Module.handToken (p i node token flag : Nat) (m : Module) : Module × Status :=
  match m.handPlace p i node with
  | none => (m, .stale)
  | some (s, q, st) =>
    let m1 := m.bump Reg.STRAND.TOKENS_HANDED_COUNT
    let vocab := ((m.tokImage (m.slot (q.capsule / 256)).tokenizer).map (·.vocab)).getD 0
    let g := m.grammarOf q.capsule
    let allowed : Bool := decide (token < vocab) && (match g, st with
      | some g, some x => g.allows x token
      | _, _ => true)
    if allowed then
      let next := match g, st with
        | some g, some x => g.next x token
        | _, _ => 0
      let h : HandOff := ⟨node, token, next, flag, false⟩
      (m1.updSeq p s.num i (fun q => { q with hands := q.hands ++ [h] }), .ok)
    else
      ((((m1.updSeq p s.num i (fun q => { q with refused := q.refused ++ [node] })).bump
        Reg.MOUTH.VIOLATIONS_COUNT).set Reg.MOUTH.STATUS_VIOLATION 1), .denied)

/-- NEXT_MASK_WRITE: the oldest hand-off of a request whose NEXT_MASK is not written writes the mask index of its next
state, advances NEXT_COUNT and signals its event flag (R238, R240). -/
def nextMaskWrite (p i : Nat) (m : Module) : Module :=
  match (m.pstep p).live.findSome? (fun s => (s.seqs.find? (fun q => q.request == i)).bind (fun q =>
      (q.hands.find? (fun h => !h.written)).map (fun h => (s, q, h)))) with
  | none => m
  | some (s, q, h) =>
    let a := m.sampleAddr i
    let mask := ((m.grammarOf q.capsule).map (fun g => g.maskOf h.next)).getD 0xFFFFFFFE
    let count := (m.hbm.num (a + 0x20) 4 + 1) % 2 ^ 32
    let m1 := { m with hbm := (m.hbm.putNum (a + 0x1C) 4 mask).putNum (a + 0x20) 4 count }
    let m2 := m1.updSeq p s.num i (fun q => { q with hands := q.hands.map (fun x =>
      if x.node == h.node then { x with written := true } else x) })
    m2.engineSignal h.flag 7

def execMouthTokenizerLoad (src : Src) (s : State) : Out := run (onCmd 0x0700 src tokenizerLoadCmd) s
def execMouthTokenizerUnload (src : Src) (s : State) : Out := run (onCmd 0x0701 src tokenizerUnloadCmd) s
def execMouthGrammarLoad (src : Src) (s : State) : Out := run (onCmd 0x0710 src grammarLoadCmd) s
def execMouthGrammarUnload (src : Src) (s : State) : Out := run (onCmd 0x0711 src grammarUnloadCmd) s
def execMouthGrammarSet (src : Src) (s : State) : Out := run (onCmd 0x0712 src grammarSetCmd) s
def execMouthStopLoad (src : Src) (s : State) : Out := run (onCmd 0x0720 src stopLoadCmd) s
def execMouthTextSet (src : Src) (s : State) : Out := run (onCmd 0x0721 src textSetCmd) s
def execMouthTokenize (src : Src) (s : State) : Out := run (onCmd 0x0730 src tokenizeCmd) s
def execMouthCarryFlush (src : Src) (s : State) : Out := run (onCmd 0x0731 src carryFlushCmd) s
def execNextMaskWrite (p i : Nat) (s : State) : Out := runIf (p < 8) (nextMaskWrite p i) s

end Sys2Proof.Machine
end

