-- ==== Sys2Proof/Machine/OpsPower.lean ====
section
/-!
DEFINITION. Breath hints (R544, R545), which the host, the checkpoint unit, repair passes and resyncs issue.
-/

namespace Sys2Proof.Machine

open Sys2Proof

/-- A hint is taken: its window runs from completion + LEAD_US − 10 µs to completion + LEAD_US + DURATION_US; one whose
window overlaps another's counts as merged (R545). -/
def Module.hint (level lead duration : Nat) (m : Module) : Module :=
  let h : BreathHint := ⟨level, m.clk.mono + us lead - us 10, m.clk.mono + us (lead + duration), false⟩
  let meets := m.power.hints.any (fun x => decide (x.from_ ≤ h.until_) && decide (h.from_ ≤ x.until_))
  let m1 := { m with power := { m.power with hints := m.power.hints ++ [h] } }
  if meets then m1.bump Reg.POWER.HINTS_MERGED_COUNT else m1

/-- The hint that the module issues for work of its own: the manual gives its LEVEL, LEAD_US and DURATION_US no values, so
they are free ones of the ranges of R544. -/
def Module.ownHint (m : Module) : Module :=
  let (l, m1) := m.choose 3
  let (a, m2) := m1.choose 9991
  let (d, m3) := m2.choose 10000000
  m3.hint (1 + l) (10 + a) (1 + d)

end Sys2Proof.Machine
end

