-- ==== Sys2Proof/Machine/OpsBore.lean ====
section
/-!
DEFINITION. The Bore units' shared operations: vectors and distances (R255 to R257), records on flash (R258 to R261), the
walk and its merge (R263 to R267), inserts (R270, R271) and repair passes (R274).
-/

namespace Sys2Proof.Machine

open Sys2Proof

/-! ### Vectors -/

/-- Bytes of a vector (R255); 0 for a reserved element or a DIMS out of range. -/
def vecBytes (element dims : Nat) : Nat :=
  if element == 0x40 then (if 64 ≤ dims && decide (dims ≤ 4096) && dims % 64 == 0 then dims / 8 else 0)
  else if dims == 0 || decide (4096 < dims) then 0
  else if element == 0x01 then 4 * dims
  else if element == 0x02 then 2 * dims
  else if element == 0x04 || element == 0x05 || element == 0x0B then dims else 0

/-- The integers of an INT8 or BINARY vector, none for a floating-point element. -/
def vecInts (element dims : Nat) (b : Bytes) : Option (List Int) :=
  if element == 0x0B then some ((List.range dims).map (fun i => sext 8 (u8 b i)))
  else if element == 0x40 then some ((List.range dims).map (fun i => if bit (u8 b (i / 8)) (i % 8) then 1 else -1))
  else none

/-- The values of a floating-point vector (R144). -/
def vecVals (element dims : Nat) (b : Bytes) : List FV :=
  match elemFmt element with
  | some (f, _) => (List.range dims).map (fun i => f.decode (field b (i * (f.width / 8)) (f.width / 8)))
  | none => []

/-- A sum of terms, each addition rounded to FP32, in dimension order (R256). -/
def sum32 (vs : List FV) : FV := vs.foldl (fun a v => add32 a v) (.fin false 0 0)

/-- Σ aᵢbᵢ as FP32. -/
def dotOf (element dims : Nat) (a b : Bytes) : FV :=
  match vecInts element dims a, vecInts element dims b with
  | some x, some y => round32 (FV.ofInt ((List.zipWith (· * ·) x y).foldl (· + ·) 0))
  | _, _ => sum32 (List.zipWith mul32 (vecVals element dims a) (vecVals element dims b))

/-- −v. -/
def FV.negate : FV → FV
  | .nan => .nan
  | .inf s => .inf (!s)
  | .fin s m e => .fin (!s) m e

/-- Σ (aᵢ − bᵢ)² as FP32. -/
def l2Of (element dims : Nat) (a b : Bytes) : FV :=
  match vecInts element dims a, vecInts element dims b with
  | some x, some y => round32 (FV.ofInt ((List.zipWith (fun p q => (p - q) * (p - q)) x y).foldl (· + ·) 0))
  | _, _ =>
    sum32 (List.zipWith (fun p q => let d := add32 p q.negate; mul32 d d) (vecVals element dims a) (vecVals element dims b))

/-- A zero of either sign. -/
def FV.isZero : FV → Bool
  | .fin _ m _ => m == 0
  | _ => false

/-- The square root of a value of at least 0, with far more bits than FP32 holds. -/
def FV.root : FV → FV
  | .fin s m e =>
    let k : Nat := if e % 2 == 0 then 128 else 129
    let r := Nat.sqrt (m * 2 ^ k)
    .fin s (2 * r + b2n (r * r != m * 2 ^ k)) ((e - k) / 2 - 1)
  | v => v

/-- The COSINE distance (R256) from the sums Σqx, Σqq and Σxx: 1 − Σqx / (‖q‖ ‖x‖), its product and its subtraction rounded to FP32,
its norms and its quotient where Config says so (assumption 210). -/
def cosDist (qx qq xx : FV) : FV :=
  let norm (v : FV) : FV := if Config.cosineRoots then round32 v.root else v.root
  let c := qx.div (mul32 (norm qq) (norm xx))
  add32 (.fin false 1 0) (if Config.cosineQuotient then round32 c else c).negate

/-- The FP32 code of a distance under a metric (R256, R257). -/
def distOf (metric element dims : Nat) (q x : Bytes) : Nat :=
  if metric == 0 then fp32.encode false (dotOf element dims q x).negate
  else if metric == 2 then fp32.encode false (l2Of element dims q x)
  else
    let n := dotOf element dims x x
    if n.isZero then 0x3F800000
    else fp32.encode false (cosDist (dotOf element dims q x) (dotOf element dims q q) n)

/-- The vector holds a NaN or an infinity, or its norm is 0 under COSINE (R257). -/
def vecBad (metric element dims : Nat) (b : Bytes) : Bool :=
  ((vecInts element dims b).isNone && (vecVals element dims b).any (fun v => v.isNan || v.isInf)) ||
  (metric == 1 && (dotOf element dims b b).isZero)

/-- A distance is not above another. -/
def distLe (a b : Nat) : Bool := !(fp32.decode b).lt (fp32.decode a) || ((fp32.decode a).isZero && (fp32.decode b).isZero)

/-- The order of found nodes: distance, then the lower node ID (R263). -/
def hitLe (a b : BoreHit) : Bool := if distLe a.dist b.dist && distLe b.dist a.dist then decide (a.node ≤ b.node) else distLe a.dist b.dist

/-- The k least of a list of nodes. -/
def leastHits (k : Nat) (l : List BoreHit) : List BoreHit := (sortBy hitLe l).take k

/-- Bits that differ. -/
def hamming (a b : Bytes) : Nat := (List.zipWith (fun (x y : Byte) => popcount 8 (x ^^^ y).toNat) a b).foldl (· + ·) 0

/-! ### Records -/

/-- RECORD_BYTES (R258). -/
def recordBytes (element dims maxDegree sketchBytes : Nat) : Nat :=
  roundUp (32 + 4 * maxDegree + sketchBytes + vecBytes element dims) 64

/-- The sector extent of a shard: extents 1 to 512 are the shards'. -/
def shardExt (index shard : Nat) : Nat := 1 + 32 * index + shard

/-- Sectors of a shard. -/
def BoreIndex.sectors (x : BoreIndex) : Nat :=
  if x.recordBytes ≤ 4096 then 1 + ceilDiv x.capacity (4096 / x.recordBytes)
  else 1 + x.capacity * ceilDiv x.recordBytes 4096

/-- The head sector of a record, the byte where it starts there, and how many sectors it takes. -/
def BoreIndex.at (x : BoreIndex) (r : Nat) : Nat × Nat × Nat :=
  if x.recordBytes ≤ 4096 then
    let rps := 4096 / x.recordBytes
    (1 + r / rps, r % rps * x.recordBytes, 1)
  else (1 + r * ceilDiv x.recordBytes 4096, 0, ceilDiv x.recordBytes 4096)

/-- NONE (R253). -/
def nodeNone : Nat := 0xFFFFFFFF

/-- A node ID. -/
def nodeId (shard r : Nat) : Nat := shard + 32 * r

/-- A sector as the unit sees it: the latest write that waits for room, else what the map gives; none when it was never
written. -/
def Module.boreSector (m : Module) (ext n : Nat) : Option Bytes :=
  let c := ((m.ftl.extents.get ext).map (·.channel)).getD 0
  let w := ((m.chan c).waiting.filter (fun w => w.ext == ext && w.logical == n)).getLast?
  match (w.map (·.content)) <|> m.ftlRead ext n with
  | some (.sector b) => some b
  | _ => none

/-- The bytes of a record; none when its head sector was never written. -/
def Module.boreRecord (m : Module) (index shard r : Nat) : Option Bytes :=
  (m.bore.indexes.get index).bind (fun x =>
    let (s, o, n) := x.at r
    let ext := shardExt index shard
    (m.boreSector ext s).map (fun h =>
      slice (h ++ (List.range (n - 1)).flatMap (fun i => (m.boreSector ext (s + 1 + i)).getD (zeros 4096))) o x.recordBytes))

/-- Where a read of a record that begins now finds its head sector (R302); none while a write of it waits for room, or before it is
written. -/
def Module.recordPlace (m : Module) (index shard r : Nat) : Option (Nat × Nat) :=
  (m.bore.indexes.get index).bind (fun x =>
    let ext := shardExt index shard
    let s := (x.at r).1
    if (m.chan shard).waiting.any (fun w => w.ext == ext && w.logical == s) then none else m.ftlLoc ext s)

/-- The bytes of a record whose head sector is read at a place. -/
def Module.boreRecordAt (m : Module) (place : Option (Nat × Nat)) (index shard r : Nat) : Option Bytes :=
  match place.bind (fun p => (m.chan p.1).unit p.2), m.bore.indexes.get index with
  | some u, some x =>
    match u.content with
    | .sector h =>
      let (s, o, n) := x.at r
      some (slice (h ++ (List.range (n - 1)).flatMap (fun i =>
        (m.boreSector (shardExt index shard) (s + 1 + i)).getD (zeros 4096))) o x.recordBytes)
    | _ => none
  | _, _ => m.boreRecord index shard r

/-- Fields of a record (R260). -/
def recState (b : Bytes) : Nat := u8 b 4
def recNeighbours (b : Bytes) : List Nat := (List.range (u8 b 5)).map (fun i => u32 b (0x20 + 4 * i))
def BoreIndex.recSketch (x : BoreIndex) (b : Bytes) : Bytes := slice b (32 + 4 * x.maxDegree) x.sketchBytes
def BoreIndex.recVector (x : BoreIndex) (b : Bytes) : Bytes :=
  slice b (32 + 4 * x.maxDegree + x.sketchBytes) (vecBytes x.element x.dims)

/-- CHECK and VCHECK pass. -/
def BoreIndex.recOk (x : BoreIndex) (b : Bytes) : Bool :=
  let head := slice b 0 (32 + 4 * x.maxDegree + x.sketchBytes)
  u32 b 0x1C == crc32c (splice head 0x1C (zeros 4)) && u32 b 0x18 == crc32c (x.recVector b)

/-- A record formed from its parts, its check values computed. -/
def BoreIndex.record (x : BoreIndex) (node state label attr : Nat) (nbrs : List Nat) (sketch vec : Bytes) : Bytes :=
  let head (check : Nat) : Bytes :=
    leBytes 4 node ++ leBytes 1 state ++ leBytes 1 nbrs.length ++ zeros 2 ++ leBytes 8 label ++ leBytes 8 attr ++
    leBytes 4 (crc32c vec) ++ leBytes 4 check ++
    (nbrs ++ List.replicate (x.maxDegree - nbrs.length) nodeNone).flatMap (leBytes 4) ++ sketch
  padTo (head (crc32c (head 0)) ++ vec) x.recordBytes

/-- A record with its state and neighbours replaced. -/
def BoreIndex.edit (x : BoreIndex) (b : Bytes) (state : Nat) (nbrs : List Nat) : Bytes :=
  x.record (u32 b 0) state (u64 b 8) (u64 b 0x10) nbrs (x.recSketch b) (x.recVector b)

/-- Sectors are written through the FTL; the answer tells whether it took or holds the write. -/
def Module.boreWrite (ext : Nat) (ss : List (Nat × Bytes)) (m : Module) : Module × Bool :=
  ss.foldl (fun (acc : Module × Bool) (n, b) =>
    if !acc.2 then acc
    else
      let (m1, st) := acc.1.ftlWrite ext n (.sector b)
      match st with
      | .readOnly => (m1, false)
      | .noSpace => (m1, false)
      | _ => (m1.bump Reg.BORE.SECTOR_WRITES_COUNT, true)) (m, true)

/-- A record is written: its head sector alone, or with its vector sectors. A pass that runs on the shard notes it. -/
def Module.boreStore (index shard r : Nat) (b : Bytes) (whole : Bool) (m : Module) : Module × Bool :=
  match m.bore.indexes.get index with
  | none => (m, false)
  | some x =>
    let (s, o, n) := x.at r
    let ext := shardExt index shard
    let head := slice (splice ((m.boreSector ext s).getD (zeros 4096)) o (b.take 4096)) 0 4096
    let tail := if whole then (List.range (n - 1)).map (fun i => (s + 1 + i, slice b (4096 * (i + 1)) 4096)) else []
    let res := m.boreWrite ext (tail ++ [(s, head)])
    let m1 := res.1
    ({ m1 with bore := { m1.bore with passes := m1.bore.passes.mapV (fun _ p =>
        if p.index == index && p.shard == shard then { p with written := p.written ++ [r] } else p) } }, res.2)

/-- The shard header (R259). -/
def BoreIndex.header (x : BoreIndex) (index shard : Nat) (entries : List Nat) : Bytes :=
  let b := leBytes 4 1 ++ leBytes 1 index ++ leBytes 1 shard ++ leBytes 1 x.element ++ leBytes 1 x.metric ++
    leBytes 2 x.dims ++ leBytes 1 x.maxDegree ++ leBytes 1 x.sketchBytes ++ leBytes 2 x.recordBytes ++
    leBytes 1 x.partition ++ leBytes 1 entries.length ++ leBytes 4 x.capacity ++ leBytes 4 x.alpha ++
    leBytes 2 x.buildQueue ++ zeros 6 ++ leBytes 8 x.created ++ zeros 216 ++
    (entries ++ List.replicate (64 - entries.length) nodeNone).flatMap (leBytes 4) ++ zeros 3580
  b ++ leBytes 4 (crc32c b)

/-- A shard header's check and place (R277). -/
def headerOk (b : Bytes) (index shard : Nat) : Bool :=
  u32 b 0 == 1 && u8 b 4 == index && u8 b 5 == shard && u32 b 0xFFC == crc32c (slice b 0 0xFFC)

/-- The index that a header describes, with no shard opened. -/
def BoreIndex.ofHeader (b : Bytes) : BoreIndex :=
  ⟨u8 b 0x0E, u8 b 6, u8 b 7, u16 b 8, u8 b 0x0A, u8 b 0x0B, u16 b 0x0C, u32 b 0x10, u32 b 0x14, u16 b 0x18, u64 b 0x20, none,
   none, List.replicate 32 ⟨false, false, [], [], []⟩⟩

/-! ### Indexes as they stand -/

def BoreShard.blank : BoreShard := ⟨false, false, [], [], []⟩

/-- A shard. -/
def BoreIndex.shard (x : BoreIndex) (s : Nat) : BoreShard := nthD x.shards s BoreShard.blank

/-- The module with a shard changed. -/
def Module.updShard (index s : Nat) (f : BoreShard → BoreShard) (m : Module) : Module :=
  { m with bore := { m.bore with indexes := m.bore.indexes.upd index (fun x => { x with shards := updNth x.shards s f }) } }

/-- The index is open: every shard has been opened and no drop runs. -/
def BoreIndex.ready (x : BoreIndex) : Bool := x.shards.all (·.opened) && x.dropping.isNone

/-- Records of a state in an index. -/
def BoreIndex.count (x : BoreIndex) (state : Nat) : Nat :=
  x.shards.foldl (fun a s => a + (s.states.vals.filter (· == state)).length) 0

/-- LPDDR pool bytes of an index (R262). -/
def BoreIndex.poolBytes (x : BoreIndex) : Nat := 32 * (x.capacity * x.sketchBytes + ceilDiv x.capacity 4 + 4 * x.capacity)

/-- The read-only registers of R286. -/
def Module.boreShow (m : Module) : Module :=
  let ready := (m.bore.indexes.filter (fun (_, x) => x.ready)).foldl (fun a (i, _) => a + 2 ^ i) 0
  let busy := (List.range 16).foldl (fun a i => a + (if m.bore.passes.vals.any (fun p => p.index == i) then 2 ^ i else 0)) 0
  let m1 := ((m.set Reg.BORE.STATUS_READY ready).set Reg.BORE.STATUS_REPAIRING busy).set Reg.BORE.WALKS_ACTIVE_COUNT
    m.bore.walks.length
  (List.range 16).foldl (fun (a : Module) i =>
    match a.bore.indexes.get i with
    | some x => (a.set (Reg.BORE.LIVE_COUNT.at 8 i) (x.count 1)).set (Reg.BORE.TOMB_COUNT.at 8 i) (x.count 2)
    | none => (a.set (Reg.BORE.LIVE_COUNT.at 8 i) 0).set (Reg.BORE.TOMB_COUNT.at 8 i) 0) m1

/-- A record failed its check (R276). -/
def Module.boreCheckFail (index node : Nat) (m : Module) : Module :=
  let p := ((m.bore.indexes.get index).map (·.partition)).getD 0xFF
  (((m.bump Reg.BORE.CHECK_FAILS_COUNT).set Reg.BORE.STATUS_CHECK_FAIL 1).event 0x0801 p 2 node index)

/-- A record read by an insert, a delete or a pass: none when it fails its check, which is reported, and the operation goes
on without it (R276). -/
def Module.boreFetch (index shard r : Nat) (m : Module) : Option Bytes × Module :=
  match m.bore.indexes.get index, m.boreRecord index shard r with
  | some x, some b =>
    let m1 := m.bumpBy Reg.BORE.SECTOR_READS_COUNT (x.at r).2.2
    if x.recOk b then (some b, m1) else (none, m1.boreCheckFail index (nodeId shard r))
  | _, _ => (none, m)

/-- No write of a shard waits for room in its channel. -/
def Module.boreQuiet (m : Module) (index shard : Nat) : Bool :=
  m.ftl.chans.vals.all (fun c => c.waiting.all (fun w => w.ext != shardExt index shard))

/-- A checkpoint copies the index (R349). -/
def Module.boreCopied (m : Module) (index : Nat) : Bool :=
  (m.ckpt.run.map (fun r => decide (r.stage ≤ 2) && bit r.indexes index)).getD false

/-! ### Walks -/

/-- Reads in flight on a unit: of its walks and of its pass. -/
def Module.unitReads (m : Module) (u : Nat) : Nat :=
  m.bore.walks.vals.foldl (fun a w => if w.shard == u then a + w.reads.length else a) 0 +
  (m.bore.passes.vals.filter (fun p => p.shard == u && p.reading)).length

/-- Walks on a unit. -/
def Module.unitWalks (m : Module) (u : Nat) : Nat := (m.bore.walks.vals.filter (fun w => w.shard == u)).length

/-- Partition tags under which unit u has reads or writes at its flash channel (R269): the reads of its walks, the scan of a shard
that is not yet open and the writes not yet programmed under the index's partition, the reads of a repair pass under MODULE
(R424). -/
def Module.boreTags (m : Module) (u : Nat) : List Nat :=
  let part (i : Nat) : Nat := ((m.bore.indexes.get i).map (·.partition)).getD 8
  let mine (e : Nat) : Bool := decide (1 ≤ e) && decide (e ≤ 512) && (e - 1) % 32 == u
  (m.bore.walks.vals.filter (fun w => w.shard == u && !w.reads.isEmpty)).map (fun w => part w.index) ++
  (m.bore.passes.vals.filter (fun p => p.shard == u && p.reading)).map (fun _ => 8) ++
  (m.bore.indexes.vals.filter (fun x => !(x.shard u).opened)).map (·.partition) ++
  ((m.chan u).buffer.filter (fun w => mine w.ext && w.copyOf.isNone)).map (fun w => part ((w.ext - 1) / 32)) ++
  ((m.chan u).waiting.filter (fun w => mine w.ext)).map (fun w => part ((w.ext - 1) / 32))

/-- A unit's requests stand at its flash channel's arbiter as requester 6 while it has reads or writes there, one for each tag
(R269, R424). -/
def Module.boreArbiter (m : Module) (u : Nat) : Module :=
  let tags := m.boreTags u
  let held := ((m.reedInst (40 + u)).waiting ++ (m.reedInst (40 + u)).holder.toList).filter (fun r => r.requester == 6)
  let m1 := (held.filter (fun r => !tags.contains r.tag)).foldl (fun (a : Module) r => a.reedDrop (40 + u) 6 r.tag) m
  tags.eraseDups.foldl (fun (a : Module) t => a.reedRequest (40 + u) 6 t 64) m1

/-- Every unit's requests follow what it has in flight. -/
def Module.boreArbiters (m : Module) : Module := (List.range 32).foldl Module.boreArbiter m

/-- The order of candidates: key, then node ID. -/
def candLe (a b : BoreCand) : Bool := decide (a.key < b.key) || (a.key == b.key && decide (a.node ≤ b.node))

/-- A walk issues the reads that BEAM, MAX_HOPS and its unit's limit allow (R263, R269). -/
def Module.pumpWalk (id : Nat) : Nat → Module → Module
  | 0, m => m
  | fuel + 1, m =>
    match m.bore.walks.get id with
    | none => m
    | some w =>
      if w.beam ≤ w.reads.length || decide (w.hops ≤ w.expansions) || decide (32 ≤ m.unitReads w.shard) then m
      else
        match (sortBy candLe w.queue).find? (fun c => !c.expanded) with
        | none => m
        | some c =>
          let w1 := { w with
            queue := w.queue.map (fun x => if x.node == c.node then { x with expanded := true } else x),
            expansions := w.expansions + 1, reads := w.reads ++ [c.node],
            places := match m.recordPlace w.index w.shard (c.node / 32) with
              | some p => w.places.put c.node p
              | none => w.places }
          Module.pumpWalk id fuel { m with bore := { m.bore with walks := m.bore.walks.put id w1 } }

/-- The walks of a unit issue what they may, in the order in which they began. -/
def Module.pumpUnit (u : Nat) (m : Module) : Module :=
  (m.bore.walks.filter (fun (_, w) => w.shard == u)).foldl (fun (a : Module) (id, _) => a.pumpWalk id 8) m

/-- A walk starts on a shard (R263): the queue holds the entry nodes. -/
def Module.startWalk (why : WalkFor) (index shard : Nat) (vec sketch : Bytes) (k limit beam hops : Nat) (any : Bool)
    (mask value : Nat) (m : Module) : Module :=
  let sh := ((m.bore.indexes.get index).map (fun x => x.shard shard)).getD BoreShard.blank
  let seeds := sh.entries.eraseDups
  let q := seeds.map (fun n => (⟨hamming sketch (sh.sketches.getD (n / 32) []), n, false⟩ : BoreCand))
  let w : BoreWalk := ⟨why, index, shard, vec, sketch, k, limit, beam, hops, any, mask, value, sortBy candLe q,
    seeds, 0, [], [], [], []⟩
  { m with bore := { m.bore with walks := m.bore.walks.put m.bore.nextWalk w, nextWalk := m.bore.nextWalk + 1 } }

/-- A neighbour not yet visited enters the queue, and the farthest candidate leaves a queue that holds too many. -/
def BoreWalk.visit (sh : BoreShard) (w : BoreWalk) (n : Nat) : BoreWalk :=
  if w.visited.contains n then w
  else
    let c : BoreCand := ⟨hamming w.sketch (sh.sketches.getD (n / 32) []), n, false⟩
    let q := sortBy candLe (w.queue ++ [c])
    { w with visited := w.visited ++ [n], queue := q.take w.limit }

/-- The node passes the filter (R266). -/
def BoreWalk.passes (w : BoreWalk) (attr : Nat) : Bool :=
  if w.filterAny then (attr &&& w.filterMask) != 0 || w.filterMask == 0 else (attr &&& w.filterMask) == w.filterValue

/-- A record has come to a walk: it is checked, measured and offered, and its neighbours are queued (R263). -/
def Module.boreExpand (id node : Nat) (failed : Bool) (m : Module) : Module :=
  match m.bore.walks.get id with
  | none => m
  | some w =>
    match m.bore.indexes.get w.index with
    | none => m
    | some x =>
      let isQuery := match w.why with
        | .query _ => true
        | _ => false
      let w1 := { w with reads := w.reads.filter (· != node), places := w.places.del node }
      let put (w : BoreWalk) (m : Module) : Module := { m with bore := { m.bore with walks := m.bore.walks.put id w } }
      let m1 := (if isQuery then m.bump Reg.BORE.EXPANSIONS_COUNT else m).bumpBy Reg.BORE.SECTOR_READS_COUNT (x.at (node / 32)).2.2
      let fail (m : Module) : Module :=
        let m2 := (put w1 m).boreCheckFail w.index node
        match w.why with
        | .query c => { m2 with bore := { m2.bore with queries := m2.bore.queries.map (fun q =>
            if q.cmd == c then { q with damaged := true } else q) } }
        | _ => m2
      match m.boreRecordAt (w.places.get node) w.index w.shard (node / 32) with
      | none => fail m1
      | some b =>
        if failed || !x.recOk b then fail m1
        else
          let d := distOf x.metric x.element x.dims w.vec (x.recVector b)
          let live := recState b == 1
          let nan := (fp32.decode d).isNan
          let pass := w.passes (u64 b 0x10)
          let h : BoreHit := ⟨d, node, u64 b 8⟩
          let w2 := if live && pass && !nan then
              { w1 with found := leastHits w1.k (w1.found ++ [h]), all := if isQuery then [] else w1.all ++ [h] }
            else w1
          let w3 := (recNeighbours b).foldl (fun (w : BoreWalk) n => w.visit (x.shard w.shard) n) w2
          let m2 := if live then m1 else m1.bump Reg.BORE.NOT_LIVE_EXPANDED_COUNT
          put w3 (if nan || !pass then m2.bump Reg.BORE.FILTERED_COUNT else m2)

/-- The walk has ended (R264): nothing is in flight, and no candidate may be expanded. -/
def BoreWalk.ended (w : BoreWalk) : Bool :=
  w.reads.isEmpty && (w.queue.all (·.expanded) || decide (w.hops ≤ w.expansions))

/-- The walk ended truncated. -/
def BoreWalk.truncated (w : BoreWalk) : Bool := w.queue.any (fun c => !c.expanded)

/-! ### Queries -/

/-- The header of a result (R267). -/
def resultHead (count : Nat) (st : Status) (flags exps : Nat) : Bytes :=
  leBytes 2 count ++ leBytes 2 st.code ++ leBytes 1 flags ++ zeros 3 ++ leBytes 4 exps ++ zeros 4

/-- A query whose walks have all ended merges them and completes (R265, R267). With the host link down its result cannot be
written; in D3hot it waits. -/
def Module.boreMerge (q : BoreQuery) (m : Module) : Module :=
  match m.host.running.find? (fun c => c.id == q.cmd), m.bore.indexes.get q.index with
  | some c, some x =>
    let needHost := !q.outHbm && cmdNeedsHost c q.out
    if needHost && m.host.linkUp && m.host.d3hot then m
    else
      let m1 := { m with bore := { m.bore with queries := m.bore.queries.filter (fun y => y.cmd != q.cmd) } }
      let live := q.found.filter (fun h => (x.shard (h.node % 32)).states.get (h.node / 32) == some 1)
      let hits := leastHits q.k live
      let short := decide (hits.length < q.k)
      let st := if short then Status.exhausted else .ok
      let head := resultHead hits.length st (b2n short + 2 * b2n q.truncated + 4 * b2n q.partial_ + 8 * b2n q.damaged)
        q.expansions
      let out := head ++ hits.flatMap (fun h => leBytes 4 h.node ++ leBytes 4 h.dist ++ leBytes 8 h.label)
      let m2 := (m1.bump Reg.BORE.QUERIES_COUNT).bumpBy Reg.BORE.QUERIES_EXHAUSTED_COUNT (b2n short)
      let m3 := if needHost && !m.host.linkUp then m2.fail c .timeout
        else (if q.outHbm then { m2 with hbm := m2.hbm.wrN q.out out } else m2.cmdWrite c q.out out).complete c st head noDetail
      if q.object == ligNone then m3 else m3.engineSignal q.object 8
  | _, _ => { m with bore := { m.bore with queries := m.bore.queries.filter (fun y => y.cmd != q.cmd) } }

/-- Queries with no walk left are merged. -/
def Module.mergeQueries (m : Module) : Module :=
  (m.bore.queries.filter (fun q => m.bore.walks.vals.all (fun w => w.why != .query q.cmd))).foldl
    (fun (a : Module) q => a.boreMerge q) m

/-! ### The neighbour choice (R271) -/

/-- Squared Euclidean distance whatever the metric. -/
def BoreIndex.near (x : BoreIndex) (a b : Bytes) : Nat := fp32.encode false (l2Of x.element x.dims a b)

/-- The choice for a vector p from candidates, each a node ID and its vector. -/
def BoreIndex.choose (x : BoreIndex) (p : Bytes) (cands : List (Nat × Bytes)) : List Nat :=
  let alpha := fp32.decode x.alpha
  let ds := cands.map (fun (n, v) => ((⟨x.near p v, n, 0⟩ : BoreHit), v))
  let sorted := sortBy (fun (a b : BoreHit × Bytes) => hitLe a.1 b.1) ds
  (sorted.foldl (fun (out : List (Nat × Bytes)) (h, v) =>
    if x.maxDegree ≤ out.length then out
    else if out.any (fun (_, o) =>
        distLe (fp32.encode false (mul32 alpha (fp32.decode (x.near o v)))) h.dist) then out
    else out ++ [(h.node, v)]) []).map (·.1)

/-- The vectors of nodes of a shard, those whose records fail left out. -/
def Module.boreVectors (index shard : Nat) (nodes : List Nat) (m : Module) : List (Nat × Bytes) × Module :=
  nodes.foldl (fun (acc : List (Nat × Bytes) × Module) n =>
    match acc.2.boreFetch index shard (n / 32) with
    | (some b, m1) => (acc.1 ++ [(n, ((m1.bore.indexes.get index).map (fun x => x.recVector b)).getD [])], m1)
    | (none, m1) => (acc.1, m1)) ([], m)

/-! ### Inserts (R270) -/

/-- An answer of a batch entry; the batch's command completes with its last (R283). -/
def Module.insertDone (n node : Nat) (st : Status) (m : Module) : Module :=
  match m.bore.inserts.get n with
  | none => m
  | some e =>
    { m with bore := { m.bore with
      inserts := m.bore.inserts.del n,
      batches := m.bore.batches.map (fun b => if b.cmd == e.cmd then { b with done := b.done.put e.place (node, st.code) } else b) } }

/-- The status of a code that an entry may end with. -/
def entryStatus (n : Nat) : Status := if n == 5 then .badField else if n == 2 then .noSpace else if n == 7 then .readOnly else .ok

/-- Batches whose entries have all ended complete. -/
def Module.batchesDone (m : Module) : Module :=
  (m.bore.batches.filter (fun b => b.done.length == b.count)).foldl (fun (a : Module) b =>
    match a.host.running.find? (fun c => c.id == b.cmd) with
    | none => { a with bore := { a.bore with batches := a.bore.batches.filter (fun y => y.cmd != b.cmd) } }
    | some c =>
      let needHost := !b.outHbm && cmdNeedsHost c b.out
      if needHost && a.host.linkUp && a.host.d3hot then a
      else
        let a1 := { a with bore := { a.bore with batches := a.bore.batches.filter (fun y => y.cmd != b.cmd) } }
        let out := b.done.vals.flatMap (fun (n, s) => leBytes 4 n ++ leBytes 2 s ++ zeros 2)
        let good := (b.done.vals.filter (fun d => d.2 == 0)).length
        let st := ((b.done.vals.find? (fun d => d.2 != 0)).map (fun d => entryStatus d.2)).getD .ok
        if needHost && !a.host.linkUp then a1.fail c .timeout
        else
          (if b.outHbm then { a1 with hbm := a1.hbm.wrN b.out out } else a1.cmdWrite c b.out out).complete c st
            (leBytes 4 good) noDetail) m

/-- Steps 2 to 4 of R270 for an entry whose walk has settled: the record is written PENDING with its neighbours, and each
neighbour that is still LIVE takes the back-edge, pruned when its list is full. -/
def Module.insertWrite (n : Nat) (hits : List BoreHit) (m : Module) : Module :=
  match m.bore.inserts.get n with
  | none => m
  | some e =>
    match m.bore.indexes.get e.index with
    | none => m.insertDone n nodeNone .noSpace
    | some x =>
      let sh := x.shard e.shard
      match sh.states.lowestFree 0 x.capacity with
      | none => m.insertDone n nodeNone .noSpace
      | some r =>
        let me := nodeId e.shard r
        let (cands, m1) := m.boreVectors e.index e.shard (hits.map (·.node))
        let nbrs := x.choose e.vec cands
        match m1.boreStore e.index e.shard r (x.record me 3 e.label e.attr nbrs e.sketch e.vec) true with
        | (m2, false) => m2.insertDone n nodeNone .readOnly
        | (m2, true) =>
          let m3 := m2.updShard e.index e.shard (fun s => { s with states := s.states.put r 3, sketches := s.sketches.put r e.sketch })
          let m4 := nbrs.foldl (fun (a : Module) nb =>
            let live := ((a.bore.indexes.get e.index).map (fun y => (y.shard e.shard).states.get (nb / 32) == some 1)).getD false
            if !live then a
            else
              match a.boreFetch e.index e.shard (nb / 32) with
              | (none, a1) => a1
              | (some b, a1) =>
                let old := recNeighbours b
                if old.length < x.maxDegree then
                  (a1.boreStore e.index e.shard (nb / 32) (x.edit b (recState b) (old ++ [me])) false).1
                else
                  let (vs, a2) := a1.boreVectors e.index e.shard old
                  (a2.boreStore e.index e.shard (nb / 32)
                    (x.edit b (recState b) (x.choose (x.recVector b) (vs ++ [(me, e.vec)]))) false).1) m3
          { m4 with bore := { m4.bore with inserts := m4.bore.inserts.upd n (fun e => { e with stage := 2, record := r }) } }

/-- Steps 5 and 6 of R270, once the writes of the step before have been accepted. -/
def Module.insertAdvance (n : Nat) (m : Module) : Module :=
  match m.bore.inserts.get n with
  | none => m
  | some e =>
    if !m.boreQuiet e.index e.shard then m
    else if e.stage == 2 then
      if m.ftl.readOnly then m.insertDone n nodeNone .readOnly
      else
        match m.bore.indexes.get e.index, m.boreRecord e.index e.shard e.record with
        | some x, some b =>
          let es := (x.shard e.shard).entries
          let (m1, ok1) := m.boreStore e.index e.shard e.record (x.edit b 1 (recNeighbours b)) false
          let es1 := if es.length < 64 then es ++ [nodeId e.shard e.record] else es
          let m2 := if es.length < 64 && ok1 then
              (m1.boreWrite (shardExt e.index e.shard) [(0, x.header e.index e.shard es1)]).1 else m1
          if !ok1 then m2.insertDone n nodeNone .readOnly
          else
            let m3 := m2.updShard e.index e.shard (fun s => { s with entries := es1 })
            let m4 := { m3 with bore := { m3.bore with inserts := m3.bore.inserts.upd n (fun e => { e with stage := 3 }) } }
            if m4.boreQuiet e.index e.shard then
              ((m4.updShard e.index e.shard (fun s => { s with states := s.states.put e.record 1 })).bump
                Reg.BORE.INSERTS_COUNT).insertDone n (nodeId e.shard e.record) .ok
            else m4
        | _, _ => m.insertDone n nodeNone .readOnly
    else if e.stage == 3 then
      ((m.updShard e.index e.shard (fun s => { s with states := s.states.put e.record 1 })).bump
        Reg.BORE.INSERTS_COUNT).insertDone n (nodeId e.shard e.record) .ok
    else m

/-- The first entry of each shard that waits starts its walk when no earlier one runs there and its unit has a slot. -/
def Module.startInserts (m : Module) : Module :=
  m.bore.inserts.foldl (fun (a : Module) (n, e) =>
    let first := a.bore.inserts.find? (fun (_, y) => y.index == e.index && y.shard == e.shard)
    if e.stage == 0 && (first.map (·.1)) == some n && decide (a.unitWalks e.shard < 64) then
      let a1 := { a with bore := { a.bore with inserts := a.bore.inserts.upd n (fun e => { e with stage := 1 }) } }
      let q := ((a1.bore.indexes.get e.index).map (·.buildQueue)).getD 16
      a1.startWalk (.insert n) e.index e.shard e.vec e.sketch q q (a1.get Reg.BORE.QUERY_CTRL_BEAM)
        (a1.get Reg.BORE.QUERY_CTRL_MAX_HOPS) false 0 0
    else a) m

/-! ### Repair (R274) -/

/-- A record's neighbours without the tombstones of a pass, chosen anew; a tombstone of the pass is read and left as it is. -/
def Module.foldRecord (p : BorePass) (r : Nat) (m : Module) : Module × Bool :=
  match m.bore.indexes.get p.index with
  | none => (m, true)
  | some x =>
    if p.tombs.contains r then ((m.boreFetch p.index p.shard r).2, true) else
    match m.boreFetch p.index p.shard r with
    | (none, m1) => (m1, true)
    | (some b, m1) =>
      let old := recNeighbours b
      let isDead (n : Nat) : Bool := p.tombs.contains (n / 32)
      let dead := old.filter isDead
      if dead.isEmpty then (m1, true)
      else
        let (far, m2) := dead.foldl (fun (acc : List Nat × Module) n =>
          match acc.2.boreFetch p.index p.shard (n / 32) with
          | (some d, a) => (acc.1 ++ recNeighbours d, a)
          | (none, a) => (acc.1, a)) ([], m1)
        let live (n : Nat) : Bool := (x.shard p.shard).states.get (n / 32) == some 1
        let cands := (old.filter (fun n => !isDead n) ++ far.filter (fun n => live n && n / 32 != r)).eraseDups
        let (vs, m3) := m2.boreVectors p.index p.shard cands
        m3.boreStore p.index p.shard r (x.edit b (recState b) (x.choose (x.recVector b) vs)) false

/-- The end of a pass: records written since it began are edited again, entry nodes are replaced, and its tombstones become
FREE in the state map. -/
def Module.finishPass (id : Nat) (m : Module) : Module :=
  match m.bore.passes.get id with
  | none => m
  | some p =>
    match m.bore.indexes.get p.index with
    | none => { m with bore := { m.bore with passes := m.bore.passes.del id } }
    | some x =>
      let again := p.written.eraseDups.filter (fun r => !p.tombs.contains r)
      let m1 := again.foldl (fun (a : Module) r => (a.foldRecord p r).1) m
      let es := (x.shard p.shard).entries
      let hit := es.any (fun n => p.tombs.contains (n / 32))
      let (es1, m2) := if !hit then (es, m1)
        else es.foldl (fun (acc : List Nat × Module) n =>
          if !p.tombs.contains (n / 32) then (acc.1 ++ [n], acc.2)
          else
            match acc.2.boreFetch p.index p.shard (n / 32) with
            | (none, a) => (acc.1, a)
            | (some b, a) =>
              let live (k : Nat) : Bool := (x.shard p.shard).states.get (k / 32) == some 1
              let (vs, a1) := a.boreVectors p.index p.shard ((recNeighbours b).filter live)
              let best := (leastHits 1 (vs.map (fun (k, v) => (⟨x.near (x.recVector b) v, k, 0⟩ : BoreHit)))).map (·.node)
              (acc.1 ++ best, a1)) ([], m1)
      let m3 := if hit then (m2.boreWrite (shardExt p.index p.shard) [(0, x.header p.index p.shard es1)]).1 else m2
      let m4 := m3.updShard p.index p.shard (fun s =>
        { s with entries := es1, states := s.states.keep (fun r _ => !p.tombs.contains r) })
      { (m4.bumpBy Reg.BORE.FOLDED_COUNT p.tombs.length) with
        bore := { m4.bore with passes := m4.bore.passes.upd id (fun p => { p with folded := true }) } }

/-- A pass is over: the commands that wait for it and for no other pass complete. -/
def Module.endPass (id : Nat) (st : Status) (m : Module) : Module :=
  match m.bore.passes.get id with
  | none => m
  | some p =>
    let m1 := { m with bore := { m.bore with passes := m.bore.passes.del id } }
    p.cmds.foldl (fun (a : Module) cid =>
      let a1 := a.updCmd cid (fun c => { c with data := [c.data.headD 0 + (if p.folded then p.tombs.length else 0)] })
      match a1.host.running.find? (fun c => c.id == cid) with
      | none => a1
      | some c =>
        if st != .ok then a1.complete c st (leBytes 4 (c.data.headD 0)) noDetail
        else if a1.bore.passes.vals.any (fun q => q.cmds.contains cid) then a1 else a1.ok c (leBytes 4 (c.data.headD 0))) m1

/-- A pass asks for its next record, or ends; it stops while the flash is read-only (R278). -/
def Module.advancePass (id : Nat) (m : Module) : Module :=
  match m.bore.passes.get id with
  | none => m
  | some p =>
    if p.folded then (if m.boreQuiet p.index p.shard then m.endPass id .ok else m)
    else if m.ftl.readOnly then m.endPass id .readOnly
    else if p.reading then m
    else if p.left.isEmpty then
      let m1 := m.finishPass id
      if m1.boreQuiet p.index p.shard then m1.endPass id .ok else m1
    else if 32 ≤ m.unitReads p.shard then m
    else
      let place := m.recordPlace p.index p.shard (p.left.headD 0)
      { m with bore := { m.bore with passes := m.bore.passes.upd id (fun p => { p with reading := true, place := place }) } }

/-- A pass starts on a shard, or the one that runs there is joined (R275). -/
def Module.startPass (index shard : Nat) (cmd : Option Nat) (m : Module) : Module :=
  match m.bore.passes.find? (fun (_, p) => p.index == index && p.shard == shard) with
  | some (id, _) =>
    { m with bore := { m.bore with passes := m.bore.passes.upd id (fun p => { p with cmds := p.cmds ++ cmd.toList }) } }
  | none =>
    match m.bore.indexes.get index with
    | none => m
    | some x =>
      let st := (x.shard shard).states
      let tombs := (st.filter (fun (_, v) => v == 2)).map (·.1)
      let p : BorePass := ⟨index, shard, tombs, st.keys, false, [], false, cmd.toList, none⟩
      let id := m.bore.nextWalk
      ({ m with bore := { m.bore with passes := m.bore.passes.put id p, nextWalk := id + 1 } }).ownHint

/-! ### Everything that can go on -/

/-- Walks that have ended leave: a query takes what they found, an insert goes on to its writes. -/
def Module.endWalks (m : Module) : Module :=
  (m.bore.walks.filter (fun (_, w) => w.ended)).foldl (fun (a : Module) (id, w) =>
    let a1 := { a with bore := { a.bore with walks := a.bore.walks.del id } }
    match w.why with
    | .query c =>
      let a2 := if w.truncated then a1.bump Reg.BORE.WALKS_TRUNCATED_COUNT else a1
      { a2 with bore := { a2.bore with queries := a2.bore.queries.map (fun q => if q.cmd == c then
        { q with found := q.found ++ w.found, expansions := q.expansions + w.expansions,
                 truncated := (q.truncated || w.truncated) } else q) } }
    | .insert n => (if w.truncated then a1.bump Reg.BORE.WALKS_TRUNCATED_COUNT else a1).insertWrite n w.all) m

/-- A drop whose walks, inserts and passes have ended releases the shards and waits for a flush that holds it (R276, R281,
R295). -/
def Module.finishDrops (m : Module) : Module :=
  m.bore.indexes.foldl (fun (a : Module) (i, x) =>
    match x.dropping with
    | none => a
    | some cid =>
      if a.bore.walks.vals.any (fun w => w.index == i) || a.bore.inserts.vals.any (fun e => e.index == i) ||
         a.bore.passes.vals.any (fun p => p.index == i) || a.bore.queries.any (fun q => q.index == i) then a
      else
        let exts := (List.range 32).map (shardExt i)
        let a1 := ({ a with bore := { a.bore with indexes := a.bore.indexes.del i } }).dropExtents exts
        match a1.host.running.find? (fun c => c.id == cid) with
        | some c => a1.await c [0x295]
        | none => a1) m

/-- A creation whose shards are open completes once a flush holds its extents (R280, R295). -/
def Module.finishCreates (m : Module) : Module :=
  m.bore.indexes.foldl (fun (a : Module) (i, x) =>
    match x.creating with
    | none => a
    | some cid =>
      if !x.shards.all (·.opened) then a
      else
        let a1 := { a with bore := { a.bore with indexes := a.bore.indexes.upd i (fun x => { x with creating := none }) } }
        match a1.host.running.find? (fun c => c.id == cid) with
        | none => a1
        | some c =>
          let held := (List.range 32).all (fun s => ((a1.ftl.extents.get (shardExt i s)).map (·.durable)).getD false)
          if held then a1.ok c c.body else a1.await c [0x295]) m

/-- Whatever the units can do goes on: walks end, inserts and passes advance, commands complete. -/
def Module.boreRun (m : Module) : Module :=
  let m1 := m.endWalks
  let m2 := m1.bore.inserts.keys.foldl (fun (a : Module) n => a.insertAdvance n) m1
  let m3 := m2.startInserts
  let m4 := m3.bore.passes.keys.foldl (fun (a : Module) id => a.advancePass id) m3
  let m5 := (List.range 32).foldl (fun (a : Module) u => a.pumpUnit u) m4
  (((m5.endWalks.mergeQueries).batchesDone).finishDrops).finishCreates.boreShow.boreArbiters

end Sys2Proof.Machine
end

