-- ==== Sys2Proof/Machine/Slide.lean ====
section
/-!
DEFINITION. The Slide engine: its commands (R101 to R104), hints (R80), the issue, arrival and miss of prefetch entries
(R84 to R90), tile transfers (R75, R77), the cascade to flash (R95) and host-tier timeouts (R99).
-/

namespace Sys2Proof.Machine

open Sys2Proof

/-! ### Commands -/

/-- The map entries that a SLIDE_PLACE names: private frames of the whole capsule, of layers or of pages (R101). -/
def placeEntries (c : Capsule) (scope first count : Nat) : List Nat :=
  (c.private_.map (·.1)).filter (fun i =>
    if scope == 0 then true
    else if scope == 1 then decide (first ≤ i % c.layers) && decide (i % c.layers < first + count)
    else decide (first ≤ i / c.layers) && decide (i / c.layers < first + count))

/-- The entries of a capsule are noted as kept, or no longer so: a later placement replaces an earlier one (R81). -/
def Capsule.keepEntries (es : List Nat) (keep : Bool) (c : Capsule) : Capsule :=
  let rest := c.keep.filter (fun i => !es.contains i)
  { c with keep := if keep then rest ++ es else rest }

/-- Placements that wait as hints no longer name the entries: a later placement replaces an earlier one (R81). -/
def Module.dropHints (id : Nat) (es : List Nat) (m : Module) : Module :=
  let rest := m.slide.hints.map (fun (h : Hint) =>
    if h.capsule == id then { h with entries := h.entries.filter (fun i => !es.contains i) } else h)
  { m with slide := { m.slide with hints := rest.filter (fun h => !h.entries.isEmpty) } }

/-- SLIDE_PLACE (R80, R101). -/
def slidePlaceCmd (c : RunCmd) (m : Module) : Module :=
  let b := c.payload
  let id := u32 b 0
  let scope := u8 b 4
  let tier := u8 b 5
  let mode := u8 b 6
  let first := u16 b 8
  let count := u16 b 0x0A
  let k := m.slot (id / 256)
  let lim := if scope == 1 then k.layers else k.pages
  m.checked c [(7, 1), (0x0C, 4)]
    (capChecks m id 0
       [(decide (scope ≤ 2), bad 4), (decide (tier ≤ 3), bad 5), (decide (mode ≤ 2) && (mode == 2 || c.fromMailbox), bad 6),
        (scope != 0 || first == 0, bad 8), (scope != 0 || count == 0, bad 0x0A), (scope == 0 || count != 0, bad 0x0A)] ++
     [(scope == 0 || decide (first + count ≤ lim), bad (if first < lim then 0x0A else 8)),
      (m.mayOwn k && !m.fenced, stop .denied), (k.state != 3 && k.state != 5, stop .busy), (!k.damaged, stop .damaged),
      (tier != 3 || !m.ftl.readOnly, stop .readOnly)])
    (fun m => m.heldOr c id (fun m =>
      let es := placeEntries k scope first count
      let hs := es.map (fun i => nthD k.map i 0)
      let m1 := (m.updCap id (Capsule.keepEntries es (mode == 1))).dropHints id es
      if mode == 2 then
        let h : Hint := ⟨id, es, tier⟩
        ({ m1 with slide := { m1.slide with hints := m1.slide.hints ++ [h] } }).ok c []
      else
        let m2 := m1.await c [0]
        let m3 := hs.foldl (fun (a : Module) h =>
          if ((a.host.running.find? (fun x => x.id == c.id)).map (fun x => x.data.headD 0 == 0)).getD false
          then a.startMove (.place c.id) h tier else a) m2
        m3.checkPlace c.id))

/-- An entry of 32 bytes (R84). -/
def entryOf (b : Bytes) (part : Nat) : PfEntry :=
  ⟨0, part, u32 b 0, u32 b 4, u8 b 8, u8 b 9, bit (u8 b 0x0A) 0, bit (u8 b 0x0A) 1, u16 b 0x0C, u16 b 0x0E, u64 b 0x10,
   u32 b 0x18, 0, false, [], false, false, 0⟩

/-- The fields of an entry are in range (R84, R85). -/
def entryFields (b : Bytes) : Bool :=
  decide (u32 b 4 < 2 ^ 18) && decide (u8 b 8 ≤ 126) && (decide (u8 b 9 ≤ 63) || u8 b 9 == 0xFF) && decide (u8 b 0x0A ≤ 3) &&
  u8 b 0x0B == 0 && decide (u16 b 0x0C ≤ 32767) && decide (1 ≤ u16 b 0x0E) && decide (u16 b 0x0E ≤ 32768) &&
  allZero b 0x1C 4

/-- Entries are in non-decreasing order of layer, then of deadline within a layer (R85). -/
def entriesOrdered : List PfEntry → Bool
  | a :: b :: rest =>
    (decide (a.layer < b.layer) || (a.layer == b.layer && decide (a.deadline ≤ b.deadline))) && entriesOrdered (b :: rest)
  | _ => true

/-- SLIDE_SCHEDULE (R85, R102). The schedule waits for its step, or serves it at once when it has been published. -/
def slideScheduleCmd (c : RunCmd) (m : Module) : Module :=
  let b := c.payload
  let addr := u64 b 0
  let n := u32 b 8
  let step := u32 b 0x0C
  let p := u8 b 0x10
  m.checked c [(0x11, 7)]
    [(addr % 32 == 0, bad 0), (decide (1 ≤ n) && decide (n ≤ 131072), bad 8), (m.partOk p, bad 0x10),
     (decide (m.coreCount p ≤ 8), stop .denied), (m.cmdMay c p addr (32 * n) false, stopFw),
     (!m.slide.accepted.contains (p, step), stop .busy)]
    (fun m => m.withHost c (fun m =>
      let raw := (List.range n).map (fun i => m.cmdRead c (addr + 32 * i) 32)
      let es := raw.map (fun e => entryOf e p)
      if !(raw.all entryFields) || es.any (fun e => e.capsule % 256 == 255) || es.any (fun e => e.step != step) || !entriesOrdered es then m.badField c 0
      else if es.any (fun e => ((m.capsule e.capsule).map (·.partition)) != some p) then m.fail c .denied
      else
        let m1 := { m with slide := { m.slide with accepted := m.slide.accepted ++ [(p, step)] } }
        match (m1.pstep p).live.find? (fun s => s.num == step) with
        | some s => (m1.takeEntries (m1.stepEntries p s.seqs es)).ok c []
        | none => ({ m1 with slide := { m1.slide with supplied := m1.slide.supplied ++ [(p, step, es)] } }).ok c []))

/-- Two byte ranges overlap. -/
def overlap (a n b k : Nat) : Bool := decide (a < b + k) && decide (b < a + n)

/-- SLIDE_SWAP_REGISTER (R97, R103). A SIZE of 0 is refused with BAD_FIELD, the model's choice (assumption 187). -/
def slideSwapRegisterCmd (c : RunCmd) (m : Module) : Module :=
  let b := c.payload
  let id := u8 b 0
  let base := u64 b 8
  let size := u64 b 0x10
  m.checked c [(1, 7)]
    [(decide (id ≤ 15), bad 0), (base % 2 ^ 21 == 0, bad 8), (size % 2 ^ 21 == 0 && size != 0, bad 0x10),
     (m.slide.extents.all (fun e => e.id == id || !overlap base size e.base e.size), bad 8),
     (m.slide.extents.all (fun e => e.id != id), stop .busy)]
    (fun m =>
      let first := m.slide.extents.foldl (fun a e => Max.max a (e.first + e.size / 131072)) 0
      let e : Extent := ⟨id, base, size, first⟩
      ({ m with slide := { m.slide with extents := m.slide.extents ++ [e] } }).ok c [])

/-- SLIDE_SWAP_RELEASE: every frame of the extent moves to flash, or to LPDDR when flash refuses, and so does a frame whose move
into the extent is under way, from its new home (R79, R98, R104). -/
def slideSwapReleaseCmd (c : RunCmd) (m : Module) : Module :=
  let id := u8 c.payload 0
  m.checked c [(1, 7)] [(m.slide.extents.any (fun e => e.id == id), bad 0)] (fun m =>
    match m.slide.extents.find? (fun e => e.id == id) with
    | none => m
    | some e =>
      if m.slide.releases.any (fun r => r.extent == id) then m
      else
        let r : Release := ⟨id, c.id, 0⟩
        let m1 := ({ m with slide := { m.slide with releases := m.slide.releases ++ [r] } }).await c []
        let hs := m1.caps.frames.keys.filter (fun h => e.holds h && !m1.slide.leaving.contains h)
        let coming := (m1.slide.moves.vals.filter (fun v => e.holds v.target)).map (·.source)
        let m2 := (hs ++ coming).foldl (fun (a : Module) h =>
          if (a.moveBar 3).isNone then a.startMove (.release id c.id) h 3 else a.startMove (.release id c.id) h 1) m1
        (m2.finishMoves).checkRelease id)

def execSlidePlace (src : Src) (s : State) : Out := run (onCmd 0x0300 src slidePlaceCmd) s
def execSlideSchedule (src : Src) (s : State) : Out := run (onCmd 0x0310 src slideScheduleCmd) s
def execSlideSwapRegister (src : Src) (s : State) : Out := run (onCmd 0x0320 src slideSwapRegisterCmd) s
def execSlideSwapRelease (src : Src) (s : State) : Out := run (onCmd 0x0321 src slideSwapReleaseCmd) s

/-- HINT_MOVE: when the channels of its target tier are idle the oldest hint is carried out; frames that find no room stay
(R80). -/
def hintMove (m : Module) : Module :=
  match m.slide.hints with
  | [] => m
  | h :: rest =>
    if !m.tierIdle h.tier then m else
    let m1 := { m with slide := { m.slide with hints := rest } }
    match m1.capsule h.capsule with
    | none => m1
    | some c =>
      if c.state == 3 || c.state == 5 || !m1.owns c then m1
      else (h.entries.filterMap (fun i => if c.shared * c.layers ≤ i then c.map[i]? else none)).foldl
        (fun (a : Module) f => a.startMove .hint f h.tier) m1

def execHintMove (s : State) : Out := run hintMove s

/-! ### Prefetch -/

/-- The fetches of an entry are issued (R87): its tiles that are not in place are read to its core, and promoted when the
entry says so or names no core. -/
def Module.issueEntry (e : PfEntry) (m : Module) : Module :=
  let m1 := m.updEntry e.id (fun x => { x with issued := true })
  let m2 := e.left.foldl (fun (a : Module) t =>
    match a.tileHome e.capsule e.layer t with
    | none => a.entryTile e.id t
    | some (h, k) =>
      if e.core == 0xFF && tierOf h == 0 then a.entryTile e.id t
      else a.startXfer ⟨.entry e.id, e.capsule, e.layer, t / 8, k, h, if e.core == 0xFF then 64 else e.core, a.clk.mono, 0, none, none⟩)
    m1
  let homes := (e.left.filterMap (fun t => (m.tileHome e.capsule e.layer t).map (·.1))).eraseDups
  if e.promote || e.core == 0xFF then
    homes.foldl (fun (a : Module) h => if tierOf h == 0 || a.kept h then a else a.startMove .promote h 0) m2
  else m2

/-- The fetches of an entry may be issued: its deadline comes within LOOKAHEAD_NS, or the channels of the tiers that its tiles
lie in are idle (R87). -/
def Module.mayIssue (m : Module) (e : PfEntry) : Bool :=
  decide (e.deadline ≤ m.clk.now + m.get Reg.SLIDE.PF_WINDOW_LOOKAHEAD_NS) ||
  e.left.all (fun t => ((m.tileHome e.capsule e.layer t).map (fun p => m.tierIdle (tierOf p.1))).getD true)

/-- PREFETCH_ISSUE of an entry: entries of a step are issued in schedule order (R87). -/
def prefetchIssue (id : Nat) (m : Module) : Module :=
  match m.slide.entries.find? (fun e => e.id == id) with
  | none => m
  | some e =>
    let before := (m.slide.entries.takeWhile (fun x => x.id != id)).filter (fun x => x.partition == e.partition &&
      x.step == e.step)
    if e.issued || e.arrived || before.any (fun x => !x.issued && !x.arrived) || !m.mayIssue e then m else m.issueEntry e

def execPrefetchIssue (entry : Nat) (s : State) : Out := run (prefetchIssue entry) s

/-- A revive prefetch without a read in flight is over. -/
def Module.endRevives (m : Module) : Module :=
  let live := m.slide.revives.filter (fun r => m.slide.xfers.vals.any (fun x => x.why == .revive r))
  { m with slide := { m.slide with revives := live } }

/-- A read of a frame by a capsule fails its check (R62): the capsule is damaged, moves of the frame end, and a sequence in
a step ends with DAMAGED; an entry does not wait for the tile (R89). -/
def Module.readFailed (x : Xfer) (block : Nat) (m : Module) : Module :=
  let m1 := m.damage x.capsule x.source block
  let movers := (m1.slide.moves.filter (fun (_, v) => v.source == x.source)).map (·.1)
  let m2 := (movers.foldl (fun (a : Module) id => a.abortMove id .damaged) m1).finishMoves
  match x.why with
  | .entry id =>
    let m3 := m2.entryTile id (8 * x.page + x.tile)
    match m3.requestOf x.capsule with
    | some (i, _) => if (m3.seqOf i).isSome then m3.endError i 13 else m3
    | none => m3
  | _ => m2

/-- The landing buffer of a core takes a tile (R86); one that its walk has passed, or whose entry has gone, is discarded unread
(R118). -/
def Module.land (x : Xfer) (core : Nat) (f : Frame) (request step : Nat) (m : Module) : Module :=
  if core < 64 then
    let t : Landed := ⟨x.capsule, request, step, x.layer, x.page, x.tile, f.slots.keep (fun i _ => i / 32 == x.tile)⟩
    if (m.core core).pastTile t then m.bump Reg.ATTN.TILES_DISCARDED_COUNT
    else m.updCore core (fun k => { k with landing := k.landing ++ [t] })
  else m

/-- A transfer waits for room in its core's landing buffer: since when is noted (R90). -/
def Module.blockXfer (id : Nat) (x : Xfer) (m : Module) : Module :=
  { m with slide := { m.slide with xfers := m.slide.xfers.put id { x with blocked := some (x.blocked.getD m.clk.mono) } } }

/-- The frame that a transfer reads: in flash what stands at the location that the map gave when it began (R302). -/
def Module.xferFrame (m : Module) (x : Xfer) : Option Frame :=
  match x.place with
  | some (c, loc) =>
    ((m.chan c).unit loc).bind (fun u => match u.content with
      | .frame f => some f
      | _ => none)
  | none => m.frame x.source

/-- TILE_TRANSFER_COMPLETE: a tile whose transfer its tier's arbiter has granted has been read (R578). It waits while its core's
landing buffer is full; a tile that fails its check is handled under R62; else it lands, serves its entry, and serves the move of
its frame (R75, R77, R86). A tile of a revive lands in a core that is idle now, if one is (R91). A read of an old frame that was
in flight when its map entry was replaced gives its data (R79). corrected and failed tell what the media gave. -/
def tileComplete (id corrected : Nat) (failed : Bool) (m : Module) : Module :=
  match m.slide.xfers.get id with
  | none => m
  | some x =>
    if (m.grantOf x).isNone then m
    else if x.core < 64 && 96 ≤ (m.core x.core).landing.length then m.blockXfer id x
    else
      let m1 := m.touch x.source
      let m2 := match x.place with
        | some (c, loc) => m1.flashRead c loc 4 corrected failed
        | none => m1
      let place := m2.tileHome x.capsule x.layer (8 * x.page + x.tile)
      let home := match x.why with
        | .move _ => true
        | _ => place == some (x.source, x.tile) || (place.isSome && m2.slide.leaving.contains x.source)
      let done (a : Module) : Module := ((a.endXfer id).finishMoves).endRevives
      match (m2.xferFrame x).filter (fun _ => home) with
      | none => done m2
      | some f =>
        let failed := failed || m2.hostTouched x.source f x.tile
        let blocks := (List.range 4).map (fun i => 4 * x.tile + i)
        let m3 := if failed then m2.spoil x.source blocks else m2
        match (if failed then some (4 * x.tile) else f.badIn (16384 * x.tile) 16384) with
        | some b => done (m3.readFailed x b)
        | none =>
          let m4 := match x.why with
            | .entry eid =>
              (match m3.slide.entries.find? (fun (e : PfEntry) => e.id == eid) with
                | some e =>
                  if e.core == 0xFF then m3
                  else (m3.land x x.core f e.request e.step).entryTile eid (8 * x.page + x.tile)
                | none => if x.core < 64 then m3.bump Reg.ATTN.TILES_DISCARDED_COUNT else m3)
            | .revive r => m3.land x ((m3.idleCore (m3.capPart x.capsule)).getD 64) f r 0
            | .move _ => m3
          done ((m4.tickMove x.source x.tile).hbmArrivals)

def execTileTransferComplete (xfer corrected : Nat) (failed : Bool) (s : State) : Out :=
  run (tileComplete xfer corrected failed) s

/-- The prefetch entry id, if it is one of step's (R85). -/
def Module.entryOf (m : Module) (id step : Nat) : Option PfEntry :=
  (m.slide.entries.find? (fun e => e.id == id)).filter (fun e => e.step == step)

/-- PREFETCH_DEADLINE of an entry of a step: the counter has passed its deadline before it arrived, and it misses (R86, R89). -/
def prefetchDeadline (id step : Nat) (m : Module) : Module :=
  match m.entryOf id step with
  | some e => if e.arrived || e.missed || decide (m.clk.now ≤ e.deadline) then m else m.miss e
  | none => m

def execPrefetchDeadline (entry step : Nat) (s : State) : Out :=
  runAt (fun m => ((m.entryOf entry step).map (fun e => m.dueAt (e.deadline + 1))).getD 0) (prefetchDeadline entry step) s

/-- STALL_WARN of a privileged stall (R89). -/
def stallWarn (id : Nat) (m : Module) : Module :=
  match m.slide.stalls.find? (fun t => t.entry == id), m.slide.entries.find? (fun e => e.id == id) with
  | some t, some e =>
    if t.warned then m
    else
      let stalls := m.slide.stalls.map (fun (x : Stall) => if x.entry == id then { x with warned := true } else x)
      let m1 := { m with slide := { m.slide with stalls := stalls } }
      (m1.set Reg.SLIDE.STATUS_STALL_WARN 1).event 0x0302 e.partition 1 e.request (m.clk.mono - t.began)
  | _, _ => m

def execStallWarn (entry : Nat) (s : State) : Out :=
  runAt (fun m => ((m.slide.stalls.find? (fun t => t.entry == entry)).map (fun t =>
    t.began + m.get Reg.SLIDE.MISS_CTRL_STALL_WARN_NS)).getD 0) (stallWarn entry) s

/-- HOST_SWAP_CASCADE: below FREE_LOW the least recently read frames of the host region move to flash until FREE_TARGET are
free (R95). -/
def hostCascade (m : Module) : Module :=
  if m.slide.extents.isEmpty || decide (m.get Reg.SLIDE.HOST_WATER_FREE_LOW ≤ m.tierFree 2) ||
     m.flag Reg.SLIDE.STATUS_FLASH_DEMOTE_OFF then m
  else
    let leaving := (m.slide.moves.vals.filter (fun v => tierOf v.source == 2)).length
    let need := m.get Reg.SLIDE.HOST_WATER_FREE_TARGET - (m.tierFree 2 + leaving)
    let hs := m.caps.frames.keys.filter (fun h => tierOf h == 2 && !m.kept h && m.slide.moves.vals.all (fun v => v.source != h))
    let order := sortBy (fun a b => decide (m.caps.lastRead.getD a 0 ≤ m.caps.lastRead.getD b 0)) hs
    (order.take need).foldl (fun (a : Module) h => a.startMove .cascade h 3) m

def execHostSwapCascade (s : State) : Out := run hostCascade s

/-- HOST_TIER_READ_TIMEOUT of a transfer: the read is repeated up to RETRIES times; then the frame counts as having failed
its check value, and the wait of a prefetch entry's tile as one of cause HOST_LINK (R99, R90). -/
def hostReadTimeout (id : Nat) (m : Module) : Module :=
  match m.slide.xfers.get id with
  | none => m
  | some x =>
    if tierOf x.source != 2 then m
    else if x.tries < m.get Reg.SLIDE.HOST_CTRL_RETRIES then
      { m with slide := { m.slide with xfers := m.slide.xfers.put id { x with tries := x.tries + 1, issued := m.clk.mono } } }
    else
      let blocks := (List.range 4).map (fun i => 4 * x.tile + i)
      let m1 := match x.why with
        | .entry _ => m.bump (missCause 3)
        | _ => m
      (((m1.endXfer id).spoil x.source blocks).readFailed x (4 * x.tile)).endRevives

def execHostTierReadTimeout (xfer : Nat) (s : State) : Out :=
  runAt (fun m => ((m.slide.xfers.get xfer).map (fun x => x.issued + m.get Reg.SLIDE.HOST_CTRL_TIMEOUT_NS)).getD 0)
    (hostReadTimeout xfer) s

end Sys2Proof.Machine
end

