-- ==== Sys2Proof/Machine/Bore.lean ====
section
/-!
DEFINITION. The commands and events of the Bore units (R263, R273, R275, R277, R280 to R285).
-/

namespace Sys2Proof.Machine

open Sys2Proof

/-- BORE_INDEX_CREATE (R280): the headers are written, the sectors reserved, and the shards are then opened. -/
def boreCreateCmd (c : RunCmd) (m : Module) : Module :=
  let b := c.payload
  let i := u8 b 0
  let part := u8 b 1
  let el := u8 b 2
  let dims := u16 b 4
  let deg := u8 b 6
  let sk := u8 b 7
  let cap := u32 b 8
  let alpha := u32 b 0x0C
  let bq := u16 b 0x10
  let one := fp32.decode 0x3F800000
  let two := fp32.decode 0x40000000
  let a := fp32.decode alpha
  let x : BoreIndex := ⟨part, el, u8 b 3, dims, deg, sk, recordBytes el dims deg sk, cap, alpha, bq, m.clk.now, some c.id, none,
    List.replicate 32 BoreShard.blank⟩
  m.checked c [(0x12, 6)]
    [(decide (i < 16), bad 0), (m.partOk part, bad 1),
     ([0x01, 0x02, 0x04, 0x05, 0x0B, 0x40].contains el, bad 2), (decide (u8 b 3 ≤ 2), bad 3), (vecBytes el dims != 0, bad 4),
     (decide (8 ≤ deg) && decide (deg ≤ 64) && deg % 8 == 0, bad 6), (decide (8 ≤ sk) && decide (sk ≤ 64) && sk % 8 == 0, bad 7),
     (decide (1 ≤ cap) && decide (cap ≤ 134217727), bad 8), (!a.isNan && !a.lt one && !two.lt a, bad 0x0C),
     (decide (16 ≤ bq) && decide (bq ≤ 1024), bad 0x10),
     (!m.bore.indexes.has i && !m.ftl.extents.has (shardExt i 0), stop .busy), (!m.ftl.readOnly, stop .readOnly),
     ((List.range 32).all (fun s => decide (x.sectors ≤ m.chanFree s)) &&
        decide ((m.bore.indexes.vals.foldl (fun n y => n + y.poolBytes) x.poolBytes) ≤ m.get Reg.BORE.POOL_SIZE_BYTES),
      stop .noSpace)]
    (fun m =>
      let m0 := m.makeExtents ((List.range 32).map (fun s => (shardExt i s, s, x.sectors)))
      let m1 := { m0 with bore := { m0.bore with indexes := m0.bore.indexes.put i x } }
      let m2 := (List.range 32).foldl (fun (a : Module) s => (a.boreWrite (shardExt i s) [(0, x.header i s [])]).1) m1
      let body := leBytes 2 x.recordBytes ++ zeros 6 ++ leBytes 8 (32 * x.sectors * 4096)
      ((m2.await c []).updCmd c.id (fun r => { r with body := body })).boreRun)

/-- BORE_INDEX_DROP (R281). -/
def boreDropCmd (c : RunCmd) (m : Module) : Module :=
  let i := u8 c.payload 0
  m.checked c [(1, 7)]
    [((m.bore.indexes.get i).isSome, bad 0), (((m.bore.indexes.get i).map (·.dropping.isNone)).getD false, stop .busy)]
    (fun m =>
      let m1 := { m with bore := { m.bore with indexes := m.bore.indexes.upd i (fun x => { x with dropping := some c.id }) } }
      (m1.await c []).boreRun)

/-- BORE_INDEX_INFO (R281). -/
def boreInfoCmd (c : RunCmd) (m : Module) : Module :=
  let i := u8 c.payload 0
  m.checked c [] [((m.bore.indexes.get i).isSome, bad 0)] (fun m =>
    match m.bore.indexes.get i with
    | none => m
    | some x =>
      let n (s : BoreShard) (v : Nat) : Nat := (s.states.vals.filter (· == v)).length
      m.ok c (slice (x.header i 0 (x.shard 0).entries) 0 256 ++ x.shards.flatMap (fun s =>
        leBytes 4 (n s 1) ++ leBytes 4 (n s 2) ++ leBytes 4 (n s 3) ++ leBytes 1 (b2n s.offline) ++ zeros 3)))

/-- Bytes at a place that a command names: in HBM, or at a host address. -/
def Module.boreRead (m : Module) (c : RunCmd) (hbm : Bool) (addr n : Nat) : Bytes :=
  if hbm then m.hbm.rdN addr n else m.cmdRead c addr n

/-- The partition may use the place (R279, R498). -/
def Module.boreMay (m : Module) (c : RunCmd) (p : Nat) (hbm : Bool) (addr n : Nat) (write : Bool) : Bool :=
  if hbm then m.engineMay p 0 addr n else m.cmdMay c p addr n write

/-- BORE_QUERY (R282): a walk starts on each named shard that is online. -/
def boreQueryCmd (c : RunCmd) (m : Module) : Module :=
  let b := c.payload
  let i := u8 b 0
  let fl := u8 b 1
  let k := u16 b 2
  let qn := u16 b 4
  let beam := if u8 b 6 == 0 then m.get Reg.BORE.QUERY_CTRL_BEAM else u8 b 6
  let hops := if u16 b 8 == 0 then m.get Reg.BORE.QUERY_CTRL_MAX_HOPS else u16 b 8
  let shards := if u32 b 0x0C == 0 then List.range 32 else setBitsOf 32 (u32 b 0x0C)
  let src := u64 b 0x10
  let dst := u64 b 0x18
  let obj := u32 b 0x30
  let o := m.ligFind obj
  let x := m.bore.indexes.get i
  let p := (x.map (·.partition)).getD 8
  let vb := (x.map (fun x => vecBytes x.element x.dims)).getD 0
  let sb := (x.map (·.sketchBytes)).getD 0
  let online := shards.filter (fun s => !((x.map (fun x => (x.shard s).offline)).getD true))
  let srcH := bit fl 0
  let dstH := bit fl 1
  m.checked c [(7, 1), (0x0A, 2), (0x34, 12)]
    [(x.isSome, bad 0), (decide (fl ≤ 7), bad 1), (decide (1 ≤ k) && decide (k ≤ 1024), bad 2),
     (decide (k ≤ qn) && decide (qn ≤ 1024), bad 4), (decide (u8 b 6 ≤ 8), bad 6), (decide (u16 b 8 ≤ 1024), bad 8),
     (src % 8 == 0, bad 0x10), (dst % 16 == 0, bad 0x18), (obj == ligNone || o.isSome, stop .stale),
     (obj == ligNone || (o.map (·.2.kind)) == some 3, bad 0x30), (obj == ligNone || (o.map (·.2.partition)) == some p, stop .denied),
     (dstH || !m.mute p || !cmdNeedsHost c dst, stopMute),
     (m.boreMay c p srcH src (roundUp vb 8 + sb) false && m.boreMay c p dstH dst (16 + 16 * k) true, stopFw),
     ((x.map (·.ready)).getD false && online.all (fun s => decide (m.unitWalks s < 64)), stop .busy)]
    (fun m =>
      let go (m : Module) : Module :=
        match x with
        | none => m
        | some x =>
          let v := m.boreRead c srcH src vb
          let sk := m.boreRead c srcH (src + roundUp vb 8) sb
          if vecBad x.metric x.element x.dims v then m.badField c 0x10
          else
            let q : BoreQuery := ⟨c.id, i, k, dst, dstH, obj, [], 0, false, decide (online.length < shards.length), false⟩
            let m1 := { (m.await c []) with bore := { m.bore with queries := m.bore.queries ++ [q] } }
            (online.foldl (fun (a : Module) s => a.startWalk (.query c.id) i s v sk k qn beam hops (bit fl 2) (u64 b 0x20)
              (u64 b 0x28)) m1).boreRun
      if (!srcH && cmdNeedsHost c src) || (!dstH && cmdNeedsHost c dst) then m.withHost c go else go m)

/-- The shard of an insert entry (R272): the command's, or the one with the most free records that no entry has taken, the
lowest on equal counts; offline shards take none. -/
def Module.insertShard (m : Module) (i named : Nat) : Option Nat :=
  match m.bore.indexes.get i with
  | none => none
  | some x =>
    let free (s : Nat) : Nat := x.capacity - (x.shard s).states.length -
      (m.bore.inserts.vals.filter (fun e => e.index == i && e.shard == s && decide (e.stage < 2))).length
    let ok (s : Nat) : Bool := !(x.shard s).offline
    if named < 32 then (if ok named then some named else none)
    else
      ((List.range 32).filter ok).foldl (fun (best : Option Nat) s => match best with
        | none => some s
        | some t => if free t < free s then some s else some t) none

/-- BORE_INSERT (R283): each entry is taken in order; a vector that is out of range ends its entry at once (R257). -/
def boreInsertCmd (c : RunCmd) (m : Module) : Module :=
  let b := c.payload
  let i := u8 b 0
  let fl := u8 b 1
  let count := u16 b 2
  let sh := u8 b 4
  let src := u64 b 8
  let dst := u64 b 0x10
  let x := m.bore.indexes.get i
  let p := (x.map (·.partition)).getD 8
  let vb := (x.map (fun x => vecBytes x.element x.dims)).getD 0
  let sb := (x.map (·.sketchBytes)).getD 0
  let n := roundUp (16 + sb + vb) 64
  let srcH := bit fl 0
  let dstH := bit fl 1
  m.checked c [(5, 3)]
    [(x.isSome, bad 0), (decide (fl ≤ 3), bad 1), (decide (1 ≤ count) && decide (count ≤ 4096), bad 2),
     (decide (sh ≤ 31) || sh == 0xFF, bad 4),
     (m.boreMay c p srcH src (n * count) false && m.boreMay c p dstH dst (8 * count) true, stopFw),
     ((x.map (·.ready)).getD false && !m.boreCopied i, stop .busy)]
    (fun m =>
      let go (m : Module) : Module :=
        match x with
        | none => m
        | some x =>
          let batch : BoreBatch := ⟨c.id, i, count, dst, dstH, []⟩
          let m1 := { (m.await c []) with bore := { m.bore with batches := m.bore.batches ++ [batch] } }
          ((List.range count).foldl (fun (a : Module) k =>
            let e := a.boreRead c srcH (src + n * k) n
            let v := slice e (16 + sb) vb
            let id := a.bore.nextInsert
            let entry (s : Nat) : BoreInsert := ⟨c.id, k, i, s, u64 e 0, u64 e 8, slice e 16 sb, v, 0, 0⟩
            let add (s : Nat) (a : Module) : Module := { a with bore := { a.bore with
              inserts := a.bore.inserts.put id (entry s), nextInsert := id + 1 } }
            if vecBad x.metric x.element x.dims v then (add 32 a).insertDone id nodeNone .badField
            else if a.ftl.readOnly then (add 32 a).insertDone id nodeNone .readOnly
            else
              match a.insertShard i sh with
              | some s => add s a
              | none => (add 32 a).insertDone id nodeNone .noSpace) m1).boreRun
      if (!srcH && cmdNeedsHost c src) || (!dstH && cmdNeedsHost c dst) then m.withHost c go else go m)

/-- One pair of a delete (R273): whether it is done. -/
def Module.deleteOne (i node label : Nat) (m : Module) : Bool × Module :=
  let s := node % 32
  let r := node / 32
  match m.bore.indexes.get i with
  | none => (false, m)
  | some x =>
    let st := (x.shard s).states.get r
    if (x.shard s).offline || !(st == some 1 || st == some 2) then (false, m)
    else
      match m.boreFetch i s r with
      | (none, m1) => (false, m1)
      | (some b, m1) =>
        if u64 b 8 != label then (false, m1)
        else if st == some 2 then (true, m1)
        else
          match m1.boreStore i s r (x.edit b 2 (recNeighbours b)) false with
          | (m2, false) => (false, m2)
          | (m2, true) => (true, (m2.updShard i s (fun k => { k with states := k.states.put r 2 })).bump Reg.BORE.DELETES_COUNT)

/-- The deletes of a command that have been written complete it (R284). -/
def Module.deletesDone (m : Module) : Module :=
  (m.waitingCmds 0x0821 (fun c => c.data.headD 0 == 0xB0E)).foldl (fun (a : Module) c =>
    let i := nthD c.data 1 0
    if (List.range 32).all (fun s => a.boreQuiet i s) then
      a.complete c (if nthD c.data 3 0 == 0 then .ok else .stale)
        (leBytes 4 (nthD c.data 2 0) ++ leBytes 4 (nthD c.data 3 0)) noDetail
    else a) m

/-- BORE_DELETE (R273, R284). -/
def boreDeleteCmd (c : RunCmd) (m : Module) : Module :=
  let b := c.payload
  let i := u8 b 0
  let count := u16 b 2
  let addr := u64 b 8
  let x := m.bore.indexes.get i
  let p := (x.map (·.partition)).getD 8
  m.checked c [(1, 1), (4, 4)]
    [(x.isSome, bad 0), (decide (1 ≤ count) && decide (count ≤ 4096), bad 2), (m.cmdMay c p addr (16 * count) false, stopFw),
     ((x.map (·.ready)).getD false && !m.boreCopied i, stop .busy), (!m.ftl.readOnly, stop .readOnly)]
    (fun m =>
      let go (m : Module) : Module :=
        let pairs := m.cmdRead c addr (16 * count)
        let r := (List.range count).foldl (fun (acc : Nat × Module) k =>
          let d := acc.2.deleteOne i (u32 pairs (16 * k)) (u64 pairs (16 * k + 8))
          (acc.1 + b2n d.1, d.2)) (0, m)
        ((r.2.await c [0xB0E, i, r.1, count - r.1]).deletesDone).boreShow.boreArbiters
      if cmdNeedsHost c addr then m.withHost c go else go m)

/-- BORE_REPAIR (R285): a pass on each named shard that is online. -/
def boreRepairCmd (c : RunCmd) (m : Module) : Module :=
  let i := u8 c.payload 0
  let mask := u32 c.payload 4
  let x := m.bore.indexes.get i
  let shards := (if mask == 0 then List.range 32 else setBitsOf 32 mask).filter (fun s =>
    !((x.map (fun x => (x.shard s).offline)).getD true))
  m.checked c [(1, 3)]
    [(x.isSome, bad 0), ((x.map (·.ready)).getD false && !m.boreCopied i, stop .busy), (!m.ftl.readOnly, stop .readOnly)]
    (fun m =>
      if shards.isEmpty then m.ok c (leBytes 4 0)
      else (shards.foldl (fun (a : Module) s => a.startPass i s (some c.id)) (m.await c [0])).boreRun)

def execBoreIndexCreate (src : Src) (s : State) : Out := run (onCmd 0x0800 src boreCreateCmd) s
def execBoreIndexDrop (src : Src) (s : State) : Out := run (onCmd 0x0801 src boreDropCmd) s
def execBoreIndexInfo (src : Src) (s : State) : Out := run (onCmd 0x0802 src boreInfoCmd) s
def execBoreQuery (src : Src) (s : State) : Out := run (onCmd 0x0810 src boreQueryCmd) s
def execBoreInsert (src : Src) (s : State) : Out := run (onCmd 0x0820 src boreInsertCmd) s
def execBoreDelete (src : Src) (s : State) : Out := run (onCmd 0x0821 src boreDeleteCmd) s
def execBoreRepair (src : Src) (s : State) : Out := run (onCmd 0x0830 src boreRepairCmd) s

/-! ### Events -/

/-- WRITE_ACCEPT of a channel (R290): what waited for the acceptance goes on, an insert to its next step and a command to its
completion (R270). -/
def execWriteAccept (c : Nat) (s : State) : Out :=
  runIf (c < 32) (fun m => (writeAccept c (m.chan c).waiting.length m).finishMoves.deletesDone.boreRun) s

/-- PROGRAM_COMPLETE of a channel: what its Bore unit had waiting for the program leaves the arbiter (R269). -/
def execProgramComplete (c : Nat) (ok : Bool) (s : State) : Out :=
  runIf (c < 32) (fun m => (programComplete c ok m).boreArbiter c) s

/-- The media figures of a record that was read at a place (R302). -/
def Module.boreMedia (place : Option (Nat × Nat)) (index r corrected : Nat) (failed : Bool) (m : Module) : Module :=
  match place, m.bore.indexes.get index with
  | some (c, loc), some x => m.flashRead c loc (x.at r).2.2 corrected failed
  | _, _ => m

/-- A read of unit u at a place is over: its request at the channel's arbiter drops between bursts (R425), and an erase that waited
for the read goes on. What the unit still has in flight raises the request again. -/
def Module.boreDrop (place : Option (Nat × Nat)) (tag u : Nat) (m : Module) : Module :=
  (m.reedDrop (40 + u) 6 tag).readOver place

/-- BORE_RECORD_ARRIVAL: a record that the walk or pass with this number reads arrives, with the bits that error correction
mended or its failure. A pass edits the record when it names tombstones (R274). -/
def recordArrival (id node corrected : Nat) (failed : Bool) (m : Module) : Module :=
  match m.bore.walks.get id, m.bore.passes.get id with
  | some w, _ =>
    if !w.reads.contains node then m
    else
      let at_ := w.places.get node
      (((m.boreMedia at_ w.index (node / 32) corrected failed).boreExpand id node failed).boreDrop at_
        (((m.bore.indexes.get w.index).map (·.partition)).getD 8) w.shard).boreRun
  | none, some p =>
    match p.left with
    | r :: rest =>
      if !p.reading || node != nodeId p.shard r then m
      else
        let m1 := m.boreMedia p.place p.index r corrected failed
        let n := ((m1.bore.indexes.get p.index).map (fun x => (x.at r).2.2)).getD 0
        let m2 := if failed then (m1.bumpBy Reg.BORE.SECTOR_READS_COUNT n).boreCheckFail p.index node else (m1.foldRecord p r).1
        let m3 := { m2 with bore := { m2.bore with passes := m2.bore.passes.upd id (fun p =>
          { p with left := rest, reading := false, place := none }) } }
        (m3.boreDrop p.place 8 p.shard).boreRun
    | [] => m
  | none, none => m

def execBoreRecordArrival (reader node corrected : Nat) (failed : Bool) (s : State) : Out :=
  run (recordArrival reader node corrected failed) s

/-- REPAIR_PASS of a shard: AUTO is set and its tombstones have reached TOMB_PCT of its LIVE records (R275). -/
def repairPass (i sh : Nat) (m : Module) : Module :=
  match m.bore.indexes.get i with
  | none => m
  | some x =>
    let n (v : Nat) : Nat := ((x.shard sh).states.vals.filter (· == v)).length
    if x.ready && !(x.shard sh).offline && m.flag Reg.BORE.REPAIR_CTRL_AUTO && !m.ftl.readOnly && !m.boreCopied i &&
       decide (0 < n 2) && decide (m.get Reg.BORE.REPAIR_CTRL_TOMB_PCT * n 1 ≤ 100 * n 2) &&
       m.bore.passes.vals.all (fun p => !(p.index == i && p.shard == sh)) then (m.startPass i sh none).boreRun
    else m

def execRepairPass (index shard : Nat) (s : State) : Out := runIf (index < 16 && shard < 32) (repairPass index shard) s

/-- The records of a shard that have been written: each record whose head sector is mapped. -/
def Module.writtenRecords (m : Module) (index sh : Nat) (x : BoreIndex) : List Nat :=
  let secs := (m.ftl.sectors.getD (shardExt index sh) []).keys.filter (· != 0)
  if x.recordBytes ≤ 4096 then
    let rps := 4096 / x.recordBytes
    (secs.flatMap (fun s => (List.range rps).map (fun k => (s - 1) * rps + k))).filter (fun r => decide (r < x.capacity))
  else
    let n := ceilDiv x.recordBytes 4096
    ((secs.filter (fun s => (s - 1) % n == 0)).map (fun s => (s - 1) / n)).filter (fun r => decide (r < x.capacity))

/-- SHARD_OPEN: the header is checked, every record is scanned into the unit's structures, and each PENDING record becomes a
TOMBSTONE; a shard whose header fails stays offline (R277). -/
def shardOpen (i sh : Nat) (m : Module) : Module :=
  match m.bore.indexes.get i with
  | none => m
  | some x =>
    if (x.shard sh).opened then m
    else
      let m := m.bumpBy Reg.BORE.SECTOR_READS_COUNT x.sectors
      match (m.boreSector (shardExt i sh) 0).filter (fun b => headerOk b i sh) with
      | none =>
        ((((m.updShard i sh (fun s => { s with opened := true, offline := true })).set Reg.BORE.STATUS_SHARD_OFFLINE 1).event
          0x0802 x.partition 2 i sh).finishCreates).boreShow.boreArbiters
      | some h =>
        let recs := (m.writtenRecords i sh x).filterMap (fun r => (m.boreRecord i sh r).map (fun b => (r, b)))
        let live := recs.filter (fun (_, b) => decide (1 ≤ recState b) && decide (recState b ≤ 3))
        let m1 := live.foldl (fun (a : Module) (r, b) =>
          if recState b == 3 then (a.boreStore i sh r (x.edit b 2 (recNeighbours b)) false).1 else a) m
        let states := live.foldl (fun (t : KMap Nat) (r, b) => t.put r (if recState b == 3 then 2 else recState b)) []
        let sketches := live.foldl (fun (t : KMap Bytes) (r, b) => t.put r (x.recSketch b)) []
        let entries := (List.range (Min.min (u8 h 0x0F) 64)).map (fun k => u32 h (0x100 + 4 * k))
        ((m1.updShard i sh (fun _ => ⟨true, false, states, sketches, entries⟩)).finishCreates).boreShow.boreArbiters

def execShardOpen (index shard : Nat) (s : State) : Out := runIf (index < 16 && shard < 32) (shardOpen index shard) s

/-- The indexes that flash holds, none of their shards open: what start-up finds (R277). -/
def Module.findIndexes (m : Module) : Module :=
  let found := (List.range 16).foldl (fun (t : KMap BoreIndex) i =>
    if !m.ftl.extents.has (shardExt i 0) then t
    else
      match (List.range 32).findSome? (fun s => (m.boreSector (shardExt i s) 0).filter (fun b => headerOk b i s)) with
      | some b => t.put i (BoreIndex.ofHeader b)
      | none => t.put i ⟨0, 0, 0, 0, 0, 0, 64, 0, 0, 0, 0, none, none, List.replicate 32 BoreShard.blank⟩) []
  ({ m with bore := ⟨found, [], 0, [], [], 0, [], []⟩ }).boreArbiters

end Sys2Proof.Machine
end

