-- ==== Sys2Proof/Machine/Budget.lean ====
section
/-!
DEFINITION. The budget unit's commands and event (R187, R209 to R212), prefixes (R192 to R196, R213 to R215), adapters (R197,
R216 to R218) and the draft ring of speculation (R219).
-/

namespace Sys2Proof.Machine

open Sys2Proof

/-! ### Accounts -/

/-- BUDGET_OPEN (R209). -/
def budgetOpenCmd (c : RunCmd) (m : Module) : Module :=
  let b := c.payload
  let a := u32 b 0
  let any := a == 0xFFFFFFFF
  let pick := if any then
      (List.range 65536).find? (fun i => m.serves i && !(m.account i).open_)
    else some a
  m.checked c [(6, 2), (0x14, 4)]
    [(any || decide (a ≤ 65535), bad 0), (m.partOk (u8 b 4), bad 4), (u8 b 5 == 0 || u8 b 5 == 2, bad 5),
     (decide (u64 b 8 ≤ 2 ^ 62), bad 8), (!m.fenced && (any || m.serves a), stop .denied),
     (any || !(m.account a).open_, stop .busy), (pick.isSome, stop .noSpace)]
    (fun m =>
      match pick with
      | none => m
      | some i =>
        let x : Account := ⟨u64 b 8, (u64 b 8 : Int), 0, 0, m.clk.now, u32 b 0x10, u8 b 4, 1 + u8 b 5, 0⟩
        ((m.setAccount i x).sendAccount 0 i).ok c (leBytes 4 i))

/-- A request entry of either module names the account (R191). -/
def Module.accountUsed (m : Module) (a : Nat) : Bool :=
  m.steps.reqs.vals.any (fun r => r.account == a) ||
  m.mirror.shadow.vals.any (fun s => u8 s.entry 4 != 0 && u16 s.entry 0x18 == a)

/-- BUDGET_CLOSE (R210). -/
def budgetCloseCmd (c : RunCmd) (m : Module) : Module :=
  let a := u32 c.payload 0
  m.checked c []
    [(decide (a ≤ 65535) && (m.account a).open_, bad 0), (!m.fenced && m.serves a, stop .denied),
     (!m.accountUsed a, stop .busy)]
    (fun m =>
      let x := m.account a
      ((m.setAccount a { x with flags := x.flags - 1 }).sendAccount 0 a).ok c [])

/-- An account after a BUDGET_SET (R190, R211). -/
def Account.changed (mode value fl now : Nat) (x : Account) : Account :=
  let x1 :=
    if mode == 0 then { x with quota := value, allowance := satAllow (x.allowance + (value : Int) - (x.quota : Int)) }
    else if mode == 1 then { x with allowance := satAllow (x.allowance + sext 64 value) }
    else { x with periodS := value % 2 ^ 32 }
  let x2 := if bit fl 2 then x1.newPeriod now else x1
  let cut := (mode == 0 && decide (value < x.quota)) || (mode == 1 && decide (sext 64 value < 0))
  if cut && bit fl 0 && decide (x2.balance ≤ 0) then { x2 with flags := x2.flags ||| 4 ||| (if bit fl 1 then 8 else 0) } else x2

/-- BUDGET_SET (R190, R211). -/
def budgetSetCmd (c : RunCmd) (m : Module) : Module :=
  let b := c.payload
  let a := u32 b 0
  let mode := u8 b 4
  let fl := u8 b 5
  let v := u64 b 8
  m.checked c [(6, 2)]
    [(decide (a ≤ 65535) && (m.account a).open_, bad 0), (decide (mode ≤ 2), bad 4),
     (decide (fl ≤ 7) && (!(bit fl 1) || bit fl 0), bad 5),
     (if mode == 0 then decide (v ≤ 2 ^ 62) else if mode == 2 then decide (v < 2 ^ 32) else true, bad 8),
     (!m.fenced && m.serves a, stop .denied)]
    (fun m =>
      let before := (m.account a).balance
      let m1 := (m.setAccount a ((m.account a).changed mode v fl m.clk.now)).easeStrict a
      let after := (m1.account a).balance
      let m2 := if decide (0 ≤ before) && decide (after < 0) then
          (m1.bump Reg.BUDGET.DEBT_ENTRIES_COUNT).set Reg.BUDGET.STATUS_DEBT 1 else m1
      (m2.sendAccount 0 a).ok c (leBytes 8 (trunc 64 after)))

/-- BUDGET_QUERY (R212). -/
def budgetQueryCmd (c : RunCmd) (m : Module) : Module :=
  let a := u32 c.payload 0
  m.checked c [] [(decide (a ≤ 65535), bad 0)] (fun m =>
    m.ok c ((m.account a).bytes ++ leBytes 8 (trunc 64 (m.account a).balance)))

def execBudgetOpen (src : Src) (s : State) : Out := run (onCmd 0x0600 src budgetOpenCmd) s
def execBudgetClose (src : Src) (s : State) : Out := run (onCmd 0x0601 src budgetCloseCmd) s
def execBudgetSet (src : Src) (s : State) : Out := run (onCmd 0x0602 src budgetSetCmd) s
def execBudgetQuery (src : Src) (s : State) : Out := run (onCmd 0x0603 src budgetQueryCmd) s

/-- When the running period of an account ends, by the time counter (R187). -/
def periodDue (a : Nat) (m : Module) : Nat :=
  let x := m.account a
  if x.open_ && x.periodS != 0 && m.serves a then m.dueAt (x.periodStart + sec x.periodS) else 0

/-- ACCOUNT_PERIOD_END: the serving module closes the period (R187). -/
def execAccountPeriodEnd (a : Nat) (s : State) : Out :=
  if a < 65536 then runAt (periodDue a) (Module.closePeriods a) s else .refused .illFormed

/-! ### Prefixes -/

/-- The lowest free index of this module's half of the prefix table, and its next generation (R192). -/
def Module.freePrefix (m : Module) : Option (Nat × Nat) :=
  ((List.range 65536).find? (fun i => i != 0 && i % 2 == m.mirror.linkId && (match m.steps.prefixes.get i with
    | some x => x.pages == 0
    | none => true))).map (fun i => (i, ((m.steps.prefixes.get i).map (·.gen)).getD 0))

/-- PREFIX_CREATE (R194, R213). -/
def prefixCreateCmd (c : RunCmd) (m : Module) : Module :=
  let b := c.payload
  let id := u32 b 0
  let k := m.slot (id / 256)
  let mo := m.attn.models.get (u16 b 4)
  let lists := m.takeLists (listBlocks k.map.length)
  m.checked c [(7, 1)]
    (capChecks m id 0 [(decide (u8 b 6 ≤ 3), bad 6)] ++
     [((mo.map (fun x => x.layers == k.layers && x.latFmt == k.fmt && x.slotBytes == k.slotBytes)).getD false, bad 4),
      (m.mayOwn k && !m.fenced, stop .denied), (k.state == 1 || k.state == 4, stop .busy),
      ((m.requestOf id).isNone, stop .busy), (!k.damaged, stop .damaged),
      (k.carry.isEmpty && k.shared == 0 && decide (1 ≤ k.tokens), bad 0),
      (decide (k.map.length ≤ m.shareFree) && m.freePrefix.isSome && lists.1.isSome, stop .noSpace)])
    (fun m => m.heldOr c id (fun m =>
      match m.freePrefix with
      | none => m
      | some (i, g) =>
        let (ls, m1) := m.takeLists (listBlocks k.map.length)
        let h := i + g * 65536
        let n := m1.steps.prefixOrder
        let x : Prefix := ⟨g, k.partition, k.fmt, k.layers, u8 b 6, k.slotBytes, k.tokenizer, u16 b 4, k.pages, k.tokens, 0,
          u64 b 8, k.map, ls.getD [], n⟩
        let m2 := k.map.foldl (fun (a : Module) f =>
          ({ a with caps := { a.caps with share := a.caps.share.put f ⟨2, false⟩ } }).updFrame f (fun r => { r with shared := true })) m1
        let m3 := { m2 with steps := { m2.steps with prefixes := m2.steps.prefixes.put i x, prefixOrder := n + 1 } }
        let m4 := (m3.writeCap id (fun q => { q with shared := q.pages, prefixHandle := h, keep := [] })).sendPrefix i id
        (m4.followPrefix h).ok c (leBytes 4 h)))

/-- The record of a prefix is freed with the next generation, and its references drop (R196). -/
def Module.dropPrefix (i : Nat) (m : Module) : Module :=
  match m.steps.prefixes.get i with
  | none => m
  | some x =>
    let m1 := (x.map.foldl (fun (a : Module) f => a.dropShare f) m).freeLists x.lists
    let y : Prefix := ⟨(x.gen + 1) % 65536, 0, 0, 0, 0, 0, 0, 0, 0, 0, 0, 0, [], [], 0⟩
    { m1 with steps := { m1.steps with prefixes := m1.steps.prefixes.put i y } }

/-- PREFIX_DELETE (R196, R214). -/
def prefixDeleteCmd (c : RunCmd) (m : Module) : Module :=
  let h := u32 c.payload 0
  m.checked c [] [((m.prefix_ h).isSome, stop .stale), (m.serves h && !m.fenced, stop .denied)] (fun m =>
    ((m.dropPrefix (h % 65536)).sendPrefix (h % 65536) capNone).ok c [])

/-- PREFIX_FIND (R215). -/
def prefixFindCmd (c : RunCmd) (m : Module) : Module :=
  let p := u8 c.payload 0
  let name := u64 c.payload 8
  m.checked c [(1, 7)] [(m.partOk p, bad 0)] (fun m =>
    let found := (m.steps.prefixes.filter (fun (_, x) => x.pages != 0 && x.partition == p && x.name == name)).foldl
      (fun (best : Option (Nat × Prefix)) y => match best with
        | none => some y
        | some z => if z.2.order < y.2.order then some y else some z) none
    match found with
    | some (i, x) => m.ok c (prefixBytes m i x)
    | none => m.fail c .exhausted)

/-- PREFIX_PLACE (R82, R215). -/
def prefixPlaceCmd (c : RunCmd) (m : Module) : Module :=
  let h := u32 c.payload 0
  let t := u8 c.payload 4
  m.checked c [(5, 3)]
    [((m.prefix_ h).isSome, stop .stale), (decide (t ≤ 3), bad 4), (m.serves h && !m.fenced, stop .denied)]
    (fun m =>
      let m1 := { m with steps := { m.steps with prefixes := m.steps.prefixes.upd (h % 65536) (fun x => { x with tier := t }) } }
      ((m1.sendPrefix (h % 65536) capNone).followPrefix h).ok c [])

def execPrefixCreate (src : Src) (s : State) : Out := run (onCmd 0x0610 src prefixCreateCmd) s
def execPrefixDelete (src : Src) (s : State) : Out := run (onCmd 0x0611 src prefixDeleteCmd) s
def execPrefixFind (src : Src) (s : State) : Out := run (onCmd 0x0612 src prefixFindCmd) s
def execPrefixPlace (src : Src) (s : State) : Out := run (onCmd 0x0613 src prefixPlaceCmd) s

/-! ### Adapters -/

/-- ADAPTER_LOAD (R197, R216). -/
def adapterLoadCmd (c : RunCmd) (m : Module) : Module :=
  let b := c.payload
  let ad := u16 b 0
  let v := u16 b 2
  let p := u8 b 4
  let addr := u64 b 8
  let len := u64 b 0x10
  let old := m.steps.adapters.get ad
  let live := ((old.map (·.versions)).getD []).filter (fun x => x.state != 3)
  m.checked c [(5, 3)]
    [(decide (ad ≤ 4095), bad 0), (decide (1 ≤ v) && decide (v ≤ 0xFFFE) && live.all (fun x => x.version != v), bad 2),
     (m.partOk p, bad 4), (addr % 4096 == 0 && (len != 0 || addr == 0), bad 8), (decide (live.length < 4), stop .busy),
     ((old.map (fun a => a.partition == p)).getD true, stop .denied), (m.engineMay p 0 addr len, stopFw),
     (old.isSome || decide (m.steps.adapters.length < 4096), stop .noSpace)]
    (fun m =>
      let vs := (live.map (fun x => if x.state == 1 then { x with state := 2 } else x)) ++ [⟨v, 1, 0, addr, len⟩]
      let m1 := { m with steps := { m.steps with adapters := m.steps.adapters.put ad ⟨p, vs⟩ } }
      ((m1.updAdapter ad id).measure 5 ad v p (m1.hbm.rdN addr len)).ok c [])

/-- ADAPTER_RETIRE (R217). -/
def adapterRetireCmd (c : RunCmd) (m : Module) : Module :=
  let ad := u16 c.payload 0
  m.checked c [] [((m.adCurrent ad).isSome, bad 0)] (fun m =>
    (m.updAdapter ad (fun x => if x.state == 1 then { x with state := 2 } else x)).ok c [])

/-- A version entry (R217). -/
def AdVersion.bytes (x : AdVersion) : Bytes :=
  leBytes 2 x.version ++ leBytes 1 x.state ++ zeros 1 ++ leBytes 4 x.pins ++ leBytes 8 x.addr ++ leBytes 8 x.length ++ zeros 8

/-- ADAPTER_QUERY (R217). -/
def adapterQueryCmd (c : RunCmd) (m : Module) : Module :=
  let ad := u16 c.payload 0
  m.checked c [] [((m.steps.adapters.get ad).isSome, bad 0)] (fun m =>
    match m.steps.adapters.get ad with
    | some a =>
      let live := a.versions.filter (fun x => x.state != 3)
      let freed := a.versions.filter (fun x => x.state == 3)
      let shown := (live ++ freed.drop (freed.length - (4 - live.length))).take 4
      m.ok c (leBytes 2 ad ++ leBytes 1 a.partition ++ zeros 5 ++ padTo (shown.flatMap AdVersion.bytes) 128)
    | none => m)

/-- ADAPTER_POOL_BIND (R199, R218). -/
def adapterPoolBindCmd (c : RunCmd) (m : Module) : Module :=
  let b := c.payload
  let p := u8 b 0
  m.checked c [(1, 3)]
    [(m.partOk p, bad 0), ((m.pstep p).pool.isSome || (m.pstep p).nextPool.isSome, stop .denied)]
    (fun m => ((m.updPart p (fun x => { x with pinTable := some (u32 b 4, u64 b 8) })).setBit Reg.BUDGET.STATUS_PIN_BOUND p).ok c [])

def execAdapterLoad (src : Src) (s : State) : Out := run (onCmd 0x0620 src adapterLoadCmd) s
def execAdapterRetire (src : Src) (s : State) : Out := run (onCmd 0x0621 src adapterRetireCmd) s
def execAdapterQuery (src : Src) (s : State) : Out := run (onCmd 0x0622 src adapterQueryCmd) s
def execAdapterPoolBind (src : Src) (s : State) : Out := run (onCmd 0x0623 src adapterPoolBindCmd) s

/-! ### Speculation -/

/-- SPEC_BIND (R219). -/
def specBindCmd (c : RunCmd) (m : Module) : Module :=
  let b := c.payload
  let p := u8 b 0
  let on := u8 b 1
  let sem := u32 b 4
  let ring := u64 b 8
  let jobs := u32 b 0x10
  let obj := m.ligFind sem
  m.checked c [(3, 1), (0x14, 4)]
    [(m.partOk p, bad 0), (decide (on ≤ 1), bad 1), (on == 0 || (decide (1 ≤ u8 b 2) && decide (u8 b 2 ≤ 64)), bad 2),
     (on == 0 || (obj.map (fun o => o.2.kind == 1)).getD false, bad 4), (on == 0 || ring % 4096 == 0, bad 8),
     (on == 0 || (isPow2 jobs && decide (4096 ≤ jobs) && decide (jobs ≤ 262144)), bad 0x10),
     (on == 0 || (obj.map (·.2.partition)) == some p, stop .denied), (on == 0 || m.engineMay p 0 ring (16 * jobs), stopFw)]
    (fun m =>
      if on == 0 then ((m.updPart p (fun x => { x with spec := none })).clearBit Reg.BUDGET.STATUS_SPEC_ON p).ok c []
      else ((m.updPart p (fun x => { x with spec := some ⟨u8 b 2, sem, ring, jobs, 0⟩ })).setBit Reg.BUDGET.STATUS_SPEC_ON p).ok c
        [])

def execSpecBind (src : Src) (s : State) : Out := run (onCmd 0x0630 src specBindCmd) s

end Sys2Proof.Machine
end

