-- ==== Sys2Proof/Machine/Session.lean ====
section
/-!
DEFINITION. Session frames that arrive (R467 to R469), the fabric map and REGISTER (R461, R462), and endpoints that go down
(R469).
-/

namespace Sys2Proof.Machine

open Sys2Proof

/-! ### Replies -/

/-- A REPLY to the frame f of session k (R467). A refused ADMIT has no request: its REQUEST is a free value. -/
def Module.reply (k : Nat) (f : SessFrame) (st : Status) (request : Nat) (m : Module) : Module :=
  m.sessSend k 5 f.capsule (leBytes 4 f.seq ++ leBytes 2 st.code ++ zeros 2 ++ leBytes 4 request)

/-- The REPLY to a frame with a SEQ that is retained, if one is (R468). -/
def Session.replyTo (s : Session) (seq : Nat) : Option Retained :=
  s.retained.find? (fun r => r.frame.type == 5 && u32 r.frame.body 0 == seq)

/-- The retained REPLY is sent once more. -/
def Module.replyAgain (k seq : Nat) (m : Module) : Module :=
  match (m.session k).replyTo seq, m.endpoint (k % 2 ^ 32) with
  | some r, some x =>
    m.enqueue (if decide (x.partition < 8) then m.queueFor (k % 2 ^ 32) x.partition else 16) (.session (k % 2 ^ 32) r.frame)
  | _, _ => m

/-! ### What a frame of a front end does -/

/-- A verdict of the checks becomes a REPLY, with the denials counted. -/
def Module.replyVerdict (k : Nat) (f : SessFrame) (v : Verdict) (request : Nat) (m : Module) : Module :=
  (m.countDenial v).reply k f v.status request

/-- The capsule that a frame of a front end would write, if it writes one (R325). -/
def writesCapsule (f : SessFrame) : Option Nat :=
  if f.type == 1 then some (u32 f.body 0) else if f.type == 2 || f.type == 3 then some f.capsule else none

/-- The frame waits for a lapsed lease (R325). -/
def Module.sessBlocked (m : Module) (f : SessFrame) : Bool :=
  match (writesCapsule f).bind m.capsule with
  | some c => m.lapsed c
  | none => false

/-- The partition of the front end of session k. -/
def Module.frontPart (m : Module) (k : Nat) : Nat := ((m.endpoint (k % 2 ^ 32)).map (·.partition)).getD 0xFF

/-- ADMIT (R158, R467). -/
def Module.applyAdmit (k : Nat) (f : SessFrame) (m : Module) : Module :=
  let b := f.body
  let inp := b.drop 0x38
  let a0 := Admit.ofPayload (padTo (b.take 0x38) 0x38)
  let a := { a0 with return_ := k }
  let kind := u8 b 7
  let checks : List (Bool × Verdict) :=
    [(decide (0x38 ≤ b.length), bad 0), ((reservedOk b [(0x0A, 2), (0x34, 4)]).isNone, bad 0),
     (a.capsule % 256 != 255, bad 0), (m.partOk a.partition, bad 4), (decide (a.flags ≤ 3), bad 6), (decide (kind ≤ 1), bad 7),
     (decide (a.model < 64), bad 8), (a0.return_ == f.src, bad 0x18), (u64 b 0x28 == 0, bad 0x28),
     (u32 b 0x30 == inp.length && decide (inp.length ≤ 16777216) && (kind != 0 || inp.length % 4 == 0), bad 0x30),
     (m.tokensOk a.capsule kind inp, bad 0x38)]
  let fails : Option Verdict :=
    match firstFail checks with
    | some v => some v
    | none =>
      if m.frontPart k != a.partition then some (if (m.capsule a.capsule).isSome then stop .denied else stop .stale)
      else m.admitFails a 8 0x20 0x1C 0x38 kind inp
  match fails with
  | some v =>
    let (n, m1) := m.choose (2 ^ 32)
    (((m1.loadHeader a.capsule).loadMap a.capsule).countRefused v.status).replyVerdict k f v n
  | none =>
    let (m1, i) := m.admitNow a kind inp
    m1.reply k f .ok i

/-- The checks of a frame that names a request by the header's CAPSULE_ID and its body's REQUEST (R463, R467). n is the
length of the fixed part of the body. -/
def Module.sessReq (m : Module) (k n : Nat) (f : SessFrame) : List (Bool × Verdict) :=
  let r := m.request (u32 f.body 0) f.capsule
  [(decide (n ≤ f.body.length), bad 0), (f.capsule % 256 != 255, bad 0), (r.isSome, stop .stale), ((r.map (·.partition)) == some (m.frontPart k), stop .denied)]

/-- APPEND (R177, R467). -/
def Module.applyAppend (k : Nat) (f : SessFrame) (m : Module) : Module :=
  let i := u32 f.body 0
  let kind := u8 f.body 4
  let inp := f.body.drop 8
  let x := m.parseInput f.capsule kind inp
  let r := m.request i f.capsule
  match firstFail (m.sessReq k 8 f ++
      [(decide (kind ≤ 1) && allZero f.body 5 3 && (kind != 0 || inp.length % 4 == 0), bad 4),
       ((r.map (·.state)) != some 5, stop .busy), (!m.fenced, stop .denied),
       (x != .bad || (m.tokImage (m.slot (f.capsule / 256)).tokenizer).isSome, stop .denied), (x != .bad, bad 8),
       ((r.map (fun r => m.inputFits r x.list.length)).getD false, stop .noSpace)]) with
  | some v => m.replyVerdict k f v i
  | none => (m.addInput i x).reply k f .ok i

/-- END (R178, R467). -/
def Module.applyEnd (k : Nat) (f : SessFrame) (m : Module) : Module :=
  let i := u32 f.body 0
  match firstFail (m.sessReq k 4 f ++ [(((m.request i f.capsule).map (·.state)) != some 5, stop .busy), (!m.fenced, stop .denied)]) with
  | some v => m.replyVerdict k f v i
  | none => (m.endByHost i 3 none).reply k f .ok i

/-- ATTACH: RETURN becomes SRC, and the request keeps its state (R469). -/
def Module.applyAttach (k : Nat) (f : SessFrame) (m : Module) : Module :=
  let i := u32 f.body 0
  match firstFail (m.sessReq k 4 f) with
  | some v => m.replyVerdict k f v i
  | none => ((m.updReq i (fun r => { r with return_ := k })).touchReq i).reply k f .ok i

/-- The effect of a frame of a front end, by its type. -/
def Module.applySess (k : Nat) (f : SessFrame) (m : Module) : Module :=
  if f.type == 1 then m.applyAdmit k f
  else if f.type == 2 then m.applyAppend k f
  else if f.type == 3 then m.applyEnd k f
  else m.applyAttach k f

/-! ### Order (R468) -/

/-- The number under which a session's held frame stands among the held writes. -/
def sessHeldId (k : Nat) : Nat := 2 ^ 64 + k

/-- Frames of session k are applied while the next in order is at hand; a frame that a lapsed lease holds stays first in
line, and with it those behind it. force applies the first frame whatever its lease. -/
def Module.drainSess (k : Nat) : Nat → Bool → Module → Module
  | 0, _, m => m
  | fuel + 1, force, m =>
    let s := m.session k
    match s.ahead.find? (fun f => f.seq == s.rxNext) with
    | none => m
    | some f =>
      if m.sessBlocked f && !force then
        if m.mirror.held.any (fun h => h.cmd == sessHeldId k) then m
        else { m with mirror := { m.mirror with
          held := m.mirror.held ++ [⟨sessHeldId k, (writesCapsule f).getD 0, m.clk.mono⟩] } }
      else
        let m1 := { m with mirror := { m.mirror with held := m.mirror.held.filter (fun h => h.cmd != sessHeldId k) } }
        let m2 := m1.setSession k { s with
          ahead := s.ahead.filter (fun g => g.seq != f.seq), rxNext := (f.seq + 1) % 2 ^ 32,
          ackOwed := some (s.ackOwed.getD m.clk.mono) }
        (m2.applySess k f).drainSess k fuel false

/-- A sequenced frame of session k: NEW_SESSION begins the numbering anew; a repeat is answered again; a frame ahead of a
gap is held, up to 64 of them. A frame whose SEQ does not compare is ignored (R24). -/
def Module.takeFrame (k : Nat) (f : SessFrame) (m : Module) : Module :=
  let s := m.session k
  let owe (m : Module) : Module := m.setSession k { m.session k with ackOwed := some ((m.session k).ackOwed.getD m.clk.mono) }
  let fresh := f.flags % 2 == 1 && !(s.rxOpen && (s.replyTo f.seq).isSome)
  let m1 := if fresh then m.setSession k { s with rxNext := f.seq, rxOpen := true, ahead := [] } else m
  let s1 := m1.session k
  if !s1.rxOpen then m1
  else if f.seq != s1.rxNext && serialUnordered f.seq s1.rxNext then m1.serialStale 0x10 f.seq
  else if serialGE f.seq s1.rxNext then
    if s1.ahead.any (fun g => g.seq == f.seq) || decide (64 ≤ s1.ahead.length && f.seq != s1.rxNext) then owe m1
    else ((owe m1).setSession k { (owe m1).session k with ahead := s1.ahead ++ [f] }).drainSess k 66 false
  else owe (m1.replyAgain k f.seq)

/-- The session of a frame from a front end: the frame's endpoint pair must be a FRONT_END of the map and an endpoint of
MODULE_SESSION that this module serves (R462, R467). -/
def Module.sessionOf (m : Module) (f : SessFrame) : Option Nat :=
  match m.endpoint f.src, m.endpoint f.dst with
  | some a, some b =>
    let partner := m.bell.takenOver && b.serial == m.mirror.partnerSerial && b.address == Config.portAddress.toNat
    if a.kind == 1 && b.kind == 3 && (b.serial == ownSerial || partner) then
      some (sessionKey f.src (partner && b.serial != ownSerial)) else none
  | _, _ => none

/-- A frame of type ADMIT, APPEND, END or ATTACH arrives. -/
def sessFrame (type : Nat) (f : SessFrame) (m : Module) : Module :=
  match m.ingress type f with
  | (m1, false) => m1
  | (m1, true) =>
    match m1.sessionOf f with
    | some k => m1.takeFrame k f
    | none => m1.bump Reg.BELL.RX_UNKNOWN_COUNT

def execSessAdmit (f : SessFrame) (s : State) : Out := run (sessFrame 1 (trimFrame f)) s
def execSessAppend (f : SessFrame) (s : State) : Out := run (sessFrame 2 (trimFrame f)) s
def execSessEnd (f : SessFrame) (s : State) : Out := run (sessFrame 3 (trimFrame f)) s
def execSessAttach (f : SessFrame) (s : State) : Out := run (sessFrame 4 (trimFrame f)) s

/-! ### Endpoints that go down (R469) -/

/-- The output records in the body of an OUTPUT frame (R171). -/
def countRecords : Nat → Bytes → Nat
  | 0, _ => 0
  | fuel + 1, b => if b.length < 24 then 0 else 1 + countRecords fuel (b.drop (roundUp (24 + 4 * u8 b 0x0F + u16 b 0x10) 8))

/-- The endpoint of session k is down: no ACK has covered its oldest retained frame for DOWN_MS, or its retained bytes have
reached RETAIN_MAX_KIB. -/
def Module.endpointFails (m : Module) (k : Nat) : Bool :=
  let s := m.session k
  match s.retained with
  | r :: _ => !s.down && (decide (r.first + ms (m.get Reg.BELL.SESSION_DOWN_MS) ≤ m.clk.mono) ||
      decide (m.get Reg.BELL.SESSION_RETAIN_MAX_KIB * 1024 ≤ s.retainedBytes))
  | [] => false

/-- Request i takes the effect of STEP_WAIT (R178). -/
def Module.waitReq (i : Nat) (m : Module) : Module :=
  match m.steps.reqs.get i with
  | none => m
  | some r =>
    if r.state == 1 then (m.updReq i (fun r => { r with state := 3 })).touchReq i
    else if r.state == 2 || r.state == 4 then (m.updReq i (fun r => { r with flags := r.flags ||| 32 })).touchReq i
    else m

/-- ENDPOINT_DOWN: retained frames are discarded, and the requests that return there wait (R469). -/
def endpointDown (k : Nat) (m : Module) : Module :=
  if !m.endpointFails k then m
  else
    let s := m.session k
    let lost := (s.retained.filter (fun r => r.frame.type == 6)).foldl (fun n r =>
      n + countRecords (r.frame.body.length / 24 + 1) r.frame.body) 0
    let m1 := m.setSession k { s with retained := [], down := true, ackOwed := none }
    let m2 := m1.steps.reqs.foldl (fun (a : Module) (i, r) =>
      if r.return_ == k && !bit r.flags 2 && r.reserved.isNone then a.waitReq i else a) m1
    ((m2.bumpBy Reg.BELL.OUTPUT_LOST_COUNT lost).set Reg.BELL.STATUS_ENDPOINT_DOWN 1).event 0x1002 (m.frontPart k) 1 (k % 2 ^ 32)
      lost

/-- When the endpoint of session k goes down for want of an ACK. -/
def endpointDue (k : Nat) (m : Module) : Nat :=
  if m.endpointFails k then 0
  else ((m.oldestRetained k).map (fun r => if (m.session k).down then 0 else r.first + ms (m.get Reg.BELL.SESSION_DOWN_MS))).getD 0

def execEndpointDown (endpoint : Nat) (s : State) : Out := runAt (endpointDue endpoint) (endpointDown endpoint) s

/-! ### The fabric map (R461) -/

/-- The entry at the head of 32 bytes. -/
def MapEntry.ofBytes (b : Bytes) : MapEntry := ⟨u32 b 0, u8 b 4, u8 b 5, u16 b 6, field b 8 16, u64 b 0x18⟩

/-- The endpoints that the module names: for each partition present its MODULE_SESSION and MODULE_MODEL, and its
MODULE_HEARTBEAT, by kind, partition and serial; after a takeover the partner's session and model endpoints too (R462). -/
def Module.namedEndpoints (m : Module) : List (Nat × Nat × Nat) :=
  let ps := (List.range 8).filter m.present
  ps.flatMap (fun p => [(3, p, ownSerial), (4, p, ownSerial)]) ++ [(5, 0xFF, ownSerial)] ++
  (if m.bell.takenOver && m.lost then ps.flatMap (fun p => [(3, p, m.mirror.partnerSerial), (4, p, m.mirror.partnerSerial)]) else [])

/-- The map shows an endpoint that the module names, the partner's at this module's address. -/
def Module.shown (m : Module) (x : Nat × Nat × Nat) : Bool :=
  m.bell.map.vals.any (fun e => e.kind == x.1 && e.partition == x.2.1 && e.serial == x.2.2 &&
    (x.2.2 == ownSerial || e.address == Config.portAddress.toNat))

/-- The REGISTERED bits follow the map. -/
def Module.markRegistered (m : Module) : Module :=
  m.set Reg.BELL.STATUS_REGISTERED ((List.range 8).foldl (fun a p =>
    a + b2n (m.present p && m.shown (3, p, ownSerial) && m.shown (4, p, ownSerial)) * 2 ^ p) 0)

/-- A map is installed in one action. An entry with ID 0 is ignored. -/
def Module.installMap (d : MapDelivery) (m : Module) : Module :=
  let es := (d.got.vals.flatMap id).filter (fun e => e.endpoint != 0)
  let map := es.foldl (fun (t : KMap MapEntry) e => t.put e.endpoint e) []
  let m1 := { m with bell := { m.bell with map := map, mapVersion := d.version, mapInstalled := true, delivery := none } }
  ((m1.set Reg.BELL.MAP_VERSION d.version).set Reg.BELL.MAP_ENTRIES map.length).markRegistered

/-- A MAP frame is dropped. -/
def Module.rejectMap (version addr : Nat) (m : Module) : Module :=
  ((m.bump Reg.BELL.MAP_REJECTS_COUNT).set Reg.BELL.STATUS_MAP_REJECT 1).event 0x1001 0xFF 1 version (addr % 2 ^ 64)

/-- The signature and the version of a MAP body let it count: signed with the fabric key, and later than the installed map
(R461). -/
def Module.mapValid (m : Module) (b : Bytes) : Bool :=
  let n := b.length - 64
  decide (72 ≤ b.length) && (b.length - 72) % 32 == 0 && decide (u16 b 4 < u16 b 6) &&
  (match m.secur.fabricKey with
    | some key => Config.edVerify key (b.take n) (b.drop n)
    | none => false) &&
  (!m.bell.mapInstalled || serialLater (u32 b 0) m.bell.mapVersion)

/-- The frame comes from where a MAP may come from: an entry of the map, or, before the first map, the address of BELL.FM_IP
(R461, R462). -/
def Module.mapSource (m : Module) (f : SessFrame) : Bool :=
  m.bell.map.vals.any (fun x => x.address == f.srcAddr && x.udpPort == f.srcPort) ||
  (!m.bell.mapInstalled &&
    f.srcAddr == m.get Reg.BELL.FM_IP_ADDRESS + 2 ^ 64 * m.get (Reg.BELL.FM_IP_ADDRESS.at 8 1))

/-- MAP: one part of a delivery; the last part within 1 s installs the map (R461). -/
def mapFrame (f : SessFrame) (m : Module) : Module :=
  if !m.mapSource f then m.bump Reg.BELL.RX_UNKNOWN_COUNT
  else if f.magic != 0x4B46 || f.version != 1 || f.type != 10 || f.length != f.body.length || f.check != sessCrc f then
    m.bump Reg.BELL.RX_BAD_COUNT
  else
    let b := f.body
    let ver := u32 b 0
    let m1 := (m.bumpBy Reg.BELL.RX_BYTES_COUNT (32 + b.length)).sessAcked f.src f.ack
    let s := m1.session f.src
    let m2 := m1.setSession f.src { s with
      rxOpen := true, rxNext := (f.seq + 1) % 2 ^ 32, down := false, ackOwed := some (s.ackOwed.getD m.clk.mono) }
    if m.bell.mapInstalled && serialUnordered ver m.bell.mapVersion then (m2.serialStale 0x10 ver).rejectMap ver f.srcAddr
    else if !m.mapValid b then m2.rejectMap ver f.srcAddr
    else
      let blank : MapDelivery := ⟨ver, u16 b 6, m.clk.mono, []⟩
      let d0 := match m.bell.delivery with
        | some d => if d.version == ver && d.parts == u16 b 6 && decide (m.clk.mono ≤ d.started + sec 1) then d else blank
        | none => blank
      let es := (List.range ((b.length - 72) / 32)).map (fun i => MapEntry.ofBytes (slice b (8 + 32 * i) 32))
      let d := { d0 with got := d0.got.put (u16 b 4) es }
      if d.got.length == d.parts then m2.installMap d else { m2 with bell := { m2.bell with delivery := some d } }

def execFabricMap (f : SessFrame) (s : State) : Out := run (mapFrame (trimFrame f)) s

/-- The body of a REGISTER frame: for each endpoint that the module names an entry in the layout of R460 with its address and
no ID. -/
def Module.registerBody (m : Module) : Bytes :=
  m.namedEndpoints.flatMap (fun (k, p, serial) =>
    mapBytes ⟨0, k, p, m.get Reg.BELL.SESSION_PORT, Config.portAddress.toNat, serial⟩)

/-- REGISTER: sent while the map does not show every endpoint that the module names (R462). -/
def registerFrame (m : Module) : Module :=
  let fm := m.get Reg.BELL.FM_ADDR_ENDPOINT % 2 ^ 32
  if m.namedEndpoints.all m.shown then m
  else
    let m1 := if m.bell.mapInstalled && (m.endpoint fm).isNone then m else m.sessPut fm 0 16 9 capNone m.registerBody
    { m1 with bell := { m1.bell with lastRegister := some m.clk.mono } }

def execRegisterFrameDue (s : State) : Out :=
  runAt (fun m => if m.namedEndpoints.all m.shown then 0 else ((m.bell.lastRegister).map (· + ms 100)).getD 0) registerFrame s

end Sys2Proof.Machine
end

