-- ==== Sys2Proof/Machine/OpsMirror.lean ====
section
/-!
DEFINITION. The mirror engine's shared operations: leases (R322 to R324), the copies it receives (R315, R318, R320, R579), the
pair states (R327), the takeover (R330), and pairing and resync (R332).
-/

namespace Sys2Proof.Machine

open Sys2Proof

/-! ### What leaves outside the sequence -/

/-- A record without a place in the sequence leaves whenever the link has lanes. -/
def Module.sendRaw (kind flags arg0 arg1 : Nat) (body : Bytes) (m : Module) : Module :=
  if 0 < m.mirror.lanes then
    ((m.emit (.record (recSealed ⟨0, kind, 0xFF, flags, 0, capNone, arg0, arg1, body, 0⟩))).bump
      Reg.MIRROR.RECORDS_TX_COUNT).bumpBy Reg.MIRROR.BYTES_TX_COUNT (32 + body.length)
  else m

/-- Bytes that the records held for their marks take in the pending region (R320). -/
def Module.pendBytes (m : Module) : Nat :=
  (m.mirror.pend.filter (fun r => r.kind != 0x01)).foldl (fun a r => a + 32 + r.body.length) 0

/-- An ACK leaves, with the echo of the last heartbeat (R316), unless the pending region is full (R320). -/
def Module.sendAck (m : Module) : Module :=
  if m.get Reg.MIRROR.PENDING_SIZE_BYTES < m.pendBytes then m
  else
    let m1 := m.sendRaw 0x12 0 m.mirror.rxApplied m.mirror.lastBeatArg []
    { m1 with mirror := { m1.mirror with ackDue := false } }

/-- A REPLAY leaves: the first SEQ missing (R316). -/
def Module.sendReplay (m : Module) : Module :=
  (m.sendRaw 0x13 0 ((m.mirror.rxApplied + 1) % 2 ^ 32) 0 []).bump Reg.MIRROR.REPLAYS_COUNT

/-- A HELLO leaves; one that answers carries REPLY (R315, R332). -/
def Module.sendHello (reply : Bool) (m : Module) : Module :=
  m.sendRaw 0x17 (b2n reply) m.mirror.epoch 0
    (leBytes 8 ownSerial ++ leBytes 1 m.mirror.linkId ++ leBytes 1 m.mirror.state ++ zeros 6 ++
      leBytes 4 m.mirror.dirty.length ++ zeros 44)

/-- A slot's bit in the dirty map (R332). -/
def Module.markDirty (slot : Nat) (m : Module) : Module :=
  if m.mirror.dirty.contains slot then m
  else { m with mirror := { m.mirror with dirty := m.mirror.dirty ++ [slot] } }

/-- A REFUSE for a record (R315, R318). -/
def Module.refuseRec (r : MirrorRec) (st : Status) (m : Module) : Module :=
  m.send 0x16 r.partition 0 0 r.capsule r.seq st.code []

/-- A REFUSE with STALE_HANDLE, and its event (R315). -/
def Module.refuseStale (r : MirrorRec) (m : Module) : Module :=
  (m.refuseRec r .stale).event 0x0A02 0xFF 1 r.kind r.seq

/-! ### Leases (R322 to R324) -/

/-- The expiry that a lease change of now writes (R323). -/
def Module.newExpiry (m : Module) : Nat := (m.clk.now + ms (m.get Reg.MIRROR.LEASE_LEASE_MS)) % 2 ^ 64

/-- This module claims a capsule (R323): OWNER self with a later epoch, and the CLAIM while a stream runs. other is the epoch
that the partner's copy is known to carry. -/
def Module.claim (id other : Nat) (m : Module) : Module :=
  let c := m.slot (id / 256)
  let ep := ((if serialLater other c.epoch then other else c.epoch) + 1) % 2 ^ 32
  let m1 := (m.updCap id (fun k => { k with owner := m.mirror.linkId, epoch := ep, expiry := m.newExpiry, settled := false })).bump
    Reg.MIRROR.CLAIMS_COUNT
  let m2 := if m1.mirror.state == 3 then m1 else m1.markDirty (id / 256)
  if m2.streaming && !m2.mirror.queue.contains (id / 256) then
    let seq := m2.mirror.txNext
    let m3 := m2.send 0x0C c.partition 0 0 id ep m2.mirror.linkId []
    { m3 with mirror := { m3.mirror with leaseOps := m3.mirror.leaseOps ++ [⟨id, seq, none, true⟩] } }
  else m2

/-- The request of a capsule that is no longer this module's goes without a record. -/
def Module.forgetReq (id : Nat) (m : Module) : Module :=
  match m.requestOf id with
  | none => m
  | some (i, r) =>
    let m1 := if (m.seqOf i).isSome then (m.updReq i (fun r => { r with flags := r.flags % 16 })).leaveStep i else m
    let m2 := if r.pinned then m1.pins false (m1.slot (id / 256)).pins else m1
    { m2 with steps := { m2.steps with
      reqs := m2.steps.reqs.del i, inputBlocks := m2.steps.inputBlocks.filter (fun b => !r.inputBlocks.contains b) } }

/-- The lease of a capsule that both modules hold is settled by the two copies (R324). b is the partner's header. -/
def Module.settle (id : Nat) (b : Bytes) (m : Module) : Module :=
  match m.capsule id with
  | none => m
  | some c =>
    let own := m.mirror.linkId
    let ep := u32 b 0x0C
    let theirs := u8 b 9
    if serialUnordered ep c.epoch then m.serialStale 0x0A ep
    else if c.owner == theirs then m
    else if c.owner != own then (if own == 0 && m.lapsed c then m.claim id ep else m)
    else
      let wins := serialLater c.epoch ep || (c.epoch == ep && own == 0)
      let m1 := ((m.bump Reg.MIRROR.LEASE_CONFLICTS_COUNT).set Reg.MIRROR.STATUS_LEASE_CONFLICT 1).event 0x0A03 c.partition 2 id ep
      if wins then
        (if m1.mirror.queue.contains (id / 256) then m1
         else { (m1.markDirty (id / 256)) with mirror := { (m1.markDirty (id / 256)).mirror with queue := m1.mirror.queue ++ [id / 256] } })
      else
        let m2 := match m1.requestOf id with
          | some (i, _) => m1.endError i 4
          | none => m1
        let m3 := m2.releaseFrames id
        let m4 := m3.updSlot (id / 256) (fun k => { Capsule.blank with gen := k.gen })
        { m4 with mirror := { m4.mirror with
          dirty := m4.mirror.dirty.filter (· != id / 256), queue := m4.mirror.queue.filter (· != id / 256) } }

/-! ### Copies received -/

/-- Pages are added to a mirror copy up to a page (R315, R318); none when there is no room. -/
def Module.growTo (id page : Nat) (m : Module) : Option Module :=
  (List.range (page + 1 - (m.slot (id / 256)).pages)).foldl (fun (acc : Option Module) _ =>
    acc.bind (fun a => a.addPage id 8)) (some m)

/-- Why a record finds no room. -/
def Module.noRoom (m : Module) : Status := if m.ftl.readOnly then .readOnly else .noSpace

/-- SLOTS: the slots go into this module's own frame of the page, in state 0x02 when their step has yet to be marked (R315,
R320). -/
def Module.rxSlots (r : MirrorRec) (m : Module) : Module :=
  let c := m.slot (r.capsule / 256)
  let layer := bits r.arg0 7 0
  let page := bits r.arg0 19 8
  let first := bits r.arg0 27 20
  let n := bits r.arg1 8 0
  let sb := bits r.arg1 24 16
  if c.layers ≤ layer || sb != c.slotBytes || 256 < first + n || r.body.length != n * (8 + sb) || decide (page < c.shared) then m
  else
    match m.growTo r.capsule page with
    | none => m.refuseRec r m.noRoom
    | some m1 =>
      let m2 := (List.range n).foldl (fun (a : Module) i =>
        let o := i * (8 + sb)
        a.writeSlot r.capsule layer (256 * page + first + i)
          ⟨u32 r.body o, if r.step == 0 then u8 r.body (o + 4) else 2, u8 r.body (o + 5), slice r.body (o + 8) sb⟩) m1
      if r.step == 0 then m2
      else { m2 with mirror := { m2.mirror with pend := m2.mirror.pend ++ [{ r with body := [] }] } }

/-- The mirror frames of a capsule follow its state in the background: PARKED_TIER while it is PARKED, LPDDR while it is ACTIVE. In
any state those in HBM or the host tier leave, where mirror frames never lie (R318). -/
def Module.placeMirror (id : Nat) (m : Module) : Module :=
  let c := m.slot (id / 256)
  let t := if c.state == 4 then m.get Reg.MIRROR.PLACE_PARKED_TIER else 1
  (c.private_.map (·.2)).foldl (fun (a : Module) h =>
    if tierOf h == t || !(c.state == 4 || c.state == 2 || tierOf h == 0 || tierOf h == 2) then a else a.startMove .mirror h t) m

/-- The own shared pages of a copy that has none yet: those of the prefix that the header names (R195). -/
def Module.sharePages (id shared handle : Nat) (m : Module) : Module :=
  let c := m.slot (id / 256)
  if !c.map.isEmpty || shared == 0 then m
  else
    match m.prefix_ handle with
    | none => m
    | some x =>
      let part := x.map.take (shared * c.layers)
      let r := m.takeLists (listBlocks part.length - c.lists.length)
      let m1 := part.foldl (fun (a : Module) f => a.addShare f) r.2
      m1.updCap id (fun k => { k with
        map := part, lists := k.lists ++ r.1.getD [], pages := part.length / Max.max k.layers 1, shared := part.length / Max.max k.layers 1 })

/-- HEADER: the copy takes the record's fields and keeps its own placement and damage; a slot that is FREE or RETIRED takes the
capsule whole; a state of deletion frees the copy (R64, R315). -/
def Module.takeHeader (r : MirrorRec) (m : Module) : Module :=
  let id := r.capsule
  let slot := id / 256
  let b := r.body
  let k := m.slot slot
  let st := u8 b 4
  if b.length != 256 then m
  else if k.state == 0 || k.state == 6 then
    if k.state == 6 && st == 0 then m.updSlot slot (fun _ => { Capsule.blank with gen := id % 256 })
    else if liveState st && st != 5 then
      let fresh : Capsule := { Capsule.ofBytes b Capsule.blank with gen := id % 256, pages := 0, shared := 0, settled := true, mirrorSeq := r.seq }
      let m1 := { (m.updSlot slot (fun _ => fresh)) with caps := { (m.updSlot slot (fun _ => fresh)).caps with
        grants := m.caps.grants.filter (· != slot) } }
      m1.sharePages id (u16 b 0x1E) (u32 b 0x60)
    else m
  else if Capsule.id slot k != id then m.refuseStale r
  else if st == 5 || st == 0 then ((m.forgetReq id).releaseFrames id).freeSlot slot
  else
    let mine := m.owns k
    let m1 := m.updCap id (fun k => { Capsule.ofBytes b k with
      pages := k.pages, shared := k.shared, settled := true, mirrorSeq := r.seq, headerBad := false })
    let m2 := if mine && !m1.owns (m1.slot slot) then m1.forgetReq id else m1
    let m3 := if u32 b 0x18 < k.tokens then
        (m2.truncateTo id (u32 b 0x18)).updCap id (fun q => { q with tokens := u32 b 0x18 }) else m2
    ((m3.sharePages id (u16 b 0x1E) (u32 b 0x60)).placeMirror id)

/-- An empty shadow entry. -/
def Shadow.blank : Shadow := ⟨[], [], [], 0, false⟩

/-- The module with the shadow entry of index i changed. -/
def Module.updShadow (i : Nat) (f : Shadow → Shadow) (m : Module) : Module :=
  { m with mirror := { m.mirror with shadow := m.mirror.shadow.put i (f (m.mirror.shadow.getD i Shadow.blank)) } }

/-- ENTRY: the shadow entry, with fed tokens dropped from its input; a FREE entry goes (R315, R579). -/
def Module.takeEntryRec (r : MirrorRec) (m : Module) : Module :=
  if r.body.length != 64 then m
  else if u8 r.body 4 == 0 then { m with mirror := { m.mirror with shadow := m.mirror.shadow.del r.arg0 } }
  else m.updShadow r.arg0 (fun x =>
    let same := x.entry.isEmpty || u32 x.entry 0 == u32 r.body 0
    let x1 := if same then x else Shadow.blank
    let drop := if x1.fresh then 0 else (r.arg1 + 2 ^ 32 - x1.count % 2 ^ 32) % 2 ^ 32
    { x1 with entry := r.body, input := x1.input.drop drop, count := r.arg1, fresh := false })

/-- TEXT: the text record beside the shadow entry. -/
def Module.takeText (r : MirrorRec) (m : Module) : Module :=
  if r.body.length == 128 && m.mirror.shadow.has r.arg0 then m.updShadow r.arg0 (fun x => { x with text := r.body }) else m

/-- INPUT: tokens join the shadow input; RESET empties it first (R579). -/
def Module.takeInput (r : MirrorRec) (m : Module) : Module :=
  let n := bits r.arg1 15 0
  let toks := (List.range n).map (fun i => u32 r.body (4 * i))
  if r.body.length != 4 * n then m
  else m.updShadow r.arg0 (fun x =>
    if bit r.arg1 31 then { x with input := toks, fresh := true } else { x with input := x.input ++ toks })

/-- ACCOUNT: the record replaces the copy, except its own DEBITED and LAST_DEBIT, or whole when it opens an account held
closed (R315). When STRICT has cleared, the requests that it held go on (R190). -/
def Module.takeAccount (r : MirrorRec) (m : Module) : Module :=
  if r.body.length != 64 || 65536 ≤ r.arg0 then m
  else
    let own := m.account r.arg0
    let x := Account.ofBytes r.body
    let m1 := if !own.open_ then m.setAccount r.arg0 x
      else if m.mirror.linkId == 0 then m.setAccount r.arg0 { x with debited0 := own.debited0, lastDebit := own.lastDebit }
      else m.setAccount r.arg0 { x with debited1 := own.debited1, lastDebit := own.lastDebit }
    if own.strict && !x.strict then m1.easeReqs r.arg0 else m1

/-- PREFIX: the record replaces the copy with its own list; a creation builds the list from the copy of the source, or, in a
resync, with empty frames that tiles follow into; PAGES 0 frees it; a change of TIER moves the frames (R82, R194, R196, R315,
R332). -/
def Module.takePrefix (r : MirrorRec) (m0 : Module) : Module :=
  let m := { m0 with mirror := { m0.mirror with rxPrefix := r.arg0 } }
  let b := r.body
  let i := r.arg0
  let h := u32 b 0
  let pages := u16 b 0x0E
  if b.length != 64 then m
  else if pages == 0 then
    let m1 := if ((m.steps.prefixes.get i).map (fun x => x.pages != 0)).getD false then m.dropPrefix i else m
    let y : Prefix := ⟨h / 65536, 0, 0, 0, 0, 0, 0, 0, 0, 0, 0, 0, [], [], 0⟩
    { m1 with steps := { m1.steps with prefixes := m1.steps.prefixes.put i y } }
  else if (m.prefix_ h).isSome then
    ({ m with steps := { m.steps with prefixes := m.steps.prefixes.upd i (fun x => { x with tier := u8 b 7 }) } }).followPrefix h
  else
    let layers := u8 b 6
    let n := m.steps.prefixOrder
    let src := m.slot (r.capsule / 256)
    let built : Option (Module × List Nat) :=
      if r.capsule != capNone then
        if src.map.length != pages * layers then none
        else some (src.map.foldl (fun (a : Module) f =>
          ({ a with caps := { a.caps with share := a.caps.share.put f ⟨2, false⟩ } }).updFrame f (fun q => { q with shared := true })) m,
          src.map)
      else
        (List.range (pages * layers)).foldl (fun (acc : Option (Module × List Nat)) k =>
          acc.bind (fun (a, hs) =>
            let f := Frame.empty capNone (k % Max.max layers 1) (k / Max.max layers 1) (u8 b 5) (u16 b 8)
            match a.reserveFrom 8 { f with shared := true } with
            | (some t, a1) => some ({ a1 with caps := { a1.caps with share := a1.caps.share.put t ⟨1, false⟩ } }, hs ++ [t])
            | (none, _) => none)) (some (m, []))
    match built with
    | none => m.refuseRec r m.noRoom
    | some (m1, map) =>
      let ls := m1.takeLists (listBlocks map.length)
      let x : Prefix := ⟨h / 65536, u8 b 4, u8 b 5, layers, u8 b 7, u16 b 8, u16 b 0x0A, u16 b 0x0C, pages, u32 b 0x10, 0,
        u64 b 0x18, map, ls.1.getD [], n⟩
      let m2 := { ls.2 with steps := { ls.2.steps with prefixes := ls.2.steps.prefixes.put i x, prefixOrder := n + 1 } }
      if r.capsule == capNone then m2
      else m2.updCap r.capsule (fun q => { q with shared := q.pages, prefixHandle := h, keep := [] })

/-- A received tile goes into frame h of capsule id, or counts as damage of the block that fails, block 0 when the tile names
another place (R62, R576). A frame that a resync has just built for a prefix takes the CAPSULE_ID that its first tile names. -/
def Module.putTile (id h layer page t : Nat) (b : Bytes) (m : Module) : Module :=
  let own := ((m.frame h).map (·.capsule)).getD id
  let cap := if own == capNone then u32 b 0 else own
  match (List.range 4).find? (fun k => !tileCheck b k) with
  | some k => m.damage id h (4 * t + k)
  | none =>
    if b.length == 16384 && tilePlace b cap layer page t then m.updFrame h (fun f => { f.readTile t b with capsule := cap })
    else m.damage id h (4 * t)

/-- RESYNC_TILE: a tile that passes its CHECK values and names its place is written; another is handled as damage (R332,
R576). Tiles of shared frames follow their PREFIX record with CAPSULE_ID NONE. -/
def Module.takeTile (r : MirrorRec) (m : Module) : Module :=
  let layer := bits r.arg0 7 0
  let page := bits r.arg0 19 8
  let t := bits r.arg1 2 0
  if r.capsule == capNone then
    match (m.steps.prefixes.get m.mirror.rxPrefix).filter (fun x => x.pages != 0) with
    | none => m
    | some x => m.putTile capNone (nthD x.map (page * x.layers + layer) 0xFFFFFFFF) layer page t r.body
  else
    match m.growTo r.capsule page with
    | none => m.refuseRec r m.noRoom
    | some m1 => m1.putTile r.capsule ((m1.slot (r.capsule / 256)).handle layer page) layer page t r.body

/-! ### The mark (R320) -/

/-- The output records in the body of an OUTPUT record: capsule, request, status, flags, reason, SEQ, tokens and text, with
their step. -/
def parseOuts : Nat → Bytes → List OutRec
  | 0, _ => []
  | fuel + 1, b =>
    if b.length < 24 then []
    else
      let nt := u8 b 0x0F
      let nx := u16 b 0x10
      let o : OutRec := ⟨u32 b 0, u32 b 4, u32 b 8, u16 b 0x0C, u8 b 0x0E, u8 b 0x12, u32 b 0x14,
        (List.range nt).map (fun i => u32 b (24 + 4 * i)), slice b (24 + 4 * nt) nx, false, 0⟩
      o :: parseOuts fuel (b.drop (roundUp (24 + 4 * nt + nx) 8))

/-- A pending record takes effect. -/
def Module.applyPend (r : MirrorRec) (m : Module) : Module :=
  if r.kind == 0x01 then
    (slotsOf r).foldl (fun (a : Module) (l, pos) =>
      match a.slotAt r.capsule l pos with
      | some s => if s.state == 2 then a.writeSlot r.capsule l pos { s with state := 1, node := 0 } else a
      | none => a) m
  else if r.kind == 0x03 then m.takeHeader r
  else if r.kind == 0x05 then m.takeEntryRec r
  else if r.kind == 0x06 then m.takeText r
  else if r.kind == 0x07 then m.takeAccount r
  else if r.kind == 0x18 then m.takeInput r
  else m

/-- STEP_MARK: step n of partition p is committed (R320). -/
def Module.takeMark (r : MirrorRec) (m : Module) : Module :=
  let mine := m.mirror.pend.filter (fun x => x.partition == r.partition && x.step == r.step)
  let m1 := { m with mirror := { m.mirror with
    pend := m.mirror.pend.filter (fun x => !(x.partition == r.partition && x.step == r.step)) } }
  let m2 := mine.foldl (fun (a : Module) x => a.applyPend x) m1
  let outs := mine.filter (fun x => x.kind == 0x09)
  let m3 := (outs.flatMap (fun x => parseOuts (x.body.length + 1) x.body)).foldl (fun (a : Module) o =>
    match o.tokens.getLast? with
    | some t => if bit o.flags 0 then a else a.updShadow o.request (fun s => { s with input := s.input ++ [t] })
    | none => a) m2
  { m3 with mirror := { m3.mirror with outs := m3.mirror.outs ++ outs.map (fun x => (x.partition, x.step, x.body)) } }

/-- COMMIT_NOTE: the held output of that step and of earlier steps of the partition goes; a step that does not compare is
ignored (R24). -/
def Module.takeNote (r : MirrorRec) (m : Module) : Module :=
  if m.mirror.outs.any (fun o => o.1 == r.partition && serialUnordered r.step o.2.1) then m.serialStale 0x0A r.step
  else { m with mirror := { m.mirror with outs := m.mirror.outs.filter (fun o => !(o.1 == r.partition && serialGE r.step o.2.1)) } }

/-! ### Takeover (R330) -/

/-- The slots of a pending SLOTS record still in state 0x02 are emptied (R207). -/
def Module.emptyPending (r : MirrorRec) (m : Module) : Module :=
  (slotsOf r).foldl (fun (a : Module) (l, pos) =>
    match a.slotAt r.capsule l pos with
    | some s => if s.state == 2 then
        a.updFrame ((a.slot (r.capsule / 256)).handle l (pos / 256)) (fun f => f.dropSlot (pos % 256)) else a
    | none => a) m

/-- The request that a shadow entry becomes (R330). -/
def shadowReq (m : Module) (x : Shadow) : Req :=
  let b := x.entry
  let t := x.text
  let st := u8 b 4
  ⟨u32 b 0, if st == 2 || st == 4 then 1 else st, u8 b 5 - (if bit (u8 b 5) 3 then 8 else 0), u8 b 6, u8 b 7, u32 b 8, u64 b 0x10,
   u16 b 0x18, u16 b 0x1A, u32 b 0x1C, x.input, [], x.count, [], u32 b 0x28, u32 b 0x2C,
   sessionKey (u32 b 0x30) (u32 b 0x30 != 0 && m.mirror.partnerSerial != 0), u32 b 0x34, u16 b 0x38, u16 b 0x3A, u8 b 0x3C,
   false, false, false, ⟨u16 t 4, u8 t 6, u64 t 8, slice t 0x20 (Min.min (u8 t 7) 64)⟩, none, none,
   if st == 5 && u8 b 0x3C == 4 then some (m.get Reg.MIRROR.PLACE_PARKED_TIER, none) else none, none, false, false, false,
   false⟩

/-- Why an installed request ends at once, if it does: a version that it pins is not live here (R200), or a tokenizer, grammar
or stop set is lacking (R221). -/
def Module.lacks (m : Module) (r : Req) : Bool :=
  let c := m.slot (r.capsule / 256)
  (c.pins.filter (· != 0xFFFFFFFF)).any (fun p => (m.adVersion (p % 65536) (p / 65536)).isNone) ||
  (m.tokImage c.tokenizer).isNone || (c.grammar != 0xFFFFFFFF && (m.gramImage c.grammar).isNone) ||
  (r.text.stopSet != 0xFFFF && !m.mouth.stops.has r.text.stopSet)

/-- What an installed shadow entry needs once output has been released again: nothing, its end, or an end record without a
place. -/
inductive Fate where
  | runs (i : Nat)
  | ends (i status : Nat)
  | done (i : Nat)
  | noPlace (r : Req)
  deriving DecidableEq, Repr

/-- A shadow entry is installed in the request table under a new index (R330 step 4). -/
def Module.install (x : Shadow) (m : Module) : Module × List Fate :=
  let r0 := shadowReq m x
  match m.capsule r0.capsule with
  | none => (m, [])
  | some c =>
    match m.steps.reqs.lowestFree 0 262144 with
    | none => (m, [.noPlace r0])
    | some i =>
      let ending := r0.state == 5
      let bad := !ending && m.lacks r0
      let r := { r0 with pinned := !ending && !bad }
      let m1 := if r.pinned then m.pins true c.pins else m
      let m2 := (({ m1 with steps := { m1.steps with reqs := m1.steps.reqs.put i r } }).fixBlocks i r.fed)
      let m3 := if ending || bad then m2 else m2.revive i r.capsule
      (m3, [if ending then .done i else if bad then .ends i 4 else if bit r.flags 4 then .ends i r.endStatus else .runs i])

/-- The held output records are released again, each to its front end or its partition's ring, with the same bytes (R321). -/
def Module.reRelease (m : Module) : Module :=
  m.mirror.outs.foldl (fun (a : Module) (p, _, body) =>
    let outs := (parseOuts (body.length + 1) body).map (fun o =>
      let e := (a.mirror.shadow.getD o.request Shadow.blank).entry
      { o with toHost := bit (u8 e 5) 2, endpoint := sessionKey (u32 e 0x30) true })
    (a.release p outs).bumpBy Reg.MIRROR.RERELEASES_COUNT outs.length) m

/-- What follows for an installed entry after step 5. -/
def Module.meetFate (f : Fate) (m : Module) : Module :=
  match f with
  | .runs i => (m.clearHands i).touchReq i
  | .ends i st => m.endNow i (if st == 4 then 5 else ((m.steps.reqs.get i).map (·.endReason)).getD 3) st
  | .done i => m.freeReq i
  | .noPlace r =>
    let (txt, bads) := releaseHold r.text.hold
    let o : OutRec := ⟨r.capsule, 0xFFFFFFFF, (m.pstep r.partition).committed, 2, 1, 5, (r.outputSeq + 1) % 2 ^ 32, [],
      if bit r.text.flags 1 then [] else txt, bit r.flags 2, r.return_⟩
    let m1 := if bads == 0 then m else (m.bumpBy Reg.MOUTH.OUTPUT_INVALID_COUNT bads).set Reg.MOUTH.STATUS_INVALID 1
    ((m1.bumpBy Reg.MOUTH.TEXT_RELEASED_COUNT o.text.length).release r.partition [o]).writeCap r.capsule (fun c => { c with state := 1 })

/-- The steps of a partition that wait only for their commit are committed alone, oldest first (R328). -/
def Module.commitWaiting (p : Nat) : Nat → Module → Module
  | 0, m => m
  | fuel + 1, m =>
    match (m.pstep p).live.head? with
    | some s => if s.writing && m.commitsAlone s then (m.commitStep p s).commitWaiting p fuel else m
    | none => m

/-- The seven actions of R330 in their order. -/
def Module.takeover (m : Module) : Module :=
  let m1 := (List.range 8).foldl (fun (a : Module) p => a.commitWaiting p (a.pstep p).live.length) m
  let m2 := (m1.mirror.pend.filter (fun r => r.kind == 0x01)).foldl (fun (a : Module) r => a.emptyPending r) m1
  let m3 := { m2 with mirror := { m2.mirror with pend := [] } }
  let theirs := (m3.caps.slots.filter (fun (_, c) => liveState c.state && !m3.owns c)).map (fun (s, c) => Capsule.id s c)
  let m4 := theirs.foldl (fun (a : Module) id => a.claim id 0) m3
  let ((m5 : Module), (fates : List Fate)) := m4.mirror.shadow.vals.foldl (fun (acc : Module × List Fate) x =>
    let (a, f) := acc.1.install x
    (a, acc.2 ++ f)) (m4, [])
  let m6 := m5.reRelease
  let m7 := { m6 with
    mirror := { m6.mirror with shadow := [], outs := [] },
    bell := { m6.bell with takenOver := true, lastRegister := none } }
  let m8 := fates.foldl (fun (a : Module) f => a.meetFate f) m7
  ((m8.set Reg.MIRROR.STATUS_TAKEOVER 1).bump Reg.MIRROR.TAKEOVERS_COUNT).event 0x0A04 0xFF 1 theirs.length fates.length

/-! ### Pair states (R327) -/

/-- Slots of records that no ACK covers are dirty when the partner is given up: their copies may not have reached it. So are
those of capsules with a request here, whose records may still wait for the mark of a step (assumption 189). -/
def Module.dirtyUnacked (m : Module) : Module :=
  let m1 := (m.mirror.sent.filter (fun r => r.capsule != capNone)).foldl (fun (a : Module) r => a.markDirty (r.capsule / 256)) m
  m1.steps.reqs.vals.foldl (fun (a : Module) r => a.markDirty (r.capsule / 256)) m1

/-- What waited for the partner goes on without it: hand-overs (R333), creations (R44), repairs (R63) and the sweep (R42). -/
def Module.withoutPartner (m : Module) : Module :=
  let cmds (a : Module) (id : Nat) : Option RunCmd := a.host.running.find? (fun c => c.id == id)
  let m1 := m.mirror.leaseOps.foldl (fun (a : Module) (o : LeaseOp) =>
    match o.cmd.bind (cmds a) with
    | some c => a.ok c []
    | none => a) m
  let m2 := m1.caps.wanted.foldl (fun (a : Module) (_, id) =>
    match cmds a id, a.freeSlotOf (1 - a.mirror.linkId) with
    | some c, some s => a.createIn s c
    | some c, none => a.fail c .noSpace
    | none, _ => a) m1
  let repairs : List Repair := m2.caps.repairs.map (fun (r : Repair) => { r with left := [], failed := true })
  let sweep : Option Sweep := m2.caps.sweep.map (fun (w : Sweep) => { w with asked := [] })
  let m3 : Module := { m2 with
    mirror := { m2.mirror with leaseOps := [], asked := [] },
    caps := { m2.caps with wanted := [], repairs := repairs, sweep := sweep } }.allTruncates
  ((m3.caps.repairs.map (fun (r : Repair) => r.capsule)).foldl (fun (a : Module) id => a.endRepair id) m3).endSweep

/-- A MIRROR_PAIR that waits is answered. -/
def Module.answerPair (st : Status) (m : Module) : Module :=
  match m.mirror.pairCmd.bind (fun id => m.host.running.find? (fun c => c.id == id)) with
  | some c => (({ m with mirror := { m.mirror with pairCmd := none } }).fail c st)
  | none => { m with mirror := { m.mirror with pairCmd := none } }

/-- The module is LOST: it serves alone (R328), and takes over when CTRL.AUTO_TAKEOVER is set (R330). -/
def Module.enterLost (m : Module) : Module :=
  let m0 := m.dirtyUnacked
  let m1 := { m0 with mirror := { m0.mirror with state := 5, queue := [], syncing := [] } }
  let m2 := m1.withoutPartner
  if m2.flag Reg.MIRROR.CTRL_AUTO_TAKEOVER then m2.takeover else m2

/-- The module is FENCED: it serves nothing (R329). -/
def Module.enterFenced (m : Module) : Module :=
  let m0 := m.dirtyUnacked
  let m1 := { m0 with mirror := { m0.mirror with state := 6, queue := [], syncing := [], draining := false } }
  match m1.mirror.fenceCmd.bind (fun id => m1.host.running.find? (fun c => c.id == id)) with
  | some c => ({ m1 with mirror := { m1.mirror with fenceCmd := none } }).ok c []
  | none => { m1 with mirror := { m1.mirror with fenceCmd := none } }

/-- Every own Ethernet port is down. -/
def Module.etherDown (m : Module) : Bool := m.bell.subports.all (fun s => !s.up)

/-! ### Resync (R332) -/

/-- The order of the slots of a resync: ACTIVE by request priority, IDLE, PARKED by time of parking, then slots that have been
freed. -/
def Module.resyncOrder (slots : List Nat) (m : Module) : List Nat :=
  let key (s : Nat) : Nat × Nat :=
    let c := m.slot s
    if c.state == 2 then (0, 255 - ((m.requestOf (Capsule.id s c)).map (fun x => x.2.priority)).getD 0)
    else if c.state == 4 || c.state == 3 then (2, 2 ^ 64 - c.parked)
    else if c.state == 1 then (1, 0) else (3, 0)
  sortBy (fun a b => decide ((key a).1 < (key b).1) || ((key a).1 == (key b).1 && decide ((key a).2 ≤ (key b).2))) slots

/-- The filled tiles of a frame leave as RESYNC_TILE records; a tile whose check values fail is a failure on a read (R62). -/
def Module.sendTiles (part id layer page h : Nat) (m : Module) : Module :=
  match m.frame h with
  | none => m
  | some f => f.filledTiles.foldl (fun (a : Module) t =>
      match f.bad.find? (fun b => b / 4 == t) with
      | some b => a.damage id h b
      | none => a.send 0x14 part 0 0 id (layer + page * 2 ^ 8) t (f.tileBytes t)) m

/-- The records of one slot leave; gives the SEQ of the last. -/
def Module.resyncSlot (slot : Nat) (m : Module) : Module :=
  let c := m.slot slot
  if !liveState c.state then
    if c.gen == 0 then m
    else
      let old := { Capsule.blank with gen := c.gen - 1 }
      m.send 0x03 0xFF 0 0 (slot * 256 + (c.gen - 1)) 0 0 (old.bytes slot)
  else
    let id := Capsule.id slot c
    let m1 := m.send 0x03 c.partition 0 0 id 0 0 (c.bytes slot)
    let m2 := c.private_.foldl (fun (a : Module) (k, h) =>
      a.sendTiles c.partition id (k % Max.max c.layers 1) (k / Max.max c.layers 1) h) m1
    match m2.requestOf id with
    | none => m2
    | some (i, r) =>
      let parts := if r.input.isEmpty then [[]] else chunks 32768 (r.input.length + 1) r.input
      let m3 := parts.zipIdx.foldl (fun (a : Module) (t, k) =>
        a.send 0x18 r.partition 0 0 id i (t.length + (if k == 0 then 2 ^ 31 else 0)) (t.flatMap (leBytes 4))) m2
      (m3.send 0x05 r.partition 0 0 id i (r.fed % 2 ^ 32) (reqBytes m3 r)).send 0x06 r.partition 0 0 id i 0 (textBytes id r.text)

/-- The next queued slot is copied, one at a time, and the marks that waited for it leave; when none is left the source is
PAIRED. -/
def Module.resyncNext (m : Module) : Module :=
  if m.mirror.state != 2 || !m.mirror.source || !m.mirror.syncing.isEmpty then m
  else
    match m.mirror.queue with
    | s :: rest =>
      let m1 := ({ m with mirror := { m.mirror with queue := rest } }).resyncSlot s
      ({ m1 with mirror := { m1.mirror with syncing := [(s, (m1.mirror.txNext + 2 ^ 32 - 1) % 2 ^ 32)] } }).lateMarks
    | [] => ({ m with mirror := { m.mirror with state := 3, source := false } }).lateMarks

/-- The prefixes of a resync leave first, freed ones with the generation that they give next, their shared frames after each
(R192, R332). -/
def Module.resyncPrefixes (m : Module) : Module :=
  m.steps.prefixes.foldl (fun (a : Module) (i, x) =>
      let a1 := a.send 0x08 x.partition 0 0 capNone i 0 (prefixBytes a i x)
      x.map.zipIdx.foldl (fun (b : Module) (h, k) =>
        b.sendTiles x.partition capNone (k % Max.max x.layers 1) (k / Max.max x.layers 1) h) a1) m

/-- The accounts follow: all of them, or, when both modules are sources, those that this module serves again (R185, assumption
134). -/
def Module.resyncAccounts (both : Bool) (m : Module) : Module :=
  m.steps.accounts.keys.foldl (fun (a : Module) k =>
    if both && k % 2 != a.mirror.linkId then a else a.sendAccount 0 k) m

/-- This module becomes the source of a resync of the given slots; both tells that the partner is one too. -/
def Module.startResync (full both : Bool) (m : Module) : Module :=
  let slots := if full then m.caps.slots.keys else m.mirror.dirty
  let m1 := (({ m with mirror := { m.mirror with state := 2, source := true, queue := m.resyncOrder slots, syncing := [] } }).set
    Reg.MIRROR.RESYNC_DONE 0).ownHint
  (m1.resyncPrefixes.resyncAccounts both).resyncNext

/-- Slot requests that no stream carries any more go out (R44, R333). -/
def Module.askAgain (m : Module) : Module :=
  (m.caps.wanted.keys.filter (fun t => !m.mirror.sent.any (fun r => r.kind == 0x0F && r.arg0 == t))).foldl
    (fun (a : Module) t => a.send 0x0F 0xFF 0 0 capNone t 0 []) m

/-- The marks of steps that have not committed belong to the stream that has ended (R30). -/
def Module.unmark (m : Module) : Module :=
  (List.range 8).foldl (fun (a : Module) p =>
    if (a.pstep p).live.isEmpty then a
    else a.updPart p (fun x => { x with live := x.live.map (fun s => { s with markSeq := none }) })) m

/-- The target of a resync, or both copies empty. -/
def Module.pairedAs (st : Nat) (m : Module) : Module := { m with mirror := { m.mirror with state := st, source := false, queue := [], syncing := [] } }

/-- The pairing is agreed with a partner whose HELLO showed a state: the sequences restart, and the roles follow (R332). -/
def Module.agree (serial epoch theirState : Nat) (m : Module) : Module :=
  let mine := m.mirror.state
  let ep := ((if serialLater epoch m.mirror.epoch then epoch else m.mirror.epoch) + 1) % 2 ^ 32
  let m0 := m.unmark
  let m1 := { m0 with mirror := { m0.mirror with
    epoch := ep, partnerSerial := serial, txNext := 1, txAcked := 0, sent := [], rxApplied := 0, rxGap := false, pend := [],
    lastBeatArg := 0, netPartnerState := 0, asked := [], lastBeat := m.clk.mono, lastNet := m.clk.mono } }
  let all := m1.caps.slots.vals.all (fun c => !liveState c.state || m1.owns c)
  let holds := m1.caps.slots.vals.any (fun c => liveState c.state)
  let source := mine == 5 || (mine == 6 && theirState != 5 && holds && all)
  let m2 :=
    if mine == 0 && theirState == 0 then m1.pairedAs 3
    else if source then m1.startResync (theirState == 0) (theirState == 5)
    else m1.pairedAs 2
  m2.askAgain.answerPair .ok

/-- The partner's HELLO reached a module that may pair (R313, R327, R332, R500). keys are the partner's state-key IDs by
partition as the two Dyones compare them. -/
def Module.hello (r : MirrorRec) (keys : List Nat) (m : Module) : Module :=
  let b := r.body
  let serial := u64 b 0
  let m0 := if bit r.flags 0 then m else m.sendHello true
  let mute := (List.range 8).filter (fun p => m.present p && m.mute p)
  let keysOk := mute.all (fun p => ((m.secur.stateKeys.get p).map keyId) == some (nthD keys p 0))
  if u8 b 8 == m.mirror.linkId then
    ((m0.set Reg.MIRROR.STATUS_ID_CONFLICT 1).event 0x0A01 0xFF 2 m.mirror.linkId serial).answerPair .denied
  else if (m.mirror.expect != 0 && m.mirror.expect != serial) || !keysOk then m0.answerPair .denied
  else m0.agree serial r.arg0 (u8 b 9)

end Sys2Proof.Machine
end

