-- ==== Sys2Proof/Machine/OpsCkpt.lean ====
section
/-!
DEFINITION. The checkpoint stream and the manifest (R341 to R350), where they lie in a destination (R345, R351), and how a
stream is read back (R354, R355).
-/

namespace Sys2Proof.Machine

open Sys2Proof

/-! ### Records -/

/-- A record with the partition that it belongs to, 8 for none. -/
structure PartRec where
  part : Nat
  rec_ : CkRec
  deriving DecidableEq, Repr

/-- The 16-byte record header and the body (R348). -/
def CkRec.bytes (r : CkRec) (body : Bytes) : Bytes :=
  leBytes 1 r.kind ++ zeros 3 ++ leBytes 4 r.body.length ++ leBytes 4 r.capsule ++ leBytes 4 r.arg ++ body

/-- The bytes that a record takes in a shard. -/
def CkRec.size (r : CkRec) : Nat := 16 + r.body.length

/-- Bytes of a shard and of its header (R347). -/
def shardBytes : Nat := 268435456
def shardHead : Nat := 64

/-- The records of a stream, cut into shards that no record spans. -/
def packShards (recs : List PartRec) : List (List PartRec) :=
  let r := recs.foldl (fun (acc : List (List PartRec) × List PartRec × Nat) x =>
    let (done, cur, n) := acc
    if shardBytes < n + x.rec_.size then (done ++ [cur], [x], shardHead + x.rec_.size)
    else (done, cur ++ [x], n + x.rec_.size)) ([], [], shardHead)
  r.1 ++ [r.2.1]

/-- A record's body as it is written: enciphered for a partition in Mute mode, under the checkpoint's key, its tweak the shard
and the record's place in it (R348, R499). -/
def Module.ckBody (m : Module) (id shard off : Nat) (x : PartRec) : Bytes :=
  if m.mute x.part then Config.encipher (m.secur.stateKeys.getD x.part []) 1 id (shard * 2 ^ 32 + off) x.rec_.body
  else x.rec_.body

/-- The bytes of a shard: its header, its records, and zeros to 256 MiB in every shard but the last (R347). -/
def Module.shardOf (m : Module) (id : Nat) (cuts : List Nat) (count shard : Nat) (recs : List PartRec) : Bytes :=
  let body := (recs.foldl (fun (acc : Bytes × Nat) x =>
    (acc.1 ++ x.rec_.bytes (m.ckBody id shard (shardHead + acc.1.length) x), acc.2 + 1)) ([], 0)).1
  let n := if shard + 1 == count then shardHead + body.length else shardBytes
  padTo (leBytes 4 1 ++ leBytes 4 shard ++ leBytes 8 id ++ leBytes 8 ownSerial ++ cuts.flatMap (leBytes 4) ++
    leBytes 4 n ++ leBytes 4 recs.length ++ body) n

/-! ### What a checkpoint holds -/

/-- A frame as it stood at the cut with n tokens of its page (R343): later slots empty, FILL_COUNT n. -/
def Frame.atCut (n : Nat) (f : Frame) : Frame :=
  { f with fill := n, slots := f.slots.keep (fun i _ => decide (i < n)) }

/-- Tokens of page p of an object that holds n. -/
def pageFill (n p : Nat) : Nat := Min.min 256 (n - 256 * p)

/-- DATA_SEQ of a flash frame (R290). -/
def Module.dataSeq (m : Module) (i : Nat) : Option Nat :=
  (m.ftlLoc 0 i).bind (fun p => ((m.chan p.1).unit p.2).map (·.dataSeq))

/-- What a page of an object gives the stream: a FRAME_REF in a LOCAL checkpoint when its frame lies in flash (R346), else its
tiles that hold a slot; none when a tile to be copied fails its check value. kind is TILE or PREFIX_TILE. -/
def Module.pageRecs (m : Module) (loc : Bool) (kind key tokens layer page h : Nat) : Option (List CkRec) :=
  let arg := layer + page * 2 ^ 8
  let n := pageFill tokens page
  match (if loc && tierOf h == 3 then m.dataSeq (indexOf h) else none) with
  | some ds => some (if n == 0 then [] else [⟨3, key, arg, leBytes 4 (indexOf h) ++ zeros 4 ++ leBytes 8 ds⟩])
  | none =>
    match m.frame h with
    | none => some []
    | some f =>
      let g := f.atCut n
      if f.bad.any (fun b => decide (32 * (b / 4) < n)) then none
      else some (g.filledTiles.map (fun t => ⟨kind, key, arg + t * 2 ^ 20, g.tileBytes t⟩))

/-- The pages of a map as layer, page and handle. -/
def mapPages (layers : Nat) (map : List Nat) : List (Nat × Nat × Nat) :=
  map.zipIdx.map (fun (h, i) => (i % Max.max layers 1, i / Max.max layers 1, h))

/-- Pages in layer, then page order (R348). -/
def pageOrder (l : List (Nat × Nat × Nat)) : List (Nat × Nat × Nat) :=
  sortBy (fun a b => decide (a.1 < b.1) || (a.1 == b.1 && decide (a.2.1 ≤ b.2.1))) l

/-- The scope and the partitions of a checkpoint (R341, R359). -/
structure CkScope where
  pair : Bool
  parts : Nat
  loc : Bool
  indexes : Nat
  deriving DecidableEq, Repr

/-- Partitions named by a mask, 0 for all. -/
def partMask (n : Nat) : Nat := if n == 0 then 255 else n

/-- Live prefixes in scope: index and record. -/
def Module.ckPrefixes (m : Module) (k : CkScope) : List (Nat × Prefix) :=
  m.steps.prefixes.filter (fun (i, x) => x.pages != 0 && bit k.parts x.partition && (k.pair || i % 2 == m.mirror.linkId))

/-- Live capsules in scope, by slot. -/
def Module.ckCapsules (m : Module) (k : CkScope) : List (Nat × Capsule) :=
  m.caps.slots.filter (fun (_, c) => liveState c.state && bit k.parts c.partition && (k.pair || m.owns c))

/-- The records of a prefix; a page whose tile fails gives none. -/
def Module.prefixRecs (m : Module) (k : CkScope) (i : Nat) (x : Prefix) : List PartRec :=
  let h := i + x.gen * 65536
  let pages := (pageOrder (mapPages x.layers x.map)).flatMap (fun (l, p, f) =>
    (m.pageRecs k.loc 5 h x.tokens l p f).getD [])
  (⟨4, h, i, prefixBytes m i x⟩ :: pages).map (fun r => ⟨x.partition, r⟩)

/-- The records of a capsule and whether it was recorded without tiles (R344): its own pages, with shared ones whose prefix the
checkpoint does not hold. -/
def Module.capsuleRecs (m : Module) (k : CkScope) (slot : Nat) (c : Capsule) : List PartRec × Bool :=
  let id := Capsule.id slot c
  let shares := (m.ckPrefixes k).any (fun (i, x) => i + x.gen * 65536 == c.prefixHandle)
  let all := pageOrder (mapPages c.layers c.map)
  let own := all.filter (fun (_, p, _) => decide (c.shared ≤ p) || !shares)
  let lent := all.filter (fun (_, p, _) => decide (p < c.shared) && shares)
  let got := own.map (fun (l, p, h) => m.pageRecs k.loc 2 id c.tokens l p h)
  let bad := c.headerBad || got.any Option.isNone || lent.any (fun (l, p, h) => (m.pageRecs k.loc 5 id c.tokens l p h).isNone)
  let head : CkRec := ⟨1, id, 0, ({ c with flags := if bad then c.flags ||| 1 else c.flags }).bytes slot⟩
  ((head :: (if bad then [] else got.flatMap (fun g => g.getD []))).map (fun r => ⟨c.partition, r⟩), bad)

/-- The records of an index: runs of 1,024 sectors over every sector of each shard (R349). -/
def Module.indexRecs (m : Module) (i : Nat) : List PartRec :=
  match m.bore.indexes.get i with
  | none => []
  | some x =>
    (List.range 32).flatMap (fun s => (List.range (ceilDiv x.sectors 1024)).map (fun k =>
      let first := 1024 * k
      let body := (List.range (Min.min 1024 (x.sectors - first))).flatMap (fun j =>
        (m.boreSector (shardExt i s) (first + j)).getD (zeros 4096))
      ⟨x.partition, ⟨8, capNone, i + s * 2 ^ 4, leBytes 4 first ++ zeros 4 ++ body⟩⟩))

/-- The whole stream in order: prefixes, accounts, capsules, requests, indexes (R348). -/
def Module.ckStream (m : Module) (k : CkScope) : List PartRec :=
  (m.ckPrefixes k).flatMap (fun (i, x) => m.prefixRecs k i x) ++
  (m.steps.accounts.filter (fun (a, x) => x.open_ && bit k.parts x.partition && (k.pair || m.serves a))).map (fun (a, x) =>
    ⟨x.partition, ⟨6, capNone, a, x.bytes⟩⟩) ++
  (m.ckCapsules k).flatMap (fun (s, c) => (m.capsuleRecs k s c).1) ++
  (m.steps.reqs.filter (fun (_, r) => r.state != 0 && r.reserved.isNone && bit k.parts r.partition)).map (fun (i, r) =>
    ⟨r.partition, ⟨7, r.capsule, i, reqBytes m r ++ textBytes r.capsule r.text⟩⟩) ++
  (setBitsOf 16 k.indexes).flatMap m.indexRecs

/-! ### The manifest -/

/-- The places of a run's shards in the destination. -/
def shardPlaces (base : Nat) (shards : List Bytes) : List (Nat × Bytes) :=
  (shards.foldl (fun (acc : List (Nat × Bytes) × Nat) b => (acc.1 ++ [(acc.2, b)], acc.2 + roundUp b.length 4096)) ([], base)).1

/-- The bytes from a run's base to its manifest. -/
def shardSpan (shards : List Bytes) : Nat := shards.foldl (fun a b => a + roundUp b.length 4096) 0

/-- The manifest before its signature (R350). -/
def Module.manifestBody (m : Module) (r : CkRun) (kind previous : Nat) : Bytes :=
  leBytes 4 1 ++ leBytes 1 r.scope ++ leBytes 1 kind ++ leBytes 1 m.mirror.linkId ++ leBytes 1 r.trigger ++
  leBytes 8 r.id ++ leBytes 8 ownSerial ++ r.cutSteps.flatMap (leBytes 4) ++ leBytes 4 r.epoch ++
  leBytes 4 r.shards.length ++ leBytes 4 r.capsules ++ leBytes 1 r.parts ++ leBytes 1 r.mute ++ leBytes 2 r.indexes ++
  leBytes 8 (r.shards.foldl (fun a b => a + b.length) 0) ++ leBytes 8 previous ++ leBytes 4 r.skips ++
  leBytes 4 r.held.length ++ zeros 32 ++
  (shardPlaces r.offset r.shards).zipIdx.flatMap (fun ((o, b), i) =>
    leBytes 4 i ++ leBytes 4 b.length ++ leBytes 8 o ++ padTo (Config.sha512 b) 64) ++
  padTo Config.identityKey 32

/-- The signed manifest: Dyone signs with the identity key. -/
def Module.manifest (m : Module) (r : CkRun) (kind previous : Nat) : Bytes :=
  let b := m.manifestBody r kind previous
  b ++ padTo (Config.edSign b) 64

/-- The length of a manifest over n shards. -/
def manifestLen (n : Nat) : Nat := 128 + 80 * n + 96

/-! ### Destinations -/

/-- Bytes at a linear offset, spread over extents of a base and a size. -/
def spread : List (Nat × Nat) → Nat → Bytes → List (Nat × Bytes)
  | [], _, _ => []
  | (base, size) :: rest, off, b =>
    if size ≤ off then spread rest (off - size) b
    else
      let n := size - off
      (base + off, b.take n) :: (if b.length ≤ n then [] else spread rest 0 (b.drop n))

/-- Sectors of bytes at a linear offset, spread over sector extents: extent, sector and its 4 KiB. -/
def spreadSectors (extents : List (Nat × Nat)) (off : Nat) (b : Bytes) : List (Nat × Nat × Bytes) :=
  (List.range (ceilDiv b.length 4096)).filterMap (fun k =>
    let n := off / 4096 + k
    let r := extents.foldl (fun (acc : Option (Nat × Nat) × Nat) e =>
      match acc.1 with
      | some _ => acc
      | none => if acc.2 < e.2 then (some (e.1, acc.2), 0) else (none, acc.2 - e.2)) (none, n)
    r.1.map (fun (e, s) => (e, s, slice b (4096 * k) 4096)))

/-- Bytes are written to a destination: through the FTL, into host memory, or by RDMA WRITE on the fixed queue of checkpoints
(R345, R471). -/
def Module.toTarget (t : CkTarget) (off : Nat) (b : Bytes) (m : Module) : Module :=
  if t.kind == 0 then
    (spreadSectors t.extents off b).foldl (fun (a : Module) (e, s, x) => (a.ftlWrite e s (.sector x)).1) m
  else if t.kind == 1 then
    (spread t.extents off b).foldl (fun (a : Module) (h, x) => { a with hostMem := a.hostMem.wrN h x }) m
  else
    (chunks 4096 (b.length + 1) b).zipIdx.foldl (fun (a : Module) (x, i) =>
      a.enqueue (a.queueFor t.endpoint 17) (.write t.endpoint (t.addr + off + 4096 * i) x)) m

/-- n bytes read at a linear offset of extents of host memory. -/
def Module.hostExtents (m : Module) : List (Nat × Nat) → Nat → Nat → Bytes
  | [], _, n => zeros n
  | (base, size) :: rest, off, n =>
    if size ≤ off then m.hostExtents rest (off - size) n
    else
      let k := Min.min n (size - off)
      m.hostMem.rdN (base + off) k ++ (if n ≤ k then [] else m.hostExtents rest 0 (n - k))

/-- n bytes read at a linear offset of sector extents; a sector never written reads as zero. -/
def Module.sectorExtents (m : Module) (extents : List (Nat × Nat)) (off n : Nat) : Bytes :=
  let first := off / 4096
  let all := (spreadSectors extents (first * 4096) (zeros (off % 4096 + n))).flatMap (fun (e, s, _) =>
    (m.boreSector e s).getD (zeros 4096))
  slice all (off % 4096) n

/-- The unit's read-only registers (R362). -/
def Module.ckptShow (m : Module) : Module :=
  let held := (((m.ckpt.local_.getLast?.map (·.holds)).getD []) ++ ((m.ckpt.run.map (·.held)).getD [])).eraseDups
  ((m.set Reg.CKPT.STATUS_STATE ((m.ckpt.run.map (·.stage)).getD 0)).set Reg.CKPT.STATUS_TARGETS
    (m.ckpt.targets.keys.foldl (fun a t => a + 2 ^ t) 0)).set Reg.CKPT.HELD_FRAMES_COUNT held.length

/-- Frees that waited for a hold go through once nothing holds the frame (R346). -/
def Module.runDeferred (m : Module) : Module :=
  let go := m.ckpt.deferred.filter (fun i => !m.heldFrame i)
  let m1 := { m with ckpt := { m.ckpt with deferred := m.ckpt.deferred.filter m.heldFrame } }
  go.foldl (fun (a : Module) i => a.ftlUnmap 0 i) m1

/-- The running checkpoint ends without a manifest: it is counted, its holds go, and its command completes (R352). -/
def Module.ckptEnds (st : Status) (m : Module) : Module :=
  match m.ckpt.run with
  | none => m
  | some r =>
    let m1 := (({ m with ckpt := { m.ckpt with run := none } }).set Reg.CKPT.STATUS_ABANDONED 1).bump Reg.CKPT.FAILED_COUNT
    let m2 := m1.runDeferred.ckptShow
    match r.cmd.bind (fun id => m2.host.running.find? (fun c => c.id == id)) with
    | some c => m2.fail c st
    | none => m2

/-- A checkpoint starts: the builds are held from now on (R342, R352). -/
def Module.ckptStart (cmd : Option Nat) (target scope parts indexes trigger : Nat) (m : Module) : Module :=
  let r : CkRun := ⟨cmd, target, scope, parts, indexes, trigger, 1, m.clk.mono, 0, [], [], 0, [], 0, 0, [], 0, 0, m.clk.mono⟩
  (({ m with ckpt := { m.ckpt with run := some r } }).set Reg.CKPT.PROGRESS_BYTES 0).ownHint.ckptShow

/-- A place for n bytes of a checkpoint in a destination that leaves the newest sealed one there alone: any 4 KiB boundary
where it fits (R351). -/
def Module.ckptPlace (t : CkTarget) (n : Nat) (m : Module) : Option Nat × Module :=
  let places := (t.size + 4096 - n) / 4096
  if t.size < n then (none, m)
  else
    let (start, m1) := m.choose places
    let ok (i : Nat) : Bool :=
      match t.used with
      | some (o, k) => decide (4096 * i + n ≤ o) || decide (o + k ≤ 4096 * i)
      | none => true
    ((findFrom ok places places start).map (4096 * ·), m1)

/-- A tile of a capsule failed its check value in the copy: damage of the capsule (R62). -/
def Module.ckptDamage (slot : Nat) (c : Capsule) (m : Module) : Module :=
  if c.damaged then m
  else
    match c.map.findSome? (fun h => ((m.frame h).bind (fun f => f.bad.head?)).map (fun b => (h, b))) with
    | some (h, b) => m.damage (Capsule.id slot c) h b
    | none => m.loadHeader (Capsule.id slot c)

/-- The tables are copied into the staging region (R342): the request entries first, then the accounts, the text records and the
prefix records, each at its index; the bitmap of copied headers starts empty (R343). DESIGN CHOICE (log 211): where each table
lies in the 56 MiB. -/
def Module.stageTables (m : Module) : Module :=
  let base := m.get Reg.CKPT.STAGE_BASE_BASE
  let mib := 2 ^ 20
  let rows := m.steps.reqs.map (fun (i, r) => (64 * i, reqBytes m r)) ++
    m.steps.accounts.map (fun (a, x) => (16 * mib + 64 * a, x.bytes)) ++
    m.steps.reqs.map (fun (i, r) => (20 * mib + 128 * i, textBytes r.capsule r.text)) ++
    m.steps.prefixes.map (fun (i, x) => (52 * mib + 64 * i, prefixBytes m i x))
  { m with
    hbm := rows.foldl (fun (a : Mem) r => a.wrN (base + r.1) r.2) (m.hbm.zeroN base (56 * mib))
    lpddr := m.lpddr.zeroN (m.get Reg.CKPT.BITMAP_BASE_BASE) (2 * mib) }

/-- The cut (R342): every table and frame in scope is taken as it stands, and the builds are released. A stream that has no
place in the destination cannot be written; a LOCAL one is not written to read-only flash. -/
def Module.takeCut (r : CkRun) (t : CkTarget) (m : Module) : Module :=
  let k : CkScope := ⟨r.scope == 1, partMask r.parts &&& (List.range 8).foldl (fun a p => a + (if m.present p then 2 ^ p else 0)) 0,
    t.kind == 0, r.indexes⟩
  let id := m.clk.now
  let cuts := (List.range 8).map (fun p => (m.pstep p).committed)
  let groups := packShards (m.ckStream k)
  let shards := groups.zipIdx.map (fun (g, i) => m.shardOf id cuts groups.length i g)
  let caps := m.ckCapsules k
  let bad := caps.filter (fun (s, c) => (m.capsuleRecs k s c).2)
  let refs := groups.flatMap (fun g => g.filterMap (fun x => if x.rec_.kind == 3 then some (u32 x.rec_.body 0) else none))
  let mute := (List.range 8).foldl (fun a p => a + (if bit k.parts p && m.mute p then 2 ^ p else 0)) 0
  let place := m.ckptPlace t (shardSpan shards + roundUp (manifestLen shards.length) 4096)
  if t.kind == 0 && m.ftl.readOnly then m.ckptEnds .readOnly
  else
    match place with
    | (none, _) => m.ckptEnds .timeout
    | (some o, m1) =>
      let r1 : CkRun := { r with
        stage := 2, id := id, cutSteps := cuts, shards := shards, offset := o, held := refs, skips := bad.length,
        capsules := caps.length, slotsLeft := caps.map (·.1), epoch := m.mirror.epoch, mute := mute, parts := k.parts,
        lastAnswer := m.clk.mono }
      let m2 := ({ m1.stageTables with ckpt := { m1.ckpt with run := some r1 } }).bumpBy Reg.CKPT.DAMAGED_SKIPS_COUNT bad.length
      let m3 := if t.kind == 1 then m2
        else (shardPlaces o shards).foldl (fun (a : Module) (p, b) => a.toTarget t p b) m2
      (bad.foldl (fun (a : Module) (s, c) => a.ckptDamage s c) m3).ckptShow

/-! ### Reading a stream back -/

/-- An object of a stream with what belongs to it: its record, the partition, its tiles, and its frame references, each with its
shard. -/
structure CkObj where
  shard : Nat
  part : Nat
  rec_ : CkRec
  tiles : List CkRec
  refs : List (Nat × CkRec)
  deriving DecidableEq, Repr

/-- The records of a shard with their places, its RECORDS many. -/
def parseRecs (b : Bytes) : Nat → Nat → List (Nat × CkRec)
  | 0, _ => []
  | n + 1, o =>
    if b.length < o + 16 then []
    else
      let len := u32 b (o + 4)
      (o, ⟨u8 b o, u32 b (o + 8), u32 b (o + 12), slice b (o + 16) len⟩) :: parseRecs b n (o + 16 + len)

/-- The partition that the body of an object names for itself. -/
def ownPart (kind : Nat) (body : Bytes) : Nat :=
  if kind == 1 || kind == 7 then u8 body 6
  else if kind == 4 then u8 body 4
  else if kind == 6 then u8 body 0x2C
  else if kind == 8 then u8 body (8 + 0x0E)
  else 8

/-- A body in plain text: as it stands, or deciphered under the state key of the Mute-mode partition that it then names, or of
the object that it belongs to (R348, R499). -/
def Module.ckPlain (m : Module) (id mute shard off : Nat) (r : CkRec) (of_ : Nat) : CkRec × Nat :=
  let dec (p : Nat) : Bytes := Config.decipher (m.secur.stateKeys.getD p []) 1 id (shard * 2 ^ 32 + off) r.body
  if r.kind == 2 || r.kind == 3 || r.kind == 5 || (r.kind == 8 && u32 r.body 0 != 0) then
    (if of_ < 8 && bit mute of_ then { r with body := dec of_ } else r, of_)
  else
    match (setBitsOf 8 mute).find? (fun p => ownPart r.kind (dec p) == p) with
    | some p => if bit mute (ownPart r.kind r.body) || 8 ≤ ownPart r.kind r.body then ({ r with body := dec p }, p)
      else (r, ownPart r.kind r.body)
    | none => (r, ownPart r.kind r.body)

/-- The objects of the shards of a stream in order; a tile and a frame reference belong to the object before them. -/
def Module.ckObjects (m : Module) (id mute : Nat) (shards : List Bytes) : List CkObj :=
  let recs := shards.zipIdx.flatMap (fun (b, s) => (parseRecs b (u32 b 0x3C) shardHead).map (fun (o, r) => (s, o, r)))
  recs.foldl (fun (acc : List CkObj) (s, o, r) =>
    let prev := (acc.getLast?.map (·.part)).getD 8
    let (x, p) := m.ckPlain id mute s o r prev
    if x.kind == 2 || x.kind == 5 then
      match acc.getLast? with
      | some z => acc.dropLast ++ [{ z with tiles := z.tiles ++ [x] }]
      | none => acc
    else if x.kind == 3 then
      match acc.getLast? with
      | some z => acc.dropLast ++ [{ z with refs := z.refs ++ [(s, x)] }]
      | none => acc
    else acc ++ [⟨s, p, x, [], []⟩]) []

/-- A frame of an object built from its tiles; a tile that its tokens need and the stream does not hold fails its checks. -/
def builtFrame (id layer page fmt slotBytes tokens : Nat) (sharedFrame : Bool) (tiles : List CkRec) : Frame :=
  let n := pageFill tokens page
  let mine := tiles.filter (fun t => bits t.arg 7 0 == layer && bits t.arg 19 8 == page)
  let f := mine.foldl (fun (f : Frame) t => f.readTile (bits t.arg 22 20) t.body) (Frame.empty id layer page fmt slotBytes)
  let miss := (List.range 8).filter (fun t => decide (32 * t < n) && !mine.any (fun r => bits r.arg 22 20 == t))
  { f with fill := n, shared := sharedFrame, bad := miss.flatMap (fun t => [4 * t, 4 * t + 1, 4 * t + 2, 4 * t + 3]) }

/-- A frame is placed: in flash for a PARKED capsule, otherwise in LPDDR, or in flash when LPDDR is full (R355). -/
def Module.restoreFrame (parked : Bool) (f : Frame) (m : Module) : Option Nat × Module :=
  if parked then
    match m.allocFrame 3 with
    | (some h, m1) => (some h, m1.putFrame h f)
    | (none, m1) => (none, m1)
  else m.reserveFrom 8 f

/-- A page of an object: the frame that a reference names, or a new one. -/
def Module.restorePage (o : CkObj) (parked sharedFrame : Bool) (id fmt slotBytes tokens layer page : Nat) (m : Module) :
    Option (Nat × Module) :=
  match o.refs.find? (fun (_, r) => bits r.arg 7 0 == layer && bits r.arg 19 8 == page) with
  | some (_, r) =>
    let i := u32 r.body 0
    let h := mkHandle 3 i
    let loc := m.ckpt.local_.map (fun (l : CkLocal) => { l with holds := l.holds.filter (· != i) })
    some (h, { m with ckpt := { m.ckpt with local_ := loc, deferred := m.ckpt.deferred.filter (· != i) } })
  | none =>
    match m.restoreFrame parked (builtFrame id layer page fmt slotBytes tokens sharedFrame o.tiles) with
    | (some h, m1) => some (h, m1)
    | (none, _) => none

/-- The pages of an object from a page on, in map order. -/
def Module.restorePages (o : CkObj) (parked sharedFrame : Bool) (id fmt slotBytes tokens layers first pages : Nat) (m : Module) :
    Option (List Nat × Module) :=
  (List.range ((pages - first) * layers)).foldl (fun (acc : Option (List Nat × Module)) k =>
    acc.bind (fun (hs, a) =>
      (a.restorePage o parked sharedFrame id fmt slotBytes tokens (k % Max.max layers 1) (first + k / Max.max layers 1)).map
        (fun (h, a1) => (hs ++ [h], a1)))) (some ([], m))

/-- A capsule comes back (R355): owned here, its lease epoch one later, PARKED or IDLE, its shared pages those of its prefix. -/
def Module.restoreCapsule (o : CkObj) (m : Module) : Option Module :=
  let b := o.rec_.body
  let id := o.rec_.capsule
  let c := Capsule.ofBytes b Capsule.blank
  let parked := c.state == 4
  let pre := if c.shared == 0 then none else m.prefix_ c.prefixHandle
  let lent := match pre with
    | some x => x.map.take (c.shared * c.layers)
    | none => []
  let shared := lent.length / Max.max c.layers 1
  (m.restorePages o parked false id c.fmt c.slotBytes c.tokens c.layers shared c.pages).bind (fun (hs, m1) =>
    match m1.takeLists (listBlocks (lent.length + hs.length)) with
    | (none, _) => none
    | (some ls, m2) =>
      let k : Capsule := { c with
        gen := id % 256, state := if parked then 4 else 1, flags := u8 b 5 % 4, owner := m.mirror.linkId,
        epoch := (c.epoch + 1) % 2 ^ 32, expiry := 0, shared := shared, map := lent ++ hs, lists := ls,
        damageFrame := u32 b 0x68, damageBlock := u8 b 0x6C }
      let m3 := lent.foldl (fun (a : Module) f => a.addShare f) m2
      some ((m3.updSlot (id / 256) (fun _ => k)).markDirty (id / 256)))

/-- A prefix comes back with its shared frames, each counted once for its list (R58, R355). -/
def Module.restorePrefix (o : CkObj) (m : Module) : Option Module :=
  let b := o.rec_.body
  let i := o.rec_.arg
  let layers := u8 b 6
  (m.restorePages o false true capNone (u8 b 5) (u16 b 8) (u32 b 0x10) layers 0 (u16 b 0x0E)).bind (fun (hs, m1) =>
    match m1.takeLists (listBlocks hs.length) with
    | (none, _) => none
    | (some ls, m2) =>
      if m2.shareFree < hs.length then none
      else
        let n := m2.steps.prefixOrder
        let x : Prefix := ⟨u32 b 0 / 65536, u8 b 4, u8 b 5, layers, u8 b 7, u16 b 8, u16 b 0x0A, u16 b 0x0C, u16 b 0x0E,
          u32 b 0x10, 0, u64 b 0x18, hs, ls, n⟩
        let m3 := hs.foldl (fun (a : Module) f =>
          ({ a with caps := { a.caps with share := a.caps.share.put f ⟨1, false⟩ } }).updFrame f
            (fun q => { q with shared := true })) m2
        some ({ m3 with steps := { m3.steps with prefixes := m3.steps.prefixes.put i x, prefixOrder := n + 1 } }))

/-- A run of an index's sectors comes back into its sector extent (R355). -/
def Module.restoreRun (o : CkObj) (m : Module) : Option Module :=
  let i := bits o.rec_.arg 3 0
  let s := bits o.rec_.arg 8 4
  let b := o.rec_.body
  let first := u32 b 0
  let n := (b.length - 8) / 4096
  let ext := shardExt i s
  let x := BoreIndex.ofHeader (slice b 8 4096)
  let room := if m.ftl.extents.has ext then some m
    else if m.chanFree s < x.sectors then none
    else some (m.makeExtents [(ext, s, x.sectors)])
  room.bind (fun m1 =>
    let r := m1.boreWrite ext ((List.range n).map (fun k => (first + k, slice b (8 + 4096 * k) 4096)))
    if r.2 then some r.1 else none)

/-- Every object of the stream that the restore names is applied in order; none when something finds no room. -/
def Module.applyObjects (objs : List CkObj) (m : Module) : Option Module :=
  objs.foldl (fun (acc : Option Module) o =>
    acc.bind (fun a =>
      if o.rec_.kind == 1 then a.restoreCapsule o
      else if o.rec_.kind == 4 then a.restorePrefix o
      else if o.rec_.kind == 6 then some (a.setAccount o.rec_.arg (Account.ofBytes o.rec_.body))
      else if o.rec_.kind == 8 then a.restoreRun o
      else some a)) (some m)

end Sys2Proof.Machine
end

