-- ==== Sys2Proof/Machine/Ckpt.lean ====
section
/-!
DEFINITION. The commands and events of the checkpoint unit (R342 to R361).
-/

namespace Sys2Proof.Machine

open Sys2Proof

/-! ### Destinations (R345, R358) -/

/-- The extent list of a HOST destination: pairs of BASE and SIZE up to the first SIZE of 0, at most sixteen. -/
def extentList (b : Bytes) : List (Nat × Nat) :=
  ((List.range 16).map (fun i => (u64 b (16 * i), u64 b (16 * i + 8)))).takeWhile (fun e => e.2 != 0)

/-- Extents lie as R97 has them: on 2 MiB boundaries and apart. -/
def extentsOk (es : List (Nat × Nat)) : Bool :=
  es.all (fun e => e.1 % 2 ^ 21 == 0 && e.2 % 2 ^ 21 == 0) &&
  (List.range es.length).all (fun i => (List.range i).all (fun j =>
    let a := nthD es i (0, 0)
    let b := nthD es j (0, 0)
    decide (a.1 + a.2 ≤ b.1) || decide (b.1 + b.2 ≤ a.1)))

/-- Sector extents are given up, unless a LOCAL checkpoint or a destination still lies in them. -/
def Module.dropSectors (es : List Nat) (m : Module) : Module :=
  let used := m.ckpt.local_.flatMap (fun l => l.extents.map (·.1)) ++ m.ckpt.targets.vals.flatMap (fun t =>
    if t.kind == 0 then t.extents.map (·.1) else [])
  let gone := es.filter (fun e => !used.contains e)
  m.dropExtents gone

/-- The sector extents of a LOCAL destination: one on each channel, under the lowest free numbers above the shards'; none when
they cannot be created (R288, R289). -/
def Module.localExtents (m : Module) (size : Nat) : Option (List (Nat × Nat) × Module) :=
  let n := ceilDiv (ceilDiv size 4096) 32
  let taken (e : Nat) : Bool := (m.ftl.extents.get e).isSome
  let ids := ((List.range 511).map (513 + ·)).filter (fun e => !taken e)
  if m.ftl.readOnly || ids.length < 32 || !(List.range 32).all (fun c => decide (n ≤ m.chanFree c)) then none
  else
    let es := (ids.take 32).zipIdx
    some (es.map (fun (e, _) => (e, n)), m.makeExtents (es.map (fun (e, c) => (e, c, n))))

/-- A destination is registered, in place of the one before. -/
def Module.setTarget (i : Nat) (t : CkTarget) (m : Module) : Module :=
  let old := ((m.ckpt.targets.get i).map (fun t => if t.kind == 0 then t.extents.map (·.1) else [])).getD []
  (({ m with ckpt := { m.ckpt with targets := m.ckpt.targets.put i t } }).dropSectors old).ckptShow

/-- CKPT_TARGET_SET (R358). -/
def ckptTargetCmd (c : RunCmd) (m : Module) : Module :=
  let b := c.payload
  let i := u8 b 0
  let kind := u8 b 1
  let ep := u32 b 4
  let addr := u64 b 8
  let size := u64 b 0x10
  let key := u32 b 0x18
  m.checked c [(2, 2), (0x1C, 4)]
    [(decide (i < 8), bad 0), (decide (kind ≤ 2), bad 1), (kind == 2 || ep == 0, bad 4), (kind != 0 || addr == 0, bad 8),
     (size != 0, bad 0x10), (kind == 2 || key == 0, bad 0x18),
     (((m.ckpt.run.map (·.target)).getD 8) != i, stop .busy),
     (kind != 2 || ((m.endpoint ep).map (·.kind)) == some 6, stop .denied)]
    (fun m =>
      if kind == 0 then
        match m.localExtents size with
        | none => m.fail c .noSpace
        | some (es, m1) => (m1.setTarget i ⟨0, 0, 0, size, 0, es, none⟩).ok c []
      else if kind == 1 then
        let go (m : Module) : Module :=
          let es := extentList (m.cmdRead c addr 256)
          if !extentsOk es then m.badField c 8
          else if es.foldl (fun a e => a + e.2) 0 < size then m.badField c 0x10
          else (m.setTarget i ⟨1, 0, addr, size, 0, es, none⟩).ok c []
        if cmdNeedsHost c addr then m.withHost c go else go m
      else (m.setTarget i ⟨2, ep, addr, size, key, [], none⟩).ok c [])

/-! ### Taking a checkpoint -/

/-- The partitions that a mask names are present. -/
def Module.partsOk (m : Module) (mask : Nat) : Bool := (setBitsOf 8 mask).all m.present

/-- CKPT_TAKE (R344, R349, R359). -/
def ckptTakeCmd (c : RunCmd) (m : Module) : Module :=
  let b := c.payload
  let t := m.ckpt.targets.get (u8 b 0)
  let loc := (t.map (·.kind)) == some 0
  let idx := u16 b 4
  m.checked c [(3, 1), (6, 2)]
    [(decide (u8 b 0 < 8) && t.isSome, bad 0), (decide (u8 b 1 ≤ 1), bad 1), (m.partsOk (u8 b 2), bad 2),
     ((!loc || idx == 0) && (setBitsOf 16 idx).all m.bore.indexes.has, bad 4),
     (m.ckpt.run.isNone, stop .busy), (!loc || !m.ftl.readOnly, stop .readOnly)]
    (fun m => (m.await c []).ckptStart (some c.id) (u8 b 0) (u8 b 1) (u8 b 2) idx 0)

/-- CHECKPOINT_CUT: every published step has committed (R342). -/
def checkpointCut (m : Module) : Module :=
  match m.ckpt.run with
  | none => m
  | some r =>
    match m.ckpt.targets.get r.target with
    | none => m
    | some t =>
      if r.stage == 1 && m.steps.parts.vals.all (fun p => p.live.isEmpty) then m.takeCut r t else m

def execCheckpointCut (s : State) : Out := run checkpointCut s

/-- CUT_WAIT_EXPIRY: CUT_WAIT_MS after the start the builds are released and nothing is written (R342). -/
def cutWaitDue (m : Module) : Nat := ((m.ckpt.run.map (·.began)).getD 0) + ms (m.get Reg.CKPT.CTRL_CUT_WAIT_MS)

def cutWaitExpiry (m : Module) : Module :=
  if (m.ckpt.run.map (·.stage)) == some 1 then m.ckptEnds .timeout else m

def execCutWaitExpiry (s : State) : Out :=
  runAt (fun m => if (m.ckpt.run.map (·.stage)) == some 1 then cutWaitDue m else 0) cutWaitExpiry s

/-- The destination answers a write: its sectors have been accepted, the host link carries, or its endpoint is up. -/
def Module.targetAnswers (m : Module) (t : CkTarget) : Bool :=
  if t.kind == 0 then
    m.ftl.chans.vals.all (fun c => c.waiting.all (fun w => !(t.extents.any (fun e => e.1 == w.ext))))
  else if t.kind == 1 then m.hostUp
  else m.endpointUp t.endpoint

/-- PREVIOUS of a manifest: the LOCAL checkpoint that it supersedes (R350). -/
def Module.previousId (m : Module) (t : CkTarget) : Nat :=
  if t.kind == 0 then ((m.ckpt.local_.getLast?).map (·.id)).getD 0 else 0

/-- Bytes of a manifest that are written before its last 4 KiB (R351). -/
def manifestFirst (n : Nat) : Nat := n - Min.min n 4096

/-- The earliest end of the copy: the shards' bytes at RATE_GBPS gigabytes a second from the cut (R345). -/
def copyDue (m : Module) : Nat :=
  match m.ckpt.run with
  | some r => if r.stage == 2 then
      r.lastAnswer + ceilDiv (r.shards.foldl (fun a b => a + b.length) 0) (Max.max (m.get Reg.CKPT.CTRL_RATE_GBPS) 1) else 0
  | none => 0

/-- CHECKPOINT_COPY_COMPLETE: the last shard write has completed, a LOCAL one covered by a flush; the manifest follows, its
signature's 4 KiB held back (R351). A flush that a paused channel puts off has covered nothing yet (R306). -/
def copyComplete (m : Module) : Module :=
  match m.ckpt.run with
  | none => m
  | some r =>
    match m.ckpt.targets.get r.target with
    | none => m
    | some t =>
      if r.stage != 2 || !m.targetAnswers t then m
      else if t.kind == 0 && m.ftl.readOnly then m.ckptEnds .readOnly
      else
        let total := r.shards.foldl (fun a b => a + b.length) 0
        let m1 := if t.kind == 0 then m.flush.flushedCmds
          else if t.kind == 1 then (shardPlaces r.offset r.shards).foldl (fun (a : Module) (o, b) => a.toTarget t o b) m
          else m
        if t.kind == 0 && !m1.ftl.due.isEmpty then m1 else
        let man := m1.manifest r t.kind (m1.previousId t)
        let m2 := r.slotsLeft.foldl (fun (a : Module) s => a.markCopied s) (if t.kind == 0 then m1
          else m1.toTarget t (r.offset + shardSpan r.shards) (man.take (manifestFirst man.length)))
        ((({ m2 with ckpt := { m2.ckpt with run := some { r with stage := 3, slotsLeft := [], lastAnswer := m2.clk.mono } } }).set
          Reg.CKPT.PROGRESS_BYTES total).ckptShow)

def execCheckpointCopyComplete (s : State) : Out := runAt copyDue copyComplete s

/-- MANIFEST_WRITE_COMPLETE: the signed manifest stands; a LOCAL one takes the older manifest slot and its holds replace those
of the one before; the command completes (R346, R351, R352, R359). -/
def manifestComplete (m : Module) : Module :=
  match m.ckpt.run with
  | none => m
  | some r =>
    match m.ckpt.targets.get r.target with
    | none => m
    | some t =>
      if r.stage != 3 || !m.targetAnswers t then m
      else if t.kind == 0 && !m.flush.ftl.due.isEmpty then m.flush
      else
        let man := m.manifest r t.kind (m.previousId t)
        let k := manifestFirst man.length
        let place := r.offset + shardSpan r.shards
        let m1 := if t.kind == 0 then
            let l : CkLocal := ⟨r.id, man, r.held.eraseDups, t.extents⟩
            let all := m.ckpt.local_ ++ [l]
            ({ m with ckpt := { m.ckpt with local_ := all.drop (all.length - 2) } }).flush.flushedCmds
          else m.toTarget t (place + k) (man.drop k)
        let t1 : CkTarget := { t with used := some (r.offset, shardSpan r.shards + roundUp man.length 4096) }
        let m2 := { m1 with ckpt := { m1.ckpt with run := none, targets := m1.ckpt.targets.put r.target t1 } }
        let m3 := (((m2.set Reg.CKPT.LAST_ID_CHECKPOINT_ID r.id).bump Reg.CKPT.TAKEN_COUNT).runDeferred).ckptShow
        match r.cmd.bind (fun id => m3.host.running.find? (fun c => c.id == id)) with
        | some c => m3.ok c (leBytes 8 r.id ++ leBytes 8 (r.shards.foldl (fun a b => a + b.length) 0))
        | none => m3

def execManifestWriteComplete (s : State) : Out := run manifestComplete s

/-- DESTINATION_TIMEOUT: no answer for TARGET_TIMEOUT_MS; the checkpoint is abandoned (R344). -/
def destinationDue (m : Module) : Nat :=
  match m.ckpt.run with
  | some r => if 2 ≤ r.stage then r.lastAnswer + ms (m.get Reg.CKPT.CTRL_TARGET_TIMEOUT_MS) else 0
  | none => 0

def destinationTimeout (m : Module) : Module :=
  if 2 ≤ (m.ckpt.run.map (·.stage)).getD 0 then m.ckptEnds .timeout else m

def execDestinationTimeout (s : State) : Out := runAt destinationDue destinationTimeout s

/-- CKPT_ABORT (R344, R360). -/
def ckptAbortCmd (c : RunCmd) (m : Module) : Module :=
  if m.ckpt.run.isNone then m.complete c .badField [] noDetail else (m.ckptEnds .timeout).ok c []

/-- CKPT_RELEASE: every LOCAL checkpoint goes with its holds (R346, R360). -/
def ckptReleaseCmd (c : RunCmd) (m : Module) : Module :=
  if m.ckpt.run.isSome then m.fail c .busy
  else
    let es := m.ckpt.local_.flatMap (fun l => l.extents.map (·.1))
    let ts := m.ckpt.targets.mapV (fun _ t => if t.kind == 0 then { t with used := none } else t)
    let m1 := { m with ckpt := { m.ckpt with local_ := [], targets := ts } }
    (((m1.dropSectors es).runDeferred).ckptShow).ok c []

/-! ### Failure warnings (R353) -/

/-- FAILURE_WARNING: source src has counted more corrected errors in its window than its threshold. The warning is recorded, and
starts a checkpoint when AUTO is set and none of its kind has started within HOLDOFF_S. -/
def failureWarning (src count : Nat) (m : Module) : Module :=
  if src < 6 && m.flag (Reg.CKPT.WARN_SRC_ENABLE.at 8 src) && decide (m.get (Reg.CKPT.WARN_SRC_THRESHOLD.at 8 src) < count) then
    let m1 := (((m.bump (Reg.CKPT.WARN_COUNT_COUNT.at 8 src)).set Reg.CKPT.STATUS_WARNING 1).setBit
      Reg.CKPT.STATUS_WARN_SOURCES src).event 0x0B01 0xFF 1 src count
    let t := m1.get Reg.CKPT.WARN_CTRL_TARGET
    let held := match m1.ckpt.lastWarn with
      | some x => decide (m1.clk.mono < x + sec (m1.get Reg.CKPT.WARN_CTRL_HOLDOFF_S))
      | none => false
    if m1.flag Reg.CKPT.WARN_CTRL_AUTO && m1.ckpt.run.isNone && !held && (m1.ckpt.targets.get t).isSome then
      ({ m1 with ckpt := { m1.ckpt with lastWarn := some m1.clk.mono } }).ckptStart none t (m1.get Reg.CKPT.WARN_CTRL_SCOPE) 0 0 1
    else m1
  else m

def execFailureWarning (src count : Nat) (s : State) : Out := runIf (src < 8) (failureWarning src count) s

/-! ### Restore (R354, R355, R361) -/

/-- n bytes of a destination at an offset: the newest LOCAL checkpoint's extents, host memory, or what a REMOTE destination
answered. -/
def Module.fromTarget (m : Module) (t : CkTarget) (fetched : Bytes) (off n : Nat) : Bytes :=
  if t.kind == 0 then m.sectorExtents (((m.ckpt.local_.getLast?).map (·.extents)).getD []) off n
  else if t.kind == 1 then m.hostExtents t.extents off n
  else slice fetched off n

/-- The restore report goes to the host, cut to its size (R361). -/
def Module.report (c : RunCmd) (b : Bytes) (m : Module) : Module :=
  let addr := u64 c.payload 0x10
  if m.hostUp || !cmdNeedsHost c addr then m.cmdWrite c addr (b.take (u32 c.payload 0x18)) else m

/-- A restore ends on failing shards, which the report names with their frame references. -/
def Module.restoreFails (c : RunCmd) (st : Status) (shards : List Nat) (refs : List (Nat × CkRec)) (m : Module) : Module :=
  let body := shards.flatMap (fun s =>
    let rs := refs.filter (fun r => r.1 == s)
    leBytes 4 s ++ leBytes 4 rs.length ++ rs.flatMap (fun r => leBytes 4 r.2.capsule ++ leBytes 4 r.2.arg))
  (m.report c body).complete c st (zeros 4 ++ leBytes 4 shards.length) noDetail

/-- What a stream names is free here (check 8). -/
def Module.ckFree (m : Module) (o : CkObj) : Bool :=
  if o.rec_.kind == 1 then (m.slot (o.rec_.capsule / 256)).state == 0
  else if o.rec_.kind == 4 then ((m.steps.prefixes.get o.rec_.arg).map (fun x => x.pages == 0)).getD true
  else if o.rec_.kind == 6 then !(m.account o.rec_.arg).open_
  else if o.rec_.kind == 8 then !m.bore.indexes.has (bits o.rec_.arg 3 0) && !(m.ftl.extents.has (shardExt (bits o.rec_.arg 3 0)
    (bits o.rec_.arg 8 4)))
  else true

/-- What follows the last record: indexes open under R277, and a stream to a partner carries what has come. -/
def Module.afterRestore (objs : List CkObj) (m : Module) : Module :=
  let idx := (objs.filter (fun o => o.rec_.kind == 8)).map (fun o => bits o.rec_.arg 3 0)
  let m1 := idx.eraseDups.foldl (fun (a : Module) i =>
    match (List.range 32).findSome? (fun s => (a.boreSector (shardExt i s) 0).filter (fun b => headerOk b i s)) with
    | some b => { a with bore := { a.bore with indexes := a.bore.indexes.put i (BoreIndex.ofHeader b) } }
    | none => a) m
  let m2 := objs.foldl (fun (a : Module) o =>
    if o.rec_.kind == 6 then a.sendAccount 0 o.rec_.arg
    else if o.rec_.kind == 4 then a.sendPrefix o.rec_.arg capNone
    else if o.rec_.kind == 1 && a.streaming then
      { a with mirror := { a.mirror with queue := a.mirror.queue ++ [o.rec_.capsule / 256] } }
    else a) m1
  m2.boreShow.ckptShow

/-- Checks 5 to 9 of R354 and the apply pass, over shards that have been read. -/
def Module.restoreShards (c : RunCmd) (named : Nat) (head : Bytes) (list : List (Nat × Bytes)) (shards : List Bytes) (m : Module) :
    Module :=
  let torn := (List.zip list shards).zipIdx.filterMap (fun ((e, b), i) =>
    if padTo (Config.sha512 b) 64 == e.2 then none else some i)
  let alien := shards.zipIdx.filterMap (fun (b, i) =>
    if slice b 8 48 == slice head 8 48 && u32 b 0 == 1 then none else some i)
  let objs := (m.ckObjects (u64 head 8) (u8 head 0x45) shards).filter (fun o => bit named o.part)
  let lostRefs := objs.flatMap (fun o => o.refs.filter (fun (_, r) => m.dataSeq (u32 r.body 0) != some (u64 r.body 8)))
  if !torn.isEmpty then m.restoreFails c .damaged torn []
  else if !alien.isEmpty then m.restoreFails c .mismatch alien []
  else if !lostRefs.isEmpty then m.restoreFails c .mismatch (lostRefs.map (·.1)).eraseDups lostRefs
  else if !objs.all m.ckFree then m.fail c .busy
  else
    match m.applyObjects objs with
    | none => m.fail c .noSpace
    | some m1 =>
      if u8 c.payload 1 == 1 then (m.bump Reg.CKPT.RESTORES_COUNT).ok c (zeros 8)
      else
        let caps := (objs.filter (fun o => o.rec_.kind == 1)).length
        let reqs := objs.filter (fun o => o.rec_.kind == 7)
        let m2 := (m1.afterRestore objs).bump Reg.CKPT.RESTORES_COUNT
        let m3 := (m2.set Reg.CKPT.PROGRESS_BYTES (2 * shards.foldl (fun a b => a + b.length) 0))
        let m4 := if reqs.isEmpty then m3 else m3.report c (reqs.flatMap (fun o => slice o.rec_.body 0 64))
        m4.ok c (leBytes 4 caps ++ zeros 4)

/-- The verify pass from check 2 on, over a destination that answers. -/
def Module.restoreFrom (c : RunCmd) (t : CkTarget) (fetched : Bytes) (m : Module) : Module :=
  let at_ := u64 c.payload 8
  let loc := m.ckpt.local_.getLast?
  let rd (off n : Nat) : Bytes := if t.kind == 0 then slice ((loc.map (·.manifest)).getD []) off n
    else m.fromTarget t fetched (at_ + off) n
  let head := rd 0 128
  let n := u32 head 0x3C
  let named := partMask (u8 c.payload 2) &&& u8 head 0x44
  let body := rd 0 (128 + 80 * n + 32)
  let key := slice body (128 + 80 * n) 32
  let sig := rd (128 + 80 * n + 32) 64
  if u32 head 0 != 1 || 1 < u8 head 4 || 2 < u8 head 5 || n == 0 || 1048576 < n then m.badField c (if t.kind == 0 then 0 else 8)
  else if !m.partsOk named then m.badField c 2
  else if !Config.edVerify key body sig || !(m.secur.trusted.contains key) then m.fail c .denied
  else if !(setBitsOf 8 (named &&& u8 head 0x45)).all m.secur.stateKeys.has then m.fail c .denied
  else
    let list := (List.range n).map (fun i => (u64 body (128 + 80 * i + 8), slice body (128 + 80 * i + 16) 64))
    let shards := (List.range n).map (fun i => m.fromTarget t fetched (u64 body (128 + 80 * i + 8)) (u32 body (128 + 80 * i + 4)))
    m.restoreShards c named head list shards

/-- CKPT_RESTORE (R354, R355, R361). fetched is what a REMOTE destination answers from the start of its region, none when it
stops answering. -/
def ckptRestoreCmd (fetched : Option Bytes) (c : RunCmd) (m : Module) : Module :=
  let b := c.payload
  let t := m.ckpt.targets.get (u8 b 0)
  let live (p : Nat) : Bool := m.caps.slots.vals.any (fun k => liveState k.state && k.partition == p)
  m.checked c [(3, 5), (0x1C, 4)]
    [(m.ckpt.run.isNone && (m.mirror.state == 0 || (u8 b 2 != 0 && (setBitsOf 8 (u8 b 2)).all (fun p => !live p))), stop .busy),
     (decide (u8 b 0 < 8) && t.isSome, bad 0), (decide (u8 b 1 ≤ 1), bad 1), (m.partsOk (u8 b 2), bad 2)]
    (fun m =>
      match t with
      | none => m
      | some t =>
        if t.kind == 1 then m.withHost c (fun m => m.restoreFrom c t [])
        else if t.kind == 2 then
          match fetched with
          | none => m.fail c .timeout
          | some x => (m.enqueue (m.queueFor t.endpoint 17) (.read t.endpoint t.addr t.size)).restoreFrom c t x
        else m.restoreFrom c t [])

def execCkptTargetSet (src : Src) (s : State) : Out := run (onCmd 0x0B00 src ckptTargetCmd) s
def execCkptTake (src : Src) (s : State) : Out := run (onCmd 0x0B10 src ckptTakeCmd) s
def execCkptAbort (src : Src) (s : State) : Out := run (onCmd 0x0B11 src ckptAbortCmd) s
def execCkptRelease (src : Src) (s : State) : Out := run (onCmd 0x0B12 src ckptReleaseCmd) s
def execCkptRestore (src : Src) (fetched : Option Bytes) (s : State) : Out :=
  run (onCmd 0x0B20 src (ckptRestoreCmd fetched)) s

end Sys2Proof.Machine
end

