-- ==== Sys2Proof/Machine/EvRec.lean ====
section
/-!
DEFINITION. The event recorder: programming, the window, reading and clearing (R512 to R526), and the check-value units
(R528 to R533).
-/

namespace Sys2Proof.Machine

open Sys2Proof

/-! ### Stored records -/

/-- A record's header and body (R513). -/
def EvRecord.headBody (r : EvRecord) : Bytes :=
  leBytes 2 0x5245 ++ leBytes 2 r.body.length ++ leBytes 2 r.type ++ leBytes 1 r.partition ++ leBytes 1 r.severity ++
  leBytes 8 r.seq ++ leBytes 8 r.time ++ leBytes 4 r.opHours ++ leBytes 4 r.powerCycles ++ r.body

/-- A valid record as stored, header to trailer (R513). -/
def EvRecord.bytes (r : EvRecord) : Bytes :=
  r.headBody ++ leBytes 4 (crc32c r.headBody) ++ zeros 3 ++ leBytes 1 0xA5

/-- Bytes of a sector. -/
def sectorBytes : Nat := 262144

/-- Records of the region whose MARK is VALID. -/
def Module.validRecords (m : Module) : List EvRecord :=
  m.ev.sectors.vals.flatMap (fun s => s.records.filterMap (fun (r, k) => if k == .valid then some r else none))

/-- The least SEQ stored; 0 when no record is stored (R527). -/
def Module.oldestSeq (m : Module) : Nat :=
  (m.ev.sectors.vals.flatMap (fun s => s.records.map (·.1.seq))).foldl (fun a q => if a == 0 || q < a then q else a) 0

/-- FULL and WARN follow the sectors used (R520). -/
def Module.sectorFlags (m : Module) : Module :=
  let used := m.ev.sectors.length
  let warn := decide (m.get Reg.EVREC.USAGE_WARN_PCT * 256 ≤ used * 100)
  (m.set Reg.EVREC.USAGE_SECTORS_USED used).set Reg.EVREC.STATUS_WARN (b2n warn)

/-- The open sector: the newest one that is not closed. -/
def Module.openSector (m : Module) : Option (Nat × NorSector) :=
  m.ev.sectors.foldl (fun best (i, s) =>
    if s.closed then best
    else match best with
      | some (_, b) => if b.sectorSeq < s.sectorSeq then some (i, s) else best
      | none => some (i, s)) none

/-- The record at the head of the queue programmed into the open sector, or into a newly opened one (R513, R517). -/
def Module.program (r : EvRecord) (m : Module) : Module :=
  let put (i : Nat) (s : NorSector) (m : Module) : Module :=
    { m with ev := { m.ev with
      sectors := m.ev.sectors.put i { s with used := s.used + r.size, records := s.records ++ [(r, .valid)] } } }
  let m0 := match m.openSector with
    | some (i, s) =>
      if s.used + r.size ≤ sectorBytes then m
      else { m with ev := { m.ev with sectors := m.ev.sectors.put i { s with closed := true } } }
    | none => m
  match m0.openSector with
  | some (i, s) => put i s m0
  | none =>
    match m0.ev.sectors.lowestFree 0 256 with
    | some i =>
      put i ⟨m0.ev.nextSectorSeq, r.seq, 32, true, false, []⟩
        { m0 with ev := { m0.ev with nextSectorSeq := m0.ev.nextSectorSeq + 1 } }
    | none => m0

/-- The supply ends while NOR erases a sector (R517, R524): a free choice whether it keeps its records or is partly erased. -/
def Module.cutErase (sector : Option Nat) (m : Module) : Module :=
  match sector.bind (fun i => (m.ev.sectors.get i).map (fun s => (i, s))) with
  | none => m
  | some (i, s) =>
    let (k, m1) := m.choose 2
    if k == 0 then m1
    else { m1 with ev := { m1.ev with sectors := m1.ev.sectors.put i { s with headerOk := false, records := [] } } }

/-- The supply ends while NOR programs the record at the head of the queue. A free choice says what it holds (R517): nothing, so
that MAGIC is erased; a header without a LENGTH in range; a record whose MARK is erased or torn; or, where the record opens a
sector, that sector's unfinished header. -/
def Module.cutRecord (m : Module) : Module :=
  match m.ev.queue with
  | [] => m
  | r :: _ =>
    let (k, m1) := m.choose 5
    let m2 := m1.program r
    let mark : Option Mark := nthD [none, some .headless, some .erased, some .torn] k none
    match m2.openSector with
    | none => m1
    | some (i, s) =>
      let put (s : NorSector) : Module := { m2 with ev := { m2.ev with sectors := m2.ev.sectors.put i s } }
      if k == 4 && s.records.length == 1 then put { s with headerOk := false, records := [] }
      else
        match mark with
        | none => m1
        | some x => put { s with records := s.records.dropLast ++ [(r, x)] }

/-- A sector is open with room for n bytes, or one is erased. -/
def Module.roomFor (m : Module) (n : Nat) : Bool :=
  ((m.openSector.map (fun (_, s) => decide (s.used + n ≤ sectorBytes))).getD false) ||
    (m.ev.sectors.lowestFree 0 256).isSome

/-- RECORDS_LOST is queued when room returns (R518). -/
def Module.reportLost (m : Module) : Module :=
  if m.ev.lostCount == 0 || 65536 < queueBytes m.ev.queue + 56 || m.flag Reg.EVREC.STATUS_FULL then m
  else
    let m1 := m.event 0x1301 0xFF 2 m.ev.lostCount m.ev.lostBytes
    { m1 with ev := { m1.ev with lostCount := 0, lostBytes := 0 } }

/-- EVREC_RECORD_WRITE: the record at the head of the queue is programmed; with no room the recorder is full (R520). -/
def recordWrite (m : Module) : Module :=
  match m.ev.queue with
  | [] => m
  | r :: rest =>
    if m.roomFor r.size then
      let m1 := m.program r
      (({ m1 with ev := { m1.ev with queue := rest } }).bump Reg.EVREC.RECORDS_COUNT).sectorFlags.reportLost
    else (m.set Reg.EVREC.STATUS_FULL 1).blockEvent 19

/-- The recorder also writes on hold-up energy (R518). -/
def execEvrecRecordWrite (s : State) : Out :=
  if s.m.power.phase == .holdup then runPower recordWrite s else run recordWrite s

/-- When the running whole second of the time counter ends (R519). -/
def secondDue (m : Module) : Nat := m.dueAt ((m.ev.second + 1) * 1000000000)

/-- RATE_SECOND_END: a SUPPRESSED record for each type that was, and the counts start again (R519). -/
def rateSecondEnd (m : Module) : Module :=
  if m.clk.now / 1000000000 == m.ev.second then m
  else
    let sup := m.ev.suppressed
    let m1 := { m with ev := { m.ev with second := m.clk.now / 1000000000, counts := [], suppressed := [] } }
    sup.foldl (fun (a : Module) (t, n) => a.event 0x1302 0xFF 1 t n) m1

def execRateSecondEnd (s : State) : Out := runAt secondDue rateSecondEnd s

/-! ### The window (R521) -/

/-- FILTER admits a record. -/
def Module.admits (m : Module) (r : EvRecord) : Bool :=
  (if r.partition == 0xFF then m.flag Reg.EVREC.FILTER_MODULE
   else bit (m.get Reg.EVREC.FILTER_PART_MASK) r.partition) &&
  decide (m.get Reg.EVREC.FILTER_MIN_SEVERITY ≤ r.severity % 4) &&
  (m.get Reg.EVREC.FILTER_TYPE_BLOCK == 0xFF || m.get Reg.EVREC.FILTER_TYPE_BLOCK == r.type / 256)

/-- The record with the least SEQ among some. -/
def leastSeq (rs : List EvRecord) : Option EvRecord :=
  rs.foldl (fun best r => match best with
    | some b => if r.seq < b.seq then some r else some b
    | none => some r) none

/-- A load of the window starts from a SEQ. -/
def Module.startLoad (q : Nat) (m : Module) : Module :=
  ({ m with ev := { m.ev with load := .loading q } }).set Reg.EVREC.WINDOW_STATE_READY 0

/-- A register's value after a host write of some bytes at an offset within it. -/
def mergeWrite (old : Word) (off bytes value : Nat) : Nat :=
  setBits old.toNat (8 * (off + bytes) - 1) (8 * off) value

/-- A host write of some bytes at an offset within a register is aligned and of 4 or 8 bytes (R439). -/
def regWriteOk (off bytes : Nat) : Bool := (bytes == 8 && off == 0) || (bytes == 4 && (off == 0 || off == 4))

/-- A host write to BAR0 reaches the module: not with the link down, nor in D3hot (R436). -/
def Module.barUp (m : Module) : Bool := m.host.linkUp && !m.host.d3hot

def cursorWrite (off bytes value : Nat) (m : Module) : Module :=
  if !m.barUp then m
  else if regWriteOk off bytes then
    let v := mergeWrite (m.reg Reg.EVREC.CURSOR_SEQ.off) off bytes value
    (m.set Reg.EVREC.CURSOR_SEQ v).startLoad v
  else m.dropWrite (Reg.EVREC.CURSOR_SEQ.off + off)

def advanceWrite (off bytes value : Nat) (m : Module) : Module :=
  if !m.barUp then m
  else if regWriteOk off bytes && off == 0 then
    if bit value 0 then m.startLoad (m.get Reg.EVREC.WINDOW_SEQ_SEQ + 1) else m
  else m.dropWrite (Reg.EVREC.WINDOW_CTRL_ADVANCE.off + off)

def execCursorWrite (off bytes value : Nat) (s : State) : Out := run (cursorWrite off bytes value) s
def execAdvance (off bytes value : Nat) (s : State) : Out := run (advanceWrite off bytes value) s

/-- WINDOW_LOAD_COMPLETE: the qualifying record with the least SEQ is in WINDOW, or EMPTY is set; GAP tells that records
between the SEQ asked for and the one loaded were cleared (R521). -/
def windowLoad (m : Module) : Module :=
  match m.ev.load with
  | .idle => m
  | .loading q =>
    let pick := leastSeq (m.validRecords.filter (fun r => decide (q ≤ r.seq) && m.admits r))
    let m1 := ({ m with ev := { m.ev with load := .idle, window := pick } }).set Reg.EVREC.WINDOW_STATE_READY 1
    match pick with
    | some r =>
      let gap := decide (Nat.max q 1 < m.oldestSeq) && decide (q < r.seq)
      (((m1.set Reg.EVREC.WINDOW_STATE_EMPTY 0).set Reg.EVREC.WINDOW_STATE_GAP (b2n gap)).set
        Reg.EVREC.WINDOW_STATE_BYTES r.size).set Reg.EVREC.WINDOW_SEQ_SEQ r.seq
    | none =>
      ((m1.set Reg.EVREC.WINDOW_STATE_EMPTY 1).set Reg.EVREC.WINDOW_STATE_GAP 0).set Reg.EVREC.WINDOW_STATE_BYTES 0

def execWindowLoadComplete (s : State) : Out := run windowLoad s

/-! ### Management reads and clears (R522, R523) -/

/-- The response body of EVREC_READ: whole valid records from FROM_SEQ in SEQ order, up to MAX_BYTES. -/
def Module.evRead (m : Module) (fromSeq maxBytes partMask minSev : Nat) : Bytes :=
  let rs := m.validRecords.filter (fun r => decide (fromSeq ≤ r.seq) && decide (minSev ≤ r.severity % 4) &&
    (r.partition == 0xFF || bit partMask r.partition))
  let sorted := sortBy (fun a b => decide (a.seq ≤ b.seq)) rs
  (sorted.foldl (fun (acc : Bytes × Bool) r =>
    if acc.2 && decide (acc.1.length + r.size ≤ maxBytes) then (acc.1 ++ r.bytes, true) else (acc.1, false))
    ([], true)).1

/-- The last SEQ of a sector. -/
def NorSector.lastSeq (s : NorSector) : Nat := s.records.foldl (fun a (r, _) => Nat.max a r.seq) 0

/-- The closed sector with the least SECTOR_SEQ whose last record has a SEQ at or below a bound. -/
def Module.oldestClearable (m : Module) (upTo : Nat) : Option Nat :=
  (m.ev.sectors.foldl (fun best (i, s) =>
    if s.closed && decide (s.lastSeq ≤ upTo) then
      match best with
      | some (_, q) => if s.sectorSeq < q then some (i, s.sectorSeq) else best
      | none => some (i, s.sectorSeq)
    else best) (none : Option (Nat × Nat))).map (·.1)

/-- An erased sector, if there is one, is opened for the records to come, the head of the queue first. -/
def Module.openNew (m : Module) : Module :=
  match m.ev.sectors.lowestFree 0 256 with
  | some i =>
    let first := (m.ev.queue.head?.map (·.seq)).getD m.ev.nextSeq
    ({ m with ev := { m.ev with
      sectors := m.ev.sectors.put i ⟨m.ev.nextSectorSeq, first, 32, true, false, []⟩,
      nextSectorSeq := m.ev.nextSectorSeq + 1 } }).sectorFlags
  | none => m

/-- EVREC_CLEAR (R523): CLEARED is queued, the current sector closes when its records are all to be cleared, and erasing
starts. -/
def Module.evClear (upTo credential : Nat) (m : Module) : Module :=
  let m1 := m.event 0x1303 0xFF 0 upTo credential
  let m2 := match m1.openSector with
    | some (i, s) =>
      if !s.records.isEmpty && decide (s.lastSeq ≤ upTo) then
        ({ m1 with ev := { m1.ev with sectors := m1.ev.sectors.put i { s with closed := true } } }).openNew
      else m1
    | none => m1
  if (m2.oldestClearable upTo).isSome then
    ({ m2 with ev := { m2.ev with clearing := some upTo } }).set Reg.EVREC.STATUS_CLEARING 1
  else m2

/-- The erase that runs, and the record that is being programmed, are cut off. -/
def Module.cutNor (m : Module) : Module := (m.cutErase (m.ev.clearing.bind m.oldestClearable)).cutRecord

/-- SECTOR_ERASE_COMPLETE: the oldest qualifying sector is erased, and is opened when none is; with the last one the clear ends. -/
def sectorErase (m : Module) : Module :=
  match m.ev.clearing with
  | none => m
  | some upTo =>
    let m0 := match m.oldestClearable upTo with
      | some i => { m with ev := { m.ev with
          sectors := m.ev.sectors.del i, erases := m.ev.erases.put i (m.ev.erases.getD i 0 + 1) } }
      | none => m
    let m1 := if m0.openSector.isNone then m0.openNew else m0
    let m2 := (m1.set Reg.EVREC.STATUS_FULL 0).sectorFlags
    if (m2.oldestClearable upTo).isSome then m2
    else (({ m2 with ev := { m2.ev with clearing := none } }).set Reg.EVREC.STATUS_CLEARING 0).reportLost

def execSectorEraseComplete (s : State) : Out := run sectorErase s

/-- The scan at each start (R517): sectors with a bad header are erased again, torn records are discarded, and one
TORN_FOUND record tells of them. -/
def Module.evScan (m : Module) : Module :=
  let badSectors := (m.ev.sectors.filter (fun (_, s) => !s.headerOk)).length
  let isTorn (k : Mark) : Bool := k == .torn || k == .erased || k == .headless
  let torn := (m.ev.sectors.vals.flatMap (fun s => if s.headerOk then s.records.filter (fun (_, k) => isTorn k) else [])).length
  let sectors := (m.ev.sectors.keep (fun _ s => s.headerOk)).mapV (fun _ s =>
    { s with records := s.records.map (fun (r, k) => if k == .erased || k == .torn then (r, .discarded) else (r, k)),
             closed := s.closed || s.records.any (fun (_, k) => k == .headless) })
  let erases := (m.ev.sectors.filter (fun (_, s) => !s.headerOk)).foldl (fun a (i, _) => a.put i (a.getD i 0 + 1)) m.ev.erases
  let m1 := ({ m with ev := { m.ev with sectors := sectors, erases := erases, queue := [], lostCount := 0, lostBytes := 0,
                                        counts := [], suppressed := [], window := none, load := .idle,
                                        clearing := none } }).sectorFlags
  if torn == 0 && badSectors == 0 then m1
  else ((m1.bumpBy Reg.EVREC.TORN_COUNT torn).set Reg.EVREC.STATUS_TORN 1).event 0x1305 0xFF 1 torn badSectors

/-- When the running hour of input power ends. -/
def hourDue (m : Module) : Nat := m.ev.lastHour + sec 3600

/-- OP_HOUR_TICK: the operating hours advance (R512). -/
def hourTick (m : Module) : Module :=
  { m with ev := { m.ev with opHours := (m.ev.opHours + 1) % 2 ^ 32, lastHour := m.clk.mono } }

/-! ### EVREC_NOTE (R525, R526) -/

def noteCmd (c : RunCmd) (m : Module) : Module :=
  let b := c.payload
  let n := u16 b 0
  m.checked c [(3, 5)]
    [(decide (8 ≤ n) && decide (n ≤ 1024) && n % 8 == 0, bad 0), (decide (u8 b 2 ≤ 3), bad 2),
     (decide (8 + n ≤ b.length), bad 0), ((firstNonZero b (8 + n) (b.length - (8 + n))).isNone, bad (8 + n))]
    (fun m =>
      let note := slice b 8 n
      match m.offerFate 0x1304 (40 + n) with
      | .queued => (m.offer 0x1304 0xFF (u8 b 2) note |>.blockEvent 19).ok c (leBytes 8 m.ev.nextSeq)
      | .suppressed => (m.offer 0x1304 0xFF (u8 b 2) note).complete c .busy (zeros 8) noDetail
      | .dropped => (m.offer 0x1304 0xFF (u8 b 2) note).fail c .noSpace)

def execEvrecNote (src : Src) (s : State) : Out := run (onCmd 0x1300 src noteCmd) s

/-! ### Check-value units (R528 to R533) -/

/-- The parameters of a check value. -/
structure CheckCfg where
  width : Nat
  poly : Nat
  init : Nat
  xorout : Nat
  refin : Bool
  refout : Bool
  deriving DecidableEq, Repr

/-- The presets of R529. -/
def checkPreset : Nat → Option CheckCfg
  | 1 => some ⟨32, 0x1EDC6F41, 0xFFFFFFFF, 0xFFFFFFFF, true, true⟩
  | 2 => some ⟨32, 0x04C11DB7, 0xFFFFFFFF, 0xFFFFFFFF, true, true⟩
  | 3 => some ⟨32, 0x04C11DB7, 0xFFFFFFFF, 0xFFFFFFFF, false, false⟩
  | 4 => some ⟨64, 0x42F0E1EBA9EA3693, 2 ^ 64 - 1, 2 ^ 64 - 1, true, true⟩
  | 5 => some ⟨64, 0x42F0E1EBA9EA3693, 0, 0, false, false⟩
  | 6 => some ⟨16, 0x1021, 0xFFFF, 0, false, false⟩
  | 7 => some ⟨16, 0x1021, 0, 0, true, true⟩
  | 8 => some ⟨8, 0x07, 0, 0, false, false⟩
  | _ => none

/-- The register after one byte (R528). -/
def checkByte (k : CheckCfg) (r : Nat) (b : Byte) : Nat :=
  let x := if k.refin then reflect 8 b.toNat else b.toNat
  (List.range 8).foldl (fun r i =>
    let top := bit r (k.width - 1) != bit x (7 - i)
    let s := (r * 2) % 2 ^ k.width
    if top then s ^^^ k.poly else s) r

/-- The register after bytes in address order. -/
def checkScan (k : CheckCfg) (start : Nat) (b : Bytes) : Nat := b.foldl (checkByte k) start

/-- The value that a register gives at the end of a scan. -/
def checkValue (k : CheckCfg) (r : Nat) : Nat := (if k.refout then reflect k.width r else r) ^^^ k.xorout

/-- Bytes of the check field (R529). -/
def CheckCfg.fieldBytes (k : CheckCfg) : Nat := ceilDiv k.width 8

/-- The check field of a value (R529). -/
def checkField (k : CheckCfg) (v : Nat) : Bytes :=
  if k.refout then leBytes k.fieldBytes v else (leBytes k.fieldBytes v).reverse

/-- Unit u's parameters as its registers hold them. -/
def Module.checkCfg (m : Module) (u : Nat) : CheckCfg :=
  ⟨m.get (Reg.CHECK.CFG_WIDTH.at 64 u), m.get (Reg.CHECK.POLY_POLY.at 64 u), m.get (Reg.CHECK.INIT_INIT.at 64 u),
   m.get (Reg.CHECK.XOROUT_XOROUT.at 64 u), m.flag (Reg.CHECK.CFG_REFIN.at 64 u),
   m.flag (Reg.CHECK.CFG_REFOUT.at 64 u)⟩

/-- Unit u takes parameters; SAVED takes INIT (R530). -/
def Module.setCheckCfg (u preset : Nat) (k : CheckCfg) (m : Module) : Module :=
  (((((((m.set (Reg.CHECK.CFG_WIDTH.at 64 u) k.width).set (Reg.CHECK.CFG_REFIN.at 64 u) (b2n k.refin)).set
    (Reg.CHECK.CFG_REFOUT.at 64 u) (b2n k.refout)).set (Reg.CHECK.CFG_PRESET.at 64 u) preset).set
    (Reg.CHECK.POLY_POLY.at 64 u) k.poly).set (Reg.CHECK.INIT_INIT.at 64 u) k.init).set
    (Reg.CHECK.XOROUT_XOROUT.at 64 u) k.xorout).set (Reg.CHECK.SAVED_REG.at 64 u) k.init

/-- CHECK_CONFIG (R532). -/
def checkConfigCmd (c : RunCmd) (m : Module) : Module :=
  let b := c.payload
  let u := u8 b 0
  let preset := u8 b 1
  let w := u8 b 2
  let custom := preset == 0
  m.checked c [(4, 4)]
    [(decide (u ≤ 15), bad 0), (decide (preset ≤ 8), bad 1),
     (if custom then decide (1 ≤ w) && decide (w ≤ 64) else w == 0, bad 2),
     (if custom then decide (u8 b 3 ≤ 3) else u8 b 3 == 0, bad 3),
     (if custom then u64 b 8 % 2 == 1 && decide (u64 b 8 < 2 ^ w) else u64 b 8 == 0, bad 8),
     (if custom then decide (u64 b 0x10 < 2 ^ w) else u64 b 0x10 == 0, bad 0x10),
     (if custom then decide (u64 b 0x18 < 2 ^ w) else u64 b 0x18 == 0, bad 0x18), (!bit m.test.units u, stop .busy)]
    (fun m =>
      let k := (checkPreset preset).getD ⟨w, u64 b 8, u64 b 0x10, u64 b 0x18, bit (u8 b 3) 0, bit (u8 b 3) 1⟩
      (m.setCheckCfg u preset k).ok c [])

/-- Bytes of undefined content (R530): a free value each. -/
def undefinedBytes (n len : Nat) : Bytes := (List.range len).map (Config.undefinedByte n)

/-- The scan itself, once its checks have passed (R530). -/
def checkScanRun (c : RunCmd) (m : Module) : Module :=
  let b := c.payload
  let u := u8 b 0
  let op := u8 b 1
  let k := m.checkCfg u
  let len := u64 b 0x18
  let n := k.fieldBytes
  let src := u64 b 8
  let dst := u64 b 0x10
  let body := if op == 2 then len - n else len
  let bytes := (m.mem (u8 b 4)).rdN src body
  let start := if bit (u8 b 2) 0 then m.get (Reg.CHECK.SAVED_REG.at 64 u) else k.init
  let r := checkScan k start bytes
  let v := if bit (u8 b 2) 1 then r else checkValue k r
  let m1 := ((m.set (Reg.CHECK.SAVED_REG.at 64 u) r).bump Reg.CHECK.SCANS_COUNT).bumpBy Reg.CHECK.BYTES_COUNT len
  let resp := leBytes 8 v ++ leBytes 8 (if op == 2 then len - n else if op == 1 then len + n else len)
  if op == 0 then m1.ok c resp
  else if op == 1 then
    (if dst == 0 then m1.wrMem (u8 b 4) (src + len) (checkField k v)
     else m1.wrMem (u8 b 5) dst (bytes ++ checkField k v)).ok c resp
  else
    let found := (m.mem (u8 b 4)).rdN (src + body) n
    if found == checkField k v then (if dst == 0 then m1 else m1.wrMem (u8 b 5) dst bytes).ok c resp
    else
      let m2 := if dst == 0 then m1
        else { (m1.wrMem (u8 b 5) dst (undefinedBytes m1.free body)) with free := m1.free + 1 }
      (((m2.bump Reg.CHECK.MISMATCHES_COUNT).set Reg.CHECK.STATUS_MISMATCH 1).blockEvent 20).complete c .damaged resp
        noDetail

/-- The tier code of the firewall (0 HBM, 1 LPDDR, 2 host) for a tier code of R533. -/
def fwTier (t : Nat) : Nat := if t == 0 then 2 else t - 1

/-- CHECK_SCAN (R533). -/
def checkScanCmd (c : RunCmd) (m : Module) : Module :=
  let b := c.payload
  let u := u8 b 0
  let op := u8 b 1
  let k := m.checkCfg u
  let len := u64 b 0x18
  let n := k.fieldBytes
  let p := u8 b 3
  let dst := u64 b 0x10
  let srcLen := if op == 1 && dst == 0 then len + n else len
  let dstLen := if op == 0 || dst == 0 then 0 else if op == 1 then len + n else len - n
  let needsHost := u8 b 4 == 0 || (dstLen != 0 && u8 b 5 == 0)
  m.checked c [(6, 2)]
    [(decide (u ≤ 15), bad 0), (decide (op ≤ 2), bad 1),
     (decide (u8 b 2 ≤ 3) && (op == 0 || !(bit (u8 b 2) 1)), bad 2),
     (m.partOk p, bad 3), (decide (u8 b 4 ≤ 2), bad 4), (decide (u8 b 5 ≤ 2), bad 5),
     (decide (1 ≤ len) && decide (len ≤ 2 ^ 32) && (op != 2 || decide (n < len)), bad 0x18),
     (!m.mute p, stopMute),
     (m.engineMay p (fwTier (u8 b 4)) (u64 b 8) srcLen, stopFw),
     (m.engineMay p (fwTier (u8 b 5)) dst dstLen, stopFw), (!bit m.test.units u, stop .busy)]
    (fun m => if needsHost then m.withHost c (checkScanRun c) else checkScanRun c m)

def execCheckConfig (src : Src) (s : State) : Out := run (onCmd 0x1400 src checkConfigCmd) s
def execCheckScan (src : Src) (s : State) : Out := run (onCmd 0x1410 src checkScanCmd) s

end Sys2Proof.Machine
end

