-- ==== Sys2Proof/Machine/Mirror.lean ====
section
/-!
DEFINITION. Mirroring: the commands (R334 to R339), the records that arrive (R315, R316), heartbeats and silences (R326, R327,
R470), lapsed leases (R324, R325), and the partner link's lanes (R312).
-/

namespace Sys2Proof.Machine

open Sys2Proof

/-! ### Commands -/

/-- MIRROR_PAIR (R334). -/
def mirrorPairCmd (c : RunCmd) (m : Module) : Module :=
  let st := m.mirror.state
  let mode := u8 c.payload 0
  m.checked c [(1, 7)]
    [(decide (mode ≤ 1), bad 0), (st != 2 && st != 3 && st != 4 && (mode == 0 || st == 0), stop .busy),
     (m.mirror.pairCmd.isNone, stop .busy)]
    (fun m =>
      if mode == 1 then m.enterLost.ok c []
      else
        let m1 := ({ m with mirror := { m.mirror with expect := u64 c.payload 8, pairCmd := some c.id } }).await c []
        m1.sendHello false)

/-- MIRROR_STATUS (R335). -/
def mirrorStatusCmd (c : RunCmd) (m : Module) : Module :=
  m.ok c (leBytes 1 m.mirror.state ++ leBytes 1 m.mirror.linkId ++ leBytes 1 m.mirror.lanes ++ zeros 1 ++
    leBytes 4 m.mirror.epoch ++ leBytes 8 m.mirror.partnerSerial ++ leBytes 4 m.mirror.txNext ++ leBytes 4 m.mirror.txAcked ++
    leBytes 4 m.mirror.rxApplied ++ leBytes 4 (m.mirror.queue.length + m.mirror.syncing.length) ++
    (List.range 8).flatMap (fun p => leBytes 4 (m.get (Reg.MIRROR.MARK_ACKED_STEP.at 8 p))))

/-- The lease of an IDLE or PARKED capsule goes to the partner (R323). -/
def Module.handOver (id : Nat) (cmd : Option Nat) (m : Module) : Module :=
  let c := m.slot (id / 256)
  let m1 := m.updCap id (fun k => { k with
    owner := 1 - m.mirror.linkId, epoch := (k.epoch + 1) % 2 ^ 32, expiry := m.newExpiry, settled := false })
  let k := m1.slot (id / 256)
  let seq := m1.mirror.txNext
  let m2 := m1.send 0x0D c.partition 0 0 id k.epoch 0 (k.bytes (id / 256))
  { m2 with mirror := { m2.mirror with leaseOps := m2.mirror.leaseOps ++ [⟨id, seq, cmd, false⟩] } }

/-- MIRROR_HANDOVER (R336). -/
def mirrorHandoverCmd (c : RunCmd) (m : Module) : Module :=
  let id := u32 c.payload 0
  let k := m.slot (id / 256)
  m.checked c [(4, 4)]
    (capChecks m id 0 ++ [(m.owns k, stop .denied), ((k.state == 1 || k.state == 4) && m.mirror.state == 3, stop .busy)])
    (fun m => m.heldOr c id (fun m => (m.handOver id (some c.id)).await c []))

/-- MIRROR_CLAIM (R337). -/
def mirrorClaimCmd (c : RunCmd) (m : Module) : Module :=
  let id := u32 c.payload 0
  m.checked c [(4, 4)] (capChecks m id 0 ++ [(m.lost, stop .denied)]) (fun m =>
    if m.owns (m.slot (id / 256)) then m.ok c [] else (m.claim id 0).ok c [])

/-- MIRROR_TAKEOVER (R337). -/
def mirrorTakeoverCmd (c : RunCmd) (m : Module) : Module :=
  m.checked c [] [(m.lost, stop .denied)] (fun m => m.takeover.ok c [])

/-- A drain goes on (R338): with no request left, every owned capsule is handed over, and the module then fences. -/
def Module.drainOn (m : Module) : Module :=
  if !m.mirror.draining || !m.steps.reqs.isEmpty then m
  else
    let mine := (m.caps.slots.filter (fun (_, c) => liveState c.state && m.owns c)).map (fun (s, c) => (Capsule.id s c, c.state))
    if mine.isEmpty then (if m.mirror.leaseOps.isEmpty then (m.send 0x15 0xFF 0 0 capNone 0 0 []).enterFenced else m)
    else if m.mirror.state == 3 && m.leaseLive then
      mine.foldl (fun (a : Module) x => if x.2 == 1 || x.2 == 4 then a.handOver x.1 none else a) m
    else m

/-- MIRROR_FENCE (R338). -/
def mirrorFenceCmd (c : RunCmd) (m : Module) : Module :=
  let mode := u8 c.payload 0
  let st := m.mirror.state
  m.checked c [(1, 7)]
    [(decide (mode ≤ 1), bad 0), (st != 0 && st != 6, stop .busy), (!(mode == 0 && m.mirror.draining), stop .busy)]
    (fun m =>
      if mode == 1 then ((m.send 0x15 0xFF 0 0 capNone 1 0 []).enterFenced).ok c []
      else
        let m1 := ({ m with mirror := { m.mirror with draining := true, fenceCmd := some c.id } }).await c []
        m1.drainOn)

/-- MIRROR_RESYNC (R339). -/
def mirrorResyncCmd (c : RunCmd) (m : Module) : Module :=
  let mode := u8 c.payload 0
  m.checked c [(1, 7)] [(decide (mode ≤ 1), bad 0), (m.mirror.state == 3, stop .busy)] (fun m =>
    let refused := m.mirror.queue
    let m1 := refused.foldl (fun (a : Module) s => a.markDirty s) m
    (m1.startResync (mode == 1) false).ok c [])

def execMirrorPair (src : Src) (s : State) : Out := run (onCmd 0x0A00 src mirrorPairCmd) s
def execMirrorStatus (src : Src) (s : State) : Out := run (onCmd 0x0A01 src mirrorStatusCmd) s
def execMirrorHandover (src : Src) (s : State) : Out := run (onCmd 0x0A10 src mirrorHandoverCmd) s
def execMirrorClaim (src : Src) (s : State) : Out := run (onCmd 0x0A11 src mirrorClaimCmd) s
def execMirrorTakeover (src : Src) (s : State) : Out := run (onCmd 0x0A12 src mirrorTakeoverCmd) s
def execMirrorFence (src : Src) (s : State) : Out := run (onCmd 0x0A20 src mirrorFenceCmd) s
def execMirrorResync (src : Src) (s : State) : Out := run (onCmd 0x0A21 src mirrorResyncCmd) s

/-! ### Sequenced records -/

/-- COPY_SHARED: the copy of this module does as R60 says. A block that fails its check there is damage of the copy, which
keeps it so (R62). -/
def takeCopyShared (r : MirrorRec) (m0 : Module) : Module :=
  let c := m0.slot (r.capsule / 256)
  let m := if r.arg0 + 1 != c.shared then m0 else
    match m0.copyBad r.capsule with
    | some (h, b) => m0.damage r.capsule h b
    | none => m0
  if r.arg0 + 1 != c.shared then m
  else
    match m.copyShared r.capsule (fun _ => 8) with
    | some m1 => m1
    | none => m.refuseRec r m.noRoom

/-- TRUNCATE: R71 on the copy. -/
def takeTruncate (r : MirrorRec) (m : Module) : Module :=
  m.truncateTo r.capsule (Min.min r.arg0 (m.slot (r.capsule / 256)).tokens)

/-- A LEASE_QUERY with this module's copy leaves. -/
def Module.sendQuery (id flags : Nat) (m : Module) : Module :=
  m.send 0x0E 0xFF flags 0 id 0 0 ((m.slot (id / 256)).bytes (id / 256))

/-- CLAIM: applied when its epoch is later than the copy's, or equal with the same owner; otherwise the copy is sent back
(R323). -/
def takeClaim (r : MirrorRec) (m : Module) : Module :=
  let id := r.capsule
  let c := m.slot (id / 256)
  if serialUnordered r.arg0 c.epoch then (m.serialStale 0x0A r.arg0).sendQuery id 0
  else if serialLater r.arg0 c.epoch || (r.arg0 == c.epoch && r.arg1 % 2 == c.owner) then
    let m1 := m.updCap id (fun k => { k with owner := r.arg1 % 2, epoch := r.arg0, settled := true, mirrorSeq := r.seq })
    if m.owns c && !m1.owns (m1.slot (id / 256)) then (m1.forgetReq id).placeMirror id else m1
  else m.sendQuery id 0

/-- HANDOVER: applied when its epoch is later than the copy's (R323). -/
def takeHandover (r : MirrorRec) (m : Module) : Module :=
  let id := r.capsule
  let c := m.slot (id / 256)
  if serialUnordered r.arg0 c.epoch then (m.serialStale 0x0A r.arg0).sendQuery id 0
  else if serialLater r.arg0 c.epoch && r.body.length == 256 then
    m.updCap id (fun k => { Capsule.ofBytes r.body k with
      pages := k.pages, shared := k.shared, settled := true, mirrorSeq := r.seq, headerBad := false })
  else m.sendQuery id 0

/-- A settled conflict that this module won is copied to the partner at once. -/
def Module.copyWon (m : Module) : Module :=
  if m.mirror.state == 3 && !m.mirror.queue.isEmpty then
    ({ m with mirror := { m.mirror with state := 2, source := true } }).resyncNext
  else m.resyncNext

/-- LEASE_QUERY: answered with this module's copy unless it is a reply; with both copies known the lease is settled (R324). -/
def takeQuery (r : MirrorRec) (m : Module) : Module :=
  let m1 := if bit r.flags 0 then { m with mirror := { m.mirror with asked := m.mirror.asked.filter (· != r.capsule) } }
    else m.sendQuery r.capsule 1
  (m1.settle r.capsule r.body).copyWon

/-- SLOT_REQUEST: the lowest free slot of this module's half is reserved and granted (R44). -/
def takeSlotRequest (r : MirrorRec) (m : Module) : Module :=
  match m.freeSlotOf m.mirror.linkId with
  | some s => ({ m with caps := { m.caps with grants := m.caps.grants ++ [s] } }).send 0x10 0xFF 0 0 capNone r.arg0 s []
  | none => m.send 0x10 0xFF 0 0 capNone r.arg0 0xFFFFFFFF []

/-- SLOT_GRANT: the creation that asked goes on (R44). -/
def takeGrant (r : MirrorRec) (m : Module) : Module :=
  match m.caps.wanted.get r.arg0 with
  | none => m
  | some id =>
    let m1 := { m with caps := { m.caps with wanted := m.caps.wanted.del r.arg0 } }
    match m1.host.running.find? (fun c => c.id == id) with
    | none => m1
    | some c => if r.arg1 == 0xFFFFFFFF then m1.fail c .noSpace else m1.createIn r.arg1 c

/-- FENCE_NOTE: the partner serves nothing any more (R327). -/
def takeFenceNote (m : Module) : Module := m.enterLost

/-- REFUSE of a CLAIM or HANDOVER (R323), or of another record (R318). -/
def takeRefuse (r : MirrorRec) (m : Module) : Module :=
  let id := r.capsule
  let slot := id / 256
  let enqueue (m : Module) : Module :=
    if m.mirror.queue.contains slot || (m.capsule id).isNone then m
    else { (m.markDirty slot) with mirror := { (m.markDirty slot).mirror with queue := m.mirror.queue ++ [slot] } }
  match m.mirror.leaseOps.find? (fun o => o.seq == r.arg0) with
  | some o =>
    let m1 := { m with mirror := { m.mirror with leaseOps := m.mirror.leaseOps.filter (fun x => x.seq != r.arg0) } }
    if o.claim then enqueue m1
    else
      let m2 := m1.updCap id (fun k => { k with owner := m.mirror.linkId })
      let m3 := match o.cmd.bind (fun n => m2.host.running.find? (fun c => c.id == n)) with
        | some c => m2.fail c .stale
        | none => m2
      enqueue m3
  | none =>
    if id == capNone then m.set Reg.MIRROR.STATUS_MIRROR_REFUSED 1
    else
      let m1 := match m.requestOf id with
        | some (i, _) => m.endError i r.arg1
        | none => m
      enqueue (m1.set Reg.MIRROR.STATUS_MIRROR_REFUSED 1)

/-- A kind that names a capsule which the receiver must hold (R315). -/
def namesCapsule (r : MirrorRec) : Bool :=
  r.capsule != capNone && [0x01, 0x02, 0x04, 0x05, 0x06, 0x08, 0x0C, 0x0D, 0x0E, 0x14, 0x18].contains r.kind

/-- While both modules are sources of the resync, a record of the partner's copy meets a capsule that this module holds as its
own (R332). -/
def Module.contested (m : Module) (r : MirrorRec) : Bool :=
  m.mirror.state == 2 && m.mirror.source && [0x01, 0x02, 0x03, 0x04, 0x05, 0x06, 0x14, 0x18].contains r.kind &&
  (m.capsule r.capsule).any (fun c => m.owns c && m.mirror.dirty.contains (r.capsule / 256))

/-- The effect of a sequenced record, once its SEQ is the next (R315). Records with a STEP are held for its mark (R320). A
header of a capsule that both modules changed settles it under R324, and what follows counts only for the one that lost. -/
def Module.applyRec (r : MirrorRec) (m0 : Module) : Module :=
  let m := if m0.contested r && r.kind == 0x03 && r.body.length == 256 then m0.settle r.capsule r.body else m0
  if m.contested r then m
  else if namesCapsule r && (m.capsule r.capsule).isNone && !(r.kind == 0x05 && r.body.length == 64 && u8 r.body 4 == 0) then m.refuseStale r
  else if r.step != 0 && [0x03, 0x05, 0x06, 0x07, 0x09, 0x18].contains r.kind then
    (if r.kind == 0x03 && (m.slot (r.capsule / 256)).state != 0 && (m.slot (r.capsule / 256)).state != 6 && (m.capsule r.capsule).isNone
      then m.refuseStale r else { m with mirror := { m.mirror with pend := m.mirror.pend ++ [r] } })
  else
    match r.kind with
    | 0x01 => m.rxSlots r
    | 0x02 => takeCopyShared r m
    | 0x03 => m.takeHeader r
    | 0x04 => takeTruncate r m
    | 0x05 => m.takeEntryRec r
    | 0x06 => m.takeText r
    | 0x07 => m.takeAccount r
    | 0x08 => m.takePrefix r
    | 0x09 => { m with mirror := { m.mirror with pend := m.mirror.pend ++ [r] } }
    | 0x0A => m.takeMark r
    | 0x0B => m.takeNote r
    | 0x0C => takeClaim r m
    | 0x0D => takeHandover r m
    | 0x0E => takeQuery r m
    | 0x0F => takeSlotRequest r m
    | 0x10 => takeGrant r m
    | 0x14 => m.takeTile r
    | 0x15 => takeFenceNote m
    | 0x16 => takeRefuse r m
    | 0x18 => m.takeInput r
    | _ => m.event 0x0A02 0xFF 1 r.kind r.seq

/-- MIRROR_SEQ of the capsule that a record named (R316). -/
def Module.noteSeq (r : MirrorRec) (m : Module) : Module :=
  if r.capsule == capNone then m else m.updCap r.capsule (fun c => { c with mirrorSeq := r.seq })

/-- A sequenced record arrives (R316): applied when its SEQ is the next; a repeat is discarded; a skip asks for a replay. -/
def Module.inOrder (r : MirrorRec) (m : Module) : Module :=
  let next := (m.mirror.rxApplied + 1) % 2 ^ 32
  if r.seq == next then
    let m1 := { m with mirror := { m.mirror with rxApplied := r.seq, rxGap := false, ackDue := true } }
    ((m1.applyRec r).noteSeq r).bump Reg.MIRROR.RECORDS_RX_COUNT
  else if serialUnordered r.seq next then m.serialStale 0x0A r.seq
  else if serialLater r.seq next && !m.mirror.rxGap then
    ({ m with mirror := { m.mirror with rxGap := true } }).sendReplay
  else m

/-- A record whose CHECK fails is discarded with those behind it, and a replay is asked for (R316, R333). -/
def Module.checkFails (m : Module) : Module :=
  let m1 := m.bump Reg.MIRROR.RECORD_CHECK_FAILS_COUNT
  if m1.mirror.rxGap then m1 else ({ m1 with mirror := { m1.mirror with rxGap := true } }).sendReplay

/-- A record of a kind arrives: nothing can arrive on a link without lanes. act is what its kind does. -/
def recordIn (kind : Nat → Bool) (act : MirrorRec → Module → Module) (r : MirrorRec) (m : Module) : Module :=
  if m.mirror.lanes == 0 || !kind r.kind then m
  else
    let m1 := { m with mirror := { m.mirror with lastRecord := m.clk.mono } }
    let x := m.plain r
    if x.check != recCrc x || 131072 < x.body.length then m1.checkFails else act x m1

/-- The pair takes sequenced records: RESYNC or PAIRED (R327). -/
def inSequence (r : MirrorRec) (m : Module) : Module :=
  if m.mirror.state == 2 || m.mirror.state == 3 then m.inOrder r else m

/-- A row of a sequenced kind. -/
def seqRow (kind : Nat) (r : MirrorRec) (s : State) : Out := run (recordIn (· == kind) inSequence r) s

def execRecSlots (r : MirrorRec) (s : State) : Out := seqRow 0x01 r s
def execRecCopyShared (r : MirrorRec) (s : State) : Out := seqRow 0x02 r s
def execRecHeader (r : MirrorRec) (s : State) : Out := seqRow 0x03 r s
def execRecTruncate (r : MirrorRec) (s : State) : Out := seqRow 0x04 r s
def execRecEntry (r : MirrorRec) (s : State) : Out := seqRow 0x05 r s
def execRecText (r : MirrorRec) (s : State) : Out := seqRow 0x06 r s
def execRecAccount (r : MirrorRec) (s : State) : Out := seqRow 0x07 r s
def execRecPrefix (r : MirrorRec) (s : State) : Out := seqRow 0x08 r s
def execRecOutput (r : MirrorRec) (s : State) : Out := seqRow 0x09 r s
def execRecStepMark (r : MirrorRec) (s : State) : Out := seqRow 0x0A r s
def execRecCommitNote (r : MirrorRec) (s : State) : Out := seqRow 0x0B r s
def execRecClaim (r : MirrorRec) (s : State) : Out := seqRow 0x0C r s
def execRecHandover (r : MirrorRec) (s : State) : Out := seqRow 0x0D r s
def execRecLeaseQuery (r : MirrorRec) (s : State) : Out := seqRow 0x0E r s
def execRecSlotRequest (r : MirrorRec) (s : State) : Out := seqRow 0x0F r s
def execRecSlotGrant (r : MirrorRec) (s : State) : Out := seqRow 0x10 r s
def execRecResyncTile (r : MirrorRec) (s : State) : Out := seqRow 0x14 r s
def execRecFenceNote (r : MirrorRec) (s : State) : Out := seqRow 0x15 r s
def execRecRefuse (r : MirrorRec) (s : State) : Out := seqRow 0x16 r s
def execRecInput (r : MirrorRec) (s : State) : Out := seqRow 0x18 r s

/-- A record of a reserved kind is discarded, and an event recorded (R315). -/
def execRecReservedKind (r : MirrorRec) (s : State) : Out :=
  run (recordIn (fun k => k == 0 || decide (0x19 ≤ k)) inSequence r) s

/-- MIRROR_RECORD_CHECK_FAIL: a record of any kind whose CHECK fails (R316). -/
def execMirrorRecordCheckFail (r : MirrorRec) (s : State) : Out :=
  run (fun m => recordIn (fun _ => (m.plain r).check != recCrc (m.plain r)) (fun _ m => m) r m) s

/-! ### Heartbeats, acknowledgements, replays -/

/-- The link is back before the partner was judged (R327): the state before LINK_DOWN, and a replay from the last record
applied; slot requests made meanwhile go out (R333). -/
def Module.linkBack (m : Module) : Module :=
  (({ m with mirror := { m.mirror with state := m.mirror.before, rxGap := false } }).sendReplay).askAgain

/-- HEARTBEAT: the partner lives, and the next ACK echoes it (R316, R326). In LINK_DOWN the same pair epoch brings the stream
back; a target of a resync follows its source into PAIRED (R327). -/
def takeBeat (r : MirrorRec) (m : Module) : Module :=
  let m1 := { m with mirror := { m.mirror with lastBeat := m.clk.mono, lastBeatArg := r.arg1, ackDue := true } }
  if m1.mirror.state == 4 then (if bits r.arg0 31 8 == m1.mirror.epoch % 2 ^ 24 then m1.linkBack else m1)
  else if m1.mirror.state == 2 && !m1.mirror.source && bits r.arg0 2 0 == 3 then (m1.pairedAs 3).lateMarks
  else m1

def execRecHeartbeat (r : MirrorRec) (s : State) : Out := run (recordIn (· == 0x11) takeBeat r) s

/-- Lease changes whose record is acknowledged are settled, and hand-overs complete (R322, R336). -/
def Module.ackLeases (acked : Nat) (m : Module) : Module :=
  let done := m.mirror.leaseOps.filter (fun o => serialGE acked o.seq)
  let slots := m.caps.slots.mapV (fun _ c => if !c.settled && serialGE acked c.mirrorSeq then { c with settled := true } else c)
  let m1 := { m with
    mirror := { m.mirror with leaseOps := m.mirror.leaseOps.filter (fun o => !serialGE acked o.seq) },
    caps := { m.caps with slots := slots } }
  done.foldl (fun (a : Module) o =>
    let a1 := a.updCap o.capsule (fun k => { k with settled := true })
    if o.claim then a1
    else
      let a2 := (a1.placeMirror o.capsule).bump Reg.MIRROR.HANDOVERS_COUNT
      match o.cmd.bind (fun n => a2.host.running.find? (fun c => c.id == n)) with
      | some c => a2.ok c []
      | none => a2) m1

/-- A capsule whose last record of the resync is acknowledged is synced (R332). -/
def Module.ackSync (acked : Nat) (m : Module) : Module :=
  match m.mirror.syncing with
  | (s, q) :: rest =>
    if serialGE acked q then
      (({ m with mirror := { m.mirror with syncing := rest, dirty := m.mirror.dirty.filter (· != s) } }).set Reg.MIRROR.RESYNC_DONE
        ((m.get Reg.MIRROR.RESYNC_DONE + 1) % 2 ^ 32)).resyncNext
    else m
  | [] => m

/-- Frames of front ends that a lapsed lease held go on. -/
def Module.releaseSess (m : Module) : Module :=
  (m.bell.sessions.keys).foldl (fun (a : Module) k => a.drainSess k 66 false) m

/-- ACK (R316): the records that it covers are acknowledged, and the heartbeat that it echoes. -/
def takeAck (r : MirrorRec) (m : Module) : Module :=
  let a := r.arg0
  let last := (m.mirror.txNext + 2 ^ 32 - 1) % 2 ^ 32
  let beat := (m.mirror.beats.filter (fun b => b.1 == r.arg1)).foldl (fun x b => Max.max x b.2) 0
  let m1 := if r.arg1 != 0 && m.mirror.beats.any (fun b => b.1 == r.arg1) then
      { m with mirror := { m.mirror with beatAcked := some (Max.max beat (m.mirror.beatAcked.getD 0)) } } else m
  let m2 :=
    if serialUnordered a m1.mirror.txAcked then m1.serialStale 0x0A a
    else if serialGE last a && serialLater a m1.mirror.txAcked then
      let covered := m1.mirror.sent.filter (fun x => serialGE a x.seq)
      let m2 := { m1 with mirror := { m1.mirror with txAcked := a, sent := m1.mirror.sent.filter (fun x => !serialGE a x.seq) } }
      let m3 := (covered.filter (fun x => x.kind == 0x0A)).foldl (fun (b : Module) x =>
        b.set (Reg.MIRROR.MARK_ACKED_STEP.at 8 x.partition) x.step) m2
      ((m3.ackLeases a).ackSync a).allTruncates.checkParks
    else m1
  m2.releaseSess.drainOn

def execRecAck (r : MirrorRec) (s : State) : Out :=
  run (recordIn (· == 0x12) (fun r m => if m.mirror.state == 2 || m.mirror.state == 3 then takeAck r m else m) r) s

/-- A record as it is sent again: REPLAYED, with the current contents where its kind carries them (R316). A record of a step
that has been built keeps the values that the step's commit gives. -/
def Module.again (m : Module) (r : MirrorRec) : MirrorRec :=
  let body :=
    if r.kind == 0x03 && r.step == 0 && (m.capsule r.capsule).isSome then (m.slot (r.capsule / 256)).bytes (r.capsule / 256)
    else if r.kind == 0x07 && r.step == 0 then m.accountBody 0 r.arg0
    else if r.kind == 0x08 then ((m.steps.prefixes.get r.arg0).map (fun x => prefixBytes m r.arg0 x)).getD r.body
    else if (r.kind == 0x05 || r.kind == 0x06) && r.step == m.nextStep r.partition then
      match m.request r.arg0 r.capsule with
      | some q => if r.kind == 0x05 then reqBytes m q else textBytes r.capsule q.text
      | none => r.body
    else r.body
  recSealed { r with flags := r.flags ||| 2, body := body }

/-- REPLAY: the records from a SEQ on are sent again (R316); one that does not compare with the next SEQ is ignored (R24). -/
def takeReplay (r : MirrorRec) (m : Module) : Module :=
  if serialUnordered r.arg0 m.mirror.txNext then m.serialStale 0x0A r.arg0
  else (m.mirror.sent.filter (fun x => serialGE x.seq r.arg0)).foldl (fun (a : Module) x => a.transmit (a.again x)) m

def execRecReplay (r : MirrorRec) (s : State) : Out := run (recordIn (· == 0x13) takeReplay r) s

/-- HELLO (R327, R332): a partner in UNPAIRED that meets this module in LINK_DOWN has been reset, and this module is LOST and
pairs as its source. -/
def takeHello (keys : List Nat) (r : MirrorRec) (m : Module) : Module :=
  let st := m.mirror.state
  if r.body.length != 64 then m
  else if st == 0 || st == 5 || st == 6 then m.hello r keys
  else if st == 4 && u8 r.body 9 == 0 then m.enterLost.hello r keys
  else m

def execRecHello (r : MirrorRec) (keys : List Nat) (s : State) : Out := run (recordIn (· == 0x17) (takeHello keys) r) s

/-- LINK_HEARTBEAT_TICK: a HEARTBEAT and an ACK leave (R315, R316, R326). -/
def linkBeat (m : Module) : Module :=
  let arg := m.clk.now % 2 ^ 32
  let m1 := m.sendRaw 0x11 0 (m.mirror.state + m.mirror.epoch % 2 ^ 24 * 2 ^ 8) arg []
  let beats := m1.mirror.beats ++ [(arg, m.clk.mono)]
  let m2 := { m1 with mirror := { m1.mirror with lastTick := m.clk.mono, beats := beats.drop (beats.length - 16) } }
  m2.sendAck.drainOn

def execLinkHeartbeatTick (s : State) : Out :=
  runAt (fun m => m.mirror.lastTick + us (m.get Reg.MIRROR.HB_LINK_HB_US)) linkBeat s

/-- ACK_SEND_TICK: an ACK leaves for records that have arrived (R316). -/
def ackTick (m : Module) : Module := if m.mirror.ackDue then m.sendAck else m

def execAckSendTick (s : State) : Out := run ackTick s

/-- NET_HEARTBEAT_TICK: a HEARTBEAT frame to the partner's MODULE_HEARTBEAT endpoint on queue 16 (R467, R470). -/
def netBeat (m : Module) : Module :=
  let m1 := { m with mirror := { m.mirror with lastNetTick := m.clk.mono } }
  match m1.ownEndpoint 5 0xFF m1.mirror.partnerSerial with
  | none => m1
  | some e =>
    let own := ((m1.ownEndpoint 5 0xFF ownSerial).map (·.endpoint)).getD 0
    m1.sessPut e.endpoint own 16 8 capNone (leBytes 1 m1.mirror.state ++ leBytes 1 m1.mirror.linkId ++ zeros 2 ++
      leBytes 4 m1.mirror.epoch ++ leBytes 8 ownSerial ++ leBytes 8 m1.clk.now)

def execNetHeartbeatTick (s : State) : Out :=
  runAt (fun m => m.mirror.lastNetTick + ms (m.get Reg.MIRROR.HB_NET_HB_MS)) netBeat s

/-- A network heartbeat of the partner (R326, R327): with the link down, module 1 fences, and module 0 is LOST once the partner
shows FENCED. -/
def takeNetBeat (f : SessFrame) (m : Module) : Module :=
  match m.ingress 8 f with
  | (m1, false) => m1
  | (m1, true) =>
    let from_ := m1.endpoint f.src
    if f.body.length < 24 || (from_.map (fun e => e.kind == 5 && e.serial == m1.mirror.partnerSerial)) != some true then m1
    else
      let m2 := { m1 with mirror := { m1.mirror with lastNet := m1.clk.mono, netPartnerState := u8 f.body 0 } }
      if m2.mirror.state != 4 then m2
      else if m2.mirror.linkId == 1 then m2.enterFenced
      else if u8 f.body 0 == 6 then m2.enterLost
      else m2

def execNetHeartbeat (f : SessFrame) (s : State) : Out := run (takeNetBeat (trimFrame f)) s

/-! ### Silences -/

/-- LINK_SILENT: no record for LINK_SILENT_MS (R326, R327). -/
def linkSilent (m : Module) : Module :=
  if (m.mirror.state == 2 || m.mirror.state == 3) &&
     decide (m.mirror.lastRecord + ms (m.get Reg.MIRROR.HB_LINK_SILENT_MS) ≤ m.clk.mono) then
    ({ m with mirror := { m.mirror with before := m.mirror.state, state := 4 } }).bump Reg.MIRROR.LINK_DOWNS_COUNT
  else m

def execLinkSilent (s : State) : Out :=
  runAt (fun m => if m.mirror.state == 2 || m.mirror.state == 3 then
    m.mirror.lastRecord + ms (m.get Reg.MIRROR.HB_LINK_SILENT_MS) else 0) linkSilent s

/-- NET_SILENT: the network is silent too, so the partner is dead (R326, R327). -/
def netSilent (m : Module) : Module :=
  if m.mirror.state == 4 && decide (m.mirror.lastNet + ms (m.get Reg.MIRROR.HB_NET_SILENT_MS) ≤ m.clk.mono) then
    (if m.etherDown then m.enterFenced else m.enterLost)
  else m

def execNetSilent (s : State) : Out :=
  runAt (fun m => if m.mirror.state == 4 then m.mirror.lastNet + ms (m.get Reg.MIRROR.HB_NET_SILENT_MS) else 0) netSilent s

/-! ### Leases -/

/-- When the lease on a capsule lapses. -/
def leaseDue (id : Nat) (m : Module) : Nat :=
  let c := m.slot (id / 256)
  let l := ms (m.get Reg.MIRROR.LEASE_LEASE_MS)
  if m.lapsed c then 0
  else if m.owns c then (if m.lost then 0 else (m.mirror.beatAcked.getD 0) + l)
  else Max.max (if c.settled then m.mirror.lastBeat + l else 0) (m.dueAt c.expiry)

/-- LEASE_LAPSE: a lease is live no more, and the partner's copy is asked for (R324). -/
def leaseLapse (id : Nat) (m : Module) : Module :=
  match m.capsule id with
  | none => m
  | some c =>
    if !m.lapsed c || m.lost || !m.streaming || m.mirror.asked.contains id then m
    else
      let m1 := m.sendQuery id 0
      { m1 with mirror := { m1.mirror with asked := m1.mirror.asked ++ [id] } }

def execLeaseLapse (capsule : Nat) (s : State) : Out := runAt (leaseDue capsule) (leaseLapse capsule) s

/-- HELD_WRITE_TIMEOUT of held command id, or of a held session frame: it proceeds if this module owns the capsule, and is
answered DENIED otherwise (R325). -/
def heldTimeout (id : Nat) (m : Module) : Module :=
  match m.mirror.held.find? (fun h => h.cmd == id) with
  | none => m
  | some h =>
    if m.mirror.state == 4 || decide (m.clk.mono < h.since + 2 * ms (m.get Reg.MIRROR.LEASE_LEASE_MS)) then m
    else
      let m1 := { m with mirror := { m.mirror with held := m.mirror.held.filter (fun x => x.cmd != id) } }
      if 2 ^ 64 ≤ id then m1.drainSess (id - 2 ^ 64) 66 true
      else
        match m1.host.running.find? (fun c => c.id == id) with
        | none => m1
        | some c =>
          if ((m1.capsule h.capsule).map m1.owns).getD false then m1.updCmd id (fun x => { x with tries := 1 })
          else m1.fail c .denied

def execHeldWriteTimeout (held : Nat) (s : State) : Out :=
  runAt (fun m => if m.mirror.state == 4 then 0 else
    ((m.mirror.held.find? (fun h => h.cmd == held)).map (fun h => h.since + 2 * ms (m.get Reg.MIRROR.LEASE_LEASE_MS))).getD 0)
    (heldTimeout held) s

/-! ### Lanes (R312) -/

/-- LANE_FAILURE: a lane loses lock, and the link retrains. -/
def laneFails (lane : Nat) (m : Module) : Module :=
  { m with mirror := { m.mirror with lanesLost := m.mirror.lanesLost ||| 2 ^ lane, lanes := 0 } }

def execLaneFailure (lane : Nat) (s : State) : Out := runIf (lane < 16) (laneFails lane) s

/-- PARTNER_LINK_RETRAINED: the training found the lanes of a mask lost. The link runs on all lanes, or on the half without a
lost lane, or is down; records are replayed from the last one applied, and a module outside a pairing sends HELLO. -/
def linkTrained (lost : Nat) (m : Module) : Module :=
  let n := if lost % 2 ^ 16 == 0 then 16 else if lost % 256 == 0 || lost / 256 % 256 == 0 then 8 else 0
  let m1 := ({ m with mirror := { m.mirror with lanesLost := lost % 2 ^ 16, lanes := n } }).set Reg.MIRROR.STATUS_LANE_DEGRADED (b2n (n == 8))
  let st := m1.mirror.state
  if n == 0 then m1
  else if st == 2 || st == 3 then m1.sendReplay
  else if st == 5 || st == 6 || (st == 0 && m1.mirror.pairCmd.isSome) then m1.sendHello false
  else m1

def execPartnerLinkRetrained (lost : Nat) (s : State) : Out := run (linkTrained lost) s

/-! ### Time bounds of commands -/

/-- The time bound of a command that waits, if its rule gives it one (R73, R285, R309, R310, R334, R336, R338). -/
def Module.bound (m : Module) (c : RunCmd) : Option Nat :=
  match c.opcode with
  | 0x0230 => some (sec 60)
  | 0x0830 => some (sec 600)
  | 0x0901 => some (ms 100)
  | 0x0910 => some (sec 600)
  | 0x0A00 => some (sec 10)
  | 0x0A10 => some (2 * ms (m.get Reg.MIRROR.LEASE_LEASE_MS))
  | 0x0A20 => if u8 c.payload 0 == 0 then some (sec 60) else none
  | _ => none

/-- A waiting command is answered with TIMEOUT while its work goes on (R447). -/
def Module.answerTimeout (c : RunCmd) (m : Module) : Module :=
  let m1 := m.updCmd c.id (fun x => { x with answered := true })
  match c.src with
  | .mbox b => m1.respond b c .timeout [] noDetail
  | .eiss n => m1.finishIssued n .timeout []

/-- COMMAND_TIME_BOUND_EXPIRY of the command of a source. -/
def timeBound (src : Src) (m : Module) : Module :=
  match m.cmdOf src with
  | none => m
  | some c =>
    match m.bound c with
    | some b => if c.stage == .waiting && decide (c.start + b ≤ m.clk.mono) then m.answerTimeout c else m
    | none => m

def execCommandTimeBoundExpiry (src : Src) (s : State) : Out :=
  runAt (fun m => match m.cmdOf src with
    | some c => if c.stage == .waiting then ((m.bound c).map (c.start + ·)).getD 0 else 0
    | none => 0) (timeBound src) s

end Sys2Proof.Machine
end

