-- ==== Sys2Proof/Machine/Sec.lean ====
section
/-!
DEFINITION. The security block: reports (R495, R496), imports (R501, R510), firmware updates (R493, R494) and the management
port (R505 to R507).
-/

namespace Sys2Proof.Machine

open Sys2Proof

/-! ### What the registers show (R511) -/

/-- Some partition is in Mute mode: the debug port is locked (R503). -/
def Module.debugLocked (m : Module) : Bool := (List.range 8).any m.mute

/-- Partitions in Mute mode as a mask. -/
def Module.muteMask (m : Module) : Nat := (List.range 8).foldl (fun a p => a + (if m.mute p then 2 ^ p else 0)) 0

/-- The staged image that STAGED_VERSION shows: Dyone's, or Crook's. -/
def SecSt.stagedVersion (s : SecSt) : Nat :=
  match s.crook.staged with
  | some x => x.version
  | none => (s.dyone.staged.map (·.version)).getD 0

/-- The block's read-only registers. -/
def Module.secShow (m : Module) : Module :=
  let s := m.secur
  let m1 := (((((m.set Reg.SEC.STATUS_UPDATE s.update).set Reg.SEC.STATUS_MUTE m.muteMask).set Reg.SEC.STATUS_DEBUG_LOCKED
    (b2n m.debugLocked)).set Reg.SEC.STATUS_TRANSITION (b2n (s.update == 2))).set Reg.SEC.STATUS_NO_CREDENTIAL
    (b2n s.creds.isEmpty)).set Reg.SEC.DYONE_VERSION_RUNNING s.dyone.running.version
  let m2 := ((((m1.set Reg.SEC.CROOK_VERSION_RUNNING s.crook.running.version).set Reg.SEC.STAGED_VERSION_VERSION
    s.stagedVersion).set Reg.SEC.ROLLBACK_DYONE_MIN s.dyone.rollback).set Reg.SEC.ROLLBACK_CROOK_MIN s.crook.rollback).set
    Reg.SEC.RANGES_COUNT m.firewall.length
  (List.range 256).foldl (fun (a : Module) i =>
    match m.firewall[i]? with
    | some r => ((((a.set (Reg.SEC.RANGE_BASE_BASE.at 24 i) r.base).set (Reg.SEC.RANGE_SIZE_SIZE.at 24 i) r.size).set
        (Reg.SEC.RANGE_ATTR_PARTITION.at 24 i) r.partition).set (Reg.SEC.RANGE_ATTR_TIER.at 24 i) r.tier).set
        (Reg.SEC.RANGE_ATTR_ACCESS.at 24 i) r.access
    | none => a) m2

/-! ### Reports (R495) -/

/-- An entry of a report. -/
def Measure.entry (flags : Nat) (x : Measure) : Bytes :=
  leBytes 1 x.kind ++ leBytes 1 flags ++ zeros 2 ++ leBytes 4 x.id ++ leBytes 4 x.version ++ zeros 4 ++ padTo x.digest 64

/-- Entries by KIND, then ID, then version. -/
def entryLe (a b : Measure) : Bool :=
  decide (a.kind < b.kind) || (a.kind == b.kind && (decide (a.id < b.id) || (a.id == b.id && decide (a.version ≤ b.version))))

/-- The staged images' entries. -/
def SecSt.stagedEntries (s : SecSt) : List Measure :=
  (match s.dyone.staged with
    | some x => [⟨1, 0, x.version, 0xFF, x.digest⟩]
    | none => []) ++
  (match s.crook.staged with
    | some x => [⟨2, 0, x.version, 0xFF, x.digest⟩]
    | none => [])

/-- The entries of a report on a partition, each with its FLAGS: the running DYONE, CROOK and CONFIG, the staged images, and
the partition's, with tokenizers and grammars in every partition's (R492). -/
def Module.reportEntries (m : Module) (p : Nat) : List (Nat × Measure) :=
  let s := m.secur
  let run := sortBy entryLe (s.log.filter (fun x => decide (x.kind ≤ 3)))
  let own := s.log.filter (fun x => decide (4 ≤ x.kind) && p != 0xFF && (x.partition == p || x.kind == 6 || x.kind == 7))
  run.map (fun x => (0, x)) ++ s.stagedEntries.map (fun x => (1, x)) ++ (sortBy entryLe own).map (fun x => (0, x))

/-- A signed report; state 1 is TRANSITIONAL. -/
def Module.attReport (m : Module) (p : Nat) (nonce : Bytes) (state : Nat) : Bytes :=
  let es := m.reportEntries p
  let flags := b2n (m.mute p) + 2 * b2n (!m.secur.stagedEntries.isEmpty) + 4 * b2n m.debugLocked
  let key := if p < 8 then ((m.secur.stateKeys.get p).map keyId).getD 0 else 0
  let b := leBytes 4 1 ++ leBytes 1 state ++ leBytes 1 p ++ leBytes 2 flags ++ leBytes 8 ownSerial ++ leBytes 4 0x9208 ++
    leBytes 4 Config.stepping.toNat ++ leBytes 8 m.clk.now ++ padTo nonce 64 ++ leBytes 4 m.mirror.epoch ++
    leBytes 1 m.mirror.linkId ++ zeros 3 ++ leBytes 4 es.length ++ leBytes 4 key ++ zeros 16 ++
    es.flatMap (fun (f, x) => x.entry f) ++ padTo Config.identityKey 32
  b ++ padTo (Config.edSign b) 64

/-- A report is counted as signed (R511). -/
def Module.signed (state : Nat) (m : Module) : Module :=
  let m1 := m.bump Reg.SEC.ATTESTATIONS_COUNT
  if state == 1 then m1.bump Reg.SEC.TRANSITIONAL_REPORTS_COUNT else m1

/-- SEC_ATTEST's report is written and the command completes (R508). -/
def Module.attestTo (c : RunCmd) (state : Nat) (m : Module) : Module :=
  let p := u8 c.payload 0
  let r := m.attReport p (slice c.payload 8 64) state
  let body := leBytes 4 r.length ++ leBytes 4 (m.reportEntries p).length ++ leBytes 1 state
  if u32 c.payload 0x50 < r.length then m.complete c .noSpace body noDetail
  else ((m.signed state).cmdWrite c (u64 c.payload 0x48) r).complete c (if state == 1 then .transitional else .ok) body noDetail

/-- SEC_ATTEST (R496, R508): held while a Crook restart runs. -/
def secAttestCmd (c : RunCmd) (m : Module) : Module :=
  let b := c.payload
  let p := u8 b 0
  let addr := u64 b 0x48
  m.checked c [(1, 7), (0x54, 4)] [(p == 0xFF || m.partOk p, bad 0), (addr % 8 == 0, bad 0x48)] (fun m =>
    let go (m : Module) : Module :=
      if m.secur.update == 2 then
        let m1 := m.await c []
        { m1 with secur := { m1.secur with held := m1.secur.held ++ [⟨p, slice b 8 64, m1.clk.mono, 0, some c.id⟩] } }
      else m.attestTo c 0
    if cmdNeedsHost c addr then m.withHost c go else go m)

/-- SEC_IDENTITY (R509). -/
def secIdentityCmd (c : RunCmd) (m : Module) : Module :=
  m.ok c (padTo Config.identityKey 32 ++ padTo Config.sealingKey 32 ++ padTo Config.certificate 64 ++
    (List.range 8).flatMap (fun p => leBytes 4 (((m.secur.stateKeys.get p).map keyId).getD 0)))

/-! ### Imports (R501, R510) -/

/-- The partition holds nothing that its state key has enciphered (R500). -/
def Module.holdsNothing (m : Module) (p : Nat) : Bool :=
  !(m.caps.slots.vals.any (fun c => liveState c.state && c.partition == p)) &&
  !(m.steps.prefixes.vals.any (fun x => x.pages != 0 && x.partition == p)) &&
  !(m.steps.accounts.vals.any (fun x => x.open_ && x.partition == p)) &&
  !(m.bore.indexes.vals.any (fun x => x.partition == p))

/-- An import that is refused or damaged is counted. -/
def Module.importFails (c : RunCmd) (v : Verdict) (m : Module) : Module :=
  (if v.status == .badField then m else m.bump Reg.SEC.IMPORT_FAILS_COUNT).verdict c v

/-- An import is measured and completes. -/
def Module.imported (c : RunCmd) (plain body : Bytes) (m : Module) : Module :=
  ((m.measure 0x0A (u32 c.payload 4) 0 (u8 c.payload 0) plain).bump Reg.SEC.IMPORTS_COUNT).ok c body

/-- The bytes of an envelope over n plain bytes. -/
def sealedLen (n : Nat) : Nat := 0x60 + n + 16 * ceilDiv n 65536

/-- The content of an import has been read: a plain one is copied, a sealed one opened. -/
def Module.importRead (c : RunCmd) (x : Bytes) (m : Module) : Module :=
  let b := c.payload
  let p := u8 b 0
  let dest := u64 b 0x18
  let fits (n : Nat) : Bool := decide (dest + n ≤ hbmSize)
  if u8 b 1 == 0 then ({ m with hbm := m.hbm.wrN dest x }).imported c x (padTo (Config.sha512 x) 64)
  else
    let n := u64 x 0x48
    let type := u8 x 4
    if u32 x 0 != 1 || !(type == 1 || type == 2) || !allZero x 5 3 || !allZero x 0x50 16 || x.length != sealedLen n then
      m.importFails c (bad 8)
    else if (type == 2 && (n != 64 || dest != 0)) || (type == 1 && !fits n) then m.importFails c (bad 0x18)
    else if slice x 0x28 32 != padTo Config.sealingKey 32 then m.importFails c (stop .denied)
    else if type == 1 && !m.engineMay p 0 dest n then m.importFails c stopFw
    else if type == 2 && !m.holdsNothing p then m.importFails c (stop .busy)
    else
      match Config.openSealed x with
      | none => (if type == 1 then { m with hbm := m.hbm.zeroN dest n } else m).importFails c (stop .damaged)
      | some y =>
        let plain := slice y 0 n
        if type == 1 then ({ m with hbm := m.hbm.wrN dest plain }).imported c plain (padTo (Config.sha512 plain) 64)
        else ({ m with secur := { m.secur with stateKeys := m.secur.stateKeys.put p plain } }).imported c plain
          (leBytes 4 (keyId plain))

/-- SEC_IMPORT (R510). -/
def secImportCmd (c : RunCmd) (m : Module) : Module :=
  let b := c.payload
  let p := u8 b 0
  let plainIn := u8 b 1 == 0
  let src := u64 b 8
  let n := u64 b 0x10
  let dest := u64 b 0x18
  match reservedOk b [(2, 2)] with
  | some v => m.verdict c v
  | none =>
    match firstFail [(m.partOk p, bad 0), (decide (u8 b 1 ≤ 1), bad 1), (n != 0, bad 0x10), (dest % 4096 == 0, bad 0x18),
      (!plainIn || decide (dest + n ≤ hbmSize), bad 0x18), (!plainIn || !m.mute p, stopMute),
      (m.cmdMay c p src n false && (!plainIn || m.engineMay p 0 dest n), stopFw)] with
    | some v => m.importFails c v
    | none =>
      let go (m : Module) : Module := m.importRead c (m.cmdRead c src n)
      if cmdNeedsHost c src then m.withHost c go else go m

def execSecAttest (src : Src) (s : State) : Out := run (onCmd 0x1200 src secAttestCmd) s
def execSecIdentity (src : Src) (s : State) : Out := run (onCmd 0x1201 src secIdentityCmd) s
def execSecImport (src : Src) (s : State) : Out := run (onCmd 0x1210 src secImportCmd) s

/-! ### The management port (R505, R506) -/

/-- Header and body of a request, what its signature covers. -/
def mgmtBytes (g : MgmtMsg) : Bytes :=
  leBytes 2 0x4D4B ++ leBytes 2 g.op ++ leBytes 1 g.credential ++ zeros 3 ++ leBytes 8 g.counter ++ leBytes 4 g.body.length ++
  zeros 12 ++ g.body

/-- A response leaves, signed with the identity key. -/
def Module.mgmtAnswer (op counter : Nat) (st : Status) (body : Bytes) (m : Module) : Module :=
  m.emit (.mgmt op counter st.code body
    (padTo (Config.edSign (leBytes 2 op ++ leBytes 8 counter ++ leBytes 2 st.code ++ leBytes 4 body.length ++ body)) 64))

/-- A request is rejected: counted, recorded, and after more than 16 within a second the port ignores every connection. -/
def Module.mgmtReject (g : MgmtMsg) (reason : Nat) (m : Module) : Module :=
  let m1 := (m.bump Reg.SEC.MGMT_REJECTS_COUNT).event 0x1201 0xFF 1 g.credential reason
  let rs := m.secur.rejects.filter (fun t => decide (m.clk.mono < t + sec 1)) ++ [m.clk.mono]
  if 16 < rs.length then { m1 with secur := { m1.secur with rejects := [], lockout := some m.clk.mono, connected := false } }
  else { m1 with secur := { m1.secur with rejects := rs } }

/-- What a request's operation does: the module after it, and the response when one is sent at once. -/
abbrev MgmtAct := MgmtMsg → Module → Module × Option (Status × Bytes)

/-- A request on the management port (R506): checked, and its operation done. first serves a module without a credential. -/
def mgmtIn (op : Nat) (first : Bool) (act : MgmtAct) (g : MgmtMsg) (m : Module) : Module :=
  if g.op != op || m.secur.lockout.isSome then m
  else
    let m0 := { m with secur := { m.secur with connected := true } }
    let serve (m : Module) : Module :=
      match act g m with
      | (m1, some (st, body)) => m1.mgmtAnswer op g.counter st body
      | (m1, none) => m1
    if 1048576 < g.body.length then m0.mgmtReject g 2
    else if m0.secur.creds.isEmpty then
      if first && slice g.body 32 12 == padTo Config.claimCode 12 then serve m0 else m0.mgmtReject g 0
    else
      match m0.secur.creds.get g.credential with
      | none => m0.mgmtReject g 0
      | some k =>
        if !Config.edVerify k.key (mgmtBytes g) g.signature then m0.mgmtReject g 0
        else if g.counter ≤ k.counter then m0.event 0x1201 0xFF 1 g.credential 1
        else serve { m0 with secur := { m0.secur with creds := m0.secur.creds.put g.credential { k with counter := g.counter } } }

/-- A status alone. -/
def only (st : Status) : Option (Status × Bytes) := some (st, [])

/-- ENROL_CREDENTIAL: the public key, under the lowest free index. -/
def enrolCredential : MgmtAct := fun g m =>
  match m.secur.creds.lowestFree 0 8 with
  | none => (m, only .noSpace)
  | some i =>
    if g.body.length < 32 then (m, only .badField)
    else (({ m with secur := { m.secur with
      creds := m.secur.creds.put i ⟨slice g.body 0 32, if m.secur.creds.isEmpty then g.counter else 0⟩ } }).secShow,
      some (.ok, leBytes 1 i))

/-- REVOKE_CREDENTIAL: the last cannot be removed. -/
def revokeCredential : MgmtAct := fun g m =>
  let i := u8 g.body 0
  if g.body.length != 1 || !m.secur.creds.has i then (m, only .badField)
  else if m.secur.creds.length == 1 then (m, only .busy)
  else (({ m with secur := { m.secur with creds := m.secur.creds.del i } }).secShow, only .ok)

/-- ENROL_KEY: the fabric key is set, or a trusted key added. -/
def enrolKey : MgmtAct := fun g m =>
  let key := slice g.body 8 32
  if g.body.length != 40 || 1 < u8 g.body 0 || !allZero g.body 1 7 then (m, only .badField)
  else if u8 g.body 0 == 0 then ({ m with secur := { m.secur with fabricKey := some key } }, only .ok)
  else if m.secur.trusted.contains key then (m, only .ok)
  else if 32 ≤ m.secur.trusted.length then (m, only .noSpace)
  else ({ m with secur := { m.secur with trusted := m.secur.trusted ++ [key] } }, only .ok)

/-- REMOVE_KEY. -/
def removeKey : MgmtAct := fun g m =>
  let key := slice g.body 8 32
  if g.body.length != 40 || 1 < u8 g.body 0 || !allZero g.body 1 7 then (m, only .badField)
  else if u8 g.body 0 == 0 then
    if m.secur.fabricKey == some key then ({ m with secur := { m.secur with fabricKey := none } }, only .ok) else (m, only .badField)
  else if m.secur.trusted.contains key then
    ({ m with secur := { m.secur with trusted := m.secur.trusted.filter (· != key) } }, only .ok)
  else (m, only .badField)

/-- A partition record of 64 bytes (R402). -/
def PartCfg.ofBytes (b : Bytes) : PartCfg :=
  ⟨u64 b 0, u16 b 8, u16 b 0x0A, u8 b 0x0C, u32 b 0x10, u32 b 0x14, u32 b 0x18, if u16 b 0x1C == 0 then 4096 else u16 b 0x1C⟩

/-- Its fields are in range and its reserved bytes zero. -/
def partRecordOk (b : Bytes) : Bool :=
  decide (u16 b 8 ≤ 1023) && decide (u16 b 0x0A ≤ 1024) && decide (u8 b 0x0C < 8) && allZero b 0x0D 3 &&
  decide (u32 b 0x10 ≤ 2359296) && decide (u32 b 0x14 ≤ 262144) && decide (u32 b 0x18 ≤ 65536) && decide (u16 b 0x1C ≤ 4096) &&
  allZero b 0x1E 34

/-- A firewall range of 24 bytes (R497). -/
def FwRange.ofBytes (b : Bytes) : FwRange := ⟨u8 b 0, u8 b 1, u8 b 2, u64 b 8, u64 b 0x10⟩

/-- Its fields are in range. -/
def rangeOk (b : Bytes) : Bool :=
  decide (u8 b 0 < 8) && decide (u8 b 1 ≤ 2) && decide (u8 b 2 < 16) && allZero b 3 5 && u64 b 8 % 2 ^ 21 == 0 &&
  u64 b 0x10 % 2 ^ 21 == 0

/-- SET_CONFIG: stored for the next module reset. -/
def setConfig : MgmtAct := fun g m =>
  let b := g.body
  let n := (b.length - 512) / 24
  let recs := (List.range 8).map (fun i => slice b (64 * i) 64)
  let ranges := (List.range n).map (fun i => slice b (512 + 24 * i) 24)
  if b.length < 512 || (b.length - 512) % 24 != 0 || 256 < n || !recs.all partRecordOk || !ranges.all rangeOk then
    (m, only .badField)
  else ({ m with secur := { m.secur with storedParts := some (recs.map PartCfg.ofBytes),
                                         storedFw := ranges.map FwRange.ofBytes } }, only .ok)

/-! ### Firmware (R493, R494) -/

/-- The slots of a kind: 1 Dyone, 2 Crook. -/
def SecSt.fw (s : SecSt) (kind : Nat) : FwKind := if kind == 1 then s.dyone else s.crook

/-- The module with the slots of a kind changed. -/
def Module.updFw (kind : Nat) (f : FwKind → FwKind) (m : Module) : Module :=
  { m with secur := if kind == 1 then { m.secur with dyone := f m.secur.dyone } else { m.secur with crook := f m.secur.crook } }

/-- The update state changes, which is recorded. -/
def Module.setUpdate (st version : Nat) (m : Module) : Module :=
  (({ m with secur := { m.secur with update := st } }).event 0x1202 0xFF 0 st version).secShow

/-- FW_STAGE: a part of an image; the last verifies it. -/
def fwStage : MgmtAct := fun g m =>
  let b := g.body
  let kind := u8 b 0
  if b.length < 8 || !(kind == 1 || kind == 2) || 1 < u8 b 1 || !allZero b 2 6 then (m, only .badField)
  else if 2 ≤ m.secur.update then (m, only .busy)
  else
    let image := (m.secur.fw kind).upload ++ b.drop 8
    if u8 b 1 == 0 then (m.updFw kind (fun k => { k with upload := image }), only .ok)
    else
      let v := Config.imageVersion image
      let m1 := m.updFw kind (fun k => { k with upload := [] })
      if !Config.imageSigned kind image || v < (m.secur.fw kind).rollback then (m1, only .denied)
      else
        let m2 := m1.updFw kind (fun k => { k with staged := some ⟨v, Config.sha512 image⟩, selected := false })
        (m2.setUpdate 1 v, only .ok)

/-- FW_ACTIVATE: at the next reset, or, of Crook, at once by a restart, during which the module is not ready. -/
def fwActivate : MgmtAct := fun g m =>
  let b := g.body
  let kind := u8 b 0
  let now := u8 b 1
  if b.length != 2 || !(kind == 1 || kind == 2) || 1 < now || (now == 1 && kind == 1) then (m, only .badField)
  else if m.secur.update != 1 then (m, only .busy)
  else
    match (m.secur.fw kind).staged with
    | none => (m, only .badField)
    | some x =>
      if now == 0 then (m.updFw kind (fun k => { k with selected := true }), only .ok)
      else
        let m1 := { m with secur := { m.secur with restart := some m.clk.mono } }
        ((m1.set Reg.GLOBAL.STATUS_READY 0).setUpdate 2 x.version, only .ok)

/-- FW_COMMIT: the rollback counter rises to the running version and the old slot is free. The update is over, and an image of the
other kind that is staged is given up (assumption 158). -/
def fwCommit : MgmtAct := fun g m =>
  let up (k : FwKind) : FwKind :=
    { (if k.old.isSome then { k with old := none, rollback := Max.max k.rollback (Min.min k.running.version 63) } else k) with
      staged := none, selected := false }
  if !g.body.isEmpty then (m, only .badField)
  else if m.secur.update != 3 then (m, only .busy)
  else
    let m1 := (m.updFw 1 up).updFw 2 up
    (m1.setUpdate 0 m1.secur.crook.running.version, only .ok)

/-- An attestation that was held is answered with a report of a state (R496). -/
def Module.answerHeld (state : Nat) (h : HeldAttest) (m : Module) : Module :=
  match h.cmd with
  | some id =>
    match m.host.running.find? (fun c => c.id == id) with
    | some c => m.attestTo c state
    | none => m
  | none =>
    let r := m.attReport h.partition h.nonce state
    (m.signed state).mgmtAnswer 9 h.counter (if state == 1 then .transitional else .ok) r

/-- A staged image starts to run in place of the one before, which the commit will free. -/
def FwKind.boot (k : FwKind) : FwKind :=
  match k.staged with
  | some x => { k with running := x, staged := none, selected := false, old := some k.running }
  | none => k

/-- The measurement of a running image (R490). -/
def Module.measureFw (kind : Nat) (m : Module) : Module :=
  let x := (m.secur.fw kind).running
  { m with secur := { m.secur with
    log := m.secur.log.filter (fun e => e.kind != kind) ++ [⟨kind, 0, x.version, 0xFF, x.digest⟩] } }

/-- CROOK_RESTART_END: the new Crook runs, the module is ready, and held attestations are answered (R494, R496). -/
def crookRestartEnd (m : Module) : Module :=
  match m.secur.restart with
  | none => m
  | some _ =>
    let hs := m.secur.held
    let m1 := { (m.updFw 2 FwKind.boot) with secur := { (m.updFw 2 FwKind.boot).secur with restart := none, held := [] } }
    let m2 := ((m1.measureFw 2).set Reg.GLOBAL.STATUS_READY 1).setUpdate 3 m1.secur.crook.running.version
    hs.foldl (fun (a : Module) h => a.answerHeld 0 h) m2

def execCrookRestartEnd (s : State) : Out := run crookRestartEnd s

/-- ATTEST: PARTITION 1, 7 zero bytes, NONCE 64; held during a transition. -/
def mgmtAttest : MgmtAct := fun g m =>
  let p := u8 g.body 0
  let nonce := slice g.body 8 64
  if g.body.length != 72 || !(p == 0xFF || m.partOk p) || !allZero g.body 1 7 then (m, only .badField)
  else if m.secur.update == 2 then
    ({ m with secur := { m.secur with held := m.secur.held ++ [⟨p, nonce, m.clk.mono, g.counter, none⟩] } }, none)
  else (m.signed 0, some (.ok, m.attReport p nonce 0))

/-- ATTEST_HOLD_EXPIRY: the oldest request held for 5 s gets a TRANSITIONAL report (R496). -/
def attestHoldDue (m : Module) : Nat :=
  match m.secur.held with
  | h :: _ => h.since + sec 5
  | [] => 0

def attestHoldExpiry (m : Module) : Module :=
  match m.secur.held with
  | h :: rest => ({ m with secur := { m.secur with held := rest } }).answerHeld 1 h
  | [] => m

def execAttestHoldExpiry (s : State) : Out := runAt attestHoldDue attestHoldExpiry s

/-! ### The other operations -/

/-- EVREC_READ (R522). -/
def mgmtEvRead : MgmtAct := fun g m =>
  let b := g.body
  if b.length != 16 || 1048576 < u32 b 8 || !allZero b 14 2 then (m, only .badField)
  else (m, some (.ok, m.evRead (u64 b 0) (u32 b 8) (u8 b 12) (u8 b 13)))

/-- EVREC_CLEAR (R523, R524). -/
def mgmtEvClear : MgmtAct := fun g m =>
  if g.body.length != 8 then (m, only .badField)
  else if m.ev.clearing.isSome then (m, only .busy)
  else (m.evClear (u64 g.body 0) g.credential, only .ok)

/-- STATUS: the SEC registers, 0x000 to 0x067 and the firewall ranges from 0x1000 (R507, R511). -/
def mgmtStatus : MgmtAct := fun _ m =>
  (m, some (.ok, (List.range 13).flatMap (fun i => leBytes 8 (m.reg (0x1200000 + 8 * i)).toNat) ++
    (List.range 768).flatMap (fun i => leBytes 8 (m.reg (0x1201000 + 8 * i)).toNat)))

/-- MGMT_MESSAGE_TIMEOUT: a message is incomplete 5 s after its first byte, and the connection is closed (R506). -/
def mgmtMessageTimeout (m : Module) : Module := { m with secur := { m.secur with connected := false } }

/-- MGMT_LOCKOUT_END: 10 s after the lockout began the port listens again (R506). -/
def mgmtLockoutEnd (m : Module) : Module := { m with secur := { m.secur with lockout := none } }

def execEnrolCredential (g : MgmtMsg) (s : State) : Out := run (mgmtIn 1 true enrolCredential g) s
def execRevokeCredential (g : MgmtMsg) (s : State) : Out := run (mgmtIn 2 false revokeCredential g) s
def execEnrolKey (g : MgmtMsg) (s : State) : Out := run (mgmtIn 3 false enrolKey g) s
def execRemoveKey (g : MgmtMsg) (s : State) : Out := run (mgmtIn 4 false removeKey g) s
def execSetConfig (g : MgmtMsg) (s : State) : Out := run (mgmtIn 5 false setConfig g) s
def execFwStage (g : MgmtMsg) (s : State) : Out := run (mgmtIn 6 false fwStage g) s
def execFwActivate (g : MgmtMsg) (s : State) : Out := run (mgmtIn 7 false fwActivate g) s
def execFwCommit (g : MgmtMsg) (s : State) : Out := run (mgmtIn 8 false fwCommit g) s
def execMgmtAttest (g : MgmtMsg) (s : State) : Out := run (mgmtIn 9 false mgmtAttest g) s
def execEvrecRead (g : MgmtMsg) (s : State) : Out := run (mgmtIn 10 false mgmtEvRead g) s
def execEvrecClear (g : MgmtMsg) (s : State) : Out := run (mgmtIn 11 false mgmtEvClear g) s
def execMgmtStatus (g : MgmtMsg) (s : State) : Out := run (mgmtIn 13 false mgmtStatus g) s
def execMgmtMessageTimeout (s : State) : Out := run mgmtMessageTimeout s
def execMgmtLockoutEnd (s : State) : Out :=
  runAt (fun m => match m.secur.lockout with
    | some t => t + sec 10
    | none => 0) mgmtLockoutEnd s

end Sys2Proof.Machine
end

