-- ==== Sys2Proof/Machine/Host.lean ====
section
/-!
DEFINITION. The host attachment: the mailboxes (R441 to R451), the host link (R434 to R437), the HDM range (R440), the
timeouts of commands (R447), MSI-X (R449) and the GLOBAL commands (R455).
-/

namespace Sys2Proof.Machine

open Sys2Proof

/-! ### Mailboxes -/

/-- The opcodes that are defined (R453) with the length of each command's payload table, and for EVREC_NOTE the length of
its fields before NOTE. -/
def payloadLens : List (Nat × Nat) := [
  (0x0000, 0), (0x0001, 0),
  (0x0200, 0x10), (0x0201, 4), (0x0202, 4), (0x0203, 0x14), (0x0210, 8), (0x0211, 8), (0x0220, 4), (0x0230, 0),
  (0x0300, 0x10), (0x0310, 0x18), (0x0320, 0x18), (0x0321, 8),
  (0x0400, 0x20), (0x0401, 8), (0x0410, 0x18), (0x0420, 0x0C), (0x0421, 0x20), (0x0422, 8), (0x0430, 0x10),
  (0x0500, 0x38), (0x0501, 0x18), (0x0502, 8), (0x0503, 8), (0x0504, 8), (0x0505, 0x18), (0x0510, 0x10),
  (0x0520, 0x18), (0x0521, 0x10)] ++ [
  (0x0600, 0x18), (0x0601, 4), (0x0602, 0x10), (0x0603, 4), (0x0610, 0x10), (0x0611, 4), (0x0612, 0x10), (0x0613, 5),
  (0x0620, 0x18), (0x0621, 2), (0x0622, 2), (0x0623, 0x10), (0x0630, 0x18),
  (0x0700, 0x18), (0x0701, 2), (0x0710, 0x18), (0x0711, 4), (0x0712, 0x10), (0x0720, 0x488), (0x0721, 0x10),
  (0x0730, 0x20), (0x0731, 4),
  (0x0800, 0x18), (0x0801, 8), (0x0802, 1), (0x0810, 0x40), (0x0820, 0x18), (0x0821, 0x10), (0x0830, 8),
  (0x0900, 0), (0x0901, 0), (0x0910, 8)] ++ [
  (0x0A00, 0x10), (0x0A01, 0), (0x0A10, 8), (0x0A11, 4), (0x0A12, 0), (0x0A20, 8), (0x0A21, 8),
  (0x0B00, 0x20), (0x0B10, 8), (0x0B11, 0), (0x0B12, 0), (0x0B20, 0x20),
  (0x0C00, 0x10), (0x0C01, 8), (0x0C10, 0x30), (0x0C11, 8), (0x0C12, 2),
  (0x0D00, 8), (0x0D01, 8), (0x0D02, 8), (0x0D03, 4),
  (0x0E00, 0x10), (0x0E01, 0), (0x0E10, 0x0C), (0x0E20, 8), (0x0E21, 8), (0x0E30, 8)] ++ [
  (0x1000, 8), (0x1001, 1), (0x1010, 0x28), (0x1011, 2), (0x1020, 0x20), (0x1030, 0x18), (0x1031, 4),
  (0x1100, 8), (0x1101, 0), (0x1200, 0x58), (0x1201, 0), (0x1210, 0x20), (0x1300, 8), (0x1400, 0x20), (0x1410, 0x20),
  (0x1500, 0x10), (0x1600, 8), (0x1610, 0x10)]

/-- The length of the payload table of an opcode; none when the opcode is reserved. -/
def payloadLen (op : Nat) : Option Nat := (payloadLens.find? (fun x => x.1 == op)).map (·.2)

/-- The first non-zero byte of FLAGS, NO_MSIX apart, and of the reserved header bytes (R442). -/
def headerBad (h : Bytes) : Option Nat :=
  if u8 h 2 / 2 != 0 then some 2 else if u8 h 3 != 0 then some 3 else firstNonZero h 0x10 48

/-- Checks 1 to 5 of R446 on a command's header and payload: the status and DETAIL of the first that fails. -/
def Module.commandCheck (m : Module) (h payload : Bytes) : Option (Status × Nat) :=
  let op := u16 h 0
  let len := u32 h 4
  if !m.flag Reg.GLOBAL.STATUS_READY && op != 0 then some (.busy, noDetail)
  else
    match payloadLen op with
    | none => some (.badField, 0)
    | some n =>
      match headerBad h with
      | some d => some (.badField, d)
      | none =>
        if 4032 < len || len < n then some (.badField, 4)
        else if op == 0x1300 then none
        else (firstNonZero payload n (len - n)).map (fun o => (Status.badField, 0x40 + o))

/-- MAILBOX_GO: a host write of OWNER = 1 (R444, R446, R451). -/
def mailboxGo (b value : Nat) (m : Module) : Module :=
  let x := m.box b
  if !m.barUp then m
  else if !bit value 0 then m.dropWrite (Reg.MBOX.OWN_OWNER.at 8 b).off
  else if x.owner then
    ((m.set Reg.MBOX.STATUS_DOUBLE_GO 1).set Reg.GLOBAL.STATUS_SECOND_MASTER 1).bump Reg.MBOX.DOUBLE_GOS_COUNT
  else
    let h := x.cmd.rdN 0 64
    let payload := x.cmd.rdN 64 (Min.min (u32 h 4) 4032)
    let id := m.host.nextRun
    let c : RunCmd :=
      ⟨id, .mbox b, u16 h 0, u16 h 2, u64 h 8, payload, m.clk.mono, .fresh, [], [], 0, 0, false, false⟩
    let m1 := m.setBox b { x with owner := true, running := true }
    let m2 : Module := { m1 with host := { m1.host with running := m1.host.running ++ [c], nextRun := id + 1 } }
    match m2.commandCheck h payload with
    | none => m2
    | some (st, d) => m2.complete c st [] d

/-- MAILBOX_SLOT_WRITE: bytes at an offset of mailbox b's 8 KiB (R439, R441, R451). -/
def slotWrite (b off : Nat) (data : Bytes) (m : Module) : Module :=
  let x := m.box b
  let at_ := 0x100000 + b * 0x2000 + off
  if !m.barUp then m
  else if data.length == 0 || 64 < data.length || off / 64 != (off + data.length - 1) / 64 || 0x1000 ≤ off then
    m.dropWrite at_
  else if x.owner then (m.set Reg.MBOX.STATUS_SLOT_WRITE_DROPPED 1).bump Reg.MBOX.SLOT_WRITES_DROPPED_COUNT
  else m.setBox b { x with cmd := x.cmd.wrN off data }

def execMailboxGo (mb value : Nat) (s : State) : Out := runIf (mb < 64) (mailboxGo mb value) s
def execMailboxSlotWrite (mb off : Nat) (data : Bytes) (s : State) : Out :=
  runIf (mb < 64 && off < 0x2000) (slotWrite mb off data) s

/-! ### GLOBAL commands (R455) -/

/-- The response of IDENTIFY. -/
def Module.identity (m : Module) : Bytes :=
  leBytes 4 0x9208 ++ leBytes 4 Config.stepping.toNat ++ leBytes 8 Config.serial.toNat ++
  leBytes 1 m.mirror.linkId ++ leBytes 1 m.host.linkMode ++ leBytes 1 m.host.linkWidth ++
  leBytes 1 (((List.range 8).filter m.present).foldl (fun a p => a + 2 ^ p) 0) ++ zeros 4 ++
  leBytes 8 m.secur.dyone.running.version ++ leBytes 8 m.secur.crook.running.version ++
  leBytes 2 288 ++ leBytes 2 1024 ++ leBytes 4 88064 ++ zeros 16

def execNop (src : Src) (s : State) : Out := run (onCmd 0x0000 src (fun c m => m.ok c [])) s
def execIdentify (src : Src) (s : State) : Out := run (onCmd 0x0001 src (fun c m => m.ok c m.identity)) s

/-! ### The HDM range (R440) -/

/-- The host may read the range: every byte lies in LPDDR ranges with HOST_READ. -/
def Module.hostMayRead (m : Module) (addr n : Nat) : Bool :=
  n == 0 || (List.range ((addr + n - 1) / 2 ^ 21 - addr / 2 ^ 21 + 1)).all (fun i =>
    let a := (addr / 2 ^ 21 + i) * 2 ^ 21
    m.firewall.any (fun r => r.tier == 1 && bit r.access 3 && decide (r.base ≤ a) && decide (a < r.base + r.size)))

/-- The HDM range is present: a CXL mode is trained, and the function is in D0. -/
def Module.hdmUp (m : Module) : Bool := m.barUp && decide (4 ≤ m.host.linkMode)

/-- HDM_READ. -/
def hdmRead (addr n : Nat) (m : Module) : Module :=
  if m.hostMayRead addr n then m.emit (.hdmData addr (m.lpddr.rdN addr n))
  else ((m.emit (.hdmData addr (zeros n))).set Reg.GLOBAL.STATUS_HDM_DENIED 1).bump Reg.GLOBAL.HDM_DENIED_READS_COUNT

/-- HDM_WRITE: dropped and counted; it has no BAR0 offset to leave. -/
def hdmWrite (m : Module) : Module :=
  (m.bump Reg.GLOBAL.HOST_WRITES_DROPPED_COUNT).set Reg.GLOBAL.STATUS_HOST_WRITE_DROPPED 1

def execHdmRead (addr n : Nat) (s : State) : Out :=
  if !s.m.live || !s.m.hdmUp then run id s
  else if lpddrSize < addr + n then .fault .noSuchAddress
  else run (hdmRead addr n) s

def execHdmWrite (addr n : Nat) (s : State) : Out :=
  if !s.m.live || !s.m.hdmUp then run id s
  else if lpddrSize < addr + n then .fault .noSuchAddress
  else run hdmWrite s

/-! ### The link (R434 to R437) -/

/-- A Function Level Reset or hot reset: started commands run on without MSI-X, and the MSI-X configuration clears. -/
def linkReset (m : Module) : Module :=
  ({ m with host := { m.host with
      running := m.host.running.map (fun (c : RunCmd) => { c with noMsix := c.noMsix || c.fromMailbox }), msix := [] } }).bump
    Reg.GLOBAL.FLRS_COUNT

/-- HOST_LINK_DOWN: as a reset, and every transfer fails: an admission that reads its input from the host ends with TIMEOUT,
and vector queries whose results wait for the host end as R266 gives. -/
def hostLinkDown (m : Module) : Module :=
  if !m.host.linkUp then m
  else
    let m1 := linkReset m
    let m2 : Module := { m1 with host := { m1.host with linkUp := false, linkMode := 0, linkWidth := 0, d3hot := false } }
    let m3 := m2.setReg Reg.GLOBAL.LINK_MODE.off 0
    ((m3.waitingCmds 0x0500 (fun c => cmdNeedsHost c (u64 c.payload 0x28))).foldl
      (fun (a : Module) c => a.failAdmit c (stop .timeout)) m3).boreRun

/-- What waited for the host link goes on: ring records, held messages and vector results (R173, R436). -/
def Module.hostResume (m : Module) : Module :=
  let m1 := (List.range 8).foldl (fun (a : Module) p => a.ringResume p) m
  let ready : List Nat := (m1.host.msix.filter (fun (_, x) => x.pending && !x.masked)).map (·.1)
  (ready.foldl (fun (a : Module) v => (a.setVec v { a.vec v with pending := false }).msix v) m1).boreRun

/-- HOST_LINK_RETRAINED: the link trains in a mode of R457 on 4, 8 or 16 lanes; one that does not come up is an event
(R434). -/
def hostLinkTrained (mode width : Nat) (m : Module) : Module :=
  if m.host.linkUp then m
  else if width == 4 || width == 8 || width == 16 then
    let m1 : Module := { m with host := { m.host with linkUp := true, linkMode := mode, linkWidth := width, everUp := true } }
    let m2 := ((m1.set Reg.GLOBAL.LINK_MODE mode).set Reg.GLOBAL.LINK_WIDTH width).set Reg.GLOBAL.LINK_CXL_MEM
      (b2n (decide (4 ≤ mode)))
    let m3 := if m.host.everUp then
        (m2.set Reg.GLOBAL.STATUS_LINK_RETRAINED 1).bump Reg.GLOBAL.LINK_RETRAINS_COUNT
      else m2
    m3.hostResume
  else m.event 0x0004 0xFF 2 width 0

/-- D3HOT_ENTRY and D0_RETURN (R436). -/
def d3hotEntry (m : Module) : Module :=
  if m.host.linkUp then { m with host := { m.host with d3hot := true } } else m

def d0Return (m : Module) : Module :=
  if m.host.d3hot then Module.hostResume { m with host := { m.host with d3hot := false } } else m

def execFunctionLevelReset (s : State) : Out := run (when (fun m => m.host.linkUp) linkReset) s
def execHostLinkDown (s : State) : Out := run hostLinkDown s
def execHostLinkRetrained (mode width : Nat) (s : State) : Out :=
  runIf (1 ≤ mode && mode ≤ 6 && width ≤ 16) (hostLinkTrained mode width) s
def execD3hotEntry (s : State) : Out := run d3hotEntry s
def execD0Return (s : State) : Out := run d0Return s

/-! ### Timeouts of host memory (R447) -/

/-- The payload offsets at which a command carries host addresses. CHECK_SCAN's address is host memory by its tier code and
a vector command's by its flags. -/
def hostFields (c : RunCmd) : List Nat :=
  let b := c.payload
  match c.opcode with
  | 0x0310 | 0x0410 | 0x0510 | 0x0E00 => [0]
  | 0x0400 => [0x18]
  | 0x0500 => [0x28]
  | 0x0501 | 0x1030 => [0x10]
  | 0x0730 => [8, 0x10]
  | 0x0810 => (if bit (u8 b 1) 0 then [] else [0x10]) ++ (if bit (u8 b 1) 1 then [] else [0x18])
  | 0x0820 => (if bit (u8 b 1) 0 then [] else [8]) ++ (if bit (u8 b 1) 1 then [] else [0x10])
  | 0x0821 | 0x0B00 | 0x1210 => [8]
  | 0x0B20 => [0x10]
  | 0x1200 => [0x48]
  | _ => []

/-- The command reads or writes host memory. -/
def Module.usesHost (m : Module) (c : RunCmd) : Bool :=
  (hostFields c).any (fun o => cmdNeedsHost c (u64 c.payload o)) ||
  (c.opcode == 0x1410 && (u8 c.payload 4 == 0 || u8 c.payload 5 == 0)) ||
  (c.opcode == 0x0203 && m.hostUp) || c.opcode == 0x0B20

/-- How often a host-memory transfer of a command is repeated: a schedule's as R99 says, another's as R447 does (R102). -/
def Module.hostRetries (m : Module) (c : RunCmd) : Nat :=
  if c.opcode == 0x0310 then m.get Reg.SLIDE.HOST_CTRL_RETRIES else m.get Reg.MBOX.TIMEOUT_RETRIES

/-- How long an attempt may take, in nanoseconds (R99, R102, R447). -/
def Module.hostReadNs (m : Module) (c : RunCmd) : Nat :=
  if c.opcode == 0x0310 then m.get Reg.SLIDE.HOST_CTRL_TIMEOUT_NS else us (m.get Reg.MBOX.TIMEOUT_HOST_READ_US)

/-- A transfer of host memory for a command has failed: it is repeated up to RETRIES times, and the last failure ends the
command with TIMEOUT, an admission with everything undone (R159, R447). -/
def transferFailed (src : Src) (m : Module) : Module :=
  match m.cmdOf src with
  | none => m
  | some c =>
    if !m.usesHost c || !m.hostUp then m
    else if c.reads < m.hostRetries c then m.updCmd c.id (fun x => { x with reads := x.reads + 1 })
    else if c.stage == .fresh then m.fail c .timeout
    else if c.opcode == 0x0500 then m.failAdmit c (stop .timeout)
    else m

/-- When an attempt of a command's transfer times out (R99, R447). -/
def hostMemoryDue (src : Src) (m : Module) : Nat :=
  match m.cmdOf src with
  | some c => if m.usesHost c && m.hostUp then c.start + m.hostReadNs c * (c.reads + 1) else 0
  | none => 0

def execUncorrectableTransferError (src : Src) (s : State) : Out := run (transferFailed src) s
def execHostMemoryTimeout (src : Src) (s : State) : Out := runAt (hostMemoryDue src) (transferFailed src) s

/-- EXEC_TIMEOUT: the command of a source has run EXEC_S seconds; its response is written with TIMEOUT and the operation
goes on (R447). -/
def timeoutExpiry (src : Src) (m : Module) : Module :=
  match m.cmdOf src with
  | none => m
  | some c => if c.fromMailbox then (m.answerTimeout c).set Reg.MBOX.STATUS_EXEC_TIMEOUT 1 else m

def timeoutExpiryDue (src : Src) (m : Module) : Nat :=
  match m.cmdOf src with
  | some c => if c.fromMailbox then c.start + sec (m.get Reg.MBOX.TIMEOUT_EXEC_S) else 0
  | none => 0

def execExecTimeout (src : Src) (s : State) : Out := runAt (timeoutExpiryDue src) (timeoutExpiry src) s

/-! ### MSI-X (R449) -/

/-- MSIX_HOLDOFF_EXPIRY: the events merged in a block vector's holdoff leave as one message. -/
def holdoffEnd (v : Nat) (m : Module) : Module :=
  let x := m.vec v
  if x.held then (m.setVec v { x with held := false, lastSent := some m.clk.mono }).msix v else m

def holdoffDue (v : Nat) (m : Module) : Nat :=
  if (m.vec v).held then ((m.vec v).lastSent.getD 0) + us (m.get Reg.GLOBAL.MSIX_CTRL_HOLDOFF_US) else 0

def execMsixHoldoffExpiry (v : Nat) (s : State) : Out :=
  if v < 128 then runAt (holdoffDue v) (holdoffEnd v) s else .refused .illFormed

/-- MSIX_VECTOR_UNMASK: the host unmasks a vector in BAR2, and a pending message leaves. -/
def vectorUnmask (v : Nat) (m : Module) : Module :=
  if !m.barUp then m
  else
    let x := m.vec v
    let m1 := m.setVec v { x with masked := false, pending := false }
    if x.pending then m1.msix v else m1

def execMsixVectorUnmask (v : Nat) (s : State) : Out := runIf (v < 128) (vectorUnmask v) s

/-! ### SCHED_RESUME, REED_DECISION and OP_HOUR_TICK -/

/-- Requests that the suspension of partition p pre-empted go on when nothing else holds them (R156, R420). -/
def Module.schedRelease (p : Nat) (m : Module) : Module :=
  (m.reqsOf p).foldl (fun (a : Module) (i, r) =>
    if r.preSched then (a.updReq i (fun r => { r with preSched := false })).unhold i else a) m

/-- SCHED_RESUME: PARTITION 0x00 (R420). -/
def resumeCmd (c : RunCmd) (m : Module) : Module :=
  let p := u8 c.payload 0
  m.checked c [(1, 7)] [(m.partOk p, bad 0), (bit m.sched.suspended p, stop .busy)] (fun m =>
    (((m.setSuspended (m.sched.suspended - 2 ^ p)).schedRelease p).followHolds).ok c [])

def execSchedResume (src : Src) (s : State) : Out := run (onCmd 0x0E21 src resumeCmd) s

/-- REED_DECISION of instance i (R426); a granted frame of an egress sub-port leaves. -/
def reedDecision (i : Nat) (m : Module) : Module :=
  let m1 := m.reedDecide m.linkRate i
  if 72 ≤ i ∧ i < 88 then m1.egressGrant (i - 72) else m1

def execReedDecision (i : Nat) (s : State) : Out := runIf (i < 93) (reedDecision i) s

/-- OP_HOUR_TICK: a whole hour with input power has passed: the operating hours and the temperature bands of R307 count
it, the bands while the module is on (R512). -/
def opHour (m : Module) : Module := if m.power.phase == .off then hourTick m else (hourTick m).tempHour

def execOpHourTick (s : State) : Out :=
  if s.m.power.input then runPowerAt hourDue opHour s else run id s

end Sys2Proof.Machine
end

