-- ==== Sys2Proof/Machine/Ligature.lean ====
section
/-!
DEFINITION. The Ligature commands (R397 to R400) and the end of a wait with a timeout (R387).
-/

namespace Sys2Proof.Machine

open Sys2Proof

/-- LIG_ALLOC: PARTITION 0x00, KIND 0x01, PARAM 0x04 (R397). -/
def ligAllocCmd (c : RunCmd) (m : Module) : Module :=
  let p := u8 c.payload 0
  m.checked c [(2, 2), (7, 1)] [(m.partOk p, bad 0)] (fun m =>
    match m.ligAlloc p none (u8 c.payload 1) (u32 c.payload 4) with
    | (m1, .inr h) => m1.ok c (leBytes 4 h)
    | (m1, .inl .noSpace) => m1.fail c .noSpace
    | (m1, .inl _) => m1.badField c 1)

/-- LIG_FREE: HANDLE 0x00 (R398). -/
def ligFreeCmd (c : RunCmd) (m : Module) : Module :=
  m.checked c [(4, 4)] [] (fun m =>
    let m := m.bump Reg.LIG.OPS_COUNT
    match m.ligFind (u32 c.payload 0) with
    | none => m.fail c .stale
    | some (i, o) =>
      if o.owner.isSome then m.fail c .denied
      else if !o.waiters.isEmpty then m.fail c .busy
      else (m.ligFreeIndex i).ok c [])

/-- LIG_SIGNAL: HANDLE 0x00, COUNT 0x04; as LSIG, and as LSEND on a queue (R399). -/
def ligSignalCmd (c : RunCmd) (m : Module) : Module :=
  match m.ligFind (u32 c.payload 0) with
  | none => m.fail c .stale
  | some (i, o) =>
    let n := u32 c.payload 4
    let (m1, st) := if o.kind == 4 then m.ligSend i o n else m.ligSignal i o n
    m1.verdict c ⟨st, 4⟩ |> fun r => if st == .ok then m1.ok c [] else r

/-- The response of LIG_QUERY (R400). -/
def ligReport (m : Module) (i : Nat) (o : LigObj) : Bytes :=
  leBytes 4 (m.ligHandle i) ++ leBytes 1 o.kind ++ leBytes 1 o.partition ++ leBytes 2 (o.owner.getD 0xFFFF) ++
  leBytes 4 (if o.kind == 4 then o.msgs.length else o.value) ++ leBytes 2 o.waiters.length ++
  leBytes 2 (o.revokedJob.getD 0xFFFF) ++ leBytes 4 o.param ++ zeros 4

/-- LIG_QUERY: HANDLE 0x00 (R400). -/
def ligQueryCmd (c : RunCmd) (m : Module) : Module :=
  match m.ligFind (u32 c.payload 0) with
  | none => m.fail c .stale
  | some (i, o) => m.ok c (ligReport m i o)

def execLigAlloc (src : Src) (s : State) : Out := run (onCmd 0x0D00 src ligAllocCmd) s
def execLigFree (src : Src) (s : State) : Out := run (onCmd 0x0D01 src ligFreeCmd) s
def execLigSignal (src : Src) (s : State) : Out := run (onCmd 0x0D02 src ligSignalCmd) s
def execLigQuery (src : Src) (s : State) : Out := run (onCmd 0x0D03 src ligQueryCmd) s

/-- The wait of thread t that has a timeout, with the object it is on. -/
def Module.timedWait (m : Module) (t : Nat) : Option (Nat × LigWait) :=
  m.lig.objs.findSome? (fun (i, o) =>
    (o.waiters.find? (fun w => w.who == .thread t && w.timeout.isSome)).map (fun w => (i, w)))

/-- When thread t's wait times out. -/
def lwaitDue (t : Nat) (m : Module) : Nat :=
  match m.timedWait t with
  | some (_, w) => w.start + w.timeout.getD 0
  | none => 0

/-- LWAIT_TIMEOUT: the wait ends with TIMEOUT; a barrier arrival is withdrawn and nothing is taken (R387). -/
def lwaitTimeout (t : Nat) (m : Module) : Module :=
  match m.timedWait t with
  | some (_, w) => ((m.ligWithdraw (.thread t)).wake w .timeout 0).bump Reg.LIG.TIMEOUTS_COUNT
  | none => m

def execLwaitTimeout (t : Nat) (s : State) : Out := runAt (lwaitDue t) (lwaitTimeout t) s

end Sys2Proof.Machine
end

