-- ==== Sys2Proof/Machine/Power.lean ====
section
/-!
DEFINITION. The power block: breath hints (R544, R545), the core margin and the monitors (R542, R543), the cap and the thermal
limit (R539, R540, R547), the power-loss signal and the hold-up work (R535, R536, R558), and what a reset keeps (R562, R563).
-/

namespace Sys2Proof.Machine

open Sys2Proof

/-! ### Breath hints -/

/-- POWER_BREATH (R544). -/
def powerBreathCmd (c : RunCmd) (m : Module) : Module :=
  let b := c.payload
  m.checked c [(2, 2), (0x0C, 4)]
    [(decide (1 ≤ u8 b 0) && decide (u8 b 0 ≤ 6), bad 0), (decide (1 ≤ u8 b 1) && decide (u8 b 1 ≤ 3), bad 1),
     (decide (10 ≤ u32 b 4) && decide (u32 b 4 ≤ 10000), bad 4), (decide (1 ≤ u32 b 8) && decide (u32 b 8 ≤ 10000000), bad 8)]
    (fun m => ((m.hint (u8 b 1) (u32 b 4) (u32 b 8)).bump Reg.POWER.HINTS_COUNT).ok c [])

def execPowerBreath (src : Src) (s : State) : Out := run (onCmd 0x1500 src powerBreathCmd) s

/-- BREATH_WINDOW_START: the window of a hint begins, and its level is in force. -/
def breathStart (i : Nat) (m : Module) : Module :=
  { m with power := { m.power with hints := updNth m.power.hints i (fun (h : BreathHint) => { h with on := true }) } }

/-- BREATH_WINDOW_END: the window ends, and the margin returns. -/
def breathEnd (i : Nat) (m : Module) : Module :=
  { m with power := { m.power with hints := m.power.hints.eraseIdx i } }

/-- When the window of hint i begins and ends. -/
def breathFrom (i : Nat) (m : Module) : Nat := ((m.power.hints[i]?).map (·.from_)).getD 0
def breathUntil (i : Nat) (m : Module) : Nat := ((m.power.hints[i]?).map (·.until_)).getD 0

def execBreathWindowStart (i : Nat) (s : State) : Out := runAt (breathFrom i) (breathStart i) s
def execBreathWindowEnd (i : Nat) (s : State) : Out := runAt (breathUntil i) (breathEnd i) s

/-- The greatest level of the hints in force (R545). -/
def PowerSt.breathLevel (p : PowerSt) : Nat := (p.hints.filter (·.on)).foldl (fun a h => Max.max a h.level) 0

/-- The setpoint of the core regulator in millivolts: 750 and the margin, with 20 for each level of a hint in force up to 900
(R542). -/
def PowerSt.setpoint (p : PowerSt) : Nat :=
  if p.breathLevel == 0 then 750 + p.margin else Min.min 900 (750 + p.margin + 20 * p.breathLevel)

/-! ### Power loss -/

/-- A fault is recorded in the lifetime block of the NOR and FAULT_N is asserted (R555). -/
def Module.fault (code : Nat) (m : Module) : Module :=
  { m with power := { m.power with faultCause := code, faultHours := m.ev.opHours, faultN := true } }

/-- The FTL's hold-up work (R299). A bank that measured low can fall short: a free choice whether everything is done, the write
buffers alone are programmed, or nothing is (R537). -/
def Module.flashHoldup (m : Module) : Module :=
  if !m.power.holdupLow then m.holdupFlush
  else
    let (k, m1) := m.choose 3
    if k == 0 then m1.holdupFlush else if k == 1 then m1.holdupPrograms.flashPowerLoss else m1.flashPowerLoss

/-- POWER_LOSS stands at the head of the queue with what is queued (R518); a full recorder drops it (R520). -/
def Module.lossRecord (m : Module) : Module :=
  if m.flag Reg.EVREC.STATUS_FULL then m.bump Reg.EVREC.DROPPED_COUNT
  else
    let r := m.mkRecord 0x1501 0xFF 2 (leBytes 8 (queueBytes m.ev.queue) ++ leBytes 8 m.ev.queue.length)
    { m with ev := { m.ev with queue := r :: m.ev.queue, nextSeq := m.ev.nextSeq + 1 } }

/-- The power-loss signal (R536): the cores, the link, the ports and the HBM lose their supply, the FTL flushes and the event
recorder begins to write its queue. In reset nothing is left to do, and the module turns off. -/
def Module.powerLoss (m : Module) : Module :=
  match m.power.phase with
  | .started =>
    let m1 := (m.set Reg.GLOBAL.STATUS_READY 0).flashHoldup.lossRecord
    { m1 with power := { m1.power with phase := .holdup, returned := false } }
  | .held => { m with power := { m.power with phase := .off } }
  | _ => m

/-- Records of the queue programmed in order, at most n. -/
def Module.writeQueue : Nat → Module → Module
  | 0, m => m
  | n + 1, m => if m.ev.queue.isEmpty || m.flag Reg.EVREC.STATUS_FULL then m else Module.writeQueue n (recordWrite m)

/-- Records of a queue that fit in a number of bytes. -/
def fitting : Nat → List EvRecord → Nat
  | _, [] => 0
  | n, r :: rs => if r.size ≤ n then 1 + fitting (n - r.size) rs else 0

/-- What a reset leaves (R562, R563): the flash, the NOR with the event records and the lifetime block, the stored management
configuration with the keys and the firmware, and the power block. The time counter starts again. -/
def Module.wiped (m : Module) : Module :=
  { Module.reset with
    clk := ⟨0, 0, m.clk.mono⟩
    free := m.free
    hostMem := m.hostMem
    out := m.out
    ev := { EvSt.reset with
      sectors := m.ev.sectors, erases := m.ev.erases, nextSectorSeq := m.ev.nextSectorSeq, nextSeq := m.ev.nextSeq,
      opHours := m.ev.opHours, powerCycles := m.ev.powerCycles, lastHour := m.ev.lastHour }
    ftl := m.ftl
    ckpt := { Module.reset.ckpt with local_ := m.ckpt.local_ }
    secur := { SecSt.reset with
      creds := m.secur.creds, fabricKey := m.secur.fabricKey, trusted := m.secur.trusted, stateKeys := m.secur.stateKeys,
      storedParts := m.secur.storedParts, storedFw := m.secur.storedFw, dyone := m.secur.dyone, crook := m.secur.crook,
      update := m.secur.update, memKey := m.secur.memKey + 1 }
    power := { PowerSt.reset with
      input := m.power.input, pwrEn := m.power.pwrEn, resetN := m.power.resetN, perstN := m.power.perstN,
      margin := m.power.margin, trimStart := m.power.trimStart, trimDip := m.power.trimDip,
      lastSample := m.power.lastSample, lastWindow := m.power.lastWindow, faultCause := m.power.faultCause,
      faultHours := m.power.faultHours, faultN := m.power.faultN, cause := m.power.cause } }

/-- Power comes up: the power cycle is counted, everything that power carried is gone, and the module is held until RESET_N and
PERST_N are high (R535, R560, R564). The memory keys of the host tier change with it (R499). -/
def Module.powerUp (m : Module) : Module :=
  let m1 := m.wiped
  let hour := if m.power.input then m1.ev.lastHour else m1.clk.mono
  { m1 with
    ev := { m1.ev with powerCycles := (m1.ev.powerCycles + 1) % 2 ^ 32, lastHour := hour },
    power := { m1.power with phase := .held, input := true, pwrEn := true, cause := 0 } }

/-- POWER_ON: the input reaches 39 V with PWR_EN high. -/
def powerOn (m : Module) : Module :=
  if m.power.phase == .off then Module.powerUp { m with power := { m.power with faultN := false } } else m

def execPowerOn (s : State) : Out := runPower powerOn s

/-- INPUT_LOST: FAULT_N is released with the input (R552). -/
def inputLost (m : Module) : Module :=
  let m1 := m.powerLoss
  { m1 with power := { m1.power with input := false, faultN := false, returned := false } }

/-- INPUT_OVERVOLTAGE, CONVERTER_FAULT, PWR_EN_FALL and J3_SENSE_BREAK. -/
def inputOvervoltage (m : Module) : Module := if m.live then m.powerLoss.fault 4 else m
def converterFault (m : Module) : Module := if m.power.phase == .off then m else m.powerLoss.fault 5

def pwrEnFall (m : Module) : Module :=
  let m1 := m.powerLoss
  { m1 with power := { m1.power with pwrEn := false, faultN := false } }

def execInputLost (s : State) : Out := runPower inputLost s
def execInputOvervoltage (s : State) : Out := runPower inputOvervoltage s
def execConverterFault (s : State) : Out := runPower converterFault s
def execPwrEnFall (s : State) : Out := runPower pwrEnFall s
def execJ3SenseBreak (s : State) : Out := runPower Module.powerLoss s

/-- INPUT_RETURN during the hold-up work, which runs on (R558). -/
def inputReturn (m : Module) : Module :=
  if m.power.phase == .holdup then
    { m with power := { m.power with input := true, returned := true },
             ev := { m.ev with lastHour := if m.power.input then m.ev.lastHour else m.clk.mono } }
  else m

def execInputReturn (s : State) : Out := runPower inputReturn s

/-- HOLDUP_WORK_END: of the event queue at least 12,800 bytes are written, a free number of records more, and the rest is lost, with
the record or the erase that NOR is at cut off; the module turns off, or starts as from power-off when the input has returned (R518, R536, R558). -/
def holdupEnd (m : Module) : Module :=
  if m.power.phase == .holdup then
    let m1 := m.writeQueue (fitting 12800 m.ev.queue)
    let (k, m2) := m1.choose (m1.ev.queue.length + 1)
    let m3 := (m2.writeQueue k).cutNor
    if m3.power.returned && m3.power.pwrEn then m3.powerUp
    else
      let m4 := m3.wiped
      { m4 with power := { m4.power with phase := .off } }
  else m

def execHoldupWorkEnd (s : State) : Out := runPower holdupEnd s

/-! ### Temperature -/

/-- THERMAL_LIMIT: the core is slowed while the junction is above 105 °C (R547). -/
def thermalLimit (junction : Int) (m : Module) : Module :=
  { m with power := { m.power with thermal := decide (105 < junction) } }

/-- THERMAL_TRIP: the power-loss signal and the fault; during hold-up work the fault alone is recorded (R548, R558). -/
def thermalTrip (m : Module) : Module := if m.power.phase == .off then m else m.powerLoss.fault 2

def execThermalLimit (junction : Int) (s : State) : Out := run (thermalLimit junction) s
def execThermalTrip (s : State) : Out := runPower thermalTrip s

/-! ### The core supply -/

/-- CORE_MONITOR_SAMPLE of the 32 monitors in millivolts (R542, R543). -/
def coreSample (mv : List Nat) (m : Module) : Module :=
  let p := m.power
  let low := mv.any (fun v => decide (v < 690))
  let dip := mv.any (fun v => decide (v < 700))
  let runs := (List.range 32).map (fun i => if 900 < nthD mv i 0 then nthD p.highRuns i 0 + 1 else 0)
  let p1 : PowerSt := { p with
    margin := if low then Min.min 120 (p.margin + 10) else p.margin
    trimStart := if low then m.ev.opHours else p.trimStart
    trimDip := if low then false else p.trimDip || dip
    handshakeHold := mv.any (fun v => decide (v < 680))
    highRuns := runs
    lastSample := m.clk.mono }
  let m1 : Module := { m with power := p1 }
  if runs.any (fun n => decide (10 ≤ n)) then m1.powerLoss.fault 3 else m1

def execCoreMonitorSample (mv : List Nat) (s : State) : Out :=
  if mv.length == 32 then runAt (fun m => m.power.lastSample + us 1) (coreSample mv) s else .refused .illFormed

/-- TRIM_PERIOD_END: 100 operating hours without a monitor below 0.70 V lower the margin by 5 mV (R542). -/
def trimEnd (m : Module) : Module :=
  if m.power.trimStart + 100 ≤ m.ev.opHours then
    { m with power := { m.power with
      margin := if m.power.trimDip then m.power.margin else Max.max 15 (m.power.margin - 5)
      trimStart := m.ev.opHours
      trimDip := false } }
  else m

def execTrimPeriodEnd (s : State) : Out := run trimEnd s

/-! ### The cap -/

/-- The limits of R539 are exceeded by the last windows: the mean of the last 100 is above the cap, one is above 2,300 W, or
more than 10 of them are above the cap. -/
def PowerSt.exceeds (p : PowerSt) : Bool :=
  let n := p.windows.length
  decide (p.capW * Max.max n 1 < p.windows.foldl (· + ·) 0) || p.windows.any (fun w => decide (2300 < w)) ||
    decide (10 < (p.windows.filter (fun w => decide (p.capW < w))).length)

/-- POWER_WINDOW: the mean input power of a window of 1 ms. The core voltage is lowered first, and then the handshakes pause;
both return when the limits hold (R539, R540). -/
def powerWindow (watts : Nat) (m : Module) : Module :=
  let p := m.power
  let ws := p.windows ++ [watts]
  let p1 : PowerSt := { p with windows := ws.drop (ws.length - 100), lastWindow := m.clk.mono }
  { m with power := { p1 with throttle := if p1.exceeds then Min.min 2 (p.throttle + 1) else p.throttle - 1 } }

def execPowerWindow (watts : Nat) (s : State) : Out := runAt (fun m => m.power.lastWindow + ms 1) (powerWindow watts) s

end Sys2Proof.Machine
end

