-- ==== Sys2Proof/Machine/Start.lean ====
section
/-!
DEFINITION. Resets and start-up (R560 to R565), the configuration and the firewall (R402, R403, R498), the pools (R577), the
diagnostics (R567, R573) and test perturbation (R570, R574).
-/

namespace Sys2Proof.Machine

open Sys2Proof

/-! ### Resets of the module -/

/-- A module reset takes hold (R562): the flash and the event queue are written on input power, everything else but what
R563 keeps is lost, and the module is held with the cause. -/
def Module.resetTo (cause : Nat) (m : Module) : Module :=
  let m1 := m.holdupFlush
  let m2 := (m1.writeQueue m1.ev.queue.length).wiped
  { m2 with power := { m2.power with phase := .held, cause := cause } }

/-- RESET_N_LOW and PERST_N_LOW: a running module resets; in its hold-up work or in another reset it is held until the pin
is high again (R558, R560). -/
def resetNLow (m : Module) : Module :=
  let m1 := if m.live then m.resetTo 1 else m
  { m1 with power := { m1.power with resetN := true } }

def perstNLow (m : Module) : Module :=
  let m1 := if m.live then m.resetTo 2 else m
  { m1 with power := { m1.power with perstN := true } }

def execResetNLow (s : State) : Out := runPower resetNLow s
def execPerstNLow (s : State) : Out := runPower perstNLow s

/-- The management RESET (R507): the answer leaves, and the module resets. -/
def mgmtResetAct : MgmtAct := fun g m =>
  if !g.body.isEmpty then (m, only .badField) else ((m.mgmtAnswer 12 g.counter .ok []).resetTo 4, none)

def execMgmtReset (g : MgmtMsg) (s : State) : Out := runReset (mgmtIn 12 false mgmtResetAct g) s

/-! ### Partition resets (R565) -/

/-- Every fused command of partition p ends with CANCELLED, those that wait for a queue place too. -/
def Module.cancelFused (p : Nat) (m : Module) : Module :=
  let waits := m.attn.waiting.filter (fun w => w.2.desc.partition == p)
  let m1 : Module := { m with attn := { m.attn with waiting := m.attn.waiting.filter (fun w => w.2.desc.partition != p) } }
  let m2 := waits.foldl (fun (a : Module) w =>
    let b := a.countFused .cancelled
    match w.2.origin with
    | .submit r i => b.submitDone r i .cancelled
    | _ => b) m1
  m2.attn.cores.keys.foldl (fun (a : Module) k =>
    ((a.core k).fused.filter (fun f => f.desc.partition == p)).foldl (fun (a : Module) f => a.endFused k f.id .cancelled) a) m2

/-- Core programs of partition p stop with fault 0x08, and launches that wait on its cores end. -/
def Module.stopPrograms (p : Nat) (m : Module) : Module :=
  let cores := (List.range 64).filter (fun c => m.corePart c == some p)
  cores.foldl (fun (a : Module) k =>
    let queue := (a.core k).progQueue
    let a1 := queue.foldl (fun (b : Module) l => b.endLaunch l.id) (a.updCore k (fun x => { x with progQueue := [] }))
    if (a1.core k).run.isSome then a1.progFault k 8 else a1) m

/-- The nanoseconds with any slot active are counted up to now. -/
def Module.perturbTime (m : Module) : Module :=
  let m1 := if m.test.slots.isEmpty then m else m.bumpBy Reg.TEST.PERTURB_NS_COUNT (m.clk.mono - m.test.counted)
  { m1 with test := { m1.test with counted := m1.clk.mono } }

/-- Slots that name partition p alone clear (R570). -/
def Module.clearPerturb (p : Nat) (m : Module) : Module :=
  let m1 := m.perturbTime
  { m1 with test := { m1.test with slots := m1.test.slots.keep (fun _ x => x.partition != p) } }

/-- A partition reset, whole: the mask ends the partition's grants and withdraws its requests, and is released at the end;
sequences of published steps whose write phase has not ended leave them; its jobs, programs and commands stop, its objects
are freed, and its cores' memories are zeroed. -/
def Module.partReset (p : Nat) (m : Module) : Module :=
  let m1 := ([89, 90, 91, 92].foldl (fun (a : Module) i =>
    ((List.range 16).foldl (fun (b : Module) t => b.reedDrop i p t) a)) (m.clearPerturb p))
  let open_ := ((m1.pstep p).live.filter (fun s => !s.writing)).flatMap (fun s =>
    (s.seqs.filter (fun q => !q.dropped)).map (·.request))
  let m2 := open_.foldl (fun (a : Module) i => a.leaveStep i) m1
  let jobs := (m2.strand.jobs.filter (fun (_, j) => j.partition == p)).map (·.1)
  let m3 := ((jobs.foldl (fun (a : Module) j => a.stopJob j) m2).stopPrograms p).cancelFused p
  let objs := (m3.lig.objs.filter (fun (_, o) => o.partition == p)).map (·.1)
  let m4 := objs.foldl (fun (a : Module) i => a.ligFreeIndex i) m3
  let m5 := ((List.range 64).filter (fun c => m4.corePart c == some p)).foldl (fun (a : Module) k =>
    a.updCore k (fun x => { x with sram := [], landing := [] })) m4
  (m5.setBit Reg.TEST.RESET_STATE_DONE p).blockEvent 22

/-- A host write of GLOBAL.RESET (R439, R561). MODULE acts alone when PARTITIONS is set too. -/
def resetWrite (value : Nat) (m : Module) : Module :=
  if !m.barUp then m
  else if bits value 15 0 != 0x5A5A then m.dropWrite Reg.GLOBAL.RESET_KEY.off
  else if bit value 24 then m.resetTo 3
  else ((setBitsOf 8 (bits value 23 16)).filter m.present).foldl (fun (a : Module) p => a.partReset p) m

def execModuleReset (value : Nat) (s : State) : Out := runReset (resetWrite value) s
def execPartitionReset (value : Nat) (s : State) : Out := runReset (resetWrite value) s

/-! ### The configuration and the firewall -/

/-- The checks of R403 on a configuration. -/
def configOk (ps : List PartCfg) : Bool :=
  let on (x : PartCfg) : Bool := bit x.flags 0
  let pairs := (List.range 8).flatMap (fun i => (List.range i).map (fun j => (nthD ps i ⟨0, 0, 0, 0, 0, 0, 0, 0⟩,
    nthD ps j ⟨0, 0, 0, 0, 0, 0, 0, 0⟩)))
  pairs.all (fun (a, b) => !on a || !on b || (a.attnMask &&& b.attnMask == 0 &&
    (a.strandCount == 0 || b.strandCount == 0 || decide (a.strandFirst + a.strandCount ≤ b.strandFirst) ||
      decide (b.strandFirst + b.strandCount ≤ a.strandFirst)))) &&
  ps.all (fun x => decide (x.strandFirst + x.strandCount ≤ 1024)) &&
  ps.all (fun x => if on x then x.attnMask != 0 || x.strandCount != 0
    else x.attnMask == 0 && x.strandCount == 0 && x.hbmQuota == 0 && x.entryQuota == 0 && x.ligQuota == 0)

/-- The base and size registers that Crook sets at each start (R74, R133, R184, R220, R251, R286, R340, R362, R486, R577). -/
def crookBases : List Fld := [
  Reg.CAPS.TABLE_BASE_BASE, Reg.CAPS.LIST_POOL_BASE_BASE, Reg.CAPS.SHARE_TABLE_BASE_BASE, Reg.ATTN.NEWSLOT_BASE_BASE,
  Reg.STEP.INPUT_POOL_BASE_BASE, Reg.STEP.SPILL_BASE_BASE, Reg.BUDGET.PREFIX_TABLE_BASE_BASE, Reg.BUDGET.SPEC_BASE_BASE,
  Reg.MOUTH.TEXT_BASE_BASE, Reg.MOUTH.SAMPLE_BASE_BASE, Reg.MOUTH.STOP_BASE_BASE, Reg.BORE.POOL_BASE_BASE,
  Reg.BORE.POOL_SIZE_BYTES, Reg.MIRROR.SHADOW_BASE_BASE, Reg.MIRROR.PENDING_BASE_BASE, Reg.MIRROR.DIRTY_BASE_BASE,
  Reg.CKPT.STAGE_BASE_BASE, Reg.CKPT.BITMAP_BASE_BASE, Reg.BELL.RETAIN_BASE_BASE]

/-- The module with the bases and the fixed sizes of R577 set. -/
def Module.setBases (m : Module) : Module :=
  let m1 := crookBases.foldl (fun (a : Module) f => a.set f (Config.crookRegister f.off).toNat) m
  ((m1.set Reg.CAPS.LIST_POOL_SIZE_BLOCKS 8388608).set Reg.STEP.INPUT_POOL_SIZE_BLOCKS 1048576).set
    Reg.MIRROR.PENDING_SIZE_BYTES (256 * 2 ^ 20)

/-- The module-owned regions as (tier, base, size): tier 0 HBM, 1 LPDDR (R577). -/
def Module.ownRegions (m : Module) : List (Nat × Nat × Nat) :=
  let mib := 2 ^ 20
  [(0, m.get Reg.ATTN.NEWSLOT_BASE_BASE, 256 * mib), (0, m.get Reg.BUDGET.SPEC_BASE_BASE, 128 * mib),
   (0, m.get Reg.MOUTH.SAMPLE_BASE_BASE, 128 * mib), (0, m.get Reg.CKPT.STAGE_BASE_BASE, 56 * mib),
   (1, m.get Reg.CAPS.TABLE_BASE_BASE, 256 * 2 ^ 24), (1, m.get Reg.CAPS.LIST_POOL_BASE_BASE, 4096 * 8388608),
   (1, m.get Reg.CAPS.SHARE_TABLE_BASE_BASE, 16 * 4194304), (1, m.get Reg.STEP.INPUT_POOL_BASE_BASE, 4096 * 1048576),
   (1, m.get Reg.STEP.SPILL_BASE_BASE, 32 * mib), (1, m.get Reg.BUDGET.PREFIX_TABLE_BASE_BASE, 64 * 65536),
   (1, m.get Reg.MOUTH.TEXT_BASE_BASE, 32 * mib), (1, m.get Reg.MOUTH.STOP_BASE_BASE, 8 * mib),
   (1, m.get Reg.BORE.POOL_BASE_BASE, m.get Reg.BORE.POOL_SIZE_BYTES), (1, m.get Reg.MIRROR.SHADOW_BASE_BASE, 48 * mib),
   (1, m.get Reg.MIRROR.PENDING_BASE_BASE, 256 * mib), (1, m.get Reg.MIRROR.DIRTY_BASE_BASE, 2 * mib),
   (1, m.get Reg.CKPT.BITMAP_BASE_BASE, 2 * mib), (1, m.get Reg.BELL.RETAIN_BASE_BASE, 1024 * mib)]

/-- Two ranges meet. -/
def meet (a n b k : Nat) : Bool := decide (0 < n) && decide (0 < k) && decide (a < b + k) && decide (b < a + n)

/-- The checks of R498 on a firewall record under a configuration and module-owned regions. -/
def firewallOk (ps : List PartCfg) (own : List (Nat × Nat × Nat)) (rs : List FwRange) : Bool :=
  let mute (p : Nat) : Bool := bit (nthD ps p ⟨0, 0, 0, 0, 0, 0, 0, 0⟩).flags 1
  rs.all (fun r =>
    rs.all (fun q => r.partition == q.partition || r.tier != q.tier || r.tier == 2 || !meet r.base r.size q.base q.size) &&
    own.all (fun (t, b, n) => t != r.tier || !meet r.base r.size b n) &&
    (!bit r.access 3 || (r.tier == 1 && !mute r.partition)))

/-- Frames of 128 KiB that a list of ranges, sorted by base, covers from reach on. -/
def covered : Nat → List (Nat × Nat) → Nat
  | _, [] => 0
  | reach, (b, n) :: rest =>
    let lo := Max.max reach (b / 131072)
    let hi := if n == 0 then b / 131072 else (b + n - 1) / 131072 + 1
    if lo < hi then hi - lo + covered hi rest else covered reach rest

/-- The whole frames of a memory that lie in no range (R577). -/
def framesLeft (size : Nat) (rs : List (Nat × Nat)) : Nat :=
  size / 131072 - covered 0 (sortBy (fun a b => decide (a.1 ≤ b.1)) rs)

/-- The frame pools sized by the firewall and the module-owned regions, and the quotas and credits of the configuration in
place (R402, R416, R577). -/
def Module.setPools (m : Module) : Module :=
  let used (t : Nat) : List (Nat × Nat) :=
    ((m.firewall.filter (fun r => r.tier == t)).map (fun r => (r.base, r.size))) ++
      ((m.ownRegions.filter (fun r => r.1 == t)).map (fun r => r.2))
  let m1 := (m.set Reg.SLIDE.HBM_POOL_FRAMES (framesLeft hbmSize (used 0))).set Reg.SLIDE.LPDDR_POOL_FRAMES
    (framesLeft lpddrSize (used 1))
  let m2 := (List.range 8).foldl (fun (a : Module) p =>
    ((a.set (Reg.SLIDE.HBM_QUOTA_FRAMES.at 8 p) (a.part p).hbmQuota).set (Reg.STEP.ENTRY_QUOTA_ENTRIES.at 8 p)
      (a.part p).entryQuota).set (Reg.LIG.QUOTA_OBJECTS.at 8 p) (a.part p).ligQuota) m1
  { m2 with sched := { m2.sched with freeCredits :=
    ((List.range 8).filter m2.present).map (fun p => (p, (m2.part p).hostCredits)) } }

/-- Bytes of a firewall range (R497). -/
def FwRange.bytes (r : FwRange) : Bytes :=
  leBytes 1 r.partition ++ leBytes 1 r.tier ++ leBytes 1 r.access ++ zeros 5 ++ leBytes 8 r.base ++ leBytes 8 r.size

/-- The stored configuration and firewall record are applied together, or the default of R403 stands in their place
(R403, R490, R498); each Mute-mode partition gets a state key (R500) and slot arbitration (R432). -/
def Module.applyConfig (m : Module) : Module :=
  let fit := match m.secur.storedParts with
    | some ps => configOk ps
    | none => false
  let ps := if fit then m.secur.storedParts.getD PartCfg.default else PartCfg.default
  let fw := firewallOk ps m.ownRegions m.secur.storedFw
  let parts := if fw then ps else PartCfg.default
  let ranges := if fit && fw then m.secur.storedFw else []
  let m1 : Module := { m with parts := parts, firewall := ranges, sched := { m.sched with configDefault := !fit || !fw } }
  let m2 := (m1.set Reg.SCHED.STATUS_CONFIG_DEFAULT (b2n (!fit || !fw))).set Reg.SEC.STATUS_FIREWALL_DEFAULT (b2n (!fw))
  let m3 := if m.secur.storedParts.isSome && !fit then m2.event 0x0E01 0xFF 2 0 0 else m2
  let m4 := if fw then m3 else m3.event 0x0E01 0xFF 2 1 0
  let m5 := ((List.range 8).filter (fun p => m4.mute p && !m4.secur.stateKeys.has p)).foldl (fun (a : Module) p =>
    { a with free := a.free + 1,
             secur := { a.secur with stateKeys := a.secur.stateKeys.put p (Config.newStateKey a.free) } }) m4
  let m6 := m5.measure 3 0 0 0xFF (parts.flatMap partRecord ++ ranges.flatMap FwRange.bytes)
  if m6.debugLocked then
    (((List.range 93).filter (· != 91)).foldl (fun (a : Module) i =>
      a.set (reedFld Reg.REED.CTRL_SLOT i) 1) m6).noSlots
  else m6

/-! ### Firmware at a start (R490, R493) -/

/-- The images of a kind in the order that the boot tries them, each with whether its signature passes. -/
def FwKind.tries (k : FwKind) (active other : Bool) : List (FwImage × Bool) :=
  match k.old with
  | some o => [(o, active), (k.running, other)]
  | none =>
    match k.staged with
    | some x => if k.selected then [(x, active), (k.running, other)] else [(k.running, active), (x, other)]
    | none => [(k.running, active)]

/-- The slots of a kind after the boot, and none when no image passes. An image that waits for its commit gives way to the
old one; a staged image that boots waits for its commit. -/
def FwKind.start (k : FwKind) (active other : Bool) : Option FwKind :=
  match (k.tries active other).find? (fun (x, ok) => ok && decide (k.rollback ≤ x.version)) with
  | none => none
  | some (x, _) =>
    let k1 := { k with upload := [] }
    if k.old.isSome then some { k1 with running := x, old := none }
    else if k.staged == some x && x != k.running then some k1.boot
    else some { k1 with staged := if k.selected then none else k.staged, selected := false }

/-- The update state that the slots give: an image waits for its commit, one is staged, or neither. -/
def SecSt.restState (s : SecSt) : Nat :=
  if s.dyone.old.isSome || s.crook.old.isSome then 3
  else if s.dyone.staged.isSome || s.crook.staged.isSome then 1 else 0

/-! ### The start -/

/-- A resistance lies in a band (R538, R553). -/
def inBand (lo hi : Nat) (r : Option Nat) : Bool := (r.map (fun x => decide (lo ≤ x) && decide (x ≤ hi))).getD false

/-- The cap that CAP_SEL names (R538). -/
def capOf (r : Option Nat) : Option Nat :=
  ([(900, 1100, 1200), (1800, 2200, 1300), (2710, 3310, 1400), (3620, 4420, 1500), (4550, 5450, 1600), (5600, 6480, 1700),
    (6530, 7430, 1800), (7560, 8560, 1900), (8610, 9570, 2000)].find? (fun (lo, hi, _) => inBand lo hi r)).map
    (fun (_, _, w) => w)

/-- Tests whose failure at a start leaves READY clear, with FAULT_N released (R568). -/
def stopsStart (failed : Nat) : Bool := bit failed 2 || bit failed 4 || bit failed 5

/-- The straps, the hold-up bank and the quick diagnostics of a start (R537, R538, R553, R568, R569). -/
def Module.readStart (x : StartIn) (m : Module) : Module :=
  let pair := inBand 9000 11000 x.pairId
  let m1 : Module := { m with
    power := { m.power with
      capW := (capOf x.capSel).getD 1200
      capDefault := (capOf x.capSel).isNone
      pairDefault := !(pair || inBand 1800 2200 x.pairId)
      holdupLow := decide (x.holdup < 3000) }
    mirror := { m.mirror with linkId := b2n pair }
    test := { m.test with
      failed := x.failed % 64
      cores := if bit x.failed 0 then x.cores % 2 ^ 64 else 0
      strands := if bit x.failed 1 then x.strands.filter (fun c => decide (c < 1024)) else []
      units := if bit x.failed 3 then x.units % 2 ^ 16 else 0 } }
  m1

/-- The measurement of intervals begins with the start. -/
def Module.startTimers (m : Module) : Module :=
  let t := m.clk.mono
  { m with
    bell := { m.bell with lastSample := t }
    caps := { m.caps with lastSweep := t }
    mirror := { m.mirror with lastRecord := t, lastBeat := t, lastNet := t, lastTick := t, lastNetTick := t }
    ftl := { m.ftl with lastFlush := t, lastTemp := t }
    ptp := { m.ptp with lastAnnounce := t }
    test := { m.test with counted := t }
    power := { m.power with lastSample := t, lastWindow := t, released := t } }

/-- RESET_RELEASE: the start-up sequence up to the FTL rebuild (R564). A start while an image waits for its commit ends the update
(R493). With no image of a kind that passes, the module stays in
reset with fault BOOT (R490, R555). -/
def resetRelease (x : StartIn) (m : Module) : Module :=
  if m.power.phase != .held || !m.power.input || !m.power.pwrEn then m
  else
    let m0 : Module := { m with power := { m.power with resetN := false, perstN := false } }
    match m0.secur.dyone.start x.dyone x.dyoneOther, m0.secur.crook.start x.crook x.crookOther with
    | some d, some k =>
      let was := m0.secur.update
      let m1 := (m0.readStart x).startTimers
      let done (k : FwKind) : FwKind := if was == 3 then { k with staged := none, selected := false } else k
      let m2 : Module := { m1 with
        secur := { m1.secur with dyone := done d, crook := done k, log := [] }
        power := { m1.power with phase := .started } }
      let m3 := ((m2.measureFw 1).setBases.evScan).applyConfig
      let m4 := (m3.measureFw 2).setPools
      let st := m4.secur.restState
      (if was == st then m4 else m4.setUpdate st k.running.version).secShow
    | _, _ => m0.fault 1

def execResetRelease (x : StartIn) (s : State) : Out := runPower (resetRelease x) s

/-- READY_SET: the rebuild has run; the START record is queued and READY set (R564). Bore's indexes are found (R277). -/
def readySet (m : Module) : Module :=
  if m.power.up || !m.power.rebuilt || stopsStart m.test.failed then m
  else
    let m1 := (m.findIndexes.event 0x0001 0xFF 0 m.power.cause m.secur.crook.running.version).set Reg.GLOBAL.STATUS_READY 1
    { m1 with power := { m1.power with up := true, startMs := (m1.clk.mono - m1.power.released) / 1000000 } }

def execReadySet (s : State) : Out := run readySet s

/-! ### Diagnostics and perturbation -/

/-- TEST_DIAG (R573). What the selected tests find comes from the hardware: the tests that fail, and the attention cores, the
strand cores and the check-value units at fault. Test 6 needs an unpaired module without a capsule. -/
def testDiagCmd (failed cores : Nat) (strands : List Nat) (units : Nat) (c : RunCmd) (m : Module) : Module :=
  let mask := u8 c.payload 0
  m.checked c [(1, 7)]
    [(!bit mask 7, bad 0), (!bit mask 6 || (m.mirror.state == 0 && m.caps.slots.vals.all (fun k => k.state == 0 || k.state == 6)),
      stop .busy)]
    (fun m =>
      let f := failed &&& mask
      let t := m.test
      let t1 := { t with
        failed := (t.failed - (t.failed &&& mask)) + f
        cores := if bit mask 0 then (if bit f 0 then cores % 2 ^ 64 else 0) else t.cores
        strands := if bit mask 1 then (if bit f 1 then strands.filter (fun x => decide (x < 1024)) else []) else t.strands
        units := if bit mask 3 then (if bit f 3 then units % 2 ^ 16 else 0) else t.units }
      let m1 : Module := { m with test := t1 }
      let m2 := if bit mask 0 then m1.attn.cores.keys.foldl (fun (a : Module) k =>
          let b := a.updCore k (fun x => { x with sram := [] })
          if bit t1.cores k then b.setMode k 0 else b) m1 else m1
      let m3 : Module := if bit mask 1 then
          { m2 with strand := { m2.strand with threads := m2.strand.threads.mapV (fun _ x => { x with slice := [] }) } } else m2
      let m4 := if bit mask 2 then m3.lig.objs.keys.foldl (fun (a : Module) i => a.ligFreeIndex i) m3 else m3
      let m5 : Module := if bit mask 4 then
          { m4 with hbm := m4.hbm.zeroN (m4.get Reg.CKPT.STAGE_BASE_BASE) (56 * 2 ^ 20) } else m4
      let m6 : Module := if bit mask 6 then { m5 with hbm := [], lpddr := [] } else m5
      m6.complete c (if f == 0 then .ok else .damaged)
        (leBytes 1 f ++ zeros 7 ++ leBytes 8 (if bit mask 0 then t1.cores else 0)) noDetail)

def execTestDiag (src : Src) (failed cores : Nat) (strands : List Nat) (units : Nat) (s : State) : Out :=
  run (onCmd 0x1600 src (testDiagCmd failed cores strands units)) s

/-- The modes that a path allows, with the range of AMOUNT (R570). -/
def perturbOk (path mode amount : Nat) : Option Nat :=
  let want := match path with
    | 1 | 3 | 4 | 5 | 7 | 8 => some 1
    | 2 | 10 | 11 => some 2
    | 6 | 9 => some 0
    | _ => none
  match want with
  | none => some 1
  | some w =>
    if mode != w then some 2
    else
      let top := if w == 0 then 1000 else if w == 2 then 90 else if path == 5 then 1000000 else 10000000
      if 1 ≤ amount ∧ amount ≤ top then none else some 4

/-- TEST_PERTURB (R571, R574). -/
def testPerturbCmd (c : RunCmd) (m : Module) : Module :=
  let b := c.payload
  let n := u8 b 0
  let path := u8 b 1
  let p := u8 b 3
  let ms_ := u32 b 8
  let clear := path == 0
  let badAt := if clear then none else perturbOk path (u8 b 2) (u32 b 4)
  let anyMute := m.debugLocked
  m.checked c [(0x0C, 4)]
    [(decide (n ≤ 15), bad 0), (badAt != some 1, bad 1), (if clear then u8 b 2 == 0 else badAt != some 2, bad 2),
     (if clear then p == 0 else p == 0xFF || m.partOk p, bad 3), (if clear then u32 b 4 == 0 else badAt != some 4, bad 4),
     (if clear then ms_ == 0 else decide (1 ≤ ms_) && decide (ms_ ≤ 600000), bad 8),
     (clear || !(p != 0xFF && m.mute p), stop .denied),
     (clear || !(p == 0xFF && anyMute && path != 6 && path != 10), stop .denied)]
    (fun m =>
      let m1 := m.perturbTime
      let slots := if clear then m1.test.slots.del n
        else m1.test.slots.put n ⟨path, u8 b 2, if p == 0xFF then 8 else p, u32 b 4, (m1.clk.now + ms ms_) % 2 ^ 64⟩
      ({ m1 with test := { m1.test with slots := slots } } : Module).ok c [])

def execTestPerturb (src : Src) (s : State) : Out := run (onCmd 0x1610 src testPerturbCmd) s

/-- PERTURB_SLOT_END: the time counter has reached END_NS (R570). -/
def perturbEnd (n : Nat) (m : Module) : Module :=
  match m.test.slots.get n with
  | none => m
  | some x =>
    if m.clk.now < x.endNs then m
    else
      let m1 := m.perturbTime
      ({ m1 with test := { m1.test with slots := m1.test.slots.del n } } : Module).set Reg.TEST.STATUS_EXPIRED 1

def execPerturbSlotEnd (n : Nat) (s : State) : Out :=
  if n < 16 then runAt (fun m => ((m.test.slots.get n).map (fun x => m.dueAt x.endNs)).getD 0) (perturbEnd n) s
  else .refused .illFormed

end Sys2Proof.Machine
end

