-- ==== Sys2Proof/Machine/RegWrite.lean ====
section
/-!
DEFINITION. Host writes to the registers of BAR0 (R439), field by field.
-/

namespace Sys2Proof.Machine

open Sys2Proof

/-- The same field in any element of its array: block, place in the register and access are compared by the row's field. -/
structure Rule where
  fld : Fld
  lo : Nat
  hi : Nat
  deriving DecidableEq, Repr

/-- Fields whose definitions refuse a value outside a range. -/
def refuseRules : List Rule := [
  ⟨Reg.SLIDE.REVIVE_CTRL_LAYERS, 1, 127⟩, ⟨Reg.STEP.CTRL_INGEST_MAX, 1, 4096⟩, ⟨Reg.STEP.CTRL_STEP_TOKENS, 1024, 262144⟩,
  ⟨Reg.BORE.QUERY_CTRL_MAX_HOPS, 1, 1024⟩, ⟨Reg.BORE.QUERY_CTRL_BEAM, 1, 8⟩, ⟨Reg.BORE.REPAIR_CTRL_TOMB_PCT, 1, 100⟩,
  ⟨Reg.BORE.REPAIR_CTRL_SHARE_PCT, 1, 100⟩, ⟨Reg.FTL.GC_CTRL_SHARE_PCT, 1, 100⟩, ⟨Reg.FTL.WEAR_CTRL_SPREAD, 16, 3000⟩,
  ⟨Reg.FTL.SPARE_CTRL_WARN, 513, 10240⟩, ⟨Reg.FTL.ERR_CTRL_REFRESH_BITS, 8, 120⟩, ⟨Reg.FTL.TEMP_CTRL_THROTTLE_C, 50, 89⟩,
  ⟨Reg.MIRROR.HB_LINK_HB_US, 100, 10000⟩, ⟨Reg.MIRROR.HB_LINK_SILENT_MS, 2, 50⟩, ⟨Reg.MIRROR.HB_NET_HB_MS, 1, 50⟩,
  ⟨Reg.CKPT.CTRL_CUT_WAIT_MS, 10, 2000⟩, ⟨Reg.CKPT.CTRL_RATE_GBPS, 1, 400⟩, ⟨Reg.CKPT.WARN_SRC_WINDOW_S, 1, 65535⟩] ++ [
  ⟨Reg.STRAND.CTRL_ISSUE_MAX, 1, 4096⟩, ⟨Reg.STRAND.CTRL_HOST_TIMEOUT_US, 10, 65535⟩,
  ⟨Reg.MBOX.TIMEOUT_HOST_READ_US, 10, 100000⟩, ⟨Reg.MBOX.TIMEOUT_EXEC_S, 1, 65535⟩, ⟨Reg.BELL.SESSION_RETX_US, 50, 8000⟩,
  ⟨Reg.BELL.SESSION_DOWN_MS, 100, 60000⟩, ⟨Reg.TIME.PTP_DOMAIN, 0, 127⟩, ⟨Reg.TIME.STEP_THRESHOLD_NS, 1000, 10000000⟩,
  ⟨Reg.EVREC.USAGE_WARN_PCT, 1, 100⟩, ⟨Reg.EVREC.RATE_PER_TYPE, 1, 65535⟩]

/-- Fields whose definitions store the nearer bound of a range. -/
def clampRules : List Rule := [
  ⟨Reg.CAPS.SWEEP_CTRL_QUARANTINE_MIN, 10, 65535⟩, ⟨Reg.FTL.JOURNAL_CTRL_INTERVAL_US, 1000, 16000⟩,
  ⟨Reg.MIRROR.HB_NET_SILENT_MS, 20, 140⟩, ⟨Reg.SCHED.CTRL_PREEMPT_WINDOW_NS, 0, 1000000⟩,
  ⟨Reg.SCHED.CTRL_HOST_WEIGHT, 1, 15⟩, ⟨Reg.REED.CTRL_N, 2, 256⟩, ⟨Reg.GLOBAL.MSIX_CTRL_HOLDOFF_US, 0, 1000⟩]

/-- A value held to a range. -/
def clamp (lo hi v : Nat) : Nat := Max.max lo (Min.min hi v)

/-- The value that a field takes when the host writes v: none when its definition refuses it. f is the field as its row
gives it. -/
def Module.fieldTakes (m : Module) (f : Fld) (v : Nat) : Option Nat :=
  match refuseRules.find? (fun r => r.fld == f) with
  | some r => if r.lo ≤ v ∧ v ≤ r.hi then some v else none
  | none =>
    match clampRules.find? (fun r => r.fld == f) with
    | some r => some (clamp r.lo r.hi v)
    | none =>
      some (if f == Reg.STEP.CTRL_STEP_MAX then (if 1 ≤ v ∧ v ≤ 1024 then v else 1024)
        else if f == Reg.FTL.GC_CTRL_FREE_TARGET then Max.max v (m.get Reg.FTL.GC_CTRL_FREE_LOW)
        else if f == Reg.SLIDE.HBM_WATER_FREE_TARGET then Max.max v (m.get Reg.SLIDE.HBM_WATER_FREE_LOW)
        else if f == Reg.SLIDE.HOST_WATER_FREE_TARGET then Max.max v (m.get Reg.SLIDE.HOST_WATER_FREE_LOW)
        else if f == Reg.MIRROR.LEASE_LEASE_MS then
          clamp 10 (Min.min 100 (m.get Reg.MIRROR.HB_NET_SILENT_MS - 10)) v
        else if f == Reg.MIRROR.PLACE_PARKED_TIER then (if v == 1 then 1 else 3)
        else v)

/-- What a write of a field does beyond storing it: a lower NET_SILENT_MS lowers LEASE_MS (R340); EPOCH_NS takes effect at once
while no slot runs and at the next cycle start otherwise (R409, R422); a write of STARVE_MODE or N restarts the instance's
counts (R429); WARN of the event recorder follows WARN_PCT (R520). i is the element of the field's array. -/
def Module.afterWrite (f : Fld) (i : Nat) (m : Module) : Module :=
  if f == Reg.MIRROR.HB_NET_SILENT_MS then
    let top := m.get Reg.MIRROR.HB_NET_SILENT_MS - 10
    if top < m.get Reg.MIRROR.LEASE_LEASE_MS then m.set Reg.MIRROR.LEASE_LEASE_MS top else m
  else if f == Reg.SCHED.EPOCH_EPOCH_NS then
    let e := m.get Reg.SCHED.EPOCH_EPOCH_NS
    if m.sched.epoch ≤ m.clk.now then { m with sched := { m.sched with nextEpoch := some e } }
    else
      ({ m with sched := { m.sched with epoch := e, nextEpoch := none } } : Module).set Reg.SCHED.STATUS_BEFORE_EPOCH
        (b2n (decide (m.clk.now < e)))
  else if f == Reg.REED.CTRL_STARVE_MODE || f == Reg.REED.CTRL_N then
    let x := m.reedInst i
    if m.reed.has i then
      m.setReed i { x with nth := 0, waiting := x.waiting.map (fun r => { r with waited := 0, flagged := false }) }
    else m
  else if f == Reg.EVREC.USAGE_WARN_PCT then m.sectorFlags
  else m

/-- A write of bytes at an offset within the register at base, as it meets one field of the register: the field's bits of the
bytes written, the other bits as they stand. An RW1C field loses the bits written as 1. The result is none when the field
refuses the value. -/
def Module.writeField (base sub bytes value : Nat) (r : RegRow) (m : Module) : Option Module :=
  let i := (base - r.fld.off) / r.stride
  let f := r.fld.at r.stride i
  if f.acc == .rw1c then
    let ones := bits (mergeWrite 0 sub bytes value) f.hi f.lo
    let old := m.get f
    some (m.set f (old - (old &&& ones)))
  else
    match m.fieldTakes r.fld (bits (mergeWrite (m.reg base) sub bytes value) f.hi f.lo) with
    | some v => some ((m.set f v).afterWrite r.fld i)
    | none => none

/-- The write of a register covers some bit of a field. -/
def covers (sub bytes : Nat) (f : Fld) : Bool := decide (8 * sub ≤ f.hi) && decide (f.lo < 8 * (sub + bytes))

/-- A write to a register that has no row of its own: judged field by field (R439). -/
def plainWrite (off bytes value : Nat) (m : Module) : Module :=
  let base := off / 8 * 8
  let sub := off % 8
  let rows := (rowsAt base).filter (fun r => r.fld.host && covers sub bytes r.fld)
  let done := rows.foldl (fun (acc : Module × Bool) r =>
    match acc.1.writeField base sub bytes value r with
    | some m1 => (m1, acc.2)
    | none => (acc.1, false)) (m, true)
  if rows.isEmpty || !done.2 then done.1.dropWrite off else done.1

/-- REGISTER_WRITE: bytes at a BAR0 offset. The mailbox slots, OWNm, GLOBAL.RESET, RING_TAILp, CURSOR and WINDOW_CTRL are
written as their own rows say. -/
def registerWrite (off bytes value : Nat) (m : Module) : Module :=
  let base := off / 8 * 8
  let sub := off % 8
  if !m.barUp then m
  else if 0x100000 ≤ off ∧ off < 0x180000 then
    slotWrite ((off - 0x100000) / 0x2000) ((off - 0x100000) % 0x2000) (leBytes bytes value) m
  else if !regWriteOk sub bytes then m.dropWrite off
  else if 0x180000 ≤ base ∧ base < 0x180200 then
    if sub == 0 then mailboxGo ((base - 0x180000) / 8) value m else m.dropWrite off
  else if base == Reg.GLOBAL.RESET_KEY.off then
    if sub == 0 then resetWrite value m else m.dropWrite off
  else if (ringTail 0).off ≤ base ∧ base < (ringTail 8).off then
    if sub == 0 then ringTailWrite ((base - (ringTail 0).off) / 8) (value % 2 ^ 30) m else m.dropWrite off
  else if base == Reg.EVREC.CURSOR_SEQ.off then cursorWrite sub bytes value m
  else if base == Reg.EVREC.WINDOW_CTRL_ADVANCE.off then advanceWrite sub bytes value m
  else plainWrite off bytes value m

def execRegisterWrite (off bytes value : Nat) (s : State) : Out :=
  if off < 0x2000000 then runReset (registerWrite off bytes value) s else .refused .illFormed

end Sys2Proof.Machine
end

