-- ==== Sys2Proof/Machine/StrandWord.lean ====
section
/-!
DEFINITION. The strand instruction word (R368), its encoder, and which words are instructions (R369, R371).
-/

namespace Sys2Proof.Machine

open Sys2Proof

/-- The fields of a strand instruction word. -/
structure SWord where
  op : BitVec 8
  d : BitVec 6
  a : BitVec 6
  b : BitVec 6
  c : BitVec 6
  imm : BitVec 32
  deriving DecidableEq, Repr

/-- The fields that a 64-bit word holds (R368). -/
def SWord.decode (w : Word) : SWord :=
  { op := w.extractLsb' 56 8, d := w.extractLsb' 50 6, a := w.extractLsb' 44 6, b := w.extractLsb' 38 6,
    c := w.extractLsb' 32 6, imm := w.extractLsb' 0 32 }

/-- The 64-bit word of the fields (R368). -/
def SWord.encode (s : SWord) : Word := s.op ++ s.d ++ s.a ++ s.b ++ s.c ++ s.imm

/-- imm: IMM sign-extended to 64 bits. -/
def SWord.imm64 (s : SWord) : Word := s.imm.signExtend 64

/-- What an opcode may carry in IMM. -/
inductive ImmUse where
  | none
  | any
  | atMost (n : Nat)
  | issue
  deriving DecidableEq, Repr

/-- The fields that an opcode uses: D, A, B, C and IMM (R369). -/
structure OpUse where
  d : Bool
  a : Bool
  b : Bool
  c : Bool
  imm : ImmUse
  deriving DecidableEq, Repr

/-- The mailbox opcodes that EISS may issue (R371). -/
def issueOpcodes : List Nat :=
  [0x0300, 0x0421, 0x0422, 0x0501, 0x0502, 0x0503, 0x0730, 0x0810, 0x0820, 0x0821]

/-- The fields of an opcode; none for a reserved opcode. -/
def opUse (op : Nat) : Option OpUse :=
  if op == 0x00 || op == 0x38 || op == 0x39 then some ⟨false, false, false, false, .none⟩
  else if 0x01 ≤ op ∧ op ≤ 0x0E then some ⟨true, true, true, false, .none⟩
  else if op == 0x0F then some ⟨true, true, true, true, .none⟩
  else if op == 0x10 then some ⟨true, true, false, false, .none⟩
  else if 0x11 ≤ op ∧ op ≤ 0x14 then some ⟨true, true, false, false, .any⟩
  else if 0x15 ≤ op ∧ op ≤ 0x17 then some ⟨true, true, false, false, .atMost 63⟩
  else if op == 0x18 || op == 0x19 then some ⟨true, false, false, false, .any⟩
  else if 0x30 ≤ op ∧ op ≤ 0x35 then some ⟨false, true, true, false, .any⟩
  else if op == 0x36 then some ⟨true, false, false, false, .any⟩
  else if op == 0x37 then some ⟨true, true, false, false, .any⟩
  else if op == 0x3A then some ⟨true, false, false, false, .atMost 6⟩
  else if 0x40 ≤ op ∧ op ≤ 0x44 then some ⟨true, true, false, false, .any⟩
  else if 0x45 ≤ op ∧ op ≤ 0x48 then some ⟨false, true, true, false, .any⟩
  else if op == 0x49 || op == 0x4A then some ⟨true, true, true, false, .any⟩
  else if op == 0x4B then some ⟨true, true, true, true, .any⟩
  else if op == 0x4C then some ⟨false, false, false, false, .atMost 1⟩
  else if 0x50 ≤ op ∧ op ≤ 0x52 then some ⟨true, true, true, false, .any⟩
  else if op == 0x53 || op == 0x54 then some ⟨false, true, true, true, .any⟩
  else if op == 0x55 then some ⟨true, true, true, true, .any⟩
  else if op == 0x60 then some ⟨true, true, true, true, .issue⟩
  else if op == 0x70 then some ⟨true, true, true, true, .atMost 63⟩
  else if op == 0x71 then some ⟨true, false, false, false, .none⟩
  else if op == 0x72 then some ⟨false, true, true, false, .none⟩
  else if op == 0x80 then some ⟨true, false, false, false, .any⟩
  else if op == 0x81 || op == 0x84 then some ⟨true, true, false, false, .none⟩
  else if op == 0x82 || op == 0x85 then some ⟨true, true, true, false, .none⟩
  else if op == 0x83 then some ⟨true, true, false, false, .any⟩
  else if op == 0x86 then some ⟨true, true, false, true, .any⟩
  else none

/-- IMM is one that the opcode may carry. -/
def immOk (u : ImmUse) (imm : Nat) : Bool :=
  match u with
  | .none => imm == 0
  | .any => true
  | .atMost n => decide (imm ≤ n)
  | .issue => issueOpcodes.contains imm

/-- The word is an instruction: its opcode is defined, its unused fields are zero and its IMM is not reserved. -/
def SWord.ok (s : SWord) : Bool :=
  match opUse s.op.toNat with
  | none => false
  | some u => (u.d || s.d == 0) && (u.a || s.a == 0) && (u.b || s.b == 0) && (u.c || s.c == 0) &&
      immOk u.imm s.imm.toNat

end Sys2Proof.Machine
end

