-- ==== Sys2Proof/Machine/Strand.lean ====
section
/-!
DEFINITION. The strand instructions that reach registers, memory and Ligature objects (R364 to R370, R374, R375, R386),
and the events of their accesses.
-/

namespace Sys2Proof.Machine

open Sys2Proof

/-! ### Issue -/

/-- The register values that an instruction reads. -/
structure SVals where
  a : Word
  b : Word
  c : Word
  d : Word
  imm : Word
  deriving DecidableEq, Repr

/-- The instruction word at thread t's program counter; none where the counter lies outside the program's image. -/
def Module.fetchWord (m : Module) (t : Nat) : Option Word :=
  match m.strand.threads.get t, m.threadProg t with
  | some th, some p =>
    if 0x10000000 ≤ th.pc ∧ th.pc + 8 ≤ 0x10000000 + p.bytes then
      some (BitVec.ofNat 64 (m.hbm.num (p.addr + (th.pc - 0x10000000)) 8))
    else none
  | _, _ => none

/-- Thread t can issue: it is in a job, not suspended and not waiting. A wait for the host link ends by issuing the
instruction again. -/
def Module.canIssue (m : Module) (t : Nat) : Bool :=
  match m.strand.threads.get t with
  | some th => !th.suspended && (match th.wait with
      | .none => true
      | .host _ _ => true
      | _ => false)
  | none => false

/-- A load in flight has yet to write register r. -/
def Thread.pendingReg (th : Thread) (r : Nat) : Bool := r != 0 && th.loads.any (fun l => l.reg == r)

/-- The registers that a word reads: the sources that its opcode uses, and D where D is read. -/
def SWord.reads (w : SWord) : List Nat :=
  match opUse w.op.toNat with
  | none => []
  | some u =>
    (if u.a then [w.a.toNat] else []) ++ (if u.b then [w.b.toNat] else []) ++ (if u.c && w.op != 0x86#8 then [w.c.toNat] else []) ++
    (if w.op == 0x19#8 || w.op == 0x55#8 then [w.d.toNat] else [])

/-- The values that a word reads from a thread. -/
def Thread.vals (th : Thread) (w : SWord) : SVals :=
  ⟨th.reg w.a.toNat, th.reg w.b.toNat, th.reg w.c.toNat, th.reg w.d.toNat, w.imm64⟩

/-- Thread t issues the instruction at its program counter, when that has opcode op: f acts on it. A counter outside the
image faults with ADDRESS (assumption 40). A thread that reads a register which a load has yet to write stalls, as it does
while the instruction itself has to wait to begin (R375); an instruction that waited for the host link is counted once. -/
def issueWhen (op t : Nat) (stalls : SWord → Thread → SVals → Module → Bool)
    (f : SWord → Thread → SVals → Module → Module) (m : Module) : Module :=
  if !m.canIssue t then m
  else
    match m.strand.threads.get t with
    | none => m
    | some th =>
      match m.fetchWord t with
      | none => m.strandFault t 0x02 th.pc
      | some word =>
        let w := SWord.decode word
        if w.op.toNat != op || !w.ok || w.reads.any th.pendingReg || stalls w th (th.vals w) m then m
        else
          let m1 := if th.wait == .none then m.bump Reg.STRAND.INSTRUCTIONS_COUNT else m
          f w th (th.vals w) (m1.updThread t (fun x => { x with wait := .none }))

/-- An instruction that nothing but a register in flight holds up. -/
def issue (op t : Nat) (f : SWord → Thread → SVals → Module → Module) : Module → Module :=
  issueWhen op t (fun _ _ _ _ => false) f

/-- The next instruction's address. -/
def nextPc (pc : Nat) : Nat := (pc + 8) % 2 ^ 64

/-- Thread t goes past its instruction, with register d written. -/
def Module.retire (t d : Nat) (v : Word) (m : Module) : Module :=
  m.updThread t (fun th => { (th.setReg d v) with pc := nextPc th.pc })

/-- Thread t goes past its instruction. -/
def Module.pass (t : Nat) (m : Module) : Module := m.updThread t (fun th => { th with pc := nextPc th.pc })

/-- An instruction that computes d from what it reads. -/
def alu (op t : Nat) (g : SVals → Word) : Module → Module :=
  issue op t (fun w _ v m => m.retire t w.d.toNat (g v))

/-- A branch: pc + 8 × imm when the condition holds. -/
def branch (op t : Nat) (g : SVals → Bool) : Module → Module :=
  issue op t (fun _ _ v m =>
    if g v then m.updThread t (fun th => { th with pc := (BitVec.ofNat 64 th.pc + 8 * v.imm).toNat }) else m.pass t)

/-- 1 or 0 as a register value. -/
def bword (b : Bool) : Word := if b then 1 else 0

def execStrandNop (t : Nat) (s : State) : Out := run (issue 0x00 t (fun _ _ _ m => m.pass t)) s
def execSAdd (t : Nat) (s : State) : Out := run (alu 0x01 t (fun v => v.a + v.b)) s
def execSSub (t : Nat) (s : State) : Out := run (alu 0x02 t (fun v => v.a - v.b)) s
def execSMul (t : Nat) (s : State) : Out := run (alu 0x03 t (fun v => v.a * v.b)) s
def execSMulhu (t : Nat) (s : State) : Out :=
  run (alu 0x04 t (fun v => BitVec.ofNat 64 (v.a.toNat * v.b.toNat / 2 ^ 64))) s
def execSDivu (t : Nat) (s : State) : Out :=
  run (alu 0x05 t (fun v => if v.b == 0 then 0xFFFFFFFFFFFFFFFF else v.a / v.b)) s
def execSRemu (t : Nat) (s : State) : Out := run (alu 0x06 t (fun v => if v.b == 0 then v.a else v.a % v.b)) s
def execSAnd (t : Nat) (s : State) : Out := run (alu 0x07 t (fun v => v.a &&& v.b)) s
def execSOr (t : Nat) (s : State) : Out := run (alu 0x08 t (fun v => v.a ||| v.b)) s
def execSXor (t : Nat) (s : State) : Out := run (alu 0x09 t (fun v => v.a ^^^ v.b)) s
def execSShl (t : Nat) (s : State) : Out := run (alu 0x0A t (fun v => v.a <<< (v.b.toNat % 64))) s
def execSShr (t : Nat) (s : State) : Out := run (alu 0x0B t (fun v => v.a >>> (v.b.toNat % 64))) s
def execSSra (t : Nat) (s : State) : Out := run (alu 0x0C t (fun v => v.a.sshiftRight (v.b.toNat % 64))) s
def execSSlt (t : Nat) (s : State) : Out := run (alu 0x0D t (fun v => bword (v.a.slt v.b))) s
def execSSltu (t : Nat) (s : State) : Out := run (alu 0x0E t (fun v => bword (v.a.ult v.b))) s
def execSSel (t : Nat) (s : State) : Out := run (alu 0x0F t (fun v => if v.c != 0 then v.a else v.b)) s
def execSPopc (t : Nat) (s : State) : Out := run (alu 0x10 t (fun v => BitVec.ofNat 64 (popcount 64 v.a.toNat))) s
def execSAddi (t : Nat) (s : State) : Out := run (alu 0x11 t (fun v => v.a + v.imm)) s
def execSAndi (t : Nat) (s : State) : Out := run (alu 0x12 t (fun v => v.a &&& v.imm)) s
def execSOri (t : Nat) (s : State) : Out := run (alu 0x13 t (fun v => v.a ||| v.imm)) s
def execSXori (t : Nat) (s : State) : Out := run (alu 0x14 t (fun v => v.a ^^^ v.imm)) s
def execSShli (t : Nat) (s : State) : Out := run (alu 0x15 t (fun v => v.a <<< (v.imm.toNat % 64))) s
def execSShri (t : Nat) (s : State) : Out := run (alu 0x16 t (fun v => v.a >>> (v.imm.toNat % 64))) s
def execSSrai (t : Nat) (s : State) : Out := run (alu 0x17 t (fun v => v.a.sshiftRight (v.imm.toNat % 64))) s
def execSLdi (t : Nat) (s : State) : Out := run (alu 0x18 t (fun v => v.imm)) s
def execSLdih (t : Nat) (s : State) : Out :=
  run (alu 0x19 t (fun v => (v.d &&& 0xFFFFFFFF) ||| (v.imm <<< 32))) s
def execSBeq (t : Nat) (s : State) : Out := run (branch 0x30 t (fun v => v.a == v.b)) s
def execSBne (t : Nat) (s : State) : Out := run (branch 0x31 t (fun v => v.a != v.b)) s
def execSBlt (t : Nat) (s : State) : Out := run (branch 0x32 t (fun v => v.a.slt v.b)) s
def execSBge (t : Nat) (s : State) : Out := run (branch 0x33 t (fun v => !(v.a.slt v.b))) s
def execSBltu (t : Nat) (s : State) : Out := run (branch 0x34 t (fun v => v.a.ult v.b)) s
def execSBgeu (t : Nat) (s : State) : Out := run (branch 0x35 t (fun v => !(v.a.ult v.b))) s

/-- JAL: d = pc + 8; pc = pc + 8 × imm. -/
def jal (t : Nat) : Module → Module :=
  issue 0x36 t (fun w th v m => m.updThread t (fun x =>
    { (x.setReg w.d.toNat (BitVec.ofNat 64 (nextPc th.pc))) with pc := (BitVec.ofNat 64 th.pc + 8 * v.imm).toNat }))

/-- JALR: the target must be a multiple of 8 and lie in CODE, else the thread faults with JUMP. -/
def jalr (t : Nat) : Module → Module :=
  issue 0x37 t (fun w th v m =>
    let target := (v.a + v.imm).toNat
    let size := ((m.threadProg t).map (·.bytes)).getD 0
    if target % 8 == 0 && decide (0x10000000 ≤ target) && decide (target < 0x10000000 + size) then
      m.updThread t (fun x => { (x.setReg w.d.toNat (BitVec.ofNat 64 (nextPc th.pc))) with pc := target })
    else m.strandFault t 0x04 target)

def execSJal (t : Nat) (s : State) : Out := run (jal t) s
def execSJalr (t : Nat) (s : State) : Out := run (jalr t) s
def execSHalt (t : Nat) (s : State) : Out := run (issue 0x38 t (fun _ _ _ m => m.haltThread t)) s
def execSYield (t : Nat) (s : State) : Out := run (issue 0x39 t (fun _ _ _ m => m.pass t)) s

/-- The special values of GETS (R370). -/
def specialValue (m : Module) (t : Nat) (th : Thread) (i : Nat) : Word :=
  let job := m.strand.jobs.get th.job
  BitVec.ofNat 64 (
    if i == 0 then th.index
    else if i == 1 then (job.map (·.threads)).getD 0
    else if i == 2 then th.job
    else if i == 3 then (job.map (·.partition)).getD 0
    else if i == 4 then t / 8
    else if i == 5 then m.clk.now
    else m.get Reg.MIRROR.STATE_LINK_ID)

def execSGets (t : Nat) (s : State) : Out :=
  run (issue 0x3A t (fun w th _ m => m.retire t w.d.toNat (specialValue m t th w.imm.toNat))) s

/-! ### Memory -/

/-- A fault of an access: a denial of the firewall is counted (R498). -/
def Module.accessFault (t cause addr : Nat) (m : Module) : Module :=
  let m1 := match place addr with
    | .hbm _ | .lpddr _ | .host _ => if cause == 0x02 then m.bump Reg.SEC.FIREWALL_DENIALS_COUNT else m
    | _ => m
  m1.strandFault t cause addr

/-- Free host-link credits of partition p (R416). -/
def Module.credits (m : Module) (p : Nat) : Nat := m.sched.freeCredits.getD p 0

/-- A job takes n credits of its partition's pool. -/
def Module.takeCredits (j n : Nat) (m : Module) : Module :=
  match m.strand.jobs.get j with
  | none => m
  | some job =>
    { (m.updJob j (fun x => { x with credits := x.credits + n })) with
      sched := { m.sched with freeCredits := m.sched.freeCredits.put job.partition (m.credits job.partition - n) } }

/-- A job returns n credits. -/
def Module.giveCredits (j n : Nat) (m : Module) : Module :=
  match m.strand.jobs.get j with
  | none => m
  | some job =>
    { (m.updJob j (fun x => { x with credits := x.credits - n })) with
      sched := { m.sched with freeCredits := m.sched.freeCredits.put job.partition (m.credits job.partition + n) } }

/-- Credits of an access of n bytes at address a: one for each 64-byte unit that it touches (R416). -/
def accessUnits (a n : Nat) : Nat := (a % 64 + n + 63) / 64

/-- A HOST access that may be made and cannot begin: the thread waits for the link already, or too few credits are free (R416). -/
def hostStall (t a n : Nat) (write atomic : Bool) (th : Thread) (m : Module) : Bool :=
  a % n == 0 && (m.strandCheck t a n write atomic).isNone && isHostPlace a &&
    (if m.hostUp then decide (m.credits (m.threadPart t) < accessUnits a n) else th.wait != .none)

/-- An access of n bytes at address a: alignment first, then the windows and the firewall; then go acts. A HOST access
waits while the link carries nothing, until HOST_TIMEOUT_US have passed since it began to (R366). -/
def access (t a n : Nat) (write atomic : Bool) (go : Module → Module) (m : Module) : Module :=
  if a % n != 0 then m.strandFault t 0x01 a
  else
    match m.strandCheck t a n write atomic with
    | some cause => m.accessFault t cause a
    | none =>
      if isHostPlace a && !m.hostUp then m.updThread t (fun th => { th with wait := .host a m.clk.mono })
      else go m

/-- A load of n bytes: its value is taken at issue, from the data cache where that holds it (R374), and its register is written when it returns (R375). -/
def load (op t n : Nat) (g : Nat → Word) : Module → Module :=
  issueWhen op t (fun _ th v m => decide (8 ≤ th.loads.length) || hostStall t (v.a + v.imm).toNat n false false th m)
    (fun w th v m =>
      let a := (v.a + v.imm).toNat
      access t a n false false (fun m =>
        let host := isHostPlace a
        let (b, m0) := m.strandLoad t a n
        let m1 := if host then m0.takeCredits th.job 1 else m0
        m1.updThread t (fun x =>
          { x with
            loads := (x.loads.map (fun l => if l.reg == w.d.toNat then { l with reg := 0 } else l)) ++
              [⟨w.d.toNat, g (leNat b), host, th.pc, a, m.clk.mono, host⟩],
            pc := nextPc x.pc })) m)

/-- A store of the low n bytes of b. -/
def store (op t n : Nat) : Module → Module :=
  issueWhen op t (fun _ th v m => hostStall t (v.a + v.imm).toNat n true false th m) (fun _ th v m =>
    let a := (v.a + v.imm).toNat
    access t a n true false (fun m =>
      let m1 := m.strandStore t a (leBytes n v.b.toNat)
      if isHostPlace a then
        (m1.takeCredits th.job 1).updThread t (fun x =>
          { x with stores := x.stores ++ [⟨th.pc, a, m.clk.mono, true⟩], pc := nextPc x.pc })
      else m1.pass t) m)

/-- An atomic: d is the old value that memory holds, and g gives the new value, none to leave memory alone (R374). -/
def atomic (op t : Nat) (g : SVals → Word → Option Word) : Module → Module :=
  issue op t (fun w _ v m =>
    let a := (v.a + v.imm).toNat
    access t a 8 true true (fun m =>
      let old := BitVec.ofNat 64 (leNat (m.strandRead t a 8))
      let m1 := match g v old with
        | some x => m.strandStore t a (leBytes 8 x.toNat)
        | none => m
      m1.retire t w.d.toNat old) m)

def execSLd8u (t : Nat) (s : State) : Out := run (load 0x40 t 1 (BitVec.ofNat 64)) s
def execSLd16u (t : Nat) (s : State) : Out := run (load 0x41 t 2 (BitVec.ofNat 64)) s
def execSLd32u (t : Nat) (s : State) : Out := run (load 0x42 t 4 (BitVec.ofNat 64)) s
def execSLd32s (t : Nat) (s : State) : Out :=
  run (load 0x43 t 4 (fun n => (BitVec.ofNat 32 n).signExtend 64)) s
def execSLd64 (t : Nat) (s : State) : Out := run (load 0x44 t 8 (BitVec.ofNat 64)) s
def execSSt8 (t : Nat) (s : State) : Out := run (store 0x45 t 1) s
def execSSt16 (t : Nat) (s : State) : Out := run (store 0x46 t 2) s
def execSSt32 (t : Nat) (s : State) : Out := run (store 0x47 t 4) s
def execSSt64 (t : Nat) (s : State) : Out := run (store 0x48 t 8) s
def execSAmoadd (t : Nat) (s : State) : Out := run (atomic 0x49 t (fun v old => some (old + v.b))) s
def execSAmoswap (t : Nat) (s : State) : Out := run (atomic 0x4A t (fun v _ => some v.b)) s
def execSAmocas (t : Nat) (s : State) : Out :=
  run (atomic 0x4B t (fun v old => if old == v.c then some v.b else none)) s

/-- FENCE: earlier loads have returned, and with IMM 1 the host link has acknowledged earlier HOST stores. -/
def fence (t : Nat) : Module → Module :=
  issueWhen 0x4C t (fun _ th _ _ => !th.loads.isEmpty) (fun w th _ m =>
    if w.imm == 1#32 && !th.stores.isEmpty then m.updThread t (fun x => { x with wait := .fence })
    else m.pass t)

def execSFence (t : Nat) (s : State) : Out := run (fence t) s

/-- LOAD_RETURN: the oldest load in flight of thread t completes and writes its register; a HOST load returns its
credit. A load through the host link returns only while the link carries it. -/
def loadReturn (t : Nat) (m : Module) : Module :=
  match m.strand.threads.get t with
  | none => m
  | some th =>
    match th.loads with
    | [] => m
    | l :: ls =>
      if l.host && !m.hostUp then m
      else
        let m1 := m.updThread t (fun x =>
          { x with loads := ls, regs := (if l.reg == 0 then x.regs else if l.value == 0 then x.regs.del l.reg else x.regs.put l.reg l.value) })
        if l.credited then m1.giveCredits th.job 1 else m1

def execLoadReturn (t : Nat) (s : State) : Out := run (loadReturn t) s

/-- HOST_WRITE_ACKNOWLEDGED: the host link acknowledges thread t's oldest HOST store, which returns its credit, and with
the last one a FENCE with IMM 1 goes on. -/
def hostWriteAck (t : Nat) (m : Module) : Module :=
  match m.strand.threads.get t with
  | none => m
  | some th =>
    match th.stores with
    | [] => m
    | st :: rest =>
      if !m.hostUp then m
      else
        let m1 := if st.credited then m.giveCredits th.job 1 else m
        m1.updThread t (fun x =>
          if x.wait == .fence && rest.isEmpty then { x with stores := rest, wait := .none, pc := nextPc x.pc }
          else { x with stores := rest })

def execHostWriteAcknowledged (t : Nat) (s : State) : Out := run (hostWriteAck t) s

/-- When the oldest HOST access of thread t started, where, and at which address. -/
def Thread.hostAccess (th : Thread) : Option (Nat × Nat × Nat) :=
  match th.wait with
  | .host a start => some (start, th.pc, a)
  | _ =>
    match th.loads.find? (·.host), th.stores with
    | some l, s :: _ => some (if l.start ≤ s.start then (l.start, l.pc, l.addr) else (s.start, s.pc, s.addr))
    | some l, [] => some (l.start, l.pc, l.addr)
    | none, s :: _ => some (s.start, s.pc, s.addr)
    | none, [] => none

/-- When the HOST access of thread t times out. -/
def hostAccessDue (t : Nat) (m : Module) : Nat :=
  match (m.strand.threads.get t).bind Thread.hostAccess with
  | some (start, _, _) => start + us (m.get Reg.STRAND.CTRL_HOST_TIMEOUT_US)
  | none => 0

/-- HOST_ACCESS_TIMEOUT: an unanswered HOST access faults with HOST_LINK at its instruction (R366). -/
def hostAccessTimeout (t : Nat) (m : Module) : Module :=
  match (m.strand.threads.get t).bind Thread.hostAccess with
  | some (_, pc, a) => (m.updThread t (fun th => { th with pc := pc })).strandFault t 0x0A a
  | none => m

def execHostAccessTimeout (t : Nat) (s : State) : Out := runAt (hostAccessDue t) (hostAccessTimeout t) s

/-! ### Generator -/

def execSRand (t : Nat) (s : State) : Out :=
  run (issue 0x71 t (fun w th _ m =>
    let (st, v) := Config.rngNext th.rng
    (m.updThread t (fun x => { x with rng := st })).retire t w.d.toNat v)) s
def execSRseed (t : Nat) (s : State) : Out :=
  run (issue 0x72 t (fun _ _ v m => (m.updThread t (fun x => { x with rng := (v.a.toNat, v.b.toNat) })).pass t)) s

/-! ### Ligature instructions (R386) -/

/-- The object that thread t names: an object of another partition or one that does not exist faults with OBJECT, one
revoked for the thread's job gives REVOKED, and otherwise go acts (R376, R383, R392). -/
def withObject (t h : Nat) (revoked : Module → Module) (go : Nat → LigObj → Module → Module) (m : Module) : Module :=
  match m.ligFind h with
  | none => m.strandFault t 0x0C h
  | some (i, o) =>
    if o.partition != m.threadPart t then m.strandFault t 0x0C h
    else if o.revokedJob == (m.strand.threads.get t).map (·.job) && o.revokedJob.isSome && !o.ended then revoked m
    else go i o m

/-- A status as a register value. -/
def stWord (s : Status) : Word := BitVec.ofNat 64 s.code

/-- LALLOC: a handle, or 2^63 with a status (R370, R384). -/
def lalloc (t : Nat) : Module → Module :=
  issue 0x80 t (fun w th _ m =>
    let imm := w.imm.toNat
    match m.ligAlloc (m.threadPart t) (some th.job) (imm % 256) (imm / 256) with
    | (m1, .inr h) => m1.retire t w.d.toNat (BitVec.ofNat 64 h)
    | (m1, .inl st) => m1.retire t w.d.toNat (BitVec.ofNat 64 (2 ^ 63 + st.code)))

/-- LFREE (R390, R391): only the owning job's thread; an object with waiters is BUSY. The window of a job that frees its
last object ends at once (R417). -/
def lfree (t : Nat) : Module → Module :=
  issue 0x81 t (fun w th v m =>
    let m := m.bump Reg.LIG.OPS_COUNT
    withObject t v.a.toNat (fun m => m.retire t w.d.toNat (stWord .revoked)) (fun i o m =>
      if o.owner != some th.job then m.retire t w.d.toNat (stWord .denied)
      else if !o.waiters.isEmpty then m.retire t w.d.toNat (stWord .busy)
      else
        let m1 := (m.ligFreeIndex i).retire t w.d.toNat (stWord .ok)
        let open_ := ((m1.strand.jobs.get th.job).map (fun j => j.window.isSome)).getD false
        if open_ && (m1.ownedBy th.job).isEmpty then m1.suspendJob th.job else m1) m)

/-- LSIG and LSEND. -/
def ligPost (op t : Nat) (f : Nat → LigObj → Nat → Module → Module × Status) : Module → Module :=
  issue op t (fun w _ v m =>
    withObject t v.a.toNat (fun m => m.retire t w.d.toNat (stWord .revoked)) (fun i o m =>
      let (m1, st) := f i o v.b.toNat m
      m1.retire t w.d.toNat (stWord st)) m)

/-- LWAIT, LTRY and LRECV: what the bank has is taken at once, an acquire (R374), or the thread waits. -/
def ligTakeOp (op t : Nat) (recv : Bool) (take : LigObj → Take) : Module → Module :=
  issue op t (fun w _ v m =>
    let m := m.bump Reg.LIG.OPS_COUNT
    let result (st : Status) (msg : Nat) (m : Module) : Module :=
      let m := if st == .ok then m.dropLines t else m
      if recv then
        let m1 := if st == .ok then m.updThread t (fun x => x.setReg w.d.toNat (BitVec.ofNat 64 msg)) else m
        m1.retire t w.c.toNat (stWord st)
      else m.retire t w.d.toNat (stWord st)
    withObject t v.a.toNat (result .revoked 0) (fun i o m =>
      match take o with
      | .done o1 woken st msg =>
        result st msg (woken.foldl (fun (a : Module) x => a.wake x .ok 0) (m.ligPut i o1))
      | .wait o1 =>
        let imm := w.imm.toNat
        let x : LigWait := ⟨.thread t, m.clk.mono, if imm == 0 then none else some (us imm), recv⟩
        ((m.ligPut i { o1 with waiters := o1.waiters ++ [x] }).updThread t (fun th =>
          { th with wait := .lig i w.d.toNat w.c.toNat recv })).bump Reg.LIG.WAITS_COUNT) m)

def execSLalloc (t : Nat) (s : State) : Out := run (lalloc t) s
def execSLfree (t : Nat) (s : State) : Out := run (lfree t) s
def execSLsig (t : Nat) (s : State) : Out := run (ligPost 0x82 t (fun i o b m => m.ligSignal i o b)) s
def execSLwait (t : Nat) (s : State) : Out := run (ligTakeOp 0x83 t false (fun o => ligTake o false)) s
def execSLtry (t : Nat) (s : State) : Out := run (ligTakeOp 0x84 t false ligTry) s
def execSLsend (t : Nat) (s : State) : Out := run (ligPost 0x85 t (fun i o b m => m.ligSend i o b)) s
def execSLrecv (t : Nat) (s : State) : Out := run (ligTakeOp 0x86 t true (fun o => ligTake o true)) s

end Sys2Proof.Machine
end

