-- ==== Sys2Proof/Machine/StrandCmd.lean ====
section
/-!
DEFINITION. The strand commands: programs and jobs (R377 to R381).
-/

namespace Sys2Proof.Machine

open Sys2Proof

/-- The index of the first word of an image that is no instruction. -/
def firstBadWord (mem : Mem) (addr words : Nat) : Option Nat :=
  (List.range words).find? (fun i => !(SWord.decode (BitVec.ofNat 64 (mem.num (addr + 64 + 8 * i) 8))).ok)

/-- The header of a strand image is in range (R377). -/
def strandHeaderOk (m : Module) (h : Bytes) (len : Nat) : Bool :=
  u32 h 0 == 1 && decide (1 ≤ u32 h 4) && decide (u32 h 4 ≤ 33554424) && decide (u32 h 8 < u32 h 4) &&
  m.partOk (u8 h 0x0C) && allZero h 0x0D 51 && decide (64 + 8 * u32 h 4 ≤ len)

/-- STRAND_LOAD: ADDR 0x00, LENGTH 0x08 (R379). -/
def strandLoadCmd (c : RunCmd) (m : Module) : Module :=
  let addr := u64 c.payload 0
  let len := u64 c.payload 8
  let h := m.hbm.rdN addr 64
  m.checked c []
    [(addr % 4096 == 0, bad 0), (decide (64 < len), bad 8), (decide (addr + len ≤ hbmSize), bad 0)]
    (fun m =>
      if !strandHeaderOk m h len then m.complete c .badField (zeros 4 ++ leBytes 4 0xFFFFFFFF) 0x40
      else if !m.engineMay (u8 h 0x0C) 0 addr len then m.verdict c stopFw
      else
        match firstBadWord m.hbm addr (u32 h 4) with
        | some w => m.complete c .badField (zeros 4 ++ leBytes 4 w) 0x40
        | none =>
          match m.strand.programs.lowestFree 0 256 with
          | none => m.fail c .noSpace
          | some p =>
            let m1 := m.measure 8 p 0 (u8 h 0x0C) (m.hbm.rdN addr (64 + 8 * u32 h 4))
            ({ m1 with strand := { m1.strand with
              programs := m1.strand.programs.put p ⟨addr, u32 h 4, u32 h 8, u8 h 0x0C⟩ } }).ok c (leBytes 2 p ++ zeros 6))

/-- STRAND_UNLOAD: PROGRAM 0x00 (R379). -/
def strandUnloadCmd (c : RunCmd) (m : Module) : Module :=
  let p := u16 c.payload 0
  m.checked c [(2, 6)]
    [(m.strand.programs.has p, bad 0), (m.strand.jobs.vals.all (fun j => j.program != p), stop .busy)]
    (fun m => ({ (m.unmeasure 8 p (fun _ => false)) with
      strand := { m.strand with programs := m.strand.programs.del p } }).ok c [])

/-- The lowest free threads of core k, as many as asked. -/
def freeThreads (m : Module) (k n : Nat) : List Nat :=
  (((List.range 8).map (fun i => k * 8 + i)).filter (fun t => !m.strand.threads.has t)).take n

/-- An object that STRAND_START names: NONE, or an EVENT of the program's partition that exists. -/
def jobObject (m : Module) (h p off : Nat) : List (Bool × Verdict) :=
  let o := m.ligFind h
  [(h == ligNone || o.isSome, stop .stale),
   (h == ligNone || ((o.map (fun x => x.2.kind == 3)).getD false), bad off),
   (h == ligNone || ((o.map (fun x => x.2.partition == p)).getD false), stop .denied)]

/-- STRAND_START (R380). -/
def strandStartCmd (c : RunCmd) (m : Module) : Module :=
  let b := c.payload
  let first := u16 b 2
  let count := u16 b 4
  let n := u8 b 6
  let prog := m.strand.programs.get (u16 b 0)
  let part := (prog.map (·.partition)).getD 8
  let cores := (List.range count).map (first + ·)
  m.checked c []
    ([(prog.isSome, bad 0), (decide (first ≤ 1023), bad 2),
      (decide (1 ≤ count) && decide (first + count ≤ 1024), bad 4),
      (decide (1 ≤ n) && decide (n ≤ 8), bad 6), (decide (u8 b 7 ≤ 1), bad 7)] ++
     jobObject m (u32 b 8) part 8 ++ jobObject m (u32 b 0x0C) part 0x0C ++
     [(cores.all (fun k => m.strandPart k == some part), stop .denied),
      (cores.all (fun k => (freeThreads m k n).length == n), stop .busy),
      ((m.strand.jobs.lowestFree 0 4096).isSome, stop .noSpace)])
    (fun m =>
      let j := (m.strand.jobs.lowestFree 0 4096).getD 0
      let ts := cores.flatMap (fun k => freeThreads m k n)
      let entry := (prog.map (·.entry)).getD 0
      let regs : KMap Word := (List.range 4).filterMap (fun i =>
        let v := BitVec.ofNat 64 (u64 b (0x10 + 8 * i))
        if v == 0 then none else some (i + 1, v))
      let job : Job := ⟨u16 b 0, part, m.clk.now, ts.length, 0, u8 b 7 == 1, u32 b 8, u32 b 0x0C, false, 4, 0, none,
        false⟩
      let m1 := ts.zipIdx.foldl (fun (a : Module) (t, i) =>
        let th : Thread := ⟨j, i, regs, 0x10000040 + 8 * entry, [],
          ((Config.entropy a.free).toNat, (Config.entropy (a.free + 1)).toNat), [], [], .none, false⟩
        { a with strand := { a.strand with threads := a.strand.threads.put t th }, free := a.free + 2 }) m
      let m2 := { m1 with strand := { m1.strand with jobs := m1.strand.jobs.put j job } }
      (if m2.jobHeld job then m2.suspendJob j else m2).ok c (leBytes 2 j ++ zeros 6))

/-- STRAND_STOP: JOB 0x00; every thread stops with cause STOPPED (R381). -/
def strandStopCmd (c : RunCmd) (m : Module) : Module :=
  let j := u16 c.payload 0
  m.checked c [(2, 6)] [(m.strand.jobs.has j, bad 0)] (fun m => (m.stopJob j).ok c [])

/-- STRAND_JOB_QUERY: JOB 0x00 (R381). -/
def strandJobQueryCmd (c : RunCmd) (m : Module) : Module :=
  let j := u16 c.payload 0
  match m.strand.jobs.get j with
  | none => m.badField c 0
  | some job =>
    let live := (m.strand.threads.vals.filter (fun t => t.job == j)).length
    m.ok c (leBytes 2 job.program ++ leBytes 2 live ++ leBytes 2 job.faulted ++ zeros 2 ++ leBytes 8 job.startTime)

def execStrandLoad (src : Src) (s : State) : Out := run (onCmd 0x0C00 src strandLoadCmd) s
def execStrandUnload (src : Src) (s : State) : Out := run (onCmd 0x0C01 src strandUnloadCmd) s
def execStrandStart (src : Src) (s : State) : Out := run (onCmd 0x0C10 src strandStartCmd) s
def execStrandStop (src : Src) (s : State) : Out := run (onCmd 0x0C11 src strandStopCmd) s
def execStrandJobQuery (src : Src) (s : State) : Out := run (onCmd 0x0C12 src strandJobQueryCmd) s

end Sys2Proof.Machine
end

