-- ==== Sys2Proof/Machine/StrandEng.lean ====
section
/-!
DEFINITION. The strand instructions that reach an engine: the capsule accesses (R367, R372), engine issue (R371) and the
token hand-off (R373).
-/

namespace Sys2Proof.Machine

open Sys2Proof

/-! ### Capsule accesses -/

/-- Why a capsule access of thread t fails, none or a fault cause (R57, R367, R372): the generation, the partition, the
offset, and for a write the place and the capsule's state. -/
def Module.capFault (m : Module) (t id off n : Nat) (write : Bool) : Option Nat :=
  match m.capsule id with
  | none => some 0x06
  | some c =>
    if c.partition != m.threadPart t then some 0x08
    else
      match c.range off n with
      | none => some 0x07
      | some r =>
        if !write then none
        else
          match r with
          | .frame _ page byte =>
            if (Frame.slotOf byte).isNone || decide (page < c.shared) || !m.owns c || m.fenced || c.state == 3 ||
               c.state == 5 || (m.requestOf id).any (fun (_, r) => r.state == 2) then some 0x08 else none
          | _ => some 0x08

/-- n bytes of a capsule and the frame they were read from; none when a check value fails, with the capsule marked. -/
def Module.capBytes (id off n : Nat) (m : Module) : Option Bytes × Module :=
  let c := m.slot (id / 256)
  match c.range off n with
  | none => (none, m)
  | some (.header o) =>
    let m1 := m.loadHeader id
    if c.headerBad then (none, m1) else (some (slice (c.bytes (id / 256)) o n), m1)
  | some (.map o) => (some (c.mapBytes o n), m)
  | some (.frame l p o) =>
    let h := c.handle l p
    match m.frame h with
    | none => (some (zeros n), m)
    | some f =>
      let m1 := m.touch h
      match f.badIn o n with
      | some b => (none, m1.damage id h b)
      | none => (some (f.read o n), m1)

/-- The capsule access needs the host link: its frame lies in the host tier. -/
def Module.capNeedsHost (m : Module) (id off n : Nat) : Bool :=
  let c := m.slot (id / 256)
  match c.range off n with
  | some (.frame l p _) => tierOf (c.handle l p) == 2
  | _ => false

/-- A store to a capsule whose lease has lapsed and has not been claimed is held (R48): whoever owns it, until the lease is
settled (assumption 202). So is a store to a slot whose SLOTS record has yet to be acknowledged (R316). -/
def Module.storeHeld (m : Module) (t id off n : Nat) : Bool :=
  match m.capsule id with
  | some c => (m.capFault t id off n false).isNone && !m.fenced && (m.lapsed c ||
      (match c.range off n with
       | some (.frame l p o) => ((Frame.slotOf o).map (fun x => m.unacked id (fun a b => a == l && b == 256 * p + x.1))).getD false
       | _ => false))
  | none => false

/-- A capsule access that may be made waits while its frame lies in the host tier and the link carries nothing, and a store while
the capsule's lease has lapsed. align is what its offset must be a multiple of. -/
def capStall (t id off n align : Nat) (write : Bool) (m : Module) : Bool :=
  off % align == 0 && ((write && m.storeHeld t id off n) ||
    ((m.capFault t id off n write).isNone && m.capNeedsHost id off n && !m.hostUp))

/-- A capsule load of n bytes. It holds a place among the loads in flight until it returns (R375). -/
def capLoad (op t n : Nat) : Module → Module :=
  issueWhen op t (fun _ th v m => decide (8 ≤ th.loads.length) ||
      capStall t (v.a.toNat % 2 ^ 32) (v.b + v.imm).toNat n n false m)
    (fun w th v m =>
      let id := v.a.toNat % 2 ^ 32
      let off := (v.b + v.imm).toNat
      if off % n != 0 then m.strandFault t 0x01 off
      else
        match m.capFault t id off n false with
        | some cause => m.strandFault t cause off
        | none =>
          match m.capBytes id off n with
          | (none, m1) => m1.strandFault t 0x09 off
          | (some b, m1) =>
            m1.updThread t (fun x =>
              { x with
                loads := (x.loads.map (fun l => if l.reg == w.d.toNat then { l with reg := 0 } else l)) ++
                  [⟨w.d.toNat, BitVec.ofNat 64 (leNat b), false, th.pc, off, m.clk.mono, false⟩],
                pc := nextPc x.pc }))

/-- A store reaches its slot: bytes beyond SLOT_BYTES stay zero (R52). A slot that was empty keeps its state, so nothing attends
to it (R57, assumption 39). The SLOTS record leaves at once and gates the partition's next output commit (R372). -/
def Module.capWrite (id layer page byte : Nat) (b : Bytes) (m : Module) : Module :=
  let c := m.slot (id / 256)
  let h := c.handle layer page
  match m.frame h, Frame.slotOf byte with
  | some f, some (i, o) =>
    let s := (f.slots.get i).getD ⟨0, 0, 0, []⟩
    let s1 : Slot := { s with bytes := (splice (padTo s.bytes c.slotBytes) o b).take c.slotBytes }
    let m1 := m.writeSlot id layer (page * 256 + i) s1
    let m2 := m1.sendSlots c.partition 0 id layer page i c.slotBytes [s1]
    let last := (m2.mirror.txNext + 2 ^ 32 - 1) % 2 ^ 32
    if m2.mirror.txNext == m1.mirror.txNext then m2
    else m2.updPart c.partition (fun p => { p with live := p.live.map (fun s =>
      if s.markSeq.isSome then { s with markSeq := some last } else s) })
  | _, _ => m

/-- A capsule store of the low n bytes of c. -/
def capStore (op t n : Nat) : Module → Module :=
  issueWhen op t (fun _ _ v m => capStall t (v.a.toNat % 2 ^ 32) (v.b + v.imm).toNat n n true m) (fun _ _ v m =>
    let id := v.a.toNat % 2 ^ 32
    let off := (v.b + v.imm).toNat
    if off % n != 0 then m.strandFault t 0x01 off
    else
      match m.capFault t id off n true with
      | some cause => m.strandFault t cause off
      | none =>
        match (m.slot (id / 256)).range off n with
        | some (.frame l p o) =>
          match ((m.frame ((m.slot (id / 256)).handle l p)).bind (fun f => f.badIn o n)) with
          | some b => (m.damage id ((m.slot (id / 256)).handle l p) b).strandFault t 0x09 off
          | none => (m.capWrite id l p o (leBytes n v.c.toNat)).pass t
        | _ => m)

/-- CRDB: c bytes of a capsule to memory at d. -/
def crdb (t : Nat) : Module → Module :=
  issueWhen 0x55 t (fun _ th v m =>
      let id := v.a.toNat % 2 ^ 32
      let off := (v.b + v.imm).toNat
      decide (1 ≤ v.c.toNat) && decide (v.c.toNat ≤ 4096) && (m.capFault t id off v.c.toNat false).isNone &&
      (m.strandCheck t v.d.toNat v.c.toNat true false).isNone &&
      (capStall t id off v.c.toNat 1 false m || (isHostPlace v.d.toNat &&
        (if m.hostUp then decide (m.credits (m.threadPart t) < accessUnits v.d.toNat v.c.toNat) else th.wait != .none)))) (fun _ th v m =>
    let id := v.a.toNat % 2 ^ 32
    let off := (v.b + v.imm).toNat
    let n := v.c.toNat
    let dst := v.d.toNat
    if n == 0 || decide (4096 < n) then m.strandFault t 0x07 off
    else
      match m.capFault t id off n false with
      | some cause => m.strandFault t cause off
      | none =>
        match m.strandCheck t dst n true false with
        | some cause => m.accessFault t cause dst
        | none =>
          if isHostPlace dst && !m.hostUp then m.updThread t (fun x => { x with wait := .host dst m.clk.mono })
          else
            match m.capBytes id off n with
            | (none, m1) => m1.strandFault t 0x09 off
            | (some b, m1) =>
              let m2 := m1.strandStore t dst b
              if isHostPlace dst then
                (m2.takeCredits th.job (accessUnits dst n)).updThread t (fun x =>
                  { x with stores := x.stores ++ List.replicate (accessUnits dst n) ⟨th.pc, dst, m.clk.mono, true⟩, pc := nextPc x.pc })
              else m2.pass t)

/-! ### Engine issue -/

/-- The bytes of an issued command's payload. -/
def issueLen (op : Nat) : Nat :=
  if op == 0x0810 then 64 else if op == 0x0421 || op == 0x0730 then 32
  else if op == 0x0501 || op == 0x0820 then 24 else if op == 0x0300 || op == 0x0821 then 16 else 8

/-- The partitions of the capsule, cores, program or object that an issued payload names; bore gives an index's. -/
def Module.issueParts (m : Module) (bore : Nat → Option Nat) (op : Nat) (b : Bytes) : List Nat :=
  if op == 0x0421 || op == 0x0422 then
    (setBitsOf 64 (u64 b 0)).map (fun k => (m.corePart k).getD 8) ++
      (if op == 0x0421 then ((m.ligFind (u32 b 0x0C)).map (·.2.partition)).toList ++
        ((m.attn.programs.get (u16 b 8)).map (fun _ => (setBitsOf 64 (u64 b 0)).map (fun k => (m.corePart k).getD 8))).getD []
       else [])
  else if op == 0x0730 then []
  else if op == 0x0810 || op == 0x0820 || op == 0x0821 then
    (bore (u8 b 0)).toList ++ (if op == 0x0810 then ((m.ligFind (u32 b 0x30)).map (·.2.partition)).toList else [])
  else ((m.capsule (u32 b 0)).map (·.partition)).toList

/-- EISS (R371): the payload is read, and the command queued, DENIED or BUSY. -/
def eiss (t : Nat) : Module → Module :=
  issueWhen 0x60 t (fun w th v m => isHostPlace v.a.toNat && v.b.toNat % 64 == 0 &&
      (if m.hostUp then decide (m.credits (m.threadPart t) < accessUnits v.a.toNat (issueLen (w.imm.toNat % 2 ^ 16)))
       else th.wait != .none) &&
      (m.strandCheck t v.a.toNat (issueLen (w.imm.toNat % 2 ^ 16)) false false).isNone &&
      (m.strandCheck t v.b.toNat 64 true false).isNone) (fun w th v m =>
    let op := w.imm.toNat % 2 ^ 16
    let pay := v.a.toNat
    let blk := v.b.toNat
    let flag := v.c.toNat
    let p := m.threadPart t
    let n := issueLen op
    if blk % 64 != 0 then m.strandFault t 0x01 blk
    else
      match m.strandCheck t pay n false false, m.strandCheck t blk 64 true false with
      | some cause, _ => m.accessFault t cause pay
      | none, some cause => m.accessFault t cause blk
      | none, none =>
        if isHostPlace pay && !m.hostUp then m.updThread t (fun x => { x with wait := .host pay m.clk.mono })
        else
          let go (m : Module) : Module :=
            let b := m.strandRead t pay n
            if (m.issueParts (fun i => (m.bore.indexes.get i).map (·.partition)) op b).any (· != p) then
              (m.bump Reg.STRAND.ISSUE_REFUSED_COUNT).retire t w.d.toNat (stWord .denied)
            else if m.get Reg.STRAND.CTRL_ISSUE_MAX ≤ (m.strand.issued.vals.filter (fun i => i.partition == p)).length then
              ((m.bump Reg.STRAND.ISSUE_REFUSED_COUNT).set Reg.STRAND.STATUS_ISSUE_FULL 1).retire t w.d.toNat (stWord .busy)
            else
              let k := m.strand.nextIssue
              let x : Issued := ⟨p, t, th.job, blk, flag⟩
              let c : RunCmd := ⟨m.host.nextRun, .eiss k, op, 0, 0, b, m.clk.mono, .fresh, [], [], 0, 0, false, true⟩
              let m1 := { m with
                strand := { m.strand with issued := m.strand.issued.put k x, nextIssue := k + 1 },
                host := { m.host with running := m.host.running ++ [c], nextRun := m.host.nextRun + 1 } }
              (m1.bump Reg.STRAND.ISSUES_COUNT).retire t w.d.toNat (stWord .ok)
          if flag == ligNone then go m
          else withObject t flag (fun m => m.retire t w.d.toNat (stWord .revoked)) (fun _ _ m => go m) m)

/-- TACC (R373). -/
def tacc (t : Nat) : Module → Module :=
  issue 0x70 t (fun w _ v m =>
    let go (m : Module) : Module :=
      let r := m.handToken (m.threadPart t) (v.a.toNat % 2 ^ 18) w.imm.toNat v.b.toNat v.c.toNat
      r.1.retire t w.d.toNat (stWord r.2)
    if v.c.toNat == ligNone then go m
    else withObject t v.c.toNat (fun m => m.retire t w.d.toNat (stWord .revoked)) (fun _ _ m => go m) m)

def execSCld8u (t : Nat) (s : State) : Out := run (capLoad 0x50 t 1) s
def execSCld32u (t : Nat) (s : State) : Out := run (capLoad 0x51 t 4) s
def execSCld64 (t : Nat) (s : State) : Out := run (capLoad 0x52 t 8) s
def execSCst32 (t : Nat) (s : State) : Out := run (capStore 0x53 t 4) s
def execSCst64 (t : Nat) (s : State) : Out := run (capStore 0x54 t 8) s
def execSCrdb (t : Nat) (s : State) : Out := run (crdb t) s
def execSEiss (t : Nat) (s : State) : Out := run (eiss t) s
def execSTacc (t : Nat) (s : State) : Out := run (tacc t) s

end Sys2Proof.Machine
end

