-- ==== Sys2Proof/Machine/Time.lean ====
section
/-!
DEFINITION. The time counter: reading it (R476), TIME_SET and TIME_STEP_ALLOW (R485), and the PTP servo (R477, R478).
-/

namespace Sys2Proof.Machine

open Sys2Proof

/-- A read of NOW_NS gives the counter and latches its fraction for the next read of NOW_FRAC (R476). -/
def nowRead (m : Module) : Module :=
  (m.set Reg.TIME.NOW_FRAC_FRAC m.clk.frac).emit (.regData Reg.TIME.NOW_NS_NS.off m.clk.now)

def execNowNsRead (s : State) : Out := run nowRead s

/-- The counter takes a new value in one action; the schedule and the gates take the state of the new time (R412, R475), and the
recorder's counts move to its second (R519).
Durations keep their length (R479): they are measured on the elapsed time, which does not step. -/
def Module.stepTo (now : Nat) (m : Module) : Module :=
  let old := m.clk.now
  let m1 := { m with clk := { m.clk with now := now % 2 ^ 64 }, ev := { m.ev with second := now % 2 ^ 64 / 1000000000 } }
  (List.range 16).foldl (fun (a : Module) s => a.gateNow s) (m1.schedStep old)

/-- TIME_SET: NS 0x00; DENIED when PTP is enabled and has set the counter (R485). -/
def timeSetCmd (c : RunCmd) (m : Module) : Module :=
  if m.flag Reg.TIME.PTP_ENABLE && m.ptp.setByPtp then m.fail c .denied
  else ((m.stepTo (u64 c.payload 0)).set Reg.TIME.STATUS_SET 1).ok c []

/-- TIME_STEP_ALLOW: the next step of R478 may exceed its limits (R485). -/
def timeStepAllowCmd (c : RunCmd) (m : Module) : Module :=
  m.checked c [(0, c.payload.length)] [] (fun m => ({ m with ptp := { m.ptp with stepAllowed := true } }).ok c [])

def execTimeSet (src : Src) (s : State) : Out := runStep (onCmd 0x1100 src timeSetCmd) s
def execTimeStepAllow (src : Src) (s : State) : Out := run (onCmd 0x1101 src timeStepAllowCmd) s

/-! ### PTP -/

/-- The dataset by which the best master is chosen, best first (IEEE 1588-2019, named by R477). -/
def annRank (a : Announce) : List Nat :=
  [a.priority1, a.clockClass, a.accuracy, a.variance, a.priority2, a.clockId, a.stepsRemoved, a.subport]

/-- One list of numbers comes before another. -/
def rankBefore : List Nat → List Nat → Bool
  | a :: as, b :: bs => decide (a < b) || (a == b && rankBefore as bs)
  | _, _ => false

/-- PTP_ANNOUNCE: the best master is chosen among the Announce messages of every sub-port (R477). -/
def ptpAnnounce (a : Announce) (m : Module) : Module :=
  if !m.flag Reg.TIME.PTP_ENABLE || a.domain != m.get Reg.TIME.PTP_DOMAIN then m
  else
    let take := match m.ptp.master with
      | none => true
      | some b => (b.clockId == a.clockId && b.subport == a.subport) || rankBefore (annRank a) (annRank b)
    if !take then m
    else
      let m1 := { m with ptp := { m.ptp with master := some a, lastAnnounce := m.clk.mono } }
      ((m1.set Reg.TIME.MASTER_CLOCK_ID a.clockId).set Reg.TIME.STATUS_PTP_SUBPORT a.subport).set
        Reg.TIME.STATUS_HOLDOVER 0

def execPtpAnnounce (a : Announce) (s : State) : Out := runIf (a.subport < 16) (ptpAnnounce a) s

/-- The running mean of the path delay moves an eighth of the way (assumption 7: the manual names no smoothing). -/
def smooth (mean delay : Int) : Int := mean + (delay - mean) / 8

/-- Three measurements agree within 1 µs. -/
def agree : List Int → Bool
  | [a, b, c] => decide (Max.max a (Max.max b c) - Min.min a (Min.min b c) ≤ 1000)
  | _ => false

/-- The counter steps by the offset: TIME_STEP, the event, the schedule and the gates (R478). -/
def Module.ptpStep (offset : Int) (m : Module) : Module :=
  let m1 := m.stepTo (trunc 64 ((m.clk.now : Int) + offset))
  let m2 := { m1 with ptp := { m1.ptp with largeRun := [], smallRun := 0, stepAllowed := false, setByPtp := true } }
  (((m2.set Reg.TIME.STATUS_SET 1).set Reg.TIME.STATUS_TIME_STEP 1).bump Reg.TIME.STEPS_COUNT).event 0x1101 0xFF 1
    (trunc 64 offset) 0

/-- The offset slews through FREQ, whose new value within ±500,000 the manual leaves to the servo: a free value (R476,
R478). -/
def Module.slew (m : Module) : Module :=
  let (k, m1) := m.choose 1000001
  m1.set Reg.TIME.FREQ_PPB (trunc 32 ((k : Int) - 500000))

/-- A measured offset and path delay (R478): discarded, slewed, or stepped. A positive offset moves the counter forward.
LOCKED follows 16 small offsets in a row. -/
def ptpTiming (offset delay : Int) (m : Module) : Module :=
  if !m.flag Reg.TIME.PTP_ENABLE || m.ptp.master.isNone then m
  else
    let mean := m.ptp.meanDelay.getD delay
    if (m.get Reg.TIME.PTP_OUTLIER_NS : Int) < |delay - mean| then m.bump Reg.TIME.OUTLIERS_COUNT
    else
      let m1 := ({ m with ptp := { m.ptp with meanDelay := some (smooth mean delay) } }).set Reg.TIME.OFFSET_NS
        (trunc 64 offset)
      if |offset| < (m.get Reg.TIME.STEP_THRESHOLD_NS : Int) then
        let small := if |offset| ≤ 100 then Min.min (m1.ptp.smallRun + 1) 16 else 0
        let m2 := { m1 with ptp := { m1.ptp with smallRun := small, largeRun := [] } }
        let m3 := m2.slew
        if small == 16 then
          (({ m3 with ptp := { m3.ptp with setByPtp := true } }).set Reg.TIME.STATUS_LOCKED 1).set Reg.TIME.STATUS_SET 1
        else m3
      else
        let run3 := (m1.ptp.largeRun ++ [offset]).drop (m1.ptp.largeRun.length - 2)
        let m2 := { m1 with ptp := { m1.ptp with smallRun := 0, largeRun := run3 } }
        if !agree run3 then m2
        else
          let beyond := if 0 ≤ offset then decide ((m.get Reg.TIME.STEP_MAX_NS : Int) < offset)
            else decide ((m.get Reg.TIME.BACK_MAX_NS : Int) < -offset)
          if beyond && m.flag Reg.TIME.STATUS_SET && !m.ptp.stepAllowed then
            (m2.set Reg.TIME.STATUS_STEP_REFUSED 1).event 0x1102 0xFF 2 (trunc 64 offset) 0
          else m2.ptpStep offset

def execPtpTimingMessage (offset delay : Int) (s : State) : Out := runStep (ptpTiming offset delay) s

/-- Three announce intervals have passed without the chosen master (R478): holdover. -/
def ptpAnnounceTimeout (m : Module) : Module :=
  match m.ptp.master with
  | some _ =>
    (({ m with ptp := { m.ptp with master := none, smallRun := 0, largeRun := [] } }).set
      Reg.TIME.STATUS_HOLDOVER 1).set Reg.TIME.STATUS_LOCKED 0
  | none => m

def execPtpAnnounceTimeout (s : State) : Out :=
  runAt (fun m => (m.ptp.master.map (fun a => m.ptp.lastAnnounce + 3 * a.intervalNs)).getD 0) ptpAnnounceTimeout s

/-! ### Ticks -/

/-- What a tick adds to the counter, in units of 2⁻³² ns: a nanosecond, changed by the servo's offset in TIME.FREQ (R476). -/
def Module.tickUnits (m : Module) : Nat :=
  ((2 : Int) ^ 32 + sext 32 (m.get Reg.TIME.FREQ_PPB) * (2 : Int) ^ 32 / 1000000000).toNat

/-- A tick of the time counter (R476). A module that is not running does not count. -/
def Module.tick (m : Module) : Module :=
  if m.live then
    let units := m.clk.frac + m.tickUnits
    let ns := units / 2 ^ 32
    { m with clk := { now := (m.clk.now + ns) % 2 ^ 64, frac := units % 2 ^ 32, mono := m.clk.mono + ns } }
  else m

/-- The counters of storage inside the blocks that the manual does not describe (R74, R251, R311). -/
def innerCounters : List Fld := [Reg.CAPS.CACHE_HITS_COUNT, Reg.CAPS.CACHE_MISSES_COUNT, Reg.MOUTH.STATE_HITS_COUNT,
  Reg.MOUTH.STATE_MISSES_COUNT, Reg.FTL.READ_RETRIES_COUNT]

/-- The inner counters advance by free amounts while time passes, and the repeated NAND reads are figures of the flash's life
too (R307; assumption 17). -/
def Module.innerTick (m : Module) : Module :=
  let n := Config.innerCount Reg.FTL.READ_RETRIES_COUNT.off m.clk.mono
  let m1 := innerCounters.foldl (fun (a : Module) f => a.bumpBy f (Config.innerCount f.off m.clk.mono)) m
  { m1 with ftl := { m1.ftl with life := { m1.ftl.life with retries := m1.ftl.life.retries + n } } }

/-- What happens while no command waits: the time counter ticks (assumption 44), and the counters that no command of the table
advances move with it. -/
def tickStep (s : State) : Out := .next { s with m := if s.m.live then s.m.tick.innerTick.stopsDue else s.m }

end Sys2Proof.Machine
end

