-- ==== Sys2Proof/Machine/Dispatch.lean ====
section
/-!
DEFINITION. The dispatch of every command to its meaning, one arm per constructor of Instr.
-/

namespace Sys2Proof.Machine

open Sys2Proof

/-- The effect of one command or event on everything but the queue. -/
def exec (i : Instr) (s : State) : Host.Outcome State Fault Refusal :=
  match i with
  | .registerWrite off bytes value => Sys2Proof.Machine.execRegisterWrite off bytes value s
  | .nowNsRead => Sys2Proof.Machine.execNowNsRead s
  | .mailboxSlotWrite mb off data => Sys2Proof.Machine.execMailboxSlotWrite mb off data s
  | .mailboxGo mb value => Sys2Proof.Machine.execMailboxGo mb value s
  | .ringTailWrite p v => Sys2Proof.Machine.execRingTailWrite p v s
  | .moduleReset value => Sys2Proof.Machine.execModuleReset value s
  | .partitionReset value => Sys2Proof.Machine.execPartitionReset value s
  | .cursorWrite off bytes value => Sys2Proof.Machine.execCursorWrite off bytes value s
  | .advance off bytes value => Sys2Proof.Machine.execAdvance off bytes value s
  | .windowLoadComplete => Sys2Proof.Machine.execWindowLoadComplete s
  | .nop src => Sys2Proof.Machine.execNop src s
  | .identify src => Sys2Proof.Machine.execIdentify src s
  | .capsuleCreate src => Sys2Proof.Machine.execCapsuleCreate src s
  | .capsuleDelete src => Sys2Proof.Machine.execCapsuleDelete src s
  | .capsuleQuery src => Sys2Proof.Machine.execCapsuleQuery src s
  | .capsuleRead src => Sys2Proof.Machine.execCapsuleRead src s
  | .capsulePark src => Sys2Proof.Machine.execCapsulePark src s
  | .capsuleTruncate src => Sys2Proof.Machine.execCapsuleTruncate src s
  | .capsuleRepair src => Sys2Proof.Machine.execCapsuleRepair src s
  | .repairBlockArrival capsule entry block b check ok => Sys2Proof.Machine.execRepairBlockArrival capsule entry block b check ok s
  | .capsuleSweep src => Sys2Proof.Machine.execCapsuleSweep src s
  | .sweepInterval => Sys2Proof.Machine.execSweepInterval s
  | .slidePlace src => Sys2Proof.Machine.execSlidePlace src s
  | .slideSchedule src => Sys2Proof.Machine.execSlideSchedule src s
  | .slideSwapRegister src => Sys2Proof.Machine.execSlideSwapRegister src s
  | .slideSwapRelease src => Sys2Proof.Machine.execSlideSwapRelease src s
  | .hintMove => Sys2Proof.Machine.execHintMove s
  | .prefetchIssue entry => Sys2Proof.Machine.execPrefetchIssue entry s
  | .tileTransferComplete xfer corrected failed => Sys2Proof.Machine.execTileTransferComplete xfer corrected failed s
  | .prefetchDeadline entry step => Sys2Proof.Machine.execPrefetchDeadline entry step s
  | .stallWarn entry => Sys2Proof.Machine.execStallWarn entry s
  | .hostSwapCascade => Sys2Proof.Machine.execHostSwapCascade s
  | .hostTierReadTimeout xfer => Sys2Proof.Machine.execHostTierReadTimeout xfer s
  | .attnModelRegister src => Sys2Proof.Machine.execAttnModelRegister src s
  | .attnModelRelease src => Sys2Proof.Machine.execAttnModelRelease src s
  | .attnSubmit src => Sys2Proof.Machine.execAttnSubmit src s
  | .attnProgramLoad src => Sys2Proof.Machine.execAttnProgramLoad src s
  | .attnProgramStart src => Sys2Proof.Machine.execAttnProgramStart src s
  | .attnProgramStop src => Sys2Proof.Machine.execAttnProgramStop src s
  | .attnCoreAssign src => Sys2Proof.Machine.execAttnCoreAssign src s
  | .coreModeDrained core => Sys2Proof.Machine.execCoreModeDrained core s
  | .query endpoint g => Sys2Proof.Machine.execQuery endpoint g s
  | .batchWaitExpiry core => Sys2Proof.Machine.execBatchWaitExpiry core s
  | .blockBoundary core => Sys2Proof.Machine.execBlockBoundary core s
  | .queryTimeout => Sys2Proof.Machine.execQueryTimeout s
  | .orphanQueryExpiry => Sys2Proof.Machine.execOrphanQueryExpiry s
  | .programSliceExpiry core => Sys2Proof.Machine.execProgramSliceExpiry core s
  | .coreLoad core => Sys2Proof.Machine.execCoreLoad core s
  | .coreStore core => Sys2Proof.Machine.execCoreStore core s
  | .coreCapread core => Sys2Proof.Machine.execCoreCapread core s
  | .coreMatmul core => Sys2Proof.Machine.execCoreMatmul core s
  | .coreVecop core => Sys2Proof.Machine.execCoreVecop core s
  | .coreFused core => Sys2Proof.Machine.execCoreFused core s
  | .coreWait core => Sys2Proof.Machine.execCoreWait core s
  | .coreSignal core => Sys2Proof.Machine.execCoreSignal core s
  | .coreLoop core => Sys2Proof.Machine.execCoreLoop core s
  | .coreEnd core => Sys2Proof.Machine.execCoreEnd core s
  | .stepAdmit src => Sys2Proof.Machine.execStepAdmit src s
  | .admitInputRead src ok => Sys2Proof.Machine.execAdmitInputRead src ok s
  | .stepAppend src => Sys2Proof.Machine.execStepAppend src s
  | .stepWait src => Sys2Proof.Machine.execStepWait src s
  | .stepEnd src => Sys2Proof.Machine.execStepEnd src s
  | .stepQuery src => Sys2Proof.Machine.execStepQuery src s
  | .stepSet src => Sys2Proof.Machine.execStepSet src s
  | .stepBatch src => Sys2Proof.Machine.execStepBatch src s
  | .stepPoolBind src => Sys2Proof.Machine.execStepPoolBind src s
  | .stepRingSet src => Sys2Proof.Machine.execStepRingSet src s
  | .stepBuild p => Sys2Proof.Machine.execStepBuild p s
  | .sampleRecordPrepare p => Sys2Proof.Machine.execSampleRecordPrepare p s
  | .accountPhase p => Sys2Proof.Machine.execAccountPhase p s
  | .writePhase p => Sys2Proof.Machine.execWritePhase p s
  | .outputCommit p => Sys2Proof.Machine.execOutputCommit p s
  | .budgetOpen src => Sys2Proof.Machine.execBudgetOpen src s
  | .budgetClose src => Sys2Proof.Machine.execBudgetClose src s
  | .budgetSet src => Sys2Proof.Machine.execBudgetSet src s
  | .budgetQuery src => Sys2Proof.Machine.execBudgetQuery src s
  | .accountPeriodEnd a => Sys2Proof.Machine.execAccountPeriodEnd a s
  | .prefixCreate src => Sys2Proof.Machine.execPrefixCreate src s
  | .prefixDelete src => Sys2Proof.Machine.execPrefixDelete src s
  | .prefixFind src => Sys2Proof.Machine.execPrefixFind src s
  | .prefixPlace src => Sys2Proof.Machine.execPrefixPlace src s
  | .adapterLoad src => Sys2Proof.Machine.execAdapterLoad src s
  | .adapterRetire src => Sys2Proof.Machine.execAdapterRetire src s
  | .adapterQuery src => Sys2Proof.Machine.execAdapterQuery src s
  | .adapterPoolBind src => Sys2Proof.Machine.execAdapterPoolBind src s
  | .specBind src => Sys2Proof.Machine.execSpecBind src s
  | .mouthTokenizerLoad src => Sys2Proof.Machine.execMouthTokenizerLoad src s
  | .mouthTokenizerUnload src => Sys2Proof.Machine.execMouthTokenizerUnload src s
  | .mouthGrammarLoad src => Sys2Proof.Machine.execMouthGrammarLoad src s
  | .mouthGrammarUnload src => Sys2Proof.Machine.execMouthGrammarUnload src s
  | .mouthGrammarSet src => Sys2Proof.Machine.execMouthGrammarSet src s
  | .mouthStopLoad src => Sys2Proof.Machine.execMouthStopLoad src s
  | .mouthTextSet src => Sys2Proof.Machine.execMouthTextSet src s
  | .mouthTokenize src => Sys2Proof.Machine.execMouthTokenize src s
  | .mouthCarryFlush src => Sys2Proof.Machine.execMouthCarryFlush src s
  | .nextMaskWrite p n => Sys2Proof.Machine.execNextMaskWrite p n s
  | .boreIndexCreate src => Sys2Proof.Machine.execBoreIndexCreate src s
  | .boreIndexDrop src => Sys2Proof.Machine.execBoreIndexDrop src s
  | .boreIndexInfo src => Sys2Proof.Machine.execBoreIndexInfo src s
  | .boreQuery src => Sys2Proof.Machine.execBoreQuery src s
  | .boreInsert src => Sys2Proof.Machine.execBoreInsert src s
  | .boreDelete src => Sys2Proof.Machine.execBoreDelete src s
  | .boreRepair src => Sys2Proof.Machine.execBoreRepair src s
  | .boreRecordArrival reader node corrected failed => Sys2Proof.Machine.execBoreRecordArrival reader node corrected failed s
  | .repairPass index shard => Sys2Proof.Machine.execRepairPass index shard s
  | .shardOpen index shard => Sys2Proof.Machine.execShardOpen index shard s
  | .ftlHealth src => Sys2Proof.Machine.execFtlHealth src s
  | .ftlFlush src => Sys2Proof.Machine.execFtlFlush src s
  | .ftlScrub src => Sys2Proof.Machine.execFtlScrub src s
  | .writeAccept c => Sys2Proof.Machine.execWriteAccept c s
  | .programComplete c ok => Sys2Proof.Machine.execProgramComplete c ok s
  | .eraseComplete c b ok => Sys2Proof.Machine.execEraseComplete c b ok s
  | .journalFlush => Sys2Proof.Machine.execJournalFlush s
  | .garbageCollection c => Sys2Proof.Machine.execGarbageCollection c s
  | .wearMove c => Sys2Proof.Machine.execWearMove c s
  | .refresh c b => Sys2Proof.Machine.execRefresh c b s
  | .nandTempSample temps => Sys2Proof.Machine.execNandTempSample temps s
  | .ftlRebuild holdsOk => Sys2Proof.Machine.execFtlRebuild holdsOk s
  | .mirrorPair src => Sys2Proof.Machine.execMirrorPair src s
  | .mirrorStatus src => Sys2Proof.Machine.execMirrorStatus src s
  | .mirrorHandover src => Sys2Proof.Machine.execMirrorHandover src s
  | .mirrorClaim src => Sys2Proof.Machine.execMirrorClaim src s
  | .mirrorTakeover src => Sys2Proof.Machine.execMirrorTakeover src s
  | .mirrorFence src => Sys2Proof.Machine.execMirrorFence src s
  | .mirrorResync src => Sys2Proof.Machine.execMirrorResync src s
  | .recSlots r => Sys2Proof.Machine.execRecSlots r s
  | .recCopyShared r => Sys2Proof.Machine.execRecCopyShared r s
  | .recHeader r => Sys2Proof.Machine.execRecHeader r s
  | .recTruncate r => Sys2Proof.Machine.execRecTruncate r s
  | .recEntry r => Sys2Proof.Machine.execRecEntry r s
  | .recText r => Sys2Proof.Machine.execRecText r s
  | .recAccount r => Sys2Proof.Machine.execRecAccount r s
  | .recPrefix r => Sys2Proof.Machine.execRecPrefix r s
  | .recOutput r => Sys2Proof.Machine.execRecOutput r s
  | .recStepMark r => Sys2Proof.Machine.execRecStepMark r s
  | .recCommitNote r => Sys2Proof.Machine.execRecCommitNote r s
  | .recClaim r => Sys2Proof.Machine.execRecClaim r s
  | .recHandover r => Sys2Proof.Machine.execRecHandover r s
  | .recLeaseQuery r => Sys2Proof.Machine.execRecLeaseQuery r s
  | .recSlotRequest r => Sys2Proof.Machine.execRecSlotRequest r s
  | .recSlotGrant r => Sys2Proof.Machine.execRecSlotGrant r s
  | .recHeartbeat r => Sys2Proof.Machine.execRecHeartbeat r s
  | .recAck r => Sys2Proof.Machine.execRecAck r s
  | .recReplay r => Sys2Proof.Machine.execRecReplay r s
  | .recResyncTile r => Sys2Proof.Machine.execRecResyncTile r s
  | .recFenceNote r => Sys2Proof.Machine.execRecFenceNote r s
  | .recRefuse r => Sys2Proof.Machine.execRecRefuse r s
  | .recHello r keys => Sys2Proof.Machine.execRecHello r keys s
  | .recInput r => Sys2Proof.Machine.execRecInput r s
  | .recReservedKind r => Sys2Proof.Machine.execRecReservedKind r s
  | .linkHeartbeatTick => Sys2Proof.Machine.execLinkHeartbeatTick s
  | .netHeartbeatTick => Sys2Proof.Machine.execNetHeartbeatTick s
  | .ackSendTick => Sys2Proof.Machine.execAckSendTick s
  | .linkSilent => Sys2Proof.Machine.execLinkSilent s
  | .netSilent => Sys2Proof.Machine.execNetSilent s
  | .leaseLapse capsule => Sys2Proof.Machine.execLeaseLapse capsule s
  | .heldWriteTimeout held => Sys2Proof.Machine.execHeldWriteTimeout held s
  | .laneFailure lane => Sys2Proof.Machine.execLaneFailure lane s
  | .partnerLinkRetrained lost => Sys2Proof.Machine.execPartnerLinkRetrained lost s
  | .ckptTargetSet src => Sys2Proof.Machine.execCkptTargetSet src s
  | .ckptTake src => Sys2Proof.Machine.execCkptTake src s
  | .ckptAbort src => Sys2Proof.Machine.execCkptAbort src s
  | .ckptRelease src => Sys2Proof.Machine.execCkptRelease src s
  | .ckptRestore src fetched => Sys2Proof.Machine.execCkptRestore src fetched s
  | .checkpointCut => Sys2Proof.Machine.execCheckpointCut s
  | .cutWaitExpiry => Sys2Proof.Machine.execCutWaitExpiry s
  | .checkpointCopyComplete => Sys2Proof.Machine.execCheckpointCopyComplete s
  | .manifestWriteComplete => Sys2Proof.Machine.execManifestWriteComplete s
  | .destinationTimeout => Sys2Proof.Machine.execDestinationTimeout s
  | .failureWarning src count => Sys2Proof.Machine.execFailureWarning src count s
  | .strandLoad src => Sys2Proof.Machine.execStrandLoad src s
  | .strandUnload src => Sys2Proof.Machine.execStrandUnload src s
  | .strandStart src => Sys2Proof.Machine.execStrandStart src s
  | .strandStop src => Sys2Proof.Machine.execStrandStop src s
  | .strandJobQuery src => Sys2Proof.Machine.execStrandJobQuery src s
  | .strandNop t => Sys2Proof.Machine.execStrandNop t s
  | .sAdd t => Sys2Proof.Machine.execSAdd t s
  | .sSub t => Sys2Proof.Machine.execSSub t s
  | .sMul t => Sys2Proof.Machine.execSMul t s
  | .sMulhu t => Sys2Proof.Machine.execSMulhu t s
  | .sDivu t => Sys2Proof.Machine.execSDivu t s
  | .sRemu t => Sys2Proof.Machine.execSRemu t s
  | .sAnd t => Sys2Proof.Machine.execSAnd t s
  | .sOr t => Sys2Proof.Machine.execSOr t s
  | .sXor t => Sys2Proof.Machine.execSXor t s
  | .sShl t => Sys2Proof.Machine.execSShl t s
  | .sShr t => Sys2Proof.Machine.execSShr t s
  | .sSra t => Sys2Proof.Machine.execSSra t s
  | .sSlt t => Sys2Proof.Machine.execSSlt t s
  | .sSltu t => Sys2Proof.Machine.execSSltu t s
  | .sSel t => Sys2Proof.Machine.execSSel t s
  | .sPopc t => Sys2Proof.Machine.execSPopc t s
  | .sAddi t => Sys2Proof.Machine.execSAddi t s
  | .sAndi t => Sys2Proof.Machine.execSAndi t s
  | .sOri t => Sys2Proof.Machine.execSOri t s
  | .sXori t => Sys2Proof.Machine.execSXori t s
  | .sShli t => Sys2Proof.Machine.execSShli t s
  | .sShri t => Sys2Proof.Machine.execSShri t s
  | .sSrai t => Sys2Proof.Machine.execSSrai t s
  | .sLdi t => Sys2Proof.Machine.execSLdi t s
  | .sLdih t => Sys2Proof.Machine.execSLdih t s
  | .sBeq t => Sys2Proof.Machine.execSBeq t s
  | .sBne t => Sys2Proof.Machine.execSBne t s
  | .sBlt t => Sys2Proof.Machine.execSBlt t s
  | .sBge t => Sys2Proof.Machine.execSBge t s
  | .sBltu t => Sys2Proof.Machine.execSBltu t s
  | .sBgeu t => Sys2Proof.Machine.execSBgeu t s
  | .sJal t => Sys2Proof.Machine.execSJal t s
  | .sJalr t => Sys2Proof.Machine.execSJalr t s
  | .sHalt t => Sys2Proof.Machine.execSHalt t s
  | .sYield t => Sys2Proof.Machine.execSYield t s
  | .sGets t => Sys2Proof.Machine.execSGets t s
  | .sLd8u t => Sys2Proof.Machine.execSLd8u t s
  | .sLd16u t => Sys2Proof.Machine.execSLd16u t s
  | .sLd32u t => Sys2Proof.Machine.execSLd32u t s
  | .sLd32s t => Sys2Proof.Machine.execSLd32s t s
  | .sLd64 t => Sys2Proof.Machine.execSLd64 t s
  | .sSt8 t => Sys2Proof.Machine.execSSt8 t s
  | .sSt16 t => Sys2Proof.Machine.execSSt16 t s
  | .sSt32 t => Sys2Proof.Machine.execSSt32 t s
  | .sSt64 t => Sys2Proof.Machine.execSSt64 t s
  | .sAmoadd t => Sys2Proof.Machine.execSAmoadd t s
  | .sAmoswap t => Sys2Proof.Machine.execSAmoswap t s
  | .sAmocas t => Sys2Proof.Machine.execSAmocas t s
  | .sFence t => Sys2Proof.Machine.execSFence t s
  | .sCld8u t => Sys2Proof.Machine.execSCld8u t s
  | .sCld32u t => Sys2Proof.Machine.execSCld32u t s
  | .sCld64 t => Sys2Proof.Machine.execSCld64 t s
  | .sCst32 t => Sys2Proof.Machine.execSCst32 t s
  | .sCst64 t => Sys2Proof.Machine.execSCst64 t s
  | .sCrdb t => Sys2Proof.Machine.execSCrdb t s
  | .sEiss t => Sys2Proof.Machine.execSEiss t s
  | .sTacc t => Sys2Proof.Machine.execSTacc t s
  | .sRand t => Sys2Proof.Machine.execSRand t s
  | .sRseed t => Sys2Proof.Machine.execSRseed t s
  | .sLalloc t => Sys2Proof.Machine.execSLalloc t s
  | .sLfree t => Sys2Proof.Machine.execSLfree t s
  | .sLsig t => Sys2Proof.Machine.execSLsig t s
  | .sLwait t => Sys2Proof.Machine.execSLwait t s
  | .sLtry t => Sys2Proof.Machine.execSLtry t s
  | .sLsend t => Sys2Proof.Machine.execSLsend t s
  | .sLrecv t => Sys2Proof.Machine.execSLrecv t s
  | .loadReturn t => Sys2Proof.Machine.execLoadReturn t s
  | .hostAccessTimeout t => Sys2Proof.Machine.execHostAccessTimeout t s
  | .ligAlloc src => Sys2Proof.Machine.execLigAlloc src s
  | .ligFree src => Sys2Proof.Machine.execLigFree src s
  | .ligSignal src => Sys2Proof.Machine.execLigSignal src s
  | .ligQuery src => Sys2Proof.Machine.execLigQuery src s
  | .lwaitTimeout t => Sys2Proof.Machine.execLwaitTimeout t s
  | .schedTableLoad src => Sys2Proof.Machine.execSchedTableLoad src s
  | .schedTableOff src => Sys2Proof.Machine.execSchedTableOff src s
  | .schedJobSet src => Sys2Proof.Machine.execSchedJobSet src s
  | .schedSuspend src => Sys2Proof.Machine.execSchedSuspend src s
  | .schedResume src => Sys2Proof.Machine.execSchedResume src s
  | .schedPartitionQuery src => Sys2Proof.Machine.execSchedPartitionQuery src s
  | .slotBoundary => Sys2Proof.Machine.execSlotBoundary s
  | .preemptWindowExpiry j => Sys2Proof.Machine.execPreemptWindowExpiry j s
  | .reedDecision n => Sys2Proof.Machine.execReedDecision n s
  | .burstExpiry n => Sys2Proof.Machine.execBurstExpiry n s
  | .hdmRead addr n => Sys2Proof.Machine.execHdmRead addr n s
  | .hdmWrite addr n => Sys2Proof.Machine.execHdmWrite addr n s
  | .functionLevelReset => Sys2Proof.Machine.execFunctionLevelReset s
  | .hostLinkDown => Sys2Proof.Machine.execHostLinkDown s
  | .hostLinkRetrained mode width => Sys2Proof.Machine.execHostLinkRetrained mode width s
  | .uncorrectableTransferError src => Sys2Proof.Machine.execUncorrectableTransferError src s
  | .d3hotEntry => Sys2Proof.Machine.execD3hotEntry s
  | .d0Return => Sys2Proof.Machine.execD0Return s
  | .hostMemoryTimeout src => Sys2Proof.Machine.execHostMemoryTimeout src s
  | .execTimeout src => Sys2Proof.Machine.execExecTimeout src s
  | .msixHoldoffExpiry v => Sys2Proof.Machine.execMsixHoldoffExpiry v s
  | .sessAdmit f => Sys2Proof.Machine.execSessAdmit f s
  | .sessAppend f => Sys2Proof.Machine.execSessAppend f s
  | .sessEnd f => Sys2Proof.Machine.execSessEnd f s
  | .sessAttach f => Sys2Proof.Machine.execSessAttach f s
  | .sessAck f => Sys2Proof.Machine.execSessAck f s
  | .netHeartbeat f => Sys2Proof.Machine.execNetHeartbeat f s
  | .fabricMap f => Sys2Proof.Machine.execFabricMap f s
  | .rdmaTargetingModule endpoint => Sys2Proof.Machine.execRdmaTargetingModule endpoint s
  | .cnp endpoint => Sys2Proof.Machine.execCnp endpoint s
  | .sessionRetransmit endpoint => Sys2Proof.Machine.execSessionRetransmit endpoint s
  | .sessionAckTimer endpoint => Sys2Proof.Machine.execSessionAckTimer endpoint s
  | .endpointDown endpoint => Sys2Proof.Machine.execEndpointDown endpoint s
  | .mapDeliveryTimeout => Sys2Proof.Machine.execMapDeliveryTimeout s
  | .registerFrameDue => Sys2Proof.Machine.execRegisterFrameDue s
  | .subportLinkChange sp up => Sys2Proof.Machine.execSubportLinkChange sp up s
  | .transmitOpportunity sp => Sys2Proof.Machine.execTransmitOpportunity sp s
  | .queueSampleTick => Sys2Proof.Machine.execQueueSampleTick s
  | .gateIntervalEnd sp => Sys2Proof.Machine.execGateIntervalEnd sp s
  | .ptpAnnounce a => Sys2Proof.Machine.execPtpAnnounce a s
  | .ptpTimingMessage offset delay => Sys2Proof.Machine.execPtpTimingMessage offset delay s
  | .ptpAnnounceTimeout => Sys2Proof.Machine.execPtpAnnounceTimeout s
  | .bellPortSet src => Sys2Proof.Machine.execBellPortSet src s
  | .bellPortStatus src => Sys2Proof.Machine.execBellPortStatus src s
  | .bellQueueSet src => Sys2Proof.Machine.execBellQueueSet src s
  | .bellQueueSample src => Sys2Proof.Machine.execBellQueueSample src s
  | .bellPolicerSet src => Sys2Proof.Machine.execBellPolicerSet src s
  | .bellGateLoad src => Sys2Proof.Machine.execBellGateLoad src s
  | .bellEndpointQuery src => Sys2Proof.Machine.execBellEndpointQuery src s
  | .timeSet src => Sys2Proof.Machine.execTimeSet src s
  | .timeStepAllow src => Sys2Proof.Machine.execTimeStepAllow src s
  | .secAttest src => Sys2Proof.Machine.execSecAttest src s
  | .secIdentity src => Sys2Proof.Machine.execSecIdentity src s
  | .secImport src => Sys2Proof.Machine.execSecImport src s
  | .enrolCredential g => Sys2Proof.Machine.execEnrolCredential g s
  | .revokeCredential g => Sys2Proof.Machine.execRevokeCredential g s
  | .enrolKey g => Sys2Proof.Machine.execEnrolKey g s
  | .removeKey g => Sys2Proof.Machine.execRemoveKey g s
  | .setConfig g => Sys2Proof.Machine.execSetConfig g s
  | .fwStage g => Sys2Proof.Machine.execFwStage g s
  | .fwActivate g => Sys2Proof.Machine.execFwActivate g s
  | .fwCommit g => Sys2Proof.Machine.execFwCommit g s
  | .mgmtAttest g => Sys2Proof.Machine.execMgmtAttest g s
  | .evrecRead g => Sys2Proof.Machine.execEvrecRead g s
  | .evrecClear g => Sys2Proof.Machine.execEvrecClear g s
  | .mgmtReset g => Sys2Proof.Machine.execMgmtReset g s
  | .mgmtStatus g => Sys2Proof.Machine.execMgmtStatus g s
  | .mgmtMessageTimeout => Sys2Proof.Machine.execMgmtMessageTimeout s
  | .mgmtLockoutEnd => Sys2Proof.Machine.execMgmtLockoutEnd s
  | .crookRestartEnd => Sys2Proof.Machine.execCrookRestartEnd s
  | .attestHoldExpiry => Sys2Proof.Machine.execAttestHoldExpiry s
  | .evrecNote src => Sys2Proof.Machine.execEvrecNote src s
  | .evrecRecordWrite => Sys2Proof.Machine.execEvrecRecordWrite s
  | .rateSecondEnd => Sys2Proof.Machine.execRateSecondEnd s
  | .sectorEraseComplete => Sys2Proof.Machine.execSectorEraseComplete s
  | .checkConfig src => Sys2Proof.Machine.execCheckConfig src s
  | .checkScan src => Sys2Proof.Machine.execCheckScan src s
  | .powerBreath src => Sys2Proof.Machine.execPowerBreath src s
  | .breathWindowStart n => Sys2Proof.Machine.execBreathWindowStart n s
  | .breathWindowEnd n => Sys2Proof.Machine.execBreathWindowEnd n s
  | .coreMonitorSample mv => Sys2Proof.Machine.execCoreMonitorSample mv s
  | .trimPeriodEnd => Sys2Proof.Machine.execTrimPeriodEnd s
  | .powerWindow watts => Sys2Proof.Machine.execPowerWindow watts s
  | .thermalLimit junction => Sys2Proof.Machine.execThermalLimit junction s
  | .thermalTrip => Sys2Proof.Machine.execThermalTrip s
  | .converterFault => Sys2Proof.Machine.execConverterFault s
  | .powerOn => Sys2Proof.Machine.execPowerOn s
  | .inputLost => Sys2Proof.Machine.execInputLost s
  | .inputOvervoltage => Sys2Proof.Machine.execInputOvervoltage s
  | .pwrEnFall => Sys2Proof.Machine.execPwrEnFall s
  | .j3SenseBreak => Sys2Proof.Machine.execJ3SenseBreak s
  | .inputReturn => Sys2Proof.Machine.execInputReturn s
  | .holdupWorkEnd => Sys2Proof.Machine.execHoldupWorkEnd s
  | .resetNLow => Sys2Proof.Machine.execResetNLow s
  | .perstNLow => Sys2Proof.Machine.execPerstNLow s
  | .resetRelease x => Sys2Proof.Machine.execResetRelease x s
  | .readySet => Sys2Proof.Machine.execReadySet s
  | .testDiag src failed cores strands units => Sys2Proof.Machine.execTestDiag src failed cores strands units s
  | .testPerturb src => Sys2Proof.Machine.execTestPerturb src s
  | .perturbSlotEnd n => Sys2Proof.Machine.execPerturbSlotEnd n s
  | .opHourTick => Sys2Proof.Machine.execOpHourTick s
  | .sweepPartnerQuery batch => Sys2Proof.Machine.execSweepPartnerQuery batch s
  | .sweepQueryAnswer batch held => Sys2Proof.Machine.execSweepQueryAnswer batch held s
  | .repairFetchRequest capsule entry block => Sys2Proof.Machine.execRepairFetchRequest capsule entry block s
  | .mirrorRecordCheckFail r => Sys2Proof.Machine.execMirrorRecordCheckFail r s
  | .commandTimeBoundExpiry src => Sys2Proof.Machine.execCommandTimeBoundExpiry src s
  | .hostWriteAcknowledged t => Sys2Proof.Machine.execHostWriteAcknowledged t s
  | .priorityFlowControl sp classes pause => Sys2Proof.Machine.execPriorityFlowControl sp classes pause s
  | .msixVectorUnmask v => Sys2Proof.Machine.execMsixVectorUnmask v s

end Sys2Proof.Machine
end

