-- ==== Sys2Proof/Machine/Step.lean ====
section
/-!
DEFINITION. One step of the module: the command at the front of the queue, or a tick of the time counter when none waits.
-/

namespace Sys2Proof.Machine

open Sys2Proof

/-- One step: the command at the front of the queue leaves it and acts; with no command waiting the time counter ticks. -/
def step (s : State) : Host.Outcome State Fault Refusal :=
  match s.pending with
  | [] => tickStep s
  | c :: rest => exec c { s with pending := rest }

/-- The state with the command that a word spells at the front of its queue, and the same state where it spells none. -/
def State.withFetchWord (s : State) (nbits w : Nat) : State :=
  match decodeTableWord nbits w with
  | some c => { s with pending := c :: s.pending }
  | none => s

end Sys2Proof.Machine
end

