-- ==== Sys2Proof/Machine/Views.lean ====
section
/-!
DEFINITION. What a read of a BAR0 register returns (R17, R19, R439). Most read-only fields show what the state holds elsewhere:
these are the views of the tables, so that no field has two homes.
-/

namespace Sys2Proof.Machine

open Sys2Proof

/-- Partitions that p holds of, as a mask. -/
def maskOf (p : Nat → Bool) : Nat := (List.range 8).foldl (fun a i => a + (if p i then 2 ^ i else 0)) 0

/-- A read-only field by its row, with the value that element i of its array shows. -/
abbrev View := Fld × (Module → Nat → Nat)

/-- A core's figures are hidden while its partition is in Mute mode (R503). -/
def Module.coreShown (m : Module) (c : Nat) : Bool := !((m.corePart c).map m.mute).getD false
def Module.strandShown (m : Module) (c : Nat) : Bool := !((m.strandPart c).map m.mute).getD false

/-- GLOBAL and CAPS (R74, R457). -/
def viewsA : List View := [
  (Reg.GLOBAL.IDENT_STEPPING, fun _ _ => Config.stepping.toNat),
  (Reg.GLOBAL.SERIAL_SERIAL, fun _ _ => Config.serial.toNat),
  (Reg.CAPS.LIVE_COUNT_COUNT, fun m _ => (m.caps.slots.vals.filter (fun c => c.state != 0 && c.state != 6)).length),
  (Reg.CAPS.RETIRED_COUNT_COUNT, fun m _ => (m.caps.slots.vals.filter (fun c => c.state == 6)).length),
  (Reg.CAPS.FREE_OWN_COUNT, fun m _ => if !m.live then 0 else
    2 ^ 23 - (m.caps.slots.filter (fun (s, c) => s % 2 == m.mirror.linkId && c.state != 0)).length),
  (Reg.CAPS.DAMAGED_COUNT_COUNT, fun m _ => (m.caps.slots.vals.filter (fun c => c.state != 0 && c.damaged)).length),
  (Reg.CAPS.SHARE_USED_COUNT, fun m _ => m.caps.share.length)]

/-- SLIDE and ATTN (R105, R133). -/
def viewsB : List View := [
  (Reg.SLIDE.HBM_FREE_FRAMES, fun m _ => m.tierUnused 0),
  (Reg.SLIDE.LPDDR_FREE_FRAMES, fun m _ => m.tierUnused 1),
  (Reg.SLIDE.HOST_FREE_FRAMES, fun m _ => m.tierUnused 2),
  (Reg.SLIDE.STATUS_HOST_REGION, fun m _ => b2n (!m.slide.extents.isEmpty)),
  (Reg.SLIDE.STATUS_RELIEVING, fun m _ => b2n (m.slide.moves.vals.any (fun v => v.why == .relief))),
  (Reg.SLIDE.HBM_USED_FRAMES, fun m p => m.hbmHeld p),
  (Reg.ATTN.MODELS_REGISTERED, fun m _ => m.attn.models.keys.foldl (fun a i => a + 2 ^ i) 0),
  (Reg.ATTN.CORE_STATE_PARTITION, fun m c => (m.corePart c).getD 0),
  (Reg.ATTN.CORE_STATE_FUSED_QUEUED, fun m c => if m.coreShown c then (m.core c).fused.length else 0),
  (Reg.ATTN.CORE_STATE_PROG_QUEUED, fun m c => if m.coreShown c then (m.core c).progQueue.length else 0),
  (Reg.ATTN.CORE_STATE_WALKS, fun m c => if m.coreShown c then (m.core c).active.length else 0),
  (Reg.ATTN.CORE_STATE_PROGRAM, fun m c => if m.coreShown c then (((m.core c).run).map (·.program)).getD 0 else 0),
  (Reg.ATTN.CORE_STATE_PROG_RUN, fun m c => if m.coreShown c then b2n (m.core c).run.isSome else 0),
  (Reg.ATTN.CORE_STATE_FAULT, fun m c => if m.coreShown c then (m.core c).fault else 0)]

/-- STEP and BUDGET (R184, R220). -/
def viewsC : List View := [
  (Reg.STEP.ENTRIES_USED_COUNT, fun m _ => m.steps.reqs.length),
  (Reg.STEP.READY_COUNT_COUNT, fun m _ => (m.steps.reqs.vals.filter (fun r => r.state == 1 && r.reserved.isNone)).length),
  (Reg.STEP.STATUS_NO_POOL, fun m _ => maskOf (fun p => (m.pstep p).pool.isNone)),
  (Reg.STEP.STATUS_HOST_FORMED, fun m _ => maskOf (fun p => m.present p && decide (m.coreCount p ≤ 8))),
  (Reg.STEP.STATUS_NO_CORE, fun m _ => maskOf (fun p =>
    !(List.range 64).any (fun c => m.corePart c == some p && ((m.core c).mode == 1 || (m.core c).mode == 2)))),
  (Reg.STEP.ENTRY_USED_ENTRIES, fun m p => (m.steps.reqs.vals.filter (fun r => r.partition == p)).length),
  (Reg.STEP.POOL_ENDPOINT, fun m p => ((m.pstep p).pool.map (·.endpoint)).getD 0),
  (Reg.STEP.POOL_BOUND, fun m p => b2n (m.pstep p).pool.isSome),
  (Reg.BUDGET.ACCOUNTS_OPEN_COUNT, fun m _ => (m.steps.accounts.vals.filter (fun a => bit a.flags 0)).length),
  (Reg.BUDGET.PREFIXES_COUNT, fun m _ => (m.steps.prefixes.vals.filter (fun x => x.pages != 0)).length),
  (Reg.BUDGET.ADAPTERS_COUNT, fun m _ => m.steps.adapters.length),
  (Reg.BUDGET.STATUS_STRICT_ON, fun m _ => maskOf (fun p =>
    m.steps.accounts.vals.any (fun a => a.partition == p && bit a.flags 0 && bit a.flags 2)))]

/-- MOUTH, FTL and MIRROR (R251, R311, R340). -/
def viewsD : List View := [
  (Reg.FTL.FRAMES_MAPPED_COUNT, fun m _ => m.ftl.frames.length),
  (Reg.FTL.USER_FREE_SECTORS, fun m _ => (List.range 32).foldl (fun a c => a + m.chanFree c) 0),
  (Reg.FTL.SPARE_MIN_BLOCKS, fun m _ => m.spareMin.2),
  (Reg.FTL.SPARE_MIN_CHANNEL, fun m _ => m.spareMin.1),
  (Reg.FTL.WEAR_PCT, fun m _ => Min.min 255 (m.eraseMean * 100 / 3000)),
  (Reg.FTL.WEAR_ERASE_MEAN, fun m _ => m.eraseMean),
  (Reg.FTL.WEAR_ERASE_MAX, fun m _ => m.eraseMax),
  (Reg.FTL.CHAN_SPARE, fun m c => (m.chan c).spare),
  (Reg.FTL.CHAN_FREE, fun m c => (m.chan c).freeBlocks),
  (Reg.MIRROR.STATE_PAIR_STATE, fun m _ => m.mirror.state),
  (Reg.MIRROR.STATE_LINK_ID, fun m _ => m.mirror.linkId),
  (Reg.MIRROR.STATE_PAIR_EPOCH, fun m _ => m.mirror.epoch),
  (Reg.MIRROR.PARTNER_SERIAL, fun m _ => m.mirror.partnerSerial),
  (Reg.MIRROR.STATUS_COMMIT_STALL, fun m _ => b2n ((List.range 8).any (fun p =>
    (m.pstep p).live.any (fun s => s.writing && !m.marked s && !m.commitsAlone s)))),
  (Reg.MIRROR.TX_SEQ_NEXT, fun m _ => m.mirror.txNext),
  (Reg.MIRROR.TX_SEQ_ACKED, fun m _ => m.mirror.txAcked),
  (Reg.MIRROR.RX_SEQ_APPLIED, fun m _ => m.mirror.rxApplied),
  (Reg.MIRROR.RESYNC_LEFT, fun m _ => m.mirror.queue.length + m.mirror.syncing.length)]

/-- STRAND, LIG, SCHED and REED (R382, R401, R422, R433). -/
def viewsE : List View := [
  (Reg.STRAND.PROGRAMS_COUNT, fun m _ => m.strand.programs.length),
  (Reg.STRAND.JOBS_COUNT, fun m _ => m.strand.jobs.length),
  (Reg.STRAND.THREADS_BUSY_COUNT, fun m _ => m.strand.threads.length),
  (Reg.STRAND.ISSUE_DEPTH_COUNT, fun m p => (m.strand.issued.vals.filter (fun i => i.partition == p)).length),
  (Reg.STRAND.CORE_PARTITION, fun m c => (m.strandPart c).getD 0),
  (Reg.STRAND.CORE_ENABLED, fun m c => b2n (m.strandPart c).isSome),
  (Reg.STRAND.CORE_BUSY, fun m c => if m.strandShown c then maskOf (fun t => m.strand.threads.has (8 * c + t)) else 0),
  (Reg.LIG.ALLOCATED_COUNT, fun m _ => m.lig.objs.length),
  (Reg.LIG.MSG_FREE_COUNT, fun m _ => m.msgFree),
  (Reg.LIG.USED_OBJECTS, fun m p => m.ligUsed p),
  (Reg.SCHED.ATTN_MASK_CORES, fun m p => (m.part p).attnMask),
  (Reg.SCHED.PART_STRAND_FIRST, fun m p => (m.part p).strandFirst),
  (Reg.SCHED.PART_STRAND_COUNT, fun m p => (m.part p).strandCount),
  (Reg.SCHED.PART_PRESENT, fun m p => b2n (m.present p)),
  (Reg.SCHED.PART_MUTE, fun m p => b2n (m.mute p)),
  (Reg.SCHED.PART_RT_ALLOWED, fun m p => b2n (bit (m.part p).flags 2)),
  (Reg.SCHED.CREDITS_POOL, fun m p => (m.part p).hostCredits),
  (Reg.SCHED.CREDITS_FREE, fun m p => m.sched.freeCredits.getD p 0),
  (Reg.REED.SUMMARY_OVERSTAY_ANY, fun m _ => b2n ((List.range 93).any (fun i => m.get (reedFld Reg.REED.STATUS_OVERSTAY i) != 0))),
  (Reg.REED.SUMMARY_STARVING_ANY, fun m _ => b2n ((List.range 93).any (fun i => m.get (reedFld Reg.REED.STATUS_STARVING i) != 0))),
  (Reg.REED.SUMMARY_NO_SLOTS_ANY, fun m _ => b2n ((List.range 93).any (fun i => m.flag (reedFld Reg.REED.STATUS_NO_SLOTS i))))]

/-- TIME, BELL, EVREC, POWER and TEST (R486, R527, R559, R575). -/
def viewsF : List View := [
  (Reg.TIME.NOW_NS_NS, fun m _ => m.clk.now),
  (Reg.BELL.STATUS_LINK_UP, fun m _ => (List.range 16).foldl (fun a s => a + (if (m.subport s).up then 2 ^ s else 0)) 0),
  (Reg.EVREC.NEXT_SEQ_SEQ, fun m _ => m.ev.nextSeq),
  (Reg.EVREC.OLDEST_SEQ_SEQ, fun m _ => m.oldestSeq),
  (Reg.EVREC.LIFETIME_OP_HOURS, fun m _ => m.ev.opHours),
  (Reg.EVREC.LIFETIME_POWER_CYCLES, fun m _ => m.ev.powerCycles),
  (Reg.POWER.CAP_CAP_W, fun m _ => m.power.capW),
  (Reg.POWER.CAP_STRAP_DEFAULT, fun m _ => b2n m.power.capDefault),
  (Reg.POWER.STRAPS_PAIR_ID, fun m _ => m.mirror.linkId),
  (Reg.POWER.STRAPS_PAIR_DEFAULT, fun m _ => b2n m.power.pairDefault),
  (Reg.POWER.ALERT_SPARE_WARN, fun m _ => m.get Reg.FTL.STATUS_SPARE_WARN),
  (Reg.POWER.ALERT_FLASH_READ_ONLY, fun m _ => m.get Reg.FTL.STATUS_READ_ONLY),
  (Reg.POWER.ALERT_EVREC_FULL, fun m _ => m.get Reg.EVREC.STATUS_FULL),
  (Reg.POWER.ALERT_STRAP, fun m _ => b2n (m.power.capDefault || m.power.pairDefault)),
  (Reg.POWER.ALERT_HOLDUP_LOW, fun m _ => b2n m.power.holdupLow),
  (Reg.POWER.FAULT_LAST_CAUSE, fun m _ => m.power.faultCause),
  (Reg.POWER.FAULT_LAST_OP_HOURS, fun m _ => m.power.faultHours)] ++ [
  (Reg.TEST.CAUSE_RESET_CAUSE, fun m _ => m.power.cause),
  (Reg.TEST.CAUSE_START_MS, fun m _ => m.power.startMs),
  (Reg.TEST.DIAG_RESULT_FAILED, fun m _ => m.test.failed),
  (Reg.TEST.DIAG_CORES_FAILED, fun m _ => m.test.cores),
  (Reg.TEST.DIAG_STRANDS_COUNT, fun m _ => m.test.strands.length),
  (Reg.TEST.DIAG_STRANDS_FIRST, fun m _ => (m.test.strands.min?).getD 0),
  (Reg.TEST.STATUS_ACTIVE, fun m _ => m.test.slots.keys.foldl (fun a n => a + 2 ^ n) 0),
  (Reg.TEST.PERTURB_NS_COUNT, fun m _ => bumpVal 64 (m.reg Reg.TEST.PERTURB_NS_COUNT.off).toNat
    (if m.test.slots.isEmpty then 0 else m.clk.mono - m.test.counted)),
  (Reg.TEST.PERT_CTRL_PATH, fun m n => ((m.test.slots.get n).map (·.path)).getD 0),
  (Reg.TEST.PERT_CTRL_MODE, fun m n => ((m.test.slots.get n).map (·.mode)).getD 0),
  (Reg.TEST.PERT_CTRL_PARTITION, fun m n => ((m.test.slots.get n).map (·.partition)).getD 0 % 8),
  (Reg.TEST.PERT_CTRL_ALL, fun m n => ((m.test.slots.get n).map (fun x => b2n (x.partition == 8))).getD 0),
  (Reg.TEST.PERT_CTRL_AMOUNT, fun m n => ((m.test.slots.get n).map (·.amount)).getD 0),
  (Reg.TEST.PERT_END_END_NS, fun m n => ((m.test.slots.get n).map (·.endNs)).getD 0)]

/-- The view of a row's field, if the state holds it elsewhere. -/
def viewOf (f : Fld) : Option (Module → Nat → Nat) :=
  ((viewsA ++ viewsB ++ viewsC ++ viewsD ++ viewsE ++ viewsF).find? (fun v => v.1 == f)).map (·.2)

/-- What a read of the register at a BAR0 offset returns: each field as it is held or shown, write-only fields and reserved
bits zero (R15, R19). -/
def Module.readReg (m : Module) (off : Nat) : Word :=
  BitVec.ofNat 64 ((rowsAt off).foldl (fun a r =>
    if r.fld.acc == .wo then setBits a r.fld.hi r.fld.lo 0
    else
      match viewOf r.fld with
      | some v => setBits a r.fld.hi r.fld.lo (v m ((off - r.fld.off) / r.stride))
      | none => a) (m.reg off).toNat)

/-- What the host reads: all-ones in D3hot or with the link down, and no answer to a read of a wrong size (R436, R439). -/
def Module.hostRead (m : Module) (off bytes : Nat) : Nat :=
  if !m.barUp then 2 ^ (8 * bytes) - 1
  else if regWriteOk (off % 8) bytes then bits (m.readReg (off / 8 * 8)).toNat (8 * (off % 8 + bytes) - 1) (8 * (off % 8))
  else 0

/-! ### Pins (R552, R554) -/

/-- VREF_RDY is driven: input in range, PWR_EN high, RESET_N high. -/
def Module.vrefRdy (m : Module) : Bool := m.power.input && m.power.pwrEn && !m.power.resetN && m.power.phase != .off

/-- The module drives its outputs: they float in reset and without power (R554). -/
def Module.drives (m : Module) : Bool := m.power.phase == .started || m.power.phase == .holdup

/-- ALERT_N is low while a bit of POWER.ALERT is set, and FAULT_N while a fault is held; READY is released while
GLOBAL.STATUS.READY is set (R552, R555). FAULT_N of a start whose images fail is asserted from reset (R490). -/
def Module.alertLow (m : Module) : Bool := m.drives && (m.readReg Reg.POWER.ALERT_STRAP.off).toNat != 0
def Module.faultLow (m : Module) : Bool := m.power.faultN
def Module.readyPin (m : Module) : Bool := m.live && m.flag Reg.GLOBAL.STATUS_READY

end Sys2Proof.Machine
end

