-- ==== Sys2Proof/WellFormed.lean ====
section
/-!
DEFINITION. Which commands and events can reach the module: those whose operands name places that it has. Every other
term is refused as ill-formed.
-/

namespace Sys2Proof

/-- The operands name places that the module has: a mailbox of 64 (R441), a partition of 8 (R402), an attention core of 64
(R106), a flash channel of 32 (R287), a Reed instance of 93 (R423), a sub-port of 16 (R458), a vector of 128 (R449), a shard
of 32 in an index of 16 (R252), a register below 32 MiB (R17), an account of 65,536 (R185), a partner lane of 16 (R312), a
warning source of 8 (R353), a perturbation slot of 16 (R570), and one figure for each core monitor and flash channel. -/
def Instr.wf : Instr → Bool
  | .registerWrite off _ _ => decide (off < 0x2000000)
  | .nowNsRead => true
  | .mailboxSlotWrite mb off _ => decide (mb < 64) && decide (off < 0x2000)
  | .mailboxGo mb _ => decide (mb < 64)
  | .ringTailWrite p _ => decide (p < 8)
  | .moduleReset _ => true
  | .partitionReset _ => true
  | .cursorWrite _ _ _ => true
  | .advance _ _ _ => true
  | .windowLoadComplete => true
  | .nop _ => true
  | .identify _ => true
  | .capsuleCreate _ => true
  | .capsuleDelete _ => true
  | .capsuleQuery _ => true
  | .capsuleRead _ => true
  | .capsulePark _ => true
  | .capsuleTruncate _ => true
  | .capsuleRepair _ => true
  | .repairBlockArrival _ _ _ _ _ _ => true
  | .capsuleSweep _ => true
  | .sweepInterval => true
  | .slidePlace _ => true
  | .slideSchedule _ => true
  | .slideSwapRegister _ => true
  | .slideSwapRelease _ => true
  | .hintMove => true
  | .prefetchIssue _ => true
  | .tileTransferComplete _ _ _ => true
  | .prefetchDeadline _ _ => true
  | .stallWarn _ => true
  | .hostSwapCascade => true
  | .hostTierReadTimeout _ => true
  | .attnModelRegister _ => true
  | .attnModelRelease _ => true
  | .attnSubmit _ => true
  | .attnProgramLoad _ => true
  | .attnProgramStart _ => true
  | .attnProgramStop _ => true
  | .attnCoreAssign _ => true
  | .coreModeDrained core => decide (core < 64)
  | .query _ _ => true
  | .batchWaitExpiry core => decide (core < 64)
  | .blockBoundary core => decide (core < 64)
  | .queryTimeout => true
  | .orphanQueryExpiry => true
  | .programSliceExpiry core => decide (core < 64)
  | .coreLoad core => decide (core < 64)
  | .coreStore core => decide (core < 64)
  | .coreCapread core => decide (core < 64)
  | .coreMatmul core => decide (core < 64)
  | .coreVecop core => decide (core < 64)
  | .coreFused core => decide (core < 64)
  | .coreWait core => decide (core < 64)
  | .coreSignal core => decide (core < 64)
  | .coreLoop core => decide (core < 64)
  | .coreEnd core => decide (core < 64)
  | .stepAdmit _ => true
  | .admitInputRead _ _ => true
  | .stepAppend _ => true
  | .stepWait _ => true
  | .stepEnd _ => true
  | .stepQuery _ => true
  | .stepSet _ => true
  | .stepBatch _ => true
  | .stepPoolBind _ => true
  | .stepRingSet _ => true
  | .stepBuild p => decide (p < 8)
  | .sampleRecordPrepare p => decide (p < 8)
  | .accountPhase p => decide (p < 8)
  | .writePhase p => decide (p < 8)
  | .outputCommit p => decide (p < 8)
  | .budgetOpen _ => true
  | .budgetClose _ => true
  | .budgetSet _ => true
  | .budgetQuery _ => true
  | .accountPeriodEnd a => decide (a < 65536)
  | .prefixCreate _ => true
  | .prefixDelete _ => true
  | .prefixFind _ => true
  | .prefixPlace _ => true
  | .adapterLoad _ => true
  | .adapterRetire _ => true
  | .adapterQuery _ => true
  | .adapterPoolBind _ => true
  | .specBind _ => true
  | .mouthTokenizerLoad _ => true
  | .mouthTokenizerUnload _ => true
  | .mouthGrammarLoad _ => true
  | .mouthGrammarUnload _ => true
  | .mouthGrammarSet _ => true
  | .mouthStopLoad _ => true
  | .mouthTextSet _ => true
  | .mouthTokenize _ => true
  | .mouthCarryFlush _ => true
  | .nextMaskWrite p _ => decide (p < 8)
  | .boreIndexCreate _ => true
  | .boreIndexDrop _ => true
  | .boreIndexInfo _ => true
  | .boreQuery _ => true
  | .boreInsert _ => true
  | .boreDelete _ => true
  | .boreRepair _ => true
  | .boreRecordArrival _ _ _ _ => true
  | .repairPass index shard => decide (index < 16) && decide (shard < 32)
  | .shardOpen index shard => decide (index < 16) && decide (shard < 32)
  | .ftlHealth _ => true
  | .ftlFlush _ => true
  | .ftlScrub _ => true
  | .writeAccept c => decide (c < 32)
  | .programComplete c _ => decide (c < 32)
  | .eraseComplete c _ _ => decide (c < 32)
  | .journalFlush => true
  | .garbageCollection c => decide (c < 32)
  | .wearMove c => decide (c < 32)
  | .refresh c _ => decide (c < 32)
  | .nandTempSample temps => temps.length == 32 && temps.all (fun t => decide (-128 ≤ t) && decide (t ≤ 127))
  | .ftlRebuild _ => true
  | .mirrorPair _ => true
  | .mirrorStatus _ => true
  | .mirrorHandover _ => true
  | .mirrorClaim _ => true
  | .mirrorTakeover _ => true
  | .mirrorFence _ => true
  | .mirrorResync _ => true
  | .recSlots _ => true
  | .recCopyShared _ => true
  | .recHeader _ => true
  | .recTruncate _ => true
  | .recEntry _ => true
  | .recText _ => true
  | .recAccount _ => true
  | .recPrefix _ => true
  | .recOutput _ => true
  | .recStepMark _ => true
  | .recCommitNote _ => true
  | .recClaim _ => true
  | .recHandover _ => true
  | .recLeaseQuery _ => true
  | .recSlotRequest _ => true
  | .recSlotGrant _ => true
  | .recHeartbeat _ => true
  | .recAck _ => true
  | .recReplay _ => true
  | .recResyncTile _ => true
  | .recFenceNote _ => true
  | .recRefuse _ => true
  | .recHello _ _ => true
  | .recInput _ => true
  | .recReservedKind _ => true
  | .linkHeartbeatTick => true
  | .netHeartbeatTick => true
  | .ackSendTick => true
  | .linkSilent => true
  | .netSilent => true
  | .leaseLapse _ => true
  | .heldWriteTimeout _ => true
  | .laneFailure lane => decide (lane < 16)
  | .partnerLinkRetrained _ => true
  | .ckptTargetSet _ => true
  | .ckptTake _ => true
  | .ckptAbort _ => true
  | .ckptRelease _ => true
  | .ckptRestore _ _ => true
  | .checkpointCut => true
  | .cutWaitExpiry => true
  | .checkpointCopyComplete => true
  | .manifestWriteComplete => true
  | .destinationTimeout => true
  | .failureWarning src _ => decide (src < 8)
  | .strandLoad _ => true
  | .strandUnload _ => true
  | .strandStart _ => true
  | .strandStop _ => true
  | .strandJobQuery _ => true
  | .strandNop _ => true
  | .sAdd _ => true
  | .sSub _ => true
  | .sMul _ => true
  | .sMulhu _ => true
  | .sDivu _ => true
  | .sRemu _ => true
  | .sAnd _ => true
  | .sOr _ => true
  | .sXor _ => true
  | .sShl _ => true
  | .sShr _ => true
  | .sSra _ => true
  | .sSlt _ => true
  | .sSltu _ => true
  | .sSel _ => true
  | .sPopc _ => true
  | .sAddi _ => true
  | .sAndi _ => true
  | .sOri _ => true
  | .sXori _ => true
  | .sShli _ => true
  | .sShri _ => true
  | .sSrai _ => true
  | .sLdi _ => true
  | .sLdih _ => true
  | .sBeq _ => true
  | .sBne _ => true
  | .sBlt _ => true
  | .sBge _ => true
  | .sBltu _ => true
  | .sBgeu _ => true
  | .sJal _ => true
  | .sJalr _ => true
  | .sHalt _ => true
  | .sYield _ => true
  | .sGets _ => true
  | .sLd8u _ => true
  | .sLd16u _ => true
  | .sLd32u _ => true
  | .sLd32s _ => true
  | .sLd64 _ => true
  | .sSt8 _ => true
  | .sSt16 _ => true
  | .sSt32 _ => true
  | .sSt64 _ => true
  | .sAmoadd _ => true
  | .sAmoswap _ => true
  | .sAmocas _ => true
  | .sFence _ => true
  | .sCld8u _ => true
  | .sCld32u _ => true
  | .sCld64 _ => true
  | .sCst32 _ => true
  | .sCst64 _ => true
  | .sCrdb _ => true
  | .sEiss _ => true
  | .sTacc _ => true
  | .sRand _ => true
  | .sRseed _ => true
  | .sLalloc _ => true
  | .sLfree _ => true
  | .sLsig _ => true
  | .sLwait _ => true
  | .sLtry _ => true
  | .sLsend _ => true
  | .sLrecv _ => true
  | .loadReturn _ => true
  | .hostAccessTimeout _ => true
  | .ligAlloc _ => true
  | .ligFree _ => true
  | .ligSignal _ => true
  | .ligQuery _ => true
  | .lwaitTimeout _ => true
  | .schedTableLoad _ => true
  | .schedTableOff _ => true
  | .schedJobSet _ => true
  | .schedSuspend _ => true
  | .schedResume _ => true
  | .schedPartitionQuery _ => true
  | .slotBoundary => true
  | .preemptWindowExpiry _ => true
  | .reedDecision i => decide (i < 93)
  | .burstExpiry i => decide (i < 93)
  | .hdmRead _ _ => true
  | .hdmWrite _ _ => true
  | .functionLevelReset => true
  | .hostLinkDown => true
  | .hostLinkRetrained mode width => decide (1 ≤ mode) && decide (mode ≤ 6) && decide (width ≤ 16)
  | .uncorrectableTransferError _ => true
  | .d3hotEntry => true
  | .d0Return => true
  | .hostMemoryTimeout _ => true
  | .execTimeout _ => true
  | .msixHoldoffExpiry v => decide (v < 128)
  | .sessAdmit _ => true
  | .sessAppend _ => true
  | .sessEnd _ => true
  | .sessAttach _ => true
  | .sessAck _ => true
  | .netHeartbeat _ => true
  | .fabricMap _ => true
  | .rdmaTargetingModule _ => true
  | .cnp _ => true
  | .sessionRetransmit _ => true
  | .sessionAckTimer _ => true
  | .endpointDown _ => true
  | .mapDeliveryTimeout => true
  | .registerFrameDue => true
  | .subportLinkChange sp _ => decide (sp < 16)
  | .transmitOpportunity sp => decide (sp < 16)
  | .queueSampleTick => true
  | .gateIntervalEnd sp => decide (sp < 16)
  | .ptpAnnounce a => decide (a.subport < 16)
  | .ptpTimingMessage _ _ => true
  | .ptpAnnounceTimeout => true
  | .bellPortSet _ => true
  | .bellPortStatus _ => true
  | .bellQueueSet _ => true
  | .bellQueueSample _ => true
  | .bellPolicerSet _ => true
  | .bellGateLoad _ => true
  | .bellEndpointQuery _ => true
  | .timeSet _ => true
  | .timeStepAllow _ => true
  | .secAttest _ => true
  | .secIdentity _ => true
  | .secImport _ => true
  | .enrolCredential _ => true
  | .revokeCredential _ => true
  | .enrolKey _ => true
  | .removeKey _ => true
  | .setConfig _ => true
  | .fwStage _ => true
  | .fwActivate _ => true
  | .fwCommit _ => true
  | .mgmtAttest _ => true
  | .evrecRead _ => true
  | .evrecClear _ => true
  | .mgmtReset _ => true
  | .mgmtStatus _ => true
  | .mgmtMessageTimeout => true
  | .mgmtLockoutEnd => true
  | .crookRestartEnd => true
  | .attestHoldExpiry => true
  | .evrecNote _ => true
  | .evrecRecordWrite => true
  | .rateSecondEnd => true
  | .sectorEraseComplete => true
  | .checkConfig _ => true
  | .checkScan _ => true
  | .powerBreath _ => true
  | .breathWindowStart _ => true
  | .breathWindowEnd _ => true
  | .coreMonitorSample mv => mv.length == 32
  | .trimPeriodEnd => true
  | .powerWindow _ => true
  | .thermalLimit _ => true
  | .thermalTrip => true
  | .converterFault => true
  | .powerOn => true
  | .inputLost => true
  | .inputOvervoltage => true
  | .pwrEnFall => true
  | .j3SenseBreak => true
  | .inputReturn => true
  | .holdupWorkEnd => true
  | .resetNLow => true
  | .perstNLow => true
  | .resetRelease _ => true
  | .readySet => true
  | .testDiag _ _ _ _ _ => true
  | .testPerturb _ => true
  | .perturbSlotEnd n => decide (n < 16)
  | .opHourTick => true
  | .sweepPartnerQuery batch => decide (batch.length ≤ 4096)
  | .sweepQueryAnswer _ _ => true
  | .repairFetchRequest _ _ _ => true
  | .mirrorRecordCheckFail _ => true
  | .commandTimeBoundExpiry _ => true
  | .hostWriteAcknowledged _ => true
  | .priorityFlowControl sp _ _ => decide (sp < 16)
  | .msixVectorUnmask v => decide (v < 128)

end Sys2Proof
end

