-- ==== Sys2Proof/Safety.lean ====
section
/-!
DEFINITION. The terms in which claims speak of the module: what it is for a command or event to act, for a mailbox command to
be ready to act, and what stays well formed along every run.
-/

namespace Sys2Proof.Machine

open Sys2Proof

/-- The command or event i answers a next state from s: the module becomes m, the queue stays and the time counter stands. -/
abbrev Does (i : Instr) (s : State) (m : Module) : Prop := exec i s = .next { s with m := { m with clk := s.m.clk } }

/-- The timed event i answers a next state from s: the time counter advances to the instant due, if it has not passed it, and
f acts on the module that stands there. -/
abbrev DoesAt (i : Instr) (s : State) (due : Nat) (f : Module → Module) : Prop :=
  exec i s = .next { s with m := { f (s.m.advanceTo due) with clk := (s.m.advanceTo due).clk } }

/-- The command or event i answers the next state that is s itself. -/
abbrev Idle (i : Instr) (s : State) : Prop := exec i s = .next s

/-- c is the command of source src in the running module, with opcode op, nothing has acted on it yet, and it has its turn without
a round of its engine's lanes moving on: no other lane of its class holds a command, or it stands in no lane (R403 to R406). A
command whose turn moves a round on acts likewise, on the module that stands there (ObjectsSchedulesAndPreemption). -/
abbrev Fresh (s : State) (src : Src) (op : Nat) (c : RunCmd) : Prop :=
  s.m.live = true ∧ s.m.cmdOf src = some c ∧ c.opcode = op ∧ c.stage = .fresh ∧ s.m.laneFree c = true

/-- A payload names a live capsule, as the first checks of a capsule's commands ask (R40, R57). -/
abbrev NamesCapsule (m : Module) (id : Nat) : Prop := id % 256 ≠ 255 ∧ (m.capsule id).isSome = true

/-- This module may write the capsule k for command c now: it is not fenced, it owns k or may claim it, and the lease on it has not
lapsed or the hold of R325 has ended (R48, R324, R325, R329). -/
abbrev MayWrite (m : Module) (c : RunCmd) (k : Capsule) : Prop :=
  m.fenced = false ∧ m.mayOwn k = true ∧ (m.lapsed k = false ∨ c.tries ≠ 0)

/-- A payload names request i of capsule id, and this module may write that capsule for command c now (R153, R325, R329). -/
abbrev WritesRequest (m : Module) (c : RunCmd) (id i : Nat) (r : Req) : Prop :=
  id % 256 ≠ 255 ∧ m.request i id = some r ∧ ∃ k ∈ m.capsule id, MayWrite m c k

/-- The module with command c no longer held for a lapsed lease (R325). -/
def unheld (c : RunCmd) (m : Module) : Module :=
  { m with mirror := { m.mirror with held := m.mirror.held.filter (fun h => h.cmd != c.id) } }

/-- The rows of the power block and of resets, which act in every phase (R535 to R564). -/
def powerRow : Instr → Bool
  | .powerOn | .inputLost | .inputOvervoltage | .converterFault | .pwrEnFall | .j3SenseBreak | .inputReturn
  | .holdupWorkEnd | .thermalTrip | .resetNLow | .perstNLow | .resetRelease _ | .opHourTick | .evrecRecordWrite => true
  | _ => false

/-- The time counter fits the register that shows it: 64 bits of nanoseconds and 32 bits of fraction (R476). -/
def Clk.fits (c : Clk) : Bool := decide (c.now < 2 ^ 64) && decide (c.frac < 2 ^ 32)

/-- Every byte memory stands in its canonical form. -/
def Module.memWf (m : Module) : Bool := m.hbm.wf && m.lpddr.wf && m.hostMem.wf

/-- The rows that put the time counter to another value: TIME_SET and a measurement that steps (R478, R485). -/
def stepsClock : Instr → Bool
  | .timeSet _ | .ptpTimingMessage _ _ => true
  | _ => false

/-- The commands cs run one after another on a module, each whole, until one faults or is refused. -/
def runAll : List Instr → Module → Host.Outcome Module Fault Refusal
  | [], m => .next m
  | c :: cs, m =>
    match exec c ⟨[], m⟩ with
    | .next t => runAll cs t.m
    | .fault r => .fault r
    | .refused r => .refused r

/-- Core c runs a program whose next operation is b with opcode op: it does not wait, is not told to stop, is not suspended, and
does not yield to a fused command (R107, R124, R131). -/
abbrev CoreOp (s : State) (c op : Nat) (r : CoreRun) (b : Bytes) : Prop :=
  s.m.live = true ∧ c < 64 ∧ (s.m.core c).run = some r ∧ r.waiting = false ∧ r.stop = none ∧ r.suspended = false ∧ s.m.yields c r = false ∧
  r.op < r.ops ∧ b = s.m.hbm.rdN (r.image + 64 + 32 * r.op) 32 ∧ opReserved b = false ∧ u8 b 0 = op

/-- Thread t runs, and the word w with opcode op that stands at its program counter is an instruction which nothing holds up
(R364, R368, R375). -/
abbrev Issues (m : Module) (t op : Nat) (th : Thread) (w : SWord) : Prop :=
  m.live = true ∧ m.strand.threads.get t = some th ∧ th.suspended = false ∧ th.wait = .none ∧
  (m.fetchWord t).map SWord.decode = some w ∧ w.op.toNat = op ∧ w.ok = true ∧
  ∀ r ∈ w.reads, th.pendingReg r = false

/-- The module with one more instruction counted (R382). -/
def Module.counted (m : Module) : Module := m.bump Reg.STRAND.INSTRUCTIONS_COUNT

/-- The module with one more instruction counted and thread t put to th: nothing else differs. -/
def Module.withThread (t : Nat) (th : Thread) (m : Module) : Module := m.counted.updThread t (fun _ => th)

/-- An outcome with the queue put to q. -/
def withQueue (q : List Instr) : Out → Out
  | .next t => .next { t with pending := q }
  | .fault r => .fault r
  | .refused r => .refused r

/-- A step neither faults nor is refused. -/
def State.safe (s : State) : Bool :=
  match step s with
  | .next _ => true
  | _ => false

end Sys2Proof.Machine
end

