-- ==== Sys2Proof/Certificates/Slice0/Obligations.lean ====
section
/-!
DEFINITION. The statements about the module, each a proposition for the provers.
-/

open Sys2Proof Sys2Proof.Machine

/-- A step runs the command at the front of the queue. For every command or event c and every state s, a step of s with c put at
the front of its queue is exec of c on s, whose queue is the rest. That the commands stand in a queue is the model's frame,
no rule of the manual. Rules: 95_what_each_step_holds.md. -/
def Obligations.StepRunsTheFrontCommand : Prop :=
  ∀ (c : Instr) (s : State), step { s with pending := c :: s.pending } = exec c s

/-- With no command waiting, a step is a tick of the time counter. With an empty queue a step answers a next state. While the
module runs, its counter has moved by a nanosecond changed by TIME.FREQ, in units of 2^-32 ns with the carry into NOW_NS;
the five counters of storage inside the blocks have advanced by free amounts (assumption 17), and programs that are to stop
at an operation boundary have stopped. Where no program is to stop nothing else has changed; a module that does not run is
unchanged. That a tick is 1 ns and comes when the queue is empty is the model's choice (assumption 44). Rules: R476. -/
def Obligations.EmptyQueueLetsTheCounterTick : Prop :=
  (∀ s : State, s.pending = [] →
    (s.m.live = false → step s = .next s) ∧
    (s.m.live = true →
      ∃ t : Machine.Module, step s = .next { s with m := t.stopsDue } ∧
        t = Module.innerTick { s.m with clk := {
          now := (s.m.clk.now + (s.m.clk.frac + s.m.tickUnits) / 2 ^ 32) % 2 ^ 64
          frac := (s.m.clk.frac + s.m.tickUnits) % 2 ^ 32
          mono := s.m.clk.mono + (s.m.clk.frac + s.m.tickUnits) / 2 ^ 32 } } ∧
        ((∀ c k, (c, k) ∈ s.m.attn.cores → (k.run.bind (·.stop)) = none) → t.stopsDue = t)) ∧
    (s.m.get Reg.TIME.FREQ_PPB = 0 → s.m.tickUnits = 2 ^ 32)) ∧
  (∀ m : Machine.Module,
    { m.innerTick with regs := m.regs, ftl := m.ftl } = m ∧
    m.innerTick.ftl = { m.ftl with life := m.innerTick.ftl.life } ∧
    (∀ off, off ∉ innerCounters.map (·.off) → m.innerTick.reg off = m.reg off))

/-- What a command does never depends on the commands that wait behind it, and leaves them alone. For every command or event c,
state s and list of waiting commands q: exec of c on s with its queue put to q is the outcome of exec of c on s with the
queue put to q. So no command reads the queue, changes it, or lets it leak into the module. Rules:
95_what_each_step_holds.md. -/
def Obligations.ExecIgnoresTheQueue : Prop :=
  ∀ (c : Instr) (s : State) (q : List Instr), exec c { s with pending := q } = withQueue q (exec c s)

/-- The queue is served first in, first out, and each command acts whole. For every list of commands cs, list rest behind it and
module m: running the machine for as many steps as cs is long, from the state whose queue is cs followed by rest, is running
the commands of cs one after another on the module, each whole, and leaves the queue rest; it stops at the first fault or
refusal exactly when that run does. Rules: R445, 95_what_each_step_holds.md. -/
def Obligations.QueueIsServedInOrder : Prop :=
  ∀ (cs rest : List Instr) (m : Module),
    core.run cs.length ⟨cs ++ rest, m⟩ =
      match runAll cs m with
      | .next m' => .next ⟨rest, m'⟩
      | .fault r => .fault r
      | .refused r => .refused r

/-- A command is refused exactly when its operands name a place that the module does not have. For every command or event c and
state s: exec refuses c with a reason r if and only if c is not well formed and r says so. No command is refused for any
other reason, whatever the state holds. Rules: R8, R402, R423, R441, R449, R458. -/
def Obligations.RefusedExactlyWhenIllFormed : Prop :=
  ∀ (c : Instr) (s : State) (r : Refusal), exec c s = .refused r ↔ c.wf = false ∧ r = .illFormed

/-- The machine faults exactly on a CXL.mem access beyond the 1 TiB of the HDM range. For every command or event c and state s:
exec faults if and only if the module runs, the HDM range is present (a CXL mode is trained and the function is in D0), and
c is a CXL.mem read or write of bytes beyond 1 TiB; the fault is then that the address does not exist. That such an access
faults is the model's choice, for the manual gives no address there. Rules: R440. -/
def Obligations.FaultsExactlyBeyondTheHdmRange : Prop :=
  ∀ (c : Instr) (s : State) (r : Fault), exec c s = .fault r ↔
    r = .noSuchAddress ∧ s.m.live = true ∧ s.m.hdmUp = true ∧
      ∃ a n, (c = .hdmRead a n ∨ c = .hdmWrite a n) ∧ 2 ^ 40 < a + n

/-- A module that is off, held in reset or in its hold-up work takes no command and no event but those of the power block. For
every command or event c that is not a row of the power block and of resets, and every state s whose module does not run:
exec answers s unchanged, or refuses c as ill-formed. No command of the host, frame, strand instruction or timer acts on a
module that is not started (the model's reading of R536 and R562). Rules: R536, R562, R564. -/
def Obligations.AStoppedModuleTakesOnlyPowerRows : Prop :=
  ∀ (c : Instr) (s : State), s.m.live = false → powerRow c = false →
    exec c s = .next s ∨ (c.wf = false ∧ exec c s = .refused .illFormed)

/-- Elapsed time never falls, whatever a command does to the time counter. For every command or event c and states s and t: when
exec of c on s answers t, the elapsed nanoseconds of t are at least those of s. A TIME_SET or a PTP step moves what NOW_NS
shows and not the elapsed time by which intervals are measured. Rules: R25, R476, R479. -/
def Obligations.ElapsedTimeNeverFalls : Prop :=
  (∀ (c : Instr) (s t : State), exec c s = .next t → s.m.clk.mono ≤ t.m.clk.mono) ∧
  (∀ (c : Instr) (s t : State), exec c s = .next t → stepsClock c = true → t.m.clk.mono = s.m.clk.mono)

/-- The time counter stands, advances by elapsed time, is stepped by TIME_SET or PTP, or restarts with a reset. For every
command or event c and states s and t with exec of c on s answering t, one of these holds: the counter is as before; it and
the elapsed time have advanced by the same d; c is TIME_SET or a PTP measurement, and fraction and elapsed time are as
before; or t's module is off or held in reset and its counter stands at 0. That a timed event advances the counter to the
instant it is due is the model's choice (assumption 2). Rules: R476, R478, R479, R485, R562. -/
def Obligations.TheCounterMovesOnlyInFourWays : Prop :=
  ∀ (c : Instr) (s t : State), exec c s = .next t →
    t.m.clk = s.m.clk ∨
    (∃ d, t.m.clk = s.m.clk.advance d) ∨
    (stepsClock c = true ∧ t.m.clk.frac = s.m.clk.frac ∧ t.m.clk.mono = s.m.clk.mono) ∨
    (t.m.live = false ∧ t.m.clk.now = 0 ∧ t.m.clk.frac = 0)

/-- Every step keeps the time counter within the 64 bits of nanoseconds and 32 bits of fraction that show it. From every state
whose counter fits its registers, a step that answers a next state gives a state whose counter fits them, whatever command
or event runs, a tick, a step of the counter and a reset included. Rules: R25, R476. -/
def Obligations.EveryStepKeepsTheCounterInItsRegister : Prop :=
  ∀ s t : State, s.m.clk.fits = true → step s = .next t → t.m.clk.fits = true

/-- The time counter fits its registers at reset. The state after reset has a counter that fits 64 bits of nanoseconds and 32
bits of fraction; it stands at 0. Rules: R476. -/
def Obligations.CounterFitsAtReset : Prop :=
  State.reset.m.clk.fits = true ∧ State.reset.m.clk.now = 0

/-- Every step keeps HBM, LPDDR and host memory in their canonical form. From every state whose three byte memories are in
canonical form (addresses strictly rising, no entry equal to what an unlisted address reads as), a step that answers a next
state gives a state whose memories are in canonical form: equal contents stay equal data. Rules: R13. -/
def Obligations.EveryStepKeepsMemoryCanonical : Prop :=
  ∀ s t : State, s.m.memWf = true → step s = .next t → t.m.memWf = true

/-- The memories are canonical at reset, and every byte reads 0. At reset the three memories are in canonical form and every
byte of each reads 0 (the model's choice for memory that nothing has written, assumption 3). Rules: R13. -/
def Obligations.MemoryCanonicalAtReset : Prop :=
  State.reset.m.memWf = true ∧
  (∀ a, State.reset.m.hbm.rd a = 0 ∧ State.reset.m.lpddr.rd a = 0 ∧ State.reset.m.hostMem.rd a = 0)

/-- What reset leaves. After reset no command waits; every mailbox belongs to the host; MBOX.TIMEOUT holds 100 µs, 3 retries and
600 s; GLOBAL.STATUS.READY is 0 and GLOBAL.IDENT.PART is 0x9208; there are 8 partition places. Rules: R402, R456, R457. -/
def Obligations.ResetLeavesTheStatedValues : Prop :=
  State.reset.pending = [] ∧
  (∀ b, (State.reset.m.box b).owner = false) ∧
  State.reset.m.get Reg.MBOX.TIMEOUT_HOST_READ_US = 100 ∧ State.reset.m.get Reg.MBOX.TIMEOUT_RETRIES = 3 ∧
  State.reset.m.get Reg.MBOX.TIMEOUT_EXEC_S = 600 ∧ State.reset.m.flag Reg.GLOBAL.STATUS_READY = false ∧
  State.reset.m.get Reg.GLOBAL.IDENT_PART = 0x9208 ∧ State.reset.m.parts.length = 8

/-- Completing a mailbox command writes its response and returns the mailbox to the host. Completing an unanswered command of
mailbox b with a status, a body and a detail: the response slot then holds the command's OPCODE and TAG, the status code,
the length and bytes of the body, the time counter, the detail and SEQ, the mailbox's completions wrapping at 2^32; OWNER
and RUNNING are 0; the command slot is kept; no other mailbox changes; the memories, capsules, requests and flash are as
before. OK, and a status without a field, carry DETAIL 0xFFFFFFFF; BAD_FIELD for a payload field carries the field's slot
offset, 0x40 above its payload offset. Rules: R443. -/
def Obligations.CompletionAnswersTheHost : Prop :=
  ∀ (m : Module) (b : Nat) (c : RunCmd) (st : Status) (body : Bytes) (d : Nat), c.src = .mbox b → c.answered = false →
    (let n := m.complete c st body d
     let seq := ((m.box b).seq + 1) % 2 ^ 32
     n.box b = { m.box b with
       owner := false, running := false, seq := seq
       resp := some ⟨c.opcode, st.code, body.length, c.tag, m.clk.now, d, seq, body⟩ } ∧
     (∀ k, k ≠ b → n.box k = m.box k) ∧
     n.hbm = m.hbm ∧ n.lpddr = m.lpddr ∧ n.hostMem = m.hostMem ∧ n.caps = m.caps ∧ n.steps = m.steps ∧ n.ftl = m.ftl) ∧
    (∀ off, m.badField c off = m.complete c .badField [] (0x40 + off)) ∧
    m.fail c st = m.complete c st [] 0xFFFFFFFF ∧ m.ok c body = m.complete c .ok body 0xFFFFFFFF

/-- A completed mailbox command sends the message of its mailbox's vector unless NO_MSIX is set. Completing an unanswered
command of mailbox b, when its vector is unmasked and the host link is up in D0: with NO_MSIX clear, exactly one message,
that of vector b, is added to what has left the module; with NO_MSIX set, or after a link reset that silenced it, nothing is
added. With the vector masked nothing leaves, and its pending bit is set. Rules: R444, R449, R450. -/
def Obligations.CompletionSignalsItsVector : Prop :=
  ∀ (m : Module) (b : Nat) (c : RunCmd) (st : Status) (body : Bytes) (d : Nat), c.src = .mbox b → c.answered = false →
    (let n := m.complete c st body d
     let quiet := bit c.flags 0 || c.noMsix
     (quiet = true → n.out = m.out) ∧
     (quiet = false → (m.vec b).masked = false → m.host.linkUp = true → m.host.d3hot = false →
       n.out = m.out ++ [.msix b]) ∧
     (quiet = false → (m.vec b).masked = true → n.out = m.out ∧ (n.vec b).pending = true))

/-- A write of OWNER = 1 starts the command that the slot holds, or is turned away. In the running module with the host link up
in D0, a write to OWNm: with bit 0 clear it is a dropped write; while the mailbox is the module's it changes only DOUBLE_GO,
SECOND_MASTER and DOUBLE_GOS; otherwise the mailbox becomes the module's and RUNNING, and the slot's header and PAYLOAD_LEN
bytes of payload are copied into a fresh command behind those that run. When a check of R446 fails, that command completes
at once with its status and DETAIL. Rules: R444, R446, R451. -/
def Obligations.OwnerWriteStartsTheCommand : Prop :=
  ∀ (s : State) (b v : Nat), b < 64 → s.m.live = true → s.m.barUp = true →
    (bit v 0 = false → Does (.mailboxGo b v) s (s.m.dropWrite (0x180000 + 8 * b))) ∧
    (bit v 0 = true → (s.m.box b).owner = true →
      Does (.mailboxGo b v) s
        (((s.m.set Reg.MBOX.STATUS_DOUBLE_GO 1).set Reg.GLOBAL.STATUS_SECOND_MASTER 1).bump Reg.MBOX.DOUBLE_GOS_COUNT)) ∧
    (bit v 0 = true → (s.m.box b).owner = false →
      let slot := (s.m.box b).cmd
      let h := slot.rdN 0 64
      let payload := slot.rdN 64 (Min.min (u32 h 4) 4032)
      let c : RunCmd := ⟨s.m.host.nextRun, .mbox b, u16 h 0, u16 h 2, u64 h 8, payload, s.m.clk.mono, .fresh, [], [], 0, 0,
        false, false⟩
      let taken := s.m.setBox b { s.m.box b with owner := true, running := true }
      let m1 : Module := { taken with
        host := { taken.host with running := s.m.host.running ++ [c], nextRun := s.m.host.nextRun + 1 } }
      (m1.commandCheck h payload = none → Does (.mailboxGo b v) s m1) ∧
      (∀ st d, m1.commandCheck h payload = some (st, d) → Does (.mailboxGo b v) s (m1.complete c st [] d)))

/-- The checks 1 to 5 of a command, in their order. For every header and payload: while READY is 0 any opcode but NOP is BUSY
with DETAIL 0xFFFFFFFF; then a reserved opcode is BAD_FIELD with DETAIL 0; then a non-zero reserved bit of FLAGS or reserved
header byte is BAD_FIELD with its offset; then PAYLOAD_LEN above 4,032 or below the length of the payload table is BAD_FIELD
with DETAIL 4; then, for every opcode but EVREC_NOTE, whose table has no fixed end (assumption 45), a non-zero byte beyond
the table is BAD_FIELD with its slot offset; NOP passes check 1. Rules: R446, R453. -/
def Obligations.CommandsAreCheckedInOrder : Prop :=
  ∀ (m : Module) (h p : Bytes),
    (m.flag Reg.GLOBAL.STATUS_READY = false → u16 h 0 ≠ 0 → m.commandCheck h p = some (.busy, 0xFFFFFFFF)) ∧
    ((m.flag Reg.GLOBAL.STATUS_READY = true ∨ u16 h 0 = 0) →
      (payloadLen (u16 h 0) = none → m.commandCheck h p = some (.badField, 0)) ∧
      (∀ n, payloadLen (u16 h 0) = some n →
        (∀ d, headerBad h = some d → m.commandCheck h p = some (.badField, d)) ∧
        (headerBad h = none →
          ((4032 < u32 h 4 ∨ u32 h 4 < n) → m.commandCheck h p = some (.badField, 4)) ∧
          (u32 h 4 ≤ 4032 → n ≤ u32 h 4 → u16 h 0 ≠ 0x1300 →
            m.commandCheck h p = (firstNonZero p n (u32 h 4 - n)).map (fun o => (.badField, 0x40 + o)))))) ∧
    payloadLen 0 = some 0

/-- A write to a mailbox slot takes effect only while the host owns the mailbox. In the running module with the host link up in
D0, a write of bytes within the 8 KiB of mailbox b: of 1 to 64 bytes in one 64-byte line of the command slot, with OWNER 0,
it stores exactly those bytes in the slot; with OWNER 1 it changes only SLOT_WRITE_DROPPED and its counter; across a line,
empty, longer than 64 bytes or in the response slot it is a dropped write with its BAR0 offset. Rules: R439, R441, R451. -/
def Obligations.SlotWritesReachOnlyTheHostsSlot : Prop :=
  ∀ (s : State) (b off : Nat) (data : Bytes), b < 64 → off < 0x2000 → s.m.live = true → s.m.barUp = true →
    (let fits := 1 ≤ data.length ∧ data.length ≤ 64 ∧ off / 64 = (off + data.length - 1) / 64 ∧ off < 0x1000
     (¬ fits → Does (.mailboxSlotWrite b off data) s (s.m.dropWrite (0x100000 + b * 0x2000 + off))) ∧
     (fits → (s.m.box b).owner = true →
       Does (.mailboxSlotWrite b off data) s
         ((s.m.set Reg.MBOX.STATUS_SLOT_WRITE_DROPPED 1).bump Reg.MBOX.SLOT_WRITES_DROPPED_COUNT)) ∧
     (fits → (s.m.box b).owner = false →
       Does (.mailboxSlotWrite b off data) s
         (s.m.setBox b { s.m.box b with cmd := (s.m.box b).cmd.wrN off data })))

/-- NOP and IDENTIFY complete with OK and their responses. A fresh NOP completes with OK and no response. A fresh IDENTIFY
completes with OK and 64 bytes: PART, STEPPING, SERIAL, LINK_ID, LINK_MODE, LINK_WIDTH, PARTITIONS with bit p set when
partition p is present, four zero bytes, the running Dyone and Crook versions, 288, 1,024, 88,064 and sixteen zero bytes.
Neither changes anything else. Rules: R455. -/
def Obligations.NopAndIdentifyComplete : Prop :=
  (∀ (s : State) (src : Src) (c : RunCmd), Fresh s src 0x0000 c → Does (.nop src) s (s.m.ok c [])) ∧
  (∀ (s : State) (src : Src) (c : RunCmd), Fresh s src 0x0001 c →
    Does (.identify src) s (s.m.ok c (leBytes 4 0x9208 ++ leBytes 4 Config.stepping.toNat ++
      leBytes 8 Config.serial.toNat ++ leBytes 1 s.m.mirror.linkId ++ leBytes 1 s.m.host.linkMode ++
      leBytes 1 s.m.host.linkWidth ++
      leBytes 1 (((List.range 8).filter s.m.present).foldl (fun a p => a + 2 ^ p) 0) ++ zeros 4 ++
      leBytes 8 s.m.secur.dyone.running.version ++ leBytes 8 s.m.secur.crook.running.version ++
      leBytes 2 288 ++ leBytes 2 1024 ++ leBytes 4 88064 ++ zeros 16)))

/-- A host write stores the fields it may store, clears the RW1C bits written as 1, and is counted when dropped. In the running
module every register write within BAR0 completes, whatever its offset, length and value. With the host link up in D0 and
canonical registers: 8 bytes written to GLOBAL.MSIX_CTRL store HOLDOFF_US, values above 1,000 as 1,000, and count nothing; 8
bytes written to MBOX.DONE_MASK clear exactly the bits written as 1; 8 bytes written to the read-only GLOBAL.IDENT, or 2
bytes to any register, leave every register but the counter, the flag and the offset of dropped writes as it was, and
advance HOST_WRITES_DROPPED; with the link down or in D3hot a write changes nothing. Rules: R17, R18, R19, R439, R457. -/
def Obligations.RegisterWritesAreJudgedByField : Prop :=
  (∀ (s : State) (off n v : Nat), off < 0x2000000 → s.m.live = true → ∃ t, exec (.registerWrite off n v) s = .next t) ∧
  (∀ (s : State) (v : Nat), s.m.live = true → s.m.barUp = true → s.m.regs.wf = true →
    (∃ t, exec (.registerWrite Reg.GLOBAL.MSIX_CTRL_HOLDOFF_US.off 8 v) s = .next t ∧
      t.m.get Reg.GLOBAL.MSIX_CTRL_HOLDOFF_US = Min.min 1000 (v % 2 ^ 16) ∧ t.m.host = s.m.host ∧
      ∀ o, o ≠ Reg.GLOBAL.MSIX_CTRL_HOLDOFF_US.off → t.m.reg o = s.m.reg o) ∧
    (∃ t, exec (.registerWrite Reg.MBOX.DONE_MASK_DONE.off 8 v) s = .next t ∧
      t.m.get Reg.MBOX.DONE_MASK_DONE =
        s.m.get Reg.MBOX.DONE_MASK_DONE - (s.m.get Reg.MBOX.DONE_MASK_DONE &&& v % 2 ^ 64) ∧
      ∀ o, o ≠ Reg.MBOX.DONE_MASK_DONE.off → t.m.reg o = s.m.reg o) ∧
    Does (.registerWrite Reg.GLOBAL.IDENT_PART.off 8 v) s (s.m.dropWrite Reg.GLOBAL.IDENT_PART.off) ∧
    (∀ off, 0x180000 ≤ off → off < 0x2000000 → Does (.registerWrite off 2 v) s (s.m.dropWrite off))) ∧
  (∀ (s : State) (off n v : Nat), off < 0x2000000 → s.m.live = true → s.m.barUp = false →
    Does (.registerWrite off n v) s s.m)

/-- A CXL.mem read returns LPDDR bytes only where the firewall grants the host, and a CXL.mem write is dropped. In the running
module with the HDM range present, for accesses within 1 TiB: a read that the firewall grants returns the LPDDR bytes; any
other returns zeros, sets HDM_DENIED and advances HDM_DENIED_READS; a write advances HOST_WRITES_DROPPED, sets
HOST_WRITE_DROPPED and stores nothing. In PCIe modes, in D3hot or with the link down neither does anything. Rules: R440. -/
def Obligations.HdmReadsAreGuarded : Prop :=
  (∀ (s : State) (a n : Nat), s.m.live = true → s.m.hdmUp = true → a + n ≤ 2 ^ 40 →
    (s.m.hostMayRead a n = true → Does (.hdmRead a n) s (s.m.emit (.hdmData a (s.m.lpddr.rdN a n)))) ∧
    (s.m.hostMayRead a n = false →
      Does (.hdmRead a n) s (((s.m.emit (.hdmData a (zeros n))).set Reg.GLOBAL.STATUS_HDM_DENIED 1).bump
        Reg.GLOBAL.HDM_DENIED_READS_COUNT)) ∧
    Does (.hdmWrite a n) s
      ((s.m.bump Reg.GLOBAL.HOST_WRITES_DROPPED_COUNT).set Reg.GLOBAL.STATUS_HOST_WRITE_DROPPED 1)) ∧
  (∀ (s : State) (a n : Nat), s.m.live = true → s.m.hdmUp = false →
    Does (.hdmRead a n) s s.m ∧ Does (.hdmWrite a n) s s.m)

/-- Link resets, failures and power states change only the command plane and host-memory traffic. In the running module: a
Function Level Reset with the link up silences the completion messages of the mailbox commands that run, clears the MSI-X
configuration and advances FLRS; D3HOT_ENTRY with the link up enters D3hot; D0_RETURN leaves it with the mailboxes as they
were; HOST_LINK_DOWN takes the link down with mode and width 0, and then the admissions that still read their input from the
host end with TIMEOUT and the vector queries go on as they can; training on 4, 8 or 16 lanes in a mode of R457 brings it up
and LINK shows mode, width and CXL_MEM; training on no such width leaves the link down and records an event. A link reset, a
link loss and a training leave capsules and sessions untouched. Rules: R434, R436, R437, R457. -/
def Obligations.LinkResetsTouchOnlyTheCommandPlane : Prop :=
  (∀ s : State, s.m.live = true → s.m.host.linkUp = true →
    (∃ t, exec .functionLevelReset s = .next t ∧ t.m.host.msix = [] ∧
      (∀ c ∈ t.m.host.running, c.fromMailbox = true → c.noMsix = true) ∧
      t.m.host.running.length = s.m.host.running.length ∧ t.m.host.boxes = s.m.host.boxes ∧
      t.m.caps = s.m.caps ∧ t.m.steps = s.m.steps ∧ t.m.bell = s.m.bell) ∧
    Does .d3hotEntry s { s.m with host := { s.m.host with d3hot := true } } ∧
    (∃ m1 : Module, m1.host.linkUp = false ∧ m1.host.linkMode = 0 ∧ m1.host.linkWidth = 0 ∧ m1.host.msix = [] ∧
      m1.host.boxes = s.m.host.boxes ∧ m1.caps = s.m.caps ∧ m1.steps = s.m.steps ∧ m1.bell = s.m.bell ∧
      Does .hostLinkDown s (((m1.waitingCmds 0x0500 (fun c => cmdNeedsHost c (u64 c.payload 0x28))).foldl
        (fun (a : Module) c => a.failAdmit c (stop .timeout)) m1).boreRun))) ∧
  (∀ s : State, s.m.live = true → s.m.host.d3hot = true → s.m.host.linkUp = true →
    Does .d0Return s (Module.hostResume { s.m with host := { s.m.host with d3hot := false } })) ∧
  (∀ (s : State) (mode w : Nat), s.m.live = true → s.m.host.linkUp = false → 1 ≤ mode → mode ≤ 6 → w ≤ 16 →
    (w = 4 ∨ w = 8 ∨ w = 16 →
      ∃ m1 : Module, Does (.hostLinkRetrained mode w) s m1.hostResume ∧ m1.host.linkUp = true ∧ m1.host.linkMode = mode ∧
        m1.host.linkWidth = w ∧ m1.get Reg.GLOBAL.LINK_CXL_MEM = (if 4 ≤ mode then 1 else 0) ∧
        m1.caps = s.m.caps ∧ m1.bell = s.m.bell) ∧
    (w ≠ 4 → w ≠ 8 → w ≠ 16 → Does (.hostLinkRetrained mode w) s (s.m.event 0x0004 0xFF 2 w 0)))

/-- A host-memory transfer that fails is repeated RETRIES times, and the last failure ends the command with TIMEOUT. In the
running module with the host link up in D0, for the unanswered command c of a source that reads or writes host memory and
that nothing has acted on: an uncorrectable error, and a HOST_MEMORY_TIMEOUT at the instant its attempt ends, count one more
failed attempt while fewer than RETRIES have failed, and otherwise complete the command with TIMEOUT. EXEC_TIMEOUT of a
mailbox command answers it with TIMEOUT and sets EXEC_TIMEOUT, EXEC_S seconds after its start. RETRIES and the length of an
attempt are SLIDE.HOST_CTRL's for SLIDE_SCHEDULE and MBOX.TIMEOUT's for every other command. Rules: R99, R102, R437, R447. -/
def Obligations.FailedTransfersEndInTimeout : Prop :=
  (∀ (s : State) (src : Src) (c : RunCmd), s.m.live = true → s.m.hostUp = true → s.m.cmdOf src = some c →
    s.m.usesHost c = true → c.stage = .fresh →
    (c.reads < s.m.hostRetries c →
      Does (.uncorrectableTransferError src) s (s.m.updCmd c.id (fun x => { x with reads := x.reads + 1 })) ∧
      DoesAt (.hostMemoryTimeout src) s (c.start + s.m.hostReadNs c * (c.reads + 1))
        (fun m => m.updCmd c.id (fun x => { x with reads := x.reads + 1 }))) ∧
    (s.m.hostRetries c ≤ c.reads →
      Does (.uncorrectableTransferError src) s (s.m.fail c .timeout) ∧
      DoesAt (.hostMemoryTimeout src) s (c.start + s.m.hostReadNs c * (c.reads + 1))
        (fun m => m.fail c .timeout))) ∧
  (∀ (s : State) (b : Nat) (c : RunCmd), s.m.live = true → s.m.cmdOf (.mbox b) = some c →
    DoesAt (.execTimeout (.mbox b)) s (c.start + 1000000000 * s.m.get Reg.MBOX.TIMEOUT_EXEC_S)
      (fun m => (m.answerTimeout c).set Reg.MBOX.STATUS_EXEC_TIMEOUT 1)) ∧
  (∀ (m : Module) (c : RunCmd),
    (c.opcode = 0x0310 → m.hostRetries c = m.get Reg.SLIDE.HOST_CTRL_RETRIES ∧
      m.hostReadNs c = m.get Reg.SLIDE.HOST_CTRL_TIMEOUT_NS) ∧
    (c.opcode ≠ 0x0310 → m.hostRetries c = m.get Reg.MBOX.TIMEOUT_RETRIES ∧
      m.hostReadNs c = 1000 * m.get Reg.MBOX.TIMEOUT_HOST_READ_US))

/-- A merged message leaves at the end of its holdoff, and a pending one when its vector is unmasked. In the running module:
MSIX_HOLDOFF_EXPIRY of a vector in whose holdoff events wait merged sends one message and starts the next holdoff, at
HOLDOFF_US after the last message; of a vector with none it does nothing. With the host link up in D0, unmasking a vector
clears its mask and pending bits, and a pending message leaves. Rules: R449. -/
def Obligations.MessagesWaitForTheirVector : Prop :=
  (∀ (s : State) (v t0 : Nat), v < 128 → s.m.live = true → (s.m.vec v).held = true → (s.m.vec v).lastSent = some t0 →
    DoesAt (.msixHoldoffExpiry v) s (t0 + 1000 * s.m.get Reg.GLOBAL.MSIX_CTRL_HOLDOFF_US)
      (fun m => (m.setVec v { m.vec v with held := false, lastSent := some m.clk.mono }).msix v)) ∧
  (∀ (s : State) (v : Nat), v < 128 → s.m.live = true → s.m.barUp = true →
    ((s.m.vec v).pending = false →
      Does (.msixVectorUnmask v) s (s.m.setVec v { s.m.vec v with masked := false, pending := false })) ∧
    ((s.m.vec v).pending = true →
      ∃ t, exec (.msixVectorUnmask v) s = .next t ∧ t.m.out = s.m.out ++ [.msix v] ∧
        (t.m.vec v).masked = false ∧ (t.m.vec v).pending = false))

/-- CAPSULE_CREATE takes the lowest free slot of the own half and writes its header. A fresh CAPSULE_CREATE of mailbox b whose
fields are in range, whose tokenizer is loaded and grammar fits it, whose account is open and the partition's, on a module
that is not fenced, with a free slot in the own half: it completes with OK and a response of CAPSULE_ID (the slot with its
generation) and LEASE_EPOCH 1. The slot's header then holds STATE IDLE, the payload's fields, this module as OWNER, epoch 1,
LEASE_EXPIRY LEASE_MS milliseconds after now, CREATED_TIME now, no page and no token; the slot was FREE, in the own half,
and no lower slot of that half was free and ungranted. No other slot changes. Rules: R44, R66. -/
def Obligations.CapsuleCreationWritesTheHeader : Prop :=
  ∀ (s : State) (b slot : Nat) (c : RunCmd), Fresh s (.mbox b) 0x0200 c → allZero c.payload 0x0A 2 = true →
    s.m.present (u8 c.payload 0) = true → (u8 c.payload 1 = 1 ∨ u8 c.payload 1 = 2) →
    1 ≤ u8 c.payload 2 → u8 c.payload 2 ≤ 127 → u8 c.payload 3 ≤ 1 →
    16 ≤ u16 c.payload 4 → u16 c.payload 4 ≤ 480 → u16 c.payload 4 % 16 = 0 →
    (s.m.tokImage (u16 c.payload 8)).isSome = true →
    (u32 c.payload 0x0C = 0xFFFFFFFF ∨
      ∃ g, s.m.gramImage (u32 c.payload 0x0C) = some g ∧ g.tokenizer = u16 c.payload 8) →
    s.m.fenced = false →
    (s.m.account (u16 c.payload 6)).open_ = true → (s.m.account (u16 c.payload 6)).partition = u8 c.payload 0 →
    s.m.freeSlotOf s.m.mirror.linkId = some slot →
    ∃ t, exec (.capsuleCreate (.mbox b)) s = .next t ∧
      (let k := t.m.slot slot
       let gen := (s.m.slot slot).gen
       k.state = 1 ∧ k.gen = gen ∧ k.partition = u8 c.payload 0 ∧ k.fmt = u8 c.payload 1 ∧ k.layers = u8 c.payload 2 ∧
       k.flags = 2 * u8 c.payload 3 ∧ k.slotBytes = u16 c.payload 4 ∧ k.account = u16 c.payload 6 ∧
       k.tokenizer = u16 c.payload 8 ∧ k.grammar = u32 c.payload 0x0C ∧ k.owner = s.m.mirror.linkId ∧ k.epoch = 1 ∧
       k.expiry = (s.m.clk.now + 1000000 * s.m.get Reg.MIRROR.LEASE_LEASE_MS) % 2 ^ 64 ∧ k.created = s.m.clk.now ∧
       k.tokens = 0 ∧ k.pages = 0 ∧ k.map = [] ∧
       (∀ o, o ≠ slot → t.m.slot o = s.m.slot o) ∧
       ((t.m.box b).resp.map (fun r => (r.status, r.body))) =
         some (0, leBytes 4 (slot * 256 + gen) ++ leBytes 4 1))

/-- The slot that a creation takes is FREE, in its half, held by no grant, and none below it is. For every module and half: the
slot that a creation takes from that half is below 2^24, has the half as its least significant bit, is FREE and held by no
grant, and every lower slot of that half is in use or granted. Rules: R44. -/
def Obligations.TheLowestFreeSlotIsTaken : Prop :=
  ∀ (m : Module) (half slot : Nat), half < 2 → m.caps.slots.wf = true → m.freeSlotOf half = some slot →
    slot < 2 ^ 24 ∧ slot % 2 = half ∧ (m.slot slot).state = 0 ∧ slot ∉ m.caps.grants ∧
    ∀ o, o < slot → o % 2 = half → (m.slot o).state ≠ 0 ∨ o ∈ m.caps.grants

/-- CAPSULE_DELETE frees the frames and leaves the slot with the next generation, or retired. A fresh CAPSULE_DELETE loads the
header, whose failing check marks the capsule. Of an IDLE or PARKED capsule that this module may write and that no request
holds: it passes through DELETING, gives up its frames and list blocks, leaves its slot, and completes with OK. Leaving a
slot advances its generation by one with STATE FREE, and when the advanced generation would be 0xFF the slot is RETIRED,
from now on; no other slot changes; the old ID then names no capsule. On an ACTIVE or PARKING capsule it completes with BUSY
and changes nothing else. Rules: R39, R41, R64, R67. -/
def Obligations.DeletionAdvancesTheGeneration : Prop :=
  (∀ (s : State) (src : Src) (c : RunCmd) (k : Capsule), Fresh s src 0x0201 c → allZero c.payload 4 4 = true →
    (let m0 := s.m.loadHeader (u32 c.payload 0)
     NamesCapsule m0 (u32 c.payload 0) → k = m0.slot (u32 c.payload 0 / 256) →
    (MayWrite m0 c k → (k.state = 1 ∨ k.state = 4) → m0.requestOf (u32 c.payload 0) = none →
      Does (.capsuleDelete src) s
        (((((unheld c m0).writeCap (u32 c.payload 0) (fun k => { k with state := 5 })).releaseFrames
          (u32 c.payload 0)).freeSlot (u32 c.payload 0 / 256)).finishMoves.ok c [])) ∧
    (m0.fenced = false → m0.mayOwn k = true → (k.state = 2 ∨ k.state = 3) →
      Does (.capsuleDelete src) s (m0.fail c .busy)))) ∧
  (∀ (m : Module) (slot : Nat),
    (let g := (m.slot slot).gen
     let k := (m.freeSlot slot).slot slot
     k.gen = g + 1 ∧ k.map = [] ∧ k.tokens = 0 ∧
     (g + 1 = 255 → k.state = 6 ∧ k.retiredAt = m.clk.mono) ∧ (g + 1 ≠ 255 → k.state = 0) ∧
     (∀ o, o ≠ slot → (m.freeSlot slot).slot o = m.slot o) ∧
     (g < 255 → (m.freeSlot slot).capsule (slot * 256 + g) = none)))

/-- CAPSULE_QUERY and CAPSULE_READ return this module's copy of a capsule. For a fresh command naming a live capsule whose
stored header passes its check and whose partition is not in Mute mode: CAPSULE_QUERY completes with OK and the 256 bytes of
the header. CAPSULE_READ of 1 to 3,584 bytes of the header, or of a page map whose list blocks pass, completes with OK and
those bytes; of a map with a failing list block, with DAMAGED; of bytes within one frame outside the host tier whose blocks
pass, with OK and the frame's bytes. A range that no layer, page or metadata region holds completes with BAD_FIELD, and
nothing is read. Rules: R48, R57, R68, R69. -/
def Obligations.CapsuleReadsReturnThisModulesCopy : Prop :=
  (∀ (s : State) (src : Src) (c : RunCmd) (k : Capsule), Fresh s src 0x0202 c → allZero c.payload 4 4 = true →
    NamesCapsule s.m (u32 c.payload 0) → k = s.m.slot (u32 c.payload 0 / 256) → k.headerBad = false →
    s.m.mute k.partition = false →
    Does (.capsuleQuery src) s (s.m.ok c (k.bytes (u32 c.payload 0 / 256)))) ∧
  (∀ (s : State) (src : Src) (c : RunCmd) (k : Capsule), Fresh s src 0x0203 c → allZero c.payload 4 4 = true →
    allZero c.payload 0x14 4 = true →
    NamesCapsule s.m (u32 c.payload 0) → k = s.m.slot (u32 c.payload 0 / 256) → k.headerBad = false →
    s.m.mute k.partition = false →
    (let off := u64 c.payload 8
     let n := u32 c.payload 0x10
     (k.range off 1 = none → Does (.capsuleRead src) s (s.m.badField c 8)) ∧
     ((k.range off 1).isSome = true → 1 ≤ n → n ≤ 3584 →
       (∀ o, k.range off n = some (.header o) →
         Does (.capsuleRead src) s (s.m.ok c (slice (k.bytes (u32 c.payload 0 / 256)) o n))) ∧
       (∀ o, k.range off n = some (.map o) →
         (s.m.mapBad k = false → Does (.capsuleRead src) s (s.m.ok c (k.mapBytes o n))) ∧
         (s.m.mapBad k = true →
           Does (.capsuleRead src) s ((s.m.loadMap (u32 c.payload 0)).fail c .damaged))) ∧
       (∀ l p o f, k.range off n = some (.frame l p o) → s.m.frame (k.handle l p) = some f →
         tierOf (k.handle l p) ≠ 2 → f.badIn o n = none →
         Does (.capsuleRead src) s ((s.m.touch (k.handle l p)).ok c (f.read o n))))))

/-- CAPSULE_PARK starts a park of an IDLE or PARKED capsule, and CAPSULE_TRUNCATE cuts a capsule at once or waits. Both load the
header and the map, whose failing check marks the capsule. On an undamaged capsule that this module may write and that no
request holds: CAPSULE_PARK to LPDDR, the host region or a writable flash makes an IDLE or PARKED capsule PARKING, its
private frames outside the tier move, and the command waits for them; on a PARKING capsule it completes with BUSY.
CAPSULE_TRUNCATE to a count not above TOKEN_COUNT cuts the capsule, mirrors the cut and the header, and completes with OK,
but waits while the sequence is in a step or a slot that it empties is unacknowledged; a greater count completes with
BAD_FIELD for the payload offset 4, and a PARKING capsule with BUSY. A capsule cut to n tokens holds n tokens, at most
ceil(n / 256) pages, and shares no page beyond them. Rules: R51, R54, R64, R65, R70, R71, R316. -/
def Obligations.ParkAndTruncateAct : Prop :=
  (∀ (s : State) (src : Src) (c : RunCmd) (k : Capsule), Fresh s src 0x0210 c → allZero c.payload 5 3 = true →
    (let m0 := (s.m.loadHeader (u32 c.payload 0)).loadMap (u32 c.payload 0)
    NamesCapsule m0 (u32 c.payload 0) → k = m0.slot (u32 c.payload 0 / 256) →
    1 ≤ u8 c.payload 4 → u8 c.payload 4 ≤ 3 →
    (MayWrite m0 c k → (k.state = 1 ∨ k.state = 4) → k.damaged = false →
      (u8 c.payload 4 = 3 → m0.ftl.readOnly = false) → m0.requestOf (u32 c.payload 0) = none →
      Does (.capsulePark src) s
        (((unheld c m0).await c []).startPark (u32 c.payload 0) (u8 c.payload 4) k.state (some c.id))) ∧
    (m0.fenced = false → m0.mayOwn k = true → k.state = 3 → Does (.capsulePark src) s (m0.fail c .busy)))) ∧
  (∀ (s : State) (src : Src) (c : RunCmd) (k : Capsule), Fresh s src 0x0211 c →
    (let m0 := (s.m.loadHeader (u32 c.payload 0)).loadMap (u32 c.payload 0)
    NamesCapsule m0 (u32 c.payload 0) → k = m0.slot (u32 c.payload 0 / 256) →
    (u32 c.payload 4 ≤ k.tokens → MayWrite m0 c k → (k.state = 1 ∨ k.state = 2 ∨ k.state = 4) →
      ((unheld c m0).truncateWaits (u32 c.payload 0) (u32 c.payload 4) = false →
        Does (.capsuleTruncate src) s ((unheld c m0).truncateNow c (u32 c.payload 0) (u32 c.payload 4))) ∧
      ((unheld c m0).truncateWaits (u32 c.payload 0) (u32 c.payload 4) = true →
        Does (.capsuleTruncate src) s ((unheld c m0).await c [u32 c.payload 0, u32 c.payload 4]))) ∧
    (k.tokens < u32 c.payload 4 → Does (.capsuleTruncate src) s (m0.badField c 4)) ∧
    (u32 c.payload 4 ≤ k.tokens → m0.fenced = false → m0.mayOwn k = true → k.state = 3 →
      Does (.capsuleTruncate src) s (m0.fail c .busy)))) ∧
  (∀ (m : Module) (id n : Nat),
    (let k := (m.truncateTo id n).slot (id / 256)
     k.tokens = n ∧ k.pages ≤ (n + 255) / 256 ∧ k.shared ≤ (n + 255) / 256))

/-- CAPSULE_REPAIR asks the partner for each damaged block, and what arrives is checked before it is written. A fresh
CAPSULE_REPAIR of a capsule that this module may write loads the header and the map; unless the capsule is already repaired,
with the link open it waits with every damaged block asked for, and with no link and a damaged block it completes with
DAMAGED; that no link counts as the partner lost, and that a second repair waits, are the model's choices (assumptions 184,
185). REPAIR_BLOCK_ARRIVAL of a block that the partner could not read, writes nothing and makes the repair fail; of a
frame's block other than block 0 of a tile whose bytes fail their check, it is damage as well; of one that passes, it writes
those 4,096 bytes in place. REPAIR_FETCH_REQUEST for a capsule that this module does not hold is answered as failing, for a
good block of a frame with its bytes. When no block is left the repair ends. Rules: R62, R63, R576. -/
def Obligations.RepairFetchesFromThePartner : Prop :=
  (∀ (s : State) (src : Src) (c : RunCmd) (k : Capsule), Fresh s src 0x0220 c → allZero c.payload 4 4 = true →
    NamesCapsule s.m (u32 c.payload 0) → k = s.m.slot (u32 c.payload 0 / 256) → MayWrite s.m c k →
    (let id := u32 c.payload 0
     let m0 := ((unheld c s.m).loadHeader id).loadMap id
     let left := m0.damagedBlocks id
     ((m0.caps.repairs.any (fun (r : Repair) => r.capsule == id)) = true → Does (.capsuleRepair src) s (unheld c s.m)) ∧
     ((m0.caps.repairs.any (fun (r : Repair) => r.capsule == id)) = false →
       ((m0.linkOpen = true ∨ left = []) →
         Does (.capsuleRepair src) s
           ((left.foldl (fun (a : Module) (p : Nat × Nat) => a.emit (.pair 1 [id, p.1, p.2] []))
             (({ m0 with caps := { m0.caps with repairs := m0.caps.repairs ++ [⟨id, c.id, left, false⟩] } } : Module).await
               c [])).endRepair id)) ∧
       (m0.linkOpen = false → left ≠ [] → Does (.capsuleRepair src) s (m0.fail c .damaged))))) ∧
  (∀ (s : State) (id entry block check : Nat) (b : Bytes) (ok : Bool) (r : Repair), s.m.live = true →
    s.m.caps.repairs.find? (fun (q : Repair) => q.capsule == id && q.left.contains (entry, block)) = some r →
    (let left := r.left.erase (entry, block)
     let noted (f : Repair → Repair) (m : Module) : Module := { m with caps := { m.caps with
       repairs := m.caps.repairs.map (fun (q : Repair) => if q.capsule == id then f q else q) } }
     (ok = false → Does (.repairBlockArrival id entry block b check ok) s
       ((noted (fun q => { q with failed := true, left := left }) s.m).endRepair id)) ∧
     (ok = true → entry < 0xFFFFFFFE → block % 4 ≠ 0 → b.length = 4096 →
       (crc32c b = check → Does (.repairBlockArrival id entry block b check ok) s
         ((noted (fun q => { q with left := left }) (s.m.restoreBlock id entry block b)).endRepair id)) ∧
       (crc32c b ≠ check → Does (.repairBlockArrival id entry block b check ok) s
         ((noted (fun q => { q with failed := true, left := left })
           (s.m.damage id (nthD (s.m.slot (id / 256)).map entry 0xFFFFFFFF) block)).endRepair id))))) ∧
  (∀ (s : State) (id entry block : Nat), s.m.live = true →
    (s.m.capsule id = none → Does (.repairFetchRequest id entry block) s (s.m.emit (.pair 2 [id, entry, block, 0] []))) ∧
    (∀ k f, s.m.capsule id = some k → entry < 0xFFFFFFFE → s.m.frame (nthD k.map entry 0xFFFFFFFF) = some f →
      f.bad.contains block = false →
      Does (.repairFetchRequest id entry block) s ((s.m.touch (nthD k.map entry 0xFFFFFFFF)).emit
        (.pair 2 [id, entry, block, 1] (slice (f.tileBytes (block / 4)) (4096 * (block % 4)) 4096)))))

/-- A table sweep returns exactly the retired slots that are past their quarantine and that no structure of the pair holds. With
no sweep under way, CAPSULE_SWEEP waits for the sweep that it starts, and SWEEP_INTERVAL, at INTERVAL seconds after the
last, starts one; while one runs CAPSULE_SWEEP waits for it. SWEEP_PARTNER_QUERY names to the partner the slots of the batch
that this module's structures hold. SWEEP_QUERY_ANSWER to a running sweep returns the asked slots that the partner does not
hold and that are still ready here, and ends the sweep when none is left to answer. A slot is ready only when it is RETIRED,
at least QUARANTINE_MIN seconds (at least 10) have passed since it retired, and no structure here holds an ID of it; a
returned slot is FREE with generation 0. Rules: R42, R44, R73. -/
def Obligations.SweepsReturnRetiredSlots : Prop :=
  (∀ (s : State) (src : Src) (c : RunCmd), Fresh s src 0x0230 c →
    (s.m.caps.sweep = none → Does (.capsuleSweep src) s (s.m.await c []).startSweep) ∧
    (s.m.caps.sweep.isSome = true → Does (.capsuleSweep src) s (s.m.await c []))) ∧
  (∀ s : State, s.m.live = true → s.m.get Reg.CAPS.SWEEP_CTRL_INTERVAL ≠ 0 →
    DoesAt .sweepInterval s (s.m.caps.lastSweep + 1000000000 * s.m.get Reg.CAPS.SWEEP_CTRL_INTERVAL)
      Module.startSweep) ∧
  (∀ (s : State) (batch : List Nat), s.m.live = true → batch.length ≤ 4096 →
    Does (.sweepPartnerQuery batch) s (s.m.emit (.pair 4 (batch.filter s.m.holdsSlot) []))) ∧
  (∀ (s : State) (batch held : List Nat) (w : Sweep), s.m.live = true → s.m.caps.sweep = some w →
    Does (.sweepQueryAnswer batch held) s
      ((batch.filter (fun n => w.asked.contains n)).foldl
        (fun (a : Module) n => if !held.contains n && a.slotReady n then a.returnSlot n else a)
        { s.m with caps := { s.m.caps with
          sweep := some { w with asked := w.asked.filter (fun n => !batch.contains n) } } }).endSweep) ∧
  (∀ (m : Module) (n : Nat), m.slotReady n = true →
    (m.slot n).state = 6 ∧ m.holdsSlot n = false ∧
    (m.slot n).retiredAt + 1000000000 * Max.max 10 (m.get Reg.CAPS.SWEEP_CTRL_QUARANTINE_MIN) ≤ m.clk.mono) ∧
  (∀ (m : Module) (n : Nat), m.caps.slots.wf = true →
    ((m.returnSlot n).slot n).state = 0 ∧ ((m.returnSlot n).slot n).gen = 0)

/-- SLIDE_PLACE moves or remembers the named frames, and the swap region takes and releases extents. A fresh SLIDE_PLACE of
every private frame of an undamaged capsule that this module may write replaces earlier hints of those frames; in mode HINT
it is noted behind the other hints and completes with OK at once, also when a strand issued it; in mode MOVE from a mailbox
each frame's move to the tier starts, and the command completes when none is left. SLIDE_SWAP_REGISTER of an aligned extent
that is not registered and overlaps none adds it behind the others, its first host-tier index following theirs, and
completes with OK; of one that is registered, BUSY. SLIDE_SWAP_RELEASE of an extent not registered completes with BAD_FIELD;
of a registered one that is not being released, its frames, and those whose move into it is under way, start to move to
flash, or to LPDDR where flash refuses, and the command completes when none is left. Rules: R80, R81, R97, R98, R101, R103,
R104. -/
def Obligations.SlideCommandsPlaceAndRegister : Prop :=
  (∀ (s : State) (src : Src) (c : RunCmd) (k : Capsule), Fresh s src 0x0300 c →
    allZero c.payload 7 1 = true → allZero c.payload 0x0C 4 = true → NamesCapsule s.m (u32 c.payload 0) →
    k = s.m.slot (u32 c.payload 0 / 256) → u8 c.payload 4 = 0 → u8 c.payload 5 ≤ 3 → u16 c.payload 8 = 0 →
    u16 c.payload 0x0A = 0 → MayWrite s.m c k → (k.state = 1 ∨ k.state = 2 ∨ k.state = 4) → k.damaged = false →
    (u8 c.payload 5 = 3 → s.m.ftl.readOnly = false) →
    (let es := k.private_.map (·.1)
     let m1 := ((unheld c s.m).updCap (u32 c.payload 0) (Capsule.keepEntries es false)).dropHints (u32 c.payload 0) es
     (u8 c.payload 6 = 2 → Does (.slidePlace src) s
       (({ m1 with slide := { m1.slide with
         hints := m1.slide.hints ++ [⟨u32 c.payload 0, es, u8 c.payload 5⟩] } } : Module).ok c [])) ∧
     (u8 c.payload 6 = 0 → c.fromMailbox = true →
       Does (.slidePlace src) s (((es.map (fun i => nthD k.map i 0)).foldl (fun (a : Module) h =>
         if ((a.host.running.find? (fun x => x.id == c.id)).map (fun x => x.data.headD 0 == 0)).getD false
         then a.startMove (.place c.id) h (u8 c.payload 5) else a) (m1.await c [0])).checkPlace c.id)))) ∧
  (∀ (s : State) (src : Src) (c : RunCmd), Fresh s src 0x0320 c → allZero c.payload 1 7 = true →
    (let id := u8 c.payload 0
     let base := u64 c.payload 8
     let size := u64 c.payload 0x10
     id ≤ 15 → base % 2 ^ 21 = 0 → size % 2 ^ 21 = 0 → size ≠ 0 →
     (s.m.slide.extents.all (fun e => e.id == id || !overlap base size e.base e.size)) = true →
     ((∀ e ∈ s.m.slide.extents, e.id ≠ id) →
       Does (.slideSwapRegister src) s
         (({ s.m with slide := { s.m.slide with extents := s.m.slide.extents ++
           [⟨id, base, size, s.m.slide.extents.foldl (fun a e => Max.max a (e.first + e.size / 131072)) 0⟩] } } : Module).ok
             c [])) ∧
     ((∃ e ∈ s.m.slide.extents, e.id = id) → Does (.slideSwapRegister src) s (s.m.fail c .busy)))) ∧
  (∀ (s : State) (src : Src) (c : RunCmd), Fresh s src 0x0321 c → allZero c.payload 1 7 = true →
    ((∀ e ∈ s.m.slide.extents, e.id ≠ u8 c.payload 0) → Does (.slideSwapRelease src) s (s.m.badField c 0)) ∧
    (∀ e, s.m.slide.extents.find? (fun x => x.id == u8 c.payload 0) = some e →
      (s.m.slide.releases.any (fun r => r.extent == u8 c.payload 0)) = false →
      (let m0 := ({ s.m with slide := { s.m.slide with
          releases := s.m.slide.releases ++ [⟨u8 c.payload 0, c.id, 0⟩] } } : Module).await c []
       let hs := m0.caps.frames.keys.filter (fun h => e.holds h && !m0.slide.leaving.contains h)
       let coming := (m0.slide.moves.vals.filter (fun v => e.holds v.target)).map (·.source)
       Does (.slideSwapRelease src) s
         ((((hs ++ coming).foldl (fun (a : Module) h =>
            if (a.moveBar 3).isNone then a.startMove (.release (u8 c.payload 0) c.id) h 3
            else a.startMove (.release (u8 c.payload 0) c.id) h 1) m0).finishMoves).checkRelease (u8 c.payload 0)))))

/-- SLIDE_SCHEDULE accepts or refuses a host schedule whole. A fresh SLIDE_SCHEDULE for a present partition of at most eight
attention cores, with an aligned address, 1 to 131,072 entries that the partition may read over a host link that is up in
D0, and no schedule accepted for the step: when an entry has a field out of range, an ID of generation 0xFF, another STEP,
or stands out of order, it completes with BAD_FIELD and nothing is kept; when one names a capsule of another partition,
DENIED; otherwise it completes with OK, and the entries wait for their step, or, when that step is published, those of its
sequences reach the engine. A partition of more than eight cores completes with DENIED, and a step with an accepted schedule
with BUSY. Rules: R40, R83, R85, R102. -/
def Obligations.SlideSchedulesAreCheckedWhole : Prop :=
  ∀ (s : State) (src : Src) (c : RunCmd), Fresh s src 0x0310 c → allZero c.payload 0x11 7 = true →
    (let addr := u64 c.payload 0
     let n := u32 c.payload 8
     let step := u32 c.payload 0x0C
     let p := u8 c.payload 0x10
     addr % 32 = 0 → 1 ≤ n → n ≤ 131072 → s.m.present p = true →
     (8 < s.m.coreCount p → Does (.slideSchedule src) s (s.m.fail c .denied)) ∧
     (s.m.coreCount p ≤ 8 → s.m.cmdMay c p addr (32 * n) false = true →
       ((p, step) ∈ s.m.slide.accepted → Does (.slideSchedule src) s (s.m.fail c .busy)) ∧
       ((p, step) ∉ s.m.slide.accepted → s.m.host.linkUp = true → s.m.host.d3hot = false →
         (let raw := (List.range n).map (fun i => s.m.cmdRead c (addr + 32 * i) 32)
          let es := raw.map (fun e => entryOf e p)
          let bad := !(raw.all entryFields) || es.any (fun e => e.capsule % 256 == 255) || es.any (fun e => e.step != step) ||
            !entriesOrdered es
          (bad = true → Does (.slideSchedule src) s (s.m.badField c 0)) ∧
          (bad = false → (∃ e ∈ es, (s.m.capsule e.capsule).map (·.partition) ≠ some p) →
            Does (.slideSchedule src) s (s.m.fail c .denied)) ∧
          (bad = false → (∀ e ∈ es, (s.m.capsule e.capsule).map (·.partition) = some p) →
            (let m1 : Module := { s.m with slide := { s.m.slide with accepted := s.m.slide.accepted ++ [(p, step)] } }
             (∀ x, (s.m.pstep p).live.find? (fun x => x.num == step) = some x →
               Does (.slideSchedule src) s ((m1.takeEntries (m1.stepEntries p x.seqs es)).ok c [])) ∧
             ((s.m.pstep p).live.find? (fun x => x.num == step) = none →
               Does (.slideSchedule src) s (({ m1 with slide := { m1.slide with
                 supplied := m1.slide.supplied ++ [(p, step, es)] } } : Module).ok c []))))))))

/-- Prefetch entries issue in schedule order, and one that has not arrived at its deadline misses. In the running module:
PREFETCH_ISSUE of an entry that is neither issued nor arrived issues its fetches when every earlier entry of its partition
and step has issued or arrived and either its deadline comes within LOOKAHEAD_NS or the channels of its tiles are idle, and
otherwise does nothing. PREFETCH_DEADLINE of an entry that has not arrived or missed is a miss, once the counter has passed
its deadline, and one that names the entry with another step changes nothing. A miss counts one cause; of a normal entry it
counts MISS_DROP and drops its sequence from the step, of a privileged one it counts MISS_STALL and stalls that layer from
now. STALL_WARN of a stall not yet warned of sets STATUS.STALL_WARN and records the event, STALL_WARN_NS after it began.
Rules: R86, R87, R89, R90. -/
def Obligations.PrefetchEntriesIssueAndMiss : Prop :=
  (∀ (s : State) (id : Nat) (e : PfEntry), s.m.live = true → s.m.slide.entries.find? (fun x => x.id == id) = some e →
    e.issued = false → e.arrived = false →
    (let before := (s.m.slide.entries.takeWhile (fun x => x.id != id)).filter (fun x => x.partition == e.partition &&
       x.step == e.step)
     (before.all (fun x => x.issued || x.arrived) = true → s.m.mayIssue e = true →
       Does (.prefetchIssue id) s (s.m.issueEntry e)) ∧
     ((before.all (fun x => x.issued || x.arrived) = false ∨ s.m.mayIssue e = false) →
       Does (.prefetchIssue id) s s.m))) ∧
  (∀ (s : State) (id : Nat) (e : PfEntry), s.m.live = true →
    s.m.slide.entries.find? (fun x => x.id == id) = some e → e.arrived = false → e.missed = false →
    e.deadline + 1 < 2 ^ 64 →
    DoesAt (.prefetchDeadline id e.step) s (s.m.clk.mono + (e.deadline + 1 - s.m.clk.now)) (fun m => m.miss e) ∧
    (∀ step, step ≠ e.step → Idle (.prefetchDeadline id step) s)) ∧
  (∀ (m : Module) (e : PfEntry),
    (e.privileged = false →
      m.miss e = ((((m.updEntry e.id (fun x => { x with missed := true })).bump
        (missCause (m.missCauseOf e))).bump Reg.SLIDE.MISS_DROP_COUNT).leaveStep e.request)) ∧
    (e.privileged = true →
      (m.miss e).slide.stalls = m.slide.stalls ++ [⟨e.id, m.clk.mono, false⟩] ∧
      (m.miss e).steps = m.steps)) ∧
  (∀ (m : Module) (e : PfEntry), e.deadline ≤ m.clk.now + m.get Reg.SLIDE.PF_WINDOW_LOOKAHEAD_NS → m.mayIssue e = true) ∧
  (∀ (s : State) (id : Nat) (t : Stall) (e : PfEntry), s.m.live = true →
    s.m.slide.stalls.find? (fun x => x.entry == id) = some t → s.m.slide.entries.find? (fun x => x.id == id) = some e →
    t.warned = false →
    ∃ u, exec (.stallWarn id) s = .next u ∧ s.m.clk.mono ≤ u.m.clk.mono ∧
      t.began + s.m.get Reg.SLIDE.MISS_CTRL_STALL_WARN_NS ≤ u.m.clk.mono ∧
      u.m.slide.stalls = s.m.slide.stalls.map (fun (x : Stall) => if x.entry == id then { x with warned := true } else x))

/-- A tile that has been read lands, waits for room or fails its check; hints, the cascade and host-tier timeouts act. In the
running module: TILE_TRANSFER_COMPLETE of a transfer that its arbiter has not granted changes nothing; of one to a core
whose landing buffer holds 96 tiles it only notes since when it waits for room; of one for a move, from HBM or LPDDR, whose
tile passes its check, it copies the tile for the move of its frame, ends the transfer and finishes what the tile completes.
HINT_MOVE, when the channels of its tier are idle, carries out the oldest hint: of a capsule that is gone it only forgets
it. HOST_SWAP_CASCADE with no extent registered, or at least FREE_LOW frames free, does nothing, and otherwise starts to
move the least recently read frames of the region to flash until FREE_TARGET are free or leaving. HOST_TIER_READ_TIMEOUT of
a host-tier read tried fewer than RETRIES times repeats it, TIMEOUT_NS after its issue. Rules: R75, R77, R80, R86, R90, R95,
R99, R578. -/
def Obligations.TilesLandAndMovesEnd : Prop :=
  (∀ (s : State) (id corrected : Nat) (failed : Bool) (x : Xfer), s.m.live = true → s.m.slide.xfers.get id = some x →
    (s.m.grantOf x = none → Does (.tileTransferComplete id corrected failed) s s.m) ∧
    ((s.m.grantOf x).isSome = true → x.core < 64 → 96 ≤ (s.m.core x.core).landing.length →
      Does (.tileTransferComplete id corrected failed) s { s.m with slide := { s.m.slide with
        xfers := s.m.slide.xfers.put id { x with blocked := some (x.blocked.getD s.m.clk.mono) } } }) ∧
    (∀ mv f, (s.m.grantOf x).isSome = true → x.why = .move mv → 64 ≤ x.core → x.place = none → tierOf x.source ≠ 2 →
      failed = false → (s.m.touch x.source).frame x.source = some f → f.badIn (16384 * x.tile) 16384 = none →
      Does (.tileTransferComplete id corrected failed) s
        ((((((s.m.touch x.source).tickMove x.source x.tile).hbmArrivals).endXfer id).finishMoves).endRevives))) ∧
  (∀ (s : State) (h : Hint) (rest : List Hint), s.m.live = true → s.m.slide.hints = h :: rest →
    (s.m.tierIdle h.tier = false → Does .hintMove s s.m) ∧
    (s.m.tierIdle h.tier = true → s.m.capsule h.capsule = none →
      Does .hintMove s { s.m with slide := { s.m.slide with hints := rest } }) ∧
    (∀ c, s.m.tierIdle h.tier = true → s.m.capsule h.capsule = some c → (c.state = 1 ∨ c.state = 2 ∨ c.state = 4) → s.m.owns c = true →
      Does .hintMove s
        ((h.entries.filterMap (fun i => if c.shared * c.layers ≤ i then c.map[i]? else none)).foldl
          (fun (a : Module) f => a.startMove .hint f h.tier)
          { s.m with slide := { s.m.slide with hints := rest } }))) ∧
  (∀ s : State, s.m.live = true →
    ((s.m.slide.extents = [] ∨ s.m.get Reg.SLIDE.HOST_WATER_FREE_LOW ≤ s.m.tierFree 2) → Does .hostSwapCascade s s.m) ∧
    (s.m.slide.extents ≠ [] → s.m.tierFree 2 < s.m.get Reg.SLIDE.HOST_WATER_FREE_LOW →
      s.m.flag Reg.SLIDE.STATUS_FLASH_DEMOTE_OFF = false →
      (let leaving := (s.m.slide.moves.vals.filter (fun v => tierOf v.source == 2)).length
       let hs := s.m.caps.frames.keys.filter (fun h => tierOf h == 2 && !s.m.kept h &&
         s.m.slide.moves.vals.all (fun v => v.source != h))
       let oldest := sortBy (fun a b => decide (s.m.caps.lastRead.getD a 0 ≤ s.m.caps.lastRead.getD b 0)) hs
       Does .hostSwapCascade s
         ((oldest.take (s.m.get Reg.SLIDE.HOST_WATER_FREE_TARGET - (s.m.tierFree 2 + leaving))).foldl
           (fun (a : Module) h => a.startMove .cascade h 3) s.m)))) ∧
  (∀ (s : State) (id : Nat) (x : Xfer), s.m.live = true → s.m.slide.xfers.get id = some x → tierOf x.source = 2 →
    x.tries < s.m.get Reg.SLIDE.HOST_CTRL_RETRIES →
    DoesAt (.hostTierReadTimeout id) s (x.issued + s.m.get Reg.SLIDE.HOST_CTRL_TIMEOUT_NS)
      (fun m => { m with slide := { m.slide with
        xfers := m.slide.xfers.put id { x with tries := x.tries + 1, issued := m.clk.mono } } }))

/-- The commands of the attention cores do their effects when their checks pass. For fresh commands whose fields pass their
checks: ATTN_MODEL_REGISTER with no window array stores the model, whose windows are then 0, measures its up-projections and
completes with OK; ATTN_MODEL_RELEASE of a model in use is BUSY, and else removes it. ATTN_SUBMIT on a partition of more
than 8 cores is DENIED; with the ranges granted and the link up, each descriptor goes to its core or ends with its status,
in order, and the command waits for them. ATTN_PROGRAM_LOAD takes the lowest free handle, or is NO_SPACE. ATTN_PROGRAM_START
queues a launch on each core of the mask. ATTN_PROGRAM_STOP tells the running programs of its cores to stop: one that waits
in a FUSED or WAIT stops when that is over, another stops now, with fault 8. ATTN_CORE_ASSIGN changes the cores that have no
work, marks the others, and completes when all have changed. Rules: R109, R123, R126, R127, R128, R129, R130, R131, R132. -/
def Obligations.AttentionCommandsAct : Prop :=
  (∀ (s : State) (src : Src) (c : RunCmd) (id : Nat) (x : Model), Fresh s src 0x0400 c → allZero c.payload 0x0E 2 = true →
    id = u16 c.payload 0 → id < 64 → s.m.attn.models.has id = false →
    x = ⟨u8 c.payload 2, u8 c.payload 3, u16 c.payload 4, u8 c.payload 6, u8 c.payload 7, u16 c.payload 8, u16 c.payload 0x0A,
      u8 c.payload 0x0C, u8 c.payload 0x0D, u64 c.payload 0x10, []⟩ →
    1 ≤ x.layers → x.layers ≤ 127 → 1 ≤ x.heads → x.heads ≤ 128 → 32 ≤ x.latentDim → x.latentDim ≤ 384 → x.latentDim % 32 = 0 →
    (x.ropeDim = 0 ∨ x.ropeDim = 32 ∨ x.ropeDim = 64) → (x.latFmt = 1 ∨ x.latFmt = 2) →
    32 ≤ x.qkDim → x.qkDim ≤ 256 → x.qkDim % 32 = 0 → 32 ≤ x.vDim → x.vDim ≤ 256 → x.vDim % 32 = 0 → x.ok = true →
    (x.upFmt = 1 ∨ x.upFmt = 2) → s.m.present x.partition = true → x.upAddr % 4096 = 0 →
    s.m.engineMay x.partition 0 x.upAddr x.upTotal = true → u64 c.payload 0x18 = 0 →
    Does (.attnModelRegister src) s
      ((({ s.m with attn := { s.m.attn with
          models := s.m.attn.models.put id { x with windows := List.replicate x.layers 0 } } }).measure 4 id 0 x.partition
        (s.m.hbm.rdN x.upAddr x.upTotal)).ok c [])) ∧
  (∀ (s : State) (src : Src) (c : RunCmd), Fresh s src 0x0401 c → allZero c.payload 2 6 = true →
    s.m.attn.models.has (u16 c.payload 0) = true →
    (s.m.modelUsed (u16 c.payload 0) = true → Does (.attnModelRelease src) s (s.m.fail c .busy)) ∧
    (s.m.modelUsed (u16 c.payload 0) = false →
      Does (.attnModelRelease src) s
        ((({ s.m with attn := { s.m.attn with models := s.m.attn.models.del (u16 c.payload 0) } }).unmeasure 4
          (u16 c.payload 0) (fun _ => false)).ok c []))) ∧
  (∀ (s : State) (src : Src) (n p addr sts : Nat) (c : RunCmd), Fresh s src 0x0410 c → allZero c.payload 0x0D 3 = true →
    addr = u64 c.payload 0 → n = u32 c.payload 8 → p = u8 c.payload 0x0C → sts = u64 c.payload 0x10 →
    addr % 64 = 0 → 1 ≤ n → n ≤ 4096 → s.m.present p = true →
    (8 < s.m.coreCount p → Does (.attnSubmit src) s (s.m.fail c .denied)) ∧
    (s.m.coreCount p ≤ 8 → s.m.cmdMay c p addr (64 * n) false = true → s.m.cmdMay c p sts (2 * n) true = true →
      s.m.host.linkUp = true → s.m.host.d3hot = false →
      Does (.attnSubmit src) s (((List.range n).foldl
        (fun (a : Module) i => a.submitOne c.id p i (slice (s.m.cmdRead c addr (64 * n)) (64 * i) 64))
        (({ s.m with attn := { s.m.attn with submits := s.m.attn.submits.put c.id ⟨sts, n, []⟩ } }).await c [])).adoptOrphans))) ∧
  (∀ (s : State) (src : Src) (c : RunCmd) (addr len n : Nat), Fresh s src 0x0420 c → addr = u64 c.payload 0 →
    len = u32 c.payload 8 → n = s.m.hbm.num addr 4 → addr % 4096 = 0 → addr + len ≤ hbmSize → 64 + 32 * n ≤ len →
    allZero (s.m.hbm.rdN (addr + 12) 52) 0 52 = true → s.m.hbm.num (addr + 8) 4 < n →
    (∀ i < n, opReserved (s.m.hbm.rdN (addr + 64 + 32 * i) 32) = false) →
    (s.m.attn.programs.lowestFree 0 1024 = none → Does (.attnProgramLoad src) s (s.m.fail c .noSpace)) ∧
    (∀ h g, s.m.attn.programs.lowestFree 0 1024 = some h →
      g = CoreProg.mk addr len n (s.m.hbm.num (addr + 4) 4) (s.m.hbm.num (addr + 8) 4) →
      Does (.attnProgramLoad src) s
        ((({ s.m with attn := { s.m.attn with programs := s.m.attn.programs.put h g } }).measure 9 h 0 0xFF
          (s.m.hbm.rdN addr len)).ok c (leBytes 2 h)))) ∧
  (∀ (s : State) (src : Src) (c : RunCmd) (p done base size oi : Nat) (g : CoreProg) (o : LigObj), Fresh s src 0x0421 c →
    allZero c.payload 0x0A 2 = true → u64 c.payload 0 ≠ 0 → s.m.attn.programs.get (u16 c.payload 8) = some g →
    done = u32 c.payload 0x0C → s.m.ligFind done = some (oi, o) → o.kind = 3 → o.partition = p →
    base = u64 c.payload 0x10 → size = u64 c.payload 0x18 → base % 4096 = 0 → size % 4096 = 0 →
    (∀ k ∈ setBitsOf 64 (u64 c.payload 0), s.m.corePart k = some p ∧ ((s.m.core k).mode = 2 ∨ (s.m.core k).mode = 3) ∧
      (s.m.core k).nextMode = none ∧ (s.m.core k).progQueue.length < 16 ∧ g.sram ≤ s.m.sramSpace k) →
    s.m.engineMay p 0 base size = true → setBitsOf 64 (u64 c.payload 0) ≠ [] →
    Does (.attnProgramStart src) s (((setBitsOf 64 (u64 c.payload 0)).foldl
      (fun (a : Module) k => (a.updCore k (fun x => { x with
        progQueue := x.progQueue ++ [⟨s.m.attn.nextLaunch, u16 c.payload 8, base, size⟩] })).startNext k)
      { s.m with attn := { s.m.attn with
        nextLaunch := s.m.attn.nextLaunch + 1,
        launches := s.m.attn.launches.put s.m.attn.nextLaunch ⟨(setBitsOf 64 (u64 c.payload 0)).length, done⟩ } }).ok c [])) ∧
  (∀ (s : State) (src : Src) (c : RunCmd), Fresh s src 0x0422 c → u64 c.payload 0 ≠ 0 →
    Does (.attnProgramStop src) s (((setBitsOf 64 (u64 c.payload 0)).foldl
      (fun (a : Module) k => a.tellStop k) s.m).ok c [])) ∧
  (∀ (m : Module) (k : Nat) (r : CoreRun), (m.core k).run = some r → r.stop = none →
    (let m1 := m.updCore k (fun x => { x with run := some { r with stop := some 8 } })
     (r.waiting = true → m.tellStop k = m1) ∧ (r.waiting = false → m.tellStop k = m1.progFault k 8))) ∧
  (∀ (s : State) (src : Src) (c : RunCmd) (p : Nat), Fresh s src 0x0430 c → allZero c.payload 9 7 = true →
    u64 c.payload 0 ≠ 0 → u8 c.payload 8 ≤ 3 → (∀ k ∈ setBitsOf 64 (u64 c.payload 0), s.m.corePart k = some p) →
    Does (.attnCoreAssign src) s ((((setBitsOf 64 (u64 c.payload 0)).foldl
      (fun (a : Module) k => if a.drained k then a.setMode k (u8 c.payload 8)
        else a.updCore k (fun x => { x with nextMode := some (u8 c.payload 8) })) s.m).await c [u64 c.payload 0]).finishAssigns))

/-- Queries, batches, walks and the time-outs of the attention cores. In the running module: a core marked for another mode
takes it when it has no work. A QUERY that is malformed is counted as orphaned; one that finds its command goes to it; any
other is kept for WAIT_NS. WAIT_NS after a batch opened it starts, unless its rows do not fit beside those that walk or a
stall holds its layer. On a core with nothing cancelled and no program slice running, a block boundary runs one of the
blocks that may run of the first active walk which has one, a free choice, on the commands of that walk that have it left,
uses up its landed tiles, and sends the outputs of batches that are done; when its first tile fails its check the walk's
commands end instead; with no such walk only outputs are sent. A command or expected query still waiting when its wait has
ended is ended with TIMEOUT or drops out of its step. A kept query whose wait has ended is counted as orphaned. When a slice
ends, the program yields unless no fused command is left. Rules: R89, R106, R107, R112, R121, R122, R123. -/
def Obligations.WalksAndQueriesProceed : Prop :=
  (∀ (s : State) (k mode : Nat), s.m.live = true → k < 64 → (s.m.core k).nextMode = some mode →
    (s.m.drained k = true → Does (.coreModeDrained k) s ((s.m.setMode k mode).finishAssigns)) ∧
    (s.m.drained k = false → Does (.coreModeDrained k) s s.m)) ∧
  (∀ (s : State) (e : Nat) (g : ModelMsg) (q : QueuePair), s.m.live = true → s.m.bell.qps.get e = some q → q.error = false →
    (g.check ≠ modelCrc g → Does (.query e g) s s.m.orphan) ∧
    (g.kind = 1 → g.bytes = g.body.length → 48 + g.body.length ≤ 262144 → g.check = modelCrc g →
      (∀ m1, s.m.matchQuery g = some m1 → Does (.query e g) s m1) ∧
      (s.m.matchQuery g = none → Does (.query e g) s { s.m with attn := { s.m.attn with
        orphans := s.m.attn.orphans ++ [(s.m.clk.mono + s.m.get Reg.ATTN.QUERY_CTRL_WAIT_NS, g)] } }))) ∧
  (∀ (s : State) (k : Nat) (b : Batch), s.m.live = true → k < 64 → openBatch k s.m = some b →
    (s.m.mayStart k b = true →
      DoesAt (.batchWaitExpiry k) s (b.opened + s.m.get Reg.ATTN.BATCH_CTRL_WAIT_NS) (fun m => m.startBatch k b)) ∧
    (s.m.mayStart k b = false →
      DoesAt (.batchWaitExpiry k) s (b.opened + s.m.get Reg.ATTN.BATCH_CTRL_WAIT_NS) (fun m => m))) ∧
  (∀ (s : State) (k : Nat), s.m.live = true → k < 64 → (∀ f ∈ (s.m.core k).fused, f.status = none) → s.m.inSlice k = false →
    (s.m.nextWalk k = none → Does (.blockBoundary k) s (s.m.sendDone k)) ∧
    (∀ f i m1 blk, s.m.nextWalk k = some f → s.m.choose (s.m.readyBlocks k f).length = (i, m1) →
      (s.m.readyBlocks k f)[i]? = some blk →
      ((∀ p ∈ blk.tileList, (m1.tileSlots k f.desc p.1 p.2).isSome = true) →
        Does (.blockBoundary k) s (((m1.groupBlock k blk f).useTiles k f.desc blk.tileList).sendDone k)) ∧
      (∀ p t rest, blk.tileList = (p, t) :: rest → m1.tileSlots k f.desc p t = none →
        Does (.blockBoundary k) s (m1.walkDamaged k f p t)))) ∧
  (∀ (s : State) (t : Nat) (x : Late), s.m.live = true → firstLate s.m = some (t, x) → t ≤ s.m.clk.mono →
    Does .queryTimeout s (((match x with
      | .command c id => s.m.endFused c id .timeout
      | .expected e => (s.m.bump Reg.ATTN.QUERY_TIMEOUTS_COUNT).leaveStep e.request).set
        Reg.ATTN.STATUS_QUERY_TIMEOUT 1).blockEvent 4)) ∧
  (∀ (s : State) (o : Nat × ModelMsg), s.m.live = true → firstOrphan s.m = some o →
    DoesAt .orphanQueryExpiry s o.1 (fun m =>
      ({ m with attn := { m.attn with orphans := m.attn.orphans.erase o } }).orphan)) ∧
  (∀ (s : State) (k : Nat) (r : CoreRun), s.m.live = true → k < 64 → (s.m.core k).run = some r → (s.m.core k).mode = 2 →
    DoesAt (.programSliceExpiry k) s (r.sliceStart + s.m.get Reg.ATTN.PROG_CTRL_SLICE_NS) (Module.newSlice k))

/-- The ten operations of core programs, and the faults that end a program. On a core below 64 whose program runs (it does not
wait, is not suspended, told to stop or yielding): LOAD and STORE move bytes between its SRAM and its HBM; CAPREAD of header
bytes of a live capsule of its partition copies them to SRAM; MATMUL in INT8 of one row and one column of length 1 adds the
product to the accumulator, saturated, and counts its waves; VECOP writes its result; FUSED with a descriptor that passes
the checks queues it and the program waits; WAIT and SIGNAL act on an object of the partition that is not revoked and no
queue as LWAIT without a time-out and as a signal of 1; LOOP pushes a loop or skips what runs no time; END ends the program
with no fault. Places outside the SRAM fault with 2, HBM outside the region and the image with 3, an unnamed object with 5,
a fifth loop with 7. A reserved operation faults with 1, and a program told to stop stops at its boundary, whichever of the
rows runs. Rules: R107, R124, R125, R131, R133, R142, R144, R388. -/
def Obligations.CoreProgramsRunTheirOperations : Prop :=
  (∀ (s : State) (c : Nat) (r : CoreRun) (b : Bytes),
    (CoreOp s c 0x01 r b →
      (s.m.sramSpace c < u64 b 0x18 + u32 b 4 → Does (.coreLoad c) s (s.m.progFault c 2)) ∧
      (u64 b 0x18 + u32 b 4 ≤ s.m.sramSpace c → r.reaches (u64 b 0x10) (u32 b 4) = false →
        Does (.coreLoad c) s (s.m.progFault c 3)) ∧
      (u64 b 0x18 + u32 b 4 ≤ s.m.sramSpace c → r.reaches (u64 b 0x10) (u32 b 4) = true →
        Does (.coreLoad c) s ((s.m.wrSram c (u64 b 0x18) (s.m.hbm.rdN (u64 b 0x10) (u32 b 4))).nextOp c))) ∧
    (CoreOp s c 0x02 r b → u64 b 0x18 + u32 b 4 ≤ s.m.sramSpace c → r.reaches (u64 b 0x10) (u32 b 4) = true →
      Does (.coreStore c) s
        (({ s.m with hbm := s.m.hbm.wrN (u64 b 0x10) ((s.m.core c).sram.rdN (u64 b 0x18) (u32 b 4)) } : Module).nextOp c)) ∧
    (∀ k o, CoreOp s c 0x03 r b → u64 b 0x18 + u32 b 4 ≤ s.m.sramSpace c → s.m.capsule (u32 b 8) = some k →
      k.partition = r.partition → k.headerBad = false → k.range (u64 b 0x10) (u32 b 4) = some (.header o) →
      Does (.coreCapread c) s
        ((s.m.wrSram c (u64 b 0x18) (slice (k.bytes (u32 b 8 / 256)) o (u32 b 4))).nextOp c)) ∧
    (CoreOp s c 0x10 r b → u8 b 1 = 0x0B → u32 b 4 = 1 → u32 b 8 = 1 → u32 b 0x0C = 1 →
      u32 b 0x10 + 1 ≤ s.m.sramSpace c → u32 b 0x14 + 1 ≤ s.m.sramSpace c → u64 b 0x18 + 4 ≤ s.m.sramSpace c →
      Does (.coreMatmul c) s (((s.m.wrSram c (u64 b 0x18) (leBytes 4 (trunc 32 (satI32
        (sext 32 ((s.m.core c).sram.num (u64 b 0x18) 4) + sext 8 ((s.m.core c).sram.num (u32 b 0x10) 1) *
          sext 8 ((s.m.core c).sram.num (u32 b 0x14) 1)))))).bumpBy
          Reg.ATTN.ARRAY_WAVES_COUNT (Config.matmulWaves 0x0B 1 1 1)).nextOp c)) ∧
    (CoreOp s c 0x10 r b → s.m.sramSpace c < u64 b 0x18 + 4 * u32 b 4 * u32 b 8 →
      Does (.coreMatmul c) s (s.m.progFault c 2)) ∧
    (CoreOp s c 0x11 r b → u16 b 2 = 0 → u32 b 0x10 + rowBytes (u8 b 1) (u32 b 4) ≤ s.m.sramSpace c →
      u32 b 0x14 + rowBytes (u8 b 1) (u32 b 4) ≤ s.m.sramSpace c → u64 b 0x18 + 4 * u32 b 4 ≤ s.m.sramSpace c →
      Does (.coreVecop c) s ((s.m.wrSram c (u64 b 0x18) (fp32Bytes
        (((rowVals (u8 b 1) (u32 b 4) ((s.m.core c).sram.rdN (u32 b 0x10) (rowBytes (u8 b 1) (u32 b 4)))).zip
          (rowVals (u8 b 1) (u32 b 4) ((s.m.core c).sram.rdN (u32 b 0x14) (rowBytes (u8 b 1) (u32 b 4))))).map
          (fun p => add32 p.1 p.2)))).nextOp c)) ∧
    (CoreOp s c 0x20 r b → r.reaches (u64 b 0x10) 64 = true →
      (let bs := s.m.hbm.rdN (u64 b 0x10) 64
       let d := Desc.parse bs
       d.queryHbm = true → d.outHbm = true → s.m.descFault c d (u32 bs 0x24) = none → (s.m.core c).fused.length < 64 →
       Does (.coreFused c) s ((s.m.updCore c (fun k => { k with
         run := k.run.map (fun r => { r with waiting := true }) })).pushFused c d (.program (s.m.core c).launch) none))) ∧
    (CoreOp s c 0x30 r b → s.m.ligFind (u32 b 4) = none → Does (.coreWait c) s (s.m.progFault c 5)) ∧
    (∀ i o o1, CoreOp s c 0x30 r b → s.m.ligFind (u32 b 4) = some (i, o) → o.partition = r.partition → o.revokedJob = none →
      o.kind ≠ 4 →
      ligTake o false = .wait o1 →
      Does (.coreWait c) s (((s.m.bump Reg.LIG.OPS_COUNT).ligPut i
        { o1 with waiters := o1.waiters ++ [⟨.core c, s.m.clk.mono, none, false⟩] }).updCore c (fun k =>
          { k with run := k.run.map (fun r => { r with waiting := true }) }))) ∧
    (∀ i o, CoreOp s c 0x31 r b → s.m.ligFind (u32 b 4) = some (i, o) → o.partition = r.partition → o.revokedJob = none →
      o.kind ≠ 4 → Does (.coreSignal c) s ((s.m.ligSignal i o 1).1.nextOp c)) ∧
    (CoreOp s c 0x40 r b → u32 b 4 ≠ 0 → u32 b 8 ≠ 0 →
      (4 ≤ r.loops.length → Does (.coreLoop c) s (s.m.progFault c 7)) ∧
      (r.loops.length < 4 → Does (.coreLoop c) s (s.m.updCore c (fun k => { k with run := k.run.map (fun r => { r with
        op := r.op + 1, loops := ⟨r.op + 1, r.op + u32 b 4, u32 b 8⟩ :: r.loops }) })))) ∧
    (CoreOp s c 0xFF r b → Does (.coreEnd c) s (s.m.endProgram c 0))) ∧
  (∀ (s : State) (c : Nat) (r : CoreRun) (i : Instr), s.m.live = true → c < 64 → (s.m.core c).run = some r →
    r.waiting = false → r.stop = none → r.suspended = false → s.m.yields c r = false →
    (r.ops ≤ r.op ∨ opReserved (s.m.hbm.rdN (r.image + 64 + 32 * r.op) 32) = true) →
    i ∈ [Instr.coreLoad c, .coreStore c, .coreCapread c, .coreMatmul c, .coreVecop c, .coreFused c, .coreWait c,
      .coreSignal c, .coreLoop c, .coreEnd c] →
    Does i s (s.m.progFault c 1)) ∧
  (∀ (s : State) (c code : Nat) (r : CoreRun) (i : Instr), s.m.live = true → c < 64 → (s.m.core c).run = some r →
    r.waiting = false → r.stop = some code →
    i ∈ [Instr.coreLoad c, .coreStore c, .coreCapread c, .coreMatmul c, .coreVecop c, .coreFused c, .coreWait c,
      .coreSignal c, .coreLoop c, .coreEnd c] →
    Does i s (s.m.progFault c code))

/-- The commands on requests, batches, pools and rings do their effects when their checks pass. For fresh commands whose fields
pass. STEP_ADMIT of no input takes the lowest free entry, starts the revive and is READY at once; with input it reserves the
entry and waits for the read. ADMIT_INPUT_READ that fails, or whose input fails its check, undoes the admission with that
status; otherwise the request is READY and the command answers with its index. STEP_APPEND of no input resumes the request.
STEP_WAIT moves READY to TOOL_WAIT, marks a request in a step or pre-empted, and leaves TOOL_WAIT alone; on ENDING it is
BUSY. STEP_END ends with reason 3. STEP_QUERY answers the entry, and is STALE_HANDLE where the index has no entry of that
capsule, an index past the table included. STEP_SET changes the fields named by MASK, and no request but that one.
STEP_BATCH on a partition of more than 8 cores is DENIED, and otherwise its pairs wait for their build. STEP_POOL_BIND of an
endpoint not in the map is DENIED. STEP_RING_SET sets the ring with HEAD and TAIL 0. RING_TAIL_WRITE in ring order sets TAIL
and passes waiting records on; out of order it is a dropped write. Rules: R153, R156, R158, R159, R175, R176, R177, R178,
R179, R180, R181, R182. -/
def Obligations.RequestCommandsAct : Prop :=
  (∀ (s : State) (b : Nat) (c : RunCmd) (a : Admit) (k : Capsule), Fresh s (.mbox b) 0x0500 c → a = Admit.ofPayload c.payload →
    allZero c.payload 0x0A 2 = true → allZero c.payload 0x34 4 = true → a.capsule % 256 ≠ 255 → s.m.present a.partition = true →
    a.flags ≤ 7 → u8 c.payload 7 ≤ 1 → a.model < 64 → (if bit a.flags 2 then a.return_ = 0 else a.return_ ≠ 0) →
    (u32 c.payload 0x30 = 0 → u64 c.payload 0x28 = 0) → u32 c.payload 0x30 ≤ 16777216 → u32 c.payload 0x30 % 4 = 0 →
    s.m.capsule a.capsule = some k → MayWrite s.m c k → firstFail (s.m.admitChecks a 8 0x20 0x1C) = none →
    (bit a.flags 2 = true → s.m.mute a.partition = false) → s.m.entryFree a.partition = true →
    (let resolved := a.prefixHandle != 0 && (s.m.slot (a.capsule / 256)).tokens == 0
     let e := (unheld c s.m).takeEntry a (some c.id)
     (u32 c.payload 0x30 = 0 → Does (.stepAdmit (.mbox b)) s
       ((((e.1.revive e.2 a.capsule).activate e.2 (.tokens []) resolved)).ok c (leBytes 4 e.2))) ∧
     (u32 c.payload 0x30 ≠ 0 → s.m.engineMay a.partition 2 (u64 c.payload 0x28) (u32 c.payload 0x30) = true →
       Does (.stepAdmit (.mbox b)) s ((e.1.revive e.2 a.capsule).await c
         ([e.2, b2n resolved, (s.m.slot (a.capsule / 256)).prefixHandle] ++ (s.m.slot (a.capsule / 256)).pins))))) ∧
  (∀ (s : State) (b : Nat) (c : RunCmd), s.m.live = true → s.m.waitingAdmit (.mbox b) = some c → s.m.host.linkUp = true →
    s.m.host.d3hot = false →
    Does (.admitInputRead (.mbox b) false) s (s.m.failAdmit c (stop .timeout)) ∧
    (let x := s.m.parseInput (u32 c.payload 0) (u8 c.payload 7) (s.m.hostMem.rdN (u64 c.payload 0x28) (u32 c.payload 0x30))
     (x = .bad → Does (.admitInputRead (.mbox b) true) s (s.m.failAdmit c (bad 0x28))) ∧
     (x ≠ .bad → (s.m.slot (u32 c.payload 0 / 256)).tokens + x.list.length ≤ 1048576 → blocksFor 0 x.list.length ≤ s.m.inputFree →
       Does (.admitInputRead (.mbox b) true) s
         ((s.m.activate (c.data.headD 0) x (nthD c.data 1 0 == 1)).ok c (leBytes 4 (c.data.headD 0)))))) ∧
  (∀ (s : State) (src : Src) (c : RunCmd) (r : Req), Fresh s src 0x0501 c → allZero c.payload 9 3 = true →
    WritesRequest s.m c (u32 c.payload 0) (u32 c.payload 4) r → u8 c.payload 8 ≤ 1 → u32 c.payload 0x0C = 0 →
    u64 c.payload 0x10 = 0 → r.state ≠ 5 →
    Does (.stepAppend src) s (((unheld c s.m).addInput (u32 c.payload 4) (.tokens [])).ok c [])) ∧
  (∀ (s : State) (src : Src) (c : RunCmd) (r : Req) (i : Nat), Fresh s src 0x0502 c → i = u32 c.payload 4 →
    WritesRequest s.m c (u32 c.payload 0) i r →
    (r.state = 5 → Does (.stepWait src) s (s.m.fail c .busy)) ∧
    (r.state = 1 → Does (.stepWait src) s ((((unheld c s.m).updReq i (fun r => { r with state := 3 })).touchReq i).ok c [])) ∧
    (r.state = 2 ∨ r.state = 4 → Does (.stepWait src) s
      ((((unheld c s.m).updReq i (fun r => { r with flags := r.flags ||| 32 })).touchReq i).ok c [])) ∧
    (r.state = 3 → Does (.stepWait src) s ((unheld c s.m).ok c []))) ∧
  (∀ (s : State) (src : Src) (c : RunCmd) (r : Req), Fresh s src 0x0503 c →
    WritesRequest s.m c (u32 c.payload 0) (u32 c.payload 4) r → r.state ≠ 5 →
    Does (.stepEnd src) s (((unheld c s.m).endByHost (u32 c.payload 4) 3 none).ok c [])) ∧
  (∀ (s : State) (src : Src) (c : RunCmd) (r : Req), Fresh s src 0x0504 c → u32 c.payload 0 % 256 ≠ 255 →
    (s.m.request (u32 c.payload 4) (u32 c.payload 0) = some r → Does (.stepQuery src) s (s.m.ok c (reqBytes s.m r))) ∧
    (s.m.request (u32 c.payload 4) (u32 c.payload 0) = none → Does (.stepQuery src) s (s.m.fail c .stale))) ∧
  (∀ (s : State) (b : Nat) (c : RunCmd) (r : Req) (i : Nat), Fresh s (.mbox b) 0x0505 c → allZero c.payload 0x0A 2 = true →
    i = u32 c.payload 4 → WritesRequest s.m c (u32 c.payload 0) i r → u8 c.payload 8 ≤ 7 → r.state ≠ 2 →
    ∃ t, exec (.stepSet (.mbox b)) s = .next t ∧ t.m.steps.reqs.get i = some { r with
        priority := if bit (u8 c.payload 8) 0 then u8 c.payload 9 else r.priority
        deadline := if bit (u8 c.payload 8) 1 then u64 c.payload 0x10 else r.deadline
        maxTokens := if bit (u8 c.payload 8) 2 then u32 c.payload 0x0C else r.maxTokens } ∧
      (∀ j, j ≠ i → t.m.steps.reqs.get j = s.m.steps.reqs.get j) ∧ t.m.caps.frames = s.m.caps.frames ∧ t.m.hbm = s.m.hbm) ∧
  (∀ (s : State) (b : Nat) (c : RunCmd) (addr n p : Nat), Fresh s (.mbox b) 0x0510 c → allZero c.payload 0x0B 1 = true →
    addr = u64 c.payload 0 → n = u16 c.payload 8 → p = u8 c.payload 0x0A → 1 ≤ n → n ≤ 256 → s.m.present p = true →
    (8 < s.m.coreCount p → Does (.stepBatch (.mbox b)) s (s.m.fail c .denied)) ∧
    (s.m.coreCount p ≤ 8 → s.m.fenced = false → s.m.batchesOut p < 2 →
      u32 c.payload 0x0C = ((s.m.pstep p).built + 1 + (s.m.pstep p).batches.length) % 2 ^ 32 →
      s.m.engineMay p 2 addr (8 * n) = true → s.m.host.linkUp = true → s.m.host.d3hot = false →
      Does (.stepBatch (.mbox b)) s ((s.m.updPart p (fun x => { x with
        batches := x.batches ++ [(c.id, pairsOf (s.m.hostMem.rdN addr (8 * n)) n)] })).await c [p]))) ∧
  (∀ (s : State) (src : Src) (c : RunCmd) (p e size : Nat), Fresh s src 0x0520 c → allZero c.payload 1 3 = true →
    p = u8 c.payload 0 → e = u32 c.payload 4 → size = u32 c.payload 0x14 → s.m.present p = true → isPow2 size = true →
    8388608 ≤ size → size ≤ 1073741824 →
    (s.m.endpoint e = none → Does (.stepPoolBind src) s (s.m.fail c .denied)) ∧
    ((s.m.endpoint e).isSome = true → s.m.bell.qps.has e = true → Does (.stepPoolBind src) s
      ((s.m.updPart p (fun x => { x with
        nextPool := some ⟨e, u64 c.payload 8, u32 c.payload 0x10, size, 0⟩ })).ok c []))) ∧
  (∀ (s : State) (src : Src) (c : RunCmd) (p size base : Nat), Fresh s src 0x0521 c → allZero c.payload 2 2 = true →
    p = u8 c.payload 0 → size = u32 c.payload 4 → base = u64 c.payload 8 → s.m.present p = true → 96 ≤ u8 c.payload 1 → u8 c.payload 1 ≤ 127 →
    size % 4096 = 0 → 65536 ≤ size → size ≤ 1073741824 → base % 4096 = 0 →
    ((s.m.pstep p).wait ≠ [] → Does (.stepRingSet src) s (s.m.fail c .busy)) ∧
    ((s.m.pstep p).wait = [] → s.m.get (ringHead p) = s.m.get (ringTail p) → s.m.engineMay p 2 base size = true →
      Does (.stepRingSet src) s
        ((((s.m.updPart p (fun x => { x with ring := some ⟨u8 c.payload 1, size, base⟩ })).set (ringHead p) 0).set
          (ringTail p) 0).ok c []))) ∧
  (∀ (s : State) (p v : Nat), p < 8 → s.m.live = true → s.m.host.linkUp = true → s.m.host.d3hot = false →
    (s.m.tailOk p v = true → Does (.ringTailWrite p v) s ((s.m.set (ringTail p) v).ringGo p)) ∧
    (s.m.tailOk p v = false → Does (.ringTailWrite p v) s (s.m.dropWrite (ringTail p).off)))

/-- A step is built, sampled, accounted, written and committed in its phases. In the running module, for a partition below 8:
STEP_BUILD does nothing until the write phase before has ended and the step before that has committed; then the step builder
forms the step of a partition of more than 8 cores, and the oldest batch that of another. Publishing gives the step the next
number, as BUILT and as the newest live step, and each of its requests is then in a step with no wait. SAMPLE_RECORD_PREPARE
writes the records of the published sequences that sample. ACCOUNT_PHASE accounts the oldest unaccounted step once the
layers of its sequences have ended. OUTPUT_COMMIT commits the oldest step exactly when its write phase has ended and the
partner has acknowledged its mark or it may commit alone, and otherwise changes nothing. WRITE_PHASE waits while the new
pages of its sequences do not fit in HBM and frames are leaving. Rules: R161, R165, R166, R167, R172, R183, R188, R207,
R239, R319, R328. -/
def Obligations.StepsRunTheirPhases : Prop :=
  (∀ (s : State) (p : Nat), p < 8 → s.m.live = true →
    (s.m.mayBuild p = false → Does (.stepBuild p) s s.m) ∧
    (s.m.mayBuild p = true → 8 < s.m.coreCount p → Does (.stepBuild p) s (s.m.buildStep p)) ∧
    (s.m.mayBuild p = true → s.m.coreCount p ≤ 8 → Does (.stepBuild p) s (s.m.buildBatch p)) ∧
    (s.m.mayBuild p = true → (s.m.pstep p).live.length ≤ 1 ∧ (∀ x ∈ (s.m.pstep p).live, x.writing = true)) ∧
    Does (.sampleRecordPrepare p) s ((s.m.pstep p).live.foldl (fun (a : Module) l => l.seqs.foldl (fun (b : Module) q =>
      if q.kind ≠ 1 ∧ q.prepared = false ∧ q.dropped = false then b.prepareSeq p l.num q else b) a) s.m) ∧
    (∀ l, (s.m.pstep p).live.find? (fun l => l.seqs.any (fun q => !q.dropped && !q.accounted)) = some l →
      ((∀ q ∈ l.seqs, q.dropped = true ∨ s.m.layersDone p l.num q.request = true) →
        Does (.accountPhase p) s (l.seqs.foldl (fun (a : Module) q =>
          if q.dropped = true ∨ q.accounted = true then a else a.accountSeq p l.num q) s.m)) ∧
      (∀ q ∈ l.seqs, q.dropped = false → s.m.layersDone p l.num q.request = false → Does (.accountPhase p) s s.m)) ∧
    (∀ l, (s.m.pstep p).live.find? (fun l => !l.writing) = some l →
      ((∀ q ∈ l.seqs, q.dropped = true ∨ (q.accounted = true ∧ s.m.slotsReady p l.num q = true)) →
        (s.m.awaitsFrames (l.seqs.filter (fun q => !q.dropped)) = true → Does (.writePhase p) s s.m) ∧
        (s.m.awaitsFrames (l.seqs.filter (fun q => !q.dropped)) = false →
         let w := l.seqs.foldl (fun (a : Module) q => if q.dropped then a else a.writeSeq p l.num q) s.m
         let outs := (((w.pstep p).live.find? (fun x => x.num == l.num)).map (·.outputs)).getD []
         let done := ((w.updPart p (fun x => { x with live := x.live.map (fun y => if y.num == l.num then
           { y with writing := true, writeEnd := w.clk.mono } else y) })).sendMark p l.num outs).finishMoves
         (done.flag Reg.MIRROR.CTRL_SOLO = false → Does (.writePhase p) s done))) ∧
      (∀ q ∈ l.seqs, q.dropped = false → q.accounted = false → Does (.writePhase p) s s.m)) ∧
    (∀ l rest, (s.m.pstep p).live = l :: rest →
      (l.writing = true → s.m.marked l = true → Does (.outputCommit p) s
        ((s.m.bumpBy Reg.MIRROR.COMMIT_WAIT_NS_COUNT (s.m.clk.mono - l.writeEnd)).commitStep p l)) ∧
      (l.writing = true → s.m.marked l = false → s.m.commitsAlone l = true →
        Does (.outputCommit p) s (s.m.commitStep p l)) ∧
      (l.writing = false ∨ (s.m.marked l = false ∧ s.m.commitsAlone l = false) → Does (.outputCommit p) s s.m)))

/-- What a sequence accepts is bounded by its hand-offs, its limit and its tree. For every tokenizer, grammar, stop set and
sequence whose path starts at the root: walking from the root accepts one token for each node of the path, the one handed
off for that node, so no token is accepted that no sampler handed over; the tokens accepted are at most what MAX_TOKENS left
allows; and every later node of the path is a node of the tree whose parent is the node before it and whose token is the
token accepted there. Rules: R205, R206, R231, R240. -/
def Obligations.AcceptanceFollowsTheTree : Prop :=
  ∀ (t : Option TokImage) (g : Option GramImage) (stops : List Bytes) (incl : Bool) (q : Seq) (fuel : Nat) (left : Option Nat)
    (state : Nat) (hold : Bytes),
    (let x := walkTokens t g stops incl q fuel 0 left ⟨[], [0], state, [], hold, 0, false, false, 0, 0⟩
     x.accepted.length ≤ fuel ∧ x.path.length ≤ x.accepted.length + 1 ∧
     (∀ n, left = some n → x.accepted.length ≤ n) ∧
     (∀ k, k < x.accepted.length →
       ∃ h ∈ q.hands, some h.node = x.path[k]? ∧ some h.token = x.accepted[k]?) ∧
     (∀ k c, k + 1 < x.path.length → x.path[k + 1]? = some c →
       q.kind = 2 ∧ some (nthD q.parents c 0xFF) = x.path[k]? ∧ some (nthD q.tokens c 0) = x.accepted[k]?))

/-- Accounts are opened, closed, changed, read and renewed as the budget unit's rules say. On a module that serves the account
and is not fenced, for fresh commands whose fields pass: BUDGET_OPEN of a closed account gives it ALLOWANCE equal to QUOTA,
no debits and PERIOD_START now; of an open one it is BUSY. BUDGET_CLOSE clears OPEN, and is BUSY while a request of either
module names the account. BUDGET_SET on an account without STRICT that does not fall into debt changes it and answers the
balance: MODE 0 moves ALLOWANCE by the change of QUOTA, MODE 1 adds VALUE, MODE 2 sets PERIOD_S. BUDGET_QUERY answers record
and balance on either module; a module that does not serve the account is DENIED the rest. ACCOUNT_PERIOD_END acts when the
counter shows PERIOD_START + PERIOD_S seconds. Closing n whole periods that have passed leaves ALLOWANCE =
min(min(ALLOWANCE, d) + n × QUOTA, d + QUOTA) for d debited, saturated at 2^63 − 1, which is R187's step done n times, and
moves PERIOD_START by n periods; no other account's ALLOWANCE changes. Rules: R186, R187, R190, R209, R210, R211, R212. -/
def Obligations.AccountsFollowTheirRules : Prop :=
  (∀ (s : State) (src : Src) (c : RunCmd) (a : Nat), Fresh s src 0x0600 c → allZero c.payload 6 2 = true →
    allZero c.payload 0x14 4 = true → a = u32 c.payload 0 → a ≤ 65535 → s.m.present (u8 c.payload 4) = true →
    (u8 c.payload 5 = 0 ∨ u8 c.payload 5 = 2) → u64 c.payload 8 ≤ 2 ^ 62 → s.m.fenced = false →
    (s.m.serves a = false → Does (.budgetOpen src) s (s.m.fail c .denied)) ∧
    (s.m.serves a = true → (s.m.account a).open_ = true → Does (.budgetOpen src) s (s.m.fail c .busy)) ∧
    (s.m.serves a = true → (s.m.account a).open_ = false → Does (.budgetOpen src) s
      (((s.m.setAccount a ⟨u64 c.payload 8, (u64 c.payload 8 : Int), 0, 0, s.m.clk.now, u32 c.payload 0x10, u8 c.payload 4,
        1 + u8 c.payload 5, 0⟩).sendAccount 0 a).ok c (leBytes 4 a)))) ∧
  (∀ (s : State) (src : Src) (c : RunCmd) (a : Nat) (x : Account), Fresh s src 0x0601 c → a = u32 c.payload 0 → a ≤ 65535 →
    x = s.m.account a → x.open_ = true → s.m.fenced = false → s.m.serves a = true →
    (s.m.accountUsed a = true → Does (.budgetClose src) s (s.m.fail c .busy)) ∧
    (s.m.accountUsed a = false → Does (.budgetClose src) s
      (((s.m.setAccount a { x with flags := x.flags - 1 }).sendAccount 0 a).ok c []))) ∧
  (∀ (s : State) (src : Src) (c : RunCmd) (a : Nat) (x y : Account), Fresh s src 0x0602 c → allZero c.payload 6 2 = true →
    a = u32 c.payload 0 → a ≤ 65535 → x = s.m.account a → x.open_ = true → x.strict = false → s.m.fenced = false →
    s.m.serves a = true → u8 c.payload 5 = 0 →
    (u8 c.payload 4 = 0 ∧ u64 c.payload 8 ≤ 2 ^ 62 ∧ y = { x with
        quota := u64 c.payload 8, allowance := satAllow (x.allowance + (u64 c.payload 8 : Int) - (x.quota : Int)) } ∨
      u8 c.payload 4 = 1 ∧ y = { x with allowance := satAllow (x.allowance + sext 64 (u64 c.payload 8)) } ∨
      u8 c.payload 4 = 2 ∧ u64 c.payload 8 < 2 ^ 32 ∧ y = { x with periodS := u64 c.payload 8 }) →
    (x.balance < 0 ∨ 0 ≤ y.balance) →
    Does (.budgetSet src) s (((s.m.setAccount a y).sendAccount 0 a).ok c (leBytes 8 (trunc 64 y.balance)))) ∧
  (∀ (s : State) (src : Src) (c : RunCmd), Fresh s src 0x0603 c → u32 c.payload 0 ≤ 65535 →
    Does (.budgetQuery src) s (s.m.ok c ((s.m.account (u32 c.payload 0)).bytes ++
      leBytes 8 (trunc 64 (s.m.account (u32 c.payload 0)).balance)))) ∧
  (∀ (s : State) (a : Nat) (x : Account), a < 65536 → s.m.live = true → x = s.m.account a → x.open_ = true → x.periodS ≠ 0 →
    s.m.serves a = true →
    DoesAt (.accountPeriodEnd a) s (s.m.dueAt (x.periodStart + 1000000000 * x.periodS)) (fun m => m.closePeriods a)) ∧
  (∀ (m : Module) (a n : Nat) (x : Account), m.steps.accounts.wf = true → x = m.account a → x.open_ = true → x.periodS ≠ 0 →
    m.serves a = true → 1 ≤ n → x.periodStart + n * (1000000000 * x.periodS) ≤ m.clk.now →
    m.clk.now < x.periodStart + (n + 1) * (1000000000 * x.periodS) →
    (let d : Int := (x.debited0 : Int) + (x.debited1 : Int)
     ((m.closePeriods a).account a).allowance =
       satAllow (Min.min (Min.min x.allowance d + (n : Int) * (x.quota : Int)) (d + (x.quota : Int))) ∧
     Nat.iterate (fun al => Min.min al d + (x.quota : Int)) n x.allowance =
       Min.min (Min.min x.allowance d + (n : Int) * (x.quota : Int)) (d + (x.quota : Int)) ∧
     ((m.closePeriods a).account a).periodStart = x.periodStart + n * (1000000000 * x.periodS) ∧
     ∀ b, b ≠ a → (m.closePeriods a).account b = m.account b))

/-- Prefixes, adapters and speculation are set up, changed and read by their commands. For fresh commands whose fields pass.
PREFIX_CREATE of an idle owned undamaged capsule with tokens and no carry, share or request gives every frame a count of 2,
makes the record with the free index of the own half, marks the capsule's pages shared with the new handle, and answers it.
PREFIX_DELETE of a live prefix that the module serves frees its record with the next generation, and the old handle then
names nothing; a stale handle is STALE_HANDLE. PREFIX_FIND answers the newest live prefix of the partition and name, or
EXHAUSTED. PREFIX_PLACE sets the tier. ADAPTER_LOAD makes the version CURRENT and the one before DRAINING; with four live
versions it is BUSY. ADAPTER_RETIRE makes the CURRENT version DRAINING. ADAPTER_QUERY answers the adapter. ADAPTER_POOL_BIND
binds the pin table, or is DENIED with no pool. SPEC_BIND with ENABLE 0 ends a partition's speculation, and with 1 sets it.
Rules: R192, R194, R196, R213, R214, R215, R216, R217, R218, R219. -/
def Obligations.PrefixesAndAdaptersAct : Prop :=
  (∀ (s : State) (src : Src) (c : RunCmd) (id i g : Nat) (k : Capsule) (x : Model) (ls : List Nat) (m1 : Module),
    Fresh s src 0x0610 c → allZero c.payload 7 1 = true → id = u32 c.payload 0 → id % 256 ≠ 255 → s.m.capsule id = some k →
    u8 c.payload 6 ≤ 3 → s.m.attn.models.get (u16 c.payload 4) = some x → x.layers = k.layers → x.latFmt = k.fmt →
    x.slotBytes = k.slotBytes → MayWrite s.m c k → (k.state = 1 ∨ k.state = 4) → s.m.requestOf id = none → k.damaged = false →
    k.carry = [] → k.shared = 0 → 1 ≤ k.tokens → k.map.length ≤ s.m.shareFree → s.m.freePrefix = some (i, g) →
    s.m.takeLists (listBlocks k.map.length) = (some ls, m1) →
    (let h := i + g * 65536
     let m0 := ((unheld c s.m).takeLists (listBlocks k.map.length)).2
     let shared := k.map.foldl (fun (a : Module) f =>
       ({ a with caps := { a.caps with share := a.caps.share.put f ⟨2, false⟩ } }).updFrame f
         (fun r => { r with shared := true })) m0
     let rec_ : Prefix := ⟨g, k.partition, k.fmt, k.layers, u8 c.payload 6, k.slotBytes, k.tokenizer, u16 c.payload 4, k.pages,
       k.tokens, 0, u64 c.payload 8, k.map, ls, s.m.steps.prefixOrder⟩
     Does (.prefixCreate src) s
       ((((({ shared with steps := { shared.steps with
           prefixes := shared.steps.prefixes.put i rec_, prefixOrder := s.m.steps.prefixOrder + 1 } } : Module).writeCap id
         (fun q => { q with shared := q.pages, prefixHandle := h, keep := [] })).sendPrefix i id).followPrefix h).ok c
           (leBytes 4 h)))) ∧
  (∀ (s : State) (src : Src) (c : RunCmd) (h : Nat), Fresh s src 0x0611 c → h = u32 c.payload 0 →
    (s.m.prefix_ h = none → Does (.prefixDelete src) s (s.m.fail c .stale)) ∧
    ((s.m.prefix_ h).isSome = true → s.m.serves h = true → s.m.fenced = false →
      Does (.prefixDelete src) s (((s.m.dropPrefix (h % 65536)).sendPrefix (h % 65536) capNone).ok c []) ∧
      (s.m.steps.prefixes.wf = true → (s.m.dropPrefix (h % 65536)).prefix_ h = none))) ∧
  (∀ (s : State) (src : Src) (c : RunCmd), Fresh s src 0x0612 c → allZero c.payload 1 7 = true →
    s.m.present (u8 c.payload 0) = true →
    (let mine := s.m.steps.prefixes.filter (fun y => y.2.pages != 0 && y.2.partition == u8 c.payload 0 && y.2.name == u64 c.payload 8)
     (mine = [] → Does (.prefixFind src) s (s.m.fail c .exhausted)) ∧
     (mine ≠ [] → ∃ y ∈ mine, (∀ z ∈ mine, z.2.order ≤ y.2.order) ∧
       Does (.prefixFind src) s (s.m.ok c (prefixBytes s.m y.1 y.2))))) ∧
  (∀ (s : State) (src : Src) (c : RunCmd) (h : Nat), Fresh s src 0x0613 c → allZero c.payload 5 3 = true → h = u32 c.payload 0 →
    (s.m.prefix_ h).isSome = true → u8 c.payload 4 ≤ 3 → s.m.serves h = true → s.m.fenced = false →
    (let ps := s.m.steps.prefixes.upd (h % 65536) (fun x => { x with tier := u8 c.payload 4 })
     Does (.prefixPlace src) s (((({ s.m with steps := { s.m.steps with prefixes := ps } } : Module).sendPrefix
       (h % 65536) capNone).followPrefix h).ok c []))) ∧
  (∀ (s : State) (src : Src) (c : RunCmd) (ad v p addr len : Nat) (a : Adapter), Fresh s src 0x0620 c →
    allZero c.payload 5 3 = true → ad = u16 c.payload 0 → v = u16 c.payload 2 → p = u8 c.payload 4 → addr = u64 c.payload 8 →
    len = u64 c.payload 0x10 → ad ≤ 4095 → 1 ≤ v → v ≤ 0xFFFE → s.m.present p = true → addr % 4096 = 0 → len ≠ 0 →
    s.m.steps.adapters.get ad = some a → (∀ x ∈ a.versions, x.state ≠ 3 → x.version ≠ v) →
    (let live := a.versions.filter (fun x => x.state != 3)
     (4 ≤ live.length → Does (.adapterLoad src) s (s.m.fail c .busy)) ∧
     (live.length < 4 → a.partition ≠ p → Does (.adapterLoad src) s (s.m.fail c .denied)) ∧
     (live.length < 4 → a.partition = p → s.m.engineMay p 0 addr len = true →
       (let vs := live.map (fun x => if x.state == 1 then { x with state := 2 } else x) ++ [⟨v, 1, 0, addr, len⟩]
        Does (.adapterLoad src) s (((({ s.m with steps := { s.m.steps with
          adapters := s.m.steps.adapters.put ad ⟨p, vs⟩ } } : Module).updAdapter ad id).measure 5 ad v p (s.m.hbm.rdN addr len)).ok
            c []))))) ∧
  (∀ (s : State) (src : Src) (c : RunCmd) (x : AdVersion), Fresh s src 0x0621 c → s.m.adCurrent (u16 c.payload 0) = some x →
    Does (.adapterRetire src) s ((s.m.updAdapter (u16 c.payload 0)
      (fun x => if x.state == 1 then { x with state := 2 } else x)).ok c [])) ∧
  (∀ (s : State) (src : Src) (c : RunCmd) (a : Adapter), Fresh s src 0x0622 c →
    (s.m.steps.adapters.get (u16 c.payload 0) = none → Does (.adapterQuery src) s (s.m.badField c 0)) ∧
    (s.m.steps.adapters.get (u16 c.payload 0) = some a → (∀ x ∈ a.versions, x.state ≠ 3) → a.versions.length ≤ 4 →
      Does (.adapterQuery src) s (s.m.ok c (leBytes 2 (u16 c.payload 0) ++ leBytes 1 a.partition ++ zeros 5 ++
        padTo (a.versions.flatMap AdVersion.bytes) 128)))) ∧
  (∀ (s : State) (src : Src) (c : RunCmd) (p : Nat), Fresh s src 0x0623 c → allZero c.payload 1 3 = true → p = u8 c.payload 0 →
    s.m.present p = true →
    ((s.m.pstep p).pool = none → (s.m.pstep p).nextPool = none → Does (.adapterPoolBind src) s (s.m.fail c .denied)) ∧
    ((s.m.pstep p).pool.isSome = true → Does (.adapterPoolBind src) s
      (((s.m.updPart p (fun x => { x with pinTable := some (u32 c.payload 4, u64 c.payload 8) })).setBit
        Reg.BUDGET.STATUS_PIN_BOUND p).ok c []))) ∧
  (∀ (s : State) (src : Src) (c : RunCmd) (p sem ring jobs i : Nat) (o : LigObj), Fresh s src 0x0630 c →
    allZero c.payload 3 1 = true → allZero c.payload 0x14 4 = true → p = u8 c.payload 0 → s.m.present p = true →
    sem = u32 c.payload 4 → ring = u64 c.payload 8 → jobs = u32 c.payload 0x10 →
    (u8 c.payload 1 = 0 → Does (.specBind src) s
      (((s.m.updPart p (fun x => { x with spec := none })).clearBit Reg.BUDGET.STATUS_SPEC_ON p).ok c [])) ∧
    (u8 c.payload 1 = 1 → 1 ≤ u8 c.payload 2 → u8 c.payload 2 ≤ 64 → s.m.ligFind sem = some (i, o) → o.kind = 1 →
      ring % 4096 = 0 → isPow2 jobs = true → 4096 ≤ jobs → jobs ≤ 262144 →
      (o.partition ≠ p → Does (.specBind src) s (s.m.fail c .denied)) ∧
      (o.partition = p → s.m.engineMay p 0 ring (16 * jobs) = true → Does (.specBind src) s
        (((s.m.updPart p (fun x => { x with spec := some ⟨u8 c.payload 2, sem, ring, jobs, 0⟩ })).setBit
          Reg.BUDGET.STATUS_SPEC_ON p).ok c []))))

/-- The Mouthpiece's commands and hand-offs, and what a token does to the held text. For fresh commands whose fields pass:
loading a tokenizer or grammar whose image passes its checks stores its place, is BUSY when the ID is loaded and BAD_FIELD
when a check fails; unloading is BUSY while a live capsule names the ID. MOUTH_GRAMMAR_SET sets grammar and state,
START_STATE when asked, at once outside a step and when the request leaves it in one. MOUTH_STOP_LOAD stores a set that no
text record names and writes its payload to LPDDR. MOUTH_TEXT_SET sets stop set and flags, likewise. MOUTH_TOKENIZE writes
the tokens of one buffer, as many as fit, and answers count and replacements; NO_SPACE when they do not fit.
MOUTH_CARRY_FLUSH discards a carry that no request takes, and answers its length. NEXT_MASK_WRITE writes the mask index of
the oldest unwritten hand-off and NEXT_COUNT + 1, and signals. A token that completes no stop string releases and holds,
together, exactly the settled text; one that completes a stop string holds nothing. Rules: R223, R228, R233, R236, R238,
R240, R243, R244, R245, R246, R247, R248. -/
def Obligations.MouthpieceCommandsAct : Prop :=
  (∀ (s : State) (src : Src) (c : RunCmd) (id addr len : Nat), Fresh s src 0x0700 c → allZero c.payload 2 6 = true →
    id = u16 c.payload 0 → addr = u64 c.payload 8 → len = u64 c.payload 0x10 → id < 64 → addr % 64 = 0 → addr < hbmSize →
    addr + len ≤ hbmSize →
    (s.m.mouth.tokenizers.has id = true → Does (.mouthTokenizerLoad src) s (s.m.fail c .busy)) ∧
    (s.m.mouth.tokenizers.has id = false →
      ((TokImage.mk s.m.hbm addr).ok len = false → Does (.mouthTokenizerLoad src) s (s.m.badField c 8)) ∧
      ((TokImage.mk s.m.hbm addr).ok len = true →
        (let m1 := s.m.measure 6 id 0 0xFF (s.m.hbm.rdN addr len)
         Does (.mouthTokenizerLoad src) s (({ m1 with mouth := { m1.mouth with
           tokenizers := m1.mouth.tokenizers.put id ⟨addr, len⟩ } } : Module).showTokenizers.ok c []))))) ∧
  (∀ (s : State) (src : Src) (c : RunCmd) (id : Nat), Fresh s src 0x0701 c → allZero c.payload 2 6 = true →
    id = u16 c.payload 0 → s.m.mouth.tokenizers.has id = true →
    ((∃ k ∈ s.m.caps.slots.vals, liveState k.state = true ∧ k.tokenizer = id) →
      Does (.mouthTokenizerUnload src) s (s.m.fail c .busy)) ∧
    ((∀ k ∈ s.m.caps.slots.vals, liveState k.state = true → k.tokenizer ≠ id) →
      (let m1 := s.m.unmeasure 6 id (fun _ => false)
       Does (.mouthTokenizerUnload src) s (({ m1 with mouth := { m1.mouth with
         tokenizers := m1.mouth.tokenizers.del id } } : Module).showTokenizers.ok c [])))) ∧
  (∀ (s : State) (src : Src) (c : RunCmd) (id addr len : Nat) (g : GramImage), Fresh s src 0x0710 c →
    allZero c.payload 4 4 = true → id = u32 c.payload 0 → addr = u64 c.payload 8 → len = u64 c.payload 0x10 → id < 1024 →
    addr % 64 = 0 → addr < hbmSize → addr + len ≤ hbmSize → g = ⟨s.m.hbm, addr⟩ → s.m.mouth.grammars.has id = false →
    (g.ok len ((s.m.tokImage g.tokenizer).map (·.vocab)) = false → Does (.mouthGrammarLoad src) s (s.m.badField c 8)) ∧
    (g.ok len ((s.m.tokImage g.tokenizer).map (·.vocab)) = true →
      (let m1 := s.m.measure 7 id 0 0xFF (s.m.hbm.rdN addr len)
       Does (.mouthGrammarLoad src) s (({ m1 with mouth := { m1.mouth with
         grammars := m1.mouth.grammars.put id ⟨addr, len⟩ } } : Module).showGrammars.ok c [])))) ∧
  (∀ (s : State) (src : Src) (c : RunCmd) (id : Nat), Fresh s src 0x0711 c → allZero c.payload 4 4 = true →
    id = u32 c.payload 0 → s.m.mouth.grammars.has id = true →
    (∀ k ∈ s.m.caps.slots.vals, liveState k.state = true → k.grammar ≠ id) →
    (let m1 := s.m.unmeasure 7 id (fun _ => false)
     Does (.mouthGrammarUnload src) s (({ m1 with mouth := { m1.mouth with
       grammars := m1.mouth.grammars.del id } } : Module).showGrammars.ok c []))) ∧
  (∀ (s : State) (src : Src) (c : RunCmd) (id gid st : Nat) (k : Capsule) (g : GramImage), Fresh s src 0x0712 c →
    allZero c.payload 0x0C 4 = true → id = u32 c.payload 0 → gid = u32 c.payload 4 → st = u32 c.payload 8 → id % 256 ≠ 255 →
    s.m.capsule id = some k → s.m.gramImage gid = some g → g.tokenizer = k.tokenizer → gid ≠ 0xFFFFFFFF →
    (st = 0xFFFFFFFF ∨ st < g.states) → MayWrite s.m c k →
    (let dest := if st = 0xFFFFFFFF then g.start else st
     (s.m.requestOf id = none → Does (.mouthGrammarSet src) s
       (((unheld c s.m).writeCap id (fun k => { k with grammar := gid, grammarState := dest })).ok c [])) ∧
     (∀ i r, s.m.requestOf id = some (i, r) → r.state = 2 → Does (.mouthGrammarSet src) s
       (((unheld c s.m).updReq i (fun r => { r with newGrammar := some (gid, dest) })).ok c [])) ∧
     (∀ i r, s.m.requestOf id = some (i, r) → r.state ≠ 2 → Does (.mouthGrammarSet src) s
       (((unheld c s.m).writeText id (fun k => { k with grammar := gid, grammarState := dest })).ok c [])))) ∧
  (∀ (s : State) (src : Src) (c : RunCmd) (set n : Nat), Fresh s src 0x0720 c → allZero c.payload 3 5 = true →
    set = u16 c.payload 0 → n = u8 c.payload 2 → set < 4096 → n ≤ 16 →
    (∀ v, stopFault c.payload n = some v → Does (.mouthStopLoad src) s (s.m.verdict c v)) ∧
    (stopFault c.payload n = none →
      (∀ r ∈ s.m.steps.reqs.vals, r.text.stopSet ≠ set ∧ r.newText.map (·.1) ≠ some set) →
      (∀ x ∈ s.m.mirror.shadow.vals, u16 x.text 4 ≠ set) →
      Does (.mouthStopLoad src) s (({ s.m with
        mouth := { s.m.mouth with stops := s.m.mouth.stops.put set ((List.range n).map (fun i => (stopAt c.payload i).2)) },
        lpddr := s.m.lpddr.wrN (s.m.get Reg.MOUTH.STOP_BASE_BASE + 2048 * set) (slice c.payload 0 1160) } : Module).ok c []))) ∧
  (∀ (s : State) (src : Src) (c : RunCmd) (i set fl : Nat) (r : Req), Fresh s src 0x0721 c → allZero c.payload 0x0B 5 = true →
    i = u32 c.payload 4 → set = u16 c.payload 8 → fl = u8 c.payload 0x0A → fl ≤ 3 →
    WritesRequest s.m c (u32 c.payload 0) i r → (set = 0xFFFF ∨ s.m.mouth.stops.has set = true) →
    (r.state = 5 → Does (.mouthTextSet src) s (s.m.fail c .busy)) ∧
    (r.state = 2 → Does (.mouthTextSet src) s
      (((unheld c s.m).updReq i (fun r => { r with newText := some (set, fl) })).ok c [])) ∧
    (r.state ≠ 2 → r.state ≠ 5 → Does (.mouthTextSet src) s
      ((((unheld c s.m).updReq i (fun r => { r with text := { r.text with stopSet := set, flags := fl } })).touchReq i).ok c
        []))) ∧
  (∀ (s : State) (b len max : Nat) (c : RunCmd) (t : TokImage) (ts : List Nat) (reps : Nat), Fresh s (.mbox b) 0x0730 c →
    allZero c.payload 2 2 = true → allZero c.payload 0x1C 4 = true → s.m.tokImage (u16 c.payload 0) = some t →
    len = u32 c.payload 4 → max = u32 c.payload 0x18 → 1 ≤ len → len ≤ 16777216 → s.m.host.linkUp = true →
    s.m.host.d3hot = false → t.tokenize [] (s.m.hostMem.rdN (u64 c.payload 8) len) = (ts, reps, []) →
    ∃ t', exec (.mouthTokenize (.mbox b)) s = .next t' ∧
      t'.m.hostMem = s.m.hostMem.wrN (u64 c.payload 0x10) ((ts.take max).flatMap (leBytes 4)) ∧
      ((t'.m.box b).resp.map (fun r => (r.status, r.body))) =
        some ((if max < ts.length then Status.noSpace else Status.ok).code, leBytes 4 ts.length ++ leBytes 4 reps) ∧
      t'.m.hbm = s.m.hbm ∧ t'.m.lpddr = s.m.lpddr ∧ t'.m.caps = s.m.caps ∧ t'.m.steps = s.m.steps) ∧
  (∀ (s : State) (src : Src) (c : RunCmd) (id : Nat) (k : Capsule), Fresh s src 0x0731 c → id = u32 c.payload 0 →
    id % 256 ≠ 255 → s.m.capsule id = some k → MayWrite s.m c k →
    (k.carry = [] → Does (.mouthCarryFlush src) s ((unheld c s.m).ok c (leBytes 1 0))) ∧
    (k.carry ≠ [] → s.m.requestOf id = none →
      Does (.mouthCarryFlush src) s (((unheld c s.m).flushCarry id).ok c (leBytes 1 k.carry.length)))) ∧
  (∀ (s : State) (p i : Nat) (l : LiveStep) (q : Seq) (h : HandOff), p < 8 → s.m.live = true →
    (s.m.pstep p).live.findSome? (fun l => (l.seqs.find? (fun q => q.request == i)).bind (fun q =>
      (q.hands.find? (fun h => !h.written)).map (fun h => (l, q, h)))) = some (l, q, h) →
    (let a := s.m.sampleAddr i
     let mask := ((s.m.grammarOf q.capsule).map (fun g => g.maskOf h.next)).getD 0xFFFFFFFE
     let count := (s.m.hbm.num (a + 0x20) 4 + 1) % 2 ^ 32
     let h1 := (s.m.hbm.putNum (a + 0x1C) 4 mask).putNum (a + 0x20) 4 count
     Does (.nextMaskWrite p i) s ((({ s.m with hbm := h1 } : Module).updSeq p l.num i (fun q => { q with
         hands := q.hands.map (fun x => if x.node == h.node then { x with written := true } else x) })).engineSignal h.flag
           7))) ∧
  (∀ (stops : List Bytes) (incl : Bool) (hold new : Bytes),
    (let r := detokStep stops incl hold new
     (r.2.2.2 = false → r.1 ++ r.2.1 = (settle (hold ++ new)).1) ∧
     (r.2.2.2 = true → r.2.1 = [] ∧ ∃ rest, (settle (hold ++ new)).1 = r.1 ++ rest)))

/-- Indexes are created, searched, changed and opened as the Bore units' rules say. For fresh commands whose fields pass.
BORE_INDEX_CREATE of a free number makes the index, its 32 extents and its headers, and waits; of one that exists it is
BUSY. BORE_INDEX_DROP marks the index and waits. BORE_INDEX_INFO answers the header and each shard's counts. BORE_QUERY
starts a walk on each named shard that is online, and a NaN in its vector is BAD_FIELD. BORE_INSERT takes its entries in
order. BORE_DELETE makes each named LIVE node with its label a TOMBSTONE. BORE_REPAIR and REPAIR_PASS start a pass on each
named shard. A record that arrives at a walk leaves its reads, and a good one is offered and its neighbours are queued.
SHARD_OPEN counts the sectors of the shard as read; a shard whose header fails it leaves offline, and otherwise holds what
the records say, PENDING records as TOMBSTONE. A walk that takes a record keeps found within K nodes, adds only that node,
and only when the record is LIVE, passes the filter and has a distance that is no NaN. The k least of a list are k or fewer
and come from it. Rules: R263, R264, R265, R266, R270, R273, R275, R277, R280, R281, R282, R283. -/
def Obligations.BoreCommandsAct : Prop :=
  (∀ (s : State) (src : Src) (c : RunCmd) (b : Bytes) (i al : Nat) (x : BoreIndex), Fresh s src 0x0800 c →
    b = c.payload → allZero b 0x12 6 = true → i = u8 b 0 → al = u32 b 0x0C →
    x = ⟨u8 b 1, u8 b 2, u8 b 3, u16 b 4, u8 b 6, u8 b 7, recordBytes (u8 b 2) (u16 b 4) (u8 b 6) (u8 b 7), u32 b 8, al,
      u16 b 0x10, s.m.clk.now, some c.id, none, List.replicate 32 BoreShard.blank⟩ →
    i < 16 → s.m.present (u8 b 1) = true → u8 b 2 ∈ [0x01, 0x02, 0x04, 0x05, 0x0B, 0x40] → u8 b 3 ≤ 2 →
    vecBytes (u8 b 2) (u16 b 4) ≠ 0 → 8 ≤ u8 b 6 → u8 b 6 ≤ 64 → u8 b 6 % 8 = 0 → 8 ≤ u8 b 7 → u8 b 7 ≤ 64 →
    u8 b 7 % 8 = 0 → 1 ≤ u32 b 8 → u32 b 8 ≤ 134217727 → (fp32.decode al).isNan = false →
    (fp32.decode al).lt (fp32.decode 0x3F800000) = false → (fp32.decode 0x40000000).lt (fp32.decode al) = false →
    16 ≤ u16 b 0x10 → u16 b 0x10 ≤ 1024 →
    (s.m.bore.indexes.has i = true → Does (.boreIndexCreate src) s (s.m.fail c .busy)) ∧
    (s.m.bore.indexes.has i = false → s.m.ftl.extents.has (shardExt i 0) = false →
      (s.m.ftl.readOnly = true → Does (.boreIndexCreate src) s (s.m.fail c .readOnly)) ∧
      (s.m.ftl.readOnly = false → (∀ k, k < 32 → x.sectors ≤ s.m.chanFree k) →
        s.m.bore.indexes.vals.foldl (fun n y => n + y.poolBytes) x.poolBytes ≤ s.m.get Reg.BORE.POOL_SIZE_BYTES →
        (let m0 := s.m.makeExtents ((List.range 32).map (fun k => (shardExt i k, k, x.sectors)))
         let m1 := { m0 with bore := { m0.bore with indexes := m0.bore.indexes.put i x } }
         let m2 := (List.range 32).foldl (fun (a : Module) k => (a.boreWrite (shardExt i k) [(0, x.header i k [])]).1) m1
         let body := leBytes 2 x.recordBytes ++ zeros 6 ++ leBytes 8 (32 * x.sectors * 4096)
         Does (.boreIndexCreate src) s (((m2.await c []).updCmd c.id (fun r => { r with body := body })).boreRun))))) ∧
  (∀ (s : State) (src : Src) (c : RunCmd) (i : Nat) (x : BoreIndex), Fresh s src 0x0801 c → allZero c.payload 1 7 = true →
    i = u8 c.payload 0 → s.m.bore.indexes.get i = some x → x.dropping = none →
    (let m1 := { s.m with bore := { s.m.bore with
       indexes := s.m.bore.indexes.upd i (fun x => { x with dropping := some c.id }) } }
     Does (.boreIndexDrop src) s (m1.await c []).boreRun)) ∧
  (∀ (s : State) (src : Src) (c : RunCmd) (i : Nat) (x : BoreIndex), Fresh s src 0x0802 c → i = u8 c.payload 0 →
    s.m.bore.indexes.get i = some x →
    (let n (k : BoreShard) (v : Nat) : Nat := (k.states.vals.filter (· == v)).length
     Does (.boreIndexInfo src) s (s.m.ok c (slice (x.header i 0 (x.shard 0).entries) 0 256 ++ x.shards.flatMap (fun k =>
       leBytes 4 (n k 1) ++ leBytes 4 (n k 2) ++ leBytes 4 (n k 3) ++ leBytes 1 (b2n k.offline) ++ zeros 3))))) ∧
  (∀ (s : State) (src : Src) (c : RunCmd) (b v sk : Bytes) (i fl k beam hops : Nat) (srcH dstH : Bool) (x : BoreIndex)
    (shards online : List Nat), Fresh s src 0x0810 c → b = c.payload → allZero b 7 1 = true → allZero b 0x0A 2 = true →
    allZero b 0x34 12 = true → i = u8 b 0 → fl = u8 b 1 → k = u16 b 2 → s.m.bore.indexes.get i = some x → fl ≤ 7 → 1 ≤ k →
    k ≤ u16 b 4 → u16 b 4 ≤ 1024 → u8 b 6 ≤ 8 → u16 b 8 ≤ 1024 → u64 b 0x10 % 8 = 0 → u64 b 0x18 % 16 = 0 →
    (u32 b 0x30 = ligNone ∨ ∃ o, s.m.ligFind (u32 b 0x30) = some o ∧ o.2.kind = 3 ∧ o.2.partition = x.partition) →
    srcH = bit fl 0 → dstH = bit fl 1 → (dstH = true ∨ s.m.mute x.partition = false) →
    ((srcH = true ∧ dstH = true) ∨ (s.m.host.linkUp = true ∧ s.m.host.d3hot = false)) →
    s.m.boreMay c x.partition srcH (u64 b 0x10) (roundUp (vecBytes x.element x.dims) 8 + x.sketchBytes) false = true →
    s.m.boreMay c x.partition dstH (u64 b 0x18) (16 + 16 * k) true = true → x.ready = true →
    beam = (if u8 b 6 = 0 then s.m.get Reg.BORE.QUERY_CTRL_BEAM else u8 b 6) →
    hops = (if u16 b 8 = 0 then s.m.get Reg.BORE.QUERY_CTRL_MAX_HOPS else u16 b 8) →
    shards = (if u32 b 0x0C = 0 then List.range 32 else setBitsOf 32 (u32 b 0x0C)) →
    online = shards.filter (fun k => !(x.shard k).offline) → (∀ k ∈ online, s.m.unitWalks k < 64) →
    v = s.m.boreRead c srcH (u64 b 0x10) (vecBytes x.element x.dims) →
    sk = s.m.boreRead c srcH (u64 b 0x10 + roundUp (vecBytes x.element x.dims) 8) x.sketchBytes →
    (vecBad x.metric x.element x.dims v = true → Does (.boreQuery src) s (s.m.badField c 0x10)) ∧
    (vecBad x.metric x.element x.dims v = false →
      (let q : BoreQuery := ⟨c.id, i, k, u64 b 0x18, dstH, u32 b 0x30, [], 0, false, decide (online.length < shards.length), false⟩
       let m1 := { (s.m.await c []) with bore := { s.m.bore with queries := s.m.bore.queries ++ [q] } }
       Does (.boreQuery src) s ((online.foldl (fun (a : Module) u => a.startWalk (.query c.id) i u v sk k (u16 b 4) beam hops
         (bit fl 2) (u64 b 0x20) (u64 b 0x28)) m1).boreRun)))) ∧
  (∀ (s : State) (src : Src) (c : RunCmd) (b : Bytes) (i fl n : Nat) (srcH dstH : Bool) (x : BoreIndex),
    Fresh s src 0x0820 c → b = c.payload → allZero b 5 3 = true → i = u8 b 0 → fl = u8 b 1 →
    s.m.bore.indexes.get i = some x → fl ≤ 3 → 1 ≤ u16 b 2 → u16 b 2 ≤ 4096 → (u8 b 4 ≤ 31 ∨ u8 b 4 = 0xFF) →
    srcH = bit fl 0 → dstH = bit fl 1 →
    ((srcH = true ∧ dstH = true) ∨ (s.m.host.linkUp = true ∧ s.m.host.d3hot = false)) →
    n = roundUp (16 + x.sketchBytes + vecBytes x.element x.dims) 64 →
    s.m.boreMay c x.partition srcH (u64 b 8) (n * u16 b 2) false = true →
    s.m.boreMay c x.partition dstH (u64 b 0x10) (8 * u16 b 2) true = true → x.ready = true → s.m.boreCopied i = false →
    (let batch : BoreBatch := ⟨c.id, i, u16 b 2, u64 b 0x10, dstH, []⟩
     let m1 := { (s.m.await c []) with bore := { s.m.bore with batches := s.m.bore.batches ++ [batch] } }
     Does (.boreInsert src) s (((List.range (u16 b 2)).foldl (fun (a : Module) k =>
       let e := a.boreRead c srcH (u64 b 8 + n * k) n
       let v := slice e (16 + x.sketchBytes) (vecBytes x.element x.dims)
       let id := a.bore.nextInsert
       let entry (u : Nat) : BoreInsert := ⟨c.id, k, i, u, u64 e 0, u64 e 8, slice e 16 x.sketchBytes, v, 0, 0⟩
       let add (u : Nat) (a : Module) : Module := { a with bore := { a.bore with
         inserts := a.bore.inserts.put id (entry u), nextInsert := id + 1 } }
       if vecBad x.metric x.element x.dims v then (add 32 a).insertDone id nodeNone .badField
       else if a.ftl.readOnly then (add 32 a).insertDone id nodeNone .readOnly
       else
         match a.insertShard i (u8 b 4) with
         | some u => add u a
         | none => (add 32 a).insertDone id nodeNone .noSpace) m1).boreRun))) ∧
  (∀ (s : State) (src : Src) (c : RunCmd) (b : Bytes) (i : Nat) (x : BoreIndex), Fresh s src 0x0821 c → b = c.payload →
    allZero b 1 1 = true → allZero b 4 4 = true → i = u8 b 0 → s.m.bore.indexes.get i = some x → 1 ≤ u16 b 2 →
    u16 b 2 ≤ 4096 → s.m.cmdMay c x.partition (u64 b 8) (16 * u16 b 2) false = true → x.ready = true →
    s.m.boreCopied i = false → s.m.ftl.readOnly = false → s.m.host.linkUp = true → s.m.host.d3hot = false →
    (let pairs := s.m.cmdRead c (u64 b 8) (16 * u16 b 2)
     let r := (List.range (u16 b 2)).foldl (fun (acc : Nat × Module) k =>
       let d := acc.2.deleteOne i (u32 pairs (16 * k)) (u64 pairs (16 * k + 8))
       (acc.1 + b2n d.1, d.2)) (0, s.m)
     Does (.boreDelete src) s ((r.2.await c [0xB0E, i, r.1, u16 b 2 - r.1]).deletesDone).boreShow.boreArbiters)) ∧
  (∀ (m : Module) (i node label : Nat) (x : BoreIndex) (rb : Bytes) (m1 m2 : Module), m.bore.indexes.get i = some x →
    (x.shard (node % 32)).offline = false → (x.shard (node % 32)).states.get (node / 32) = some 1 →
    m.boreFetch i (node % 32) (node / 32) = (some rb, m1) →
    (u64 rb 8 ≠ label → m.deleteOne i node label = (false, m1)) ∧
    (u64 rb 8 = label → m1.boreStore i (node % 32) (node / 32) (x.edit rb 2 (recNeighbours rb)) false = (m2, true) →
      m.deleteOne i node label = (true, (m2.updShard i (node % 32) (fun k =>
        { k with states := k.states.put (node / 32) 2 })).bump Reg.BORE.DELETES_COUNT))) ∧
  (∀ (s : State) (src : Src) (c : RunCmd) (i : Nat) (x : BoreIndex) (shards : List Nat), Fresh s src 0x0830 c →
    allZero c.payload 1 3 = true → i = u8 c.payload 0 → s.m.bore.indexes.get i = some x → x.ready = true →
    s.m.boreCopied i = false → s.m.ftl.readOnly = false →
    shards = (if u32 c.payload 4 = 0 then List.range 32 else setBitsOf 32 (u32 c.payload 4)).filter
      (fun k => !(x.shard k).offline) →
    (shards = [] → Does (.boreRepair src) s (s.m.ok c (leBytes 4 0))) ∧
    (shards ≠ [] → Does (.boreRepair src) s
      ((shards.foldl (fun (a : Module) k => a.startPass i k (some c.id)) (s.m.await c [0])).boreRun))) ∧
  (∀ (s : State) (id node corrected : Nat) (failed : Bool) (w : BoreWalk), s.m.live = true →
    s.m.bore.walks.get id = some w → w.reads.contains node = true →
    Does (.boreRecordArrival id node corrected failed) s
      (((s.m.boreMedia (w.places.get node) w.index (node / 32) corrected failed).boreExpand id node failed).boreDrop
        (w.places.get node) (((s.m.bore.indexes.get w.index).map (·.partition)).getD 8) w.shard).boreRun) ∧
  (∀ (m : Module) (id node : Nat) (w : BoreWalk) (x : BoreIndex) (rb : Bytes), m.bore.walks.get id = some w →
    m.bore.indexes.get w.index = some x → m.boreRecordAt (w.places.get node) w.index w.shard (node / 32) = some rb → x.recOk rb = true →
    (let d := distOf x.metric x.element x.dims w.vec (x.recVector rb)
     let h : BoreHit := ⟨d, node, u64 rb 8⟩
     let ok := recState rb == 1 && w.passes (u64 rb 0x10) && !(fp32.decode d).isNan
     ∃ w1, (m.boreExpand id node false).bore.walks.get id = some w1 ∧
       w1.found = (if ok then leastHits w.k (w.found ++ [h]) else w.found) ∧
       w1.reads = w.reads.filter (· != node) ∧ w1.expansions = w.expansions ∧
       (∀ n ∈ w.visited, n ∈ w1.visited) ∧ (∀ n ∈ recNeighbours rb, n ∈ w1.visited))) ∧
  (∀ (s : State) (i k : Nat) (x : BoreIndex), i < 16 → k < 32 → s.m.live = true → s.m.bore.indexes.get i = some x →
    x.ready = true → (x.shard k).offline = false → s.m.flag Reg.BORE.REPAIR_CTRL_AUTO = true → s.m.ftl.readOnly = false →
    s.m.boreCopied i = false → (∀ p ∈ s.m.bore.passes.vals, ¬(p.index = i ∧ p.shard = k)) →
    (let n (v : Nat) : Nat := ((x.shard k).states.vals.filter (· == v)).length
     0 < n 2 → s.m.get Reg.BORE.REPAIR_CTRL_TOMB_PCT * n 1 ≤ 100 * n 2 →
     Does (.repairPass i k) s (s.m.startPass i k none).boreRun)) ∧
  (∀ (s : State) (i k : Nat) (x : BoreIndex), i < 16 → k < 32 → s.m.live = true → s.m.bore.indexes.get i = some x →
    (x.shard k).opened = false →
    (let m0 := s.m.bumpBy Reg.BORE.SECTOR_READS_COUNT x.sectors
    ((∀ h, s.m.boreSector (shardExt i k) 0 = some h → headerOk h i k = false) →
      Does (.shardOpen i k) s
        ((((m0.updShard i k (fun r => { r with opened := true, offline := true })).set Reg.BORE.STATUS_SHARD_OFFLINE 1).event
          0x0802 x.partition 2 i k).finishCreates).boreShow.boreArbiters) ∧
    (∀ h, s.m.boreSector (shardExt i k) 0 = some h → headerOk h i k = true →
      (let recs := (m0.writtenRecords i k x).filterMap (fun r => (m0.boreRecord i k r).map (fun b => (r, b)))
       let live := recs.filter (fun p => decide (1 ≤ recState p.2) && decide (recState p.2 ≤ 3))
       let m1 := live.foldl (fun (a : Module) p =>
         if recState p.2 == 3 then (a.boreStore i k p.1 (x.edit p.2 2 (recNeighbours p.2)) false).1 else a) m0
       let states := live.foldl (fun (t : KMap Nat) p => t.put p.1 (if recState p.2 == 3 then 2 else recState p.2)) []
       let sketches := live.foldl (fun (t : KMap Bytes) p => t.put p.1 (x.recSketch p.2)) []
       let entries := (List.range (Min.min (u8 h 0x0F) 64)).map (fun j => u32 h (0x100 + 4 * j))
       Does (.shardOpen i k) s
         ((m1.updShard i k (fun _ => ⟨true, false, states, sketches, entries⟩)).finishCreates).boreShow.boreArbiters)))) ∧
  (∀ (k : Nat) (l : List BoreHit), (leastHits k l).length ≤ k ∧ ∀ h ∈ leastHits k l, h ∈ l)

/-- The flash layer's commands and events, and what a unit reads as once its write is accepted. FTL_HEALTH answers the report. A
flush leaves an unpaused channel with no change that no flush record holds, and a paused one as it was, its flush due;
FTL_FLUSH is OK once no flush is due. FTL_SCRUB answers the mapped sectors of its channels, is READ_ONLY on read-only flash,
and moves nothing. A write accepted on a channel takes the next WRITE_SEQ, reads back at once as written, and leaves every
other map entry as it was, and what it reads too where no flush ran and none names the place it takes. WRITE_ACCEPT lets
waiting writes enter in order and what waited for them go on. PROGRAM_COMPLETE programs the program unit of the oldest unit,
or retires its block; a copy takes the map entry only while that names its source. ERASE_COMPLETE gives the block back with
one more erase, or retires it. JOURNAL_FLUSH acts an interval after the last flush and writes a map segment.
GARBAGE_COLLECTION empties the block with the fewest mapped sectors; WEAR_MOVE a least-erased one when the spread is passed;
REFRESH a marked one. NAND_TEMP_SAMPLE sets temperatures and pauses. FTL_REBUILD runs once in a start. Rules: R290, R292,
R294, R296, R300, R302, R303, R304, R306, R308, R309, R310. -/
def Obligations.FlashKeepsWhatItAccepts : Prop :=
  (∀ (s : State) (src : Src) (c : RunCmd), Fresh s src 0x0900 c → Does (.ftlHealth src) s (s.m.ok c s.m.healthReport)) ∧
  (∀ (s : State) (src : Src) (c : RunCmd), Fresh s src 0x0901 c →
    Does (.ftlFlush src) s (((s.m.await c [0x295]).updCmd c.id (fun x => { x with body := [] })).flush.flushedCmds)) ∧
  (∀ (m : Module) (k : Nat), k < 32 →
    ((m.chan k).paused = false → (m.flush.chan k).changes = [] ∧ (m.flush.chan k).record.seq = m.ftl.nextSeq - 1) ∧
    ((m.chan k).paused = true → m.flush.chan k = m.chan k ∧ k ∈ m.flush.ftl.due)) ∧
  (∀ (s : State) (b : Nat) (c : RunCmd) (chans : List Nat), Fresh s (.mbox b) 0x0910 c → c.answered = false →
    allZero c.payload 4 4 = true → chans = (if u32 c.payload 0 = 0 then List.range 32 else setBitsOf 32 (u32 c.payload 0)) →
    ∃ t marked, exec (.ftlScrub (.mbox b)) s = .next t ∧
      ((t.m.box b).resp.map (fun r => (r.status, r.body))) =
        some ((if s.m.ftl.readOnly then Status.readOnly else Status.ok).code,
          leBytes 8 ((chans.flatMap (fun k => (s.m.mappedBlocks k).map (fun d => sectorsOf (s.m.mappedIn k d)))).foldl
            (· + ·) 0) ++ leBytes 4 marked) ∧
      t.m.ftl.frames = s.m.ftl.frames ∧ t.m.ftl.sectors = s.m.ftl.sectors ∧ t.m.ftl.extents = s.m.ftl.extents ∧
      (∀ k, (t.m.chan k).units.keys = (s.m.chan k).units.keys ∧
        (t.m.chan k).buffer.map (·.loc) = (s.m.chan k).buffer.map (·.loc)) ∧
      t.m.hbm = s.m.hbm ∧ t.m.lpddr = s.m.lpddr ∧ t.m.hostMem = s.m.hostMem ∧ t.m.caps.slots = s.m.caps.slots) ∧
  (∀ (m m0 m1 : Module) (k ext logical p : Nat) (content : FContent),
    m.placeOn k 0 content.sectors = some (p, m0) → m.ftlAcceptOn k ext logical content = some m1 →
    (∀ u ∈ (m.chan k).buffer, u.loc ≠ p) →
    m1.ftlRead ext logical = some content ∧ m1.ftl.nextSeq = m.ftl.nextSeq + 1 ∧
    m1.get Reg.FTL.WRITE_SEQ_NEXT = (m.ftl.nextSeq + 1) % 2 ^ 64 ∧
    ∀ e l, (e, l) ≠ (ext, logical) → m1.ftlLoc e l = m.ftlLoc e l ∧
      (((m.chan k).place 0 content.sectors).isSome = true → m.ftlLoc e l ≠ some (k, p) →
        m1.ftlRead e l = m.ftlRead e l)) ∧
  (∀ (s : State) (k : Nat), k < 32 → s.m.live = true → Does (.writeAccept k) s
    (writeAccept k (s.m.chan k).waiting.length s.m).finishMoves.deletesDone.boreRun) ∧
  (∀ (m : Module) (k n : Nat) (w : FWait) (rest : List FWait), (m.chan k).waiting = w :: rest → m.ftl.holdup = false →
    m.ftl.readOnly = false →
    (let m0 := m.setChan k { m.chan k with waiting := rest }
     (∀ m1, m0.ftlAcceptOn k w.ext w.logical w.content = some m1 → writeAccept k (n + 1) m = writeAccept k n m1) ∧
     (m0.ftlAcceptOn k w.ext w.logical w.content = none → writeAccept k (n + 1) m = m))) ∧
  (∀ (s : State) (k : Nat) (u : FUnit) (rest : List FUnit), k < 32 → s.m.live = true → (s.m.chan k).buffer = u :: rest →
    (s.m.chan k).paused = false →
    (let here (v : FUnit) : Bool := programUnit v.loc == programUnit u.loc
     let us := (s.m.chan k).buffer.filter here
     let pad (p : Option Nat) : Option Nat := p.map (fun q => if programUnit q == programUnit u.loc then roundUp q 32 else q)
     let x := { s.m.chan k with client := pad (s.m.chan k).client, copies := pad (s.m.chan k).copies }
     let left := s.m.setChan k { x with buffer := x.buffer.filter (fun v => !here v) }
     let done := { left with ftl := { left.ftl with
       life := { left.ftl.life with nandSectors := left.ftl.life.nandSectors + 32 } } }
     let torn := s.m.setChan k { x with
       units := us.foldl (fun t v => t.put v.loc { v with torn := true }) x.units, programFails := x.programFails + 1 }
     let failed := { torn with ftl := { torn.ftl with
       life := { torn.ftl.life with programFails := torn.ftl.life.programFails + 1 } } }
     Does (.programComplete k true) s
       (((us.foldl (Module.programmed k) (done.bumpBy Reg.FTL.NAND_SECTORS_COUNT 32)).emptied k).boreArbiter k) ∧
     Does (.programComplete k false) s
       ((((failed.bump Reg.FTL.PROGRAM_FAILS_COUNT).retireBlock k (u.loc / 8192)).replace k (u.loc / 8192)).boreArbiter k))) ∧
  (∀ (m : Module) (k : Nat) (u : FUnit),
    (let m1 := m.programmed k u
     (m1.chan k).units.get u.loc = some u ∧
     (∀ f, u.copyOf = some f → m1.ftlLoc u.ext u.logical =
       if m.ftlLoc u.ext u.logical = some (k, f) then some (k, u.loc) else m.ftlLoc u.ext u.logical) ∧
     (u.copyOf = none → m1.ftlLoc u.ext u.logical = m.ftlLoc u.ext u.logical) ∧
     (∀ e l, (e, l) ≠ (u.ext, u.logical) → m1.ftlLoc e l = m.ftlLoc e l))) ∧
  (∀ (s : State) (k b : Nat), k < 32 → s.m.live = true → b ∈ (s.m.chan k).erasing → (s.m.chan k).collecting = none →
    (let x1 := { s.m.chan k with
       erasing := (s.m.chan k).erasing.erase b, units := (s.m.chan k).units.keep (fun l _ => l / 8192 != b) }
     Does (.eraseComplete k b true) s ((((s.m.setChan k (x1.setBlock b (fun d =>
       { d with erases := d.erases + 1, inUse := false, marked := false }))).bump Reg.FTL.ERASES_COUNT).changeNow k 0xFFFF 3
       b).gcStatus) ∧
     (let m1 := s.m.setChan k x1
      let life := { s.m.ftl.life with eraseFails := s.m.ftl.life.eraseFails + 1 }
      Does (.eraseComplete k b false) s
        ((({ m1 with ftl := { m1.ftl with life := life } }).bump Reg.FTL.ERASE_FAILS_COUNT).retireBlock k b).gcStatus))) ∧
  (∀ s : State, s.m.live = true →
    DoesAt .journalFlush s (s.m.ftl.lastFlush + 1000 * s.m.get Reg.FTL.JOURNAL_CTRL_INTERVAL_US)
      (fun m => (m.flush.writeSegment).flushedCmds)) ∧
  (∀ (s : State) (k b : Nat), k < 32 → s.m.live = true → s.m.ftl.readOnly = false → s.m.ftl.holdup = false →
    s.m.secur.restart = none → (s.m.chan k).paused = false → (s.m.chan k).freeBlocks < s.m.get Reg.FTL.GC_CTRL_FREE_LOW →
    (∀ d, (s.m.chan k).collecting = some d → d ∉ (s.m.chan k).emptying ∧ d ∉ (s.m.chan k).erasing) →
    leastBlock (fun d => [sectorsOf (s.m.mappedIn k d), ((s.m.chan k).block d).erases, d])
      ((s.m.chan k).blocks.keys.filter (s.m.chan k).movable) = some b →
    Does (.garbageCollection k) s
      ((s.m.setChan k { s.m.chan k with collecting := some b }).moveOut k b).gcStatus) ∧
  (∀ (f : Nat → Nat) (bs : List Nat) (b : Nat), leastBlock (fun d => [f d, d]) bs = some b →
    b ∈ bs ∧ ∀ d ∈ bs, f b < f d ∨ (f b = f d ∧ b ≤ d)) ∧
  (∀ (s : State) (k b : Nat), k < 32 → s.m.live = true → s.m.ftl.readOnly = false → s.m.ftl.holdup = false →
    (s.m.chan k).paused = false → s.m.get Reg.FTL.WEAR_CTRL_SPREAD < (s.m.chan k).eraseMax - (s.m.chan k).eraseMin →
    leastBlock (fun d => [d]) ((s.m.chan k).blocks.keys.filter (fun d => (s.m.chan k).movable d &&
      ((s.m.chan k).block d).erases == (s.m.chan k).eraseMin)) = some b →
    Does (.wearMove k) s (s.m.moveOut k b)) ∧
  (∀ (s : State) (k b : Nat), k < 32 → s.m.live = true → s.m.ftl.readOnly = false → s.m.ftl.holdup = false →
    (s.m.chan k).paused = false → ((s.m.chan k).block b).marked = true → (s.m.chan k).movable b = true →
    Does (.refresh k b) s ((s.m.moveOut k b).bump Reg.FTL.REFRESHES_COUNT)) ∧
  (∀ (s : State) (temps : List Int), s.m.live = true → temps.length = 32 → (∀ t ∈ temps, -128 ≤ t ∧ t ≤ 127) →
    ∃ t, exec (.nandTempSample temps) s = .next t ∧ t.pending = s.pending ∧
      t.m.clk = (s.m.advanceTo (s.m.ftl.lastTemp + 1000000000)).clk ∧ t.m.ftl.lastTemp = t.m.clk.mono ∧
      t.m.ftl.frames = s.m.ftl.frames ∧ t.m.ftl.sectors = s.m.ftl.sectors ∧ t.m.hbm = s.m.hbm ∧ t.m.caps = s.m.caps ∧
      (∀ k (h : k < temps.length),
        (t.m.chan k).temp = temps[k] ∧ (k ∉ s.m.ftl.due → (t.m.chan k).units = (s.m.chan k).units) ∧
        (t.m.chan k).throttled = decide ((s.m.get Reg.FTL.TEMP_CTRL_THROTTLE_C : Int) < temps[k]) ∧
        (t.m.chan k).paused = (decide (90 < temps[k]) ||
          ((s.m.chan k).paused && decide ((s.m.get Reg.FTL.TEMP_CTRL_THROTTLE_C : Int) < temps[k]))))) ∧
  (∀ (s : State) (ok : Bool), s.m.live = true →
    (s.m.power.rebuilt = true → Idle (.ftlRebuild ok) s) ∧
    (s.m.power.rebuilt = false →
      Does (.ftlRebuild ok) s (ftlRebuild ok { s.m with power := { s.m.power with rebuilt := true } })))

/-- The mirror engine's commands, heartbeats, silences, leases and lanes. For fresh commands whose fields pass. MIRROR_PAIR is
BUSY in RESYNC, PAIRED and LINK_DOWN; SOLO makes an UNPAIRED module LOST; PAIR sends HELLO and waits. MIRROR_STATUS answers
the engine's state. MIRROR_HANDOVER sends the lease and waits; BUSY outside PAIRED. MIRROR_CLAIM and MIRROR_TAKEOVER act
only in LOST, and are DENIED elsewhere. MIRROR_FENCE with NOW sends its note and fences; with DRAIN it waits. MIRROR_RESYNC
makes a PAIRED module the source. In the running module: heartbeats leave at their periods, on the link and to the partner's
endpoint, and an ACK that is due leaves. LINK_SILENT_MS without a record brings LINK_DOWN; NET_SILENT_MS more without a
network heartbeat brings LOST, or FENCED with every port down. A network heartbeat of the partner fences module 1 in
LINK_DOWN. A lapsed lease asks the partner once. A held write goes on if this module owns the capsule, and is DENIED
otherwise. Lost lanes stop the link; retraining sets 16, 8 or no lanes. A time bound answers TIMEOUT. Rules: R312, R316,
R322, R323, R325, R326, R327, R334, R335, R336, R337, R338. -/
def Obligations.MirrorCommandsAct : Prop :=
  (∀ (s : State) (src : Src) (c : RunCmd), Fresh s src 0x0A00 c → allZero c.payload 1 7 = true → u8 c.payload 0 ≤ 1 →
    (s.m.mirror.state ∈ [2, 3, 4] → Does (.mirrorPair src) s (s.m.fail c .busy)) ∧
    (s.m.mirror.pairCmd = none →
      (u8 c.payload 0 = 1 → s.m.mirror.state = 0 → Does (.mirrorPair src) s (s.m.enterLost.ok c [])) ∧
      (u8 c.payload 0 = 0 → s.m.mirror.state ∈ [0, 5, 6] → Does (.mirrorPair src) s
        ((({ s.m with mirror := { s.m.mirror with expect := u64 c.payload 8, pairCmd := some c.id } }).await c []).sendHello
          false)))) ∧
  (∀ (s : State) (src : Src) (c : RunCmd), Fresh s src 0x0A01 c → Does (.mirrorStatus src) s
    (s.m.ok c (leBytes 1 s.m.mirror.state ++ leBytes 1 s.m.mirror.linkId ++ leBytes 1 s.m.mirror.lanes ++ zeros 1 ++
      leBytes 4 s.m.mirror.epoch ++ leBytes 8 s.m.mirror.partnerSerial ++ leBytes 4 s.m.mirror.txNext ++
      leBytes 4 s.m.mirror.txAcked ++ leBytes 4 s.m.mirror.rxApplied ++
      leBytes 4 (s.m.mirror.queue.length + s.m.mirror.syncing.length) ++
      (List.range 8).flatMap (fun p => leBytes 4 (s.m.get (Reg.MIRROR.MARK_ACKED_STEP.at 8 p)))))) ∧
  (∀ (s : State) (src : Src) (c : RunCmd) (id : Nat) (k : Capsule), Fresh s src 0x0A10 c → allZero c.payload 4 4 = true →
    id = u32 c.payload 0 → id % 256 ≠ 255 → s.m.capsule id = some k →
    (s.m.owns k = false → Does (.mirrorHandover src) s (s.m.fail c .denied)) ∧
    (s.m.owns k = true → s.m.mirror.state ≠ 3 → Does (.mirrorHandover src) s (s.m.fail c .busy)) ∧
    (s.m.owns k = true → MayWrite s.m c k → (k.state = 1 ∨ k.state = 4) → s.m.mirror.state = 3 →
      (let m1 := (unheld c s.m).updCap id (fun q => { q with
         owner := 1 - s.m.mirror.linkId, epoch := (q.epoch + 1) % 2 ^ 32, expiry := s.m.newExpiry, settled := false })
       let q := m1.slot (id / 256)
       let m2 := m1.send 0x0D k.partition 0 0 id q.epoch 0 (q.bytes (id / 256))
       Does (.mirrorHandover src) s (({ m2 with mirror := { m2.mirror with
         leaseOps := m2.mirror.leaseOps ++ [(LeaseOp.mk id s.m.mirror.txNext (some c.id) false)] } }).await c [])))) ∧
  (∀ (s : State) (src : Src) (c : RunCmd) (id : Nat) (k : Capsule), Fresh s src 0x0A11 c → allZero c.payload 4 4 = true →
    id = u32 c.payload 0 → id % 256 ≠ 255 → s.m.capsule id = some k →
    (s.m.mirror.state ≠ 5 → Does (.mirrorClaim src) s (s.m.fail c .denied)) ∧
    (s.m.mirror.state = 5 → s.m.owns k = false → Does (.mirrorClaim src) s ((s.m.claim id 0).ok c []))) ∧
  (∀ (s : State) (src : Src) (c : RunCmd), Fresh s src 0x0A12 c →
    (s.m.mirror.state ≠ 5 → Does (.mirrorTakeover src) s (s.m.fail c .denied)) ∧
    (s.m.mirror.state = 5 → Does (.mirrorTakeover src) s (s.m.takeover.ok c []))) ∧
  (∀ (s : State) (src : Src) (c : RunCmd), Fresh s src 0x0A20 c → allZero c.payload 1 7 = true → u8 c.payload 0 ≤ 1 →
    (s.m.mirror.state ∈ [0, 6] → Does (.mirrorFence src) s (s.m.fail c .busy)) ∧
    (s.m.mirror.state ∉ [0, 6] →
      (u8 c.payload 0 = 1 → Does (.mirrorFence src) s (((s.m.send 0x15 0xFF 0 0 capNone 1 0 []).enterFenced).ok c [])) ∧
      (u8 c.payload 0 = 0 → s.m.mirror.draining = false → Does (.mirrorFence src) s
        ((({ s.m with mirror := { s.m.mirror with draining := true, fenceCmd := some c.id } }).await c []).drainOn)))) ∧
  (∀ (s : State) (src : Src) (c : RunCmd), Fresh s src 0x0A21 c → allZero c.payload 1 7 = true → u8 c.payload 0 ≤ 1 →
    (s.m.mirror.state ≠ 3 → Does (.mirrorResync src) s (s.m.fail c .busy)) ∧
    (s.m.mirror.state = 3 → s.m.mirror.queue = [] → Does (.mirrorResync src) s
      ((s.m.startResync (u8 c.payload 0 == 1) false).ok c []))) ∧
  (∀ s : State, s.m.live = true →
    DoesAt .linkHeartbeatTick s (s.m.mirror.lastTick + 1000 * s.m.get Reg.MIRROR.HB_LINK_HB_US) (fun m =>
      let arg := m.clk.now % 2 ^ 32
      let m1 := m.sendRaw 0x11 0 (m.mirror.state + m.mirror.epoch % 2 ^ 24 * 2 ^ 8) arg []
      let beats := m1.mirror.beats ++ [(arg, m.clk.mono)]
      let m2 := { m1 with mirror := { m1.mirror with lastTick := m.clk.mono, beats := beats.drop (beats.length - 16) } }
      m2.sendAck.drainOn) ∧
    (s.m.mirror.ackDue = true → Does .ackSendTick s s.m.sendAck) ∧
    (∀ e, s.m.ownEndpoint 5 0xFF s.m.mirror.partnerSerial = some e →
      DoesAt .netHeartbeatTick s (s.m.mirror.lastNetTick + 1000000 * s.m.get Reg.MIRROR.HB_NET_HB_MS) (fun m =>
        let m1 := { m with mirror := { m.mirror with lastNetTick := m.clk.mono } }
        m1.sessPut e.endpoint (((m.ownEndpoint 5 0xFF ownSerial).map (·.endpoint)).getD 0) 16 8 capNone
          (leBytes 1 m.mirror.state ++ leBytes 1 m.mirror.linkId ++ zeros 2 ++ leBytes 4 m.mirror.epoch ++
            leBytes 8 ownSerial ++ leBytes 8 m.clk.now))) ∧
    ((s.m.mirror.state = 2 ∨ s.m.mirror.state = 3) →
      DoesAt .linkSilent s (s.m.mirror.lastRecord + 1000000 * s.m.get Reg.MIRROR.HB_LINK_SILENT_MS) (fun m =>
        ({ m with mirror := { m.mirror with before := m.mirror.state, state := 4 } }).bump Reg.MIRROR.LINK_DOWNS_COUNT)) ∧
    (s.m.mirror.state = 4 →
      DoesAt .netSilent s (s.m.mirror.lastNet + 1000000 * s.m.get Reg.MIRROR.HB_NET_SILENT_MS)
        (fun m => if m.etherDown then m.enterFenced else m.enterLost))) ∧
  (∀ (s : State) (f : SessFrame) (m1 : Module) (e : MapEntry), s.m.live = true → s.m.ingress 8 (trimFrame f) = (m1, true) →
    24 ≤ (trimFrame f).body.length → m1.endpoint (trimFrame f).src = some e → e.kind = 5 → e.serial = m1.mirror.partnerSerial →
    (let m2 := { m1 with mirror := { m1.mirror with lastNet := m1.clk.mono, netPartnerState := u8 (trimFrame f).body 0 } }
     (m1.mirror.state ≠ 4 → Does (.netHeartbeat f) s m2) ∧
     (m1.mirror.state = 4 → m1.mirror.linkId = 1 → Does (.netHeartbeat f) s m2.enterFenced) ∧
     (m1.mirror.state = 4 → m1.mirror.linkId ≠ 1 →
       (u8 (trimFrame f).body 0 = 6 → Does (.netHeartbeat f) s m2.enterLost) ∧
       (u8 (trimFrame f).body 0 ≠ 6 → Does (.netHeartbeat f) s m2)))) ∧
  (∀ (s : State) (id : Nat) (k : Capsule), s.m.live = true → s.m.capsule id = some k → s.m.lapsed k = true →
    s.m.mirror.state ∈ [2, 3, 4] → s.m.mirror.asked.contains id = false →
    (let m1 := s.m.send 0x0E 0xFF 0 0 id 0 0 (k.bytes (id / 256))
     Does (.leaseLapse id) s { m1 with mirror := { m1.mirror with asked := m1.mirror.asked ++ [id] } })) ∧
  (∀ (s : State) (h : HeldWrite) (c : RunCmd), s.m.live = true → s.m.mirror.held.find? (fun x => x.cmd == c.id) = some h →
    s.m.mirror.state ≠ 4 → c.id < 2 ^ 64 → s.m.host.running.find? (fun x => x.id == c.id) = some c →
    DoesAt (.heldWriteTimeout c.id) s (h.since + 2 * (1000000 * s.m.get Reg.MIRROR.LEASE_LEASE_MS)) (fun m =>
      let m1 := unheld c m
      if ((m.capsule h.capsule).map m.owns).getD false then m1.updCmd c.id (fun x => { x with tries := 1 })
      else m1.fail c .denied)) ∧
  (∀ (s : State) (n : Nat), s.m.live = true → n < 16 → Does (.laneFailure n) s
    { s.m with mirror := { s.m.mirror with lanesLost := s.m.mirror.lanesLost ||| 2 ^ n, lanes := 0 } }) ∧
  (∀ (s : State) (lost n : Nat), s.m.live = true → lost < 2 ^ 16 →
    n = (if lost = 0 then 16 else if lost % 256 = 0 ∨ lost / 256 = 0 then 8 else 0) →
    (let m1 := ({ s.m with mirror := { s.m.mirror with lanesLost := lost, lanes := n } }).set
       Reg.MIRROR.STATUS_LANE_DEGRADED (b2n (n == 8))
     (n = 0 → Does (.partnerLinkRetrained lost) s m1) ∧
     (n ≠ 0 → (s.m.mirror.state = 2 ∨ s.m.mirror.state = 3) → Does (.partnerLinkRetrained lost) s m1.sendReplay) ∧
     (n ≠ 0 → (s.m.mirror.state = 5 ∨ s.m.mirror.state = 6) →
       Does (.partnerLinkRetrained lost) s (m1.sendHello false)))) ∧
  (∀ (s : State) (src : Src) (c : RunCmd) (b : Nat), s.m.live = true → s.m.cmdOf src = some c → c.stage = .waiting →
    s.m.bound c = some b → DoesAt (.commandTimeBoundExpiry src) s (c.start + b) (fun m => m.answerTimeout c))

/-- What each mirror record does to the partner that receives it. On a link with lanes, a record whose CHECK fails is discarded,
counted, and a replay asked for. In RESYNC and PAIRED, a sequenced record of any kind whose SEQ is the next takes its
effect, becomes the last one applied, is counted, and sets its capsule's MIRROR_SEQ; an earlier one does nothing, and the
first of later ones asks for a replay. A record that names a capsule this module does not hold is refused with STALE_HANDLE.
A HEADER, ENTRY, TEXT, ACCOUNT, OUTPUT or INPUT record with a STEP is held. Outside a step: TRUNCATE cuts the copy, INPUT
appends its tokens or with RESET replaces, ENTRY stores the entry and drops the fed tokens, TEXT stores the text, STEP_MARK
takes the step's held records, COMMIT_NOTE discards the held output, CLAIM with a later epoch moves the lease, SLOT_REQUEST
reserves a slot and grants it, FENCE_NOTE makes the receiver LOST. A HEARTBEAT is noted and echoed, an ACK is taken, a
REPLAY sends records again, and a HELLO is answered. Rules: R315, R316, R318, R320, R321, R323, R324, R327, R332, R333,
R579. -/
def Obligations.MirrorRecordsTakeEffect : Prop :=
  (∀ (p : Nat × (MirrorRec → Instr)),
    p ∈ ([(0x01, .recSlots), (0x02, .recCopyShared), (0x03, .recHeader), (0x04, .recTruncate), (0x05, .recEntry), (0x06, .recText),
      (0x07, .recAccount), (0x08, .recPrefix), (0x09, .recOutput), (0x0A, .recStepMark), (0x0B, .recCommitNote),
      (0x0C, .recClaim), (0x0D, .recHandover), (0x0E, .recLeaseQuery), (0x0F, .recSlotRequest), (0x10, .recSlotGrant),
      (0x14, .recResyncTile), (0x15, .recFenceNote), (0x16, .recRefuse), (0x18, .recInput), (0x19, .recReservedKind)]
      : List (Nat × (MirrorRec → Instr))) →
    ∀ (s : State) (r x : MirrorRec), s.m.live = true → s.m.mirror.lanes ≠ 0 → r.kind = p.1 → x = s.m.plain r →
      x.body.length ≤ 131072 →
      (let m0 := { s.m with mirror := { s.m.mirror with lastRecord := s.m.clk.mono } }
       let next := (s.m.mirror.rxApplied + 1) % 2 ^ 32
       (x.check ≠ recCrc x →
         Does (p.2 r) s m0.checkFails ∧ Does (.mirrorRecordCheckFail r) s m0.checkFails) ∧
       (x.check = recCrc x → (s.m.mirror.state = 2 ∨ s.m.mirror.state = 3) →
         (x.seq = next →
           Does (p.2 r) s ((((({ m0 with mirror := { m0.mirror with rxApplied := next, rxGap := false, ackDue := true } } :
             Module).applyRec x).noteSeq x).bump Reg.MIRROR.RECORDS_RX_COUNT))) ∧
         (x.seq ≠ next → serialUnordered x.seq next = false →
           (serialLater x.seq next = false → Does (p.2 r) s m0) ∧
           (serialLater x.seq next = true → s.m.mirror.rxGap = true → Does (p.2 r) s m0) ∧
           (serialLater x.seq next = true → s.m.mirror.rxGap = false →
             Does (p.2 r) s ({ m0 with mirror := { m0.mirror with rxGap := true } } : Module).sendReplay))))) ∧
  (∀ (m : Module) (r : MirrorRec), r.capsule ≠ capNone → m.capsule r.capsule = none →
    r.kind ∈ [0x01, 0x02, 0x04, 0x06, 0x0C, 0x0D, 0x0E, 0x14, 0x18] →
    m.applyRec r = (m.send 0x16 r.partition 0 0 r.capsule r.seq Status.stale.code []).event 0x0A02 0xFF 1 r.kind r.seq) ∧
  (∀ (m : Module) (r : MirrorRec), m.contested r = false → r.step ≠ 0 →
    ((m.capsule r.capsule).isSome = true ∨ (r.capsule = capNone ∧ r.kind ≠ 3)) →
    r.kind ∈ [0x03, 0x05, 0x06, 0x07, 0x09, 0x18] →
    m.applyRec r = { m with mirror := { m.mirror with pend := m.mirror.pend ++ [r] } }) ∧
  (∀ (m : Module) (r : MirrorRec) (k : Capsule), m.contested r = false → m.capsule r.capsule = some k → r.capsule ≠ capNone →
    (r.kind = 0x04 → m.applyRec r = m.truncateTo r.capsule (Min.min r.arg0 (m.slot (r.capsule / 256)).tokens)) ∧
    (r.kind = 0x18 → r.step = 0 → r.body.length = 4 * bits r.arg1 15 0 →
      (let toks := (List.range (bits r.arg1 15 0)).map (fun i => u32 r.body (4 * i))
       let old := (m.mirror.shadow.getD r.arg0 Shadow.blank).input
       ∃ x, (m.applyRec r).mirror.shadow.get r.arg0 = some x ∧
         x.input = (if bit r.arg1 31 then toks else old ++ toks) ∧
         ∀ j, j ≠ r.arg0 → (m.applyRec r).mirror.shadow.get j = m.mirror.shadow.get j)) ∧
    (r.kind = 0x05 → r.step = 0 → r.body.length = 64 → u8 r.body 4 ≠ 0 →
      ∀ x0, m.mirror.shadow.get r.arg0 = some x0 → x0.entry ≠ [] → u32 x0.entry 0 = u32 r.body 0 → x0.fresh = false →
        (m.applyRec r).mirror.shadow.get r.arg0 = some { x0 with
          entry := r.body, input := x0.input.drop ((r.arg1 + 2 ^ 32 - x0.count % 2 ^ 32) % 2 ^ 32), count := r.arg1 }) ∧
    (r.kind = 0x06 → r.step = 0 → r.body.length = 128 → ∀ x0, m.mirror.shadow.get r.arg0 = some x0 →
      (m.applyRec r).mirror.shadow.get r.arg0 = some { x0 with text := r.body }) ∧
    (r.kind = 0x0C → serialLater r.arg0 k.epoch = true → serialUnordered r.arg0 k.epoch = false → m.owns k = false →
      m.applyRec r = m.updCap r.capsule (fun q =>
        { q with owner := r.arg1 % 2, epoch := r.arg0, settled := true, mirrorSeq := r.seq })) ∧
    (r.kind = 0x0D → serialUnordered r.arg0 k.epoch = false → serialLater r.arg0 k.epoch = false →
      m.applyRec r = m.send 0x0E 0xFF 0 0 r.capsule 0 0 (k.bytes (r.capsule / 256)))) ∧
  (∀ (m : Module) (r : MirrorRec),
    (r.kind = 0x0A →
      (let mine := m.mirror.pend.filter (fun x => x.partition == r.partition && x.step == r.step)
       let rest := m.mirror.pend.filter (fun x => !(x.partition == r.partition && x.step == r.step))
       let m2 := mine.foldl (fun (a : Module) x => a.applyPend x) { m with mirror := { m.mirror with pend := rest } }
       let outs := mine.filter (fun x => x.kind == 0x09)
       let m3 := (outs.flatMap (fun x => parseOuts (x.body.length + 1) x.body)).foldl (fun (a : Module) o =>
         match o.tokens.getLast? with
         | some t => if bit o.flags 0 then a else a.updShadow o.request (fun y => { y with input := y.input ++ [t] })
         | none => a) m2
       m.applyRec r = { m3 with mirror := { m3.mirror with
         outs := m3.mirror.outs ++ outs.map (fun x => (x.partition, x.step, x.body)) } })) ∧
    (r.kind = 0x0B → (∀ o ∈ m.mirror.outs, o.1 = r.partition → serialUnordered r.step o.2.1 = false) → m.applyRec r = { m with mirror := { m.mirror with
      outs := m.mirror.outs.filter (fun o => !(o.1 == r.partition && serialGE r.step o.2.1)) } }) ∧
    (r.kind = 0x0F → ∀ k, m.freeSlotOf m.mirror.linkId = some k →
      m.applyRec r = ({ m with caps := { m.caps with grants := m.caps.grants ++ [k] } } : Module).send 0x10 0xFF 0 0 capNone
        r.arg0 k []) ∧
    (r.kind = 0x15 → m.applyRec r = m.enterLost) ∧
    (r.kind = 0x19 → m.applyRec r = m.event 0x0A02 0xFF 1 r.kind r.seq)) ∧
  (∀ (s : State) (r x : MirrorRec) (keys : List Nat), s.m.live = true → s.m.mirror.lanes ≠ 0 → x = s.m.plain r →
    x.check = recCrc x → x.body.length ≤ 131072 →
    (let m0 := { s.m with mirror := { s.m.mirror with lastRecord := s.m.clk.mono } }
     (r.kind = 0x11 →
       (let m1 := { m0 with mirror := { m0.mirror with lastBeat := s.m.clk.mono, lastBeatArg := x.arg1, ackDue := true } }
        (s.m.mirror.state ∈ [0, 3, 5, 6] → Does (.recHeartbeat r) s m1) ∧
        (s.m.mirror.state = 4 → bits x.arg0 31 8 = s.m.mirror.epoch % 2 ^ 24 → Does (.recHeartbeat r) s m1.linkBack) ∧
        (s.m.mirror.state = 2 → s.m.mirror.source = false → bits x.arg0 2 0 = 3 →
          Does (.recHeartbeat r) s (m1.pairedAs 3).lateMarks))) ∧
     (r.kind = 0x12 → (s.m.mirror.state = 2 ∨ s.m.mirror.state = 3) → Does (.recAck r) s (takeAck x m0)) ∧
     (r.kind = 0x13 → serialUnordered x.arg0 s.m.mirror.txNext = false → Does (.recReplay r) s
       ((s.m.mirror.sent.filter (fun y => serialGE y.seq x.arg0)).foldl (fun (a : Module) y => a.transmit (a.again y)) m0)) ∧
     (r.kind = 0x17 → x.body.length = 64 →
       ((s.m.mirror.state = 0 ∨ s.m.mirror.state = 5 ∨ s.m.mirror.state = 6) → Does (.recHello r keys) s (m0.hello x keys)) ∧
       (s.m.mirror.state = 4 → u8 x.body 9 = 0 → Does (.recHello r keys) s (m0.enterLost.hello x keys))))) ∧
  (∀ (m : Module) (r : MirrorRec) (keys : List Nat), bit r.flags 0 = true → u8 r.body 8 = m.mirror.linkId →
    (m.hello r keys).mirror.state = m.mirror.state ∧ (m.hello r keys).flag Reg.MIRROR.STATUS_ID_CONFLICT = true)

/-- Destinations, checkpoints, warnings and restores. For fresh commands whose fields pass. CKPT_TARGET_SET registers a LOCAL,
HOST or REMOTE destination; BUSY while a checkpoint uses it. CKPT_TAKE starts a checkpoint, and is BUSY while one runs.
CKPT_ABORT ends the running one, its command with TIMEOUT; with none it is BAD_FIELD. CKPT_RELEASE drops every LOCAL
checkpoint. CKPT_RESTORE reads its destination; a manifest whose signature fails is DENIED and changes nothing else. In the
running module: CHECKPOINT_CUT takes the cut when no step is published; CUT_WAIT_EXPIRY ends the checkpoint with TIMEOUT.
CHECKPOINT_COPY_COMPLETE moves to SEALING when the destination answers, MANIFEST_WRITE_COMPLETE seals it with LAST_ID, and
DESTINATION_TIMEOUT abandons it. FAILURE_WARNING above the threshold counts, marks and records the source, and starts a
checkpoint when AUTO and HOLDOFF_S allow; not above it nothing happens. A stream's records stand in the shards in order,
each whole in one shard, and no shard passes 256 MiB. Rules: R342, R344, R345, R346, R347, R351, R352, R353, R354, R358,
R359, R360. -/
def Obligations.CheckpointsAreTakenAndRestored : Prop :=
  (∀ (s : State) (src : Src) (c : RunCmd) (b : Bytes), Fresh s src 0x0B00 c → b = c.payload → allZero b 2 2 = true →
    allZero b 0x1C 4 = true → u8 b 0 < 8 → u64 b 0x10 ≠ 0 →
    (u8 b 1 = 0 → u32 b 4 = 0 → u64 b 8 = 0 → u32 b 0x18 = 0 →
      (∀ r, s.m.ckpt.run = some r → r.target = u8 b 0 → Does (.ckptTargetSet src) s (s.m.fail c .busy)) ∧
      ((∀ r, s.m.ckpt.run = some r → r.target ≠ u8 b 0) →
        (s.m.localExtents (u64 b 0x10) = none → Does (.ckptTargetSet src) s (s.m.fail c .noSpace)) ∧
        (∀ es m1, s.m.localExtents (u64 b 0x10) = some (es, m1) →
          Does (.ckptTargetSet src) s ((m1.setTarget (u8 b 0) ⟨0, 0, 0, u64 b 0x10, 0, es, none⟩).ok c [])))) ∧
    ((∀ r, s.m.ckpt.run = some r → r.target ≠ u8 b 0) →
      (u8 b 1 = 1 → u32 b 4 = 0 → u32 b 0x18 = 0 → s.m.host.linkUp = true → s.m.host.d3hot = false →
        ∀ es, es = extentList (s.m.cmdRead c (u64 b 8) 256) → extentsOk es = true →
          u64 b 0x10 ≤ es.foldl (fun a e => a + e.2) 0 →
          Does (.ckptTargetSet src) s ((s.m.setTarget (u8 b 0) ⟨1, 0, u64 b 8, u64 b 0x10, 0, es, none⟩).ok c [])) ∧
      (u8 b 1 = 2 →
        ((∀ e, s.m.endpoint (u32 b 4) = some e → e.kind ≠ 6) → Does (.ckptTargetSet src) s (s.m.fail c .denied)) ∧
        (∀ e, s.m.endpoint (u32 b 4) = some e → e.kind = 6 → Does (.ckptTargetSet src) s
          ((s.m.setTarget (u8 b 0) ⟨2, u32 b 4, u64 b 8, u64 b 0x10, u32 b 0x18, [], none⟩).ok c []))))) ∧
  (∀ (s : State) (src : Src) (c : RunCmd) (b : Bytes) (t : CkTarget), Fresh s src 0x0B10 c → b = c.payload →
    allZero b 3 1 = true → allZero b 6 2 = true → u8 b 0 < 8 → s.m.ckpt.targets.get (u8 b 0) = some t → u8 b 1 ≤ 1 →
    (∀ p ∈ setBitsOf 8 (u8 b 2), s.m.present p = true) → (t.kind = 0 → u16 b 4 = 0) →
    (∀ i ∈ setBitsOf 16 (u16 b 4), s.m.bore.indexes.has i = true) →
    (s.m.ckpt.run.isSome = true → Does (.ckptTake src) s (s.m.fail c .busy)) ∧
    (s.m.ckpt.run = none →
      (t.kind = 0 → s.m.ftl.readOnly = true → Does (.ckptTake src) s (s.m.fail c .readOnly)) ∧
      ((t.kind ≠ 0 ∨ s.m.ftl.readOnly = false) → Does (.ckptTake src) s
        ((s.m.await c []).ckptStart (some c.id) (u8 b 0) (u8 b 1) (u8 b 2) (u16 b 4) 0)))) ∧
  (∀ (s : State) (src : Src) (c : RunCmd), Fresh s src 0x0B11 c →
    (s.m.ckpt.run = none → Does (.ckptAbort src) s (s.m.complete c .badField [] noDetail)) ∧
    (s.m.ckpt.run.isSome = true → Does (.ckptAbort src) s ((s.m.ckptEnds .timeout).ok c []))) ∧
  (∀ (s : State) (src : Src) (c : RunCmd), Fresh s src 0x0B12 c →
    (s.m.ckpt.run.isSome = true → Does (.ckptRelease src) s (s.m.fail c .busy)) ∧
    (s.m.ckpt.run = none →
      (let es := s.m.ckpt.local_.flatMap (fun l => l.extents.map (·.1))
       let ts := s.m.ckpt.targets.mapV (fun _ t => if t.kind == 0 then { t with used := none } else t)
       let m1 := { s.m with ckpt := { s.m.ckpt with local_ := [], targets := ts } }
       Does (.ckptRelease src) s ((((m1.dropSectors es).runDeferred).ckptShow).ok c [])))) ∧
  (∀ (s : State) (src : Src) (c : RunCmd) (b : Bytes) (t : CkTarget) (fetched : Option Bytes), Fresh s src 0x0B20 c →
    b = c.payload → allZero b 3 5 = true → allZero b 0x1C 4 = true →
    (s.m.ckpt.run.isSome = true → Does (.ckptRestore src fetched) s (s.m.fail c .busy)) ∧
    (s.m.ckpt.run = none → s.m.mirror.state = 0 → u8 b 0 < 8 → s.m.ckpt.targets.get (u8 b 0) = some t → u8 b 1 ≤ 1 →
      (∀ p ∈ setBitsOf 8 (u8 b 2), s.m.present p = true) →
      (t.kind = 0 → Does (.ckptRestore src fetched) s (s.m.restoreFrom c t [])) ∧
      (t.kind = 1 → s.m.host.linkUp = true → s.m.host.d3hot = false →
        Does (.ckptRestore src fetched) s (s.m.restoreFrom c t [])) ∧
      (t.kind = 2 → fetched = none → Does (.ckptRestore src fetched) s (s.m.fail c .timeout)) ∧
      (∀ x, t.kind = 2 → fetched = some x → Does (.ckptRestore src fetched) s
        ((s.m.enqueue (s.m.queueFor t.endpoint 17) (.read t.endpoint t.addr t.size)).restoreFrom c t x)))) ∧
  (∀ (m : Module) (c : RunCmd) (t : CkTarget) (l : CkLocal) (head : Bytes) (n : Nat), t.kind = 0 →
    m.ckpt.local_.getLast? = some l → head = slice l.manifest 0 128 → n = u32 head 0x3C → u32 head 0 = 1 → u8 head 4 ≤ 1 →
    u8 head 5 ≤ 2 → 1 ≤ n → n ≤ 1048576 → m.partsOk (partMask (u8 c.payload 2) &&& u8 head 0x44) = true →
    (let body := slice l.manifest 0 (128 + 80 * n + 32)
     Config.edVerify (slice body (128 + 80 * n) 32) body (slice l.manifest (128 + 80 * n + 32) 64) = false →
     m.restoreFrom c t [] = m.fail c .denied)) ∧
  (∀ (s : State) (r : CkRun) (t : CkTarget), s.m.live = true → s.m.ckpt.run = some r → s.m.ckpt.targets.get r.target = some t →
    (r.stage = 1 → (∀ p ∈ s.m.steps.parts.vals, p.live = []) → Does .checkpointCut s (s.m.takeCut r t)) ∧
    (r.stage = 1 → DoesAt .cutWaitExpiry s (r.began + 1000000 * s.m.get Reg.CKPT.CTRL_CUT_WAIT_MS)
      (fun m => m.ckptEnds .timeout)) ∧
    (2 ≤ r.stage → DoesAt .destinationTimeout s (r.lastAnswer + 1000000 * s.m.get Reg.CKPT.CTRL_TARGET_TIMEOUT_MS)
      (fun m => m.ckptEnds .timeout)) ∧
    (r.stage = 2 → t.kind = 1 → s.m.host.linkUp = true → s.m.host.d3hot = false →
      (let total := r.shards.foldl (fun a b => a + b.length) 0
       DoesAt .checkpointCopyComplete s (r.lastAnswer + ceilDiv total (Max.max (s.m.get Reg.CKPT.CTRL_RATE_GBPS) 1)) (fun m =>
         let m1 := (shardPlaces r.offset r.shards).foldl (fun (a : Module) p => a.toTarget t p.1 p.2) m
         let man := m1.manifest r 1 0
         let m2 := r.slotsLeft.foldl (fun (a : Module) x => a.markCopied x)
           (m1.toTarget t (r.offset + shardSpan r.shards) (man.take (man.length - Min.min man.length 4096)))
         (({ m2 with ckpt := { m2.ckpt with
           run := some { r with stage := 3, slotsLeft := [], lastAnswer := m2.clk.mono } } }).set Reg.CKPT.PROGRESS_BYTES
             total).ckptShow))) ∧
    (r.stage = 3 → t.kind = 1 → s.m.host.linkUp = true → s.m.host.d3hot = false → r.cmd = none →
      (let man := s.m.manifest r 1 0
       let k := man.length - Min.min man.length 4096
       let m1 := s.m.toTarget t (r.offset + shardSpan r.shards + k) (man.drop k)
       let t1 : CkTarget := { t with used := some (r.offset, shardSpan r.shards + roundUp man.length 4096) }
       let m2 := { m1 with ckpt := { m1.ckpt with run := none, targets := m1.ckpt.targets.put r.target t1 } }
       Does .manifestWriteComplete s
         (((m2.set Reg.CKPT.LAST_ID_CHECKPOINT_ID r.id).bump Reg.CKPT.TAKEN_COUNT).runDeferred).ckptShow))) ∧
  (∀ (m : Module) (r : CkRun), m.ckpt.run = some r → r.cmd = none →
    (m.ckptEnds .timeout).ckpt.run = none ∧ (m.ckptEnds .timeout).ckpt.local_ = m.ckpt.local_ ∧
    (m.ckptEnds .timeout).ckpt.targets = m.ckpt.targets ∧ (m.ckptEnds .timeout).hostMem = m.hostMem ∧
    (m.ckptEnds .timeout).caps = m.caps ∧ (m.ckptEnds .timeout).flag Reg.CKPT.STATUS_ABANDONED = true) ∧
  (∀ (s : State) (n count : Nat), n < 8 → s.m.live = true →
    (count ≤ s.m.get (Reg.CKPT.WARN_SRC_THRESHOLD.at 8 n) → Idle (.failureWarning n count) s) ∧
    (n < 6 → s.m.flag (Reg.CKPT.WARN_SRC_ENABLE.at 8 n) = true → s.m.get (Reg.CKPT.WARN_SRC_THRESHOLD.at 8 n) < count →
      (let m1 := (((s.m.bump (Reg.CKPT.WARN_COUNT_COUNT.at 8 n)).set Reg.CKPT.STATUS_WARNING 1).setBit
         Reg.CKPT.STATUS_WARN_SOURCES n).event 0x0B01 0xFF 1 n count
       (s.m.ckpt.run.isSome = true → Does (.failureWarning n count) s m1) ∧
       (s.m.ckpt.run = none → s.m.ckpt.lastWarn = none → m1.flag Reg.CKPT.WARN_CTRL_AUTO = true →
         s.m.ckpt.targets.has (m1.get Reg.CKPT.WARN_CTRL_TARGET) = true → Does (.failureWarning n count) s
           (({ m1 with ckpt := { m1.ckpt with lastWarn := some s.m.clk.mono } } : Module).ckptStart none
             (m1.get Reg.CKPT.WARN_CTRL_TARGET) (m1.get Reg.CKPT.WARN_CTRL_SCOPE) 0 0 1))))) ∧
  (∀ recs : List PartRec, (∀ x ∈ recs, 64 + x.rec_.size ≤ 268435456) →
    (packShards recs).flatten = recs ∧
    ∀ g ∈ packShards recs, g.foldl (fun a x => a + x.rec_.size) 64 ≤ 268435456)

/-- What the strand instructions on registers and the program counter do. A thread that issues an arithmetic, logical, shift,
compare, select, immediate or LDIH instruction writes exactly the value of R369 into D, discarded for g0, and goes on to the
next word; nothing else of the module changes but the count of instructions. NOP and YIELD only go on. A branch moves the
program counter by 8 × imm when its condition holds, else to the next word. JAL writes the next word's address and jumps;
JALR jumps to a + imm when that is a multiple of 8 in CODE, and otherwise faults with JUMP. HALT ends the thread. GETS reads
its seven values. RAND takes the generator's next 64 bits; RSEED replaces the seed. A program counter outside the image
faults with ADDRESS. A thread that reads a register which a load has yet to write does not issue. Register 0 reads zero and
keeps nothing; a written register reads what was written, and every other one reads as before. Rules: R364, R365, R368,
R369, R370, R375. -/
def Obligations.StrandRegistersAndBranches : Prop :=
  (∀ (p : Nat × (Nat → Instr) × (BitVec 64 → BitVec 64 → BitVec 64 → BitVec 64 → BitVec 64 → BitVec 64)), p ∈
    ([(0x01, .sAdd, fun a b _ _ _ => a + b), (0x02, .sSub, fun a b _ _ _ => a - b), (0x03, .sMul, fun a b _ _ _ => a * b),
      (0x04, .sMulhu, fun a b _ _ _ => BitVec.ofNat 64 (a.toNat * b.toNat / 2 ^ 64)),
      (0x05, .sDivu, fun a b _ _ _ => if b = 0 then BitVec.allOnes 64 else BitVec.ofNat 64 (a.toNat / b.toNat)),
      (0x06, .sRemu, fun a b _ _ _ => if b = 0 then a else BitVec.ofNat 64 (a.toNat % b.toNat)),
      (0x07, .sAnd, fun a b _ _ _ => a &&& b), (0x08, .sOr, fun a b _ _ _ => a ||| b), (0x09, .sXor, fun a b _ _ _ => a ^^^ b),
      (0x0A, .sShl, fun a b _ _ _ => a <<< (b.toNat % 64)), (0x0B, .sShr, fun a b _ _ _ => a >>> (b.toNat % 64)),
      (0x0C, .sSra, fun a b _ _ _ => a.sshiftRight (b.toNat % 64)),
      (0x0D, .sSlt, fun a b _ _ _ => if a.toInt < b.toInt then 1 else 0),
      (0x0E, .sSltu, fun a b _ _ _ => if a.toNat < b.toNat then 1 else 0),
      (0x0F, .sSel, fun a b k _ _ => if k ≠ 0 then a else b),
      (0x10, .sPopc, fun a _ _ _ _ => BitVec.ofNat 64 ((List.range 64).countP (fun i => a.getLsbD i))),
      (0x11, .sAddi, fun a _ _ _ i => a + i), (0x12, .sAndi, fun a _ _ _ i => a &&& i), (0x13, .sOri, fun a _ _ _ i => a ||| i),
      (0x14, .sXori, fun a _ _ _ i => a ^^^ i), (0x15, .sShli, fun a _ _ _ i => a <<< (i.toNat % 64)),
      (0x16, .sShri, fun a _ _ _ i => a >>> (i.toNat % 64)), (0x17, .sSrai, fun a _ _ _ i => a.sshiftRight (i.toNat % 64)),
      (0x18, .sLdi, fun _ _ _ _ i => i), (0x19, .sLdih, fun _ _ _ d i => (d &&& 0xFFFFFFFF#64) ||| (i <<< 32))]
      : List (Nat × (Nat → Instr) × (BitVec 64 → BitVec 64 → BitVec 64 → BitVec 64 → BitVec 64 → BitVec 64))) →
    ∀ (s : State) (t : Nat) (th : Thread) (w : SWord), Issues s.m t p.1 th w →
      (let v := p.2.2 (th.reg w.a.toNat) (th.reg w.b.toNat) (th.reg w.c.toNat) (th.reg w.d.toNat) (w.imm.signExtend 64)
       Does (p.2.1 t) s (s.m.withThread t { (th.setReg w.d.toNat v) with pc := (th.pc + 8) % 2 ^ 64 }))) ∧
  (∀ (p : Nat × (Nat → Instr) × (BitVec 64 → BitVec 64 → Bool)), p ∈
    ([(0x30, .sBeq, fun a b => decide (a = b)), (0x31, .sBne, fun a b => decide (a ≠ b)),
      (0x32, .sBlt, fun a b => decide (a.toInt < b.toInt)), (0x33, .sBge, fun a b => decide (b.toInt ≤ a.toInt)),
      (0x34, .sBltu, fun a b => decide (a.toNat < b.toNat)), (0x35, .sBgeu, fun a b => decide (b.toNat ≤ a.toNat))]
      : List (Nat × (Nat → Instr) × (BitVec 64 → BitVec 64 → Bool))) →
    ∀ (s : State) (t : Nat) (th : Thread) (w : SWord), Issues s.m t p.1 th w → Does (p.2.1 t) s (s.m.withThread t { th with
      pc := if p.2.2 (th.reg w.a.toNat) (th.reg w.b.toNat) then (BitVec.ofNat 64 th.pc + 8 * w.imm.signExtend 64).toNat
        else (th.pc + 8) % 2 ^ 64 })) ∧
  (∀ (s : State) (t : Nat) (th : Thread) (w : SWord),
    (Issues s.m t 0x00 th w → Does (.strandNop t) s (s.m.withThread t { th with pc := (th.pc + 8) % 2 ^ 64 })) ∧
    (Issues s.m t 0x39 th w → Does (.sYield t) s (s.m.withThread t { th with pc := (th.pc + 8) % 2 ^ 64 })) ∧
    (Issues s.m t 0x38 th w → Does (.sHalt t) s (s.m.counted.dropThread t)) ∧
    (Issues s.m t 0x36 th w → Does (.sJal t) s (s.m.withThread t
      { (th.setReg w.d.toNat (BitVec.ofNat 64 (th.pc + 8))) with
        pc := (BitVec.ofNat 64 th.pc + 8 * w.imm.signExtend 64).toNat })) ∧
    (Issues s.m t 0x37 th w → ∀ pr, s.m.threadProg t = some pr →
      (let dest := (th.reg w.a.toNat + w.imm.signExtend 64).toNat
       (dest % 8 = 0 ∧ 0x10000000 ≤ dest ∧ dest < 0x10000000 + 64 + 8 * pr.words → Does (.sJalr t) s (s.m.withThread t
         { (th.setReg w.d.toNat (BitVec.ofNat 64 (th.pc + 8))) with pc := dest })) ∧
       (¬(dest % 8 = 0 ∧ 0x10000000 ≤ dest ∧ dest < 0x10000000 + 64 + 8 * pr.words) →
         Does (.sJalr t) s (s.m.counted.strandFault t 0x04 dest)))) ∧
    (Issues s.m t 0x3A th w → ∀ j, s.m.strand.jobs.get th.job = some j → ∀ v : Nat,
      ((w.imm = 0 ∧ v = th.index) ∨ (w.imm = 1 ∧ v = j.threads) ∨ (w.imm = 2 ∧ v = th.job) ∨ (w.imm = 3 ∧ v = j.partition) ∨
        (w.imm = 4 ∧ v = t / 8) ∨ (w.imm = 5 ∧ v = s.m.clk.now) ∨ (w.imm = 6 ∧ v = s.m.get Reg.MIRROR.STATE_LINK_ID)) →
      Does (.sGets t) s (s.m.withThread t
        { (th.setReg w.d.toNat (BitVec.ofNat 64 v)) with pc := (th.pc + 8) % 2 ^ 64 })) ∧
    (Issues s.m t 0x71 th w → Does (.sRand t) s (s.m.withThread t
      { (th.setReg w.d.toNat (Config.rngNext th.rng).2) with rng := (Config.rngNext th.rng).1, pc := (th.pc + 8) % 2 ^ 64 })) ∧
    (Issues s.m t 0x72 th w → Does (.sRseed t) s (s.m.withThread t
      { th with rng := ((th.reg w.a.toNat).toNat, (th.reg w.b.toNat).toNat), pc := (th.pc + 8) % 2 ^ 64 }))) ∧
  (∀ (s : State) (t : Nat) (th : Thread), s.m.live = true → s.m.strand.threads.get t = some th → th.suspended = false →
    th.wait = .none →
    (s.m.fetchWord t = none → Does (.sAdd t) s (s.m.strandFault t 0x02 th.pc)) ∧
    (∀ word, s.m.fetchWord t = some word → (∃ r ∈ (SWord.decode word).reads, th.pendingReg r = true) → Idle (.sAdd t) s)) ∧
  (∀ (th : Thread) (d r : Nat) (v : BitVec 64), th.reg 0 = 0 ∧ th.setReg 0 v = th ∧
    (KMap.wf th.regs = true → d ≠ 0 → (th.setReg d v).reg d = v) ∧ (r ≠ d → (th.setReg d v).reg r = th.reg r))

/-- What the strand instructions on memory, capsules, engines and objects do. A load, store or atomic faults with MISALIGNED off
its size, and otherwise with the cause of its window when that refuses it, and so leaves memory alone. A load that is
granted takes its value at issue, from its core's cache where that holds the line, zero- or sign-extended, and LOAD_RETURN
writes it; a store writes the low bytes of b, an atomic writes the old value into D and the new one into memory. Bytes
stored at a writable address read back, through the cache too; an acquire that takes something empties the core's cache. A
FENCE waits for loads, and with IMM 1 for acknowledged HOST stores. Capsule loads, stores and CRDB read and write the
capsule bytes, or fault with the cause of R376; a store to a capsule whose lease has lapsed is held. EISS queues a granted
command of its own partition, or writes DENIED or BUSY. TACC hands a token and writes its status. The Ligature instructions
act on an object of the thread's partition, fault with OBJECT otherwise, and LWAIT and LRECV wait when nothing can be taken.
A HOST access that is not answered faults with HOST_LINK. These statements name exactly what changes. Rules: R365, R366,
R367, R371, R372, R373, R374, R375, R376, R386. -/
def Obligations.StrandMemoryAndEngines : Prop :=
  (∀ (p : Nat × (Nat → Instr) × Nat × (Nat → BitVec 64)), p ∈
    ([(0x40, .sLd8u, 1, BitVec.ofNat 64), (0x41, .sLd16u, 2, BitVec.ofNat 64), (0x42, .sLd32u, 4, BitVec.ofNat 64),
      (0x43, .sLd32s, 4, fun n => (BitVec.ofNat 32 n).signExtend 64), (0x44, .sLd64, 8, BitVec.ofNat 64)]
      : List (Nat × (Nat → Instr) × Nat × (Nat → BitVec 64))) →
    ∀ (s : State) (t : Nat) (th : Thread) (w : SWord), Issues s.m t p.1 th w → th.loads.length < 8 →
      (let a := (th.reg w.a.toNat + w.imm.signExtend 64).toNat
       let n := p.2.2.1
       (a % n ≠ 0 → Does (p.2.1 t) s (s.m.counted.strandFault t 0x01 a)) ∧
       (a % n = 0 → ∀ cause, s.m.strandCheck t a n false false = some cause →
         Does (p.2.1 t) s (s.m.counted.accessFault t cause a)) ∧
       (a % n = 0 → s.m.strandCheck t a n false false = none → isHostPlace a = false →
         (let got := s.m.counted.strandLoad t a n
          Does (p.2.1 t) s (got.2.updThread t (fun x => { x with
            loads := (x.loads.map (fun l => if l.reg = w.d.toNat then { l with reg := 0 } else l)) ++
              [⟨w.d.toNat, p.2.2.2 (leNat got.1), false, th.pc, a, s.m.clk.mono, false⟩],
            pc := (x.pc + 8) % 2 ^ 64 })))))) ∧
  (∀ (p : Nat × (Nat → Instr) × Nat), p ∈
    ([(0x45, .sSt8, 1), (0x46, .sSt16, 2), (0x47, .sSt32, 4), (0x48, .sSt64, 8)] : List (Nat × (Nat → Instr) × Nat)) →
    ∀ (s : State) (t : Nat) (th : Thread) (w : SWord), Issues s.m t p.1 th w →
      (let a := (th.reg w.a.toNat + w.imm.signExtend 64).toNat
       let n := p.2.2
       (a % n ≠ 0 → Does (p.2.1 t) s (s.m.counted.strandFault t 0x01 a)) ∧
       (a % n = 0 → ∀ cause, s.m.strandCheck t a n true false = some cause →
         Does (p.2.1 t) s (s.m.counted.accessFault t cause a)) ∧
       (a % n = 0 → s.m.strandCheck t a n true false = none → isHostPlace a = false → Does (p.2.1 t) s
         ((s.m.counted.strandStore t a (leBytes n (th.reg w.b.toNat).toNat)).pass t)))) ∧
  (∀ (p : Nat × (Nat → Instr) × (BitVec 64 → BitVec 64 → BitVec 64 → Option (BitVec 64))), p ∈
    ([(0x49, .sAmoadd, fun old b _ => some (old + b)), (0x4A, .sAmoswap, fun _ b _ => some b),
      (0x4B, .sAmocas, fun old b k => if old = k then some b else none)]
      : List (Nat × (Nat → Instr) × (BitVec 64 → BitVec 64 → BitVec 64 → Option (BitVec 64)))) →
    ∀ (s : State) (t : Nat) (th : Thread) (w : SWord), Issues s.m t p.1 th w →
      (let a := (th.reg w.a.toNat + w.imm.signExtend 64).toNat
       let old := BitVec.ofNat 64 (leNat (s.m.strandRead t a 8))
       let new := p.2.2 old (th.reg w.b.toNat) (th.reg w.c.toNat)
       (a % 8 = 0 → ∀ cause, s.m.strandCheck t a 8 true true = some cause →
         Does (p.2.1 t) s (s.m.counted.accessFault t cause a)) ∧
       (a % 8 = 0 → s.m.strandCheck t a 8 true true = none → Does (p.2.1 t) s
         (((new.elim s.m.counted (fun x => s.m.counted.strandStore t a (leBytes 8 x.toNat)))).retire t w.d.toNat old)))) ∧
  (∀ (m : Module) (t a : Nat) (b : Bytes) (th : Thread), m.memWf = true → m.strand.threads.get t = some th →
    th.slice.wf = true → b ≠ [] → m.strandCheck t a b.length true false = none →
    (m.strandWrite t a b).strandRead t a b.length = b ∧
    (b.length ∈ [1, 2, 4, 8] → a % b.length = 0 → (∀ l ∈ m.strand.lines, l.bytes.length = 64) →
      ((m.strandStore t a b).strandLoad t a b.length).1 = b)) ∧
  (∀ (m : Module) (t a n : Nat),
    (isCached a = false → m.strandLoad t a n = (m.strandRead t a n, m)) ∧
    (isCached a = true → (∀ l ∈ m.strand.lines, l.core = t / 8 → l.addr ≠ a / 64 * 64) →
      (m.strandLoad t a n).1 = slice (m.strandRead t (a / 64 * 64) 64) (a % 64) n) ∧
    (∀ l ∈ (m.dropLines t).strand.lines, l.core ≠ t / 8)) ∧
  (∀ (s : State) (t : Nat) (th : Thread) (w : SWord), Issues s.m t 0x4C th w →
    (th.loads ≠ [] → Idle (.sFence t) s) ∧
    (th.loads = [] → (w.imm = 0 ∨ th.stores = []) →
      Does (.sFence t) s (s.m.withThread t { th with pc := (th.pc + 8) % 2 ^ 64 })) ∧
    (th.loads = [] → w.imm = 1 → th.stores ≠ [] → Does (.sFence t) s (s.m.withThread t { th with wait := .fence }))) ∧
  (∀ (p : Nat × (Nat → Instr) × Nat), p ∈
    ([(0x50, .sCld8u, 1), (0x51, .sCld32u, 4), (0x52, .sCld64, 8)] : List (Nat × (Nat → Instr) × Nat)) →
    ∀ (s : State) (t : Nat) (th : Thread) (w : SWord), Issues s.m t p.1 th w → th.loads.length < 8 →
      (let id := (th.reg w.a.toNat).toNat % 2 ^ 32
       let off := (th.reg w.b.toNat + w.imm.signExtend 64).toNat
       let n := p.2.2
       (off % n = 0 → ∀ cause, s.m.capFault t id off n false = some cause →
         Does (p.2.1 t) s (s.m.counted.strandFault t cause off)) ∧
       (off % n = 0 → s.m.capFault t id off n false = none → s.m.capNeedsHost id off n = false →
         ∀ b m1, s.m.counted.capBytes id off n = (some b, m1) → Does (p.2.1 t) s (m1.updThread t (fun x => { x with
           loads := (x.loads.map (fun l => if l.reg = w.d.toNat then { l with reg := 0 } else l)) ++
             [⟨w.d.toNat, BitVec.ofNat 64 (leNat b), false, th.pc, off, s.m.clk.mono, false⟩],
           pc := (x.pc + 8) % 2 ^ 64 }))))) ∧
  (∀ (p : Nat × (Nat → Instr) × Nat), p ∈ ([(0x53, .sCst32, 4), (0x54, .sCst64, 8)] : List (Nat × (Nat → Instr) × Nat)) →
    ∀ (s : State) (t : Nat) (th : Thread) (w : SWord), Issues s.m t p.1 th w →
      (let id := (th.reg w.a.toNat).toNat % 2 ^ 32
       let off := (th.reg w.b.toNat + w.imm.signExtend 64).toNat
       let n := p.2.2
       (off % n = 0 → s.m.storeHeld t id off n = true → Idle (p.2.1 t) s) ∧
       (off % n = 0 → s.m.storeHeld t id off n = false → ∀ cause, s.m.capFault t id off n true = some cause →
         Does (p.2.1 t) s (s.m.counted.strandFault t cause off)) ∧
       (off % n = 0 → s.m.storeHeld t id off n = false → s.m.capFault t id off n true = none → s.m.capNeedsHost id off n = false →
         ∀ l g o f, (s.m.slot (id / 256)).range off n = some (.frame l g o) →
           s.m.frame ((s.m.slot (id / 256)).handle l g) = some f → f.badIn o n = none →
           Does (p.2.1 t) s ((s.m.counted.capWrite id l g o (leBytes n (th.reg w.c.toNat).toNat)).pass t)))) ∧
  (∀ (m : Module) (t id off n : Nat) (k : Capsule), m.capsule id = some k → m.capFault t id off n true = none →
    k.partition = m.threadPart t ∧ m.owns k = true ∧ m.fenced = false ∧ k.state ≠ 3 ∧ k.state ≠ 5 ∧
    (∀ i r, m.requestOf id = some (i, r) → r.state ≠ 2) ∧
    ∃ l g o, k.range off n = some (.frame l g o) ∧ k.shared ≤ g ∧ (Frame.slotOf o).isSome = true) ∧
  (∀ (s : State) (t : Nat) (th : Thread) (w : SWord), Issues s.m t 0x55 th w →
    (let id := (th.reg w.a.toNat).toNat % 2 ^ 32
     let off := (th.reg w.b.toNat + w.imm.signExtend 64).toNat
     let n := (th.reg w.c.toNat).toNat
     let dst := (th.reg w.d.toNat).toNat
     ((n = 0 ∨ 4096 < n) → Does (.sCrdb t) s (s.m.counted.strandFault t 0x07 off)) ∧
     (1 ≤ n → n ≤ 4096 → s.m.capFault t id off n false = none → s.m.strandCheck t dst n true false = none →
       s.m.capNeedsHost id off n = false → isHostPlace dst = false → ∀ b m1, s.m.counted.capBytes id off n = (some b, m1) →
       Does (.sCrdb t) s ((m1.strandStore t dst b).pass t)))) ∧
  (∀ (s : State) (t : Nat) (th : Thread) (w : SWord), Issues s.m t 0x60 th w →
    (let op := w.imm.toNat
     let pay := (th.reg w.a.toNat).toNat
     let blk := (th.reg w.b.toNat).toNat
     let p := s.m.threadPart t
     let b := s.m.strandRead t pay (issueLen op)
     let out := s.m.strand.issued.vals.filter (fun i => i.partition == p)
     blk % 64 = 0 → s.m.strandCheck t pay (issueLen op) false false = none → s.m.strandCheck t blk 64 true false = none →
     isHostPlace pay = false → (th.reg w.c.toNat).toNat = ligNone →
     ((∃ q ∈ s.m.issueParts (fun i => (s.m.bore.indexes.get i).map (·.partition)) op b, q ≠ p) → Does (.sEiss t) s
       ((s.m.counted.bump Reg.STRAND.ISSUE_REFUSED_COUNT).retire t w.d.toNat (BitVec.ofNat 64 Status.denied.code))) ∧
     ((∀ q ∈ s.m.issueParts (fun i => (s.m.bore.indexes.get i).map (·.partition)) op b, q = p) →
       (s.m.get Reg.STRAND.CTRL_ISSUE_MAX ≤ out.length → Does (.sEiss t) s
         (((s.m.counted.bump Reg.STRAND.ISSUE_REFUSED_COUNT).set Reg.STRAND.STATUS_ISSUE_FULL 1).retire t w.d.toNat
           (BitVec.ofNat 64 Status.busy.code))) ∧
       (out.length < s.m.get Reg.STRAND.CTRL_ISSUE_MAX →
         ∃ u c, exec (.sEiss t) s = .next u ∧ u.m.host.running = s.m.host.running ++ [c] ∧ c.opcode = op ∧ c.payload = b ∧
           c.stage = .fresh ∧ c.src = .eiss s.m.strand.nextIssue ∧
           u.m.strand.issued.get s.m.strand.nextIssue = some ⟨p, t, th.job, blk, ligNone⟩ ∧
           u.m.strand.threads.get t = some { (th.setReg w.d.toNat 0) with pc := (th.pc + 8) % 2 ^ 64 } ∧
           u.m.hbm = s.m.hbm ∧ u.m.lpddr = s.m.lpddr ∧ u.m.hostMem = s.m.hostMem ∧ u.m.caps = s.m.caps)))) ∧
  (∀ (s : State) (t : Nat) (th : Thread) (w : SWord), Issues s.m t 0x70 th w → (th.reg w.c.toNat).toNat = ligNone →
    (let r := s.m.counted.handToken (s.m.threadPart t) ((th.reg w.a.toNat).toNat % 2 ^ 18) w.imm.toNat (th.reg w.b.toNat).toNat
       ligNone
     Does (.sTacc t) s (r.1.retire t w.d.toNat (BitVec.ofNat 64 r.2.code)))) ∧
  (∀ (s : State) (t : Nat) (th : Thread) (w : SWord),
    (Issues s.m t 0x80 th w → ∀ m1 h, s.m.counted.ligAlloc (s.m.threadPart t) (some th.job) (w.imm.toNat % 256)
        (w.imm.toNat / 256) = (m1, .inr h) → Does (.sLalloc t) s (m1.retire t w.d.toNat (BitVec.ofNat 64 h))) ∧
    (Issues s.m t 0x80 th w → ∀ m1 st, s.m.counted.ligAlloc (s.m.threadPart t) (some th.job) (w.imm.toNat % 256)
        (w.imm.toNat / 256) = (m1, .inl st) →
      Does (.sLalloc t) s (m1.retire t w.d.toNat (BitVec.ofNat 64 (2 ^ 63 + st.code)))) ∧
    (Issues s.m t 0x82 th w → s.m.ligFind (th.reg w.a.toNat).toNat = none →
      Does (.sLsig t) s (s.m.counted.strandFault t 0x0C (th.reg w.a.toNat).toNat)) ∧
    (∀ i o, s.m.ligFind (th.reg w.a.toNat).toNat = some (i, o) → o.partition = s.m.threadPart t → o.revokedJob = none →
      (let m1 := s.m.counted.bump Reg.LIG.OPS_COUNT
       let sig := s.m.counted.ligSignal i o (th.reg w.b.toNat).toNat
       let snd := s.m.counted.ligSend i o (th.reg w.b.toNat).toNat
       let acquired (st : Status) (a : Module) : Module := if st = .ok then a.dropLines t else a
       (Issues s.m t 0x81 th w → o.owner ≠ some th.job →
         Does (.sLfree t) s (m1.retire t w.d.toNat (BitVec.ofNat 64 Status.denied.code))) ∧
       (Issues s.m t 0x81 th w → o.owner = some th.job → o.waiters ≠ [] →
         Does (.sLfree t) s (m1.retire t w.d.toNat (BitVec.ofNat 64 Status.busy.code))) ∧
       (Issues s.m t 0x81 th w → o.owner = some th.job → o.waiters = [] →
         (∀ j, s.m.strand.jobs.get th.job = some j → j.window = none) →
         Does (.sLfree t) s ((m1.ligFreeIndex i).retire t w.d.toNat 0)) ∧
       (Issues s.m t 0x82 th w → Does (.sLsig t) s (sig.1.retire t w.d.toNat (BitVec.ofNat 64 sig.2.code))) ∧
       (Issues s.m t 0x85 th w → Does (.sLsend t) s (snd.1.retire t w.d.toNat (BitVec.ofNat 64 snd.2.code))) ∧
       (Issues s.m t 0x83 th w → ∀ o1 woken st msg, ligTake o false = .done o1 woken st msg → Does (.sLwait t) s
         ((acquired st (woken.foldl (fun (a : Module) x => a.wake x .ok 0) (m1.ligPut i o1))).retire t w.d.toNat
           (BitVec.ofNat 64 st.code))) ∧
       (Issues s.m t 0x84 th w → ∀ o1 woken st msg, ligTry o = .done o1 woken st msg → Does (.sLtry t) s
         ((acquired st (woken.foldl (fun (a : Module) x => a.wake x .ok 0) (m1.ligPut i o1))).retire t w.d.toNat
           (BitVec.ofNat 64 st.code))) ∧
       (Issues s.m t 0x86 th w → ∀ o1 msg, ligTake o true = .done o1 [] .ok msg → Does (.sLrecv t) s
         ((((m1.ligPut i o1).dropLines t).updThread t (fun x => x.setReg w.d.toNat (BitVec.ofNat 64 msg))).retire t w.c.toNat 0)) ∧
       (∀ o1, ligTake o false = .wait o1 → Issues s.m t 0x83 th w →
         ∃ u, exec (.sLwait t) s = .next u ∧ u.m.strand.threads.get t = some { th with wait := .lig i w.d.toNat w.c.toNat false } ∧
           u.m.lig.objs.get i = some { o1 with waiters := o1.waiters ++ [⟨.thread t, s.m.clk.mono,
             if w.imm = 0 then none else some (1000 * w.imm.toNat), false⟩] } ∧ u.m.hbm = s.m.hbm ∧ u.m.caps = s.m.caps)))) ∧
  (∀ (s : State) (t : Nat) (th : Thread), s.m.live = true → s.m.strand.threads.get t = some th →
    (∀ l rest, th.loads = l :: rest → l.host = false → l.credited = false → Does (.loadReturn t) s
      (s.m.updThread t (fun x => { x with loads := rest, regs :=
        if l.reg = 0 then x.regs else if l.value = 0 then x.regs.del l.reg else x.regs.put l.reg l.value }))) ∧
    (∀ x rest, th.stores = x :: rest → x.credited = false → s.m.host.linkUp = true → s.m.host.d3hot = false →
      (th.wait ≠ .fence → Does (.hostWriteAcknowledged t) s (s.m.updThread t (fun y => { y with stores := rest }))) ∧
      (th.wait = .fence → rest = [] → Does (.hostWriteAcknowledged t) s (s.m.updThread t (fun y =>
        { y with stores := [], wait := .none, pc := (y.pc + 8) % 2 ^ 64 })))) ∧
    (∀ a start, th.wait = .host a start →
      DoesAt (.hostAccessTimeout t) s (start + 1000 * s.m.get Reg.STRAND.CTRL_HOST_TIMEOUT_US)
        (fun m => (m.updThread t (fun y => { y with pc := th.pc })).strandFault t 0x0A a)))

/-- Strand programs and jobs are loaded, started, stopped and read as the commands say. For fresh commands whose fields pass.
STRAND_LOAD of an image whose header and words are good takes the lowest free program handle and answers it; a word that is
no instruction is BAD_FIELD with its index. STRAND_UNLOAD forgets the program, and is BUSY while a job runs it. STRAND_START
puts the lowest free threads of each named core into a new job, in core order and then in thread order, with ARG0 to ARG3 in
g1 to g4, every other register and the local store zero and the program counter at ENTRY; it is DENIED for a core of another
partition and BUSY when a core lacks free threads. STRAND_STOP stops the job's threads. STRAND_JOB_QUERY answers the job's
figures. A fault records thread, cause, job, program counter and address. Rules: R376, R377, R379, R380, R381. -/
def Obligations.StrandCommandsAct : Prop :=
  (∀ (s : State) (src : Src) (c : RunCmd) (addr len p : Nat) (h : Bytes), Fresh s src 0x0C00 c → addr = u64 c.payload 0 →
    len = u64 c.payload 8 → h = s.m.hbm.rdN addr 64 → addr % 4096 = 0 → 64 < len → addr + len ≤ hbmSize →
    strandHeaderOk s.m h len = true → s.m.engineMay (u8 h 0x0C) 0 addr len = true →
    (∀ k, firstBadWord s.m.hbm addr (u32 h 4) = some k →
      Does (.strandLoad src) s (s.m.complete c .badField (zeros 4 ++ leBytes 4 k) 0x40)) ∧
    (firstBadWord s.m.hbm addr (u32 h 4) = none →
      (s.m.strand.programs.lowestFree 0 256 = none → Does (.strandLoad src) s (s.m.fail c .noSpace)) ∧
      (s.m.strand.programs.lowestFree 0 256 = some p →
        (let m1 := s.m.measure 8 p 0 (u8 h 0x0C) (s.m.hbm.rdN addr (64 + 8 * u32 h 4))
         Does (.strandLoad src) s (({ m1 with strand := { m1.strand with
           programs := m1.strand.programs.put p ⟨addr, u32 h 4, u32 h 8, u8 h 0x0C⟩ } } : Module).ok c
             (leBytes 2 p ++ zeros 6)))))) ∧
  (∀ (s : State) (src : Src) (c : RunCmd) (p : Nat), Fresh s src 0x0C01 c → allZero c.payload 2 6 = true →
    p = u16 c.payload 0 → s.m.strand.programs.has p = true →
    ((∃ j ∈ s.m.strand.jobs.vals, j.program = p) → Does (.strandUnload src) s (s.m.fail c .busy)) ∧
    ((∀ j ∈ s.m.strand.jobs.vals, j.program ≠ p) →
      (let m1 := s.m.unmeasure 8 p (fun _ => false)
       Does (.strandUnload src) s (({ m1 with strand := { s.m.strand with
         programs := s.m.strand.programs.del p } } : Module).ok c [])))) ∧
  (∀ (s : State) (x : Nat) (src : Src) (c : RunCmd) (b : Bytes) (first count n j : Nat) (pr : StrandProg) (ts : List Nat),
    src = .mbox x → Fresh s src 0x0C10 c → b = c.payload → first = u16 b 2 → count = u16 b 4 → n = u8 b 6 → 1 ≤ count →
    first + count ≤ 1024 → 1 ≤ n → n ≤ 8 → u8 b 7 ≤ 1 → u32 b 8 = ligNone → u32 b 0x0C = ligNone →
    s.m.strand.programs.get (u16 b 0) = some pr →
    ((∃ k, first ≤ k ∧ k < first + count ∧ s.m.strandPart k ≠ some pr.partition) →
      Does (.strandStart src) s (s.m.fail c .denied)) ∧
    ((∀ k, first ≤ k → k < first + count → s.m.strandPart k = some pr.partition) →
      ((∃ k, first ≤ k ∧ k < first + count ∧ (freeThreads s.m k n).length ≠ n) →
        Does (.strandStart src) s (s.m.fail c .busy)) ∧
      ((∀ k, first ≤ k → k < first + count → (freeThreads s.m k n).length = n) →
        s.m.strand.jobs.lowestFree 0 4096 = some j →
        ts = ((List.range count).map (first + ·)).flatMap (fun k => freeThreads s.m k n) →
        s.m.jobHeld ⟨u16 b 0, pr.partition, s.m.clk.now, ts.length, 0, u8 b 7 == 1, ligNone, ligNone, false, 4, 0, none, false⟩
          = false →
        ∃ u, exec (.strandStart src) s = .next u ∧
          u.m.strand.jobs = s.m.strand.jobs.put j
            ⟨u16 b 0, pr.partition, s.m.clk.now, ts.length, 0, u8 b 7 == 1, ligNone, ligNone, false, 4, 0, none, false⟩ ∧
          u.m.hbm = s.m.hbm ∧ u.m.lpddr = s.m.lpddr ∧ u.m.caps = s.m.caps ∧
          (∀ t, t ∉ ts → u.m.strand.threads.get t = s.m.strand.threads.get t) ∧
          ∀ i (hi : i < ts.length), ∃ th, u.m.strand.threads.get ts[i] = some th ∧ th.job = j ∧ th.index = i ∧
            th.pc = 0x10000040 + 8 * pr.entry ∧ th.slice = [] ∧ th.loads = [] ∧ th.stores = [] ∧ th.wait = .none ∧
            th.suspended = false ∧
            (∀ r, th.reg r = if 1 ≤ r ∧ r ≤ 4 then BitVec.ofNat 64 (u64 b (0x10 + 8 * (r - 1))) else 0)))) ∧
  (∀ (s : State) (src : Src) (c : RunCmd), Fresh s src 0x0C11 c → allZero c.payload 2 6 = true →
    s.m.strand.jobs.has (u16 c.payload 0) = true →
    Does (.strandStop src) s ((s.m.stopJob (u16 c.payload 0)).ok c [])) ∧
  (∀ (s : State) (src : Src) (c : RunCmd) (j : Nat) (x : Job), Fresh s src 0x0C12 c → j = u16 c.payload 0 →
    s.m.strand.jobs.get j = some x → Does (.strandJobQuery src) s (s.m.ok c (leBytes 2 x.program ++
      leBytes 2 (s.m.strand.threads.vals.filter (fun t => t.job == j)).length ++ leBytes 2 x.faulted ++ zeros 2 ++
      leBytes 8 x.startTime))) ∧
  (∀ (m : Module) (t cause addr : Nat) (th : Thread) (j : Job), t < 8192 → cause < 256 → th.job < 4096 → th.pc < 2 ^ 64 →
    addr < 2 ^ 64 → m.strand.threads.get t = some th → m.strand.jobs.get th.job = some j → j.stopOnFault = false →
    m.mute j.partition = false → j.doneObj = ligNone → j.faultObj = ligNone →
    (let m1 := m.strandFault t cause addr
     m1.get Reg.STRAND.LAST_FAULT_THREAD = t ∧ m1.get Reg.STRAND.LAST_FAULT_CAUSE = cause ∧
     m1.get Reg.STRAND.LAST_FAULT_JOB = th.job ∧ m1.get Reg.STRAND.LAST_FAULT_PC_PC = th.pc ∧
     m1.get Reg.STRAND.LAST_FAULT_ADDR_ADDR = addr ∧ m1.flag Reg.STRAND.STATUS_FAULT = true))

/-- Objects, engine lanes, the cyclic schedule and pre-emption. For fresh commands whose fields pass. LIG_ALLOC takes the lowest
free index, and is NO_SPACE at quota; LIG_FREE, LIG_SIGNAL and LIG_QUERY act on a live object, STALE_HANDLE otherwise,
DENIED and BUSY as R398 says; LWAIT_TIMEOUT ends a timed wait with TIMEOUT and takes nothing. SCHED_TABLE_LOAD fills the
inactive bank and waits, BUSY while one waits, DENIED without RT_ALLOWED; SCHED_TABLE_OFF waits; at a cycle start the bank
that waits becomes active and its command completes. (That TABLE_OFF leaves no table active is the model's reading,
assumption 119.) SCHED_JOB_SET sets a job's class and weight, a program's class, and the notice flag. SCHED_SUSPEND holds
the partition and waits until all is suspended, BUSY when it is held; SCHED_RESUME lets go, BUSY when it is not.
SCHED_PARTITION_QUERY returns the partition's record. SLOT_BOUNDARY acts once per slot, makes the foreground state that of
the slot, counts unused BUILD slots, and lets those start where a build can. An engine gives one lane its turn at a time, a
background lane none while a foreground one waits, and a command without its turn does nothing (lane order: assumption 55).
PREEMPT_WINDOW_EXPIRY suspends the job: its threads stop, its credits return, and every object it owned is the partition's.
Rules: R384, R387, R392, R397, R398, R406, R410, R411, R413, R418, R419, R420. -/
def Obligations.ObjectsSchedulesAndPreemption : Prop :=
  (∀ (s : State) (src : Src) (c : RunCmd) (b : Bytes) (p kind param : Nat), Fresh s src 0x0D00 c → b = c.payload →
    allZero b 2 2 = true → allZero b 7 1 = true → p = u8 b 0 → kind = u8 b 1 → param = u32 b 4 → s.m.present p = true →
    (let m1 := s.m.bump Reg.LIG.OPS_COUNT
     let good := (kind = 1 ∧ param ≤ 16777215) ∨ (kind = 2 ∧ 1 ≤ param ∧ param ≤ 65535) ∨ (kind = 3 ∧ param ≤ 3) ∨
       (kind = 4 ∧ 1 ≤ param ∧ param ≤ 64)
     let full := m1.get (Reg.LIG.QUOTA_OBJECTS.at 8 p) ≠ 0 ∧ m1.get (Reg.LIG.QUOTA_OBJECTS.at 8 p) ≤ s.m.ligUsed p
     (¬good → Does (.ligAlloc src) s ((m1.bump Reg.LIG.ALLOC_FAILS_COUNT).badField c 1)) ∧
     (good → full → Does (.ligAlloc src) s
       (((m1.bump Reg.LIG.ALLOC_FAILS_COUNT).set Reg.LIG.STATUS_ALLOC_FAIL 1).fail c .noSpace)) ∧
     (good → ¬full → (kind = 4 → param ≤ s.m.msgFree) → ∀ i, s.m.lig.objs.lowestFree 0 65536 = some i →
       (let v := if kind = 1 then param else if kind = 3 ∧ bit param 1 = true then 1 else 0
        Does (.ligAlloc src) s ((m1.ligPut i ⟨kind, p, param, v, [], [], none, none, false⟩).ok c
          (leBytes 4 (s.m.ligGen i * 65536 + i))))))) ∧
  (∀ (o : KMap LigObj) (i : Nat), o.wf = true →
    (o.lowestFree 0 65536 = some i ↔ i < 65536 ∧ o.has i = false ∧ ∀ j < i, o.has j = true)) ∧
  (∀ (s : State) (src : Src) (c : RunCmd) (h : Nat), h = u32 c.payload 0 →
    (Fresh s src 0x0D01 c → allZero c.payload 4 4 = true →
      (let m1 := s.m.bump Reg.LIG.OPS_COUNT
       (s.m.ligFind h = none → Does (.ligFree src) s (m1.fail c .stale)) ∧
       (∀ i o, s.m.ligFind h = some (i, o) →
         (o.owner.isSome = true → Does (.ligFree src) s (m1.fail c .denied)) ∧
         (o.owner = none → o.waiters ≠ [] → Does (.ligFree src) s (m1.fail c .busy)) ∧
         (o.owner = none → o.waiters = [] → Does (.ligFree src) s
           (({ m1 with lig := { objs := m1.lig.objs.del i, gens := m1.lig.gens.put i ((s.m.ligGen i + 1) % 2 ^ 15) } }).ok
             c []))))) ∧
    (Fresh s src 0x0D02 c →
      (s.m.ligFind h = none → Does (.ligSignal src) s (s.m.fail c .stale)) ∧
      (∀ i o, s.m.ligFind h = some (i, o) →
        (let n := u32 c.payload 4
         let r := if o.kind = 4 then s.m.ligSend i o n else s.m.ligSignal i o n
         (r.2 = .ok → Does (.ligSignal src) s (r.1.ok c [])) ∧
         (r.2 ≠ .ok → Does (.ligSignal src) s (r.1.verdict c ⟨r.2, 4⟩))))) ∧
    (Fresh s src 0x0D03 c →
      (s.m.ligFind h = none → Does (.ligQuery src) s (s.m.fail c .stale)) ∧
      (∀ i o, s.m.ligFind h = some (i, o) → Does (.ligQuery src) s (s.m.ok c
        (leBytes 4 h ++ leBytes 1 o.kind ++ leBytes 1 o.partition ++ leBytes 2 (o.owner.getD 0xFFFF) ++
         leBytes 4 (if o.kind = 4 then o.msgs.length else o.value) ++ leBytes 2 o.waiters.length ++
         leBytes 2 (o.revokedJob.getD 0xFFFF) ++ leBytes 4 o.param ++ zeros 4))))) ∧
  (∀ (s : State) (t i : Nat) (w : LigWait), s.m.live = true → s.m.timedWait t = some (i, w) →
    DoesAt (.lwaitTimeout t) s (w.start + w.timeout.getD 0)
      (fun m => ((m.ligWithdraw (.thread t)).wake w .timeout 0).bump Reg.LIG.TIMEOUTS_COUNT)) ∧
  (∀ (m : Module) (t i : Nat) (o : LigObj), m.lig.objs.get i = some o →
    (m.ligWithdraw (.thread t)).lig.objs.get i = some { o with
      waiters := o.waiters.filter (fun w => w.who != .thread t)
      value := if o.kind = 2 then o.value - o.waiters.countP (fun w => w.who == .thread t) else o.value }) ∧
  (∀ (s : State) (src : Src) (c : RunCmd) (b : Bytes) (addr mask : Nat), Fresh s src 0x0E00 c → b = c.payload →
    allZero b 9 7 = true → addr = u64 b 0 → mask = u8 b 8 → addr % 64 = 0 →
    (∀ p < 8, bit mask p = true → s.m.present p = true) →
    ((∃ p < 8, bit mask p = true ∧ bit (s.m.part p).flags 2 = false) →
      Does (.schedTableLoad src) s (s.m.fail c .denied)) ∧
    ((∀ p < 8, bit mask p = true → bit (s.m.part p).flags 2 = true) →
      (s.m.sched.pending = true → Does (.schedTableLoad src) s (s.m.fail c .busy)) ∧
      (s.m.sched.pending = false → s.m.host.linkUp = true → s.m.host.d3hot = false →
        ∀ es, es = readTable s.m c addr → (∀ e ∈ es, entryOk s.m e.2 = true) →
          (∀ p < 8, bit mask p = true → ∃ e ∈ es, bit e.2 (8 + p) = true) →
          (let sc := s.m.sched
           let sc1 := if sc.active = 0 then { sc with bank1 := ⟨es, mask, true⟩, pending := true }
             else { sc with bank0 := ⟨es, mask, true⟩, pending := true }
           Does (.schedTableLoad src) s (({ s.m with sched := sc1 }).await c []))))) ∧
  (∀ (m : Module) (c : RunCmd) (addr i : Nat), i < 16384 →
    (readTable m c addr).getD i 0 = leNat (m.cmdRead c (addr + 4 * i) 4)) ∧
  (∀ (s : State) (src : Src) (c : RunCmd), Fresh s src 0x0E01 c →
    Does (.schedTableOff src) s (({ s.m with sched := { s.m.sched with offPending := true } }).await c [])) ∧
  (∀ m : Module, m.sched.pending = true → m.sched.offPending = false →
    (let s1 := m.cycleStart.sched
     s1.active = 1 - m.sched.active ∧ s1.pending = false ∧ s1.cycleOn = true ∧ s1.bank0 = m.sched.bank0 ∧
     s1.bank1 = m.sched.bank1 ∧ s1.epoch = m.sched.nextEpoch.getD m.sched.epoch)) ∧
  (∀ (s : State) (src : Src) (c : RunCmd) (b : Bytes) (id : Nat), Fresh s src 0x0E10 c → b = c.payload →
    allZero b 3 1 = true → allZero b 6 2 = true → u8 b 1 ≤ 1 → 1 ≤ u8 b 2 → u8 b 2 ≤ 15 → id = u16 b 4 →
    (∀ j, u8 b 0 = 0 → s.m.strand.jobs.get id = some j →
      (let m1 := s.m.updJob id (fun j => { j with background := u8 b 1 == 1, weight := u8 b 2 })
       (u32 b 8 = 0xFFFFFFFF → Does (.schedJobSet src) s
         ((({ m1 with sched := { m1.sched with notice := m1.sched.notice.del j.partition } }).followHolds).ok c [])) ∧
       (u32 b 8 ≠ 0xFFFFFFFF → s.m.ligFind (u32 b 8) = none → Does (.schedJobSet src) s (s.m.fail c .stale)) ∧
       (∀ i o, u32 b 8 ≠ 0xFFFFFFFF → s.m.ligFind (u32 b 8) = some (i, o) → o.kind = 3 → o.partition = j.partition →
         Does (.schedJobSet src) s ((({ m1 with sched := { m1.sched with
           notice := m1.sched.notice.put j.partition (u32 b 8) } }).followHolds).ok c [])))) ∧
    (u8 b 0 = 0 → s.m.strand.jobs.get id = none → Does (.schedJobSet src) s (s.m.fail c .stale)) ∧
    (u8 b 0 = 1 → s.m.attn.programs.has id = false → Does (.schedJobSet src) s (s.m.fail c .stale)) ∧
    (u8 b 0 = 1 → s.m.attn.programs.has id = true → u32 b 8 = 0xFFFFFFFF →
      (∀ k ∈ s.m.attn.cores.vals, ∀ r, k.run = some r → r.program ≠ id) → Does (.schedJobSet src) s
        ((({ s.m with sched := { s.m.sched with
          progBackground := s.m.sched.progBackground.put id (u8 b 1 == 1),
          progWeight := s.m.sched.progWeight.put id (u8 b 2) } }).followHolds).ok c []))) ∧
  (∀ (s : State) (src : Src) (c : RunCmd) (p : Nat), p = u8 c.payload 0 → s.m.present p = true →
    allZero c.payload 1 7 = true →
    (Fresh s src 0x0E20 c →
      (bit s.m.sched.suspended p = true → Does (.schedSuspend src) s (s.m.fail c .busy)) ∧
      (bit s.m.sched.suspended p = false → Does (.schedSuspend src) s
        ((((s.m.setSuspended (s.m.sched.suspended ||| 2 ^ p)).followHolds).await c [p]).finishSuspends))) ∧
    (s.m.live = true → s.m.cmdOf src = some c → c.opcode = 0x0E20 → c.stage = .waiting →
      Does (.schedSuspend src) s s.m.finishSuspends) ∧
    (Fresh s src 0x0E21 c →
      (bit s.m.sched.suspended p = false → Does (.schedResume src) s (s.m.fail c .busy)) ∧
      (bit s.m.sched.suspended p = true → Does (.schedResume src) s
        ((((s.m.setSuspended (s.m.sched.suspended - 2 ^ p)).schedRelease p).followHolds).ok c []))) ∧
    (Fresh s src 0x0E30 c → ∀ x, x = s.m.part p → Does (.schedPartitionQuery src) s (s.m.ok c
      (leBytes 8 x.attnMask ++ leBytes 2 x.strandFirst ++ leBytes 2 x.strandCount ++ leBytes 1 x.flags ++ zeros 3 ++
       leBytes 4 x.hbmQuota ++ leBytes 4 x.entryQuota ++ leBytes 4 x.ligQuota ++ leBytes 2 x.hostCredits ++ zeros 34)))) ∧
  (∀ (m : Module) (j : Nat) (job : Job), m.strand.jobs.get j = some job → m.jobHeld job = false →
    m.strand.jobs.wf = true →
    ∀ x, m.followHolds.strand.jobs.get j = some x → x.suspended = false ∧ x.window = none) ∧
  (∀ (s : State) (k n : Nat), s.m.live = true → s.m.sched.lastBoundary = some k → s.m.sched.epoch ≤ s.m.clk.now →
    n = (s.m.clk.now - s.m.sched.epoch) / 1000 → s.m.sched.epoch + (k + 1) * 1000 ≤ s.m.clk.now →
    (let m1 := (s.m.bumpBy Reg.SCHED.BUILD_SLOTS_UNUSED_COUNT (popcount 8 s.m.sched.buildSlot)).set
       Reg.SCHED.STATUS_BEFORE_EPOCH 0
     let m2 := if n % 16384 = 0 then m1.cycleStart else m1
     let m3 := m2.enterSlot n
     let e := if m3.sched.cycleOn then m3.bank.entries.getD (n % 16384) 0 else 0
     ((n % 16384 = 0 → s.m.sched.nextEpoch = none) → Does .slotBoundary s
       ({ m3 with sched := { m3.sched with buildSlot := bits e 15 8 &&& m3.bank.rtMask } } : Module).openBuilds) ∧
     m3.sched.lastBoundary = some n ∧
     (m2.sched.cycleOn = true → m3.sched.foreground = bits (m2.bank.entries.getD (n % 16384) 0) 7 0 &&& m2.bank.rtMask) ∧
     (m2.sched.cycleOn = false → m3.sched.foreground = 0))) ∧
  (∀ (m : Module) (p : Nat), p < 8 → bit m.sched.buildSlot p = true →
    (bit m.openBuilds.sched.buildSlot p = true ↔ m.buildReady p = true)) ∧
  (∀ (p : Nat × (Src → Instr) × (RunCmd → Module → Module)), p ∈
    ([(0x0300, .slidePlace, slidePlaceCmd), (0x0310, .slideSchedule, slideScheduleCmd),
      (0x0320, .slideSwapRegister, slideSwapRegisterCmd), (0x0321, .slideSwapRelease, slideSwapReleaseCmd),
      (0x0421, .attnProgramStart, programStartCmd), (0x0422, .attnProgramStop, programStopCmd),
      (0x0500, .stepAdmit, stepAdmitCmd), (0x0501, .stepAppend, stepAppendCmd), (0x0502, .stepWait, stepWaitCmd),
      (0x0503, .stepEnd, stepEndCmd), (0x0504, .stepQuery, stepQueryCmd), (0x0505, .stepSet, stepSetCmd),
      (0x0510, .stepBatch, stepBatchCmd), (0x0520, .stepPoolBind, poolBindCmd), (0x0521, .stepRingSet, ringSetCmd),
      (0x0700, .mouthTokenizerLoad, tokenizerLoadCmd), (0x0701, .mouthTokenizerUnload, tokenizerUnloadCmd),
      (0x0710, .mouthGrammarLoad, grammarLoadCmd), (0x0711, .mouthGrammarUnload, grammarUnloadCmd),
      (0x0712, .mouthGrammarSet, grammarSetCmd), (0x0720, .mouthStopLoad, stopLoadCmd),
      (0x0721, .mouthTextSet, textSetCmd), (0x0730, .mouthTokenize, tokenizeCmd),
      (0x0731, .mouthCarryFlush, carryFlushCmd), (0x0800, .boreIndexCreate, boreCreateCmd),
      (0x0801, .boreIndexDrop, boreDropCmd), (0x0802, .boreIndexInfo, boreInfoCmd), (0x0810, .boreQuery, boreQueryCmd),
      (0x0820, .boreInsert, boreInsertCmd), (0x0821, .boreDelete, boreDeleteCmd), (0x0830, .boreRepair, boreRepairCmd)]
      : List (Nat × (Src → Instr) × (RunCmd → Module → Module))) →
    ∀ (s : State) (src : Src) (c : RunCmd), s.m.live = true → s.m.cmdOf src = some c → c.opcode = p.1 → c.stage = .fresh →
      (s.m.laneTurn c = none → Idle (p.2.1 src) s) ∧
      (∀ m1, s.m.laneTurn c = some m1 → m1 = { s.m with sched := { s.m.sched with lanes := m1.sched.lanes } } ∧
        Does (p.2.1 src) s (p.2.2 c m1))) ∧
  (∀ (m : Module) (c x : RunCmd) (e q : Nat), laneEngine c.opcode = some e → m.lanePart c = some q → x ∈ m.laneRivals c →
    (m.laneBack c = true → m.laneBack x = false → m.laneTurn c = none) ∧
    (x ≠ c → laneEngine x.opcode = some e → m.lanePart x = some q → m.laneBack x = m.laneBack c →
      (∀ y ∈ m.host.running, (y.id = c.id → y = c) ∧ (y.id = x.id → y = x)) → x.stage = .fresh → x.answered = false →
      c.stage = .fresh → c.answered = false → (∀ h ∈ m.mirror.held, h.cmd ≠ c.id ∧ h.cmd ≠ x.id) → c ∈ m.host.running →
      (m.laneTurn c).isSome = true → m.laneTurn x = none)) ∧
  (∀ (s : State) (j start : Nat) (job : Job), s.m.live = true → s.m.strand.jobs.get j = some job → job.window = some start →
    DoesAt (.preemptWindowExpiry j) s (start + s.m.get Reg.SCHED.CTRL_PREEMPT_WINDOW_NS) (fun m =>
      ((((m.bump Reg.SCHED.WINDOW_EXPIRIES_COUNT).set Reg.SCHED.STATUS_WINDOW_EXPIRED 1).suspendJob j).blockEvent
        14).finishSuspends)) ∧
  (∀ (m : Module) (j : Nat) (job : Job), m.strand.jobs.get j = some job → m.lig.objs.wf = true → m.strand.jobs.wf = true →
    (let m1 := m.suspendJob j
     m1.ownedBy j = [] ∧
     (∃ x, m1.strand.jobs.get j = some x ∧ x.suspended = true ∧ x.window = none ∧ x.credits = 0) ∧
     (∀ t th, m1.strand.threads.get t = some th → th.job = j → th.suspended = true) ∧
     m1.sched.freeCredits.getD job.partition 0 = m.sched.freeCredits.getD job.partition 0 + job.credits))

/-- Session frames, retention, endpoints and the fabric map. A frame of type ADMIT, APPEND, END, ATTACH or ACK from an address
that no map entry holds is counted in RX_UNKNOWN, and a malformed one in RX_BAD; neither has another effect. A frame that
passes counts its bytes, releases the retained frames its ACK covers, and is applied once, in SEQ order: ADMIT takes a
request, APPEND appends its input, END ends the request and ATTACH sets its RETURN, each answered by one REPLY, and refused
with DENIED for another partition's request. A frame ahead of a gap is held; a repeat changes no request. A sequenced frame
sent is numbered and retained. The retained frame that falls due first is repeated, its interval doubling up to 8 ms. An
owed ACK leaves after 100 µs. A down endpoint loses its retained frames and its requests wait. A MAP of unknown source is
counted; one with a bad signature or an earlier version is rejected; the last part of a delivery installs the map; an
incomplete delivery is discarded after 1 s. REGISTER leaves every 100 ms until the map shows every endpoint named, and then
no more. Rules: R461, R462, R463, R466, R467, R468, R469, R473. -/
def Obligations.SessionsAreServedInOrder : Prop :=
  (∀ (p : Nat × (SessFrame → Instr)), p ∈ ([(1, .sessAdmit), (2, .sessAppend), (3, .sessEnd), (4, .sessAttach), (7, .sessAck)]
      : List (Nat × (SessFrame → Instr))) → ∀ (s : State) (f : SessFrame), s.m.live = true →
    ((∀ e ∈ s.m.bell.map.vals, ¬(e.address = f.srcAddr ∧ e.udpPort = f.srcPort)) →
      Does (p.2 f) s (s.m.bump Reg.BELL.RX_UNKNOWN_COUNT)) ∧
    ((∃ e ∈ s.m.bell.map.vals, e.address = f.srcAddr ∧ e.udpPort = f.srcPort) →
      (f.magic ≠ 0x4B46 ∨ f.version ≠ 1 ∨ f.type ≠ p.1 ∨ f.body.length < f.length ∨ f.check ≠ sessCrc (trimFrame f)) →
        Does (p.2 f) s (s.m.bump Reg.BELL.RX_BAD_COUNT))) ∧
  (∀ (m : Module) (f : SessFrame) (type : Nat), (∃ e ∈ m.bell.map.vals, e.address = f.srcAddr ∧ e.udpPort = f.srcPort) →
    f.magic = 0x4B46 → f.version = 1 → f.type = type → f.length = f.body.length → f.check = sessCrc f →
    (∀ x ∈ m.bell.policers.vals, x.endpoint ≠ f.src) → m.bell.takenOver = false → (m.session f.src).down = false →
    (∀ r ∈ (m.session f.src).retained, serialUnordered f.ack r.seq = false) →
    (let m1 := m.bumpBy Reg.BELL.RX_BYTES_COUNT (32 + f.body.length)
     let x := m1.session f.src
     m.ingress type f = (m1.setSession f.src { x with
       retained := x.retained.filter (fun r => !serialGE f.ack r.seq) }, true))) ∧
  (∀ (s : State) (f : SessFrame) (m1 : Module), s.m.live = true → s.m.ingress 7 (trimFrame f) = (m1, true) → Does (.sessAck f) s m1) ∧
  (∀ (p : Nat × (SessFrame → Instr) × (Nat → SessFrame → Module → Module)), p ∈
    ([(1, .sessAdmit, Module.applyAdmit), (2, .sessAppend, Module.applyAppend), (3, .sessEnd, Module.applyEnd),
      (4, .sessAttach, Module.applyAttach)] : List (Nat × (SessFrame → Instr) × (Nat → SessFrame → Module → Module))) →
    ∀ (s : State) (f0 f : SessFrame) (m1 : Module) (k : Nat), s.m.live = true → f = trimFrame f0 → s.m.ingress p.1 f = (m1, true) →
      f.seq < 2 ^ 32 →
      (m1.sessionOf f = none → Does (p.2.1 f0) s (m1.bump Reg.BELL.RX_UNKNOWN_COUNT)) ∧
      (m1.sessionOf f = some k → f.flags % 2 = 0 → (m1.session k).rxOpen = true →
        (∀ x, x = m1.session k →
          (f.seq = x.rxNext → x.ahead = [] → m1.sessBlocked f = false →
            (let m2 := { m1 with mirror := { m1.mirror with held := m1.mirror.held.filter (fun h => h.cmd != sessHeldId k) } }
             let m3 := m2.setSession k { x with
               rxNext := (f.seq + 1) % 2 ^ 32, ackOwed := some (x.ackOwed.getD s.m.clk.mono) }
             Does (p.2.1 f0) s ((p.2.2 k f m3).drainSess k 65 false))) ∧
          (serialLater f.seq x.rxNext = true → x.ahead.length < 64 → (∀ g ∈ x.ahead, g.seq ≠ f.seq ∧ g.seq ≠ x.rxNext) →
            Does (p.2.1 f0) s (m1.setSession k { x with
              ahead := x.ahead ++ [f], ackOwed := some (x.ackOwed.getD s.m.clk.mono) })) ∧
          (serialLater x.rxNext f.seq = true → x.rxNext < 2 ^ 32 → ∃ t, exec (p.2.1 f0) s = .next t ∧ t.m.steps = m1.steps ∧
            t.m.caps = m1.caps ∧ t.m.account = m1.account)))) ∧
  (∀ (m : Module) (k n : Nat) (force : Bool), (∀ g ∈ (m.session k).ahead, g.seq ≠ (m.session k).rxNext) →
    m.drainSess k n force = m) ∧
  (∀ (m : Module) (k i : Nat) (f : SessFrame) (r : Req), i = u32 f.body 0 → f.capsule % 256 ≠ 255 → m.request i f.capsule = some r →
    (r.partition ≠ m.frontPart k →
      (8 ≤ f.body.length → m.applyAppend k f = m.reply k f .denied i) ∧
      (4 ≤ f.body.length → m.applyEnd k f = m.reply k f .denied i ∧ m.applyAttach k f = m.reply k f .denied i)) ∧
    (r.partition = m.frontPart k → 4 ≤ f.body.length →
      m.applyAttach k f = ((m.updReq i (fun r => { r with return_ := k })).touchReq i).reply k f .ok i ∧
      (r.state ≠ 5 → m.fenced = false → m.applyEnd k f = (m.endByHost i 3 none).reply k f .ok i) ∧
      (∀ x, 8 ≤ f.body.length → u8 f.body 4 ≤ 1 → allZero f.body 5 3 = true →
        (u8 f.body 4 = 0 → (f.body.length - 8) % 4 = 0) → r.state ≠ 5 → m.fenced = false →
        x = m.parseInput f.capsule (u8 f.body 4) (f.body.drop 8) → x ≠ .bad → m.inputFits r x.list.length = true →
        m.applyAppend k f = (m.addInput i x).reply k f .ok i))) ∧
  (∀ (m : Module) (k : Nat) (f : SessFrame) (a : Admit) (b inp : Bytes), b = f.body → 0x38 ≤ b.length → inp = b.drop 0x38 →
    a = { Admit.ofPayload (b.take 0x38) with return_ := k } → allZero b 0x0A 2 = true → allZero b 0x34 4 = true →
    a.capsule % 256 ≠ 255 → m.present a.partition = true → a.flags ≤ 3 → u8 b 7 ≤ 1 → a.model < 64 → u32 b 0x18 = f.src →
    u64 b 0x28 = 0 → u32 b 0x30 = inp.length → inp.length ≤ 16777216 → (u8 b 7 = 0 → inp.length % 4 = 0) →
    m.tokensOk a.capsule (u8 b 7) inp = true → m.frontPart k = a.partition →
    (m.admitFails a 8 0x20 0x1C 0x38 (u8 b 7) inp = none →
      m.applyAdmit k f = (m.admitNow a (u8 b 7) inp).1.reply k f .ok (m.admitNow a (u8 b 7) inp).2) ∧
    (∀ v, m.admitFails a 8 0x20 0x1C 0x38 (u8 b 7) inp = some v → m.applyAdmit k f =
      (((((m.choose (2 ^ 32)).2.loadHeader a.capsule).loadMap a.capsule).countRefused v.status).countDenial v).reply k f v.status
        (m.choose (2 ^ 32)).1)) ∧
  (∀ (m : Module) (dst own q type cap : Nat) (body : Bytes), type ≠ 7 → type ≠ 8 →
    (let x := m.session dst
     let y := (m.sessPut dst own q type cap body).session dst
     ∃ r, y.retained = x.retained ++ [r] ∧ r.seq = x.txNext ∧ r.frame.seq = x.txNext ∧ r.frame.type = type ∧
       r.frame.src = own ∧ r.frame.capsule = cap ∧ r.frame.body = body ∧ r.frame.check = sessCrc { r.frame with check := 0 } ∧
       r.frame.flags = (if x.txFresh then 1 else 0) ∧ y.txNext = (x.txNext + 1) % 2 ^ 32 ∧ y.ackOwed = none)) ∧
  (∀ (s : State) (k : Nat) (e : MapEntry) (x : Session), s.m.live = true → x = s.m.session k → s.m.endpoint (k % 2 ^ 32) = some e →
    (∀ r, firstDue x.retained = some r → x.down = false → DoesAt (.sessionRetransmit k) s (r.sent + r.interval) (fun m =>
      let q := if e.partition < 8 then m.queueFor (k % 2 ^ 32) e.partition else 16
      ((m.setSession k { x with retained := x.retained.map (fun y => if y.seq = r.seq then
          { y with sent := m.clk.mono, interval := Min.min (2 * y.interval) 8000000 } else y) }).enqueue q
        (.session (k % 2 ^ 32) r.frame)).bump Reg.BELL.RETRANSMITS_COUNT)) ∧
    (∀ t, x.ackOwed = some t → DoesAt (.sessionAckTimer k) s (t + 100000) (fun m => m.sessSend k 7 0xFFFFFFFF [])) ∧
    (∀ r rs, x.retained = r :: rs → x.down = false →
      (s.m.get Reg.BELL.SESSION_RETAIN_MAX_KIB * 1024 ≤ x.retainedBytes ∨
        r.first + 1000000 * s.m.get Reg.BELL.SESSION_DOWN_MS ≤ s.m.clk.mono) →
      (let lost := (x.retained.filter (fun r => r.frame.type == 6)).foldl (fun n r =>
         n + countRecords (r.frame.body.length / 24 + 1) r.frame.body) 0
       let m1 := s.m.setSession k { x with retained := [], down := true, ackOwed := none }
       let m2 := m1.steps.reqs.foldl (fun (a : Module) q =>
         if q.2.return_ = k ∧ bit q.2.flags 2 = false ∧ q.2.reserved = none then a.waitReq q.1 else a) m1
       Does (.endpointDown k) s (((m2.bumpBy Reg.BELL.OUTPUT_LOST_COUNT lost).set Reg.BELL.STATUS_ENDPOINT_DOWN 1).event 0x1002
         e.partition 1 (k % 2 ^ 32) lost)))) ∧
  (∀ (l : List Retained) (r : Retained), firstDue l = some r → r ∈ l ∧ ∀ x ∈ l, r.sent + r.interval ≤ x.sent + x.interval) ∧
  (∀ (m : Module) (i : Nat) (r : Req), m.steps.reqs.get i = some r → m.steps.reqs.wf = true →
    (r.state = 1 → ∃ x, (m.waitReq i).steps.reqs.get i = some x ∧ x.state = 3) ∧
    ((r.state = 2 ∨ r.state = 4) → ∃ x, (m.waitReq i).steps.reqs.get i = some x ∧ x.state = r.state ∧ bit x.flags 5 = true)) ∧
  (∀ (s : State) (f : SessFrame) (b : Bytes) (m2 : Module), s.m.live = true → f.length = f.body.length → b = f.body →
    (s.m.mapSource f = false → Does (.fabricMap f) s (s.m.bump Reg.BELL.RX_UNKNOWN_COUNT)) ∧
    (s.m.mapSource f = true → f.magic = 0x4B46 → f.version = 1 → f.type = 10 → f.check = sessCrc f →
      (m2 = (let m1 := (s.m.bumpBy Reg.BELL.RX_BYTES_COUNT (32 + b.length)).sessAcked f.src f.ack
             let x := m1.session f.src
             m1.setSession f.src { x with rxOpen := true, rxNext := (f.seq + 1) % 2 ^ 32, down := false,
                                          ackOwed := some (x.ackOwed.getD s.m.clk.mono) }) →
       s.m.bell.mapInstalled = false ∨ serialUnordered (u32 b 0) s.m.bell.mapVersion = false →
       (m2.mapValid b = false → Does (.fabricMap f) s (m2.rejectMap (u32 b 0) f.srcAddr)) ∧
       (m2.mapValid b = true → m2.bell.delivery = none → u16 b 6 = 1 →
         (let es := (List.range ((b.length - 72) / 32)).map (fun i => MapEntry.ofBytes (slice b (8 + 32 * i) 32))
          let d : MapDelivery := ⟨u32 b 0, 1, s.m.clk.mono, [(0, es)]⟩
          Does (.fabricMap f) s (m2.installMap d) ∧ (m2.installMap d).bell.mapVersion = u32 b 0 ∧
          (m2.installMap d).bell.delivery = none ∧
          (∀ e ∈ (m2.installMap d).bell.map.vals, e ∈ es ∧ e.endpoint ≠ 0)))))) ∧
  (∀ (m : Module) (b : Bytes), m.mapValid b = true →
    (∃ key, m.secur.fabricKey = some key ∧ Config.edVerify key (b.take (b.length - 64)) (b.drop (b.length - 64)) = true) ∧
    (m.bell.mapInstalled = true → serialLater (u32 b 0) m.bell.mapVersion = true)) ∧
  (∀ (s : State) (d : MapDelivery), s.m.live = true → s.m.bell.delivery = some d →
    DoesAt .mapDeliveryTimeout s (d.started + 1000000000) (fun m => { m with bell := { m.bell with delivery := none } })) ∧
  (∀ s : State, s.m.live = true →
    (s.m.namedEndpoints.all s.m.shown = true → Idle .registerFrameDue s) ∧
    (s.m.namedEndpoints.all s.m.shown = false → s.m.bell.mapInstalled = false →
      DoesAt .registerFrameDue s ((s.m.bell.lastRegister.map (· + 100000000)).getD 0) (fun m =>
        let m1 := m.sessPut (s.m.get Reg.BELL.FM_ADDR_ENDPOINT % 2 ^ 32) 0 16 9 capNone m.registerBody
        { m1 with bell := { m1.bell with lastRegister := some m.clk.mono } })))

/-- Ports, egress queues, gates and the Reed arbiters. For fresh commands whose fields pass. BELL_PORT_SET stores the port,
takes its links down and waits for them, BUSY while a gate list of the port waits; BELL_PORT_STATUS shows four sub-ports.
BELL_QUEUE_SET sets a queue, DENIED for another partition's endpoint and BUSY for one bound elsewhere; BELL_QUEUE_SAMPLE
returns the samples and resets the maxima; BELL_POLICER_SET sets or unbinds a policer; BELL_GATE_LOAD makes a list wait,
BUSY while one waits; BELL_ENDPOINT_QUERY returns the map entry, EXHAUSTED without one. In the running module: a link change
sets UP and its time and completes the BELL_PORT_SET that waited for it alone; PFC pauses and resumes the classes that
BELL.PFC names; every 10,000 ns each queue outside Mute mode is sampled; an interval's end puts the gates to the new
interval's states; a list with no old list begins when BASE_TIME has passed (the model's choice, assumption 124). An RDMA
request to the module puts the queue pair in error; a CNP slows it. At a transmission opportunity a frame goes to the
arbiter whose gate is open and whose peak bucket holds it, committed before others and then by class. A free arbiter grants,
among eligible requests, the highest priority and then the next in cyclic order, or the earliest arrival, or the longest
waiter when the Nth grant is due; a granted frame leaves. A data-class grant that reaches BURST_NS is cut off and flagged; a
partition-class one passes on when another waits. Rules: R426, R427, R429, R459, R463, R471, R472, R474, R475, R480, R481,
R484. -/
def Obligations.PortsQueuesGatesAndArbiters : Prop :=
  (∀ (s : State) (src : Src) (c : RunCmd) (b : Bytes) (p : Nat), Fresh s src 0x1000 c → b = c.payload → p = u8 b 0 →
    allZero b 6 2 = true → p ≤ 3 → u8 b 1 ≤ 3 → 1500 ≤ u16 b 2 → u16 b 2 ≤ 9000 → bits (u16 b 4) 14 12 = 0 →
    ((∃ i < 4, (s.m.subport (4 * p + i)).nextGates ≠ none) → Does (.bellPortSet src) s (s.m.fail c .busy)) ∧
    ((∀ i < 4, (s.m.subport (4 * p + i)).nextGates = none) →
      (let m1 := { s.m with bell := { s.m.bell with ports := s.m.bell.ports.set p ⟨u8 b 1, u16 b 2, u16 b 4⟩ } }
       let m2 := (List.range 4).foldl (fun (a : Module) i => a.setSubport (4 * p + i)
         { a.subport (4 * p + i) with up := false, lastChange := s.m.clk.now % 2 ^ 32 }) m1
       Does (.bellPortSet src) s (m2.await c
         (p :: ((List.range 4).map (fun i => 4 * p + i)).filter m1.subportUsed))))) ∧
  (∀ (s : State) (src : Src) (c : RunCmd) (p : Nat), Fresh s src 0x1001 c → p = u8 c.payload 0 → allZero c.payload 1 7 = true →
    p ≤ 3 → Does (.bellPortStatus src) s (s.m.ok c ((List.range 4).flatMap (fun i =>
      let x := s.m.subport (4 * p + i)
      leBytes 1 (b2n x.up) ++ leBytes 2 (if x.up then s.m.subportRate (4 * p + i) / 125 else 0) ++ zeros 1 ++
        leBytes 4 x.lastChange)))) ∧
  (∀ (s : State) (src : Src) (c : RunCmd) (b : Bytes) (q part bind : Nat), Fresh s src 0x1010 c → b = c.payload → q = u16 b 0 →
    part = u8 b 4 → bind = u32 b 8 → allZero b 6 2 = true → allZero b 0x0C 4 = true → q ≤ 4095 → u8 b 2 ≤ 15 → u8 b 3 ≤ 7 →
    (part ≤ 7 ∨ part = 0xFF) → (q < 8 → part = q) → (8 ≤ q → q < 16 → part = q - 8) → (16 ≤ q → q < 18 → part = 0xFF) →
    1 ≤ u8 b 5 → (q < 18 → bind = 0) → u64 b 0x10 ≤ u64 b 0x18 → 9000 ≤ u32 b 0x20 → 9000 ≤ u32 b 0x24 →
    (∀ x ∈ s.m.bell.ports, x.mtu ≤ 9000) →
    (∀ e, bind ≠ 0 → s.m.endpoint bind = some e → e.partition ≠ part → e.partition ≠ 0xFF →
      Does (.bellQueueSet src) s (s.m.fail c .denied)) ∧
    (∀ e k x, bind ≠ 0 → s.m.endpoint bind = some e → (e.partition = part ∨ e.partition = 0xFF) → (k, x) ∈ s.m.bell.queues →
      k ≠ q → x.bind = bind → Does (.bellQueueSet src) s (s.m.fail c .busy)) ∧
    ((bind = 0 ∨ ((∃ e, s.m.endpoint bind = some e ∧ (e.partition = part ∨ e.partition = 0xFF)) ∧
        ∀ y ∈ s.m.bell.queues, y.1 = q ∨ y.2.bind ≠ bind)) →
      Does (.bellQueueSet src) s ((s.m.setQueue q { s.m.queue q with
        portMask := u8 b 2, tc := u8 b 3, partition := part, weight := u8 b 5, bind := bind, cir := u64 b 0x10,
        pir := u64 b 0x18, cbs := u32 b 0x20, pbs := u32 b 0x24, cLevel := u32 b 0x20, pLevel := u32 b 0x24,
        filled := s.m.clk.mono }).ok c []))) ∧
  (∀ (s : State) (src : Src) (c : RunCmd) (q : Nat), Fresh s src 0x1011 c → q = u16 c.payload 0 → q ≤ 4095 →
    allZero c.payload 2 6 = true → ∀ x, x = s.m.queue q → Does (.bellQueueSample src) s
      ((s.m.setQueue q { x with depthMax := 0, delayMax := 0 }).ok c (leBytes 4 x.depthNow ++ leBytes 4 x.depthMax ++
        leBytes 4 x.delayNow ++ leBytes 4 x.delayMax ++ leBytes 8 x.framesSent))) ∧
  (∀ (s : State) (src : Src) (c : RunCmd) (b : Bytes) (k e : Nat), Fresh s src 0x1020 c → b = c.payload → k = u16 b 0 →
    e = u32 b 4 → k ≤ 1023 → u8 b 2 ≤ 1 → allZero b 3 1 = true → u64 b 8 ≤ u64 b 0x10 →
    (e = 0 → Does (.bellPolicerSet src) s
      (({ s.m with bell := { s.m.bell with policers := s.m.bell.policers.del k } }).ok c [])) ∧
    (∀ x, e ≠ 0 → s.m.endpoint e = some x → x.kind = 1 →
      ((∃ y ∈ s.m.bell.policers, y.1 ≠ k ∧ y.2.endpoint = e) → Does (.bellPolicerSet src) s (s.m.fail c .busy)) ∧
      ((∀ y ∈ s.m.bell.policers, y.1 = k ∨ y.2.endpoint ≠ e) →
        (let pl : Policer := ⟨e, u8 b 2 == 1, u64 b 8, u64 b 0x10, u32 b 0x18, u32 b 0x1C, u32 b 0x18, u32 b 0x1C,
           s.m.clk.mono, 0⟩
         Does (.bellPolicerSet src) s
           (({ s.m with bell := { s.m.bell with policers := s.m.bell.policers.put k pl } }).ok c []))))) ∧
  (∀ (s : State) (src : Src) (c : RunCmd) (b : Bytes) (sp n addr : Nat), Fresh s src 0x1030 c → b = c.payload → sp = u8 b 0 →
    n = u16 b 2 → addr = u64 b 0x10 → allZero b 1 1 = true → allZero b 4 4 = true → sp ≤ 15 → 1 ≤ n → n ≤ 256 →
    ((s.m.subport sp).nextGates ≠ none → Does (.bellGateLoad src) s (s.m.fail c .busy)) ∧
    ((s.m.subport sp).nextGates = none → s.m.host.linkUp = true → s.m.host.d3hot = false →
      ∀ es, es = (List.range n).map (fun i => s.m.cmdRead c (addr + 8 * i) 8) →
        (∀ e ∈ es, allZero e 1 3 = true ∧ 100 ≤ u32 e 4 ∧ u32 e 4 ≤ 1000000000) →
        Does (.bellGateLoad src) s ((s.m.setSubport sp { s.m.subport sp with
          nextGates := some ⟨u64 b 8, es.map (fun e => (u8 e 0, u32 e 4))⟩ }).await c [sp]))) ∧
  (∀ (s : State) (src : Src) (c : RunCmd) (e : Nat), Fresh s src 0x1031 c → e = u32 c.payload 0 → allZero c.payload 4 4 = true →
    (s.m.endpoint e = none → Does (.bellEndpointQuery src) s (s.m.fail c .exhausted)) ∧
    (∀ x, s.m.endpoint e = some x → Does (.bellEndpointQuery src) s (s.m.ok c
      (leBytes 4 x.endpoint ++ leBytes 1 x.kind ++ leBytes 1 x.partition ++ leBytes 2 x.udpPort ++ leBytes 16 x.address ++
        leBytes 8 x.serial ++ leBytes 4 s.m.bell.mapVersion)))) ∧
  (∀ (s : State) (sp : Nat) (up : Bool), s.m.live = true → sp < 16 →
    (let m1 := s.m.setSubport sp { s.m.subport sp with up := up && s.m.subportUsed sp, lastChange := s.m.clk.now % 2 ^ 32 }
     let m2 := { m1 with bell := { m1.bell with lastRegister := none } }
     (s.m.waitingCmds 0x1000 (fun c => (c.data.drop 1).contains sp) = [] → Does (.subportLinkChange sp up) s m2) ∧
     (∀ c, s.m.waitingCmds 0x1000 (fun c => (c.data.drop 1).contains sp) = [c] → (∀ i ∈ c.data.drop 1, i = sp) →
       Does (.subportLinkChange sp up) s (m2.ok c [])))) ∧
  (∀ (s : State) (sp classes pause : Nat), s.m.live = true → sp < 16 → s.m.bell.subports.length = 16 →
    ∃ n, Does (.priorityFlowControl sp classes pause) s (s.m.setSubport sp { s.m.subport sp with paused := n }) ∧
      ∀ i < 8, bit n i = (if bit classes i = true ∧ bit (s.m.get Reg.BELL.PFC_CLASSES) i = true then bit pause i
        else bit (s.m.subport sp).paused i)) ∧
  (∀ s : State, s.m.live = true → DoesAt .queueSampleTick s (s.m.bell.lastSample + 10000) (fun m => { m with bell := { m.bell with
    lastSample := m.clk.mono,
    queues := m.bell.queues.mapV (fun _ x =>
      if m.mute x.partition then { x with depthNow := 0, depthMax := 0, delayNow := 0, delayMax := 0 }
      else
        let w := (x.frames.head?.map (fun f => m.clk.mono - f.since)).getD 0
        { x with depthNow := x.depth, depthMax := Max.max x.depthMax x.depth, delayNow := w,
                 delayMax := Max.max x.delayMax w }) } })) ∧
  (∀ (s : State) (sp : Nat) (g : GateList), s.m.live = true → sp < 16 →
    ((s.m.subport sp).gates = some g → (s.m.subport sp).nextGates = none →
      DoesAt (.gateIntervalEnd sp) s (s.m.clk.mono + (g.at s.m.clk.now).2) (fun m => m.setSubport sp { m.subport sp with
        gateState := (nthD g.entries (g.at m.clk.now).1 (255, 1)).1 ||| 128 })) ∧
    ((s.m.subport sp).gates = none → (s.m.subport sp).nextGates = some g → g.baseTime ≤ s.m.clk.now →
      s.m.bell.subports.length = 16 →
      (let m1 := s.m.setSubport sp { s.m.subport sp with gates := some g, nextGates := none }
       let m2 := (m1.waitingCmds 0x1030 (fun c => c.data.headD 99 == sp)).foldl (fun (a : Module) c => a.ok c []) m1
       Does (.gateIntervalEnd sp) s (m2.setSubport sp { m2.subport sp with
         gateState := (nthD g.entries (g.at s.m.clk.now).1 (255, 1)).1 ||| 128 })))) ∧
  (∀ (s : State) (e : Nat) (qp : QueuePair), s.m.live = true → s.m.bell.qps.get e = some qp →
    Does (.cnp e) s { s.m with bell := { s.m.bell with qps := s.m.bell.qps.upd e (fun q => { q with slowed := true }) } } ∧
    (∀ x, s.m.endpoint e = some x → x.partition < 8 →
      (let m1 := s.m.enqueue (s.m.queueFor e (8 + x.partition)) (.nak e)
       Does (.rdmaTargetingModule e) s
         ((({ m1 with bell := { m1.bell with qps := m1.bell.qps.put e { qp with error := true } } }).bump
           Reg.BELL.QP_ERRORS_COUNT).set Reg.BELL.STATUS_QP_ERROR 1)))) ∧
  (∀ (s : State) (sp : Nat), s.m.live = true → sp < 16 →
    ((s.m.subport sp).up = false → Idle (.transmitOpportunity sp) s) ∧
    ((s.m.subport sp).up = true → s.m.bell.subports.length = 16 → s.m.bell.queues.wf = true →
      ∀ (m : Module) (ok : Nat × EgressQueue × QFrame → Prop), m = s.m.dropOversize sp →
        (∀ q x f, ok (q, x, f) ↔ ∃ x0, (q, x0) ∈ m.bell.queues ∧ x = x0.fill m.clk.mono ∧ m.headOn sp x = some f ∧
          (f.pkt.ungated = true ∨ m.gateFits sp x.tc f.bytes = true) ∧ m.flowFirst q f = true ∧
          bit (s.m.subport sp).paused x.tc = false ∧ (x.pir = 0 ∨ f.bytes ≤ x.pLevel)) →
        ∃ t, exec (.transmitOpportunity sp) s = .next t ∧ t.m.hbm = s.m.hbm ∧ t.m.caps = s.m.caps ∧ t.m.steps = s.m.steps ∧
          ((∀ z, ¬ok z) → (t.m.subport sp).atArbiter = (s.m.subport sp).atArbiter) ∧
          (∀ z, ok z → ∃ q x f, ok (q, x, f) ∧
            (t.m.subport sp).atArbiter = (s.m.subport sp).atArbiter ++
              [((producer q x.partition f.pkt).1 * 16 + (producer q x.partition f.pkt).2, f)] ∧
            ((z.2.1.cir = 0 ∨ z.2.2.bytes ≤ z.2.1.cLevel) → (x.cir = 0 ∨ f.bytes ≤ x.cLevel) ∧ z.2.1.tc ≤ x.tc)))) ∧
  (∀ (m : Module) (lr : Nat → Nat) (i : Nat) (x : ReedInst) (cands : List ReedReq), x = m.reedInst i → x.holder = none →
    cands = x.waiting.filter (m.reedEligible lr i) → cands ≠ [] → m.reed.wf = true →
    ∃ win ∈ cands, ∃ y, y = (m.reedDecide lr i).reedInst i ∧ y.holder = some { win with waited := 0, flagged := false } ∧
      y.lastHolder = win.requester ∧ y.granted = m.clk.mono ∧
      (let due := m.flag (reedFld Reg.REED.CTRL_STARVE_MODE i) = false ∧ m.get (reedFld Reg.REED.CTRL_N i) ≤ x.nth + 1
       ((due ∨ m.flag (reedFld Reg.REED.CTRL_POLICY i) = true) → ∀ r ∈ cands, win.arrival ≤ r.arrival) ∧
       (due → y.nth = 0) ∧
       (¬due → m.flag (reedFld Reg.REED.CTRL_POLICY i) = false → ∀ r ∈ cands,
         m.prio i r.requester ≤ m.prio i win.requester ∧
         (m.prio i r.requester = m.prio i win.requester →
           reedDistance x.lastHolder win.requester ≤ reedDistance x.lastHolder r.requester)))) ∧
  (∀ (s : State) (i : Nat), s.m.live = true → i < 93 →
    (¬(72 ≤ i ∧ i < 88) → Does (.reedDecision i) s (s.m.reedDecide s.m.linkRate i)) ∧
    (72 ≤ i → i < 88 → Does (.reedDecision i) s ((s.m.reedDecide s.m.linkRate i).egressGrant (i - 72)))) ∧
  (∀ (m : Module) (sp : Nat) (h : ReedReq) (f : QFrame), (m.reedInst (72 + sp)).holder = some h →
    (m.subport sp).atArbiter = [(h.requester * 16 + h.tag, f)] → m.egressGrant sp =
      (((m.reedDrop (72 + sp) h.requester h.tag).setSubport sp { m.subport sp with atArbiter := [] }).emit
        (.packet sp f.pkt)).bumpBy Reg.BELL.TX_BYTES_COUNT f.bytes) ∧
  (∀ (s : State) (i : Nat) (x : ReedInst) (h : ReedReq), s.m.live = true → i < 93 → x = s.m.reedInst i → x.holder = some h →
    s.m.flag (reedFld Reg.REED.CTRL_SLOT i) = false →
    (i < 89 → DoesAt (.burstExpiry i) s (x.granted + s.m.get (reedFld Reg.REED.BURST_BURST_NS i)) (fun m =>
      let m1 := m.setReed i { x with
        holder := none, waiting := x.waiting ++ [{ h with arrival := m.clk.mono, waited := 0, flagged := false }] }
      ((m1.setBit (reedFld Reg.REED.STATUS_OVERSTAY i) h.requester).bump (reedFld Reg.REED.OVERSTAYS_COUNT i)).event 0x0F01 0xFF
        2 i h.requester)) ∧
    (89 ≤ i → DoesAt (.burstExpiry i) s (x.granted + s.m.get (reedFld Reg.REED.BURST_BURST_NS i)) (fun m =>
      if x.waiting = [] then m else m.setReed i { x with
        holder := none, waiting := x.waiting ++ [{ h with arrival := m.clk.mono, waited := 0, flagged := false }] })))

/-- The time counter, the event recorder and the check-value units. A read of NOW_NS gives the counter and latches its fraction.
TIME_SET puts the counter to NS, DENIED once an enabled PTP has set it; TIME_STEP_ALLOW admits one step. An Announce of the
domain becomes the master when none is chosen or it ranks before; three silent intervals give holdover. A PTP measurement
whose delay is an outlier is counted; a small offset slews, and sixteen of at most 100 ns in a row lock (smoothing and slew
rate are the model's, assumptions 7 and 5); three large ones that agree step the counter by the offset, or are refused
beyond the limits. EVREC_NOTE queues a record with the next SEQ, BUSY when suppressed, NO_SPACE when dropped. The record at
the head of the queue is programmed and stays readable; with no room the recorder is FULL. At a second's end the counts
start again. A clear keeps every record after its bound. A write of CURSOR or ADVANCE starts a load; a load shows the
admitted record with the least SEQ. CHECK_CONFIG sets a unit's parameters, each preset's value for "123456789" as its table
says; CHECK_SCAN computes, appends, or verifies and strips, DAMAGED on a mismatch. Rules: R476, R477, R478, R485, R514,
R517, R518, R519, R521, R523, R526, R530. -/
def Obligations.TimeRecorderAndCheckUnitsAct : Prop :=
  (∀ s : State, s.m.live = true → Does .nowNsRead s
    ((s.m.set Reg.TIME.NOW_FRAC_FRAC s.m.clk.frac).emit (.regData Reg.TIME.NOW_NS_NS.off s.m.clk.now))) ∧
  (∀ (s : State) (src : Src) (c : RunCmd),
    (Fresh s src 0x1100 c → s.m.clk.fits = true →
      (s.m.flag Reg.TIME.PTP_ENABLE = true → s.m.ptp.setByPtp = true → Does (.timeSet src) s (s.m.fail c .denied)) ∧
      ((s.m.flag Reg.TIME.PTP_ENABLE = false ∨ s.m.ptp.setByPtp = false) →
        (let m1 := ((s.m.stepTo (u64 c.payload 0)).set Reg.TIME.STATUS_SET 1).ok c []
         exec (.timeSet src) s = .next { s with m := { m1 with clk := { s.m.clk with now := u64 c.payload 0 } } }))) ∧
    (Fresh s src 0x1101 c → allZero c.payload 0 c.payload.length = true →
      Does (.timeStepAllow src) s (({ s.m with ptp := { s.m.ptp with stepAllowed := true } }).ok c []))) ∧
  (∀ (s : State) (a : Announce), s.m.live = true → a.subport < 16 → s.m.flag Reg.TIME.PTP_ENABLE = true →
    a.domain = s.m.get Reg.TIME.PTP_DOMAIN →
    (let m1 := { s.m with ptp := { s.m.ptp with master := some a, lastAnnounce := s.m.clk.mono } }
     let m2 := ((m1.set Reg.TIME.MASTER_CLOCK_ID a.clockId).set Reg.TIME.STATUS_PTP_SUBPORT a.subport).set
       Reg.TIME.STATUS_HOLDOVER 0
     (s.m.ptp.master = none → Does (.ptpAnnounce a) s m2) ∧
     (∀ b, s.m.ptp.master = some b →
       ((b.clockId = a.clockId ∧ b.subport = a.subport) ∨ rankBefore (annRank a) (annRank b) = true →
         Does (.ptpAnnounce a) s m2) ∧
       (¬((b.clockId = a.clockId ∧ b.subport = a.subport) ∨ rankBefore (annRank a) (annRank b) = true) →
         Idle (.ptpAnnounce a) s)))) ∧
  (∀ (s : State) (a : Announce), s.m.live = true → s.m.ptp.master = some a →
    DoesAt .ptpAnnounceTimeout s (s.m.ptp.lastAnnounce + 3 * a.intervalNs) (fun m =>
      (({ m with ptp := { m.ptp with master := none, smallRun := 0, largeRun := [] } }).set Reg.TIME.STATUS_HOLDOVER 1).set
        Reg.TIME.STATUS_LOCKED 0)) ∧
  (∀ (s : State) (o d mean : Int) (m1 : Module), s.m.live = true → s.m.clk.fits = true → s.m.flag Reg.TIME.PTP_ENABLE = true →
    s.m.ptp.master.isSome = true → mean = s.m.ptp.meanDelay.getD d →
    m1 = (({ s.m with ptp := { s.m.ptp with meanDelay := some (mean + (d - mean) / 8) } } : Module).set Reg.TIME.OFFSET_NS
      (trunc 64 o)) →
    ((s.m.get Reg.TIME.PTP_OUTLIER_NS : Int) < |d - mean| →
      Does (.ptpTimingMessage o d) s (s.m.bump Reg.TIME.OUTLIERS_COUNT)) ∧
    (|d - mean| ≤ (s.m.get Reg.TIME.PTP_OUTLIER_NS : Int) →
      (|o| < (s.m.get Reg.TIME.STEP_THRESHOLD_NS : Int) →
        (let small := if |o| ≤ 100 then Min.min (s.m.ptp.smallRun + 1) 16 else 0
         let m3 := ({ m1 with ptp := { m1.ptp with smallRun := small, largeRun := [] } } : Module).slew
         (small ≠ 16 → Does (.ptpTimingMessage o d) s m3) ∧
         (small = 16 → Does (.ptpTimingMessage o d) s
           ((({ m3 with ptp := { m3.ptp with setByPtp := true } }).set Reg.TIME.STATUS_LOCKED 1).set Reg.TIME.STATUS_SET 1)))) ∧
      ((s.m.get Reg.TIME.STEP_THRESHOLD_NS : Int) ≤ |o| →
        (s.m.ptp.largeRun = [] → Does (.ptpTimingMessage o d) s
          { m1 with ptp := { m1.ptp with smallRun := 0, largeRun := [o] } }) ∧
        (∀ a b, s.m.ptp.largeRun = [a, b] → agree [a, b, o] = true →
          (let m2 : Module := { m1 with ptp := { m1.ptp with smallRun := 0, largeRun := [a, b, o] } }
           let beyond := (0 ≤ o ∧ (s.m.get Reg.TIME.STEP_MAX_NS : Int) < o) ∨
             (o < 0 ∧ (s.m.get Reg.TIME.BACK_MAX_NS : Int) < -o)
           (beyond → s.m.flag Reg.TIME.STATUS_SET = true → s.m.ptp.stepAllowed = false → Does (.ptpTimingMessage o d) s
             ((m2.set Reg.TIME.STATUS_STEP_REFUSED 1).event 0x1102 0xFF 2 (trunc 64 o) 0)) ∧
           ((¬beyond ∨ s.m.flag Reg.TIME.STATUS_SET = false ∨ s.m.ptp.stepAllowed = true) →
             exec (.ptpTimingMessage o d) s = .next { s with m := { (m2.ptpStep o) with
               clk := { s.m.clk with now := trunc 64 ((s.m.clk.now : Int) + o) } } })))))) ∧
  (∀ (s : State) (src : Src) (c : RunCmd) (b : Bytes) (n : Nat), Fresh s src 0x1300 c → b = c.payload → n = u16 b 0 →
    allZero b 3 5 = true → 8 ≤ n → n ≤ 1024 → n % 8 = 0 → u8 b 2 ≤ 3 → 8 + n ≤ b.length →
    allZero b (8 + n) (b.length - (8 + n)) = true →
    (s.m.offerFate 0x1304 (40 + n) = .queued → Does (.evrecNote src) s
      (((s.m.offer 0x1304 0xFF (u8 b 2) (slice b 8 n)).blockEvent 19).ok c (leBytes 8 s.m.ev.nextSeq))) ∧
    (s.m.offerFate 0x1304 (40 + n) = .suppressed → Does (.evrecNote src) s
      ((s.m.offer 0x1304 0xFF (u8 b 2) (slice b 8 n)).complete c .busy (zeros 8) noDetail)) ∧
    (s.m.offerFate 0x1304 (40 + n) = .dropped → Does (.evrecNote src) s
      ((s.m.offer 0x1304 0xFF (u8 b 2) (slice b 8 n)).fail c .noSpace))) ∧
  (∀ (m : Module) (type part sev : Nat) (body : Bytes),
    (m.offerFate type (40 + body.length) = .queued → ∃ r, (m.offer type part sev body).ev.queue = m.ev.queue ++ [r] ∧
      r.seq = m.ev.nextSeq ∧ r.type = type ∧ r.partition = part ∧ r.severity = sev ∧ r.body = body ∧ r.time = m.clk.now ∧
      (m.offer type part sev body).ev.nextSeq = m.ev.nextSeq + 1) ∧
    (m.offerFate type (40 + body.length) ≠ .queued → (m.offer type part sev body).ev.queue = m.ev.queue ∧
      (m.offer type part sev body).ev.nextSeq = m.ev.nextSeq)) ∧
  (∀ (s : State) (r : EvRecord) (rest : List EvRecord), s.m.live = true → s.m.ev.queue = r :: rest →
    (s.m.roomFor r.size = true → Does .evrecRecordWrite s
      (((({ (s.m.program r) with ev := { (s.m.program r).ev with queue := rest } }).bump
        Reg.EVREC.RECORDS_COUNT).sectorFlags).reportLost)) ∧
    (s.m.roomFor r.size = false → Does .evrecRecordWrite s ((s.m.set Reg.EVREC.STATUS_FULL 1).blockEvent 19))) ∧
  (∀ (m : Module) (r : EvRecord), m.ev.sectors.wf = true → m.roomFor r.size = true → r.size ≤ 4136 →
    r ∈ (m.program r).validRecords ∧ ∀ x ∈ m.validRecords, x ∈ (m.program r).validRecords) ∧
  (∀ s : State, s.m.live = true → (s.m.ev.second + 1) * 1000000000 ≤ s.m.clk.now →
    (let m1 := { s.m with ev := { s.m.ev with second := s.m.clk.now / 1000000000, counts := [], suppressed := [] } }
     Does .rateSecondEnd s (s.m.ev.suppressed.foldl (fun (a : Module) x => a.event 0x1302 0xFF 1 x.1 x.2) m1))) ∧
  (∀ (s : State) (upTo : Nat), s.m.live = true → s.m.ev.clearing = some upTo → s.m.ev.sectors.wf = true →
    ∃ t, exec .sectorEraseComplete s = .next t ∧ (∀ r ∈ s.m.validRecords, upTo < r.seq → r ∈ t.m.validRecords) ∧
      (∀ i, s.m.oldestClearable upTo = some i → s.m.openSector.isSome = true → t.m.ev.sectors = s.m.ev.sectors.del i) ∧
      (s.m.oldestClearable upTo = none → t.m.ev.clearing = none)) ∧
  (∀ (s : State) (v : Nat), s.m.live = true → s.m.host.linkUp = true → s.m.host.d3hot = false → v < 2 ^ 64 →
    Does (.cursorWrite 0 8 v) s ((({ (s.m.set Reg.EVREC.CURSOR_SEQ v) with
      ev := { s.m.ev with load := .loading v } } : Module)).set Reg.EVREC.WINDOW_STATE_READY 0)) ∧
  (∀ (s : State) (v : Nat), s.m.live = true → s.m.host.linkUp = true → s.m.host.d3hot = false →
    (bit v 0 = true → Does (.advance 0 8 v) s (({ s.m with
      ev := { s.m.ev with load := .loading (s.m.get Reg.EVREC.WINDOW_SEQ_SEQ + 1) } } : Module).set Reg.EVREC.WINDOW_STATE_READY 0)) ∧
    (bit v 0 = false → Idle (.advance 0 8 v) s)) ∧
  (∀ (s : State) (q : Nat), s.m.live = true → s.m.ev.load = .loading q →
    ∃ t, exec .windowLoadComplete s = .next t ∧ t.m.ev.load = .idle ∧ t.m.get Reg.EVREC.WINDOW_STATE_READY = 1 ∧
      t.m.ev.sectors = s.m.ev.sectors ∧
      (∀ r, t.m.ev.window = some r → r ∈ s.m.validRecords ∧ q ≤ r.seq ∧ s.m.admits r = true ∧
        t.m.get Reg.EVREC.WINDOW_STATE_EMPTY = 0 ∧
        ∀ x ∈ s.m.validRecords, q ≤ x.seq → s.m.admits x = true → r.seq ≤ x.seq) ∧
      (t.m.ev.window = none → t.m.get Reg.EVREC.WINDOW_STATE_EMPTY = 1 ∧
        ∀ x ∈ s.m.validRecords, q ≤ x.seq → s.m.admits x = false)) ∧
  (∀ (s : State) (src : Src) (c : RunCmd) (b : Bytes) (u : Nat), Fresh s src 0x1400 c → b = c.payload → u = u8 b 0 → u ≤ 15 →
    allZero b 4 4 = true →
    (∀ p k, checkPreset p = some k → u8 b 1 = p → u8 b 2 = 0 → u8 b 3 = 0 → u64 b 8 = 0 → u64 b 0x10 = 0 → u64 b 0x18 = 0 →
      (bit s.m.test.units u = true → Does (.checkConfig src) s (s.m.fail c .busy)) ∧
      (bit s.m.test.units u = false → Does (.checkConfig src) s ((s.m.setCheckCfg u p k).ok c []))) ∧
    (u8 b 1 = 0 → 1 ≤ u8 b 2 → u8 b 2 ≤ 64 → u8 b 3 ≤ 3 → u64 b 8 % 2 = 1 → u64 b 8 < 2 ^ u8 b 2 → u64 b 0x10 < 2 ^ u8 b 2 →
      u64 b 0x18 < 2 ^ u8 b 2 → bit s.m.test.units u = false → Does (.checkConfig src) s
        ((s.m.setCheckCfg u 0 ⟨u8 b 2, u64 b 8, u64 b 0x10, u64 b 0x18, bit (u8 b 3) 0, bit (u8 b 3) 1⟩).ok c []))) ∧
  (∀ (m : Module) (u p : Nat) (k : CheckCfg), u < 16 → p < 256 → 1 ≤ k.width → k.width ≤ 64 → k.poly < 2 ^ 64 → k.init < 2 ^ 64 →
    k.xorout < 2 ^ 64 → (m.setCheckCfg u p k).checkCfg u = k ∧
    (m.setCheckCfg u p k).get (Reg.CHECK.SAVED_REG.at 64 u) = k.init) ∧
  (∀ (p : Nat × Nat), p ∈ ([(1, 0xE3069283), (2, 0xCBF43926), (3, 0xFC891918), (4, 0x995DC9BBDF1939FA), (5, 0x6C40DF5F0B497347),
      (6, 0x29B1), (7, 0x2189), (8, 0xF4)] : List (Nat × Nat)) → ∃ k, checkPreset p.1 = some k ∧
    checkValue k (checkScan k k.init [0x31, 0x32, 0x33, 0x34, 0x35, 0x36, 0x37, 0x38, 0x39]) = p.2) ∧
  (∀ (s : State) (src : Src) (c : RunCmd) (b : Bytes) (u op p st dt sa da len n : Nat) (k : CheckCfg), Fresh s src 0x1410 c →
    b = c.payload → u = u8 b 0 → op = u8 b 1 → p = u8 b 3 → st = u8 b 4 → dt = u8 b 5 → sa = u64 b 8 → da = u64 b 0x10 →
    len = u64 b 0x18 → k = s.m.checkCfg u → n = (k.width + 7) / 8 → u ≤ 15 → u8 b 2 ≤ 1 → allZero b 6 2 = true →
    s.m.present p = true → 1 ≤ st → st ≤ 2 → 1 ≤ dt → dt ≤ 2 → 1 ≤ len → len ≤ 2 ^ 32 →
    (s.m.mute p = true → op = 0 → Does (.checkScan src) s ((s.m.bump Reg.SEC.CONTENT_DENIALS_COUNT).fail c .denied)) ∧
    (s.m.mute p = false → bit s.m.test.units u = false →
      (let start := if bit (u8 b 2) 0 = true then s.m.get (Reg.CHECK.SAVED_REG.at 64 u) else k.init
       let count (m : Module) (r : Nat) : Module :=
         ((m.set (Reg.CHECK.SAVED_REG.at 64 u) r).bump Reg.CHECK.SCANS_COUNT).bumpBy Reg.CHECK.BYTES_COUNT len
       let whole := (s.m.mem st).rdN sa len
       let r := checkScan k start whole
       (op = 0 → s.m.engineMay p (st - 1) sa len = true → Does (.checkScan src) s
         ((count s.m r).ok c (leBytes 8 (checkValue k r) ++ leBytes 8 len))) ∧
       (op = 1 → da = 0 → s.m.engineMay p (st - 1) sa (len + n) = true → Does (.checkScan src) s
         (((count s.m r).wrMem st (sa + len) (checkField k (checkValue k r))).ok c
           (leBytes 8 (checkValue k r) ++ leBytes 8 (len + n)))) ∧
       (op = 1 → da ≠ 0 → s.m.engineMay p (st - 1) sa len = true → s.m.engineMay p (dt - 1) da (len + n) = true →
         Does (.checkScan src) s (((count s.m r).wrMem dt da (whole ++ checkField k (checkValue k r))).ok c
           (leBytes 8 (checkValue k r) ++ leBytes 8 (len + n)))) ∧
       (op = 2 → n < len → s.m.engineMay p (st - 1) sa len = true →
         (da ≠ 0 → s.m.engineMay p (dt - 1) da (len - n) = true) →
         (let part := (s.m.mem st).rdN sa (len - n)
          let r2 := checkScan k start part
          let resp := leBytes 8 (checkValue k r2) ++ leBytes 8 (len - n)
          let same := (s.m.mem st).rdN (sa + (len - n)) n = checkField k (checkValue k r2)
          (same → da = 0 → Does (.checkScan src) s ((count s.m r2).ok c resp)) ∧
          (same → da ≠ 0 → Does (.checkScan src) s (((count s.m r2).wrMem dt da part).ok c resp)) ∧
          (¬same → da = 0 → Does (.checkScan src) s
            (((((count s.m r2).bump Reg.CHECK.MISMATCHES_COUNT).set Reg.CHECK.STATUS_MISMATCH 1).blockEvent 20).complete c
              .damaged resp noDetail)))))))

/-- Attestation, imports and the management port. SEC_ATTEST writes a report with the nonce and the entries it counts, NO_SPACE
when it exceeds OUT_MAX; SEC_IDENTITY returns the public keys. A plain import is copied to HBM and measured, and is DENIED
into a Mute-mode partition; a sealed image is written when it opens, and a failed tag zeroes the destination and gives
DAMAGED. A management request whose signature fails, or of an unknown credential, is rejected without an answer; a replay is
recorded; none is served during a lockout. One that passes raises the credential's counter and is answered: credentials and
keys are enrolled and removed, never the last credential; a configuration is stored; an image is staged part by part, its
last part only if signed and no older than the rollback counter; FW_ACTIVATE selects it, or restarts Crook with READY 0;
FW_COMMIT frees the old slot, raises the counter and gives up what is staged (assumption 158); ATTEST answers at once, or is
held while Crook restarts; EVREC_READ, EVREC_CLEAR, RESET and STATUS act. Without a credential only ENROL_CREDENTIAL with
the claim code is served. CROOK_RESTART_END runs the staged Crook, PENDING_COMMIT and READY; after 5 s a held request gets a
TRANSITIONAL report; the connection closes on a message timeout and the lockout ends after 10 s. The layouts of management
bodies beyond R505 are the model's (assumption 140). Rules: R490, R493, R495, R496, R501, R502, R505, R506, R507, R508,
R509, R510. -/
def Obligations.SecurityAndManagementAct : Prop :=
  (∀ (s : State) (src : Src) (c : RunCmd) (b : Bytes) (p addr : Nat) (r : Bytes), Fresh s src 0x1200 c → b = c.payload →
    p = u8 b 0 → addr = u64 b 0x48 → allZero b 1 7 = true → allZero b 0x54 4 = true → (p = 0xFF ∨ s.m.present p = true) →
    addr % 8 = 0 → s.m.secur.update ≠ 2 → s.m.host.linkUp = true → s.m.host.d3hot = false →
    r = s.m.attReport p (slice b 8 64) 0 →
    (let body := leBytes 4 r.length ++ leBytes 4 (s.m.reportEntries p).length ++ leBytes 1 0
     (u32 b 0x50 < r.length → Does (.secAttest src) s (s.m.complete c .noSpace body noDetail)) ∧
     (r.length ≤ u32 b 0x50 → Does (.secAttest src) s
       (((s.m.bump Reg.SEC.ATTESTATIONS_COUNT).cmdWrite c addr r).ok c body)))) ∧
  (∀ (m : Module) (p st : Nat) (nonce : Bytes), p < 256 → st < 256 → nonce.length = 64 → (m.reportEntries p).length < 2 ^ 32 →
    (let r := m.attReport p nonce st
     u32 r 0 = 1 ∧ u8 r 4 = st ∧ u8 r 5 = p ∧ slice r 0x20 64 = nonce ∧ u32 r 0x68 = (m.reportEntries p).length)) ∧
  (∀ (s : State) (src : Src) (c : RunCmd), Fresh s src 0x1201 c → Does (.secIdentity src) s (s.m.ok c
    (padTo Config.identityKey 32 ++ padTo Config.sealingKey 32 ++ padTo Config.certificate 64 ++ (List.range 8).flatMap
      (fun p => leBytes 4 (((s.m.secur.stateKeys.get p).map keyId).getD 0))))) ∧
  (∀ (s : State) (src : Src) (c : RunCmd) (b : Bytes) (p sa n dest : Nat) (x : Bytes), Fresh s src 0x1210 c → b = c.payload →
    p = u8 b 0 → sa = u64 b 8 → n = u64 b 0x10 → dest = u64 b 0x18 → allZero b 2 2 = true → s.m.present p = true →
    n ≠ 0 → dest % 4096 = 0 → s.m.host.linkUp = true → s.m.host.d3hot = false → x = s.m.cmdRead c sa n →
    (u8 b 1 = 0 → dest + n ≤ hbmSize →
      (s.m.mute p = true → Does (.secImport src) s
        (((s.m.bump Reg.SEC.IMPORT_FAILS_COUNT).bump Reg.SEC.CONTENT_DENIALS_COUNT).fail c .denied)) ∧
      (s.m.mute p = false → s.m.cmdMay c p sa n false = true → s.m.engineMay p 0 dest n = true → Does (.secImport src) s
        (((({ s.m with hbm := s.m.hbm.wrN dest x } : Module).measure 0x0A (u32 b 4) 0 p x).bump Reg.SEC.IMPORTS_COUNT).ok c
          (padTo (Config.sha512 x) 64)))) ∧
    (u8 b 1 = 1 → s.m.cmdMay c p sa n false = true → u32 x 0 = 1 → u8 x 4 = 1 → allZero x 5 3 = true → allZero x 0x50 16 = true →
      x.length = 0x60 + u64 x 0x48 + 16 * ceilDiv (u64 x 0x48) 65536 → dest + u64 x 0x48 ≤ hbmSize →
      (slice x 0x28 32 ≠ padTo Config.sealingKey 32 → Does (.secImport src) s
        ((s.m.bump Reg.SEC.IMPORT_FAILS_COUNT).fail c .denied)) ∧
      (slice x 0x28 32 = padTo Config.sealingKey 32 → s.m.engineMay p 0 dest (u64 x 0x48) = true →
        (Config.openSealed x = none → Does (.secImport src) s
          ((({ s.m with hbm := s.m.hbm.zeroN dest (u64 x 0x48) } : Module).bump Reg.SEC.IMPORT_FAILS_COUNT).fail c .damaged)) ∧
        (∀ y plain, Config.openSealed x = some y → plain = slice y 0 (u64 x 0x48) → Does (.secImport src) s
          (((({ s.m with hbm := s.m.hbm.wrN dest plain } : Module).measure 0x0A (u32 b 4) 0 p plain).bump
            Reg.SEC.IMPORTS_COUNT).ok c (padTo (Config.sha512 plain) 64)))))) ∧
  (∀ (q : Nat × (MgmtMsg → Instr)), q ∈ ([(1, .enrolCredential), (2, .revokeCredential), (3, .enrolKey), (4, .removeKey),
      (5, .setConfig), (6, .fwStage), (7, .fwActivate), (8, .fwCommit), (9, .mgmtAttest), (10, .evrecRead), (11, .evrecClear),
      (12, .mgmtReset), (13, .mgmtStatus)] : List (Nat × (MgmtMsg → Instr))) →
    ∀ (s : State) (g : MgmtMsg), s.m.live = true → g.op = q.1 →
    (s.m.secur.lockout.isSome = true → Idle (q.2 g) s) ∧
    (s.m.secur.lockout = none → g.body.length ≤ 1048576 →
      (let m0 := { s.m with secur := { s.m.secur with connected := true } }
       (s.m.secur.creds ≠ [] → s.m.secur.creds.get g.credential = none → Does (q.2 g) s (m0.mgmtReject g 0)) ∧
       (s.m.secur.creds = [] → q.1 ≠ 1 → Does (q.2 g) s (m0.mgmtReject g 0)) ∧
       (∀ k, s.m.secur.creds.get g.credential = some k →
         (Config.edVerify k.key (mgmtBytes g) g.signature = false → Does (q.2 g) s (m0.mgmtReject g 0)) ∧
         (Config.edVerify k.key (mgmtBytes g) g.signature = true → g.counter ≤ k.counter →
           Does (q.2 g) s (m0.event 0x1201 0xFF 1 g.credential 1)))))) ∧
  (∀ (s : State) (g : MgmtMsg), s.m.live = true → g.op = 1 → s.m.secur.lockout = none → s.m.secur.creds = [] →
    g.body.length ≤ 1048576 → 32 ≤ g.body.length → slice g.body 32 12 = padTo Config.claimCode 12 → Does (.enrolCredential g) s
      (((({ s.m with secur := { s.m.secur with connected := true, creds := [(0, ⟨slice g.body 0 32, g.counter⟩)] } } :
        Module)).secShow).mgmtAnswer 1 g.counter .ok (leBytes 1 0))) ∧
  (∀ (s : State) (g : MgmtMsg) (k : Credential) (m1 : Module) (b : Bytes), s.m.live = true → s.m.secur.lockout = none → b = g.body →
    b.length ≤ 1048576 → s.m.secur.creds.get g.credential = some k →
    Config.edVerify k.key (mgmtBytes g) g.signature = true → k.counter < g.counter →
    m1 = { s.m with secur := { s.m.secur with
      connected := true, creds := s.m.secur.creds.put g.credential { k with counter := g.counter } } } →
    (g.op = 1 → 32 ≤ b.length → ∀ i, m1.secur.creds.lowestFree 0 8 = some i → Does (.enrolCredential g) s
      ((({ m1 with secur := { m1.secur with creds := m1.secur.creds.put i ⟨slice b 0 32, 0⟩ } } : Module).secShow).mgmtAnswer 1
        g.counter .ok (leBytes 1 i))) ∧
    (g.op = 2 → b.length = 1 → m1.secur.creds.has (u8 b 0) = true →
      (m1.secur.creds.length = 1 → Does (.revokeCredential g) s (m1.mgmtAnswer 2 g.counter .busy [])) ∧
      (m1.secur.creds.length ≠ 1 → Does (.revokeCredential g) s
        ((({ m1 with secur := { m1.secur with creds := m1.secur.creds.del (u8 b 0) } } : Module).secShow).mgmtAnswer 2 g.counter
          .ok []))) ∧
    (∀ key, key = slice b 8 32 → b.length = 40 → allZero b 1 7 = true →
      (g.op = 3 → u8 b 0 = 0 → Does (.enrolKey g) s
        (({ m1 with secur := { m1.secur with fabricKey := some key } } : Module).mgmtAnswer 3 g.counter .ok [])) ∧
      (g.op = 3 → u8 b 0 = 1 → m1.secur.trusted.contains key = false → m1.secur.trusted.length < 32 → Does (.enrolKey g) s
        (({ m1 with secur := { m1.secur with trusted := m1.secur.trusted ++ [key] } } : Module).mgmtAnswer 3 g.counter .ok [])) ∧
      (g.op = 4 → u8 b 0 = 0 → m1.secur.fabricKey = some key → Does (.removeKey g) s
        (({ m1 with secur := { m1.secur with fabricKey := none } } : Module).mgmtAnswer 4 g.counter .ok [])) ∧
      (g.op = 4 → u8 b 0 = 1 → m1.secur.trusted.contains key = true → Does (.removeKey g) s
        (({ m1 with secur := { m1.secur with trusted := m1.secur.trusted.filter (· != key) } } : Module).mgmtAnswer 4 g.counter
          .ok []))) ∧
    (∀ n recs ranges, g.op = 5 → b.length = 512 + 24 * n → n ≤ 256 → recs = (List.range 8).map (fun i => slice b (64 * i) 64) →
      ranges = (List.range n).map (fun i => slice b (512 + 24 * i) 24) → (∀ r ∈ recs, partRecordOk r = true) →
      (∀ r ∈ ranges, rangeOk r = true) → Does (.setConfig g) s
        (({ m1 with secur := { m1.secur with
          storedParts := some (recs.map PartCfg.ofBytes), storedFw := ranges.map FwRange.ofBytes } } : Module).mgmtAnswer 5
          g.counter .ok [])) ∧
    (∀ kind image, g.op = 6 → 8 ≤ b.length → kind = u8 b 0 → (kind = 1 ∨ kind = 2) → allZero b 2 6 = true →
      m1.secur.update < 2 → image = (m1.secur.fw kind).upload ++ b.drop 8 →
      (u8 b 1 = 0 → Does (.fwStage g) s
        ((m1.updFw kind (fun x => { x with upload := image })).mgmtAnswer 6 g.counter .ok [])) ∧
      (u8 b 1 = 1 →
        ((Config.imageSigned kind image = false ∨ Config.imageVersion image < (m1.secur.fw kind).rollback) →
          Does (.fwStage g) s ((m1.updFw kind (fun x => { x with upload := [] })).mgmtAnswer 6 g.counter .denied [])) ∧
        (Config.imageSigned kind image = true → (m1.secur.fw kind).rollback ≤ Config.imageVersion image →
          Does (.fwStage g) s (((m1.updFw kind (fun x => { x with
            upload := [], staged := some ⟨Config.imageVersion image, Config.sha512 image⟩, selected := false })).setUpdate 1
            (Config.imageVersion image)).mgmtAnswer 6 g.counter .ok [])))) ∧
    (∀ x, g.op = 7 → b.length = 2 → m1.secur.update = 1 →
      (u8 b 1 = 0 → (u8 b 0 = 1 ∨ u8 b 0 = 2) → (m1.secur.fw (u8 b 0)).staged = some x → Does (.fwActivate g) s
        ((m1.updFw (u8 b 0) (fun y => { y with selected := true })).mgmtAnswer 7 g.counter .ok [])) ∧
      (u8 b 1 = 1 → u8 b 0 = 1 → Does (.fwActivate g) s (m1.mgmtAnswer 7 g.counter .badField [])) ∧
      (u8 b 1 = 1 → u8 b 0 = 2 → m1.secur.crook.staged = some x → Does (.fwActivate g) s
        (((({ m1 with secur := { m1.secur with restart := some s.m.clk.mono } } : Module).set Reg.GLOBAL.STATUS_READY
          0).setUpdate 2 x.version).mgmtAnswer 7 g.counter .ok []))) ∧
    (g.op = 8 → b = [] →
      (m1.secur.update ≠ 3 → Does (.fwCommit g) s (m1.mgmtAnswer 8 g.counter .busy [])) ∧
      (m1.secur.update = 3 →
        (let up (y : FwKind) : FwKind := { y with
           old := none, staged := none, selected := false,
           rollback := if y.old.isSome then Max.max y.rollback (Min.min y.running.version 63) else y.rollback }
         Does (.fwCommit g) s ((((m1.updFw 1 up).updFw 2 up).setUpdate 0 m1.secur.crook.running.version).mgmtAnswer 8
           g.counter .ok [])))) ∧
    (g.op = 9 → b.length = 72 → (u8 b 0 = 0xFF ∨ m1.present (u8 b 0) = true) → allZero b 1 7 = true →
      (m1.secur.update = 2 → Does (.mgmtAttest g) s { m1 with secur := { m1.secur with
        held := m1.secur.held ++ [⟨u8 b 0, slice b 8 64, s.m.clk.mono, g.counter, none⟩] } }) ∧
      (m1.secur.update ≠ 2 → Does (.mgmtAttest g) s ((m1.bump Reg.SEC.ATTESTATIONS_COUNT).mgmtAnswer 9 g.counter .ok
        (m1.attReport (u8 b 0) (slice b 8 64) 0)))) ∧
    (g.op = 10 → b.length = 16 → u32 b 8 ≤ 1048576 → allZero b 14 2 = true → Does (.evrecRead g) s
      (m1.mgmtAnswer 10 g.counter .ok (m1.evRead (u64 b 0) (u32 b 8) (u8 b 12) (u8 b 13)))) ∧
    (g.op = 11 → b.length = 8 →
      (m1.ev.clearing.isSome = true → Does (.evrecClear g) s (m1.mgmtAnswer 11 g.counter .busy [])) ∧
      (m1.ev.clearing = none → Does (.evrecClear g) s ((m1.evClear (u64 b 0) g.credential).mgmtAnswer 11 g.counter .ok []))) ∧
    (g.op = 12 → b = [] → exec (.mgmtReset g) s =
      .next { s with m := { ((m1.mgmtAnswer 12 g.counter .ok []).resetTo 4) with clk := ⟨0, 0, s.m.clk.mono⟩ } }) ∧
    (g.op = 13 → Does (.mgmtStatus g) s (m1.mgmtAnswer 13 g.counter .ok
      ((List.range 13).flatMap (fun i => leBytes 8 (m1.reg (0x1200000 + 8 * i)).toNat) ++
        (List.range 768).flatMap (fun i => leBytes 8 (m1.reg (0x1201000 + 8 * i)).toNat))))) ∧
  (∀ (s : State) (x : FwImage), s.m.live = true →
    (s.m.secur.restart = none → Idle .crookRestartEnd s) ∧
    (s.m.secur.restart.isSome = true → s.m.secur.held = [] → s.m.secur.crook.staged = some x →
      (let old := s.m.secur.crook.running
       let m1 := { s.m with secur := { s.m.secur with restart := none, crook := { s.m.secur.crook with
         running := x, staged := none, selected := false, old := some old } } }
       Does .crookRestartEnd s (((m1.measureFw 2).set Reg.GLOBAL.STATUS_READY 1).setUpdate 3 x.version)))) ∧
  (∀ (s : State) (h : HeldAttest) (rest : List HeldAttest), s.m.live = true → s.m.secur.held = h :: rest → h.cmd = none →
    DoesAt .attestHoldExpiry s (h.since + 5000000000) (fun m =>
      let m1 := { m with secur := { m.secur with held := rest } }
      ((m1.bump Reg.SEC.ATTESTATIONS_COUNT).bump Reg.SEC.TRANSITIONAL_REPORTS_COUNT).mgmtAnswer 9 h.counter .transitional
        (m1.attReport h.partition h.nonce 1))) ∧
  (∀ (s : State), s.m.live = true →
    Does .mgmtMessageTimeout s { s.m with secur := { s.m.secur with connected := false } } ∧
    (∀ t, s.m.secur.lockout = some t → DoesAt .mgmtLockoutEnd s (t + 10000000000)
      (fun m => { m with secur := { m.secur with lockout := none } })))

/-- The power block, the power-loss signal and the hold-up work. POWER_BREATH takes a hint whose window runs from 10 µs before
the lead's end to the phase's end, and counts it, as merged too when it overlaps another; at its window's bounds it is in
force and gone. A monitor sample raises the margin by 10 mV up to 120 below 0.69 V, holds handshakes below 0.68 V, and after
ten above 0.90 V raises the signal with fault CORE_OV; a trim period without a dip lowers the margin by 5 mV down to 15.
Power windows and the thermal limit change the throttle only (its law is the model's, assumption 150). The signal, raised by
the input, PWR_EN, J3_SENSE, a thermal trip or a converter, clears READY and begins the hold-up work in a running module,
with the fault of its cause; in the hold-up work it changes nothing, and in reset the module turns off. A returning input
starts the module when the work ends, with the power cycle counted; otherwise the module turns off. Flash, stored records
outside a sector being erased and the stored configuration stay; HBM and the capsules do not. Every hour with input power is
counted. No register read depends on the margin, the windows, the throttle, the monitors or the hints. Rules: R512, R536,
R539, R540, R541, R542, R543, R544, R545, R547, R555, R558. -/
def Obligations.PowerActsAndStaysHidden : Prop :=
  (∀ (s : State) (src : Src) (c : RunCmd) (b : Bytes), Fresh s src 0x1500 c → b = c.payload → allZero b 2 2 = true →
    allZero b 0x0C 4 = true → 1 ≤ u8 b 0 → u8 b 0 ≤ 6 → 1 ≤ u8 b 1 → u8 b 1 ≤ 3 → 10 ≤ u32 b 4 → u32 b 4 ≤ 10000 →
    1 ≤ u32 b 8 → u32 b 8 ≤ 10000000 →
    (let h : BreathHint := ⟨u8 b 1, s.m.clk.mono + u32 b 4 * 1000 - 10000, s.m.clk.mono + (u32 b 4 + u32 b 8) * 1000, false⟩
     let m1 := { s.m with power := { s.m.power with hints := s.m.power.hints ++ [h] } }
     ((∀ x ∈ s.m.power.hints, h.until_ < x.from_ ∨ x.until_ < h.from_) →
       Does (.powerBreath src) s ((m1.bump Reg.POWER.HINTS_COUNT).ok c [])) ∧
     ((∃ x ∈ s.m.power.hints, x.from_ ≤ h.until_ ∧ h.from_ ≤ x.until_) →
       Does (.powerBreath src) s (((m1.bump Reg.POWER.HINTS_MERGED_COUNT).bump Reg.POWER.HINTS_COUNT).ok c [])))) ∧
  (∀ (s : State) (i : Nat) (h : BreathHint), s.m.live = true → s.m.power.hints[i]? = some h →
    DoesAt (.breathWindowStart i) s h.from_ (fun m => { m with power := { m.power with
      hints := m.power.hints.set i { h with on := true } } }) ∧
    DoesAt (.breathWindowEnd i) s h.until_ (fun m => { m with power := { m.power with hints := m.power.hints.eraseIdx i } })) ∧
  (∀ (s : State) (mv : List Nat) (runs : List Nat), s.m.live = true → mv.length = 32 →
    runs = (List.range 32).map (fun i => if 900 < nthD mv i 0 then nthD s.m.power.highRuns i 0 + 1 else 0) →
    (let sampled (m : Module) : Module :=
       let p := m.power
       { m with power := { p with
         margin := if ∃ v ∈ mv, v < 690 then Min.min 120 (p.margin + 10) else p.margin,
         trimStart := if ∃ v ∈ mv, v < 690 then m.ev.opHours else p.trimStart,
         trimDip := if ∃ v ∈ mv, v < 690 then false else p.trimDip || mv.any (fun v => decide (v < 700)),
         handshakeHold := decide (∃ v ∈ mv, v < 680),
         highRuns := runs,
         lastSample := m.clk.mono } }
     ((∀ n ∈ runs, n < 10) → DoesAt (.coreMonitorSample mv) s (s.m.power.lastSample + 1000) sampled) ∧
     ((∃ n ∈ runs, 10 ≤ n) → DoesAt (.coreMonitorSample mv) s (s.m.power.lastSample + 1000)
       (fun m => (sampled m).powerLoss.fault 3)))) ∧
  (∀ s : State, s.m.live = true →
    (s.m.power.trimStart + 100 ≤ s.m.ev.opHours → Does .trimPeriodEnd s { s.m with power := { s.m.power with
      margin := if s.m.power.trimDip then s.m.power.margin else Max.max 15 (s.m.power.margin - 5),
      trimStart := s.m.ev.opHours,
      trimDip := false } }) ∧
    (s.m.ev.opHours < s.m.power.trimStart + 100 → Idle .trimPeriodEnd s)) ∧
  (∀ (s : State) (w : Nat) (j : Int), s.m.live = true →
    Does (.thermalLimit j) s { s.m with power := { s.m.power with thermal := decide (105 < j) } } ∧
    (∃ k, DoesAt (.powerWindow w) s (s.m.power.lastWindow + 1000000) (fun m => { m with power := { m.power with
      windows := (s.m.power.windows ++ [w]).drop (s.m.power.windows.length + 1 - 100),
      lastWindow := m.clk.mono,
      throttle := k } }) ∧ k ≤ Max.max 2 s.m.power.throttle)) ∧
  (∀ m : Module, m.power.phase = .started →
    m.powerLoss.power.phase = .holdup ∧ m.powerLoss.get Reg.GLOBAL.STATUS_READY = 0 ∧
    (m.flag Reg.EVREC.STATUS_FULL = false → ∃ r, m.powerLoss.ev.queue.head? = some r ∧ r.type = 0x1501 ∧
      m.powerLoss.ev.queue.tail = m.ev.queue)) ∧
  (∀ s : State, s.m.power.phase = .started →
    Does .j3SenseBreak s s.m.powerLoss ∧
    Does .inputLost s { s.m.powerLoss with power := { s.m.powerLoss.power with input := false, faultN := false, returned := false } } ∧
    Does .pwrEnFall s { s.m.powerLoss with power := { s.m.powerLoss.power with pwrEn := false, faultN := false } } ∧
    Does .inputOvervoltage s (s.m.powerLoss.fault 4) ∧ Does .converterFault s (s.m.powerLoss.fault 5) ∧
    Does .thermalTrip s (s.m.powerLoss.fault 2)) ∧
  (∀ s : State, s.m.power.phase = .holdup →
    Idle .j3SenseBreak s ∧ Does .thermalTrip s (s.m.fault 2) ∧
    Does .pwrEnFall s { s.m with power := { s.m.power with pwrEn := false, faultN := false } } ∧
    Does .inputReturn s { s.m with
      power := { s.m.power with input := true, returned := true },
      ev := { s.m.ev with lastHour := if s.m.power.input = true then s.m.ev.lastHour else s.m.clk.mono } } ∧
    (∃ t, exec .holdupWorkEnd s = .next t ∧ t.pending = s.pending ∧ t.m.hbm = [] ∧ t.m.caps = Module.reset.caps ∧
      t.m.ftl = s.m.ftl ∧ t.m.secur.creds = s.m.secur.creds ∧ t.m.secur.storedParts = s.m.secur.storedParts ∧
      t.m.power.margin = s.m.power.margin ∧ t.m.power.faultCause = s.m.power.faultCause ∧ t.m.clk.now = 0 ∧
      (s.m.power.returned = true → s.m.power.pwrEn = true → t.m.power.phase = .held ∧
        t.m.ev.powerCycles = (s.m.ev.powerCycles + 1) % 2 ^ 32) ∧
      ((s.m.power.returned = false ∨ s.m.power.pwrEn = false) → t.m.power.phase = .off ∧
        t.m.ev.powerCycles = s.m.ev.powerCycles) ∧
      (s.m.ev.sectors.wf = true → s.m.ev.clearing = none → ∀ r ∈ s.m.validRecords, r ∈ t.m.validRecords))) ∧
  (∀ s : State, s.m.power.phase = .held → exec .j3SenseBreak s =
    .next { s with m := { s.m with power := { s.m.power with phase := .off }, clk := ⟨0, 0, s.m.clk.mono⟩ } }) ∧
  (∀ s : State, s.m.power.phase = .off → ∃ t, exec .powerOn s = .next t ∧ t.m.power.phase = .held ∧ t.m.power.cause = 0 ∧
    t.m.power.input = true ∧ t.m.power.pwrEn = true ∧ t.m.power.faultN = false ∧ t.m.hbm = [] ∧ t.m.lpddr = [] ∧
    t.m.caps = Module.reset.caps ∧ t.m.ftl = s.m.ftl ∧ t.m.ev.sectors = s.m.ev.sectors ∧
    t.m.ev.powerCycles = (s.m.ev.powerCycles + 1) % 2 ^ 32 ∧ t.m.ev.opHours = s.m.ev.opHours ∧
    t.m.secur.creds = s.m.secur.creds ∧ t.m.secur.dyone = s.m.secur.dyone ∧ t.m.power.margin = s.m.power.margin) ∧
  (∀ (m : Module) (code : Nat), (m.fault code).power.faultCause = code ∧ (m.fault code).power.faultHours = m.ev.opHours ∧
    (m.fault code).faultLow = true) ∧
  (∀ s : State, s.m.power.input = true → ∃ t, exec .opHourTick s = .next t ∧
    t.m.ev.opHours = (s.m.ev.opHours + 1) % 2 ^ 32 ∧ t.m.ev.sectors = s.m.ev.sectors ∧ t.m.caps = s.m.caps ∧
    t.m.steps = s.m.steps ∧ t.m.hbm = s.m.hbm) ∧
  (∀ (m : Module) (margin throttle : Nat) (windows runs : List Nat) (thermal hold dip : Bool) (hints : List BreathHint)
    (off : Nat) (p : PowerSt), p = { m.power with
      margin := margin, throttle := throttle, windows := windows, highRuns := runs,
      thermal := thermal, handshakeHold := hold, trimDip := dip, hints := hints } →
    ({ m with power := p } : Module).readReg off = m.readReg off)

/-- Resets, start-up, diagnostics and perturbation. RESET_N or PERST_N low, and a write of GLOBAL.RESET with the key and MODULE,
reset a running module: it is held with the cause of R561; HBM, LPDDR and the capsules are lost; the stored event records,
the configuration, the keys and the margin stay. A write without the key is dropped and counted. A write with the key and
PARTITIONS resets each present partition named; one partition's reset leaves none of its strand threads and objects, sets
its DONE bit, and changes neither the pair state nor the schedule tables. RESET_RELEASE starts a held module when an image
of each kind passes, and otherwise leaves it in reset with fault BOOT; it applies the stored configuration only if that
passes R403, and else the default with CONFIG_DEFAULT; the cap and the link ID follow the straps. READY_SET then queues
START and sets READY, unless test 2, 4 or 5 has failed, or the rebuild has not run. TEST_DIAG refuses bit 7, and bit 6
unless unpaired and empty; it sets FAILED of the tests it ran and is DAMAGED when one fails. TEST_PERTURB sets or clears a
slot, DENIED for a Mute-mode partition; a slot ends at END_NS. Rules: R403, R430, R560, R561, R562, R563, R564, R565, R568,
R570, R571, R573. -/
def Obligations.ResetsStartUpAndDiagnosticsAct : Prop :=
  (∀ s : State, s.m.live = true →
    (∀ (p : Nat × Instr), p ∈ ([(1, .resetNLow), (2, .perstNLow), (3, .moduleReset 0x01005A5A)] : List (Nat × Instr)) →
      (p.1 = 3 → s.m.host.linkUp = true ∧ s.m.host.d3hot = false) →
      ∃ t, exec p.2 s = .next t ∧ t.pending = s.pending ∧ t.m.power.phase = .held ∧ t.m.power.cause = p.1 ∧
        t.m.power.resetN = (s.m.power.resetN || p.1 == 1) ∧ t.m.power.perstN = (s.m.power.perstN || p.1 == 2) ∧
        t.m.hbm = [] ∧ t.m.lpddr = [] ∧ t.m.caps = Module.reset.caps ∧ t.m.steps = Module.reset.steps ∧
        t.m.strand = Module.reset.strand ∧ t.m.mirror = Module.reset.mirror ∧ t.m.clk.now = 0 ∧
        t.m.secur.storedParts = s.m.secur.storedParts ∧ t.m.secur.creds = s.m.secur.creds ∧
        t.m.secur.stateKeys = s.m.secur.stateKeys ∧ t.m.power.margin = s.m.power.margin ∧
        t.m.ev.powerCycles = s.m.ev.powerCycles ∧
        (s.m.ev.sectors.wf = true → ∀ r ∈ s.m.validRecords, r ∈ t.m.validRecords))) ∧
  (∀ (s : State) (v : Nat), s.m.live = true → s.m.host.linkUp = true → s.m.host.d3hot = false →
    (v % 65536 ≠ 0x5A5A → Does (.moduleReset v) s (s.m.dropWrite Reg.GLOBAL.RESET_KEY.off) ∧
      Does (.partitionReset v) s (s.m.dropWrite Reg.GLOBAL.RESET_KEY.off)) ∧
    (v % 65536 = 0x5A5A → bit v 24 = true → exec (.moduleReset v) s = .next { s with m := { (s.m.resetTo 3) with
      clk := ⟨0, 0, s.m.clk.mono⟩ } }) ∧
    (∀ p, p < 8 → v = 0x5A5A + 2 ^ (16 + p) → s.m.present p = true →
      Does (.partitionReset v) s (s.m.partReset p))) ∧
  (∀ (m : Module) (p : Nat), p < 8 → m.strand.threads.wf = true → m.strand.jobs.wf = true → m.lig.objs.wf = true →
    (let m1 := m.partReset p
     (∀ t th j, m1.strand.threads.get t = some th → m.strand.jobs.get th.job = some j → j.partition ≠ p) ∧
     (∀ i o, m1.lig.objs.get i = some o → o.partition ≠ p) ∧
     bit (m1.get Reg.TEST.RESET_STATE_DONE) p = true ∧ m1.mirror.state = m.mirror.state ∧ m1.sched.bank0 = m.sched.bank0 ∧
     m1.sched.bank1 = m.sched.bank1)) ∧
  (∀ (s : State) (x : StartIn), s.m.power.phase = .held → s.m.power.input = true → s.m.power.pwrEn = true →
    ((s.m.secur.dyone.start x.dyone x.dyoneOther = none ∨ s.m.secur.crook.start x.crook x.crookOther = none) →
      ∃ t, exec (.resetRelease x) s = .next t ∧ t.m.power.phase = .held ∧ t.m.power.faultCause = 1 ∧ t.m.faultLow = true) ∧
    (∀ d k, s.m.secur.dyone.start x.dyone x.dyoneOther = some d → s.m.secur.crook.start x.crook x.crookOther = some k →
      ∃ t, exec (.resetRelease x) s = .next t ∧ t.m.power.phase = .started ∧ t.m.power.cause = s.m.power.cause ∧
        t.m.power.capW = (capOf x.capSel).getD 1200 ∧ t.m.power.capDefault = (capOf x.capSel).isNone ∧
        t.m.mirror.linkId = (if ∃ r, x.pairId = some r ∧ 9000 ≤ r ∧ r ≤ 11000 then 1 else 0) ∧
        t.m.power.holdupLow = decide (x.holdup < 3000) ∧ t.m.test.failed = x.failed % 64 ∧
        t.m.secur.dyone.running = d.running ∧ t.m.secur.crook.running = k.running ∧
        (t.m.parts = PartCfg.default ∨ ∃ ps, s.m.secur.storedParts = some ps ∧ configOk ps = true ∧ t.m.parts = ps) ∧
        (∀ ps, s.m.secur.storedParts = some ps → configOk ps = false →
          t.m.parts = PartCfg.default ∧ t.m.get Reg.SCHED.STATUS_CONFIG_DEFAULT = 1 ∧ t.m.firewall = []))) ∧
  (∀ (r : Nat), capOf (some r) = some 1600 ↔ 4550 ≤ r ∧ r ≤ 5450) ∧
  (∀ (k : FwKind) (a b : Bool) (k1 : FwKind), k.start a b = some k1 → k.rollback ≤ k1.running.version ∧
    (k1.running = k.running ∨ k.staged = some k1.running ∨ k.old = some k1.running)) ∧
  (∀ s : State, s.m.live = true →
    (s.m.power.up = false → s.m.power.rebuilt = true → (∀ i ∈ [2, 4, 5], bit s.m.test.failed i = false) →
      (let m1 := (s.m.findIndexes.event 0x0001 0xFF 0 s.m.power.cause s.m.secur.crook.running.version).set
         Reg.GLOBAL.STATUS_READY 1
       Does .readySet s { m1 with power := { m1.power with
         up := true, startMs := (s.m.clk.mono - s.m.power.released) / 1000000 } })) ∧
    ((s.m.power.rebuilt = false ∨ ∃ i ∈ [2, 4, 5], bit s.m.test.failed i = true) → Idle .readySet s)) ∧
  (∀ (s : State) (b : Nat) (c : RunCmd) (failed cores units mask f : Nat) (strands : List Nat), Fresh s (.mbox b) 0x1600 c →
    mask = u8 c.payload 0 → allZero c.payload 1 7 = true → f = failed &&& mask →
    (bit mask 7 = true → Does (.testDiag (.mbox b) failed cores strands units) s (s.m.badField c 0)) ∧
    (mask < 128 → bit mask 6 = true → s.m.mirror.state ≠ 0 →
      Does (.testDiag (.mbox b) failed cores strands units) s (s.m.fail c .busy)) ∧
    (mask = 0x28 → Does (.testDiag (.mbox b) failed cores strands units) s
      (({ s.m with test := { s.m.test with
        failed := (s.m.test.failed - (s.m.test.failed &&& mask)) + f,
        units := if bit f 3 = true then units % 2 ^ 16 else 0 } } : Module).complete c (if f = 0 then .ok else .damaged)
        (leBytes 1 f ++ zeros 7 ++ leBytes 8 0) noDetail)) ∧
    (mask < 64 → ∃ t, exec (.testDiag (.mbox b) failed cores strands units) s = .next t ∧
      t.m.test.failed = (s.m.test.failed - (s.m.test.failed &&& mask)) + f ∧ t.m.caps = s.m.caps ∧ t.m.lpddr = s.m.lpddr ∧
      (bit mask 4 = false → t.m.hbm = s.m.hbm) ∧
      (bit mask 0 = true → t.m.test.cores = (if bit f 0 = true then cores % 2 ^ 64 else 0)) ∧
      (bit mask 2 = true → s.m.lig.objs.wf = true → t.m.lig.objs = [])) ∧
    (mask = 64 → s.m.mirror.state = 0 → (∀ k ∈ s.m.caps.slots.vals, k.state = 0 ∨ k.state = 6) →
      ∃ t, exec (.testDiag (.mbox b) failed cores strands units) s = .next t ∧ t.m.hbm = [] ∧ t.m.lpddr = [])) ∧
  (∀ (s : State) (src : Src) (c : RunCmd) (b : Bytes) (n path p : Nat), Fresh s src 0x1610 c → b = c.payload → n = u8 b 0 →
    path = u8 b 1 → p = u8 b 3 → n ≤ 15 → allZero b 0x0C 4 = true →
    (path = 0 → u8 b 2 = 0 → p = 0 → u32 b 4 = 0 → u32 b 8 = 0 → Does (.testPerturb src) s
      (({ s.m.perturbTime with test := { s.m.perturbTime.test with
        slots := s.m.perturbTime.test.slots.del n } } : Module).ok c [])) ∧
    ((path ∈ [1, 3, 4, 7, 8] ∧ u8 b 2 = 1 ∧ u32 b 4 ≤ 10000000 ∨ path = 5 ∧ u8 b 2 = 1 ∧ u32 b 4 ≤ 1000000 ∨ path ∈ [2, 10, 11] ∧ u8 b 2 = 2 ∧ u32 b 4 ≤ 90 ∨
        path ∈ [6, 9] ∧ u8 b 2 = 0 ∧ u32 b 4 ≤ 1000) → 1 ≤ u32 b 4 → 1 ≤ u32 b 8 → u32 b 8 ≤ 600000 →
      (s.m.present p = true → s.m.mute p = true → Does (.testPerturb src) s (s.m.fail c .denied)) ∧
      (p = 0xFF → (∃ q < 8, s.m.mute q = true) → path ≠ 6 → path ≠ 10 → Does (.testPerturb src) s (s.m.fail c .denied)) ∧
      ((s.m.present p = true ∧ s.m.mute p = false) ∨ (p = 0xFF ∧ (path = 6 ∨ path = 10 ∨ ∀ q < 8, s.m.mute q = false)) → Does (.testPerturb src) s
        (({ s.m.perturbTime with test := { s.m.perturbTime.test with
          slots := s.m.perturbTime.test.slots.put n ⟨path, u8 b 2, if p = 0xFF then 8 else p, u32 b 4,
            (s.m.clk.now + u32 b 8 * 1000000) % 2 ^ 64⟩ } } : Module).ok c [])))) ∧
  (∀ (s : State) (n : Nat) (x : Perturb), s.m.live = true → n < 16 → s.m.test.slots.get n = some x → x.endNs ≤ s.m.clk.now →
    Does (.perturbSlotEnd n) s (({ s.m.perturbTime with test := { s.m.perturbTime.test with
      slots := s.m.perturbTime.test.slots.del n } } : Module).set Reg.TEST.STATUS_EXPIRED 1))
end

