-- ==== Sys2Proof/Laws/Bytes.lean ====
section
/-!
SUPPORT. Laws of byte strings: lengths, what a little-endian number reads as, and that a check value which the module writes
passes when the structure is read.
-/

namespace Sys2Proof.Machine

open Sys2Proof

@[simp] theorem length_leBytes (n v : Nat) : (leBytes n v).length = n := by
  induction n generalizing v with
  | zero => rfl
  | succ n ih => simp [leBytes, ih]

@[simp] theorem length_zeros (n : Nat) : (zeros n).length = n := by simp [zeros]

@[simp] theorem length_slice (b : Bytes) (off n : Nat) : (slice b off n).length = n := by
  simp only [slice, List.length_append, List.length_take, List.length_drop, length_zeros]
  omega

/-- The bytes of a number spell it, modulo what they hold (R13). -/
@[simp] theorem leNat_leBytes (n v : Nat) : leNat (leBytes n v) = v % 256 ^ n := by
  induction n generalizing v with
  | zero => simp [leBytes, leNat, Nat.mod_one]
  | succ n ih =>
    simp only [leBytes, leNat, ih, BitVec.toNat_ofNat]
    exact (Nat.pow_succ' ▸ Nat.mod_mul (x := v) (a := 256) (b := 256 ^ n)).symm

/-- The bytes that follow a prefix of the offset's length are read from what stands behind it. -/
theorem slice_append_self (a b : Bytes) (n : Nat) (h : b.length = n) : slice (a ++ b) a.length n = b := by
  simp [slice, h, zeros]

/-- The bytes before the end of a prefix are read from the prefix. -/
theorem slice_append_left (a b : Bytes) (off n : Nat) (h : off + n ≤ a.length) : slice (a ++ b) off n = slice a off n := by
  have h1 : ((a ++ b).drop off).take n = (a.drop off).take n := by
    rw [List.drop_append_of_le_length (by omega), List.take_append_of_le_length (by simp; omega)]
  simp only [slice, h1]

/-- A byte string read whole is itself. -/
theorem slice_all (a : Bytes) : slice a 0 a.length = a := by simp [slice, zeros]

/-! ### Check values (R51) -/

theorem xor_lt32 {a b : Nat} (ha : a < 2 ^ 32) (hb : b < 2 ^ 32) : a ^^^ b < 2 ^ 32 := Nat.xor_lt_two_pow ha hb

theorem crcByte_lt {poly crc : Nat} (hp : poly < 2 ^ 32) (hc : crc < 2 ^ 32) (b : Byte) : crcByte poly crc b < 2 ^ 32 := by
  have go : ∀ k c, c < 2 ^ 32 → crcByte.go poly k c < 2 ^ 32 := by
    intro k
    induction k with
    | zero => intro c h; exact h
    | succ k ih =>
      intro c h
      refine ih _ ?_
      split
      · exact xor_lt32 (by omega) hp
      · omega
  exact go 8 _ (xor_lt32 hc (Nat.lt_of_lt_of_le b.isLt (by decide)))

/-- A CRC-32C fits 32 bits. -/
theorem crc32c_lt (b : Bytes) : crc32c b < 2 ^ 32 := by
  have go : ∀ (b : Bytes) (c : Nat), c < 2 ^ 32 → b.foldl (crcByte 0x82F63B78) c < 2 ^ 32 := by
    intro b
    induction b with
    | nil => intro c h; exact h
    | cons x xs ih => intro c h; exact ih _ (crcByte_lt (by decide) h x)
  exact xor_lt32 (go b _ (by decide)) (by decide)

/-- A 32-bit check value that follows the bytes it covers reads as it was written. -/
theorem u32_after (b : Bytes) (n v : Nat) (hn : b.length = n) (hv : v < 2 ^ 32) : u32 (b ++ leBytes 4 v) n = v := by
  subst hn
  rw [u32, field, slice_append_self _ _ _ (length_leBytes 4 v), leNat_leBytes]
  exact Nat.mod_eq_of_lt hv

/-- A string whose last four bytes are the check value of the rest passes the check. -/
theorem check_after (b : Bytes) (n : Nat) (hn : b.length = n) :
    u32 (b ++ leBytes 4 (crc32c b)) n = crc32c (slice (b ++ leBytes 4 (crc32c b)) 0 n) := by
  rw [u32_after b n _ hn (crc32c_lt b), slice_append_left _ _ _ _ (by omega), ← hn, slice_all]

/-- A field within a prefix is read from the prefix. -/
theorem field_append_left (a b : Bytes) (off n : Nat) (h : off + n ≤ a.length) : field (a ++ b) off n = field a off n := by
  rw [field, slice_append_left a b off n h, field]

theorem length_flatMap_leBytes (n : Nat) (l : List Nat) : (l.flatMap (leBytes n)).length = n * l.length := by
  induction l with
  | nil => rfl
  | cons a l ih => simp only [List.flatMap_cons, List.length_append, ih, length_leBytes, List.length_cons, Nat.mul_add]; omega

@[simp] theorem length_padTo (b : Bytes) (n : Nat) : (padTo b n).length = n := by
  simp only [padTo, List.length_append, List.length_take, length_zeros]
  omega

/-- A shard header that the module forms passes the check of R277. -/
theorem BoreIndex.headerOk_header (x : BoreIndex) (index shard : Nat) (entries : List Nat) (hi : index < 256)
    (hs : shard < 256) (he : entries.length ≤ 64) : headerOk (x.header index shard entries) index shard = true := by
  have hc : u32 (x.header index shard entries) 0xFFC = crc32c (slice (x.header index shard entries) 0 0xFFC) :=
    check_after _ _ (by
      simp only [List.length_append, length_leBytes, length_zeros, length_flatMap_leBytes, List.length_replicate]
      omega)
  obtain ⟨r, hr⟩ : (leBytes 4 1 ++ leBytes 1 index ++ leBytes 1 shard) <+: x.header index shard entries := by
    unfold BoreIndex.header
    iterate 17 refine List.IsPrefix.trans ?_ (List.prefix_append _ _)
    exact List.prefix_rfl
  have hf := field_append_left (leBytes 4 1 ++ leBytes 1 index ++ leBytes 1 shard) r
  rw [headerOk, hc, ← hr, u32, u8, u8, hf 0 4 (by simp), hf 4 1 (by simp), hf 5 1 (by simp)]
  have h0 : field (leBytes 4 1 ++ leBytes 1 index ++ leBytes 1 shard) 0 4 = 1 := by
    simp [field, slice, leBytes, leNat, zeros]
  have h4 : field (leBytes 4 1 ++ leBytes 1 index ++ leBytes 1 shard) 4 1 = index := by
    simp [field, slice, leBytes, leNat, zeros]; omega
  have h5 : field (leBytes 4 1 ++ leBytes 1 index ++ leBytes 1 shard) 5 1 = shard := by
    simp [field, slice, leBytes, leNat, zeros]; omega
  simp only [h0, h4, h5, BEq.rfl, Bool.and_self]

end Sys2Proof.Machine
end

