-- ==== Sys2Proof/Laws/Tables.lean ====
section
/-!
SUPPORT. Laws of the sparse tables and of the byte memories: what a read gives after a write, and that every operation
keeps the canonical form.
-/

namespace Sys2Proof.Machine

open Sys2Proof

/-! ### Reads -/

theorem KMap.get_put_same {α : Type} (m : KMap α) (k : Nat) (v : α) : (m.put k v).get k = some v := by
  induction m with
  | nil => simp [KMap.put, KMap.get]
  | cons c rest ih =>
    obtain ⟨a, x⟩ := c
    by_cases h1 : a < k
    · simp [KMap.put, KMap.get, h1, ih, Nat.ne_of_lt h1]
    · by_cases h2 : a = k
      · simp [KMap.put, KMap.get, h2]
      · simp [KMap.put, KMap.get, h1, h2]

theorem KMap.get_put_other {α : Type} (m : KMap α) {k j : Nat} (v : α) (h : j ≠ k) : (m.put k v).get j = m.get j := by
  induction m with
  | nil => simp [KMap.put, KMap.get, Ne.symm h]
  | cons c rest ih =>
    obtain ⟨a, x⟩ := c
    by_cases h1 : a < k
    · simp [KMap.put, KMap.get, h1, ih]
    · by_cases h2 : a = k
      · simp [KMap.put, KMap.get, h2, Ne.symm h]
      · simp [KMap.put, KMap.get, h1, h2, Ne.symm h]

theorem KMap.get_upd_other {α : Type} (m : KMap α) {k j : Nat} (f : α → α) (h : j ≠ k) :
    (m.upd k f).get j = m.get j := by
  induction m with
  | nil => simp [KMap.upd, KMap.get]
  | cons c rest ih =>
    obtain ⟨a, x⟩ := c
    by_cases h2 : a = k
    · simp [KMap.upd, KMap.get, h2, Ne.symm h]
    · simp [KMap.upd, KMap.get, h2, ih]

theorem KMap.get_upd_same {α : Type} (m : KMap α) (k : Nat) (f : α → α) :
    (m.upd k f).get k = (m.get k).map f := by
  induction m with
  | nil => simp [KMap.upd, KMap.get]
  | cons c rest ih =>
    obtain ⟨a, x⟩ := c
    by_cases h2 : a = k
    · simp [KMap.upd, KMap.get, h2]
    · simp [KMap.upd, KMap.get, h2, ih]

/-! ### The rising order -/

/-- Every key of the table is above k. -/
def KMap.above {α : Type} (k : Nat) (m : KMap α) : Prop := ∀ c ∈ m, k < c.1

theorem KMap.wf_tail {α : Type} {c : Nat × α} {m : KMap α} (h : KMap.wf (c :: m) = true) : KMap.wf m = true := by
  cases m with
  | nil => simp [KMap.wf]
  | cons d rest => simp [KMap.wf] at h; exact h.2

theorem KMap.wf_above {α : Type} {a : Nat} {x : α} {m : KMap α} (h : KMap.wf ((a, x) :: m) = true) :
    KMap.above a m := by
  induction m generalizing a x with
  | nil => intro c hc; cases hc
  | cons d rest ih =>
    obtain ⟨b, y⟩ := d
    simp [KMap.wf] at h
    intro c hc
    rcases List.mem_cons.mp hc with rfl | hc
    · exact h.1
    · exact Nat.lt_trans h.1 (ih h.2 c hc)

theorem KMap.wf_cons {α : Type} {a : Nat} {x : α} {m : KMap α} (hm : KMap.wf m = true) (h : KMap.above a m) :
    KMap.wf ((a, x) :: m) = true := by
  cases m with
  | nil => simp [KMap.wf]
  | cons d rest =>
    obtain ⟨b, y⟩ := d
    simp [KMap.wf, hm]
    exact h (b, y) (by simp)

theorem KMap.put_above {α : Type} {a k : Nat} {v : α} {m : KMap α} (h : KMap.above a m) (hk : a < k) :
    KMap.above a (m.put k v) := by
  induction m with
  | nil => intro c hc; simp [KMap.put] at hc; subst hc; exact hk
  | cons d rest ih =>
    obtain ⟨b, y⟩ := d
    have hr : KMap.above a rest := fun c hc => h c (by simp [hc])
    intro c hc
    unfold KMap.put at hc
    split at hc
    · rcases List.mem_cons.mp hc with rfl | hc
      · exact h _ (by simp)
      · exact ih hr c hc
    · split at hc
      · rcases List.mem_cons.mp hc with rfl | hc
        · exact hk
        · exact hr c hc
      · rcases List.mem_cons.mp hc with rfl | hc
        · exact hk
        · exact h c hc

theorem KMap.put_wf {α : Type} {m : KMap α} (k : Nat) (v : α) (h : KMap.wf m = true) : KMap.wf (m.put k v) = true := by
  induction m with
  | nil => simp [KMap.put, KMap.wf]
  | cons d rest ih =>
    obtain ⟨b, y⟩ := d
    have ha := KMap.wf_above h
    have hr := ih (KMap.wf_tail h)
    unfold KMap.put
    split
    · exact KMap.wf_cons hr (KMap.put_above ha ‹_›)
    · rename_i hlt
      split
      · rename_i heq
        simp at heq
        subst heq
        exact KMap.wf_cons (KMap.wf_tail h) ha
      · rename_i hne
        simp at hne
        refine KMap.wf_cons h ?_
        intro c hc
        have hk : k < b := by omega
        rcases List.mem_cons.mp hc with rfl | hc
        · exact hk
        · exact Nat.lt_trans hk (ha c hc)

theorem KMap.filter_wf {α : Type} {m : KMap α} (p : Nat × α → Bool) (h : KMap.wf m = true) :
    KMap.wf (m.filter p) = true := by
  induction m with
  | nil => simp [KMap.wf]
  | cons d rest ih =>
    obtain ⟨b, y⟩ := d
    have ha := KMap.wf_above h
    have hr := ih (KMap.wf_tail h)
    by_cases hp : p (b, y) = true
    · simp only [List.filter_cons, hp, if_true]
      exact KMap.wf_cons hr (fun c hc => ha c (List.mem_filter.mp hc).1)
    · simp only [List.filter_cons, hp]
      exact hr

theorem KMap.keep_wf {α : Type} {m : KMap α} (p : Nat → α → Bool) (h : KMap.wf m = true) :
    KMap.wf (m.keep p) = true := KMap.filter_wf _ h

theorem KMap.del_sub {α : Type} (m : KMap α) (k : Nat) : ∀ c ∈ m.del k, c ∈ m := by
  induction m with
  | nil => intro c hc; cases hc
  | cons d rest ih =>
    obtain ⟨b, y⟩ := d
    intro c hc
    unfold KMap.del at hc
    split at hc
    · exact List.mem_cons_of_mem _ hc
    · rcases List.mem_cons.mp hc with rfl | hc
      · simp
      · exact List.mem_cons_of_mem _ (ih c hc)

theorem KMap.del_wf {α : Type} {m : KMap α} (k : Nat) (h : KMap.wf m = true) : KMap.wf (m.del k) = true := by
  induction m with
  | nil => simp [KMap.del, KMap.wf]
  | cons d rest ih =>
    obtain ⟨b, y⟩ := d
    have ha := KMap.wf_above h
    unfold KMap.del
    split
    · exact KMap.wf_tail h
    · exact KMap.wf_cons (ih (KMap.wf_tail h)) (fun c hc => ha c (KMap.del_sub rest k c hc))

theorem KMap.get_del_other {α : Type} (m : KMap α) {k j : Nat} (h : j ≠ k) : (m.del k).get j = m.get j := by
  induction m with
  | nil => simp [KMap.del, KMap.get]
  | cons c rest ih =>
    obtain ⟨a, x⟩ := c
    by_cases h2 : a = k
    · simp [KMap.del, KMap.get, h2, Ne.symm h]
    · simp [KMap.del, KMap.get, h2, ih]

theorem KMap.get_above {α : Type} {m : KMap α} {k : Nat} (h : KMap.above k m) : m.get k = none := by
  induction m with
  | nil => rfl
  | cons c rest ih =>
    obtain ⟨a, x⟩ := c
    have ha : k < a := h (a, x) (by simp)
    have hn : a ≠ k := by omega
    simp [KMap.get, hn]
    exact ih (fun c hc => h c (by simp [hc]))

theorem KMap.get_del_same {α : Type} {m : KMap α} (k : Nat) (h : KMap.wf m = true) : (m.del k).get k = none := by
  induction m with
  | nil => rfl
  | cons c rest ih =>
    obtain ⟨a, x⟩ := c
    by_cases h2 : a = k
    · simp only [KMap.del, h2, beq_self_eq_true, if_true]
      subst h2
      exact KMap.get_above (KMap.wf_above h)
    · simp [KMap.del, KMap.get, h2]
      exact ih (KMap.wf_tail h)

/-! ### Byte memories -/

theorem Mem.rd_wr_other (m : Mem) {a b : Nat} (v : Byte) (h : b ≠ a) : (m.wr a v).rd b = m.rd b := by
  unfold Mem.wr Mem.rd
  split
  · rw [KMap.get_del_other m h]
  · rw [KMap.get_put_other m v h]

theorem Mem.rd_wr_same {m : Mem} (a : Nat) (v : Byte) (h : m.wf = true) : (m.wr a v).rd a = v := by
  have hw : KMap.wf m = true := by simp [Mem.wf] at h; exact h.1
  unfold Mem.wr Mem.rd
  split
  · rename_i hv
    simp at hv
    simp [KMap.get_del_same a hw, hv]
  · rw [KMap.get_put_same]; rfl

theorem KMap.put_mem {α : Type} {m : KMap α} {k : Nat} {v : α} {c : Nat × α} (h : c ∈ m.put k v) :
    c = (k, v) ∨ c ∈ m := by
  induction m with
  | nil => simp [KMap.put] at h; exact Or.inl h
  | cons d rest ih =>
    obtain ⟨b, y⟩ := d
    unfold KMap.put at h
    split at h
    · rcases List.mem_cons.mp h with rfl | h
      · simp
      · rcases ih h with h | h
        · exact Or.inl h
        · exact Or.inr (List.mem_cons_of_mem _ h)
    · split at h
      · rcases List.mem_cons.mp h with rfl | h
        · exact Or.inl rfl
        · exact Or.inr (List.mem_cons_of_mem _ h)
      · rcases List.mem_cons.mp h with rfl | h
        · exact Or.inl rfl
        · exact Or.inr h

theorem Mem.wr_wf {m : Mem} (a : Nat) (v : Byte) (h : m.wf = true) : (m.wr a v).wf = true := by
  simp only [Mem.wf, Bool.and_eq_true, List.all_eq_true] at h ⊢
  unfold Mem.wr
  split
  · exact ⟨KMap.del_wf a h.1, fun c hc => h.2 c (KMap.del_sub m a c hc)⟩
  · rename_i hv
    refine ⟨KMap.put_wf a v h.1, fun c hc => ?_⟩
    rcases KMap.put_mem hc with rfl | hc
    · simpa using hv
    · exact h.2 c hc

theorem Mem.wrN_wf {m : Mem} (a : Nat) (b : Bytes) (h : m.wf = true) : (m.wrN a b).wf = true := by
  induction b generalizing m a with
  | nil => exact h
  | cons x xs ih => exact ih (a + 1) (Mem.wr_wf a x h)

theorem Mem.putNum_wf {m : Mem} (a n v : Nat) (h : m.wf = true) : (m.putNum a n v).wf = true := Mem.wrN_wf a _ h

theorem Mem.zeroN_wf {m : Mem} (a n : Nat) (h : m.wf = true) : (m.zeroN a n).wf = true := by
  simp only [Mem.wf, Bool.and_eq_true, List.all_eq_true] at h ⊢
  exact ⟨KMap.filter_wf _ h.1, fun c hc => h.2 c (List.mem_filter.mp hc).1⟩

/-- A byte outside the n bytes written reads as before. -/
theorem Mem.rd_wrN_other (m : Mem) {a b : Nat} (v : Bytes) (h : b < a ∨ a + v.length ≤ b) :
    (m.wrN a v).rd b = m.rd b := by
  induction v generalizing m a with
  | nil => rfl
  | cons x xs ih =>
    simp only [List.length_cons] at h
    simp only [Mem.wrN]
    rw [ih (m.wr a x) (by omega), Mem.rd_wr_other m x (by omega)]

/-- A byte among those written reads as it was written. -/
theorem Mem.rd_wrN_in {m : Mem} (hm : m.wf = true) (a : Nat) (v : Bytes) (i : Nat) (h : i < v.length) :
    (m.wrN a v).rd (a + i) = v[i] := by
  induction v generalizing m a i with
  | nil => simp at h
  | cons x xs ih =>
    simp only [Mem.wrN]
    cases i with
    | zero =>
      have e := Mem.rd_wrN_other (m.wr a x) (a := a + 1) (b := a + 0) xs (Or.inl (by omega))
      rw [e]
      simpa using Mem.rd_wr_same a x hm
    | succ j =>
      have hj : j < xs.length := by simpa using h
      have e : a + (j + 1) = a + 1 + j := by omega
      rw [e, ih (Mem.wr_wf a x hm) (a + 1) j hj]
      rfl

end Sys2Proof.Machine
end

