-- ==== Sys2Proof/Laws/State.lean ====
section
/-!
SUPPORT. Laws of the state: what each shared update of the module leaves alone, field by field, and what each way of running
a command answers.
-/

namespace Sys2Proof.Machine

open Sys2Proof

/-! ### What the updates of one field leave alone -/

@[simp] theorem Module.setReg_clk (off : Nat) (v : Word) (m : Module) : (m.setReg off v).clk = m.clk := (rfl)
@[simp] theorem Module.setReg_free (off : Nat) (v : Word) (m : Module) : (m.setReg off v).free = m.free := (rfl)
@[simp] theorem Module.setReg_hbm (off : Nat) (v : Word) (m : Module) : (m.setReg off v).hbm = m.hbm := (rfl)
@[simp] theorem Module.setReg_lpddr (off : Nat) (v : Word) (m : Module) : (m.setReg off v).lpddr = m.lpddr := (rfl)
@[simp] theorem Module.setReg_hostMem (off : Nat) (v : Word) (m : Module) : (m.setReg off v).hostMem = m.hostMem := (rfl)
@[simp] theorem Module.setReg_out (off : Nat) (v : Word) (m : Module) : (m.setReg off v).out = m.out := (rfl)
@[simp] theorem Module.setReg_parts (off : Nat) (v : Word) (m : Module) : (m.setReg off v).parts = m.parts := (rfl)
@[simp] theorem Module.setReg_host (off : Nat) (v : Word) (m : Module) : (m.setReg off v).host = m.host := (rfl)
@[simp] theorem Module.setReg_ev (off : Nat) (v : Word) (m : Module) : (m.setReg off v).ev = m.ev := (rfl)
@[simp] theorem Module.setReg_ptp (off : Nat) (v : Word) (m : Module) : (m.setReg off v).ptp = m.ptp := (rfl)
@[simp] theorem Module.setReg_bell (off : Nat) (v : Word) (m : Module) : (m.setReg off v).bell = m.bell := (rfl)
@[simp] theorem Module.setReg_lig (off : Nat) (v : Word) (m : Module) : (m.setReg off v).lig = m.lig := (rfl)
@[simp] theorem Module.setReg_strand (off : Nat) (v : Word) (m : Module) : (m.setReg off v).strand = m.strand := (rfl)
@[simp] theorem Module.setReg_sched (off : Nat) (v : Word) (m : Module) : (m.setReg off v).sched = m.sched := (rfl)
@[simp] theorem Module.setReg_attn (off : Nat) (v : Word) (m : Module) : (m.setReg off v).attn = m.attn := (rfl)
@[simp] theorem Module.setReg_reed (off : Nat) (v : Word) (m : Module) : (m.setReg off v).reed = m.reed := (rfl)
@[simp] theorem Module.setReg_firewall (off : Nat) (v : Word) (m : Module) : (m.setReg off v).firewall = m.firewall := (rfl)
@[simp] theorem Module.setReg_caps (off : Nat) (v : Word) (m : Module) : (m.setReg off v).caps = m.caps := (rfl)
@[simp] theorem Module.setReg_slide (off : Nat) (v : Word) (m : Module) : (m.setReg off v).slide = m.slide := (rfl)
@[simp] theorem Module.setReg_ftl (off : Nat) (v : Word) (m : Module) : (m.setReg off v).ftl = m.ftl := (rfl)
@[simp] theorem Module.setReg_steps (off : Nat) (v : Word) (m : Module) : (m.setReg off v).steps = m.steps := (rfl)
@[simp] theorem Module.setReg_mouth (off : Nat) (v : Word) (m : Module) : (m.setReg off v).mouth = m.mouth := (rfl)
@[simp] theorem Module.setReg_mirror (off : Nat) (v : Word) (m : Module) : (m.setReg off v).mirror = m.mirror := (rfl)
@[simp] theorem Module.setReg_ckpt (off : Nat) (v : Word) (m : Module) : (m.setReg off v).ckpt = m.ckpt := (rfl)
@[simp] theorem Module.setReg_bore (off : Nat) (v : Word) (m : Module) : (m.setReg off v).bore = m.bore := (rfl)
@[simp] theorem Module.setReg_secur (off : Nat) (v : Word) (m : Module) : (m.setReg off v).secur = m.secur := (rfl)
@[simp] theorem Module.setReg_power (off : Nat) (v : Word) (m : Module) : (m.setReg off v).power = m.power := (rfl)
@[simp] theorem Module.setReg_test (off : Nat) (v : Word) (m : Module) : (m.setReg off v).test = m.test := (rfl)

@[simp] theorem Module.set_clk (f : Fld) (v : Nat) (m : Module) : (m.set f v).clk = m.clk := (rfl)
@[simp] theorem Module.set_free (f : Fld) (v : Nat) (m : Module) : (m.set f v).free = m.free := (rfl)
@[simp] theorem Module.set_hbm (f : Fld) (v : Nat) (m : Module) : (m.set f v).hbm = m.hbm := (rfl)
@[simp] theorem Module.set_lpddr (f : Fld) (v : Nat) (m : Module) : (m.set f v).lpddr = m.lpddr := (rfl)
@[simp] theorem Module.set_hostMem (f : Fld) (v : Nat) (m : Module) : (m.set f v).hostMem = m.hostMem := (rfl)
@[simp] theorem Module.set_out (f : Fld) (v : Nat) (m : Module) : (m.set f v).out = m.out := (rfl)
@[simp] theorem Module.set_parts (f : Fld) (v : Nat) (m : Module) : (m.set f v).parts = m.parts := (rfl)
@[simp] theorem Module.set_host (f : Fld) (v : Nat) (m : Module) : (m.set f v).host = m.host := (rfl)
@[simp] theorem Module.set_ev (f : Fld) (v : Nat) (m : Module) : (m.set f v).ev = m.ev := (rfl)
@[simp] theorem Module.set_ptp (f : Fld) (v : Nat) (m : Module) : (m.set f v).ptp = m.ptp := (rfl)
@[simp] theorem Module.set_bell (f : Fld) (v : Nat) (m : Module) : (m.set f v).bell = m.bell := (rfl)
@[simp] theorem Module.set_lig (f : Fld) (v : Nat) (m : Module) : (m.set f v).lig = m.lig := (rfl)
@[simp] theorem Module.set_strand (f : Fld) (v : Nat) (m : Module) : (m.set f v).strand = m.strand := (rfl)
@[simp] theorem Module.set_sched (f : Fld) (v : Nat) (m : Module) : (m.set f v).sched = m.sched := (rfl)
@[simp] theorem Module.set_attn (f : Fld) (v : Nat) (m : Module) : (m.set f v).attn = m.attn := (rfl)
@[simp] theorem Module.set_reed (f : Fld) (v : Nat) (m : Module) : (m.set f v).reed = m.reed := (rfl)
@[simp] theorem Module.set_firewall (f : Fld) (v : Nat) (m : Module) : (m.set f v).firewall = m.firewall := (rfl)
@[simp] theorem Module.set_caps (f : Fld) (v : Nat) (m : Module) : (m.set f v).caps = m.caps := (rfl)
@[simp] theorem Module.set_slide (f : Fld) (v : Nat) (m : Module) : (m.set f v).slide = m.slide := (rfl)
@[simp] theorem Module.set_ftl (f : Fld) (v : Nat) (m : Module) : (m.set f v).ftl = m.ftl := (rfl)
@[simp] theorem Module.set_steps (f : Fld) (v : Nat) (m : Module) : (m.set f v).steps = m.steps := (rfl)
@[simp] theorem Module.set_mouth (f : Fld) (v : Nat) (m : Module) : (m.set f v).mouth = m.mouth := (rfl)
@[simp] theorem Module.set_mirror (f : Fld) (v : Nat) (m : Module) : (m.set f v).mirror = m.mirror := (rfl)
@[simp] theorem Module.set_ckpt (f : Fld) (v : Nat) (m : Module) : (m.set f v).ckpt = m.ckpt := (rfl)
@[simp] theorem Module.set_bore (f : Fld) (v : Nat) (m : Module) : (m.set f v).bore = m.bore := (rfl)
@[simp] theorem Module.set_secur (f : Fld) (v : Nat) (m : Module) : (m.set f v).secur = m.secur := (rfl)
@[simp] theorem Module.set_power (f : Fld) (v : Nat) (m : Module) : (m.set f v).power = m.power := (rfl)
@[simp] theorem Module.set_test (f : Fld) (v : Nat) (m : Module) : (m.set f v).test = m.test := (rfl)

@[simp] theorem Module.setBit_clk (f : Fld) (i : Nat) (m : Module) : (m.setBit f i).clk = m.clk := (rfl)
@[simp] theorem Module.setBit_free (f : Fld) (i : Nat) (m : Module) : (m.setBit f i).free = m.free := (rfl)
@[simp] theorem Module.setBit_hbm (f : Fld) (i : Nat) (m : Module) : (m.setBit f i).hbm = m.hbm := (rfl)
@[simp] theorem Module.setBit_lpddr (f : Fld) (i : Nat) (m : Module) : (m.setBit f i).lpddr = m.lpddr := (rfl)
@[simp] theorem Module.setBit_hostMem (f : Fld) (i : Nat) (m : Module) : (m.setBit f i).hostMem = m.hostMem := (rfl)
@[simp] theorem Module.setBit_out (f : Fld) (i : Nat) (m : Module) : (m.setBit f i).out = m.out := (rfl)
@[simp] theorem Module.setBit_parts (f : Fld) (i : Nat) (m : Module) : (m.setBit f i).parts = m.parts := (rfl)
@[simp] theorem Module.setBit_host (f : Fld) (i : Nat) (m : Module) : (m.setBit f i).host = m.host := (rfl)
@[simp] theorem Module.setBit_ev (f : Fld) (i : Nat) (m : Module) : (m.setBit f i).ev = m.ev := (rfl)
@[simp] theorem Module.setBit_ptp (f : Fld) (i : Nat) (m : Module) : (m.setBit f i).ptp = m.ptp := (rfl)
@[simp] theorem Module.setBit_bell (f : Fld) (i : Nat) (m : Module) : (m.setBit f i).bell = m.bell := (rfl)
@[simp] theorem Module.setBit_lig (f : Fld) (i : Nat) (m : Module) : (m.setBit f i).lig = m.lig := (rfl)
@[simp] theorem Module.setBit_strand (f : Fld) (i : Nat) (m : Module) : (m.setBit f i).strand = m.strand := (rfl)
@[simp] theorem Module.setBit_sched (f : Fld) (i : Nat) (m : Module) : (m.setBit f i).sched = m.sched := (rfl)
@[simp] theorem Module.setBit_attn (f : Fld) (i : Nat) (m : Module) : (m.setBit f i).attn = m.attn := (rfl)
@[simp] theorem Module.setBit_reed (f : Fld) (i : Nat) (m : Module) : (m.setBit f i).reed = m.reed := (rfl)
@[simp] theorem Module.setBit_firewall (f : Fld) (i : Nat) (m : Module) : (m.setBit f i).firewall = m.firewall := (rfl)
@[simp] theorem Module.setBit_caps (f : Fld) (i : Nat) (m : Module) : (m.setBit f i).caps = m.caps := (rfl)
@[simp] theorem Module.setBit_slide (f : Fld) (i : Nat) (m : Module) : (m.setBit f i).slide = m.slide := (rfl)
@[simp] theorem Module.setBit_ftl (f : Fld) (i : Nat) (m : Module) : (m.setBit f i).ftl = m.ftl := (rfl)
@[simp] theorem Module.setBit_steps (f : Fld) (i : Nat) (m : Module) : (m.setBit f i).steps = m.steps := (rfl)
@[simp] theorem Module.setBit_mouth (f : Fld) (i : Nat) (m : Module) : (m.setBit f i).mouth = m.mouth := (rfl)
@[simp] theorem Module.setBit_mirror (f : Fld) (i : Nat) (m : Module) : (m.setBit f i).mirror = m.mirror := (rfl)
@[simp] theorem Module.setBit_ckpt (f : Fld) (i : Nat) (m : Module) : (m.setBit f i).ckpt = m.ckpt := (rfl)
@[simp] theorem Module.setBit_bore (f : Fld) (i : Nat) (m : Module) : (m.setBit f i).bore = m.bore := (rfl)
@[simp] theorem Module.setBit_secur (f : Fld) (i : Nat) (m : Module) : (m.setBit f i).secur = m.secur := (rfl)
@[simp] theorem Module.setBit_power (f : Fld) (i : Nat) (m : Module) : (m.setBit f i).power = m.power := (rfl)
@[simp] theorem Module.setBit_test (f : Fld) (i : Nat) (m : Module) : (m.setBit f i).test = m.test := (rfl)

@[simp] theorem Module.clearBit_clk (f : Fld) (i : Nat) (m : Module) : (m.clearBit f i).clk = m.clk := (rfl)
@[simp] theorem Module.clearBit_free (f : Fld) (i : Nat) (m : Module) : (m.clearBit f i).free = m.free := (rfl)
@[simp] theorem Module.clearBit_hbm (f : Fld) (i : Nat) (m : Module) : (m.clearBit f i).hbm = m.hbm := (rfl)
@[simp] theorem Module.clearBit_lpddr (f : Fld) (i : Nat) (m : Module) : (m.clearBit f i).lpddr = m.lpddr := (rfl)
@[simp] theorem Module.clearBit_hostMem (f : Fld) (i : Nat) (m : Module) : (m.clearBit f i).hostMem = m.hostMem := (rfl)
@[simp] theorem Module.clearBit_out (f : Fld) (i : Nat) (m : Module) : (m.clearBit f i).out = m.out := (rfl)
@[simp] theorem Module.clearBit_parts (f : Fld) (i : Nat) (m : Module) : (m.clearBit f i).parts = m.parts := (rfl)
@[simp] theorem Module.clearBit_host (f : Fld) (i : Nat) (m : Module) : (m.clearBit f i).host = m.host := (rfl)
@[simp] theorem Module.clearBit_ev (f : Fld) (i : Nat) (m : Module) : (m.clearBit f i).ev = m.ev := (rfl)
@[simp] theorem Module.clearBit_ptp (f : Fld) (i : Nat) (m : Module) : (m.clearBit f i).ptp = m.ptp := (rfl)
@[simp] theorem Module.clearBit_bell (f : Fld) (i : Nat) (m : Module) : (m.clearBit f i).bell = m.bell := (rfl)
@[simp] theorem Module.clearBit_lig (f : Fld) (i : Nat) (m : Module) : (m.clearBit f i).lig = m.lig := (rfl)
@[simp] theorem Module.clearBit_strand (f : Fld) (i : Nat) (m : Module) : (m.clearBit f i).strand = m.strand := (rfl)
@[simp] theorem Module.clearBit_sched (f : Fld) (i : Nat) (m : Module) : (m.clearBit f i).sched = m.sched := (rfl)
@[simp] theorem Module.clearBit_attn (f : Fld) (i : Nat) (m : Module) : (m.clearBit f i).attn = m.attn := (rfl)
@[simp] theorem Module.clearBit_reed (f : Fld) (i : Nat) (m : Module) : (m.clearBit f i).reed = m.reed := (rfl)
@[simp] theorem Module.clearBit_firewall (f : Fld) (i : Nat) (m : Module) : (m.clearBit f i).firewall = m.firewall := (rfl)
@[simp] theorem Module.clearBit_caps (f : Fld) (i : Nat) (m : Module) : (m.clearBit f i).caps = m.caps := (rfl)
@[simp] theorem Module.clearBit_slide (f : Fld) (i : Nat) (m : Module) : (m.clearBit f i).slide = m.slide := (rfl)
@[simp] theorem Module.clearBit_ftl (f : Fld) (i : Nat) (m : Module) : (m.clearBit f i).ftl = m.ftl := (rfl)
@[simp] theorem Module.clearBit_steps (f : Fld) (i : Nat) (m : Module) : (m.clearBit f i).steps = m.steps := (rfl)
@[simp] theorem Module.clearBit_mouth (f : Fld) (i : Nat) (m : Module) : (m.clearBit f i).mouth = m.mouth := (rfl)
@[simp] theorem Module.clearBit_mirror (f : Fld) (i : Nat) (m : Module) : (m.clearBit f i).mirror = m.mirror := (rfl)
@[simp] theorem Module.clearBit_ckpt (f : Fld) (i : Nat) (m : Module) : (m.clearBit f i).ckpt = m.ckpt := (rfl)
@[simp] theorem Module.clearBit_bore (f : Fld) (i : Nat) (m : Module) : (m.clearBit f i).bore = m.bore := (rfl)
@[simp] theorem Module.clearBit_secur (f : Fld) (i : Nat) (m : Module) : (m.clearBit f i).secur = m.secur := (rfl)
@[simp] theorem Module.clearBit_power (f : Fld) (i : Nat) (m : Module) : (m.clearBit f i).power = m.power := (rfl)
@[simp] theorem Module.clearBit_test (f : Fld) (i : Nat) (m : Module) : (m.clearBit f i).test = m.test := (rfl)

@[simp] theorem Module.bumpBy_clk (f : Fld) (n : Nat) (m : Module) : (m.bumpBy f n).clk = m.clk := by unfold Module.bumpBy; dsimp only; split <;> rfl
@[simp] theorem Module.bumpBy_free (f : Fld) (n : Nat) (m : Module) : (m.bumpBy f n).free = m.free := by unfold Module.bumpBy; dsimp only; split <;> rfl
@[simp] theorem Module.bumpBy_hbm (f : Fld) (n : Nat) (m : Module) : (m.bumpBy f n).hbm = m.hbm := by unfold Module.bumpBy; dsimp only; split <;> rfl
@[simp] theorem Module.bumpBy_lpddr (f : Fld) (n : Nat) (m : Module) : (m.bumpBy f n).lpddr = m.lpddr := by unfold Module.bumpBy; dsimp only; split <;> rfl
@[simp] theorem Module.bumpBy_hostMem (f : Fld) (n : Nat) (m : Module) : (m.bumpBy f n).hostMem = m.hostMem := by unfold Module.bumpBy; dsimp only; split <;> rfl
@[simp] theorem Module.bumpBy_out (f : Fld) (n : Nat) (m : Module) : (m.bumpBy f n).out = m.out := by unfold Module.bumpBy; dsimp only; split <;> rfl
@[simp] theorem Module.bumpBy_parts (f : Fld) (n : Nat) (m : Module) : (m.bumpBy f n).parts = m.parts := by unfold Module.bumpBy; dsimp only; split <;> rfl
@[simp] theorem Module.bumpBy_host (f : Fld) (n : Nat) (m : Module) : (m.bumpBy f n).host = m.host := by unfold Module.bumpBy; dsimp only; split <;> rfl
@[simp] theorem Module.bumpBy_ev (f : Fld) (n : Nat) (m : Module) : (m.bumpBy f n).ev = m.ev := by unfold Module.bumpBy; dsimp only; split <;> rfl
@[simp] theorem Module.bumpBy_ptp (f : Fld) (n : Nat) (m : Module) : (m.bumpBy f n).ptp = m.ptp := by unfold Module.bumpBy; dsimp only; split <;> rfl
@[simp] theorem Module.bumpBy_bell (f : Fld) (n : Nat) (m : Module) : (m.bumpBy f n).bell = m.bell := by unfold Module.bumpBy; dsimp only; split <;> rfl
@[simp] theorem Module.bumpBy_lig (f : Fld) (n : Nat) (m : Module) : (m.bumpBy f n).lig = m.lig := by unfold Module.bumpBy; dsimp only; split <;> rfl
@[simp] theorem Module.bumpBy_strand (f : Fld) (n : Nat) (m : Module) : (m.bumpBy f n).strand = m.strand := by unfold Module.bumpBy; dsimp only; split <;> rfl
@[simp] theorem Module.bumpBy_sched (f : Fld) (n : Nat) (m : Module) : (m.bumpBy f n).sched = m.sched := by unfold Module.bumpBy; dsimp only; split <;> rfl
@[simp] theorem Module.bumpBy_attn (f : Fld) (n : Nat) (m : Module) : (m.bumpBy f n).attn = m.attn := by unfold Module.bumpBy; dsimp only; split <;> rfl
@[simp] theorem Module.bumpBy_reed (f : Fld) (n : Nat) (m : Module) : (m.bumpBy f n).reed = m.reed := by unfold Module.bumpBy; dsimp only; split <;> rfl
@[simp] theorem Module.bumpBy_firewall (f : Fld) (n : Nat) (m : Module) : (m.bumpBy f n).firewall = m.firewall := by unfold Module.bumpBy; dsimp only; split <;> rfl
@[simp] theorem Module.bumpBy_caps (f : Fld) (n : Nat) (m : Module) : (m.bumpBy f n).caps = m.caps := by unfold Module.bumpBy; dsimp only; split <;> rfl
@[simp] theorem Module.bumpBy_slide (f : Fld) (n : Nat) (m : Module) : (m.bumpBy f n).slide = m.slide := by unfold Module.bumpBy; dsimp only; split <;> rfl
@[simp] theorem Module.bumpBy_ftl (f : Fld) (n : Nat) (m : Module) : (m.bumpBy f n).ftl = m.ftl := by unfold Module.bumpBy; dsimp only; split <;> rfl
@[simp] theorem Module.bumpBy_steps (f : Fld) (n : Nat) (m : Module) : (m.bumpBy f n).steps = m.steps := by unfold Module.bumpBy; dsimp only; split <;> rfl
@[simp] theorem Module.bumpBy_mouth (f : Fld) (n : Nat) (m : Module) : (m.bumpBy f n).mouth = m.mouth := by unfold Module.bumpBy; dsimp only; split <;> rfl
@[simp] theorem Module.bumpBy_mirror (f : Fld) (n : Nat) (m : Module) : (m.bumpBy f n).mirror = m.mirror := by unfold Module.bumpBy; dsimp only; split <;> rfl
@[simp] theorem Module.bumpBy_ckpt (f : Fld) (n : Nat) (m : Module) : (m.bumpBy f n).ckpt = m.ckpt := by unfold Module.bumpBy; dsimp only; split <;> rfl
@[simp] theorem Module.bumpBy_bore (f : Fld) (n : Nat) (m : Module) : (m.bumpBy f n).bore = m.bore := by unfold Module.bumpBy; dsimp only; split <;> rfl
@[simp] theorem Module.bumpBy_secur (f : Fld) (n : Nat) (m : Module) : (m.bumpBy f n).secur = m.secur := by unfold Module.bumpBy; dsimp only; split <;> rfl
@[simp] theorem Module.bumpBy_power (f : Fld) (n : Nat) (m : Module) : (m.bumpBy f n).power = m.power := by unfold Module.bumpBy; dsimp only; split <;> rfl
@[simp] theorem Module.bumpBy_test (f : Fld) (n : Nat) (m : Module) : (m.bumpBy f n).test = m.test := by unfold Module.bumpBy; dsimp only; split <;> rfl

@[simp] theorem Module.bump_clk (f : Fld) (m : Module) : (m.bump f).clk = m.clk := by simp [Module.bump]
@[simp] theorem Module.bump_free (f : Fld) (m : Module) : (m.bump f).free = m.free := by simp [Module.bump]
@[simp] theorem Module.bump_hbm (f : Fld) (m : Module) : (m.bump f).hbm = m.hbm := by simp [Module.bump]
@[simp] theorem Module.bump_lpddr (f : Fld) (m : Module) : (m.bump f).lpddr = m.lpddr := by simp [Module.bump]
@[simp] theorem Module.bump_hostMem (f : Fld) (m : Module) : (m.bump f).hostMem = m.hostMem := by simp [Module.bump]
@[simp] theorem Module.bump_out (f : Fld) (m : Module) : (m.bump f).out = m.out := by simp [Module.bump]
@[simp] theorem Module.bump_parts (f : Fld) (m : Module) : (m.bump f).parts = m.parts := by simp [Module.bump]
@[simp] theorem Module.bump_host (f : Fld) (m : Module) : (m.bump f).host = m.host := by simp [Module.bump]
@[simp] theorem Module.bump_ev (f : Fld) (m : Module) : (m.bump f).ev = m.ev := by simp [Module.bump]
@[simp] theorem Module.bump_ptp (f : Fld) (m : Module) : (m.bump f).ptp = m.ptp := by simp [Module.bump]
@[simp] theorem Module.bump_bell (f : Fld) (m : Module) : (m.bump f).bell = m.bell := by simp [Module.bump]
@[simp] theorem Module.bump_lig (f : Fld) (m : Module) : (m.bump f).lig = m.lig := by simp [Module.bump]
@[simp] theorem Module.bump_strand (f : Fld) (m : Module) : (m.bump f).strand = m.strand := by simp [Module.bump]
@[simp] theorem Module.bump_sched (f : Fld) (m : Module) : (m.bump f).sched = m.sched := by simp [Module.bump]
@[simp] theorem Module.bump_attn (f : Fld) (m : Module) : (m.bump f).attn = m.attn := by simp [Module.bump]
@[simp] theorem Module.bump_reed (f : Fld) (m : Module) : (m.bump f).reed = m.reed := by simp [Module.bump]
@[simp] theorem Module.bump_firewall (f : Fld) (m : Module) : (m.bump f).firewall = m.firewall := by simp [Module.bump]
@[simp] theorem Module.bump_caps (f : Fld) (m : Module) : (m.bump f).caps = m.caps := by simp [Module.bump]
@[simp] theorem Module.bump_slide (f : Fld) (m : Module) : (m.bump f).slide = m.slide := by simp [Module.bump]
@[simp] theorem Module.bump_ftl (f : Fld) (m : Module) : (m.bump f).ftl = m.ftl := by simp [Module.bump]
@[simp] theorem Module.bump_steps (f : Fld) (m : Module) : (m.bump f).steps = m.steps := by simp [Module.bump]
@[simp] theorem Module.bump_mouth (f : Fld) (m : Module) : (m.bump f).mouth = m.mouth := by simp [Module.bump]
@[simp] theorem Module.bump_mirror (f : Fld) (m : Module) : (m.bump f).mirror = m.mirror := by simp [Module.bump]
@[simp] theorem Module.bump_ckpt (f : Fld) (m : Module) : (m.bump f).ckpt = m.ckpt := by simp [Module.bump]
@[simp] theorem Module.bump_bore (f : Fld) (m : Module) : (m.bump f).bore = m.bore := by simp [Module.bump]
@[simp] theorem Module.bump_secur (f : Fld) (m : Module) : (m.bump f).secur = m.secur := by simp [Module.bump]
@[simp] theorem Module.bump_power (f : Fld) (m : Module) : (m.bump f).power = m.power := by simp [Module.bump]
@[simp] theorem Module.bump_test (f : Fld) (m : Module) : (m.bump f).test = m.test := by simp [Module.bump]

@[simp] theorem Module.emit_clk (e : Emission) (m : Module) : (m.emit e).clk = m.clk := (rfl)
@[simp] theorem Module.emit_free (e : Emission) (m : Module) : (m.emit e).free = m.free := (rfl)
@[simp] theorem Module.emit_regs (e : Emission) (m : Module) : (m.emit e).regs = m.regs := (rfl)
@[simp] theorem Module.emit_hbm (e : Emission) (m : Module) : (m.emit e).hbm = m.hbm := (rfl)
@[simp] theorem Module.emit_lpddr (e : Emission) (m : Module) : (m.emit e).lpddr = m.lpddr := (rfl)
@[simp] theorem Module.emit_hostMem (e : Emission) (m : Module) : (m.emit e).hostMem = m.hostMem := (rfl)
@[simp] theorem Module.emit_parts (e : Emission) (m : Module) : (m.emit e).parts = m.parts := (rfl)
@[simp] theorem Module.emit_host (e : Emission) (m : Module) : (m.emit e).host = m.host := (rfl)
@[simp] theorem Module.emit_ev (e : Emission) (m : Module) : (m.emit e).ev = m.ev := (rfl)
@[simp] theorem Module.emit_ptp (e : Emission) (m : Module) : (m.emit e).ptp = m.ptp := (rfl)
@[simp] theorem Module.emit_bell (e : Emission) (m : Module) : (m.emit e).bell = m.bell := (rfl)
@[simp] theorem Module.emit_lig (e : Emission) (m : Module) : (m.emit e).lig = m.lig := (rfl)
@[simp] theorem Module.emit_strand (e : Emission) (m : Module) : (m.emit e).strand = m.strand := (rfl)
@[simp] theorem Module.emit_sched (e : Emission) (m : Module) : (m.emit e).sched = m.sched := (rfl)
@[simp] theorem Module.emit_attn (e : Emission) (m : Module) : (m.emit e).attn = m.attn := (rfl)
@[simp] theorem Module.emit_reed (e : Emission) (m : Module) : (m.emit e).reed = m.reed := (rfl)
@[simp] theorem Module.emit_firewall (e : Emission) (m : Module) : (m.emit e).firewall = m.firewall := (rfl)
@[simp] theorem Module.emit_caps (e : Emission) (m : Module) : (m.emit e).caps = m.caps := (rfl)
@[simp] theorem Module.emit_slide (e : Emission) (m : Module) : (m.emit e).slide = m.slide := (rfl)
@[simp] theorem Module.emit_ftl (e : Emission) (m : Module) : (m.emit e).ftl = m.ftl := (rfl)
@[simp] theorem Module.emit_steps (e : Emission) (m : Module) : (m.emit e).steps = m.steps := (rfl)
@[simp] theorem Module.emit_mouth (e : Emission) (m : Module) : (m.emit e).mouth = m.mouth := (rfl)
@[simp] theorem Module.emit_mirror (e : Emission) (m : Module) : (m.emit e).mirror = m.mirror := (rfl)
@[simp] theorem Module.emit_ckpt (e : Emission) (m : Module) : (m.emit e).ckpt = m.ckpt := (rfl)
@[simp] theorem Module.emit_bore (e : Emission) (m : Module) : (m.emit e).bore = m.bore := (rfl)
@[simp] theorem Module.emit_secur (e : Emission) (m : Module) : (m.emit e).secur = m.secur := (rfl)
@[simp] theorem Module.emit_power (e : Emission) (m : Module) : (m.emit e).power = m.power := (rfl)
@[simp] theorem Module.emit_test (e : Emission) (m : Module) : (m.emit e).test = m.test := (rfl)

@[simp] theorem Module.setVec_clk (v : Nat) (x : MsixVec) (m : Module) : (m.setVec v x).clk = m.clk := (rfl)
@[simp] theorem Module.setVec_free (v : Nat) (x : MsixVec) (m : Module) : (m.setVec v x).free = m.free := (rfl)
@[simp] theorem Module.setVec_regs (v : Nat) (x : MsixVec) (m : Module) : (m.setVec v x).regs = m.regs := (rfl)
@[simp] theorem Module.setVec_hbm (v : Nat) (x : MsixVec) (m : Module) : (m.setVec v x).hbm = m.hbm := (rfl)
@[simp] theorem Module.setVec_lpddr (v : Nat) (x : MsixVec) (m : Module) : (m.setVec v x).lpddr = m.lpddr := (rfl)
@[simp] theorem Module.setVec_hostMem (v : Nat) (x : MsixVec) (m : Module) : (m.setVec v x).hostMem = m.hostMem := (rfl)
@[simp] theorem Module.setVec_out (v : Nat) (x : MsixVec) (m : Module) : (m.setVec v x).out = m.out := (rfl)
@[simp] theorem Module.setVec_parts (v : Nat) (x : MsixVec) (m : Module) : (m.setVec v x).parts = m.parts := (rfl)
@[simp] theorem Module.setVec_ev (v : Nat) (x : MsixVec) (m : Module) : (m.setVec v x).ev = m.ev := (rfl)
@[simp] theorem Module.setVec_ptp (v : Nat) (x : MsixVec) (m : Module) : (m.setVec v x).ptp = m.ptp := (rfl)
@[simp] theorem Module.setVec_bell (v : Nat) (x : MsixVec) (m : Module) : (m.setVec v x).bell = m.bell := (rfl)
@[simp] theorem Module.setVec_lig (v : Nat) (x : MsixVec) (m : Module) : (m.setVec v x).lig = m.lig := (rfl)
@[simp] theorem Module.setVec_strand (v : Nat) (x : MsixVec) (m : Module) : (m.setVec v x).strand = m.strand := (rfl)
@[simp] theorem Module.setVec_sched (v : Nat) (x : MsixVec) (m : Module) : (m.setVec v x).sched = m.sched := (rfl)
@[simp] theorem Module.setVec_attn (v : Nat) (x : MsixVec) (m : Module) : (m.setVec v x).attn = m.attn := (rfl)
@[simp] theorem Module.setVec_reed (v : Nat) (x : MsixVec) (m : Module) : (m.setVec v x).reed = m.reed := (rfl)
@[simp] theorem Module.setVec_firewall (v : Nat) (x : MsixVec) (m : Module) : (m.setVec v x).firewall = m.firewall := (rfl)
@[simp] theorem Module.setVec_caps (v : Nat) (x : MsixVec) (m : Module) : (m.setVec v x).caps = m.caps := (rfl)
@[simp] theorem Module.setVec_slide (v : Nat) (x : MsixVec) (m : Module) : (m.setVec v x).slide = m.slide := (rfl)
@[simp] theorem Module.setVec_ftl (v : Nat) (x : MsixVec) (m : Module) : (m.setVec v x).ftl = m.ftl := (rfl)
@[simp] theorem Module.setVec_steps (v : Nat) (x : MsixVec) (m : Module) : (m.setVec v x).steps = m.steps := (rfl)
@[simp] theorem Module.setVec_mouth (v : Nat) (x : MsixVec) (m : Module) : (m.setVec v x).mouth = m.mouth := (rfl)
@[simp] theorem Module.setVec_mirror (v : Nat) (x : MsixVec) (m : Module) : (m.setVec v x).mirror = m.mirror := (rfl)
@[simp] theorem Module.setVec_ckpt (v : Nat) (x : MsixVec) (m : Module) : (m.setVec v x).ckpt = m.ckpt := (rfl)
@[simp] theorem Module.setVec_bore (v : Nat) (x : MsixVec) (m : Module) : (m.setVec v x).bore = m.bore := (rfl)
@[simp] theorem Module.setVec_secur (v : Nat) (x : MsixVec) (m : Module) : (m.setVec v x).secur = m.secur := (rfl)
@[simp] theorem Module.setVec_power (v : Nat) (x : MsixVec) (m : Module) : (m.setVec v x).power = m.power := (rfl)
@[simp] theorem Module.setVec_test (v : Nat) (x : MsixVec) (m : Module) : (m.setVec v x).test = m.test := (rfl)

@[simp] theorem Module.msix_clk (v : Nat) (m : Module) : (m.msix v).clk = m.clk := by unfold Module.msix; dsimp only; split <;> rfl
@[simp] theorem Module.msix_free (v : Nat) (m : Module) : (m.msix v).free = m.free := by unfold Module.msix; dsimp only; split <;> rfl
@[simp] theorem Module.msix_regs (v : Nat) (m : Module) : (m.msix v).regs = m.regs := by unfold Module.msix; dsimp only; split <;> rfl
@[simp] theorem Module.msix_hbm (v : Nat) (m : Module) : (m.msix v).hbm = m.hbm := by unfold Module.msix; dsimp only; split <;> rfl
@[simp] theorem Module.msix_lpddr (v : Nat) (m : Module) : (m.msix v).lpddr = m.lpddr := by unfold Module.msix; dsimp only; split <;> rfl
@[simp] theorem Module.msix_hostMem (v : Nat) (m : Module) : (m.msix v).hostMem = m.hostMem := by unfold Module.msix; dsimp only; split <;> rfl
@[simp] theorem Module.msix_parts (v : Nat) (m : Module) : (m.msix v).parts = m.parts := by unfold Module.msix; dsimp only; split <;> rfl
@[simp] theorem Module.msix_ev (v : Nat) (m : Module) : (m.msix v).ev = m.ev := by unfold Module.msix; dsimp only; split <;> rfl
@[simp] theorem Module.msix_ptp (v : Nat) (m : Module) : (m.msix v).ptp = m.ptp := by unfold Module.msix; dsimp only; split <;> rfl
@[simp] theorem Module.msix_bell (v : Nat) (m : Module) : (m.msix v).bell = m.bell := by unfold Module.msix; dsimp only; split <;> rfl
@[simp] theorem Module.msix_lig (v : Nat) (m : Module) : (m.msix v).lig = m.lig := by unfold Module.msix; dsimp only; split <;> rfl
@[simp] theorem Module.msix_strand (v : Nat) (m : Module) : (m.msix v).strand = m.strand := by unfold Module.msix; dsimp only; split <;> rfl
@[simp] theorem Module.msix_sched (v : Nat) (m : Module) : (m.msix v).sched = m.sched := by unfold Module.msix; dsimp only; split <;> rfl
@[simp] theorem Module.msix_attn (v : Nat) (m : Module) : (m.msix v).attn = m.attn := by unfold Module.msix; dsimp only; split <;> rfl
@[simp] theorem Module.msix_reed (v : Nat) (m : Module) : (m.msix v).reed = m.reed := by unfold Module.msix; dsimp only; split <;> rfl
@[simp] theorem Module.msix_firewall (v : Nat) (m : Module) : (m.msix v).firewall = m.firewall := by unfold Module.msix; dsimp only; split <;> rfl
@[simp] theorem Module.msix_caps (v : Nat) (m : Module) : (m.msix v).caps = m.caps := by unfold Module.msix; dsimp only; split <;> rfl
@[simp] theorem Module.msix_slide (v : Nat) (m : Module) : (m.msix v).slide = m.slide := by unfold Module.msix; dsimp only; split <;> rfl
@[simp] theorem Module.msix_ftl (v : Nat) (m : Module) : (m.msix v).ftl = m.ftl := by unfold Module.msix; dsimp only; split <;> rfl
@[simp] theorem Module.msix_steps (v : Nat) (m : Module) : (m.msix v).steps = m.steps := by unfold Module.msix; dsimp only; split <;> rfl
@[simp] theorem Module.msix_mouth (v : Nat) (m : Module) : (m.msix v).mouth = m.mouth := by unfold Module.msix; dsimp only; split <;> rfl
@[simp] theorem Module.msix_mirror (v : Nat) (m : Module) : (m.msix v).mirror = m.mirror := by unfold Module.msix; dsimp only; split <;> rfl
@[simp] theorem Module.msix_ckpt (v : Nat) (m : Module) : (m.msix v).ckpt = m.ckpt := by unfold Module.msix; dsimp only; split <;> rfl
@[simp] theorem Module.msix_bore (v : Nat) (m : Module) : (m.msix v).bore = m.bore := by unfold Module.msix; dsimp only; split <;> rfl
@[simp] theorem Module.msix_secur (v : Nat) (m : Module) : (m.msix v).secur = m.secur := by unfold Module.msix; dsimp only; split <;> rfl
@[simp] theorem Module.msix_power (v : Nat) (m : Module) : (m.msix v).power = m.power := by unfold Module.msix; dsimp only; split <;> rfl
@[simp] theorem Module.msix_test (v : Nat) (m : Module) : (m.msix v).test = m.test := by unfold Module.msix; dsimp only; split <;> rfl

@[simp] theorem Module.blockEvent_clk (b : Nat) (m : Module) : (m.blockEvent b).clk = m.clk := by unfold Module.blockEvent; dsimp only; split <;> (try split) <;> simp
@[simp] theorem Module.blockEvent_free (b : Nat) (m : Module) : (m.blockEvent b).free = m.free := by unfold Module.blockEvent; dsimp only; split <;> (try split) <;> simp
@[simp] theorem Module.blockEvent_regs (b : Nat) (m : Module) : (m.blockEvent b).regs = m.regs := by unfold Module.blockEvent; dsimp only; split <;> (try split) <;> simp
@[simp] theorem Module.blockEvent_hbm (b : Nat) (m : Module) : (m.blockEvent b).hbm = m.hbm := by unfold Module.blockEvent; dsimp only; split <;> (try split) <;> simp
@[simp] theorem Module.blockEvent_lpddr (b : Nat) (m : Module) : (m.blockEvent b).lpddr = m.lpddr := by unfold Module.blockEvent; dsimp only; split <;> (try split) <;> simp
@[simp] theorem Module.blockEvent_hostMem (b : Nat) (m : Module) : (m.blockEvent b).hostMem = m.hostMem := by unfold Module.blockEvent; dsimp only; split <;> (try split) <;> simp
@[simp] theorem Module.blockEvent_parts (b : Nat) (m : Module) : (m.blockEvent b).parts = m.parts := by unfold Module.blockEvent; dsimp only; split <;> (try split) <;> simp
@[simp] theorem Module.blockEvent_ev (b : Nat) (m : Module) : (m.blockEvent b).ev = m.ev := by unfold Module.blockEvent; dsimp only; split <;> (try split) <;> simp
@[simp] theorem Module.blockEvent_ptp (b : Nat) (m : Module) : (m.blockEvent b).ptp = m.ptp := by unfold Module.blockEvent; dsimp only; split <;> (try split) <;> simp
@[simp] theorem Module.blockEvent_bell (b : Nat) (m : Module) : (m.blockEvent b).bell = m.bell := by unfold Module.blockEvent; dsimp only; split <;> (try split) <;> simp
@[simp] theorem Module.blockEvent_lig (b : Nat) (m : Module) : (m.blockEvent b).lig = m.lig := by unfold Module.blockEvent; dsimp only; split <;> (try split) <;> simp
@[simp] theorem Module.blockEvent_strand (b : Nat) (m : Module) : (m.blockEvent b).strand = m.strand := by unfold Module.blockEvent; dsimp only; split <;> (try split) <;> simp
@[simp] theorem Module.blockEvent_sched (b : Nat) (m : Module) : (m.blockEvent b).sched = m.sched := by unfold Module.blockEvent; dsimp only; split <;> (try split) <;> simp
@[simp] theorem Module.blockEvent_attn (b : Nat) (m : Module) : (m.blockEvent b).attn = m.attn := by unfold Module.blockEvent; dsimp only; split <;> (try split) <;> simp
@[simp] theorem Module.blockEvent_reed (b : Nat) (m : Module) : (m.blockEvent b).reed = m.reed := by unfold Module.blockEvent; dsimp only; split <;> (try split) <;> simp
@[simp] theorem Module.blockEvent_firewall (b : Nat) (m : Module) : (m.blockEvent b).firewall = m.firewall := by unfold Module.blockEvent; dsimp only; split <;> (try split) <;> simp
@[simp] theorem Module.blockEvent_caps (b : Nat) (m : Module) : (m.blockEvent b).caps = m.caps := by unfold Module.blockEvent; dsimp only; split <;> (try split) <;> simp
@[simp] theorem Module.blockEvent_slide (b : Nat) (m : Module) : (m.blockEvent b).slide = m.slide := by unfold Module.blockEvent; dsimp only; split <;> (try split) <;> simp
@[simp] theorem Module.blockEvent_ftl (b : Nat) (m : Module) : (m.blockEvent b).ftl = m.ftl := by unfold Module.blockEvent; dsimp only; split <;> (try split) <;> simp
@[simp] theorem Module.blockEvent_steps (b : Nat) (m : Module) : (m.blockEvent b).steps = m.steps := by unfold Module.blockEvent; dsimp only; split <;> (try split) <;> simp
@[simp] theorem Module.blockEvent_mouth (b : Nat) (m : Module) : (m.blockEvent b).mouth = m.mouth := by unfold Module.blockEvent; dsimp only; split <;> (try split) <;> simp
@[simp] theorem Module.blockEvent_mirror (b : Nat) (m : Module) : (m.blockEvent b).mirror = m.mirror := by unfold Module.blockEvent; dsimp only; split <;> (try split) <;> simp
@[simp] theorem Module.blockEvent_ckpt (b : Nat) (m : Module) : (m.blockEvent b).ckpt = m.ckpt := by unfold Module.blockEvent; dsimp only; split <;> (try split) <;> simp
@[simp] theorem Module.blockEvent_bore (b : Nat) (m : Module) : (m.blockEvent b).bore = m.bore := by unfold Module.blockEvent; dsimp only; split <;> (try split) <;> simp
@[simp] theorem Module.blockEvent_secur (b : Nat) (m : Module) : (m.blockEvent b).secur = m.secur := by unfold Module.blockEvent; dsimp only; split <;> (try split) <;> simp
@[simp] theorem Module.blockEvent_power (b : Nat) (m : Module) : (m.blockEvent b).power = m.power := by unfold Module.blockEvent; dsimp only; split <;> (try split) <;> simp
@[simp] theorem Module.blockEvent_test (b : Nat) (m : Module) : (m.blockEvent b).test = m.test := by unfold Module.blockEvent; dsimp only; split <;> (try split) <;> simp

@[simp] theorem Module.offer_clk (type part sev : Nat) (body : Bytes) (m : Module) : (m.offer type part sev body).clk = m.clk := by unfold Module.offer; dsimp only; split <;> (try split) <;> simp
@[simp] theorem Module.offer_free (type part sev : Nat) (body : Bytes) (m : Module) : (m.offer type part sev body).free = m.free := by unfold Module.offer; dsimp only; split <;> (try split) <;> simp
@[simp] theorem Module.offer_hbm (type part sev : Nat) (body : Bytes) (m : Module) : (m.offer type part sev body).hbm = m.hbm := by unfold Module.offer; dsimp only; split <;> (try split) <;> simp
@[simp] theorem Module.offer_lpddr (type part sev : Nat) (body : Bytes) (m : Module) : (m.offer type part sev body).lpddr = m.lpddr := by unfold Module.offer; dsimp only; split <;> (try split) <;> simp
@[simp] theorem Module.offer_hostMem (type part sev : Nat) (body : Bytes) (m : Module) : (m.offer type part sev body).hostMem = m.hostMem := by unfold Module.offer; dsimp only; split <;> (try split) <;> simp
@[simp] theorem Module.offer_out (type part sev : Nat) (body : Bytes) (m : Module) : (m.offer type part sev body).out = m.out := by unfold Module.offer; dsimp only; split <;> (try split) <;> simp
@[simp] theorem Module.offer_parts (type part sev : Nat) (body : Bytes) (m : Module) : (m.offer type part sev body).parts = m.parts := by unfold Module.offer; dsimp only; split <;> (try split) <;> simp
@[simp] theorem Module.offer_host (type part sev : Nat) (body : Bytes) (m : Module) : (m.offer type part sev body).host = m.host := by unfold Module.offer; dsimp only; split <;> (try split) <;> simp
@[simp] theorem Module.offer_ptp (type part sev : Nat) (body : Bytes) (m : Module) : (m.offer type part sev body).ptp = m.ptp := by unfold Module.offer; dsimp only; split <;> (try split) <;> simp
@[simp] theorem Module.offer_bell (type part sev : Nat) (body : Bytes) (m : Module) : (m.offer type part sev body).bell = m.bell := by unfold Module.offer; dsimp only; split <;> (try split) <;> simp
@[simp] theorem Module.offer_lig (type part sev : Nat) (body : Bytes) (m : Module) : (m.offer type part sev body).lig = m.lig := by unfold Module.offer; dsimp only; split <;> (try split) <;> simp
@[simp] theorem Module.offer_strand (type part sev : Nat) (body : Bytes) (m : Module) : (m.offer type part sev body).strand = m.strand := by unfold Module.offer; dsimp only; split <;> (try split) <;> simp
@[simp] theorem Module.offer_sched (type part sev : Nat) (body : Bytes) (m : Module) : (m.offer type part sev body).sched = m.sched := by unfold Module.offer; dsimp only; split <;> (try split) <;> simp
@[simp] theorem Module.offer_attn (type part sev : Nat) (body : Bytes) (m : Module) : (m.offer type part sev body).attn = m.attn := by unfold Module.offer; dsimp only; split <;> (try split) <;> simp
@[simp] theorem Module.offer_reed (type part sev : Nat) (body : Bytes) (m : Module) : (m.offer type part sev body).reed = m.reed := by unfold Module.offer; dsimp only; split <;> (try split) <;> simp
@[simp] theorem Module.offer_firewall (type part sev : Nat) (body : Bytes) (m : Module) : (m.offer type part sev body).firewall = m.firewall := by unfold Module.offer; dsimp only; split <;> (try split) <;> simp
@[simp] theorem Module.offer_caps (type part sev : Nat) (body : Bytes) (m : Module) : (m.offer type part sev body).caps = m.caps := by unfold Module.offer; dsimp only; split <;> (try split) <;> simp
@[simp] theorem Module.offer_slide (type part sev : Nat) (body : Bytes) (m : Module) : (m.offer type part sev body).slide = m.slide := by unfold Module.offer; dsimp only; split <;> (try split) <;> simp
@[simp] theorem Module.offer_ftl (type part sev : Nat) (body : Bytes) (m : Module) : (m.offer type part sev body).ftl = m.ftl := by unfold Module.offer; dsimp only; split <;> (try split) <;> simp
@[simp] theorem Module.offer_steps (type part sev : Nat) (body : Bytes) (m : Module) : (m.offer type part sev body).steps = m.steps := by unfold Module.offer; dsimp only; split <;> (try split) <;> simp
@[simp] theorem Module.offer_mouth (type part sev : Nat) (body : Bytes) (m : Module) : (m.offer type part sev body).mouth = m.mouth := by unfold Module.offer; dsimp only; split <;> (try split) <;> simp
@[simp] theorem Module.offer_mirror (type part sev : Nat) (body : Bytes) (m : Module) : (m.offer type part sev body).mirror = m.mirror := by unfold Module.offer; dsimp only; split <;> (try split) <;> simp
@[simp] theorem Module.offer_ckpt (type part sev : Nat) (body : Bytes) (m : Module) : (m.offer type part sev body).ckpt = m.ckpt := by unfold Module.offer; dsimp only; split <;> (try split) <;> simp
@[simp] theorem Module.offer_bore (type part sev : Nat) (body : Bytes) (m : Module) : (m.offer type part sev body).bore = m.bore := by unfold Module.offer; dsimp only; split <;> (try split) <;> simp
@[simp] theorem Module.offer_secur (type part sev : Nat) (body : Bytes) (m : Module) : (m.offer type part sev body).secur = m.secur := by unfold Module.offer; dsimp only; split <;> (try split) <;> simp
@[simp] theorem Module.offer_power (type part sev : Nat) (body : Bytes) (m : Module) : (m.offer type part sev body).power = m.power := by unfold Module.offer; dsimp only; split <;> (try split) <;> simp
@[simp] theorem Module.offer_test (type part sev : Nat) (body : Bytes) (m : Module) : (m.offer type part sev body).test = m.test := by unfold Module.offer; dsimp only; split <;> (try split) <;> simp

@[simp] theorem Module.event_clk (type part sev arg0 arg1 : Nat) (m : Module) : (m.event type part sev arg0 arg1).clk = m.clk := by unfold Module.event; dsimp only; split <;> simp
@[simp] theorem Module.event_free (type part sev arg0 arg1 : Nat) (m : Module) : (m.event type part sev arg0 arg1).free = m.free := by unfold Module.event; dsimp only; split <;> simp
@[simp] theorem Module.event_hbm (type part sev arg0 arg1 : Nat) (m : Module) : (m.event type part sev arg0 arg1).hbm = m.hbm := by unfold Module.event; dsimp only; split <;> simp
@[simp] theorem Module.event_lpddr (type part sev arg0 arg1 : Nat) (m : Module) : (m.event type part sev arg0 arg1).lpddr = m.lpddr := by unfold Module.event; dsimp only; split <;> simp
@[simp] theorem Module.event_hostMem (type part sev arg0 arg1 : Nat) (m : Module) : (m.event type part sev arg0 arg1).hostMem = m.hostMem := by unfold Module.event; dsimp only; split <;> simp
@[simp] theorem Module.event_parts (type part sev arg0 arg1 : Nat) (m : Module) : (m.event type part sev arg0 arg1).parts = m.parts := by unfold Module.event; dsimp only; split <;> simp
@[simp] theorem Module.event_ptp (type part sev arg0 arg1 : Nat) (m : Module) : (m.event type part sev arg0 arg1).ptp = m.ptp := by unfold Module.event; dsimp only; split <;> simp
@[simp] theorem Module.event_bell (type part sev arg0 arg1 : Nat) (m : Module) : (m.event type part sev arg0 arg1).bell = m.bell := by unfold Module.event; dsimp only; split <;> simp
@[simp] theorem Module.event_lig (type part sev arg0 arg1 : Nat) (m : Module) : (m.event type part sev arg0 arg1).lig = m.lig := by unfold Module.event; dsimp only; split <;> simp
@[simp] theorem Module.event_strand (type part sev arg0 arg1 : Nat) (m : Module) : (m.event type part sev arg0 arg1).strand = m.strand := by unfold Module.event; dsimp only; split <;> simp
@[simp] theorem Module.event_sched (type part sev arg0 arg1 : Nat) (m : Module) : (m.event type part sev arg0 arg1).sched = m.sched := by unfold Module.event; dsimp only; split <;> simp
@[simp] theorem Module.event_attn (type part sev arg0 arg1 : Nat) (m : Module) : (m.event type part sev arg0 arg1).attn = m.attn := by unfold Module.event; dsimp only; split <;> simp
@[simp] theorem Module.event_reed (type part sev arg0 arg1 : Nat) (m : Module) : (m.event type part sev arg0 arg1).reed = m.reed := by unfold Module.event; dsimp only; split <;> simp
@[simp] theorem Module.event_firewall (type part sev arg0 arg1 : Nat) (m : Module) : (m.event type part sev arg0 arg1).firewall = m.firewall := by unfold Module.event; dsimp only; split <;> simp
@[simp] theorem Module.event_caps (type part sev arg0 arg1 : Nat) (m : Module) : (m.event type part sev arg0 arg1).caps = m.caps := by unfold Module.event; dsimp only; split <;> simp
@[simp] theorem Module.event_slide (type part sev arg0 arg1 : Nat) (m : Module) : (m.event type part sev arg0 arg1).slide = m.slide := by unfold Module.event; dsimp only; split <;> simp
@[simp] theorem Module.event_ftl (type part sev arg0 arg1 : Nat) (m : Module) : (m.event type part sev arg0 arg1).ftl = m.ftl := by unfold Module.event; dsimp only; split <;> simp
@[simp] theorem Module.event_steps (type part sev arg0 arg1 : Nat) (m : Module) : (m.event type part sev arg0 arg1).steps = m.steps := by unfold Module.event; dsimp only; split <;> simp
@[simp] theorem Module.event_mouth (type part sev arg0 arg1 : Nat) (m : Module) : (m.event type part sev arg0 arg1).mouth = m.mouth := by unfold Module.event; dsimp only; split <;> simp
@[simp] theorem Module.event_mirror (type part sev arg0 arg1 : Nat) (m : Module) : (m.event type part sev arg0 arg1).mirror = m.mirror := by unfold Module.event; dsimp only; split <;> simp
@[simp] theorem Module.event_ckpt (type part sev arg0 arg1 : Nat) (m : Module) : (m.event type part sev arg0 arg1).ckpt = m.ckpt := by unfold Module.event; dsimp only; split <;> simp
@[simp] theorem Module.event_bore (type part sev arg0 arg1 : Nat) (m : Module) : (m.event type part sev arg0 arg1).bore = m.bore := by unfold Module.event; dsimp only; split <;> simp
@[simp] theorem Module.event_secur (type part sev arg0 arg1 : Nat) (m : Module) : (m.event type part sev arg0 arg1).secur = m.secur := by unfold Module.event; dsimp only; split <;> simp
@[simp] theorem Module.event_power (type part sev arg0 arg1 : Nat) (m : Module) : (m.event type part sev arg0 arg1).power = m.power := by unfold Module.event; dsimp only; split <;> simp
@[simp] theorem Module.event_test (type part sev arg0 arg1 : Nat) (m : Module) : (m.event type part sev arg0 arg1).test = m.test := by unfold Module.event; dsimp only; split <;> simp

@[simp] theorem Module.serialStale_clk (block value : Nat) (m : Module) : (m.serialStale block value).clk = m.clk := by simp [Module.serialStale]
@[simp] theorem Module.serialStale_free (block value : Nat) (m : Module) : (m.serialStale block value).free = m.free := by simp [Module.serialStale]
@[simp] theorem Module.serialStale_hbm (block value : Nat) (m : Module) : (m.serialStale block value).hbm = m.hbm := by simp [Module.serialStale]
@[simp] theorem Module.serialStale_lpddr (block value : Nat) (m : Module) : (m.serialStale block value).lpddr = m.lpddr := by simp [Module.serialStale]
@[simp] theorem Module.serialStale_hostMem (block value : Nat) (m : Module) : (m.serialStale block value).hostMem = m.hostMem := by simp [Module.serialStale]
@[simp] theorem Module.serialStale_parts (block value : Nat) (m : Module) : (m.serialStale block value).parts = m.parts := by simp [Module.serialStale]
@[simp] theorem Module.serialStale_ptp (block value : Nat) (m : Module) : (m.serialStale block value).ptp = m.ptp := by simp [Module.serialStale]
@[simp] theorem Module.serialStale_bell (block value : Nat) (m : Module) : (m.serialStale block value).bell = m.bell := by simp [Module.serialStale]
@[simp] theorem Module.serialStale_lig (block value : Nat) (m : Module) : (m.serialStale block value).lig = m.lig := by simp [Module.serialStale]
@[simp] theorem Module.serialStale_strand (block value : Nat) (m : Module) : (m.serialStale block value).strand = m.strand := by simp [Module.serialStale]
@[simp] theorem Module.serialStale_sched (block value : Nat) (m : Module) : (m.serialStale block value).sched = m.sched := by simp [Module.serialStale]
@[simp] theorem Module.serialStale_attn (block value : Nat) (m : Module) : (m.serialStale block value).attn = m.attn := by simp [Module.serialStale]
@[simp] theorem Module.serialStale_reed (block value : Nat) (m : Module) : (m.serialStale block value).reed = m.reed := by simp [Module.serialStale]
@[simp] theorem Module.serialStale_firewall (block value : Nat) (m : Module) : (m.serialStale block value).firewall = m.firewall := by simp [Module.serialStale]
@[simp] theorem Module.serialStale_caps (block value : Nat) (m : Module) : (m.serialStale block value).caps = m.caps := by simp [Module.serialStale]
@[simp] theorem Module.serialStale_slide (block value : Nat) (m : Module) : (m.serialStale block value).slide = m.slide := by simp [Module.serialStale]
@[simp] theorem Module.serialStale_ftl (block value : Nat) (m : Module) : (m.serialStale block value).ftl = m.ftl := by simp [Module.serialStale]
@[simp] theorem Module.serialStale_steps (block value : Nat) (m : Module) : (m.serialStale block value).steps = m.steps := by simp [Module.serialStale]
@[simp] theorem Module.serialStale_mouth (block value : Nat) (m : Module) : (m.serialStale block value).mouth = m.mouth := by simp [Module.serialStale]
@[simp] theorem Module.serialStale_mirror (block value : Nat) (m : Module) : (m.serialStale block value).mirror = m.mirror := by simp [Module.serialStale]
@[simp] theorem Module.serialStale_ckpt (block value : Nat) (m : Module) : (m.serialStale block value).ckpt = m.ckpt := by simp [Module.serialStale]
@[simp] theorem Module.serialStale_bore (block value : Nat) (m : Module) : (m.serialStale block value).bore = m.bore := by simp [Module.serialStale]
@[simp] theorem Module.serialStale_secur (block value : Nat) (m : Module) : (m.serialStale block value).secur = m.secur := by simp [Module.serialStale]
@[simp] theorem Module.serialStale_power (block value : Nat) (m : Module) : (m.serialStale block value).power = m.power := by simp [Module.serialStale]
@[simp] theorem Module.serialStale_test (block value : Nat) (m : Module) : (m.serialStale block value).test = m.test := by simp [Module.serialStale]

@[simp] theorem Module.advanceTo_free (due : Nat) (m : Module) : (m.advanceTo due).free = m.free := by unfold Module.advanceTo; split <;> rfl
@[simp] theorem Module.advanceTo_regs (due : Nat) (m : Module) : (m.advanceTo due).regs = m.regs := by unfold Module.advanceTo; split <;> rfl
@[simp] theorem Module.advanceTo_hbm (due : Nat) (m : Module) : (m.advanceTo due).hbm = m.hbm := by unfold Module.advanceTo; split <;> rfl
@[simp] theorem Module.advanceTo_lpddr (due : Nat) (m : Module) : (m.advanceTo due).lpddr = m.lpddr := by unfold Module.advanceTo; split <;> rfl
@[simp] theorem Module.advanceTo_hostMem (due : Nat) (m : Module) : (m.advanceTo due).hostMem = m.hostMem := by unfold Module.advanceTo; split <;> rfl
@[simp] theorem Module.advanceTo_out (due : Nat) (m : Module) : (m.advanceTo due).out = m.out := by unfold Module.advanceTo; split <;> rfl
@[simp] theorem Module.advanceTo_parts (due : Nat) (m : Module) : (m.advanceTo due).parts = m.parts := by unfold Module.advanceTo; split <;> rfl
@[simp] theorem Module.advanceTo_host (due : Nat) (m : Module) : (m.advanceTo due).host = m.host := by unfold Module.advanceTo; split <;> rfl
@[simp] theorem Module.advanceTo_ev (due : Nat) (m : Module) : (m.advanceTo due).ev = m.ev := by unfold Module.advanceTo; split <;> rfl
@[simp] theorem Module.advanceTo_ptp (due : Nat) (m : Module) : (m.advanceTo due).ptp = m.ptp := by unfold Module.advanceTo; split <;> rfl
@[simp] theorem Module.advanceTo_bell (due : Nat) (m : Module) : (m.advanceTo due).bell = m.bell := by unfold Module.advanceTo; split <;> rfl
@[simp] theorem Module.advanceTo_lig (due : Nat) (m : Module) : (m.advanceTo due).lig = m.lig := by unfold Module.advanceTo; split <;> rfl
@[simp] theorem Module.advanceTo_strand (due : Nat) (m : Module) : (m.advanceTo due).strand = m.strand := by unfold Module.advanceTo; split <;> rfl
@[simp] theorem Module.advanceTo_sched (due : Nat) (m : Module) : (m.advanceTo due).sched = m.sched := by unfold Module.advanceTo; split <;> rfl
@[simp] theorem Module.advanceTo_attn (due : Nat) (m : Module) : (m.advanceTo due).attn = m.attn := by unfold Module.advanceTo; split <;> rfl
@[simp] theorem Module.advanceTo_reed (due : Nat) (m : Module) : (m.advanceTo due).reed = m.reed := by unfold Module.advanceTo; split <;> rfl
@[simp] theorem Module.advanceTo_firewall (due : Nat) (m : Module) : (m.advanceTo due).firewall = m.firewall := by unfold Module.advanceTo; split <;> rfl
@[simp] theorem Module.advanceTo_caps (due : Nat) (m : Module) : (m.advanceTo due).caps = m.caps := by unfold Module.advanceTo; split <;> rfl
@[simp] theorem Module.advanceTo_slide (due : Nat) (m : Module) : (m.advanceTo due).slide = m.slide := by unfold Module.advanceTo; split <;> rfl
@[simp] theorem Module.advanceTo_ftl (due : Nat) (m : Module) : (m.advanceTo due).ftl = m.ftl := by unfold Module.advanceTo; split <;> rfl
@[simp] theorem Module.advanceTo_steps (due : Nat) (m : Module) : (m.advanceTo due).steps = m.steps := by unfold Module.advanceTo; split <;> rfl
@[simp] theorem Module.advanceTo_mouth (due : Nat) (m : Module) : (m.advanceTo due).mouth = m.mouth := by unfold Module.advanceTo; split <;> rfl
@[simp] theorem Module.advanceTo_mirror (due : Nat) (m : Module) : (m.advanceTo due).mirror = m.mirror := by unfold Module.advanceTo; split <;> rfl
@[simp] theorem Module.advanceTo_ckpt (due : Nat) (m : Module) : (m.advanceTo due).ckpt = m.ckpt := by unfold Module.advanceTo; split <;> rfl
@[simp] theorem Module.advanceTo_bore (due : Nat) (m : Module) : (m.advanceTo due).bore = m.bore := by unfold Module.advanceTo; split <;> rfl
@[simp] theorem Module.advanceTo_secur (due : Nat) (m : Module) : (m.advanceTo due).secur = m.secur := by unfold Module.advanceTo; split <;> rfl
@[simp] theorem Module.advanceTo_power (due : Nat) (m : Module) : (m.advanceTo due).power = m.power := by unfold Module.advanceTo; split <;> rfl
@[simp] theorem Module.advanceTo_test (due : Nat) (m : Module) : (m.advanceTo due).test = m.test := by unfold Module.advanceTo; split <;> rfl

@[simp] theorem Module.choose_clk (n : Nat) (m : Module) : (m.choose n).2.clk = m.clk := (rfl)
@[simp] theorem Module.choose_regs (n : Nat) (m : Module) : (m.choose n).2.regs = m.regs := (rfl)
@[simp] theorem Module.choose_hbm (n : Nat) (m : Module) : (m.choose n).2.hbm = m.hbm := (rfl)
@[simp] theorem Module.choose_lpddr (n : Nat) (m : Module) : (m.choose n).2.lpddr = m.lpddr := (rfl)
@[simp] theorem Module.choose_hostMem (n : Nat) (m : Module) : (m.choose n).2.hostMem = m.hostMem := (rfl)
@[simp] theorem Module.choose_out (n : Nat) (m : Module) : (m.choose n).2.out = m.out := (rfl)
@[simp] theorem Module.choose_parts (n : Nat) (m : Module) : (m.choose n).2.parts = m.parts := (rfl)
@[simp] theorem Module.choose_host (n : Nat) (m : Module) : (m.choose n).2.host = m.host := (rfl)
@[simp] theorem Module.choose_ev (n : Nat) (m : Module) : (m.choose n).2.ev = m.ev := (rfl)
@[simp] theorem Module.choose_ptp (n : Nat) (m : Module) : (m.choose n).2.ptp = m.ptp := (rfl)
@[simp] theorem Module.choose_bell (n : Nat) (m : Module) : (m.choose n).2.bell = m.bell := (rfl)
@[simp] theorem Module.choose_lig (n : Nat) (m : Module) : (m.choose n).2.lig = m.lig := (rfl)
@[simp] theorem Module.choose_strand (n : Nat) (m : Module) : (m.choose n).2.strand = m.strand := (rfl)
@[simp] theorem Module.choose_sched (n : Nat) (m : Module) : (m.choose n).2.sched = m.sched := (rfl)
@[simp] theorem Module.choose_attn (n : Nat) (m : Module) : (m.choose n).2.attn = m.attn := (rfl)
@[simp] theorem Module.choose_reed (n : Nat) (m : Module) : (m.choose n).2.reed = m.reed := (rfl)
@[simp] theorem Module.choose_firewall (n : Nat) (m : Module) : (m.choose n).2.firewall = m.firewall := (rfl)
@[simp] theorem Module.choose_caps (n : Nat) (m : Module) : (m.choose n).2.caps = m.caps := (rfl)
@[simp] theorem Module.choose_slide (n : Nat) (m : Module) : (m.choose n).2.slide = m.slide := (rfl)
@[simp] theorem Module.choose_ftl (n : Nat) (m : Module) : (m.choose n).2.ftl = m.ftl := (rfl)
@[simp] theorem Module.choose_steps (n : Nat) (m : Module) : (m.choose n).2.steps = m.steps := (rfl)
@[simp] theorem Module.choose_mouth (n : Nat) (m : Module) : (m.choose n).2.mouth = m.mouth := (rfl)
@[simp] theorem Module.choose_mirror (n : Nat) (m : Module) : (m.choose n).2.mirror = m.mirror := (rfl)
@[simp] theorem Module.choose_ckpt (n : Nat) (m : Module) : (m.choose n).2.ckpt = m.ckpt := (rfl)
@[simp] theorem Module.choose_bore (n : Nat) (m : Module) : (m.choose n).2.bore = m.bore := (rfl)
@[simp] theorem Module.choose_secur (n : Nat) (m : Module) : (m.choose n).2.secur = m.secur := (rfl)
@[simp] theorem Module.choose_power (n : Nat) (m : Module) : (m.choose n).2.power = m.power := (rfl)
@[simp] theorem Module.choose_test (n : Nat) (m : Module) : (m.choose n).2.test = m.test := (rfl)

theorem Module.emit_out (e : Emission) (m : Module) : (m.emit e).out = m.out ++ [e] := (rfl)

/-! ### Registers -/

theorem Module.reg_setReg_same (off : Nat) (v : Word) (m : Module) (h : m.regs.wf = true) :
    (m.setReg off v).reg off = v := by
  unfold Module.reg Module.setReg
  dsimp only
  split
  · rename_i hv
    simp at hv
    simp [KMap.get_del_same off h, hv]
  · simp [KMap.get_put_same]

theorem Module.reg_setReg_other {off o : Nat} (v : Word) (m : Module) (h : o ≠ off) :
    (m.setReg off v).reg o = m.reg o := by
  unfold Module.reg Module.setReg
  dsimp only
  split
  · rw [KMap.get_del_other _ h]
  · rw [KMap.get_put_other _ _ h]

theorem Module.setReg_wf (off : Nat) (v : Word) (m : Module) (h : m.regs.wf = true) :
    (m.setReg off v).regs.wf = true := by
  unfold Module.setReg
  dsimp only
  split
  · exact KMap.del_wf _ h
  · exact KMap.put_wf _ _ h

/-- A field in another register reads as before. -/
theorem Module.get_set_other {f g : Fld} (v : Nat) (m : Module) (h : g.off ≠ f.off) : (m.set f v).get g = m.get g := by
  unfold Module.get Module.set
  rw [Module.reg_setReg_other _ _ h]

/-! ### What each way of running a command answers -/

theorem run_live {f : Module → Module} {s : State} (h : s.m.live = true) :
    run f s = .next { s with m := { f s.m with clk := s.m.clk } } := by simp [run, h]

theorem run_dead {f : Module → Module} {s : State} (h : s.m.live = false) : run f s = .next s := by simp [run, h]

theorem runIf_live {ok : Bool} {f : Module → Module} {s : State} (hok : ok = true) (h : s.m.live = true) :
    runIf ok f s = .next { s with m := { f s.m with clk := s.m.clk } } := by simp [runIf, hok, run_live h]

theorem runIf_bad {ok : Bool} {f : Module → Module} {s : State} (hok : ok = false) :
    runIf ok f s = .refused .illFormed := by simp [runIf, hok]

theorem runAt_dead {due : Module → Nat} {f : Module → Module} {s : State} (h : s.m.live = false) :
    runAt due f s = .next s := by simp [runAt, h]

theorem runAt_live {due : Module → Nat} {f : Module → Module} {s : State} (h : s.m.live = true) :
    runAt due f s = .next { s with m := { f (s.m.advanceTo (due s.m)) with clk := (s.m.advanceTo (due s.m)).clk } } := by
  simp [runAt, h]

/-- Whatever way a command runs, when it answers a next state the queue is the one it was given. -/
theorem run_pending {f : Module → Module} {s t : State} (h : run f s = .next t) : t.pending = s.pending := by
  unfold run at h
  injection h with h
  subst h
  split <;> rfl

theorem runIf_pending {ok : Bool} {f : Module → Module} {s t : State} (h : runIf ok f s = .next t) :
    t.pending = s.pending := by
  unfold runIf at h
  split at h
  · exact run_pending h
  · cases h

theorem runAt_pending {due : Module → Nat} {f : Module → Module} {s t : State} (h : runAt due f s = .next t) :
    t.pending = s.pending := by
  unfold runAt at h
  injection h with h
  subst h
  split <;> rfl

theorem runStep_pending {f : Module → Module} {s t : State} (h : runStep f s = .next t) : t.pending = s.pending := by
  unfold runStep at h
  injection h with h
  subst h
  split <;> rfl

theorem runReset_pending {f : Module → Module} {s t : State} (h : runReset f s = .next t) : t.pending = s.pending := by
  unfold runReset at h
  injection h with h
  subst h
  split <;> rfl

theorem runPower_pending {f : Module → Module} {s t : State} (h : runPower f s = .next t) : t.pending = s.pending := by
  unfold runPower at h
  injection h with h
  subst h
  rfl

theorem runPowerAt_pending {due : Module → Nat} {f : Module → Module} {s t : State} (h : runPowerAt due f s = .next t) :
    t.pending = s.pending := by
  unfold runPowerAt at h
  injection h with h
  subst h
  rfl

/-- The elapsed time never falls when the counter is advanced to an instant. -/
theorem Module.advanceTo_mono (due : Nat) (m : Module) : m.clk.mono ≤ (m.advanceTo due).clk.mono := by
  unfold Module.advanceTo
  split
  · simp [Clk.advance]
  · exact Nat.le_refl _

/-- The counter advanced to an instant not yet passed stands at it. -/
theorem Module.advanceTo_due {due : Nat} {m : Module} (h : m.clk.mono < due) : (m.advanceTo due).clk.mono = due := by
  simp [Module.advanceTo, h, Clk.advance]
  omega

/-! ### Fields of a number -/

/-- The low part of setBits lies below the bits above the field. -/
theorem setBits_low_lt (n hi lo v : Nat) (h : lo ≤ hi) : (v % 2 ^ (hi + 1 - lo)) * 2 ^ lo + n % 2 ^ lo < 2 ^ (hi + 1) := by
  have hp : 2 ^ (hi + 1) = 2 ^ (hi + 1 - lo) * 2 ^ lo := by rw [← Nat.pow_add]; congr 1; omega
  have h1 : v % 2 ^ (hi + 1 - lo) < 2 ^ (hi + 1 - lo) := Nat.mod_lt _ (by positivity)
  have h2 : n % 2 ^ lo < 2 ^ lo := Nat.mod_lt _ (by positivity)
  rw [hp]
  calc v % 2 ^ (hi + 1 - lo) * 2 ^ lo + n % 2 ^ lo < (v % 2 ^ (hi + 1 - lo) + 1) * 2 ^ lo := by rw [Nat.add_mul]; omega
    _ ≤ 2 ^ (hi + 1 - lo) * 2 ^ lo := Nat.mul_le_mul_right _ h1

/-- A field that has been put into a number reads as it was put, cut to the field's width. -/
theorem bits_setBits_same (n hi lo v : Nat) (h : lo ≤ hi) : bits (setBits n hi lo v) hi lo = v % 2 ^ (hi + 1 - lo) := by
  have hp : 2 ^ (hi + 1) = 2 ^ (hi + 1 - lo) * 2 ^ lo := by rw [← Nat.pow_add]; congr 1; omega
  have h2 : n % 2 ^ lo < 2 ^ lo := Nat.mod_lt _ (by positivity)
  unfold bits setBits
  rw [hp, ← Nat.mul_assoc, ← Nat.add_mul, Nat.add_comm, Nat.add_mul_div_right _ _ (by positivity), Nat.div_eq_of_lt h2,
    Nat.zero_add, Nat.add_comm, Nat.add_mul_mod_self_right, Nat.mod_mod]

/-- The bits above a field that is put into a number stay. -/
theorem setBits_div (n hi lo v : Nat) (h : lo ≤ hi) : setBits n hi lo v / 2 ^ (hi + 1) = n / 2 ^ (hi + 1) := by
  unfold setBits
  rw [Nat.add_assoc, Nat.add_comm, Nat.add_mul_div_right _ _ (by positivity), Nat.div_eq_of_lt (setBits_low_lt n hi lo v h),
    Nat.zero_add]

/-- The bits below a field that is put into a number stay. -/
theorem setBits_mod (n hi lo v : Nat) (h : lo ≤ hi) : setBits n hi lo v % 2 ^ lo = n % 2 ^ lo := by
  have hp : 2 ^ (hi + 1) = 2 ^ (hi + 1 - lo) * 2 ^ lo := by rw [← Nat.pow_add]; congr 1; omega
  unfold setBits
  rw [hp, ← Nat.mul_assoc, ← Nat.add_mul, Nat.add_comm, Nat.add_mul_mod_self_right, Nat.mod_mod]

/-- A field that shares no bit with the one that is put stays. -/
theorem bits_setBits_other (n hi lo v hi2 lo2 : Nat) (h : lo ≤ hi) (h2 : lo2 ≤ hi2) (hd : hi < lo2 ∨ hi2 < lo) :
    bits (setBits n hi lo v) hi2 lo2 = bits n hi2 lo2 := by
  unfold bits
  rcases hd with hd | hd
  · have hp : 2 ^ lo2 = 2 ^ (hi + 1) * 2 ^ (lo2 - (hi + 1)) := by rw [← Nat.pow_add]; congr 1; omega
    rw [hp, ← Nat.div_div_eq_div_mul, ← Nat.div_div_eq_div_mul, setBits_div n hi lo v h]
  · have e : ∀ x : Nat, x / 2 ^ lo2 % 2 ^ (hi2 + 1 - lo2) = x % 2 ^ lo % 2 ^ (hi2 + 1) / 2 ^ lo2 := by
      intro x
      rw [Nat.mod_mod_of_dvd _ (Nat.pow_dvd_pow 2 (by omega))]
      have hq : 2 ^ (hi2 + 1) = 2 ^ lo2 * 2 ^ (hi2 + 1 - lo2) := by rw [← Nat.pow_add]; congr 1; omega
      rw [hq, Nat.mod_mul_right_div_self]
    rw [e, e, setBits_mod n hi lo v h]

theorem setBits_lt (n hi lo v : Nat) (h : lo ≤ hi) (hw : hi < 64) (hn : n < 2 ^ 64) : setBits n hi lo v < 2 ^ 64 := by
  have hp : 2 ^ 64 = 2 ^ (64 - (hi + 1)) * 2 ^ (hi + 1) := by rw [← Nat.pow_add]; congr 1; omega
  have h1 : setBits n hi lo v / 2 ^ (hi + 1) < 2 ^ (64 - (hi + 1)) := by
    rw [setBits_div n hi lo v h]
    exact (Nat.div_lt_iff_lt_mul (by positivity)).mpr (by rw [← hp]; exact hn)
  rw [hp]
  exact (Nat.div_lt_iff_lt_mul (by positivity)).mp h1

/-- A field that has been set reads as it was set, cut to its width. -/
theorem Module.get_set_same (f : Fld) (v : Nat) (m : Module) (h : m.regs.wf = true) (hf : f.lo ≤ f.hi) (hw : f.hi < 64) :
    (m.set f v).get f = v % 2 ^ (f.hi + 1 - f.lo) := by
  unfold Module.get Module.set
  rw [Module.reg_setReg_same _ _ _ h, BitVec.toNat_ofNat, Nat.mod_eq_of_lt (setBits_lt _ _ _ _ hf hw (m.reg f.off).isLt),
    bits_setBits_same _ _ _ _ hf]

/-- A field of the same register that shares no bit with the one that is set stays. -/
theorem Module.get_set_disjoint {f g : Fld} (v : Nat) (m : Module) (h : m.regs.wf = true) (ho : g.off = f.off)
    (hf : f.lo ≤ f.hi) (hw : f.hi < 64) (hg : g.lo ≤ g.hi) (hd : f.hi < g.lo ∨ g.hi < f.lo) :
    (m.set f v).get g = m.get g := by
  unfold Module.get Module.set
  rw [ho, Module.reg_setReg_same _ _ _ h, BitVec.toNat_ofNat, Nat.mod_eq_of_lt (setBits_lt _ _ _ _ hf hw (m.reg f.off).isLt),
    bits_setBits_other _ _ _ _ _ _ hf hg hd]

end Sys2Proof.Machine
end

