-- ==== Sys2Proof/Laws/Command.lean ====
section
/-!
SUPPORT. Laws of commands: finding the command that a row acts on, its ordered checks, and what its completion leaves in the
mailbox (R443, R444, R446).
-/

namespace Sys2Proof.Machine

open Sys2Proof

/-- A command whose lane alone holds commands, or that stands in none, has its turn, and no round moves on. -/
theorem Module.laneTurn_free {m : Module} {c : RunCmd} (h : m.laneFree c = true) : m.laneTurn c = some m := by
  unfold Module.laneTurn
  split
  · simp_all [Module.laneFree]
  · rfl

/-- A row acts on the command of its source that has the row's opcode and that nothing has acted on. -/
theorem onCmd_fresh {s : State} {src : Src} {op : Nat} {c : RunCmd} {f : RunCmd → Module → Module}
    (h : Fresh s src op c) : onCmd op src f s.m = f c s.m := by
  obtain ⟨-, hc, ho, hs, ht⟩ := h
  simp [onCmd, hc, ho, hs, Module.laneTurn_free ht]

/-- A row whose command waits for its lane's turn does nothing, and one that has it acts on the module that the turn leaves. -/
theorem onCmd_turn {m : Module} {src : Src} {op : Nat} {c : RunCmd} {f : RunCmd → Module → Module}
    (hc : m.cmdOf src = some c) (ho : c.opcode = op) (hs : c.stage = .fresh) :
    onCmd op src f m = ((m.laneTurn c).map (f c)).getD m := by
  simp [onCmd, hc, ho, hs]

/-- A command whose opcode belongs to no engine with lanes always has its turn. -/
theorem Module.laneFree_none {m : Module} {c : RunCmd} (h : laneEngine c.opcode = none) : m.laneFree c = true := by
  simp [Module.laneFree, h]

/-- A command that names no partition always has its turn. -/
theorem Module.laneFree_noPart {m : Module} {c : RunCmd} (h : m.lanePart c = none) : m.laneFree c = true := by
  simp [Module.laneFree, h]

/-- A row without such a command does nothing. -/
theorem onCmd_none {op : Nat} {src : Src} {f : RunCmd → Module → Module} {m : Module} (h : m.cmdOf src = none) :
    onCmd op src f m = m := by simp [onCmd, h]

theorem does_of_run {s : State} {f : Module → Module} (h : s.m.live = true) :
    run f s = .next { s with m := { f s.m with clk := s.m.clk } } := run_live h

/-- A mailbox command's row runs its meaning on the fresh command of its source. -/
theorem run_onCmd {s : State} {src : Src} {op : Nat} {c : RunCmd} {f : RunCmd → Module → Module} (h : Fresh s src op c) :
    run (onCmd op src f) s = .next { s with m := { f c s.m with clk := s.m.clk } } := by
  rw [run_live h.1, onCmd_fresh h]

/-- Ordered checks let a command go on exactly when each holds. -/
theorem firstFail_none {α : Type} {l : List (Bool × α)} : firstFail l = none ↔ ∀ x ∈ l, x.1 = true := by
  induction l with
  | nil => simp [firstFail]
  | cons c rest ih =>
    obtain ⟨ok, a⟩ := c
    cases ok <;> simp [firstFail, ih]

/-- A payload passes the test of its reserved ranges exactly when each range is zero. -/
theorem reservedOk_none {p : Bytes} {ranges : List (Nat × Nat)} :
    reservedOk p ranges = none ↔ ∀ r ∈ ranges, allZero p r.1 r.2 = true := by
  induction ranges with
  | nil => simp [reservedOk]
  | cons r rest ih =>
    obtain ⟨o, n⟩ := r
    simp only [reservedOk, Option.map_eq_none_iff, List.findSome?_cons] at ih ⊢
    cases hf : firstNonZero p o n <;> simp [allZero, hf, ih]

/-- A command whose checks all pass acts (R446). -/
theorem Module.checked_act {c : RunCmd} {reserved : List (Nat × Nat)} {checks : List (Bool × Verdict)}
    {act : Module → Module} {m : Module} (hr : ∀ r ∈ reserved, allZero c.payload r.1 r.2 = true)
    (hc : ∀ x ∈ checks, x.1 = true) : m.checked c reserved checks act = act m := by
  simp [Module.checked, reservedOk_none.mpr hr, firstFail_none.mpr hc]

/-- A command that fails a check completes with its verdict and does nothing else (R446). -/
theorem Module.checked_fail {c : RunCmd} {reserved : List (Nat × Nat)} {checks : List (Bool × Verdict)}
    {act : Module → Module} {m : Module} {v : Verdict} (hr : ∀ r ∈ reserved, allZero c.payload r.1 r.2 = true)
    (hc : firstFail checks = some v) : m.checked c reserved checks act = m.verdict c v := by
  simp [Module.checked, reservedOk_none.mpr hr, hc]

/-! ### Mailboxes -/

@[simp] theorem Module.msix_boxes (v : Nat) (m : Module) : (m.msix v).host.boxes = m.host.boxes := by
  unfold Module.msix
  dsimp only
  split <;> rfl

@[simp] theorem Module.msix_running (v : Nat) (m : Module) : (m.msix v).host.running = m.host.running := by
  unfold Module.msix
  dsimp only
  split <;> rfl

theorem Module.setBox_host (b : Nat) (x : Mailbox) (m : Module) :
    (m.setBox b x).host = { m.host with boxes := m.host.boxes.put b x } := by
  simp only [Module.setBox]
  split <;> simp only [Module.setBit_host, Module.clearBit_host, Module.set_host]

@[simp] theorem Module.setBox_boxes (b : Nat) (x : Mailbox) (m : Module) :
    (m.setBox b x).host.boxes = m.host.boxes.put b x := by rw [Module.setBox_host]

@[simp] theorem Module.setBox_running (b : Nat) (x : Mailbox) (m : Module) :
    (m.setBox b x).host.running = m.host.running := by rw [Module.setBox_host]

@[simp] theorem Module.setBox_clk (b : Nat) (x : Mailbox) (m : Module) : (m.setBox b x).clk = m.clk := by
  simp only [Module.setBox]
  split <;> simp only [Module.setBit_clk, Module.clearBit_clk, Module.set_clk]

theorem Module.box_setBox_same (b : Nat) (x : Mailbox) (m : Module) : (m.setBox b x).box b = x := by
  simp [Module.box, KMap.getD, KMap.get_put_same]

theorem Module.box_setBox_other {b k : Nat} (x : Mailbox) (m : Module) (h : k ≠ b) : (m.setBox b x).box k = m.box k := by
  simp [Module.box, KMap.getD, KMap.get_put_other _ _ h]

/-- What a mailbox holds after step 6 of R444. -/
theorem Module.respond_box (b : Nat) (c : RunCmd) (st : Status) (body : Bytes) (detail : Nat) (m : Module) :
    (m.respond b c st body detail).box b =
      { m.box b with
        owner := false, running := false, seq := ((m.box b).seq + 1) % 2 ^ 32
        resp := some ⟨c.opcode, st.code, body.length, c.tag, m.clk.now, detail, ((m.box b).seq + 1) % 2 ^ 32, body⟩ } := by
  unfold Module.respond
  dsimp only
  unfold Module.box
  split <;> split <;> split <;> simp [KMap.getD, KMap.get_put_same]

/-- The other mailboxes stay as they are. -/
theorem Module.respond_other {b k : Nat} (c : RunCmd) (st : Status) (body : Bytes) (detail : Nat) (m : Module)
    (h : k ≠ b) : (m.respond b c st body detail).box k = m.box k := by
  unfold Module.respond
  dsimp only
  unfold Module.box
  split <;> split <;> split <;> simp [KMap.getD, KMap.get_put_other _ _ h]

end Sys2Proof.Machine
end

