-- ==== Sys2Proof/Tests/Fixture.lean ====
section
/-!
SUPPORT. The small states on which the tests and the witnesses stand: a running module, and what is put into it.
-/

namespace Sys2Proof.Tests

open Sys2Proof Sys2Proof.Machine

/-- A payload from the widths and values of its fields. -/
def pay (l : List (Nat × Nat)) : Bytes := l.flatMap (fun x => leBytes x.1 x.2)

/-- The module at reset, started up to READY at the elapsed time of 2,000 seconds, with the host link trained. -/
def boot : Module :=
  ({ Module.reset with
    clk := ⟨2000000000000, 0, 2000000000000⟩
    power := { PowerSt.reset with phase := .started }
    host := { HostSt.reset with linkUp := true, linkMode := 4, linkWidth := 16, everUp := true } } : Module).set
      Reg.GLOBAL.STATUS_READY 1

/-- A module with no command waiting. -/
def atRest (m : Module) : State := ⟨[], m⟩

/-- A command as its source has just started it. -/
def cmd (src : Src) (id op : Nat) (p : Bytes) : RunCmd := ⟨id, src, op, 0, 7, p, 1000, .fresh, [], [], 0, 0, false, false⟩

/-- A module in which mailbox 0 has just started a command. -/
def startCmd (m : Module) (op : Nat) (p : Bytes) : Module :=
  { m.setBox 0 ⟨true, true, 0, [], none⟩ with
    host := { (m.setBox 0 ⟨true, true, 0, [], none⟩).host with
      running := m.host.running ++ [cmd (.mbox 0) m.host.nextRun op p], nextRun := m.host.nextRun + 1 } }

/-- The state in which mailbox 0 has just started a command on a module. -/
def go (m : Module) (op : Nat) (p : List (Nat × Nat)) : State := atRest (startCmd m op (pay p))

/-- The command of a source, which is there. -/
def cm (s : State) (src : Src := .mbox 0) : RunCmd := (s.m.cmdOf src).getD (cmd (.mbox 0) 0 0 [])

/-- The next state of an outcome. -/
def nxt : Out → State
  | .next t => t
  | _ => State.reset

/-- The outcome is a next state. -/
def ended : Out → Bool
  | .next _ => true
  | _ => false

theorem next_nxt {o : Out} (h : ended o = true) : o = .next (nxt o) := by
  cases o with
  | next t => rfl
  | fault f => simp [ended] at h
  | refused r => simp [ended] at h

/-- Every tier, every access of partition 0 is granted. -/
def open_ (m : Module) : Module :=
  { m with firewall := [⟨0, 0, 15, 0, 2 ^ 40⟩, ⟨0, 1, 15, 0, 2 ^ 40⟩, ⟨0, 2, 15, 0, 2 ^ 40⟩] }

/-- A page frame of capsule 0 with two filled token slots. -/
def frame0 : Frame := ⟨0, 0, 0, 1, 32, 2, false, [(0, (1, 1000))], [(0, ⟨0, 1, 0, zeros 32⟩), (1, ⟨1, 1, 0, zeros 32⟩)], []⟩

/-- Capsule 0 in a state: one layer, two tokens in one page. -/
def cap0 (state : Nat) : Capsule :=
  { Capsule.blank with
    state := state, fmt := 1, layers := 1, slotBytes := 32, epoch := 1, expiry := 2 ^ 63, tokens := 2, pages := 1
    account := 1, map := [0], lists := [0] }

/-- The module with capsule 0 in a state, its frame in HBM, account 1 open, tokenizer 0 of 100 tokens
loaded, every range granted, and the partner paired and in reach. -/
def world (state : Nat) : Module :=
  let m := ((open_ boot).set Reg.STEP.INPUT_POOL_SIZE_BLOCKS 1024).set Reg.CAPS.LIST_POOL_SIZE_BLOCKS 1024
  { m with
    mirror := { m.mirror with state := 3, lanes := 16, epoch := 1, beatAcked := some 1999999000000 }
    caps := { m.caps with slots := [(0, cap0 state)], frames := [(0, frame0)], lists := [0] }
    steps := { m.steps with accounts := [(1, ⟨0, 1000, 0, 0, 0, 0, 0, 1, 0⟩)] }
    hbm := [(0x8008, 100)]
    mouth := { m.mouth with tokenizers := [(0, ⟨0x8000, 4096⟩)] } }

/-- A module in which partitions 0 and 1 hold eight attention cores each. -/
def small (m : Module) : Module :=
  { m with parts := [⟨0xFF, 0, 512, 1, 0, 0, 0, 2048⟩, ⟨0xFF00, 512, 512, 1, 0, 0, 0, 2048⟩] ++
    List.replicate 6 ⟨0, 0, 0, 0, 0, 0, 0, 0⟩ }

/-- A prefetch entry of capsule 0 that has been received. -/
def pf (id : Nat) (issued : Bool) : PfEntry :=
  ⟨id, 0, 0, 0, 0, 0, false, false, 0, 1, 1000, 1, 500, issued, [], false, false, 1999999999000⟩

/-- A model of one layer and two heads, whose latents fit the slots of capsule 0. -/
def model0 : Model := ⟨1, 2, 32, 0, 1, 32, 32, 1, 0, 0x100000, [0]⟩

/-- A synchronization object of partition 0 at index 0, and its handle. -/
def obj (kind param value : Nat) : LigObj := ⟨kind, 0, param, value, [], [], none, none, false⟩
def objHandle : Nat := boot.ligGen 0 * 65536

/-- The module with model 0 registered and an object at index 0. -/
def withAttn (o : LigObj) (m : Module) : Module :=
  { m with attn := { m.attn with models := [(0, model0)] }, lig := { m.lig with objs := [(0, o)] } }

/-- An attention core in a mode, with what runs on it. -/
def core0 (mode : Nat) (run : Option CoreRun) : Core := ⟨mode, none, [], [], [], [], run, 0, 0, [], [], []⟩

/-- A fused command of capsule 0 over model 0's two heads that waits for its query block. -/
def fc0 : FCmd :=
  ⟨1, ⟨1, 0, 0, 0, 0, 0, 0, 0, 0, 0, 2, 0, 1, 2, 0, 0x3F800000, 0, 0, 0⟩, .program 0, 1000, none, [], 0, false, false, none, [],
    [], none, 1000⟩

/-- The same command as it walks the one tile of capsule 0. -/
def fcWalk : FCmd := { fc0 with query := some [], absorbed := true, walkId := some 1, left := [.tiles [(0, 0)]] }

/-- A program of one operation whose image lies at HBM address 4,096 and whose region is the 4 KiB at 64 KiB. -/
def run0 : CoreRun := ⟨0, 0, 4096, 1, 0, 0x10000, 4096, 0, 0, [], false, false, none, 2000000000000, none⟩

/-- Core 63 runs a program in mode 3 whose next operation has these fields, on capsule 0's module. -/
def runs (op : List (Nat × Nat)) (r : CoreRun := run0) (mode : Nat := 3) : State :=
  let m := withAttn (obj 3 0 0) (world 1)
  atRest { m with
    hbm := m.hbm.wrN 4160 (pay op)
    attn := { m.attn with cores := [(63, core0 mode (some r))] } }

/-- The operation that core 63 is at. -/
def opOf (s : State) : Bytes := s.m.hbm.rdN 4160 32

/-- Request 0 of capsule 0 in a state, with one pending token. -/
def req0 (state : Nat) : Req :=
  ⟨0, state, 0, 0, 1, 2, 2 ^ 62, 1, 0, 0, [5], [1], 0, [], 10, 0, 1, 0, 0, 0, 0, false, false, false, ⟨0xFFFFFFFF, 0, 0, []⟩, none,
    none, none, none, false, false, false, false⟩

/-- The module whose capsule 0 is ACTIVE with request 0 in a state, and model 0. -/
def asks (state : Nat) : Module :=
  let m := withAttn (obj 1 0 0) (world 2)
  { m with steps := { m.steps with reqs := [(0, req0 state)], inputBlocks := [1] } }

/-- A sequence of request 0 in a step. -/
def seq0 (accounted : Bool) : Seq :=
  ⟨0, 0, 1, 0, 2, 0, 1, 2 ^ 62, 0, [5], [], true, [], [], [], [0], 0, 0, 0, [], ⟨0xFFFFFFFF, 0, 0, []⟩, accounted, false, false, 0, 0⟩

/-- Step 1 as published. -/
def step1 (accounted writing : Bool) (mark : Option Nat) : LiveStep :=
  ⟨1, 0, 1000, [seq0 accounted], writing, mark, 2000, [], none, 1, 0⟩

/-- The module whose partition 0 has step 1 alive. -/
def steps1 (l : LiveStep) : Module :=
  let m := asks 2
  { m with steps := { m.steps with parts := [(0, { PartSteps.blank with built := 1, live := [l] })] } }

/-- A word of the strand instruction set. -/
def w0 (op d a b c imm : Nat) : SWord :=
  ⟨BitVec.ofNat 8 op, BitVec.ofNat 6 d, BitVec.ofNat 6 a, BitVec.ofNat 6 b, BitVec.ofNat 6 c, BitVec.ofNat 32 imm⟩

/-- Thread 63 of job 0 at its program's second word, with registers g1 to g9 set. -/
def thr0 : Thread :=
  ⟨0, 2, [(1, 0xFFFFFFFFFFFFFFF0), (2, 3), (3, 8), (4, 0x10000048), (5, 0x4000030008),
    (6, 0x20), (7, 0x8000000000000000), (8, 12), (9, 0x80000000)], 0x10000048, [(8, 77)], (1, 2), [], [], .none, false⟩

/-- Job 0 of program 0 in partition 0. -/
def job0 : Job := ⟨0, 0, 5, 3, 0, false, ligNone, ligNone, false, 4, 0, none, false⟩

/-- Capsule 0's module in which a thread of job 0 stands at a word. -/
def strands (w : SWord) (th : Thread := thr0) (m : Module := world 1) : State :=
  atRest { m with
    hbm := (m.hbm.putNum 0x20048 8 w.encode.toNat).putNum 0x30008 8 0x8899AABBCCDDEEFF
    strand := { m.strand with programs := [(0, ⟨0x20000, 4, 0, 0⟩)], jobs := [(0, job0)], threads := [(63, th)] } }

/-- An option that holds a value holds the value that it gives. -/
theorem eq_some_getD {α : Type} {o : Option α} {d : α} (h : o.isSome = true) : o = some (o.getD d) := by
  cases o with
  | none => simp at h
  | some x => rfl

/-- A pair is its first half with what its second half is. -/
theorem pair_of_snd {α β : Type} {p : α × β} {b : β} (h : p.2 = b) : p = (p.1, b) := by
  subst h
  rfl

theorem pair_of_fst {α β : Type} {p : α × β} {a : α} (h : p.1 = a) : p = (a, p.2) := by
  subst h
  rfl

theorem eq_some_pair {α β : Type} {o : Option (α × β)} {d : α × β} (h : o.isSome = true) :
    o = some ((o.getD d).1, (o.getD d).2) := eq_some_getD h

end Sys2Proof.Tests
end

