-- ==== Sys2Proof/Tests/Image.lean ====
section
/-!
SUPPORT. A tokenizer image and a grammar image that pass the checks of R223 and R236.
-/

namespace Sys2Proof.Tests

-- The evaluations below wait for one another, so that they run one at a time and hold one stack.
set_option Elab.async false

open Sys2Proof Sys2Proof.Machine

/-- The bytes of a tokenizer image of 256 single-byte tokens and no merge (R222). -/
def imgByte (i : Nat) : Byte :=
  if i < 0x40 then BitVec.ofNat 8 (match i with
    | 0 => 1 | 4 => 1 | 9 => 1 | 0x20 => 64 | 0x28 => 0x40 | 0x29 => 5 | 0x30 => 0x40 | 0x31 => 0x0D | 0x38 => 0x40 | 0x39 => 0x0E
    | _ => if 0x10 ≤ i ∧ i < 0x20 then 255 else 0)
  else if i < 0x440 then BitVec.ofNat 8 (if (i - 0x40) % 4 = 0 then (i - 0x40) / 4 else 0)
  else if i < 0x540 then 0
  else if i < 0xD40 then BitVec.ofNat 8 (if (i - 0x540) % 8 = 0 then (i - 0x540) / 8 else if (i - 0x540) % 8 = 4 then 1 else 0)
  else if i < 0xE40 then BitVec.ofNat 8 (i - 0xD40)
  else if i < 0x1240 ∧ i % 16 < 4 then 255 else 0

/-- Memory that holds f from address 0 on, n bytes of it. -/
def memOf (f : Nat → Byte) (n : Nat) : Mem := (List.range n).map (fun i => (i, f i))

theorem memOf_rd (f : Nat → Byte) (n a : Nat) : (memOf f n).rd a = if a < n then f a else 0 := by
  have h : ∀ (l : List Nat), KMap.get (l.map (fun i => (i, f i))) a = if a ∈ l then some (f a) else none := by
    intro l
    induction l with
    | nil => simp [KMap.get]
    | cons x xs ih =>
      by_cases hx : x = a
      · simp [KMap.get, hx]
      · simp [KMap.get, hx, ih, Ne.symm hx]
  unfold memOf Mem.rd
  rw [h]
  by_cases ha : a < n <;> simp [ha, Mem.blank]

/-- The image. -/
def image : TokImage := ⟨memOf imgByte 0x1240, 0⟩

theorem image_num (a n : Nat) :
    image.mem.num a n = leNat ((List.range n).map (fun i => if a + i < 0x1240 then imgByte (a + i) else 0)) := by
  simp only [image, Mem.num, Mem.rdN, memOf_rd]

theorem image_rec (k : Nat) (hk : k < 256) : image.rec_ k = (k, 1, 0, 0) := by
  have h : ∀ k < 256, image.rec_ k = (k, 1, 0, 0) := by
    have e : image.tokenOff = 0x540 := by rw [TokImage.tokenOff, image_num]; decide +kernel
    simp only [TokImage.rec_, e, image_num]
    decide +kernel
  exact h k hk

theorem image_str (k : Nat) (hk : k < 256) : image.str k = [BitVec.ofNat 8 k] := by
  have h : ∀ k < 256, (if 0xD40 + k < 0x1240 then imgByte (0xD40 + k) else 0) = BitVec.ofNat 8 k := by decide +kernel
  have e : image.addr + image.poolOff = 0xD40 := by rw [TokImage.poolOff, image_num]; decide +kernel
  have hr : image.mem.rd (0xD40 + k) = BitVec.ofNat 8 k := by rw [image, memOf_rd]; exact h k hk
  simp [TokImage.str, image_rec k hk, e, Mem.rdN, hr]

theorem image_special (k : Nat) (hk : k < 256) : image.special k = false := by
  simp [TokImage.special, image_rec k hk, bit]

theorem image_byteToken (k : Nat) (hk : k < 256) : image.byteToken k = k := by
  have h : ∀ k < 256, image.byteToken k = k := by
    simp only [TokImage.byteToken, image_num]
    decide +kernel
  exact h k hk

theorem image_slots : ((List.range 64).map image.slot).filter (fun s => s.1 != 0xFFFFFFFF) = [] := by
  have h : ∀ i < 64, image.mem.num (image.addr + image.mergeOff + 16 * i) 4 = 0xFFFFFFFF := by
    have e : image.mergeOff = 0xE40 := by rw [TokImage.mergeOff, image_num]; decide +kernel
    simp only [e, image_num]
    decide +kernel
  simp only [List.filter_eq_nil_iff, List.mem_map, List.mem_range]
  rintro _ ⟨i, hi, rfl⟩
  simp [TokImage.slot, h i hi]

theorem image_headerOk : image.headerOk 0x1240 = true := by
  have h : ∀ b < 256, image.cls b = 0 := by
    simp only [TokImage.cls, image_num]
    decide +kernel
  have hc : (List.range 256).all (fun b => decide (image.byteToken b < 256) && decide (image.cls b ≤ 15) &&
      (image.cls b == 0 || decide (b < 0x80) || (decide (0xC2 ≤ b) && decide (b ≤ 0xF4)))) = true := by
    simp only [List.all_eq_true, List.mem_range]
    intro b hb
    simp [image_byteToken b hb, h b hb, hb]
  have hv : image.vocab = 256 := by rw [TokImage.vocab, image_num]; decide +kernel
  simp only [TokImage.headerOk, hv, hc]
  simp only [TokImage.maxBytes, TokImage.merges, TokImage.endTokens, TokImage.slots, TokImage.tokenOff, TokImage.poolOff,
    TokImage.mergeOff, image_num]
  decide +kernel

/-- The image passes every check of R223. -/
theorem image_ok : (TokImage.mk (memOf imgByte 0x1240) 0).ok 0x1240 = true := by
  show image.ok 0x1240 = true
  have hv : image.vocab = 256 := by rw [TokImage.vocab, image_num]; decide +kernel
  have hp : image.poolOff = 0xD40 := by rw [TokImage.poolOff, image_num]; decide +kernel
  have hm : image.maxBytes = 1 := by rw [TokImage.maxBytes, image_num]; decide +kernel
  have hs : image.slots = 64 := by rw [TokImage.slots, image_num]; decide +kernel
  have hg : image.merges = 0 := by rw [TokImage.merges, image_num]; decide +kernel
  have he : image.endTokens = List.replicate 4 0xFFFFFFFF := by simp only [TokImage.endTokens, image_num]; decide +kernel
  simp only [TokImage.ok, image_headerOk, hv, hp, hm, hs, hg, he, image_slots, Bool.and_eq_true, List.all_eq_true,
    List.mem_range]
  refine ⟨⟨⟨⟨by decide, ?_⟩, ?_⟩, by simp [distinct, sortBy]⟩, by decide⟩
  · intro k hk
    simp [image_rec k hk]; omega
  · intro k hk
    simp [image_byteToken k hk, image_str k hk, image_special k hk]
theorem image_ok_of (x : Mem) (h : x = memOf imgByte 0x1240) : (TokImage.mk x 0).ok 0x1240 = true := h ▸ image_ok

/-- A command that has just started leaves HBM as it is. -/
theorem go_hbm (m : Module) (h : Mem) (op : Nat) (p : List (Nat × Nat)) : (go { m with hbm := h } op p).m.hbm = h := by
  show (startCmd { m with hbm := h } op (pay p)).hbm = h
  simp only [startCmd, Module.setBox]
  rfl

/-- The module with a grammar image of one empty state for tokenizer 0 at HBM address 0xC000, loaded as grammar 0. -/
def withGrammar (m : Module) : Module :=
  { m with
    hbm := m.hbm.wrN 0xC000 (pay [(4, 1), (2, 0), (2, 0), (4, 100), (4, 1), (4, 1), (4, 0), (8, 64), (8, 128), (8, 192), (8, 0),
      (8, 0), (14, 0), (2, 1)])
    mouth := { m.mouth with grammars := [(0, ⟨0xC000, 192⟩)], stops := [(5, [[0x41]])] } }

end Sys2Proof.Tests
end

