-- ==== Sys2Proof/Tests/Slice0.lean ====
section
/-!
SUPPORT. The model's own tests: every check of WellFormed refuses a term that fails it, and the worked examples of the manual
come out as the manual prints them. Every expected value is the manual's, or computed by hand from its tables.
-/

namespace Sys2Proof.Tests

-- The evaluations below wait for one another, so that they run one at a time and hold one stack.
set_option Elab.async false

open Sys2Proof Sys2Proof.Machine

/-! ### Ill-formed terms are refused -/

/-- The command is refused as ill-formed by a running module. -/
def illFormed (c : Instr) : Bool :=
  match exec c (atRest boot) with
  | .refused .illFormed => true
  | _ => false

theorem test_wf_register : illFormed (.registerWrite 0x2000000 8 0) = true := by decide +kernel
theorem test_wf_slot_mailbox : illFormed (.mailboxSlotWrite 64 0 [1]) = true := by decide +kernel
theorem test_wf_slot_offset : illFormed (.mailboxSlotWrite 63 0x2000 [1]) = true := by decide +kernel
theorem test_wf_mailbox : illFormed (.mailboxGo 64 1) = true := by decide +kernel
theorem test_wf_ring_partition : illFormed (.ringTailWrite 8 0) = true := by decide +kernel
theorem test_wf_build_partition : illFormed (.stepBuild 8) = true := by decide +kernel
theorem test_wf_core : illFormed (.coreLoad 64) = true := by decide +kernel
theorem test_wf_account : illFormed (.accountPeriodEnd 65536) = true := by decide +kernel
theorem test_wf_index : illFormed (.repairPass 16 0) = true := by decide +kernel
theorem test_wf_shard : illFormed (.shardOpen 15 32) = true := by decide +kernel
theorem test_wf_channel : illFormed (.writeAccept 32) = true := by decide +kernel
theorem test_wf_temperature_count : illFormed (.nandTempSample (List.replicate 31 25)) = true := by decide +kernel
theorem test_wf_temperature_range : illFormed (.nandTempSample (128 :: List.replicate 31 25)) = true := by decide +kernel
theorem test_wf_lane : illFormed (.laneFailure 16) = true := by decide +kernel
theorem test_wf_warning_source : illFormed (.failureWarning 8 0) = true := by decide +kernel
theorem test_wf_reed_decision : illFormed (.reedDecision 93) = true := by decide +kernel
theorem test_wf_reed_burst : illFormed (.burstExpiry 93) = true := by decide +kernel
theorem test_wf_link_mode : illFormed (.hostLinkRetrained 7 16) = true := by decide +kernel
theorem test_wf_link_width : illFormed (.hostLinkRetrained 6 17) = true := by decide +kernel
theorem test_wf_vector : illFormed (.msixHoldoffExpiry 128) = true := by decide +kernel
theorem test_wf_unmask : illFormed (.msixVectorUnmask 128) = true := by decide +kernel
theorem test_wf_subport : illFormed (.transmitOpportunity 16) = true := by decide +kernel
theorem test_wf_subport_link : illFormed (.subportLinkChange 16 true) = true := by decide +kernel
theorem test_wf_gate : illFormed (.gateIntervalEnd 16) = true := by decide +kernel
theorem test_wf_flow_control : illFormed (.priorityFlowControl 16 0 0) = true := by decide +kernel
theorem test_wf_announce : illFormed (.ptpAnnounce ⟨16, 0, 0, 0, 0, 0, 0, 0, 0, 0⟩) = true := by decide +kernel
theorem test_wf_monitors : illFormed (.coreMonitorSample (List.replicate 31 800)) = true := by decide +kernel
theorem test_wf_perturb_slot : illFormed (.perturbSlotEnd 16) = true := by decide +kernel
theorem test_wf_sweep_batch : illFormed (.sweepPartnerQuery (List.replicate 4097 0)) = true := by decide +kernel

/-! ### Reset values of the register tables -/

theorem test_reset_step_max : State.reset.m.get Reg.STEP.CTRL_STEP_MAX = 1024 := by decide +kernel
theorem test_reset_ingest_max : State.reset.m.get Reg.STEP.CTRL_INGEST_MAX = 512 := by decide +kernel
theorem test_reset_urgent : State.reset.m.get Reg.STEP.ORDER_URGENT_NS = 5000000 := by decide +kernel
theorem test_reset_no_pool : State.reset.m.get Reg.STEP.STATUS_NO_POOL = 0xFF := by decide +kernel

/-! ### Worked examples -/

/-- R24's example: epoch 0x00000001 is later than 0xFFFFFFFE; a difference of 2³¹ is not comparable. -/
theorem test_serial_later :
    serialLater 1 0xFFFFFFFE = true ∧ serialLater 0xFFFFFFFE 1 = false ∧ serialLater 0x80000000 0 = false ∧
    serialUnordered 0x80000000 0 = true := by decide

/-- R368's example: ADDI g5, g4, −8 and TACC g1, g2, g3, g4. -/
theorem test_encode_addi : (w0 0x11 5 4 0 0 0xFFFFFFF8).encode = 0x11144000FFFFFFF8#64 := by decide
theorem test_decode_tacc : SWord.decode 0x700420C400000000#64 = w0 0x70 1 2 3 4 0 := by decide

/-- ADDI writes the destination alone: g4 holds 0x10000048, so g5 becomes 0x10000040. -/
theorem test_addi :
    ((nxt (execSAddi 63 (strands (w0 0x11 5 4 0 0 0xFFFFFFF8)))).m.strand.threads.get 63).map
      (fun th => (th.reg 5, th.reg 4, th.pc)) = some (0x10000040, 0x10000048, 0x10000050) := by decide +kernel

/-- R367's example: the window address 0x8004B21280089300 leads to the CAPSULE window; the windows' first and last addresses. -/
theorem test_place :
    place 0x8004B21280089300 = .capsule ∧ place 0x7FFF = .slice 0x7FFF ∧ place 0x8000 = .reserved ∧
    place 0x10000000000 = .lpddr 0 ∧ place 0x1FFFFFFFFFFF = .host 0xFFFFFFFFFFF := by decide

/-- The example after R150: 2.4, 0.37 and −1.1 as FP8 become 2.5, 0.375 and −1.125. -/
theorem test_e4m3 :
    [0x4019999A, 0x3EBD70A4, 0xBF8CCCCD].map (fun c => e4m3.encode true (fp32.decode c)) = [0x42, 0x2C, 0xB9] := by
  decide +kernel

/-- The same three values as FP4 with E = −1 become codes 0x6, 0x1 and 0xC, and the first two pack into byte 0x16. -/
theorem test_e2m1 :
    [0x4019999A, 0x3EBD70A4, 0xBF8CCCCD].map (fun c => e2m1.encode true ((fp32.decode c).scale 1)) = [0x6, 0x1, 0xC] ∧
    scaleExp e2m1 [fp32.decode 0x4019999A] = -1 ∧ packCodes 4 [0x6, 0x1] = [0x16] := by decide +kernel

/-- The account example after R191: the period closes at min(800,000, 900,060) + 800,000, a balance of 699,940. -/
theorem test_period_close :
    let x := Account.newPeriod 5 ⟨800000, 800000, 900060, 0, 0, 86400, 3, 0, 0⟩
    x.allowance = 1600000 ∧ x.allowance - 900060 = 699940 := by decide +kernel

/-- R163's example: urgent requests by deadline, then by effective priority. -/
def agent (priority deadline wait : Nat) : Req :=
  { req0 1 with priority := priority, deadline := deadline, waitSteps := wait }

theorem test_step_order :
    let m := world 1
    let t := m.clk.now
    let e := m.orderKey 5 (agent 50 (t - 1000000) 0)
    let a := m.orderKey 1 (agent 10 (t + 3000000) 0)
    let b := m.orderKey 2 (agent 200 0 0)
    let c := m.orderKey 3 (agent 10 (t + 20000000) 0)
    let d := m.orderKey 4 (agent 0 0 130)
    keyLe e a = true ∧ keyLe a e = false ∧ keyLe a b = true ∧ keyLe b a = false ∧ keyLe b c = true ∧ keyLe c b = false ∧
    keyLe c d = true ∧ keyLe d c = false ∧ m.effPriority (agent 0 0 130) = 2 := by decide +kernel

/-- R234's example: the stop string "§§" over four steps, and the other fourth step. -/
theorem test_stop_string :
    let stop : List Bytes := [[0xC2, 0xA7, 0xC2, 0xA7]]
    detokStep stop false [] [0x6B, 0x57] = ([0x6B, 0x57], [], 0, false) ∧
    detokStep stop false [] [0x20, 0xC2] = ([0x20], [0xC2], 0, false) ∧
    detokStep stop false [0xC2] [0xA7, 0xC2] = ([], [0xC2, 0xA7, 0xC2], 0, false) ∧
    detokStep stop false [0xC2, 0xA7, 0xC2] [0xA7, 0x0A] = ([], [], 0, true) ∧
    detokStep stop false [0xC2, 0xA7, 0xC2] [0x33] = ([0xC2, 0xA7, 0xEF, 0xBF, 0xBD, 0x33], [], 1, false) := by
  decide +kernel

/-- The segment memory's shape: records of 576 bytes and 4,793,492 sectors a shard. -/
theorem test_bore_shape :
    recordBytes 0x04 384 32 16 = 576 ∧
    BoreIndex.sectors ⟨3, 0x04, 1, 384, 32, 16, 576, 33554432, 0x3F800000, 64, 0, none, none, []⟩ = 4793492 := by
  decide +kernel

/-- R530's example: "123456789" under preset 1, and the check field of preset 6 most significant byte first. -/
def digits : Bytes := [0x31, 0x32, 0x33, 0x34, 0x35, 0x36, 0x37, 0x38, 0x39]

theorem test_check_field :
    ((checkPreset 1).map (fun k => checkField k (checkValue k (checkScan k k.init digits)))) = some [0x83, 0x92, 0x06, 0xE3] ∧
    ((checkPreset 6).map (fun k => checkField k (checkValue k (checkScan k k.init digits)))) = some [0x29, 0xB1] ∧
    crc32c digits = 0xE3069283 := by decide +kernel

/-- CHECK_SCAN STRIP over the digits and their field completes with OUT_LENGTH 9; with a byte changed it is DAMAGED. -/
def stripOf (b : Bytes) : State :=
  go (let m := (world 1).setCheckCfg 3 1 ⟨32, 0x1EDC6F41, 0xFFFFFFFF, 0xFFFFFFFF, true, true⟩; { m with hbm := m.hbm.wrN 0x9000 b })
    0x1410 [(1, 3), (1, 2), (1, 0), (1, 0), (1, 1), (1, 1), (2, 0), (8, 0x9000), (8, 0), (8, 13)]

def answer (s : State) : Option (Nat × Bytes) := (s.m.box 0).resp.map (fun r => (r.status, r.body.take 16))

theorem test_strip_ok :
    answer (nxt (execCheckScan (.mbox 0) (stripOf (digits ++ [0x83, 0x92, 0x06, 0xE3])))) =
      some (Status.ok.code, leBytes 8 0xE3069283 ++ leBytes 8 9) := by decide +kernel

theorem test_strip_damaged :
    (answer (nxt (execCheckScan (.mbox 0) (stripOf (digits.set 4 0x36 ++ [0x83, 0x92, 0x06, 0xE3]))))).map (·.1) =
      some Status.damaged.code := by decide +kernel

/-! ### Steps -/

/-- A step with a command in front runs it and takes it from the queue. -/
theorem test_step_takes_front :
    (nxt (step ⟨[.nop (.mbox 0), .nop (.mbox 0)], startCmd boot 0 []⟩)).pending = [.nop (.mbox 0)] ∧
    answer (nxt (step ⟨[.nop (.mbox 0)], startCmd boot 0 []⟩)) = some (Status.ok.code, []) := by decide +kernel

/-- With an empty queue and FREQ_PPB 0 a tick adds one nanosecond (R476). -/
theorem test_tick_adds_one : (nxt (step (atRest boot))).m.clk.now = boot.clk.now + 1 := by decide +kernel

end Sys2Proof.Tests
end

