-- ==== Sys2Proof/Tests/WitnessAttn.lean ====
section
/-!
SUPPORT. For each statement about the attention cores: states and operands that meet the hypotheses of each of its clauses.
-/

namespace Sys2Proof.Tests

-- The evaluations below wait for one another, so that they run one at a time and hold one stack.
set_option Elab.async false

open Sys2Proof Sys2Proof.Machine

theorem choose_one (m : Module) (n : Nat) (h : n ≤ 1) : m.choose n = (0, { m with free := m.free + 1 }) := by
  have h1 : Max.max n 1 = 1 := by omega
  simp [Module.choose, h1, Nat.mod_one]


/-- The hypotheses of AttentionCommandsAct are met. -/
theorem witness_AttentionCommandsAct :
  (let s : State := go (world 1) 0x0400 [(2, 63), (1, 1), (1, 2), (2, 384), (1, 64), (1, 1), (2, 256), (2, 256), (1, 1), (1,
    0), (2, 0), (8, 0x100000), (8, 0)]; let src : Src := .mbox 0; let c : RunCmd := cm s src; let id : Nat := 63;
    let x : Model := ⟨1, 2, 384, 64, 1, 256, 256, 1, 0, 0x100000, []⟩;
    (Fresh s src 0x0400 c) ∧ (allZero c.payload 0x0E 2 = true) ∧ (id = u16 c.payload 0) ∧ (id < 64) ∧
    (s.m.attn.models.has id = false) ∧ (x = ⟨u8 c.payload 2, u8 c.payload 3, u16 c.payload 4, u8 c.payload 6,
    u8 c.payload 7, u16 c.payload 8, u16 c.payload 0x0A, u8 c.payload 0x0C, u8 c.payload 0x0D, u64 c.payload 0x10, []⟩) ∧
    (1 ≤ x.layers) ∧ (x.layers ≤ 127) ∧ (1 ≤ x.heads) ∧ (x.heads ≤ 128) ∧ (32 ≤ x.latentDim) ∧ (x.latentDim ≤ 384) ∧
    (x.latentDim % 32 = 0) ∧ ((x.ropeDim = 0 ∨ x.ropeDim = 32 ∨ x.ropeDim = 64)) ∧ ((x.latFmt = 1 ∨ x.latFmt = 2)) ∧
    (32 ≤ x.qkDim) ∧ (x.qkDim ≤ 256) ∧ (x.qkDim % 32 = 0) ∧ (32 ≤ x.vDim) ∧ (x.vDim ≤ 256) ∧ (x.vDim % 32 = 0) ∧
    (x.ok = true) ∧ ((x.upFmt = 1 ∨ x.upFmt = 2)) ∧ (s.m.present x.partition = true) ∧ (x.upAddr % 4096 = 0) ∧
    (s.m.engineMay x.partition 0 x.upAddr x.upTotal = true) ∧ (u64 c.payload 0x18 = 0)) ∧
  (let s : State := go (let m := withAttn (obj 3 0 0) (world 1);
    { m with attn := { m.attn with cores := [(0, { core0 1 none with fused := [fc0] })] } }) 0x0401 [(8, 0)];
    let src : Src := .mbox 0; let c : RunCmd := cm s src; (Fresh s src 0x0401 c) ∧ (allZero c.payload 2 6 = true) ∧
    (s.m.attn.models.has (u16 c.payload 0) = true) ∧ (s.m.modelUsed (u16 c.payload 0) = true)) ∧
  (let s : State := go (withAttn (obj 3 0 0) (world 1)) 0x0401 [(8, 0)]; let src : Src := .mbox 0;
    let c : RunCmd := cm s src; (Fresh s src 0x0401 c) ∧ (allZero c.payload 2 6 = true) ∧
    (s.m.attn.models.has (u16 c.payload 0) = true) ∧ (s.m.modelUsed (u16 c.payload 0) = false)) ∧
  (let s : State := go (world 1) 0x0410 [(8, 64), (4, 4096), (4, 0), (8, 0x2000)]; let src : Src := .mbox 0;
    let n : Nat := 4096; let p : Nat := 0; let addr : Nat := 64; let sts : Nat := 0x2000; let c : RunCmd := cm s src;
    (Fresh s src 0x0410 c) ∧ (allZero c.payload 0x0D 3 = true) ∧ (addr = u64 c.payload 0) ∧ (n = u32 c.payload 8) ∧
    (p = u8 c.payload 0x0C) ∧ (sts = u64 c.payload 0x10) ∧ (addr % 64 = 0) ∧ (1 ≤ n) ∧ (n ≤ 4096) ∧ (s.m.present p = true) ∧
    (8 < s.m.coreCount p)) ∧
  (let s : State := go (small (world 1)) 0x0410 [(8, 64), (4, 2), (4, 0), (8, 0x2000)]; let src : Src := .mbox 0;
    let n : Nat := 2; let p : Nat := 0; let addr : Nat := 64; let sts : Nat := 0x2000; let c : RunCmd := cm s src;
    (Fresh s src 0x0410 c) ∧ (allZero c.payload 0x0D 3 = true) ∧ (addr = u64 c.payload 0) ∧ (n = u32 c.payload 8) ∧
    (p = u8 c.payload 0x0C) ∧ (sts = u64 c.payload 0x10) ∧ (addr % 64 = 0) ∧ (1 ≤ n) ∧ (n ≤ 4096) ∧ (s.m.present p = true) ∧
    (s.m.coreCount p ≤ 8) ∧ (s.m.cmdMay c p addr (64 * n) false = true) ∧ (s.m.cmdMay c p sts (2 * n) true = true) ∧
    (s.m.host.linkUp = true) ∧ (s.m.host.d3hot = false)) ∧
  (let s : State := go (let m := world 1;
    { m with hbm := m.hbm.wrN 4096 (pay [(4, 1), (4, 0), (4, 0), (52, 0), (1, 0xFF)]), attn := { m.attn with programs := (List.range 1024).map (fun i => (i, ⟨0, 0, 0, 0, 0⟩)) } }) 0x0420 [(8,
    4096), (4, 96)]; let src : Src := .mbox 0; let c : RunCmd := cm s src; let addr : Nat := 4096; let len : Nat := 96;
    let n : Nat := 1; (Fresh s src 0x0420 c) ∧ (addr = u64 c.payload 0) ∧ (len = u32 c.payload 8) ∧
    (n = s.m.hbm.num addr 4) ∧ (addr % 4096 = 0) ∧ (addr + len ≤ hbmSize) ∧ (64 + 32 * n ≤ len) ∧
    (allZero (s.m.hbm.rdN (addr + 12) 52) 0 52 = true) ∧ (s.m.hbm.num (addr + 8) 4 < n) ∧
    ((∀ i < n, opReserved (s.m.hbm.rdN (addr + 64 + 32 * i) 32) = false)) ∧ (s.m.attn.programs.lowestFree 0 1024 = none)) ∧
  (let s : State := go (let m := world 1;
    { m with hbm := m.hbm.wrN 4096 (pay [(4, 1), (4, 0), (4, 0), (52, 0), (1, 0xFF)]) }) 0x0420 [(8, 4096), (4, 96)];
    let src : Src := .mbox 0; let c : RunCmd := cm s src; let addr : Nat := 4096; let len : Nat := 96; let n : Nat := 1;
    (Fresh s src 0x0420 c) ∧ (addr = u64 c.payload 0) ∧ (len = u32 c.payload 8) ∧ (n = s.m.hbm.num addr 4) ∧
    (addr % 4096 = 0) ∧ (addr + len ≤ hbmSize) ∧ (64 + 32 * n ≤ len) ∧ (allZero (s.m.hbm.rdN (addr + 12) 52) 0 52 = true) ∧
    (s.m.hbm.num (addr + 8) 4 < n) ∧ ((∀ i < n, opReserved (s.m.hbm.rdN (addr + 64 + 32 * i) 32) = false)) ∧ (let h := 0;
    let g := CoreProg.mk 4096 96 1 0 0; (s.m.attn.programs.lowestFree 0 1024 = some h) ∧
    (g = CoreProg.mk addr len n (s.m.hbm.num (addr + 4) 4) (s.m.hbm.num (addr + 8) 4)))) ∧
  (let s : State := go (let m := withAttn (obj 3 0 0) (world 1);
    { m with attn := { m.attn with programs := [(0, ⟨4096, 96, 1, 1024, 0⟩)], cores := [(63, core0 2 none)] } }) 0x0421 [(8,
    2 ^ 63), (2, 0), (2, 0), (4, objHandle), (8, 0x10000), (8, 4096)]; let src : Src := .mbox 0; let c : RunCmd := cm s src;
    let p : Nat := 0; let done : Nat := objHandle; let base : Nat := 0x10000; let size : Nat := 4096; let oi : Nat := 0;
    let g : CoreProg := ⟨4096, 96, 1, 1024, 0⟩; let o : LigObj := obj 3 0 0;
    (Fresh s src 0x0421 c) ∧ (allZero c.payload 0x0A 2 = true) ∧ (u64 c.payload 0 ≠ 0) ∧
    (s.m.attn.programs.get (u16 c.payload 8) = some g) ∧ (done = u32 c.payload 0x0C) ∧ (s.m.ligFind done = some (oi, o)) ∧
    (o.kind = 3) ∧ (o.partition = p) ∧ (base = u64 c.payload 0x10) ∧ (size = u64 c.payload 0x18) ∧ (base % 4096 = 0) ∧
    (size % 4096 = 0) ∧ ((∀ k ∈ setBitsOf 64 (u64 c.payload 0), s.m.corePart k = some p ∧
    ((s.m.core k).mode = 2 ∨ (s.m.core k).mode = 3) ∧ (s.m.core k).nextMode = none ∧ (s.m.core k).progQueue.length < 16 ∧
    g.sram ≤ s.m.sramSpace k)) ∧ (s.m.engineMay p 0 base size = true) ∧ (setBitsOf 64 (u64 c.payload 0) ≠ [])) ∧
  (let s : State := let w := runs [(1, 0xFF)]; go w.m 0x0422 [(8, 2 ^ 63 + 1)]; let src : Src := .mbox 0;
    let c : RunCmd := cm s src; (Fresh s src 0x0422 c) ∧ (u64 c.payload 0 ≠ 0)) ∧
  (let m : Module := (runs [(1, 0xFF)] { run0 with waiting := true }).m; let k : Nat := 63;
    let r : CoreRun := { run0 with waiting := true }; ((m.core k).run = some r) ∧ (r.stop = none) ∧ (r.waiting = true)) ∧
  (let m : Module := (runs [(1, 0xFF)]).m; let k : Nat := 63; let r : CoreRun := run0;
    ((m.core k).run = some r) ∧ (r.stop = none) ∧ (r.waiting = false)) ∧
  (let s : State := let w := runs [(1, 0xFF)]; go w.m 0x0430 [(8, 2 ^ 63 + 1), (8, 3)]; let src : Src := .mbox 0;
    let c : RunCmd := cm s src; let p : Nat := 0; (Fresh s src 0x0430 c) ∧ (allZero c.payload 9 7 = true) ∧
    (u64 c.payload 0 ≠ 0) ∧ (u8 c.payload 8 ≤ 3) ∧ ((∀ k ∈ setBitsOf 64 (u64 c.payload 0), s.m.corePart k = some p))) := by
  refine ⟨?_, ?_, ?_, ?_, ?_, ?_, ?_, ?_, ⟨?_, ?_, ?_, ?_⟩⟩ <;> decide +kernel

/-- The hypotheses of WalksAndQueriesProceed are met. -/
theorem witness_WalksAndQueriesProceed :
  (let s : State := let w := world 1;
    atRest { w with attn := { w.attn with cores := [(63, { core0 1 none with nextMode := some 3 })] } }; let k : Nat := 63;
    let mode : Nat := 3; (s.m.live = true) ∧ (k < 64) ∧ ((s.m.core k).nextMode = some mode) ∧ (s.m.drained k = true)) ∧
  (let s : State := let w := world 1;
    atRest { w with attn := { w.attn with cores := [(63, { core0 1 (some run0) with nextMode := some 3 })] } };
    let k : Nat := 63; let mode : Nat := 3; (s.m.live = true) ∧ (k < 64) ∧ ((s.m.core k).nextMode = some mode) ∧
    (s.m.drained k = false)) ∧
  (let s : State := let w := world 1; atRest { w with bell := { w.bell with qps := [(5, ⟨5, false, false⟩)] } };
    let e : Nat := 5; let g : ModelMsg := ⟨0, 0, 0, 1, 0, 0, 0, 1, 1, 0, 0, 0, modelCrc ⟨0, 0, 0, 1, 0, 0, 0, 1, 1, 0, 0, 0,
    0, []⟩ + 1, []⟩; let q : QueuePair := ⟨5, false, false⟩; (s.m.live = true) ∧ (s.m.bell.qps.get e = some q) ∧
    (q.error = false) ∧ (g.check ≠ modelCrc g)) ∧
  (let s : State := let w := withAttn (obj 3 0 0) (world 1);
    atRest { w with bell := { w.bell with qps := [(5, ⟨5, false, false⟩)] }, attn := { w.attn with cores := [(0, { core0 1 none with fused := [fc0] })] } };
    let e : Nat := 5; let g : ModelMsg := ⟨0, 0, 0, 1, 0, 0, 0, 2, 1, 2, 0x3F800000, 1, modelCrc ⟨0, 0, 0, 1, 0, 0, 0, 2, 1,
    2, 0x3F800000, 1, 0, [7]⟩, [7]⟩; let q : QueuePair := ⟨5, false, false⟩;
    (s.m.live = true) ∧ (s.m.bell.qps.get e = some q) ∧ (q.error = false) ∧ (g.kind = 1) ∧ (g.bytes = g.body.length) ∧
    (48 + g.body.length ≤ 262144) ∧ (g.check = modelCrc g) ∧ (let m1 := (s.m.matchQuery g).getD s.m;
    (s.m.matchQuery g = some m1))) ∧
  (let s : State := let w := world 1; atRest { w with bell := { w.bell with qps := [(5, ⟨5, false, false⟩)] } };
    let e : Nat := 5; let g : ModelMsg := ⟨0, 0, 0, 1, 0, 0, 0, 1, 1, 0, 0, 0, modelCrc ⟨0, 0, 0, 1, 0, 0, 0, 1, 1, 0, 0, 0,
    0, []⟩, []⟩; let q : QueuePair := ⟨5, false, false⟩; (s.m.live = true) ∧ (s.m.bell.qps.get e = some q) ∧
    (q.error = false) ∧ (g.kind = 1) ∧ (g.bytes = g.body.length) ∧ (48 + g.body.length ≤ 262144) ∧ (g.check = modelCrc g) ∧
    (s.m.matchQuery g = none)) ∧
  (let s : State := let w := withAttn (obj 3 0 0) (world 1);
    atRest { w with attn := { w.attn with cores := [(63, { core0 1 none with fused := [fc0], batches := [⟨0, 0, 1999999999999, false, [1]⟩] })] } };
    let k : Nat := 63; let b : Batch := ⟨0, 0, 1999999999999, false, [1]⟩;
    (s.m.live = true) ∧ (k < 64) ∧ (openBatch k s.m = some b) ∧ (s.m.mayStart k b = true)) ∧
  (let s : State := let w := withAttn (obj 3 0 0) (world 1);
    atRest { w with slide := { w.slide with entries := [{ pf 1 true with step := 0 }], stalls := [⟨1, 5, false⟩] }, attn := { w.attn with cores := [(63, { core0 1 none with fused := [fc0], batches := [⟨0, 0, 1999999999999, false, [1]⟩] })] } };
    let k : Nat := 63; let b : Batch := ⟨0, 0, 1999999999999, false, [1]⟩;
    (s.m.live = true) ∧ (k < 64) ∧ (openBatch k s.m = some b) ∧ (s.m.mayStart k b = false)) ∧
  (let s : State := atRest (world 1); let k : Nat := 63; (s.m.live = true) ∧ (k < 64) ∧
    ((∀ f ∈ (s.m.core k).fused, f.status = none)) ∧ (s.m.inSlice k = false) ∧ (s.m.nextWalk k = none)) ∧
  (let s : State := let w := withAttn (obj 3 0 0) (world 1);
    atRest { w with attn := { w.attn with cores := [(0, { core0 1 none with fused := [fcWalk], walks := [1], batches := [⟨0, 0, 5, true, [1]⟩], landing := [⟨0, 0, 0, 0, 0, 0, frame0.slots⟩] })] } };
    let k : Nat := 0; (s.m.live = true) ∧ (k < 64) ∧ ((∀ f ∈ (s.m.core k).fused, f.status = none)) ∧
    (s.m.inSlice k = false) ∧ (let f := fcWalk; let i := 0; let m1 := { s.m with free := s.m.free + 1 };
    let blk := .tiles [(0, 0)]; (s.m.nextWalk k = some f) ∧ (s.m.choose (s.m.readyBlocks k f).length = (i, m1)) ∧
    ((s.m.readyBlocks k f)[i]? = some blk) ∧ ((∀ p ∈ blk.tileList, (m1.tileSlots k f.desc p.1 p.2).isSome = true)))) ∧
  (let s : State := let w := withAttn (obj 3 0 0) (world 1);
    atRest { w with caps := { w.caps with frames := [(0, { frame0 with bad := [0] })] }, attn := { w.attn with cores := [(0, { core0 1 none with fused := [fcWalk], walks := [1], batches := [⟨0, 0, 5, true, [1]⟩] })] } };
    let k : Nat := 0; (s.m.live = true) ∧ (k < 64) ∧ ((∀ f ∈ (s.m.core k).fused, f.status = none)) ∧
    (s.m.inSlice k = false) ∧ (let f := fcWalk; let i := 0; let m1 := { s.m with free := s.m.free + 1 };
    let blk := .tiles [(0, 0)]; (s.m.nextWalk k = some f) ∧ (s.m.choose (s.m.readyBlocks k f).length = (i, m1)) ∧
    ((s.m.readyBlocks k f)[i]? = some blk) ∧ (let p := 0; let t := 0; let rest := [];
    (blk.tileList = (p, t) :: rest) ∧ (m1.tileSlots k f.desc p t = none)))) ∧
  (let s : State := let w := withAttn (obj 3 0 0) (world 1);
    atRest { w with attn := { w.attn with cores := [(63, { core0 1 none with fused := [fc0] })] } };
    let t : Nat := 1000 + s.m.get Reg.ATTN.QUERY_CTRL_WAIT_NS; let x : Late := .command 63 1;
    (s.m.live = true) ∧ (firstLate s.m = some (t, x)) ∧ (t ≤ s.m.clk.mono)) ∧
  (let s : State := let w := world 1;
    atRest { w with attn := { w.attn with orphans := [(2000000000001, ⟨0, 0, 0, 1, 0, 0, 0, 1, 1, 0, 0, 0, 0, []⟩)] } };
    let o : Nat × ModelMsg := (2000000000001, ⟨0, 0, 0, 1, 0, 0, 0, 1, 1, 0, 0, 0, 0, []⟩);
    (s.m.live = true) ∧ (firstOrphan s.m = some o)) ∧
  (let s : State := let w := runs [(1, 1)] run0 2; w; let k : Nat := 63; let r : CoreRun := run0;
    (s.m.live = true) ∧ (k < 64) ∧ ((s.m.core k).run = some r) ∧ ((s.m.core k).mode = 2)) := by
  refine ⟨?_, ?_, ?_, ⟨by decide +kernel, by decide +kernel, by decide, by decide, by decide, by decide, by decide +kernel,
    eq_some_getD (by decide +kernel)⟩, ?_, ?_, ?_, ?_, ⟨⟨by decide +kernel, by decide, by decide +kernel, by decide +kernel,
    by decide +kernel, choose_one _ _ (by decide +kernel), by decide +kernel⟩, ⟨by decide +kernel, by decide,
    by decide +kernel, by decide +kernel, by decide +kernel, choose_one _ _ (by decide +kernel), by decide +kernel⟩, ?_, ?_,
    ?_⟩⟩ <;> decide +kernel

/-- The hypotheses of CoreProgramsRunTheirOperations are met. -/
theorem witness_CoreProgramsRunTheirOperations :
  (let s : State := runs [(1, 1), (3, 0), (4, 1), (8, 0), (8, 0), (8, 6291456)]; let c : Nat := 63; let r : CoreRun := run0;
    let b : Bytes := opOf s; (CoreOp s c 0x01 r b) ∧ (s.m.sramSpace c < u64 b 0x18 + u32 b 4)) ∧
  (let s : State := runs [(1, 1), (3, 0), (4, 1), (8, 0), (8, 0xFFFF), (8, 6291455)]; let c : Nat := 63;
    let r : CoreRun := run0; let b : Bytes := opOf s; (CoreOp s c 0x01 r b) ∧ (u64 b 0x18 + u32 b 4 ≤ s.m.sramSpace c) ∧
    (r.reaches (u64 b 0x10) (u32 b 4) = false)) ∧
  (let s : State := runs [(1, 1), (3, 0), (4, 1), (8, 0), (8, 0x10FFF), (8, 6291455)]; let c : Nat := 63;
    let r : CoreRun := run0; let b : Bytes := opOf s; (CoreOp s c 0x01 r b) ∧ (u64 b 0x18 + u32 b 4 ≤ s.m.sramSpace c) ∧
    (r.reaches (u64 b 0x10) (u32 b 4) = true)) ∧
  (let s : State := runs [(1, 2), (3, 0), (4, 4), (8, 0), (8, 0x10000), (8, 0)]; let c : Nat := 63; let r : CoreRun := run0;
    let b : Bytes := opOf s; (CoreOp s c 0x02 r b) ∧ (u64 b 0x18 + u32 b 4 ≤ s.m.sramSpace c) ∧
    (r.reaches (u64 b 0x10) (u32 b 4) = true)) ∧
  (let s : State := runs [(1, 3), (3, 0), (4, 256), (8, 0), (8, 127 * 2 ^ 29), (8, 0)]; let c : Nat := 63;
    let r : CoreRun := run0; let b : Bytes := opOf s; (let k := cap0 1; let o := 0;
    (CoreOp s c 0x03 r b) ∧ (u64 b 0x18 + u32 b 4 ≤ s.m.sramSpace c) ∧ (s.m.capsule (u32 b 8) = some k) ∧
    (k.partition = r.partition) ∧ (k.headerBad = false) ∧ (k.range (u64 b 0x10) (u32 b 4) = some (.header o)))) ∧
  (let s : State := let w := runs [(1, 0x10), (1, 0x0B), (2, 0), (4, 1), (4, 1), (4, 1), (4, 0), (4, 1), (8, 4)];
    { w with m := w.m.wrSram 63 0 [0x80, 0x7F] }; let c : Nat := 63; let r : CoreRun := run0; let b : Bytes := opOf s;
    (CoreOp s c 0x10 r b) ∧ (u8 b 1 = 0x0B) ∧ (u32 b 4 = 1) ∧ (u32 b 8 = 1) ∧ (u32 b 0x0C = 1) ∧
    (u32 b 0x10 + 1 ≤ s.m.sramSpace c) ∧ (u32 b 0x14 + 1 ≤ s.m.sramSpace c) ∧ (u64 b 0x18 + 4 ≤ s.m.sramSpace c)) ∧
  (let s : State := runs [(1, 0x10), (1, 0x0B), (2, 0), (4, 2), (4, 2), (4, 1), (4, 0), (4, 1), (8, 6291441)];
    let c : Nat := 63; let r : CoreRun := run0; let b : Bytes := opOf s;
    (CoreOp s c 0x10 r b) ∧ (s.m.sramSpace c < u64 b 0x18 + 4 * u32 b 4 * u32 b 8)) ∧
  (let s : State := let w := runs [(1, 0x11), (1, 0x02), (2, 0), (4, 2), (8, 0), (4, 0), (4, 8), (8, 16)];
    { w with m := w.m.wrSram 63 0 (List.replicate 16 0x3C) }; let c : Nat := 63; let r : CoreRun := run0;
    let b : Bytes := opOf s; (CoreOp s c 0x11 r b) ∧ (u16 b 2 = 0) ∧
    (u32 b 0x10 + rowBytes (u8 b 1) (u32 b 4) ≤ s.m.sramSpace c) ∧
    (u32 b 0x14 + rowBytes (u8 b 1) (u32 b 4) ≤ s.m.sramSpace c) ∧ (u64 b 0x18 + 4 * u32 b 4 ≤ s.m.sramSpace c)) ∧
  (let s : State := let w := runs [(1, 0x20), (3, 0), (12, 0), (8, 0x10000), (8, 0)] run0 2;
    { w with m := { w.m with hbm := w.m.hbm.wrN 0x10000 (pay [(4, 1), (12, 0), (2, 0), (1, 0), (1, 0), (1, 1), (1, 5), (2, 1), (8, 0), (8, 0), (8, 0x20000), (8, 0x30000), (8, 0)]) } };
    let c : Nat := 63; let r : CoreRun := run0; let b : Bytes := opOf s;
    (CoreOp s c 0x20 r b) ∧ (r.reaches (u64 b 0x10) 64 = true) ∧ (let bs := s.m.hbm.rdN (u64 b 0x10) 64;
    (let d := Desc.parse bs; (d.queryHbm = true) ∧ (d.outHbm = true) ∧ (s.m.descFault c d (u32 bs 0x24) = none) ∧
    ((s.m.core c).fused.length < 64)))) ∧
  (let s : State := runs [(1, 0x30), (3, 0), (4, 7)]; let c : Nat := 63; let r : CoreRun := run0; let b : Bytes := opOf s;
    (CoreOp s c 0x30 r b) ∧ (s.m.ligFind (u32 b 4) = none)) ∧
  (let s : State := runs [(1, 0x30), (3, 0), (4, objHandle)]; let c : Nat := 63; let r : CoreRun := run0;
    let b : Bytes := opOf s; (let i := 0; let o := obj 3 0 0; let o1 := obj 3 0 0;
    (CoreOp s c 0x30 r b) ∧ (s.m.ligFind (u32 b 4) = some (i, o)) ∧ (o.partition = r.partition) ∧ (o.revokedJob = none) ∧
    (o.kind ≠ 4) ∧ (ligTake o false = .wait o1))) ∧
  (let s : State := runs [(1, 0x31), (3, 0), (4, objHandle)]; let c : Nat := 63; let r : CoreRun := run0;
    let b : Bytes := opOf s; (let i := 0; let o := obj 3 0 0; (CoreOp s c 0x31 r b) ∧
    (s.m.ligFind (u32 b 4) = some (i, o)) ∧ (o.partition = r.partition) ∧ (o.revokedJob = none) ∧ (o.kind ≠ 4))) ∧
  (let s : State := runs [(1, 0x40), (3, 0), (4, 1), (4, 1)] { run0 with loops := List.replicate 4 ⟨0, 0, 1⟩ };
    let c : Nat := 63; let r : CoreRun := { run0 with loops := List.replicate 4 ⟨0, 0, 1⟩ }; let b : Bytes := opOf s;
    (CoreOp s c 0x40 r b) ∧ (u32 b 4 ≠ 0) ∧ (u32 b 8 ≠ 0) ∧ (4 ≤ r.loops.length)) ∧
  (let s : State := runs [(1, 0x40), (3, 0), (4, 1), (4, 1)]; let c : Nat := 63; let r : CoreRun := run0;
    let b : Bytes := opOf s; (CoreOp s c 0x40 r b) ∧ (u32 b 4 ≠ 0) ∧ (u32 b 8 ≠ 0) ∧ (r.loops.length < 4)) ∧
  (let s : State := runs [(1, 0xFF)]; let c : Nat := 63; let r : CoreRun := run0; let b : Bytes := opOf s;
    (CoreOp s c 0xFF r b)) ∧
  (let s : State := runs [(1, 0x05)]; let c : Nat := 63; let r : CoreRun := run0; let i : Instr := .coreWait c;
    (s.m.live = true) ∧ (c < 64) ∧ ((s.m.core c).run = some r) ∧ (r.waiting = false) ∧ (r.stop = none) ∧
    (r.suspended = false) ∧ (s.m.yields c r = false) ∧
    ((r.ops ≤ r.op ∨ opReserved (s.m.hbm.rdN (r.image + 64 + 32 * r.op) 32) = true)) ∧
    (i ∈ [Instr.coreLoad c, .coreStore c, .coreCapread c, .coreMatmul c, .coreVecop c, .coreFused c, .coreWait c,
    .coreSignal c, .coreLoop c, .coreEnd c])) ∧
  (let s : State := runs [(1, 0xFF)] { run0 with stop := some 8 }; let c : Nat := 63; let code : Nat := 8;
    let r : CoreRun := { run0 with stop := some 8 }; let i : Instr := .coreWait c;
    (s.m.live = true) ∧ (c < 64) ∧ ((s.m.core c).run = some r) ∧ (r.waiting = false) ∧ (r.stop = some code) ∧
    (i ∈ [Instr.coreLoad c, .coreStore c, .coreCapread c, .coreMatmul c, .coreVecop c, .coreFused c, .coreWait c,
    .coreSignal c, .coreLoop c, .coreEnd c])) := by
  refine ⟨?_, ?_, ?_, ?_, ?_, ?_, ?_, ?_, ⟨?_, ?_, ?_, ?_, ?_, ?_, ?_, ?_, ?_⟩⟩ <;> decide +kernel

end Sys2Proof.Tests
end

