-- ==== Sys2Proof/Tests/WitnessBore.lean ====
section
/-!
SUPPORT. For each statement about the Bore units: states and operands that meet the hypotheses of each of its clauses.
-/

namespace Sys2Proof.Tests

-- The evaluations below wait for one another, so that they run one at a time and hold one stack.
set_option Elab.async false

open Sys2Proof Sys2Proof.Machine

/-- An open index of partition 0: four INT8 dimensions, degree 8, sketches of 8 bytes, 64 records a shard, records of
128 bytes. -/
def idx0 : BoreIndex :=
  ⟨0, 0x0B, 0, 4, 8, 8, 128, 64, 0x3F800000, 16, 5, none, none, List.replicate 32 ⟨true, false, [], [], []⟩⟩

/-- The same index with shard 0 as given. -/
def idx1 (x : BoreShard) : BoreIndex := { idx0 with shards := x :: List.replicate 31 ⟨true, false, [], [], []⟩ }

/-- Record 0 of shard 0, in a state. -/
def brec (state : Nat) : Bytes := idx0.record 0 state 77 5 [32, 64] (zeros 8) [1, 2, 3, 4]

/-- The module whose index 0 is the given one, and whose channel 0 holds a sector of shard 0 that waits. -/
def withIndex (x : BoreIndex) (secs : List (Nat × Bytes)) (m : Module := world 1) : Module :=
  { m with
    bore := { m.bore with indexes := [(0, x)] }
    ftl := { m.ftl with
      extents := [(1, ⟨0, 3, true, false, 0⟩)]
      chans := [(0, { FChan.blank with waiting := secs.map (fun s => ⟨1, s.1, .sector s.2⟩) })] } }

/-- A walk of shard 0 that reads node 0. -/
def walk0 : BoreWalk := ⟨.query 9, 0, 0, [1, 1, 1, 1], zeros 8, 3, 8, 1, 16, false, 0, 0, [⟨0, 0, true⟩], [0], 1, [0], [],
  [], []⟩

/-- The module in which walk 4 runs. -/
def walking (m : Module) : Module := { m with bore := { m.bore with walks := [(4, walk0)], nextWalk := 5 } }

/-- BORE_INDEX_CREATE of index 15. -/
def creates : List (Nat × Nat) :=
  [(1, 15), (1, 0), (1, 0x0B), (1, 0), (2, 4), (1, 8), (1, 8), (4, 64), (4, 0x3F800000), (2, 16), (6, 0)]

/-- BORE_QUERY of index 0 for k nodes, its vector and its answers in HBM. -/
def queries (k : Nat) : List (Nat × Nat) :=
  [(1, 0), (1, 3), (2, k), (2, 1024), (1, 8), (1, 0), (2, 1024), (2, 0), (4, 1), (8, 0xA000), (8, 0x9000), (8, 0), (8, 0),
    (4, ligNone), (12, 0)]

theorem pair_of {α β : Type} {p : Option α × β} {d : α} (h : p.1.isSome = true) : p = (some (p.1.getD d), p.2) := by
  obtain ⟨o, b⟩ := p
  cases o with
  | none => simp at h
  | some x => rfl

theorem none_all {α : Type} {o : Option α} {P : α → Prop} (h : o = none) : ∀ x, o = some x → P x := by
  intro x e
  rw [h] at e
  cases e


/-- The hypotheses of BoreCommandsAct are met. -/
theorem witness_BoreCommandsAct :
  (let s : State := go (let m := withIndex idx0 [];
    { m with bore := { m.bore with indexes := [(15, idx0)] } }) 0x0800 creates; let src : Src := .mbox 0;
    let c : RunCmd := cm s src; let b : Bytes := (cm s).payload; let i : Nat := 15; let al : Nat := 0x3F800000;
    let x : BoreIndex := ⟨u8 b 1, u8 b 2, u8 b 3, u16 b 4, u8 b 6, u8 b 7, recordBytes (u8 b 2) (u16 b 4) (u8 b 6) (u8 b 7),
    u32 b 8, al, u16 b 0x10, s.m.clk.now, some (cm s).id, none, List.replicate 32 BoreShard.blank⟩;
    (Fresh s src 0x0800 c) ∧ (b = c.payload) ∧ (allZero b 0x12 6 = true) ∧ (i = u8 b 0) ∧ (al = u32 b 0x0C) ∧
    (x = ⟨u8 b 1, u8 b 2, u8 b 3, u16 b 4, u8 b 6, u8 b 7, recordBytes (u8 b 2) (u16 b 4) (u8 b 6) (u8 b 7), u32 b 8, al,
    u16 b 0x10, s.m.clk.now, some c.id, none, List.replicate 32 BoreShard.blank⟩) ∧ (i < 16) ∧
    (s.m.present (u8 b 1) = true) ∧ (u8 b 2 ∈ [0x01, 0x02, 0x04, 0x05, 0x0B, 0x40]) ∧ (u8 b 3 ≤ 2) ∧
    (vecBytes (u8 b 2) (u16 b 4) ≠ 0) ∧ (8 ≤ u8 b 6) ∧ (u8 b 6 ≤ 64) ∧ (u8 b 6 % 8 = 0) ∧ (8 ≤ u8 b 7) ∧ (u8 b 7 ≤ 64) ∧
    (u8 b 7 % 8 = 0) ∧ (1 ≤ u32 b 8) ∧ (u32 b 8 ≤ 134217727) ∧ ((fp32.decode al).isNan = false) ∧
    ((fp32.decode al).lt (fp32.decode 0x3F800000) = false) ∧ ((fp32.decode 0x40000000).lt (fp32.decode al) = false) ∧
    (16 ≤ u16 b 0x10) ∧ (u16 b 0x10 ≤ 1024) ∧ (s.m.bore.indexes.has i = true)) ∧
  (let s : State := go (let m := withIndex idx0 []; { m with ftl := { m.ftl with readOnly := true } }) 0x0800 creates;
    let src : Src := .mbox 0; let c : RunCmd := cm s src; let b : Bytes := (cm s).payload; let i : Nat := 15;
    let al : Nat := 0x3F800000; let x : BoreIndex := ⟨u8 b 1, u8 b 2, u8 b 3, u16 b 4, u8 b 6, u8 b 7,
    recordBytes (u8 b 2) (u16 b 4) (u8 b 6) (u8 b 7), u32 b 8, al, u16 b 0x10, s.m.clk.now, some (cm s).id, none,
    List.replicate 32 BoreShard.blank⟩; (Fresh s src 0x0800 c) ∧ (b = c.payload) ∧ (allZero b 0x12 6 = true) ∧
    (i = u8 b 0) ∧ (al = u32 b 0x0C) ∧ (x = ⟨u8 b 1, u8 b 2, u8 b 3, u16 b 4, u8 b 6, u8 b 7,
    recordBytes (u8 b 2) (u16 b 4) (u8 b 6) (u8 b 7), u32 b 8, al, u16 b 0x10, s.m.clk.now, some c.id, none,
    List.replicate 32 BoreShard.blank⟩) ∧ (i < 16) ∧ (s.m.present (u8 b 1) = true) ∧
    (u8 b 2 ∈ [0x01, 0x02, 0x04, 0x05, 0x0B, 0x40]) ∧ (u8 b 3 ≤ 2) ∧ (vecBytes (u8 b 2) (u16 b 4) ≠ 0) ∧ (8 ≤ u8 b 6) ∧
    (u8 b 6 ≤ 64) ∧ (u8 b 6 % 8 = 0) ∧ (8 ≤ u8 b 7) ∧ (u8 b 7 ≤ 64) ∧ (u8 b 7 % 8 = 0) ∧ (1 ≤ u32 b 8) ∧
    (u32 b 8 ≤ 134217727) ∧ ((fp32.decode al).isNan = false) ∧ ((fp32.decode al).lt (fp32.decode 0x3F800000) = false) ∧
    ((fp32.decode 0x40000000).lt (fp32.decode al) = false) ∧ (16 ≤ u16 b 0x10) ∧ (u16 b 0x10 ≤ 1024) ∧
    (s.m.bore.indexes.has i = false) ∧ (s.m.ftl.extents.has (shardExt i 0) = false) ∧ (s.m.ftl.readOnly = true)) ∧
  (let s : State := go ((withIndex idx0 []).set Reg.BORE.POOL_SIZE_BYTES 1000000) 0x0800 creates; let src : Src := .mbox 0;
    let c : RunCmd := cm s src; let b : Bytes := (cm s).payload; let i : Nat := 15; let al : Nat := 0x3F800000;
    let x : BoreIndex := ⟨u8 b 1, u8 b 2, u8 b 3, u16 b 4, u8 b 6, u8 b 7, recordBytes (u8 b 2) (u16 b 4) (u8 b 6) (u8 b 7),
    u32 b 8, al, u16 b 0x10, s.m.clk.now, some (cm s).id, none, List.replicate 32 BoreShard.blank⟩;
    (Fresh s src 0x0800 c) ∧ (b = c.payload) ∧ (allZero b 0x12 6 = true) ∧ (i = u8 b 0) ∧ (al = u32 b 0x0C) ∧
    (x = ⟨u8 b 1, u8 b 2, u8 b 3, u16 b 4, u8 b 6, u8 b 7, recordBytes (u8 b 2) (u16 b 4) (u8 b 6) (u8 b 7), u32 b 8, al,
    u16 b 0x10, s.m.clk.now, some c.id, none, List.replicate 32 BoreShard.blank⟩) ∧ (i < 16) ∧
    (s.m.present (u8 b 1) = true) ∧ (u8 b 2 ∈ [0x01, 0x02, 0x04, 0x05, 0x0B, 0x40]) ∧ (u8 b 3 ≤ 2) ∧
    (vecBytes (u8 b 2) (u16 b 4) ≠ 0) ∧ (8 ≤ u8 b 6) ∧ (u8 b 6 ≤ 64) ∧ (u8 b 6 % 8 = 0) ∧ (8 ≤ u8 b 7) ∧ (u8 b 7 ≤ 64) ∧
    (u8 b 7 % 8 = 0) ∧ (1 ≤ u32 b 8) ∧ (u32 b 8 ≤ 134217727) ∧ ((fp32.decode al).isNan = false) ∧
    ((fp32.decode al).lt (fp32.decode 0x3F800000) = false) ∧ ((fp32.decode 0x40000000).lt (fp32.decode al) = false) ∧
    (16 ≤ u16 b 0x10) ∧ (u16 b 0x10 ≤ 1024) ∧ (s.m.bore.indexes.has i = false) ∧
    (s.m.ftl.extents.has (shardExt i 0) = false) ∧ (s.m.ftl.readOnly = false) ∧
    ((∀ k, k < 32 → x.sectors ≤ s.m.chanFree k)) ∧
    (s.m.bore.indexes.vals.foldl (fun n y => n + y.poolBytes) x.poolBytes ≤ s.m.get Reg.BORE.POOL_SIZE_BYTES)) ∧
  (let s : State := go (withIndex idx0 []) 0x0801 [(1, 0), (7, 0)]; let src : Src := .mbox 0; let c : RunCmd := cm s src;
    let i : Nat := 0; let x : BoreIndex := idx0; (Fresh s src 0x0801 c) ∧ (allZero c.payload 1 7 = true) ∧
    (i = u8 c.payload 0) ∧ (s.m.bore.indexes.get i = some x) ∧ (x.dropping = none)) ∧
  (let s : State := go (withIndex (idx1 ⟨true, false, [(0, 1), (1, 2), (2, 3)], [], [32]⟩) []) 0x0802 [(1, 0)];
    let src : Src := .mbox 0; let c : RunCmd := cm s src; let i : Nat := 0;
    let x : BoreIndex := idx1 ⟨true, false, [(0, 1), (1, 2), (2, 3)], [], [32]⟩;
    (Fresh s src 0x0802 c) ∧ (i = u8 c.payload 0) ∧ (s.m.bore.indexes.get i = some x)) ∧
  (let s : State := go (withIndex { idx0 with metric := 1 } []) 0x0810 (queries 1024); let src : Src := .mbox 0;
    let c : RunCmd := cm s src; let b : Bytes := (cm s).payload; let v : Bytes := zeros 4; let sk : Bytes := zeros 8;
    let i : Nat := 0; let fl : Nat := 3; let k : Nat := 1024; let beam : Nat := 8; let hops : Nat := 1024;
    let srcH : Bool := true; let dstH : Bool := true; let x : BoreIndex := { idx0 with metric := 1 };
    let shards : List Nat := [0]; let online : List Nat := [0];
    (Fresh s src 0x0810 c) ∧ (b = c.payload) ∧ (allZero b 7 1 = true) ∧ (allZero b 0x0A 2 = true) ∧
    (allZero b 0x34 12 = true) ∧ (i = u8 b 0) ∧ (fl = u8 b 1) ∧ (k = u16 b 2) ∧ (s.m.bore.indexes.get i = some x) ∧
    (fl ≤ 7) ∧ (1 ≤ k) ∧ (k ≤ u16 b 4) ∧ (u16 b 4 ≤ 1024) ∧ (u8 b 6 ≤ 8) ∧ (u16 b 8 ≤ 1024) ∧ (u64 b 0x10 % 8 = 0) ∧
    (u64 b 0x18 % 16 = 0) ∧ ((u32 b 0x30 = ligNone ∨ ∃ o, s.m.ligFind (u32 b 0x30) = some o ∧ o.2.kind = 3 ∧
    o.2.partition = x.partition)) ∧ (srcH = bit fl 0) ∧ (dstH = bit fl 1) ∧ ((dstH = true ∨ s.m.mute x.partition = false)) ∧
    (((srcH = true ∧ dstH = true) ∨ (s.m.host.linkUp = true ∧ s.m.host.d3hot = false))) ∧
    (s.m.boreMay c x.partition srcH (u64 b 0x10) (roundUp (vecBytes x.element x.dims) 8 + x.sketchBytes) false = true) ∧
    (s.m.boreMay c x.partition dstH (u64 b 0x18) (16 + 16 * k) true = true) ∧ (x.ready = true) ∧
    (beam = (if u8 b 6 = 0 then s.m.get Reg.BORE.QUERY_CTRL_BEAM else u8 b 6)) ∧
    (hops = (if u16 b 8 = 0 then s.m.get Reg.BORE.QUERY_CTRL_MAX_HOPS else u16 b 8)) ∧
    (shards = (if u32 b 0x0C = 0 then List.range 32 else setBitsOf 32 (u32 b 0x0C))) ∧
    (online = shards.filter (fun k => !(x.shard k).offline)) ∧ ((∀ k ∈ online, s.m.unitWalks k < 64)) ∧
    (v = s.m.boreRead c srcH (u64 b 0x10) (vecBytes x.element x.dims)) ∧
    (sk = s.m.boreRead c srcH (u64 b 0x10 + roundUp (vecBytes x.element x.dims) 8) x.sketchBytes) ∧
    (vecBad x.metric x.element x.dims v = true)) ∧
  (let s : State := go (withIndex (idx1 ⟨true, false, [(0, 1)], [(0, zeros 8)], [0]⟩) []) 0x0810 (queries 1);
    let src : Src := .mbox 0; let c : RunCmd := cm s src; let b : Bytes := (cm s).payload; let v : Bytes := [0, 0, 0, 0];
    let sk : Bytes := zeros 8; let i : Nat := 0; let fl : Nat := 3; let k : Nat := 1; let beam : Nat := 8;
    let hops : Nat := 1024; let srcH : Bool := true; let dstH : Bool := true;
    let x : BoreIndex := idx1 ⟨true, false, [(0, 1)], [(0, zeros 8)], [0]⟩; let shards : List Nat := [0];
    let online : List Nat := [0]; (Fresh s src 0x0810 c) ∧ (b = c.payload) ∧ (allZero b 7 1 = true) ∧
    (allZero b 0x0A 2 = true) ∧ (allZero b 0x34 12 = true) ∧ (i = u8 b 0) ∧ (fl = u8 b 1) ∧ (k = u16 b 2) ∧
    (s.m.bore.indexes.get i = some x) ∧ (fl ≤ 7) ∧ (1 ≤ k) ∧ (k ≤ u16 b 4) ∧ (u16 b 4 ≤ 1024) ∧ (u8 b 6 ≤ 8) ∧
    (u16 b 8 ≤ 1024) ∧ (u64 b 0x10 % 8 = 0) ∧ (u64 b 0x18 % 16 = 0) ∧
    ((u32 b 0x30 = ligNone ∨ ∃ o, s.m.ligFind (u32 b 0x30) = some o ∧ o.2.kind = 3 ∧ o.2.partition = x.partition)) ∧
    (srcH = bit fl 0) ∧ (dstH = bit fl 1) ∧ ((dstH = true ∨ s.m.mute x.partition = false)) ∧ (((srcH = true ∧
    dstH = true) ∨ (s.m.host.linkUp = true ∧ s.m.host.d3hot = false))) ∧
    (s.m.boreMay c x.partition srcH (u64 b 0x10) (roundUp (vecBytes x.element x.dims) 8 + x.sketchBytes) false = true) ∧
    (s.m.boreMay c x.partition dstH (u64 b 0x18) (16 + 16 * k) true = true) ∧ (x.ready = true) ∧
    (beam = (if u8 b 6 = 0 then s.m.get Reg.BORE.QUERY_CTRL_BEAM else u8 b 6)) ∧
    (hops = (if u16 b 8 = 0 then s.m.get Reg.BORE.QUERY_CTRL_MAX_HOPS else u16 b 8)) ∧
    (shards = (if u32 b 0x0C = 0 then List.range 32 else setBitsOf 32 (u32 b 0x0C))) ∧
    (online = shards.filter (fun k => !(x.shard k).offline)) ∧ ((∀ k ∈ online, s.m.unitWalks k < 64)) ∧
    (v = s.m.boreRead c srcH (u64 b 0x10) (vecBytes x.element x.dims)) ∧
    (sk = s.m.boreRead c srcH (u64 b 0x10 + roundUp (vecBytes x.element x.dims) 8) x.sketchBytes) ∧
    (vecBad x.metric x.element x.dims v = false)) ∧
  (let s : State := go (withIndex idx0 []) 0x0820 [(1, 0), (1, 3), (2, 2), (1, 0xFF), (3, 0), (8, 0x8000), (8, 0x9000)];
    let src : Src := .mbox 0; let c : RunCmd := cm s src; let b : Bytes := (cm s).payload; let i : Nat := 0;
    let fl : Nat := 3; let n : Nat := 64; let srcH : Bool := true; let dstH : Bool := true; let x : BoreIndex := idx0;
    (Fresh s src 0x0820 c) ∧ (b = c.payload) ∧ (allZero b 5 3 = true) ∧ (i = u8 b 0) ∧ (fl = u8 b 1) ∧
    (s.m.bore.indexes.get i = some x) ∧ (fl ≤ 3) ∧ (1 ≤ u16 b 2) ∧ (u16 b 2 ≤ 4096) ∧ ((u8 b 4 ≤ 31 ∨ u8 b 4 = 0xFF)) ∧
    (srcH = bit fl 0) ∧ (dstH = bit fl 1) ∧ (((srcH = true ∧ dstH = true) ∨ (s.m.host.linkUp = true ∧
    s.m.host.d3hot = false))) ∧ (n = roundUp (16 + x.sketchBytes + vecBytes x.element x.dims) 64) ∧
    (s.m.boreMay c x.partition srcH (u64 b 8) (n * u16 b 2) false = true) ∧
    (s.m.boreMay c x.partition dstH (u64 b 0x10) (8 * u16 b 2) true = true) ∧ (x.ready = true) ∧
    (s.m.boreCopied i = false)) ∧
  (let s : State := go (let m := withIndex (idx1 ⟨true, false, [(0, 1)], [(0, zeros 8)], [0]⟩) [(1, brec 1)];
    { m with hostMem := [(0x5008, 77)] }) 0x0821 [(1, 0), (1, 0), (2, 2), (4, 0), (8, 0x5000)]; let src : Src := .mbox 0;
    let c : RunCmd := cm s src; let b : Bytes := (cm s).payload; let i : Nat := 0;
    let x : BoreIndex := idx1 ⟨true, false, [(0, 1)], [(0, zeros 8)], [0]⟩;
    (Fresh s src 0x0821 c) ∧ (b = c.payload) ∧ (allZero b 1 1 = true) ∧ (allZero b 4 4 = true) ∧ (i = u8 b 0) ∧
    (s.m.bore.indexes.get i = some x) ∧ (1 ≤ u16 b 2) ∧ (u16 b 2 ≤ 4096) ∧
    (s.m.cmdMay c x.partition (u64 b 8) (16 * u16 b 2) false = true) ∧ (x.ready = true) ∧ (s.m.boreCopied i = false) ∧
    (s.m.ftl.readOnly = false) ∧ (s.m.host.linkUp = true) ∧ (s.m.host.d3hot = false)) ∧
  (let m : Module := withIndex (idx1 ⟨true, false, [(0, 1)], [(0, zeros 8)], [0]⟩) [(1, brec 1)]; let i : Nat := 0;
    let node : Nat := 0; let label : Nat := 78; let x : BoreIndex := idx1 ⟨true, false, [(0, 1)], [(0, zeros 8)], [0]⟩;
    let rb : Bytes := (m.boreFetch 0 0 0).1.getD []; let m1 : Module := (m.boreFetch 0 0 0).2;
    (m.bore.indexes.get i = some x) ∧ ((x.shard (node % 32)).offline = false) ∧
    ((x.shard (node % 32)).states.get (node / 32) = some 1) ∧ (m.boreFetch i (node % 32) (node / 32) = (some rb, m1)) ∧
    (u64 rb 8 ≠ label)) ∧
  (let m : Module := withIndex (idx1 ⟨true, false, [(0, 1)], [(0, zeros 8)], [0]⟩) [(1, brec 1)]; let i : Nat := 0;
    let node : Nat := 0; let label : Nat := 77; let x : BoreIndex := idx1 ⟨true, false, [(0, 1)], [(0, zeros 8)], [0]⟩;
    let rb : Bytes := (m.boreFetch 0 0 0).1.getD []; let m1 : Module := (m.boreFetch 0 0 0).2;
    let m2 : Module := ((m.boreFetch 0 0 0).2.boreStore 0 0 0 (x.edit rb 2 (recNeighbours rb)) false).1;
    (m.bore.indexes.get i = some x) ∧ ((x.shard (node % 32)).offline = false) ∧
    ((x.shard (node % 32)).states.get (node / 32) = some 1) ∧ (m.boreFetch i (node % 32) (node / 32) = (some rb, m1)) ∧
    (u64 rb 8 = label) ∧ (m1.boreStore i (node % 32) (node / 32) (x.edit rb 2 (recNeighbours rb)) false = (m2, true))) ∧
  (let s : State := go (withIndex (idx1 ⟨true, true, [], [], []⟩) []) 0x0830 [(1, 0), (3, 0), (4, 1)];
    let src : Src := .mbox 0; let c : RunCmd := cm s src; let i : Nat := 0;
    let x : BoreIndex := idx1 ⟨true, true, [], [], []⟩; let shards : List Nat := [];
    (Fresh s src 0x0830 c) ∧ (allZero c.payload 1 3 = true) ∧ (i = u8 c.payload 0) ∧ (s.m.bore.indexes.get i = some x) ∧
    (x.ready = true) ∧ (s.m.boreCopied i = false) ∧ (s.m.ftl.readOnly = false) ∧
    (shards = (if u32 c.payload 4 = 0 then List.range 32 else setBitsOf 32 (u32 c.payload 4)).filter (fun k => !(x.shard k).offline)) ∧
    (shards = [])) ∧
  (let s : State := go (withIndex (idx1 ⟨true, true, [], [], []⟩) []) 0x0830 [(1, 0), (3, 0), (4, 3)];
    let src : Src := .mbox 0; let c : RunCmd := cm s src; let i : Nat := 0;
    let x : BoreIndex := idx1 ⟨true, true, [], [], []⟩; let shards : List Nat := [1];
    (Fresh s src 0x0830 c) ∧ (allZero c.payload 1 3 = true) ∧ (i = u8 c.payload 0) ∧ (s.m.bore.indexes.get i = some x) ∧
    (x.ready = true) ∧ (s.m.boreCopied i = false) ∧ (s.m.ftl.readOnly = false) ∧
    (shards = (if u32 c.payload 4 = 0 then List.range 32 else setBitsOf 32 (u32 c.payload 4)).filter (fun k => !(x.shard k).offline)) ∧
    (shards ≠ [])) ∧
  (let s : State := atRest (walking (withIndex (idx1 ⟨true, false, [(0, 1)], [(0, zeros 8)], [0]⟩) [(1, brec 1)]));
    let id : Nat := 4; let node : Nat := 0; let w : BoreWalk := walk0;
    (s.m.live = true) ∧ (s.m.bore.walks.get id = some w) ∧ (w.reads.contains node = true)) ∧
  (let m : Module := walking (withIndex (idx1 ⟨true, false, [(0, 1)], [(0, zeros 8)], [0]⟩) [(1, brec 1)]);
    let id : Nat := 4; let node : Nat := 0; let w : BoreWalk := walk0;
    let x : BoreIndex := idx1 ⟨true, false, [(0, 1)], [(0, zeros 8)], [0]⟩; let rb : Bytes := (m.boreRecord 0 0 0).getD [];
    (m.bore.walks.get id = some w) ∧ (m.bore.indexes.get w.index = some x) ∧
    (m.boreRecordAt (w.places.get node) w.index w.shard (node / 32) = some rb) ∧ (x.recOk rb = true)) ∧
  (let s : State := atRest ((withIndex (idx1 ⟨true, false, [(0, 1), (1, 2)], [(0, zeros 8)],
    [0]⟩) []).set Reg.BORE.REPAIR_CTRL_AUTO 1); let i : Nat := 0; let k : Nat := 0;
    let x : BoreIndex := idx1 ⟨true, false, [(0, 1), (1, 2)], [(0, zeros 8)], [0]⟩;
    (i < 16) ∧ (k < 32) ∧ (s.m.live = true) ∧ (s.m.bore.indexes.get i = some x) ∧ (x.ready = true) ∧
    ((x.shard k).offline = false) ∧ (s.m.flag Reg.BORE.REPAIR_CTRL_AUTO = true) ∧ (s.m.ftl.readOnly = false) ∧
    (s.m.boreCopied i = false) ∧ ((∀ p ∈ s.m.bore.passes.vals, ¬(p.index = i ∧ p.shard = k))) ∧
    (let n (v : Nat) : Nat := ((x.shard k).states.vals.filter (· == v)).length;
    (0 < n 2) ∧ (s.m.get Reg.BORE.REPAIR_CTRL_TOMB_PCT * n 1 ≤ 100 * n 2))) ∧
  (let s : State := atRest (withIndex (idx1 ⟨false, false, [], [], []⟩) []); let i : Nat := 0; let k : Nat := 0;
    let x : BoreIndex := idx1 ⟨false, false, [], [], []⟩; (i < 16) ∧ (k < 32) ∧ (s.m.live = true) ∧
    (s.m.bore.indexes.get i = some x) ∧ ((x.shard k).opened = false) ∧
    ((∀ h, s.m.boreSector (shardExt i k) 0 = some h → headerOk h i k = false))) ∧
  (let s : State := atRest (let m := withIndex (idx1 ⟨false, false, [], [], []⟩) [(0, idx0.header 0 0 [0]), (1, brec 3)];
    { m with ftl := { m.ftl with sectors := [(1, [(1, (0, 32))])] } }); let i : Nat := 0; let k : Nat := 0;
    let x : BoreIndex := idx1 ⟨false, false, [], [], []⟩; (i < 16) ∧ (k < 32) ∧ (s.m.live = true) ∧
    (s.m.bore.indexes.get i = some x) ∧ ((x.shard k).opened = false) ∧ (let h := idx0.header 0 0 [0];
    (s.m.boreSector (shardExt i k) 0 = some h) ∧ (headerOk h i k = true))) ∧
  True := by
  refine ⟨?_, ?_, ?_, ?_, ?_, ?_, ?_, ?_, ⟨?_, ⟨by decide +kernel, by decide +kernel, by decide +kernel,
    pair_of (by decide +kernel), by decide +kernel⟩, ⟨by decide +kernel, by decide +kernel, by decide +kernel,
    pair_of (by decide +kernel), by decide +kernel, pair_of_snd (by decide +kernel)⟩, ?_, ?_, ?_, ⟨by decide +kernel,
    by decide +kernel, eq_some_getD (by decide +kernel), by decide +kernel⟩, ?_, ⟨⟨by decide +kernel, by decide +kernel,
    by decide +kernel, by decide +kernel, by decide +kernel, none_all (by decide +kernel)⟩, ⟨by decide +kernel,
    by decide +kernel, by decide +kernel, by decide +kernel, by decide +kernel, rfl,
    BoreIndex.headerOk_header idx0 0 0 [0] (by decide) (by decide) (by decide)⟩, ?_⟩⟩⟩ <;> decide +kernel

end Sys2Proof.Tests
end

