-- ==== Sys2Proof/Tests/WitnessCaps.lean ====
section
/-!
SUPPORT. For each statement about capsules: states and operands that meet the hypotheses of each of its clauses.
-/

namespace Sys2Proof.Tests

-- The evaluations below wait for one another, so that they run one at a time and hold one stack.
set_option Elab.async false

open Sys2Proof Sys2Proof.Machine

theorem ne_of_succ {n k : Nat} (h : k = n + 1) : n ≠ k := by omega


/-- The hypotheses of CapsuleCreationWritesTheHeader are met. -/
theorem witness_CapsuleCreationWritesTheHeader :
  (let s : State := go (world 1) 0x0200 [(1, 0), (1, 1), (1, 127), (1, 1), (2, 480), (2, 1), (2, 0), (2, 0), (4,
    0xFFFFFFFF)]; let b : Nat := 0; let slot : Nat := 2; let c : RunCmd := cm s;
    (Fresh s (.mbox b) 0x0200 c) ∧ (allZero c.payload 0x0A 2 = true) ∧ (s.m.present (u8 c.payload 0) = true) ∧
    ((u8 c.payload 1 = 1 ∨ u8 c.payload 1 = 2)) ∧ (1 ≤ u8 c.payload 2) ∧ (u8 c.payload 2 ≤ 127) ∧ (u8 c.payload 3 ≤ 1) ∧
    (16 ≤ u16 c.payload 4) ∧ (u16 c.payload 4 ≤ 480) ∧ (u16 c.payload 4 % 16 = 0) ∧
    ((s.m.tokImage (u16 c.payload 8)).isSome = true) ∧ ((u32 c.payload 0x0C = 0xFFFFFFFF ∨ ∃ g,
    s.m.gramImage (u32 c.payload 0x0C) = some g ∧ g.tokenizer = u16 c.payload 8)) ∧ (s.m.fenced = false) ∧
    ((s.m.account (u16 c.payload 6)).open_ = true) ∧ ((s.m.account (u16 c.payload 6)).partition = u8 c.payload 0) ∧
    (s.m.freeSlotOf s.m.mirror.linkId = some slot)) := by decide +kernel

/-- The hypotheses of TheLowestFreeSlotIsTaken are met. -/
theorem witness_TheLowestFreeSlotIsTaken :
  (let m : Module := world 1; let half : Nat := 0; let slot : Nat := 2;
    (half < 2) ∧ (m.caps.slots.wf = true) ∧ (m.freeSlotOf half = some slot) ∧ (let o := 0;
    (o < slot) ∧ (o % 2 = half))) := by decide +kernel

/-- The hypotheses of DeletionAdvancesTheGeneration are met. -/
theorem witness_DeletionAdvancesTheGeneration :
  (let s : State := go (world 4) 0x0201 [(8, 0)]; let src : Src := .mbox 0; let c : RunCmd := cm s;
    let k : Capsule := cap0 4; (Fresh s src 0x0201 c) ∧ (allZero c.payload 4 4 = true) ∧
    (let m0 := s.m.loadHeader (u32 c.payload 0); (NamesCapsule m0 (u32 c.payload 0)) ∧
    (k = m0.slot (u32 c.payload 0 / 256)) ∧ (MayWrite m0 c k) ∧ ((k.state = 1 ∨ k.state = 4)) ∧
    (m0.requestOf (u32 c.payload 0) = none))) ∧
  (let s : State := go (world 2) 0x0201 [(8, 0)]; let src : Src := .mbox 0; let c : RunCmd := cm s;
    let k : Capsule := cap0 2; (Fresh s src 0x0201 c) ∧ (allZero c.payload 4 4 = true) ∧
    (let m0 := s.m.loadHeader (u32 c.payload 0); (NamesCapsule m0 (u32 c.payload 0)) ∧
    (k = m0.slot (u32 c.payload 0 / 256)) ∧ (m0.fenced = false) ∧ (m0.mayOwn k = true) ∧ ((k.state = 2 ∨ k.state = 3)))) ∧
  (let m : Module := let w := world 1; { w with caps := { w.caps with slots := [(0, { cap0 5 with gen := 254 })] } };
    let slot : Nat := 0; (let g := (m.slot slot).gen; (g + 1 = 255))) ∧
  (let m : Module := world 5; let slot : Nat := 0; (let g := (m.slot slot).gen; ((g + 1 ≠ 255) ∧
  (let o := 1; (o ≠ slot)) ∧
  (g < 255)))) := by
  refine ⟨?_, ?_, ?_, ?_⟩ <;> decide +kernel

/-- The hypotheses of CapsuleReadsReturnThisModulesCopy are met. -/
theorem witness_CapsuleReadsReturnThisModulesCopy :
  (let s : State := let w := world 1; go { w with caps := { w.caps with badLists := [0] } } 0x0203 [(8, 0), (8,
    127 * 2 ^ 29 + 2 ^ 17), (8, 4)]; let src : Src := .mbox 0; let c : RunCmd := cm s src; let k : Capsule := cap0 1;
    (Fresh s src 0x0203 c) ∧ (allZero c.payload 4 4 = true) ∧ (allZero c.payload 0x14 4 = true) ∧
    (NamesCapsule s.m (u32 c.payload 0)) ∧ (k = s.m.slot (u32 c.payload 0 / 256)) ∧ (k.headerBad = false) ∧
    (s.m.mute k.partition = false) ∧ (let off := u64 c.payload 8; (let n := u32 c.payload 0x10;
    ((k.range off 1).isSome = true) ∧ (1 ≤ n) ∧ (n ≤ 3584) ∧ (let o := 0;
    (k.range off n = some (.map o)) ∧ (s.m.mapBad k = true))))) ∧
  (let s : State := go (world 1) 0x0202 [(8, 0)]; let src : Src := .mbox 0; let c : RunCmd := cm s;
    let k : Capsule := cap0 1; (Fresh s src 0x0202 c) ∧ (allZero c.payload 4 4 = true) ∧
    (NamesCapsule s.m (u32 c.payload 0)) ∧ (k = s.m.slot (u32 c.payload 0 / 256)) ∧ (k.headerBad = false) ∧
    (s.m.mute k.partition = false)) ∧
  (let s : State := go (world 1) 0x0203 [(8, 0), (8, 2 ^ 36), (8, 4)]; let src : Src := .mbox 0; let c : RunCmd := cm s;
    let k : Capsule := cap0 1; (Fresh s src 0x0203 c) ∧ (allZero c.payload 4 4 = true) ∧ (allZero c.payload 0x14 4 = true) ∧
    (NamesCapsule s.m (u32 c.payload 0)) ∧ (k = s.m.slot (u32 c.payload 0 / 256)) ∧ (k.headerBad = false) ∧
    (s.m.mute k.partition = false) ∧ (let off := u64 c.payload 8; (k.range off 1 = none))) ∧
  (let s : State := go (world 1) 0x0203 [(8, 0), (8, 127 * 2 ^ 29), (8, 256)]; let src : Src := .mbox 0;
    let c : RunCmd := cm s; let k : Capsule := cap0 1; (Fresh s src 0x0203 c) ∧ (allZero c.payload 4 4 = true) ∧
    (allZero c.payload 0x14 4 = true) ∧ (NamesCapsule s.m (u32 c.payload 0)) ∧ (k = s.m.slot (u32 c.payload 0 / 256)) ∧
    (k.headerBad = false) ∧ (s.m.mute k.partition = false) ∧ (let off := u64 c.payload 8; (let n := u32 c.payload 0x10;
    ((k.range off 1).isSome = true) ∧ (1 ≤ n) ∧ (n ≤ 3584) ∧ (let o := 0; (k.range off n = some (.header o)))))) ∧
  (let s : State := go (world 1) 0x0203 [(8, 0), (8, 127 * 2 ^ 29 + 2 ^ 17), (8, 4)]; let src : Src := .mbox 0;
    let c : RunCmd := cm s; let k : Capsule := cap0 1; (Fresh s src 0x0203 c) ∧ (allZero c.payload 4 4 = true) ∧
    (allZero c.payload 0x14 4 = true) ∧ (NamesCapsule s.m (u32 c.payload 0)) ∧ (k = s.m.slot (u32 c.payload 0 / 256)) ∧
    (k.headerBad = false) ∧ (s.m.mute k.partition = false) ∧ (let off := u64 c.payload 8; (let n := u32 c.payload 0x10;
    ((k.range off 1).isSome = true) ∧ (1 ≤ n) ∧ (n ≤ 3584) ∧ (let o := 0;
    (k.range off n = some (.map o)) ∧ (s.m.mapBad k = false))))) ∧
  (let s : State := go (world 1) 0x0203 [(8, 0), (8, 64), (8, 3584)]; let src : Src := .mbox 0; let c : RunCmd := cm s;
    let k : Capsule := cap0 1; (Fresh s src 0x0203 c) ∧ (allZero c.payload 4 4 = true) ∧ (allZero c.payload 0x14 4 = true) ∧
    (NamesCapsule s.m (u32 c.payload 0)) ∧ (k = s.m.slot (u32 c.payload 0 / 256)) ∧ (k.headerBad = false) ∧
    (s.m.mute k.partition = false) ∧ (let off := u64 c.payload 8; (let n := u32 c.payload 0x10;
    ((k.range off 1).isSome = true) ∧ (1 ≤ n) ∧ (n ≤ 3584) ∧ (let l := 0; let p := 0; let o := 64; let f := frame0;
    (k.range off n = some (.frame l p o)) ∧ (s.m.frame (k.handle l p) = some f) ∧ (tierOf (k.handle l p) ≠ 2) ∧
    (f.badIn o n = none))))) := by
  refine ⟨?_, ?_, ?_, ?_, ?_, ?_⟩ <;> decide +kernel

/-- The hypotheses of ParkAndTruncateAct are met. -/
theorem witness_ParkAndTruncateAct :
  (let s : State := go (steps1 (step1 false false none)) 0x0211 [(4, 0), (4, 1)]; let src : Src := .mbox 0;
    let c : RunCmd := cm s src; let k : Capsule := cap0 2; (Fresh s src 0x0211 c) ∧
    (let m0 := (s.m.loadHeader (u32 c.payload 0)).loadMap (u32 c.payload 0);
    (NamesCapsule m0 (u32 c.payload 0)) ∧ (k = m0.slot (u32 c.payload 0 / 256)) ∧ (u32 c.payload 4 ≤ k.tokens) ∧
    (MayWrite m0 c k) ∧ ((k.state = 1 ∨ k.state = 2 ∨ k.state = 4)) ∧
    ((unheld c m0).truncateWaits (u32 c.payload 0) (u32 c.payload 4) = true))) ∧
  (let s : State := go (world 1) 0x0210 [(4, 0), (4, 1)]; let src : Src := .mbox 0; let c : RunCmd := cm s;
    let k : Capsule := cap0 1; (Fresh s src 0x0210 c) ∧ (allZero c.payload 5 3 = true) ∧
    (let m0 := (s.m.loadHeader (u32 c.payload 0)).loadMap (u32 c.payload 0);
    (NamesCapsule m0 (u32 c.payload 0)) ∧ (k = m0.slot (u32 c.payload 0 / 256)) ∧ (1 ≤ u8 c.payload 4) ∧
    (u8 c.payload 4 ≤ 3) ∧ (MayWrite m0 c k) ∧ ((k.state = 1 ∨ k.state = 4)) ∧ (k.damaged = false) ∧
    ((u8 c.payload 4 = 3 → m0.ftl.readOnly = false)) ∧ (m0.requestOf (u32 c.payload 0) = none))) ∧
  (let s : State := go (world 3) 0x0210 [(4, 0), (4, 3)]; let src : Src := .mbox 0; let c : RunCmd := cm s;
    let k : Capsule := cap0 3; (Fresh s src 0x0210 c) ∧ (allZero c.payload 5 3 = true) ∧
    (let m0 := (s.m.loadHeader (u32 c.payload 0)).loadMap (u32 c.payload 0);
    (NamesCapsule m0 (u32 c.payload 0)) ∧ (k = m0.slot (u32 c.payload 0 / 256)) ∧ (1 ≤ u8 c.payload 4) ∧
    (u8 c.payload 4 ≤ 3) ∧ (m0.fenced = false) ∧ (m0.mayOwn k = true) ∧ (k.state = 3))) ∧
  (let s : State := go (world 2) 0x0211 [(4, 0), (4, 2)]; let src : Src := .mbox 0; let c : RunCmd := cm s;
    let k : Capsule := cap0 2; (Fresh s src 0x0211 c) ∧
    (let m0 := (s.m.loadHeader (u32 c.payload 0)).loadMap (u32 c.payload 0);
    (NamesCapsule m0 (u32 c.payload 0)) ∧ (k = m0.slot (u32 c.payload 0 / 256)) ∧ (u32 c.payload 4 ≤ k.tokens) ∧
    (MayWrite m0 c k) ∧ ((k.state = 1 ∨ k.state = 2 ∨ k.state = 4)) ∧
    ((unheld c m0).truncateWaits (u32 c.payload 0) (u32 c.payload 4) = false))) ∧
  (let s : State := go (world 1) 0x0211 [(4, 0), (4, 3)]; let src : Src := .mbox 0; let c : RunCmd := cm s;
    let k : Capsule := cap0 1; (Fresh s src 0x0211 c) ∧
    (let m0 := (s.m.loadHeader (u32 c.payload 0)).loadMap (u32 c.payload 0);
    (NamesCapsule m0 (u32 c.payload 0)) ∧ (k = m0.slot (u32 c.payload 0 / 256)) ∧ (k.tokens < u32 c.payload 4))) ∧
  (let s : State := go (world 3) 0x0211 [(4, 0), (4, 0)]; let src : Src := .mbox 0; let c : RunCmd := cm s;
    let k : Capsule := cap0 3; (Fresh s src 0x0211 c) ∧
    (let m0 := (s.m.loadHeader (u32 c.payload 0)).loadMap (u32 c.payload 0);
    (NamesCapsule m0 (u32 c.payload 0)) ∧ (k = m0.slot (u32 c.payload 0 / 256)) ∧ (u32 c.payload 4 ≤ k.tokens) ∧
    (m0.fenced = false) ∧ (m0.mayOwn k = true) ∧ (k.state = 3))) := by
  refine ⟨?_, ?_, ?_, ?_, ?_, ?_⟩ <;> decide +kernel

/-- The hypotheses of RepairFetchesFromThePartner are met. -/
theorem witness_RepairFetchesFromThePartner :
  (let s : State := let w := world 1;
    go { w with caps := { w.caps with repairs := [⟨0, 9, [(0, 31)], false⟩] } } 0x0220 [(8, 0)]; let src : Src := .mbox 0;
    let c : RunCmd := cm s src; let k : Capsule := cap0 1; (Fresh s src 0x0220 c) ∧ (allZero c.payload 4 4 = true) ∧
    (NamesCapsule s.m (u32 c.payload 0)) ∧ (k = s.m.slot (u32 c.payload 0 / 256)) ∧ (MayWrite s.m c k) ∧
    (let id := u32 c.payload 0; (let m0 := ((unheld c s.m).loadHeader id).loadMap id;
    ((m0.caps.repairs.any (fun (r : Repair) => r.capsule == id)) = true)))) ∧
  (let s : State := let w := world 1;
    atRest { w with caps := { w.caps with frames := [(0, { frame0 with bad := [31] })], repairs := [⟨0, 9, [(0, 31)], false⟩] } };
    let id : Nat := 0; let entry : Nat := 0; let block : Nat := 31; let check : Nat := crc32c (zeros 4096) + 1;
    let b : Bytes := zeros 4096; let ok : Bool := true; let r : Repair := ⟨0, 9, [(0, 31)], false⟩;
    (s.m.live = true) ∧ (s.m.caps.repairs.find? (fun (q : Repair) => q.capsule == id && q.left.contains (entry,
    block)) = some r) ∧ (ok = true) ∧ (entry < 0xFFFFFFFE) ∧ (block % 4 ≠ 0) ∧ (b.length = 4096) ∧ (crc32c b ≠ check)) ∧
  (let s : State := let w := world 1; go { w with mirror := { w.mirror with state := 2, lanes := 16 } } 0x0220 [(8, 0)];
    let src : Src := .mbox 0; let c : RunCmd := cm s; let k : Capsule := cap0 1;
    (Fresh s src 0x0220 c) ∧ (allZero c.payload 4 4 = true) ∧ (NamesCapsule s.m (u32 c.payload 0)) ∧
    (k = s.m.slot (u32 c.payload 0 / 256)) ∧ (MayWrite s.m c k) ∧ (let id := u32 c.payload 0;
    (let m0 := ((unheld c s.m).loadHeader id).loadMap id; (let left := m0.damagedBlocks id;
    ((m0.caps.repairs.any (fun (r : Repair) => r.capsule == id)) = false) ∧ ((m0.linkOpen = true ∨ left = [])))))) ∧
  (let s : State := let w := world 1;
    go { w with mirror := { w.mirror with lanes := 0 }, caps := { w.caps with frames := [(0, { frame0 with bad := [31] })] } } 0x0220 [(8,
    0)]; let src : Src := .mbox 0; let c : RunCmd := cm s; let k : Capsule := cap0 1;
    (Fresh s src 0x0220 c) ∧ (allZero c.payload 4 4 = true) ∧ (NamesCapsule s.m (u32 c.payload 0)) ∧
    (k = s.m.slot (u32 c.payload 0 / 256)) ∧ (MayWrite s.m c k) ∧ (let id := u32 c.payload 0;
    (let m0 := ((unheld c s.m).loadHeader id).loadMap id; (let left := m0.damagedBlocks id;
    ((m0.caps.repairs.any (fun (r : Repair) => r.capsule == id)) = false) ∧ (m0.linkOpen = false) ∧ (left ≠ []))))) ∧
  (let s : State := let w := world 1; atRest { w with caps := { w.caps with repairs := [⟨0, 9, [(0, 31)], false⟩] } };
    let id : Nat := 0; let entry : Nat := 0; let block : Nat := 31; let ok : Bool := false;
    let r : Repair := ⟨0, 9, [(0, 31)], false⟩; (s.m.live = true) ∧
    (s.m.caps.repairs.find? (fun (q : Repair) => q.capsule == id && q.left.contains (entry, block)) = some r) ∧
    (ok = false)) ∧
  (let s : State := let w := world 1;
    atRest { w with caps := { w.caps with frames := [(0, { frame0 with bad := [31] })], repairs := [⟨0, 9, [(0, 31)], false⟩] } };
    let id : Nat := 0; let entry : Nat := 0; let block : Nat := 31; let check : Nat := crc32c (zeros 4096);
    let b : Bytes := zeros 4096; let ok : Bool := true; let r : Repair := ⟨0, 9, [(0, 31)], false⟩;
    (s.m.live = true) ∧ (s.m.caps.repairs.find? (fun (q : Repair) => q.capsule == id && q.left.contains (entry,
    block)) = some r) ∧ (ok = true) ∧ (entry < 0xFFFFFFFE) ∧ (block % 4 ≠ 0) ∧ (b.length = 4096) ∧ (crc32c b = check)) ∧
  (let s : State := atRest (world 1); let id : Nat := 1; (s.m.live = true) ∧ (s.m.capsule id = none)) ∧
  (let s : State := atRest (world 1); let id : Nat := 0; let entry : Nat := 0; let block : Nat := 31;
    (s.m.live = true) ∧ (let k := cap0 1; let f := frame0; (s.m.capsule id = some k) ∧ (entry < 0xFFFFFFFE) ∧
    (s.m.frame (nthD k.map entry 0xFFFFFFFF) = some f) ∧ (f.bad.contains block = false))) := by
  refine ⟨?_, ⟨by decide +kernel, by decide +kernel, rfl, by decide, by decide, List.length_replicate, ne_of_succ rfl⟩, ?_,
    ?_, ?_, ⟨by decide +kernel, by decide +kernel, rfl, by decide, by decide, List.length_replicate, rfl⟩, ?_,
    ?_⟩ <;> decide +kernel

/-- The hypotheses of SweepsReturnRetiredSlots are met. -/
theorem witness_SweepsReturnRetiredSlots :
  (let s : State := go (world 6) 0x0230 []; let src : Src := .mbox 0; let c : RunCmd := cm s;
    (Fresh s src 0x0230 c) ∧ (s.m.caps.sweep = none)) ∧
  (let s : State := let w := world 6; go { w with caps := { w.caps with sweep := some ⟨0, [0], 0⟩ } } 0x0230 [];
    let src : Src := .mbox 0; let c : RunCmd := cm s; (Fresh s src 0x0230 c) ∧ (s.m.caps.sweep.isSome = true)) ∧
  (let s : State := atRest (world 6); (s.m.live = true) ∧ (s.m.get Reg.CAPS.SWEEP_CTRL_INTERVAL ≠ 0)) ∧
  (let s : State := atRest (world 6); let batch : List Nat := [0, 1]; (s.m.live = true) ∧ (batch.length ≤ 4096)) ∧
  (let s : State := let w := world 6; atRest { w with caps := { w.caps with sweep := some ⟨0, [0], 0⟩ } };
    let w : Sweep := ⟨0, [0], 0⟩; (s.m.live = true) ∧ (s.m.caps.sweep = some w)) ∧
  ((let m : Module := let w := world 6;
    { w with caps := { w.caps with slots := [(2, { Capsule.blank with state := 6, gen := 255, retiredAt := 5 })] } };
    let n : Nat := 2; (m.slotReady n = true)) ∧
  (let m : Module := let w := world 6;
    { w with caps := { w.caps with slots := [(2, { Capsule.blank with state := 6, gen := 255, retiredAt := 5 })] } };
    (m.caps.slots.wf = true))) := by
  refine ⟨?_, ?_, ?_, ?_, ?_, ?_⟩ <;> decide +kernel

end Sys2Proof.Tests
end

