-- ==== Sys2Proof/Tests/WitnessCkpt.lean ====
section
/-!
SUPPORT. For each statement about checkpoints: states and operands that meet the hypotheses of each of its clauses.
-/

namespace Sys2Proof.Tests

-- The evaluations below wait for one another, so that they run one at a time and hold one stack.
set_option Elab.async false

open Sys2Proof Sys2Proof.Machine

/-- A checkpoint that runs: of both partitions to destination 1, at a stage. -/
def ckRun (stage : Nat) : CkRun := ⟨none, 1, 0, 3, 0, 0, stage, 5, 6, [], [zeros 100], 4096, [], 0, 0, [], 0, 0,
  1999000000000⟩

/-- A destination of a kind: one host extent of 4 MiB, or endpoint 9, or sector extent 513 on each channel. -/
def ckTarget (kind : Nat) : CkTarget := ⟨kind, 9, 0x1000, 2 ^ 22, 0, [(2 ^ 21, 2 ^ 22)], none⟩

/-- The module of two partitions whose destination 1 is of a kind, with a checkpoint that runs or none. -/
def withCkpt (kind : Nat) (r : Option CkRun) (m : Module := world 1) : Module :=
  let m := small m
  { m with ckpt := { m.ckpt with run := r, targets := [(1, ckTarget kind)] } }

/-- A module in a pair state. -/
def paired (st : Nat) (m : Module) : Module := { m with mirror := { m.mirror with state := st } }

/-- A map with a storage target's endpoint, or with another kind. -/
def mapKind (kind : Nat) (m : Module) : Module := { m with bell := { m.bell with map := [(9, ⟨9, kind, 0xFF, 7, 1, 0⟩)] } }

/-- A manifest's first bytes: version 1, pair scope, kind 0, one shard. -/
def man0 : Bytes := leBytes 4 1 ++ [0, 0] ++ zeros 0x36 ++ leBytes 4 1 ++ zeros 4 ++ [3] ++ zeros 300

/-- Failure warnings of source 5 enabled above a count of 3. -/
def warned (m : Module) : Module :=
  ((m.set (Reg.CKPT.WARN_SRC_ENABLE.at 8 5) 1).set (Reg.CKPT.WARN_SRC_THRESHOLD.at 8 5) 3)


/-- The hypotheses of CheckpointsAreTakenAndRestored are met. -/
theorem witness_CheckpointsAreTakenAndRestored :
  (let s : State := go (withCkpt 1 (some (ckRun 1))) 0x0B00 [(1, 1), (3, 0), (4, 0), (8, 0), (8, 4096), (8, 0)];
    let src : Src := .mbox 0; let c : RunCmd := cm s src; let b : Bytes := (cm s).payload;
    (Fresh s src 0x0B00 c) ∧ (b = c.payload) ∧ (allZero b 2 2 = true) ∧ (allZero b 0x1C 4 = true) ∧ (u8 b 0 < 8) ∧
    (u64 b 0x10 ≠ 0) ∧ (u8 b 1 = 0) ∧ (u32 b 4 = 0) ∧ (u64 b 8 = 0) ∧ (u32 b 0x18 = 0) ∧ (let r := ckRun 1;
    (s.m.ckpt.run = some r) ∧ (r.target = u8 b 0))) ∧
  (let s : State := go (let m := withCkpt 1 none; { m with ftl := { m.ftl with readOnly := true } }) 0x0B00 [(1, 1), (3, 0),
    (4, 0), (8, 0), (8, 4096), (8, 0)]; let src : Src := .mbox 0; let c : RunCmd := cm s src;
    let b : Bytes := (cm s).payload; (Fresh s src 0x0B00 c) ∧ (b = c.payload) ∧ (allZero b 2 2 = true) ∧
    (allZero b 0x1C 4 = true) ∧ (u8 b 0 < 8) ∧ (u64 b 0x10 ≠ 0) ∧ (u8 b 1 = 0) ∧ (u32 b 4 = 0) ∧ (u64 b 8 = 0) ∧
    (u32 b 0x18 = 0) ∧ ((∀ r, s.m.ckpt.run = some r → r.target ≠ u8 b 0)) ∧ (s.m.localExtents (u64 b 0x10) = none)) ∧
  (let s : State := go (withCkpt 0 none) 0x0B00 [(1, 7), (3, 0), (4, 0), (8, 0), (8, 2 ^ 30), (8, 0)];
    let src : Src := .mbox 0; let c : RunCmd := cm s src; let b : Bytes := (cm s).payload;
    (Fresh s src 0x0B00 c) ∧ (b = c.payload) ∧ (allZero b 2 2 = true) ∧ (allZero b 0x1C 4 = true) ∧ (u8 b 0 < 8) ∧
    (u64 b 0x10 ≠ 0) ∧ (u8 b 1 = 0) ∧ (u32 b 4 = 0) ∧ (u64 b 8 = 0) ∧ (u32 b 0x18 = 0) ∧
    ((∀ r, s.m.ckpt.run = some r → r.target ≠ u8 b 0)) ∧ (let es := (((s.m.localExtents (2 ^ 30)).getD ([], s.m)).1);
    let m1 := (((s.m.localExtents (2 ^ 30)).getD ([], s.m)).2); (s.m.localExtents (u64 b 0x10) = some (es, m1)))) ∧
  (let s : State := go (let m := withCkpt 1 none;
    { m with hostMem := m.hostMem.wrN 0x1000 (pay [(8, 2 ^ 21), (8, 2 ^ 22)]) }) 0x0B00 [(1, 2), (1, 1), (2, 0), (4, 0), (8,
    0x1000), (8, 2 ^ 22), (8, 0)]; let src : Src := .mbox 0; let c : RunCmd := cm s src; let b : Bytes := (cm s).payload;
    (Fresh s src 0x0B00 c) ∧ (b = c.payload) ∧ (allZero b 2 2 = true) ∧ (allZero b 0x1C 4 = true) ∧ (u8 b 0 < 8) ∧
    (u64 b 0x10 ≠ 0) ∧ ((∀ r, s.m.ckpt.run = some r → r.target ≠ u8 b 0)) ∧ (u8 b 1 = 1) ∧ (u32 b 4 = 0) ∧
    (u32 b 0x18 = 0) ∧ (s.m.host.linkUp = true) ∧ (s.m.host.d3hot = false) ∧ (let es := [(2 ^ 21, 2 ^ 22)];
    (es = extentList (s.m.cmdRead c (u64 b 8) 256)) ∧ (extentsOk es = true) ∧
    (u64 b 0x10 ≤ es.foldl (fun a e => a + e.2) 0))) ∧
  (let s : State := go (mapKind 5 (withCkpt 1 none)) 0x0B00 [(1, 2), (1, 2), (2, 0), (4, 9), (8, 0x1000), (8, 2 ^ 22), (4,
    88), (4, 0)]; let src : Src := .mbox 0; let c : RunCmd := cm s src; let b : Bytes := (cm s).payload;
    (Fresh s src 0x0B00 c) ∧ (b = c.payload) ∧ (allZero b 2 2 = true) ∧ (allZero b 0x1C 4 = true) ∧ (u8 b 0 < 8) ∧
    (u64 b 0x10 ≠ 0) ∧ ((∀ r, s.m.ckpt.run = some r → r.target ≠ u8 b 0)) ∧ (u8 b 1 = 2) ∧
    ((∀ e, s.m.endpoint (u32 b 4) = some e → e.kind ≠ 6))) ∧
  (let s : State := go (mapKind 6 (withCkpt 1 none)) 0x0B00 [(1, 2), (1, 2), (2, 0), (4, 9), (8, 0x1000), (8, 2 ^ 22), (4,
    88), (4, 0)]; let src : Src := .mbox 0; let c : RunCmd := cm s src; let b : Bytes := (cm s).payload;
    (Fresh s src 0x0B00 c) ∧ (b = c.payload) ∧ (allZero b 2 2 = true) ∧ (allZero b 0x1C 4 = true) ∧ (u8 b 0 < 8) ∧
    (u64 b 0x10 ≠ 0) ∧ ((∀ r, s.m.ckpt.run = some r → r.target ≠ u8 b 0)) ∧ (u8 b 1 = 2) ∧ (let e := ⟨9, 6, 0xFF, 7, 1, 0⟩;
    (s.m.endpoint (u32 b 4) = some e) ∧ (e.kind = 6))) ∧
  (let s : State := go (withCkpt 1 (some (ckRun 1))) 0x0B10 [(1, 1), (1, 1), (1, 3), (1, 0), (4, 0)];
    let src : Src := .mbox 0; let c : RunCmd := cm s src; let b : Bytes := (cm s).payload; let t : CkTarget := ckTarget 1;
    (Fresh s src 0x0B10 c) ∧ (b = c.payload) ∧ (allZero b 3 1 = true) ∧ (allZero b 6 2 = true) ∧ (u8 b 0 < 8) ∧
    (s.m.ckpt.targets.get (u8 b 0) = some t) ∧ (u8 b 1 ≤ 1) ∧ ((∀ p ∈ setBitsOf 8 (u8 b 2), s.m.present p = true)) ∧
    ((t.kind = 0 → u16 b 4 = 0)) ∧ ((∀ i ∈ setBitsOf 16 (u16 b 4), s.m.bore.indexes.has i = true)) ∧
    (s.m.ckpt.run.isSome = true)) ∧
  (let s : State := go (let m := withCkpt 0 none; { m with ftl := { m.ftl with readOnly := true } }) 0x0B10 [(1, 1), (1, 1),
    (1, 3), (1, 0), (4, 0)]; let src : Src := .mbox 0; let c : RunCmd := cm s src; let b : Bytes := (cm s).payload;
    let t : CkTarget := ckTarget 0; (Fresh s src 0x0B10 c) ∧ (b = c.payload) ∧ (allZero b 3 1 = true) ∧
    (allZero b 6 2 = true) ∧ (u8 b 0 < 8) ∧ (s.m.ckpt.targets.get (u8 b 0) = some t) ∧ (u8 b 1 ≤ 1) ∧
    ((∀ p ∈ setBitsOf 8 (u8 b 2), s.m.present p = true)) ∧ ((t.kind = 0 → u16 b 4 = 0)) ∧
    ((∀ i ∈ setBitsOf 16 (u16 b 4), s.m.bore.indexes.has i = true)) ∧ (s.m.ckpt.run = none) ∧ (t.kind = 0) ∧
    (s.m.ftl.readOnly = true)) ∧
  (let s : State := go (withCkpt 1 none) 0x0B10 [(1, 1), (1, 0), (1, 0), (1, 0), (4, 0)]; let src : Src := .mbox 0;
    let c : RunCmd := cm s src; let b : Bytes := (cm s).payload; let t : CkTarget := ckTarget 1;
    (Fresh s src 0x0B10 c) ∧ (b = c.payload) ∧ (allZero b 3 1 = true) ∧ (allZero b 6 2 = true) ∧ (u8 b 0 < 8) ∧
    (s.m.ckpt.targets.get (u8 b 0) = some t) ∧ (u8 b 1 ≤ 1) ∧ ((∀ p ∈ setBitsOf 8 (u8 b 2), s.m.present p = true)) ∧
    ((t.kind = 0 → u16 b 4 = 0)) ∧ ((∀ i ∈ setBitsOf 16 (u16 b 4), s.m.bore.indexes.has i = true)) ∧ (s.m.ckpt.run = none) ∧
    ((t.kind ≠ 0 ∨ s.m.ftl.readOnly = false))) ∧
  (let s : State := go (withCkpt 1 none) 0x0B11 []; let src : Src := .mbox 0; let c : RunCmd := cm s src;
    (Fresh s src 0x0B11 c) ∧ (s.m.ckpt.run = none)) ∧
  (let s : State := go (withCkpt 1 (some (ckRun 2))) 0x0B11 []; let src : Src := .mbox 0; let c : RunCmd := cm s src;
    (Fresh s src 0x0B11 c) ∧ (s.m.ckpt.run.isSome = true)) ∧
  (let s : State := go (withCkpt 1 (some (ckRun 2))) 0x0B12 []; let src : Src := .mbox 0; let c : RunCmd := cm s src;
    (Fresh s src 0x0B12 c) ∧ (s.m.ckpt.run.isSome = true)) ∧
  (let s : State := go (let m := withCkpt 0 none;
    { m with ckpt := { m.ckpt with local_ := [⟨6, man0, [7], [(513, 4)]⟩] } }) 0x0B12 []; let src : Src := .mbox 0;
    let c : RunCmd := cm s src; (Fresh s src 0x0B12 c) ∧ (s.m.ckpt.run = none)) ∧
  (let s : State := go (withCkpt 1 (some (ckRun 2))) 0x0B20 [(1, 1), (1, 0), (1, 3), (5, 0), (8, 0), (8, 0), (8, 0)];
    let src : Src := .mbox 0; let c : RunCmd := cm s src; let b : Bytes := (cm s).payload;
    (Fresh s src 0x0B20 c) ∧ (b = c.payload) ∧ (allZero b 3 5 = true) ∧ (allZero b 0x1C 4 = true) ∧
    (s.m.ckpt.run.isSome = true)) ∧
  (let s : State := go (paired 0 (let m := withCkpt 0 none;
    { m with ckpt := { m.ckpt with local_ := [⟨6, man0, [7], [(513, 4)]⟩] } })) 0x0B20 [(1, 1), (1, 1), (1, 3), (5, 0), (8,
    0), (8, 0), (8, 0)]; let src : Src := .mbox 0; let c : RunCmd := cm s src; let b : Bytes := (cm s).payload;
    let t : CkTarget := ckTarget 0; (Fresh s src 0x0B20 c) ∧ (b = c.payload) ∧ (allZero b 3 5 = true) ∧
    (allZero b 0x1C 4 = true) ∧ (s.m.ckpt.run = none) ∧ (s.m.mirror.state = 0) ∧ (u8 b 0 < 8) ∧
    (s.m.ckpt.targets.get (u8 b 0) = some t) ∧ (u8 b 1 ≤ 1) ∧ ((∀ p ∈ setBitsOf 8 (u8 b 2), s.m.present p = true)) ∧
    (t.kind = 0)) ∧
  (let s : State := go (paired 0 (withCkpt 1 none)) 0x0B20 [(1, 1), (1, 1), (1, 3), (5, 0), (8, 0), (8, 0), (8, 0)];
    let src : Src := .mbox 0; let c : RunCmd := cm s src; let b : Bytes := (cm s).payload; let t : CkTarget := ckTarget 1;
    (Fresh s src 0x0B20 c) ∧ (b = c.payload) ∧ (allZero b 3 5 = true) ∧ (allZero b 0x1C 4 = true) ∧ (s.m.ckpt.run = none) ∧
    (s.m.mirror.state = 0) ∧ (u8 b 0 < 8) ∧ (s.m.ckpt.targets.get (u8 b 0) = some t) ∧ (u8 b 1 ≤ 1) ∧
    ((∀ p ∈ setBitsOf 8 (u8 b 2), s.m.present p = true)) ∧ (t.kind = 1) ∧ (s.m.host.linkUp = true) ∧
    (s.m.host.d3hot = false)) ∧
  (let s : State := go (paired 0 (withCkpt 2 none)) 0x0B20 [(1, 1), (1, 1), (1, 3), (5, 0), (8, 0), (8, 0), (8, 0)];
    let src : Src := .mbox 0; let c : RunCmd := cm s src; let b : Bytes := (cm s).payload; let t : CkTarget := ckTarget 2;
    let fetched : Option Bytes := none; (Fresh s src 0x0B20 c) ∧ (b = c.payload) ∧ (allZero b 3 5 = true) ∧
    (allZero b 0x1C 4 = true) ∧ (s.m.ckpt.run = none) ∧ (s.m.mirror.state = 0) ∧ (u8 b 0 < 8) ∧
    (s.m.ckpt.targets.get (u8 b 0) = some t) ∧ (u8 b 1 ≤ 1) ∧ ((∀ p ∈ setBitsOf 8 (u8 b 2), s.m.present p = true)) ∧
    (t.kind = 2) ∧ (fetched = none)) ∧
  (let s : State := go (paired 0 (mapKind 6 (withCkpt 2 none))) 0x0B20 [(1, 1), (1, 1), (1, 3), (5, 0), (8, 0), (8, 0), (8,
    0)]; let src : Src := .mbox 0; let c : RunCmd := cm s src; let b : Bytes := (cm s).payload;
    let t : CkTarget := ckTarget 2; let fetched : Option Bytes := some man0;
    (Fresh s src 0x0B20 c) ∧ (b = c.payload) ∧ (allZero b 3 5 = true) ∧ (allZero b 0x1C 4 = true) ∧ (s.m.ckpt.run = none) ∧
    (s.m.mirror.state = 0) ∧ (u8 b 0 < 8) ∧ (s.m.ckpt.targets.get (u8 b 0) = some t) ∧ (u8 b 1 ≤ 1) ∧
    ((∀ p ∈ setBitsOf 8 (u8 b 2), s.m.present p = true)) ∧ (let x := man0; (t.kind = 2) ∧ (fetched = some x))) ∧
  (let m : Module := (go (paired 0 (let m := withCkpt 0 none;
    { m with ckpt := { m.ckpt with local_ := [⟨6, man0, [7], [(513, 4)]⟩] } })) 0x0B20 [(1, 1), (1, 1), (1, 3), (5, 0), (8,
    0), (8, 0), (8, 0)]).m; let c : RunCmd := cm (go (paired 0 (let m := withCkpt 0 none;
    { m with ckpt := { m.ckpt with local_ := [⟨6, man0, [7], [(513, 4)]⟩] } })) 0x0B20 [(1, 1), (1, 1), (1, 3), (5, 0), (8,
    0), (8, 0), (8, 0)]); let t : CkTarget := ckTarget 0; let l : CkLocal := ⟨6, man0, [7], [(513, 4)]⟩;
    let head : Bytes := slice man0 0 128; let n : Nat := 1; (t.kind = 0) ∧ (m.ckpt.local_.getLast? = some l) ∧
    (head = slice l.manifest 0 128) ∧ (n = u32 head 0x3C) ∧ (u32 head 0 = 1) ∧ (u8 head 4 ≤ 1) ∧ (u8 head 5 ≤ 2) ∧ (1 ≤ n) ∧
    (n ≤ 1048576) ∧ (m.partsOk (partMask (u8 c.payload 2) &&& u8 head 0x44) = true)  ) ∧
  (let s : State := atRest (withCkpt 1 (some (ckRun 1))); let r : CkRun := ckRun 1; let t : CkTarget := ckTarget 1;
    (s.m.live = true) ∧ (s.m.ckpt.run = some r) ∧ (s.m.ckpt.targets.get r.target = some t) ∧ (r.stage = 1) ∧
    ((∀ p ∈ s.m.steps.parts.vals, p.live = []))) ∧
  (let s : State := atRest (withCkpt 1 (some (ckRun 1))); let r : CkRun := ckRun 1; let t : CkTarget := ckTarget 1;
    (s.m.live = true) ∧ (s.m.ckpt.run = some r) ∧ (s.m.ckpt.targets.get r.target = some t) ∧ (r.stage = 1)) ∧
  (let s : State := atRest (withCkpt 1 (some (ckRun 3))); let r : CkRun := ckRun 3; let t : CkTarget := ckTarget 1;
    (s.m.live = true) ∧ (s.m.ckpt.run = some r) ∧ (s.m.ckpt.targets.get r.target = some t) ∧ (2 ≤ r.stage)) ∧
  (let s : State := atRest (withCkpt 1 (some (ckRun 2))); let r : CkRun := ckRun 2; let t : CkTarget := ckTarget 1;
    (s.m.live = true) ∧ (s.m.ckpt.run = some r) ∧ (s.m.ckpt.targets.get r.target = some t) ∧ (r.stage = 2) ∧ (t.kind = 1) ∧
    (s.m.host.linkUp = true) ∧ (s.m.host.d3hot = false)) ∧
  (let s : State := atRest (withCkpt 1 (some (ckRun 3))); let r : CkRun := ckRun 3; let t : CkTarget := ckTarget 1;
    (s.m.live = true) ∧ (s.m.ckpt.run = some r) ∧ (s.m.ckpt.targets.get r.target = some t) ∧ (r.stage = 3) ∧ (t.kind = 1) ∧
    (s.m.host.linkUp = true) ∧ (s.m.host.d3hot = false) ∧ (r.cmd = none)) ∧
  (let m : Module := withCkpt 1 (some (ckRun 2)); let r : CkRun := ckRun 2; (m.ckpt.run = some r) ∧ (r.cmd = none)) ∧
  (let s : State := atRest (warned (withCkpt 1 none)); let n : Nat := 5; let count : Nat := 3;
    (n < 8) ∧ (s.m.live = true) ∧ (count ≤ s.m.get (Reg.CKPT.WARN_SRC_THRESHOLD.at 8 n))) ∧
  (let s : State := atRest (warned (withCkpt 1 (some (ckRun 2)))); let n : Nat := 5; let count : Nat := 4;
    (n < 8) ∧ (s.m.live = true) ∧ (n < 6) ∧ (s.m.flag (Reg.CKPT.WARN_SRC_ENABLE.at 8 n) = true) ∧
    (s.m.get (Reg.CKPT.WARN_SRC_THRESHOLD.at 8 n) < count) ∧ (s.m.ckpt.run.isSome = true)) ∧
  (let s : State := atRest (((warned (withCkpt 1 none)).set Reg.CKPT.WARN_CTRL_AUTO 1).set Reg.CKPT.WARN_CTRL_TARGET 1);
    let n : Nat := 5; let count : Nat := 4; (n < 8) ∧ (s.m.live = true) ∧ (n < 6) ∧
    (s.m.flag (Reg.CKPT.WARN_SRC_ENABLE.at 8 n) = true) ∧ (s.m.get (Reg.CKPT.WARN_SRC_THRESHOLD.at 8 n) < count) ∧
    (let m1 := (((s.m.bump (Reg.CKPT.WARN_COUNT_COUNT.at 8 n)).set Reg.CKPT.STATUS_WARNING 1).setBit Reg.CKPT.STATUS_WARN_SOURCES n).event 0x0B01 0xFF 1 n count;
    (s.m.ckpt.run = none) ∧ (s.m.ckpt.lastWarn = none) ∧ (m1.flag Reg.CKPT.WARN_CTRL_AUTO = true) ∧
    (s.m.ckpt.targets.has (m1.get Reg.CKPT.WARN_CTRL_TARGET) = true))) ∧
  (let recs : List PartRec := [⟨0, ⟨1, 2, 3, [4]⟩⟩, ⟨8, ⟨1, 2, 3, [4]⟩⟩]; ((∀ x ∈ recs, 64 + x.rec_.size ≤ 268435456))) := by
  refine ⟨?_, ?_, ⟨by decide +kernel, by decide +kernel, by decide +kernel, by decide +kernel, by decide +kernel,
    by decide +kernel, ⟨by decide +kernel, by decide +kernel, by decide +kernel, by decide +kernel, by decide +kernel,
    eq_some_pair (by decide +kernel)⟩⟩, ?_, ?_, ?_, ?_, ?_, ⟨?_, ?_, ?_, ?_, ?_, ?_, ?_, ?_, ⟨?_, ?_, ?_, ?_, ?_, ?_, ?_,
    ?_, ⟨?_, ?_, ?_, ?_, ?_⟩⟩⟩⟩ <;> decide +kernel

end Sys2Proof.Tests
end

