-- ==== Sys2Proof/Tests/WitnessFlash.lean ====
section
/-!
SUPPORT. For each statement about flash: states and operands that meet the hypotheses of each of its clauses.
-/

namespace Sys2Proof.Tests

-- The evaluations below wait for one another, so that they run one at a time and hold one stack.
set_option Elab.async false

open Sys2Proof Sys2Proof.Machine

/-- A unit of logical frame 7 at a place of a channel. -/
def unit0 (loc : Nat) : FUnit := ⟨loc, 3, 3, 0, 7, .frame frame0, none, false, false⟩

/-- A block with an erase count, in use. -/
def block0 (erases : Nat) : FBlock := ⟨erases, true, false, false, false⟩

/-- The module whose flash channel 31 stands as given. -/
def withChan (x : FChan) (m : Module := world 1) : Module := { m with ftl := { m.ftl with chans := [(31, x)] } }

theorem withChan_loc (x : FChan) (e l : Nat) (p : Nat × Nat) : (withChan x).ftlLoc e l ≠ some p := by
  have h1 : (withChan x).ftl.frames = [] := rfl
  have h2 : (withChan x).ftl.sectors = [] := rfl
  unfold Module.ftlLoc
  rw [h1, h2]
  split <;> simp [KMap.get]


/-- The hypotheses of FlashKeepsWhatItAccepts are met. -/
theorem witness_FlashKeepsWhatItAccepts :
  (let s : State := go (world 1) 0x0900 []; let src : Src := .mbox 0; let c : RunCmd := cm s src; (Fresh s src 0x0900 c)) ∧
  (let s : State := go (withChan { FChan.blank with buffer := [unit0 64] }) 0x0901 []; let src : Src := .mbox 0;
    let c : RunCmd := cm s src; (Fresh s src 0x0901 c)) ∧
  (let s : State := go (withChan { FChan.blank with units := [(64, unit0 64)] }) 0x0910 [(4, 0x80000001), (4, 0)];
    let b : Nat := 0; let c : RunCmd := cm s; let chans : List Nat := [0, 31];
    (Fresh s (.mbox b) 0x0910 c) ∧ (c.answered = false) ∧ (allZero c.payload 4 4 = true) ∧
    (chans = (if u32 c.payload 0 = 0 then List.range 32 else setBitsOf 32 (u32 c.payload 0)))) ∧
  (let m : Module := withChan { FChan.blank with changes := [⟨5, 5, 0, 1, 7, 3⟩] }; let k : Nat := 31;
    (k < 32) ∧ ((m.chan k).paused = false)) ∧
  (let m : Module := withChan { FChan.blank with paused := true }; let k : Nat := 31;
    (k < 32) ∧ ((m.chan k).paused = true)) ∧
  (let m : Module := withChan { FChan.blank with client := some 1, buffer := [unit0 64] };
    let m0 : Module := m.setChan 31 ((m.chan 31).setPoint 0 (some 64));
    let m1 : Module := ((withChan { FChan.blank with client := some 1, buffer := [unit0 64] }).ftlAcceptOn 31 0 9 (.frame frame0)).getD m;
    let k : Nat := 31; let ext : Nat := 0; let logical : Nat := 9; let p : Nat := 32;
    let content : FContent := .frame frame0; (m.placeOn k 0 content.sectors = some (p, m0)) ∧
    (m.ftlAcceptOn k ext logical content = some m1) ∧ ((∀ u ∈ (m.chan k).buffer, u.loc ≠ p)) ∧ (let e := 0; let l := 7;
    ((e, l) ≠ (ext, logical)) ∧ (((m.chan k).place 0 content.sectors).isSome = true) ∧ (m.ftlLoc e l ≠ some (k, p)))) ∧
  (let m : Module := withChan { FChan.blank with client := some 5 };
    let m0 : Module := m.setChan 31 ((m.chan 31).setPoint 0 (some 6));
    let m1 : Module := ((withChan { FChan.blank with client := some 5 }).ftlAcceptOn 31 3 9 (.sector [1])).getD m;
    let k : Nat := 31; let ext : Nat := 3; let logical : Nat := 9; let p : Nat := 5; let content : FContent := .sector [1];
    (m.placeOn k 0 content.sectors = some (p, m0)) ∧ (m.ftlAcceptOn k ext logical content = some m1) ∧
    ((∀ u ∈ (m.chan k).buffer, u.loc ≠ p))) ∧
  (let s : State := atRest (withChan { FChan.blank with client := some 5, waiting := [⟨0, 3, .frame frame0⟩] });
    let k : Nat := 31; (k < 32) ∧ (s.m.live = true)) ∧
  (let m : Module := withChan { FChan.blank with client := some 5, waiting := [⟨0, 3, .frame frame0⟩] }; let k : Nat := 31;
    let w : FWait := ⟨0, 3, .frame frame0⟩; let rest : List FWait := [];
    ((m.chan k).waiting = w :: rest) ∧ (m.ftl.holdup = false) ∧ (m.ftl.readOnly = false) ∧
    (let m0 := m.setChan k { m.chan k with waiting := rest };
    (let m1 := ((m.setChan 31 { m.chan 31 with waiting := [] }).ftlAcceptOn 31 0 3 (.frame frame0)).getD m;
    (m0.ftlAcceptOn k w.ext w.logical w.content = some m1)))) ∧
  (let m : Module := withChan { FChan.blank with client := some 5, waiting := [⟨0, 3, .frame frame0⟩], paused := true };
    let k : Nat := 31; let w : FWait := ⟨0, 3, .frame frame0⟩; let rest : List FWait := [];
    ((m.chan k).waiting = w :: rest) ∧ (m.ftl.holdup = false) ∧ (m.ftl.readOnly = false) ∧
    (let m0 := m.setChan k { m.chan k with waiting := rest }; (m0.ftlAcceptOn k w.ext w.logical w.content = none))) ∧
  (let u : FUnit := { unit0 64 with copyOf := some 32 }; (let f := 32; (u.copyOf = some f))) ∧
  (let u : FUnit := unit0 64; ((u.copyOf = none) ∧
  (let e := 0; let l := 8; ((e, l) ≠ (u.ext, u.logical))))) ∧
  (let s : State := atRest (withChan { FChan.blank with buffer := [unit0 64] }); let k : Nat := 31;
    let u : FUnit := unit0 64; let rest : List FUnit := []; (k < 32) ∧ (s.m.live = true) ∧
    ((s.m.chan k).buffer = u :: rest) ∧ ((s.m.chan k).paused = false)) ∧
  (let s : State := atRest (withChan { FChan.blank with erasing := [98303] }); let k : Nat := 31; let b : Nat := 98303;
    (k < 32) ∧ (s.m.live = true) ∧ (b ∈ (s.m.chan k).erasing) ∧ ((s.m.chan k).collecting = none)) ∧
  (let s : State := atRest (world 1); (s.m.live = true)) ∧
  (let s : State := atRest ((withChan { FChan.blank with blocks := [(0, block0 3), (1, block0 2)] ++ List.replicate 32800 (2, ⟨0, true, false, false, true⟩) }).set Reg.FTL.GC_CTRL_FREE_LOW 65535);
    let k : Nat := 31; let b : Nat := 1; (k < 32) ∧ (s.m.live = true) ∧ (s.m.ftl.readOnly = false) ∧
    (s.m.ftl.holdup = false) ∧ (s.m.secur.restart = none) ∧ ((s.m.chan k).paused = false) ∧
    ((s.m.chan k).freeBlocks < s.m.get Reg.FTL.GC_CTRL_FREE_LOW) ∧
    ((∀ d, (s.m.chan k).collecting = some d → d ∉ (s.m.chan k).emptying ∧ d ∉ (s.m.chan k).erasing)) ∧
    (leastBlock (fun d => [sectorsOf (s.m.mappedIn k d), ((s.m.chan k).block d).erases,
    d]) ((s.m.chan k).blocks.keys.filter (s.m.chan k).movable) = some b)) ∧
  (let f : Nat → Nat := fun d => d % 7; let bs : List Nat := [0, 8, 7]; let b : Nat := 0;
    (leastBlock (fun d => [f d, d]) bs = some b)) ∧
  (let f : Nat → Nat := fun d => d % 7; let bs : List Nat := [8, 7]; let b : Nat := 7;
    (leastBlock (fun d => [f d, d]) bs = some b)) ∧
  (let s : State := atRest ((withChan { FChan.blank with blocks := [(0, block0 30), (1, block0 0)] }).set Reg.FTL.WEAR_CTRL_SPREAD 5);
    let k : Nat := 31; let b : Nat := 1; (k < 32) ∧ (s.m.live = true) ∧ (s.m.ftl.readOnly = false) ∧
    (s.m.ftl.holdup = false) ∧ ((s.m.chan k).paused = false) ∧
    (s.m.get Reg.FTL.WEAR_CTRL_SPREAD < (s.m.chan k).eraseMax - (s.m.chan k).eraseMin) ∧
    (leastBlock (fun d => [d]) ((s.m.chan k).blocks.keys.filter (fun d => (s.m.chan k).movable d && ((s.m.chan k).block d).erases == (s.m.chan k).eraseMin)) = some b)) ∧
  (let s : State := atRest ((withChan { FChan.blank with blocks := [(0, block0 30), (1, { block0 3 with marked := true })] }).set Reg.FTL.WEAR_CTRL_SPREAD 5);
    let k : Nat := 31; let b : Nat := 1; (k < 32) ∧ (s.m.live = true) ∧ (s.m.ftl.readOnly = false) ∧
    (s.m.ftl.holdup = false) ∧ ((s.m.chan k).paused = false) ∧ (((s.m.chan k).block b).marked = true) ∧
    ((s.m.chan k).movable b = true)) ∧
  (let s : State := atRest (world 1); let temps : List Int := List.replicate 31 25 ++ [-128];
    (s.m.live = true) ∧ (temps.length = 32) ∧ ((∀ t ∈ temps, -128 ≤ t ∧ t ≤ 127))) ∧
  (let s : State := atRest (let m := world 1; { m with power := { m.power with rebuilt := true } });
    (s.m.live = true) ∧ (s.m.power.rebuilt = true)) ∧
  (let s : State := atRest (world 1); (s.m.live = true) ∧ (s.m.power.rebuilt = false)) := by
  refine ⟨?_, ?_, ?_, ?_, ?_, ⟨rfl,
    eq_some_getD (d := withChan { FChan.blank with client := some 1, buffer := [unit0 64] }) (by decide +kernel),
    by decide +kernel, by decide +kernel, by decide +kernel, withChan_loc _ 0 7 (31, 32)⟩, ⟨rfl,
    eq_some_getD (d := withChan { FChan.blank with client := some 5 }) (by decide +kernel), by decide +kernel⟩, ?_,
    ⟨⟨by decide +kernel, by decide +kernel, by decide +kernel, eq_some_getD (by decide +kernel)⟩, ⟨by decide +kernel,
    by decide +kernel, by decide +kernel, rfl⟩, ?_, ?_, ?_, ?_, ?_, ?_, ⟨?_, ?_, ?_, ?_, ?_, ?_, ?_⟩⟩⟩ <;> decide +kernel

end Sys2Proof.Tests
end

