-- ==== Sys2Proof/Tests/WitnessHost.lean ====
section
/-!
SUPPORT. For each statement about registers, HDM and links: states and operands that meet the hypotheses of each of its clauses.
-/

namespace Sys2Proof.Tests

-- The evaluations below wait for one another, so that they run one at a time and hold one stack.
set_option Elab.async false

open Sys2Proof Sys2Proof.Machine

/-- The hypotheses of NopAndIdentifyComplete are met. -/
theorem witness_NopAndIdentifyComplete :
  (let s : State := go boot 0 []; let src : Src := .mbox 0; let c : RunCmd := cm s src; (Fresh s src 0x0000 c)) ∧
  (let s : State := go boot 1 []; let src : Src := .mbox 0; let c : RunCmd := cm s src; (Fresh s src 0x0001 c)) := by
  refine ⟨?_, ?_⟩ <;> decide +kernel

/-- The hypotheses of RegisterWritesAreJudgedByField are met. -/
theorem witness_RegisterWritesAreJudgedByField :
  (let s : State := atRest boot; let off : Nat := 0x1FFFFFE; (off < 0x2000000) ∧ (s.m.live = true)) ∧
  (let s : State := atRest boot; (s.m.live = true) ∧ (s.m.barUp = true) ∧ (s.m.regs.wf = true) ∧ (let off := 0x1FFFFFF;
    (0x180000 ≤ off) ∧ (off < 0x2000000))) ∧
  (let s : State := atRest boot; (s.m.live = true) ∧ (s.m.barUp = true) ∧ (s.m.regs.wf = true)) ∧
  (let s : State := atRest { boot with host := { boot.host with linkUp := false } }; let off : Nat := 0;
    (off < 0x2000000) ∧ (s.m.live = true) ∧ (s.m.barUp = false)) := by
  refine ⟨?_, ?_, ?_, ?_⟩ <;> decide +kernel

/-- The hypotheses of HdmReadsAreGuarded are met. -/
theorem witness_HdmReadsAreGuarded :
  (let s : State := atRest { open_ boot with lpddr := [(5, 9)] }; let a : Nat := 2 ^ 40 - 16; let n : Nat := 16;
    (s.m.live = true) ∧ (s.m.hdmUp = true) ∧ (a + n ≤ 2 ^ 40) ∧ (s.m.hostMayRead a n = true)) ∧
  (let s : State := atRest boot; let a : Nat := 0; let n : Nat := 2 ^ 21;
    (s.m.live = true) ∧ (s.m.hdmUp = true) ∧ (a + n ≤ 2 ^ 40) ∧ (s.m.hostMayRead a n = false)) ∧
  (let s : State := atRest { boot with host := { boot.host with linkMode := 3 } };
    (s.m.live = true) ∧ (s.m.hdmUp = false)) := by
  refine ⟨?_, ?_, ?_⟩ <;> decide +kernel

/-- The hypotheses of LinkResetsTouchOnlyTheCommandPlane are met. -/
theorem witness_LinkResetsTouchOnlyTheCommandPlane :
  (let s : State := go (boot.setVec 0 ⟨false, false, none, false⟩) 0x0500 [(8, 0)];
    (s.m.live = true) ∧ (s.m.host.linkUp = true)) ∧
  (let s : State := atRest { boot with host := { boot.host with d3hot := true } };
    (s.m.live = true) ∧ (s.m.host.d3hot = true) ∧ (s.m.host.linkUp = true)) ∧
  (let s : State := atRest { boot with host := { boot.host with linkUp := false } }; let mode : Nat := 6; let w : Nat := 16;
    (s.m.live = true) ∧ (s.m.host.linkUp = false) ∧ (1 ≤ mode) ∧ (mode ≤ 6) ∧ (w ≤ 16) ∧ (w = 4 ∨ w = 8 ∨ w = 16)) ∧
  (let s : State := atRest { boot with host := { boot.host with linkUp := false } }; let mode : Nat := 1; let w : Nat := 0;
    (s.m.live = true) ∧ (s.m.host.linkUp = false) ∧ (1 ≤ mode) ∧ (mode ≤ 6) ∧ (w ≤ 16) ∧ (w ≠ 4) ∧ (w ≠ 8) ∧ (w ≠ 16)) := by
  refine ⟨?_, ?_, ?_, ?_⟩ <;> decide +kernel

/-- The hypotheses of FailedTransfersEndInTimeout are met. -/
theorem witness_FailedTransfersEndInTimeout :
  (let s : State := go boot 0x0410 [(8, 0x1000), (4, 1), (4, 0), (8, 0x2000)]; let src : Src := .mbox 0;
    let c : RunCmd := cm s src; (s.m.live = true) ∧ (s.m.hostUp = true) ∧ (s.m.cmdOf src = some c) ∧
    (s.m.usesHost c = true) ∧ (c.stage = .fresh) ∧ (c.reads < s.m.hostRetries c)) ∧
  (let s : State := let a := go boot 0x0410 [(8, 0x1000), (4, 1), (4, 0), (8, 0x2000)];
    { a with m := a.m.updCmd 0 (fun x => { x with reads := 3 }) }; let src : Src := .mbox 0; let c : RunCmd := cm s src;
    (s.m.live = true) ∧ (s.m.hostUp = true) ∧ (s.m.cmdOf src = some c) ∧ (s.m.usesHost c = true) ∧ (c.stage = .fresh) ∧
    (s.m.hostRetries c ≤ c.reads)) ∧
  (let s : State := go boot 0x0410 [(8, 0x1000), (4, 1), (4, 0), (8, 0x2000)]; let b : Nat := 0; let c : RunCmd := cm s;
    (s.m.live = true) ∧ (s.m.cmdOf (.mbox b) = some c)) ∧
  (let c : RunCmd := cmd (.mbox 0) 1 0x0310 []; (c.opcode = 0x0310)) ∧
  (let c : RunCmd := cmd (.mbox 0) 1 0x0410 []; (c.opcode ≠ 0x0310)) := by
  refine ⟨?_, ?_, ?_, ?_, ?_⟩ <;> decide +kernel

/-- The hypotheses of MessagesWaitForTheirVector are met. -/
theorem witness_MessagesWaitForTheirVector :
  (let s : State := atRest (boot.setVec 65 ⟨false, false, some 1999999999999, true⟩); let v : Nat := 65;
    let t0 : Nat := 1999999999999; (v < 128) ∧ (s.m.live = true) ∧ ((s.m.vec v).held = true) ∧
    ((s.m.vec v).lastSent = some t0)) ∧
  (let s : State := atRest boot; let v : Nat := 127; (v < 128) ∧ (s.m.live = true) ∧ (s.m.barUp = true) ∧
    ((s.m.vec v).pending = false)) ∧
  (let s : State := atRest (boot.setVec 0 ⟨true, true, none, false⟩); let v : Nat := 0;
    (v < 128) ∧ (s.m.live = true) ∧ (s.m.barUp = true) ∧ ((s.m.vec v).pending = true)) := by
  refine ⟨?_, ?_, ?_⟩ <;> decide +kernel

end Sys2Proof.Tests
end

