-- ==== Sys2Proof/Tests/WitnessMachine.lean ====
section
/-!
SUPPORT. For each statement about the machine as a whole and the command plane: states and operands that meet the hypotheses of each of its clauses.
-/

namespace Sys2Proof.Tests

-- The evaluations below wait for one another, so that they run one at a time and hold one stack.
set_option Elab.async false

open Sys2Proof Sys2Proof.Machine

/-- The hypotheses of EmptyQueueLetsTheCounterTick are met. -/
theorem witness_EmptyQueueLetsTheCounterTick :
  (let s : State := State.reset; (s.pending = []) ∧ (s.m.live = false)) ∧
  (let s : State := atRest boot; (s.pending = []) ∧ ((s.m.live = true) ∧
  (s.m.get Reg.TIME.FREQ_PPB = 0))) ∧
  ((let off := 0; (off ∉ innerCounters.map (·.off)))) := by
  refine ⟨?_, ?_, ?_⟩ <;> decide +kernel

/-- The hypotheses of AStoppedModuleTakesOnlyPowerRows are met. -/
theorem witness_AStoppedModuleTakesOnlyPowerRows :
  (let c : Instr := .capsuleSweep (.mbox 3); let s : State := State.reset;
    (s.m.live = false) ∧ (powerRow c = false)) := by decide +kernel

/-- The hypotheses of ElapsedTimeNeverFalls are met. -/
theorem witness_ElapsedTimeNeverFalls :
  (let c : Instr := .nop (.mbox 0); let s : State := atRest boot; let t : State := nxt (exec c s); (exec c s = .next t)) ∧
  (let c : Instr := .timeSet (.mbox 0); let s : State := atRest boot; let t : State := nxt (exec c s);
    (exec c s = .next t) ∧ (stepsClock c = true)) := by
  refine ⟨next_nxt (by decide +kernel), ⟨next_nxt (by decide +kernel), by decide +kernel⟩⟩

/-- The hypotheses of TheCounterMovesOnlyInFourWays are met. -/
theorem witness_TheCounterMovesOnlyInFourWays :
  (let c : Instr := .nop (.mbox 0); let s : State := atRest boot; let t : State := nxt (exec c s);
    (exec c s = .next t)) := by
  exact next_nxt (by decide +kernel)

/-- The hypotheses of EveryStepKeepsTheCounterInItsRegister are met. -/
theorem witness_EveryStepKeepsTheCounterInItsRegister :
  (let s : State := { (atRest boot) with m := { boot with clk := ⟨2 ^ 64 - 1, 2 ^ 32 - 1, 5⟩ } };
    let t : State := nxt (step s); (s.m.clk.fits = true) ∧ (step s = .next t)) := by
  exact ⟨by decide +kernel, next_nxt (by decide +kernel)⟩

/-- The hypotheses of EveryStepKeepsMemoryCanonical are met. -/
theorem witness_EveryStepKeepsMemoryCanonical :
  (let s : State := { go (open_ boot) 0x0210 [(8, 0)] with pending := [.nop (.mbox 0)] }; let t : State := nxt (step s);
    (s.m.memWf = true) ∧ (step s = .next t)) := by
  exact ⟨by decide +kernel, next_nxt (by decide +kernel)⟩

/-- The hypotheses of CompletionAnswersTheHost are met. -/
theorem witness_CompletionAnswersTheHost :
  (let m : Module := startCmd boot 0 []; let b : Nat := 0; let c : RunCmd := cm (atRest m);
    (c.src = .mbox b) ∧ (c.answered = false) ∧ (let k := 63; (k ≠ b))) ∧
  (let m : Module := startCmd boot 0 []; let b : Nat := 0; let c : RunCmd := cm (atRest m);
    (c.src = .mbox b) ∧ (c.answered = false)) ∧
  (let m : Module := startCmd boot 0 []; let b : Nat := 0; let c : RunCmd := cm (atRest m);
    (c.src = .mbox b) ∧ (c.answered = false)) := by
  refine ⟨?_, ?_, ?_⟩ <;> decide +kernel

/-- The hypotheses of CompletionSignalsItsVector are met. -/
theorem witness_CompletionSignalsItsVector :
  (let m : Module := startCmd boot 0 []; let b : Nat := 0; let c : RunCmd := { cm (atRest m) with flags := 1 };
    (c.src = .mbox b) ∧ (c.answered = false) ∧ (let quiet := bit c.flags 0 || c.noMsix; (quiet = true))) ∧
  (let m : Module := startCmd (boot.setVec 0 ⟨false, false, none, false⟩) 0 []; let b : Nat := 0;
    let c : RunCmd := cm (atRest m); (c.src = .mbox b) ∧ (c.answered = false) ∧ (let quiet := bit c.flags 0 || c.noMsix;
    (quiet = false) ∧ ((m.vec b).masked = false) ∧ (m.host.linkUp = true) ∧ (m.host.d3hot = false))) ∧
  (let m : Module := startCmd boot 0 []; let b : Nat := 0; let c : RunCmd := cm (atRest m);
    (c.src = .mbox b) ∧ (c.answered = false) ∧ (let quiet := bit c.flags 0 || c.noMsix;
    (quiet = false) ∧ ((m.vec b).masked = true))) := by
  refine ⟨?_, ?_, ?_⟩ <;> decide +kernel

/-- The hypotheses of OwnerWriteStartsTheCommand are met. -/
theorem witness_OwnerWriteStartsTheCommand :
  (let s : State := atRest boot; let b : Nat := 63; let v : Nat := 2;
    (b < 64) ∧ (s.m.live = true) ∧ (s.m.barUp = true) ∧ (bit v 0 = false)) ∧
  (let s : State := go boot 0 []; let b : Nat := 0; let v : Nat := 1;
    (b < 64) ∧ (s.m.live = true) ∧ (s.m.barUp = true) ∧ (bit v 0 = true) ∧ ((s.m.box b).owner = true)) ∧
  (let s : State := atRest boot; let b : Nat := 63; let v : Nat := 1;
    (b < 64) ∧ (s.m.live = true) ∧ (s.m.barUp = true) ∧ (bit v 0 = true) ∧ ((s.m.box b).owner = false) ∧
    (let slot := (s.m.box b).cmd; (let h := slot.rdN 0 64; (let payload := slot.rdN 64 (Min.min (u32 h 4) 4032);
    (let c : RunCmd := ⟨s.m.host.nextRun, .mbox b, u16 h 0, u16 h 2, u64 h 8, payload, s.m.clk.mono, .fresh, [], [], 0, 0,
    false, false⟩; (let taken := s.m.setBox b { s.m.box b with owner := true, running := true };
    (let m1 : Module := { taken with host := { taken.host with running := s.m.host.running ++ [c], nextRun := s.m.host.nextRun + 1 } };
    (m1.commandCheck h payload = none)))))))) ∧
  (let s : State := atRest (boot.setBox 63 ⟨false, false, 0, Mem.wrN [] 0 (pay [(2, 0x00FF)]), none⟩); let b : Nat := 63;
    let v : Nat := 1; (b < 64) ∧ (s.m.live = true) ∧ (s.m.barUp = true) ∧ (bit v 0 = true) ∧ ((s.m.box b).owner = false) ∧
    (let slot := (s.m.box b).cmd; (let h := slot.rdN 0 64; (let payload := slot.rdN 64 (Min.min (u32 h 4) 4032);
    (let c : RunCmd := ⟨s.m.host.nextRun, .mbox b, u16 h 0, u16 h 2, u64 h 8, payload, s.m.clk.mono, .fresh, [], [], 0, 0,
    false, false⟩; (let taken := s.m.setBox b { s.m.box b with owner := true, running := true };
    (let m1 : Module := { taken with host := { taken.host with running := s.m.host.running ++ [c], nextRun := s.m.host.nextRun + 1 } };
    (let st := .badField; let d := 0; (m1.commandCheck h payload = some (st, d)))))))))) := by
  refine ⟨?_, ?_, ?_, ?_⟩ <;> decide +kernel

/-- The hypotheses of CommandsAreCheckedInOrder are met. -/
theorem witness_CommandsAreCheckedInOrder :
  (let m : Module := Module.reset; let h : Bytes := pay [(2, 1), (62, 0)];
    (m.flag Reg.GLOBAL.STATUS_READY = false) ∧ (u16 h 0 ≠ 0)) ∧
  (let m : Module := boot; let h : Bytes := pay [(2, 0x00FF), (62, 0)];
    ((m.flag Reg.GLOBAL.STATUS_READY = true ∨ u16 h 0 = 0)) ∧ (payloadLen (u16 h 0) = none)) ∧
  (let m : Module := boot; let h : Bytes := pay [(2, 1), (1, 2), (61, 0)];
    ((m.flag Reg.GLOBAL.STATUS_READY = true ∨ u16 h 0 = 0)) ∧ (let n := 0; (payloadLen (u16 h 0) = some n) ∧ (let d := 2;
    (headerBad h = some d)))) ∧
  (let m : Module := Module.reset; let h : Bytes := pay [(2, 0), (2, 0), (4, 4033), (56, 0)];
    ((m.flag Reg.GLOBAL.STATUS_READY = true ∨ u16 h 0 = 0)) ∧ (let n := 0;
    (payloadLen (u16 h 0) = some n) ∧ (headerBad h = none) ∧ ((4032 < u32 h 4 ∨ u32 h 4 < n)))) ∧
  (let m : Module := boot; let h : Bytes := pay [(2, 0), (2, 0), (4, 4032), (56, 0)];
    ((m.flag Reg.GLOBAL.STATUS_READY = true ∨ u16 h 0 = 0)) ∧ (let n := 0;
    (payloadLen (u16 h 0) = some n) ∧ (headerBad h = none) ∧ (u32 h 4 ≤ 4032) ∧ (n ≤ u32 h 4) ∧ (u16 h 0 ≠ 0x1300))) := by
  refine ⟨?_, ?_, ?_, ?_, ?_⟩ <;> decide +kernel

/-- The hypotheses of SlotWritesReachOnlyTheHostsSlot are met. -/
theorem witness_SlotWritesReachOnlyTheHostsSlot :
  (let s : State := atRest boot; let b : Nat := 63; let off : Nat := 0x1000; let data : Bytes := [1];
    (b < 64) ∧ (off < 0x2000) ∧ (s.m.live = true) ∧ (s.m.barUp = true) ∧ (let fits := 1 ≤ data.length ∧ data.length ≤ 64 ∧
    off / 64 = (off + data.length - 1) / 64 ∧ off < 0x1000; (¬ fits))) ∧
  (let s : State := go boot 0 []; let b : Nat := 0; let off : Nat := 0xFFF; let data : Bytes := [1];
    (b < 64) ∧ (off < 0x2000) ∧ (s.m.live = true) ∧ (s.m.barUp = true) ∧ (let fits := 1 ≤ data.length ∧ data.length ≤ 64 ∧
    off / 64 = (off + data.length - 1) / 64 ∧ off < 0x1000; (fits) ∧ ((s.m.box b).owner = true))) ∧
  (let s : State := atRest boot; let b : Nat := 63; let off : Nat := 0xFC0; let data : Bytes := List.replicate 64 7;
    (b < 64) ∧ (off < 0x2000) ∧ (s.m.live = true) ∧ (s.m.barUp = true) ∧ (let fits := 1 ≤ data.length ∧ data.length ≤ 64 ∧
    off / 64 = (off + data.length - 1) / 64 ∧ off < 0x1000; (fits) ∧ ((s.m.box b).owner = false))) := by
  refine ⟨?_, ?_, ?_⟩ <;> decide +kernel

end Sys2Proof.Tests
end

