-- ==== Sys2Proof/Tests/WitnessMirror.lean ====
section
/-!
SUPPORT. For each statement about the mirror engine's commands: states and operands that meet the hypotheses of each of its clauses.
-/

namespace Sys2Proof.Tests

-- The evaluations below wait for one another, so that they run one at a time and hold one stack.
set_option Elab.async false

open Sys2Proof Sys2Proof.Machine

/-- A module whose mirror stands in a pair state. -/
def inMirror (st : Nat) (m : Module := world 1) : Module := { m with mirror := { m.mirror with state := st } }

/-- A module whose map holds the partner's mirror endpoint. -/
def mapped (m : Module) : Module := { m with bell := { m.bell with map := [(9, ⟨9, 5, 0xFF, 7, 1, 0⟩)] } }

/-- A frame from endpoint 9 with its check value. -/
def frm (type : Nat) (flags : Nat) (capsule : Nat) (b : Bytes) : SessFrame :=
  let f : SessFrame := ⟨1, 7, 0x4B46, 1, type, 9, 0, 1, 0, capsule, b.length, flags, 0, b⟩
  { f with check := sessCrc f }


/-- The hypotheses of MirrorCommandsAct are met. -/
theorem witness_MirrorCommandsAct :
  (let s : State := go (inMirror 3) 0x0A00 [(8, 1), (8, 0)]; let src : Src := .mbox 0; let c : RunCmd := cm s src;
    (Fresh s src 0x0A00 c) ∧ (allZero c.payload 1 7 = true) ∧ (u8 c.payload 0 ≤ 1) ∧ (s.m.mirror.state ∈ [2, 3, 4])) ∧
  (let s : State := go (inMirror 0) 0x0A00 [(8, 1), (8, 0)]; let src : Src := .mbox 0; let c : RunCmd := cm s src;
    (Fresh s src 0x0A00 c) ∧ (allZero c.payload 1 7 = true) ∧ (u8 c.payload 0 ≤ 1) ∧ (s.m.mirror.pairCmd = none) ∧
    (u8 c.payload 0 = 1) ∧ (s.m.mirror.state = 0)) ∧
  (let s : State := go (inMirror 6) 0x0A00 [(8, 0), (8, 77)]; let src : Src := .mbox 0; let c : RunCmd := cm s src;
    (Fresh s src 0x0A00 c) ∧ (allZero c.payload 1 7 = true) ∧ (u8 c.payload 0 ≤ 1) ∧ (s.m.mirror.pairCmd = none) ∧
    (u8 c.payload 0 = 0) ∧ (s.m.mirror.state ∈ [0, 5, 6])) ∧
  (let s : State := go (inMirror 3) 0x0A01 []; let src : Src := .mbox 0; let c : RunCmd := cm s src;
    (Fresh s src 0x0A01 c)) ∧
  (let s : State := go (let m := world 1;
    { m with caps := { m.caps with slots := [(0, { cap0 1 with owner := 1 })] } }) 0x0A10 [(4, 0), (4, 0)];
    let src : Src := .mbox 0; let c : RunCmd := cm s src; let id : Nat := 0; let k : Capsule := { cap0 1 with owner := 1 };
    (Fresh s src 0x0A10 c) ∧ (allZero c.payload 4 4 = true) ∧ (id = u32 c.payload 0) ∧ (id % 256 ≠ 255) ∧
    (s.m.capsule id = some k) ∧ (s.m.owns k = false)) ∧
  (let s : State := go (inMirror 5) 0x0A10 [(4, 0), (4, 0)]; let src : Src := .mbox 0; let c : RunCmd := cm s src;
    let id : Nat := 0; let k : Capsule := cap0 1; (Fresh s src 0x0A10 c) ∧ (allZero c.payload 4 4 = true) ∧
    (id = u32 c.payload 0) ∧ (id % 256 ≠ 255) ∧ (s.m.capsule id = some k) ∧ (s.m.owns k = true) ∧ (s.m.mirror.state ≠ 3)) ∧
  (let s : State := go (inMirror 3) 0x0A10 [(4, 0), (4, 0)]; let src : Src := .mbox 0; let c : RunCmd := cm s src;
    let id : Nat := 0; let k : Capsule := cap0 1; (Fresh s src 0x0A10 c) ∧ (allZero c.payload 4 4 = true) ∧
    (id = u32 c.payload 0) ∧ (id % 256 ≠ 255) ∧ (s.m.capsule id = some k) ∧ (s.m.owns k = true) ∧ (MayWrite s.m c k) ∧
    ((k.state = 1 ∨ k.state = 4)) ∧ (s.m.mirror.state = 3)) ∧
  (let s : State := go (inMirror 4) 0x0A11 [(4, 0), (4, 0)]; let src : Src := .mbox 0; let c : RunCmd := cm s src;
    let id : Nat := 0; let k : Capsule := cap0 1; (Fresh s src 0x0A11 c) ∧ (allZero c.payload 4 4 = true) ∧
    (id = u32 c.payload 0) ∧ (id % 256 ≠ 255) ∧ (s.m.capsule id = some k) ∧ (s.m.mirror.state ≠ 5)) ∧
  (let s : State := go (let m := inMirror 5;
    { m with caps := { m.caps with slots := [(0, { cap0 1 with owner := 1 })] } }) 0x0A11 [(4, 0), (4, 0)];
    let src : Src := .mbox 0; let c : RunCmd := cm s src; let id : Nat := 0; let k : Capsule := { cap0 1 with owner := 1 };
    (Fresh s src 0x0A11 c) ∧ (allZero c.payload 4 4 = true) ∧ (id = u32 c.payload 0) ∧ (id % 256 ≠ 255) ∧
    (s.m.capsule id = some k) ∧ (s.m.mirror.state = 5) ∧ (s.m.owns k = false)) ∧
  (let s : State := go (inMirror 6) 0x0A12 []; let src : Src := .mbox 0; let c : RunCmd := cm s src;
    (Fresh s src 0x0A12 c) ∧ (s.m.mirror.state ≠ 5)) ∧
  (let s : State := go (let m := inMirror 5;
    { m with caps := { m.caps with slots := [(0, { cap0 1 with owner := 1 })] } }) 0x0A12 []; let src : Src := .mbox 0;
    let c : RunCmd := cm s src; (Fresh s src 0x0A12 c) ∧ (s.m.mirror.state = 5)) ∧
  (let s : State := go (inMirror 0) 0x0A20 [(8, 1)]; let src : Src := .mbox 0; let c : RunCmd := cm s src;
    (Fresh s src 0x0A20 c) ∧ (allZero c.payload 1 7 = true) ∧ (u8 c.payload 0 ≤ 1) ∧ (s.m.mirror.state ∈ [0, 6])) ∧
  (let s : State := go (inMirror 5) 0x0A20 [(8, 1)]; let src : Src := .mbox 0; let c : RunCmd := cm s src;
    (Fresh s src 0x0A20 c) ∧ (allZero c.payload 1 7 = true) ∧ (u8 c.payload 0 ≤ 1) ∧ (s.m.mirror.state ∉ [0, 6]) ∧
    (u8 c.payload 0 = 1)) ∧
  (let s : State := go (inMirror 3) 0x0A20 [(8, 0)]; let src : Src := .mbox 0; let c : RunCmd := cm s src;
    (Fresh s src 0x0A20 c) ∧ (allZero c.payload 1 7 = true) ∧ (u8 c.payload 0 ≤ 1) ∧ (s.m.mirror.state ∉ [0, 6]) ∧
    (u8 c.payload 0 = 0) ∧ (s.m.mirror.draining = false)) ∧
  (let s : State := go (inMirror 2) 0x0A21 [(8, 1)]; let src : Src := .mbox 0; let c : RunCmd := cm s src;
    (Fresh s src 0x0A21 c) ∧ (allZero c.payload 1 7 = true) ∧ (u8 c.payload 0 ≤ 1) ∧ (s.m.mirror.state ≠ 3)) ∧
  (let s : State := go (inMirror 3) 0x0A21 [(8, 1)]; let src : Src := .mbox 0; let c : RunCmd := cm s src;
    (Fresh s src 0x0A21 c) ∧ (allZero c.payload 1 7 = true) ∧ (u8 c.payload 0 ≤ 1) ∧ (s.m.mirror.state = 3) ∧
    (s.m.mirror.queue = [])) ∧
  (let s : State := atRest (let m := inMirror 3; { m with mirror := { m.mirror with ackDue := true } });
    (s.m.live = true) ∧ (s.m.mirror.ackDue = true)) ∧
  (let s : State := atRest (mapped (inMirror 3)); (s.m.live = true) ∧ (let e := ⟨9, 5, 0xFF, 7, 1, 0⟩;
    (s.m.ownEndpoint 5 0xFF s.m.mirror.partnerSerial = some e))) ∧
  (let s : State := atRest (inMirror 3); (s.m.live = true) ∧ ((s.m.mirror.state = 2 ∨ s.m.mirror.state = 3))) ∧
  (let s : State := atRest (inMirror 4); (s.m.live = true) ∧ (s.m.mirror.state = 4)) ∧
  (let s : State := atRest (inMirror 3); (s.m.live = true)) ∧
  (let s : State := atRest (mapped (inMirror 3)); let f : SessFrame := frm 8 0 0xFFFFFFFF (leBytes 24 3);
    let m1 : Module := (s.m.ingress 8 f).1; let e : MapEntry := ⟨9, 5, 0xFF, 7, 1, 0⟩;
    (s.m.live = true) ∧ (s.m.ingress 8 (trimFrame f) = (m1, true)) ∧ (24 ≤ (trimFrame f).body.length) ∧
    (m1.endpoint (trimFrame f).src = some e) ∧ (e.kind = 5) ∧ (e.serial = m1.mirror.partnerSerial) ∧ (m1.mirror.state ≠ 4)) ∧
  (let s : State := atRest (mapped (let m := inMirror 4; { m with mirror := { m.mirror with linkId := 1 } }));
    let f : SessFrame := frm 8 0 0xFFFFFFFF (leBytes 24 3); let m1 : Module := (s.m.ingress 8 f).1;
    let e : MapEntry := ⟨9, 5, 0xFF, 7, 1, 0⟩; (s.m.live = true) ∧ (s.m.ingress 8 (trimFrame f) = (m1, true)) ∧
    (24 ≤ (trimFrame f).body.length) ∧ (m1.endpoint (trimFrame f).src = some e) ∧ (e.kind = 5) ∧
    (e.serial = m1.mirror.partnerSerial) ∧ (m1.mirror.state = 4) ∧ (m1.mirror.linkId = 1)) ∧
  (let s : State := atRest (mapped (inMirror 4)); let f : SessFrame := frm 8 0 0xFFFFFFFF (leBytes 24 6);
    let m1 : Module := (s.m.ingress 8 f).1; let e : MapEntry := ⟨9, 5, 0xFF, 7, 1, 0⟩;
    (s.m.live = true) ∧ (s.m.ingress 8 (trimFrame f) = (m1, true)) ∧ (24 ≤ (trimFrame f).body.length) ∧
    (m1.endpoint (trimFrame f).src = some e) ∧ (e.kind = 5) ∧ (e.serial = m1.mirror.partnerSerial) ∧ (m1.mirror.state = 4) ∧
    (m1.mirror.linkId ≠ 1) ∧ (u8 (trimFrame f).body 0 = 6)) ∧
  (let s : State := atRest (mapped (inMirror 4)); let f : SessFrame := frm 8 0 0xFFFFFFFF (leBytes 24 4);
    let m1 : Module := (s.m.ingress 8 f).1; let e : MapEntry := ⟨9, 5, 0xFF, 7, 1, 0⟩;
    (s.m.live = true) ∧ (s.m.ingress 8 (trimFrame f) = (m1, true)) ∧ (24 ≤ (trimFrame f).body.length) ∧
    (m1.endpoint (trimFrame f).src = some e) ∧ (e.kind = 5) ∧ (e.serial = m1.mirror.partnerSerial) ∧ (m1.mirror.state = 4) ∧
    (m1.mirror.linkId ≠ 1) ∧ (u8 (trimFrame f).body 0 ≠ 6)) ∧
  (let s : State := atRest (let m := inMirror 3; { m with mirror := { m.mirror with beatAcked := none } });
    let id : Nat := 0; let k : Capsule := cap0 1; (s.m.live = true) ∧ (s.m.capsule id = some k) ∧ (s.m.lapsed k = true) ∧
    (s.m.mirror.state ∈ [2, 3, 4]) ∧ (s.m.mirror.asked.contains id = false)) ∧
  (let s : State := let t := go (inMirror 3) 0x0111 [(4, 0), (4, 0)];
    { t with m := { t.m with mirror := { t.m.mirror with held := [⟨0, 0, 5⟩] } } }; let h : HeldWrite := ⟨0, 0, 5⟩;
    let c : RunCmd := cm s; (s.m.live = true) ∧ (s.m.mirror.held.find? (fun x => x.cmd == c.id) = some h) ∧
    (s.m.mirror.state ≠ 4) ∧ (c.id < 2 ^ 64) ∧ (s.m.host.running.find? (fun x => x.id == c.id) = some c)) ∧
  (let s : State := atRest (inMirror 3); let n : Nat := 15; (s.m.live = true) ∧ (n < 16)) ∧
  (let s : State := atRest (inMirror 3); let lost : Nat := 0x0101; let n : Nat := 0;
    (s.m.live = true) ∧ (lost < 2 ^ 16) ∧
    (n = (if lost = 0 then 16 else if lost % 256 = 0 ∨ lost / 256 = 0 then 8 else 0)) ∧ (n = 0)) ∧
  (let s : State := atRest (inMirror 3); let lost : Nat := 0xFF00; let n : Nat := 8;
    (s.m.live = true) ∧ (lost < 2 ^ 16) ∧
    (n = (if lost = 0 then 16 else if lost % 256 = 0 ∨ lost / 256 = 0 then 8 else 0)) ∧ (n ≠ 0) ∧
    ((s.m.mirror.state = 2 ∨ s.m.mirror.state = 3))) ∧
  (let s : State := atRest (inMirror 5); let lost : Nat := 0; let n : Nat := 16;
    (s.m.live = true) ∧ (lost < 2 ^ 16) ∧
    (n = (if lost = 0 then 16 else if lost % 256 = 0 ∨ lost / 256 = 0 then 8 else 0)) ∧ (n ≠ 0) ∧
    ((s.m.mirror.state = 5 ∨ s.m.mirror.state = 6))) ∧
  (let s : State := let t := go (world 1) 0x0901 [];
    { t with m := { t.m with host := { t.m.host with running := t.m.host.running.map (fun c => { c with stage := .waiting }) } } };
    let src : Src := .mbox 0; let c : RunCmd := cm s; let b : Nat := 100000000;
    (s.m.live = true) ∧ (s.m.cmdOf src = some c) ∧ (c.stage = .waiting) ∧ (s.m.bound c = some b)) := by
  refine ⟨?_, ?_, ?_, ?_, ?_, ?_, ?_, ?_, ⟨?_, ?_, ?_, ?_, ?_, ?_, ?_, ?_, ⟨?_, ?_, ?_, ?_, ?_, ⟨by decide +kernel,
    pair_of_snd (by decide +kernel), by decide +kernel, by decide +kernel, by decide +kernel, by decide +kernel,
    by decide +kernel⟩, ⟨by decide +kernel, pair_of_snd (by decide +kernel), by decide +kernel, by decide +kernel,
    by decide +kernel, by decide +kernel, by decide +kernel⟩, ⟨by decide +kernel, pair_of_snd (by decide +kernel),
    by decide +kernel, by decide +kernel, by decide +kernel, by decide +kernel, by decide +kernel⟩, ⟨⟨by decide +kernel,
    pair_of_snd (by decide +kernel), by decide +kernel, by decide +kernel, by decide +kernel, by decide +kernel,
    by decide +kernel⟩, ?_, ?_, ?_, ?_, ?_, ?_, ?_⟩⟩⟩⟩ <;> decide +kernel

end Sys2Proof.Tests
end

