-- ==== Sys2Proof/Tests/WitnessMouth.lean ====
section
/-!
SUPPORT. For each statement about the mouthpiece: states and operands that meet the hypotheses of each of its clauses.
-/

namespace Sys2Proof.Tests

-- The evaluations below wait for one another, so that they run one at a time and hold one stack.
set_option Elab.async false

open Sys2Proof Sys2Proof.Machine

/-- The hypotheses of MouthpieceCommandsAct are met. -/
theorem witness_MouthpieceCommandsAct :
  (let s : State := go (world 1) 0x0700 [(8, 0), (8, 64), (8, 64)]; let src : Src := .mbox 0; let c : RunCmd := cm s src;
    let id : Nat := 0; let addr : Nat := 64; let len : Nat := 64;
    (Fresh s src 0x0700 c) ∧ (allZero c.payload 2 6 = true) ∧ (id = u16 c.payload 0) ∧ (addr = u64 c.payload 8) ∧
    (len = u64 c.payload 0x10) ∧ (id < 64) ∧ (addr % 64 = 0) ∧ (addr < hbmSize) ∧ (addr + len ≤ hbmSize) ∧
    (s.m.mouth.tokenizers.has id = true)) ∧
  (let s : State := go (world 1) 0x0700 [(8, 63), (8, 64), (8, 64)]; let src : Src := .mbox 0; let c : RunCmd := cm s src;
    let id : Nat := 63; let addr : Nat := 64; let len : Nat := 64;
    (Fresh s src 0x0700 c) ∧ (allZero c.payload 2 6 = true) ∧ (id = u16 c.payload 0) ∧ (addr = u64 c.payload 8) ∧
    (len = u64 c.payload 0x10) ∧ (id < 64) ∧ (addr % 64 = 0) ∧ (addr < hbmSize) ∧ (addr + len ≤ hbmSize) ∧
    (s.m.mouth.tokenizers.has id = false) ∧ ((TokImage.mk s.m.hbm addr).ok len = false)) ∧
  (let s : State := go { (world 1) with hbm := memOf imgByte 0x1240 } 0x0700 [(8, 63), (8, 0), (8, 0x1240)];
    let src : Src := .mbox 0; let c : RunCmd := cm s src; let id : Nat := 63; let addr : Nat := 0; let len : Nat := 0x1240;
    (Fresh s src 0x0700 c) ∧ (allZero c.payload 2 6 = true) ∧ (id = u16 c.payload 0) ∧ (addr = u64 c.payload 8) ∧
    (len = u64 c.payload 0x10) ∧ (id < 64) ∧ (addr % 64 = 0) ∧ (addr < hbmSize) ∧ (addr + len ≤ hbmSize) ∧
    (s.m.mouth.tokenizers.has id = false) ∧ ((TokImage.mk s.m.hbm addr).ok len = true)) ∧
  (let s : State := go (world 1) 0x0701 [(8, 0)]; let src : Src := .mbox 0; let c : RunCmd := cm s src; let id : Nat := 0;
    (Fresh s src 0x0701 c) ∧ (allZero c.payload 2 6 = true) ∧ (id = u16 c.payload 0) ∧
    (s.m.mouth.tokenizers.has id = true) ∧ ((∃ k ∈ s.m.caps.slots.vals, liveState k.state = true ∧ k.tokenizer = id))) ∧
  (let s : State := go (world 6) 0x0701 [(8, 0)]; let src : Src := .mbox 0; let c : RunCmd := cm s src; let id : Nat := 0;
    (Fresh s src 0x0701 c) ∧ (allZero c.payload 2 6 = true) ∧ (id = u16 c.payload 0) ∧
    (s.m.mouth.tokenizers.has id = true) ∧ ((∀ k ∈ s.m.caps.slots.vals, liveState k.state = true → k.tokenizer ≠ id))) ∧
  (let s : State := go (world 1) 0x0710 [(8, 1023), (8, 64), (8, 192)]; let src : Src := .mbox 0;
    let c : RunCmd := cm s src; let id : Nat := 1023; let addr : Nat := 64; let len : Nat := 192;
    let g : GramImage := ⟨s.m.hbm, 64⟩; (Fresh s src 0x0710 c) ∧ (allZero c.payload 4 4 = true) ∧ (id = u32 c.payload 0) ∧
    (addr = u64 c.payload 8) ∧ (len = u64 c.payload 0x10) ∧ (id < 1024) ∧ (addr % 64 = 0) ∧ (addr < hbmSize) ∧
    (addr + len ≤ hbmSize) ∧ (g = ⟨s.m.hbm, addr⟩) ∧ (s.m.mouth.grammars.has id = false) ∧
    (g.ok len ((s.m.tokImage g.tokenizer).map (·.vocab)) = false)) ∧
  (let s : State := go (withGrammar (world 1)) 0x0710 [(8, 1023), (8, 0xC000), (8, 192)]; let src : Src := .mbox 0;
    let c : RunCmd := cm s src; let id : Nat := 1023; let addr : Nat := 0xC000; let len : Nat := 192;
    let g : GramImage := ⟨s.m.hbm, 0xC000⟩; (Fresh s src 0x0710 c) ∧ (allZero c.payload 4 4 = true) ∧
    (id = u32 c.payload 0) ∧ (addr = u64 c.payload 8) ∧ (len = u64 c.payload 0x10) ∧ (id < 1024) ∧ (addr % 64 = 0) ∧
    (addr < hbmSize) ∧ (addr + len ≤ hbmSize) ∧ (g = ⟨s.m.hbm, addr⟩) ∧ (s.m.mouth.grammars.has id = false) ∧
    (g.ok len ((s.m.tokImage g.tokenizer).map (·.vocab)) = true)) ∧
  (let s : State := go (withGrammar (world 1)) 0x0711 [(8, 0)]; let src : Src := .mbox 0; let c : RunCmd := cm s src;
    let id : Nat := 0; (Fresh s src 0x0711 c) ∧ (allZero c.payload 4 4 = true) ∧ (id = u32 c.payload 0) ∧
    (s.m.mouth.grammars.has id = true) ∧ ((∀ k ∈ s.m.caps.slots.vals, liveState k.state = true → k.grammar ≠ id))) ∧
  (let s : State := go (withGrammar (world 1)) 0x0712 [(4, 0), (4, 0), (4, 0xFFFFFFFF), (4, 0)]; let src : Src := .mbox 0;
    let c : RunCmd := cm s; let id : Nat := 0; let gid : Nat := 0; let st : Nat := 0xFFFFFFFF; let k : Capsule := cap0 1;
    let g : GramImage := ⟨s.m.hbm, 0xC000⟩; (Fresh s src 0x0712 c) ∧ (allZero c.payload 0x0C 4 = true) ∧
    (id = u32 c.payload 0) ∧ (gid = u32 c.payload 4) ∧ (st = u32 c.payload 8) ∧ (id % 256 ≠ 255) ∧
    (s.m.capsule id = some k) ∧ (s.m.gramImage gid = some g) ∧ (g.tokenizer = k.tokenizer) ∧ (gid ≠ 0xFFFFFFFF) ∧
    ((st = 0xFFFFFFFF ∨ st < g.states)) ∧ (MayWrite s.m c k) ∧ (s.m.requestOf id = none)) ∧
  (let s : State := go (withGrammar (asks 2)) 0x0712 [(4, 0), (4, 0), (4, 0), (4, 0)]; let src : Src := .mbox 0;
    let c : RunCmd := cm s; let id : Nat := 0; let gid : Nat := 0; let st : Nat := 0; let k : Capsule := cap0 2;
    let g : GramImage := ⟨s.m.hbm, 0xC000⟩; (Fresh s src 0x0712 c) ∧ (allZero c.payload 0x0C 4 = true) ∧
    (id = u32 c.payload 0) ∧ (gid = u32 c.payload 4) ∧ (st = u32 c.payload 8) ∧ (id % 256 ≠ 255) ∧
    (s.m.capsule id = some k) ∧ (s.m.gramImage gid = some g) ∧ (g.tokenizer = k.tokenizer) ∧ (gid ≠ 0xFFFFFFFF) ∧
    ((st = 0xFFFFFFFF ∨ st < g.states)) ∧ (MayWrite s.m c k) ∧ (let i := 0; let r := req0 2;
    (s.m.requestOf id = some (i, r)) ∧ (r.state = 2))) ∧
  (let s : State := go (withGrammar (asks 1)) 0x0712 [(4, 0), (4, 0), (4, 0), (4, 0)]; let src : Src := .mbox 0;
    let c : RunCmd := cm s; let id : Nat := 0; let gid : Nat := 0; let st : Nat := 0; let k : Capsule := cap0 2;
    let g : GramImage := ⟨s.m.hbm, 0xC000⟩; (Fresh s src 0x0712 c) ∧ (allZero c.payload 0x0C 4 = true) ∧
    (id = u32 c.payload 0) ∧ (gid = u32 c.payload 4) ∧ (st = u32 c.payload 8) ∧ (id % 256 ≠ 255) ∧
    (s.m.capsule id = some k) ∧ (s.m.gramImage gid = some g) ∧ (g.tokenizer = k.tokenizer) ∧ (gid ≠ 0xFFFFFFFF) ∧
    ((st = 0xFFFFFFFF ∨ st < g.states)) ∧ (MayWrite s.m c k) ∧ (let i := 0; let r := req0 1;
    (s.m.requestOf id = some (i, r)) ∧ (r.state ≠ 2))) ∧
  (let s : State := go (world 1) 0x0720 [(2, 4095), (1, 16), (5, 0), (1, 65)]; let src : Src := .mbox 0;
    let c : RunCmd := cm s src; let set : Nat := 4095; let n : Nat := 16;
    (Fresh s src 0x0720 c) ∧ (allZero c.payload 3 5 = true) ∧ (set = u16 c.payload 0) ∧ (n = u8 c.payload 2) ∧
    (set < 4096) ∧ (n ≤ 16) ∧ (let v := bad 8; (stopFault c.payload n = some v))) ∧
  (let s : State := go (world 1) 0x0720 [(2, 4095), (1, 1), (5, 0), (1, 2), (7, 0), (2, 0x4241)]; let src : Src := .mbox 0;
    let c : RunCmd := cm s src; let set : Nat := 4095; let n : Nat := 1;
    (Fresh s src 0x0720 c) ∧ (allZero c.payload 3 5 = true) ∧ (set = u16 c.payload 0) ∧ (n = u8 c.payload 2) ∧
    (set < 4096) ∧ (n ≤ 16) ∧ (stopFault c.payload n = none) ∧ ((∀ r ∈ s.m.steps.reqs.vals, r.text.stopSet ≠ set ∧
    r.newText.map (·.1) ≠ some set)) ∧ ((∀ x ∈ s.m.mirror.shadow.vals, u16 x.text 4 ≠ set))) ∧
  (let s : State := go (withGrammar (asks 5)) 0x0721 [(4, 0), (4, 0), (2, 5), (1, 3), (5, 0)]; let src : Src := .mbox 0;
    let c : RunCmd := cm s src; let i : Nat := 0; let set : Nat := 5; let fl : Nat := 3; let r : Req := req0 5;
    (Fresh s src 0x0721 c) ∧ (allZero c.payload 0x0B 5 = true) ∧ (i = u32 c.payload 4) ∧ (set = u16 c.payload 8) ∧
    (fl = u8 c.payload 0x0A) ∧ (fl ≤ 3) ∧ (WritesRequest s.m c (u32 c.payload 0) i r) ∧
    ((set = 0xFFFF ∨ s.m.mouth.stops.has set = true)) ∧ (r.state = 5)) ∧
  (let s : State := go (withGrammar (asks 2)) 0x0721 [(4, 0), (4, 0), (2, 5), (1, 3), (5, 0)]; let src : Src := .mbox 0;
    let c : RunCmd := cm s src; let i : Nat := 0; let set : Nat := 5; let fl : Nat := 3; let r : Req := req0 2;
    (Fresh s src 0x0721 c) ∧ (allZero c.payload 0x0B 5 = true) ∧ (i = u32 c.payload 4) ∧ (set = u16 c.payload 8) ∧
    (fl = u8 c.payload 0x0A) ∧ (fl ≤ 3) ∧ (WritesRequest s.m c (u32 c.payload 0) i r) ∧
    ((set = 0xFFFF ∨ s.m.mouth.stops.has set = true)) ∧ (r.state = 2)) ∧
  (let s : State := go (withGrammar (asks 1)) 0x0721 [(4, 0), (4, 0), (2, 0xFFFF), (1, 0), (5, 0)];
    let src : Src := .mbox 0; let c : RunCmd := cm s src; let i : Nat := 0; let set : Nat := 0xFFFF; let fl : Nat := 0;
    let r : Req := req0 1; (Fresh s src 0x0721 c) ∧ (allZero c.payload 0x0B 5 = true) ∧ (i = u32 c.payload 4) ∧
    (set = u16 c.payload 8) ∧ (fl = u8 c.payload 0x0A) ∧ (fl ≤ 3) ∧ (WritesRequest s.m c (u32 c.payload 0) i r) ∧
    ((set = 0xFFFF ∨ s.m.mouth.stops.has set = true)) ∧ (r.state ≠ 2) ∧ (r.state ≠ 5)) ∧
  (let s : State := go (world 1) 0x0730 [(2, 0), (2, 0), (4, 1), (8, 0x1000), (8, 0x2000), (4, 0), (4, 0)];
    let b : Nat := 0; let len : Nat := 1; let max : Nat := 0; let c : RunCmd := cm s; let t : TokImage := ⟨s.m.hbm, 0x8000⟩;
    let ts : List Nat := [0]; let reps : Nat := 0; (Fresh s (.mbox b) 0x0730 c) ∧ (allZero c.payload 2 2 = true) ∧
    (allZero c.payload 0x1C 4 = true) ∧ (s.m.tokImage (u16 c.payload 0) = some t) ∧ (len = u32 c.payload 4) ∧
    (max = u32 c.payload 0x18) ∧ (1 ≤ len) ∧ (len ≤ 16777216) ∧ (s.m.host.linkUp = true) ∧ (s.m.host.d3hot = false) ∧
    (t.tokenize [] (s.m.hostMem.rdN (u64 c.payload 8) len) = (ts, reps, []))) ∧
  (let s : State := go (world 1) 0x0731 [(4, 0)]; let src : Src := .mbox 0; let c : RunCmd := cm s src; let id : Nat := 0;
    let k : Capsule := cap0 1; (Fresh s src 0x0731 c) ∧ (id = u32 c.payload 0) ∧ (id % 256 ≠ 255) ∧
    (s.m.capsule id = some k) ∧ (MayWrite s.m c k) ∧ (k.carry = [])) ∧
  (let s : State := go (let m := world 1;
    { m with caps := { m.caps with slots := [(0, { cap0 1 with carry := [0xE2, 0x82] })] } }) 0x0731 [(4, 0)];
    let src : Src := .mbox 0; let c : RunCmd := cm s src; let id : Nat := 0;
    let k : Capsule := { cap0 1 with carry := [0xE2, 0x82] }; (Fresh s src 0x0731 c) ∧ (id = u32 c.payload 0) ∧
    (id % 256 ≠ 255) ∧ (s.m.capsule id = some k) ∧ (MayWrite s.m c k) ∧ (k.carry ≠ []) ∧ (s.m.requestOf id = none)) ∧
  (let s : State := let m := steps1 (step1 false false none);
    atRest { m with steps := { m.steps with parts := [(0, { PartSteps.blank with live := [{ step1 false false none with seqs := [{ seq0 false with hands := [⟨0, 7, 0, 0, false⟩] }] }] })] } };
    let p : Nat := 0; let i : Nat := 0;
    let l : LiveStep := { step1 false false none with seqs := [{ seq0 false with hands := [⟨0, 7, 0, 0, false⟩] }] };
    let q : Seq := { seq0 false with hands := [⟨0, 7, 0, 0, false⟩] }; let h : HandOff := ⟨0, 7, 0, 0, false⟩;
    (p < 8) ∧ (s.m.live = true) ∧ ((s.m.pstep p).live.findSome? (fun l => (l.seqs.find? (fun q => q.request == i)).bind (fun q => (q.hands.find? (fun h => !h.written)).map (fun h => (l,
    q, h)))) = some (l, q, h))) ∧
  (let stops : List Bytes := [[0x41, 0x42]]; let incl : Bool := true; let hold : Bytes := [0x41]; let new : Bytes := [0x43];
    (let r := detokStep stops incl hold new; (r.2.2.2 = false))) ∧
  (let stops : List Bytes := [[0x41, 0x42]]; let incl : Bool := true; let hold : Bytes := [0x41]; let new : Bytes := [0x42];
    (let r := detokStep stops incl hold new; (r.2.2.2 = true))) := by
  refine ⟨?_, ?_, ⟨by decide +kernel, by decide +kernel, by decide +kernel, by decide +kernel, by decide +kernel,
    by decide +kernel, ⟨by decide +kernel, by decide +kernel, by decide +kernel, by decide +kernel,
    image_ok_of _ (go_hbm _ _ _ _)⟩⟩, ?_, ?_, ⟨by decide +kernel, by decide +kernel, by decide +kernel, by decide +kernel,
    by decide +kernel, by decide +kernel, ⟨by decide +kernel, by decide +kernel, by decide +kernel, rfl, by decide +kernel,
    by decide +kernel⟩⟩, ⟨by decide +kernel, by decide +kernel, by decide +kernel, by decide +kernel, by decide +kernel,
    by decide +kernel, ⟨by decide +kernel, by decide +kernel, by decide +kernel, rfl, by decide +kernel,
    by decide +kernel⟩⟩, ?_, ⟨⟨by decide +kernel, by decide +kernel, by decide +kernel, by decide +kernel,
    by decide +kernel, by decide +kernel, ⟨by decide +kernel, rfl, by decide +kernel, by decide +kernel, by decide +kernel,
    by decide +kernel, by decide +kernel⟩⟩, ⟨by decide +kernel, by decide +kernel, by decide +kernel, by decide +kernel,
    by decide +kernel, by decide +kernel, ⟨by decide +kernel, rfl, by decide +kernel, by decide +kernel, by decide +kernel,
    by decide +kernel, by decide +kernel, by decide⟩⟩, ⟨by decide +kernel, by decide +kernel, by decide +kernel,
    by decide +kernel, by decide +kernel, by decide +kernel, ⟨by decide +kernel, rfl, by decide +kernel, by decide +kernel,
    by decide +kernel, by decide +kernel, by decide +kernel, by decide⟩⟩, ?_, ?_, ?_, ?_, ?_, ⟨⟨by decide +kernel,
    by decide +kernel, by decide +kernel, rfl, by decide +kernel, by decide +kernel, ⟨by decide +kernel, by decide +kernel,
    by decide +kernel, by decide +kernel, by decide +kernel⟩⟩, ?_, ?_, ?_, ?_, ?_⟩⟩⟩ <;> decide +kernel

end Sys2Proof.Tests
end

