-- ==== Sys2Proof/Tests/WitnessPort.lean ====
section
/-!
SUPPORT. For each statement about ports, queues, gates and arbiters: states and operands that meet the hypotheses of each of its clauses.
-/

namespace Sys2Proof.Tests

-- The evaluations below wait for one another, so that they run one at a time and hold one stack.
set_option Elab.async false

open Sys2Proof Sys2Proof.Machine

/-- The module with its network block changed: endpoint 9 is a front end of partition 0, endpoint 5 a dense pool's. -/
def netted (f : BellSt → BellSt) (m : Module := world 1) : Module :=
  { m with bell := f { m.bell with map := [(5, ⟨5, 4, 0, 7, 3, 12⟩), (9, ⟨9, 1, 0, 7, 1, 0⟩)] } }

/-- Sub-port 15 stands as given. -/
def port15 (x : SubPort) (m : Module := netted id) : Module := m.setSubport 15 x

/-- A gate list: two intervals of 400 ns and 600 ns from the time 100. -/
def gates0 : GateList := ⟨100, [(1, 400), (254, 600)]⟩

/-- A frame to endpoint 9. -/
def qf (n since : Nat) : QFrame := ⟨.write 9 0 (zeros n), n, since⟩

/-- A queue of partition 0 bound to endpoint 9. -/
def q0 : EgressQueue := { EgressQueue.blank with partition := 0, tc := 3, bind := 9, frames := [qf 100 1999999000000] }

/-- BELL_QUEUE_SET of queue 20 for partition 0, bound to an endpoint. -/
def queueSet (bind : Nat) : List (Nat × Nat) :=
  [(2, 20), (1, 15), (1, 7), (1, 0), (1, 4), (2, 0), (4, bind), (4, 0), (8, 1000), (8, 2000), (4, 9000), (4, 9000)]

/-- An arbiter with two requests that wait, or with a holder. -/
def reed2 (holder : Option ReedReq) : ReedInst :=
  ⟨[⟨4, 0, 100, 1, 0, false⟩, ⟨9, 0, 50, 1, 0, false⟩], holder, 1999999000000, 4, 0⟩

/-- The module whose arbiter i stands as given. -/
def withReed (i : Nat) (x : ReedInst) (m : Module := netted id) : Module := { m with reed := [(i, x)] }


/-- The hypotheses of PortsQueuesGatesAndArbiters are met. -/
theorem witness_PortsQueuesGatesAndArbiters :
  (let s : State := go (port15 { SubPort.reset with nextGates := some gates0 }) 0x1000 [(1, 3), (1, 3), (2, 9000), (2,
    4095), (2, 0)]; let src : Src := .mbox 0; let c : RunCmd := cm s src; let b : Bytes := (cm s).payload; let p : Nat := 3;
    (Fresh s src 0x1000 c) ∧ (b = c.payload) ∧ (p = u8 b 0) ∧ (allZero b 6 2 = true) ∧ (p ≤ 3) ∧ (u8 b 1 ≤ 3) ∧
    (1500 ≤ u16 b 2) ∧ (u16 b 2 ≤ 9000) ∧ (bits (u16 b 4) 14 12 = 0) ∧
    ((∃ i < 4, (s.m.subport (4 * p + i)).nextGates ≠ none))) ∧
  (let s : State := go (netted id) 0x1000 [(1, 3), (1, 1), (2, 1500), (2, 0x8FFF), (2, 0)]; let src : Src := .mbox 0;
    let c : RunCmd := cm s src; let b : Bytes := (cm s).payload; let p : Nat := 3;
    (Fresh s src 0x1000 c) ∧ (b = c.payload) ∧ (p = u8 b 0) ∧ (allZero b 6 2 = true) ∧ (p ≤ 3) ∧ (u8 b 1 ≤ 3) ∧
    (1500 ≤ u16 b 2) ∧ (u16 b 2 ≤ 9000) ∧ (bits (u16 b 4) 14 12 = 0) ∧
    ((∀ i < 4, (s.m.subport (4 * p + i)).nextGates = none))) ∧
  (let s : State := go (port15 { SubPort.reset with up := true, lastChange := 77 }) 0x1001 [(8, 3)];
    let src : Src := .mbox 0; let c : RunCmd := cm s src; let p : Nat := 3;
    (Fresh s src 0x1001 c) ∧ (p = u8 c.payload 0) ∧ (allZero c.payload 1 7 = true) ∧ (p ≤ 3)) ∧
  (let s : State := go (netted (fun b => { b with map := [(9, ⟨9, 1, 1, 7, 1, 0⟩)] })) 0x1010 (queueSet 9);
    let src : Src := .mbox 0; let c : RunCmd := cm s src; let b : Bytes := (cm s).payload; let q : Nat := 20;
    let part : Nat := 0; let bind : Nat := 9; (Fresh s src 0x1010 c) ∧ (b = c.payload) ∧ (q = u16 b 0) ∧ (part = u8 b 4) ∧
    (bind = u32 b 8) ∧ (allZero b 6 2 = true) ∧ (allZero b 0x0C 4 = true) ∧ (q ≤ 4095) ∧ (u8 b 2 ≤ 15) ∧ (u8 b 3 ≤ 7) ∧
    ((part ≤ 7 ∨ part = 0xFF)) ∧ ((q < 8 → part = q)) ∧ ((8 ≤ q → q < 16 → part = q - 8)) ∧
    ((16 ≤ q → q < 18 → part = 0xFF)) ∧ (1 ≤ u8 b 5) ∧ ((q < 18 → bind = 0)) ∧ (u64 b 0x10 ≤ u64 b 0x18) ∧
    (9000 ≤ u32 b 0x20) ∧ (9000 ≤ u32 b 0x24) ∧ ((∀ x ∈ s.m.bell.ports, x.mtu ≤ 9000)) ∧ (let e := ⟨9, 1, 1, 7, 1, 0⟩;
    (bind ≠ 0) ∧ (s.m.endpoint bind = some e) ∧ (e.partition ≠ part) ∧ (e.partition ≠ 0xFF))) ∧
  (let s : State := go (netted (fun b => { b with queues := [(19, q0)] })) 0x1010 (queueSet 9); let src : Src := .mbox 0;
    let c : RunCmd := cm s src; let b : Bytes := (cm s).payload; let q : Nat := 20; let part : Nat := 0;
    let bind : Nat := 9; (Fresh s src 0x1010 c) ∧ (b = c.payload) ∧ (q = u16 b 0) ∧ (part = u8 b 4) ∧ (bind = u32 b 8) ∧
    (allZero b 6 2 = true) ∧ (allZero b 0x0C 4 = true) ∧ (q ≤ 4095) ∧ (u8 b 2 ≤ 15) ∧ (u8 b 3 ≤ 7) ∧
    ((part ≤ 7 ∨ part = 0xFF)) ∧ ((q < 8 → part = q)) ∧ ((8 ≤ q → q < 16 → part = q - 8)) ∧
    ((16 ≤ q → q < 18 → part = 0xFF)) ∧ (1 ≤ u8 b 5) ∧ ((q < 18 → bind = 0)) ∧ (u64 b 0x10 ≤ u64 b 0x18) ∧
    (9000 ≤ u32 b 0x20) ∧ (9000 ≤ u32 b 0x24) ∧ ((∀ x ∈ s.m.bell.ports, x.mtu ≤ 9000)) ∧ (let e := ⟨9, 1, 0, 7, 1, 0⟩;
    let k := 19; let x := q0; (bind ≠ 0) ∧ (s.m.endpoint bind = some e) ∧ ((e.partition = part ∨ e.partition = 0xFF)) ∧
    ((k, x) ∈ s.m.bell.queues) ∧ (k ≠ q) ∧ (x.bind = bind))) ∧
  (let s : State := go (netted (fun b => { b with queues := [(19, { q0 with bind := 5 }), (20, q0)] })) 0x1010 (queueSet 9);
    let src : Src := .mbox 0; let c : RunCmd := cm s src; let b : Bytes := (cm s).payload; let q : Nat := 20;
    let part : Nat := 0; let bind : Nat := 9; (Fresh s src 0x1010 c) ∧ (b = c.payload) ∧ (q = u16 b 0) ∧ (part = u8 b 4) ∧
    (bind = u32 b 8) ∧ (allZero b 6 2 = true) ∧ (allZero b 0x0C 4 = true) ∧ (q ≤ 4095) ∧ (u8 b 2 ≤ 15) ∧ (u8 b 3 ≤ 7) ∧
    ((part ≤ 7 ∨ part = 0xFF)) ∧ ((q < 8 → part = q)) ∧ ((8 ≤ q → q < 16 → part = q - 8)) ∧
    ((16 ≤ q → q < 18 → part = 0xFF)) ∧ (1 ≤ u8 b 5) ∧ ((q < 18 → bind = 0)) ∧ (u64 b 0x10 ≤ u64 b 0x18) ∧
    (9000 ≤ u32 b 0x20) ∧ (9000 ≤ u32 b 0x24) ∧ ((∀ x ∈ s.m.bell.ports, x.mtu ≤ 9000)) ∧
    ((bind = 0 ∨ ((∃ e, s.m.endpoint bind = some e ∧ (e.partition = part ∨ e.partition = 0xFF)) ∧
    ∀ y ∈ s.m.bell.queues, y.1 = q ∨ y.2.bind ≠ bind)))) ∧
  (let s : State := go (netted (fun b => { b with queues := [(4095, { q0 with depthMax := 5, framesSent := 6 })] })) 0x1011 [(8,
    4095)]; let src : Src := .mbox 0; let c : RunCmd := cm s src; let q : Nat := 4095;
    (Fresh s src 0x1011 c) ∧ (q = u16 c.payload 0) ∧ (q ≤ 4095) ∧ (allZero c.payload 2 6 = true) ∧
    (let x := { q0 with depthMax := 5, framesSent := 6 }; (x = s.m.queue q))) ∧
  (let s : State := go (netted (fun b => { b with policers := [(1023, ⟨9, true, 0, 0, 0, 0, 0, 0, 0, 0⟩)] })) 0x1020 [(2,
    1023), (2, 0), (4, 0), (8, 0), (8, 0), (8, 0)]; let src : Src := .mbox 0; let c : RunCmd := cm s src;
    let b : Bytes := (cm s).payload; let k : Nat := 1023; let e : Nat := 0;
    (Fresh s src 0x1020 c) ∧ (b = c.payload) ∧ (k = u16 b 0) ∧ (e = u32 b 4) ∧ (k ≤ 1023) ∧ (u8 b 2 ≤ 1) ∧
    (allZero b 3 1 = true) ∧ (u64 b 8 ≤ u64 b 0x10) ∧ (e = 0)) ∧
  (let s : State := go (netted (fun b => { b with policers := [(1023, ⟨9, true, 0, 0, 0, 0, 0, 0, 0, 0⟩)] })) 0x1020 [(2,
    1), (2, 1), (4, 9), (8, 1), (8, 2), (4, 3), (4, 4)]; let src : Src := .mbox 0; let c : RunCmd := cm s src;
    let b : Bytes := (cm s).payload; let k : Nat := 1; let e : Nat := 9;
    (Fresh s src 0x1020 c) ∧ (b = c.payload) ∧ (k = u16 b 0) ∧ (e = u32 b 4) ∧ (k ≤ 1023) ∧ (u8 b 2 ≤ 1) ∧
    (allZero b 3 1 = true) ∧ (u64 b 8 ≤ u64 b 0x10) ∧ (let x := ⟨9, 1, 0, 7, 1, 0⟩;
    (e ≠ 0) ∧ (s.m.endpoint e = some x) ∧ (x.kind = 1) ∧ ((∃ y ∈ s.m.bell.policers, y.1 ≠ k ∧ y.2.endpoint = e)))) ∧
  (let s : State := go (netted id) 0x1020 [(2, 1), (2, 1), (4, 9), (8, 1), (8, 2), (4, 3), (4, 4)];
    let src : Src := .mbox 0; let c : RunCmd := cm s src; let b : Bytes := (cm s).payload; let k : Nat := 1;
    let e : Nat := 9; (Fresh s src 0x1020 c) ∧ (b = c.payload) ∧ (k = u16 b 0) ∧ (e = u32 b 4) ∧ (k ≤ 1023) ∧ (u8 b 2 ≤ 1) ∧
    (allZero b 3 1 = true) ∧ (u64 b 8 ≤ u64 b 0x10) ∧ (let x := ⟨9, 1, 0, 7, 1, 0⟩;
    (e ≠ 0) ∧ (s.m.endpoint e = some x) ∧ (x.kind = 1) ∧ ((∀ y ∈ s.m.bell.policers, y.1 = k ∨ y.2.endpoint ≠ e)))) ∧
  (let s : State := go (port15 { SubPort.reset with nextGates := some gates0 }) 0x1030 [(2, 15), (2, 256), (4, 0), (8, 5),
    (8, 64)]; let src : Src := .mbox 0; let c : RunCmd := cm s src; let b : Bytes := (cm s).payload; let sp : Nat := 15;
    let n : Nat := 256; let addr : Nat := 64; (Fresh s src 0x1030 c) ∧ (b = c.payload) ∧ (sp = u8 b 0) ∧ (n = u16 b 2) ∧
    (addr = u64 b 0x10) ∧ (allZero b 1 1 = true) ∧ (allZero b 4 4 = true) ∧ (sp ≤ 15) ∧ (1 ≤ n) ∧ (n ≤ 256) ∧
    ((s.m.subport sp).nextGates ≠ none)) ∧
  (let s : State := go (let m := port15 SubPort.reset;
    { m with hostMem := m.hostMem.wrN 64 (pay [(4, 1), (4, 100), (4, 254), (4, 1000000000)]) }) 0x1030 [(2, 15), (2, 2), (4,
    0), (8, 5), (8, 64)]; let src : Src := .mbox 0; let c : RunCmd := cm s src; let b : Bytes := (cm s).payload;
    let sp : Nat := 15; let n : Nat := 2; let addr : Nat := 64;
    (Fresh s src 0x1030 c) ∧ (b = c.payload) ∧ (sp = u8 b 0) ∧ (n = u16 b 2) ∧ (addr = u64 b 0x10) ∧
    (allZero b 1 1 = true) ∧ (allZero b 4 4 = true) ∧ (sp ≤ 15) ∧ (1 ≤ n) ∧ (n ≤ 256) ∧
    ((s.m.subport sp).nextGates = none) ∧ (s.m.host.linkUp = true) ∧ (s.m.host.d3hot = false) ∧
    (let es := [pay [(4, 1), (4, 100)], pay [(4, 254), (4, 1000000000)]];
    (es = (List.range n).map (fun i => s.m.cmdRead c (addr + 8 * i) 8)) ∧ ((∀ e ∈ es, allZero e 1 3 = true ∧ 100 ≤ u32 e 4 ∧
    u32 e 4 ≤ 1000000000)))) ∧
  (let s : State := go (netted id) 0x1031 [(8, 6)]; let src : Src := .mbox 0; let c : RunCmd := cm s src; let e : Nat := 6;
    (Fresh s src 0x1031 c) ∧ (e = u32 c.payload 0) ∧ (allZero c.payload 4 4 = true) ∧ (s.m.endpoint e = none)) ∧
  (let s : State := go (netted id) 0x1031 [(8, 5)]; let src : Src := .mbox 0; let c : RunCmd := cm s src; let e : Nat := 5;
    (Fresh s src 0x1031 c) ∧ (e = u32 c.payload 0) ∧ (allZero c.payload 4 4 = true) ∧ (let x := ⟨5, 4, 0, 7, 3, 12⟩;
    (s.m.endpoint e = some x))) ∧
  (let s : State := atRest (netted id); let sp : Nat := 15; (s.m.live = true) ∧ (sp < 16) ∧
    (s.m.waitingCmds 0x1000 (fun c => (c.data.drop 1).contains sp) = [])) ∧
  (let s : State := let t := go (netted id) 0x1000 [];
    { t with m := { t.m with host := { t.m.host with running := t.m.host.running.map (fun c => { c with stage := .waiting, data := [3, 12] }) } } };
    let sp : Nat := 12; (s.m.live = true) ∧ (sp < 16) ∧ (let c := cm s;
    (s.m.waitingCmds 0x1000 (fun c => (c.data.drop 1).contains sp) = [c]) ∧ ((∀ i ∈ c.data.drop 1, i = sp)))) ∧
  (let s : State := atRest ((netted id).set Reg.BELL.PFC_CLASSES 0x0F); let sp : Nat := 15;
    (s.m.live = true) ∧ (sp < 16) ∧ (s.m.bell.subports.length = 16)) ∧
  (let s : State := atRest (netted (fun b => { b with queues := [(4095, { q0 with depthMax := 5, framesSent := 6 })] }));
    (s.m.live = true)) ∧
  (let s : State := atRest (port15 { SubPort.reset with gates := some gates0 }); let sp : Nat := 15;
    let g : GateList := gates0; (s.m.live = true) ∧ (sp < 16) ∧ ((s.m.subport sp).gates = some g) ∧
    ((s.m.subport sp).nextGates = none)) ∧
  (let s : State := atRest (port15 { SubPort.reset with nextGates := some gates0 }); let sp : Nat := 15;
    let g : GateList := gates0; (s.m.live = true) ∧ (sp < 16) ∧ ((s.m.subport sp).gates = none) ∧
    ((s.m.subport sp).nextGates = some g) ∧ (g.baseTime ≤ s.m.clk.now) ∧ (s.m.bell.subports.length = 16)) ∧
  (let s : State := atRest (netted (fun b => { b with qps := [(5, ⟨5, false, false⟩)] })); let e : Nat := 5;
    let qp : QueuePair := ⟨5, false, false⟩; (s.m.live = true) ∧ (s.m.bell.qps.get e = some qp) ∧
    (let x := ⟨5, 4, 0, 7, 3, 12⟩; (s.m.endpoint e = some x) ∧ (x.partition < 8))) ∧
  (let s : State := atRest (netted (fun b => { b with qps := [(5, ⟨5, false, false⟩)] })); let e : Nat := 5;
    let qp : QueuePair := ⟨5, false, false⟩; (s.m.live = true) ∧ (s.m.bell.qps.get e = some qp)) ∧
  (let s : State := atRest (netted id); let sp : Nat := 15; (s.m.live = true) ∧ (sp < 16) ∧ ((s.m.subport sp).up = false)) ∧
  (let s : State := atRest ((netted (fun b => { b with queues := [(19, { q0 with portMask := 8 })] })).setSubport 12 { SubPort.reset with up := true });
    let sp : Nat := 12; (s.m.live = true) ∧ (sp < 16) ∧ ((s.m.subport sp).up = true) ∧ (s.m.bell.subports.length = 16) ∧
    (s.m.bell.queues.wf = true) ∧ (let m : Module := s.m.dropOversize 12;
    let ok : Nat × EgressQueue × QFrame → Prop := fun z => ∃ x0, (z.1, x0) ∈ m.bell.queues ∧ z.2.1 = x0.fill m.clk.mono ∧
    m.headOn sp z.2.1 = some z.2.2 ∧ (z.2.2.pkt.ungated = true ∨ m.gateFits sp z.2.1.tc z.2.2.bytes = true) ∧
    m.flowFirst z.1 z.2.2 = true ∧ bit (s.m.subport sp).paused z.2.1.tc = false ∧
    (z.2.1.pir = 0 ∨ z.2.2.bytes ≤ z.2.1.pLevel); (m = s.m.dropOversize sp) ∧
    ((∀ q x f, ok (q, x, f) ↔ ∃ x0, (q, x0) ∈ m.bell.queues ∧ x = x0.fill m.clk.mono ∧ m.headOn sp x = some f ∧
    (f.pkt.ungated = true ∨ m.gateFits sp x.tc f.bytes = true) ∧ m.flowFirst q f = true ∧
    bit (s.m.subport sp).paused x.tc = false ∧ (x.pir = 0 ∨ f.bytes ≤ x.pLevel))))) ∧
  (let m : Module := withReed 3 (reed2 none); let lr : Nat → Nat := fun _ => 1; let i : Nat := 3;
    let x : ReedInst := reed2 none; let cands : List ReedReq := (reed2 none).waiting;
    (x = m.reedInst i) ∧ (x.holder = none) ∧ (cands = x.waiting.filter (m.reedEligible lr i)) ∧ (cands ≠ []) ∧
    (m.reed.wf = true)) ∧
  (let s : State := atRest (withReed 3 (reed2 none)); let i : Nat := 3;
    (s.m.live = true) ∧ (i < 93) ∧ (¬(72 ≤ i ∧ i < 88))) ∧
  (let s : State := atRest (withReed 87 (reed2 none) (port15 { SubPort.reset with atArbiter := [(4 * 16, qf 100 5), (9 * 16, qf 200 6)] }));
    let i : Nat := 87; (s.m.live = true) ∧ (i < 93) ∧ (72 ≤ i) ∧ (i < 88)) ∧
  (let m : Module := withReed 87 (reed2 (some ⟨4, 0, 100, 1, 0,
    false⟩)) (port15 { SubPort.reset with atArbiter := [(4 * 16, qf 100 5)] }); let sp : Nat := 15;
    let h : ReedReq := ⟨4, 0, 100, 1, 0, false⟩; let f : QFrame := qf 100 5;
    ((m.reedInst (72 + sp)).holder = some h) ∧ ((m.subport sp).atArbiter = [(h.requester * 16 + h.tag, f)])) ∧
  (let s : State := atRest (withReed 88 (reed2 (some ⟨4, 0, 100, 1, 0, false⟩))); let i : Nat := 88;
    let x : ReedInst := reed2 (some ⟨4, 0, 100, 1, 0, false⟩); let h : ReedReq := ⟨4, 0, 100, 1, 0, false⟩;
    (s.m.live = true) ∧ (i < 93) ∧ (x = s.m.reedInst i) ∧ (x.holder = some h) ∧
    (s.m.flag (reedFld Reg.REED.CTRL_SLOT i) = false) ∧ (i < 89)) ∧
  (let s : State := atRest ((withReed 89 (reed2 (some ⟨4, 0, 100, 1, 0, false⟩))).set (reedFld Reg.REED.CTRL_SLOT 89) 0);
    let i : Nat := 89; let x : ReedInst := reed2 (some ⟨4, 0, 100, 1, 0, false⟩);
    let h : ReedReq := ⟨4, 0, 100, 1, 0, false⟩; (s.m.live = true) ∧ (i < 93) ∧ (x = s.m.reedInst i) ∧ (x.holder = some h) ∧
    (s.m.flag (reedFld Reg.REED.CTRL_SLOT i) = false) ∧ (89 ≤ i)) := by
  refine ⟨?_, ?_, ?_, ?_, ?_, ⟨by decide +kernel, by decide +kernel, by decide +kernel, by decide +kernel,
    by decide +kernel, by decide +kernel, ⟨by decide +kernel, by decide +kernel, by decide +kernel, by decide +kernel,
    by decide +kernel, by decide +kernel, ⟨by decide +kernel, by decide +kernel, by decide +kernel, by decide +kernel,
    by decide +kernel, by decide +kernel, ⟨by decide +kernel, by decide +kernel, .inr ⟨⟨⟨9, 1, 0, 7, 1, 0⟩,
    by decide +kernel, .inl rfl⟩, by decide +kernel⟩⟩⟩⟩⟩, ?_, ?_, ⟨?_, ?_, ?_, ?_, ?_, ?_, ?_, ?_, ⟨?_, ?_, ?_, ?_, ?_, ?_,
    ?_, ⟨by decide +kernel, by decide +kernel, by decide +kernel, by decide +kernel, by decide +kernel, rfl,
    fun _ _ _ => Iff.rfl⟩, ⟨?_, ?_, ?_, ?_, ?_, ?_⟩⟩⟩⟩ <;> decide +kernel

end Sys2Proof.Tests
end

