-- ==== Sys2Proof/Tests/WitnessPower.lean ====
section
/-!
SUPPORT. For each statement about power, resets, start-up and diagnostics: states and operands that meet the hypotheses of each of its clauses.
-/

namespace Sys2Proof.Tests

-- The evaluations below wait for one another, so that they run one at a time and hold one stack.
set_option Elab.async false

open Sys2Proof Sys2Proof.Machine

/-- The power block of a module changed. -/
def powered (f : PowerSt → PowerSt) (m : Module := world 1) : Module := { m with power := f m.power }

/-- The module whose record region holds a sector with a valid record. -/
def records : Module :=
  let m := world 1
  { m with ev := { m.ev with
    sectors := [(0, ⟨1, 1, 112, true, false, [(⟨0x1304, 0xFF, 1, 1, 5, 0, 1, zeros 8⟩, .valid)]⟩)], nextSectorSeq := 2,
      nextSeq := 2 } }

/-- The firmware images that the power tests run: images of version 9 in both slots, with rollback 3. -/
def withFirmware (m : Module) : Module :=
  let k : FwKind := ⟨⟨9, zeros 64⟩, none, false, none, 3, []⟩
  { m with secur := { m.secur with dyone := k, crook := k, log := [⟨1, 0, 9, 0xFF, zeros 64⟩, ⟨2, 0, 9, 0xFF, zeros 64⟩] } }

/-- Partition 0 in Mute mode. -/
def muted (m : Module := world 1) : Module :=
  { m with parts := [⟨0xFFFF, 0, 1024, 3, 0, 0, 0, 2048⟩] ++ List.replicate 7 ⟨0, 0, 0, 0, 0, 0, 0, 0⟩ }

/-- The straps and self-test results of a start. -/
def startIn (ok : Bool) : StartIn := ⟨some 5000, some 10000, 5000, ok, ok, true, true, 0, 0, [], 0⟩

/-- TEST_PERTURB of slot 3 on a path, with its mode, partition, amount and duration. -/
def perturb (path mode p amount dur : Nat) : List (Nat × Nat) := [(1, 3), (1, path), (1, mode), (1, p), (4, amount), (4,
  dur), (4, 0)]


/-- The hypotheses of PowerActsAndStaysHidden are met. -/
theorem witness_PowerActsAndStaysHidden :
  (let s : State := go (powered (fun p => { p with hints := [⟨2, 1000, 2000, false⟩] })) 0x1500 [(1, 6), (1, 3), (2, 0), (4,
    10), (4, 10000000), (4, 0)]; let src : Src := .mbox 0; let c : RunCmd := cm s src; let b : Bytes := (cm s).payload;
    (Fresh s src 0x1500 c) ∧ (b = c.payload) ∧ (allZero b 2 2 = true) ∧ (allZero b 0x0C 4 = true) ∧ (1 ≤ u8 b 0) ∧
    (u8 b 0 ≤ 6) ∧ (1 ≤ u8 b 1) ∧ (u8 b 1 ≤ 3) ∧ (10 ≤ u32 b 4) ∧ (u32 b 4 ≤ 10000) ∧ (1 ≤ u32 b 8) ∧ (u32 b 8 ≤ 10000000) ∧
    (let h : BreathHint := ⟨u8 b 1, s.m.clk.mono + u32 b 4 * 1000 - 10000, s.m.clk.mono + (u32 b 4 + u32 b 8) * 1000,
    false⟩; ((∀ x ∈ s.m.power.hints, h.until_ < x.from_ ∨ x.until_ < h.from_)))) ∧
  (let s : State := go (powered (fun p => { p with hints := [⟨2, 2000000000000, 2000000001000, false⟩] })) 0x1500 [(1, 1),
    (1, 1), (2, 0), (4, 10), (4, 1), (4, 0)]; let src : Src := .mbox 0; let c : RunCmd := cm s src;
    let b : Bytes := (cm s).payload; (Fresh s src 0x1500 c) ∧ (b = c.payload) ∧ (allZero b 2 2 = true) ∧
    (allZero b 0x0C 4 = true) ∧ (1 ≤ u8 b 0) ∧ (u8 b 0 ≤ 6) ∧ (1 ≤ u8 b 1) ∧ (u8 b 1 ≤ 3) ∧ (10 ≤ u32 b 4) ∧
    (u32 b 4 ≤ 10000) ∧ (1 ≤ u32 b 8) ∧ (u32 b 8 ≤ 10000000) ∧
    (let h : BreathHint := ⟨u8 b 1, s.m.clk.mono + u32 b 4 * 1000 - 10000, s.m.clk.mono + (u32 b 4 + u32 b 8) * 1000,
    false⟩; ((∃ x ∈ s.m.power.hints, x.from_ ≤ h.until_ ∧ h.from_ ≤ x.until_)))) ∧
  (let s : State := atRest (powered (fun p => { p with hints := [⟨1, 2000000005000, 2000000006000, false⟩, ⟨2, 2000000005000, 2000000006000, true⟩] }));
    let i : Nat := 1; let h : BreathHint := ⟨2, 2000000005000, 2000000006000, true⟩;
    (s.m.live = true) ∧ (s.m.power.hints[i]? = some h)) ∧
  (let s : State := atRest (powered (fun p => { p with lastSample := 2000000000000, highRuns := List.replicate 32 8 }));
    let mv : List Nat := 901 :: List.replicate 30 750 ++ [679]; let runs : List Nat := 9 :: List.replicate 31 0;
    (s.m.live = true) ∧ (mv.length = 32) ∧
    (runs = (List.range 32).map (fun i => if 900 < nthD mv i 0 then nthD s.m.power.highRuns i 0 + 1 else 0)) ∧
    ((∀ n ∈ runs, n < 10))) ∧
  (let s : State := atRest (powered (fun p => { p with lastSample := 2000000000000, highRuns := List.replicate 32 9 }));
    let mv : List Nat := 901 :: List.replicate 30 750 ++ [695]; let runs : List Nat := 10 :: List.replicate 31 0;
    (s.m.live = true) ∧ (mv.length = 32) ∧
    (runs = (List.range 32).map (fun i => if 900 < nthD mv i 0 then nthD s.m.power.highRuns i 0 + 1 else 0)) ∧
    ((∃ n ∈ runs, 10 ≤ n))) ∧
  (let s : State := atRest (let m := powered (fun p => { p with margin := 17, trimStart := 0 });
    { m with ev := { m.ev with opHours := 100 } }); (s.m.live = true) ∧ (s.m.power.trimStart + 100 ≤ s.m.ev.opHours)) ∧
  (let s : State := atRest (let m := powered (fun p => { p with margin := 17, trimStart := 0 });
    { m with ev := { m.ev with opHours := 99 } }); (s.m.live = true) ∧ (s.m.ev.opHours < s.m.power.trimStart + 100)) ∧
  (let s : State := atRest (powered (fun p => { p with lastWindow := 1999999999000, windows := List.replicate 100 1300, throttle := 3, thermal := true }));
    (s.m.live = true)) ∧
  (let m : Module := powered id; (m.power.phase = .started) ∧ (m.flag Reg.EVREC.STATUS_FULL = false)) ∧
  (let s : State := atRest (powered id); (s.m.power.phase = .started)) ∧
  (let s : State := atRest (withFirmware (powered (fun p => { p with phase := .holdup, returned := true, input := true }) (records)));
    (s.m.power.phase = .holdup)) ∧
  (let s : State := atRest (powered (fun p => { p with phase := .held })); (s.m.power.phase = .held)) ∧
  (let s : State := atRest (powered (fun p => { p with phase := .off })); (s.m.power.phase = .off)) ∧
  True ∧
  (let s : State := atRest (powered id); (s.m.power.input = true)) ∧
  (let m : Module := powered id; let margin : Nat := 25; let throttle : Nat := 4; let windows : List Nat := [5];
    let runs : List Nat := [1]; let thermal : Bool := true; let hold : Bool := true; let dip : Bool := true;
    let hints : List BreathHint := [⟨1, 2, 3, true⟩];
    let p : PowerSt := { m.power with margin := 25, throttle := 4, windows := [5], highRuns := [1], thermal := true, handshakeHold := true, trimDip := true, hints := [⟨1, 2, 3, true⟩] };
    (p = { m.power with margin := margin, throttle := throttle, windows := windows, highRuns := runs, thermal := thermal, handshakeHold := hold, trimDip := dip, hints := hints })) := by
  refine ⟨?_, ?_, ?_, ?_, ?_, ?_, ?_, ?_, ⟨?_, ?_, ?_, ?_, ?_, ?_, ?_, (by rfl)⟩⟩ <;> decide +kernel

/-- The hypotheses of ResetsStartUpAndDiagnosticsAct are met. -/
theorem witness_ResetsStartUpAndDiagnosticsAct :
  (let s : State := atRest (withFirmware (records)); (s.m.live = true) ∧
    (let p : Nat × Instr := (3, .moduleReset 0x01005A5A); (p ∈ ([(1, .resetNLow), (2, .perstNLow), (3,
    .moduleReset 0x01005A5A)] : List (Nat × Instr))) ∧ ((p.1 = 3 → s.m.host.linkUp = true ∧ s.m.host.d3hot = false)))) ∧
  (let s : State := atRest (powered id); let v : Nat := 0x01015A5B;
    (s.m.live = true) ∧ (s.m.host.linkUp = true) ∧ (s.m.host.d3hot = false) ∧ (v % 65536 ≠ 0x5A5A)) ∧
  (let s : State := atRest (powered id); let v : Nat := 0x01005A5A;
    (s.m.live = true) ∧ (s.m.host.linkUp = true) ∧ (s.m.host.d3hot = false) ∧ (v % 65536 = 0x5A5A) ∧ (bit v 24 = true)) ∧
  (let s : State := strands (w0 0 0 0 0 0 0); let v : Nat := 0x00015A5A;
    (s.m.live = true) ∧ (s.m.host.linkUp = true) ∧ (s.m.host.d3hot = false) ∧ (let p := 0;
    (p < 8) ∧ (v = 0x5A5A + 2 ^ (16 + p)) ∧ (s.m.present p = true))) ∧
  (let m : Module := let m := (strands (w0 0 0 0 0 0 0) thr0 (small (world 1))).m;
    { m with strand := { m.strand with jobs := [(0, job0), (1, { job0 with partition := 1 })], threads := [(2000, { thr0 with job := 1 }), (63, thr0)].reverse }, lig := { m.lig with objs := [(0, obj 1 0 0), (1, { obj 1 0 0 with partition := 1 })] } };
    let p : Nat := 0; (p < 8) ∧ (m.strand.threads.wf = true) ∧ (m.strand.jobs.wf = true) ∧ (m.lig.objs.wf = true) ∧
    (let m1 := m.partReset p; (let t := 2000; let th := { thr0 with job := 1 }; let j := { job0 with partition := 1 };
    (m1.strand.threads.get t = some th) ∧ (m.strand.jobs.get th.job = some j)))) ∧
  (let m : Module := let m := (strands (w0 0 0 0 0 0 0) thr0 (small (world 1))).m;
    { m with strand := { m.strand with jobs := [(0, job0), (1, { job0 with partition := 1 })], threads := [(2000, { thr0 with job := 1 }), (63, thr0)].reverse }, lig := { m.lig with objs := [(0, obj 1 0 0), (1, { obj 1 0 0 with partition := 1 })] } };
    let p : Nat := 0; (p < 8) ∧ (m.strand.threads.wf = true) ∧ (m.strand.jobs.wf = true) ∧ (m.lig.objs.wf = true) ∧
    (let m1 := m.partReset p; (let i := 1; let o := { obj 1 0 0 with partition := 1 }; (m1.lig.objs.get i = some o)))) ∧
  (let m : Module := (strands (w0 0 0 0 0 0 0)).m; let p : Nat := 0;
    (p < 8) ∧ (m.strand.threads.wf = true) ∧ (m.strand.jobs.wf = true) ∧ (m.lig.objs.wf = true)) ∧
  (let s : State := atRest (withFirmware (powered (fun p => { p with phase := .held }))); let x : StartIn := startIn false;
    (s.m.power.phase = .held) ∧ (s.m.power.input = true) ∧ (s.m.power.pwrEn = true) ∧
    ((s.m.secur.dyone.start x.dyone x.dyoneOther = none ∨ s.m.secur.crook.start x.crook x.crookOther = none))) ∧
  (let s : State := atRest (withFirmware (powered (fun p => { p with phase := .held, cause := 2 })));
    let x : StartIn := startIn true; (s.m.power.phase = .held) ∧ (s.m.power.input = true) ∧ (s.m.power.pwrEn = true) ∧
    (let d := s.m.secur.dyone; let k := s.m.secur.crook; (s.m.secur.dyone.start x.dyone x.dyoneOther = some d) ∧
    (s.m.secur.crook.start x.crook x.crookOther = some k))) ∧
  (let k : FwKind := ⟨⟨2, zeros 64⟩, some ⟨5, zeros 64⟩, false, some ⟨4, zeros 64⟩, 3, []⟩; let a : Bool := true;
    let b : Bool := true; let k1 : FwKind := ⟨⟨4, zeros 64⟩, some ⟨5, zeros 64⟩, false, none, 3, []⟩;
    (k.start a b = some k1)) ∧
  (let s : State := atRest (withFirmware (powered (fun p => { p with up := false, rebuilt := true })));
    (s.m.live = true) ∧ (s.m.power.up = false) ∧ (s.m.power.rebuilt = true) ∧
    ((∀ i ∈ [2, 4, 5], bit s.m.test.failed i = false))) ∧
  (let s : State := atRest (let m := powered (fun p => { p with rebuilt := true });
    { m with test := { m.test with failed := 16 } }); (s.m.live = true) ∧
    ((s.m.power.rebuilt = false ∨ ∃ i ∈ [2, 4, 5], bit s.m.test.failed i = true))) ∧
  (let s : State := go (world 1) 0x1600 [(1, 0x80), (7, 0)]; let b : Nat := 0; let c : RunCmd := cm s;
    let failed : Nat := 0; let mask : Nat := 0x80; let f : Nat := 0;
    (Fresh s (.mbox b) 0x1600 c) ∧ (mask = u8 c.payload 0) ∧ (allZero c.payload 1 7 = true) ∧ (f = failed &&& mask) ∧
    (bit mask 7 = true)) ∧
  (let s : State := go (world 1) 0x1600 [(1, 0x40), (7, 0)]; let b : Nat := 0; let c : RunCmd := cm s;
    let failed : Nat := 0; let mask : Nat := 0x40; let f : Nat := 0;
    (Fresh s (.mbox b) 0x1600 c) ∧ (mask = u8 c.payload 0) ∧ (allZero c.payload 1 7 = true) ∧ (f = failed &&& mask) ∧
    (mask < 128) ∧ (bit mask 6 = true) ∧ (s.m.mirror.state ≠ 0)) ∧
  (let s : State := go (world 1) 0x1600 [(1, 0x28), (7, 0)]; let b : Nat := 0; let c : RunCmd := cm s;
    let failed : Nat := 0x3F; let mask : Nat := 0x28; let f : Nat := 0x28;
    (Fresh s (.mbox b) 0x1600 c) ∧ (mask = u8 c.payload 0) ∧ (allZero c.payload 1 7 = true) ∧ (f = failed &&& mask) ∧
    (mask = 0x28)) ∧
  (let s : State := go (world 1) 0x1600 [(1, 0x15), (7, 0)]; let b : Nat := 0; let c : RunCmd := cm s;
    let failed : Nat := 0x01; let mask : Nat := 0x15; let f : Nat := 1;
    (Fresh s (.mbox b) 0x1600 c) ∧ (mask = u8 c.payload 0) ∧ (allZero c.payload 1 7 = true) ∧ (f = failed &&& mask) ∧
    (mask < 64)) ∧
  (let s : State := go (let m := boot; { m with hbm := [(5, 6)] }) 0x1600 [(1, 0x40), (7, 0)]; let b : Nat := 0;
    let c : RunCmd := cm s; let failed : Nat := 0; let mask : Nat := 0x40; let f : Nat := 0;
    (Fresh s (.mbox b) 0x1600 c) ∧ (mask = u8 c.payload 0) ∧ (allZero c.payload 1 7 = true) ∧ (f = failed &&& mask) ∧
    (mask = 64) ∧ (s.m.mirror.state = 0) ∧ ((∀ k ∈ s.m.caps.slots.vals, k.state = 0 ∨ k.state = 6))) ∧
  (let s : State := go (let m := world 1;
    { m with test := { m.test with slots := [(3, ⟨1, 1, 0, 100, 5⟩)] } }) 0x1610 (perturb 0 0 0 0 0);
    let src : Src := .mbox 0; let c : RunCmd := cm s src; let b : Bytes := (cm s).payload; let n : Nat := 3;
    let path : Nat := 0; let p : Nat := 0; (Fresh s src 0x1610 c) ∧ (b = c.payload) ∧ (n = u8 b 0) ∧ (path = u8 b 1) ∧
    (p = u8 b 3) ∧ (n ≤ 15) ∧ (allZero b 0x0C 4 = true) ∧ (path = 0) ∧ (u8 b 2 = 0) ∧ (p = 0) ∧ (u32 b 4 = 0) ∧
    (u32 b 8 = 0)) ∧
  (let s : State := go muted 0x1610 (perturb 2 2 0 90 600000); let src : Src := .mbox 0; let c : RunCmd := cm s src;
    let b : Bytes := (cm s).payload; let n : Nat := 3; let path : Nat := 2; let p : Nat := 0;
    (Fresh s src 0x1610 c) ∧ (b = c.payload) ∧ (n = u8 b 0) ∧ (path = u8 b 1) ∧ (p = u8 b 3) ∧ (n ≤ 15) ∧
    (allZero b 0x0C 4 = true) ∧ ((path ∈ [1, 3, 4, 7, 8] ∧ u8 b 2 = 1 ∧ u32 b 4 ≤ 10000000 ∨ path = 5 ∧ u8 b 2 = 1 ∧
    u32 b 4 ≤ 1000000 ∨ path ∈ [2, 10, 11] ∧ u8 b 2 = 2 ∧ u32 b 4 ≤ 90 ∨ path ∈ [6, 9] ∧ u8 b 2 = 0 ∧ u32 b 4 ≤ 1000)) ∧
    (1 ≤ u32 b 4) ∧ (1 ≤ u32 b 8) ∧ (u32 b 8 ≤ 600000) ∧ (s.m.present p = true) ∧ (s.m.mute p = true)) ∧
  (let s : State := go muted 0x1610 (perturb 5 1 0xFF 1000000 1); let src : Src := .mbox 0; let c : RunCmd := cm s src;
    let b : Bytes := (cm s).payload; let n : Nat := 3; let path : Nat := 5; let p : Nat := 0xFF;
    (Fresh s src 0x1610 c) ∧ (b = c.payload) ∧ (n = u8 b 0) ∧ (path = u8 b 1) ∧ (p = u8 b 3) ∧ (n ≤ 15) ∧
    (allZero b 0x0C 4 = true) ∧ ((path ∈ [1, 3, 4, 7, 8] ∧ u8 b 2 = 1 ∧ u32 b 4 ≤ 10000000 ∨ path = 5 ∧ u8 b 2 = 1 ∧
    u32 b 4 ≤ 1000000 ∨ path ∈ [2, 10, 11] ∧ u8 b 2 = 2 ∧ u32 b 4 ≤ 90 ∨ path ∈ [6, 9] ∧ u8 b 2 = 0 ∧ u32 b 4 ≤ 1000)) ∧
    (1 ≤ u32 b 4) ∧ (1 ≤ u32 b 8) ∧ (u32 b 8 ≤ 600000) ∧ (p = 0xFF) ∧ ((∃ q < 8, s.m.mute q = true)) ∧ (path ≠ 6) ∧
    (path ≠ 10)) ∧
  (let s : State := go muted 0x1610 (perturb 6 0 0xFF 1000 1); let src : Src := .mbox 0; let c : RunCmd := cm s src;
    let b : Bytes := (cm s).payload; let n : Nat := 3; let path : Nat := 6; let p : Nat := 0xFF;
    (Fresh s src 0x1610 c) ∧ (b = c.payload) ∧ (n = u8 b 0) ∧ (path = u8 b 1) ∧ (p = u8 b 3) ∧ (n ≤ 15) ∧
    (allZero b 0x0C 4 = true) ∧ ((path ∈ [1, 3, 4, 7, 8] ∧ u8 b 2 = 1 ∧ u32 b 4 ≤ 10000000 ∨ path = 5 ∧ u8 b 2 = 1 ∧
    u32 b 4 ≤ 1000000 ∨ path ∈ [2, 10, 11] ∧ u8 b 2 = 2 ∧ u32 b 4 ≤ 90 ∨ path ∈ [6, 9] ∧ u8 b 2 = 0 ∧ u32 b 4 ≤ 1000)) ∧
    (1 ≤ u32 b 4) ∧ (1 ≤ u32 b 8) ∧ (u32 b 8 ≤ 600000) ∧ ((s.m.present p = true ∧ s.m.mute p = false) ∨ (p = 0xFF ∧
    (path = 6 ∨ path = 10 ∨ ∀ q < 8, s.m.mute q = false)))) ∧
  (let s : State := atRest (let m := world 1;
    { m with test := { m.test with slots := [(15, ⟨1, 1, 0, 100, 2000000000000⟩)] } }); let n : Nat := 15;
    let x : Perturb := ⟨1, 1, 0, 100, 2000000000000⟩; (s.m.live = true) ∧ (n < 16) ∧ (s.m.test.slots.get n = some x) ∧
    (x.endNs ≤ s.m.clk.now)) := by
  refine ⟨⟨by decide +kernel, List.mem_of_getElem? (i := 2) rfl, by decide +kernel⟩, ?_, ?_, ?_, ?_, ?_, ?_, ?_, ⟨?_, ?_,
    ?_, ?_, ?_, ?_, ?_, ?_, ⟨?_, ?_, ?_, ?_, ?_, ?_⟩⟩⟩ <;> decide +kernel

end Sys2Proof.Tests
end

