-- ==== Sys2Proof/Tests/WitnessRecord.lean ====
section
/-!
SUPPORT. For each statement about the mirror engine's records: states and operands that meet the hypotheses of each of its clauses.
-/

namespace Sys2Proof.Tests

-- The evaluations below wait for one another, so that they run one at a time and hold one stack.
set_option Elab.async false

open Sys2Proof Sys2Proof.Machine

/-- A record with its check value. -/
def rec0 (seq kind step capsule arg0 arg1 : Nat) (b : Bytes := []) : MirrorRec := recSealed ⟨seq, kind, 0, 0, step, capsule,
  arg0, arg1, b, 0⟩

/-- The module in a pair state whose shadow of request 3 stands. -/
def shadowed (st : Nat) (m : Module := world 1) : Module :=
  { m with mirror := { m.mirror with state := st, shadow := [(3, ⟨leBytes 64 9, zeros 128, [1, 2, 3], 5, false⟩)] } }


/-- The hypotheses of MirrorRecordsTakeEffect are met. -/
theorem witness_MirrorRecordsTakeEffect :
  (let p : Nat × (MirrorRec → Instr) := (0x0B, .recCommitNote);
    (p ∈ ([(0x01, .recSlots), (0x02, .recCopyShared), (0x03, .recHeader), (0x04, .recTruncate), (0x05, .recEntry), (0x06,
    .recText), (0x07, .recAccount), (0x08, .recPrefix), (0x09, .recOutput), (0x0A, .recStepMark), (0x0B, .recCommitNote),
    (0x0C, .recClaim), (0x0D, .recHandover), (0x0E, .recLeaseQuery), (0x0F, .recSlotRequest), (0x10, .recSlotGrant), (0x14,
    .recResyncTile), (0x15, .recFenceNote), (0x16, .recRefuse), (0x18, .recInput), (0x19,
    .recReservedKind)] : List (Nat × (MirrorRec → Instr)))) ∧ (let s : State := atRest (shadowed 3);
    let r : MirrorRec := { rec0 1 0x0B 4 capNone 0 0 with check := 5 }; let x : MirrorRec := s.m.plain r;
    (s.m.live = true) ∧ (s.m.mirror.lanes ≠ 0) ∧ (r.kind = p.1) ∧ (x = s.m.plain r) ∧ (x.body.length ≤ 131072) ∧
    (x.check ≠ recCrc x))) ∧
  (let p : Nat × (MirrorRec → Instr) := (0x0B, .recCommitNote);
    (p ∈ ([(0x01, .recSlots), (0x02, .recCopyShared), (0x03, .recHeader), (0x04, .recTruncate), (0x05, .recEntry), (0x06,
    .recText), (0x07, .recAccount), (0x08, .recPrefix), (0x09, .recOutput), (0x0A, .recStepMark), (0x0B, .recCommitNote),
    (0x0C, .recClaim), (0x0D, .recHandover), (0x0E, .recLeaseQuery), (0x0F, .recSlotRequest), (0x10, .recSlotGrant), (0x14,
    .recResyncTile), (0x15, .recFenceNote), (0x16, .recRefuse), (0x18, .recInput), (0x19,
    .recReservedKind)] : List (Nat × (MirrorRec → Instr)))) ∧ (let s : State := atRest (let m := shadowed 3;
    { m with mirror := { m.mirror with outs := [(0, 4, [1]), (0, 5, [2])] } });
    let r : MirrorRec := rec0 1 0x0B 4 capNone 0 0; let x : MirrorRec := s.m.plain r;
    (s.m.live = true) ∧ (s.m.mirror.lanes ≠ 0) ∧ (r.kind = p.1) ∧ (x = s.m.plain r) ∧ (x.body.length ≤ 131072) ∧
    (let next := (s.m.mirror.rxApplied + 1) % 2 ^ 32; (x.check = recCrc x) ∧
    ((s.m.mirror.state = 2 ∨ s.m.mirror.state = 3)) ∧ (x.seq = next)))) ∧
  (let p : Nat × (MirrorRec → Instr) := (0x0B, .recCommitNote);
    (p ∈ ([(0x01, .recSlots), (0x02, .recCopyShared), (0x03, .recHeader), (0x04, .recTruncate), (0x05, .recEntry), (0x06,
    .recText), (0x07, .recAccount), (0x08, .recPrefix), (0x09, .recOutput), (0x0A, .recStepMark), (0x0B, .recCommitNote),
    (0x0C, .recClaim), (0x0D, .recHandover), (0x0E, .recLeaseQuery), (0x0F, .recSlotRequest), (0x10, .recSlotGrant), (0x14,
    .recResyncTile), (0x15, .recFenceNote), (0x16, .recRefuse), (0x18, .recInput), (0x19,
    .recReservedKind)] : List (Nat × (MirrorRec → Instr)))) ∧ (let s : State := atRest (shadowed 3);
    let r : MirrorRec := rec0 0 0x0B 4 capNone 0 0; let x : MirrorRec := s.m.plain r;
    (s.m.live = true) ∧ (s.m.mirror.lanes ≠ 0) ∧ (r.kind = p.1) ∧ (x = s.m.plain r) ∧ (x.body.length ≤ 131072) ∧
    (let next := (s.m.mirror.rxApplied + 1) % 2 ^ 32; (x.check = recCrc x) ∧
    ((s.m.mirror.state = 2 ∨ s.m.mirror.state = 3)) ∧ (x.seq ≠ next) ∧ (serialUnordered x.seq next = false) ∧
    (serialLater x.seq next = false)))) ∧
  (let p : Nat × (MirrorRec → Instr) := (0x18, .recInput); (p ∈ ([(0x01, .recSlots), (0x02, .recCopyShared), (0x03,
    .recHeader), (0x04, .recTruncate), (0x05, .recEntry), (0x06, .recText), (0x07, .recAccount), (0x08, .recPrefix), (0x09,
    .recOutput), (0x0A, .recStepMark), (0x0B, .recCommitNote), (0x0C, .recClaim), (0x0D, .recHandover), (0x0E,
    .recLeaseQuery), (0x0F, .recSlotRequest), (0x10, .recSlotGrant), (0x14, .recResyncTile), (0x15, .recFenceNote), (0x16,
    .recRefuse), (0x18, .recInput), (0x19, .recReservedKind)] : List (Nat × (MirrorRec → Instr)))) ∧
    (let s : State := atRest (let m := shadowed 3; { m with mirror := { m.mirror with rxGap := true } });
    let r : MirrorRec := rec0 2 0x18 4 capNone 0 0; let x : MirrorRec := s.m.plain r;
    (s.m.live = true) ∧ (s.m.mirror.lanes ≠ 0) ∧ (r.kind = p.1) ∧ (x = s.m.plain r) ∧ (x.body.length ≤ 131072) ∧
    (let next := (s.m.mirror.rxApplied + 1) % 2 ^ 32; (x.check = recCrc x) ∧
    ((s.m.mirror.state = 2 ∨ s.m.mirror.state = 3)) ∧ (x.seq ≠ next) ∧ (serialUnordered x.seq next = false) ∧
    (serialLater x.seq next = true) ∧ (s.m.mirror.rxGap = true)))) ∧
  (let p : Nat × (MirrorRec → Instr) := (0x0B, .recCommitNote);
    (p ∈ ([(0x01, .recSlots), (0x02, .recCopyShared), (0x03, .recHeader), (0x04, .recTruncate), (0x05, .recEntry), (0x06,
    .recText), (0x07, .recAccount), (0x08, .recPrefix), (0x09, .recOutput), (0x0A, .recStepMark), (0x0B, .recCommitNote),
    (0x0C, .recClaim), (0x0D, .recHandover), (0x0E, .recLeaseQuery), (0x0F, .recSlotRequest), (0x10, .recSlotGrant), (0x14,
    .recResyncTile), (0x15, .recFenceNote), (0x16, .recRefuse), (0x18, .recInput), (0x19,
    .recReservedKind)] : List (Nat × (MirrorRec → Instr)))) ∧ (let s : State := atRest (shadowed 2);
    let r : MirrorRec := rec0 2 0x0B 4 capNone 0 0; let x : MirrorRec := s.m.plain r;
    (s.m.live = true) ∧ (s.m.mirror.lanes ≠ 0) ∧ (r.kind = p.1) ∧ (x = s.m.plain r) ∧ (x.body.length ≤ 131072) ∧
    (let next := (s.m.mirror.rxApplied + 1) % 2 ^ 32; (x.check = recCrc x) ∧
    ((s.m.mirror.state = 2 ∨ s.m.mirror.state = 3)) ∧ (x.seq ≠ next) ∧ (serialUnordered x.seq next = false) ∧
    (serialLater x.seq next = true) ∧ (s.m.mirror.rxGap = false)))) ∧
  (let m : Module := shadowed 3; let r : MirrorRec := rec0 1 0x18 0 256 3 1 (leBytes 4 9);
    (r.capsule ≠ capNone) ∧ (m.capsule r.capsule = none) ∧ (r.kind ∈ [0x01, 0x02, 0x04, 0x06, 0x0C, 0x0D, 0x0E, 0x14,
    0x18])) ∧
  (let m : Module := shadowed 3; let r : MirrorRec := rec0 1 0x18 4 0 3 1 (leBytes 4 9);
    (m.contested r = false) ∧ (r.step ≠ 0) ∧ (((m.capsule r.capsule).isSome = true ∨ (r.capsule = capNone ∧ r.kind ≠ 3))) ∧
    (r.kind ∈ [0x03, 0x05, 0x06, 0x07, 0x09, 0x18])) ∧
  (let m : Module := shadowed 3; let r : MirrorRec := rec0 1 0x04 0 0 1 0; let k : Capsule := cap0 1;
    (m.contested r = false) ∧ (m.capsule r.capsule = some k) ∧ (r.capsule ≠ capNone) ∧ (r.kind = 0x04)) ∧
  (let m : Module := shadowed 3; let r : MirrorRec := rec0 1 0x18 0 0 3 (2 ^ 31 + 2) (leBytes 4 9 ++ leBytes 4 11);
    let k : Capsule := cap0 1; (m.contested r = false) ∧ (m.capsule r.capsule = some k) ∧ (r.capsule ≠ capNone) ∧
    (r.kind = 0x18) ∧ (r.step = 0) ∧ (r.body.length = 4 * bits r.arg1 15 0)) ∧
  (let m : Module := shadowed 3; let r : MirrorRec := rec0 1 0x05 0 0 3 7 (leBytes 4 9 ++ leBytes 60 1);
    let k : Capsule := cap0 1; (m.contested r = false) ∧ (m.capsule r.capsule = some k) ∧ (r.capsule ≠ capNone) ∧
    (r.kind = 0x05) ∧ (r.step = 0) ∧ (r.body.length = 64) ∧ (u8 r.body 4 ≠ 0) ∧
    (let x0 := ⟨leBytes 64 9, zeros 128, [1, 2, 3], 5, false⟩;
    (m.mirror.shadow.get r.arg0 = some x0) ∧ (x0.entry ≠ []) ∧ (u32 x0.entry 0 = u32 r.body 0) ∧ (x0.fresh = false))) ∧
  (let m : Module := shadowed 3; let r : MirrorRec := rec0 1 0x06 0 0 3 7 (leBytes 128 9); let k : Capsule := cap0 1;
    (m.contested r = false) ∧ (m.capsule r.capsule = some k) ∧ (r.capsule ≠ capNone) ∧ (r.kind = 0x06) ∧ (r.step = 0) ∧
    (r.body.length = 128) ∧ (let x0 := ⟨leBytes 64 9, zeros 128, [1, 2, 3], 5, false⟩;
    (m.mirror.shadow.get r.arg0 = some x0))) ∧
  (let m : Module := let m := shadowed 3; { m with caps := { m.caps with slots := [(0, { cap0 1 with owner := 1 })] } };
    let r : MirrorRec := rec0 1 0x0C 0 0 2 0; let k : Capsule := { cap0 1 with owner := 1 };
    (m.contested r = false) ∧ (m.capsule r.capsule = some k) ∧ (r.capsule ≠ capNone) ∧ (r.kind = 0x0C) ∧
    (serialLater r.arg0 k.epoch = true) ∧ (serialUnordered r.arg0 k.epoch = false) ∧ (m.owns k = false)) ∧
  (let m : Module := shadowed 3; let r : MirrorRec := rec0 1 0x0D 0 0 1 0; let k : Capsule := { cap0 1 with owner := 0 };
    (m.contested r = false) ∧ (m.capsule r.capsule = some k) ∧ (r.capsule ≠ capNone) ∧ (r.kind = 0x0D) ∧
    (serialUnordered r.arg0 k.epoch = false) ∧ (serialLater r.arg0 k.epoch = false)) ∧
  (let r : MirrorRec := rec0 3 0x0A 4 capNone 0 0; (r.kind = 0x0A)) ∧
  (let m : Module := let m := shadowed 3; { m with mirror := { m.mirror with outs := [(0, 4, [1]), (0, 5, [2])] } };
    let r : MirrorRec := rec0 3 0x0B 4 capNone 0 0; (r.kind = 0x0B) ∧
    ((∀ o ∈ m.mirror.outs, o.1 = r.partition → serialUnordered r.step o.2.1 = false))) ∧
  (let m : Module := shadowed 3; let r : MirrorRec := rec0 3 0x0F 0 capNone 8 0; (r.kind = 0x0F) ∧ (let k := 2;
    (m.freeSlotOf m.mirror.linkId = some k))) ∧
  (let r : MirrorRec := rec0 3 0x15 0 capNone 1 0; (r.kind = 0x15)) ∧
  (let r : MirrorRec := rec0 3 0x19 0 capNone 1 0; (r.kind = 0x19)) ∧
  (let s : State := atRest (shadowed 5); let r : MirrorRec := rec0 0 0x11 0 capNone 3 99; let x : MirrorRec := s.m.plain r;
    (s.m.live = true) ∧ (s.m.mirror.lanes ≠ 0) ∧ (x = s.m.plain r) ∧ (x.check = recCrc x) ∧ (x.body.length ≤ 131072) ∧
    (r.kind = 0x11) ∧ (s.m.mirror.state ∈ [0, 3, 5, 6])) ∧
  (let s : State := atRest (shadowed 4); let r : MirrorRec := rec0 0 0x11 0 capNone (3 + 256) 99;
    let x : MirrorRec := s.m.plain r; (s.m.live = true) ∧ (s.m.mirror.lanes ≠ 0) ∧ (x = s.m.plain r) ∧
    (x.check = recCrc x) ∧ (x.body.length ≤ 131072) ∧ (r.kind = 0x11) ∧ (s.m.mirror.state = 4) ∧
    (bits x.arg0 31 8 = s.m.mirror.epoch % 2 ^ 24)) ∧
  (let s : State := atRest (shadowed 2); let r : MirrorRec := rec0 0 0x11 0 capNone (3 + 256) 99;
    let x : MirrorRec := s.m.plain r; (s.m.live = true) ∧ (s.m.mirror.lanes ≠ 0) ∧ (x = s.m.plain r) ∧
    (x.check = recCrc x) ∧ (x.body.length ≤ 131072) ∧ (r.kind = 0x11) ∧ (s.m.mirror.state = 2) ∧
    (s.m.mirror.source = false) ∧ (bits x.arg0 2 0 = 3)) ∧
  (let s : State := atRest (let m := shadowed 3;
    { m with mirror := { m.mirror with sent := [rec0 1 0x0B 4 capNone 0 0, rec0 2 0x0B 4 capNone 0 0], txNext := 3 } });
    let r : MirrorRec := rec0 0 0x12 0 capNone 1 99; let x : MirrorRec := s.m.plain r;
    (s.m.live = true) ∧ (s.m.mirror.lanes ≠ 0) ∧ (x = s.m.plain r) ∧ (x.check = recCrc x) ∧ (x.body.length ≤ 131072) ∧
    (r.kind = 0x12) ∧ ((s.m.mirror.state = 2 ∨ s.m.mirror.state = 3))) ∧
  (let s : State := atRest (let m := shadowed 3;
    { m with mirror := { m.mirror with sent := [rec0 1 0x0B 4 capNone 0 0, rec0 2 0x0B 4 capNone 0 0], txNext := 3 } });
    let r : MirrorRec := rec0 0 0x13 0 capNone 2 99; let x : MirrorRec := s.m.plain r;
    (s.m.live = true) ∧ (s.m.mirror.lanes ≠ 0) ∧ (x = s.m.plain r) ∧ (x.check = recCrc x) ∧ (x.body.length ≤ 131072) ∧
    (r.kind = 0x13) ∧ (serialUnordered x.arg0 s.m.mirror.txNext = false)) ∧
  (let s : State := atRest (shadowed 5); let r : MirrorRec := rec0 0 0x17 0 capNone 2 99 (leBytes 8 77 ++ [1,
    5] ++ zeros 54); let x : MirrorRec := s.m.plain r; (s.m.live = true) ∧ (s.m.mirror.lanes ≠ 0) ∧ (x = s.m.plain r) ∧
    (x.check = recCrc x) ∧ (x.body.length ≤ 131072) ∧ (r.kind = 0x17) ∧ (x.body.length = 64) ∧
    ((s.m.mirror.state = 0 ∨ s.m.mirror.state = 5 ∨ s.m.mirror.state = 6))) ∧
  (let s : State := atRest (shadowed 4); let r : MirrorRec := rec0 0 0x17 0 capNone 2 99 (leBytes 8 77 ++ [1,
    0] ++ zeros 54); let x : MirrorRec := s.m.plain r; (s.m.live = true) ∧ (s.m.mirror.lanes ≠ 0) ∧ (x = s.m.plain r) ∧
    (x.check = recCrc x) ∧ (x.body.length ≤ 131072) ∧ (r.kind = 0x17) ∧ (x.body.length = 64) ∧ (s.m.mirror.state = 4) ∧
    (u8 x.body 9 = 0)) ∧
  (let m : Module := shadowed 5; let r : MirrorRec := { rec0 0 0x17 0 capNone 2 99 (leBytes 8 77 ++ [0, 5] ++ zeros 54) with flags := 1 };
    (bit r.flags 0 = true) ∧ (u8 r.body 8 = m.mirror.linkId)) := by
  refine ⟨⟨by simp, by decide +kernel⟩, ⟨by simp, by decide +kernel⟩, ⟨by simp, by decide +kernel⟩, ⟨by simp,
    by decide +kernel⟩, ⟨by simp, by decide +kernel⟩, ?_, ?_, ?_, ⟨?_, ?_, ?_, ?_, ?_, ?_, ?_, ?_, ⟨?_, ?_, ?_, ?_, ?_, ?_,
    ?_, ?_, ?_, ?_⟩⟩⟩ <;> decide +kernel

end Sys2Proof.Tests
end

