-- ==== Sys2Proof/Tests/WitnessSched.lean ====
section
/-!
SUPPORT. For each statement about strand commands, objects, schedules and preemption: states and operands that meet the hypotheses of each of its clauses.
-/

namespace Sys2Proof.Tests

-- The evaluations below wait for one another, so that they run one at a time and hold one stack.
set_option Elab.async false

open Sys2Proof Sys2Proof.Machine

/-- A strand image of two words at HBM address 0x40000: ADD and HALT, or a word that is no instruction. -/
def image2 (w : Nat) (m : Module := world 1) : Module :=
  { m with hbm := ((m.hbm.wrN 0x40000 (pay [(4, 1), (4, 2), (4, 1), (52, 0)])).putNum 0x40040 8
    (w0 1 3 1 2 0 0).encode.toNat).putNum 0x40048 8 w }

/-- The module with strand program 3 loaded and nothing running. -/
def loaded3 (m : Module := world 1) : Module :=
  { m with strand := { m.strand with programs := [(3, ⟨0x40000, 2, 1, 0⟩)] } }

/-- The module with one object at index 0. -/
def withObj (o : LigObj) (m : Module := world 1) : Module := { m with lig := { m.lig with objs := [(0, o)] } }

/-- A command of mailbox 0 that starts while job 0 of thread 63 runs. -/
def goJob (op : Nat) (p : List (Nat × Nat)) (m : Module := world 1) : State :=
  go (strands (w0 0 0 0 0 0 0) thr0 m).m op p

/-- Two partitions whose records are both marked realtime, and a schedule. -/
def timed (f : SchedSt → SchedSt) (m : Module := world 1) : Module :=
  let ps : List PartCfg := [⟨0xFF, 0, 512, 5, 0, 0, 0, 2048⟩, ⟨0xFF00, 512, 512, 1, 0, 0, 0, 2048⟩]
  { m with parts := ps ++ List.replicate 6 ⟨0, 0, 0, 0, 0, 0, 0, 0⟩, sched := f m.sched }

/-- The moment of `boot`'s time, in slots of 1,000 ns from the epoch 1,999,999,000,000. -/
def slotted (last : Nat) (sc : SchedSt) : SchedSt :=
  { sc with epoch := 1999999000000, lastBoundary := some last, bank0 := ⟨[(1000, 0x0103)], 1, true⟩, cycleOn := true }

/-- The table at a host address whose memory nothing has written is empty. -/
theorem readTable_blank (m : Module) (c : RunCmd) (a b : Nat) (hs : c.src = .mbox b) (hm : m.hostMem = []) :
    readTable m c a = [] := by
  have h : ∀ x n, leNat (m.cmdRead c x n) = 0 := by
    intro x n
    have hz : ∀ k, leNat (List.replicate k (0 : Byte)) = 0 := by
      intro k
      induction k with
      | zero => rfl
      | succ k ih => simpa [List.replicate_succ, leNat] using ih
    simpa [Module.cmdRead, hs, hm, Mem.rdN, Mem.rd, KMap.get, Mem.blank] using hz n
  simp [readTable, h]

/-- Mailbox 0 and a thread of job 0, whose class is given, have each issued a STEP_WAIT of capsule 0. -/
def twoLanes (back : Bool) : State :=
  let s := goJob 0x0502 [(4, 0), (4, 0)]
  { s with m := { s.m with
    host := { s.m.host with running := s.m.host.running ++ [cmd (.eiss 4) 9 0x0502 (pay [(4, 0), (4, 0)])] }
    strand := { s.m.strand with issued := [(4, ⟨0, 63, 0, 0, 0xFFFFFFFF⟩)], jobs := [(0, { job0 with background := back })] } } }


/-- The hypotheses of StrandCommandsAct are met. -/
theorem witness_StrandCommandsAct :
  (let s : State := go (image2 (255 * 2 ^ 56)) 0x0C00 [(8, 0x40000), (8, 80)]; let src : Src := .mbox 0;
    let c : RunCmd := cm s src; let addr : Nat := 0x40000; let len : Nat := 80; let h : Bytes := s.m.hbm.rdN 0x40000 64;
    (Fresh s src 0x0C00 c) ∧ (addr = u64 c.payload 0) ∧ (len = u64 c.payload 8) ∧ (h = s.m.hbm.rdN addr 64) ∧
    (addr % 4096 = 0) ∧ (64 < len) ∧ (addr + len ≤ hbmSize) ∧ (strandHeaderOk s.m h len = true) ∧
    (s.m.engineMay (u8 h 0x0C) 0 addr len = true) ∧ (let k := 1; (firstBadWord s.m.hbm addr (u32 h 4) = some k))) ∧
  (let s : State := go (let m := image2 (w0 0x38 0 0 0 0 0).encode.toNat;
    { m with strand := { m.strand with programs := (List.range 256).map (fun i => (i, ⟨0, 1, 0, 0⟩)) } }) 0x0C00 [(8,
    0x40000), (8, 80)]; let src : Src := .mbox 0; let c : RunCmd := cm s src; let addr : Nat := 0x40000;
    let len : Nat := 80; let h : Bytes := s.m.hbm.rdN 0x40000 64;
    (Fresh s src 0x0C00 c) ∧ (addr = u64 c.payload 0) ∧ (len = u64 c.payload 8) ∧ (h = s.m.hbm.rdN addr 64) ∧
    (addr % 4096 = 0) ∧ (64 < len) ∧ (addr + len ≤ hbmSize) ∧ (strandHeaderOk s.m h len = true) ∧
    (s.m.engineMay (u8 h 0x0C) 0 addr len = true) ∧ (firstBadWord s.m.hbm addr (u32 h 4) = none) ∧
    (s.m.strand.programs.lowestFree 0 256 = none)) ∧
  (let s : State := go (let m := image2 (w0 0x38 0 0 0 0 0).encode.toNat;
    { m with strand := { m.strand with programs := [(0, ⟨0, 1, 0, 0⟩)] } }) 0x0C00 [(8, 0x40000), (8, 80)];
    let src : Src := .mbox 0; let c : RunCmd := cm s src; let addr : Nat := 0x40000; let len : Nat := 80; let p : Nat := 1;
    let h : Bytes := s.m.hbm.rdN 0x40000 64; (Fresh s src 0x0C00 c) ∧ (addr = u64 c.payload 0) ∧ (len = u64 c.payload 8) ∧
    (h = s.m.hbm.rdN addr 64) ∧ (addr % 4096 = 0) ∧ (64 < len) ∧ (addr + len ≤ hbmSize) ∧
    (strandHeaderOk s.m h len = true) ∧ (s.m.engineMay (u8 h 0x0C) 0 addr len = true) ∧
    (firstBadWord s.m.hbm addr (u32 h 4) = none) ∧ (s.m.strand.programs.lowestFree 0 256 = some p)) ∧
  (let s : State := goJob 0x0C01 [(8, 0)]; let src : Src := .mbox 0; let c : RunCmd := cm s src; let p : Nat := 0;
    (Fresh s src 0x0C01 c) ∧ (allZero c.payload 2 6 = true) ∧ (p = u16 c.payload 0) ∧ (s.m.strand.programs.has p = true) ∧
    ((∃ j ∈ s.m.strand.jobs.vals, j.program = p))) ∧
  (let s : State := go (loaded3) 0x0C01 [(8, 3)]; let src : Src := .mbox 0; let c : RunCmd := cm s src; let p : Nat := 3;
    (Fresh s src 0x0C01 c) ∧ (allZero c.payload 2 6 = true) ∧ (p = u16 c.payload 0) ∧ (s.m.strand.programs.has p = true) ∧
    ((∀ j ∈ s.m.strand.jobs.vals, j.program ≠ p))) ∧
  (let s : State := go (loaded3 (small (world 1))) 0x0C10 [(2, 3), (2, 511), (2, 2), (1, 8), (1, 0), (4, 0xFFFFFFFF), (4,
    0xFFFFFFFF)]; let x : Nat := 0; let src : Src := .mbox 0; let c : RunCmd := cm s src; let b : Bytes := (cm s).payload;
    let first : Nat := 511; let count : Nat := 2; let n : Nat := 8; let pr : StrandProg := ⟨0x40000, 2, 1, 0⟩;
    (src = .mbox x) ∧ (Fresh s src 0x0C10 c) ∧ (b = c.payload) ∧ (first = u16 b 2) ∧ (count = u16 b 4) ∧ (n = u8 b 6) ∧
    (1 ≤ count) ∧ (first + count ≤ 1024) ∧ (1 ≤ n) ∧ (n ≤ 8) ∧ (u8 b 7 ≤ 1) ∧ (u32 b 8 = ligNone) ∧ (u32 b 0x0C = ligNone) ∧
    (s.m.strand.programs.get (u16 b 0) = some pr) ∧ ((∃ k, first ≤ k ∧ k < first + count ∧
    s.m.strandPart k ≠ some pr.partition))) ∧
  (let s : State := go (let m := loaded3 (small (world 1));
    { m with strand := { m.strand with threads := [(8 * 5, thr0)] } }) 0x0C10 [(2, 3), (2, 4), (2, 2), (1, 8), (1, 0), (4,
    0xFFFFFFFF), (4, 0xFFFFFFFF)]; let x : Nat := 0; let src : Src := .mbox 0; let c : RunCmd := cm s src;
    let b : Bytes := (cm s).payload; let first : Nat := 4; let count : Nat := 2; let n : Nat := 8;
    let pr : StrandProg := ⟨0x40000, 2, 1, 0⟩; (src = .mbox x) ∧ (Fresh s src 0x0C10 c) ∧ (b = c.payload) ∧
    (first = u16 b 2) ∧ (count = u16 b 4) ∧ (n = u8 b 6) ∧ (1 ≤ count) ∧ (first + count ≤ 1024) ∧ (1 ≤ n) ∧ (n ≤ 8) ∧
    (u8 b 7 ≤ 1) ∧ (u32 b 8 = ligNone) ∧ (u32 b 0x0C = ligNone) ∧ (s.m.strand.programs.get (u16 b 0) = some pr) ∧
    ((∀ k, first ≤ k → k < first + count → s.m.strandPart k = some pr.partition)) ∧ ((∃ k, first ≤ k ∧ k < first + count ∧
    (freeThreads s.m k n).length ≠ n))) ∧
  (let s : State := go (let m := loaded3 (small (world 1));
    { m with strand := { m.strand with threads := [(8 * 5, thr0)] } }) 0x0C10 [(2, 3), (2, 4), (2, 2), (1, 7), (1, 1), (4,
    0xFFFFFFFF), (4, 0xFFFFFFFF)]; let x : Nat := 0; let src : Src := .mbox 0; let c : RunCmd := cm s src;
    let b : Bytes := (cm s).payload; let first : Nat := 4; let count : Nat := 2; let n : Nat := 7; let j : Nat := 0;
    let pr : StrandProg := ⟨0x40000, 2, 1, 0⟩; let ts : List Nat := [32, 33, 34, 35, 36, 37, 38, 41, 42, 43, 44, 45, 46,
    47]; (src = .mbox x) ∧ (Fresh s src 0x0C10 c) ∧ (b = c.payload) ∧ (first = u16 b 2) ∧ (count = u16 b 4) ∧ (n = u8 b 6) ∧
    (1 ≤ count) ∧ (first + count ≤ 1024) ∧ (1 ≤ n) ∧ (n ≤ 8) ∧ (u8 b 7 ≤ 1) ∧ (u32 b 8 = ligNone) ∧ (u32 b 0x0C = ligNone) ∧
    (s.m.strand.programs.get (u16 b 0) = some pr) ∧ ((∀ k, first ≤ k → k < first + count →
    s.m.strandPart k = some pr.partition)) ∧ ((∀ k, first ≤ k → k < first + count → (freeThreads s.m k n).length = n)) ∧
    (s.m.strand.jobs.lowestFree 0 4096 = some j) ∧
    (ts = ((List.range count).map (first + ·)).flatMap (fun k => freeThreads s.m k n)) ∧
    (s.m.jobHeld ⟨u16 b 0, pr.partition, s.m.clk.now, ts.length, 0, u8 b 7 == 1, ligNone, ligNone, false, 4, 0, none,
    false⟩ = false)) ∧
  (let s : State := goJob 0x0C11 [(8, 0)]; let src : Src := .mbox 0; let c : RunCmd := cm s src;
    (Fresh s src 0x0C11 c) ∧ (allZero c.payload 2 6 = true) ∧ (s.m.strand.jobs.has (u16 c.payload 0) = true)) ∧
  (let s : State := goJob 0x0C12 [(8, 0)]; let src : Src := .mbox 0; let c : RunCmd := cm s src; let j : Nat := 0;
    let x : Job := job0; (Fresh s src 0x0C12 c) ∧ (j = u16 c.payload 0) ∧ (s.m.strand.jobs.get j = some x)) ∧
  (let m : Module := (strands (w0 0 0 0 0 0 0)).m; let t : Nat := 63; let cause : Nat := 0x0C; let addr : Nat := 2 ^ 64 - 1;
    let th : Thread := thr0; let j : Job := job0; (t < 8192) ∧ (cause < 256) ∧ (th.job < 4096) ∧ (th.pc < 2 ^ 64) ∧
    (addr < 2 ^ 64) ∧ (m.strand.threads.get t = some th) ∧ (m.strand.jobs.get th.job = some j) ∧ (j.stopOnFault = false) ∧
    (m.mute j.partition = false) ∧ (j.doneObj = ligNone) ∧ (j.faultObj = ligNone)) := by
  refine ⟨?_, ?_, ?_, ?_, ?_, ⟨by decide +kernel, by decide +kernel, by decide +kernel, by decide +kernel,
    by decide +kernel, by decide +kernel, ⟨by decide +kernel, by decide +kernel, by decide +kernel, by decide +kernel,
    by decide +kernel, by decide +kernel, ⟨by decide +kernel, by decide +kernel, 512, by decide +kernel⟩⟩⟩,
    ⟨by decide +kernel, by decide +kernel, by decide +kernel, by decide +kernel, by decide +kernel, by decide +kernel,
    ⟨by decide +kernel, by decide +kernel, by decide +kernel, by decide +kernel, by decide +kernel, by decide +kernel,
    ⟨by decide +kernel, by decide +kernel,
    fun k h1 h2 => by obtain rfl | rfl : k = 4 ∨ k = 5 := (by omega) <;> decide +kernel, 5, by decide +kernel⟩⟩⟩,
    ⟨by decide +kernel, by decide +kernel, by decide +kernel, by decide +kernel, by decide +kernel, by decide +kernel,
    ⟨by decide +kernel, by decide +kernel, by decide +kernel, by decide +kernel, by decide +kernel, by decide +kernel,
    ⟨by decide +kernel, by decide +kernel,
    fun k h1 h2 => by obtain rfl | rfl : k = 4 ∨ k = 5 := (by omega) <;> decide +kernel,
    fun k h1 h2 => by obtain rfl | rfl : k = 4 ∨ k = 5 := (by omega) <;> decide +kernel, by decide +kernel,
    by decide +kernel, by decide +kernel⟩⟩⟩, ⟨?_, ?_, ?_⟩⟩ <;> decide +kernel

/-- The hypotheses of ObjectsSchedulesAndPreemption are met. -/
theorem witness_ObjectsSchedulesAndPreemption :
  (let s : State := go (world 1) 0x0D00 [(1, 0), (1, 2), (2, 0), (4, 0)]; let src : Src := .mbox 0;
    let c : RunCmd := cm s src; let b : Bytes := (cm s).payload; let p : Nat := 0; let kind : Nat := 2;
    let param : Nat := 0; (Fresh s src 0x0D00 c) ∧ (b = c.payload) ∧ (allZero b 2 2 = true) ∧ (allZero b 7 1 = true) ∧
    (p = u8 b 0) ∧ (kind = u8 b 1) ∧ (param = u32 b 4) ∧ (s.m.present p = true) ∧
    (let good := (kind = 1 ∧ param ≤ 16777215) ∨ (kind = 2 ∧ 1 ≤ param ∧ param ≤ 65535) ∨ (kind = 3 ∧ param ≤ 3) ∨ (kind = 4 ∧ 1 ≤ param ∧ param ≤ 64);
    (¬good))) ∧
  (let s : State := go ((world 1).set (Reg.LIG.QUOTA_OBJECTS.at 8 0) 1 |> withObj (obj 1 5 5)) 0x0D00 [(1, 0), (1, 2), (2,
    0), (4, 65535)]; let src : Src := .mbox 0; let c : RunCmd := cm s src; let b : Bytes := (cm s).payload;
    let p : Nat := 0; let kind : Nat := 2; let param : Nat := 65535;
    (Fresh s src 0x0D00 c) ∧ (b = c.payload) ∧ (allZero b 2 2 = true) ∧ (allZero b 7 1 = true) ∧ (p = u8 b 0) ∧
    (kind = u8 b 1) ∧ (param = u32 b 4) ∧ (s.m.present p = true) ∧ (let m1 := s.m.bump Reg.LIG.OPS_COUNT;
    (let good := (kind = 1 ∧ param ≤ 16777215) ∨ (kind = 2 ∧ 1 ≤ param ∧ param ≤ 65535) ∨ (kind = 3 ∧ param ≤ 3) ∨ (kind = 4 ∧ 1 ≤ param ∧ param ≤ 64);
    (let full := m1.get (Reg.LIG.QUOTA_OBJECTS.at 8 p) ≠ 0 ∧ m1.get (Reg.LIG.QUOTA_OBJECTS.at 8 p) ≤ s.m.ligUsed p;
    (good) ∧ (full))))) ∧
  (let s : State := go (withObj (obj 1 5 5)) 0x0D00 [(1, 0), (1, 3), (2, 0), (4, 2)]; let src : Src := .mbox 0;
    let c : RunCmd := cm s src; let b : Bytes := (cm s).payload; let p : Nat := 0; let kind : Nat := 3;
    let param : Nat := 2; (Fresh s src 0x0D00 c) ∧ (b = c.payload) ∧ (allZero b 2 2 = true) ∧ (allZero b 7 1 = true) ∧
    (p = u8 b 0) ∧ (kind = u8 b 1) ∧ (param = u32 b 4) ∧ (s.m.present p = true) ∧ (let m1 := s.m.bump Reg.LIG.OPS_COUNT;
    (let good := (kind = 1 ∧ param ≤ 16777215) ∨ (kind = 2 ∧ 1 ≤ param ∧ param ≤ 65535) ∨ (kind = 3 ∧ param ≤ 3) ∨ (kind = 4 ∧ 1 ≤ param ∧ param ≤ 64);
    (let full := m1.get (Reg.LIG.QUOTA_OBJECTS.at 8 p) ≠ 0 ∧ m1.get (Reg.LIG.QUOTA_OBJECTS.at 8 p) ≤ s.m.ligUsed p;
    (good) ∧ (¬full) ∧ ((kind = 4 → param ≤ s.m.msgFree)) ∧ (let i := 1; (s.m.lig.objs.lowestFree 0 65536 = some i)))))) ∧
  (let o : KMap LigObj := [(0, obj 1 5 5), (1, obj 1 5 5)]; (o.wf = true)) ∧
  (let s : State := go (withObj (obj 1 5 5)) 0x0D01 [(4, 1), (4, 0)]; let src : Src := .mbox 0; let c : RunCmd := cm s src;
    let h : Nat := 1; (h = u32 c.payload 0) ∧ (Fresh s src 0x0D01 c) ∧ (allZero c.payload 4 4 = true) ∧
    (s.m.ligFind h = none)) ∧
  (let s : State := go (withObj { obj 1 5 5 with owner := some 4 }) 0x0D01 [(8, 0)]; let src : Src := .mbox 0;
    let c : RunCmd := cm s src; let h : Nat := 0; (h = u32 c.payload 0) ∧ (Fresh s src 0x0D01 c) ∧
    (allZero c.payload 4 4 = true) ∧ (let i := 0; let o := { obj 1 5 5 with owner := some 4 };
    (s.m.ligFind h = some (i, o)) ∧ (o.owner.isSome = true))) ∧
  (let s : State := go (withObj { obj 1 5 0 with waiters := [⟨.core 4, 0, none, false⟩] }) 0x0D01 [(8, 0)];
    let src : Src := .mbox 0; let c : RunCmd := cm s src; let h : Nat := 0;
    (h = u32 c.payload 0) ∧ (Fresh s src 0x0D01 c) ∧ (allZero c.payload 4 4 = true) ∧ (let i := 0;
    let o := { obj 1 5 0 with waiters := [⟨.core 4, 0, none, false⟩] };
    (s.m.ligFind h = some (i, o)) ∧ (o.owner = none) ∧ (o.waiters ≠ []))) ∧
  (let s : State := go (withObj (obj 1 5 5)) 0x0D01 [(8, 0)]; let src : Src := .mbox 0; let c : RunCmd := cm s src;
    let h : Nat := 0; (h = u32 c.payload 0) ∧ (Fresh s src 0x0D01 c) ∧ (allZero c.payload 4 4 = true) ∧ (let i := 0;
    let o := obj 1 5 5; (s.m.ligFind h = some (i, o)) ∧ (o.owner = none) ∧ (o.waiters = []))) ∧
  (let s : State := go (withObj (obj 1 5 5)) 0x0D02 [(4, 0x10000), (4, 1)]; let src : Src := .mbox 0;
    let c : RunCmd := cm s src; let h : Nat := 0x10000; (h = u32 c.payload 0) ∧ (Fresh s src 0x0D02 c) ∧
    (s.m.ligFind h = none)) ∧
  (let s : State := go (withObj (obj 1 50 5)) 0x0D02 [(4, 0), (4, 3)]; let src : Src := .mbox 0; let c : RunCmd := cm s src;
    let h : Nat := 0; (h = u32 c.payload 0) ∧ (Fresh s src 0x0D02 c) ∧ (let i := 0; let o := obj 1 50 5;
    (s.m.ligFind h = some (i, o)) ∧ (let n := u32 c.payload 4;
    (let r := if o.kind = 4 then s.m.ligSend i o n else s.m.ligSignal i o n; (r.2 = .ok))))) ∧
  (let s : State := go (withObj { obj 4 1 0 with msgs := [7] }) 0x0D02 [(4, 0), (4, 1)]; let src : Src := .mbox 0;
    let c : RunCmd := cm s src; let h : Nat := 0; (h = u32 c.payload 0) ∧ (Fresh s src 0x0D02 c) ∧ (let i := 0;
    let o := { obj 4 1 0 with msgs := [7] }; (s.m.ligFind h = some (i, o)) ∧ (let n := u32 c.payload 4;
    (let r := if o.kind = 4 then s.m.ligSend i o n else s.m.ligSignal i o n; (r.2 ≠ .ok))))) ∧
  (let s : State := go (withObj (obj 1 5 5)) 0x0D03 [(4, 0x10000), (4, 0)]; let src : Src := .mbox 0;
    let c : RunCmd := cm s src; let h : Nat := 0x10000; (h = u32 c.payload 0) ∧ (Fresh s src 0x0D03 c) ∧
    (s.m.ligFind h = none)) ∧
  (let s : State := go (withObj { obj 4 5 0 with msgs := [7, 8] }) 0x0D03 [(4, 0), (4, 0)]; let src : Src := .mbox 0;
    let c : RunCmd := cm s src; let h : Nat := 0; (h = u32 c.payload 0) ∧ (Fresh s src 0x0D03 c) ∧ (let i := 0;
    let o := { obj 4 5 0 with msgs := [7, 8] }; (s.m.ligFind h = some (i, o)))) ∧
  (let s : State := let th := { thr0 with wait := .lig 0 9 0 false };
    let o := { obj 2 5 1 with waiters := [⟨.thread 63, 1999999000000, some 5000, false⟩] };
    strands (w0 0x83 9 0 0 0 5) th (withObj o); let t : Nat := 63; let i : Nat := 0;
    let w : LigWait := ⟨.thread 63, 1999999000000, some 5000, false⟩; (s.m.live = true) ∧ (s.m.timedWait t = some (i, w))) ∧
  (let m : Module := withObj { obj 2 5 2 with waiters := [⟨.thread 62, 0, none, false⟩, ⟨.thread 63, 0, none, false⟩] };
    let i : Nat := 0; let o : LigObj := { obj 2 5 2 with waiters := [⟨.thread 62, 0, none, false⟩, ⟨.thread 63, 0, none, false⟩] };
    (m.lig.objs.get i = some o)) ∧
  (let s : State := go (timed id) 0x0E00 [(8, 64), (8, 2)]; let src : Src := .mbox 0; let c : RunCmd := cm s src;
    let b : Bytes := (cm s).payload; let addr : Nat := 64; let mask : Nat := 2;
    (Fresh s src 0x0E00 c) ∧ (b = c.payload) ∧ (allZero b 9 7 = true) ∧ (addr = u64 b 0) ∧ (mask = u8 b 8) ∧
    (addr % 64 = 0) ∧ ((∀ p < 8, bit mask p = true → s.m.present p = true)) ∧ ((∃ p < 8, bit mask p = true ∧
    bit (s.m.part p).flags 2 = false))) ∧
  (let s : State := go (timed (fun sc => { sc with pending := true })) 0x0E00 [(8, 64), (8, 1)]; let src : Src := .mbox 0;
    let c : RunCmd := cm s src; let b : Bytes := (cm s).payload; let addr : Nat := 64; let mask : Nat := 1;
    (Fresh s src 0x0E00 c) ∧ (b = c.payload) ∧ (allZero b 9 7 = true) ∧ (addr = u64 b 0) ∧ (mask = u8 b 8) ∧
    (addr % 64 = 0) ∧ ((∀ p < 8, bit mask p = true → s.m.present p = true)) ∧
    ((∀ p < 8, bit mask p = true → bit (s.m.part p).flags 2 = true)) ∧ (s.m.sched.pending = true)) ∧
  (let s : State := go (timed id) 0x0E00 [(8, 64), (8, 0)]; let src : Src := .mbox 0; let c : RunCmd := cm s src;
    let b : Bytes := (cm s).payload; let addr : Nat := 64; let mask : Nat := 0;
    (Fresh s src 0x0E00 c) ∧ (b = c.payload) ∧ (allZero b 9 7 = true) ∧ (addr = u64 b 0) ∧ (mask = u8 b 8) ∧
    (addr % 64 = 0) ∧ ((∀ p < 8, bit mask p = true → s.m.present p = true)) ∧
    ((∀ p < 8, bit mask p = true → bit (s.m.part p).flags 2 = true)) ∧ (s.m.sched.pending = false) ∧
    (s.m.host.linkUp = true) ∧ (s.m.host.d3hot = false) ∧ (let es := [];
    (es = readTable s.m c addr) ∧ ((∀ e ∈ es, entryOk s.m e.2 = true)) ∧
    ((∀ p < 8, bit mask p = true → ∃ e ∈ es, bit e.2 (8 + p) = true)))) ∧
  (let i : Nat := 2; (i < 16384)) ∧
  (let s : State := go (timed id) 0x0E01 []; let src : Src := .mbox 0; let c : RunCmd := cm s src; (Fresh s src 0x0E01 c)) ∧
  (let m : Module := timed (fun sc => { sc with pending := true, nextEpoch := some 7, bank1 := ⟨[(0, 5)], 1, true⟩ });
    (m.sched.pending = true) ∧ (m.sched.offPending = false)) ∧
  (let s : State := goJob 0x0E10 [(1, 0), (1, 1), (1, 15), (1, 0), (4, 0), (4, 0xFFFFFFFF), (4, 0)];
    let src : Src := .mbox 0; let c : RunCmd := cm s src; let b : Bytes := (cm s).payload; let id : Nat := 0;
    (Fresh s src 0x0E10 c) ∧ (b = c.payload) ∧ (allZero b 3 1 = true) ∧ (allZero b 6 2 = true) ∧ (u8 b 1 ≤ 1) ∧
    (1 ≤ u8 b 2) ∧ (u8 b 2 ≤ 15) ∧ (id = u16 b 4) ∧ (let j := job0;
    (u8 b 0 = 0) ∧ (s.m.strand.jobs.get id = some j) ∧ (u32 b 8 = 0xFFFFFFFF))) ∧
  (let s : State := goJob 0x0E10 [(1, 0), (1, 1), (1, 15), (1, 0), (4, 0), (4, 5), (4, 0)]; let src : Src := .mbox 0;
    let c : RunCmd := cm s src; let b : Bytes := (cm s).payload; let id : Nat := 0;
    (Fresh s src 0x0E10 c) ∧ (b = c.payload) ∧ (allZero b 3 1 = true) ∧ (allZero b 6 2 = true) ∧ (u8 b 1 ≤ 1) ∧
    (1 ≤ u8 b 2) ∧ (u8 b 2 ≤ 15) ∧ (id = u16 b 4) ∧ (let j := job0;
    (u8 b 0 = 0) ∧ (s.m.strand.jobs.get id = some j) ∧ (u32 b 8 ≠ 0xFFFFFFFF) ∧ (s.m.ligFind (u32 b 8) = none))) ∧
  (let s : State := goJob 0x0E10 [(1, 0), (1, 1), (1, 15), (1, 0), (4, 0), (4, 0), (4, 0)] (withObj (obj 3 0 0));
    let src : Src := .mbox 0; let c : RunCmd := cm s src; let b : Bytes := (cm s).payload; let id : Nat := 0;
    (Fresh s src 0x0E10 c) ∧ (b = c.payload) ∧ (allZero b 3 1 = true) ∧ (allZero b 6 2 = true) ∧ (u8 b 1 ≤ 1) ∧
    (1 ≤ u8 b 2) ∧ (u8 b 2 ≤ 15) ∧ (id = u16 b 4) ∧ (let j := job0;
    (u8 b 0 = 0) ∧ (s.m.strand.jobs.get id = some j) ∧ (let i := 0; let o := obj 3 0 0;
    (u32 b 8 ≠ 0xFFFFFFFF) ∧ (s.m.ligFind (u32 b 8) = some (i, o)) ∧ (o.kind = 3) ∧ (o.partition = j.partition)))) ∧
  (let s : State := goJob 0x0E10 [(1, 0), (1, 1), (1, 15), (1, 0), (4, 1), (4, 0), (4, 0)] (withObj (obj 3 0 0));
    let src : Src := .mbox 0; let c : RunCmd := cm s src; let b : Bytes := (cm s).payload; let id : Nat := 1;
    (Fresh s src 0x0E10 c) ∧ (b = c.payload) ∧ (allZero b 3 1 = true) ∧ (allZero b 6 2 = true) ∧ (u8 b 1 ≤ 1) ∧
    (1 ≤ u8 b 2) ∧ (u8 b 2 ≤ 15) ∧ (id = u16 b 4) ∧ (u8 b 0 = 0) ∧ (s.m.strand.jobs.get id = none)) ∧
  (let s : State := goJob 0x0E10 [(1, 1), (1, 1), (1, 15), (1, 0), (4, 1), (4, 0), (4, 0)]; let src : Src := .mbox 0;
    let c : RunCmd := cm s src; let b : Bytes := (cm s).payload; let id : Nat := 1;
    (Fresh s src 0x0E10 c) ∧ (b = c.payload) ∧ (allZero b 3 1 = true) ∧ (allZero b 6 2 = true) ∧ (u8 b 1 ≤ 1) ∧
    (1 ≤ u8 b 2) ∧ (u8 b 2 ≤ 15) ∧ (id = u16 b 4) ∧ (u8 b 0 = 1) ∧ (s.m.attn.programs.has id = false)) ∧
  (let s : State := goJob 0x0E10 [(1, 1), (1, 1), (1, 15), (1, 0), (4, 1), (4, 0xFFFFFFFF), (4, 0)] (let m := world 1;
    { m with attn := { m.attn with programs := [(1, ⟨4096, 128, 1, 0, 0⟩)] } }); let src : Src := .mbox 0;
    let c : RunCmd := cm s src; let b : Bytes := (cm s).payload; let id : Nat := 1;
    (Fresh s src 0x0E10 c) ∧ (b = c.payload) ∧ (allZero b 3 1 = true) ∧ (allZero b 6 2 = true) ∧ (u8 b 1 ≤ 1) ∧
    (1 ≤ u8 b 2) ∧ (u8 b 2 ≤ 15) ∧ (id = u16 b 4) ∧ (u8 b 0 = 1) ∧ (s.m.attn.programs.has id = true) ∧
    (u32 b 8 = 0xFFFFFFFF) ∧ ((∀ k ∈ s.m.attn.cores.vals, ∀ r, k.run = some r → r.program ≠ id))) ∧
  (let s : State := goJob 0x0E20 [(8, 0)] (timed (fun sc => { sc with suspended := 1 })); let src : Src := .mbox 0;
    let c : RunCmd := cm s src; let p : Nat := 0; (p = u8 c.payload 0) ∧ (s.m.present p = true) ∧
    (allZero c.payload 1 7 = true) ∧ (Fresh s src 0x0E20 c) ∧ (bit s.m.sched.suspended p = true)) ∧
  (let s : State := goJob 0x0E20 [(8, 0)] (timed id); let src : Src := .mbox 0; let c : RunCmd := cm s src;
    let p : Nat := 0; (p = u8 c.payload 0) ∧ (s.m.present p = true) ∧ (allZero c.payload 1 7 = true) ∧
    (Fresh s src 0x0E20 c) ∧ (bit s.m.sched.suspended p = false)) ∧
  (let s : State := let t := goJob 0x0E20 [(8, 0)] (timed (fun sc => { sc with suspended := 1 }));
    { t with m := t.m.updCmd 0 (fun x => { x with stage := .waiting }) }; let src : Src := .mbox 0;
    let c : RunCmd := cm s src; let p : Nat := 0; (p = u8 c.payload 0) ∧ (s.m.present p = true) ∧
    (allZero c.payload 1 7 = true) ∧ (s.m.live = true) ∧ (s.m.cmdOf src = some c) ∧ (c.opcode = 0x0E20) ∧
    (c.stage = .waiting)) ∧
  (let s : State := goJob 0x0E21 [(8, 0)] (timed id); let src : Src := .mbox 0; let c : RunCmd := cm s src;
    let p : Nat := 0; (p = u8 c.payload 0) ∧ (s.m.present p = true) ∧ (allZero c.payload 1 7 = true) ∧
    (Fresh s src 0x0E21 c) ∧ (bit s.m.sched.suspended p = false)) ∧
  (let s : State := goJob 0x0E21 [(8, 0)] (timed (fun sc => { sc with suspended := 3 })); let src : Src := .mbox 0;
    let c : RunCmd := cm s src; let p : Nat := 0; (p = u8 c.payload 0) ∧ (s.m.present p = true) ∧
    (allZero c.payload 1 7 = true) ∧ (Fresh s src 0x0E21 c) ∧ (bit s.m.sched.suspended p = true)) ∧
  (let s : State := goJob 0x0E30 [(8, 1)] (timed id); let src : Src := .mbox 0; let c : RunCmd := cm s src;
    let p : Nat := 1; (p = u8 c.payload 0) ∧ (s.m.present p = true) ∧ (allZero c.payload 1 7 = true) ∧
    (Fresh s src 0x0E30 c) ∧ (let x := ⟨0xFF00, 512, 512, 1, 0, 0, 0, 2048⟩; (x = s.m.part p))) ∧
  (let m : Module := let m := (strands (w0 0 0 0 0 0 0)).m;
    { m with strand := { m.strand with jobs := [(0, { job0 with suspended := true })] } }; let j : Nat := 0;
    let job : Job := { job0 with suspended := true }; (m.strand.jobs.get j = some job) ∧ (m.jobHeld job = false) ∧
    (m.strand.jobs.wf = true) ∧ (let x := job0; (m.followHolds.strand.jobs.get j = some x))) ∧
  (let s : State := atRest (timed (slotted 999)); let k : Nat := 999; let n : Nat := 1000;
    (s.m.live = true) ∧ (s.m.sched.lastBoundary = some k) ∧ (s.m.sched.epoch ≤ s.m.clk.now) ∧
    (n = (s.m.clk.now - s.m.sched.epoch) / 1000) ∧ (s.m.sched.epoch + (k + 1) * 1000 ≤ s.m.clk.now) ∧
    ((n % 16384 = 0 → s.m.sched.nextEpoch = none))) ∧
  (let s : State := atRest (timed (slotted 999)); let k : Nat := 999; let n : Nat := 1000;
    (s.m.live = true) ∧ (s.m.sched.lastBoundary = some k) ∧ (s.m.sched.epoch ≤ s.m.clk.now) ∧
    (n = (s.m.clk.now - s.m.sched.epoch) / 1000) ∧ (s.m.sched.epoch + (k + 1) * 1000 ≤ s.m.clk.now) ∧
    (let m1 := (s.m.bumpBy Reg.SCHED.BUILD_SLOTS_UNUSED_COUNT (popcount 8 s.m.sched.buildSlot)).set Reg.SCHED.STATUS_BEFORE_EPOCH 0;
    (let m2 := if n % 16384 = 0 then m1.cycleStart else m1; (m2.sched.cycleOn = true)))) ∧
  (let s : State := atRest (timed (fun sc => { slotted 999 sc with cycleOn := false })); let k : Nat := 999;
    let n : Nat := 1000; (s.m.live = true) ∧ (s.m.sched.lastBoundary = some k) ∧ (s.m.sched.epoch ≤ s.m.clk.now) ∧
    (n = (s.m.clk.now - s.m.sched.epoch) / 1000) ∧ (s.m.sched.epoch + (k + 1) * 1000 ≤ s.m.clk.now) ∧
    (let m1 := (s.m.bumpBy Reg.SCHED.BUILD_SLOTS_UNUSED_COUNT (popcount 8 s.m.sched.buildSlot)).set Reg.SCHED.STATUS_BEFORE_EPOCH 0;
    (let m2 := if n % 16384 = 0 then m1.cycleStart else m1; (m2.sched.cycleOn = false)))) ∧
  (let m : Module := timed (fun sc => { sc with buildSlot := 1 }); let p : Nat := 0;
    (p < 8) ∧ (bit m.sched.buildSlot p = true)) ∧
  (let p : Nat × (Src → Instr) × (RunCmd → Module → Module) := (0x0502, .stepWait, stepWaitCmd);
    (p ∈ ([(0x0300, .slidePlace, slidePlaceCmd), (0x0310, .slideSchedule, slideScheduleCmd), (0x0320, .slideSwapRegister,
    slideSwapRegisterCmd), (0x0321, .slideSwapRelease, slideSwapReleaseCmd), (0x0421, .attnProgramStart, programStartCmd),
    (0x0422, .attnProgramStop, programStopCmd), (0x0500, .stepAdmit, stepAdmitCmd), (0x0501, .stepAppend, stepAppendCmd),
    (0x0502, .stepWait, stepWaitCmd), (0x0503, .stepEnd, stepEndCmd), (0x0504, .stepQuery, stepQueryCmd), (0x0505, .stepSet,
    stepSetCmd), (0x0510, .stepBatch, stepBatchCmd), (0x0520, .stepPoolBind, poolBindCmd), (0x0521, .stepRingSet,
    ringSetCmd), (0x0700, .mouthTokenizerLoad, tokenizerLoadCmd), (0x0701, .mouthTokenizerUnload, tokenizerUnloadCmd),
    (0x0710, .mouthGrammarLoad, grammarLoadCmd), (0x0711, .mouthGrammarUnload, grammarUnloadCmd), (0x0712, .mouthGrammarSet,
    grammarSetCmd), (0x0720, .mouthStopLoad, stopLoadCmd), (0x0721, .mouthTextSet, textSetCmd), (0x0730, .mouthTokenize,
    tokenizeCmd), (0x0731, .mouthCarryFlush, carryFlushCmd), (0x0800, .boreIndexCreate, boreCreateCmd), (0x0801,
    .boreIndexDrop, boreDropCmd), (0x0802, .boreIndexInfo, boreInfoCmd), (0x0810, .boreQuery, boreQueryCmd), (0x0820,
    .boreInsert, boreInsertCmd), (0x0821, .boreDelete, boreDeleteCmd), (0x0830, .boreRepair,
    boreRepairCmd)] : List (Nat × (Src → Instr) × (RunCmd → Module → Module)))) ∧ (let s : State := twoLanes false;
    let src : Src := .eiss 4; let c : RunCmd := cm s src; (s.m.live = true) ∧ (s.m.cmdOf src = some c) ∧ (c.opcode = p.1) ∧
    (c.stage = .fresh) ∧ (s.m.laneTurn c = none))) ∧
  (let p : Nat × (Src → Instr) × (RunCmd → Module → Module) := (0x0502, .stepWait, stepWaitCmd);
    (p ∈ ([(0x0300, .slidePlace, slidePlaceCmd), (0x0310, .slideSchedule, slideScheduleCmd), (0x0320, .slideSwapRegister,
    slideSwapRegisterCmd), (0x0321, .slideSwapRelease, slideSwapReleaseCmd), (0x0421, .attnProgramStart, programStartCmd),
    (0x0422, .attnProgramStop, programStopCmd), (0x0500, .stepAdmit, stepAdmitCmd), (0x0501, .stepAppend, stepAppendCmd),
    (0x0502, .stepWait, stepWaitCmd), (0x0503, .stepEnd, stepEndCmd), (0x0504, .stepQuery, stepQueryCmd), (0x0505, .stepSet,
    stepSetCmd), (0x0510, .stepBatch, stepBatchCmd), (0x0520, .stepPoolBind, poolBindCmd), (0x0521, .stepRingSet,
    ringSetCmd), (0x0700, .mouthTokenizerLoad, tokenizerLoadCmd), (0x0701, .mouthTokenizerUnload, tokenizerUnloadCmd),
    (0x0710, .mouthGrammarLoad, grammarLoadCmd), (0x0711, .mouthGrammarUnload, grammarUnloadCmd), (0x0712, .mouthGrammarSet,
    grammarSetCmd), (0x0720, .mouthStopLoad, stopLoadCmd), (0x0721, .mouthTextSet, textSetCmd), (0x0730, .mouthTokenize,
    tokenizeCmd), (0x0731, .mouthCarryFlush, carryFlushCmd), (0x0800, .boreIndexCreate, boreCreateCmd), (0x0801,
    .boreIndexDrop, boreDropCmd), (0x0802, .boreIndexInfo, boreInfoCmd), (0x0810, .boreQuery, boreQueryCmd), (0x0820,
    .boreInsert, boreInsertCmd), (0x0821, .boreDelete, boreDeleteCmd), (0x0830, .boreRepair,
    boreRepairCmd)] : List (Nat × (Src → Instr) × (RunCmd → Module → Module)))) ∧ (let s : State := twoLanes false;
    let src : Src := .mbox 0; let c : RunCmd := cm s src; (s.m.live = true) ∧ (s.m.cmdOf src = some c) ∧ (c.opcode = p.1) ∧
    (c.stage = .fresh) ∧ (let m1 := (s.m.laneTurn c).getD s.m; (s.m.laneTurn c = some m1)))) ∧
  (let m : Module := (twoLanes true).m; let c : RunCmd := cm (twoLanes true) (.eiss 4);
    let x : RunCmd := cm (twoLanes true); let e : Nat := 2; let q : Nat := 0;
    (laneEngine c.opcode = some e) ∧ (m.lanePart c = some q) ∧ (x ∈ m.laneRivals c) ∧ (m.laneBack c = true) ∧
    (m.laneBack x = false)) ∧
  (let m : Module := (twoLanes false).m; let c : RunCmd := cm (twoLanes false);
    let x : RunCmd := cm (twoLanes false) (.eiss 4); let e : Nat := 2; let q : Nat := 0;
    (laneEngine c.opcode = some e) ∧ (m.lanePart c = some q) ∧ (x ∈ m.laneRivals c) ∧ (x ≠ c) ∧
    (laneEngine x.opcode = some e) ∧ (m.lanePart x = some q) ∧ (m.laneBack x = m.laneBack c) ∧
    ((∀ y ∈ m.host.running, (y.id = c.id → y = c) ∧ (y.id = x.id → y = x))) ∧ (x.stage = .fresh) ∧ (x.answered = false) ∧
    (c.stage = .fresh) ∧ (c.answered = false) ∧ ((∀ h ∈ m.mirror.held, h.cmd ≠ c.id ∧ h.cmd ≠ x.id)) ∧
    (c ∈ m.host.running) ∧ ((m.laneTurn c).isSome = true)) ∧
  (let s : State := let s := strands (w0 0 0 0 0 0 0);
    atRest { s.m with strand := { s.m.strand with jobs := [(0, { job0 with window := some 1999999999000 })] } };
    let j : Nat := 0; let start : Nat := 1999999999000; let job : Job := { job0 with window := some 1999999999000 };
    (s.m.live = true) ∧ (s.m.strand.jobs.get j = some job) ∧ (job.window = some start)) ∧
  (let m : Module := withObj { obj 1 5 5 with owner := some 0 } (strands (w0 0 0 0 0 0 0)).m; let j : Nat := 0;
    let job : Job := job0; (m.strand.jobs.get j = some job) ∧ (m.lig.objs.wf = true) ∧ (m.strand.jobs.wf = true) ∧
    (let m1 := m.suspendJob j; (let t := 63; let th := ((m.suspendJob 0).strand.threads.get 63).getD thr0;
    (m1.strand.threads.get t = some th) ∧ (th.job = j)))) := by
  refine ⟨?_, ?_, ?_, ?_, ?_, ?_, ?_, ?_, ⟨?_, ?_, ?_, ?_, ?_, ?_, ?_, ?_, ⟨?_, ⟨by decide +kernel, by decide +kernel,
    by decide +kernel, by decide +kernel, by decide +kernel, by decide +kernel, ⟨by decide +kernel, by decide +kernel,
    by decide +kernel, by decide +kernel, by decide +kernel,
    (readTable_blank _ _ _ 0 (by decide +kernel) (by decide +kernel)).symm, by decide +kernel, by decide +kernel⟩⟩, ?_, ?_,
    ?_, ?_, ?_, ?_, ⟨?_, ?_, ?_, ?_, ?_, ?_, ?_, ?_, ⟨?_, ?_, ?_, ?_, ?_, ?_, ⟨List.mem_of_getElem? (i := 8) rfl,
    by decide +kernel⟩, ⟨List.mem_of_getElem? (i := 8) rfl, by decide +kernel, by decide +kernel, by decide +kernel,
    by decide +kernel, eq_some_getD (by decide +kernel)⟩, ⟨?_, ?_, ?_, ?_⟩⟩⟩⟩⟩⟩ <;> decide +kernel

end Sys2Proof.Tests
end

