-- ==== Sys2Proof/Tests/WitnessSec.lean ====
section
/-!
SUPPORT. For each statement about the security block and the management port: states and operands that meet the hypotheses of each of its clauses.
-/

namespace Sys2Proof.Tests

-- The evaluations below wait for one another, so that they run one at a time and hold one stack.
set_option Elab.async false

open Sys2Proof Sys2Proof.Machine

/-- The security block of a module changed. -/
def secd (f : SecSt → SecSt) (m : Module := world 1) : Module := { m with secur := f { m.secur with creds := [(3, ⟨zeros 32, 10⟩), (5, ⟨zeros 32, 10⟩)] } }

/-- A request of credential 3 with an operation, a body and a signature. -/
def req (op : Nat) (b : Bytes) (signature : Bytes := zeros 64) (counter : Nat := 11) : MgmtMsg := ⟨op, 3, counter, b,
  signature⟩

/-- The module once request g has been accepted. -/
def taken (s : State) (g : MgmtMsg) (k : Credential := ⟨zeros 32, 10⟩) : Module :=
  { s.m with secur := { s.m.secur with
    connected := true, creds := s.m.secur.creds.put g.credential { k with counter := g.counter } } }

/-- A sealed import of eight bytes under a key of 32 equal bytes, at host address 0x5000. -/
def sealedAt (key mark : Nat) (m : Module := world 1) : Module :=
  { m with hostMem := m.hostMem.wrN 0x5000 (pay [(4, 1), (1, 1), (3, 0), (1, mark), (31, 0)] ++ List.replicate 32 (BitVec.ofNat 8 key) ++
    pay [(8, 8), (16, 0), (8, 0x1122334455667788), (16, 0)]) }

/-- SEC_IMPORT into partition 0 from host address 0x5000. -/
def imports (type n : Nat) : List (Nat × Nat) := [(1, 0), (1, type), (2, 0), (4, 7), (8, 0x5000), (8, n), (8, 0x9000)]

/-- A Crook image as staged. -/
def crook9 : FwImage := ⟨9, zeros 64⟩

/-- A report is 128 bytes, an entry of 80 bytes for each measurement, and the key and signature of 96. -/
theorem report_length (m : Module) (p : Nat) (nonce : Bytes) (st : Nat) :
    (m.attReport p nonce st).length = 224 + 80 * (m.reportEntries p).length := by
  have h : ∀ l : List (Nat × Measure), (l.flatMap (fun (f, x) => x.entry f)).length = 80 * l.length := by
    intro l
    induction l with
    | nil => rfl
    | cons x xs ih =>
      rw [List.flatMap_cons, List.length_append, ih]
      simp only [Measure.entry, List.length_append, length_leBytes, length_zeros, length_padTo, List.length_cons]
      omega
  unfold Module.attReport
  simp only [List.length_append, length_leBytes, length_zeros, length_padTo, h]
  omega


/-- The hypotheses of SecurityAndManagementAct are met. -/
theorem witness_SecurityAndManagementAct :
  (let s : State := go (world 1) 0x1200 [(1, 0), (7, 0), (64, 5), (8, 0x5000), (4, 100), (4, 0)]; let src : Src := .mbox 0;
    let c : RunCmd := cm s src; let b : Bytes := (cm s).payload; let p : Nat := 0; let addr : Nat := 0x5000;
    let r : Bytes := s.m.attReport 0 (slice b 8 64) 0; (Fresh s src 0x1200 c) ∧ (b = c.payload) ∧ (p = u8 b 0) ∧
    (addr = u64 b 0x48) ∧ (allZero b 1 7 = true) ∧ (allZero b 0x54 4 = true) ∧ ((p = 0xFF ∨ s.m.present p = true)) ∧
    (addr % 8 = 0) ∧ (s.m.secur.update ≠ 2) ∧ (s.m.host.linkUp = true) ∧ (s.m.host.d3hot = false) ∧
    (r = s.m.attReport p (slice b 8 64) 0) ∧ (u32 b 0x50 < r.length)) ∧
  (let s : State := go (world 1) 0x1200 [(1, 0), (7, 0), (64, 5), (8, 0x5000), (4, 65536), (4, 0)];
    let src : Src := .mbox 0; let c : RunCmd := cm s src; let b : Bytes := (cm s).payload; let p : Nat := 0;
    let addr : Nat := 0x5000; let r : Bytes := s.m.attReport 0 (slice b 8 64) 0;
    (Fresh s src 0x1200 c) ∧ (b = c.payload) ∧ (p = u8 b 0) ∧ (addr = u64 b 0x48) ∧ (allZero b 1 7 = true) ∧
    (allZero b 0x54 4 = true) ∧ ((p = 0xFF ∨ s.m.present p = true)) ∧ (addr % 8 = 0) ∧ (s.m.secur.update ≠ 2) ∧
    (s.m.host.linkUp = true) ∧ (s.m.host.d3hot = false) ∧ (r = s.m.attReport p (slice b 8 64) 0) ∧ (r.length ≤ u32 b 0x50)) ∧
  (let m : Module := secd (fun x => { x with log := [⟨4, 1, 2, 0, zeros 64⟩, ⟨4, 1, 2, 1, zeros 64⟩] }); let p : Nat := 0;
    let st : Nat := 1; let nonce : Bytes := List.replicate 64 7;
    (p < 256) ∧ (st < 256) ∧ (nonce.length = 64) ∧ ((m.reportEntries p).length < 2 ^ 32)) ∧
  (let s : State := go (world 1) 0x1201 []; let src : Src := .mbox 0; let c : RunCmd := cm s src; (Fresh s src 0x1201 c)) ∧
  (let s : State := go (let m := world 1;
    { m with parts := [⟨0xFFFF, 0, 1024, 3, 0, 0, 0, 2048⟩] ++ List.replicate 7 ⟨0, 0, 0, 0, 0, 0, 0, 0⟩ }) 0x1210 (imports 0 16);
    let src : Src := .mbox 0; let c : RunCmd := cm s src; let b : Bytes := (cm s).payload; let p : Nat := 0;
    let sa : Nat := 0x5000; let n : Nat := 16; let dest : Nat := 0x9000; let x : Bytes := s.m.cmdRead (cm s) 0x5000 16;
    (Fresh s src 0x1210 c) ∧ (b = c.payload) ∧ (p = u8 b 0) ∧ (sa = u64 b 8) ∧ (n = u64 b 0x10) ∧ (dest = u64 b 0x18) ∧
    (allZero b 2 2 = true) ∧ (s.m.present p = true) ∧ (n ≠ 0) ∧ (dest % 4096 = 0) ∧ (s.m.host.linkUp = true) ∧
    (s.m.host.d3hot = false) ∧ (x = s.m.cmdRead c sa n) ∧ (u8 b 1 = 0) ∧ (dest + n ≤ hbmSize) ∧ (s.m.mute p = true)) ∧
  (let s : State := go (sealedAt 0 0) 0x1210 (imports 0 16); let src : Src := .mbox 0; let c : RunCmd := cm s src;
    let b : Bytes := (cm s).payload; let p : Nat := 0; let sa : Nat := 0x5000; let n : Nat := 16; let dest : Nat := 0x9000;
    let x : Bytes := s.m.cmdRead (cm s) 0x5000 16; (Fresh s src 0x1210 c) ∧ (b = c.payload) ∧ (p = u8 b 0) ∧
    (sa = u64 b 8) ∧ (n = u64 b 0x10) ∧ (dest = u64 b 0x18) ∧ (allZero b 2 2 = true) ∧ (s.m.present p = true) ∧ (n ≠ 0) ∧
    (dest % 4096 = 0) ∧ (s.m.host.linkUp = true) ∧ (s.m.host.d3hot = false) ∧ (x = s.m.cmdRead c sa n) ∧ (u8 b 1 = 0) ∧
    (dest + n ≤ hbmSize) ∧ (s.m.mute p = false) ∧ (s.m.cmdMay c p sa n false = true) ∧ (s.m.engineMay p 0 dest n = true)) ∧
  (let s : State := go (sealedAt 1 0) 0x1210 (imports 1 120); let src : Src := .mbox 0; let c : RunCmd := cm s src;
    let b : Bytes := (cm s).payload; let p : Nat := 0; let sa : Nat := 0x5000; let n : Nat := 120; let dest : Nat := 0x9000;
    let x : Bytes := s.m.cmdRead (cm s) 0x5000 120; (Fresh s src 0x1210 c) ∧ (b = c.payload) ∧ (p = u8 b 0) ∧
    (sa = u64 b 8) ∧ (n = u64 b 0x10) ∧ (dest = u64 b 0x18) ∧ (allZero b 2 2 = true) ∧ (s.m.present p = true) ∧ (n ≠ 0) ∧
    (dest % 4096 = 0) ∧ (s.m.host.linkUp = true) ∧ (s.m.host.d3hot = false) ∧ (x = s.m.cmdRead c sa n) ∧ (u8 b 1 = 1) ∧
    (s.m.cmdMay c p sa n false = true) ∧ (u32 x 0 = 1) ∧ (u8 x 4 = 1) ∧ (allZero x 5 3 = true) ∧
    (allZero x 0x50 16 = true) ∧ (x.length = 0x60 + u64 x 0x48 + 16 * ceilDiv (u64 x 0x48) 65536) ∧
    (dest + u64 x 0x48 ≤ hbmSize) ∧ (padTo Config.sealingKey 32 = zeros 32 → slice x 0x28 32 ≠ padTo Config.sealingKey 32)) ∧
  (let s : State := go (sealedAt 0 1) 0x1210 (imports 1 120); let src : Src := .mbox 0; let c : RunCmd := cm s src;
    let b : Bytes := (cm s).payload; let p : Nat := 0; let sa : Nat := 0x5000; let n : Nat := 120; let dest : Nat := 0x9000;
    let x : Bytes := s.m.cmdRead (cm s) 0x5000 120; (Fresh s src 0x1210 c) ∧ (b = c.payload) ∧ (p = u8 b 0) ∧
    (sa = u64 b 8) ∧ (n = u64 b 0x10) ∧ (dest = u64 b 0x18) ∧ (allZero b 2 2 = true) ∧ (s.m.present p = true) ∧ (n ≠ 0) ∧
    (dest % 4096 = 0) ∧ (s.m.host.linkUp = true) ∧ (s.m.host.d3hot = false) ∧ (x = s.m.cmdRead c sa n) ∧ (u8 b 1 = 1) ∧
    (s.m.cmdMay c p sa n false = true) ∧ (u32 x 0 = 1) ∧ (u8 x 4 = 1) ∧ (allZero x 5 3 = true) ∧
    (allZero x 0x50 16 = true) ∧ (x.length = 0x60 + u64 x 0x48 + 16 * ceilDiv (u64 x 0x48) 65536) ∧
    (dest + u64 x 0x48 ≤ hbmSize) ∧ (padTo Config.sealingKey 32 = zeros 32 → slice x 0x28 32 = padTo Config.sealingKey 32) ∧
    (s.m.engineMay p 0 dest (u64 x 0x48) = true)  ) ∧
  (let s : State := go (sealedAt 0 0) 0x1210 (imports 1 120); let src : Src := .mbox 0; let c : RunCmd := cm s src;
    let b : Bytes := (cm s).payload; let p : Nat := 0; let sa : Nat := 0x5000; let n : Nat := 120; let dest : Nat := 0x9000;
    let x : Bytes := s.m.cmdRead (cm s) 0x5000 120; (Fresh s src 0x1210 c) ∧ (b = c.payload) ∧ (p = u8 b 0) ∧
    (sa = u64 b 8) ∧ (n = u64 b 0x10) ∧ (dest = u64 b 0x18) ∧ (allZero b 2 2 = true) ∧ (s.m.present p = true) ∧ (n ≠ 0) ∧
    (dest % 4096 = 0) ∧ (s.m.host.linkUp = true) ∧ (s.m.host.d3hot = false) ∧ (x = s.m.cmdRead c sa n) ∧ (u8 b 1 = 1) ∧
    (s.m.cmdMay c p sa n false = true) ∧ (u32 x 0 = 1) ∧ (u8 x 4 = 1) ∧ (allZero x 5 3 = true) ∧
    (allZero x 0x50 16 = true) ∧ (x.length = 0x60 + u64 x 0x48 + 16 * ceilDiv (u64 x 0x48) 65536) ∧
    (dest + u64 x 0x48 ≤ hbmSize) ∧ (padTo Config.sealingKey 32 = zeros 32 → slice x 0x28 32 = padTo Config.sealingKey 32) ∧
    (s.m.engineMay p 0 dest (u64 x 0x48) = true) ∧ (let y := x.drop 0x60; let plain := slice (x.drop 0x60) 0 8;
      (plain = slice y 0 (u64 x 0x48)))) ∧
  (let q : Nat × (MgmtMsg → Instr) := (2, .revokeCredential); (q ∈ ([(1, .enrolCredential), (2, .revokeCredential), (3,
    .enrolKey), (4, .removeKey), (5, .setConfig), (6, .fwStage), (7, .fwActivate), (8, .fwCommit), (9, .mgmtAttest), (10,
    .evrecRead), (11, .evrecClear), (12, .mgmtReset), (13, .mgmtStatus)] : List (Nat × (MgmtMsg → Instr)))) ∧
    (let s : State := atRest (secd (fun x => { x with lockout := some 5 })); let g : MgmtMsg := req 2 [];
    (s.m.live = true) ∧ (g.op = q.1) ∧ (s.m.secur.lockout.isSome = true))) ∧
  (let q : Nat × (MgmtMsg → Instr) := (4, .removeKey); (q ∈ ([(1, .enrolCredential), (2, .revokeCredential), (3, .enrolKey),
    (4, .removeKey), (5, .setConfig), (6, .fwStage), (7, .fwActivate), (8, .fwCommit), (9, .mgmtAttest), (10, .evrecRead),
    (11, .evrecClear), (12, .mgmtReset), (13, .mgmtStatus)] : List (Nat × (MgmtMsg → Instr)))) ∧
    (let s : State := atRest (secd id); let g : MgmtMsg := { req 4 [] with credential := 2 };
    (s.m.live = true) ∧ (g.op = q.1) ∧ (s.m.secur.lockout = none) ∧ (g.body.length ≤ 1048576) ∧ (s.m.secur.creds ≠ []) ∧
    (s.m.secur.creds.get g.credential = none))) ∧
  (let q : Nat × (MgmtMsg → Instr) := (4, .removeKey); (q ∈ ([(1, .enrolCredential), (2, .revokeCredential), (3, .enrolKey),
    (4, .removeKey), (5, .setConfig), (6, .fwStage), (7, .fwActivate), (8, .fwCommit), (9, .mgmtAttest), (10, .evrecRead),
    (11, .evrecClear), (12, .mgmtReset), (13, .mgmtStatus)] : List (Nat × (MgmtMsg → Instr)))) ∧
    (let s : State := atRest (secd (fun x => { x with creds := [] })); let g : MgmtMsg := req 4 [];
    (s.m.live = true) ∧ (g.op = q.1) ∧ (s.m.secur.lockout = none) ∧ (g.body.length ≤ 1048576) ∧ (s.m.secur.creds = []) ∧
    (q.1 ≠ 1))) ∧
  (let q : Nat × (MgmtMsg → Instr) := (4, .removeKey); (q ∈ ([(1, .enrolCredential), (2, .revokeCredential), (3, .enrolKey),
    (4, .removeKey), (5, .setConfig), (6, .fwStage), (7, .fwActivate), (8, .fwCommit), (9, .mgmtAttest), (10, .evrecRead),
    (11, .evrecClear), (12, .mgmtReset), (13, .mgmtStatus)] : List (Nat × (MgmtMsg → Instr)))) ∧
    (let s : State := atRest (secd id); let g : MgmtMsg := req 4 [] [];
    (s.m.live = true) ∧ (g.op = q.1) ∧ (s.m.secur.lockout = none) ∧ (g.body.length ≤ 1048576) ∧
    (let k := (⟨zeros 32, 10⟩ : Credential); (s.m.secur.creds.get g.credential = some k)  ))) ∧
  (let q : Nat × (MgmtMsg → Instr) := (4, .removeKey); (q ∈ ([(1, .enrolCredential), (2, .revokeCredential), (3, .enrolKey),
    (4, .removeKey), (5, .setConfig), (6, .fwStage), (7, .fwActivate), (8, .fwCommit), (9, .mgmtAttest), (10, .evrecRead),
    (11, .evrecClear), (12, .mgmtReset), (13, .mgmtStatus)] : List (Nat × (MgmtMsg → Instr)))) ∧
    (let s : State := atRest (secd id); let g : MgmtMsg := req 4 [] (zeros 64) 10;
    (s.m.live = true) ∧ (g.op = q.1) ∧ (s.m.secur.lockout = none) ∧ (g.body.length ≤ 1048576) ∧
    (let k := (⟨zeros 32, 10⟩ : Credential); (s.m.secur.creds.get g.credential = some k) ∧   (g.counter ≤ k.counter)))) ∧
  (let s : State := atRest (secd (fun x => { x with creds := [] })); let g : MgmtMsg := req 1 (zeros 44);
    (s.m.live = true) ∧ (g.op = 1) ∧ (s.m.secur.lockout = none) ∧ (s.m.secur.creds = []) ∧ (g.body.length ≤ 1048576) ∧
    (32 ≤ g.body.length)  ∧ (padTo Config.claimCode 12 = zeros 12 → slice g.body 32 12 = padTo Config.claimCode 12)) ∧
  (let s : State := atRest (secd id); let g : MgmtMsg := req 1 (zeros 32); let k : Credential := ⟨zeros 32, 10⟩;
    let m1 : Module := taken s g; let b : Bytes := g.body; (s.m.live = true) ∧ (s.m.secur.lockout = none) ∧ (b = g.body) ∧
    (b.length ≤ 1048576) ∧ (s.m.secur.creds.get g.credential = some k) ∧   (k.counter < g.counter) ∧
    (m1 = { s.m with secur := { s.m.secur with connected := true, creds := s.m.secur.creds.put g.credential { k with counter := g.counter } } }) ∧
    (g.op = 1) ∧ (32 ≤ b.length) ∧ (let i := 0; (m1.secur.creds.lowestFree 0 8 = some i))) ∧
  (let s : State := atRest (secd (fun x => { x with creds := [(3, ⟨zeros 32, 10⟩)] })); let g : MgmtMsg := req 2 [3];
    let k : Credential := ⟨zeros 32, 10⟩; let m1 : Module := taken s g; let b : Bytes := g.body;
    (s.m.live = true) ∧ (s.m.secur.lockout = none) ∧ (b = g.body) ∧ (b.length ≤ 1048576) ∧
    (s.m.secur.creds.get g.credential = some k) ∧   (k.counter < g.counter) ∧
    (m1 = { s.m with secur := { s.m.secur with connected := true, creds := s.m.secur.creds.put g.credential { k with counter := g.counter } } }) ∧
    (g.op = 2) ∧ (b.length = 1) ∧ (m1.secur.creds.has (u8 b 0) = true) ∧ (m1.secur.creds.length = 1)) ∧
  (let s : State := atRest (secd id); let g : MgmtMsg := req 2 [3]; let k : Credential := ⟨zeros 32, 10⟩;
    let m1 : Module := taken s g; let b : Bytes := g.body; (s.m.live = true) ∧ (s.m.secur.lockout = none) ∧ (b = g.body) ∧
    (b.length ≤ 1048576) ∧ (s.m.secur.creds.get g.credential = some k) ∧   (k.counter < g.counter) ∧
    (m1 = { s.m with secur := { s.m.secur with connected := true, creds := s.m.secur.creds.put g.credential { k with counter := g.counter } } }) ∧
    (g.op = 2) ∧ (b.length = 1) ∧ (m1.secur.creds.has (u8 b 0) = true) ∧ (m1.secur.creds.length ≠ 1)) ∧
  (let s : State := atRest (secd id); let g : MgmtMsg := req 3 (zeros 40); let k : Credential := ⟨zeros 32, 10⟩;
    let m1 : Module := taken s g; let b : Bytes := g.body; (s.m.live = true) ∧ (s.m.secur.lockout = none) ∧ (b = g.body) ∧
    (b.length ≤ 1048576) ∧ (s.m.secur.creds.get g.credential = some k) ∧   (k.counter < g.counter) ∧
    (m1 = { s.m with secur := { s.m.secur with connected := true, creds := s.m.secur.creds.put g.credential { k with counter := g.counter } } }) ∧
    (let key := zeros 32; (key = slice b 8 32) ∧ (b.length = 40) ∧ (allZero b 1 7 = true) ∧ (g.op = 3) ∧ (u8 b 0 = 0))) ∧
  (let s : State := atRest (secd id); let g : MgmtMsg := req 3 (1 :: zeros 39); let k : Credential := ⟨zeros 32, 10⟩;
    let m1 : Module := taken s g; let b : Bytes := g.body; (s.m.live = true) ∧ (s.m.secur.lockout = none) ∧ (b = g.body) ∧
    (b.length ≤ 1048576) ∧ (s.m.secur.creds.get g.credential = some k) ∧   (k.counter < g.counter) ∧
    (m1 = { s.m with secur := { s.m.secur with connected := true, creds := s.m.secur.creds.put g.credential { k with counter := g.counter } } }) ∧
    (let key := zeros 32; (key = slice b 8 32) ∧ (b.length = 40) ∧ (allZero b 1 7 = true) ∧ (g.op = 3) ∧ (u8 b 0 = 1) ∧
    (m1.secur.trusted.contains key = false) ∧ (m1.secur.trusted.length < 32))) ∧
  (let s : State := atRest (secd (fun x => { x with fabricKey := some (zeros 32) })); let g : MgmtMsg := req 4 (zeros 40);
    let k : Credential := ⟨zeros 32, 10⟩; let m1 : Module := taken s g; let b : Bytes := g.body;
    (s.m.live = true) ∧ (s.m.secur.lockout = none) ∧ (b = g.body) ∧ (b.length ≤ 1048576) ∧
    (s.m.secur.creds.get g.credential = some k) ∧   (k.counter < g.counter) ∧
    (m1 = { s.m with secur := { s.m.secur with connected := true, creds := s.m.secur.creds.put g.credential { k with counter := g.counter } } }) ∧
    (let key := zeros 32; (key = slice b 8 32) ∧ (b.length = 40) ∧ (allZero b 1 7 = true) ∧ (g.op = 4) ∧ (u8 b 0 = 0) ∧
    (m1.secur.fabricKey = some key))) ∧
  (let s : State := atRest (secd (fun x => { x with trusted := [List.replicate 32 1, zeros 32] }));
    let g : MgmtMsg := req 4 (1 :: zeros 39); let k : Credential := ⟨zeros 32, 10⟩; let m1 : Module := taken s g;
    let b : Bytes := g.body; (s.m.live = true) ∧ (s.m.secur.lockout = none) ∧ (b = g.body) ∧ (b.length ≤ 1048576) ∧
    (s.m.secur.creds.get g.credential = some k) ∧   (k.counter < g.counter) ∧
    (m1 = { s.m with secur := { s.m.secur with connected := true, creds := s.m.secur.creds.put g.credential { k with counter := g.counter } } }) ∧
    (let key := zeros 32; (key = slice b 8 32) ∧ (b.length = 40) ∧ (allZero b 1 7 = true) ∧ (g.op = 4) ∧ (u8 b 0 = 1) ∧
    (m1.secur.trusted.contains key = true))) ∧
  (let s : State := atRest (secd id); let g : MgmtMsg := req 5 (pay [(8, 0xFFFF), (2, 512), (2, 512), (1, 1), (3, 0), (4,
    1000), (4, 100), (4, 100), (2, 0), (34, 0)] ++ zeros 448 ++ pay [(1, 0), (1, 2), (1, 15), (5, 0), (8, 0x200000), (8,
    0x400000)]); let k : Credential := ⟨zeros 32, 10⟩; let m1 : Module := taken s g; let b : Bytes := g.body;
    (s.m.live = true) ∧ (s.m.secur.lockout = none) ∧ (b = g.body) ∧ (b.length ≤ 1048576) ∧
    (s.m.secur.creds.get g.credential = some k) ∧   (k.counter < g.counter) ∧
    (m1 = { s.m with secur := { s.m.secur with connected := true, creds := s.m.secur.creds.put g.credential { k with counter := g.counter } } }) ∧
    (let n := 1; let recs := (List.range 8).map (fun i => slice g.body (64 * i) 64);
    let ranges := (List.range 1).map (fun i => slice g.body (512 + 24 * i) 24);
    (g.op = 5) ∧ (b.length = 512 + 24 * n) ∧ (n ≤ 256) ∧ (recs = (List.range 8).map (fun i => slice b (64 * i) 64)) ∧
    (ranges = (List.range n).map (fun i => slice b (512 + 24 * i) 24)) ∧ ((∀ r ∈ recs, partRecordOk r = true)) ∧
    ((∀ r ∈ ranges, rangeOk r = true)))) ∧
  (let s : State := atRest (secd id); let g : MgmtMsg := req 6 ([2, 0] ++ zeros 6 ++ [1, 2, 3]);
    let k : Credential := ⟨zeros 32, 10⟩; let m1 : Module := taken s g; let b : Bytes := g.body;
    (s.m.live = true) ∧ (s.m.secur.lockout = none) ∧ (b = g.body) ∧ (b.length ≤ 1048576) ∧
    (s.m.secur.creds.get g.credential = some k) ∧   (k.counter < g.counter) ∧
    (m1 = { s.m with secur := { s.m.secur with connected := true, creds := s.m.secur.creds.put g.credential { k with counter := g.counter } } }) ∧
    (let kind := 2; let image := [1, 2, 3]; (g.op = 6) ∧ (8 ≤ b.length) ∧ (kind = u8 b 0) ∧ ((kind = 1 ∨ kind = 2)) ∧
    (allZero b 2 6 = true) ∧ (m1.secur.update < 2) ∧ (image = (m1.secur.fw kind).upload ++ b.drop 8) ∧ (u8 b 1 = 0))) ∧
  (let s : State := atRest (secd (fun x => { x with crook := { x.crook with upload := [9], rollback := 5 } }));
    let g : MgmtMsg := req 6 ([2, 1] ++ zeros 6 ++ [1, 2, 3]); let k : Credential := ⟨zeros 32, 10⟩;
    let m1 : Module := taken s g; let b : Bytes := g.body; (s.m.live = true) ∧ (s.m.secur.lockout = none) ∧ (b = g.body) ∧
    (b.length ≤ 1048576) ∧ (s.m.secur.creds.get g.credential = some k) ∧   (k.counter < g.counter) ∧
    (m1 = { s.m with secur := { s.m.secur with connected := true, creds := s.m.secur.creds.put g.credential { k with counter := g.counter } } }) ∧
    (let kind := 2; let image := [9, 1, 2, 3]; (g.op = 6) ∧ (8 ≤ b.length) ∧ (kind = u8 b 0) ∧ ((kind = 1 ∨ kind = 2)) ∧
    (allZero b 2 6 = true) ∧ (m1.secur.update < 2) ∧ (image = (m1.secur.fw kind).upload ++ b.drop 8) ∧ (u8 b 1 = 1) )) ∧
  (let s : State := atRest (secd (fun x => { x with crook := { x.crook with upload := [9], rollback := 2 } }));
    let g : MgmtMsg := req 6 ([2, 1] ++ zeros 6 ++ [1, 2, 3]); let k : Credential := ⟨zeros 32, 10⟩;
    let m1 : Module := taken s g; let b : Bytes := g.body; (s.m.live = true) ∧ (s.m.secur.lockout = none) ∧ (b = g.body) ∧
    (b.length ≤ 1048576) ∧ (s.m.secur.creds.get g.credential = some k) ∧   (k.counter < g.counter) ∧
    (m1 = { s.m with secur := { s.m.secur with connected := true, creds := s.m.secur.creds.put g.credential { k with counter := g.counter } } }) ∧
    (let kind := 2; let image := [9, 1, 2, 3]; (g.op = 6) ∧ (8 ≤ b.length) ∧ (kind = u8 b 0) ∧ ((kind = 1 ∨ kind = 2)) ∧
    (allZero b 2 6 = true) ∧ (m1.secur.update < 2) ∧ (image = (m1.secur.fw kind).upload ++ b.drop 8) ∧ (u8 b 1 = 1)  )) ∧
  (let s : State := atRest (secd (fun x => { x with update := 1, crook := { x.crook with staged := some crook9 } }));
    let g : MgmtMsg := req 7 [2, 0]; let k : Credential := ⟨zeros 32, 10⟩; let m1 : Module := taken s g;
    let b : Bytes := g.body; (s.m.live = true) ∧ (s.m.secur.lockout = none) ∧ (b = g.body) ∧ (b.length ≤ 1048576) ∧
    (s.m.secur.creds.get g.credential = some k) ∧   (k.counter < g.counter) ∧
    (m1 = { s.m with secur := { s.m.secur with connected := true, creds := s.m.secur.creds.put g.credential { k with counter := g.counter } } }) ∧
    (let x := crook9; (g.op = 7) ∧ (b.length = 2) ∧ (m1.secur.update = 1) ∧ (u8 b 1 = 0) ∧ ((u8 b 0 = 1 ∨ u8 b 0 = 2)) ∧
    ((m1.secur.fw (u8 b 0)).staged = some x))) ∧
  (let s : State := atRest (secd (fun x => { x with update := 1, dyone := { x.dyone with staged := some crook9 } }));
    let g : MgmtMsg := req 7 [1, 1]; let k : Credential := ⟨zeros 32, 10⟩; let m1 : Module := taken s g;
    let b : Bytes := g.body; (s.m.live = true) ∧ (s.m.secur.lockout = none) ∧ (b = g.body) ∧ (b.length ≤ 1048576) ∧
    (s.m.secur.creds.get g.credential = some k) ∧   (k.counter < g.counter) ∧
    (m1 = { s.m with secur := { s.m.secur with connected := true, creds := s.m.secur.creds.put g.credential { k with counter := g.counter } } }) ∧
    ((g.op = 7) ∧ (b.length = 2) ∧ (m1.secur.update = 1) ∧ (u8 b 1 = 1) ∧ (u8 b 0 = 1))) ∧
  (let s : State := atRest (secd (fun x => { x with update := 1, crook := { x.crook with staged := some crook9 } }));
    let g : MgmtMsg := req 7 [2, 1]; let k : Credential := ⟨zeros 32, 10⟩; let m1 : Module := taken s g;
    let b : Bytes := g.body; (s.m.live = true) ∧ (s.m.secur.lockout = none) ∧ (b = g.body) ∧ (b.length ≤ 1048576) ∧
    (s.m.secur.creds.get g.credential = some k) ∧   (k.counter < g.counter) ∧
    (m1 = { s.m with secur := { s.m.secur with connected := true, creds := s.m.secur.creds.put g.credential { k with counter := g.counter } } }) ∧
    (let x := crook9; (g.op = 7) ∧ (b.length = 2) ∧ (m1.secur.update = 1) ∧ (u8 b 1 = 1) ∧ (u8 b 0 = 2) ∧
    (m1.secur.crook.staged = some x))) ∧
  (let s : State := atRest (secd (fun x => { x with update := 1 })); let g : MgmtMsg := req 8 [];
    let k : Credential := ⟨zeros 32, 10⟩; let m1 : Module := taken s g; let b : Bytes := g.body;
    (s.m.live = true) ∧ (s.m.secur.lockout = none) ∧ (b = g.body) ∧ (b.length ≤ 1048576) ∧
    (s.m.secur.creds.get g.credential = some k) ∧   (k.counter < g.counter) ∧
    (m1 = { s.m with secur := { s.m.secur with connected := true, creds := s.m.secur.creds.put g.credential { k with counter := g.counter } } }) ∧
    (g.op = 8) ∧ (b = []) ∧ (m1.secur.update ≠ 3)) ∧
  (let s : State := atRest (secd (fun x => { x with update := 3, dyone := { x.dyone with old := none }, crook := ⟨crook9, none, false, some crook9, 3, []⟩ }));
    let g : MgmtMsg := req 8 []; let k : Credential := ⟨zeros 32, 10⟩; let m1 : Module := taken s g;
    let b : Bytes := g.body; (s.m.live = true) ∧ (s.m.secur.lockout = none) ∧ (b = g.body) ∧ (b.length ≤ 1048576) ∧
    (s.m.secur.creds.get g.credential = some k) ∧   (k.counter < g.counter) ∧
    (m1 = { s.m with secur := { s.m.secur with connected := true, creds := s.m.secur.creds.put g.credential { k with counter := g.counter } } }) ∧
    (g.op = 8) ∧ (b = []) ∧ (m1.secur.update = 3)) ∧
  (let s : State := atRest (secd (fun x => { x with update := 2 })); let g : MgmtMsg := req 9 (zeros 72);
    let k : Credential := ⟨zeros 32, 10⟩; let m1 : Module := taken s g; let b : Bytes := g.body;
    (s.m.live = true) ∧ (s.m.secur.lockout = none) ∧ (b = g.body) ∧ (b.length ≤ 1048576) ∧
    (s.m.secur.creds.get g.credential = some k) ∧   (k.counter < g.counter) ∧
    (m1 = { s.m with secur := { s.m.secur with connected := true, creds := s.m.secur.creds.put g.credential { k with counter := g.counter } } }) ∧
    (g.op = 9) ∧ (b.length = 72) ∧ ((u8 b 0 = 0xFF ∨ m1.present (u8 b 0) = true)) ∧ (allZero b 1 7 = true) ∧
    (m1.secur.update = 2)) ∧
  (let s : State := atRest (secd id); let g : MgmtMsg := req 9 (0xFF :: zeros 71); let k : Credential := ⟨zeros 32, 10⟩;
    let m1 : Module := taken s g; let b : Bytes := g.body; (s.m.live = true) ∧ (s.m.secur.lockout = none) ∧ (b = g.body) ∧
    (b.length ≤ 1048576) ∧ (s.m.secur.creds.get g.credential = some k) ∧   (k.counter < g.counter) ∧
    (m1 = { s.m with secur := { s.m.secur with connected := true, creds := s.m.secur.creds.put g.credential { k with counter := g.counter } } }) ∧
    (g.op = 9) ∧ (b.length = 72) ∧ ((u8 b 0 = 0xFF ∨ m1.present (u8 b 0) = true)) ∧ (allZero b 1 7 = true) ∧
    (m1.secur.update ≠ 2)) ∧
  (let s : State := atRest (secd id); let g : MgmtMsg := req 10 (pay [(8, 0), (4, 1000), (1, 0), (1, 0), (2, 0)]);
    let k : Credential := ⟨zeros 32, 10⟩; let m1 : Module := taken s g; let b : Bytes := g.body;
    (s.m.live = true) ∧ (s.m.secur.lockout = none) ∧ (b = g.body) ∧ (b.length ≤ 1048576) ∧
    (s.m.secur.creds.get g.credential = some k) ∧   (k.counter < g.counter) ∧
    (m1 = { s.m with secur := { s.m.secur with connected := true, creds := s.m.secur.creds.put g.credential { k with counter := g.counter } } }) ∧
    (g.op = 10) ∧ (b.length = 16) ∧ (u32 b 8 ≤ 1048576) ∧ (allZero b 14 2 = true)) ∧
  (let s : State := atRest (secd (fun x => x) (let m := world 1; { m with ev := { m.ev with clearing := some 3 } }));
    let g : MgmtMsg := req 11 (zeros 8); let k : Credential := ⟨zeros 32, 10⟩; let m1 : Module := taken s g;
    let b : Bytes := g.body; (s.m.live = true) ∧ (s.m.secur.lockout = none) ∧ (b = g.body) ∧ (b.length ≤ 1048576) ∧
    (s.m.secur.creds.get g.credential = some k) ∧   (k.counter < g.counter) ∧
    (m1 = { s.m with secur := { s.m.secur with connected := true, creds := s.m.secur.creds.put g.credential { k with counter := g.counter } } }) ∧
    (g.op = 11) ∧ (b.length = 8) ∧ (m1.ev.clearing.isSome = true)) ∧
  (let s : State := atRest (secd id); let g : MgmtMsg := req 11 (1 :: zeros 7); let k : Credential := ⟨zeros 32, 10⟩;
    let m1 : Module := taken s g; let b : Bytes := g.body; (s.m.live = true) ∧ (s.m.secur.lockout = none) ∧ (b = g.body) ∧
    (b.length ≤ 1048576) ∧ (s.m.secur.creds.get g.credential = some k) ∧   (k.counter < g.counter) ∧
    (m1 = { s.m with secur := { s.m.secur with connected := true, creds := s.m.secur.creds.put g.credential { k with counter := g.counter } } }) ∧
    (g.op = 11) ∧ (b.length = 8) ∧ (m1.ev.clearing = none)) ∧
  (let s : State := atRest (secd id); let g : MgmtMsg := req 12 []; let k : Credential := ⟨zeros 32, 10⟩;
    let m1 : Module := taken s g; let b : Bytes := g.body; (s.m.live = true) ∧ (s.m.secur.lockout = none) ∧ (b = g.body) ∧
    (b.length ≤ 1048576) ∧ (s.m.secur.creds.get g.credential = some k) ∧   (k.counter < g.counter) ∧
    (m1 = { s.m with secur := { s.m.secur with connected := true, creds := s.m.secur.creds.put g.credential { k with counter := g.counter } } }) ∧
    (g.op = 12) ∧ (b = [])) ∧
  (let s : State := atRest (secd id); let g : MgmtMsg := req 13 []; let k : Credential := ⟨zeros 32, 10⟩;
    let m1 : Module := taken s g; let b : Bytes := g.body; (s.m.live = true) ∧ (s.m.secur.lockout = none) ∧ (b = g.body) ∧
    (b.length ≤ 1048576) ∧ (s.m.secur.creds.get g.credential = some k) ∧   (k.counter < g.counter) ∧
    (m1 = { s.m with secur := { s.m.secur with connected := true, creds := s.m.secur.creds.put g.credential { k with counter := g.counter } } }) ∧
    (g.op = 13)) ∧
  (let s : State := atRest (world 1); (s.m.live = true) ∧ (s.m.secur.restart = none)) ∧
  (let s : State := atRest (secd (fun x => { x with update := 2, restart := some 5, held := [], crook := ⟨⟨8, zeros 64⟩, some crook9, true, none, 3, []⟩ }));
    let x : FwImage := crook9; (s.m.live = true) ∧ (s.m.secur.restart.isSome = true) ∧ (s.m.secur.held = []) ∧
    (s.m.secur.crook.staged = some x)) ∧
  (let s : State := atRest (secd (fun x => { x with update := 2, held := [⟨0, zeros 64, 1999000000000, 12, none⟩] }));
    let h : HeldAttest := ⟨0, zeros 64, 1999000000000, 12, none⟩; let rest : List HeldAttest := [];
    (s.m.live = true) ∧ (s.m.secur.held = h :: rest) ∧ (h.cmd = none)) ∧
  (let s : State := atRest (secd (fun x => { x with lockout := some 1999000000000 }));
    (s.m.live = true) ∧ (let t := 1999000000000; (s.m.secur.lockout = some t))) ∧
  (let s : State := atRest (secd (fun x => { x with connected := true })); (s.m.live = true)) := by
  refine ⟨⟨by decide +kernel, rfl, by decide +kernel, by decide +kernel, by decide +kernel, by decide +kernel,
    ⟨by decide +kernel, by decide +kernel, by decide +kernel, by decide +kernel, by decide +kernel, rfl,
    by (rw [report_length]; exact Nat.lt_of_lt_of_le (by decide +kernel) (Nat.le_add_right _ _))⟩⟩, ⟨by decide +kernel, rfl,
    by decide +kernel, by decide +kernel, by decide +kernel, by decide +kernel, ⟨by decide +kernel, by decide +kernel,
    by decide +kernel, by decide +kernel, by decide +kernel, rfl, by (rw [report_length]; decide +kernel)⟩⟩, ?_, ?_, ?_, ?_,
    ⟨by decide +kernel, by decide +kernel, by decide +kernel, by decide +kernel, by decide +kernel, by decide +kernel,
    ⟨by decide +kernel, by decide +kernel, by decide +kernel, by decide +kernel, by decide +kernel, by decide +kernel,
    ⟨by decide +kernel, by decide +kernel, by decide +kernel, by decide +kernel, by decide +kernel, by decide +kernel,
    ⟨by decide +kernel, by decide +kernel, by decide +kernel, fun h => by (rw [h]; decide +kernel)⟩⟩⟩⟩, ⟨by decide +kernel,
    by decide +kernel, by decide +kernel, by decide +kernel, by decide +kernel, by decide +kernel, ⟨by decide +kernel,
    by decide +kernel, by decide +kernel, by decide +kernel, by decide +kernel, by decide +kernel, ⟨by decide +kernel,
    by decide +kernel, by decide +kernel, by decide +kernel, by decide +kernel, by decide +kernel, ⟨by decide +kernel,
    by decide +kernel, by decide +kernel, fun h => by (rw [h]; decide +kernel), by decide +kernel⟩⟩⟩⟩, ⟨⟨by decide +kernel,
    by decide +kernel, by decide +kernel, by decide +kernel, by decide +kernel, by decide +kernel, ⟨by decide +kernel,
    by decide +kernel, by decide +kernel, by decide +kernel, by decide +kernel, by decide +kernel, ⟨by decide +kernel,
    by decide +kernel, by decide +kernel, by decide +kernel, by decide +kernel, by decide +kernel, ⟨by decide +kernel,
    by decide +kernel, by decide +kernel, fun h => by (rw [h]; decide +kernel), by decide +kernel, by decide +kernel⟩⟩⟩⟩,
    ⟨List.mem_of_getElem? (i := 1) rfl, by decide +kernel, by decide +kernel, by decide +kernel⟩,
    ⟨List.mem_of_getElem? (i := 3) rfl, by decide +kernel, by decide +kernel, by decide +kernel, by decide +kernel,
    by decide +kernel, by decide +kernel⟩, ⟨List.mem_of_getElem? (i := 3) rfl, by decide +kernel, by decide +kernel,
    by decide +kernel, by decide +kernel, by decide +kernel, by decide +kernel⟩, ⟨List.mem_of_getElem? (i := 3) rfl,
    by decide +kernel, by decide +kernel, by decide +kernel, by decide +kernel, by decide +kernel⟩,
    ⟨List.mem_of_getElem? (i := 3) rfl, by decide +kernel, by decide +kernel, by decide +kernel, by decide +kernel,
    by decide +kernel, by decide +kernel⟩, ⟨by decide +kernel, by decide +kernel, by decide +kernel, by decide +kernel,
    by decide +kernel, by decide +kernel, fun h => by (rw [h]; decide +kernel)⟩, ⟨by decide +kernel, by decide +kernel, rfl,
    by decide +kernel, by decide +kernel, by decide +kernel, ⟨rfl, by decide +kernel, by decide +kernel,
    by decide +kernel⟩⟩, ⟨⟨by decide +kernel, by decide +kernel, rfl, by decide +kernel, by decide +kernel,
    by decide +kernel, ⟨rfl, by decide +kernel, by decide +kernel, by decide +kernel, by decide +kernel⟩⟩,
    ⟨by decide +kernel, by decide +kernel, rfl, by decide +kernel, by decide +kernel, by decide +kernel, ⟨rfl,
    by decide +kernel, by decide +kernel, by decide +kernel, by decide +kernel⟩⟩, ⟨by decide +kernel, by decide +kernel,
    rfl, by decide +kernel, by decide +kernel, by decide +kernel, ⟨rfl, by decide +kernel, by decide +kernel,
    by decide +kernel, by decide +kernel, by decide +kernel⟩⟩, ⟨by decide +kernel, by decide +kernel, rfl,
    by decide +kernel, by decide +kernel, by decide +kernel, ⟨rfl, by decide +kernel, by decide +kernel, by decide +kernel,
    by decide +kernel, by decide +kernel, by decide +kernel, by decide +kernel⟩⟩, ⟨by decide +kernel, by decide +kernel,
    rfl, by decide +kernel, by decide +kernel, by decide +kernel, ⟨rfl, by decide +kernel, by decide +kernel,
    by decide +kernel, by decide +kernel, by decide +kernel, by decide +kernel⟩⟩, ⟨by decide +kernel, by decide +kernel,
    rfl, by decide +kernel, by decide +kernel, by decide +kernel, ⟨rfl, by decide +kernel, by decide +kernel,
    by decide +kernel, by decide +kernel, by decide +kernel, by decide +kernel⟩⟩, ⟨by decide +kernel, by decide +kernel,
    rfl, by decide +kernel, by decide +kernel, by decide +kernel, ⟨rfl, by decide +kernel, by decide +kernel,
    by decide +kernel, by decide +kernel, by decide +kernel, by decide +kernel, by decide +kernel⟩⟩, ⟨by decide +kernel,
    by decide +kernel, rfl, by decide +kernel, by decide +kernel, by decide +kernel, ⟨rfl, by decide +kernel,
    by decide +kernel, by decide +kernel, by decide +kernel, by decide +kernel, ⟨by decide +kernel, by decide +kernel,
    by decide +kernel⟩⟩⟩, ⟨⟨by decide +kernel, by decide +kernel, rfl, by decide +kernel, by decide +kernel,
    by decide +kernel, ⟨rfl, by decide +kernel, by decide +kernel, by decide +kernel, by decide +kernel, by decide +kernel,
    ⟨by decide +kernel, by decide +kernel, by decide +kernel⟩⟩⟩, ⟨by decide +kernel, by decide +kernel, rfl,
    by decide +kernel, by decide +kernel, by decide +kernel, ⟨rfl, by decide +kernel, by decide +kernel, by decide +kernel,
    by decide +kernel, by decide +kernel, ⟨by decide +kernel, by decide +kernel, by decide +kernel⟩⟩⟩, ⟨by decide +kernel,
    by decide +kernel, rfl, by decide +kernel, by decide +kernel, by decide +kernel, ⟨rfl, by decide +kernel,
    by decide +kernel, by decide +kernel, by decide +kernel, by decide +kernel, by decide +kernel⟩⟩, ⟨by decide +kernel,
    by decide +kernel, rfl, by decide +kernel, by decide +kernel, by decide +kernel, ⟨rfl, by decide +kernel,
    by decide +kernel, by decide +kernel, by decide +kernel, by decide +kernel⟩⟩, ⟨by decide +kernel, by decide +kernel,
    rfl, by decide +kernel, by decide +kernel, by decide +kernel, ⟨rfl, by decide +kernel, by decide +kernel,
    by decide +kernel, by decide +kernel, by decide +kernel, by decide +kernel⟩⟩, ⟨by decide +kernel, by decide +kernel,
    rfl, by decide +kernel, by decide +kernel, by decide +kernel, ⟨rfl, by decide +kernel, rfl, by decide +kernel⟩⟩,
    ⟨by decide +kernel, by decide +kernel, rfl, by decide +kernel, by decide +kernel, by decide +kernel, ⟨rfl,
    by decide +kernel, by decide +kernel⟩⟩, ⟨by decide +kernel, by decide +kernel, rfl, by decide +kernel,
    by decide +kernel, by decide +kernel, ⟨rfl, by decide +kernel, by decide +kernel, by decide +kernel, by decide +kernel,
    by decide +kernel⟩⟩, ⟨⟨by decide +kernel, by decide +kernel, rfl, by decide +kernel, by decide +kernel,
    by decide +kernel, ⟨rfl, by decide +kernel, by decide +kernel, by decide +kernel, by decide +kernel,
    by decide +kernel⟩⟩, ⟨by decide +kernel, by decide +kernel, rfl, by decide +kernel, by decide +kernel,
    by decide +kernel, ⟨rfl, by decide +kernel, by decide +kernel, by decide +kernel, by decide +kernel⟩⟩,
    ⟨by decide +kernel, by decide +kernel, rfl, by decide +kernel, by decide +kernel, by decide +kernel, ⟨rfl,
    by decide +kernel, by decide +kernel, by decide +kernel⟩⟩, ⟨by decide +kernel, by decide +kernel, rfl,
    by decide +kernel, by decide +kernel, by decide +kernel, ⟨rfl, by decide +kernel, by decide +kernel,
    by decide +kernel⟩⟩, ⟨by decide +kernel, by decide +kernel, rfl, by decide +kernel, by decide +kernel,
    by decide +kernel, ⟨rfl, by decide +kernel, rfl⟩⟩, ⟨by decide +kernel, by decide +kernel, rfl, by decide +kernel,
    by decide +kernel, by decide +kernel, rfl, by decide +kernel⟩, ?_, ?_, ⟨?_, ?_, ?_⟩⟩⟩⟩⟩⟩ <;> decide +kernel

end Sys2Proof.Tests
end

