-- ==== Sys2Proof/Tests/WitnessSession.lean ====
section
/-!
SUPPORT. For each statement about sessions: states and operands that meet the hypotheses of each of its clauses.
-/

namespace Sys2Proof.Tests

-- The evaluations below wait for one another, so that they run one at a time and hold one stack.
set_option Elab.async false

open Sys2Proof Sys2Proof.Machine

/-- The module whose map holds a front end of partition 0 and the module's own endpoint for it. -/
def fronted (m : Module := asks 1) : Module :=
  { m with bell := { m.bell with map := [(4, ⟨4, 3, 0, 7, 2, ownSerial⟩), (9, ⟨9, 1, 0, 7, 1, 0⟩)] } }

/-- The session of the front end as it stands after two frames. -/
def sess0 : Session := ⟨5, false, 2, true, [], [], none, false⟩

/-- The module whose session with the front end stands as given. -/
def inSess (x : Session) (m : Module := asks 1) : Module :=
  { fronted m with bell := { (fronted m).bell with sessions := [(9, x)] } }

/-- A frame of the front end, with its check value. -/
def sfrm (type seq capsule : Nat) (b : Bytes) (flags : Nat := 0) : SessFrame :=
  let f : SessFrame := ⟨1, 7, 0x4B46, 1, type, 9, 4, seq, 3, capsule, b.length, flags, 0, b⟩
  { f with check := sessCrc f }

/-- A frame that the module keeps, sent at a time. -/
def kept (seq sent : Nat) : Retained := ⟨seq, sfrm 6 seq 0 [], sent, sent, 1000000⟩

/-- A front end's frame to an endpoint of the module belongs to the front end's session. -/
theorem sessionOf_own (m : Module) (f : SessFrame) (a b : MapEntry) (ha : m.endpoint f.src = some a)
    (hb : m.endpoint f.dst = some b) (ka : a.kind = 1) (kb : b.kind = 3) (hs : b.serial = ownSerial) :
    m.sessionOf f = some (sessionKey f.src false) := by
  simp [Module.sessionOf, ha, hb, ka, kb, hs]

/-- The release of acknowledged frames leaves the map as it is. -/
theorem sessAcked_map (m : Module) (e ack : Nat) : (m.sessAcked e ack).bell.map = m.bell.map := by
  unfold Module.sessAcked Module.serialStale
  dsimp only
  split <;> simp [Module.setSession]

/-- The checks of a frame leave the map as it is. -/
theorem ingress_map (m : Module) (type : Nat) (f : SessFrame) : (m.ingress type f).1.bell.map = m.bell.map := by
  have hp : ∀ m1 b, m.police f = (m1, b) → m1.bell.map = m.bell.map := by
    intro m1 b h
    unfold Module.police at h
    split at h
    · cases h; rfl
    · dsimp only at h
      split at h <;> cases h <;> rfl
  unfold Module.ingress
  dsimp only
  split
  · rfl
  split
  · rfl
  split
  · exact hp _ _ ‹_›
  · rename_i m1 h
    have := hp _ _ h
    dsimp only
    rw [sessAcked_map]
    split <;> simpa [Module.setSession] using this

theorem sessionOf_fronted (m : Module) (type : Nat) (f : SessFrame) (hm : m.bell.map = fronted.bell.map) (hs : f.src = 9)
    (hd : f.dst = 4) : (m.ingress type f).1.sessionOf f = some 9 := by
  have h := sessionOf_own (m.ingress type f).1 f ⟨9, 1, 0, 7, 1, 0⟩ ⟨4, 3, 0, 7, 2, ownSerial⟩
    (by rw [Module.endpoint, ingress_map, hm, hs]; rfl) (by rw [Module.endpoint, ingress_map, hm, hd]; rfl) rfl rfl rfl
  rwa [hs] at h

theorem shown_own (m : Module) (k p : Nat) (e : MapEntry) (he : e ∈ m.bell.map.vals) (hk : e.kind = k)
    (hp : e.partition = p) (hs : e.serial = ownSerial) : m.shown (k, p, ownSerial) = true := by
  simp only [Module.shown, List.any_eq_true]
  exact ⟨e, he, by simp [hk, hp, hs]⟩

/-- A body that passes every check of a map but the signature is valid where the signature is. -/
theorem mapValid_later (m : Module) (key b : Bytes) (hk : m.secur.fabricKey = some key)
    (h1 : (decide (72 ≤ b.length) && (b.length - 72) % 32 == 0 && decide (u16 b 4 < u16 b 6)) = true)
    (h2 : (!m.bell.mapInstalled || serialLater (u32 b 0) m.bell.mapVersion) = true)
    (h : Config.edVerify key (b.take (b.length - 64)) (b.drop (b.length - 64)) = true) : m.mapValid b = true := by
  simp only [Module.mapValid, hk, h, h1, h2, Bool.and_self]


/-- The hypotheses of SessionsAreServedInOrder are met. -/
theorem witness_SessionsAreServedInOrder :
  (let p : Nat × (SessFrame → Instr) := (1, .sessAdmit); (p ∈ ([(1, .sessAdmit), (2, .sessAppend), (3, .sessEnd), (4,
    .sessAttach), (7, .sessAck)] : List (Nat × (SessFrame → Instr)))) ∧ (let s : State := atRest (fronted);
    let f : SessFrame := { sfrm 1 2 0 [] with srcPort := 8 }; (s.m.live = true) ∧
    ((∀ e ∈ s.m.bell.map.vals, ¬(e.address = f.srcAddr ∧ e.udpPort = f.srcPort))))) ∧
  (let p : Nat × (SessFrame → Instr) := (7, .sessAck); (p ∈ ([(1, .sessAdmit), (2, .sessAppend), (3, .sessEnd), (4,
    .sessAttach), (7, .sessAck)] : List (Nat × (SessFrame → Instr)))) ∧ (let s : State := atRest (fronted);
    let f : SessFrame := { sfrm 7 2 0 [] with check := 0 }; (s.m.live = true) ∧
    ((∃ e ∈ s.m.bell.map.vals, e.address = f.srcAddr ∧ e.udpPort = f.srcPort)) ∧
    ((f.magic ≠ 0x4B46 ∨ f.version ≠ 1 ∨ f.type ≠ p.1 ∨ f.body.length < f.length ∨ f.check ≠ sessCrc (trimFrame f))))) ∧
  (let m : Module := inSess { sess0 with retained := [kept 3 5, kept 4 6] }; let f : SessFrame := sfrm 7 2 0 [];
    let type : Nat := 7; ((∃ e ∈ m.bell.map.vals, e.address = f.srcAddr ∧ e.udpPort = f.srcPort)) ∧ (f.magic = 0x4B46) ∧
    (f.version = 1) ∧ (f.type = type) ∧ (f.length = f.body.length) ∧ (f.check = sessCrc f) ∧
    ((∀ x ∈ m.bell.policers.vals, x.endpoint ≠ f.src)) ∧ (m.bell.takenOver = false) ∧ ((m.session f.src).down = false) ∧
    ((∀ r ∈ (m.session f.src).retained, serialUnordered f.ack r.seq = false))) ∧
  (let s : State := atRest (inSess { sess0 with retained := [kept 3 5, kept 4 6] }); let f : SessFrame := sfrm 7 2 0 [];
    let m1 : Module := (s.m.ingress 7 f).1; (s.m.live = true) ∧ (s.m.ingress 7 (trimFrame f) = (m1, true))) ∧
  (let p : Nat × (SessFrame → Instr) × (Nat → SessFrame → Module → Module) := (3, .sessEnd, Module.applyEnd);
    (p ∈ ([(1, .sessAdmit, Module.applyAdmit), (2, .sessAppend, Module.applyAppend), (3, .sessEnd, Module.applyEnd), (4,
    .sessAttach, Module.applyAttach)] : List (Nat × (SessFrame → Instr) × (Nat → SessFrame → Module → Module)))) ∧
    (let s : State := atRest (fronted); let f0 : SessFrame := let f : SessFrame := { sfrm 3 2 0 [] with dst := 9 };
    { f with check := sessCrc f }; let f : SessFrame := let f : SessFrame := { sfrm 3 2 0 [] with dst := 9 };
    { f with check := sessCrc f }; let m1 : Module := (s.m.ingress 3 f).1;
    (s.m.live = true) ∧ (f = trimFrame f0) ∧ (s.m.ingress p.1 f = (m1, true)) ∧ (f.seq < 2 ^ 32) ∧
    (m1.sessionOf f = none))) ∧
  (let p : Nat × (SessFrame → Instr) × (Nat → SessFrame → Module → Module) := (2, .sessAppend, Module.applyAppend);
    (p ∈ ([(1, .sessAdmit, Module.applyAdmit), (2, .sessAppend, Module.applyAppend), (3, .sessEnd, Module.applyEnd), (4,
    .sessAttach, Module.applyAttach)] : List (Nat × (SessFrame → Instr) × (Nat → SessFrame → Module → Module)))) ∧
    (let s : State := atRest (inSess sess0); let f0 : SessFrame := sfrm 2 2 0 (leBytes 8 0 ++ leBytes 4 9);
    let f : SessFrame := sfrm 2 2 0 (leBytes 8 0 ++ leBytes 4 9); let m1 : Module := (s.m.ingress 2 f).1; let k : Nat := 9;
    (s.m.live = true) ∧ (f = trimFrame f0) ∧ (s.m.ingress p.1 f = (m1, true)) ∧ (f.seq < 2 ^ 32) ∧
    (m1.sessionOf f = some k) ∧ (f.flags % 2 = 0) ∧ ((m1.session k).rxOpen = true) ∧ (let x := (m1.session 9);
    (x = m1.session k) ∧ (f.seq = x.rxNext) ∧ (x.ahead = []) ∧ (m1.sessBlocked f = false)))) ∧
  (let p : Nat × (SessFrame → Instr) × (Nat → SessFrame → Module → Module) := (3, .sessEnd, Module.applyEnd);
    (p ∈ ([(1, .sessAdmit, Module.applyAdmit), (2, .sessAppend, Module.applyAppend), (3, .sessEnd, Module.applyEnd), (4,
    .sessAttach, Module.applyAttach)] : List (Nat × (SessFrame → Instr) × (Nat → SessFrame → Module → Module)))) ∧
    (let s : State := atRest (inSess { sess0 with ahead := [sfrm 3 4 0 (leBytes 4 0)] });
    let f0 : SessFrame := sfrm 3 3 0 (leBytes 4 0); let f : SessFrame := sfrm 3 3 0 (leBytes 4 0);
    let m1 : Module := (s.m.ingress 3 f).1; let k : Nat := 9; (s.m.live = true) ∧ (f = trimFrame f0) ∧
    (s.m.ingress p.1 f = (m1, true)) ∧ (f.seq < 2 ^ 32) ∧ (m1.sessionOf f = some k) ∧ (f.flags % 2 = 0) ∧
    ((m1.session k).rxOpen = true) ∧ (let x := (m1.session 9);
    (x = m1.session k) ∧ (serialLater f.seq x.rxNext = true) ∧ (x.ahead.length < 64) ∧ ((∀ g ∈ x.ahead, g.seq ≠ f.seq ∧
    g.seq ≠ x.rxNext))))) ∧
  (let p : Nat × (SessFrame → Instr) × (Nat → SessFrame → Module → Module) := (4, .sessAttach, Module.applyAttach);
    (p ∈ ([(1, .sessAdmit, Module.applyAdmit), (2, .sessAppend, Module.applyAppend), (3, .sessEnd, Module.applyEnd), (4,
    .sessAttach, Module.applyAttach)] : List (Nat × (SessFrame → Instr) × (Nat → SessFrame → Module → Module)))) ∧
    (let s : State := atRest (inSess sess0); let f0 : SessFrame := sfrm 4 1 0 (leBytes 4 0);
    let f : SessFrame := sfrm 4 1 0 (leBytes 4 0); let m1 : Module := (s.m.ingress 4 f).1; let k : Nat := 9;
    (s.m.live = true) ∧ (f = trimFrame f0) ∧ (s.m.ingress p.1 f = (m1, true)) ∧ (f.seq < 2 ^ 32) ∧
    (m1.sessionOf f = some k) ∧ (f.flags % 2 = 0) ∧ ((m1.session k).rxOpen = true) ∧ (let x := (m1.session 9);
    (x = m1.session k) ∧ (serialLater x.rxNext f.seq = true) ∧ (x.rxNext < 2 ^ 32)))) ∧
  (let m : Module := inSess { sess0 with ahead := [sfrm 3 4 0 (leBytes 4 0)] }; let k : Nat := 9;
    ((∀ g ∈ (m.session k).ahead, g.seq ≠ (m.session k).rxNext))) ∧
  (let m : Module := inSess sess0 (asks 1); let k : Nat := 4294967295; let i : Nat := 0;
    let f : SessFrame := sfrm 2 2 0 (leBytes 8 0); let r : Req := req0 1;
    (i = u32 f.body 0) ∧ (f.capsule % 256 ≠ 255) ∧ (m.request i f.capsule = some r) ∧ (r.partition ≠ m.frontPart k) ∧
    (8 ≤ f.body.length)) ∧
  (let m : Module := inSess sess0 (asks 1); let k : Nat := 4294967295; let i : Nat := 0;
    let f : SessFrame := sfrm 3 2 0 (leBytes 4 0); let r : Req := req0 1;
    (i = u32 f.body 0) ∧ (f.capsule % 256 ≠ 255) ∧ (m.request i f.capsule = some r) ∧ (r.partition ≠ m.frontPart k) ∧
    (4 ≤ f.body.length)) ∧
  (let m : Module := inSess sess0; let k : Nat := 9; let i : Nat := 0; let f : SessFrame := sfrm 3 2 0 (leBytes 4 0);
    let r : Req := req0 1; (i = u32 f.body 0) ∧ (f.capsule % 256 ≠ 255) ∧ (m.request i f.capsule = some r) ∧
    (r.partition = m.frontPart k) ∧ (4 ≤ f.body.length) ∧ (r.state ≠ 5) ∧ (m.fenced = false)) ∧
  (let m : Module := inSess sess0; let k : Nat := 9; let i : Nat := 0;
    let f : SessFrame := sfrm 2 2 0 (leBytes 8 0 ++ leBytes 4 99); let r : Req := req0 1;
    (i = u32 f.body 0) ∧ (f.capsule % 256 ≠ 255) ∧ (m.request i f.capsule = some r) ∧ (r.partition = m.frontPart k) ∧
    (4 ≤ f.body.length) ∧ (let x := .tokens [99]; (8 ≤ f.body.length) ∧ (u8 f.body 4 ≤ 1) ∧ (allZero f.body 5 3 = true) ∧
    ((u8 f.body 4 = 0 → (f.body.length - 8) % 4 = 0)) ∧ (r.state ≠ 5) ∧ (m.fenced = false) ∧
    (x = m.parseInput f.capsule (u8 f.body 4) (f.body.drop 8)) ∧ (x ≠ .bad) ∧ (m.inputFits r x.list.length = true))) ∧
  (let m : Module := inSess sess0; let k : Nat := 9; let i : Nat := 0; let f : SessFrame := sfrm 4 2 0 (leBytes 4 0);
    let r : Req := req0 1; (i = u32 f.body 0) ∧ (f.capsule % 256 ≠ 255) ∧ (m.request i f.capsule = some r) ∧
    (r.partition = m.frontPart k) ∧ (4 ≤ f.body.length)) ∧
  (let m : Module := inSess sess0 (withAttn (obj 1 0 0) (world 1)); let k : Nat := 9;
    let f : SessFrame := sfrm 1 2 0 (pay [(4, 0), (1, 0), (1, 3), (1, 1), (1, 0), (2, 0), (2, 0), (4, 10), (8, 2 ^ 61), (4,
    9), (4, 0), (8, 0xFFFFFFFFFFFFFFFF), (8, 0), (4, 4), (4, 0), (4, 7)]);
    let a : Admit := { Admit.ofPayload (pay [(4, 0), (1, 0), (1, 3), (1, 1), (1, 0), (2, 0), (2, 0), (4, 10), (8, 2 ^ 61), (4, 9), (4, 0), (8, 0xFFFFFFFFFFFFFFFF), (8, 0), (4, 4), (4, 0)]) with return_ := 9 };
    let b : Bytes := (sfrm 1 2 0 (pay [(4, 0), (1, 0), (1, 3), (1, 1), (1, 0), (2, 0), (2, 0), (4, 10), (8, 2 ^ 61), (4, 9),
    (4, 0), (8, 0xFFFFFFFFFFFFFFFF), (8, 0), (4, 4), (4, 0), (4, 7)])).body; let inp : Bytes := leBytes 4 7;
    (b = f.body) ∧ (0x38 ≤ b.length) ∧ (inp = b.drop 0x38) ∧ (a = { Admit.ofPayload (b.take 0x38) with return_ := k }) ∧
    (allZero b 0x0A 2 = true) ∧ (allZero b 0x34 4 = true) ∧ (a.capsule % 256 ≠ 255) ∧ (m.present a.partition = true) ∧
    (a.flags ≤ 3) ∧ (u8 b 7 ≤ 1) ∧ (a.model < 64) ∧ (u32 b 0x18 = f.src) ∧ (u64 b 0x28 = 0) ∧ (u32 b 0x30 = inp.length) ∧
    (inp.length ≤ 16777216) ∧ ((u8 b 7 = 0 → inp.length % 4 = 0)) ∧ (m.tokensOk a.capsule (u8 b 7) inp = true) ∧
    (m.frontPart k = a.partition) ∧ (m.admitFails a 8 0x20 0x1C 0x38 (u8 b 7) inp = none)) ∧
  (let m : Module := inSess sess0 (asks 1); let k : Nat := 9; let f : SessFrame := sfrm 1 2 0 (pay [(4, 0), (1, 0), (1, 3),
    (1, 1), (1, 0), (2, 0), (2, 0), (4, 10), (8, 2 ^ 61), (4, 9), (4, 0), (8, 0xFFFFFFFFFFFFFFFF), (8, 0), (4, 4), (4, 0),
    (4, 7)]); let a : Admit := { Admit.ofPayload (pay [(4, 0), (1, 0), (1, 3), (1, 1), (1, 0), (2, 0), (2, 0), (4, 10), (8, 2 ^ 61), (4, 9), (4, 0), (8, 0xFFFFFFFFFFFFFFFF), (8, 0), (4, 4), (4, 0)]) with return_ := 9 };
    let b : Bytes := (sfrm 1 2 0 (pay [(4, 0), (1, 0), (1, 3), (1, 1), (1, 0), (2, 0), (2, 0), (4, 10), (8, 2 ^ 61), (4, 9),
    (4, 0), (8, 0xFFFFFFFFFFFFFFFF), (8, 0), (4, 4), (4, 0), (4, 7)])).body; let inp : Bytes := leBytes 4 7;
    (b = f.body) ∧ (0x38 ≤ b.length) ∧ (inp = b.drop 0x38) ∧ (a = { Admit.ofPayload (b.take 0x38) with return_ := k }) ∧
    (allZero b 0x0A 2 = true) ∧ (allZero b 0x34 4 = true) ∧ (a.capsule % 256 ≠ 255) ∧ (m.present a.partition = true) ∧
    (a.flags ≤ 3) ∧ (u8 b 7 ≤ 1) ∧ (a.model < 64) ∧ (u32 b 0x18 = f.src) ∧ (u64 b 0x28 = 0) ∧ (u32 b 0x30 = inp.length) ∧
    (inp.length ≤ 16777216) ∧ ((u8 b 7 = 0 → inp.length % 4 = 0)) ∧ (m.tokensOk a.capsule (u8 b 7) inp = true) ∧
    (m.frontPart k = a.partition) ∧ (let v := stop .busy; (m.admitFails a 8 0x20 0x1C 0x38 (u8 b 7) inp = some v))) ∧
  (let type : Nat := 6; (type ≠ 7) ∧ (type ≠ 8)) ∧
  (let s : State := atRest (inSess { sess0 with retained := [kept 3 1999999000000, kept 4 1999998000000] });
    let k : Nat := 9; let e : MapEntry := ⟨9, 1, 0, 7, 1, 0⟩;
    let x : Session := { sess0 with retained := [kept 3 1999999000000, kept 4 1999998000000] };
    (s.m.live = true) ∧ (x = s.m.session k) ∧ (s.m.endpoint (k % 2 ^ 32) = some e) ∧ (let r := kept 4 1999998000000;
    (firstDue x.retained = some r) ∧ (x.down = false))) ∧
  (let s : State := atRest (inSess { sess0 with ackOwed := some 1999999950000 }); let k : Nat := 9;
    let e : MapEntry := ⟨9, 1, 0, 7, 1, 0⟩; let x : Session := { sess0 with ackOwed := some 1999999950000 };
    (s.m.live = true) ∧ (x = s.m.session k) ∧ (s.m.endpoint (k % 2 ^ 32) = some e) ∧ (let t := 1999999950000;
    (x.ackOwed = some t))) ∧
  (let s : State := atRest (let m := inSess { sess0 with retained := [kept 3 5] } (asks 1);
    { m with steps := { m.steps with reqs := [(0, { req0 1 with return_ := 9 })] } }); let k : Nat := 9;
    let e : MapEntry := ⟨9, 1, 0, 7, 1, 0⟩; let x : Session := { sess0 with retained := [kept 3 5] };
    (s.m.live = true) ∧ (x = s.m.session k) ∧ (s.m.endpoint (k % 2 ^ 32) = some e) ∧ (let r := kept 3 5; let rs := [];
    (x.retained = r :: rs) ∧ (x.down = false) ∧
    ((s.m.get Reg.BELL.SESSION_RETAIN_MAX_KIB * 1024 ≤ x.retainedBytes ∨ r.first + 1000000 * s.m.get Reg.BELL.SESSION_DOWN_MS ≤ s.m.clk.mono)))) ∧
  (let l : List Retained := [kept 3 9, kept 4 5]; let r : Retained := kept 4 5; (firstDue l = some r)) ∧
  (let m : Module := asks 1; let i : Nat := 0; let r : Req := req0 1;
    (m.steps.reqs.get i = some r) ∧ (m.steps.reqs.wf = true) ∧ (r.state = 1)) ∧
  (let m : Module := asks 4; let i : Nat := 0; let r : Req := req0 4;
    (m.steps.reqs.get i = some r) ∧ (m.steps.reqs.wf = true) ∧ ((r.state = 2 ∨ r.state = 4))) ∧
  (let s : State := atRest (world 1); let f : SessFrame := sfrm 10 1 0 (zeros 72); let b : Bytes := zeros 72;
    (s.m.live = true) ∧ (f.length = f.body.length) ∧ (b = f.body) ∧ (s.m.mapSource f = false)) ∧
  (let s : State := atRest (fronted); let f : SessFrame := sfrm 10 1 0 (zeros 72); let b : Bytes := zeros 72;
    let m2 : Module := let m1 := (s.m.bumpBy Reg.BELL.RX_BYTES_COUNT (32 + b.length)).sessAcked f.src f.ack;
    let x := m1.session f.src; m1.setSession f.src { x with rxOpen := true, rxNext := (f.seq + 1) % 2 ^ 32, down := false, ackOwed := some (x.ackOwed.getD s.m.clk.mono) };
    (s.m.live = true) ∧ (f.length = f.body.length) ∧ (b = f.body) ∧ (s.m.mapSource f = true) ∧ (f.magic = 0x4B46) ∧
    (f.version = 1) ∧ (f.type = 10) ∧ (f.check = sessCrc f) ∧
    (m2 = (let m1 := (s.m.bumpBy Reg.BELL.RX_BYTES_COUNT (32 + b.length)).sessAcked f.src f.ack; let x := m1.session f.src;
    m1.setSession f.src { x with rxOpen := true, rxNext := (f.seq + 1) % 2 ^ 32, down := false, ackOwed := some (x.ackOwed.getD s.m.clk.mono) })) ∧
    (s.m.bell.mapInstalled = false ∨ serialUnordered (u32 b 0) s.m.bell.mapVersion = false) ∧ (m2.mapValid b = false)) ∧
  (let s : State := atRest (let m := fronted; { m with secur := { m.secur with fabricKey := some [1] } });
    let f : SessFrame := sfrm 10 1 0 (pay [(4, 1), (2, 0), (2, 1), (64, 0)]);
    let b : Bytes := pay [(4, 1), (2, 0), (2, 1), (64, 0)];
    let m2 : Module := let m1 := (s.m.bumpBy Reg.BELL.RX_BYTES_COUNT (32 + b.length)).sessAcked f.src f.ack;
    let x := m1.session f.src; m1.setSession f.src { x with rxOpen := true, rxNext := (f.seq + 1) % 2 ^ 32, down := false, ackOwed := some (x.ackOwed.getD s.m.clk.mono) };
    (s.m.live = true) ∧ (f.length = f.body.length) ∧ (b = f.body) ∧ (s.m.mapSource f = true) ∧ (f.magic = 0x4B46) ∧
    (f.version = 1) ∧ (f.type = 10) ∧ (f.check = sessCrc f) ∧
    (m2 = (let m1 := (s.m.bumpBy Reg.BELL.RX_BYTES_COUNT (32 + b.length)).sessAcked f.src f.ack; let x := m1.session f.src;
    m1.setSession f.src { x with rxOpen := true, rxNext := (f.seq + 1) % 2 ^ 32, down := false, ackOwed := some (x.ackOwed.getD s.m.clk.mono) })) ∧
    (s.m.bell.mapInstalled = false ∨ serialUnordered (u32 b 0) s.m.bell.mapVersion = false) ∧
    (Config.edVerify [1] (b.take 8) (b.drop 8) = true → m2.mapValid b = true) ∧ (m2.bell.delivery = none) ∧ (u16 b 6 = 1)) ∧
  (let m : Module := let m := fronted;
    { m with secur := { m.secur with fabricKey := some [1] }, bell := { m.bell with mapInstalled := true } };
    let b : Bytes := pay [(4, 1), (2, 0), (2, 1), (64, 0)]; (Config.edVerify [1] (b.take 8) (b.drop 8) = true →
    m.mapValid b = true) ∧ (m.bell.mapInstalled = true)) ∧
  (let s : State := atRest (let m := fronted;
    { m with bell := { m.bell with delivery := some ⟨4, 2, 1999000000000, []⟩ } });
    let d : MapDelivery := ⟨4, 2, 1999000000000, []⟩; (s.m.live = true) ∧ (s.m.bell.delivery = some d)) ∧
  (let s : State := atRest { (world 1) with parts := List.replicate 8 ⟨0, 0, 0, 0, 0, 0, 0, 0⟩, bell := { (world 1).bell with map := [(4, ⟨4, 5, 0xFF, 7, 2, ownSerial⟩)] } };
    (s.m.live = true) ∧ (s.m.namedEndpoints.all s.m.shown = true)) ∧
  (let s : State := atRest (world 1); (s.m.live = true) ∧ (s.m.namedEndpoints.all s.m.shown = false) ∧
    (s.m.bell.mapInstalled = false)) := by
  refine ⟨⟨List.mem_of_getElem? (i := 0) rfl, by decide +kernel⟩, ⟨List.mem_of_getElem? (i := 4) rfl, by decide +kernel⟩,
    ?_, ⟨by decide +kernel, pair_of_snd (by decide +kernel)⟩, ⟨List.mem_of_getElem? (i := 2) rfl, by decide +kernel,
    by decide +kernel, pair_of_snd (by decide +kernel), by decide +kernel, by decide +kernel⟩,
    ⟨List.mem_of_getElem? (i := 1) rfl, by decide +kernel, by decide +kernel, pair_of_snd (by decide +kernel),
    by decide +kernel, sessionOf_fronted _ _ _ rfl (by decide +kernel) (by decide +kernel), ⟨by decide +kernel,
    by decide +kernel, rfl, by decide +kernel, by decide +kernel, by decide +kernel⟩⟩, ⟨List.mem_of_getElem? (i := 2) rfl,
    by decide +kernel, by decide +kernel, pair_of_snd (by decide +kernel), by decide +kernel,
    sessionOf_fronted _ _ _ rfl (by decide +kernel) (by decide +kernel), ⟨by decide +kernel, by decide +kernel, rfl,
    by decide +kernel, by decide +kernel, by decide +kernel⟩⟩, ⟨List.mem_of_getElem? (i := 3) rfl, by decide +kernel,
    by decide +kernel, pair_of_snd (by decide +kernel), by decide +kernel,
    sessionOf_fronted _ _ _ rfl (by decide +kernel) (by decide +kernel), ⟨by decide +kernel, by decide +kernel, rfl,
    by decide +kernel, by decide +kernel⟩⟩, ⟨?_, ?_, ?_, ?_, ?_, ?_, ?_, ?_, ⟨?_, ?_, ?_, ?_, ?_, ?_, ?_, ?_,
    ⟨⟨by decide +kernel, by decide +kernel, by decide +kernel, by decide +kernel, by decide +kernel, by decide +kernel,
    ⟨by decide +kernel, by decide +kernel, rfl, by decide +kernel, by decide +kernel⟩⟩, ⟨by decide +kernel,
    by decide +kernel, by decide +kernel, by decide +kernel, by decide +kernel, by decide +kernel, ⟨by decide +kernel,
    by decide +kernel, rfl, by decide +kernel,
    fun h => mapValid_later _ [1] _ (by rfl) (by decide +kernel) (by decide +kernel) h, by decide +kernel,
    by decide +kernel⟩⟩, ⟨fun h => mapValid_later _ [1] _ (by rfl) (by decide +kernel) (by decide +kernel) h,
    by decide +kernel⟩, ?_, ⟨by decide +kernel, (show [(5, 0xFF,
    ownSerial)].all _ = true by (simpa using shown_own _ _ _ ⟨4, 5, 0xFF, 7, 2, ownSerial⟩ (.head _) rfl rfl rfl))⟩,
    ?_⟩⟩⟩⟩ <;> decide +kernel

end Sys2Proof.Tests
end

