-- ==== Sys2Proof/Tests/WitnessSlide.lean ====
section
/-!
SUPPORT. For each statement about the slide engine: states and operands that meet the hypotheses of each of its clauses.
-/

namespace Sys2Proof.Tests

-- The evaluations below wait for one another, so that they run one at a time and hold one stack.
set_option Elab.async false

open Sys2Proof Sys2Proof.Machine

/-- The module whose arbiters from a to b are held by requester 0 of partition 0. -/
def held89 (a b : Nat) (m : Module) : Module :=
  { m with reed := (List.range' a (b - a)).map (fun i => (i, ⟨[], some ⟨0, 0, 5, 256, 0, false⟩, 5, 0, 0⟩)) }

theorem held89_some (m : Module) (h : m.reed = (held89 0 90 State.reset.m).reed) (x : Xfer) (hx : tierOf x.source = 0)
    (hp : m.capPart x.capsule = 0) : (m.grantOf x).isSome = true := by
  have key : ∀ i < 90, (((held89 0 90 State.reset.m).reedInst i).holder.filter
      (fun q => q.requester == 0 && q.tag == 0)).isSome = true := by decide +kernel
  have hk : Config.hbmGroup (indexOf x.source) % 32 < 90 := by omega
  simpa [Module.grantOf, Module.readArbiter, Module.reedInst, hx, hp, h] using key _ hk


/-- The hypotheses of SlideCommandsPlaceAndRegister are met. -/
theorem witness_SlideCommandsPlaceAndRegister :
  (let s : State := go (world 2) 0x0300 [(4, 0), (1, 0), (1, 1), (2, 2), (8, 0)]; let src : Src := .mbox 0;
    let c : RunCmd := cm s; let k : Capsule := cap0 2; (Fresh s src 0x0300 c) ∧ (allZero c.payload 7 1 = true) ∧
    (allZero c.payload 0x0C 4 = true) ∧ (NamesCapsule s.m (u32 c.payload 0)) ∧ (k = s.m.slot (u32 c.payload 0 / 256)) ∧
    (u8 c.payload 4 = 0) ∧ (u8 c.payload 5 ≤ 3) ∧ (u16 c.payload 8 = 0) ∧ (u16 c.payload 0x0A = 0) ∧ (MayWrite s.m c k) ∧
    ((k.state = 1 ∨ k.state = 2 ∨ k.state = 4)) ∧ (k.damaged = false) ∧ ((u8 c.payload 5 = 3 → s.m.ftl.readOnly = false)) ∧
    (u8 c.payload 6 = 2)) ∧
  (let s : State := go (world 1) 0x0300 [(4, 0), (1, 0), (1, 3), (2, 0), (8, 0)]; let src : Src := .mbox 0;
    let c : RunCmd := cm s; let k : Capsule := cap0 1; (Fresh s src 0x0300 c) ∧ (allZero c.payload 7 1 = true) ∧
    (allZero c.payload 0x0C 4 = true) ∧ (NamesCapsule s.m (u32 c.payload 0)) ∧ (k = s.m.slot (u32 c.payload 0 / 256)) ∧
    (u8 c.payload 4 = 0) ∧ (u8 c.payload 5 ≤ 3) ∧ (u16 c.payload 8 = 0) ∧ (u16 c.payload 0x0A = 0) ∧ (MayWrite s.m c k) ∧
    ((k.state = 1 ∨ k.state = 2 ∨ k.state = 4)) ∧ (k.damaged = false) ∧ ((u8 c.payload 5 = 3 → s.m.ftl.readOnly = false)) ∧
    (u8 c.payload 6 = 0) ∧ (c.fromMailbox = true)) ∧
  (let s : State := go boot 0x0320 [(8, 15), (8, 0), (8, 2 ^ 21)]; let src : Src := .mbox 0; let c : RunCmd := cm s src;
    (Fresh s src 0x0320 c) ∧ (allZero c.payload 1 7 = true) ∧ (let id := u8 c.payload 0; (let base := u64 c.payload 8;
    (let size := u64 c.payload 0x10; (id ≤ 15) ∧ (base % 2 ^ 21 = 0) ∧ (size % 2 ^ 21 = 0) ∧ (size ≠ 0) ∧
    ((s.m.slide.extents.all (fun e => e.id == id || !overlap base size e.base e.size)) = true) ∧
    ((∀ e ∈ s.m.slide.extents, e.id ≠ id)))))) ∧
  (let s : State := let w := boot; go { w with slide := { w.slide with extents := [⟨15, 0, 2 ^ 21, 0⟩] } } 0x0320 [(8, 15),
    (8, 2 ^ 40), (8, 2 ^ 21)]; let src : Src := .mbox 0; let c : RunCmd := cm s src;
    (Fresh s src 0x0320 c) ∧ (allZero c.payload 1 7 = true) ∧ (let id := u8 c.payload 0; (let base := u64 c.payload 8;
    (let size := u64 c.payload 0x10; (id ≤ 15) ∧ (base % 2 ^ 21 = 0) ∧ (size % 2 ^ 21 = 0) ∧ (size ≠ 0) ∧
    ((s.m.slide.extents.all (fun e => e.id == id || !overlap base size e.base e.size)) = true) ∧
    ((∃ e ∈ s.m.slide.extents, e.id = id)))))) ∧
  (let s : State := go boot 0x0321 [(8, 15)]; let src : Src := .mbox 0; let c : RunCmd := cm s src;
    (Fresh s src 0x0321 c) ∧ (allZero c.payload 1 7 = true) ∧ ((∀ e ∈ s.m.slide.extents, e.id ≠ u8 c.payload 0))) ∧
  (let s : State := let w := boot;
    go { w with slide := { w.slide with extents := [⟨15, 0, 2 ^ 21, 0⟩], leaving := [2 ^ 31 + 4] }, caps := { w.caps with frames := [(2 ^ 31 + 3, frame0), (2 ^ 31 + 4, frame0)] } } 0x0321 [(8,
    15)]; let src : Src := .mbox 0; let c : RunCmd := cm s src;
    (Fresh s src 0x0321 c) ∧ (allZero c.payload 1 7 = true) ∧ (let e := ⟨15, 0, 2 ^ 21, 0⟩;
    (s.m.slide.extents.find? (fun x => x.id == u8 c.payload 0) = some e) ∧
    ((s.m.slide.releases.any (fun r => r.extent == u8 c.payload 0)) = false))) := by
  refine ⟨?_, ?_, ?_, ?_, ?_, ?_⟩ <;> decide +kernel

/-- The hypotheses of SlideSchedulesAreCheckedWhole are met. -/
theorem witness_SlideSchedulesAreCheckedWhole :
  (let s : State := go (world 1) 0x0310 [(8, 0), (4, 131072), (4, 1), (8, 0)]; let src : Src := .mbox 0;
    let c : RunCmd := cm s src; (Fresh s src 0x0310 c) ∧ (allZero c.payload 0x11 7 = true) ∧ (let addr := u64 c.payload 0;
    (let n := u32 c.payload 8; (let p := u8 c.payload 0x10; (addr % 32 = 0) ∧ (1 ≤ n) ∧ (n ≤ 131072) ∧
    (s.m.present p = true) ∧ (8 < s.m.coreCount p))))) ∧
  (let s : State := let w := small (world 1); go { w with slide := { w.slide with accepted := [(0, 1)] } } 0x0310 [(8, 0),
    (4, 1), (4, 1), (8, 0)]; let src : Src := .mbox 0; let c : RunCmd := cm s src;
    (Fresh s src 0x0310 c) ∧ (allZero c.payload 0x11 7 = true) ∧ (let addr := u64 c.payload 0; (let n := u32 c.payload 8;
    (let step := u32 c.payload 0x0C; (let p := u8 c.payload 0x10;
    (addr % 32 = 0) ∧ (1 ≤ n) ∧ (n ≤ 131072) ∧ (s.m.present p = true) ∧ (s.m.coreCount p ≤ 8) ∧
    (s.m.cmdMay c p addr (32 * n) false = true) ∧ ((p, step) ∈ s.m.slide.accepted)))))) ∧
  (let s : State := go (small (world 1)) 0x0310 [(8, 32), (4, 1), (4, 1), (8, 0)]; let src : Src := .mbox 0;
    let c : RunCmd := cm s src; (Fresh s src 0x0310 c) ∧ (allZero c.payload 0x11 7 = true) ∧ (let addr := u64 c.payload 0;
    (let n := u32 c.payload 8; (let step := u32 c.payload 0x0C; (let p := u8 c.payload 0x10;
    (addr % 32 = 0) ∧ (1 ≤ n) ∧ (n ≤ 131072) ∧ (s.m.present p = true) ∧ (s.m.coreCount p ≤ 8) ∧
    (s.m.cmdMay c p addr (32 * n) false = true) ∧ ((p, step) ∉ s.m.slide.accepted) ∧ (s.m.host.linkUp = true) ∧
    (s.m.host.d3hot = false) ∧ (let raw := (List.range n).map (fun i => s.m.cmdRead c (addr + 32 * i) 32);
    (let es := raw.map (fun e => entryOf e p);
    (let bad := !(raw.all entryFields) || es.any (fun e => e.capsule % 256 == 255) || es.any (fun e => e.step != step) || !entriesOrdered es;
    (bad = true))))))))) ∧
  (let s : State := let w := small (world 1);
    go { w with hostMem := w.hostMem.wrN 32 (pay [(4, 512), (4, 0), (4, 0), (2, 0), (2, 1), (8, 9), (4, 1), (4, 0)]) } 0x0310 [(8,
    32), (4, 1), (4, 1), (8, 0)]; let src : Src := .mbox 0; let c : RunCmd := cm s src;
    (Fresh s src 0x0310 c) ∧ (allZero c.payload 0x11 7 = true) ∧ (let addr := u64 c.payload 0; (let n := u32 c.payload 8;
    (let step := u32 c.payload 0x0C; (let p := u8 c.payload 0x10;
    (addr % 32 = 0) ∧ (1 ≤ n) ∧ (n ≤ 131072) ∧ (s.m.present p = true) ∧ (s.m.coreCount p ≤ 8) ∧
    (s.m.cmdMay c p addr (32 * n) false = true) ∧ ((p, step) ∉ s.m.slide.accepted) ∧ (s.m.host.linkUp = true) ∧
    (s.m.host.d3hot = false) ∧ (let raw := (List.range n).map (fun i => s.m.cmdRead c (addr + 32 * i) 32);
    (let es := raw.map (fun e => entryOf e p);
    (let bad := !(raw.all entryFields) || es.any (fun e => e.capsule % 256 == 255) || es.any (fun e => e.step != step) || !entriesOrdered es;
    (bad = false) ∧ ((∃ e ∈ es, (s.m.capsule e.capsule).map (·.partition) ≠ some p)))))))))) ∧
  (let s : State := let w := small (world 1);
    go { w with hostMem := w.hostMem.wrN 32 (pay [(4, 0), (4, 0), (4, 0), (2, 0), (2, 1), (8, 9), (4, 1), (4, 0)]), steps := { w.steps with parts := [(0, { PartSteps.blank with live := [⟨1, 0, 0, [], false, none, 0, [], none, 0, 0⟩] })] } } 0x0310 [(8,
    32), (4, 1), (4, 1), (8, 0)]; let src : Src := .mbox 0; let c : RunCmd := cm s src;
    (Fresh s src 0x0310 c) ∧ (allZero c.payload 0x11 7 = true) ∧ (let addr := u64 c.payload 0; (let n := u32 c.payload 8;
    (let step := u32 c.payload 0x0C; (let p := u8 c.payload 0x10;
    (addr % 32 = 0) ∧ (1 ≤ n) ∧ (n ≤ 131072) ∧ (s.m.present p = true) ∧ (s.m.coreCount p ≤ 8) ∧
    (s.m.cmdMay c p addr (32 * n) false = true) ∧ ((p, step) ∉ s.m.slide.accepted) ∧ (s.m.host.linkUp = true) ∧
    (s.m.host.d3hot = false) ∧ (let raw := (List.range n).map (fun i => s.m.cmdRead c (addr + 32 * i) 32);
    (let es := raw.map (fun e => entryOf e p);
    (let bad := !(raw.all entryFields) || es.any (fun e => e.capsule % 256 == 255) || es.any (fun e => e.step != step) || !entriesOrdered es;
    (bad = false) ∧ ((∀ e ∈ es, (s.m.capsule e.capsule).map (·.partition) = some p)) ∧
    (let x := ⟨1, 0, 0, [], false, none, 0, [], none, 0, 0⟩;
    ((s.m.pstep p).live.find? (fun x => x.num == step) = some x)))))))))) ∧
  (let s : State := let w := small (world 1);
    go { w with hostMem := w.hostMem.wrN 32 (pay [(4, 0), (4, 0), (4, 0), (2, 0), (2, 1), (8, 9), (4, 1), (4, 0)]) } 0x0310 [(8,
    32), (4, 1), (4, 1), (8, 0)]; let src : Src := .mbox 0; let c : RunCmd := cm s src;
    (Fresh s src 0x0310 c) ∧ (allZero c.payload 0x11 7 = true) ∧ (let addr := u64 c.payload 0; (let n := u32 c.payload 8;
    (let step := u32 c.payload 0x0C; (let p := u8 c.payload 0x10;
    (addr % 32 = 0) ∧ (1 ≤ n) ∧ (n ≤ 131072) ∧ (s.m.present p = true) ∧ (s.m.coreCount p ≤ 8) ∧
    (s.m.cmdMay c p addr (32 * n) false = true) ∧ ((p, step) ∉ s.m.slide.accepted) ∧ (s.m.host.linkUp = true) ∧
    (s.m.host.d3hot = false) ∧ (let raw := (List.range n).map (fun i => s.m.cmdRead c (addr + 32 * i) 32);
    (let es := raw.map (fun e => entryOf e p);
    (let bad := !(raw.all entryFields) || es.any (fun e => e.capsule % 256 == 255) || es.any (fun e => e.step != step) || !entriesOrdered es;
    (bad = false) ∧ ((∀ e ∈ es, (s.m.capsule e.capsule).map (·.partition) = some p)) ∧
    ((s.m.pstep p).live.find? (fun x => x.num == step) = none))))))))) := by
  refine ⟨?_, ?_, ?_, ?_, ?_, ?_⟩ <;> decide +kernel

/-- The hypotheses of PrefetchEntriesIssueAndMiss are met. -/
theorem witness_PrefetchEntriesIssueAndMiss :
  (let s : State := let w := world 2; atRest { w with slide := { w.slide with entries := [pf 0 true, pf 1 false] } };
    let id : Nat := 1; let e : PfEntry := pf 1 false; (s.m.live = true) ∧
    (s.m.slide.entries.find? (fun x => x.id == id) = some e) ∧ (e.issued = false) ∧ (e.arrived = false) ∧
    (let before := (s.m.slide.entries.takeWhile (fun x => x.id != id)).filter (fun x => x.partition == e.partition && x.step == e.step);
    (before.all (fun x => x.issued || x.arrived) = true) ∧ (s.m.mayIssue e = true))) ∧
  (let s : State := let w := world 2; atRest { w with slide := { w.slide with entries := [pf 0 false, pf 1 false] } };
    let id : Nat := 1; let e : PfEntry := pf 1 false; (s.m.live = true) ∧
    (s.m.slide.entries.find? (fun x => x.id == id) = some e) ∧ (e.issued = false) ∧ (e.arrived = false) ∧
    (let before := (s.m.slide.entries.takeWhile (fun x => x.id != id)).filter (fun x => x.partition == e.partition && x.step == e.step);
    ((before.all (fun x => x.issued || x.arrived) = false ∨ s.m.mayIssue e = false)))) ∧
  (let s : State := let w := world 2; atRest { w with slide := { w.slide with entries := [pf 1 true] } }; let id : Nat := 1;
    let e : PfEntry := pf 1 true; (s.m.live = true) ∧ (s.m.slide.entries.find? (fun x => x.id == id) = some e) ∧
    (e.arrived = false) ∧ (e.missed = false) ∧ (e.deadline + 1 < 2 ^ 64)) ∧
  (let s : State := let w := world 2; atRest { w with slide := { w.slide with entries := [pf 1 true] } }; let id : Nat := 1;
    let e : PfEntry := pf 1 true; (s.m.live = true) ∧ (s.m.slide.entries.find? (fun x => x.id == id) = some e) ∧
    (e.arrived = false) ∧ (e.missed = false) ∧ (e.deadline + 1 < 2 ^ 64) ∧ (let step := 9; (step ≠ e.step))) ∧
  (let e : PfEntry := pf 1 true; (e.privileged = false)) ∧
  (let e : PfEntry := { pf 1 true with privileged := true }; (e.privileged = true)) ∧
  (let m : Module := world 2; let e : PfEntry := { pf 1 true with deadline := 1000 };
    (e.deadline ≤ m.clk.now + m.get Reg.SLIDE.PF_WINDOW_LOOKAHEAD_NS)) ∧
  (let s : State := let w := world 2;
    atRest { w with slide := { w.slide with entries := [pf 1 true], stalls := [⟨1, 1999999999999, false⟩] } };
    let id : Nat := 1; let t : Stall := ⟨1, 1999999999999, false⟩; let e : PfEntry := pf 1 true;
    (s.m.live = true) ∧ (s.m.slide.stalls.find? (fun x => x.entry == id) = some t) ∧
    (s.m.slide.entries.find? (fun x => x.id == id) = some e) ∧ (t.warned = false)) := by
  refine ⟨?_, ?_, ?_, ?_, ?_, ?_, ?_, ?_⟩ <;> decide +kernel

/-- The hypotheses of TilesLandAndMovesEnd are met. -/
theorem witness_TilesLandAndMovesEnd :
  (let s : State := let w := world 2;
    atRest { w with slide := { w.slide with xfers := [(4, ⟨.entry 1, 0, 0, 0, 0, 2 ^ 31, 63, 5, 0, none, none⟩)] } };
    let id : Nat := 4; let x : Xfer := ⟨.entry 1, 0, 0, 0, 0, 2 ^ 31, 63, 5, 0, none, none⟩;
    (s.m.live = true) ∧ (s.m.slide.xfers.get id = some x) ∧ (s.m.grantOf x = none)) ∧
  (let s : State := let w := held89 89 90 (world 2);
    atRest { w with slide := { w.slide with xfers := [(4, ⟨.entry 1, 0, 0, 0, 0, 2 ^ 31, 63, 5, 0, none, none⟩)] }, attn := { w.attn with cores := [(63, { (w.core 63) with landing := List.replicate 96 ⟨0, 0, 0, 0, 0, 0, []⟩ })] } };
    let id : Nat := 4; let x : Xfer := ⟨.entry 1, 0, 0, 0, 0, 2 ^ 31, 63, 5, 0, none, none⟩;
    (s.m.live = true) ∧ (s.m.slide.xfers.get id = some x) ∧ ((s.m.grantOf x).isSome = true) ∧ (x.core < 64) ∧
    (96 ≤ (s.m.core x.core).landing.length)) ∧
  (let s : State := let w := held89 0 90 (world 2);
    atRest { w with slide := { w.slide with xfers := [(4, ⟨.move 7, 0, 0, 0, 7, 0, 64, 5, 0, none, none⟩)], moves := [(7, ⟨.relief, 0, 2 ^ 30, [7]⟩)] } };
    let id : Nat := 4; let failed : Bool := false; let x : Xfer := ⟨.move 7, 0, 0, 0, 7, 0, 64, 5, 0, none, none⟩;
    (s.m.live = true) ∧ (s.m.slide.xfers.get id = some x) ∧ (let mv := 7; let f := frame0;
    ((s.m.grantOf x).isSome = true) ∧ (x.why = .move mv) ∧ (64 ≤ x.core) ∧ (x.place = none) ∧ (tierOf x.source ≠ 2) ∧
    (failed = false) ∧ ((s.m.touch x.source).frame x.source = some f) ∧ (f.badIn (16384 * x.tile) 16384 = none))) ∧
  (let s : State := let w := held89 89 90 (world 2); atRest { w with slide := { w.slide with hints := [⟨1, [0], 2⟩] } };
    let h : Hint := ⟨1, [0], 2⟩; let rest : List Hint := []; (s.m.live = true) ∧ (s.m.slide.hints = h :: rest) ∧
    (s.m.tierIdle h.tier = false)) ∧
  (let s : State := let w := world 2; atRest { w with slide := { w.slide with hints := [⟨1, [0], 1⟩] } };
    let h : Hint := ⟨1, [0], 1⟩; let rest : List Hint := []; (s.m.live = true) ∧ (s.m.slide.hints = h :: rest) ∧
    (s.m.tierIdle h.tier = true) ∧ (s.m.capsule h.capsule = none)) ∧
  (let s : State := let w := world 2; atRest { w with slide := { w.slide with hints := [⟨0, [0], 1⟩] } };
    let h : Hint := ⟨0, [0], 1⟩; let rest : List Hint := []; (s.m.live = true) ∧ (s.m.slide.hints = h :: rest) ∧
    (let c := cap0 2; (s.m.tierIdle h.tier = true) ∧ (s.m.capsule h.capsule = some c) ∧
    ((c.state = 1 ∨ c.state = 2 ∨ c.state = 4)) ∧ (s.m.owns c = true))) ∧
  (let s : State := atRest boot; (s.m.live = true) ∧
    ((s.m.slide.extents = [] ∨ s.m.get Reg.SLIDE.HOST_WATER_FREE_LOW ≤ s.m.tierFree 2))) ∧
  (let s : State := let w := boot;
    atRest { w with slide := { w.slide with extents := [⟨15, 0, 2 ^ 21, 0⟩] }, caps := { w.caps with frames := (List.range 16).map (fun i => (2 ^ 31 + i, frame0)) } };
    (s.m.live = true) ∧ (s.m.slide.extents ≠ []) ∧ (s.m.tierFree 2 < s.m.get Reg.SLIDE.HOST_WATER_FREE_LOW) ∧
    (s.m.flag Reg.SLIDE.STATUS_FLASH_DEMOTE_OFF = false)) ∧
  (let s : State := let w := boot;
    atRest { w with slide := { w.slide with xfers := [(4, ⟨.entry 1, 0, 0, 0, 0, 2 ^ 31, 3, 5, 2, none, none⟩)] } };
    let id : Nat := 4; let x : Xfer := ⟨.entry 1, 0, 0, 0, 0, 2 ^ 31, 3, 5, 2, none, none⟩;
    (s.m.live = true) ∧ (s.m.slide.xfers.get id = some x) ∧ (tierOf x.source = 2) ∧
    (x.tries < s.m.get Reg.SLIDE.HOST_CTRL_RETRIES)) := by
  refine ⟨?_, ?_, ⟨by decide +kernel, by decide +kernel, held89_some _ (by rfl) _ (by decide) (by decide +kernel),
    by decide +kernel⟩, ?_, ?_, ?_, ?_, ?_, ?_⟩ <;> decide +kernel

end Sys2Proof.Tests
end

