-- ==== Sys2Proof/Tests/WitnessStep.lean ====
section
/-!
SUPPORT. For each statement about requests, steps, acceptance, accounts and prefixes: states and operands that meet the hypotheses of each of its clauses.
-/

namespace Sys2Proof.Tests

-- The evaluations below wait for one another, so that they run one at a time and hold one stack.
set_option Elab.async false

open Sys2Proof Sys2Proof.Machine

/-- The hypotheses of RequestCommandsAct are met. -/
theorem witness_RequestCommandsAct :
  (let s : State := go (withAttn (obj 3 0 0) (world 1)) 0x0500 [(4, 0), (1, 0), (1, 4), (1, 4), (1, 0), (2, 0), (2, 0), (4,
    10), (8, 2 ^ 63), (4, 0), (4, 0), (8, 2 ^ 64 - 1), (8, 0), (4, 0), (4, 0)]; let b : Nat := 0; let c : RunCmd := cm s;
    let a : Admit := Admit.ofPayload c.payload; let k : Capsule := cap0 1;
    (Fresh s (.mbox b) 0x0500 c) ∧ (a = Admit.ofPayload c.payload) ∧ (allZero c.payload 0x0A 2 = true) ∧
    (allZero c.payload 0x34 4 = true) ∧ (a.capsule % 256 ≠ 255) ∧ (s.m.present a.partition = true) ∧ (a.flags ≤ 7) ∧
    (u8 c.payload 7 ≤ 1) ∧ (a.model < 64) ∧ ((if bit a.flags 2 then a.return_ = 0 else a.return_ ≠ 0)) ∧
    ((u32 c.payload 0x30 = 0 → u64 c.payload 0x28 = 0)) ∧ (u32 c.payload 0x30 ≤ 16777216) ∧ (u32 c.payload 0x30 % 4 = 0) ∧
    (s.m.capsule a.capsule = some k) ∧ (MayWrite s.m c k) ∧ (firstFail (s.m.admitChecks a 8 0x20 0x1C) = none) ∧
    ((bit a.flags 2 = true → s.m.mute a.partition = false)) ∧ (s.m.entryFree a.partition = true) ∧
    (u32 c.payload 0x30 = 0)) ∧
  (let s : State := go (withAttn (obj 3 0 0) (world 1)) 0x0500 [(4, 0), (1, 0), (1, 4), (1, 4), (1, 0), (2, 0), (2, 0), (4,
    10), (8, 2 ^ 63), (4, 0), (4, 0), (8, 2 ^ 64 - 1), (8, 0x1000), (4, 8), (4, 0)]; let b : Nat := 0;
    let c : RunCmd := cm s; let a : Admit := Admit.ofPayload c.payload; let k : Capsule := cap0 1;
    (Fresh s (.mbox b) 0x0500 c) ∧ (a = Admit.ofPayload c.payload) ∧ (allZero c.payload 0x0A 2 = true) ∧
    (allZero c.payload 0x34 4 = true) ∧ (a.capsule % 256 ≠ 255) ∧ (s.m.present a.partition = true) ∧ (a.flags ≤ 7) ∧
    (u8 c.payload 7 ≤ 1) ∧ (a.model < 64) ∧ ((if bit a.flags 2 then a.return_ = 0 else a.return_ ≠ 0)) ∧
    ((u32 c.payload 0x30 = 0 → u64 c.payload 0x28 = 0)) ∧ (u32 c.payload 0x30 ≤ 16777216) ∧ (u32 c.payload 0x30 % 4 = 0) ∧
    (s.m.capsule a.capsule = some k) ∧ (MayWrite s.m c k) ∧ (firstFail (s.m.admitChecks a 8 0x20 0x1C) = none) ∧
    ((bit a.flags 2 = true → s.m.mute a.partition = false)) ∧ (s.m.entryFree a.partition = true) ∧
    (u32 c.payload 0x30 ≠ 0) ∧ (s.m.engineMay a.partition 2 (u64 c.payload 0x28) (u32 c.payload 0x30) = true)) ∧
  (let s : State := let w := go (let m := asks 1; { m with hostMem := [(0x1000, 100)] }) 0x0500 [(4, 0), (1, 0), (1, 4), (1,
    4), (1, 0), (2, 0), (2, 0), (4, 10), (8, 2 ^ 63), (4, 0), (4, 0), (8, 2 ^ 64 - 1), (8, 0x1000), (4, 8), (4, 0)];
    { w with m := w.m.await (cm w) [0, 0, 1] }; let b : Nat := 0; let c : RunCmd := cm s;
    (s.m.live = true) ∧ (s.m.waitingAdmit (.mbox b) = some c) ∧ (s.m.host.linkUp = true) ∧ (s.m.host.d3hot = false) ∧
    (let x := s.m.parseInput (u32 c.payload 0) (u8 c.payload 7) (s.m.hostMem.rdN (u64 c.payload 0x28) (u32 c.payload 0x30));
    (x = .bad))) ∧
  (let s : State := let w := go (asks 1) 0x0500 [(4, 0), (1, 0), (1, 4), (1, 4), (1, 0), (2, 0), (2, 0), (4, 10), (8,
    2 ^ 63), (4, 0), (4, 0), (8, 2 ^ 64 - 1), (8, 0x1000), (4, 8), (4, 0)]; { w with m := w.m.await (cm w) [0, 0, 1] };
    let b : Nat := 0; let c : RunCmd := cm s; (s.m.live = true) ∧ (s.m.waitingAdmit (.mbox b) = some c) ∧
    (s.m.host.linkUp = true) ∧ (s.m.host.d3hot = false) ∧
    (let x := s.m.parseInput (u32 c.payload 0) (u8 c.payload 7) (s.m.hostMem.rdN (u64 c.payload 0x28) (u32 c.payload 0x30));
    (x ≠ .bad) ∧ ((s.m.slot (u32 c.payload 0 / 256)).tokens + x.list.length ≤ 1048576) ∧
    (blocksFor 0 x.list.length ≤ s.m.inputFree))) ∧
  (let s : State := go (asks 3) 0x0501 [(4, 0), (4, 0), (4, 0), (4, 0), (8, 0)]; let src : Src := .mbox 0;
    let c : RunCmd := cm s src; let r : Req := req0 3; (Fresh s src 0x0501 c) ∧ (allZero c.payload 9 3 = true) ∧
    (WritesRequest s.m c (u32 c.payload 0) (u32 c.payload 4) r) ∧ (u8 c.payload 8 ≤ 1) ∧ (u32 c.payload 0x0C = 0) ∧
    (u64 c.payload 0x10 = 0) ∧ (r.state ≠ 5)) ∧
  (let s : State := go (asks 5) 0x0502 [(4, 0), (4, 0)]; let src : Src := .mbox 0; let c : RunCmd := cm s src;
    let r : Req := req0 5; let i : Nat := 0; (Fresh s src 0x0502 c) ∧ (i = u32 c.payload 4) ∧
    (WritesRequest s.m c (u32 c.payload 0) i r) ∧ (r.state = 5)) ∧
  (let s : State := go (asks 1) 0x0502 [(4, 0), (4, 0)]; let src : Src := .mbox 0; let c : RunCmd := cm s src;
    let r : Req := req0 1; let i : Nat := 0; (Fresh s src 0x0502 c) ∧ (i = u32 c.payload 4) ∧
    (WritesRequest s.m c (u32 c.payload 0) i r) ∧ (r.state = 1)) ∧
  (let s : State := go (asks 2) 0x0502 [(4, 0), (4, 0)]; let src : Src := .mbox 0; let c : RunCmd := cm s src;
    let r : Req := req0 2; let i : Nat := 0; (Fresh s src 0x0502 c) ∧ (i = u32 c.payload 4) ∧
    (WritesRequest s.m c (u32 c.payload 0) i r) ∧ (r.state = 2 ∨ r.state = 4)) ∧
  (let s : State := go (asks 3) 0x0502 [(4, 0), (4, 0)]; let src : Src := .mbox 0; let c : RunCmd := cm s src;
    let r : Req := req0 3; let i : Nat := 0; (Fresh s src 0x0502 c) ∧ (i = u32 c.payload 4) ∧
    (WritesRequest s.m c (u32 c.payload 0) i r) ∧ (r.state = 3)) ∧
  (let s : State := go (asks 2) 0x0503 [(4, 0), (4, 0)]; let src : Src := .mbox 0; let c : RunCmd := cm s src;
    let r : Req := req0 2; (Fresh s src 0x0503 c) ∧ (WritesRequest s.m c (u32 c.payload 0) (u32 c.payload 4) r) ∧
    (r.state ≠ 5)) ∧
  (let s : State := go (asks 5) 0x0504 [(4, 0), (4, 0)]; let src : Src := .mbox 0; let c : RunCmd := cm s src;
    let r : Req := req0 5; (Fresh s src 0x0504 c) ∧ (u32 c.payload 0 % 256 ≠ 255) ∧
    (s.m.request (u32 c.payload 4) (u32 c.payload 0) = some r)) ∧
  (let s : State := go (asks 5) 0x0504 [(4, 0), (4, 2 ^ 18)]; let src : Src := .mbox 0; let c : RunCmd := cm s src;
    (Fresh s src 0x0504 c) ∧ (u32 c.payload 0 % 256 ≠ 255) ∧ (s.m.request (u32 c.payload 4) (u32 c.payload 0) = none)) ∧
  (let s : State := go (asks 1) 0x0505 [(4, 0), (4, 0), (1, 7), (1, 4), (2, 0), (4, 9), (8, 77)]; let b : Nat := 0;
    let c : RunCmd := cm s; let r : Req := req0 1; let i : Nat := 0;
    (Fresh s (.mbox b) 0x0505 c) ∧ (allZero c.payload 0x0A 2 = true) ∧ (i = u32 c.payload 4) ∧
    (WritesRequest s.m c (u32 c.payload 0) i r) ∧ (u8 c.payload 8 ≤ 7) ∧ (r.state ≠ 2)) ∧
  (let s : State := go (world 1) 0x0510 [(8, 0x1000), (2, 256), (2, 0), (4, 1)]; let b : Nat := 0; let c : RunCmd := cm s;
    let addr : Nat := 0x1000; let n : Nat := 256; let p : Nat := 0;
    (Fresh s (.mbox b) 0x0510 c) ∧ (allZero c.payload 0x0B 1 = true) ∧ (addr = u64 c.payload 0) ∧ (n = u16 c.payload 8) ∧
    (p = u8 c.payload 0x0A) ∧ (1 ≤ n) ∧ (n ≤ 256) ∧ (s.m.present p = true) ∧ (8 < s.m.coreCount p)) ∧
  (let s : State := go (small (world 1)) 0x0510 [(8, 0x1000), (2, 2), (2, 0), (4, 1)]; let b : Nat := 0;
    let c : RunCmd := cm s; let addr : Nat := 0x1000; let n : Nat := 2; let p : Nat := 0;
    (Fresh s (.mbox b) 0x0510 c) ∧ (allZero c.payload 0x0B 1 = true) ∧ (addr = u64 c.payload 0) ∧ (n = u16 c.payload 8) ∧
    (p = u8 c.payload 0x0A) ∧ (1 ≤ n) ∧ (n ≤ 256) ∧ (s.m.present p = true) ∧ (s.m.coreCount p ≤ 8) ∧ (s.m.fenced = false) ∧
    (s.m.batchesOut p < 2) ∧ (u32 c.payload 0x0C = ((s.m.pstep p).built + 1 + (s.m.pstep p).batches.length) % 2 ^ 32) ∧
    (s.m.engineMay p 2 addr (8 * n) = true) ∧ (s.m.host.linkUp = true) ∧ (s.m.host.d3hot = false)) ∧
  (let s : State := go (world 1) 0x0520 [(4, 0), (4, 5), (8, 0), (4, 1), (4, 8388608)]; let src : Src := .mbox 0;
    let c : RunCmd := cm s src; let p : Nat := 0; let e : Nat := 5; let size : Nat := 8388608;
    (Fresh s src 0x0520 c) ∧ (allZero c.payload 1 3 = true) ∧ (p = u8 c.payload 0) ∧ (e = u32 c.payload 4) ∧
    (size = u32 c.payload 0x14) ∧ (s.m.present p = true) ∧ (isPow2 size = true) ∧ (8388608 ≤ size) ∧ (size ≤ 1073741824) ∧
    (s.m.endpoint e = none)) ∧
  (let s : State := go (let m := world 1;
    { m with bell := { m.bell with map := [(5, ⟨5, 1, 0, 0, 0, 0⟩)], qps := [(5, ⟨5, false, false⟩)] } }) 0x0520 [(4, 0),
    (4, 5), (8, 0), (4, 1), (4, 1073741824)]; let src : Src := .mbox 0; let c : RunCmd := cm s src; let p : Nat := 0;
    let e : Nat := 5; let size : Nat := 1073741824; (Fresh s src 0x0520 c) ∧ (allZero c.payload 1 3 = true) ∧
    (p = u8 c.payload 0) ∧ (e = u32 c.payload 4) ∧ (size = u32 c.payload 0x14) ∧ (s.m.present p = true) ∧
    (isPow2 size = true) ∧ (8388608 ≤ size) ∧ (size ≤ 1073741824) ∧ ((s.m.endpoint e).isSome = true) ∧
    (s.m.bell.qps.has e = true)) ∧
  (let s : State := go (let m := world 1;
    { m with steps := { m.steps with parts := [(0, { PartSteps.blank with wait := [[1]] })] } }) 0x0521 [(1, 0), (1, 127),
    (2, 0), (4, 65536), (8, 4096)]; let src : Src := .mbox 0; let c : RunCmd := cm s src; let p : Nat := 0;
    let size : Nat := 65536; let base : Nat := 4096; (Fresh s src 0x0521 c) ∧ (allZero c.payload 2 2 = true) ∧
    (p = u8 c.payload 0) ∧ (size = u32 c.payload 4) ∧ (base = u64 c.payload 8) ∧ (s.m.present p = true) ∧
    (96 ≤ u8 c.payload 1) ∧ (u8 c.payload 1 ≤ 127) ∧ (size % 4096 = 0) ∧ (65536 ≤ size) ∧ (size ≤ 1073741824) ∧
    (base % 4096 = 0) ∧ ((s.m.pstep p).wait ≠ [])) ∧
  (let s : State := go (world 1) 0x0521 [(1, 0), (1, 127), (2, 0), (4, 1073741824), (8, 4096)]; let src : Src := .mbox 0;
    let c : RunCmd := cm s src; let p : Nat := 0; let size : Nat := 1073741824; let base : Nat := 4096;
    (Fresh s src 0x0521 c) ∧ (allZero c.payload 2 2 = true) ∧ (p = u8 c.payload 0) ∧ (size = u32 c.payload 4) ∧
    (base = u64 c.payload 8) ∧ (s.m.present p = true) ∧ (96 ≤ u8 c.payload 1) ∧ (u8 c.payload 1 ≤ 127) ∧ (size % 4096 = 0) ∧
    (65536 ≤ size) ∧ (size ≤ 1073741824) ∧ (base % 4096 = 0) ∧ ((s.m.pstep p).wait = []) ∧
    (s.m.get (ringHead p) = s.m.get (ringTail p)) ∧ (s.m.engineMay p 2 base size = true)) ∧
  (let s : State := atRest ((let m := world 1;
    { m with steps := { m.steps with parts := [(0, { PartSteps.blank with ring := some ⟨3, 65536, 4096⟩, wait := [zeros 32] })] } }).set (ringHead 0) 16);
    let p : Nat := 0; let v : Nat := 16; (p < 8) ∧ (s.m.live = true) ∧ (s.m.host.linkUp = true) ∧ (s.m.host.d3hot = false) ∧
    (s.m.tailOk p v = true)) ∧
  (let s : State := atRest (world 1); let p : Nat := 7; let v : Nat := 8;
    (p < 8) ∧ (s.m.live = true) ∧ (s.m.host.linkUp = true) ∧ (s.m.host.d3hot = false) ∧ (s.m.tailOk p v = false)) := by
  refine ⟨?_, ?_, ?_, ?_, ?_, ?_, ?_, ?_, ⟨?_, ?_, ?_, ?_, ?_, ?_, ?_, ?_, ⟨?_, ?_, ?_, ?_, ?_⟩⟩⟩ <;> decide +kernel

/-- The hypotheses of StepsRunTheirPhases are met. -/
theorem witness_StepsRunTheirPhases :
  (let s : State := atRest (steps1 (step1 false false none)); let p : Nat := 0;
    (p < 8) ∧ (s.m.live = true) ∧ (s.m.mayBuild p = false)) ∧
  (let s : State := atRest (asks 1); let p : Nat := 0; (p < 8) ∧ (s.m.live = true) ∧ ((s.m.mayBuild p = true) ∧
    (8 < s.m.coreCount p) ∧
  (s.m.mayBuild p = true))) ∧
  (let s : State := atRest (small (asks 1)); let p : Nat := 0;
    (p < 8) ∧ (s.m.live = true) ∧ (s.m.mayBuild p = true) ∧ (s.m.coreCount p ≤ 8)) ∧
  (let s : State := atRest (steps1 (step1 false false none)); let p : Nat := 0;
    (p < 8) ∧ (s.m.live = true) ∧ (let l := step1 false false none;
    ((s.m.pstep p).live.find? (fun l => l.seqs.any (fun q => !q.dropped && !q.accounted)) = some l) ∧
    ((∀ q ∈ l.seqs, q.dropped = true ∨ s.m.layersDone p l.num q.request = true)))) ∧
  (let s : State := let m := steps1 (step1 false false none);
    atRest { m with attn := { m.attn with expected := [⟨0, 0, 0, 1, 0, 0, 0, false, 2, 1, 0, 0, [], []⟩] } };
    let p : Nat := 0; (p < 8) ∧ (s.m.live = true) ∧ (let l := step1 false false none;
    ((s.m.pstep p).live.find? (fun l => l.seqs.any (fun q => !q.dropped && !q.accounted)) = some l) ∧ (let q := seq0 false;
    (q.dropped = false) ∧ (s.m.layersDone p l.num q.request = false)))) ∧
  (let s : State := let m := (steps1 { step1 true false none with seqs := [{ seq0 true with basePos := 256 }] }).set Reg.SLIDE.HBM_POOL_FRAMES 0;
    atRest { m with attn := { m.attn with store := [⟨0, 1, 0, 0, 0, zeros 32⟩] }, slide := { m.slide with leaving := [7] } };
    let p : Nat := 0; (p < 8) ∧ (s.m.live = true) ∧
    (let l := { step1 true false none with seqs := [{ seq0 true with basePos := 256 }] };
    ((s.m.pstep p).live.find? (fun l => !l.writing) = some l) ∧ ((∀ q ∈ l.seqs, q.dropped = true ∨ (q.accounted = true ∧
    s.m.slotsReady p l.num q = true))) ∧ (s.m.awaitsFrames (l.seqs.filter (fun q => !q.dropped)) = true))) ∧
  (let s : State := let m := (steps1 (step1 true false none)).set Reg.MIRROR.CTRL_SOLO 0;
    atRest { m with attn := { m.attn with store := [⟨0, 1, 0, 0, 0, zeros 32⟩] } }; let p : Nat := 0;
    (p < 8) ∧ (s.m.live = true) ∧ (let l := step1 true false none;
    ((s.m.pstep p).live.find? (fun l => !l.writing) = some l) ∧ ((∀ q ∈ l.seqs, q.dropped = true ∨ (q.accounted = true ∧
    s.m.slotsReady p l.num q = true))) ∧ (s.m.awaitsFrames (l.seqs.filter (fun q => !q.dropped)) = false) ∧
    (let w := l.seqs.foldl (fun (a : Module) q => if q.dropped then a else a.writeSeq p l.num q) s.m;
    (let outs := (((w.pstep p).live.find? (fun x => x.num == l.num)).map (·.outputs)).getD [];
    (let done := ((w.updPart p (fun x => { x with live := x.live.map (fun y => if y.num == l.num then { y with writing := true, writeEnd := w.clk.mono } else y) })).sendMark p l.num outs).finishMoves;
    (done.flag Reg.MIRROR.CTRL_SOLO = false)))))) ∧
  (let s : State := let m := steps1 (step1 false false none); atRest m; let p : Nat := 0;
    (p < 8) ∧ (s.m.live = true) ∧ (let l := step1 false false none;
    ((s.m.pstep p).live.find? (fun l => !l.writing) = some l) ∧ (let q := seq0 false;
    (q.dropped = false) ∧ (q.accounted = false)))) ∧
  (let s : State := let m := steps1 (step1 true true (some 4)); atRest { m with mirror := { m.mirror with txAcked := 4 } };
    let p : Nat := 0; (p < 8) ∧ (s.m.live = true) ∧ (let l := step1 true true (some 4); let rest := [];
    ((s.m.pstep p).live = l :: rest) ∧ (l.writing = true) ∧ (s.m.marked l = true))) ∧
  (let s : State := let m := (steps1 (step1 true true (some 4))).set Reg.MIRROR.CTRL_SOLO 1;
    atRest { m with mirror := { m.mirror with state := 5 } }; let p : Nat := 0;
    (p < 8) ∧ (s.m.live = true) ∧ (let l := step1 true true (some 4); let rest := [];
    ((s.m.pstep p).live = l :: rest) ∧ (l.writing = true) ∧ (s.m.marked l = false) ∧ (s.m.commitsAlone l = true))) ∧
  (let s : State := atRest (steps1 (step1 true true (some 4))); let p : Nat := 0;
    (p < 8) ∧ (s.m.live = true) ∧ (let l := step1 true true (some 4); let rest := [];
    ((s.m.pstep p).live = l :: rest) ∧ (l.writing = false ∨ (s.m.marked l = false ∧ s.m.commitsAlone l = false)))) ∧
  (let s : State := atRest (steps1 (step1 true true (some 4))); let p : Nat := 0; (p < 8) ∧ (s.m.live = true)) := by
  refine ⟨?_, ?_, ?_, ?_, ?_, ?_, ?_, ?_, ⟨?_, ?_, ?_, ?_⟩⟩ <;> decide +kernel

/-- The hypotheses of AcceptanceFollowsTheTree are met. -/
theorem witness_AcceptanceFollowsTheTree :
  (let t : Option TokImage := none; let g : Option GramImage := none; let stops : List Bytes := [];
    let incl : Bool := false; let q : Seq := { seq0 false with kind := 2, tokens := [5, 6], parents := [0xFF, 0], hands := [⟨0, 6, 0, 0, true⟩, ⟨1, 7, 0, 0, true⟩] };
    let fuel : Nat := 3; let left : Option Nat := some 2; let state : Nat := 0; let hold : Bytes := [];
    (let x := walkTokens t g stops incl q fuel 0 left ⟨[], [0], state, [], hold, 0, false, false, 0, 0⟩; ((let n := 2;
    (left = some n)) ∧
  (let k := 0; (k < x.accepted.length)) ∧
  (let k := 0; let c := 1; (k + 1 < x.path.length) ∧ (x.path[k + 1]? = some c))))) := by decide +kernel

/-- The hypotheses of AccountsFollowTheirRules are met. -/
theorem witness_AccountsFollowTheirRules :
  (let s : State := go (world 1) 0x0600 [(4, 65535), (1, 0), (1, 2), (2, 0), (8, 2 ^ 62), (8, 0)]; let src : Src := .mbox 0;
    let c : RunCmd := cm s src; let a : Nat := 65535; (Fresh s src 0x0600 c) ∧ (allZero c.payload 6 2 = true) ∧
    (allZero c.payload 0x14 4 = true) ∧ (a = u32 c.payload 0) ∧ (a ≤ 65535) ∧ (s.m.present (u8 c.payload 4) = true) ∧
    ((u8 c.payload 5 = 0 ∨ u8 c.payload 5 = 2)) ∧ (u64 c.payload 8 ≤ 2 ^ 62) ∧ (s.m.fenced = false) ∧
    (s.m.serves a = false)) ∧
  (let s : State := go (let m := world 1; { m with mirror := { m.mirror with linkId := 1 } }) 0x0600 [(4, 1), (1, 0), (1,
    2), (2, 0), (8, 2 ^ 62), (8, 0)]; let src : Src := .mbox 0; let c : RunCmd := cm s src; let a : Nat := 1;
    (Fresh s src 0x0600 c) ∧ (allZero c.payload 6 2 = true) ∧ (allZero c.payload 0x14 4 = true) ∧ (a = u32 c.payload 0) ∧
    (a ≤ 65535) ∧ (s.m.present (u8 c.payload 4) = true) ∧ ((u8 c.payload 5 = 0 ∨ u8 c.payload 5 = 2)) ∧
    (u64 c.payload 8 ≤ 2 ^ 62) ∧ (s.m.fenced = false) ∧ (s.m.serves a = true) ∧ ((s.m.account a).open_ = true)) ∧
  (let s : State := go (world 1) 0x0600 [(4, 65534), (1, 0), (1, 2), (2, 0), (8, 2 ^ 62), (4, 60), (4, 0)];
    let src : Src := .mbox 0; let c : RunCmd := cm s src; let a : Nat := 65534;
    (Fresh s src 0x0600 c) ∧ (allZero c.payload 6 2 = true) ∧ (allZero c.payload 0x14 4 = true) ∧ (a = u32 c.payload 0) ∧
    (a ≤ 65535) ∧ (s.m.present (u8 c.payload 4) = true) ∧ ((u8 c.payload 5 = 0 ∨ u8 c.payload 5 = 2)) ∧
    (u64 c.payload 8 ≤ 2 ^ 62) ∧ (s.m.fenced = false) ∧ (s.m.serves a = true) ∧ ((s.m.account a).open_ = false)) ∧
  (let s : State := go (let m := asks 1; { m with mirror := { m.mirror with linkId := 1 } }) 0x0601 [(4, 1)];
    let src : Src := .mbox 0; let c : RunCmd := cm s src; let a : Nat := 1;
    let x : Account := ⟨0, 1000, 0, 0, 0, 0, 0, 1, 0⟩; (Fresh s src 0x0601 c) ∧ (a = u32 c.payload 0) ∧ (a ≤ 65535) ∧
    (x = s.m.account a) ∧ (x.open_ = true) ∧ (s.m.fenced = false) ∧ (s.m.serves a = true) ∧ (s.m.accountUsed a = true)) ∧
  (let s : State := go (let m := world 1; { m with mirror := { m.mirror with linkId := 1 } }) 0x0601 [(4, 1)];
    let src : Src := .mbox 0; let c : RunCmd := cm s src; let a : Nat := 1;
    let x : Account := ⟨0, 1000, 0, 0, 0, 0, 0, 1, 0⟩; (Fresh s src 0x0601 c) ∧ (a = u32 c.payload 0) ∧ (a ≤ 65535) ∧
    (x = s.m.account a) ∧ (x.open_ = true) ∧ (s.m.fenced = false) ∧ (s.m.serves a = true) ∧ (s.m.accountUsed a = false)) ∧
  (let s : State := go (let m := world 1; { m with mirror := { m.mirror with linkId := 1 } }) 0x0602 [(4, 1), (1, 1), (3,
    0), (8, 2 ^ 64 - 1000)]; let src : Src := .mbox 0; let c : RunCmd := cm s src; let a : Nat := 1;
    let x : Account := ⟨0, 1000, 0, 0, 0, 0, 0, 1, 0⟩; let y : Account := ⟨0, 0, 0, 0, 0, 0, 0, 1, 0⟩;
    (Fresh s src 0x0602 c) ∧ (allZero c.payload 6 2 = true) ∧ (a = u32 c.payload 0) ∧ (a ≤ 65535) ∧ (x = s.m.account a) ∧
    (x.open_ = true) ∧ (x.strict = false) ∧ (s.m.fenced = false) ∧ (s.m.serves a = true) ∧ (u8 c.payload 5 = 0) ∧
    ((u8 c.payload 4 = 0 ∧ u64 c.payload 8 ≤ 2 ^ 62 ∧
    y = { x with quota := u64 c.payload 8, allowance := satAllow (x.allowance + (u64 c.payload 8 : Int) - (x.quota : Int)) } ∨ u8 c.payload 4 = 1 ∧
    y = { x with allowance := satAllow (x.allowance + sext 64 (u64 c.payload 8)) } ∨ u8 c.payload 4 = 2 ∧
    u64 c.payload 8 < 2 ^ 32 ∧ y = { x with periodS := u64 c.payload 8 })) ∧ ((x.balance < 0 ∨ 0 ≤ y.balance))) ∧
  (let s : State := go (world 1) 0x0603 [(4, 65535)]; let src : Src := .mbox 0; let c : RunCmd := cm s src;
    (Fresh s src 0x0603 c) ∧ (u32 c.payload 0 ≤ 65535)) ∧
  (let s : State := let m := world 1;
    atRest { m with steps := { m.steps with accounts := [(2, ⟨5, 1000, 7, 0, 1999000000000, 10, 0, 1, 0⟩)] } };
    let a : Nat := 2; let x : Account := ⟨5, 1000, 7, 0, 1999000000000, 10, 0, 1, 0⟩;
    (a < 65536) ∧ (s.m.live = true) ∧ (x = s.m.account a) ∧ (x.open_ = true) ∧ (x.periodS ≠ 0) ∧ (s.m.serves a = true)) ∧
  (let m : Module := let m := world 1;
    { m with steps := { m.steps with accounts := [(2, ⟨5, 1000, 7, 0, 1979000000000, 10, 0, 1, 0⟩)] } }; let a : Nat := 2;
    let n : Nat := 2; let x : Account := ⟨5, 1000, 7, 0, 1979000000000, 10, 0, 1, 0⟩;
    (m.steps.accounts.wf = true) ∧ (x = m.account a) ∧ (x.open_ = true) ∧ (x.periodS ≠ 0) ∧ (m.serves a = true) ∧ (1 ≤ n) ∧
    (x.periodStart + n * (1000000000 * x.periodS) ≤ m.clk.now) ∧
    (m.clk.now < x.periodStart + (n + 1) * (1000000000 * x.periodS)) ∧ (let b := 1; (b ≠ a))) := by
  refine ⟨?_, ?_, ?_, ?_, ?_, ?_, ?_, ?_, ?_⟩ <;> decide +kernel

/-- The hypotheses of PrefixesAndAdaptersAct are met. -/
theorem witness_PrefixesAndAdaptersAct :
  (let s : State := go (withAttn (obj 1 0 0) (world 1)) 0x0610 [(4, 0), (2, 0), (1, 1), (1, 0), (8, 99)];
    let src : Src := .mbox 0; let c : RunCmd := cm s src; let id : Nat := 0; let i : Nat := 2; let g : Nat := 0;
    let k : Capsule := cap0 1; let x : Model := model0; let ls : List Nat := (s.m.takeLists 1).1.getD [];
    let m1 : Module := (s.m.takeLists 1).2; (Fresh s src 0x0610 c) ∧ (allZero c.payload 7 1 = true) ∧
    (id = u32 c.payload 0) ∧ (id % 256 ≠ 255) ∧ (s.m.capsule id = some k) ∧ (u8 c.payload 6 ≤ 3) ∧
    (s.m.attn.models.get (u16 c.payload 4) = some x) ∧ (x.layers = k.layers) ∧ (x.latFmt = k.fmt) ∧
    (x.slotBytes = k.slotBytes) ∧ (MayWrite s.m c k) ∧ ((k.state = 1 ∨ k.state = 4)) ∧ (s.m.requestOf id = none) ∧
    (k.damaged = false) ∧ (k.carry = []) ∧ (k.shared = 0) ∧ (1 ≤ k.tokens) ∧ (k.map.length ≤ s.m.shareFree) ∧
    (s.m.freePrefix = some (i, g)) ∧ (s.m.takeLists (listBlocks k.map.length) = (some ls, m1))) ∧
  (let s : State := go (world 1) 0x0611 [(4, 2)]; let src : Src := .mbox 0; let c : RunCmd := cm s src; let h : Nat := 2;
    (Fresh s src 0x0611 c) ∧ (h = u32 c.payload 0) ∧ (s.m.prefix_ h = none)) ∧
  (let s : State := go (let m := world 1;
    { m with steps := { m.steps with prefixes := [(2, ⟨0, 0, 1, 1, 1, 32, 0, 0, 1, 2, 0, 99, [0], [0], 1⟩)] } }) 0x0611 [(4,
    2)]; let src : Src := .mbox 0; let c : RunCmd := cm s src; let h : Nat := 2;
    (Fresh s src 0x0611 c) ∧ (h = u32 c.payload 0) ∧ ((s.m.prefix_ h).isSome = true) ∧ (s.m.serves h = true) ∧
    (s.m.fenced = false) ∧ (s.m.steps.prefixes.wf = true)) ∧
  (let s : State := go (world 1) 0x0612 [(8, 0), (8, 99)]; let src : Src := .mbox 0; let c : RunCmd := cm s src;
    (Fresh s src 0x0612 c) ∧ (allZero c.payload 1 7 = true) ∧ (s.m.present (u8 c.payload 0) = true) ∧
    (let mine := s.m.steps.prefixes.filter (fun y => y.2.pages != 0 && y.2.partition == u8 c.payload 0 && y.2.name == u64 c.payload 8);
    (mine = []))) ∧
  (let s : State := go (let m := world 1;
    { m with steps := { m.steps with prefixes := [(2, ⟨0, 0, 1, 1, 1, 32, 0, 0, 1, 2, 0, 99, [0], [0], 1⟩)] } }) 0x0612 [(8,
    0), (8, 99)]; let src : Src := .mbox 0; let c : RunCmd := cm s src;
    (Fresh s src 0x0612 c) ∧ (allZero c.payload 1 7 = true) ∧ (s.m.present (u8 c.payload 0) = true) ∧
    (let mine := s.m.steps.prefixes.filter (fun y => y.2.pages != 0 && y.2.partition == u8 c.payload 0 && y.2.name == u64 c.payload 8);
    (mine ≠ []))) ∧
  (let s : State := go (let m := world 1;
    { m with steps := { m.steps with prefixes := [(2, ⟨0, 0, 1, 1, 1, 32, 0, 0, 1, 2, 0, 99, [0], [0], 1⟩)] } }) 0x0613 [(4,
    2), (4, 3)]; let src : Src := .mbox 0; let c : RunCmd := cm s src; let h : Nat := 2;
    (Fresh s src 0x0613 c) ∧ (allZero c.payload 5 3 = true) ∧ (h = u32 c.payload 0) ∧ ((s.m.prefix_ h).isSome = true) ∧
    (u8 c.payload 4 ≤ 3) ∧ (s.m.serves h = true) ∧ (s.m.fenced = false)) ∧
  (let s : State := go (let m := world 1;
    { m with steps := { m.steps with adapters := [(4095, ⟨0, [⟨1, 1, 0, 0, 1⟩, ⟨2, 2, 1, 0, 1⟩, ⟨3, 2, 1, 0, 1⟩, ⟨4, 2, 1, 0, 1⟩]⟩)] } }) 0x0620 [(2,
    4095), (2, 0xFFFE), (1, 0), (3, 0), (8, 4096), (8, 1)]; let src : Src := .mbox 0; let c : RunCmd := cm s src;
    let ad : Nat := 4095; let v : Nat := 0xFFFE; let p : Nat := 0; let addr : Nat := 4096; let len : Nat := 1;
    let a : Adapter := ⟨0, [⟨1, 1, 0, 0, 1⟩, ⟨2, 2, 1, 0, 1⟩, ⟨3, 2, 1, 0, 1⟩, ⟨4, 2, 1, 0, 1⟩]⟩;
    (Fresh s src 0x0620 c) ∧ (allZero c.payload 5 3 = true) ∧ (ad = u16 c.payload 0) ∧ (v = u16 c.payload 2) ∧
    (p = u8 c.payload 4) ∧ (addr = u64 c.payload 8) ∧ (len = u64 c.payload 0x10) ∧ (ad ≤ 4095) ∧ (1 ≤ v) ∧ (v ≤ 0xFFFE) ∧
    (s.m.present p = true) ∧ (addr % 4096 = 0) ∧ (len ≠ 0) ∧ (s.m.steps.adapters.get ad = some a) ∧
    ((∀ x ∈ a.versions, x.state ≠ 3 → x.version ≠ v)) ∧ (let live := a.versions.filter (fun x => x.state != 3);
    (4 ≤ live.length))) ∧
  (let s : State := go (let m := world 1;
    { m with steps := { m.steps with adapters := [(4095, ⟨1, [⟨1, 1, 0, 0, 1⟩]⟩)] } }) 0x0620 [(2, 4095), (2, 0xFFFE), (1,
    0), (3, 0), (8, 4096), (8, 1)]; let src : Src := .mbox 0; let c : RunCmd := cm s src; let ad : Nat := 4095;
    let v : Nat := 0xFFFE; let p : Nat := 0; let addr : Nat := 4096; let len : Nat := 1;
    let a : Adapter := ⟨1, [⟨1, 1, 0, 0, 1⟩]⟩; (Fresh s src 0x0620 c) ∧ (allZero c.payload 5 3 = true) ∧
    (ad = u16 c.payload 0) ∧ (v = u16 c.payload 2) ∧ (p = u8 c.payload 4) ∧ (addr = u64 c.payload 8) ∧
    (len = u64 c.payload 0x10) ∧ (ad ≤ 4095) ∧ (1 ≤ v) ∧ (v ≤ 0xFFFE) ∧ (s.m.present p = true) ∧ (addr % 4096 = 0) ∧
    (len ≠ 0) ∧ (s.m.steps.adapters.get ad = some a) ∧ ((∀ x ∈ a.versions, x.state ≠ 3 → x.version ≠ v)) ∧
    (let live := a.versions.filter (fun x => x.state != 3); (live.length < 4) ∧ (a.partition ≠ p))) ∧
  (let s : State := go (let m := world 1;
    { m with steps := { m.steps with adapters := [(4095, ⟨0, [⟨1, 1, 2, 0, 1⟩]⟩)] } }) 0x0620 [(2, 4095), (2, 2), (1, 0),
    (3, 0), (8, 4096), (8, 1)]; let src : Src := .mbox 0; let c : RunCmd := cm s src; let ad : Nat := 4095;
    let v : Nat := 2; let p : Nat := 0; let addr : Nat := 4096; let len : Nat := 1;
    let a : Adapter := ⟨0, [⟨1, 1, 2, 0, 1⟩]⟩; (Fresh s src 0x0620 c) ∧ (allZero c.payload 5 3 = true) ∧
    (ad = u16 c.payload 0) ∧ (v = u16 c.payload 2) ∧ (p = u8 c.payload 4) ∧ (addr = u64 c.payload 8) ∧
    (len = u64 c.payload 0x10) ∧ (ad ≤ 4095) ∧ (1 ≤ v) ∧ (v ≤ 0xFFFE) ∧ (s.m.present p = true) ∧ (addr % 4096 = 0) ∧
    (len ≠ 0) ∧ (s.m.steps.adapters.get ad = some a) ∧ ((∀ x ∈ a.versions, x.state ≠ 3 → x.version ≠ v)) ∧
    (let live := a.versions.filter (fun x => x.state != 3); (live.length < 4) ∧ (a.partition = p) ∧
    (s.m.engineMay p 0 addr len = true))) ∧
  (let s : State := go (let m := world 1;
    { m with steps := { m.steps with adapters := [(4095, ⟨0, [⟨1, 1, 2, 0, 1⟩]⟩)] } }) 0x0621 [(2, 4095)];
    let src : Src := .mbox 0; let c : RunCmd := cm s src; let x : AdVersion := ⟨1, 1, 2, 0, 1⟩;
    (Fresh s src 0x0621 c) ∧ (s.m.adCurrent (u16 c.payload 0) = some x)) ∧
  (let s : State := go (world 1) 0x0622 [(2, 4095)]; let src : Src := .mbox 0; let c : RunCmd := cm s src;
    (Fresh s src 0x0622 c) ∧ (s.m.steps.adapters.get (u16 c.payload 0) = none)) ∧
  (let s : State := go (let m := world 1;
    { m with steps := { m.steps with adapters := [(4095, ⟨0, [⟨1, 1, 2, 0, 1⟩]⟩)] } }) 0x0622 [(2, 4095)];
    let src : Src := .mbox 0; let c : RunCmd := cm s src; let a : Adapter := ⟨0, [⟨1, 1, 2, 0, 1⟩]⟩;
    (Fresh s src 0x0622 c) ∧ (s.m.steps.adapters.get (u16 c.payload 0) = some a) ∧ ((∀ x ∈ a.versions, x.state ≠ 3)) ∧
    (a.versions.length ≤ 4)) ∧
  (let s : State := go (world 1) 0x0623 [(4, 0)]; let src : Src := .mbox 0; let c : RunCmd := cm s src; let p : Nat := 0;
    (Fresh s src 0x0623 c) ∧ (allZero c.payload 1 3 = true) ∧ (p = u8 c.payload 0) ∧ (s.m.present p = true) ∧
    ((s.m.pstep p).pool = none) ∧ ((s.m.pstep p).nextPool = none)) ∧
  (let s : State := go (let m := world 1;
    { m with steps := { m.steps with parts := [(0, { PartSteps.blank with pool := some ⟨5, 0, 1, 8388608, 0⟩ })] } }) 0x0623 [(4,
    0), (4, 0), (8, 4096)]; let src : Src := .mbox 0; let c : RunCmd := cm s src; let p : Nat := 0;
    (Fresh s src 0x0623 c) ∧ (allZero c.payload 1 3 = true) ∧ (p = u8 c.payload 0) ∧ (s.m.present p = true) ∧
    ((s.m.pstep p).pool.isSome = true)) ∧
  (let s : State := go (world 1) 0x0630 [(1, 0), (1, 0), (2, 0), (4, 0), (8, 0), (4, 0), (4, 0)]; let src : Src := .mbox 0;
    let c : RunCmd := cm s src; let p : Nat := 0; let sem : Nat := 0; let ring : Nat := 0; let jobs : Nat := 0;
    (Fresh s src 0x0630 c) ∧ (allZero c.payload 3 1 = true) ∧ (allZero c.payload 0x14 4 = true) ∧ (p = u8 c.payload 0) ∧
    (s.m.present p = true) ∧ (sem = u32 c.payload 4) ∧ (ring = u64 c.payload 8) ∧ (jobs = u32 c.payload 0x10) ∧
    (u8 c.payload 1 = 0)) ∧
  (let s : State := go (let m := withAttn (obj 1 0 0) (world 1);
    { m with lig := { m.lig with objs := [(0, { obj 1 0 0 with partition := 1 })] } }) 0x0630 [(1, 0), (1, 1), (1, 64), (1,
    0), (4, 0), (8, 4096), (4, 4096), (4, 0)]; let src : Src := .mbox 0; let c : RunCmd := cm s src; let p : Nat := 0;
    let sem : Nat := 0; let ring : Nat := 4096; let jobs : Nat := 4096; let i : Nat := 0;
    let o : LigObj := { obj 1 0 0 with partition := 1 }; (Fresh s src 0x0630 c) ∧ (allZero c.payload 3 1 = true) ∧
    (allZero c.payload 0x14 4 = true) ∧ (p = u8 c.payload 0) ∧ (s.m.present p = true) ∧ (sem = u32 c.payload 4) ∧
    (ring = u64 c.payload 8) ∧ (jobs = u32 c.payload 0x10) ∧ (u8 c.payload 1 = 1) ∧ (1 ≤ u8 c.payload 2) ∧
    (u8 c.payload 2 ≤ 64) ∧ (s.m.ligFind sem = some (i, o)) ∧ (o.kind = 1) ∧ (ring % 4096 = 0) ∧ (isPow2 jobs = true) ∧
    (4096 ≤ jobs) ∧ (jobs ≤ 262144) ∧ (o.partition ≠ p)) ∧
  (let s : State := go (withAttn (obj 1 0 0) (world 1)) 0x0630 [(1, 0), (1, 1), (1, 64), (1, 0), (4, 0), (8, 4096), (4,
    262144), (4, 0)]; let src : Src := .mbox 0; let c : RunCmd := cm s src; let p : Nat := 0; let sem : Nat := 0;
    let ring : Nat := 4096; let jobs : Nat := 262144; let i : Nat := 0; let o : LigObj := obj 1 0 0;
    (Fresh s src 0x0630 c) ∧ (allZero c.payload 3 1 = true) ∧ (allZero c.payload 0x14 4 = true) ∧ (p = u8 c.payload 0) ∧
    (s.m.present p = true) ∧ (sem = u32 c.payload 4) ∧ (ring = u64 c.payload 8) ∧ (jobs = u32 c.payload 0x10) ∧
    (u8 c.payload 1 = 1) ∧ (1 ≤ u8 c.payload 2) ∧ (u8 c.payload 2 ≤ 64) ∧ (s.m.ligFind sem = some (i, o)) ∧ (o.kind = 1) ∧
    (ring % 4096 = 0) ∧ (isPow2 jobs = true) ∧ (4096 ≤ jobs) ∧ (jobs ≤ 262144) ∧ (o.partition = p) ∧
    (s.m.engineMay p 0 ring (16 * jobs) = true)) := by
  refine ⟨⟨by decide +kernel, by decide +kernel, by decide +kernel, by decide +kernel, by decide +kernel, by decide +kernel,
    ⟨by decide +kernel, by decide +kernel, by decide +kernel, by decide +kernel, by decide +kernel, by decide +kernel,
    ⟨by decide +kernel, by decide +kernel, by decide +kernel, by decide +kernel, by decide +kernel, by decide +kernel,
    by decide +kernel, Prod.ext (eq_some_getD (by decide +kernel)) rfl⟩⟩⟩, ?_, ?_, ?_, ?_, ?_, ?_, ?_, ⟨?_, ?_, ?_, ?_, ?_,
    ?_, ?_, ?_, ?_⟩⟩ <;> decide +kernel

end Sys2Proof.Tests
end

