-- ==== Sys2Proof/Tests/WitnessStrandBranch.lean ====
section
/-!
SUPPORT. For each statement about strand registers and branches: states and operands that meet the hypotheses of each of its clauses.
-/

namespace Sys2Proof.Tests

-- The evaluations below wait for one another, so that they run one at a time and hold one stack.
set_option Elab.async false

open Sys2Proof Sys2Proof.Machine

/-- The hypotheses of StrandRegistersAndBranches are met. -/
theorem witness_StrandRegistersAndBranches :
  (let p : Nat × (Nat → Instr) × (BitVec 64 → BitVec 64 → BitVec 64 → BitVec 64 → BitVec 64 →
    BitVec 64) := (0x01, .sAdd, fun a b _ _ _ => a + b); (p ∈ ([(0x01, .sAdd, fun a b _ _ _ => a + b), (0x02, .sSub,
    fun a b _ _ _ => a - b), (0x03, .sMul, fun a b _ _ _ => a * b), (0x04, .sMulhu,
    fun a b _ _ _ => BitVec.ofNat 64 (a.toNat * b.toNat / 2 ^ 64)), (0x05, .sDivu,
    fun a b _ _ _ => if b = 0 then BitVec.allOnes 64 else BitVec.ofNat 64 (a.toNat / b.toNat)), (0x06, .sRemu,
    fun a b _ _ _ => if b = 0 then a else BitVec.ofNat 64 (a.toNat % b.toNat)), (0x07, .sAnd, fun a b _ _ _ => a &&& b),
    (0x08, .sOr, fun a b _ _ _ => a ||| b), (0x09, .sXor, fun a b _ _ _ => a ^^^ b), (0x0A, .sShl,
    fun a b _ _ _ => a <<< (b.toNat % 64)), (0x0B, .sShr, fun a b _ _ _ => a >>> (b.toNat % 64)), (0x0C, .sSra,
    fun a b _ _ _ => a.sshiftRight (b.toNat % 64)), (0x0D, .sSlt, fun a b _ _ _ => if a.toInt < b.toInt then 1 else 0),
    (0x0E, .sSltu, fun a b _ _ _ => if a.toNat < b.toNat then 1 else 0), (0x0F, .sSel,
    fun a b k _ _ => if k ≠ 0 then a else b), (0x10, .sPopc,
    fun a _ _ _ _ => BitVec.ofNat 64 ((List.range 64).countP (fun i => a.getLsbD i))), (0x11, .sAddi,
    fun a _ _ _ i => a + i), (0x12, .sAndi, fun a _ _ _ i => a &&& i), (0x13, .sOri, fun a _ _ _ i => a ||| i), (0x14,
    .sXori, fun a _ _ _ i => a ^^^ i), (0x15, .sShli, fun a _ _ _ i => a <<< (i.toNat % 64)), (0x16, .sShri,
    fun a _ _ _ i => a >>> (i.toNat % 64)), (0x17, .sSrai, fun a _ _ _ i => a.sshiftRight (i.toNat % 64)), (0x18, .sLdi,
    fun _ _ _ _ i => i), (0x19, .sLdih, fun _ _ _ d i => (d &&& 0xFFFFFFFF#64) ||| (i <<< 32))] : List (Nat × (Nat →
    Instr) × (BitVec 64 → BitVec 64 → BitVec 64 → BitVec 64 → BitVec 64 → BitVec 64)))) ∧
    (let s : State := strands (w0 0x01 9 1 2 0 0); let t : Nat := 63; let th : Thread := thr0;
    let w : SWord := w0 0x01 9 1 2 0 0; (Issues s.m t p.1 th w))) ∧
  (let p : Nat × (Nat → Instr) × (BitVec 64 → BitVec 64 → Bool) := (0x30, .sBeq, fun a b => decide (a = b));
    (p ∈ ([(0x30, .sBeq, fun a b => decide (a = b)), (0x31, .sBne, fun a b => decide (a ≠ b)), (0x32, .sBlt,
    fun a b => decide (a.toInt < b.toInt)), (0x33, .sBge, fun a b => decide (b.toInt ≤ a.toInt)), (0x34, .sBltu,
    fun a b => decide (a.toNat < b.toNat)), (0x35, .sBgeu, fun a b => decide (b.toNat ≤ a.toNat))] : List (Nat × (Nat →
    Instr) × (BitVec 64 → BitVec 64 → Bool)))) ∧ (let s : State := strands (w0 0x30 0 2 2 0 0xFFFFFFFF); let t : Nat := 63;
    let th : Thread := thr0; let w : SWord := w0 0x30 0 2 2 0 0xFFFFFFFF; (Issues s.m t p.1 th w))) ∧
  (let s : State := strands (w0 0 0 0 0 0 0); let t : Nat := 63; let th : Thread := thr0; let w : SWord := w0 0 0 0 0 0 0;
    (Issues s.m t 0x00 th w)) ∧
  (let s : State := strands (w0 0x39 0 0 0 0 0); let t : Nat := 63; let th : Thread := thr0;
    let w : SWord := w0 0x39 0 0 0 0 0; (Issues s.m t 0x39 th w)) ∧
  (let s : State := strands (w0 0x38 0 0 0 0 0); let t : Nat := 63; let th : Thread := thr0;
    let w : SWord := w0 0x38 0 0 0 0 0; (Issues s.m t 0x38 th w)) ∧
  (let s : State := strands (w0 0x36 1 0 0 0 0xFFFFFFFF); let t : Nat := 63; let th : Thread := thr0;
    let w : SWord := w0 0x36 1 0 0 0 0xFFFFFFFF; (Issues s.m t 0x36 th w)) ∧
  (let s : State := strands (w0 0x37 0 4 0 0 8); let t : Nat := 63; let th : Thread := thr0;
    let w : SWord := w0 0x37 0 4 0 0 8; (Issues s.m t 0x37 th w) ∧ (let pr := ⟨0x20000, 4, 0, 0⟩;
    (s.m.threadProg t = some pr) ∧ (let dest := (th.reg w.a.toNat + w.imm.signExtend 64).toNat;
    (dest % 8 = 0 ∧ 0x10000000 ≤ dest ∧ dest < 0x10000000 + 64 + 8 * pr.words)))) ∧
  (let s : State := strands (w0 0x37 0 4 0 0 4); let t : Nat := 63; let th : Thread := thr0;
    let w : SWord := w0 0x37 0 4 0 0 4; (Issues s.m t 0x37 th w) ∧ (let pr := ⟨0x20000, 4, 0, 0⟩;
    (s.m.threadProg t = some pr) ∧ (let dest := (th.reg w.a.toNat + w.imm.signExtend 64).toNat;
    (¬(dest % 8 = 0 ∧ 0x10000000 ≤ dest ∧ dest < 0x10000000 + 64 + 8 * pr.words))))) ∧
  (let s : State := strands (w0 0x3A 63 0 0 0 5); let t : Nat := 63; let th : Thread := thr0;
    let w : SWord := w0 0x3A 63 0 0 0 5; (Issues s.m t 0x3A th w) ∧ (let j := job0;
    (s.m.strand.jobs.get th.job = some j) ∧ (let v : Nat := 2000000000000;
    (((w.imm = 0 ∧ v = th.index) ∨ (w.imm = 1 ∧ v = j.threads) ∨ (w.imm = 2 ∧ v = th.job) ∨ (w.imm = 3 ∧
    v = j.partition) ∨ (w.imm = 4 ∧ v = t / 8) ∨ (w.imm = 5 ∧ v = s.m.clk.now) ∨ (w.imm = 6 ∧
    v = s.m.get Reg.MIRROR.STATE_LINK_ID)))))) ∧
  (let s : State := strands (w0 0x71 4 0 0 0 0); let t : Nat := 63; let th : Thread := thr0;
    let w : SWord := w0 0x71 4 0 0 0 0; (Issues s.m t 0x71 th w)) ∧
  (let s : State := strands (w0 0x72 0 1 2 0 0); let t : Nat := 63; let th : Thread := thr0;
    let w : SWord := w0 0x72 0 1 2 0 0; (Issues s.m t 0x72 th w)) ∧
  (let s : State := strands (w0 0 0 0 0 0 0) { thr0 with pc := 0x10000060 }; let t : Nat := 63;
    let th : Thread := { thr0 with pc := 0x10000060 }; (s.m.live = true) ∧ (s.m.strand.threads.get t = some th) ∧
    (th.suspended = false) ∧ (th.wait = .none) ∧ (s.m.fetchWord t = none)) ∧
  (let s : State := strands (w0 1 3 1 2 0 0) { thr0 with loads := [⟨2, 5, false, 0, 8, 0, false⟩] }; let t : Nat := 63;
    let th : Thread := { thr0 with loads := [⟨2, 5, false, 0, 8, 0, false⟩] };
    (s.m.live = true) ∧ (s.m.strand.threads.get t = some th) ∧ (th.suspended = false) ∧ (th.wait = .none) ∧
    (let word := (w0 1 3 1 2 0 0).encode; (s.m.fetchWord t = some word) ∧
    ((∃ r ∈ (SWord.decode word).reads, th.pendingReg r = true)))) ∧
  (let th : Thread := thr0; let d : Nat := 9; (KMap.wf th.regs = true) ∧ (d ≠ 0)) ∧
  (let d : Nat := 9; let r : Nat := 1; (r ≠ d)) ∧
  True := by
  refine ⟨⟨List.mem_of_getElem? (i := 0) rfl, by decide +kernel⟩, ⟨List.mem_of_getElem? (i := 0) rfl, by decide +kernel⟩,
    ?_, ?_, ?_, ?_, ?_, ?_, ⟨?_, ?_, ?_, ?_, ?_, ?_, ?_, ?_⟩⟩ <;> decide +kernel

end Sys2Proof.Tests
end

