-- ==== Sys2Proof/Tests/WitnessStrandMem.lean ====
section
/-!
SUPPORT. For each statement about strand memory and engine instructions: states and operands that meet the hypotheses of each of its clauses.
-/

namespace Sys2Proof.Tests

-- The evaluations below wait for one another, so that they run one at a time and hold one stack.
set_option Elab.async false

open Sys2Proof Sys2Proof.Machine

/-- The hypotheses of StrandMemoryAndEngines are met. -/
theorem witness_StrandMemoryAndEngines :
  (let p : Nat × (Nat → Instr) × Nat × (Nat → BitVec 64) := (0x44, .sLd64, 8, BitVec.ofNat 64);
    (p ∈ ([(0x40, .sLd8u, 1, BitVec.ofNat 64), (0x41, .sLd16u, 2, BitVec.ofNat 64), (0x42, .sLd32u, 4, BitVec.ofNat 64),
    (0x43, .sLd32s, 4, fun n => (BitVec.ofNat 32 n).signExtend 64), (0x44, .sLd64, 8, BitVec.ofNat 64)] : List (Nat × (Nat →
    Instr) × Nat × (Nat → BitVec 64)))) ∧ (let s : State := strands (w0 0x44 9 5 0 0 1); let t : Nat := 63;
    let th : Thread := thr0; let w : SWord := w0 0x44 9 5 0 0 1;
    (Issues s.m t p.1 th w) ∧ (th.loads.length < 8) ∧ (let a := (th.reg w.a.toNat + w.imm.signExtend 64).toNat;
    (let n := p.2.2.1; (a % n ≠ 0))))) ∧
  (let p : Nat × (Nat → Instr) × Nat × (Nat → BitVec 64) := (0x44, .sLd64, 8, BitVec.ofNat 64);
    (p ∈ ([(0x40, .sLd8u, 1, BitVec.ofNat 64), (0x41, .sLd16u, 2, BitVec.ofNat 64), (0x42, .sLd32u, 4, BitVec.ofNat 64),
    (0x43, .sLd32s, 4, fun n => (BitVec.ofNat 32 n).signExtend 64), (0x44, .sLd64, 8, BitVec.ofNat 64)] : List (Nat × (Nat →
    Instr) × Nat × (Nat → BitVec 64)))) ∧ (let s : State := strands (w0 0x44 9 0 0 0 0x8000); let t : Nat := 63;
    let th : Thread := thr0; let w : SWord := w0 0x44 9 0 0 0 0x8000;
    (Issues s.m t p.1 th w) ∧ (th.loads.length < 8) ∧ (let a := (th.reg w.a.toNat + w.imm.signExtend 64).toNat;
    (let n := p.2.2.1; (a % n = 0) ∧ (let cause := 2; (s.m.strandCheck t a n false false = some cause)))))) ∧
  (let p : Nat × (Nat → Instr) × Nat × (Nat → BitVec 64) := (0x43, .sLd32s, 4, fun n => (BitVec.ofNat 32 n).signExtend 64);
    (p ∈ ([(0x40, .sLd8u, 1, BitVec.ofNat 64), (0x41, .sLd16u, 2, BitVec.ofNat 64), (0x42, .sLd32u, 4, BitVec.ofNat 64),
    (0x43, .sLd32s, 4, fun n => (BitVec.ofNat 32 n).signExtend 64), (0x44, .sLd64, 8, BitVec.ofNat 64)] : List (Nat × (Nat →
    Instr) × Nat × (Nat → BitVec 64)))) ∧ (let s : State := strands (w0 0x43 9 5 0 0 4); let t : Nat := 63;
    let th : Thread := thr0; let w : SWord := w0 0x43 9 5 0 0 4;
    (Issues s.m t p.1 th w) ∧ (th.loads.length < 8) ∧ (let a := (th.reg w.a.toNat + w.imm.signExtend 64).toNat;
    (let n := p.2.2.1; (a % n = 0) ∧ (s.m.strandCheck t a n false false = none) ∧ (isHostPlace a = false))))) ∧
  (let p : Nat × (Nat → Instr) × Nat := (0x46, .sSt16, 2); (p ∈ ([(0x45, .sSt8, 1), (0x46, .sSt16, 2), (0x47, .sSt32, 4),
    (0x48, .sSt64, 8)] : List (Nat × (Nat → Instr) × Nat))) ∧ (let s : State := strands (w0 0x46 0 5 9 0 1);
    let t : Nat := 63; let th : Thread := thr0; let w : SWord := w0 0x46 0 5 9 0 1;
    (Issues s.m t p.1 th w) ∧ (let a := (th.reg w.a.toNat + w.imm.signExtend 64).toNat; (let n := p.2.2; (a % n ≠ 0))))) ∧
  (let p : Nat × (Nat → Instr) × Nat := (0x45, .sSt8, 1); (p ∈ ([(0x45, .sSt8, 1), (0x46, .sSt16, 2), (0x47, .sSt32, 4),
    (0x48, .sSt64, 8)] : List (Nat × (Nat → Instr) × Nat))) ∧ (let s : State := strands (w0 0x45 0 4 9 0 1);
    let t : Nat := 63; let th : Thread := thr0; let w : SWord := w0 0x45 0 4 9 0 1;
    (Issues s.m t p.1 th w) ∧ (let a := (th.reg w.a.toNat + w.imm.signExtend 64).toNat; (let n := p.2.2;
    (a % n = 0) ∧ (let cause := 3; (s.m.strandCheck t a n true false = some cause)))))) ∧
  (let p : Nat × (Nat → Instr) × Nat := (0x45, .sSt8, 1); (p ∈ ([(0x45, .sSt8, 1), (0x46, .sSt16, 2), (0x47, .sSt32, 4),
    (0x48, .sSt64, 8)] : List (Nat × (Nat → Instr) × Nat))) ∧ (let s : State := strands (w0 0x45 0 3 9 0 1);
    let t : Nat := 63; let th : Thread := thr0; let w : SWord := w0 0x45 0 3 9 0 1;
    (Issues s.m t p.1 th w) ∧ (let a := (th.reg w.a.toNat + w.imm.signExtend 64).toNat; (let n := p.2.2;
    (a % n = 0) ∧ (s.m.strandCheck t a n true false = none) ∧ (isHostPlace a = false))))) ∧
  (let p : Nat × (Nat → Instr) × (BitVec 64 → BitVec 64 → BitVec 64 →
    Option (BitVec 64)) := (0x49, .sAmoadd, fun old b _ => some (old + b));
    (p ∈ ([(0x49, .sAmoadd, fun old b _ => some (old + b)), (0x4A, .sAmoswap, fun _ b _ => some b), (0x4B, .sAmocas,
    fun old b k => if old = k then some b else none)] : List (Nat × (Nat → Instr) × (BitVec 64 → BitVec 64 → BitVec 64 →
    Option (BitVec 64))))) ∧ (let s : State := strands (w0 0x49 9 4 2 0 0); let t : Nat := 63; let th : Thread := thr0;
    let w : SWord := w0 0x49 9 4 2 0 0; (Issues s.m t p.1 th w) ∧ (let a := (th.reg w.a.toNat + w.imm.signExtend 64).toNat;
    (a % 8 = 0) ∧ (let cause := 3; (s.m.strandCheck t a 8 true true = some cause))))) ∧
  (let p : Nat × (Nat → Instr) × (BitVec 64 → BitVec 64 → BitVec 64 →
    Option (BitVec 64)) := (0x49, .sAmoadd, fun old b _ => some (old + b));
    (p ∈ ([(0x49, .sAmoadd, fun old b _ => some (old + b)), (0x4A, .sAmoswap, fun _ b _ => some b), (0x4B, .sAmocas,
    fun old b k => if old = k then some b else none)] : List (Nat × (Nat → Instr) × (BitVec 64 → BitVec 64 → BitVec 64 →
    Option (BitVec 64))))) ∧ (let s : State := strands (w0 0x49 9 5 2 0 0); let t : Nat := 63; let th : Thread := thr0;
    let w : SWord := w0 0x49 9 5 2 0 0; (Issues s.m t p.1 th w) ∧ (let a := (th.reg w.a.toNat + w.imm.signExtend 64).toNat;
    (a % 8 = 0) ∧ (s.m.strandCheck t a 8 true true = none)))) ∧
  (let m : Module := let m := (strands (w0 0 0 0 0 0 0)).m;
    { m with strand := { m.strand with lines := [⟨7, 0x4000030000, zeros 64⟩] } }; let t : Nat := 63;
    let a : Nat := 0x4000030008; let b : Bytes := [1, 0, 3, 4]; let th : Thread := thr0;
    (m.memWf = true) ∧ (m.strand.threads.get t = some th) ∧ (th.slice.wf = true) ∧ (b ≠ []) ∧
    (m.strandCheck t a b.length true false = none) ∧ (b.length ∈ [1, 2, 4, 8]) ∧ (a % b.length = 0) ∧
    ((∀ l ∈ m.strand.lines, l.bytes.length = 64))) ∧
  (let a : Nat := 8; (isCached a = false)) ∧
  (let m : Module := let m := (strands (w0 0 0 0 0 0 0)).m;
    { m with strand := { m.strand with lines := [⟨6, 0x4000030000, zeros 64⟩, ⟨7, 0x4000030040, zeros 64⟩] } };
    let t : Nat := 63; let a : Nat := 0x4000030008; (isCached a = true) ∧
    ((∀ l ∈ m.strand.lines, l.core = t / 8 → l.addr ≠ a / 64 * 64))) ∧
  (let m : Module := (strands (w0 0 0 0 0 0 0)).m; let t : Nat := 63; let a : Nat := 0x4000030008;
    let b : Bytes := [1, 0, 3]; let th : Thread := thr0; (m.memWf = true) ∧ (m.strand.threads.get t = some th) ∧
    (th.slice.wf = true) ∧ (b ≠ []) ∧ (m.strandCheck t a b.length true false = none)) ∧
  (let s : State := strands (w0 0x4C 0 0 0 0 0) ({ thr0 with loads := [⟨2, 5, false, 0, 8, 0, false⟩] }); let t : Nat := 63;
    let th : Thread := { thr0 with loads := [⟨2, 5, false, 0, 8, 0, false⟩] }; let w : SWord := w0 0x4C 0 0 0 0 0;
    (Issues s.m t 0x4C th w) ∧ (th.loads ≠ [])) ∧
  (let s : State := strands (w0 0x4C 0 0 0 0 0) ({ thr0 with stores := [⟨0x10000040, 0x100000000000, 5, false⟩] });
    let t : Nat := 63; let th : Thread := { thr0 with stores := [⟨0x10000040, 0x100000000000, 5, false⟩] };
    let w : SWord := w0 0x4C 0 0 0 0 0; (Issues s.m t 0x4C th w) ∧ (th.loads = []) ∧ ((w.imm = 0 ∨ th.stores = []))) ∧
  (let s : State := strands (w0 0x4C 0 0 0 0 1) ({ thr0 with stores := [⟨0x10000040, 0x100000000000, 5, false⟩] });
    let t : Nat := 63; let th : Thread := { thr0 with stores := [⟨0x10000040, 0x100000000000, 5, false⟩] };
    let w : SWord := w0 0x4C 0 0 0 0 1; (Issues s.m t 0x4C th w) ∧ (th.loads = []) ∧ (w.imm = 1) ∧ (th.stores ≠ [])) ∧
  (let p : Nat × (Nat → Instr) × Nat := (0x52, .sCld64, 8); (p ∈ ([(0x50, .sCld8u, 1), (0x51, .sCld32u, 4), (0x52, .sCld64,
    8)] : List (Nat × (Nat → Instr) × Nat))) ∧ (let s : State := strands (w0 0x52 9 0 6 0 0x1FFE0); let t : Nat := 63;
    let th : Thread := thr0; let w : SWord := w0 0x52 9 0 6 0 0x1FFE0;
    (Issues s.m t p.1 th w) ∧ (th.loads.length < 8) ∧ (let id := (th.reg w.a.toNat).toNat % 2 ^ 32;
    (let off := (th.reg w.b.toNat + w.imm.signExtend 64).toNat; (let n := p.2.2; (off % n = 0) ∧ (let cause := 7;
    (s.m.capFault t id off n false = some cause))))))) ∧
  (let p : Nat × (Nat → Instr) × Nat := (0x52, .sCld64, 8); (p ∈ ([(0x50, .sCld8u, 1), (0x51, .sCld32u, 4), (0x52, .sCld64,
    8)] : List (Nat × (Nat → Instr) × Nat))) ∧ (let s : State := strands (w0 0x52 9 0 6 0 0x400); let t : Nat := 63;
    let th : Thread := thr0; let w : SWord := w0 0x52 9 0 6 0 0x400;
    (Issues s.m t p.1 th w) ∧ (th.loads.length < 8) ∧ (let id := (th.reg w.a.toNat).toNat % 2 ^ 32;
    (let off := (th.reg w.b.toNat + w.imm.signExtend 64).toNat; (let n := p.2.2;
    (off % n = 0) ∧ (s.m.capFault t id off n false = none) ∧ (s.m.capNeedsHost id off n = false) ∧
    (let b := (((strands (w0 0x52 9 0 6 0 0x400)).m.counted.capBytes 0 0x420 8).1).getD [];
    let m1 := (s.m.counted.capBytes 0 0x420 8).2; (s.m.counted.capBytes id off n = (some b, m1)))))))) ∧
  (let p : Nat × (Nat → Instr) × Nat := (0x54, .sCst64, 8); (p ∈ ([(0x53, .sCst32, 4), (0x54, .sCst64,
    8)] : List (Nat × (Nat → Instr) × Nat))) ∧ (let s : State := strands (w0 0x54 0 0 6 2 0); let t : Nat := 63;
    let th : Thread := thr0; let w : SWord := w0 0x54 0 0 6 2 0;
    (Issues s.m t p.1 th w) ∧ (let id := (th.reg w.a.toNat).toNat % 2 ^ 32;
    (let off := (th.reg w.b.toNat + w.imm.signExtend 64).toNat; (let n := p.2.2;
    (off % n = 0) ∧ (s.m.storeHeld t id off n = false) ∧ (let cause := 8; (s.m.capFault t id off n true = some cause))))))) ∧
  (let p : Nat × (Nat → Instr) × Nat := (0x54, .sCst64, 8); (p ∈ ([(0x53, .sCst32, 4), (0x54, .sCst64,
    8)] : List (Nat × (Nat → Instr) × Nat))) ∧ (let s : State := strands (w0 0x54 0 0 6 2 0x400) thr0 (let m := world 1;
    { m with mirror := { m.mirror with beatAcked := none } }); let t : Nat := 63; let th : Thread := thr0;
    let w : SWord := w0 0x54 0 0 6 2 0x400; (Issues s.m t p.1 th w) ∧ (let id := (th.reg w.a.toNat).toNat % 2 ^ 32;
    (let off := (th.reg w.b.toNat + w.imm.signExtend 64).toNat; (let n := p.2.2;
    (off % n = 0) ∧ (s.m.storeHeld t id off n = true)))))) ∧
  (let p : Nat × (Nat → Instr) × Nat := (0x54, .sCst64, 8); (p ∈ ([(0x53, .sCst32, 4), (0x54, .sCst64,
    8)] : List (Nat × (Nat → Instr) × Nat))) ∧ (let s : State := strands (w0 0x54 0 0 6 2 0x400); let t : Nat := 63;
    let th : Thread := thr0; let w : SWord := w0 0x54 0 0 6 2 0x400;
    (Issues s.m t p.1 th w) ∧ (let id := (th.reg w.a.toNat).toNat % 2 ^ 32;
    (let off := (th.reg w.b.toNat + w.imm.signExtend 64).toNat; (let n := p.2.2;
    (off % n = 0) ∧ (s.m.storeHeld t id off n = false) ∧ (s.m.capFault t id off n true = none) ∧
    (s.m.capNeedsHost id off n = false) ∧ (let l := 0; let g := 0; let o := 0x420; let f := frame0;
    ((s.m.slot (id / 256)).range off n = some (.frame l g o)) ∧ (s.m.frame ((s.m.slot (id / 256)).handle l g) = some f) ∧
    (f.badIn o n = none))))))) ∧
  (let m : Module := (strands (w0 0 0 0 0 0 0) thr0 (let m := world 1;
    { m with steps := { m.steps with reqs := [(0, req0 1)] } })).m; let t : Nat := 63; let id : Nat := 0;
    let off : Nat := 0x420; let n : Nat := 8; let k : Capsule := cap0 1;
    (m.capsule id = some k) ∧ (m.capFault t id off n true = none) ∧ (let i := 0; let r := req0 1;
    (m.requestOf id = some (i, r)))) ∧
  (let m : Module := (strands (w0 0 0 0 0 0 0)).m; let t : Nat := 63; let id : Nat := 0; let off : Nat := 0x420;
    let n : Nat := 8; let k : Capsule := cap0 1; (m.capsule id = some k) ∧ (m.capFault t id off n true = none)) ∧
  (let s : State := strands (w0 0x55 4 1 2 1 0) ({ thr0 with regs := [(1, 0), (2, 0x420), (3, 8), (4, 0x4000030000), (5, 4096), (6, 16), (7, 64), (8, 0xFFFFFFFF)] });
    let t : Nat := 63; let th : Thread := { thr0 with regs := [(1, 0), (2, 0x420), (3, 8), (4, 0x4000030000), (5, 4096), (6, 16), (7, 64), (8, 0xFFFFFFFF)] };
    let w : SWord := w0 0x55 4 1 2 1 0; (Issues s.m t 0x55 th w) ∧ (let n := (th.reg w.c.toNat).toNat;
    ((n = 0 ∨ 4096 < n)))) ∧
  (let s : State := strands (w0 0x55 4 1 2 3 0) ({ thr0 with regs := [(1, 0), (2, 0x420), (3, 8), (4, 0x4000030000), (5, 4096), (6, 16), (7, 64), (8, 0xFFFFFFFF)] });
    let t : Nat := 63; let th : Thread := { thr0 with regs := [(1, 0), (2, 0x420), (3, 8), (4, 0x4000030000), (5, 4096), (6, 16), (7, 64), (8, 0xFFFFFFFF)] };
    let w : SWord := w0 0x55 4 1 2 3 0; (Issues s.m t 0x55 th w) ∧ (let id := (th.reg w.a.toNat).toNat % 2 ^ 32;
    (let off := (th.reg w.b.toNat + w.imm.signExtend 64).toNat; (let n := (th.reg w.c.toNat).toNat;
    (let dst := (th.reg w.d.toNat).toNat; (1 ≤ n) ∧ (n ≤ 4096) ∧ (s.m.capFault t id off n false = none) ∧
    (s.m.strandCheck t dst n true false = none) ∧ (s.m.capNeedsHost id off n = false) ∧ (isHostPlace dst = false) ∧
    (let b := (((strands (w0 0x55 4 1 2 3 0) ({ thr0 with regs := [(1, 0), (2, 0x420), (3, 8), (4, 0x4000030000), (5, 4096), (6, 16), (7, 64), (8, 0xFFFFFFFF)] })).m.counted.capBytes 0 0x420 8).1).getD [];
    let m1 := (s.m.counted.capBytes 0 0x420 8).2; (s.m.counted.capBytes id off n = (some b, m1)))))))) ∧
  (let s : State := strands (w0 0x60 9 6 7 8 0x501) ({ thr0 with regs := [(1, 0), (2, 0x420), (3, 8), (4, 0x4000030000), (5, 4096), (6, 16), (7, 64), (8, 0xFFFFFFFF)] }) (let m := world 1;
    { m with caps := { m.caps with slots := [(0, { cap0 1 with partition := 1 })] } }); let t : Nat := 63;
    let th : Thread := { thr0 with regs := [(1, 0), (2, 0x420), (3, 8), (4, 0x4000030000), (5, 4096), (6, 16), (7, 64), (8, 0xFFFFFFFF)] };
    let w : SWord := w0 0x60 9 6 7 8 0x501; (Issues s.m t 0x60 th w) ∧ (let op := w.imm.toNat;
    (let pay := (th.reg w.a.toNat).toNat; (let blk := (th.reg w.b.toNat).toNat; (let p := s.m.threadPart t;
    (let b := s.m.strandRead t pay (issueLen op); (blk % 64 = 0) ∧
    (s.m.strandCheck t pay (issueLen op) false false = none) ∧ (s.m.strandCheck t blk 64 true false = none) ∧
    (isHostPlace pay = false) ∧ ((th.reg w.c.toNat).toNat = ligNone) ∧
    ((∃ q ∈ s.m.issueParts (fun i => (s.m.bore.indexes.get i).map (·.partition)) op b, q ≠ p)))))))) ∧
  (let s : State := (let s := strands (w0 0x60 9 6 7 8 0x501) ({ thr0 with regs := [(1, 0), (2, 0x420), (3, 8), (4, 0x4000030000), (5, 4096), (6, 16), (7, 64), (8, 0xFFFFFFFF)] }) ((world 1).set Reg.STRAND.CTRL_ISSUE_MAX 1);
    { s with m := { s.m with strand := { s.m.strand with issued := [(4, ⟨0, 3, 0, 64, ligNone⟩)] } } }); let t : Nat := 63;
    let th : Thread := { thr0 with regs := [(1, 0), (2, 0x420), (3, 8), (4, 0x4000030000), (5, 4096), (6, 16), (7, 64), (8, 0xFFFFFFFF)] };
    let w : SWord := w0 0x60 9 6 7 8 0x501; (Issues s.m t 0x60 th w) ∧ (let op := w.imm.toNat;
    (let pay := (th.reg w.a.toNat).toNat; (let blk := (th.reg w.b.toNat).toNat; (let p := s.m.threadPart t;
    (let b := s.m.strandRead t pay (issueLen op); (let out := s.m.strand.issued.vals.filter (fun i => i.partition == p);
    (blk % 64 = 0) ∧ (s.m.strandCheck t pay (issueLen op) false false = none) ∧
    (s.m.strandCheck t blk 64 true false = none) ∧ (isHostPlace pay = false) ∧ ((th.reg w.c.toNat).toNat = ligNone) ∧
    ((∀ q ∈ s.m.issueParts (fun i => (s.m.bore.indexes.get i).map (·.partition)) op b, q = p)) ∧
    (s.m.get Reg.STRAND.CTRL_ISSUE_MAX ≤ out.length)))))))) ∧
  (let s : State := strands (w0 0x60 9 6 7 8 0x501) ({ thr0 with regs := [(1, 0), (2, 0x420), (3, 8), (4, 0x4000030000), (5, 4096), (6, 16), (7, 64), (8, 0xFFFFFFFF)] });
    let t : Nat := 63; let th : Thread := { thr0 with regs := [(1, 0), (2, 0x420), (3, 8), (4, 0x4000030000), (5, 4096), (6, 16), (7, 64), (8, 0xFFFFFFFF)] };
    let w : SWord := w0 0x60 9 6 7 8 0x501; (Issues s.m t 0x60 th w) ∧ (let op := w.imm.toNat;
    (let pay := (th.reg w.a.toNat).toNat; (let blk := (th.reg w.b.toNat).toNat; (let p := s.m.threadPart t;
    (let b := s.m.strandRead t pay (issueLen op); (let out := s.m.strand.issued.vals.filter (fun i => i.partition == p);
    (blk % 64 = 0) ∧ (s.m.strandCheck t pay (issueLen op) false false = none) ∧
    (s.m.strandCheck t blk 64 true false = none) ∧ (isHostPlace pay = false) ∧ ((th.reg w.c.toNat).toNat = ligNone) ∧
    ((∀ q ∈ s.m.issueParts (fun i => (s.m.bore.indexes.get i).map (·.partition)) op b, q = p)) ∧
    (out.length < s.m.get Reg.STRAND.CTRL_ISSUE_MAX)))))))) ∧
  (let s : State := strands (w0 0x70 9 6 7 8 63) ({ thr0 with regs := [(1, 0), (2, 0x420), (3, 8), (4, 0x4000030000), (5, 4096), (6, 16), (7, 64), (8, 0xFFFFFFFF)] });
    let t : Nat := 63; let th : Thread := { thr0 with regs := [(1, 0), (2, 0x420), (3, 8), (4, 0x4000030000), (5, 4096), (6, 16), (7, 64), (8, 0xFFFFFFFF)] };
    let w : SWord := w0 0x70 9 6 7 8 63; (Issues s.m t 0x70 th w) ∧ ((th.reg w.c.toNat).toNat = ligNone)) ∧
  (let s : State := strands (w0 0x80 9 0 0 0 0x501); let t : Nat := 63; let th : Thread := thr0;
    let w : SWord := w0 0x80 9 0 0 0 0x501; (Issues s.m t 0x80 th w) ∧ (let m1 := (s.m.counted.ligAlloc 0 (some 0) 1 5).1;
    let h := 0; (s.m.counted.ligAlloc (s.m.threadPart t) (some th.job) (w.imm.toNat % 256) (w.imm.toNat / 256) = (m1,
    .inr h)))) ∧
  (let s : State := strands (w0 0x80 9 0 0 0 0x509); let t : Nat := 63; let th : Thread := thr0;
    let w : SWord := w0 0x80 9 0 0 0 0x509; (Issues s.m t 0x80 th w) ∧ (let m1 := (s.m.counted.ligAlloc 0 (some 0) 9 5).1;
    let st := .badField; (s.m.counted.ligAlloc (s.m.threadPart t) (some th.job) (w.imm.toNat % 256) (w.imm.toNat / 256) = (m1,
    .inl st)))) ∧
  (let s : State := strands (w0 0x82 9 1 2 0 0); let t : Nat := 63; let th : Thread := thr0;
    let w : SWord := w0 0x82 9 1 2 0 0; (Issues s.m t 0x82 th w) ∧ (s.m.ligFind (th.reg w.a.toNat).toNat = none)) ∧
  (let s : State := strands (w0 0x81 9 0 0 0 0) (thr0) (let m := world 1;
    { m with lig := { m.lig with objs := [(0, ⟨1, 0, 5, 5, [], [], some 7, none, false⟩)] } }); let t : Nat := 63;
    let th : Thread := thr0; let w : SWord := w0 0x81 9 0 0 0 0; (let i := 0;
    let o := ⟨1, 0, 5, 5, [], [], some 7, none, false⟩; (s.m.ligFind (th.reg w.a.toNat).toNat = some (i, o)) ∧
    (o.partition = s.m.threadPart t) ∧ (o.revokedJob = none) ∧ (Issues s.m t 0x81 th w) ∧ (o.owner ≠ some th.job))) ∧
  (let s : State := strands (w0 0x81 9 0 0 0 0) (thr0) (let m := world 1;
    { m with lig := { m.lig with objs := [(0, ⟨1, 0, 5, 0, [], [⟨.thread 5, 0, none, false⟩], some 0, none, false⟩)] } });
    let t : Nat := 63; let th : Thread := thr0; let w : SWord := w0 0x81 9 0 0 0 0; (let i := 0;
    let o := ⟨1, 0, 5, 0, [], [⟨.thread 5, 0, none, false⟩], some 0, none, false⟩;
    (s.m.ligFind (th.reg w.a.toNat).toNat = some (i, o)) ∧ (o.partition = s.m.threadPart t) ∧ (o.revokedJob = none) ∧
    (Issues s.m t 0x81 th w) ∧ (o.owner = some th.job) ∧ (o.waiters ≠ []))) ∧
  (let s : State := strands (w0 0x81 9 0 0 0 0) (thr0) (let m := world 1;
    { m with lig := { m.lig with objs := [(0, ⟨1, 0, 5, 5, [], [], some 0, none, false⟩)] } }); let t : Nat := 63;
    let th : Thread := thr0; let w : SWord := w0 0x81 9 0 0 0 0; (let i := 0;
    let o := ⟨1, 0, 5, 5, [], [], some 0, none, false⟩; (s.m.ligFind (th.reg w.a.toNat).toNat = some (i, o)) ∧
    (o.partition = s.m.threadPart t) ∧ (o.revokedJob = none) ∧ (Issues s.m t 0x81 th w) ∧ (o.owner = some th.job) ∧
    (o.waiters = []) ∧ ((∀ j, s.m.strand.jobs.get th.job = some j → j.window = none)))) ∧
  (let s : State := strands (w0 0x82 9 0 8 0 0) (thr0) (let m := world 1;
    { m with lig := { m.lig with objs := [(0, ⟨1, 0, 50, 5, [], [], none, none, false⟩)] } }); let t : Nat := 63;
    let th : Thread := thr0; let w : SWord := w0 0x82 9 0 8 0 0; (let i := 0;
    let o := ⟨1, 0, 50, 5, [], [], none, none, false⟩; (s.m.ligFind (th.reg w.a.toNat).toNat = some (i, o)) ∧
    (o.partition = s.m.threadPart t) ∧ (o.revokedJob = none) ∧ (Issues s.m t 0x82 th w))) ∧
  (let s : State := strands (w0 0x85 9 0 8 0 0) (thr0) (let m := world 1;
    { m with lig := { m.lig with objs := [(0, ⟨4, 0, 5, 0, [], [], none, none, false⟩)] } }); let t : Nat := 63;
    let th : Thread := thr0; let w : SWord := w0 0x85 9 0 8 0 0; (let i := 0;
    let o := ⟨4, 0, 5, 0, [], [], none, none, false⟩; (s.m.ligFind (th.reg w.a.toNat).toNat = some (i, o)) ∧
    (o.partition = s.m.threadPart t) ∧ (o.revokedJob = none) ∧ (Issues s.m t 0x85 th w))) ∧
  (let s : State := strands (w0 0x83 9 0 0 0 9) (thr0) (let m := world 1;
    { m with lig := { m.lig with objs := [(0, ⟨1, 0, 5, 1, [], [], none, none, false⟩)] } }); let t : Nat := 63;
    let th : Thread := thr0; let w : SWord := w0 0x83 9 0 0 0 9; (let i := 0;
    let o := ⟨1, 0, 5, 1, [], [], none, none, false⟩; (s.m.ligFind (th.reg w.a.toNat).toNat = some (i, o)) ∧
    (o.partition = s.m.threadPart t) ∧ (o.revokedJob = none) ∧ (Issues s.m t 0x83 th w) ∧
    (let o1 := ⟨1, 0, 5, 0, [], [], none, none, false⟩; let woken := []; let st := .ok; let msg := 0;
    (ligTake o false = .done o1 woken st msg)))) ∧
  (let s : State := strands (w0 0x84 9 0 0 0 0) (thr0) (let m := world 1;
    { m with lig := { m.lig with objs := [(0, ⟨1, 0, 5, 0, [], [], none, none, false⟩)] } }); let t : Nat := 63;
    let th : Thread := thr0; let w : SWord := w0 0x84 9 0 0 0 0; (let i := 0;
    let o := ⟨1, 0, 5, 0, [], [], none, none, false⟩; (s.m.ligFind (th.reg w.a.toNat).toNat = some (i, o)) ∧
    (o.partition = s.m.threadPart t) ∧ (o.revokedJob = none) ∧ (Issues s.m t 0x84 th w) ∧
    (let o1 := ⟨1, 0, 5, 0, [], [], none, none, false⟩; let woken := []; let st := .busy; let msg := 0;
    (ligTry o = .done o1 woken st msg)))) ∧
  (let s : State := strands (w0 0x86 9 0 0 8 0) (thr0) (let m := world 1;
    { m with lig := { m.lig with objs := [(0, ⟨4, 0, 5, 0, [7, 8], [], none, none, false⟩)] } }); let t : Nat := 63;
    let th : Thread := thr0; let w : SWord := w0 0x86 9 0 0 8 0; (let i := 0;
    let o := ⟨4, 0, 5, 0, [7, 8], [], none, none, false⟩; (s.m.ligFind (th.reg w.a.toNat).toNat = some (i, o)) ∧
    (o.partition = s.m.threadPart t) ∧ (o.revokedJob = none) ∧ (Issues s.m t 0x86 th w) ∧
    (let o1 := ⟨4, 0, 5, 0, [8], [], none, none, false⟩; let msg := 7; (ligTake o true = .done o1 [] .ok msg)))) ∧
  (let s : State := strands (w0 0x83 9 0 0 0 9) (thr0) (let m := world 1;
    { m with lig := { m.lig with objs := [(0, ⟨1, 0, 5, 0, [], [], none, none, false⟩)] } }); let t : Nat := 63;
    let th : Thread := thr0; let w : SWord := w0 0x83 9 0 0 0 9; (let i := 0;
    let o := ⟨1, 0, 5, 0, [], [], none, none, false⟩; (s.m.ligFind (th.reg w.a.toNat).toNat = some (i, o)) ∧
    (o.partition = s.m.threadPart t) ∧ (o.revokedJob = none) ∧ (let o1 := ⟨1, 0, 5, 0, [], [], none, none, false⟩;
    (ligTake o false = .wait o1) ∧ (Issues s.m t 0x83 th w)))) ∧
  (let s : State := strands (w0 0 0 0 0 0 0) ({ thr0 with loads := [⟨2, 5, false, 0, 8, 0, false⟩] }); let t : Nat := 63;
    let th : Thread := { thr0 with loads := [⟨2, 5, false, 0, 8, 0, false⟩] };
    (s.m.live = true) ∧ (s.m.strand.threads.get t = some th) ∧ (let l := ⟨2, 5, false, 0, 8, 0, false⟩; let rest := [];
    (th.loads = l :: rest) ∧ (l.host = false) ∧ (l.credited = false))) ∧
  (let s : State := strands (w0 0 0 0 0 0 0) ({ thr0 with stores := [⟨0x10000040, 0x100000000000, 5, false⟩] });
    let t : Nat := 63; let th : Thread := { thr0 with stores := [⟨0x10000040, 0x100000000000, 5, false⟩] };
    (s.m.live = true) ∧ (s.m.strand.threads.get t = some th) ∧ (let x := ⟨0x10000040, 0x100000000000, 5, false⟩;
    let rest := []; (th.stores = x :: rest) ∧ (x.credited = false) ∧ (s.m.host.linkUp = true) ∧ (s.m.host.d3hot = false) ∧
    (th.wait ≠ .fence))) ∧
  (let s : State := strands (w0 0 0 0 0 0 0) ({ thr0 with stores := [⟨0x10000040, 0x100000000000, 5, false⟩], wait := .fence });
    let t : Nat := 63; let th : Thread := { thr0 with stores := [⟨0x10000040, 0x100000000000, 5, false⟩], wait := .fence };
    (s.m.live = true) ∧ (s.m.strand.threads.get t = some th) ∧ (let x := ⟨0x10000040, 0x100000000000, 5, false⟩;
    let rest := []; (th.stores = x :: rest) ∧ (x.credited = false) ∧ (s.m.host.linkUp = true) ∧ (s.m.host.d3hot = false) ∧
    (th.wait = .fence) ∧ (rest = []))) ∧
  (let s : State := strands (w0 0 0 0 0 0 0) ({ thr0 with wait := .host 0x100000000008 1999000000000 }); let t : Nat := 63;
    let th : Thread := { thr0 with wait := .host 0x100000000008 1999000000000 };
    (s.m.live = true) ∧ (s.m.strand.threads.get t = some th) ∧ (let a := 0x100000000008; let start := 1999000000000;
    (th.wait = .host a start))) := by
  refine ⟨⟨List.mem_of_getElem? (i := 4) rfl, by decide +kernel⟩, ⟨List.mem_of_getElem? (i := 4) rfl, by decide +kernel⟩,
    ⟨List.mem_of_getElem? (i := 3) rfl, by decide +kernel⟩, ⟨List.mem_of_getElem? (i := 1) rfl, by decide +kernel⟩,
    ⟨List.mem_of_getElem? (i := 0) rfl, by decide +kernel⟩, ⟨List.mem_of_getElem? (i := 0) rfl, by decide +kernel⟩,
    ⟨List.mem_of_getElem? (i := 0) rfl, by decide +kernel⟩, ⟨List.mem_of_getElem? (i := 0) rfl, by decide +kernel⟩, ⟨?_, ?_,
    ?_, ?_, ?_, ?_, ?_, ⟨List.mem_of_getElem? (i := 2) rfl, by decide +kernel⟩, ⟨⟨List.mem_of_getElem? (i := 2) rfl,
    by decide +kernel, by decide +kernel, by decide +kernel, by decide +kernel, by decide +kernel,
    pair_of_fst (by decide +kernel)⟩, ⟨List.mem_of_getElem? (i := 1) rfl, by decide +kernel⟩,
    ⟨List.mem_of_getElem? (i := 1) rfl, by decide +kernel⟩, ⟨List.mem_of_getElem? (i := 1) rfl, by decide +kernel⟩, ?_, ?_,
    ?_, ⟨by decide +kernel, by decide +kernel, by decide +kernel, by decide +kernel, by decide +kernel, by decide +kernel,
    by decide +kernel, pair_of_fst (by decide +kernel)⟩, ⟨?_, ?_, ?_, ?_, ⟨by decide +kernel,
    pair_of_snd (by decide +kernel)⟩, ⟨by decide +kernel, pair_of_snd (by decide +kernel)⟩, ?_, ?_, ⟨?_, ?_, ?_, ?_, ?_, ?_,
    ?_, ?_, ⟨?_, ?_, ?_, ?_⟩⟩⟩⟩⟩⟩ <;> decide +kernel

end Sys2Proof.Tests
end

