-- ==== Sys2Proof/Tests/WitnessTime.lean ====
section
/-!
SUPPORT. For each statement about time, the event recorder and the check-value units: states and operands that meet the hypotheses of each of its clauses.
-/

namespace Sys2Proof.Tests

-- The evaluations below wait for one another, so that they run one at a time and hold one stack.
set_option Elab.async false

open Sys2Proof Sys2Proof.Machine

/-- An Announce of a clock on sub-port 3, domain 0, with a priority. -/
def ann (priority : Nat) : Announce := ⟨3, 0, priority, 6, 0x21, 5, 128, 0x1122, 0, 1000000000⟩

/-- The module with the clock servo on and its master and run as given. -/
def clocked (master : Option Announce) (large : List Int) (small : Nat := 0) (m : Module := world 1) : Module :=
  let m := m.set Reg.TIME.PTP_ENABLE 1
  { m with ptp := { m.ptp with master := master, largeRun := large, smallRun := small, meanDelay := some 500, lastAnnounce := 1999000000000 } }

/-- A record of an event with eight bytes. -/
def ev0 (seq : Nat) : EvRecord := ⟨0x1304, 0xFF, 1, seq, 5, 0, 1, zeros 8⟩

/-- The module whose record region holds one closed and one open sector, each with a valid record. -/
def recorded (f : EvSt → EvSt) (m : Module := world 1) : Module :=
  { m with ev := f { m.ev with
    sectors := [(0, ⟨1, 1, 4032, true, true, [(ev0 1, .valid)]⟩), (255, ⟨2, 2, 112, true, false, [(ev0 2, .valid)]⟩)]
    nextSectorSeq := 3, nextSeq := 3 } }

/-- EVREC_NOTE of eight bytes with severity 3. -/
def note0 : List (Nat × Nat) := [(2, 8), (1, 3), (5, 0), (8, 0x1122334455667788)]

/-- CHECK_SCAN of unit 15 over four bytes at HBM address 0x8008, to an address. -/
def scan (op start da len : Nat) : List (Nat × Nat) :=
  [(1, 15), (1, op), (1, start), (1, 0), (1, 1), (1, 2), (2, 0), (8, 0x8008), (8, da), (8, len)]

/-- Unit 15 set to preset 1 in a module. -/
def checked15 (m : Module := world 1) : Module := m.setCheckCfg 15 1 ((checkPreset 1).getD ⟨8, 1, 0, 0, false, false⟩)


/-- The hypotheses of TimeRecorderAndCheckUnitsAct are met. -/
theorem witness_TimeRecorderAndCheckUnitsAct :
  (let s : State := atRest (world 1); (s.m.live = true)) ∧
  (let s : State := go (let m := clocked none []; { m with ptp := { m.ptp with setByPtp := true } }) 0x1100 [(8, 77)];
    let src : Src := .mbox 0; let c : RunCmd := cm s src; (Fresh s src 0x1100 c) ∧ (s.m.clk.fits = true) ∧
    (s.m.flag Reg.TIME.PTP_ENABLE = true) ∧ (s.m.ptp.setByPtp = true)) ∧
  (let s : State := go (clocked none []) 0x1100 [(8, 2 ^ 64 - 1)]; let src : Src := .mbox 0; let c : RunCmd := cm s src;
    (Fresh s src 0x1100 c) ∧ (s.m.clk.fits = true) ∧ ((s.m.flag Reg.TIME.PTP_ENABLE = false ∨ s.m.ptp.setByPtp = false))) ∧
  (let s : State := go (clocked none []) 0x1101 [(8, 0)]; let src : Src := .mbox 0; let c : RunCmd := cm s src;
    (Fresh s src 0x1101 c) ∧ (allZero c.payload 0 c.payload.length = true)) ∧
  (let s : State := atRest (clocked none []); let a : Announce := ann 5;
    (s.m.live = true) ∧ (a.subport < 16) ∧ (s.m.flag Reg.TIME.PTP_ENABLE = true) ∧
    (a.domain = s.m.get Reg.TIME.PTP_DOMAIN) ∧ (s.m.ptp.master = none)) ∧
  (let s : State := atRest (clocked (some (ann 6)) []); let a : Announce := ann 5;
    (s.m.live = true) ∧ (a.subport < 16) ∧ (s.m.flag Reg.TIME.PTP_ENABLE = true) ∧
    (a.domain = s.m.get Reg.TIME.PTP_DOMAIN) ∧ (let b := ann 6;
    (s.m.ptp.master = some b) ∧ ((b.clockId = a.clockId ∧
    b.subport = a.subport) ∨ rankBefore (annRank a) (annRank b) = true))) ∧
  (let s : State := atRest (clocked (some { ann 4 with clockId := 9 }) []); let a : Announce := ann 5;
    (s.m.live = true) ∧ (a.subport < 16) ∧ (s.m.flag Reg.TIME.PTP_ENABLE = true) ∧
    (a.domain = s.m.get Reg.TIME.PTP_DOMAIN) ∧ (let b := { ann 4 with clockId := 9 };
    (s.m.ptp.master = some b) ∧ (¬((b.clockId = a.clockId ∧
    b.subport = a.subport) ∨ rankBefore (annRank a) (annRank b) = true)))) ∧
  (let s : State := atRest (clocked (some (ann 6)) []); let a : Announce := ann 6;
    (s.m.live = true) ∧ (s.m.ptp.master = some a)) ∧
  (let s : State := atRest (clocked (some (ann 6)) []); let o : Int := 5; let d : Int := 1000000; let mean : Int := 500;
    let m1 : Module := ({ s.m with ptp := { s.m.ptp with meanDelay := some (500 + (1000000 - 500) / 8) } } : Module).set Reg.TIME.OFFSET_NS (trunc 64 5);
    (s.m.live = true) ∧ (s.m.clk.fits = true) ∧ (s.m.flag Reg.TIME.PTP_ENABLE = true) ∧ (s.m.ptp.master.isSome = true) ∧
    (mean = s.m.ptp.meanDelay.getD d) ∧
    (m1 = (({ s.m with ptp := { s.m.ptp with meanDelay := some (mean + (d - mean) / 8) } } : Module).set Reg.TIME.OFFSET_NS (trunc 64 o))) ∧
    ((s.m.get Reg.TIME.PTP_OUTLIER_NS : Int) < |d - mean|)) ∧
  (let s : State := atRest (clocked (some (ann 6)) [] 7); let o : Int := -100; let d : Int := 508; let mean : Int := 500;
    let m1 : Module := ({ s.m with ptp := { s.m.ptp with meanDelay := some (500 + (508 - 500) / 8) } } : Module).set Reg.TIME.OFFSET_NS (trunc 64 (-100));
    (s.m.live = true) ∧ (s.m.clk.fits = true) ∧ (s.m.flag Reg.TIME.PTP_ENABLE = true) ∧ (s.m.ptp.master.isSome = true) ∧
    (mean = s.m.ptp.meanDelay.getD d) ∧
    (m1 = (({ s.m with ptp := { s.m.ptp with meanDelay := some (mean + (d - mean) / 8) } } : Module).set Reg.TIME.OFFSET_NS (trunc 64 o))) ∧
    (|d - mean| ≤ (s.m.get Reg.TIME.PTP_OUTLIER_NS : Int)) ∧ (|o| < (s.m.get Reg.TIME.STEP_THRESHOLD_NS : Int)) ∧
    (let small := if |o| ≤ 100 then Min.min (s.m.ptp.smallRun + 1) 16 else 0; (small ≠ 16))) ∧
  (let s : State := atRest (clocked (some (ann 6)) [] 15); let o : Int := 100; let d : Int := 508; let mean : Int := 500;
    let m1 : Module := ({ s.m with ptp := { s.m.ptp with meanDelay := some (500 + (508 - 500) / 8) } } : Module).set Reg.TIME.OFFSET_NS (trunc 64 100);
    (s.m.live = true) ∧ (s.m.clk.fits = true) ∧ (s.m.flag Reg.TIME.PTP_ENABLE = true) ∧ (s.m.ptp.master.isSome = true) ∧
    (mean = s.m.ptp.meanDelay.getD d) ∧
    (m1 = (({ s.m with ptp := { s.m.ptp with meanDelay := some (mean + (d - mean) / 8) } } : Module).set Reg.TIME.OFFSET_NS (trunc 64 o))) ∧
    (|d - mean| ≤ (s.m.get Reg.TIME.PTP_OUTLIER_NS : Int)) ∧ (|o| < (s.m.get Reg.TIME.STEP_THRESHOLD_NS : Int)) ∧
    (let small := if |o| ≤ 100 then Min.min (s.m.ptp.smallRun + 1) 16 else 0; (small = 16))) ∧
  (let s : State := atRest (clocked (some (ann 6)) [] 15); let o : Int := 1000000000; let d : Int := 508;
    let mean : Int := 500; let m1 : Module := ({ s.m with ptp := { s.m.ptp with meanDelay := some (500 + (508 - 500) / 8) } } : Module).set Reg.TIME.OFFSET_NS (trunc 64 1000000000);
    (s.m.live = true) ∧ (s.m.clk.fits = true) ∧ (s.m.flag Reg.TIME.PTP_ENABLE = true) ∧ (s.m.ptp.master.isSome = true) ∧
    (mean = s.m.ptp.meanDelay.getD d) ∧
    (m1 = (({ s.m with ptp := { s.m.ptp with meanDelay := some (mean + (d - mean) / 8) } } : Module).set Reg.TIME.OFFSET_NS (trunc 64 o))) ∧
    (|d - mean| ≤ (s.m.get Reg.TIME.PTP_OUTLIER_NS : Int)) ∧ ((s.m.get Reg.TIME.STEP_THRESHOLD_NS : Int) ≤ |o|) ∧
    (s.m.ptp.largeRun = [])) ∧
  (let s : State := atRest ((clocked (some (ann 6)) [-1999999000000, -1999999000000] 0).set Reg.TIME.STATUS_SET 1);
    let o : Int := -1999999000400; let d : Int := 508; let mean : Int := 500;
    let m1 : Module := ({ s.m with ptp := { s.m.ptp with meanDelay := some (500 + (508 - 500) / 8) } } : Module).set Reg.TIME.OFFSET_NS (trunc 64 (-1999999000400));
    (s.m.live = true) ∧ (s.m.clk.fits = true) ∧ (s.m.flag Reg.TIME.PTP_ENABLE = true) ∧ (s.m.ptp.master.isSome = true) ∧
    (mean = s.m.ptp.meanDelay.getD d) ∧
    (m1 = (({ s.m with ptp := { s.m.ptp with meanDelay := some (mean + (d - mean) / 8) } } : Module).set Reg.TIME.OFFSET_NS (trunc 64 o))) ∧
    (|d - mean| ≤ (s.m.get Reg.TIME.PTP_OUTLIER_NS : Int)) ∧ ((s.m.get Reg.TIME.STEP_THRESHOLD_NS : Int) ≤ |o|) ∧
    (let a := -1999999000000; let b := -1999999000000; (s.m.ptp.largeRun = [a, b]) ∧ (agree [a, b, o] = true) ∧
    (let beyond := (0 ≤ o ∧ (s.m.get Reg.TIME.STEP_MAX_NS : Int) < o) ∨ (o < 0 ∧ (s.m.get Reg.TIME.BACK_MAX_NS : Int) < -o);
    (beyond) ∧ (s.m.flag Reg.TIME.STATUS_SET = true) ∧ (s.m.ptp.stepAllowed = false)))) ∧
  (let s : State := atRest (clocked (some (ann 6)) [2000000000000, 2000000000000] 0); let o : Int := 2000000000000;
    let d : Int := 508; let mean : Int := 500;
    let m1 : Module := ({ s.m with ptp := { s.m.ptp with meanDelay := some (500 + (508 - 500) / 8) } } : Module).set Reg.TIME.OFFSET_NS (trunc 64 2000000000000);
    (s.m.live = true) ∧ (s.m.clk.fits = true) ∧ (s.m.flag Reg.TIME.PTP_ENABLE = true) ∧ (s.m.ptp.master.isSome = true) ∧
    (mean = s.m.ptp.meanDelay.getD d) ∧
    (m1 = (({ s.m with ptp := { s.m.ptp with meanDelay := some (mean + (d - mean) / 8) } } : Module).set Reg.TIME.OFFSET_NS (trunc 64 o))) ∧
    (|d - mean| ≤ (s.m.get Reg.TIME.PTP_OUTLIER_NS : Int)) ∧ ((s.m.get Reg.TIME.STEP_THRESHOLD_NS : Int) ≤ |o|) ∧
    (let a := 2000000000000; let b := 2000000000000; (s.m.ptp.largeRun = [a, b]) ∧ (agree [a, b, o] = true) ∧
    (let beyond := (0 ≤ o ∧ (s.m.get Reg.TIME.STEP_MAX_NS : Int) < o) ∨ (o < 0 ∧ (s.m.get Reg.TIME.BACK_MAX_NS : Int) < -o);
    ((¬beyond ∨ s.m.flag Reg.TIME.STATUS_SET = false ∨ s.m.ptp.stepAllowed = true))))) ∧
  (let s : State := go (recorded id) 0x1300 note0; let src : Src := .mbox 0; let c : RunCmd := cm s src;
    let b : Bytes := (cm s).payload; let n : Nat := 8; (Fresh s src 0x1300 c) ∧ (b = c.payload) ∧ (n = u16 b 0) ∧
    (allZero b 3 5 = true) ∧ (8 ≤ n) ∧ (n ≤ 1024) ∧ (n % 8 = 0) ∧ (u8 b 2 ≤ 3) ∧ (8 + n ≤ b.length) ∧
    (allZero b (8 + n) (b.length - (8 + n)) = true) ∧ (s.m.offerFate 0x1304 (40 + n) = .queued)) ∧
  (let s : State := go ((recorded (fun e => { e with counts := [(0x1304, 5)] })).set Reg.EVREC.RATE_PER_TYPE 5) 0x1300 note0;
    let src : Src := .mbox 0; let c : RunCmd := cm s src; let b : Bytes := (cm s).payload; let n : Nat := 8;
    (Fresh s src 0x1300 c) ∧ (b = c.payload) ∧ (n = u16 b 0) ∧ (allZero b 3 5 = true) ∧ (8 ≤ n) ∧ (n ≤ 1024) ∧ (n % 8 = 0) ∧
    (u8 b 2 ≤ 3) ∧ (8 + n ≤ b.length) ∧ (allZero b (8 + n) (b.length - (8 + n)) = true) ∧
    (s.m.offerFate 0x1304 (40 + n) = .suppressed)) ∧
  (let s : State := go ((recorded id).set Reg.EVREC.STATUS_FULL 1) 0x1300 note0; let src : Src := .mbox 0;
    let c : RunCmd := cm s src; let b : Bytes := (cm s).payload; let n : Nat := 8;
    (Fresh s src 0x1300 c) ∧ (b = c.payload) ∧ (n = u16 b 0) ∧ (allZero b 3 5 = true) ∧ (8 ≤ n) ∧ (n ≤ 1024) ∧ (n % 8 = 0) ∧
    (u8 b 2 ≤ 3) ∧ (8 + n ≤ b.length) ∧ (allZero b (8 + n) (b.length - (8 + n)) = true) ∧
    (s.m.offerFate 0x1304 (40 + n) = .dropped)) ∧
  (let m : Module := recorded id; let type : Nat := 0x1304; let body : Bytes := zeros 8;
    (m.offerFate type (40 + body.length) = .queued)) ∧
  (let m : Module := (recorded id).set Reg.EVREC.STATUS_FULL 1; let type : Nat := 0x1304; let body : Bytes := zeros 8;
    (m.offerFate type (40 + body.length) ≠ .queued)) ∧
  (let s : State := atRest (recorded (fun e => { e with queue := [ev0 3, ev0 4] })); let r : EvRecord := ev0 3;
    let rest : List EvRecord := [ev0 4]; (s.m.live = true) ∧ (s.m.ev.queue = r :: rest) ∧ (s.m.roomFor r.size = true)) ∧
  (let s : State := atRest (recorded (fun e => { e with queue := [ev0 3], sectors := (List.range 256).map (fun i => (i, ⟨i, i, 262100, true, i != 9, []⟩)) }));
    let r : EvRecord := ev0 3; let rest : List EvRecord := [];
    (s.m.live = true) ∧ (s.m.ev.queue = r :: rest) ∧ (s.m.roomFor r.size = false)) ∧
  (let m : Module := recorded id; let r : EvRecord := ev0 3; (m.ev.sectors.wf = true) ∧ (m.roomFor r.size = true) ∧
    (r.size ≤ 4136)) ∧
  (let s : State := atRest (recorded (fun e => { e with second := 1999, suppressed := [(0x1304, 7)] }));
    (s.m.live = true) ∧ ((s.m.ev.second + 1) * 1000000000 ≤ s.m.clk.now)) ∧
  (let s : State := atRest (recorded (fun e => { e with clearing := some 1 })); let upTo : Nat := 1;
    (s.m.live = true) ∧ (s.m.ev.clearing = some upTo) ∧ (s.m.ev.sectors.wf = true)) ∧
  (let s : State := atRest (recorded id); let v : Nat := 2; (s.m.live = true) ∧ (s.m.host.linkUp = true) ∧
    (s.m.host.d3hot = false) ∧ (v < 2 ^ 64)) ∧
  (let s : State := atRest (recorded id); let v : Nat := 5; (s.m.live = true) ∧ (s.m.host.linkUp = true) ∧
    (s.m.host.d3hot = false) ∧ (bit v 0 = true)) ∧
  (let s : State := atRest (recorded id); let v : Nat := 2; (s.m.live = true) ∧ (s.m.host.linkUp = true) ∧
    (s.m.host.d3hot = false) ∧ (bit v 0 = false)) ∧
  (let s : State := atRest (recorded (fun e => { e with load := .loading 2 })); let q : Nat := 2;
    (s.m.live = true) ∧ (s.m.ev.load = .loading q)) ∧
  (let s : State := go (let m := world 1; { m with test := { m.test with units := 2 ^ 15 } }) 0x1400 [(1, 15), (1, 8), (6,
    0), (24, 0)]; let src : Src := .mbox 0; let c : RunCmd := cm s src; let b : Bytes := (cm s).payload; let u : Nat := 15;
    (Fresh s src 0x1400 c) ∧ (b = c.payload) ∧ (u = u8 b 0) ∧ (u ≤ 15) ∧ (allZero b 4 4 = true) ∧ (let p := 8;
    let k := ⟨8, 0x07, 0, 0, false, false⟩; (checkPreset p = some k) ∧ (u8 b 1 = p) ∧ (u8 b 2 = 0) ∧ (u8 b 3 = 0) ∧
    (u64 b 8 = 0) ∧ (u64 b 0x10 = 0) ∧ (u64 b 0x18 = 0) ∧ (bit s.m.test.units u = true))) ∧
  (let s : State := go (world 1) 0x1400 [(1, 15), (1, 8), (6, 0), (24, 0)]; let src : Src := .mbox 0;
    let c : RunCmd := cm s src; let b : Bytes := (cm s).payload; let u : Nat := 15;
    (Fresh s src 0x1400 c) ∧ (b = c.payload) ∧ (u = u8 b 0) ∧ (u ≤ 15) ∧ (allZero b 4 4 = true) ∧ (let p := 8;
    let k := ⟨8, 0x07, 0, 0, false, false⟩; (checkPreset p = some k) ∧ (u8 b 1 = p) ∧ (u8 b 2 = 0) ∧ (u8 b 3 = 0) ∧
    (u64 b 8 = 0) ∧ (u64 b 0x10 = 0) ∧ (u64 b 0x18 = 0) ∧ (bit s.m.test.units u = false))) ∧
  (let s : State := go (world 1) 0x1400 [(1, 15), (1, 0), (1, 64), (1, 3), (4, 0), (8, 2 ^ 64 - 1), (8, 5), (8, 6)];
    let src : Src := .mbox 0; let c : RunCmd := cm s src; let b : Bytes := (cm s).payload; let u : Nat := 15;
    (Fresh s src 0x1400 c) ∧ (b = c.payload) ∧ (u = u8 b 0) ∧ (u ≤ 15) ∧ (allZero b 4 4 = true) ∧ (u8 b 1 = 0) ∧
    (1 ≤ u8 b 2) ∧ (u8 b 2 ≤ 64) ∧ (u8 b 3 ≤ 3) ∧ (u64 b 8 % 2 = 1) ∧ (u64 b 8 < 2 ^ u8 b 2) ∧ (u64 b 0x10 < 2 ^ u8 b 2) ∧
    (u64 b 0x18 < 2 ^ u8 b 2) ∧ (bit s.m.test.units u = false)) ∧
  (let u : Nat := 15; let p : Nat := 255; let k : CheckCfg := ⟨64, 2 ^ 64 - 1, 5, 6, true, false⟩;
    (u < 16) ∧ (p < 256) ∧ (1 ≤ k.width) ∧ (k.width ≤ 64) ∧ (k.poly < 2 ^ 64) ∧ (k.init < 2 ^ 64) ∧ (k.xorout < 2 ^ 64)) ∧
  (let p : Nat × Nat := (1, 0xE3069283); (p ∈ ([(1, 0xE3069283), (2, 0xCBF43926), (3, 0xFC891918), (4, 0x995DC9BBDF1939FA),
    (5, 0x6C40DF5F0B497347), (6, 0x29B1), (7, 0x2189), (8, 0xF4)] : List (Nat × Nat)))) ∧
  (let s : State := go (let m := checked15; { m with parts := [⟨0xFF, 0, 512, 3, 0, 0, 0, 2048⟩] }) 0x1410 (scan 0 0 0 4);
    let src : Src := .mbox 0; let c : RunCmd := cm s src; let b : Bytes := (cm s).payload; let u : Nat := 15;
    let op : Nat := 0; let p : Nat := 0; let st : Nat := 1; let dt : Nat := 2; let sa : Nat := 0x8008; let da : Nat := 0;
    let len : Nat := 4; let n : Nat := 4; let k : CheckCfg := s.m.checkCfg 15;
    (Fresh s src 0x1410 c) ∧ (b = c.payload) ∧ (u = u8 b 0) ∧ (op = u8 b 1) ∧ (p = u8 b 3) ∧ (st = u8 b 4) ∧ (dt = u8 b 5) ∧
    (sa = u64 b 8) ∧ (da = u64 b 0x10) ∧ (len = u64 b 0x18) ∧ (k = s.m.checkCfg u) ∧ (n = (k.width + 7) / 8) ∧ (u ≤ 15) ∧
    (u8 b 2 ≤ 1) ∧ (allZero b 6 2 = true) ∧ (s.m.present p = true) ∧ (1 ≤ st) ∧ (st ≤ 2) ∧ (1 ≤ dt) ∧ (dt ≤ 2) ∧ (1 ≤ len) ∧
    (len ≤ 2 ^ 32) ∧ (s.m.mute p = true) ∧ (op = 0)) ∧
  (let s : State := go checked15 0x1410 (scan 0 1 0 4); let src : Src := .mbox 0; let c : RunCmd := cm s src;
    let b : Bytes := (cm s).payload; let u : Nat := 15; let op : Nat := 0; let p : Nat := 0; let st : Nat := 1;
    let dt : Nat := 2; let sa : Nat := 0x8008; let da : Nat := 0; let len : Nat := 4; let n : Nat := 4;
    let k : CheckCfg := s.m.checkCfg 15; (Fresh s src 0x1410 c) ∧ (b = c.payload) ∧ (u = u8 b 0) ∧ (op = u8 b 1) ∧
    (p = u8 b 3) ∧ (st = u8 b 4) ∧ (dt = u8 b 5) ∧ (sa = u64 b 8) ∧ (da = u64 b 0x10) ∧ (len = u64 b 0x18) ∧
    (k = s.m.checkCfg u) ∧ (n = (k.width + 7) / 8) ∧ (u ≤ 15) ∧ (u8 b 2 ≤ 1) ∧ (allZero b 6 2 = true) ∧
    (s.m.present p = true) ∧ (1 ≤ st) ∧ (st ≤ 2) ∧ (1 ≤ dt) ∧ (dt ≤ 2) ∧ (1 ≤ len) ∧ (len ≤ 2 ^ 32) ∧ (s.m.mute p = false) ∧
    (bit s.m.test.units u = false) ∧ (op = 0) ∧ (s.m.engineMay p (st - 1) sa len = true)) ∧
  (let s : State := go checked15 0x1410 (scan 1 0 0 4); let src : Src := .mbox 0; let c : RunCmd := cm s src;
    let b : Bytes := (cm s).payload; let u : Nat := 15; let op : Nat := 1; let p : Nat := 0; let st : Nat := 1;
    let dt : Nat := 2; let sa : Nat := 0x8008; let da : Nat := 0; let len : Nat := 4; let n : Nat := 4;
    let k : CheckCfg := s.m.checkCfg 15; (Fresh s src 0x1410 c) ∧ (b = c.payload) ∧ (u = u8 b 0) ∧ (op = u8 b 1) ∧
    (p = u8 b 3) ∧ (st = u8 b 4) ∧ (dt = u8 b 5) ∧ (sa = u64 b 8) ∧ (da = u64 b 0x10) ∧ (len = u64 b 0x18) ∧
    (k = s.m.checkCfg u) ∧ (n = (k.width + 7) / 8) ∧ (u ≤ 15) ∧ (u8 b 2 ≤ 1) ∧ (allZero b 6 2 = true) ∧
    (s.m.present p = true) ∧ (1 ≤ st) ∧ (st ≤ 2) ∧ (1 ≤ dt) ∧ (dt ≤ 2) ∧ (1 ≤ len) ∧ (len ≤ 2 ^ 32) ∧ (s.m.mute p = false) ∧
    (bit s.m.test.units u = false) ∧ (op = 1) ∧ (da = 0) ∧ (s.m.engineMay p (st - 1) sa (len + n) = true)) ∧
  (let s : State := go checked15 0x1410 (scan 1 0 0x100 4); let src : Src := .mbox 0; let c : RunCmd := cm s src;
    let b : Bytes := (cm s).payload; let u : Nat := 15; let op : Nat := 1; let p : Nat := 0; let st : Nat := 1;
    let dt : Nat := 2; let sa : Nat := 0x8008; let da : Nat := 0x100; let len : Nat := 4; let n : Nat := 4;
    let k : CheckCfg := s.m.checkCfg 15; (Fresh s src 0x1410 c) ∧ (b = c.payload) ∧ (u = u8 b 0) ∧ (op = u8 b 1) ∧
    (p = u8 b 3) ∧ (st = u8 b 4) ∧ (dt = u8 b 5) ∧ (sa = u64 b 8) ∧ (da = u64 b 0x10) ∧ (len = u64 b 0x18) ∧
    (k = s.m.checkCfg u) ∧ (n = (k.width + 7) / 8) ∧ (u ≤ 15) ∧ (u8 b 2 ≤ 1) ∧ (allZero b 6 2 = true) ∧
    (s.m.present p = true) ∧ (1 ≤ st) ∧ (st ≤ 2) ∧ (1 ≤ dt) ∧ (dt ≤ 2) ∧ (1 ≤ len) ∧ (len ≤ 2 ^ 32) ∧ (s.m.mute p = false) ∧
    (bit s.m.test.units u = false) ∧ (op = 1) ∧ (da ≠ 0) ∧ (s.m.engineMay p (st - 1) sa len = true) ∧
    (s.m.engineMay p (dt - 1) da (len + n) = true)) ∧
  (let s : State := go (let m := checked15;
    { m with hbm := m.hbm.wrN 0x800C (leBytes 4 (crc32c (leBytes 4 100))) }) 0x1410 (scan 2 0 0 8);
    let src : Src := .mbox 0; let c : RunCmd := cm s src; let b : Bytes := (cm s).payload; let u : Nat := 15;
    let op : Nat := 2; let p : Nat := 0; let st : Nat := 1; let dt : Nat := 2; let sa : Nat := 0x8008; let da : Nat := 0;
    let len : Nat := 8; let n : Nat := 4; let k : CheckCfg := s.m.checkCfg 15;
    (Fresh s src 0x1410 c) ∧ (b = c.payload) ∧ (u = u8 b 0) ∧ (op = u8 b 1) ∧ (p = u8 b 3) ∧ (st = u8 b 4) ∧ (dt = u8 b 5) ∧
    (sa = u64 b 8) ∧ (da = u64 b 0x10) ∧ (len = u64 b 0x18) ∧ (k = s.m.checkCfg u) ∧ (n = (k.width + 7) / 8) ∧ (u ≤ 15) ∧
    (u8 b 2 ≤ 1) ∧ (allZero b 6 2 = true) ∧ (s.m.present p = true) ∧ (1 ≤ st) ∧ (st ≤ 2) ∧ (1 ≤ dt) ∧ (dt ≤ 2) ∧ (1 ≤ len) ∧
    (len ≤ 2 ^ 32) ∧ (s.m.mute p = false) ∧ (bit s.m.test.units u = false) ∧
    (let start := if bit (u8 b 2) 0 = true then s.m.get (Reg.CHECK.SAVED_REG.at 64 u) else k.init;
    (op = 2) ∧ (n < len) ∧ (s.m.engineMay p (st - 1) sa len = true) ∧
    ((da ≠ 0 → s.m.engineMay p (dt - 1) da (len - n) = true)) ∧ (let part := (s.m.mem st).rdN sa (len - n);
    (let r2 := checkScan k start part; (let same := (s.m.mem st).rdN (sa + (len - n)) n = checkField k (checkValue k r2);
    (same) ∧ (da = 0)))))) ∧
  (let s : State := go (let m := checked15;
    { m with hbm := m.hbm.wrN 0x800C (leBytes 4 (crc32c (leBytes 4 100))) }) 0x1410 (scan 2 0 0x100 8);
    let src : Src := .mbox 0; let c : RunCmd := cm s src; let b : Bytes := (cm s).payload; let u : Nat := 15;
    let op : Nat := 2; let p : Nat := 0; let st : Nat := 1; let dt : Nat := 2; let sa : Nat := 0x8008;
    let da : Nat := 0x100; let len : Nat := 8; let n : Nat := 4; let k : CheckCfg := s.m.checkCfg 15;
    (Fresh s src 0x1410 c) ∧ (b = c.payload) ∧ (u = u8 b 0) ∧ (op = u8 b 1) ∧ (p = u8 b 3) ∧ (st = u8 b 4) ∧ (dt = u8 b 5) ∧
    (sa = u64 b 8) ∧ (da = u64 b 0x10) ∧ (len = u64 b 0x18) ∧ (k = s.m.checkCfg u) ∧ (n = (k.width + 7) / 8) ∧ (u ≤ 15) ∧
    (u8 b 2 ≤ 1) ∧ (allZero b 6 2 = true) ∧ (s.m.present p = true) ∧ (1 ≤ st) ∧ (st ≤ 2) ∧ (1 ≤ dt) ∧ (dt ≤ 2) ∧ (1 ≤ len) ∧
    (len ≤ 2 ^ 32) ∧ (s.m.mute p = false) ∧ (bit s.m.test.units u = false) ∧
    (let start := if bit (u8 b 2) 0 = true then s.m.get (Reg.CHECK.SAVED_REG.at 64 u) else k.init;
    (op = 2) ∧ (n < len) ∧ (s.m.engineMay p (st - 1) sa len = true) ∧
    ((da ≠ 0 → s.m.engineMay p (dt - 1) da (len - n) = true)) ∧ (let part := (s.m.mem st).rdN sa (len - n);
    (let r2 := checkScan k start part; (let same := (s.m.mem st).rdN (sa + (len - n)) n = checkField k (checkValue k r2);
    (same) ∧ (da ≠ 0)))))) ∧
  (let s : State := go checked15 0x1410 (scan 2 0 0 8); let src : Src := .mbox 0; let c : RunCmd := cm s src;
    let b : Bytes := (cm s).payload; let u : Nat := 15; let op : Nat := 2; let p : Nat := 0; let st : Nat := 1;
    let dt : Nat := 2; let sa : Nat := 0x8008; let da : Nat := 0; let len : Nat := 8; let n : Nat := 4;
    let k : CheckCfg := s.m.checkCfg 15; (Fresh s src 0x1410 c) ∧ (b = c.payload) ∧ (u = u8 b 0) ∧ (op = u8 b 1) ∧
    (p = u8 b 3) ∧ (st = u8 b 4) ∧ (dt = u8 b 5) ∧ (sa = u64 b 8) ∧ (da = u64 b 0x10) ∧ (len = u64 b 0x18) ∧
    (k = s.m.checkCfg u) ∧ (n = (k.width + 7) / 8) ∧ (u ≤ 15) ∧ (u8 b 2 ≤ 1) ∧ (allZero b 6 2 = true) ∧
    (s.m.present p = true) ∧ (1 ≤ st) ∧ (st ≤ 2) ∧ (1 ≤ dt) ∧ (dt ≤ 2) ∧ (1 ≤ len) ∧ (len ≤ 2 ^ 32) ∧ (s.m.mute p = false) ∧
    (bit s.m.test.units u = false) ∧
    (let start := if bit (u8 b 2) 0 = true then s.m.get (Reg.CHECK.SAVED_REG.at 64 u) else k.init;
    (op = 2) ∧ (n < len) ∧ (s.m.engineMay p (st - 1) sa len = true) ∧
    ((da ≠ 0 → s.m.engineMay p (dt - 1) da (len - n) = true)) ∧ (let part := (s.m.mem st).rdN sa (len - n);
    (let r2 := checkScan k start part; (let same := (s.m.mem st).rdN (sa + (len - n)) n = checkField k (checkValue k r2);
    (¬same) ∧ (da = 0)))))) := by
  refine ⟨?_, ?_, ?_, ?_, ?_, ?_, ?_, ?_, ⟨⟨by decide +kernel, by decide +kernel, by decide +kernel, by decide +kernel,
    by decide +kernel, rfl, by decide +kernel⟩, ⟨by decide +kernel, by decide +kernel, by decide +kernel, by decide +kernel,
    by decide +kernel, rfl, ⟨by decide +kernel, by decide +kernel, by decide +kernel⟩⟩, ⟨by decide +kernel,
    by decide +kernel, by decide +kernel, by decide +kernel, by decide +kernel, rfl, ⟨by decide +kernel, by decide +kernel,
    by decide +kernel⟩⟩, ⟨by decide +kernel, by decide +kernel, by decide +kernel, by decide +kernel, by decide +kernel,
    rfl, ⟨by decide +kernel, by decide +kernel, by decide +kernel⟩⟩, ⟨by decide +kernel, by decide +kernel,
    by decide +kernel, by decide +kernel, by decide +kernel, rfl, ⟨by decide +kernel, by decide +kernel, by decide +kernel,
    by decide +kernel, by decide +kernel, by decide +kernel, by decide +kernel⟩⟩, ⟨by decide +kernel, by decide +kernel,
    by decide +kernel, by decide +kernel, by decide +kernel, rfl, ⟨by decide +kernel, by decide +kernel, by decide +kernel,
    by decide +kernel, by decide +kernel⟩⟩, ?_, ?_, ⟨?_, ?_, ?_, ?_, ?_, ?_, ?_, ?_, ⟨?_, ?_, ?_, ?_, ?_, ?_, ?_, ?_, ⟨?_,
    ?_, ?_, ?_, ?_, ?_, ?_, ?_⟩⟩⟩⟩⟩ <;> decide +kernel

end Sys2Proof.Tests
end

section
/-!
The memories of a module stay in canonical form. Every operation of the model either leaves the three byte memories or changes
them by the operations of Mem, which keep their form (Laws/Tables.lean). Below stands that fact once for each operation, in the
order of the model, each from those of the operations that it is made of; a claim about a command's memories then cites the
lemma of that command.
-/

namespace Sys2Proof.Machine
open Sys2Proof

/-- What an optional value is, if there is one, satisfies P. -/
def IfSome {α : Type} (P : α → Prop) (o : Option α) : Prop := ∀ a ∈ o, P a

namespace IfSome
variable {α β : Type} {P : α → Prop} {Q : β → Prop} {o : Option α}

theorem none : IfSome P .none := by intro a h; cases h

theorem some {a : α} (h : P a) : IfSome P (.some a) := by intro b e; cases e; exact h

theorem get {a : α} (h : IfSome P o) (e : o = .some a) : P a := h a e

theorem map {f : α → β} (h : IfSome P o) (hf : ∀ a, P a → Q (f a)) : IfSome Q (o.map f) := by
  cases o with
  | none => exact .none
  | some a => exact .some (hf a (h a rfl))

theorem bind {f : α → Option β} (h : IfSome P o) (hf : ∀ a, P a → IfSome Q (f a)) : IfSome Q (o.bind f) := by
  cases o with
  | none => exact .none
  | some a => exact hf a (h a rfl)

theorem foldl {f : Option α → β → Option α} {l : List β} (h : IfSome P o) (hf : ∀ a x, IfSome P a → IfSome P (f a x)) :
    IfSome P (l.foldl f o) :=
  List.foldlRecOn _ _ h fun a ha x _ => hf a x ha

end IfSome

/-- The three byte memories are in canonical form (assumption 3). -/
def MemsWf (hbm lpddr hostMem : Mem) : Prop := hbm.wf = true ∧ lpddr.wf = true ∧ hostMem.wf = true

/-- Every byte memory of the module is in canonical form. -/
def Module.Canon (m : Module) : Prop := MemsWf m.hbm m.lpddr m.hostMem

theorem Module.memWf_iff {m : Module} : m.memWf = true ↔ m.Canon := by
  simp [Module.memWf, Module.Canon, MemsWf, and_assoc]

namespace Module.Canon
variable {m : Module}

/-- A module's canonical form speaks of its memories alone. -/
theorem frame {clk free regs hbm lpddr hostMem out parts host ev ptp bell lig strand sched attn reed firewall caps slide ftl
    steps mouth mirror ckpt bore secur power test} (h : MemsWf hbm lpddr hostMem) :
    (Module.mk clk free regs hbm lpddr hostMem out parts host ev ptp bell lig strand sched attn reed firewall caps slide ftl
      steps mouth mirror ckpt bore secur power test).Canon := h

theorem hbm (h : m.Canon) : m.hbm.wf = true := h.1

theorem lpddr (h : m.Canon) : m.lpddr.wf = true := h.2.1

theorem hostMem (h : m.Canon) : m.hostMem.wf = true := h.2.2

theorem withHbm {x : Mem} (h : m.Canon) (hx : x.wf = true) : ({ m with hbm := x } : Module).Canon := ⟨hx, h.lpddr, h.hostMem⟩

theorem withLpddr {x : Mem} (h : m.Canon) (hx : x.wf = true) : ({ m with lpddr := x } : Module).Canon := ⟨h.hbm, hx, h.hostMem⟩

theorem withHostMem {x : Mem} (h : m.Canon) (hx : x.wf = true) : ({ m with hostMem := x } : Module).Canon :=
  ⟨h.hbm, h.lpddr, hx⟩

theorem ite {c : Prop} [Decidable c] {a b : Module} (ha : a.Canon) (hb : b.Canon) : (if c then a else b).Canon := by
  split <;> assumption

theorem foldl {α : Type} {f : Module → α → Module} {l : List α} (h : m.Canon) (hf : ∀ a x, a.Canon → (f a x).Canon) :
    (l.foldl f m).Canon :=
  List.foldlRecOn _ _ h fun a ha x _ => hf a x ha

theorem foldl_fst {α β : Type} {f : Module × α → β → Module × α} {l : List β} {p : Module × α} (h : p.1.Canon)
    (hf : ∀ p x, p.1.Canon → (f p x).1.Canon) : (l.foldl f p).1.Canon :=
  List.foldlRecOn (motive := fun p => p.1.Canon) _ _ h fun p hp x _ => hf p x hp

theorem foldl_snd {α β : Type} {f : α × Module → β → α × Module} {l : List β} {p : α × Module} (h : p.2.Canon)
    (hf : ∀ p x, p.2.Canon → (f p x).2.Canon) : (l.foldl f p).2.Canon :=
  List.foldlRecOn (motive := fun p => p.2.Canon) _ _ h fun p hp x _ => hf p x hp

theorem mk_fst {α : Type} {a : α} (h : m.Canon) : (m, a).1.Canon := h

theorem mk_snd {α : Type} {a : α} (h : m.Canon) : (a, m).2.Canon := h

theorem of_snd {α : Type} {p : α × Module} {a : α} {b : Module} (e : p = (a, b)) (h : p.2.Canon) : b.Canon := by
  subst e; exact h

theorem of_fst {α : Type} {p : Module × α} {a : α} {b : Module} (e : p = (b, a)) (h : p.1.Canon) : b.Canon := by
  subst e; exact h

theorem getD {o : Option Module} (ho : IfSome Canon o) (h : m.Canon) : (o.getD m).Canon := by
  cases o with
  | none => exact h
  | some a => exact ho a rfl

end Module.Canon
end Sys2Proof.Machine
end

section
namespace Sys2Proof.Machine.Module.Canon
open Sys2Proof

/-! #### Machine/State -/

theorem reset : Module.reset.Canon := ⟨rfl, rfl, rfl⟩

/-! #### Machine/Ops -/

theorem clkAfter {m : Module} {old} (h : m.Canon) : (m.clkAfter old).Canon := .frame h

theorem when {m : Module} {c f} (h : m.Canon) (hf : ∀ a, a.Canon → (f a).Canon) : (Machine.when c f m).Canon :=
  .ite (hf _ h) h

theorem setReg {m : Module} {off v} (h : m.Canon) : (m.setReg off v).Canon := .frame h

theorem set {m : Module} {f v} (h : m.Canon) : (m.set f v).Canon := h.setReg

theorem setBit {m : Module} {f i} (h : m.Canon) : (m.setBit f i).Canon := h.set

theorem clearBit {m : Module} {f i} (h : m.Canon) : (m.clearBit f i).Canon := h.set

theorem bumpBy {m : Module} {f n} (h : m.Canon) : (m.bumpBy f n).Canon := .ite h.setReg h.setReg

theorem bump {m : Module} {f} (h : m.Canon) : (m.bump f).Canon := h.bumpBy

theorem choose {m : Module} {n} (h : m.Canon) : (m.choose n).2.Canon := .frame h

theorem setVec {m : Module} {v x} (h : m.Canon) : (m.setVec v x).Canon := .frame h

theorem emit {m : Module} {e} (h : m.Canon) : (m.emit e).Canon := .frame h

theorem msix {m : Module} {v} (h : m.Canon) : (m.msix v).Canon := .ite h.setVec h.emit

theorem blockEvent {m : Module} {b} (h : m.Canon) : (m.blockEvent b).Canon := by
  unfold Module.blockEvent
  extract_lets
  split
  · exact .ite h.setVec h.setVec.msix
  · exact h.setVec.msix

theorem offer {m : Module} {type part sev body} (h : m.Canon) : (m.offer type part sev body).Canon := by
  unfold Module.offer
  extract_lets _ _ m1
  have h1 : m1.Canon := h.bump
  split
  · exact .frame h
  · exact .bump (.frame h)
  · exact .ite h1 (.frame h1.set)

theorem event {m : Module} {type part sev arg0 arg1} (h : m.Canon) : (m.event type part sev arg0 arg1).Canon := by
  unfold Module.event
  extract_lets m1
  have h1 : m1.Canon := .ite h.offer h.offer
  exact h1.blockEvent

theorem serialStale {m : Module} {block value} (h : m.Canon) : (m.serialStale block value).Canon := h.event

theorem wrMem {m : Module} {tier addr b} (h : m.Canon) : (m.wrMem tier addr b).Canon :=
  .ite (.withHostMem h (Mem.wrN_wf _ _ h.hostMem)) (.ite (.withHbm h (Mem.wrN_wf _ _ h.hbm)) (.withLpddr h
    (Mem.wrN_wf _ _ h.lpddr)))

/-! #### Machine/OpsSched -/

theorem setReed {m : Module} {i x} (h : m.Canon) : (m.setReed i x).Canon := .set (.frame h)

theorem reedRequest {m : Module} {i requester tag units} (h : m.Canon) : (m.reedRequest i requester tag units).Canon :=
  .ite h h.setReed

theorem reedDrop {m : Module} {i requester tag} (h : m.Canon) : (m.reedDrop i requester tag).Canon := by
  unfold Module.reedDrop
  extract_lets
  split
  · exact .ite h.setReed h.setReed
  · exact h.setReed

theorem reedDecide {m : Module} {linkRate i} (h : m.Canon) : (m.reedDecide linkRate i).Canon := by
  unfold Module.reedDecide
  extract_lets
  split
  · exact h.setReed.bump.foldl (fun _ _ ha => ha.setBit.bump.event)
  · exact h

theorem reedBurst {m : Module} {i} (h : m.Canon) : (m.reedBurst i).Canon := by
  unfold Module.reedBurst
  extract_lets
  split
  · exact h
  · exact .ite (.ite h.setReed h) (.ite h h.setReed.setBit.bump.event)

/-! #### Machine/OpsLig -/

theorem ligPut {m : Module} {i o} (h : m.Canon) : (m.ligPut i o).Canon := .frame h

theorem ligAlloc {m : Module} {part owner kind param} (h : m.Canon) : (m.ligAlloc part owner kind param).1.Canon := by
  unfold Module.ligAlloc
  extract_lets m'
  have h' : m'.Canon := h.bump
  split
  · exact h'.bump
  · split
    · split
      · exact h'.bump.set
      · exact h'.ligPut
    · exact h'.bump.set

theorem ligFreeIndex {m : Module} {i} (h : m.Canon) : (m.ligFreeIndex i).Canon := .frame h

theorem updThread {m : Module} {t f} (h : m.Canon) : (m.updThread t f).Canon := .frame h

theorem dropLines {m : Module} {t} (h : m.Canon) : (m.dropLines t).Canon := .frame h

theorem updJob {m : Module} {j f} (h : m.Canon) : (m.updJob j f).Canon := .frame h

theorem updCore {m : Module} {c f} (h : m.Canon) : (m.updCore c f).Canon := .frame h

theorem wake {m : Module} {w st msg} (h : m.Canon) : (m.wake w st msg).Canon := by
  unfold Module.wake
  split
  · exact .updThread (.ite h.dropLines h)
  · exact h.updCore

theorem ligSignal {m : Module} {i o b} (h : m.Canon) : (m.ligSignal i o b).1.Canon := by
  unfold Module.ligSignal
  extract_lets m'
  have h' : m'.Canon := h.bump
  split
  · split
    · exact h'
    · split
      exact h'.ligPut.foldl (fun _ _ ha => ha.wake)
  · split
    · split
      · exact h'
      · split
        · exact h'.ligPut.foldl (fun _ _ ha => ha.wake)
        · exact h'.ligPut
    · split
      · split
        · exact h'.ligPut
        · split
          · split
            · exact h'.ligPut
            · exact h'.ligPut.wake
          · exact h'.ligPut.foldl (fun _ _ ha => ha.wake)
      · exact h'

theorem ligSend {m : Module} {i o msg} (h : m.Canon) : (m.ligSend i o msg).1.Canon := by
  unfold Module.ligSend
  extract_lets m'
  have h' : m'.Canon := h.bump
  split
  · exact h'
  · split
    · exact h'.ligPut.wake
    · split
      · exact h'
      · exact h'.ligPut

theorem engineSignal {m : Module} {h block} (hm : m.Canon) : (m.engineSignal h block).Canon := by
  unfold Module.engineSignal
  split
  · exact hm
  · split
    · exact hm.ligSignal
    · exact hm.bump.set.event

theorem ligWithdraw {m : Module} {who} (h : m.Canon) : (m.ligWithdraw who).Canon := .frame h

theorem ligRevoke {m : Module} {i} (h : m.Canon) : (m.ligRevoke i).Canon := by
  unfold Module.ligRevoke
  split
  · exact h
  · extract_lets _ m1
    have h1 : m1.Canon := h.bump.set
    split
    · split
      exact h1.ligPut.foldl (fun _ _ ha => ha.wake)
    · exact .ite (h1.ligPut.foldl (fun _ _ ha => ha.wake)) h1.ligPut

theorem returnCredits {m : Module} {j} (h : m.Canon) : (m.returnCredits j).Canon := by
  unfold Module.returnCredits
  split
  · exact h
  · extract_lets _ _ _ m1
    have h1 : m1.Canon := .frame h
    exact .frame h1.bumpBy.updJob

theorem endJob {m : Module} {j} (h : m.Canon) : (m.endJob j).Canon := by
  unfold Module.endJob
  split
  · exact h
  · extract_lets _ m2
    have h2 : m2.Canon := by
      unfold m2
      refine h.engineSignal.foldl (fun a i ha => ?_)
      split
      · exact .ligFreeIndex (ha.foldl (fun _ _ hb => hb.wake))
      · exact ha
    exact .frame (h2)

theorem dropThread {m : Module} {t} (h : m.Canon) : (m.dropThread t).Canon := by
  unfold Module.dropThread
  split
  · exact h
  · extract_lets _ _ m2
    have h2 : m2.Canon := .frame h.ligWithdraw
    exact .ite h2.endJob h2

theorem faultOne {m : Module} {t cause addr} (h : m.Canon) : (m.faultOne t cause addr).Canon := by
  unfold Module.faultOne
  split
  · exact h
  · extract_lets _ m1
    have h1 : m1.Canon := .ite h h.set.set.set.set.set
    exact h1.set.bump.event.updJob.engineSignal.dropThread

theorem stopJob {m : Module} {j} (h : m.Canon) : (m.stopJob j).Canon := by
  unfold Module.stopJob
  refine h.foldl (fun a x ha => ?_)
  split
  exact ha.faultOne

theorem strandFault {m : Module} {t cause addr} (h : m.Canon) : (m.strandFault t cause addr).Canon := by
  unfold Module.strandFault
  split
  · exact h
  · extract_lets _ m1
    have h1 : m1.Canon := h.faultOne
    exact .ite h1.stopJob h1

theorem haltThread {m : Module} {t} (h : m.Canon) : (m.haltThread t).Canon := h.dropThread

theorem endLaunch {m : Module} {id} (h : m.Canon) : (m.endLaunch id).Canon := by
  unfold Module.endLaunch
  split
  · exact h
  · exact .ite (.engineSignal (.frame h)) (.frame h)

theorem startNext {m : Module} {c} (h : m.Canon) : (m.startNext c).Canon := by
  unfold Module.startNext
  extract_lets
  split
  · split
    · exact h
    · split
      · exact h.updCore
      · exact h
  · exact h

theorem endProgram {m : Module} {c fault} (h : m.Canon) : (m.endProgram c fault).Canon := by
  unfold Module.endProgram
  extract_lets _ m1
  have h1 : m1.Canon := h.ligWithdraw.updCore
  split
  · exact h
  · extract_lets m2
    have h2 : m2.Canon := .ite h1 h1.event
    exact h2.endLaunch.startNext

theorem suspendJob {m : Module} {j} (h : m.Canon) : (m.suspendJob j).Canon := by
  unfold Module.suspendJob
  split
  · exact h
  · extract_lets _ m1
    have h1 : m1.Canon := h.foldl (fun _ _ ha => ha.ligWithdraw.updThread)
    exact .bump (h1.updJob.returnCredits.foldl (fun _ _ ha => ha.ligRevoke))

theorem preemptJob {m : Module} {j} (h : m.Canon) : (m.preemptJob j).Canon := by
  unfold Module.preemptJob
  split
  · exact h
  · split
    · exact h
    · extract_lets m1
      have h1 : m1.Canon := by
        unfold m1
        split
        · exact h.engineSignal
        · exact h
      exact .ite h1.suspendJob h1.updJob

theorem resumeJob {m : Module} {j} (h : m.Canon) : (m.resumeJob j).Canon := .frame h.updJob

theorem followHolds {m : Module} (h : m.Canon) : m.followHolds.Canon := by
  unfold Module.followHolds
  extract_lets m1
  have h1 : m1.Canon := by
    unfold m1
    refine h.foldl (fun a x ha => ?_)
    split
    exact .ite ha.preemptJob (.ite ha.resumeJob ha)
  refine h1.foldl (fun a x ha => ?_)
  split
  split
  · exact .ite ha.updCore.bump (.ite ha.updCore ha)
  · exact ha

/-! #### Machine/OpsCmd -/

theorem measure {m : Module} {kind id version part b} (h : m.Canon) : (m.measure kind id version part b).Canon := .frame h

theorem unmeasure {m : Module} {kind id keep} (h : m.Canon) : (m.unmeasure kind id keep).Canon := .frame h

theorem strandWrite {m : Module} {t a b} (h : m.Canon) : (m.strandWrite t a b).Canon := by
  unfold Module.strandWrite
  split
  · exact h.updThread
  · exact .withHbm h (Mem.wrN_wf _ _ h.hbm)
  · exact .withLpddr h (Mem.wrN_wf _ _ h.lpddr)
  · exact .withHostMem h (Mem.wrN_wf _ _ h.hostMem)
  · exact h

theorem takeLine {m : Module} {t a} (h : m.Canon) : (m.takeLine t a).2.Canon := by
  unfold Module.takeLine
  extract_lets
  split
  · split
    rename_i x stays m1 e
    have h1 : m1.Canon := .of_snd e h.choose
    split
    · exact h1
    · exact .frame h1
  · split
    · exact .frame h
    · split
      rename_i x stays m1 e
      have h1 : m1.Canon := .of_snd e h.choose
      exact .frame h1

theorem strandLoad {m : Module} {t a n} (h : m.Canon) : (m.strandLoad t a n).2.Canon := by
  unfold Module.strandLoad
  split
  · split
    rename_i x b m1 e
    have h1 : m1.Canon := .of_snd e h.takeLine
    exact h1
  · exact h

theorem strandStore {m : Module} {t a b} (h : m.Canon) : (m.strandStore t a b).Canon := .frame h.strandWrite

theorem updCmd {m : Module} {id f} (h : m.Canon) : (m.updCmd id f).Canon := .frame h

theorem dropCmd {m : Module} {id} (h : m.Canon) : (m.dropCmd id).Canon := .frame h

theorem setBox {m : Module} {b x} (h : m.Canon) : (m.setBox b x).Canon := by
  unfold Module.setBox
  extract_lets _ m1 m2
  have h1 : m1.Canon := .frame h
  have h2 : m2.Canon := h1.set.set.set
  exact .ite h2.setBit h2.clearBit

theorem dropWrite {m : Module} {off} (h : m.Canon) : (m.dropWrite off).Canon := by
  unfold Module.dropWrite
  extract_lets m1
  have h1 : m1.Canon := h.bump
  exact .ite h1 h1.set.set

theorem respond {m : Module} {b c st body detail} (h : m.Canon) : (m.respond b c st body detail).Canon := by
  unfold Module.respond
  extract_lets _ _ _ m2 m3 m4
  have h2 : m2.Canon := h.setBox.setBit.bump
  have h3 : m3.Canon := .ite h2.bump h2
  have h4 : m4.Canon := .ite h3.bump h3
  exact .ite h4 h4.msix

theorem finishIssued {m : Module} {n st body} (h : m.Canon) : (m.finishIssued n st body).Canon := by
  unfold Module.finishIssued
  split
  · exact h
  · extract_lets _ m1
    have h1 : m1.Canon := .frame h
    exact h1.strandWrite.engineSignal

theorem complete {m : Module} {c st body detail} (h : m.Canon) : (m.complete c st body detail).Canon := by
  unfold Module.complete
  extract_lets m1
  have h1 : m1.Canon := h.dropCmd
  split
  · exact h1
  · split
    · exact h1.respond
    · exact h1.finishIssued

theorem ok {m : Module} {c body} (h : m.Canon) : (m.ok c body).Canon := h.complete

theorem fail {m : Module} {c st} (h : m.Canon) : (m.fail c st).Canon := h.complete

theorem badField {m : Module} {c off} (h : m.Canon) : (m.badField c off).Canon := h.complete

theorem await {m : Module} {c data} (h : m.Canon) : (m.await c data).Canon := h.updCmd

theorem countDenial {m : Module} {v} (h : m.Canon) : (m.countDenial v).Canon := .ite h.bump (.ite h.bump h)

theorem verdict {m : Module} {c v} (h : m.Canon) : (m.verdict c v).Canon := .ite h.badField h.countDenial.fail

theorem checked {m : Module} {c reserved checks act} (h : m.Canon) (hact : ∀ a, a.Canon → (act a).Canon) :
    (m.checked c reserved checks act).Canon := by
  unfold Module.checked
  split
  · exact h.verdict
  · split
    · exact h.verdict
    · exact hact _ h

theorem laneTurn {m : Module} {c} (h : m.Canon) : IfSome Canon (m.laneTurn c) := by
  unfold Module.laneTurn
  split
  · split
    · exact .none
    · split
      · exact .some h
      · extract_lets
        split
        · split
          · exact .some (.frame h)
          · exact .none
        · exact .none
  · exact .some h

theorem onCmd {m : Module} {opcode src f} (h : m.Canon) (hf : ∀ c a, a.Canon → (f c a).Canon) :
    (Machine.onCmd opcode src f m).Canon := by
  unfold Machine.onCmd
  split
  · exact .ite (.getD (h.laneTurn.map (hf _)) h) h
  · exact h

theorem withHost {m : Module} {c act} (h : m.Canon) (hact : ∀ a, a.Canon → (act a).Canon) : (m.withHost c act).Canon :=
  .ite h.fail (.ite h (hact _ h))

theorem cmdWrite {m : Module} {c addr b} (h : m.Canon) : (m.cmdWrite c addr b).Canon := by
  unfold Module.cmdWrite
  split
  · exact .withHostMem h (Mem.wrN_wf _ _ h.hostMem)
  · exact h.strandWrite

/-! #### Machine/OpsFtl -/

theorem setChan {m : Module} {c x} (h : m.Canon) : (m.setChan c x).Canon := .frame h

theorem bookSweep {m : Module} {c} (h : m.Canon) : (m.bookSweep c).Canon := .ite h h.setChan

theorem flushChan {m : Module} {clean c} (h : m.Canon) : (m.flushChan clean c).Canon := by
  unfold Module.flushChan
  extract_lets _ _ _ _ _ _ _ _ _ _ _ _ _ m2
  have h2 : m2.Canon := .frame h.setChan
  exact h2.bump.bumpBy.bookSweep

theorem flush {m : Module} (h : m.Canon) : m.flush.Canon := .frame (h.foldl (fun _ _ ha => ha.flushChan))

theorem placeOn {m : Module} {c k n} (h : m.Canon) : IfSome (fun r => r.2.Canon) (m.placeOn c k n) := by
  unfold Module.placeOn
  split
  · exact .some h.setChan
  · split
    · exact .none
    · extract_lets m1
      have h1 : m1.Canon := h.flushChan
      exact IfSome.map (P := fun _ => True) (fun _ _ => trivial) fun _ _ => h1.setChan

theorem takeSeq {m : Module} (h : m.Canon) : m.takeSeq.2.Canon := .set (.frame h)

theorem change {m : Module} {c r} (h : m.Canon) : (m.change c r).Canon := h.setChan

theorem changeNow {m : Module} {c ext op logical} (h : m.Canon) : (m.changeNow c ext op logical).Canon := h.takeSeq.change

theorem makeExtents {m : Module} {l} (h : m.Canon) : (m.makeExtents l).Canon := by
  unfold Module.makeExtents
  refine h.foldl (fun a x ha => ?_)
  split
  exact .frame ha.changeNow

theorem dropExtents {m : Module} {es} (h : m.Canon) : (m.dropExtents es).Canon := by
  unfold Module.dropExtents
  refine h.foldl (fun a e ha => ?_)
  split
  · exact ha
  · exact .frame ha.changeNow

theorem setLoc {m : Module} {ext logical p} (h : m.Canon) : (m.setLoc ext logical p).Canon := .ite (.frame h) (.frame h)

theorem ftlAcceptOn {m : Module} {c ext logical content} (h : m.Canon) :
    IfSome Canon (m.ftlAcceptOn c ext logical content) := by
  unfold Module.ftlAcceptOn
  extract_lets
  split
  · exact .none
  · refine h.placeOn.map fun r hr => ?_
    exact .bumpBy (.frame hr.takeSeq.setChan.setLoc)

theorem ftlWrite {m : Module} {ext logical content} (h : m.Canon) : (m.ftlWrite ext logical content).1.Canon := by
  unfold Module.ftlWrite
  split
  · exact h.bump
  · extract_lets chan
    clear_value chan
    split
    · exact h
    · split
      · exact h.ftlAcceptOn.get ‹_›
      · exact h.setChan

theorem ftlUnmap {m : Module} {ext logical} (h : m.Canon) : (m.ftlUnmap ext logical).Canon := by
  unfold Module.ftlUnmap
  extract_lets _ _ m1
  have h1 : m1.Canon := .frame h
  split
  · exact h1
  · exact .changeNow (.ite (.frame h1) (.frame h1))

theorem checkSpare {m : Module} {c} (h : m.Canon) : (m.checkSpare c).Canon := by
  unfold Module.checkSpare
  extract_lets _ m1
  have h1 : m1.Canon := .ite h.set.event h
  exact .ite (.event (.set (.set (.set (.frame h1))))) h1

theorem retireBlock {m : Module} {c b} (h : m.Canon) : (m.retireBlock c b).Canon := by
  unfold Module.retireBlock
  split
  · exact h
  · exact .checkSpare (.frame h.setChan.bump.changeNow)

theorem emptied {m : Module} {c} (h : m.Canon) : (m.emptied c).Canon := by
  unfold Module.emptied
  refine h.foldl (fun a b ha => ?_)
  exact .ite ha.setChan.retireBlock ha.setChan

theorem readOver {m : Module} {p} (h : m.Canon) : (m.readOver p).Canon := by
  unfold Module.readOver
  split
  · exact .ite h h.emptied
  · exact h

theorem hostStore {m : Module} {h f} (hm : m.Canon) : (m.hostStore h f).Canon := by
  unfold Module.hostStore
  split
  · exact hm
  · refine .withHostMem hm (List.foldlRecOn (motive := fun x => Mem.wf x = true) _ _ hm.hostMem fun x hx t _ => ?_)
    split
    · exact hx
    · exact Mem.wrN_wf _ _ hx

theorem putFrame {m : Module} {h f} (hm : m.Canon) : (m.putFrame h f).Canon := by
  unfold Module.putFrame
  split
  · exact hm.ftlWrite
  · exact .frame (ite hm.hostStore hm)

theorem updFrame {m : Module} {h g} (hm : m.Canon) : (m.updFrame h g).Canon := by
  unfold Module.updFrame
  split
  · exact hm.putFrame
  · exact hm

theorem allocFrame {m : Module} {tier} (h : m.Canon) : (m.allocFrame tier).2.Canon := by
  unfold Module.allocFrame
  split
  · exact h
  · extract_lets
    split
    rename_i x stays m1 e
    have h1 : m1.Canon := .of_snd e h.choose
    split <;> exact h1

theorem freeFrame {m : Module} {h} (hm : m.Canon) : (m.freeFrame h).Canon := by
  unfold Module.freeFrame
  extract_lets _ _ _ m1
  have h1 : m1.Canon := .frame hm
  exact .ite (.ite (.frame h1) h1.ftlUnmap) (.frame h1)

theorem spoil {m : Module} {h blocks} (hm : m.Canon) : (m.spoil h blocks).Canon := by
  unfold Module.spoil
  extract_lets
  split
  · split
    · exact hm
    · exact hm.setChan
  · exact .frame hm

theorem flashRead {m : Module} {c loc n corrected failed} (h : m.Canon) : (m.flashRead c loc n corrected failed).Canon := by
  unfold Module.flashRead
  extract_lets
  split
  rename_i x more m e
  have h : m.Canon := .of_snd e (by split <;> [exact h; exact h.choose])
  extract_lets _ _ _ _ _ m2 _ _ m3
  have h2 : m2.Canon := .frame h.bumpBy
  have h3 : m3.Canon := .ite h2.setChan h2
  exact .ite h3.bump.set h3

theorem touch {m : Module} {h} (hm : m.Canon) : (m.touch h).Canon := .frame hm

/-! #### Machine/OpsCap -/

theorem transmit {m : Module} {r} (h : m.Canon) : (m.transmit r).Canon := .ite h.emit.bump.bumpBy h

theorem send {m : Module} {kind part flags step capsule arg0 arg1 body} (h : m.Canon) :
    (m.send kind part flags step capsule arg0 arg1 body).Canon := by
  unfold Module.send
  split
  · exact h.transmit
  · extract_lets _ _ _ m1
    have h1 : m1.Canon := .frame h
    exact h1.transmit

theorem mirrorSlot {m : Module} {kind part step id arg0 arg1 body} (h : m.Canon) :
    (m.mirrorSlot kind part step id arg0 arg1 body).Canon := by
  unfold Module.mirrorSlot
  extract_lets _ _ m1
  have h1 : m1.Canon := .ite h (.frame h)
  exact .ite (.frame h1.send) h1

theorem mirrorPlain {m : Module} {kind part step arg0 arg1 body} (h : m.Canon) :
    (m.mirrorPlain kind part step arg0 arg1 body).Canon := .ite h.send h

theorem updSlot {m : Module} {s f} (h : m.Canon) : (m.updSlot s f).Canon := .frame h

theorem updCap {m : Module} {id f} (h : m.Canon) : (m.updCap id f).Canon := h.updSlot

theorem markCopied {m : Module} {slot} (h : m.Canon) : (m.markCopied slot).Canon :=
  .ite h (.withLpddr h (Mem.wr_wf _ _ h.lpddr))

theorem ckptHeader {m : Module} {slot} (h : m.Canon) : (m.ckptHeader slot).Canon := by
  unfold Module.ckptHeader
  split
  · exact .ite (.markCopied (.bump (.frame h))) h
  · exact h

theorem sendHeader {m : Module} {step id} (h : m.Canon) : (m.sendHeader step id).Canon := h.ckptHeader.mirrorSlot

theorem writeCap {m : Module} {id f} (h : m.Canon) : (m.writeCap id f).Canon := h.updCap.sendHeader

theorem takeLists {m : Module} {n} (h : m.Canon) : (m.takeLists n).2.Canon := by
  unfold Module.takeLists
  split
  · exact h
  · extract_lets
    refine foldl_snd h fun acc _ hacc => ?_
    split
    rename_i x start m1 e
    have h1 : m1.Canon := .of_snd e hacc.choose
    split
    · exact .frame h1
    · exact h1

theorem freeLists {m : Module} {ls} (h : m.Canon) : (m.freeLists ls).Canon := .frame h

theorem dropShare {m : Module} {h} (hm : m.Canon) : (m.dropShare h).Canon := by
  unfold Module.dropShare
  split
  · exact hm
  · exact .ite (.freeFrame (.frame hm)) (.frame hm)

theorem addShare {m : Module} {h} (hm : m.Canon) : (m.addShare h).Canon := .frame hm

theorem damage {m : Module} {id frame block} (h : m.Canon) : (m.damage id frame block).Canon := by
  unfold Module.damage
  extract_lets _ _ _ m2 _ _ m4
  have h2 : m2.Canon := .frame h.updCap
  have h4 : m4.Canon := h2.bump.set.set.set.event
  exact .ite h4.sendHeader h4

theorem loadHeader {m : Module} {id} (h : m.Canon) : (m.loadHeader id).Canon := .ite h.damage h

theorem loadMap {m : Module} {id} (h : m.Canon) : (m.loadMap id).Canon := .ite h.damage h

theorem reserveFrom {m : Module} {tier f} (h : m.Canon) : (m.reserveFrom tier f).2.Canon := by
  unfold Module.reserveFrom
  split
  · exact h
  · split
    · rename_i x t m1 e
      have h1 : m1.Canon := .of_snd e h.allocFrame
      exact h1.putFrame
    · rename_i x m1 e
      exact .of_snd e h.allocFrame

theorem copyShared {m : Module} {id tiers} (h : m.Canon) : IfSome Canon (m.copyShared id tiers) := by
  unfold Module.copyShared
  extract_lets _ _ _ olds step
  have hstep : ∀ acc p, IfSome (fun r => r.1.Canon) acc → IfSome (fun r => r.1.Canon) (step acc p) := by
    intro acc p hacc
    refine hacc.bind fun (a, got) ha => ?_
    dsimp only
    split
    · exact .some ha
    · split
      · rename_i x t a1 e
        exact .some (of_snd e ha.reserveFrom)
      · exact .none
  refine (IfSome.foldl (P := fun r => r.1.Canon) (.some h) hstep).map fun (a, news) ha => ?_
  refine updCap (ha.foldl fun b x hb => ?_)
  dsimp only
  split
  · exact hb.dropShare.bump
  · exact .updFrame (.frame hb)

theorem addPage {m : Module} {id tier} (h : m.Canon) : IfSome Canon (m.addPage id tier) := by
  unfold Module.addPage
  extract_lets c need
  split
  · exact .none
  · split
    · exact .none
    · rename_i x ls m1 e
      have h1 : m1.Canon := .of_snd e h.takeLists
      refine (IfSome.foldl (P := fun r => r.1.Canon) (.some h1) fun acc l hacc => hacc.bind fun (a, hs) ha => ?_).map
        fun (a, hs) ha => updCap ha
      dsimp only
      split
      · exact .some (of_snd ‹_› (reserveFrom ha))
      · exact .none

theorem writeSlot {m : Module} {id layer pos s} (h : m.Canon) : (m.writeSlot id layer pos s).Canon := h.updFrame

theorem sendSlots {m : Module} {part step id layer page first slotBytes slots} (h : m.Canon) :
    (m.sendSlots part step id layer page first slotBytes slots).Canon := h.mirrorSlot

theorem truncateTo {m : Module} {id n} (h : m.Canon) : (m.truncateTo id n).Canon := by
  unfold Module.truncateTo
  extract_lets _ _ _ m1 _ m2
  have h1 : m1.Canon := by
    unfold m1
    refine h.foldl (fun a x ha => ?_)
    split
    exact .ite ha.dropShare ha.freeFrame
  have h2 : m2.Canon := h1.foldl (fun _ _ ha => ha.updFrame)
  exact h2.freeLists.updCap

theorem releaseFrames {m : Module} {id} (h : m.Canon) : (m.releaseFrames id).Canon := by
  unfold Module.releaseFrames
  extract_lets _ m1
  have h1 : m1.Canon := by
    unfold m1
    refine h.foldl (fun a x ha => ?_)
    split
    exact .ite ha.dropShare ha.freeFrame
  exact h1.freeLists.updCap

theorem freeSlot {m : Module} {slot} (h : m.Canon) : (m.freeSlot slot).Canon := .ite h.updSlot h.updSlot

/-! #### Machine/OpsMove -/

theorem startXfer {m : Module} {x} (h : m.Canon) : (m.startXfer x).Canon := by
  unfold Module.startXfer
  extract_lets _ _ _ m1
  have h1 : m1.Canon := .frame h
  split
  exact h1.reedRequest

theorem checkLeaving {m : Module} {h} (hm : m.Canon) : (m.checkLeaving h).Canon := .ite (.freeFrame (.frame hm)) hm

theorem endXfer {m : Module} {id} (h : m.Canon) : (m.endXfer id).Canon := by
  unfold Module.endXfer
  split
  · exact h
  · extract_lets _ m1 _ _ m2 m3
    have h1 : m1.Canon := .frame h
    have h2 : m2.Canon := h1.reedDrop
    have h3 : m3.Canon := .ite h2.reedRequest h2
    exact h3.checkLeaving.readOver

theorem checkPark {m : Module} {id} (h : m.Canon) : (m.checkPark id).Canon := by
  unfold Module.checkPark
  split
  · exact h
  · extract_lets _ _ answer _ m1
    have hanswer : ∀ st a, a.Canon → (answer st a).Canon := by
      intro st a ha
      unfold answer
      split
      · exact ha.fail
      · exact ha
    have h1 : m1.Canon := .frame h
    split
    · exact h
    · split
      · exact hanswer _ _ h1.writeCap
      · exact .ite h (hanswer _ _ h1.writeCap)

theorem checkParks {m : Module} (h : m.Canon) : m.checkParks.Canon := h.foldl (fun _ _ ha => ha.checkPark)

theorem checkPlace {m : Module} {cmd} (h : m.Canon) : (m.checkPlace cmd).Canon := by
  unfold Module.checkPlace
  extract_lets
  split
  · exact .ite h h.fail
  · exact h

theorem checkRelease {m : Module} {extent} (h : m.Canon) : (m.checkRelease extent).Canon := by
  unfold Module.checkRelease
  split
  · exact h
  · extract_lets _ _ _ _ m1
    have h1 : m1.Canon := .frame h
    split
    · exact h
    · split
      · exact .ite h1.fail h1.ok
      · exact h1

theorem moveEnded {m : Module} {why} (h : m.Canon) : (m.moveEnded why).Canon := by
  unfold Module.moveEnded
  split
  · exact h.checkPlace
  · exact h.checkPark
  · exact h.checkRelease
  · exact h

theorem moveFailed {m : Module} {why st} (h : m.Canon) : (m.moveFailed why st).Canon := by
  unfold Module.moveFailed
  split
  · exact h.updCmd
  · exact .ite h (.frame h)
  · exact h

theorem moveCounted {m : Module} {why target} (h : m.Canon) : (m.moveCounted why target).Canon := by
  unfold Module.moveCounted
  split
  · exact .ite h.bump (.ite h.bump h)
  · exact h.bump
  · exact .frame h
  · exact h

theorem renameShared {m : Module} {old new} (h : m.Canon) : (m.renameShared old new).Canon := .frame h

theorem rehome {m : Module} {old new} (h : m.Canon) : (m.rehome old new).Canon :=
  .frame (checkLeaving (.frame (ite h.renameShared h.updCap)))

theorem dropWait {m : Module} {i} (h : m.Canon) : (m.dropWait i).Canon := .frame h

theorem abortMove {m : Module} {id st} (h : m.Canon) : (m.abortMove id st).Canon := by
  unfold Module.abortMove
  split
  · exact h
  · extract_lets _ _ _ m2 m3
    have h2 : m2.Canon := .frame (h.foldl (fun _ _ ha => ha.endXfer))
    have h3 : m3.Canon := .ite h2.dropWait h2
    exact .ite (.frame h3) h3.moveFailed.moveEnded

theorem finishMove {m : Module} {id} (h : m.Canon) : (m.finishMove id).Canon := by
  unfold Module.finishMove
  split
  · exact h
  · split
    · exact h
    · split
      · exact h.abortMove
      · extract_lets done
        have hdone : ∀ a, a.Canon → (done a).Canon := by
          intro a ha
          exact .moveEnded (.moveCounted (.rehome (.frame ha)))
        split
        · split
          · exact hdone _ h
          · split
            · exact h
            · split
              all_goals
                rename_i x m1 e
                have h1 : m1.Canon := .of_fst e h.ftlWrite
              · exact hdone _ h1
              · exact h1
              · exact h1.abortMove
              · exact h1.abortMove
        · exact hdone _ h.putFrame

theorem startMove {m : Module} {why source tier} (h : m.Canon) : (m.startMove why source tier).Canon := by
  unfold Module.startMove
  split
  · exact .frame h
  · split
    · exact h
    · split
      · exact h.moveFailed
      · exact h
      · split
        · rename_i x m1 e
          have h1 : m1.Canon := .of_snd e h.allocFrame
          exact h1.moveFailed
        · rename_i x t m1 e
          have h1 : m1.Canon := .of_snd e h.allocFrame
          extract_lets _ _ _ m2 _ m3
          have h2 : m2.Canon := .frame h1
          have h3 : m3.Canon := h2.foldl (fun _ _ ha => ha.startXfer)
          exact .ite h3.finishMove h3

theorem finishMoves {m : Module} (h : m.Canon) : m.finishMoves.Canon := by
  unfold Module.finishMoves
  extract_lets _ _ _ _ m2 m3
  have h2 : m2.Canon := .frame (h.foldl (fun _ _ ha => ha.finishMove))
  have h3 : m3.Canon := h2.foldl (fun _ _ ha => ha.startMove.moveEnded)
  exact h3.foldl (fun _ _ ha => ha.checkRelease)

theorem tickMove {m : Module} {source tile} (h : m.Canon) : (m.tickMove source tile).Canon := by
  unfold Module.tickMove
  split
  · exact h
  · extract_lets _ m1
    have h1 : m1.Canon := .bump (.frame h)
    exact h1.finishMoves

theorem endRevive {m : Module} {r} (h : m.Canon) : (m.endRevive r).Canon := by
  unfold Module.endRevive
  extract_lets _ m1
  have h1 : m1.Canon := h.foldl (fun _ _ ha => ha.endXfer)
  exact .frame (h1.foldl (fun _ _ ha => ha.abortMove))

theorem startPark {m : Module} {id tier back cmd} (h : m.Canon) : (m.startPark id tier back cmd).Canon := by
  unfold Module.startPark
  extract_lets _ _ _ _ _ m2 _ m3
  have h2 : m2.Canon := .frame (h.writeCap.foldl (fun _ _ ha => ha.endRevive))
  have h3 : m3.Canon := h2.foldl (fun _ _ ha => .ite ha ha.startMove)
  exact h3.checkPark

theorem abandonPark {m : Module} {id} (h : m.Canon) : (m.abandonPark id).Canon := by
  unfold Module.abandonPark
  split
  · exact h
  · extract_lets _ _ m1
    have h1 : m1.Canon := .frame h
    split
    · exact h1.fail
    · exact h1

/-! #### Machine/OpsBell -/

theorem setQueue {m : Module} {q x} (h : m.Canon) : (m.setQueue q x).Canon := .frame h

theorem enqueue {m : Module} {q p} (h : m.Canon) : (m.enqueue q p).Canon := .ite h.setQueue.bump h.setQueue

theorem setSession {m : Module} {e x} (h : m.Canon) : (m.setSession e x).Canon := .frame h

theorem sessPut {m : Module} {dst own q type capsule body} (h : m.Canon) : (m.sessPut dst own q type capsule body).Canon :=
  h.setSession.enqueue

theorem sessSend {m : Module} {dst type capsule body} (h : m.Canon) : (m.sessSend dst type capsule body).Canon := by
  unfold Module.sessSend
  split
  · exact h
  · exact h.sessPut

theorem sessAcked {m : Module} {e ack} (h : m.Canon) : (m.sessAcked e ack).Canon := .ite h.serialStale h.setSession

theorem toPool {m : Module} {p endpoint pkt} (h : m.Canon) : (m.toPool p endpoint pkt).Canon := by
  unfold Module.toPool
  split
  · exact .ite h h.enqueue
  · exact h

theorem setSubport {m : Module} {s x} (h : m.Canon) : (m.setSubport s x).Canon := .frame h

theorem police {m : Module} {f} (h : m.Canon) : (m.police f).1.Canon := by
  unfold Module.police
  split
  · exact h
  · split
    extract_lets _ m1
    have h1 : m1.Canon := .frame h
    split
    · exact h1.bump
    · exact h1

theorem ingress {m : Module} {type f} (h : m.Canon) : (m.ingress type f).1.Canon := by
  unfold Module.ingress
  extract_lets
  split
  · exact h.bump
  · split
    · exact h.bump
    · split
      · rename_i x m1 e
        have h1 : m1.Canon := .of_fst e h.police
        exact h1
      · rename_i x m1 e
        have h1 : m1.Canon := .of_fst e h.police
        extract_lets m2 _ _ m3
        have h2 : m2.Canon := h1.bumpBy
        have h3 : m3.Canon := .ite h2.setSession h2
        exact h3.sessAcked

/-! #### Machine/OpsStep -/

theorem heldOr {m : Module} {c id f} (h : m.Canon) (hf : ∀ a, a.Canon → (f a).Canon) : (m.heldOr c id f).Canon := by
  unfold Module.heldOr
  split
  · exact .ite (.ite h (.frame h)) (hf _ (.frame h))
  · exact hf _ h

theorem updPart {m : Module} {p f} (h : m.Canon) : (m.updPart p f).Canon := .frame h

theorem updReq {m : Module} {i f} (h : m.Canon) : (m.updReq i f).Canon := .frame h

theorem sendReq {m : Module} {step i} (h : m.Canon) : (m.sendReq step i).Canon := by
  unfold Module.sendReq
  split
  · exact h
  · exact h.mirrorSlot.mirrorSlot

theorem touchReq {m : Module} {i} (h : m.Canon) : (m.touchReq i).Canon := by
  unfold Module.touchReq
  split
  · exact .ite h.updReq h.updReq.sendReq
  · exact h

theorem writeText {m : Module} {id f} (h : m.Canon) : (m.writeText id f).Canon := by
  unfold Module.writeText
  split
  · exact .ite h.writeCap h.updCap.sendHeader
  · exact h.writeCap

theorem clearHands {m : Module} {i} (h : m.Canon) : (m.clearHands i).Canon := .withHbm h (Mem.putNum_wf _ _ _ h.hbm)

theorem fixBlocks {m : Module} {i fedBefore} (h : m.Canon) : (m.fixBlocks i fedBefore).Canon := by
  unfold Module.fixBlocks
  split
  · exact h
  · extract_lets
    refine updReq (foldl_snd (.frame h) fun acc _ hacc => ?_)
    split
    rename_i x start a e
    have ha : a.Canon := .of_snd e hacc.choose
    split
    · exact .frame ha
    · exact ha

theorem sendInput {m : Module} {i toks reset} (h : m.Canon) : (m.sendInput i toks reset).Canon := by
  unfold Module.sendInput
  split
  · exact h
  · extract_lets
    refine h.foldl (fun a x ha => ?_)
    split
    exact ha.mirrorSlot

theorem appendInput {m : Module} {i toks} (h : m.Canon) : (m.appendInput i toks).Canon := by
  unfold Module.appendInput
  split
  · exact h
  · exact .ite h h.updReq.fixBlocks.sendInput

theorem setAccount {m : Module} {a x} (h : m.Canon) : (m.setAccount a x).Canon := .frame h

theorem sendAccount {m : Module} {step a} (h : m.Canon) : (m.sendAccount step a).Canon := h.mirrorPlain

theorem easeReqs {m : Module} {a} (h : m.Canon) : (m.easeReqs a).Canon := by
  unfold Module.easeReqs
  refine h.foldl (fun b x hb => ?_)
  split
  exact .ite hb.updReq.touchReq hb

theorem easeStrict {m : Module} {a} (h : m.Canon) : (m.easeStrict a).Canon := .ite h.setAccount.easeReqs h

theorem closePeriods {m : Module} {a} (h : m.Canon) : (m.closePeriods a).Canon := .ite h h.setAccount.easeStrict.sendAccount

theorem debit {m : Module} {step a n} (h : m.Canon) : (m.debit step a n).Canon := by
  unfold Module.debit
  extract_lets _ _ _ _ m1 m2
  have h1 : m1.Canon := h.closePeriods.setAccount.bumpBy
  have h2 : m2.Canon := .ite h1.bump.set h1
  exact h2.sendAccount

theorem sendPrefix {m : Module} {i src} (h : m.Canon) : (m.sendPrefix i src).Canon := by
  unfold Module.sendPrefix
  split
  · exact .ite h.send h
  · exact h

theorem updAdapter {m : Module} {ad f} (h : m.Canon) : (m.updAdapter ad f).Canon := by
  unfold Module.updAdapter
  split
  · exact h
  · extract_lets _ _ m1
    have h1 : m1.Canon := h.bumpBy.unmeasure
    exact .ite (.frame h1) (.frame h1)

theorem pins {m : Module} {up ps} (h : m.Canon) : (m.pins up ps).Canon := h.foldl (fun _ _ ha => ha.updAdapter)

theorem followPrefix {m : Module} {h} (hm : m.Canon) : (m.followPrefix h).Canon := by
  unfold Module.followPrefix
  split
  · exact hm
  · exact hm.foldl (fun _ _ ha => ha.startMove)

theorem ringBytes {m : Module} {r head b} (h : m.Canon) : (Machine.ringBytes r head b m).Canon := h.wrMem.wrMem

theorem drainRing {m : Module} {p fuel} (h : m.Canon) : (m.drainRing p fuel).Canon := by
  induction fuel generalizing m with
  | zero => exact h
  | succ fuel ih =>
    unfold Module.drainRing
    extract_lets
    split
    · extract_lets
      split
      · exact ih h.ringBytes.set.updPart
      · exact h
    · exact h

theorem ringFlag {m : Module} {p} (h : m.Canon) : (m.ringFlag p).Canon := .ite h.setBit h.clearBit

theorem toRing {m : Module} {p recs} (h : m.Canon) : (m.toRing p recs).Canon := by
  unfold Module.toRing
  split
  · exact h
  · extract_lets m1 m2
    have h1 : m1.Canon := h.updPart
    have h2 : m2.Canon := .ringFlag (.ite h1.drainRing h1)
    split
    · exact .ite h2.msix h2
    · exact h2

theorem release {m : Module} {p outs} (h : m.Canon) : (m.release p outs).Canon := by
  unfold Module.release
  extract_lets _ _ _ m1
  have h1 : m1.Canon := by
    unfold m1
    refine h.bumpBy.foldl (fun a e ha => ?_)
    exact .ite (ha.foldl (fun _ _ hb => hb.sessSend)) ha.bumpBy
  exact h1.toRing

theorem freeReq {m : Module} {i} (h : m.Canon) : (m.freeReq i).Canon := by
  unfold Module.freeReq
  split
  · exact h
  · extract_lets _ _ _ m2 _ _ _ m4
    have h2 : m2.Canon := .frame (ite h.pins h)
    have h4 : m4.Canon := .endRevive (.frame h2.mirrorSlot)
    split
    · split
      · exact h4.startPark.followPrefix
      · exact h4.writeCap.followPrefix
    · exact h4

theorem endNow {m : Module} {i reason status} (h : m.Canon) : (m.endNow i reason status).Canon := by
  unfold Module.endNow
  extract_lets m1
  have h1 : m1.Canon := h.updReq
  split
  · extract_lets m2 m3
    have h2 : m2.Canon := h1.updReq
    have h3 : m3.Canon := .ite h2 h2.bumpBy.set
    exact h3.bumpBy.release.freeReq
  · exact h1

theorem updSeq {m : Module} {p num i f} (h : m.Canon) : (m.updSeq p num i f).Canon := h.updPart

theorem toPoolRing {m : Module} {p b} (h : m.Canon) : (m.toPoolRing p b).Canon := by
  unfold Module.toPoolRing
  split
  · exact h
  · split
    exact h.updPart.toPool

theorem amend {m : Module} {p s q} (h : m.Canon) : (m.amend p s q).Canon := h.toPoolRing.bump

theorem takeGrammar {m : Module} {i} (h : m.Canon) : (m.takeGrammar i).Canon := by
  unfold Module.takeGrammar
  split
  · exact h
  · split
    · exact h.updReq.writeText
    · exact h

theorem afterStep {m : Module} {i} (h : m.Canon) : (m.afterStep i).Canon := by
  unfold Module.afterStep
  split
  · exact h
  · extract_lets m1
    have h1 : m1.Canon := h.updReq.appendInput.takeGrammar
    exact .ite h1.touchReq h1

theorem truncateNow {m : Module} {c id n} (h : m.Canon) : (m.truncateNow c id n).Canon := by
  unfold Module.truncateNow
  extract_lets _ m1 m2
  have h1 : m1.Canon := h.truncateTo.mirrorSlot.sendHeader
  have h2 : m2.Canon := by
    unfold m2
    split
    · exact h1.updReq.touchReq
    · exact h1
  exact h2.finishMoves.ok

theorem runTruncates {m : Module} {id} (h : m.Canon) : (m.runTruncates id).Canon :=
  h.foldl (fun _ _ ha => .ite ha ha.truncateNow)

theorem allTruncates {m : Module} (h : m.Canon) : m.allTruncates.Canon := h.foldl (fun _ _ ha => ha.runTruncates)

theorem cancelWork {m : Module} {p num i} (h : m.Canon) : (m.cancelWork p num i).Canon := .frame h.bumpBy.bumpBy.bumpBy

theorem undebit {m : Module} {s q} (h : m.Canon) : (m.undebit s q).Canon := by
  unfold Module.undebit
  split
  · split
    · exact h
    · exact h.setAccount.sendAccount
  · exact h

theorem leaveStep {m : Module} {i} (h : m.Canon) : (m.leaveStep i).Canon := by
  unfold Module.leaveStep
  split
  · extract_lets _ _ _ _ _ m2 _ _ _ m4
    have h2 : m2.Canon := .foldl (.frame h.updSeq.undebit.updPart.amend.cancelWork) (fun _ _ ha => ha.bumpBy)
    have h4 : m4.Canon := h2.updReq.afterStep.runTruncates
    exact .ite h4.endNow h4.touchReq
  · exact h

theorem endError {m : Module} {i status} (h : m.Canon) : (m.endError i status).Canon := by
  unfold Module.endError
  extract_lets m1
  have h1 : m1.Canon := .ite h.updReq.leaveStep h
  exact h1.endNow

/-! #### Machine/OpsSlide -/

theorem updEntry {m : Module} {id f} (h : m.Canon) : (m.updEntry id f).Canon := .frame h

theorem arrive {m : Module} {id} (h : m.Canon) : (m.arrive id).Canon := by
  unfold Module.arrive
  extract_lets m1
  have h1 : m1.Canon := h.updEntry
  split
  · exact .bumpBy (.frame h1)
  · exact h1

theorem entryTile {m : Module} {id tile} (h : m.Canon) : (m.entryTile id tile).Canon := by
  unfold Module.entryTile
  split
  · exact h
  · extract_lets _ m1
    have h1 : m1.Canon := h.updEntry
    exact .ite h1.arrive h1

theorem hbmArrivals {m : Module} (h : m.Canon) : m.hbmArrivals.Canon :=
  h.foldl (fun _ _ ha => ha.foldl (fun _ _ hb => hb.entryTile))

theorem miss {m : Module} {e} (h : m.Canon) : (m.miss e).Canon := by
  unfold Module.miss
  extract_lets m1
  have h1 : m1.Canon := h.updEntry.bump
  exact .ite (.bump (.frame h1)) h1.bump.leaveStep

theorem takeEntries {m : Module} {es} (h : m.Canon) : (m.takeEntries es).Canon := by
  unfold Module.takeEntries
  refine h.foldl (fun a e ha => ?_)
  extract_lets _ _ _ _ _ a1
  have ha1 : a1.Canon := .frame ha
  exact .ite ha1.miss ha1

theorem revive {m : Module} {request id} (h : m.Canon) : (m.revive request id).Canon := by
  unfold Module.revive
  split
  · exact h
  · split
    · exact h
    · extract_lets _ _ _ m1
      have h1 : m1.Canon := .bump (.frame h)
      refine h1.foldl (fun a x ha => ?_)
      split
      split
      · exact ha
      · extract_lets a1
        have ha1 : a1.Canon := ha.foldl (fun _ _ hb => hb.startXfer)
        exact .ite ha1 ha1.startMove

theorem demote {m : Module} {p inStep stop} (h : m.Canon) : (m.demote p inStep stop).Canon := by
  unfold Module.demote
  refine h.foldl (fun a h ha => ?_)
  split
  · exact ha
  · split
    · exact ha.startMove
    · exact ha

theorem preempt {m : Module} {p taken stop} (h : m.Canon) : (m.preempt p taken stop).1.Canon := by
  unfold Module.preempt
  extract_lets
  refine foldl_fst h fun acc x ha => ?_
  split
  extract_lets a
  split
  · exact ha
  · split
    · refine touchReq (bump (updReq (Canon.foldl (m := a) ha fun b t hb => ?_)))
      split
      · exact hb.startMove
      · exact hb
    · exact ha

theorem relieve {m : Module} {p inStep spared reserved} (h : m.Canon) :
    (m.relieve p inStep spared reserved).1.Canon := by
  unfold Module.relieve
  extract_lets _ _ _ m1 m2 r1
  have h1 : m1.Canon := h.foldl fun _ _ ha => ha.demote
  have hr1 : r1.1.Canon := foldl_fst h1.demote fun _ _ hacc => hacc.preempt
  exact hr1.preempt

/-! #### Machine/Caps -/

theorem createIn {m : Module} {slot c} (h : m.Canon) : (m.createIn slot c).Canon := h.updSlot.sendHeader.ok

theorem askSlot {m : Module} {c} (h : m.Canon) : (m.askSlot c).Canon := by
  unfold Module.askSlot
  extract_lets _ _ m1
  have h1 : m1.Canon := .frame h
  exact .ite h1 h1.send

theorem capsuleCreateCmd {m : Module} {c} (h : m.Canon) : (Machine.capsuleCreateCmd c m).Canon := by
  unfold Machine.capsuleCreateCmd
  extract_lets
  refine h.checked (fun m h => ?_)
  extract_lets
  split
  · exact h.createIn
  · split
    · split
      · exact h.createIn
      · exact h.fail
    · exact h.askSlot.await

theorem capsuleDeleteCmd {m0 : Module} {c} (h0 : m0.Canon) : (Machine.capsuleDeleteCmd c m0).Canon := by
  unfold Machine.capsuleDeleteCmd
  extract_lets
  refine h0.loadHeader.checked (fun m h => h.heldOr (fun m h => ?_))
  exact h.writeCap.releaseFrames.freeSlot.finishMoves.ok

theorem capsuleQueryCmd {m : Module} {c} (h : m.Canon) : (Machine.capsuleQueryCmd c m).Canon := by
  unfold Machine.capsuleQueryCmd
  extract_lets
  refine h.checked (fun m h => ?_)
  exact h.loadHeader.ok

theorem capsuleReadCmd {m : Module} {c} (h : m.Canon) : (Machine.capsuleReadCmd c m).Canon := by
  unfold Machine.capsuleReadCmd
  extract_lets
  refine h.checked (fun m h => ?_)
  split
  · exact h
  · exact .ite h.loadHeader.fail h.loadHeader.ok
  · exact .ite h.loadMap.fail h.ok
  · extract_lets
    split
    · exact h.ok
    · extract_lets go
      have hgo : ∀ m, m.Canon → (go m).Canon := by
        intro m h
        unfold go
        extract_lets m1
        have h1 : m1.Canon := h.touch
        split
        · exact h1.damage.fail
        · exact h1.ok
      exact .ite (h.withHost hgo) (hgo _ h)

theorem capsuleParkCmd {m0 : Module} {c} (h0 : m0.Canon) : (Machine.capsuleParkCmd c m0).Canon := by
  unfold Machine.capsuleParkCmd
  extract_lets
  refine h0.loadHeader.loadMap.checked (fun m h => h.heldOr (fun m h => ?_))
  extract_lets m1
  have h1 : m1.Canon := h.await
  split
  · split
    · exact h1.startPark
    · extract_lets m2
      have h2 : m2.Canon := h1.updReq
      exact .ite h2.updReq h2.endNow
  · exact h1.startPark

theorem capsuleTruncateCmd {m0 : Module} {c} (h0 : m0.Canon) : (Machine.capsuleTruncateCmd c m0).Canon :=
  h0.loadHeader.loadMap.checked (fun _ h => h.heldOr (fun _ h => .ite h.await h.truncateNow))

theorem endRepair {m : Module} {id} (h : m.Canon) : (m.endRepair id).Canon := by
  unfold Module.endRepair
  split
  · exact h
  · split
    · exact h
    · extract_lets _ m1 _ _ _ m2
      have h1 : m1.Canon := .frame h
      have h2 : m2.Canon := .frame h1
      split
      · exact h1
      · exact .ite h1.fail h2.writeCap.ok

theorem capsuleRepairCmd {m : Module} {c} (h : m.Canon) : (Machine.capsuleRepairCmd c m).Canon := by
  unfold Machine.capsuleRepairCmd
  extract_lets
  refine h.checked (fun m h => h.heldOr (fun m h => ?_))
  extract_lets m0 _ _ _ m1 m2
  have h0 : m0.Canon := h.loadHeader.loadMap
  have h1 : m1.Canon := .await (.frame h0)
  have h2 : m2.Canon := h1.foldl (fun _ _ ha => ha.emit)
  exact .ite h (.ite h2.endRepair h0.fail)

theorem restoreBlock {m : Module} {id entry block b} (h : m.Canon) : (m.restoreBlock id entry block b).Canon := by
  unfold Module.restoreBlock
  extract_lets
  split
  · exact h
  · extract_lets
    split
    · split
      · rename_i x n m1 e
        have h1 : m1.Canon := .of_snd e h.allocFrame
        exact .rehome (.frame h1)
      · rename_i x m1 e
        have h1 : m1.Canon := .of_snd e h.allocFrame
        exact h1.putFrame
    · exact h.putFrame

theorem repairArrival {m : Module} {id entry block b check ok} (h : m.Canon) :
    (Machine.repairArrival id entry block b check ok m).Canon := by
  unfold Machine.repairArrival
  split
  · exact h
  · extract_lets _ _ _ _ _ _ m1
    have h1 : m1.Canon := .ite (.frame h) (.ite (.frame (ite h.damage h.damage)) (.ite (.frame h.updCap) (.ite (.frame h)
      (.frame h.restoreBlock))))
    exact h1.endRepair

theorem repairFetch {m : Module} {id entry block} (h : m.Canon) : (Machine.repairFetch id entry block m).Canon := by
  unfold Machine.repairFetch
  split
  · exact h.emit
  · split
    · exact .ite h.loadHeader.emit h.emit
    · split
      · exact .ite h.loadMap.emit h.emit
      · extract_lets
        split
        · exact h.emit
        · exact .ite h.damage.emit h.touch.emit

theorem returnSlot {m : Module} {s} (h : m.Canon) : (m.returnSlot s).Canon := by
  unfold Module.returnSlot
  extract_lets _ m0
  have h0 : m0.Canon := .frame h
  exact .frame h0.mirrorSlot

theorem endSweep {m : Module} (h : m.Canon) : m.endSweep.Canon := by
  unfold Module.endSweep
  split
  · exact h
  · split
    · exact h
    · extract_lets _ _ m1
      have h1 : m1.Canon := .set (.set (.set (.frame h)))
      exact h1.foldl (fun _ _ ha => ha.ok)

theorem startSweep {m : Module} (h : m.Canon) : m.startSweep.Canon := by
  unfold Module.startSweep
  split
  · exact h
  · extract_lets _ _ _ _ m1 m2
    have h1 : m1.Canon := .set (.frame h)
    have h2 : m2.Canon := .ite (h1.foldl (fun _ _ ha => ha.emit)) (.ite h1 (h1.foldl (fun _ _ ha => ha.returnSlot)))
    exact h2.endSweep

theorem capsuleSweepCmd {m : Module} {c} (h : m.Canon) : (Machine.capsuleSweepCmd c m).Canon := by
  unfold Machine.capsuleSweepCmd
  extract_lets m1
  have h1 : m1.Canon := h.await
  exact .ite h1 h1.startSweep

theorem sweepInterval {m : Module} (h : m.Canon) : (Machine.sweepInterval m).Canon := .ite h h.startSweep

theorem sweepAnswer {m : Module} {batch held} (h : m.Canon) : (Machine.sweepAnswer batch held m).Canon := by
  unfold Machine.sweepAnswer
  split
  · exact h
  · extract_lets _ _ m1 m2
    have h1 : m1.Canon := .frame h
    have h2 : m2.Canon := h1.foldl (fun _ _ ha => .ite ha.returnSlot ha)
    exact h2.endSweep

theorem sweepQuery {m : Module} {batch} (h : m.Canon) : (Machine.sweepQuery batch m).Canon := h.emit

/-! #### Machine/OpsAttn -/

theorem updFused {m : Module} {core id f} (h : m.Canon) : (m.updFused core id f).Canon := h.updCore

theorem joinBatch {m : Module} {core id} (h : m.Canon) : (m.joinBatch core id).Canon := by
  unfold Module.joinBatch
  extract_lets
  split
  · exact h
  · exact .ite h.updCore h.updCore

theorem takeSlots {m : Module} {d ordinal base slotBytes block} (h : m.Canon) :
    (m.takeSlots d ordinal base slotBytes block).Canon := by
  unfold Module.takeSlots
  extract_lets
  refine h.foldl (fun a j ha => ?_)
  extract_lets _ _ _ _ a1
  have ha1 : a1.Canon := .frame ha
  exact .ite ha1 (.withHbm ha1 (Mem.wrN_wf _ _ ha1.hbm))

theorem gotQuery {m : Module} {core id block} (h : m.Canon) : (m.gotQuery core id block).Canon := by
  unfold Module.gotQuery
  split
  · exact h
  · extract_lets
    split
    extract_lets m1
    have h1 : m1.Canon := .ite h.takeSlots h
    exact h1.updFused.joinBatch

theorem pushFused {m : Module} {core d origin query} (h : m.Canon) : (m.pushFused core d origin query).Canon := by
  unfold Module.pushFused
  extract_lets _ _ _ _ m1 _ block
  have h1 : m1.Canon := .updCore (.frame h)
  clear_value block
  split
  · exact h1.gotQuery
  · exact h1

theorem submitDone {m : Module} {run index st} (h : m.Canon) : (m.submitDone run index st).Canon := by
  unfold Module.submitDone
  split
  · extract_lets _ _ m1
    have h1 : m1.Canon := .frame h
    exact .ite (.frame h) h1.cmdWrite.complete
  · exact .frame h
  · exact h

theorem countFused {m : Module} {st} (h : m.Canon) : (m.countFused st).Canon := by
  unfold Module.countFused
  split
  · exact h.bump
  · extract_lets m1
    have h1 : m1.Canon := h.bump
    exact .ite h1.bump (.ite h1.bump h1)

theorem admitWaiting {m : Module} {core} (h : m.Canon) : (m.admitWaiting core).Canon := by
  unfold Module.admitWaiting
  split
  · split
    · exact .leaveStep (.countFused (.frame h))
    · split
      · extract_lets _ m1
        have h1 : m1.Canon := .frame h
        split
        · exact h1.updCore.gotQuery
        · exact h1
      · exact h
  · exact h

theorem progFault {m : Module} {c code} (h : m.Canon) : (m.progFault c code).Canon := h.endProgram.bump.set

theorem stopDue {m : Module} {c} (h : m.Canon) : (m.stopDue c).Canon := by
  unfold Module.stopDue
  split
  · exact .ite h (.getD (IfSome.map (P := fun _ => True) (fun _ _ => trivial) fun _ _ => h.progFault) h)
  · exact h

theorem stopsDue {m : Module} (h : m.Canon) : m.stopsDue.Canon := by
  unfold Module.stopsDue
  refine h.foldl (fun a x ha => ?_)
  split
  exact ha.stopDue

theorem fusedOver {m : Module} {core launch st} (h : m.Canon) : (m.fusedOver core launch st).Canon := by
  unfold Module.fusedOver
  split
  · exact h
  · exact .ite h (.ite h.updCore.stopDue (.progFault (.withHbm h (Mem.wrN_wf _ _ h.hbm))))

theorem newSlice {m : Module} {c} (h : m.Canon) : (m.newSlice c).Canon := .ite h.updCore.startNext h

theorem forgetWalks {m : Module} {core d} (h : m.Canon) : (m.forgetWalks core d).Canon := h.updCore

theorem expectMet {m : Module} {id} (h : m.Canon) : (m.expectMet id).Canon := .frame h

theorem endFused {m : Module} {core id st} (h : m.Canon) : (m.endFused core id st).Canon := by
  unfold Module.endFused
  split
  · exact h
  · extract_lets m1 m2
    have h1 : m1.Canon := h.updCore.countFused
    have h2 : m2.Canon := by
      unfold m2
      split
      · exact h1.submitDone
      · exact h1.fusedOver
      · exact .ite h1.expectMet (.ite h1 h1.leaveStep)
    exact h2.forgetWalks.admitWaiting.newSlice

theorem expect {m : Module} {p s} (h : m.Canon) : (m.expect p s).Canon :=
  foldl_snd h fun _ _ hacc => .frame hacc

theorem formDerived {m : Module} {e g} (h : m.Canon) : (m.formDerived e g).Canon := by
  unfold Module.formDerived
  extract_lets _ _ _ _ st _ _ m1
  have h1 : m1.Canon := .frame h
  clear_value st
  split
  · exact h.countFused.leaveStep
  · exact .ite h1.pushFused (.frame h1)

theorem matchQuery {m : Module} {g} (h : m.Canon) : IfSome Canon (m.matchQuery g) := by
  unfold Module.matchQuery
  split
  · exact .some h.formDerived
  · exact IfSome.map (P := fun _ => True) (fun _ _ => trivial) fun _ _ => .ite h.endFused h.gotQuery

theorem adoptOrphans {m : Module} (h : m.Canon) : m.adoptOrphans.Canon := by
  unfold Module.adoptOrphans
  refine h.foldl (fun a o ha => ?_)
  split
  · exact .frame (ha.matchQuery.get ‹_›)
  · exact ha

/-! #### Machine/Attn -/

theorem modelRegisterCmd {m : Module} {c} (h : m.Canon) : (Machine.modelRegisterCmd c m).Canon := by
  unfold Machine.modelRegisterCmd
  extract_lets
  refine h.checked (fun m h => ?_)
  split
  · exact .ok (.measure (.frame h))
  · refine h.withHost (fun m h => ?_)
    exact .ok (.measure (.frame h))

theorem modelReleaseCmd {m : Module} {c} (h : m.Canon) : (Machine.modelReleaseCmd c m).Canon :=
  h.checked (fun _ h => .ok (.unmeasure (.frame h)))

theorem submitOne {m : Module} {run p i b} (h : m.Canon) : (m.submitOne run p i b).Canon := by
  unfold Module.submitOne
  extract_lets
  split
  · exact h.countFused.submitDone
  · split
    · exact h.countFused.submitDone
    · exact .ite h.bump.countFused.submitDone (.ite h.countFused.submitDone h.pushFused)

theorem submitCmd {m : Module} {c} (h : m.Canon) : (Machine.submitCmd c m).Canon := by
  unfold Machine.submitCmd
  extract_lets
  refine h.checked (fun m h => h.withHost (fun m h => ?_))
  extract_lets _ _ m1
  have h1 : m1.Canon := .await (.frame h)
  exact .adoptOrphans (h1.foldl (fun _ _ ha => ha.submitOne))

theorem programLoadCmd {m : Module} {c} (h : m.Canon) : (Machine.programLoadCmd c m).Canon := by
  unfold Machine.programLoadCmd
  extract_lets
  refine h.checked (fun m h => ?_)
  split
  · exact h.fail
  · exact .ok (.measure (.frame h))

theorem programStartCmd {m : Module} {c} (h : m.Canon) : (Machine.programStartCmd c m).Canon := by
  unfold Machine.programStartCmd
  extract_lets
  refine h.checked (fun m h => ?_)
  extract_lets _ _ m1
  have h1 : m1.Canon := .frame h
  exact .ok (h1.foldl (fun _ _ ha => ha.updCore.startNext))

theorem tellStop {m : Module} {k} (h : m.Canon) : (m.tellStop k).Canon := h.updCore.stopDue

theorem programStopCmd {m : Module} {c} (h : m.Canon) : (Machine.programStopCmd c m).Canon :=
  h.checked (fun _ h => .ok (h.foldl (fun _ _ ha => ha.tellStop)))

theorem setMode {m : Module} {c mode} (h : m.Canon) : (m.setMode c mode).Canon := h.updCore.set

theorem finishAssigns {m : Module} (h : m.Canon) : m.finishAssigns.Canon := h.foldl (fun _ _ ha => ha.ok)

theorem coreAssignCmd {m : Module} {c} (h : m.Canon) : (Machine.coreAssignCmd c m).Canon := by
  unfold Machine.coreAssignCmd
  extract_lets
  refine h.checked (fun m h => ?_)
  extract_lets m1
  have h1 : m1.Canon := h.foldl (fun _ _ ha => .ite ha.setMode ha.updCore)
  exact h1.await.finishAssigns

theorem coreModeDrained {m : Module} {c} (h : m.Canon) : (Machine.coreModeDrained c m).Canon := by
  unfold Machine.coreModeDrained
  split
  · exact .ite h.setMode.finishAssigns h
  · exact h

theorem orphan {m : Module} (h : m.Canon) : m.orphan.Canon := h.bump.set

theorem queryMsg {m : Module} {e g} (h : m.Canon) : (Machine.queryMsg e g m).Canon := by
  unfold Machine.queryMsg
  split
  · exact h
  · split
    · exact h
    · split
      · exact h.orphan
      · split
        · exact h.matchQuery.get ‹_›
        · exact .frame h

theorem orphanExpiry {m : Module} (h : m.Canon) : (Machine.orphanExpiry m).Canon := by
  unfold Machine.orphanExpiry
  split
  · exact .ite (.orphan (.frame h)) h
  · exact h

theorem queryTimeout {m : Module} (h : m.Canon) : (Machine.queryTimeout m).Canon := by
  unfold Machine.queryTimeout
  split
  · split
    · exact h
    · extract_lets m1
      have h1 : m1.Canon := by
        unfold m1
        split
        · rename_i x a a e m1
          exact h.endFused
        · rename_i x a e m1
          exact h.bump.leaveStep
      exact h1.set.blockEvent
  · exact h

theorem formWalk {m : Module} {core x group} (h : m.Canon) : (m.formWalk core x group).Canon := by
  unfold Module.formWalk
  split
  · exact h
  · extract_lets _ _ _ _ _ _ _ _ _ _ m1
    have h1 : m1.Canon := by
      unfold m1
      refine h.foldl (fun a x ha => ?_)
      split
      exact ha.updFused
    exact h1.bumpBy.bumpBy.bumpBy.updCore

theorem readUp {m : Module} {core b x} (h : m.Canon) : (m.readUp core b x).Canon := .ite (.frame h) (.bumpBy (.frame h))

theorem startBatch {m : Module} {core b} (h : m.Canon) : (m.startBatch core b).Canon := by
  unfold Module.startBatch
  split
  · exact h
  · exact .updCore (h.readUp.bumpBy.updCore.foldl (fun _ _ ha => ha.formWalk))

theorem batchExpiry {m : Module} {core} (h : m.Canon) : (Machine.batchExpiry core m).Canon := by
  unfold Machine.batchExpiry
  split
  · exact .ite h.startBatch h
  · exact h

theorem walkBlock {m : Module} {core b f} (h : m.Canon) : (m.walkBlock core b f).Canon := by
  unfold Module.walkBlock
  split
  · exact h.updFused
  · exact h

theorem sendOutput {m : Module} {f} (h : m.Canon) : (m.sendOutput f).Canon := by
  unfold Module.sendOutput
  split
  · exact h
  · extract_lets
    split
    · exact .withHbm h (Mem.wrN_wf _ _ h.hbm)
    · split
      · exact h
      · exact h.toPool

theorem finishBatch {m : Module} {core b} (h : m.Canon) : (m.finishBatch core b).Canon := by
  unfold Module.finishBatch
  extract_lets _ _ m1
  have h1 : m1.Canon := by
    unfold m1
    split
    · exact h.bumpBy.bumpBy
    · exact h
  split
  · exact h
  · refine h1.foldl (fun a f ha => ?_)
    extract_lets _ _ a1
    have ha1 : a1.Canon := .ite ha.updCore.bumpBy ha
    exact ha1.sendOutput.endFused

theorem walkDamaged {m : Module} {core f page tile} (h : m.Canon) : (m.walkDamaged core f page tile).Canon := by
  unfold Module.walkDamaged
  extract_lets _ _ _ m1
  have h1 : m1.Canon := h.damage.foldl (fun _ _ ha => ha.endFused)
  exact .ite h1.endError h1

theorem groupBlock {m : Module} {core b f} (h : m.Canon) : (m.groupBlock core b f).Canon :=
  h.foldl (fun _ _ ha => ha.walkBlock)

theorem useTiles {m : Module} {core d tiles} (h : m.Canon) : (m.useTiles core d tiles).Canon := by
  unfold Module.useTiles
  extract_lets
  refine h.updCore.bumpBy.foldl (fun a x ha => ?_)
  split
  exact ha.touch

theorem sendDone {m : Module} {core} (h : m.Canon) : (m.sendDone core).Canon :=
  .newSlice (.updCore (h.foldl (fun _ _ ha => ha.finishBatch)))

theorem blockBoundary {m : Module} {core} (h : m.Canon) : (Machine.blockBoundary core m).Canon := by
  unfold Machine.blockBoundary
  extract_lets _ m0
  have h0 : m0.Canon := by
    unfold m0
    refine h.foldl (fun a x ha => ?_)
    split
    exact ha.endFused
  split
  · exact h0
  · split
    · exact h0.sendDone
    · extract_lets
      split
      · exact h0.choose.walkDamaged
      · exact h0.choose.groupBlock.useTiles.sendDone

theorem coreOp {m : Module} {opcode f c} (h : m.Canon) (hf : ∀ x0 x1 a, a.Canon → (f x0 x1 a).Canon) :
    (Machine.coreOp opcode f c m).Canon := by
  unfold Machine.coreOp
  split
  · exact h
  · split
    · exact h
    · split
      · exact h.stopDue
      · split
        · exact h
        · exact .ite h.progFault (.ite h (hf _ _ _ h))

theorem nextOp {m : Module} {c} (h : m.Canon) : (m.nextOp c).Canon := h.updCore

theorem wrSram {m : Module} {c off b} (h : m.Canon) : (m.wrSram c off b).Canon := h.updCore

theorem opLoad {m : Module} {c} (h : m.Canon) : (Machine.opLoad c m).Canon := by
  unfold Machine.opLoad
  refine h.coreOp (fun r b m h => ?_)
  exact .ite h.progFault (.ite h.progFault h.wrSram.nextOp)

theorem opStore {m : Module} {c} (h : m.Canon) : (Machine.opStore c m).Canon := by
  unfold Machine.opStore
  refine h.coreOp (fun r b m h => ?_)
  exact .ite h.progFault (.ite h.progFault (.nextOp (.withHbm h (Mem.wrN_wf _ _ h.hbm))))

theorem opCapread {m : Module} {c} (h : m.Canon) : (Machine.opCapread c m).Canon := by
  unfold Machine.opCapread
  refine h.coreOp (fun r b m h => ?_)
  extract_lets
  split
  · exact h.progFault
  · split
    · exact h.progFault
    · split
      · exact h.progFault
      · split
        · exact h.progFault
        · exact .ite h.loadHeader.progFault h.wrSram.nextOp
        · exact h.wrSram.nextOp
        · split
          · exact h.wrSram.nextOp
          · split
            · exact h.damage.progFault
            · exact h.touch.wrSram.nextOp

theorem opMatmul {m : Module} {c} (h : m.Canon) : (Machine.opMatmul c m).Canon := by
  unfold Machine.opMatmul
  refine h.coreOp (fun x b m h => ?_)
  exact .ite h.progFault h.wrSram.bumpBy.nextOp

theorem opVecop {m : Module} {c} (h : m.Canon) : (Machine.opVecop c m).Canon := by
  unfold Machine.opVecop
  refine h.coreOp (fun x b m h => ?_)
  exact .ite h.progFault h.wrSram.nextOp

theorem opFused {m : Module} {c} (h : m.Canon) : (Machine.opFused c m).Canon := by
  unfold Machine.opFused
  refine h.coreOp (fun r b m h => ?_)
  extract_lets _ _ _ st
  clear_value st
  split
  · exact h.progFault
  · split
    · exact h.countFused.updCore.fusedOver
    · exact h.updCore.pushFused

theorem opWait {m : Module} {c} (h : m.Canon) : (Machine.opWait c m).Canon := by
  unfold Machine.opWait
  refine h.coreOp (fun r b m h => ?_)
  split
  · exact h.progFault
  · split
    · exact h.progFault
    · extract_lets m1
      have h1 : m1.Canon := h.bump
      split
      · extract_lets m2
        have h2 : m2.Canon := h1.ligPut.foldl (fun _ _ ha => ha.wake)
        exact .ite h2.nextOp h2.progFault
      · exact h1.ligPut.updCore

theorem opSignal {m : Module} {c} (h : m.Canon) : (Machine.opSignal c m).Canon := by
  unfold Machine.opSignal
  refine h.coreOp (fun r b m h => ?_)
  split
  · exact h.progFault
  · exact .ite h.progFault h.ligSignal.nextOp

theorem opLoop {m : Module} {c} (h : m.Canon) : (Machine.opLoop c m).Canon := by
  unfold Machine.opLoop
  refine h.coreOp (fun r b m h => ?_)
  exact .ite h.nextOp (.ite h.updCore (.ite h.progFault h.updCore))

theorem opEnd {m : Module} {c} (h : m.Canon) : (Machine.opEnd c m).Canon := h.coreOp (fun _ _ _ h => h.endProgram)

/-! #### Machine/Bell -/

theorem bellPortSetCmd {m : Module} {c} (h : m.Canon) : (Machine.bellPortSetCmd c m).Canon := by
  unfold Machine.bellPortSetCmd
  extract_lets
  refine h.checked (fun m h => ?_)
  extract_lets _ m1 m2
  have h1 : m1.Canon := .frame h
  have h2 : m2.Canon := h1.foldl (fun _ _ ha => ha.setSubport)
  exact h2.await

theorem bellPortStatusCmd {m : Module} {c} (h : m.Canon) : (Machine.bellPortStatusCmd c m).Canon := by
  unfold Machine.bellPortStatusCmd
  extract_lets
  refine h.checked (fun _ h => ?_)
  exact h.ok

theorem bellQueueSetCmd {m : Module} {c} (h : m.Canon) : (Machine.bellQueueSetCmd c m).Canon := by
  unfold Machine.bellQueueSetCmd
  extract_lets
  refine h.checked (fun m h => ?_)
  exact h.setQueue.ok

theorem bellQueueSampleCmd {m : Module} {c} (h : m.Canon) : (Machine.bellQueueSampleCmd c m).Canon := by
  unfold Machine.bellQueueSampleCmd
  extract_lets
  refine h.checked (fun m h => ?_)
  exact h.setQueue.ok

theorem bellPolicerSetCmd {m : Module} {c} (h : m.Canon) : (Machine.bellPolicerSetCmd c m).Canon := by
  unfold Machine.bellPolicerSetCmd
  extract_lets
  refine h.checked (fun m h => ?_)
  exact .ok (.frame h)

theorem bellGateLoadCmd {m : Module} {c} (h : m.Canon) : (Machine.bellGateLoadCmd c m).Canon := by
  unfold Machine.bellGateLoadCmd
  extract_lets
  refine h.checked (fun m h => h.withHost (fun m h => ?_))
  exact .ite h.badField h.setSubport.await

theorem bellEndpointQueryCmd {m : Module} {c} (h : m.Canon) : (Machine.bellEndpointQueryCmd c m).Canon := by
  unfold Machine.bellEndpointQueryCmd
  refine h.checked (fun m h => ?_)
  split
  · exact h.ok
  · exact h.fail

theorem subportChange {m : Module} {s up} (h : m.Canon) : (Machine.subportChange s up m).Canon := by
  unfold Machine.subportChange
  extract_lets _ _ _ m2
  have h2 : m2.Canon := .frame h.setSubport
  refine h2.foldl (fun a c ha => ?_)
  exact .ite ha.ok ha.updCmd

theorem flowControl {m : Module} {s classes pause} (h : m.Canon) : (Machine.flowControl s classes pause m).Canon :=
  h.setSubport

theorem dropOversize {m : Module} {s} (h : m.Canon) : (m.dropOversize s).Canon := by
  unfold Module.dropOversize
  refine h.foldl (fun a x ha => ?_)
  split
  split
  · exact .ite ha.setQueue.bump ha
  · exact ha

theorem transmitFrom {m0 : Module} {s} (h0 : m0.Canon) : (Machine.transmit s m0).Canon := by
  unfold Machine.transmit
  split
  · exact h0
  · extract_lets m _ _ _ _ _ _ _ _ _ _ _ order
    have h : m.Canon := h0.dropOversize
    clear_value order
    split
    · exact .frame h
    · extract_lets
      split
      exact .reedRequest (.setSubport (.frame h))

theorem egressGrant {m : Module} {s} (h : m.Canon) : (m.egressGrant s).Canon := by
  unfold Module.egressGrant
  split
  · exact h
  · extract_lets _ _ m1
    have h1 : m1.Canon := h.reedDrop
    split
    · exact h1
    · extract_lets _ m2
      have h2 : m2.Canon := h1.setSubport.emit.bumpBy
      split
      · exact h2.reedRequest
      · exact h2

theorem queueSample {m : Module} (h : m.Canon) : (Machine.queueSample m).Canon := .frame h

theorem gateSwap {m : Module} {s} (h : m.Canon) : (m.gateSwap s).Canon := by
  unfold Module.gateSwap
  extract_lets
  split
  · exact h
  · exact .ite h (h.setSubport.foldl (fun _ _ ha => ha.ok))

theorem gateNow {m : Module} {s} (h : m.Canon) : (m.gateNow s).Canon := by
  unfold Module.gateNow
  extract_lets
  split
  · exact h
  · exact h.setSubport

theorem gateEnd {m : Module} {s} (h : m.Canon) : (Machine.gateEnd s m).Canon := h.gateSwap.gateNow

theorem retransmit {m : Module} {e} (h : m.Canon) : (Machine.retransmit e m).Canon := by
  unfold Machine.retransmit
  extract_lets
  split
  · split
    · exact h
    · exact h.setSession.enqueue.bump
  · exact h

theorem ackTimer {m : Module} {e} (h : m.Canon) : (Machine.ackTimer e m).Canon := by
  unfold Machine.ackTimer
  split
  · exact h.sessSend
  · exact h

theorem sessAckFrame {m : Module} {f} (h : m.Canon) : (Machine.sessAckFrame f m).Canon := h.ingress

theorem rdmaTargeting {m : Module} {e} (h : m.Canon) : (Machine.rdmaTargeting e m).Canon := by
  unfold Machine.rdmaTargeting
  split
  · exact .set (.bump (.frame h.enqueue))
  · exact h

theorem cnp {m : Module} {e} (h : m.Canon) : (Machine.cnp e m).Canon := .frame h

theorem mapTimeout {m : Module} (h : m.Canon) : (Machine.mapTimeout m).Canon := .frame h

/-! #### Machine/Flash -/

theorem ftlHealthCmd {m : Module} {c} (h : m.Canon) : (Machine.ftlHealthCmd c m).Canon := h.ok

theorem flushedCmds {m : Module} (h : m.Canon) : m.flushedCmds.Canon := .ite h (h.foldl (fun _ _ ha => ha.ok))

theorem ftlFlushCmd {m : Module} {c} (h : m.Canon) : (Machine.ftlFlushCmd c m).Canon := h.await.updCmd.flush.flushedCmds

theorem ftlScrubCmd {m : Module} {c} (h : m.Canon) : (Machine.ftlScrubCmd c m).Canon := by
  unfold Machine.ftlScrubCmd
  extract_lets
  refine h.checked (fun m h => ?_)
  extract_lets r
  have hr : r.1.Canon := foldl_fst h fun acc ch hacc => foldl_fst hacc fun acc b ha => by
    extract_lets
    split
    rename_i x worst m1 e1
    have h1 : m1.Canon := .of_snd e1 ha.choose
    split
    rename_i x total m2 e2
    have h2 : m2.Canon := .of_snd e2 h1.choose
    split
    rename_i x which m3 e3
    have h3 : m3.Canon := .of_snd e3 h2.choose
    extract_lets _ m4
    have h4 : m4.Canon := .ite h3.setChan h3
    clear_value m4
    split
    rename_i bad bits e
    extract_lets _ _ _ _ m6 m7
    have h6 : m6.Canon := .frame h4.bumpBy
    unfold m7
    split
    · split
      · exact .ite h6.flashRead.spoil h6.flashRead
      · exact h6
    · exact h6
  exact hr.complete

theorem writeAccept {m : Module} {c fuel} (h : m.Canon) : (Machine.writeAccept c fuel m).Canon := by
  induction fuel generalizing m with
  | zero => exact h
  | succ fuel ih =>
    unfold Machine.writeAccept
    split
    · exact h
    · split
      · exact h
      · extract_lets
        split
        · exact ih ((h.setChan.ftlAcceptOn).get ‹_›)
        · exact h

theorem replace {m : Module} {c b} (h : m.Canon) : (m.replace c b).Canon := by
  unfold Module.replace
  extract_lets
  refine h.setChan.foldl (fun a u ha => ?_)
  extract_lets
  split
  · exact ha
  · rename_i x p a0 e
    have h0 : a0.Canon := ha.placeOn.get e
    extract_lets _ a1
    have h1 : a1.Canon := h0.setChan
    exact .ite h1.setLoc h1

theorem programmed {m : Module} {c u} (h : m.Canon) : (m.programmed c u).Canon := by
  unfold Module.programmed
  extract_lets _ m1
  have h1 : m1.Canon := h.setChan
  split
  · exact .ite h1.setLoc.change h1
  · exact h1.change

theorem programComplete {m : Module} {c ok} (h : m.Canon) : (Machine.programComplete c ok m).Canon := by
  unfold Machine.programComplete
  extract_lets
  split
  · exact h
  · extract_lets _ _ _ m0 _ _ _ m2 _ _ _ _ m2'
    have h0 : m0.Canon := h.setChan
    have h2 : m2.Canon := .bumpBy (.frame h0.setChan)
    have hm2' : m2'.Canon := .bump (.frame h0.setChan)
    exact .ite h (.ite (.emptied (h2.foldl (fun _ _ h => h.programmed))) hm2'.retireBlock.replace)

theorem gcStatus {m : Module} (h : m.Canon) : m.gcStatus.Canon := h.set

theorem eraseComplete {m : Module} {c b ok} (h : m.Canon) : (Machine.eraseComplete c b ok m).Canon := by
  unfold Machine.eraseComplete
  extract_lets _ _ _ _ _ _ m1 _ m2
  have h1 : m1.Canon := .ite h.setChan.bump.changeNow (.retireBlock (.bump (.frame h.setChan)))
  have h2 : m2.Canon := .ite h1.setChan h1
  exact .ite h h2.gcStatus

theorem writeSegment {m : Module} (h : m.Canon) : m.writeSegment.Canon := by
  unfold Module.writeSegment
  extract_lets
  split
  · exact h
  · split
    · exact h
    · extract_lets _ _ _ m2
      have h2 : m2.Canon := .frame h.setChan
      exact h2.bumpBy.bookSweep

theorem journalFlush {m : Module} (h : m.Canon) : (Machine.journalFlush m).Canon := h.flush.writeSegment.flushedCmds

theorem moveOut {m : Module} {c b} (h : m.Canon) : (m.moveOut c b).Canon := by
  unfold Module.moveOut
  extract_lets _ m0 m1
  have h0 : m0.Canon := h.setChan
  have h1 : m1.Canon := by
    refine h0.foldl (fun a x ha => ?_)
    split
    split
    · exact ha
    · extract_lets
      split
      · exact ha
      · rename_i u p a0 e
        have h0 : a0.Canon := by
          refine IfSome.get (P := fun r => r.2.Canon) ?_ e
          split
          · exact .none
          · exact ha.placeOn
        exact h0.takeSeq.setChan.bumpBy
  exact h1.emptied

theorem garbage {m : Module} {c} (h : m.Canon) : (Machine.garbage c m).Canon := by
  unfold Machine.garbage
  extract_lets
  split
  · exact h
  · split
    · exact h
    · exact h.setChan.moveOut.gcStatus

theorem wearMove {m : Module} {c} (h : m.Canon) : (Machine.wearMove c m).Canon := by
  unfold Machine.wearMove
  extract_lets
  split
  · exact h
  · split
    · exact h
    · exact h.moveOut

theorem refresh {m : Module} {c b} (h : m.Canon) : (Machine.refresh c b m).Canon := .ite h h.moveOut.bump

theorem nandTemp {m : Module} {temps} (h : m.Canon) : (Machine.nandTemp temps m).Canon := by
  unfold Machine.nandTemp
  extract_lets _ m1 _ _ _ _ _ _ _ _ m2 _ m3
  have h1 : m1.Canon := by
    unfold m1
    refine h.foldl (fun a c ha => ?_)
    exact ha.setChan
  have h2 : m2.Canon := .frame ((h1.foldl (fun _ _ ha => ha.flushChan)))
  have h3 : m3.Canon := h2.set.set.set
  exact .flushedCmds (.ite h3.set h3)

theorem tempHour {m : Module} (h : m.Canon) : m.tempHour.Canon := .frame h

theorem holdupPrograms {m : Module} (h : m.Canon) : m.holdupPrograms.Canon := by
  unfold Module.holdupPrograms
  refine h.foldl (fun a c ha => ?_)
  extract_lets _ _ _ _ _ a1
  have ha1 : a1.Canon := .bumpBy (.frame ha)
  exact ha1.setChan.foldl (fun _ _ h => h.programmed)

theorem flashStops {m : Module} (h : m.Canon) : m.flashStops.Canon := .frame h

theorem holdupFlush {m : Module} (h : m.Canon) : m.holdupFlush.Canon :=
  .flashStops (h.holdupPrograms.foldl (fun _ _ ha => ha.flushChan))

theorem flashPowerLoss {m : Module} (h : m.Canon) : m.flashPowerLoss.Canon := .frame h.flashStops

theorem ftlRebuild {m : Module} {holdsOk} (h : m.Canon) : (Machine.ftlRebuild holdsOk m).Canon := by
  unfold Machine.ftlRebuild
  split
  extract_lets _ _ _ m1 m2 m3 _ m4 m5
  have h1 : m1.Canon := .frame h
  have h2 : m2.Canon := .ite h1 h1.set.event
  have h3 : m3.Canon := .ite h2 h2.set.event
  have h4 : m4.Canon := h3.foldl (fun _ _ ha => ha.ftlUnmap)
  have h5 : m5.Canon := by
    unfold m5
    refine h4.foldl (fun a c ha => ?_)
    exact .ite ha ha.setChan.bumpBy
  exact h5.set.set.set.set.set

/-! #### Machine/Sched -/

theorem loadBank {m : Module} {b} (h : m.Canon) : (m.loadBank b).Canon := .frame h

theorem tableLoadCmd {m : Module} {c} (h : m.Canon) : (Machine.tableLoadCmd c m).Canon := by
  unfold Machine.tableLoadCmd
  extract_lets
  refine h.checked (fun m h => h.withHost (fun m h => ?_))
  exact .ite h.badField (.ite h.badField h.loadBank.await)

theorem tableOffCmd {m : Module} {c} (h : m.Canon) : (Machine.tableOffCmd c m).Canon := .await (.frame h)

theorem jobSetCmd {m : Module} {c} (h : m.Canon) : (Machine.jobSetCmd c m).Canon := by
  unfold Machine.jobSetCmd
  extract_lets _ _ _ _ _ _ _ _ noticePart
  clear_value noticePart
  refine h.checked (fun m h => ?_)
  extract_lets _ m1 _ m2
  have h1 : m1.Canon := .ite h.updJob (.frame h)
  have h2 : m2.Canon := by
    unfold m2
    split
    · exact .frame h1
    · exact h1
  exact h2.followHolds.ok

theorem finishSuspends {m : Module} (h : m.Canon) : m.finishSuspends.Canon := h.foldl (fun _ _ ha => ha.ok)

theorem setSuspended {m : Module} {v} (h : m.Canon) : (m.setSuspended v).Canon := .set (.frame h)

theorem suspendCmd {m : Module} {c} (h : m.Canon) : (Machine.suspendCmd c m).Canon :=
  h.checked (fun _ h => h.setSuspended.followHolds.await.finishSuspends)

theorem partQueryCmd {m : Module} {c} (h : m.Canon) : (Machine.partQueryCmd c m).Canon := by
  unfold Machine.partQueryCmd
  extract_lets
  refine h.checked (fun _ h => ?_)
  exact h.ok

theorem suspendRow {m : Module} {src} (h : m.Canon) : (Machine.suspendRow src m).Canon :=
  .ite h.finishSuspends (h.onCmd (fun _ _ h => h.suspendCmd))

theorem noSlots {m : Module} (h : m.Canon) : m.noSlots.Canon := h.foldl (fun _ _ ha => .ite ha.set ha)

theorem cycleStart {m : Module} (h : m.Canon) : m.cycleStart.Canon := by
  unfold Module.cycleStart
  extract_lets _ _ _ _ _ _ m1 m2 m3
  have h1 : m1.Canon := .frame h
  have h2 : m2.Canon := h1.set.set.set.set
  have h3 : m3.Canon := .ite (h2.foldl (fun _ _ ha => ha.ok)) h2
  exact .ite (h3.noSlots.foldl (fun _ _ ha => ha.ok)) h3

theorem enterSlot {m : Module} {n} (h : m.Canon) : (m.enterSlot n).Canon := by
  unfold Module.enterSlot
  extract_lets _ _ _ m1
  have h1 : m1.Canon := .frame h
  exact h1.set.set.set.followHolds.finishSuspends

theorem beforeEpoch {m : Module} (h : m.Canon) : m.beforeEpoch.Canon := by
  unfold Module.beforeEpoch
  extract_lets _ m1
  have h1 : m1.Canon := .frame h
  exact h1.set.set.followHolds.finishSuspends

theorem beginSlot {m : Module} (h : m.Canon) : m.beginSlot.Canon := by
  unfold Module.beginSlot
  split
  · exact .frame h.enterSlot
  · exact h.beforeEpoch

theorem schedStep {m : Module} {old} (h : m.Canon) : (m.schedStep old).Canon := by
  unfold Module.schedStep
  split
  · exact h
  · extract_lets newSlot _ m1
    have h1 : m1.Canon := h.set.event
    split
    · clear_value m1 newSlot
      split
      · exact .ite h1.bumpBy (.frame (beginSlot (bumpBy (ite h1.bumpBy.cycleStart h1.bumpBy))))
      · exact h1
    · exact .ite (.followHolds (.set (.set (.frame h1.bumpBy)))) h1.set

theorem preemptExpiry {m : Module} {j} (h : m.Canon) : (Machine.preemptExpiry j m).Canon := by
  unfold Machine.preemptExpiry
  split
  · exact h.bump.set.suspendJob.blockEvent.finishSuspends
  · exact h

/-! #### Machine/OpsAdmit -/

theorem flushCarry {m : Module} {id} (h : m.Canon) : (m.flushCarry id).Canon := h.bump.bump.set.writeText

theorem tookInput {m : Module} {id x} (h : m.Canon) : (m.tookInput id x).Canon := by
  unfold Module.tookInput
  split
  · extract_lets m1 m2
    have h1 : m1.Canon := h.bumpBy.bumpBy
    have h2 : m2.Canon := .ite h1 h1.bumpBy.set
    exact .ite h2 h2.writeText
  · exact h.flushCarry
  · exact h

theorem installPrefix {m : Module} {id h} (hm : m.Canon) : (m.installPrefix id h).Canon := by
  unfold Module.installPrefix
  split
  · exact hm
  · extract_lets _ _ m1
    have h1 : m1.Canon := hm.takeLists.foldl (fun _ _ ha => ha.addShare)
    exact h1.updCap

theorem takeEntry {m : Module} {a cmd} (h : m.Canon) : (m.takeEntry a cmd).1.Canon := by
  unfold Module.takeEntry
  extract_lets _ _ _ m1
  have h1 : m1.Canon := h.pins.updCap
  exact .clearHands (.frame (ite h1.installPrefix h1))

theorem undoEntry {m : Module} {i olds oldPrefix resolved} (h : m.Canon) :
    (m.undoEntry i olds oldPrefix resolved).Canon := by
  unfold Module.undoEntry
  split
  · exact h
  · extract_lets m1 m2
    have h1 : m1.Canon := h.pins
    have h2 : m2.Canon := .ite h1.releaseFrames h1
    exact .endRevive (.frame h2.updCap)

theorem activate {m : Module} {i x resolved} (h : m.Canon) : (m.activate i x resolved).Canon := by
  unfold Module.activate
  split
  · exact h
  · extract_lets m1 m2
    have h1 : m1.Canon := h.updReq
    have h2 : m2.Canon := .ite h1.abandonPark h1
    exact h2.writeCap.tookInput.followPrefix.bump.bumpBy.bumpBy.touchReq.appendInput

theorem countRefused {m : Module} {st} (h : m.Canon) : (m.countRefused st).Canon := .ite h.bump h.bump

theorem admitNow {m : Module} {a kind b} (h : m.Canon) : (m.admitNow a kind b).1.Canon := by
  unfold Module.admitNow
  extract_lets
  split
  rename_i x m1 i e
  have h1 : m1.Canon := .of_fst e h.takeEntry
  exact h1.revive.activate

theorem refuseAdmit {m : Module} {c v} (h : m.Canon) : (m.refuseAdmit c v).Canon := h.loadHeader.loadMap.countRefused.verdict

theorem stepAdmitCmd {m : Module} {c} (h : m.Canon) : (Machine.stepAdmitCmd c m).Canon := by
  unfold Machine.stepAdmitCmd
  extract_lets
  split
  · exact h.refuseAdmit
  · split
    · exact h.refuseAdmit
    · refine h.heldOr (fun m h => ?_)
      split
      · exact h.refuseAdmit
      · extract_lets
        split
        rename_i x m1 i e
        have h1 : m1.Canon := .of_fst e h.takeEntry
        extract_lets m2
        have h2 : m2.Canon := h1.revive
        exact .ite h2.activate.ok h2.await

theorem failAdmit {m : Module} {c v} (h : m.Canon) : (m.failAdmit c v).Canon := h.undoEntry.refuseAdmit

theorem admitInputRead {m : Module} {src ok} (h : m.Canon) : (Machine.admitInputRead src ok m).Canon := by
  unfold Machine.admitInputRead
  split
  · exact h
  · extract_lets
    split
    · exact h
    · split
      · exact h.failAdmit
      · split
        · exact h.failAdmit
        · exact h.activate.ok

/-! #### Machine/Steps -/

theorem resumeReq {m : Module} {i} (h : m.Canon) : (m.resumeReq i).Canon := h.updReq

theorem addInput {m : Module} {i x} (h : m.Canon) : (m.addInput i x).Canon := by
  unfold Module.addInput
  split
  · exact h
  · extract_lets m1
    have h1 : m1.Canon := h.tookInput.resumeReq
    exact .ite h1.updReq.touchReq h1.touchReq.appendInput

theorem stepAppendCmd {m : Module} {c} (h : m.Canon) : (Machine.stepAppendCmd c m).Canon := by
  unfold Machine.stepAppendCmd
  extract_lets _ _ _ _ _ _ _ _ go
  have hgo : ∀ m, m.Canon → (go m).Canon := by
    intro m h
    unfold go
    extract_lets
    split
    · exact h.fail
    · exact .ite (.ite h.fail h.badField) (.ite h.fail h.addInput.ok)
  clear_value go
  exact h.checked (fun m h => h.heldOr (fun m h => .ite h.addInput.ok (.ite (h.withHost hgo) (hgo _ h))))

theorem stepWaitCmd {m : Module} {c} (h : m.Canon) : (Machine.stepWaitCmd c m).Canon := by
  unfold Machine.stepWaitCmd
  extract_lets
  refine h.checked (fun m h => h.heldOr (fun m h => ?_))
  extract_lets m1
  have h1 : m1.Canon := .ite h.updReq (.ite h.updReq h)
  exact .ok (.ite h1 h1.touchReq)

theorem endByHost {m : Module} {i reason park} (h : m.Canon) : (m.endByHost i reason park).Canon := by
  unfold Module.endByHost
  split
  · exact h
  · extract_lets m1
    have h1 : m1.Canon := h.updReq
    exact .ite h1.updReq.touchReq h1.endNow

theorem stepEndCmd {m : Module} {c} (h : m.Canon) : (Machine.stepEndCmd c m).Canon :=
  h.checked (fun _ h => h.heldOr (fun _ h => h.endByHost.ok))

theorem stepQueryCmd {m : Module} {c} (h : m.Canon) : (Machine.stepQueryCmd c m).Canon := by
  unfold Machine.stepQueryCmd
  extract_lets
  refine h.checked (fun m h => ?_)
  split
  · exact h.ok
  · exact h

theorem stepSetCmd {m : Module} {c} (h : m.Canon) : (Machine.stepSetCmd c m).Canon := by
  unfold Machine.stepSetCmd
  extract_lets
  refine h.checked (fun m h => h.heldOr (fun m h => ?_))
  exact h.updReq.touchReq.ok

theorem poolBindCmd {m : Module} {c} (h : m.Canon) : (Machine.poolBindCmd c m).Canon := by
  unfold Machine.poolBindCmd
  extract_lets
  refine h.checked (fun m h => ?_)
  extract_lets m1 _ m2
  have h1 : m1.Canon := h.updPart
  have h2 : m2.Canon := .ite h1 (.enqueue (.frame h1))
  exact h2.ok

theorem ringSetCmd {m : Module} {c} (h : m.Canon) : (Machine.ringSetCmd c m).Canon :=
  h.checked (fun _ h => h.updPart.set.set.ok)

theorem ringGo {m : Module} {p} (h : m.Canon) : (m.ringGo p).Canon := .ringFlag (.ite h.drainRing h)

theorem ringResume {m : Module} {p} (h : m.Canon) : (m.ringResume p).Canon := by
  unfold Module.ringResume
  extract_lets m1
  have h1 : m1.Canon := h.ringGo
  split
  · exact .ite h1.msix h1
  · exact h1

theorem ringTailWrite {m : Module} {p v} (h : m.Canon) : (Machine.ringTailWrite p v m).Canon := .ite h.set.ringGo h.dropWrite

theorem stepBatchCmd {m : Module} {c} (h : m.Canon) : (Machine.stepBatchCmd c m).Canon := by
  unfold Machine.stepBatchCmd
  extract_lets
  refine h.checked (fun m h => h.withHost (fun m h => ?_))
  exact h.updPart.await

/-! #### Machine/Build -/

theorem unhold {m : Module} {i} (h : m.Canon) : (m.unhold i).Canon := by
  unfold Module.unhold
  split
  · exact h
  · exact .ite h.updReq.touchReq h

theorem strictCuts {m : Module} {p} (h : m.Canon) : (m.strictCuts p).Canon := by
  unfold Module.strictCuts
  refine h.foldl (fun a x ha => ?_)
  split
  exact .ite ha (.ite (.ite ha.bump.endNow (.ite ha.updReq.touchReq.bump ha)) (.ite ha.updReq.touchReq.bump ha))

theorem schedHolds {m : Module} {p} (h : m.Canon) : (m.schedHolds p).Canon := by
  unfold Module.schedHolds
  split
  · refine h.foldl (fun a x ha => ?_)
    split
    exact .ite ha.updReq.touchReq ha
  · exact h

theorem unrelieve {m : Module} {p} (h : m.Canon) : (m.unrelieve p).Canon := by
  unfold Module.unrelieve
  refine h.foldl (fun a x ha => ?_)
  split
  exact .ite ha.updReq.unhold ha

theorem budgetSkips {m : Module} {p} (h : m.Canon) : (m.budgetSkips p).Canon := by
  unfold Module.budgetSkips
  refine h.foldl (fun a x ha => ?_)
  split
  exact .ite ha.updReq.touchReq.bump ha

theorem closeAll {m : Module} {p} (h : m.Canon) : (m.closeAll p).Canon := h.foldl (fun _ _ ha => .ite ha.closePeriods ha)

theorem takePool {m : Module} {p} (h : m.Canon) : (m.takePool p).Canon := h.updPart

theorem feedOf {m : Module} {i r room} (h : m.Canon) : (m.feedOf i r room).2.Canon := by
  unfold Module.feedOf
  extract_lets _ _ _ m1
  have h1 : m1.Canon := .bump (.withHbm h (Mem.wr_wf _ _ h.hbm))
  split
  · exact h1.bumpBy
  · exact .ite h.bump h
  · exact .ite h.bump h
  · exact h

/-- Taking a request into a work list keeps the memories of the module that is being built on. -/
theorem take {p g x} (h : (Gather.m g).Canon) : (Gather.m (Machine.Gather.take p g x)).Canon := by
  unfold Machine.Gather.take
  extract_lets
  split
  · exact h
  · split
    · exact h
    · split
      · exact h
      · extract_lets
        split
        · exact h
        · split
          rename_i y m1 pre e
          have h1 : m1.Canon := .of_fst e (by split <;> [exact h.relieve; exact h])
          extract_lets
          split <;> exact h1

theorem finish {cores g} (h : (Gather.m g).Canon) : (Machine.Gather.finish cores g).1.Canon := by
  unfold Machine.Gather.finish
  refine h.foldl (fun a x ha => ?_)
  split
  · exact ha.feedOf
  · exact ha

theorem sendPins {m : Module} {p qs} (h : m.Canon) : (m.sendPins p qs).Canon := by
  unfold Module.sendPins
  refine h.foldl (fun a q ha => ?_)
  split
  · exact .ite ha ha.updReq.toPool
  · exact ha

theorem publish {m : Module} {p form qs batch included leftOut} (h : m.Canon) :
    (m.publish p form qs batch included leftOut).Canon := by
  unfold Module.publish
  extract_lets _ _ _ m1 _ m3 _ _ _ m5
  have h1 : m1.Canon := by
    unfold m1
    refine h.foldl (fun a q ha => ?_)
    exact ha.updReq.bumpBy
  have h3 : m3.Canon := h1.updPart.set.bump.bumpBy.sendPins.toPoolRing
  have h5 : m5.Canon := .frame (ite h3.expect h3)
  exact h5.takeEntries.adoptOrphans

theorem preBuild {m : Module} {p} (h : m.Canon) : (m.preBuild p).Canon :=
  h.takePool.closeAll.strictCuts.schedHolds.unrelieve.budgetSkips

theorem useSlot {m : Module} {p} (h : m.Canon) : (m.useSlot p).Canon := .frame h

theorem endDamaged {m : Module} {i} (h : m.Canon) : (m.endDamaged i).Canon := by
  unfold Module.endDamaged
  split
  · exact h.loadHeader.loadMap.endNow
  · exact h

theorem gather {m : Module} {p most cands} (h : m.Canon) : (m.gather p most cands).1.Canon := by
  unfold Module.gather
  extract_lets _ g
  have hg : g.m.Canon := List.foldlRecOn (motive := fun g : Gather => g.m.Canon) _ _ h fun g hg x _ => by
    split
    · exact hg.take
    · exact hg
  split
  rename_i x m1 qs e
  have h1 : m1.Canon := .of_fst e (finish hg)
  extract_lets m2
  have h2 : m2.Canon := h1.foldl (fun _ _ ha => ha.endNow)
  exact h2.foldl (fun _ _ ha => ha.endDamaged)

theorem age {m : Module} {left} (h : m.Canon) : (m.age left).Canon := h.foldl (fun _ _ ha => .ite ha.updReq.touchReq ha)

theorem buildStep {m : Module} {p} (h : m.Canon) : (m.buildStep p).Canon := by
  unfold Module.buildStep
  extract_lets
  split
  rename_i x g qs gone e
  have hg : g.Canon := .of_fst e h.preBuild.gather
  extract_lets _ m2
  have h2 : m2.Canon := .ite hg hg.age.useSlot
  exact .ite h2 h2.publish

theorem buildBatch {m : Module} {p} (h : m.Canon) : (m.buildBatch p).Canon := by
  unfold Module.buildBatch
  extract_lets m1
  have h1 : m1.Canon := h.preBuild
  split
  · exact h1
  · extract_lets
    split
    rename_i x g qs gone e
    have hg : g.Canon := .of_fst e h1.updPart.gather
    extract_lets _ m3
    have h3 : m3.Canon := hg.age.useSlot
    split
    · split
      · exact h3.ok
      · exact h3
    · exact h3.publish

theorem stepBuild {m : Module} {p} (h : m.Canon) : (Machine.stepBuild p m).Canon := .ite h (.ite h.buildStep h.buildBatch)

theorem openBuilds {m : Module} (h : m.Canon) : m.openBuilds.Canon := .bumpBy (.frame h)

theorem slotBoundary {m : Module} (h : m.Canon) : (Machine.slotBoundary m).Canon := by
  unfold Machine.slotBoundary
  split
  · exact h.set
  · extract_lets _ _ _ m1 _ m2
    have h1 : m1.Canon := h.bumpBy.set
    have h2 : m2.Canon := .ite h1.cycleStart h1
    exact .ite h h2.beginSlot.openBuilds

/-! #### Machine/Phases -/

theorem prepareSeq {m : Module} {p num q} (h : m.Canon) : (m.prepareSeq p num q).Canon := by
  unfold Module.prepareSeq
  extract_lets
  split
  extract_lets hbm
  have hw : hbm.wf = true := Mem.wrN_wf _ _ (Mem.wrN_wf _ _ (Mem.wrN_wf _ _ (Mem.wrN_wf _ _ h.hbm)))
  exact .updSeq (h.withHbm hw)

theorem samplePrepare {m : Module} {p} (h : m.Canon) : (Machine.samplePrepare p m).Canon :=
  h.foldl (fun _ _ ha => ha.foldl (fun _ _ hb => .ite hb.prepareSeq hb))

theorem accountSeq {m : Module} {p num q} (h : m.Canon) : (m.accountSeq p num q).Canon := by
  unfold Module.accountSeq
  split
  · exact h
  · extract_lets _ _ _ _ _ _ m1 m2 m3 m4 m5
    have h1 : m1.Canon := h.updSeq
    have h2 : m2.Canon := .ite h1 h1.bumpBy.set
    have h3 : m3.Canon := h2.bumpBy.bumpBy
    have h4 : m4.Canon := .ite h3.bump.set.event h3
    have h5 : m5.Canon := h4.bumpBy
    exact .ite h5 h5.debit.updSeq

theorem accountPhase {m : Module} {p} (h : m.Canon) : (Machine.accountPhase p m).Canon := by
  unfold Machine.accountPhase
  split
  · exact h
  · exact .ite (h.foldl (fun _ _ ha => .ite ha ha.accountSeq)) h

theorem makeRoom {m : Module} {q} (h : m.Canon) : IfSome Canon (m.makeRoom q) := by
  unfold Module.makeRoom
  extract_lets _ m1
  have h1 : IfSome Canon m1 := by
    unfold m1
    split
    · exact h.copyShared.map fun _ ha => ha.mirrorSlot
    · exact .some h
  exact h1.foldl fun _ _ hacc => hacc.bind fun _ ha => ha.addPage

theorem writeSeqSlots {m : Module} {p num q} (h : m.Canon) : (m.writeSeqSlots p num q).Canon := by
  unfold Module.writeSeqSlots
  extract_lets
  refine h.foldl (fun a l ha => ?_)
  extract_lets _ a1
  have ha1 : a1.Canon := ha.foldl (fun _ _ hb => hb.writeSlot)
  refine ha1.foldl (fun b pg hb => ?_)
  exact hb.sendSlots

theorem settleEnd {m : Module} {p num q} (h : m.Canon) : (m.settleEnd p num q).Canon := by
  unfold Module.settleEnd
  split
  · exact .ite h.updSeq h
  · exact h

theorem sendPost {m : Module} {p num q outs} (h : m.Canon) : (m.sendPost p num q outs).Canon := by
  unfold Module.sendPost
  split
  · exact h
  · exact h.mirrorSlot.mirrorSlot.mirrorSlot

theorem writeSeq {m : Module} {p num q0} (h : m.Canon) : (m.writeSeq p num q0).Canon := by
  unfold Module.writeSeq
  extract_lets m0
  have h0 : m0.Canon := h.settleEnd
  split
  · exact h0
  · extract_lets bad room
    have hroom : IfSome Canon room := h0.updSeq.makeRoom
    clear_value bad room
    split
    · exact h0.damage.endError
    · exact h0.endError
    · rename_i m1
      have h1 : m1.Canon := hroom.get rfl
      extract_lets m2 out _ m3 _ _ m4 m5
      have h3 : m3.Canon := h1.writeSeqSlots.updSeq.updReq
      have h4 : m4.Canon := .ite h3 h3.bumpBy.set
      have h5 : m5.Canon := h4.sendPost
      clear_value m5 m4 out
      split
      · exact h4
      · split
        · exact h5.updPart
        · exact h5

theorem sendMark {m : Module} {p num outs} (h : m.Canon) : (m.sendMark p num outs).Canon := by
  unfold Module.sendMark
  split
  · exact h.send.send.updPart
  · exact h

theorem resendStep {m : Module} {p s} (h : m.Canon) : (m.resendStep p s).Canon := by
  unfold Module.resendStep
  extract_lets _ m1
  have h1 : m1.Canon := by
    unfold m1
    refine h.foldl (fun a q ha => ?_)
    extract_lets _ a1 a2
    have ha1 : a1.Canon := by
      unfold a1
      refine ha.foldl (fun b l hb => ?_)
      extract_lets
      refine hb.foldl (fun b pg hb => ?_)
      exact hb.sendSlots
    have ha2 : a2.Canon := by
      unfold a2
      split
      · exact ha1
      · split
        · exact ha1.sendAccount
        · exact ha1
    exact ha2.sendPost
  exact h1.sendMark

theorem lateMarks {m : Module} (h : m.Canon) : m.lateMarks.Canon :=
  .ite (h.foldl (fun _ _ ha => ha.foldl (fun _ _ hb => .ite hb.resendStep hb))) h

theorem draftJobs {m : Module} {p qs} (h : m.Canon) : (m.draftJobs p qs).Canon := by
  unfold Module.draftJobs
  refine h.foldl (fun a q ha => ?_)
  split
  · split
    · split
      · extract_lets _ a1
        have ha1 : a1.Canon := .withHbm ha (Mem.wrN_wf _ _ ha.hbm)
        exact ha1.updPart.engineSignal
      · exact ha
    · exact ha
  · exact ha

theorem commitSeq {m : Module} {num outs q} (h : m.Canon) : (m.commitSeq num outs q).Canon := by
  unfold Module.commitSeq
  split
  · exact h
  · extract_lets
    refine h.updReq.fixBlocks.ckptHeader.updCap.foldl (fun a l ha => ha.foldl (fun b k hb => ?_))
    split
    · exact hb.writeSlot
    · exact hb

theorem afterCommit {m : Module} {q late} (h : m.Canon) : (m.afterCommit q late).Canon := by
  unfold Module.afterCommit
  split
  · exact h.takeGrammar.freeReq
  · extract_lets m1
    have h1 : m1.Canon := h.afterStep
    exact .ite h1.endNow h1

theorem clearStep {m : Module} {p s} (h : m.Canon) : (m.clearStep p s).Canon := .frame h.bumpBy

theorem commitStep {m : Module} {p s} (h : m.Canon) : (m.commitStep p s).Canon := by
  unfold Module.commitStep
  extract_lets _ _ m1 _ m3 m4 m5 m6 m7
  have h1 : m1.Canon := h.foldl (fun _ _ ha => ha.commitSeq)
  have h3 : m3.Canon := h1.bumpBy.release.updPart.set
  have h4 : m4.Canon := .ite h3.send h3
  have h5 : m5.Canon := h4.clearStep.foldl (fun _ _ ha => ha.afterCommit)
  have h6 : m6.Canon := .draftJobs (h5.foldl (fun _ _ ha => ha.runTruncates))
  have h7 : m7.Canon := by
    unfold m7
    split
    · exact h6.ok
    · exact h6
  exact h7.finishMoves.checkParks

theorem writePhase {m : Module} {p} (h : m.Canon) : (Machine.writePhase p m).Canon := by
  unfold Machine.writePhase
  split
  · exact h
  · split
    · exact h
    · split
      · exact h
      · extract_lets m1 _ _ m3
        have h1 : m1.Canon := h.foldl (fun _ _ ha => .ite ha ha.writeSeq)
        have h3 : m3.Canon := h1.updPart.sendMark.finishMoves
        split
        · exact .ite h3.commitStep h3
        · exact h3

theorem outputCommit {m : Module} {p} (h : m.Canon) : (Machine.outputCommit p m).Canon := by
  unfold Machine.outputCommit
  split
  · exact .ite (.commitStep (.ite h.bumpBy h)) h
  · exact h

/-! #### Machine/Mouth -/

theorem showTokenizers {m : Module} (h : m.Canon) : m.showTokenizers.Canon := h.set

theorem showGrammars {m : Module} (h : m.Canon) : m.showGrammars.Canon := h.set

theorem tokenizerLoadCmd {m : Module} {c} (h : m.Canon) : (Machine.tokenizerLoadCmd c m).Canon := by
  unfold Machine.tokenizerLoadCmd
  extract_lets
  refine h.checked (fun m h => ?_)
  exact .ok (.showTokenizers (.frame h.measure))

theorem tokenizerUnloadCmd {m : Module} {c} (h : m.Canon) : (Machine.tokenizerUnloadCmd c m).Canon := by
  unfold Machine.tokenizerUnloadCmd
  extract_lets
  refine h.checked (fun m h => ?_)
  exact .ok (.showTokenizers (.frame h.unmeasure))

theorem grammarLoadCmd {m : Module} {c} (h : m.Canon) : (Machine.grammarLoadCmd c m).Canon := by
  unfold Machine.grammarLoadCmd
  extract_lets
  refine h.checked (fun m h => ?_)
  exact .ok (.showGrammars (.frame h.measure))

theorem grammarUnloadCmd {m : Module} {c} (h : m.Canon) : (Machine.grammarUnloadCmd c m).Canon := by
  unfold Machine.grammarUnloadCmd
  extract_lets
  refine h.checked (fun m h => ?_)
  exact .ok (.showGrammars (.frame h.unmeasure))

theorem grammarSetCmd {m : Module} {c} (h : m.Canon) : (Machine.grammarSetCmd c m).Canon := by
  unfold Machine.grammarSetCmd
  extract_lets
  refine h.checked (fun m h => h.heldOr (fun m h => ?_))
  split
  · exact .ite h.updReq.ok h.writeText.ok
  · exact h.writeCap.ok

theorem stopLoadCmd {m : Module} {c} (h : m.Canon) : (Machine.stopLoadCmd c m).Canon := by
  unfold Machine.stopLoadCmd
  extract_lets
  refine h.checked (fun m h => ?_)
  extract_lets _ m1
  have h1 : m1.Canon := .frame h
  exact .ok (.withLpddr h1 (Mem.wrN_wf _ _ h1.lpddr))

theorem textSetCmd {m : Module} {c} (h : m.Canon) : (Machine.textSetCmd c m).Canon :=
  h.checked (fun _ h => h.heldOr (fun _ h => .ite h.updReq.ok h.updReq.touchReq.ok))

theorem tokenizeCmd {m : Module} {c} (h : m.Canon) : (Machine.tokenizeCmd c m).Canon := by
  unfold Machine.tokenizeCmd
  extract_lets _ _ _ _ _ t _ go
  have hgo : ∀ m, m.Canon → (go m).Canon := by
    intro m h
    unfold go
    clear_value t
    split
    · exact h
    · split
      extract_lets _ _ _ m1 m2
      have h1 : m1.Canon := h.bumpBy.bumpBy
      have h2 : m2.Canon := .ite h1 h1.bumpBy.set
      exact .ite h.badField h2.cmdWrite.complete
  clear_value go
  exact h.checked (fun m h => .ite (h.withHost hgo) (hgo _ h))

theorem carryFlushCmd {m : Module} {c} (h : m.Canon) : (Machine.carryFlushCmd c m).Canon := by
  unfold Machine.carryFlushCmd
  extract_lets
  refine h.checked (fun m h => h.heldOr (fun m h => ?_))
  split
  · exact h.ok
  · split
    · exact .ite h.flushCarry.ok h.addInput.ok
    · exact h.flushCarry.ok

theorem handToken {m : Module} {p i node token flag} (h : m.Canon) : (m.handToken p i node token flag).1.Canon := by
  unfold Module.handToken
  split
  · exact h
  · extract_lets m1
    have h1 : m1.Canon := h.bump
    split
    · exact h1.updSeq
    · exact h1.updSeq.bump.set

theorem nextMaskWrite {m : Module} {p i} (h : m.Canon) : (Machine.nextMaskWrite p i m).Canon := by
  unfold Machine.nextMaskWrite
  split
  · exact h
  · extract_lets _ _ _ m1
    have h1 : m1.Canon := .withHbm h (Mem.putNum_wf _ _ _ (Mem.putNum_wf _ _ _ h.hbm))
    exact h1.updSeq.engineSignal

/-! #### Machine/OpsPower -/

theorem hint {m : Module} {level lead duration} (h : m.Canon) : (m.hint level lead duration).Canon := by
  unfold Module.hint
  extract_lets _ _ _ m1
  have h1 : m1.Canon := .frame h
  exact .ite h1.bump h1

theorem ownHint {m : Module} (h : m.Canon) : m.ownHint.Canon := by
  unfold Module.ownHint
  split
  rename_i x stays m1 e
  have h1 : m1.Canon := .of_snd e h.choose
  split
  rename_i x stays m1 e
  have h1 : m1.Canon := .of_snd e h1.choose
  split
  rename_i x stays m1 e
  have h1 : m1.Canon := .of_snd e h1.choose
  exact h1.hint

/-! #### Machine/OpsBore -/

theorem boreWrite {m : Module} {ext ss} (h : m.Canon) : (m.boreWrite ext ss).1.Canon := by
  unfold Module.boreWrite
  refine foldl_fst h fun acc x ha => ?_
  split
  split
  · exact ha
  · split
    rename_i y m1 st e
    have h1 : m1.Canon := .of_fst e ha.ftlWrite
    split
    · exact h1
    · exact h1
    · exact h1.bump

theorem boreStore {m : Module} {index shard r b whole} (h : m.Canon) : (m.boreStore index shard r b whole).1.Canon := by
  unfold Module.boreStore
  split
  · exact h
  · split
    exact .frame h.boreWrite

theorem updShard {m : Module} {index s f} (h : m.Canon) : (m.updShard index s f).Canon := .frame h

theorem boreShow {m : Module} (h : m.Canon) : m.boreShow.Canon := by
  unfold Module.boreShow
  extract_lets
  refine h.set.set.set.foldl (fun a i ha => ?_)
  split <;> exact ha.set.set

theorem boreCheckFail {m : Module} {index node} (h : m.Canon) : (m.boreCheckFail index node).Canon := h.bump.set.event

theorem boreFetch {m : Module} {index shard r} (h : m.Canon) : (m.boreFetch index shard r).2.Canon := by
  unfold Module.boreFetch
  split
  · extract_lets m1
    have h1 : m1.Canon := h.bumpBy
    split
    · exact h1
    · exact h1.boreCheckFail
  · exact h

theorem boreArbiter {m : Module} {u} (h : m.Canon) : (m.boreArbiter u).Canon := by
  unfold Module.boreArbiter
  extract_lets _ _ m1
  have h1 : m1.Canon := h.foldl (fun _ _ ha => ha.reedDrop)
  exact h1.foldl (fun _ _ ha => ha.reedRequest)

theorem boreArbiters {m : Module} (h : m.Canon) : m.boreArbiters.Canon := h.foldl (fun _ _ h => h.boreArbiter)

theorem pumpWalk {m : Module} {id fuel} (h : m.Canon) : (m.pumpWalk id fuel).Canon := by
  induction fuel generalizing m with
  | zero => exact h
  | succ fuel ih =>
    unfold Module.pumpWalk
    split
    · exact h
    · split
      · exact h
      · split
        · exact h
        · exact ih (.frame h)

theorem pumpUnit {m : Module} {u} (h : m.Canon) : (m.pumpUnit u).Canon := by
  unfold Module.pumpUnit
  refine h.foldl (fun a x ha => ?_)
  split
  exact ha.pumpWalk

theorem startWalk {m : Module} {why index shard vec sketch k limit beam hops any mask value} (h : m.Canon) :
    (m.startWalk why index shard vec sketch k limit beam hops any mask value).Canon := .frame h

theorem boreExpand {m : Module} {id node failed} (h : m.Canon) : (m.boreExpand id node failed).Canon := by
  unfold Module.boreExpand
  split
  · exact h
  · split
    · exact h
    · extract_lets isQuery w1 put m1 fail
      have hput : ∀ w a, a.Canon → (put w a).Canon := fun w a ha => .frame ha
      have h1 : m1.Canon := .bumpBy (.ite h.bump h)
      have hfail : ∀ a, a.Canon → (fail a).Canon := by
        intro a ha
        unfold fail
        extract_lets m2
        have h2 : m2.Canon := (hput _ _ ha).boreCheckFail
        split
        · exact .frame h2
        · exact h2
      split
      · exact hfail _ h1
      · refine .ite (hfail _ h1) (hput _ _ ?_)
        exact .ite (.bump (.ite h1 h1.bump)) (.ite h1 h1.bump)

theorem boreMerge {m : Module} {q} (h : m.Canon) : (m.boreMerge q).Canon := by
  unfold Module.boreMerge
  split
  · extract_lets _ _ m1 _ _ _ _ _ _ m2 m3
    have h1 : m1.Canon := .frame h
    have h2 : m2.Canon := h1.bump.bumpBy
    have h3 : m3.Canon := .ite h2.fail (.complete (.ite (.withHbm h2 (Mem.wrN_wf _ _ h2.hbm)) h2.cmdWrite))
    exact .ite h (.ite h3 h3.engineSignal)
  · exact .frame h

theorem mergeQueries {m : Module} (h : m.Canon) : m.mergeQueries.Canon := h.foldl (fun _ _ ha => ha.boreMerge)

theorem boreVectors {m : Module} {index shard nodes} (h : m.Canon) : (m.boreVectors index shard nodes).2.Canon := by
  unfold Module.boreVectors
  refine foldl_snd h fun acc n ha => ?_
  split <;> exact .of_snd ‹_› ha.boreFetch

theorem insertDone {m : Module} {n node st} (h : m.Canon) : (m.insertDone n node st).Canon := by
  unfold Module.insertDone
  split
  · exact h
  · exact .frame h

theorem batchesDone {m : Module} (h : m.Canon) : m.batchesDone.Canon := by
  unfold Module.batchesDone
  refine h.foldl (fun a b ha => ?_)
  split
  · exact .frame ha
  · extract_lets _ _ a1
    have ha1 : a1.Canon := .frame ha
    exact .ite ha (.ite ha1.fail (.complete (.ite (.withHbm ha1 (Mem.wrN_wf _ _ ha1.hbm)) ha1.cmdWrite)))

theorem insertWrite {m : Module} {n hits} (h : m.Canon) : (m.insertWrite n hits).Canon := by
  unfold Module.insertWrite
  split
  · exact h
  · split
    · exact h.insertDone
    · extract_lets
      split
      · exact h.insertDone
      · extract_lets
        split
        rename_i x vs a2 e
        have ha2 : a2.Canon := .of_snd e h.boreVectors
        extract_lets
        split
        · rename_i x m1 e
          have h1 : m1.Canon := .of_fst e ha2.boreStore
          exact h1.insertDone
        · rename_i x m1 e
          have h1 : m1.Canon := .of_fst e ha2.boreStore
          extract_lets _ m4
          have h4 : m4.Canon := by
            unfold m4
            refine h1.updShard.foldl (fun a nb ha => ?_)
            extract_lets
            split
            · exact ha
            · split
              · rename_i x a1 e
                have ha1 : a1.Canon := .of_snd e ha.boreFetch
                exact ha1
              · rename_i x b a1 e
                have ha1 : a1.Canon := .of_snd e ha.boreFetch
                extract_lets
                split
                · exact ha1.boreStore
                · split
                  rename_i x vs a2 e
                  have ha2 : a2.Canon := .of_snd e ha1.boreVectors
                  exact ha2.boreStore
          exact .frame h4

theorem insertAdvance {m : Module} {n} (h : m.Canon) : (m.insertAdvance n).Canon := by
  unfold Module.insertAdvance
  split
  · exact h
  · split
    · exact h
    · split
      · split
        · exact h.insertDone
        · split
          · extract_lets
            split
            rename_i x m1 ok1 e
            have h1 : m1.Canon := .of_fst e h.boreStore
            extract_lets m2 _ _ m4
            have h2 : m2.Canon := .ite h1.boreWrite h1
            have h4 : m4.Canon := .frame h2.updShard
            exact .ite h2.insertDone (.ite h4.updShard.bump.insertDone h4)
          · exact h.insertDone
      · exact .ite h.updShard.bump.insertDone h

theorem startInserts {m : Module} (h : m.Canon) : m.startInserts.Canon := by
  unfold Module.startInserts
  refine h.foldl (fun a x ha => ?_)
  split
  extract_lets _ _ a1
  have ha1 : a1.Canon := .frame ha
  exact .ite ha1.startWalk ha

theorem foldRecord {m : Module} {p r} (h : m.Canon) : (m.foldRecord p r).1.Canon := by
  unfold Module.foldRecord
  split
  · exact h
  · split
    · exact h.boreFetch
    · split
      · exact .of_snd ‹_› h.boreFetch
      · rename_i x b m1 e
        have h1 : m1.Canon := .of_snd e h.boreFetch
        extract_lets
        split
        · exact h1
        · split
          rename_i x far m2 e
          have h2 : m2.Canon := .of_snd e (foldl_snd h1 fun acc n ha => by
            split <;> exact .of_snd ‹_› ha.boreFetch)
          extract_lets
          split
          rename_i x vs m3 e
          have h3 : m3.Canon := .of_snd e h2.boreVectors
          exact h3.boreStore

theorem finishPass {m : Module} {id} (h : m.Canon) : (m.finishPass id).Canon := by
  unfold Module.finishPass
  split
  · exact h
  · split
    · exact .frame h
    · extract_lets _ m1 _ hit
      have h1 : m1.Canon := h.foldl fun _ _ ha => ha.foldRecord
      split
      rename_i x es1 m2 e
      have h2 : m2.Canon := by
        refine .of_snd e ?_
        split
        · exact h1
        · refine foldl_snd h1 fun acc n ha => ?_
          split
          · exact ha
          · split
            · exact .of_snd ‹_› ha.boreFetch
            · rename_i y b a e
              have hb : a.Canon := .of_snd e ha.boreFetch
              split
              exact .of_snd ‹_› hb.boreVectors
      extract_lets m3 m4
      have h3 : m3.Canon := .ite h2.boreWrite h2
      have h4 : m4.Canon := h3.updShard
      exact .frame h4.bumpBy

theorem endPass {m : Module} {id st} (h : m.Canon) : (m.endPass id st).Canon := by
  unfold Module.endPass
  split
  · exact h
  · extract_lets _ m1
    have h1 : m1.Canon := .frame h
    refine h1.foldl (fun a cid ha => ?_)
    extract_lets a1
    have ha1 : a1.Canon := ha.updCmd
    split
    · exact ha1
    · exact .ite ha1.complete (.ite ha1 ha1.ok)

theorem advancePass {m : Module} {id} (h : m.Canon) : (m.advancePass id).Canon := by
  unfold Module.advancePass
  split
  · exact h
  · split
    · exact .ite h.endPass h
    · split
      · exact h.endPass
      · split
        · exact h
        · split
          · extract_lets m1
            have h1 : m1.Canon := h.finishPass
            exact .ite h1.endPass h1
          · split
            · exact h
            · exact .frame h

theorem startPass {m : Module} {index shard cmd} (h : m.Canon) : (m.startPass index shard cmd).Canon := by
  unfold Module.startPass
  split
  · exact .frame h
  · split
    · exact h
    · exact .ownHint (.frame h)

theorem endWalks {m : Module} (h : m.Canon) : m.endWalks.Canon := by
  unfold Module.endWalks
  refine h.foldl (fun a x ha => ?_)
  split
  extract_lets _ a1
  have ha1 : a1.Canon := .frame ha
  split
  · exact .frame (ite ha1.bump ha1)
  · exact .insertWrite (.ite ha1.bump ha1)

theorem finishDrops {m : Module} (h : m.Canon) : m.finishDrops.Canon := by
  unfold Module.finishDrops
  refine h.foldl (fun a x ha => ?_)
  split
  split
  · exact ha
  · split
    · exact ha
    · extract_lets _ _ a1
      have ha1 : a1.Canon := .dropExtents (.frame ha)
      split
      · exact ha1.await
      · exact ha1

theorem finishCreates {m : Module} (h : m.Canon) : m.finishCreates.Canon := by
  unfold Module.finishCreates
  refine h.foldl (fun a x ha => ?_)
  split
  split
  · exact ha
  · split
    · exact ha
    · extract_lets _ a1
      have ha1 : a1.Canon := .frame ha
      split
      · exact ha1
      · exact .ite ha1.ok ha1.await

theorem boreRun {m : Module} (h : m.Canon) : m.boreRun.Canon := by
  unfold Module.boreRun
  extract_lets _ m2 _ m4 m5
  have h2 : m2.Canon := h.endWalks.foldl (fun _ _ ha => ha.insertAdvance)
  have h4 : m4.Canon := h2.startInserts.foldl (fun _ _ ha => ha.advancePass)
  have h5 : m5.Canon := h4.foldl (fun _ _ ha => ha.pumpUnit)
  exact h5.endWalks.mergeQueries.batchesDone.finishDrops.finishCreates.boreShow.boreArbiters

/-! #### Machine/Slide -/

theorem dropHints {m : Module} {id es} (h : m.Canon) : (m.dropHints id es).Canon := .frame h

theorem slidePlaceCmd {m : Module} {c} (h : m.Canon) : (Machine.slidePlaceCmd c m).Canon := by
  unfold Machine.slidePlaceCmd
  extract_lets
  refine h.checked (fun m h => h.heldOr (fun m h => ?_))
  extract_lets m1 _ _ m3
  have h1 : m1.Canon := h.updCap.dropHints
  have h3 : m3.Canon := h1.await.foldl (fun _ _ ha => .ite ha.startMove ha)
  exact .ite (.ok (.frame h1)) h3.checkPlace

theorem slideScheduleCmd {m : Module} {c} (h : m.Canon) : (Machine.slideScheduleCmd c m).Canon := by
  unfold Machine.slideScheduleCmd
  extract_lets
  refine h.checked (fun m h => h.withHost (fun m h => ?_))
  extract_lets _ _ _ m1
  have h1 : m1.Canon := .frame h
  split
  · exact h.badField
  · split
    · exact h.fail
    · split
      · exact h1.takeEntries.ok
      · exact .ok (.frame h1)

theorem slideSwapRegisterCmd {m : Module} {c} (h : m.Canon) : (Machine.slideSwapRegisterCmd c m).Canon := by
  unfold Machine.slideSwapRegisterCmd
  extract_lets
  refine h.checked (fun m h => ?_)
  exact .ok (.frame h)

theorem slideSwapReleaseCmd {m : Module} {c} (h : m.Canon) : (Machine.slideSwapReleaseCmd c m).Canon := by
  unfold Machine.slideSwapReleaseCmd
  extract_lets
  refine h.checked (fun m h => ?_)
  split
  · exact h
  · split
    · exact h
    · extract_lets _ m1 _ _ m2
      have h1 : m1.Canon := .await (.frame h)
      have h2 : m2.Canon := h1.foldl (fun _ _ ha => .ite ha.startMove ha.startMove)
      exact h2.finishMoves.checkRelease

theorem hintMove {m : Module} (h : m.Canon) : (Machine.hintMove m).Canon := by
  unfold Machine.hintMove
  split
  · exact h
  · split
    · exact h
    · extract_lets _ m1
      have h1 : m1.Canon := .frame h
      split
      · exact h1
      · exact .ite h1 (h1.foldl (fun _ _ ha => ha.startMove))

theorem issueEntry {m : Module} {e} (h : m.Canon) : (m.issueEntry e).Canon := by
  unfold Module.issueEntry
  extract_lets _ m2
  have h2 : m2.Canon := by
    unfold m2
    refine h.updEntry.foldl (fun a t ha => ?_)
    split
    · exact ha.entryTile
    · exact .ite ha.entryTile ha.startXfer
  exact .ite (h2.foldl (fun _ _ ha => .ite ha ha.startMove)) h2

theorem prefetchIssue {m : Module} {id} (h : m.Canon) : (Machine.prefetchIssue id m).Canon := by
  unfold Machine.prefetchIssue
  split
  · exact h
  · exact .ite h h.issueEntry

theorem endRevives {m : Module} (h : m.Canon) : m.endRevives.Canon := .frame h

theorem readFailed {m : Module} {x block} (h : m.Canon) : (m.readFailed x block).Canon := by
  unfold Module.readFailed
  extract_lets _ _ m2
  have h2 : m2.Canon := .finishMoves (h.damage.foldl (fun _ _ ha => ha.abortMove))
  split
  · extract_lets m3
    have h3 : m3.Canon := h2.entryTile
    split
    · exact .ite h3.endError h3
    · exact h3
  · exact h2

theorem land {m : Module} {x core f request step} (h : m.Canon) : (m.land x core f request step).Canon := by
  unfold Module.land
  split
  · exact .ite h.bump h.updCore
  · exact h

theorem blockXfer {m : Module} {id x} (h : m.Canon) : (m.blockXfer id x).Canon := .frame h

theorem tileComplete {m : Module} {id corrected failed} (h : m.Canon) :
    (Machine.tileComplete id corrected failed m).Canon := by
  unfold Machine.tileComplete
  split
  · exact h
  · split
    · exact h
    · split
      · exact h.blockXfer
      · extract_lets m1 m2
        have h1 : m1.Canon := h.touch
        have h2 : m2.Canon := by
          unfold m2
          split
          · exact h1.flashRead
          · exact h1
        split
        · exact h2.endXfer.finishMoves.endRevives
        · extract_lets _ m3 m4
          have h3 : m3.Canon := .ite h2.spoil h2
          have h4 : m4.Canon := by
            unfold m4
            split
            · split
              · exact .ite h3 h3.land.entryTile
              · exact .ite h3.bump h3
            · exact h3.land
            · exact h3
          split
          · exact h3.readFailed.endXfer.finishMoves.endRevives
          · exact h4.tickMove.hbmArrivals.endXfer.finishMoves.endRevives

theorem prefetchDeadline {m : Module} {id step} (h : m.Canon) : (Machine.prefetchDeadline id step m).Canon := by
  unfold Machine.prefetchDeadline
  split
  · exact .ite h h.miss
  · exact h

theorem stallWarn {m : Module} {id} (h : m.Canon) : (Machine.stallWarn id m).Canon := by
  unfold Machine.stallWarn
  split
  · split
    · exact h
    · extract_lets _ _ m1
      have h1 : m1.Canon := .frame h
      exact h1.set.event
  · exact h

theorem hostCascade {m : Module} (h : m.Canon) : (Machine.hostCascade m).Canon := by
  unfold Machine.hostCascade
  split
  · exact h
  · exact h.foldl (fun _ _ ha => ha.startMove)

theorem hostReadTimeout {m : Module} {id} (h : m.Canon) : (Machine.hostReadTimeout id m).Canon := by
  unfold Machine.hostReadTimeout
  split
  · exact h
  · split
    · exact h
    · split
      · exact .frame h
      · extract_lets _ m1
        have h1 : m1.Canon := by
          unfold m1
          split
          · exact h.bump
          · exact h
        exact h1.endXfer.spoil.readFailed.endRevives

/-! #### Machine/Bore -/

theorem boreCreateCmd {m : Module} {c} (h : m.Canon) : (Machine.boreCreateCmd c m).Canon := by
  unfold Machine.boreCreateCmd
  extract_lets
  refine h.checked (fun m h => ?_)
  extract_lets _ _ m1 m2
  have h1 : m1.Canon := .frame h.makeExtents
  have h2 : m2.Canon := h1.foldl (fun _ _ ha => ha.boreWrite)
  exact h2.await.updCmd.boreRun

theorem boreDropCmd {m : Module} {c} (h : m.Canon) : (Machine.boreDropCmd c m).Canon := by
  unfold Machine.boreDropCmd
  extract_lets
  refine h.checked (fun m h => ?_)
  extract_lets _ m1
  have h1 : m1.Canon := .frame h
  exact h1.await.boreRun

theorem boreInfoCmd {m : Module} {c} (h : m.Canon) : (Machine.boreInfoCmd c m).Canon := by
  unfold Machine.boreInfoCmd
  extract_lets
  refine h.checked (fun m h => ?_)
  split
  · exact h
  · exact h.ok

theorem boreQueryCmd {m : Module} {c} (h : m.Canon) : (Machine.boreQueryCmd c m).Canon := by
  unfold Machine.boreQueryCmd
  extract_lets _ _ _ _ _ _ _ _ _ _ _ _ x _ _ _ _ _ _ _ go
  have hgo : ∀ m, m.Canon → (go m).Canon := by
    intro m h
    unfold go
    clear_value x
    split
    · exact h
    · extract_lets _ _ _ _ m1
      have h1 : m1.Canon := .frame h.await
      exact .ite h.badField (.boreRun (h1.foldl fun _ _ ha => ha.startWalk))
  clear_value go
  exact h.checked (fun m h => .ite (h.withHost hgo) (hgo _ h))

theorem boreInsertCmd {m : Module} {c} (h : m.Canon) : (Machine.boreInsertCmd c m).Canon := by
  unfold Machine.boreInsertCmd
  extract_lets _ _ _ _ _ _ _ x _ _ _ _ _ _ _ go
  have hgo : ∀ m, m.Canon → (go m).Canon := by
    intro m h
    unfold go
    clear_value x
    split
    · exact h
    · extract_lets _ _ m1
      have h1 : m1.Canon := .frame h.await
      refine .boreRun (h1.foldl fun a k ha => ?_)
      extract_lets _ _ _ _ add
      have hadd : ∀ s a, a.Canon → (add s a).Canon := fun s a ha => .frame ha
      refine .ite (hadd _ _ ha).insertDone (.ite (hadd _ _ ha).insertDone ?_)
      split
      · exact hadd _ _ ha
      · exact (hadd _ _ ha).insertDone
  clear_value go
  exact h.checked (fun m h => .ite (h.withHost hgo) (hgo _ h))

theorem deleteOne {m : Module} {i node label} (h : m.Canon) : (m.deleteOne i node label).2.Canon := by
  unfold Module.deleteOne
  extract_lets
  split
  · exact h
  · extract_lets
    split
    · exact h
    · split
      · rename_i x a1 e
        have ha1 : a1.Canon := .of_snd e h.boreFetch
        exact ha1
      · rename_i x b a1 e
        have ha1 : a1.Canon := .of_snd e h.boreFetch
        split
        · exact ha1
        · split
          · exact ha1
          · split
            · rename_i x m1 e
              have h1 : m1.Canon := .of_fst e ha1.boreStore
              exact h1
            · rename_i x m1 e
              have h1 : m1.Canon := .of_fst e ha1.boreStore
              exact h1.updShard.bump

theorem deletesDone {m : Module} (h : m.Canon) : m.deletesDone.Canon := by
  unfold Module.deletesDone
  refine h.foldl (fun a c ha => ?_)
  exact .ite ha.complete ha

theorem boreDeleteCmd {m : Module} {c} (h : m.Canon) : (Machine.boreDeleteCmd c m).Canon := by
  unfold Machine.boreDeleteCmd
  extract_lets _ _ _ _ _ _ go
  have hgo : ∀ m, m.Canon → (go m).Canon := by
    intro m h
    unfold go
    extract_lets _ r
    have hr : r.2.Canon := foldl_snd h fun _ _ ha => ha.deleteOne
    exact hr.await.deletesDone.boreShow.boreArbiters
  clear_value go
  exact h.checked (fun m h => .ite (h.withHost hgo) (hgo _ h))

theorem boreRepairCmd {m : Module} {c} (h : m.Canon) : (Machine.boreRepairCmd c m).Canon := by
  unfold Machine.boreRepairCmd
  extract_lets
  exact h.checked (fun _ h => .ite h.ok (.boreRun (h.await.foldl (fun _ _ ha => ha.startPass))))

theorem boreMedia {m : Module} {place index r corrected failed} (h : m.Canon) :
    (m.boreMedia place index r corrected failed).Canon := by
  unfold Module.boreMedia
  split
  · exact h.flashRead
  · exact h

theorem boreDrop {m : Module} {place tag u} (h : m.Canon) : (m.boreDrop place tag u).Canon := h.reedDrop.readOver

theorem recordArrival {m : Module} {id node corrected failed} (h : m.Canon) :
    (Machine.recordArrival id node corrected failed m).Canon := by
  unfold Machine.recordArrival
  split
  · split
    · exact h
    · exact h.boreMedia.boreExpand.boreDrop.boreRun
  · split
    · split
      · exact h
      · extract_lets m1 _ _ _ m3
        have h1 : m1.Canon := h.boreMedia
        have h3 : m3.Canon := .frame (ite h1.bumpBy.boreCheckFail h1.foldRecord)
        exact h3.boreDrop.boreRun
    · exact h
  · exact h

theorem repairPass {m : Module} {i sh} (h : m.Canon) : (Machine.repairPass i sh m).Canon := by
  unfold Machine.repairPass
  split
  · exact h
  · exact .ite h.startPass.boreRun h

theorem shardOpen {m : Module} {i sh} (h : m.Canon) : (Machine.shardOpen i sh m).Canon := by
  unfold Machine.shardOpen
  split
  · exact h
  · split
    · exact h
    · extract_lets m' _ _ m1
      have h' : m'.Canon := h.bumpBy
      have h1 : m1.Canon := by
        unfold m1
        refine h'.foldl (fun a x ha => ?_)
        split
        exact .ite ha.boreStore ha
      split
      · exact h'.updShard.set.event.finishCreates.boreShow.boreArbiters
      · exact h1.updShard.finishCreates.boreShow.boreArbiters

theorem findIndexes {m : Module} (h : m.Canon) : m.findIndexes.Canon := .boreArbiters (.frame h)

/-! #### Machine/Budget -/

theorem budgetOpenCmd {m : Module} {c} (h : m.Canon) : (Machine.budgetOpenCmd c m).Canon := by
  unfold Machine.budgetOpenCmd
  extract_lets _ _ _ pick
  clear_value pick
  refine h.checked (fun m h => ?_)
  split
  · exact h
  · exact h.setAccount.sendAccount.ok

theorem budgetCloseCmd {m : Module} {c} (h : m.Canon) : (Machine.budgetCloseCmd c m).Canon := by
  unfold Machine.budgetCloseCmd
  extract_lets
  refine h.checked (fun m h => ?_)
  exact h.setAccount.sendAccount.ok

theorem budgetSetCmd {m : Module} {c} (h : m.Canon) : (Machine.budgetSetCmd c m).Canon := by
  unfold Machine.budgetSetCmd
  extract_lets
  refine h.checked (fun m h => ?_)
  extract_lets _ m1 _ m2
  have h1 : m1.Canon := h.setAccount.easeStrict
  have h2 : m2.Canon := .ite h1.bump.set h1
  exact h2.sendAccount.ok

theorem budgetQueryCmd {m : Module} {c} (h : m.Canon) : (Machine.budgetQueryCmd c m).Canon := h.checked (fun _ h => h.ok)

theorem prefixCreateCmd {m : Module} {c} (h : m.Canon) : (Machine.prefixCreateCmd c m).Canon := by
  unfold Machine.prefixCreateCmd
  extract_lets
  refine h.checked (fun m h => h.heldOr (fun m h => ?_))
  split
  · exact h
  · split
    rename_i x ls m1 e
    have h1 : m1.Canon := .of_snd e h.takeLists
    extract_lets _ _ _ _ _ m3
    have h3 : m3.Canon := .frame (h1.foldl (fun _ _ ha => .updFrame (.frame ha)))
    exact h3.writeCap.sendPrefix.followPrefix.ok

theorem dropPrefix {m : Module} {i} (h : m.Canon) : (m.dropPrefix i).Canon := by
  unfold Module.dropPrefix
  split
  · exact h
  · exact .frame (freeLists (h.foldl (fun _ _ ha => ha.dropShare)))

theorem prefixDeleteCmd {m : Module} {c} (h : m.Canon) : (Machine.prefixDeleteCmd c m).Canon :=
  h.checked (fun _ h => h.dropPrefix.sendPrefix.ok)

theorem prefixFindCmd {m : Module} {c} (h : m.Canon) : (Machine.prefixFindCmd c m).Canon := by
  unfold Machine.prefixFindCmd
  extract_lets
  refine h.checked (fun m h => ?_)
  extract_lets found
  clear_value found
  split
  · exact h.ok
  · exact h.fail

theorem prefixPlaceCmd {m : Module} {c} (h : m.Canon) : (Machine.prefixPlaceCmd c m).Canon := by
  unfold Machine.prefixPlaceCmd
  extract_lets
  refine h.checked (fun m h => ?_)
  extract_lets _ m1
  have h1 : m1.Canon := .frame h
  exact h1.sendPrefix.followPrefix.ok

theorem adapterLoadCmd {m : Module} {c} (h : m.Canon) : (Machine.adapterLoadCmd c m).Canon := by
  unfold Machine.adapterLoadCmd
  extract_lets
  refine h.checked (fun m h => ?_)
  extract_lets _ m1
  have h1 : m1.Canon := .frame h
  exact h1.updAdapter.measure.ok

theorem adapterRetireCmd {m : Module} {c} (h : m.Canon) : (Machine.adapterRetireCmd c m).Canon :=
  h.checked (fun _ h => h.updAdapter.ok)

theorem adapterQueryCmd {m : Module} {c} (h : m.Canon) : (Machine.adapterQueryCmd c m).Canon := by
  unfold Machine.adapterQueryCmd
  extract_lets
  refine h.checked (fun m h => ?_)
  split
  · exact h.ok
  · exact h

theorem adapterPoolBindCmd {m : Module} {c} (h : m.Canon) : (Machine.adapterPoolBindCmd c m).Canon :=
  h.checked (fun _ h => h.updPart.setBit.ok)

theorem specBindCmd {m : Module} {c} (h : m.Canon) : (Machine.specBindCmd c m).Canon :=
  h.checked (fun _ h => .ite h.updPart.clearBit.ok h.updPart.setBit.ok)

/-! #### Machine/Session -/

theorem reply {m : Module} {k f st request} (h : m.Canon) : (m.reply k f st request).Canon := h.sessSend

theorem replyAgain {m : Module} {k seq} (h : m.Canon) : (m.replyAgain k seq).Canon := by
  unfold Module.replyAgain
  split
  · exact h.enqueue
  · exact h

theorem replyVerdict {m : Module} {k f v request} (h : m.Canon) : (m.replyVerdict k f v request).Canon := h.countDenial.reply

theorem applyAdmit {m : Module} {k f} (h : m.Canon) : (m.applyAdmit k f).Canon := by
  unfold Module.applyAdmit
  extract_lets _ _ _ _ _ _ fails
  clear_value fails
  split
  · split
    rename_i x n m1 e
    have h1 : m1.Canon := .of_snd e h.choose
    exact h1.loadHeader.loadMap.countRefused.replyVerdict
  · split
    rename_i x m1 i e
    have h1 : m1.Canon := .of_fst e h.admitNow
    exact h1.reply

theorem applyAppend {m : Module} {k f} (h : m.Canon) : (m.applyAppend k f).Canon := by
  unfold Module.applyAppend
  extract_lets
  split
  · exact h.replyVerdict
  · exact h.addInput.reply

theorem applyEnd {m : Module} {k f} (h : m.Canon) : (m.applyEnd k f).Canon := by
  unfold Module.applyEnd
  extract_lets
  split
  · exact h.replyVerdict
  · exact h.endByHost.reply

theorem applyAttach {m : Module} {k f} (h : m.Canon) : (m.applyAttach k f).Canon := by
  unfold Module.applyAttach
  extract_lets
  split
  · exact h.replyVerdict
  · exact h.updReq.touchReq.reply

theorem applySess {m : Module} {k f} (h : m.Canon) : (m.applySess k f).Canon :=
  .ite h.applyAdmit (.ite h.applyAppend (.ite h.applyEnd h.applyAttach))

theorem drainSess {m : Module} {k fuel force} (h : m.Canon) : (m.drainSess k fuel force).Canon := by
  induction fuel generalizing m force with
  | zero => exact h
  | succ fuel ih =>
    unfold Module.drainSess
    extract_lets s _ m1
    have h1 : m1.Canon := .frame h
    clear_value m1 s
    split
    · exact h
    · split
      · exact .ite h (.frame h)
      · exact ih (applySess (setSession h1))

theorem takeFrame {m : Module} {k f} (h : m.Canon) : (m.takeFrame k f).Canon := by
  unfold Module.takeFrame
  extract_lets _ _ _ m1
  have h1 : m1.Canon := .ite h.setSession h
  exact .ite h1 (.ite h1.serialStale (.ite (.ite h1.setSession h1.setSession.setSession.drainSess) h1.replyAgain.setSession))

theorem sessFrame {m : Module} {type f} (h : m.Canon) : (Machine.sessFrame type f m).Canon := by
  unfold Machine.sessFrame
  split
  · rename_i x m1 e
    have h1 : m1.Canon := .of_fst e h.ingress
    exact h1
  · rename_i x m1 e
    have h1 : m1.Canon := .of_fst e h.ingress
    split
    · exact h1.takeFrame
    · exact h1.bump

theorem waitReq {m : Module} {i} (h : m.Canon) : (m.waitReq i).Canon := by
  unfold Module.waitReq
  split
  · exact h
  · exact .ite h.updReq.touchReq (.ite h.updReq.touchReq h)

theorem endpointDown {m : Module} {k} (h : m.Canon) : (Machine.endpointDown k m).Canon := by
  unfold Machine.endpointDown
  split
  · exact h
  · extract_lets _ _ _ m2
    have h2 : m2.Canon := by
      unfold m2
      refine h.setSession.foldl (fun a x ha => ?_)
      split
      exact .ite ha.waitReq ha
    exact h2.bumpBy.set.event

theorem markRegistered {m : Module} (h : m.Canon) : m.markRegistered.Canon := h.set

theorem installMap {m : Module} {d} (h : m.Canon) : (m.installMap d).Canon := by
  unfold Module.installMap
  extract_lets _ _ _ m1
  have h1 : m1.Canon := .frame h
  exact h1.set.set.markRegistered

theorem rejectMap {m : Module} {version addr} (h : m.Canon) : (m.rejectMap version addr).Canon := h.bump.set.event

theorem mapFrame {m : Module} {f} (h : m.Canon) : (Machine.mapFrame f m).Canon := by
  unfold Machine.mapFrame
  split
  · exact h.bump
  · split
    · exact h.bump
    · extract_lets _ _ _ _ m2
      have h2 : m2.Canon := h.bumpBy.sessAcked.setSession
      exact .ite h2.serialStale.rejectMap (.ite h2.rejectMap (.ite h2.installMap (.frame h2)))

theorem registerFrame {m : Module} (h : m.Canon) : (Machine.registerFrame m).Canon := .ite h (.frame (ite h h.sessPut))

/-! #### Machine/OpsMirror -/

theorem sendRaw {m : Module} {kind flags arg0 arg1 body} (h : m.Canon) : (m.sendRaw kind flags arg0 arg1 body).Canon :=
  .ite h.emit.bump.bumpBy h

theorem sendAck {m : Module} (h : m.Canon) : m.sendAck.Canon := by
  unfold Module.sendAck
  split
  · exact h
  · exact .frame h.sendRaw

theorem sendReplay {m : Module} (h : m.Canon) : m.sendReplay.Canon := h.sendRaw.bump

theorem sendHello {m : Module} {reply} (h : m.Canon) : (m.sendHello reply).Canon := h.sendRaw

theorem markDirty {m : Module} {slot} (h : m.Canon) : (m.markDirty slot).Canon := .ite h (.frame h)

theorem refuseRec {m : Module} {r st} (h : m.Canon) : (m.refuseRec r st).Canon := h.send

theorem refuseStale {m : Module} {r} (h : m.Canon) : (m.refuseStale r).Canon := h.refuseRec.event

theorem claim {m : Module} {id other} (h : m.Canon) : (m.claim id other).Canon := by
  unfold Module.claim
  extract_lets _ _ m1 m2
  have h1 : m1.Canon := h.updCap.bump
  have h2 : m2.Canon := .ite h1 h1.markDirty
  exact .ite (.frame h2.send) h2

theorem forgetReq {m : Module} {id} (h : m.Canon) : (m.forgetReq id).Canon := by
  unfold Module.forgetReq
  split
  · exact h
  · extract_lets m1
    have h1 : m1.Canon := .ite h.updReq.leaveStep h
    exact .frame (ite h1.pins h1)

theorem settle {m : Module} {id b} (h : m.Canon) : (m.settle id b).Canon := by
  unfold Module.settle
  split
  · exact h
  · extract_lets _ _ _ _ m1 _ _ m2
    have h1 : m1.Canon := h.bump.set.event
    have h2 : m2.Canon := by
      unfold m2
      split
      · exact h1.endError
      · exact h1
    exact .ite h.serialStale (.ite h (.ite (.ite h.claim h) (.ite (.ite h1 (.frame h1.markDirty))
      (.frame h2.releaseFrames.updSlot))))

theorem growTo {m : Module} {id page} (h : m.Canon) : IfSome Canon (m.growTo id page) :=
  IfSome.foldl (.some h) fun _ _ hacc => hacc.bind fun _ ha => ha.addPage

theorem rxSlots {m : Module} {r} (h : m.Canon) : (m.rxSlots r).Canon := by
  unfold Module.rxSlots
  extract_lets
  split
  · exact h
  · split
    · exact h.refuseRec
    · rename_i x m1 e
      have h1 : m1.Canon := h.growTo.get e
      extract_lets m2
      have h2 : m2.Canon := h1.foldl fun a i ha => ha.writeSlot
      exact .ite h2 (.frame h2)

theorem placeMirror {m : Module} {id} (h : m.Canon) : (m.placeMirror id).Canon :=
  h.foldl (fun _ _ ha => .ite ha ha.startMove)

theorem sharePages {m : Module} {id shared handle} (h : m.Canon) : (m.sharePages id shared handle).Canon := by
  unfold Module.sharePages
  extract_lets
  split
  · exact h
  · split
    · exact h
    · extract_lets _ _ m1
      have h1 : m1.Canon := h.takeLists.foldl (fun _ _ ha => ha.addShare)
      exact h1.updCap

theorem takeHeader {m : Module} {r} (h : m.Canon) : (m.takeHeader r).Canon := by
  unfold Module.takeHeader
  extract_lets _ _ _ _ _ _ _ _ _ _ m1 _ m1' m2 m3
  have h1 : m1.Canon := .frame h.updSlot
  have hm1' : m1'.Canon := h.updCap
  have h2 : m2.Canon := .ite hm1'.forgetReq hm1'
  have h3 : m3.Canon := .ite h2.truncateTo.updCap h2
  exact .ite h (.ite (.ite h.updSlot (.ite h1.sharePages h)) (.ite h.refuseStale
    (.ite h.forgetReq.releaseFrames.freeSlot h3.sharePages.placeMirror)))

theorem updShadow {m : Module} {i f} (h : m.Canon) : (m.updShadow i f).Canon := .frame h

theorem takeEntryRec {m : Module} {r} (h : m.Canon) : (m.takeEntryRec r).Canon := .ite h (.ite (.frame h) h.updShadow)

theorem takeText {m : Module} {r} (h : m.Canon) : (m.takeText r).Canon := .ite h.updShadow h

theorem takeInput {m : Module} {r} (h : m.Canon) : (m.takeInput r).Canon := .ite h h.updShadow

theorem takeAccount {m : Module} {r} (h : m.Canon) : (m.takeAccount r).Canon := by
  unfold Module.takeAccount
  split
  · exact h
  · extract_lets _ _ m1
    have h1 : m1.Canon := .ite h.setAccount (.ite h.setAccount h.setAccount)
    exact .ite h1.easeReqs h1

theorem takePrefix {m0 : Module} {r} (h0 : m0.Canon) : (m0.takePrefix r).Canon := by
  unfold Module.takePrefix
  extract_lets _ m _ _ _ _ m1 _ _ _ _ _ _ built
  have h : m.Canon := .frame h0
  have h1 : m1.Canon := .ite h.dropPrefix h
  have hb : IfSome (fun r => r.1.Canon) built := by
    unfold built
    split
    · split
      · exact .none
      · exact .some (.mk_fst (h.foldl fun a _ ha => .updFrame (.frame ha)))
    · refine IfSome.foldl (P := fun r : Module × List Nat => r.1.Canon) (.some h) fun acc _ hacc => hacc.bind fun
      (a, hs) ha => ?_
      dsimp only
      split
      · exact .some (.mk_fst (.frame (of_snd ‹_› (reserveFrom ha))))
      · exact .none
  clear_value built m1 m
  split
  · exact h
  · split
    · exact .frame h1
    · split
      · exact .followPrefix (.frame h)
      · split
        · exact h.refuseRec
        · rename_i x m2 map
          have h2 : m2.Canon := hb.get rfl
          extract_lets _ _ _ _ m3
          have h3 : m3.Canon := .frame h2.takeLists
          exact .ite h3 h3.updCap

theorem putTile {m : Module} {id h layer page t b} (hm : m.Canon) : (m.putTile id h layer page t b).Canon := by
  unfold Module.putTile
  extract_lets
  split
  · exact hm.damage
  · exact .ite hm.updFrame hm.damage

theorem takeTile {m : Module} {r} (h : m.Canon) : (m.takeTile r).Canon := by
  unfold Module.takeTile
  extract_lets
  split
  · split
    · exact h
    · exact h.putTile
  · split
    · exact h.refuseRec
    · rename_i x m1 e
      have h1 : m1.Canon := h.growTo.get e
      exact h1.putTile

theorem applyPend {m : Module} {r} (h : m.Canon) : (m.applyPend r).Canon := by
  unfold Module.applyPend
  split
  · refine h.foldl (fun a x ha => ?_)
    split
    split
    · exact .ite ha.writeSlot ha
    · exact ha
  · exact .ite h.takeHeader (.ite h.takeEntryRec (.ite h.takeText (.ite h.takeAccount (.ite h.takeInput h))))

theorem takeMark {m : Module} {r} (h : m.Canon) : (m.takeMark r).Canon := by
  unfold Module.takeMark
  extract_lets _ _ m1 m2 _ m3
  have h1 : m1.Canon := .frame h
  have h2 : m2.Canon := h1.foldl (fun _ _ ha => ha.applyPend)
  have h3 : m3.Canon := by
    unfold m3
    refine h2.foldl (fun a o ha => ?_)
    split
    · exact .ite ha ha.updShadow
    · exact ha
  exact .frame h3

theorem takeNote {m : Module} {r} (h : m.Canon) : (m.takeNote r).Canon := .ite h.serialStale (.frame h)

theorem emptyPending {m : Module} {r} (h : m.Canon) : (m.emptyPending r).Canon := by
  unfold Module.emptyPending
  refine h.foldl (fun a x ha => ?_)
  split
  split
  · exact .ite ha.updFrame ha
  · exact ha

theorem install {m : Module} {x} (h : m.Canon) : (m.install x).1.Canon := by
  unfold Module.install
  extract_lets
  split
  · exact h
  · split
    · exact h
    · extract_lets _ _ m2
      have h2 : m2.Canon := .fixBlocks (.frame (ite h.pins h))
      exact .ite h2 h2.revive

theorem reRelease {m : Module} (h : m.Canon) : m.reRelease.Canon := by
  unfold Module.reRelease
  refine h.foldl (fun a x ha => ?_)
  split
  exact ha.release.bumpBy

theorem meetFate {m : Module} {f} (h : m.Canon) : (m.meetFate f).Canon := by
  unfold Module.meetFate
  split
  · exact h.clearHands.touchReq
  · exact h.endNow
  · exact h.freeReq
  · split
    extract_lets _ m1
    have h1 : m1.Canon := .ite h h.bumpBy.set
    exact h1.bumpBy.release.writeCap

theorem commitWaiting {m : Module} {p fuel} (h : m.Canon) : (m.commitWaiting p fuel).Canon := by
  induction fuel generalizing m with
  | zero => exact h
  | succ fuel ih =>
    unfold Module.commitWaiting
    split
    · exact .ite (ih h.commitStep) h
    · exact h

theorem takeover {m : Module} (h : m.Canon) : m.takeover.Canon := by
  unfold Module.takeover
  extract_lets m1 m2 _ m3 _ m4
  have h1 : m1.Canon := h.foldl fun _ _ ha => ha.commitWaiting
  clear_value m1
  have h2 : m2.Canon := h1.foldl fun _ _ ha => ha.emptyPending
  clear_value m2
  have h3 : m3.Canon := .frame h2
  clear_value m3
  have h4 : m4.Canon := h3.foldl fun _ _ ha => ha.claim
  clear_value m4
  split
  rename_i x m5 fates e
  have h5 : m5.Canon := .of_fst e (foldl_fst h4 fun _ _ ha => ha.install)
  extract_lets m6 _ _ m7 m8
  have h7 : m7.Canon := .frame h5.reRelease
  have h8 : m8.Canon := h7.foldl fun _ _ ha => ha.meetFate
  exact h8.set.bump.event

theorem dirtyUnacked {m : Module} (h : m.Canon) : m.dirtyUnacked.Canon := by
  unfold Module.dirtyUnacked
  extract_lets m1
  have h1 : m1.Canon := h.foldl (fun _ _ ha => ha.markDirty)
  exact h1.foldl (fun _ _ ha => ha.markDirty)

theorem withoutPartner {m : Module} (h : m.Canon) : m.withoutPartner.Canon := by
  unfold Module.withoutPartner
  extract_lets _ m1 m2 _ _ _ _ m3
  have h1 : m1.Canon := by
    unfold m1
    refine h.foldl (fun a o ha => ?_)
    split
    · exact ha.ok
    · exact ha
  have h2 : m2.Canon := by
    unfold m2
    refine h1.foldl (fun a x ha => ?_)
    split
    split
    · exact ha.createIn
    · exact ha.fail
    · exact ha
  have h3 : m3.Canon := .allTruncates (.frame h2)
  exact .endSweep (h3.foldl (fun _ _ ha => ha.endRepair))

theorem answerPair {m : Module} {st} (h : m.Canon) : (m.answerPair st).Canon := by
  unfold Module.answerPair
  split
  · exact .fail (.frame h)
  · exact .frame h

theorem enterLost {m : Module} (h : m.Canon) : m.enterLost.Canon := by
  unfold Module.enterLost
  extract_lets _ _ m1 m2
  have h1 : m1.Canon := .frame h.dirtyUnacked
  have h2 : m2.Canon := h1.withoutPartner
  exact .ite h2.takeover h2

theorem enterFenced {m : Module} (h : m.Canon) : m.enterFenced.Canon := by
  unfold Module.enterFenced
  extract_lets _ _ m1
  have h1 : m1.Canon := .frame h.dirtyUnacked
  split
  · exact .ok (.frame h1)
  · exact .frame h1

theorem sendTiles {m : Module} {part id layer page h} (hm : m.Canon) : (m.sendTiles part id layer page h).Canon := by
  unfold Module.sendTiles
  split
  · exact hm
  · refine hm.foldl (fun a t ha => ?_)
    split
    · exact ha.damage
    · exact ha.send

theorem resyncSlot {m : Module} {slot} (h : m.Canon) : (m.resyncSlot slot).Canon := by
  unfold Module.resyncSlot
  extract_lets _ _ _ _ _ m2
  have h2 : m2.Canon := by
    unfold m2
    refine h.send.foldl (fun a x ha => ?_)
    split
    exact ha.sendTiles
  split
  · exact .ite h h.send
  · split
    · exact h2
    · extract_lets _ m3
      have h3 : m3.Canon := by
        unfold m3
        refine h2.foldl (fun a x ha => ?_)
        split
        exact ha.send
      exact h3.send.send

theorem resyncNext {m : Module} (h : m.Canon) : m.resyncNext.Canon := by
  unfold Module.resyncNext
  split
  · exact h
  · split
    · exact .lateMarks (.frame (resyncSlot (.frame h)))
    · exact .lateMarks (.frame h)

theorem resyncPrefixes {m : Module} (h : m.Canon) : m.resyncPrefixes.Canon := by
  unfold Module.resyncPrefixes
  refine h.foldl (fun a x ha => ?_)
  split
  extract_lets
  refine ha.send.foldl (fun b x hb => ?_)
  split
  exact hb.sendTiles

theorem resyncAccounts {m : Module} {both} (h : m.Canon) : (m.resyncAccounts both).Canon :=
  h.foldl (fun _ _ ha => .ite ha ha.sendAccount)

theorem startResync {m : Module} {full both} (h : m.Canon) : (m.startResync full both).Canon := by
  unfold Module.startResync
  extract_lets _ _ m1
  have h1 : m1.Canon := .ownHint (.set (.frame h))
  exact h1.resyncPrefixes.resyncAccounts.resyncNext

theorem askAgain {m : Module} (h : m.Canon) : m.askAgain.Canon := h.foldl (fun _ _ ha => ha.send)

theorem unmark {m : Module} (h : m.Canon) : m.unmark.Canon := h.foldl (fun _ _ ha => .ite ha ha.updPart)

theorem pairedAs {m : Module} {st} (h : m.Canon) : (m.pairedAs st).Canon := .frame h

theorem agree {m : Module} {serial epoch theirState} (h : m.Canon) : (m.agree serial epoch theirState).Canon := by
  unfold Module.agree
  extract_lets _ _ _ _ m1 _ _ _ m2
  have h1 : m1.Canon := .frame h.unmark
  have h2 : m2.Canon := .ite h1.pairedAs (.ite h1.startResync h1.pairedAs)
  exact h2.askAgain.answerPair

theorem hello {m : Module} {r keys} (h : m.Canon) : (m.hello r keys).Canon := by
  unfold Module.hello
  extract_lets _ _ m0
  have h0 : m0.Canon := .ite h h.sendHello
  exact .ite h0.set.event.answerPair (.ite h0.answerPair h0.agree)

/-! #### Machine/OpsCkpt -/

theorem toTarget {m : Module} {t off b} (h : m.Canon) : (m.toTarget t off b).Canon := by
  unfold Module.toTarget
  split
  · refine h.foldl (fun a x ha => ?_)
    split
    exact ha.ftlWrite
  · split
    · refine h.foldl (fun a x ha => ?_)
      split
      exact .withHostMem ha (Mem.wrN_wf _ _ ha.hostMem)
    · refine h.foldl (fun a x ha => ?_)
      split
      exact ha.enqueue

theorem ckptShow {m : Module} (h : m.Canon) : m.ckptShow.Canon := h.set.set.set

theorem runDeferred {m : Module} (h : m.Canon) : m.runDeferred.Canon := by
  unfold Module.runDeferred
  extract_lets _ _ m1
  have h1 : m1.Canon := .frame h
  exact h1.foldl (fun _ _ ha => ha.ftlUnmap)

theorem ckptEnds {m : Module} {st} (h : m.Canon) : (m.ckptEnds st).Canon := by
  unfold Module.ckptEnds
  split
  · exact h
  · extract_lets _ m1 m2
    have h1 : m1.Canon := .bump (.set (.frame h))
    have h2 : m2.Canon := h1.runDeferred.ckptShow
    split
    · exact h2.fail
    · exact h2

theorem ckptStart {m : Module} {cmd target scope parts indexes trigger} (h : m.Canon) :
    (m.ckptStart cmd target scope parts indexes trigger).Canon := .ckptShow (.ownHint (.set (.frame h)))

theorem ckptPlace {m : Module} {t n} (h : m.Canon) : (m.ckptPlace t n).2.Canon := by
  unfold Module.ckptPlace
  extract_lets
  split
  · exact h
  · split
    rename_i x stays m1 e
    have h1 : m1.Canon := .of_snd e h.choose
    exact h1

theorem ckptDamage {m : Module} {slot c} (h : m.Canon) : (m.ckptDamage slot c).Canon := by
  unfold Module.ckptDamage
  split
  · exact h
  · split
    · exact h.damage
    · exact h.loadHeader

theorem stageTables {m : Module} (h : m.Canon) : m.stageTables.Canon := by
  unfold Module.stageTables
  extract_lets _ _ rows
  have hbm : ∀ l : List (Nat × Bytes), ∀ b x, Mem.wf x = true → (l.foldl (fun a r => a.wrN (b + r.1) r.2) x).wf = true :=
    fun l b x hx => List.foldlRecOn (motive := fun x => Mem.wf x = true) _ _ hx fun x hx r _ => Mem.wrN_wf _ _ hx
  exact .frame ⟨hbm _ _ _ (Mem.zeroN_wf _ _ h.hbm), Mem.zeroN_wf _ _ h.lpddr, h.hostMem⟩

theorem takeCut {m : Module} {r t} (h : m.Canon) : (m.takeCut r t).Canon := by
  unfold Module.takeCut
  -- The search for a place stays opaque, for the kernel would evaluate it.
  obtain ⟨find, e, hf⟩ : ∃ f, f = Module.ckptPlace ∧ ∀ n, (f t n m).2.Canon := ⟨_, rfl, fun _ => h.ckptPlace⟩
  rw [← e]
  extract_lets _ _ _ _ _ _ _ _ _ place
  have hp : place.2.Canon := hf _
  clear_value place
  refine .ite h.ckptEnds ?_
  split
  · exact h.ckptEnds
  · rename_i x o m1 
    have h1 : m1.Canon := hp
    extract_lets _ _ _ m2 m3
    have h2 : m2.Canon := .bumpBy (.frame h1.stageTables)
    clear_value m2
    have h3 : m3.Canon := .ite h2 (h2.foldl fun _ _ ha => ha.toTarget)
    exact .ckptShow (h3.foldl fun _ _ ha => ha.ckptDamage)

theorem restoreFrame {m : Module} {parked f} (h : m.Canon) : (m.restoreFrame parked f).2.Canon := by
  unfold Module.restoreFrame
  split
  · split
    · rename_i x t m1 e
      have h1 : m1.Canon := .of_snd e h.allocFrame
      exact h1.putFrame
    · rename_i x m1 e
      exact .of_snd e h.allocFrame
  · exact h.reserveFrom

theorem restorePage {m : Module} {o parked sharedFrame id fmt slotBytes tokens layer page} (h : m.Canon) :
    IfSome (fun r => r.2.Canon) (m.restorePage o parked sharedFrame id fmt slotBytes tokens layer page) := by
  unfold Module.restorePage
  split
  · exact .some (.frame h)
  · split
    · rename_i x t m1 e
      exact .some (of_snd e h.restoreFrame)
    · exact .none

theorem restorePages {m : Module} {o parked sharedFrame id fmt slotBytes tokens layers first pages} (h : m.Canon) :
    IfSome (fun r => r.2.Canon) (m.restorePages o parked sharedFrame id fmt slotBytes tokens layers first pages) := by
  unfold Module.restorePages
  refine IfSome.foldl (P := fun r : List Nat × Module => r.2.Canon) (.some h) fun _ _ hacc => hacc.bind fun (hs, a) ha => ?_
  exact (restorePage ha).map fun _ ha => ha

theorem restoreCapsule {m : Module} {o} (h : m.Canon) : IfSome Canon (m.restoreCapsule o) := by
  unfold Module.restoreCapsule
  extract_lets
  refine h.restorePages.bind fun (hs, m1) h1 => ?_
  dsimp only
  split
  · exact .none
  · rename_i x ls m2 e
    have h2 : m2.Canon := .of_snd e (takeLists h1)
    exact .some (h2.foldl fun _ _ ha => ha.addShare).updSlot.markDirty

theorem restorePrefix {m : Module} {o} (h : m.Canon) : IfSome Canon (m.restorePrefix o) := by
  unfold Module.restorePrefix
  extract_lets
  refine h.restorePages.bind fun (hs, m1) h1 => ?_
  dsimp only
  split
  · exact .none
  · rename_i x ls m2 e
    have h2 : m2.Canon := .of_snd e (takeLists h1)
    split
    · exact .none
    · exact .some (.frame (h2.foldl fun a _ ha => .updFrame (.frame ha)))

theorem restoreRun {m : Module} {o} (h : m.Canon) : IfSome Canon (m.restoreRun o) := by
  unfold Module.restoreRun
  extract_lets _ _ _ _ _ _ _ room
  have hroom : IfSome Canon room := by
    unfold room
    split
    · exact .some h
    · split
      · exact .none
      · exact .some h.makeExtents
  refine hroom.bind fun m1 h1 => ?_
  dsimp only
  split
  · exact .some h1.boreWrite
  · exact .none

theorem applyObjects {m : Module} {objs} (h : m.Canon) : IfSome Canon (m.applyObjects objs) := by
  unfold Module.applyObjects
  refine IfSome.foldl (.some h) fun _ o hacc => hacc.bind fun a ha => ?_
  split
  · exact ha.restoreCapsule
  · split
    · exact ha.restorePrefix
    · split
      · exact .some ha.setAccount
      · split
        · exact ha.restoreRun
        · exact .some ha

/-! #### Machine/Ckpt -/

theorem dropSectors {m : Module} {es} (h : m.Canon) : (m.dropSectors es).Canon := h.dropExtents

theorem localExtents {m : Module} {size} (h : m.Canon) : IfSome (fun r => r.2.Canon) (m.localExtents size) := by
  unfold Module.localExtents
  extract_lets
  split
  · exact .none
  · exact .some (.mk_snd h.makeExtents)

theorem setTarget {m : Module} {i t} (h : m.Canon) : (m.setTarget i t).Canon := .ckptShow (.dropSectors (.frame h))

theorem ckptTargetCmd {m : Module} {c} (h : m.Canon) : (Machine.ckptTargetCmd c m).Canon := by
  unfold Machine.ckptTargetCmd
  extract_lets _ _ _ _ _ _ _ go
  have hgo : ∀ m, m.Canon → (go m).Canon := fun m h => .ite h.badField (.ite h.badField h.setTarget.ok)
  clear_value go
  refine h.checked (fun m h => ?_)
  split
  · split
    · exact h.fail
    · rename_i x es m1 e
      have h1 : m1.Canon := h.localExtents.get e
      exact h1.setTarget.ok
  · exact .ite (.ite (h.withHost hgo) (hgo _ h)) h.setTarget.ok

theorem ckptTakeCmd {m : Module} {c} (h : m.Canon) : (Machine.ckptTakeCmd c m).Canon :=
  h.checked (fun _ h => h.await.ckptStart)

theorem checkpointCut {m : Module} (h : m.Canon) : (Machine.checkpointCut m).Canon := by
  unfold Machine.checkpointCut
  split
  · exact h
  · split
    · exact h
    · exact .ite h.takeCut h

theorem cutWaitExpiry {m : Module} (h : m.Canon) : (Machine.cutWaitExpiry m).Canon := .ite h.ckptEnds h

theorem copyComplete {m : Module} (h : m.Canon) : (Machine.copyComplete m).Canon := by
  unfold Machine.copyComplete
  split
  · exact h
  · split
    · exact h
    · split
      · exact h
      · split
        · exact h.ckptEnds
        · extract_lets _ m1
          have h1 : m1.Canon := by
            unfold m1
            split
            · exact h.flush.flushedCmds
            · split
              · refine h.foldl (fun a x ha => ?_)
                split
                exact ha.toTarget
              · exact h
          exact .ite h1 (.ckptShow (.set (.frame (foldl (.ite h1 h1.toTarget) (fun _ _ ha => ha.markCopied)))))

theorem manifestComplete {m : Module} (h : m.Canon) : (Machine.manifestComplete m).Canon := by
  unfold Machine.manifestComplete
  split
  · exact h
  · split
    · exact h
    · split
      · exact h
      · split
        · exact h.flush
        · extract_lets _ _ _ _ _ _ _ _ _ m2 m3
          have h2 : m2.Canon := .frame (ite (.flushedCmds (.flush (.frame h))) h.toTarget)
          have h3 : m3.Canon := h2.set.bump.runDeferred.ckptShow
          split
          · exact h3.ok
          · exact h3

theorem destinationTimeout {m : Module} (h : m.Canon) : (Machine.destinationTimeout m).Canon := .ite h.ckptEnds h

theorem ckptAbortCmd {m : Module} {c} (h : m.Canon) : (Machine.ckptAbortCmd c m).Canon := .ite h.complete h.ckptEnds.ok

theorem ckptReleaseCmd {m : Module} {c} (h : m.Canon) : (Machine.ckptReleaseCmd c m).Canon := by
  unfold Machine.ckptReleaseCmd
  split
  · exact h.fail
  · extract_lets _ _ _ m1
    have h1 : m1.Canon := .frame h
    exact h1.dropSectors.runDeferred.ckptShow.ok

theorem failureWarning {m : Module} {src count} (h : m.Canon) : (Machine.failureWarning src count m).Canon := by
  unfold Machine.failureWarning
  split
  · extract_lets m1
    have h1 : m1.Canon := h.bump.set.setBit.event
    exact .ite (.ckptStart (.frame h1)) h1
  · exact h

theorem report {m : Module} {c b} (h : m.Canon) : (m.report c b).Canon := .ite h.cmdWrite h

theorem restoreFails {m : Module} {c st shards refs} (h : m.Canon) : (m.restoreFails c st shards refs).Canon :=
  h.report.complete

theorem afterRestore {m : Module} {objs} (h : m.Canon) : (m.afterRestore objs).Canon := by
  unfold Module.afterRestore
  extract_lets _ m1 m2
  have h1 : m1.Canon := by
    unfold m1
    refine h.foldl (fun a i ha => ?_)
    split
    · exact .frame ha
    · exact ha
  have h2 : m2.Canon := h1.foldl (fun _ _ ha => .ite ha.sendAccount (.ite ha.sendPrefix (.ite (.frame ha) ha)))
  exact h2.boreShow.ckptShow

theorem restoreShards {m : Module} {c named head list shards} (h : m.Canon) :
    (m.restoreShards c named head list shards).Canon := by
  unfold Module.restoreShards
  extract_lets
  split
  · exact h.restoreFails
  · split
    · exact h.restoreFails
    · split
      · exact h.restoreFails
      · split
        · exact h.fail
        · split
          · exact h.fail
          · rename_i x m1 e
            have h1 : m1.Canon := h.applyObjects.get e
            split
            · exact h.bump.ok
            · extract_lets _ m3 m4
              have h3 : m3.Canon := h1.afterRestore.bump.set
              have h4 : m4.Canon := .ite h3 h3.report
              exact h4.ok

theorem restoreFrom {m : Module} {c t fetched} (h : m.Canon) : (m.restoreFrom c t fetched).Canon :=
  .ite h.badField (.ite h.badField (.ite h.fail (.ite h.fail h.restoreShards)))

theorem ckptRestoreCmd {m : Module} {fetched c} (h : m.Canon) : (Machine.ckptRestoreCmd fetched c m).Canon := by
  unfold Machine.ckptRestoreCmd
  extract_lets _ t
  clear_value t
  refine h.checked (fun m h => ?_)
  split
  · exact h
  · split
    · exact h.withHost fun m h => h.restoreFrom
    · split
      · split
        · exact h.fail
        · exact h.enqueue.restoreFrom
      · exact h.restoreFrom

/-! #### Machine/EvRec -/

theorem sectorFlags {m : Module} (h : m.Canon) : m.sectorFlags.Canon := h.set.set

theorem program {m : Module} {r} (h : m.Canon) : (m.program r).Canon := by
  unfold Module.program
  extract_lets _ _ m0
  have h0 : m0.Canon := by
    unfold m0
    split
    · exact .ite h (.frame h)
    · exact h
  split
  · exact .frame h0
  · split
    · exact .frame h0
    · exact h0

theorem cutErase {m : Module} {sector} (h : m.Canon) : (m.cutErase sector).Canon := by
  unfold Module.cutErase
  split
  · exact h
  · split
    rename_i x stays m1 e
    have h1 : m1.Canon := .of_snd e h.choose
    exact .ite h1 (.frame h1)

theorem cutRecord {m : Module} (h : m.Canon) : m.cutRecord.Canon := by
  unfold Module.cutRecord
  split
  · exact h
  · split
    rename_i x k m1 e
    have h1 : m1.Canon := .of_snd e h.choose
    extract_lets m2 mark
    have h2 : m2.Canon := h1.program
    clear_value mark m2
    split
    · exact h1
    · extract_lets put
      have hput : ∀ s, (put s).Canon := fun s => .frame h2
      split
      · exact hput _
      · split
        · exact h1
        · exact hput _

theorem reportLost {m : Module} (h : m.Canon) : m.reportLost.Canon := by
  unfold Module.reportLost
  split
  · exact h
  · exact .frame h.event

theorem recordWrite {m : Module} (h : m.Canon) : (Machine.recordWrite m).Canon := by
  unfold Machine.recordWrite
  split
  · exact h
  · split
    · exact .reportLost (.sectorFlags (.bump (.frame h.program)))
    · exact h.set.blockEvent

theorem rateSecondEnd {m : Module} (h : m.Canon) : (Machine.rateSecondEnd m).Canon := by
  unfold Machine.rateSecondEnd
  split
  · exact h
  · extract_lets _ _ m1
    have h1 : m1.Canon := .frame h
    refine h1.foldl (fun a x ha => ?_)
    split
    exact ha.event

theorem startLoad {m : Module} {q} (h : m.Canon) : (m.startLoad q).Canon := .set (.frame h)

theorem cursorWrite {m : Module} {off bytes value} (h : m.Canon) : (Machine.cursorWrite off bytes value m).Canon := by
  unfold Machine.cursorWrite
  split
  · exact h
  · split
    · exact h.set.startLoad
    · exact h.dropWrite

theorem advanceWrite {m : Module} {off bytes value} (h : m.Canon) : (Machine.advanceWrite off bytes value m).Canon :=
  .ite h (.ite (.ite h.startLoad h) h.dropWrite)

theorem windowLoad {m : Module} (h : m.Canon) : (Machine.windowLoad m).Canon := by
  unfold Machine.windowLoad
  split
  · exact h
  · extract_lets pick _ m1
    have h1 : m1.Canon := .set (.frame h)
    clear_value m1 pick
    split
    · exact h1.set.set.set.set
    · exact h1.set.set.set

theorem openNew {m : Module} (h : m.Canon) : m.openNew.Canon := by
  unfold Module.openNew
  split
  · exact .sectorFlags (.frame h)
  · exact h

theorem evClear {m : Module} {upTo credential} (h : m.Canon) : (m.evClear upTo credential).Canon := by
  unfold Module.evClear
  extract_lets m1 _ m2
  have h1 : m1.Canon := h.event
  have h2 : m2.Canon := by
    unfold m2
    split
    · exact .ite (.openNew (.frame h1)) h1
    · exact h1
  exact .ite (.set (.frame h2)) h2

theorem cutNor {m : Module} (h : m.Canon) : m.cutNor.Canon := h.cutErase.cutRecord

theorem sectorErase {m : Module} (h : m.Canon) : (Machine.sectorErase m).Canon := by
  unfold Machine.sectorErase
  split
  · exact h
  · extract_lets _ m0 m1 m2
    have h0 : m0.Canon := by
      unfold m0
      split
      · exact .frame h
      · exact h
    have h1 : m1.Canon := .ite h0.openNew h0
    have h2 : m2.Canon := h1.set.sectorFlags
    exact .ite h2 (.reportLost (.set (.frame h2)))

theorem evScan {m : Module} (h : m.Canon) : m.evScan.Canon := by
  unfold Module.evScan
  extract_lets _ _ _ _ _ _ m1
  have h1 : m1.Canon := .sectorFlags (.frame h)
  exact .ite h1 h1.bumpBy.set.event

theorem hourTick {m : Module} (h : m.Canon) : (Machine.hourTick m).Canon := .frame h

theorem noteCmd {m : Module} {c} (h : m.Canon) : (Machine.noteCmd c m).Canon := by
  unfold Machine.noteCmd
  extract_lets
  refine h.checked (fun m h => ?_)
  split
  · exact h.offer.blockEvent.ok
  · exact h.offer.complete
  · exact h.offer.fail

theorem setCheckCfg {m : Module} {u preset k} (h : m.Canon) : (m.setCheckCfg u preset k).Canon :=
  h.set.set.set.set.set.set.set.set

theorem checkConfigCmd {m : Module} {c} (h : m.Canon) : (Machine.checkConfigCmd c m).Canon :=
  h.checked (fun _ h => h.setCheckCfg.ok)

theorem checkScanRun {m : Module} {c} (h : m.Canon) : (Machine.checkScanRun c m).Canon := by
  unfold Machine.checkScanRun
  extract_lets _ _ _ _ _ _ _ _ _ _ _ _ _ m1 _ _ _ m2
  have h1 : m1.Canon := h.set.bump.bumpBy
  have h2 : m2.Canon := .ite h1 (.frame h1.wrMem)
  exact .ite h1.ok (.ite (.ok (.ite h1.wrMem h1.wrMem)) (.ite (.ok (.ite h1 h1.wrMem)) h2.bump.set.blockEvent.complete))

theorem checkScanCmd {m : Module} {c} (h : m.Canon) : (Machine.checkScanCmd c m).Canon :=
  h.checked (fun _ h => .ite (h.withHost (fun _ h => h.checkScanRun)) h.checkScanRun)

/-! #### Machine/Mirror -/

theorem mirrorPairCmd {m : Module} {c} (h : m.Canon) : (Machine.mirrorPairCmd c m).Canon := by
  unfold Machine.mirrorPairCmd
  extract_lets
  refine h.checked (fun m h => ?_)
  split
  · exact h.enterLost.ok
  · extract_lets _ m1
    have h1 : m1.Canon := .await (.frame h)
    exact h1.sendHello

theorem mirrorStatusCmd {m : Module} {c} (h : m.Canon) : (Machine.mirrorStatusCmd c m).Canon := h.ok

theorem handOver {m : Module} {id cmd} (h : m.Canon) : (m.handOver id cmd).Canon := .frame h.updCap.send

theorem mirrorHandoverCmd {m : Module} {c} (h : m.Canon) : (Machine.mirrorHandoverCmd c m).Canon :=
  h.checked (fun _ h => h.heldOr (fun _ h => h.handOver.await))

theorem mirrorClaimCmd {m : Module} {c} (h : m.Canon) : (Machine.mirrorClaimCmd c m).Canon :=
  h.checked (fun _ h => .ite h.ok h.claim.ok)

theorem mirrorTakeoverCmd {m : Module} {c} (h : m.Canon) : (Machine.mirrorTakeoverCmd c m).Canon :=
  h.checked (fun _ h => h.takeover.ok)

theorem drainOn {m : Module} (h : m.Canon) : m.drainOn.Canon := by
  unfold Module.drainOn
  split
  · exact h
  · exact .ite (.ite h.send.enterFenced h) (.ite (h.foldl (fun _ _ ha => .ite ha.handOver ha)) h)

theorem mirrorFenceCmd {m : Module} {c} (h : m.Canon) : (Machine.mirrorFenceCmd c m).Canon := by
  unfold Machine.mirrorFenceCmd
  extract_lets
  refine h.checked (fun m h => ?_)
  split
  · exact h.send.enterFenced.ok
  · extract_lets _ m1
    have h1 : m1.Canon := .await (.frame h)
    exact h1.drainOn

theorem mirrorResyncCmd {m : Module} {c} (h : m.Canon) : (Machine.mirrorResyncCmd c m).Canon := by
  unfold Machine.mirrorResyncCmd
  extract_lets
  refine h.checked (fun m h => ?_)
  extract_lets _ m1
  have h1 : m1.Canon := h.foldl (fun _ _ ha => ha.markDirty)
  exact h1.startResync.ok

theorem takeCopyShared {m0 : Module} {r} (h0 : m0.Canon) : (Machine.takeCopyShared r m0).Canon := by
  unfold Machine.takeCopyShared
  extract_lets _ m
  have h : m.Canon := by
    unfold m
    split
    · exact h0
    · split
      · exact h0.damage
      · exact h0
  split
  · exact h
  · split
    · exact h.copyShared.get ‹_›
    · exact h.refuseRec

theorem takeTruncate {m : Module} {r} (h : m.Canon) : (Machine.takeTruncate r m).Canon := h.truncateTo

theorem sendQuery {m : Module} {id flags} (h : m.Canon) : (m.sendQuery id flags).Canon := h.send

theorem takeClaim {m : Module} {r} (h : m.Canon) : (Machine.takeClaim r m).Canon := by
  unfold Machine.takeClaim
  extract_lets _ _ m1
  have h1 : m1.Canon := h.updCap
  exact .ite h.serialStale.sendQuery (.ite (.ite h1.forgetReq.placeMirror h1) h.sendQuery)

theorem takeHandover {m : Module} {r} (h : m.Canon) : (Machine.takeHandover r m).Canon :=
  .ite h.serialStale.sendQuery (.ite h.updCap h.sendQuery)

theorem copyWon {m : Module} (h : m.Canon) : m.copyWon.Canon := .ite (.resyncNext (.frame h)) h.resyncNext

theorem takeQuery {m : Module} {r} (h : m.Canon) : (Machine.takeQuery r m).Canon := by
  unfold Machine.takeQuery
  extract_lets _ m1
  have h1 : m1.Canon := .ite (.frame h) h.sendQuery
  exact h1.settle.copyWon

theorem takeSlotRequest {m : Module} {r} (h : m.Canon) : (Machine.takeSlotRequest r m).Canon := by
  unfold Machine.takeSlotRequest
  split
  · exact .send (.frame h)
  · exact h.send

theorem takeGrant {m : Module} {r} (h : m.Canon) : (Machine.takeGrant r m).Canon := by
  unfold Machine.takeGrant
  split
  · exact h
  · extract_lets _ m1
    have h1 : m1.Canon := .frame h
    split
    · exact h1
    · exact .ite h1.fail h1.createIn

theorem takeFenceNote {m : Module} (h : m.Canon) : (Machine.takeFenceNote m).Canon := h.enterLost

theorem takeRefuse {m : Module} {r} (h : m.Canon) : (Machine.takeRefuse r m).Canon := by
  unfold Machine.takeRefuse
  extract_lets id slot enqueue _ m1 m2 m1'
  have hq : ∀ a, a.Canon → (enqueue a).Canon := fun a ha => .ite ha (.frame ha.markDirty)
  have h1 : m1.Canon := .frame h
  have h2 : m2.Canon := h1.updCap
  have h1' : m1'.Canon := by
    unfold m1'
    split
    · exact h.endError
    · exact h
  clear_value enqueue m1 m2 m1'
  split
  · extract_lets m3
    have h3 : m3.Canon := by
      unfold m3
      split
      · exact h2.fail
      · exact h2
    exact .ite (hq _ h1) (hq _ h3)
  · exact .ite h.set (hq _ h1'.set)

theorem applyRec {m0 : Module} {r} (h0 : m0.Canon) : (m0.applyRec r).Canon := by
  unfold Module.applyRec
  extract_lets m
  have h : m.Canon := .ite h0.settle h0
  split
  · exact h
  · split
    · exact h.refuseStale
    · split
      · exact .ite h.refuseStale (.frame h)
      · split
        · exact h.rxSlots
        · exact h.takeCopyShared
        · exact h.takeHeader
        · exact h.takeTruncate
        · exact h.takeEntryRec
        · exact h.takeText
        · exact h.takeAccount
        · exact h.takePrefix
        · exact .frame h
        · exact h.takeMark
        · exact h.takeNote
        · exact h.takeClaim
        · exact h.takeHandover
        · exact h.takeQuery
        · exact h.takeSlotRequest
        · exact h.takeGrant
        · exact h.takeTile
        · exact h.takeFenceNote
        · exact h.takeRefuse
        · exact h.takeInput
        · exact h.event

theorem noteSeq {m : Module} {r} (h : m.Canon) : (m.noteSeq r).Canon := .ite h h.updCap

theorem inOrder {m : Module} {r} (h : m.Canon) : (m.inOrder r).Canon := by
  unfold Module.inOrder
  extract_lets _ _ m1
  have h1 : m1.Canon := .frame h
  exact .ite h1.applyRec.noteSeq.bump (.ite h.serialStale (.ite (.sendReplay (.frame h)) h))

theorem checkFails {m : Module} (h : m.Canon) : m.checkFails.Canon := by
  unfold Module.checkFails
  extract_lets m1
  have h1 : m1.Canon := h.bump
  exact .ite h1 (.sendReplay (.frame h1))

theorem recordIn {m : Module} {kind act r} (h : m.Canon) (hact : ∀ x0 a, a.Canon → (act x0 a).Canon) :
    (Machine.recordIn kind act r m).Canon := by
  unfold Machine.recordIn
  split
  · exact h
  · extract_lets _ m1
    have h1 : m1.Canon := .frame h
    exact .ite h1.checkFails (hact _ _ h1)

theorem inSequence {m : Module} {r} (h : m.Canon) : (Machine.inSequence r m).Canon := .ite h.inOrder h

theorem linkBack {m : Module} (h : m.Canon) : m.linkBack.Canon := .askAgain (.sendReplay (.frame h))

theorem takeBeat {m : Module} {r} (h : m.Canon) : (Machine.takeBeat r m).Canon := by
  unfold Machine.takeBeat
  extract_lets _ m1
  have h1 : m1.Canon := .frame h
  exact .ite (.ite h1.linkBack h1) (.ite h1.pairedAs.lateMarks h1)

theorem ackLeases {m : Module} {acked} (h : m.Canon) : (m.ackLeases acked).Canon := by
  unfold Module.ackLeases
  extract_lets _ _ _ _ m1
  have h1 : m1.Canon := .frame h
  refine h1.foldl (fun a o ha => ?_)
  extract_lets a1 a2
  have ha1 : a1.Canon := ha.updCap
  have ha2 : a2.Canon := ha1.placeMirror.bump
  split
  · exact ha1
  · split
    · exact ha2.ok
    · exact ha2

theorem ackSync {m : Module} {acked} (h : m.Canon) : (m.ackSync acked).Canon := by
  unfold Module.ackSync
  split
  · exact .ite (.resyncNext (.set (.frame h))) h
  · exact h

theorem releaseSess {m : Module} (h : m.Canon) : m.releaseSess.Canon := h.foldl (fun _ _ ha => ha.drainSess)

theorem takeAck {m : Module} {r} (h : m.Canon) : (Machine.takeAck r m).Canon := by
  unfold Machine.takeAck
  extract_lets _ _ _ _ m1 _ _ m2 m3 m2'
  have h1 : m1.Canon := .ite (.frame h) h
  have h2 : m2.Canon := .frame h1
  have h3 : m3.Canon := h2.foldl (fun _ _ hb => hb.set)
  have hm2' : m2'.Canon := .ite h1.serialStale (.ite h3.ackLeases.ackSync.allTruncates.checkParks h1)
  exact hm2'.releaseSess.drainOn

theorem takeReplay {m : Module} {r} (h : m.Canon) : (Machine.takeReplay r m).Canon :=
  .ite h.serialStale (h.foldl (fun _ _ ha => ha.transmit))

theorem takeHello {m : Module} {keys r} (h : m.Canon) : (Machine.takeHello keys r m).Canon :=
  .ite h (.ite h.hello (.ite h.enterLost.hello h))

theorem linkBeat {m : Module} (h : m.Canon) : (Machine.linkBeat m).Canon := by
  unfold Machine.linkBeat
  extract_lets _ _ _ _ m2
  have h2 : m2.Canon := .frame h.sendRaw
  exact h2.sendAck.drainOn

theorem ackTick {m : Module} (h : m.Canon) : (Machine.ackTick m).Canon := .ite h.sendAck h

theorem netBeat {m : Module} (h : m.Canon) : (Machine.netBeat m).Canon := by
  unfold Machine.netBeat
  extract_lets _ m1
  have h1 : m1.Canon := .frame h
  split
  · exact h1
  · exact h1.sessPut

theorem takeNetBeat {m : Module} {f} (h : m.Canon) : (Machine.takeNetBeat f m).Canon := by
  unfold Machine.takeNetBeat
  split
  · rename_i x m1 e
    have h1 : m1.Canon := .of_fst e h.ingress
    exact h1
  · rename_i x m1 e
    have h1 : m1.Canon := .of_fst e h.ingress
    extract_lets _ _ m2
    have h2 : m2.Canon := .frame h1
    exact .ite h1 (.ite h2 (.ite h2.enterFenced (.ite h2.enterLost h2)))

theorem linkSilent {m : Module} (h : m.Canon) : (Machine.linkSilent m).Canon := .ite (.bump (.frame h)) h

theorem netSilent {m : Module} (h : m.Canon) : (Machine.netSilent m).Canon := .ite (.ite h.enterFenced h.enterLost) h

theorem leaseLapse {m : Module} {id} (h : m.Canon) : (Machine.leaseLapse id m).Canon := by
  unfold Machine.leaseLapse
  split
  · exact h
  · split
    · exact h
    · exact .frame h.sendQuery

theorem heldTimeout {m : Module} {id} (h : m.Canon) : (Machine.heldTimeout id m).Canon := by
  unfold Machine.heldTimeout
  split
  · exact h
  · split
    · exact h
    · extract_lets _ m1
      have h1 : m1.Canon := .frame h
      split
      · exact h1.drainSess
      · split
        · exact h1
        · exact .ite h1.updCmd h1.fail

theorem laneFails {m : Module} {lane} (h : m.Canon) : (Machine.laneFails lane m).Canon := .frame h

theorem linkTrained {m : Module} {lost} (h : m.Canon) : (Machine.linkTrained lost m).Canon := by
  unfold Machine.linkTrained
  extract_lets _ _ m1
  have h1 : m1.Canon := .set (.frame h)
  exact .ite h1 (.ite h1.sendReplay (.ite h1.sendHello h1))

theorem answerTimeout {m : Module} {c} (h : m.Canon) : (m.answerTimeout c).Canon := by
  unfold Module.answerTimeout
  extract_lets m1
  have h1 : m1.Canon := h.updCmd
  split
  · exact h1.respond
  · exact h1.finishIssued

theorem timeBound {m : Module} {src} (h : m.Canon) : (Machine.timeBound src m).Canon := by
  unfold Machine.timeBound
  split
  · exact h
  · split
    · exact .ite h.answerTimeout h
    · exact h

/-! #### Machine/Sec -/

theorem secShow {m : Module} (h : m.Canon) : m.secShow.Canon := by
  unfold Module.secShow
  extract_lets
  refine h.set.set.set.set.set.set.set.set.set.set.set.foldl (fun a i ha => ?_)
  split
  · exact ha.set.set.set.set.set
  · exact ha

theorem signed {m : Module} {state} (h : m.Canon) : (m.signed state).Canon := by
  unfold Module.signed
  extract_lets m1
  have h1 : m1.Canon := h.bump
  exact .ite h1.bump h1

theorem attestTo {m : Module} {c state} (h : m.Canon) : (m.attestTo c state).Canon := by
  unfold Module.attestTo
  extract_lets
  exact .ite h.complete h.signed.cmdWrite.complete

theorem secAttestCmd {m : Module} {c} (h : m.Canon) : (Machine.secAttestCmd c m).Canon := by
  unfold Machine.secAttestCmd
  extract_lets _ _ _ go
  have hgo : ∀ m, m.Canon → (go m).Canon := fun m h => .ite (.frame h.await) h.attestTo
  clear_value go
  exact h.checked (fun m h => .ite (h.withHost hgo) (hgo _ h))

theorem secIdentityCmd {m : Module} {c} (h : m.Canon) : (Machine.secIdentityCmd c m).Canon := h.ok

theorem importFails {m : Module} {c v} (h : m.Canon) : (m.importFails c v).Canon := .verdict (.ite h h.bump)

theorem imported {m : Module} {c plain body} (h : m.Canon) : (m.imported c plain body).Canon := h.measure.bump.ok

theorem importRead {m : Module} {c x} (h : m.Canon) : (m.importRead c x).Canon := by
  unfold Module.importRead
  extract_lets
  split
  · exact .imported (.withHbm h (Mem.wrN_wf _ _ h.hbm))
  · split
    · exact h.importFails
    · split
      · exact h.importFails
      · split
        · exact h.importFails
        · split
          · exact h.importFails
          · split
            · exact h.importFails
            · split
              · exact .importFails (.ite (.withHbm h (Mem.zeroN_wf _ _ h.hbm)) h)
              · exact .ite (.imported (.withHbm h (Mem.wrN_wf _ _ h.hbm))) (.imported (.frame h))

theorem secImportCmd {m : Module} {c} (h : m.Canon) : (Machine.secImportCmd c m).Canon := by
  unfold Machine.secImportCmd
  extract_lets
  split
  · exact h.verdict
  · split
    · exact h.importFails
    · exact .ite (h.withHost (fun _ h => h.importRead)) h.importRead

theorem mgmtAnswer {m : Module} {op counter st body} (h : m.Canon) : (m.mgmtAnswer op counter st body).Canon := h.emit

theorem mgmtReject {m : Module} {g reason} (h : m.Canon) : (m.mgmtReject g reason).Canon := by
  unfold Module.mgmtReject
  extract_lets m1
  have h1 : m1.Canon := h.bump.event
  exact .ite (.frame h1) (.frame h1)

theorem mgmtIn {m : Module} {op first act g} (h : m.Canon) (hact : ∀ g a, a.Canon → (act g a).1.Canon) :
    (Machine.mgmtIn op first act g m).Canon := by
  unfold Machine.mgmtIn
  split
  · exact h
  · extract_lets _ m0 serve
    have h0 : m0.Canon := .frame h
    have hserve : ∀ a, a.Canon → (serve a).Canon := by
      intro a ha
      unfold serve
      split
      · exact mgmtAnswer (.of_fst ‹_› (hact _ _ ha))
      · exact .of_fst ‹_› (hact _ _ ha)
    clear_value serve
    split
    · exact h0.mgmtReject
    · split
      · exact .ite (hserve _ h0) h0.mgmtReject
      · split
        · exact h0.mgmtReject
        · exact .ite h0.mgmtReject (.ite h0.event (hserve _ (.frame h0)))

theorem enrolCredential {m : Module} {g} (h : m.Canon) : (Machine.enrolCredential g m).1.Canon := by
  unfold Machine.enrolCredential
  split
  · exact h
  · split
    · exact h
    · exact .mk_fst (secShow (.frame h))

theorem revokeCredential {m : Module} {g} (h : m.Canon) : (Machine.revokeCredential g m).1.Canon := by
  unfold Machine.revokeCredential
  extract_lets
  split
  · exact h
  · split
    · exact h
    · exact .mk_fst (secShow (.frame h))

theorem enrolKey {m : Module} {g} (h : m.Canon) : (Machine.enrolKey g m).1.Canon := by
  unfold Machine.enrolKey
  extract_lets
  split
  · exact h
  · split
    · exact .frame h
    · split
      · exact h
      · split
        · exact h
        · exact .frame h

theorem removeKey {m : Module} {g} (h : m.Canon) : (Machine.removeKey g m).1.Canon := by
  unfold Machine.removeKey
  extract_lets
  split
  · exact h
  · split
    · split
      · exact .frame h
      · exact h
    · split
      · exact .frame h
      · exact h

theorem setConfig {m : Module} {g} (h : m.Canon) : (Machine.setConfig g m).1.Canon := by
  unfold Machine.setConfig
  extract_lets
  split
  · exact h
  · exact .frame h

theorem updFw {m : Module} {kind f} (h : m.Canon) : (m.updFw kind f).Canon := .frame h

theorem setUpdate {m : Module} {st version} (h : m.Canon) : (m.setUpdate st version).Canon := .secShow (.event (.frame h))

theorem fwStage {m : Module} {g} (h : m.Canon) : (Machine.fwStage g m).1.Canon := by
  unfold Machine.fwStage
  extract_lets _ _ _ _ m1
  have h1 : m1.Canon := h.updFw
  split
  · exact h
  · split
    · exact h
    · split
      · exact .mk_fst h.updFw
      · split
        · exact h1
        · exact .mk_fst (setUpdate h1.updFw)

theorem fwActivate {m : Module} {g} (h : m.Canon) : (Machine.fwActivate g m).1.Canon := by
  unfold Machine.fwActivate
  extract_lets
  split
  · exact h
  · split
    · exact h
    · split
      · exact h
      · split
        · exact .mk_fst h.updFw
        · exact .mk_fst (setUpdate (set (.frame h)))

theorem fwCommit {m : Module} {g} (h : m.Canon) : (Machine.fwCommit g m).1.Canon := by
  unfold Machine.fwCommit
  extract_lets
  split
  · exact h
  · split
    · exact h
    · exact .mk_fst (setUpdate h.updFw.updFw)

theorem answerHeld {m : Module} {state h} (hm : m.Canon) : (m.answerHeld state h).Canon := by
  unfold Module.answerHeld
  split
  · split
    · exact hm.attestTo
    · exact hm
  · exact hm.signed.mgmtAnswer

theorem measureFw {m : Module} {kind} (h : m.Canon) : (m.measureFw kind).Canon := .frame h

theorem crookRestartEnd {m : Module} (h : m.Canon) : (Machine.crookRestartEnd m).Canon := by
  unfold Machine.crookRestartEnd
  split
  · exact h
  · extract_lets _ _ _ m1
    have h1 : m1.Canon := .frame h.updFw
    exact h1.measureFw.set.setUpdate.foldl (fun _ _ ha => ha.answerHeld)

theorem mgmtAttest {m : Module} {g} (h : m.Canon) : (Machine.mgmtAttest g m).1.Canon := by
  unfold Machine.mgmtAttest
  extract_lets
  split
  · exact h
  · split
    · exact .frame h
    · exact h.signed

theorem attestHoldExpiry {m : Module} (h : m.Canon) : (Machine.attestHoldExpiry m).Canon := by
  unfold Machine.attestHoldExpiry
  split
  · exact .answerHeld (.frame h)
  · exact h

theorem mgmtEvRead {m : Module} {g} (h : m.Canon) : (Machine.mgmtEvRead g m).1.Canon := by
  unfold Machine.mgmtEvRead
  extract_lets
  split <;> exact h

theorem mgmtEvClear {m : Module} {g} (h : m.Canon) : (Machine.mgmtEvClear g m).1.Canon := by
  unfold Machine.mgmtEvClear
  split
  · exact h
  · split
    · exact h
    · exact h.evClear

theorem mgmtStatus {m : Module} {g} (h : m.Canon) : (Machine.mgmtStatus g m).1.Canon := by
  unfold Machine.mgmtStatus
  exact h

theorem mgmtMessageTimeout {m : Module} (h : m.Canon) : (Machine.mgmtMessageTimeout m).Canon := .frame h

theorem mgmtLockoutEnd {m : Module} (h : m.Canon) : (Machine.mgmtLockoutEnd m).Canon := .frame h

/-! #### Machine/Host -/

theorem mailboxGo {m : Module} {b value} (h : m.Canon) : (Machine.mailboxGo b value m).Canon := by
  unfold Machine.mailboxGo
  -- The checks stay opaque: else the kernel evaluates them when it compares the goal before and after the lets are named.
  obtain ⟨check, e⟩ : ∃ f, f = Module.commandCheck := ⟨_, rfl⟩
  rw [← e]
  extract_lets _ _ _ _ _ m1 _ m2
  have h1 : m1.Canon := h.setBox
  have h2 : m2.Canon := .frame h1
  clear_value m2 m1
  refine .ite h (.ite h.dropWrite (.ite h.set.set.bump ?_))
  split
  · exact h2
  · exact h2.complete

theorem slotWrite {m : Module} {b off data} (h : m.Canon) : (Machine.slotWrite b off data m).Canon :=
  .ite h (.ite h.dropWrite (.ite h.set.bump h.setBox))

theorem hdmRead {m : Module} {addr n} (h : m.Canon) : (Machine.hdmRead addr n m).Canon := .ite h.emit h.emit.set.bump

theorem hdmWrite {m : Module} (h : m.Canon) : (Machine.hdmWrite m).Canon := h.bump.set

theorem linkReset {m : Module} (h : m.Canon) : (Machine.linkReset m).Canon := .bump (.frame h)

theorem hostLinkDown {m : Module} (h : m.Canon) : (Machine.hostLinkDown m).Canon := by
  unfold Machine.hostLinkDown
  split
  · exact h
  · extract_lets _ _ m2
    have h2 : m2.Canon := .frame h.linkReset
    exact .boreRun (h2.setReg.foldl (fun _ _ ha => ha.failAdmit))

theorem hostResume {m : Module} (h : m.Canon) : m.hostResume.Canon := by
  unfold Module.hostResume
  extract_lets m1
  have h1 : m1.Canon := h.foldl (fun _ _ ha => ha.ringResume)
  exact .boreRun (h1.foldl (fun _ _ ha => ha.setVec.msix))

theorem hostLinkTrained {m : Module} {mode width} (h : m.Canon) : (Machine.hostLinkTrained mode width m).Canon := by
  unfold Machine.hostLinkTrained
  split
  · exact h
  · split
    · extract_lets _ m1 m2 m3
      have h1 : m1.Canon := .frame h
      have h2 : m2.Canon := h1.set.set.set
      have h3 : m3.Canon := .ite h2.set.bump h2
      exact h3.hostResume
    · exact h.event

theorem d3hotEntry {m : Module} (h : m.Canon) : (Machine.d3hotEntry m).Canon := .ite (.frame h) h

theorem d0Return {m : Module} (h : m.Canon) : (Machine.d0Return m).Canon := .ite (.hostResume (.frame h)) h

theorem transferFailed {m : Module} {src} (h : m.Canon) : (Machine.transferFailed src m).Canon := by
  unfold Machine.transferFailed
  split
  · exact h
  · exact .ite h (.ite h.updCmd (.ite h.fail (.ite h.failAdmit h)))

theorem timeoutExpiry {m : Module} {src} (h : m.Canon) : (Machine.timeoutExpiry src m).Canon := by
  unfold Machine.timeoutExpiry
  split
  · exact h
  · exact .ite h.answerTimeout.set h

theorem holdoffEnd {m : Module} {v} (h : m.Canon) : (Machine.holdoffEnd v m).Canon := .ite h.setVec.msix h

theorem vectorUnmask {m : Module} {v} (h : m.Canon) : (Machine.vectorUnmask v m).Canon := by
  unfold Machine.vectorUnmask
  split
  · exact h
  · extract_lets _ m1
    have h1 : m1.Canon := h.setVec
    exact .ite h1.msix h1

theorem schedRelease {m : Module} {p} (h : m.Canon) : (m.schedRelease p).Canon := by
  unfold Module.schedRelease
  refine h.foldl (fun a x ha => ?_)
  split
  exact .ite ha.updReq.unhold ha

theorem resumeCmd {m : Module} {c} (h : m.Canon) : (Machine.resumeCmd c m).Canon :=
  h.checked (fun _ h => h.setSuspended.schedRelease.followHolds.ok)

theorem reedDecision {m : Module} {i} (h : m.Canon) : (Machine.reedDecision i m).Canon := by
  unfold Machine.reedDecision
  extract_lets m1
  have h1 : m1.Canon := h.reedDecide
  exact .ite h1.egressGrant h1

theorem opHour {m : Module} (h : m.Canon) : (Machine.opHour m).Canon := .ite h.hourTick h.hourTick.tempHour

/-! #### Machine/Ligature -/

theorem ligAllocCmd {m : Module} {c} (h : m.Canon) : (Machine.ligAllocCmd c m).Canon := by
  unfold Machine.ligAllocCmd
  extract_lets
  refine h.checked (fun m h => ?_)
  split
  · exact ok (.of_fst ‹_› h.ligAlloc)
  · exact fail (.of_fst ‹_› h.ligAlloc)
  · exact badField (.of_fst ‹_› h.ligAlloc)

theorem ligFreeCmd {m : Module} {c} (h : m.Canon) : (Machine.ligFreeCmd c m).Canon := by
  unfold Machine.ligFreeCmd
  refine h.checked (fun m h => ?_)
  extract_lets m'
  have h' : m'.Canon := h.bump
  split
  · exact h'.fail
  · exact .ite h'.fail (.ite h'.fail h'.ligFreeIndex.ok)

theorem ligSignalCmd {m : Module} {c} (h : m.Canon) : (Machine.ligSignalCmd c m).Canon := by
  unfold Machine.ligSignalCmd
  split
  · exact h.fail
  · extract_lets
    split
    rename_i x m1 st e
    have h1 : m1.Canon := .of_fst e (by split <;> [exact h.ligSend; exact h.ligSignal])
    exact .ite h1.ok h1.verdict

theorem ligQueryCmd {m : Module} {c} (h : m.Canon) : (Machine.ligQueryCmd c m).Canon := by
  unfold Machine.ligQueryCmd
  split
  · exact h.fail
  · exact h.ok

theorem lwaitTimeout {m : Module} {t} (h : m.Canon) : (Machine.lwaitTimeout t m).Canon := by
  unfold Machine.lwaitTimeout
  split
  · exact h.ligWithdraw.wake.bump
  · exact h

/-! #### Machine/Power -/

theorem powerBreathCmd {m : Module} {c} (h : m.Canon) : (Machine.powerBreathCmd c m).Canon :=
  h.checked (fun _ h => h.hint.bump.ok)

theorem breathStart {m : Module} {i} (h : m.Canon) : (Machine.breathStart i m).Canon := .frame h

theorem breathEnd {m : Module} {i} (h : m.Canon) : (Machine.breathEnd i m).Canon := .frame h

theorem fault {m : Module} {code} (h : m.Canon) : (m.fault code).Canon := .frame h

theorem flashHoldup {m : Module} (h : m.Canon) : m.flashHoldup.Canon := by
  unfold Module.flashHoldup
  split
  · exact h.holdupFlush
  · split
    rename_i x stays m1 e
    have h1 : m1.Canon := .of_snd e h.choose
    exact .ite h1.holdupFlush (.ite h1.holdupPrograms.flashPowerLoss h1.flashPowerLoss)

theorem lossRecord {m : Module} (h : m.Canon) : m.lossRecord.Canon := by
  unfold Module.lossRecord
  split
  · exact h.bump
  · exact .frame h

theorem powerLoss {m : Module} (h : m.Canon) : m.powerLoss.Canon := by
  unfold Module.powerLoss
  split
  · exact .frame h.set.flashHoldup.lossRecord
  · exact .frame h
  · exact h

theorem writeQueue {m : Module} {fuel} (h : m.Canon) : (m.writeQueue fuel).Canon := by
  induction fuel generalizing m with
  | zero => exact h
  | succ fuel ih => exact .ite h (ih h.recordWrite)

theorem wiped {m : Module} (h : m.Canon) : m.wiped.Canon := .frame ⟨rfl, rfl, h.hostMem⟩

theorem powerUp {m : Module} (h : m.Canon) : m.powerUp.Canon := .frame h.wiped

theorem powerOn {m : Module} (h : m.Canon) : (Machine.powerOn m).Canon := .ite (.powerUp (.frame h)) h

theorem inputLost {m : Module} (h : m.Canon) : (Machine.inputLost m).Canon := .frame h.powerLoss

theorem inputOvervoltage {m : Module} (h : m.Canon) : (Machine.inputOvervoltage m).Canon := .ite h.powerLoss.fault h

theorem converterFault {m : Module} (h : m.Canon) : (Machine.converterFault m).Canon := .ite h h.powerLoss.fault

theorem pwrEnFall {m : Module} (h : m.Canon) : (Machine.pwrEnFall m).Canon := .frame h.powerLoss

theorem inputReturn {m : Module} (h : m.Canon) : (Machine.inputReturn m).Canon := .ite (.frame h) h

theorem holdupEnd {m : Module} (h : m.Canon) : (Machine.holdupEnd m).Canon := by
  unfold Machine.holdupEnd
  split
  · extract_lets m1
    split
    rename_i x stays m1 e
    have h1 : m1.Canon := .of_snd e h.writeQueue.choose
    extract_lets m3
    have h3 : m3.Canon := h1.writeQueue.cutNor
    exact .ite h3.powerUp (.frame h3.wiped)
  · exact h

theorem thermalLimit {m : Module} {junction} (h : m.Canon) : (Machine.thermalLimit junction m).Canon := .frame h

theorem thermalTrip {m : Module} (h : m.Canon) : (Machine.thermalTrip m).Canon := .ite h h.powerLoss.fault

theorem coreSample {m : Module} {mv} (h : m.Canon) : (Machine.coreSample mv m).Canon := by
  unfold Machine.coreSample
  extract_lets _ _ _ _ _ m1
  have h1 : m1.Canon := .frame h
  exact .ite h1.powerLoss.fault h1

theorem trimEnd {m : Module} (h : m.Canon) : (Machine.trimEnd m).Canon := .ite (.frame h) h

theorem powerWindow {m : Module} {watts} (h : m.Canon) : (Machine.powerWindow watts m).Canon := .frame h

/-! #### Machine/Start -/

theorem resetTo {m : Module} {cause} (h : m.Canon) : (m.resetTo cause).Canon := .frame h.holdupFlush.writeQueue.wiped

theorem resetNLow {m : Module} (h : m.Canon) : (Machine.resetNLow m).Canon := .frame (ite h.resetTo h)

theorem perstNLow {m : Module} (h : m.Canon) : (Machine.perstNLow m).Canon := .frame (ite h.resetTo h)

theorem mgmtResetAct {m : Module} {g} (h : m.Canon) : (Machine.mgmtResetAct g m).1.Canon := by
  unfold Machine.mgmtResetAct
  split
  · exact h
  · exact h.mgmtAnswer.resetTo

theorem cancelFused {m : Module} {p} (h : m.Canon) : (m.cancelFused p).Canon := by
  unfold Module.cancelFused
  extract_lets _ _ m1 m2
  have h1 : m1.Canon := .frame h
  have h2 : m2.Canon := by
    unfold m2
    refine h1.foldl (fun a w ha => ?_)
    extract_lets b
    have hb : b.Canon := ha.countFused
    split
    · exact hb.submitDone
    · exact hb
  exact h2.foldl (fun _ _ ha => ha.foldl (fun _ _ ha => ha.endFused))

theorem stopPrograms {m : Module} {p} (h : m.Canon) : (m.stopPrograms p).Canon := by
  unfold Module.stopPrograms
  extract_lets
  refine h.foldl (fun a k ha => ?_)
  extract_lets _ a1
  have ha1 : a1.Canon := ha.updCore.foldl (fun _ _ hb => hb.endLaunch)
  exact .ite ha1.progFault ha1

theorem perturbTime {m : Module} (h : m.Canon) : m.perturbTime.Canon := .frame (ite h h.bumpBy)

theorem clearPerturb {m : Module} {p} (h : m.Canon) : (m.clearPerturb p).Canon := .frame h.perturbTime

theorem partReset {m : Module} {p} (h : m.Canon) : (m.partReset p).Canon := by
  unfold Module.partReset
  extract_lets m1 _ m2 _ m3 _ m4 m5
  have h1 : m1.Canon := h.clearPerturb.foldl (fun _ _ ha => ha.foldl (fun _ _ hb => hb.reedDrop))
  have h2 : m2.Canon := h1.foldl (fun _ _ ha => ha.leaveStep)
  have h3 : m3.Canon := .cancelFused (.stopPrograms (h2.foldl (fun _ _ ha => ha.stopJob)))
  have h4 : m4.Canon := h3.foldl (fun _ _ ha => ha.ligFreeIndex)
  have h5 : m5.Canon := h4.foldl (fun _ _ ha => ha.updCore)
  exact h5.setBit.blockEvent

theorem resetWrite {m : Module} {value} (h : m.Canon) : (Machine.resetWrite value m).Canon :=
  .ite h (.ite h.dropWrite (.ite h.resetTo (h.foldl (fun _ _ ha => ha.partReset))))

theorem setBases {m : Module} (h : m.Canon) : m.setBases.Canon := by
  unfold Module.setBases
  extract_lets m1
  have h1 : m1.Canon := h.foldl (fun _ _ ha => ha.set)
  exact h1.set.set.set

theorem setPools {m : Module} (h : m.Canon) : m.setPools.Canon := .frame (h.set.set.foldl (fun _ _ ha => ha.set.set.set))

theorem applyConfig {m : Module} (h : m.Canon) : m.applyConfig.Canon := by
  unfold Module.applyConfig
  extract_lets _ _ _ _ _ _ m1 m2 m3 m4 m5 m6
  have h1 : m1.Canon := .frame h
  have h2 : m2.Canon := h1.set.set
  have h3 : m3.Canon := .ite h2.event h2
  have h4 : m4.Canon := .ite h3 h3.event
  have h5 : m5.Canon := h4.foldl (fun _ _ ha => .frame ha)
  have h6 : m6.Canon := h5.measure
  exact .ite (.noSlots (h6.foldl (fun _ _ ha => ha.set))) h6

theorem readStart {m : Module} {x} (h : m.Canon) : (m.readStart x).Canon := .frame h

theorem startTimers {m : Module} (h : m.Canon) : m.startTimers.Canon := .frame h

theorem resetRelease {m : Module} {x} (h : m.Canon) : (Machine.resetRelease x m).Canon := by
  unfold Machine.resetRelease
  split
  · exact h
  · extract_lets _ m0
    have h0 : m0.Canon := .frame h
    split
    · extract_lets m2 _ m4
      have h2 : m2.Canon := .frame h0.readStart.startTimers
      have h4 : m4.Canon := h2.measureFw.setBases.evScan.applyConfig.measureFw.setPools
      exact .secShow (.ite h4 h4.setUpdate)
    · exact h0.fault

theorem readySet {m : Module} (h : m.Canon) : (Machine.readySet m).Canon := by
  unfold Machine.readySet
  split
  · exact h
  · exact .frame h.findIndexes.event.set

theorem testDiagCmd {m : Module} {failed cores strands units c} (h : m.Canon) :
    (Machine.testDiagCmd failed cores strands units c m).Canon := by
  unfold Machine.testDiagCmd
  extract_lets
  refine h.checked (fun m h => ?_)
  extract_lets _ _ m1 m2 _ m3 m4 m5 m6
  have h1 : m1.Canon := .frame h
  have h2 : m2.Canon := by
    unfold m2
    split
    · refine h1.foldl (fun a k ha => ?_)
      extract_lets b
      have hb : b.Canon := ha.updCore
      exact .ite hb.setMode hb
    · exact h1
  have h3 : m3.Canon := .ite (.frame h2) h2
  have h4 : m4.Canon := .ite (h3.foldl (fun _ _ ha => ha.ligFreeIndex)) h3
  have h5 : m5.Canon := .ite (.withHbm h4 (Mem.zeroN_wf _ _ h4.hbm)) h4
  have h6 : m6.Canon := .ite (.frame ⟨rfl, rfl, h5.hostMem⟩) h5
  exact h6.complete

theorem testPerturbCmd {m : Module} {c} (h : m.Canon) : (Machine.testPerturbCmd c m).Canon := by
  unfold Machine.testPerturbCmd
  extract_lets
  refine h.checked (fun m h => ?_)
  exact .ok (.frame h.perturbTime)

theorem perturbEnd {m : Module} {n} (h : m.Canon) : (Machine.perturbEnd n m).Canon := by
  unfold Machine.perturbEnd
  split
  · exact h
  · split
    · exact h
    · exact .set (.frame h.perturbTime)

/-! #### Machine/RegWrite -/

theorem afterWrite {m : Module} {f i} (h : m.Canon) : (m.afterWrite f i).Canon := by
  unfold Module.afterWrite
  split
  · exact .ite h.set h
  · split
    · exact .ite (.frame h) (.set (.frame h))
    · split
      · exact .ite h.setReed h
      · exact .ite h.sectorFlags h

theorem writeField {m : Module} {base sub bytes value r} (h : m.Canon) :
    IfSome Canon (m.writeField base sub bytes value r) := by
  unfold Module.writeField
  extract_lets
  split
  · exact .some h.set
  · split
    · exact .some h.set.afterWrite
    · exact .none

theorem plainWrite {m : Module} {off bytes value} (h : m.Canon) : (Machine.plainWrite off bytes value m).Canon := by
  unfold Machine.plainWrite
  extract_lets _ _ _ done
  have hd : done.1.Canon := foldl_fst h fun acc r ha => by
    split
    · exact ha.writeField.get ‹_›
    · exact ha
  exact .ite hd.dropWrite hd

theorem registerWrite {m : Module} {off bytes value} (h : m.Canon) : (Machine.registerWrite off bytes value m).Canon :=
  .ite h (.ite h.slotWrite (.ite h.dropWrite (.ite (.ite h.mailboxGo h.dropWrite) (.ite (.ite h.resetWrite h.dropWrite)
    (.ite (.ite h.ringTailWrite h.dropWrite) (.ite h.cursorWrite (.ite h.advanceWrite h.plainWrite)))))))

/-! #### Machine/Strand -/

theorem issueWhen {m : Module} {op t stalls f} (h : m.Canon) (hf : ∀ x0 x1 x2 a, a.Canon → (f x0 x1 x2 a).Canon) :
    (Machine.issueWhen op t stalls f m).Canon := by
  unfold Machine.issueWhen
  split
  · exact h
  · split
    · exact h
    · split
      · exact h.strandFault
      · extract_lets _ m1
        have h1 : m1.Canon := .ite h.bump h
        exact .ite h (hf _ _ _ _ h1.updThread)

theorem issue {m : Module} {op t f} (h : m.Canon) (hf : ∀ x0 x1 x2 a, a.Canon → (f x0 x1 x2 a).Canon) :
    (Machine.issue op t f m).Canon := h.issueWhen (fun _ _ _ _ ha => hf _ _ _ _ ha)

theorem retire {m : Module} {t d v} (h : m.Canon) : (m.retire t d v).Canon := h.updThread

theorem pass {m : Module} {t} (h : m.Canon) : (m.pass t).Canon := h.updThread

theorem alu {m : Module} {op t g} (h : m.Canon) : (Machine.alu op t g m).Canon := h.issue (fun _ _ _ _ h => h.retire)

theorem branch {m : Module} {op t g} (h : m.Canon) : (Machine.branch op t g m).Canon :=
  h.issue (fun _ _ _ _ h => .ite h.updThread h.pass)

theorem jal {m : Module} {t} (h : m.Canon) : (Machine.jal t m).Canon := h.issue (fun _ _ _ _ h => h.updThread)

theorem jalr {m : Module} {t} (h : m.Canon) : (Machine.jalr t m).Canon := by
  unfold Machine.jalr
  refine h.issue (fun w th v m h => ?_)
  exact .ite h.updThread h.strandFault

theorem accessFault {m : Module} {t cause addr} (h : m.Canon) : (m.accessFault t cause addr).Canon := by
  unfold Module.accessFault
  extract_lets m1
  have h1 : m1.Canon := by
    unfold m1
    split
    · exact .ite h.bump h
    · exact .ite h.bump h
    · exact .ite h.bump h
    · exact h
  exact h1.strandFault

theorem takeCredits {m : Module} {j n} (h : m.Canon) : (m.takeCredits j n).Canon := by
  unfold Module.takeCredits
  split
  · exact h
  · exact .frame h.updJob

theorem giveCredits {m : Module} {j n} (h : m.Canon) : (m.giveCredits j n).Canon := by
  unfold Module.giveCredits
  split
  · exact h
  · exact .frame h.updJob

theorem access {m : Module} {t a n write atomic go} (h : m.Canon) (hgo : ∀ a, a.Canon → (go a).Canon) :
    (Machine.access t a n write atomic go m).Canon := by
  unfold Machine.access
  split
  · exact h.strandFault
  · split
    · exact h.accessFault
    · exact .ite h.updThread (hgo _ h)

theorem load {m : Module} {op t n g} (h : m.Canon) : (Machine.load op t n g m).Canon := by
  unfold Machine.load
  refine h.issueWhen (fun w th v m h => ?_)
  extract_lets
  refine h.access (fun m h => ?_)
  split
  rename_i x b m1 e
  have h1 : m1.Canon := .of_snd e h.strandLoad
  extract_lets m1
  have h1 : m1.Canon := .ite h1.takeCredits h1
  exact h1.updThread

theorem store {m : Module} {op t n} (h : m.Canon) : (Machine.store op t n m).Canon := by
  unfold Machine.store
  refine h.issueWhen (fun x th v m h => ?_)
  extract_lets
  refine h.access (fun m h => ?_)
  extract_lets m1
  have h1 : m1.Canon := h.strandStore
  exact .ite h1.takeCredits.updThread h1.pass

theorem atomic {m : Module} {op t g} (h : m.Canon) : (Machine.atomic op t g m).Canon := by
  unfold Machine.atomic
  refine h.issue (fun w x v m h => ?_)
  extract_lets
  refine h.access (fun m h => ?_)
  extract_lets _ m1
  have h1 : m1.Canon := by
    unfold m1
    split
    · exact h.strandStore
    · exact h
  exact h1.retire

theorem fence {m : Module} {t} (h : m.Canon) : (Machine.fence t m).Canon :=
  h.issueWhen (fun _ _ _ _ h => .ite h.updThread h.pass)

theorem loadReturn {m : Module} {t} (h : m.Canon) : (Machine.loadReturn t m).Canon := by
  unfold Machine.loadReturn
  split
  · exact h
  · split
    · exact h
    · split
      · exact h
      · extract_lets m1
        have h1 : m1.Canon := h.updThread
        exact .ite h1.giveCredits h1

theorem hostWriteAck {m : Module} {t} (h : m.Canon) : (Machine.hostWriteAck t m).Canon := by
  unfold Machine.hostWriteAck
  split
  · exact h
  · split
    · exact h
    · split
      · exact h
      · extract_lets m1
        have h1 : m1.Canon := .ite h.giveCredits h
        exact h1.updThread

theorem hostAccessTimeout {m : Module} {t} (h : m.Canon) : (Machine.hostAccessTimeout t m).Canon := by
  unfold Machine.hostAccessTimeout
  split
  · exact h.updThread.strandFault
  · exact h

theorem withObject {m : Module} {t h revoked go} (hm : m.Canon) (hrevoked : ∀ a, a.Canon → (revoked a).Canon)
  (hgo : ∀ x0 x1 a, a.Canon → (go x0 x1 a).Canon) :
    (Machine.withObject t h revoked go m).Canon := by
  unfold Machine.withObject
  split
  · exact hm.strandFault
  · exact .ite hm.strandFault (.ite (hrevoked _ hm) (hgo _ _ _ hm))

theorem lalloc {m : Module} {t} (h : m.Canon) : (Machine.lalloc t m).Canon := by
  unfold Machine.lalloc
  refine h.issue (fun w th x m h => ?_)
  extract_lets
  split <;> exact retire (.of_fst ‹_› h.ligAlloc)

theorem lfree {m : Module} {t} (h : m.Canon) : (Machine.lfree t m).Canon := by
  unfold Machine.lfree
  refine h.issue (fun w th v m h => ?_)
  extract_lets
  refine h.bump.withObject (fun _ h => h.retire) (fun i o m h => ?_)
  split
  · exact h.retire
  · split
    · exact h.retire
    · extract_lets m1
      have h1 : m1.Canon := h.ligFreeIndex.retire
      exact .ite h1.suspendJob h1

theorem ligPost {m : Module} {op t f} (h : m.Canon) (hf : ∀ i o b a, a.Canon → (f i o b a).1.Canon) :
    (Machine.ligPost op t f m).Canon := by
  refine h.issue (fun w x v m h => h.withObject (fun _ h => h.retire) (fun i o m h => ?_))
  split
  exact retire (.of_fst ‹_› (hf _ _ _ _ h))

theorem ligTakeOp {m : Module} {op t recv take} (h : m.Canon) : (Machine.ligTakeOp op t recv take m).Canon := by
  unfold Machine.ligTakeOp
  refine h.issue (fun w x v m h => ?_)
  extract_lets m' result
  have h' : m'.Canon := h.bump
  have hresult : ∀ st msg a, a.Canon → (result st msg a).Canon := by
    intro st msg a ha
    unfold result
    extract_lets a1 a2
    have h1 : a1.Canon := .ite ha.dropLines ha
    have h2 : a2.Canon := .ite h1.updThread h1
    exact .ite h2.retire h1.retire
  clear_value result
  refine h'.withObject (hresult _ _) (fun i o m h => ?_)
  split
  · exact hresult _ _ _ (h.ligPut.foldl fun _ _ ha => ha.wake)
  · exact h.ligPut.updThread.bump

/-! #### Machine/StrandCmd -/

theorem strandLoadCmd {m : Module} {c} (h : m.Canon) : (Machine.strandLoadCmd c m).Canon := by
  unfold Machine.strandLoadCmd
  extract_lets
  refine h.checked (fun m h => ?_)
  split
  · exact h.complete
  · split
    · exact h.verdict
    · split
      · exact h.complete
      · split
        · exact h.fail
        · exact .ok (.frame h.measure)

theorem strandUnloadCmd {m : Module} {c} (h : m.Canon) : (Machine.strandUnloadCmd c m).Canon := by
  unfold Machine.strandUnloadCmd
  extract_lets
  refine h.checked (fun m h => .ok ?_)
  exact .frame h.unmeasure

theorem strandStartCmd {m : Module} {c} (h : m.Canon) : (Machine.strandStartCmd c m).Canon := by
  unfold Machine.strandStartCmd
  extract_lets
  refine h.checked (fun m h => ?_)
  extract_lets _ _ _ m1 _ m2
  have h1 : m1.Canon := by
    unfold m1
    refine h.foldl (fun a x ha => ?_)
    split
    exact .frame ha
  have h2 : m2.Canon := .frame h1
  exact .ok (.ite h2.suspendJob h2)

theorem strandStopCmd {m : Module} {c} (h : m.Canon) : (Machine.strandStopCmd c m).Canon :=
  h.checked (fun _ h => h.stopJob.ok)

theorem strandJobQueryCmd {m : Module} {c} (h : m.Canon) : (Machine.strandJobQueryCmd c m).Canon := by
  unfold Machine.strandJobQueryCmd
  extract_lets
  split
  · exact h.badField
  · exact h.ok

/-! #### Machine/StrandEng -/

theorem capBytes {m : Module} {id off n} (h : m.Canon) : (m.capBytes id off n).2.Canon := by
  unfold Module.capBytes
  extract_lets
  split
  · exact h
  · split <;> exact h.loadHeader
  · exact h
  · extract_lets _ m1'
    have hm1' : m1'.Canon := h.touch
    split
    · exact h
    · split
      · exact hm1'.damage
      · exact hm1'

theorem capLoad {m : Module} {op t n} (h : m.Canon) : (Machine.capLoad op t n m).Canon := by
  unfold Machine.capLoad
  refine h.issueWhen (fun w th v m h => ?_)
  extract_lets
  split
  · exact h.strandFault
  · split
    · exact h.strandFault
    · split
      · rename_i x a1 e
        have ha1 : a1.Canon := .of_snd e h.capBytes
        exact ha1.strandFault
      · rename_i x b a1 e
        have ha1 : a1.Canon := .of_snd e h.capBytes
        exact ha1.updThread

theorem capWrite {m : Module} {id layer page byte b} (h : m.Canon) : (m.capWrite id layer page byte b).Canon := by
  unfold Module.capWrite
  extract_lets
  split
  · extract_lets _ _ _ m2
    have h2 : m2.Canon := h.writeSlot.sendSlots
    exact .ite h2 h2.updPart
  · exact h

theorem capStore {m : Module} {op t n} (h : m.Canon) : (Machine.capStore op t n m).Canon := by
  unfold Machine.capStore
  refine h.issueWhen (fun x x v m h => ?_)
  extract_lets
  split
  · exact h.strandFault
  · split
    · exact h.strandFault
    · split
      · split
        · exact h.damage.strandFault
        · exact h.capWrite.pass
      · exact h

theorem crdb {m : Module} {t} (h : m.Canon) : (Machine.crdb t m).Canon := by
  unfold Machine.crdb
  refine h.issueWhen (fun x th v m h => ?_)
  extract_lets
  split
  · exact h.strandFault
  · split
    · exact h.strandFault
    · split
      · exact h.accessFault
      · split
        · exact h.updThread
        · split
          · rename_i x a1 e
            have ha1 : a1.Canon := .of_snd e h.capBytes
            exact ha1.strandFault
          · rename_i x b a1 e
            have ha1 : a1.Canon := .of_snd e h.capBytes
            extract_lets m2
            have h2 : m2.Canon := ha1.strandStore
            exact .ite h2.takeCredits.updThread h2.pass

theorem eiss {m : Module} {t} (h : m.Canon) : (Machine.eiss t m).Canon := by
  unfold Machine.eiss
  refine issueWhen h ?_
  intro w th v m h
  extract_lets
  split
  · exact h.strandFault
  · split
    · exact h.accessFault
    · exact h.accessFault
    · rename_i op pay blk flag p n x0 go _ _ _ _ _
      have hgo : ∀ m, m.Canon → (go m).Canon := by
        intro m h
        unfold go
        extract_lets
        exact .ite h.bump.retire (.ite h.bump.set.retire (retire (bump (.frame h))))
      clear_value go
      exact .ite h.updThread (.ite (hgo _ h) (h.withObject (fun _ h => h.retire) fun _ _ => hgo))

theorem tacc {m : Module} {t} (h : m.Canon) : (Machine.tacc t m).Canon := by
  unfold Machine.tacc
  refine h.issue (fun w x v m h => ?_)
  extract_lets
  split
  · exact h.handToken.retire
  · refine h.withObject (fun _ h => h.retire) (fun x x m h => ?_)
    exact h.handToken.retire

/-! #### Machine/Time -/

theorem nowRead {m : Module} (h : m.Canon) : (Machine.nowRead m).Canon := h.set.emit

theorem stepTo {m : Module} {now} (h : m.Canon) : (m.stepTo now).Canon := by
  unfold Module.stepTo
  extract_lets _ _ _ m1
  have h1 : m1.Canon := .frame h
  exact h1.schedStep.foldl (fun _ _ ha => ha.gateNow)

theorem timeSetCmd {m : Module} {c} (h : m.Canon) : (Machine.timeSetCmd c m).Canon := .ite h.fail h.stepTo.set.ok

theorem timeStepAllowCmd {m : Module} {c} (h : m.Canon) : (Machine.timeStepAllowCmd c m).Canon :=
  h.checked (fun _ h => .ok (.frame h))

theorem ptpAnnounce {m : Module} {a} (h : m.Canon) : (Machine.ptpAnnounce a m).Canon := by
  unfold Machine.ptpAnnounce
  split
  · exact h
  · extract_lets _ _ m1
    have h1 : m1.Canon := .frame h
    exact .ite h h1.set.set.set

theorem ptpStep {m : Module} {offset} (h : m.Canon) : (m.ptpStep offset).Canon := by
  unfold Module.ptpStep
  extract_lets _ _ m2
  have h2 : m2.Canon := .frame h.stepTo
  exact h2.set.set.bump.event

theorem slew {m : Module} (h : m.Canon) : m.slew.Canon := by
  unfold Module.slew
  split
  rename_i x stays m1 e
  have h1 : m1.Canon := .of_snd e h.choose
  exact h1.set

theorem ptpTiming {m : Module} {offset delay} (h : m.Canon) : (Machine.ptpTiming offset delay m).Canon := by
  unfold Machine.ptpTiming
  split
  · exact h
  · extract_lets _ _ m1 _ _ m2 m3 _ _ m2'
    have h1 : m1.Canon := .set (.frame h)
    have h2 : m2.Canon := .frame h1
    have h3 : m3.Canon := h2.slew
    have hm2' : m2'.Canon := .frame h1
    exact .ite h.bump (.ite (.ite (.set (.set (.frame h3))) h3) (.ite hm2' (.ite hm2'.set.event hm2'.ptpStep)))

theorem ptpAnnounceTimeout {m : Module} (h : m.Canon) : (Machine.ptpAnnounceTimeout m).Canon := by
  unfold Machine.ptpAnnounceTimeout
  split
  · exact .set (.set (.frame h))
  · exact h

theorem tick {m : Module} (h : m.Canon) : m.tick.Canon := by
  unfold Module.tick
  split
  · exact .frame h
  · exact h

theorem innerTick {m : Module} (h : m.Canon) : m.innerTick.Canon := .frame (h.foldl (fun _ _ ha => ha.bumpBy))

end Sys2Proof.Machine.Module.Canon
end

/-! ### What a command or event may do -/

section
namespace Sys2Proof.Machine
open Sys2Proof

/-- What a command or event c may make of the time counter `old`, which the module m then holds. -/
inductive ClockMoves (c : Instr) (old : Clk) (m : Module) : Prop
  | stays (h : m.clk = old)
  | advances (hc : stepsClock c = false) (d : Nat) (h : m.clk = old.advance d)
  | steps (hc : stepsClock c = true) (hn : m.clk.now < 2 ^ 64) (hf : m.clk.frac = old.frac) (hm : m.clk.mono = old.mono)
  | stops (hl : m.live = false) (hc : stepsClock c = false) (hn : m.clk.now = 0) (hf : m.clk.frac = 0)
      (hm : old.mono ≤ m.clk.mono)

/-- What a command or event c may make of the module `old`: the time counter moves in one of the ways above, and memories in
canonical form stay so. -/
structure Moves (c : Instr) (old new : Module) : Prop where
  clk : ClockMoves c old.clk new
  canon : old.Canon → new.Canon

/-- The outcomes that c may have on s: a next state or a fault when c is well formed, a refusal as ill-formed when not. -/
inductive Acts (c : Instr) (s : State) : Out → Prop
  | next {t : State} (hc : c.wf = true) (hm : Moves c s.m t.m) : Acts c s (.next t)
  | fault {f : Fault} (hc : c.wf = true) : Acts c s (.fault f)
  | refused (hc : c.wf = false) : Acts c s (.refused .illFormed)

theorem Clk.fits_iff {c : Clk} : c.fits = true ↔ c.now < 2 ^ 64 ∧ c.frac < 2 ^ 32 := by
  simp [Clk.fits]

theorem Clk.fits_advance {c : Clk} (h : c.fits = true) (d : Nat) : (c.advance d).fits = true :=
  fits_iff.2 ⟨Nat.mod_lt _ (by decide), (fits_iff.1 h).2⟩

theorem Clk.advance_advance (c : Clk) (d e : Nat) : (c.advance d).advance e = c.advance (d + e) := by
  simp [Clk.advance, Nat.add_assoc]

/-- A timed event first lets the counter advance to the instant that it is due. -/
theorem Module.advanceTo_clk (m : Module) (due : Nat) :
    (m.advanceTo due).clk = m.clk ∨ ∃ d, (m.advanceTo due).clk = m.clk.advance d := by
  unfold Module.advanceTo
  split
  · exact .inr ⟨_, rfl⟩
  · exact .inl rfl

/-- A counter runs on over a reset, or stands at 0 while the module does not run. -/
theorem Module.clkAfter_clk (old : Clk) (m : Module) :
    (m.clkAfter old).clk = old ∨ ((m.clkAfter old).live = false ∧ (m.clkAfter old).clk = ⟨0, 0, old.mono⟩) := by
  unfold Module.clkAfter
  cases hl : m.live with
  | true => exact .inl rfl
  | false =>
    cases m.power.phase == .holdup with
    | true => exact .inl rfl
    | false => exact .inr ⟨hl, rfl⟩

theorem Module.Canon.advanceTo {m : Module} {due : Nat} (h : m.Canon) : (m.advanceTo due).Canon := .ite (.frame h) h

namespace ClockMoves
variable {c : Instr} {old : Clk} {m : Module}

theorem mono_le (h : ClockMoves c old m) : old.mono ≤ m.clk.mono := by
  cases h with
  | stays h => exact h ▸ Nat.le_refl _
  | advances _ d h => exact h ▸ Nat.le_add_right _ _
  | steps _ _ _ hm => exact hm.ge
  | stops _ _ _ _ hm => exact hm

/-- A row that steps the counter leaves the elapsed time. -/
theorem mono_eq (h : ClockMoves c old m) (hs : stepsClock c = true) : m.clk.mono = old.mono := by
  cases h with
  | stays h => rw [h]
  | steps _ _ _ hm => exact hm
  | advances hc | stops _ hc => simp [hs] at hc

theorem fits (h : ClockMoves c old m) (ho : old.fits = true) : m.clk.fits = true := by
  cases h with
  | stays h => exact h ▸ ho
  | advances _ d h => exact h ▸ Clk.fits_advance ho d
  | steps _ hn hf => exact Clk.fits_iff.2 ⟨hn, hf ▸ (Clk.fits_iff.1 ho).2⟩
  | stops _ _ hn hf => simp [Clk.fits_iff, hn, hf]

/-- The counter of a row that may reset the module: it runs on, or stands at 0 while the module does not run. -/
theorem after (hc : stepsClock c = false) (old : Clk) (m : Module) : ClockMoves c old (m.clkAfter old) := by
  rcases Module.clkAfter_clk old m with h | ⟨hl, h⟩
  · exact .stays h
  · exact .stops hl hc (by rw [h]) (by rw [h]) (by rw [h])

/-- The counter of a timed event, which first advances to the instant that the event is due. -/
theorem ofAdvance {k : Module} {due : Nat} (hc : stepsClock c = false) (h : ClockMoves c (k.advanceTo due).clk m) :
    ClockMoves c k.clk m := by
  rcases k.advanceTo_clk due with e | ⟨d, e⟩
  · exact e ▸ h
  · rw [e] at h
    cases h with
    | stays h => exact .advances hc d h
    | advances _ d' h => exact .advances hc (d + d') (by rw [h, Clk.advance_advance])
    | steps hs => simp [hc] at hs
    | stops hl _ hn hf hm => exact .stops hl hc hn hf (Nat.le_trans (Nat.le_add_right _ d) hm)

end ClockMoves

namespace Acts
variable {c : Instr} {s : State} {f : Module → Module} {due : Module → Nat}

theorem run (hc : c.wf = true) (hf : ∀ m, m.Canon → (f m).Canon) : Acts c s (run f s) := by
  refine .next hc ?_
  split
  · exact ⟨.stays rfl, fun h => .frame (hf _ h)⟩
  · exact ⟨.stays rfl, id⟩

theorem runIf {ok : Bool} (hc : c.wf = ok) (hf : ∀ m, m.Canon → (f m).Canon) : Acts c s (runIf ok f s) := by
  cases ok with
  | true => exact .run hc hf
  | false => exact .refused hc

theorem runStep (hc : c.wf = true) (hs : stepsClock c = true) (hf : ∀ m, m.Canon → (f m).Canon) : Acts c s
  (runStep f s) := by
  refine .next hc ?_
  split
  · exact ⟨.steps hs (Nat.mod_lt _ (by decide)) rfl rfl, fun h => .frame (hf _ h)⟩
  · exact ⟨.stays rfl, id⟩

theorem runReset (hc : c.wf = true) (hs : stepsClock c = false) (hf : ∀ m, m.Canon → (f m).Canon) :
    Acts c s (runReset f s) := by
  refine .next hc ?_
  split
  · exact ⟨.after hs _ _, fun h => (hf _ h).clkAfter⟩
  · exact ⟨.stays rfl, id⟩

theorem runPower (hc : c.wf = true) (hs : stepsClock c = false) (hf : ∀ m, m.Canon → (f m).Canon) :
    Acts c s (runPower f s) := .next hc ⟨.after hs _ _, fun h => (hf _ h).clkAfter⟩

theorem runAt (hc : c.wf = true) (hs : stepsClock c = false) (hf : ∀ m, m.Canon → (f m).Canon) : Acts c s
  (runAt due f s) := by
  refine .next hc ?_
  split
  · exact ⟨.ofAdvance hs (.stays rfl), fun h => .frame (hf _ h.advanceTo)⟩
  · exact ⟨.stays rfl, id⟩

theorem runPowerAt (hc : c.wf = true) (hs : stepsClock c = false) (hf : ∀ m, m.Canon → (f m).Canon) :
    Acts c s (runPowerAt due f s) :=
  .next hc ⟨.ofAdvance hs (.after hs _ _), fun h => (hf _ h.advanceTo).clkAfter⟩

/-- A row that is refused unless its operands name places that the module has. -/
theorem guarded {p : Prop} [Decidable p] {o : Out} (hc : c.wf = decide p) (h : c.wf = true → Acts c s o) :
    Acts c s (if p then o else .refused .illFormed) := by
  split
  · exact h (hc.trans (decide_eq_true ‹_›))
  · exact .refused (hc.trans (decide_eq_false ‹_›))

theorem ite {p : Prop} [Decidable p] {a b : Out} (ha : Acts c s a) (hb : Acts c s b) : Acts c s (if p then a else b) := by
  split <;> assumption

end Acts

/-- What every command or event may do, by its row. -/
theorem exec_acts (c : Instr) (s : State) : Acts c s (exec c s) :=
  match c with
  | .registerWrite off bytes value =>
    show Acts _ s (execRegisterWrite off bytes value s) from .guarded rfl fun hc => .runReset hc rfl fun _ h =>
      h.registerWrite
  | .nowNsRead => show Acts _ s (execNowNsRead s) from .run rfl fun _ h => h.nowRead
  | .mailboxSlotWrite mb off data =>
    show Acts _ s (execMailboxSlotWrite mb off data s) from .runIf rfl fun _ h => h.slotWrite
  | .mailboxGo mb value => show Acts _ s (execMailboxGo mb value s) from .runIf rfl fun _ h => h.mailboxGo
  | .ringTailWrite p v => show Acts _ s (execRingTailWrite p v s) from .runIf rfl fun _ h => .ite h h.ringTailWrite
  | .moduleReset value => show Acts _ s (execModuleReset value s) from .runReset rfl rfl fun _ h => h.resetWrite
  | .partitionReset value => show Acts _ s (execPartitionReset value s) from .runReset rfl rfl fun _ h => h.resetWrite
  | .cursorWrite off bytes value => show Acts _ s (execCursorWrite off bytes value s) from .run rfl fun _ h => h.cursorWrite
  | .advance off bytes value => show Acts _ s (execAdvance off bytes value s) from .run rfl fun _ h => h.advanceWrite
  | .windowLoadComplete => show Acts _ s (execWindowLoadComplete s) from .run rfl fun _ h => h.windowLoad
  | .nop src => show Acts _ s (execNop src s) from .run rfl fun _ h => h.onCmd fun _ _ h => h.ok
  | .identify src => show Acts _ s (execIdentify src s) from .run rfl fun _ h => h.onCmd fun _ _ h => h.ok
  | .capsuleCreate src =>
    show Acts _ s (execCapsuleCreate src s) from .run rfl fun _ h => h.onCmd fun _ _ h => h.capsuleCreateCmd
  | .capsuleDelete src =>
    show Acts _ s (execCapsuleDelete src s) from .run rfl fun _ h => h.onCmd fun _ _ h => h.capsuleDeleteCmd
  | .capsuleQuery src =>
    show Acts _ s (execCapsuleQuery src s) from .run rfl fun _ h => h.onCmd fun _ _ h => h.capsuleQueryCmd
  | .capsuleRead src => show Acts _ s (execCapsuleRead src s) from .run rfl fun _ h => h.onCmd fun _ _ h => h.capsuleReadCmd
  | .capsulePark src => show Acts _ s (execCapsulePark src s) from .run rfl fun _ h => h.onCmd fun _ _ h => h.capsuleParkCmd
  | .capsuleTruncate src =>
    show Acts _ s (execCapsuleTruncate src s) from .run rfl fun _ h => h.onCmd fun _ _ h => h.capsuleTruncateCmd
  | .capsuleRepair src =>
    show Acts _ s (execCapsuleRepair src s) from .run rfl fun _ h => h.onCmd fun _ _ h => h.capsuleRepairCmd
  | .repairBlockArrival capsule entry block b check ok =>
    show Acts _ s (execRepairBlockArrival capsule entry block b check ok s) from .run rfl fun _ h => h.repairArrival
  | .capsuleSweep src =>
    show Acts _ s (execCapsuleSweep src s) from .run rfl fun _ h => h.onCmd fun _ _ h => h.capsuleSweepCmd
  | .sweepInterval => show Acts _ s (execSweepInterval s) from .runAt rfl rfl fun _ h => h.sweepInterval
  | .slidePlace src => show Acts _ s (execSlidePlace src s) from .run rfl fun _ h => h.onCmd fun _ _ h => h.slidePlaceCmd
  | .slideSchedule src =>
    show Acts _ s (execSlideSchedule src s) from .run rfl fun _ h => h.onCmd fun _ _ h => h.slideScheduleCmd
  | .slideSwapRegister src =>
    show Acts _ s (execSlideSwapRegister src s) from .run rfl fun _ h => h.onCmd fun _ _ h => h.slideSwapRegisterCmd
  | .slideSwapRelease src =>
    show Acts _ s (execSlideSwapRelease src s) from .run rfl fun _ h => h.onCmd fun _ _ h => h.slideSwapReleaseCmd
  | .hintMove => show Acts _ s (execHintMove s) from .run rfl fun _ h => h.hintMove
  | .prefetchIssue entry => show Acts _ s (execPrefetchIssue entry s) from .run rfl fun _ h => h.prefetchIssue
  | .tileTransferComplete xfer corrected failed =>
    show Acts _ s (execTileTransferComplete xfer corrected failed s) from .run rfl fun _ h => h.tileComplete
  | .prefetchDeadline entry step =>
    show Acts _ s (execPrefetchDeadline entry step s) from .runAt rfl rfl fun _ h => h.prefetchDeadline
  | .stallWarn entry => show Acts _ s (execStallWarn entry s) from .runAt rfl rfl fun _ h => h.stallWarn
  | .hostSwapCascade => show Acts _ s (execHostSwapCascade s) from .run rfl fun _ h => h.hostCascade
  | .hostTierReadTimeout xfer =>
    show Acts _ s (execHostTierReadTimeout xfer s) from .runAt rfl rfl fun _ h => h.hostReadTimeout
  | .attnModelRegister src =>
    show Acts _ s (execAttnModelRegister src s) from .run rfl fun _ h => h.onCmd fun _ _ h => h.modelRegisterCmd
  | .attnModelRelease src =>
    show Acts _ s (execAttnModelRelease src s) from .run rfl fun _ h => h.onCmd fun _ _ h => h.modelReleaseCmd
  | .attnSubmit src => show Acts _ s (execAttnSubmit src s) from .run rfl fun _ h => h.onCmd fun _ _ h => h.submitCmd
  | .attnProgramLoad src =>
    show Acts _ s (execAttnProgramLoad src s) from .run rfl fun _ h => h.onCmd fun _ _ h => h.programLoadCmd
  | .attnProgramStart src =>
    show Acts _ s (execAttnProgramStart src s) from .run rfl fun _ h => h.onCmd fun _ _ h => h.programStartCmd
  | .attnProgramStop src =>
    show Acts _ s (execAttnProgramStop src s) from .run rfl fun _ h => h.onCmd fun _ _ h => h.programStopCmd
  | .attnCoreAssign src =>
    show Acts _ s (execAttnCoreAssign src s) from .run rfl fun _ h => h.onCmd fun _ _ h => h.coreAssignCmd
  | .coreModeDrained core => show Acts _ s (execCoreModeDrained core s) from .runIf rfl fun _ h => h.coreModeDrained
  | .query endpoint g => show Acts _ s (execQuery endpoint g s) from .run rfl fun _ h => h.queryMsg
  | .batchWaitExpiry core =>
    show Acts _ s (execBatchWaitExpiry core s) from .guarded rfl fun hc => .runAt hc rfl fun _ h => h.batchExpiry
  | .blockBoundary core => show Acts _ s (execBlockBoundary core s) from .runIf rfl fun _ h => h.blockBoundary
  | .queryTimeout => show Acts _ s (execQueryTimeout s) from .runAt rfl rfl fun _ h => h.queryTimeout
  | .orphanQueryExpiry => show Acts _ s (execOrphanQueryExpiry s) from .runAt rfl rfl fun _ h => h.orphanExpiry
  | .programSliceExpiry core =>
    show Acts _ s (execProgramSliceExpiry core s) from .guarded rfl fun hc => .runAt hc rfl fun _ h => .ite h.newSlice h
  | .coreLoad core => show Acts _ s (execCoreLoad core s) from .runIf rfl fun _ h => h.opLoad
  | .coreStore core => show Acts _ s (execCoreStore core s) from .runIf rfl fun _ h => h.opStore
  | .coreCapread core => show Acts _ s (execCoreCapread core s) from .runIf rfl fun _ h => h.opCapread
  | .coreMatmul core => show Acts _ s (execCoreMatmul core s) from .runIf rfl fun _ h => h.opMatmul
  | .coreVecop core => show Acts _ s (execCoreVecop core s) from .runIf rfl fun _ h => h.opVecop
  | .coreFused core => show Acts _ s (execCoreFused core s) from .runIf rfl fun _ h => h.opFused
  | .coreWait core => show Acts _ s (execCoreWait core s) from .runIf rfl fun _ h => h.opWait
  | .coreSignal core => show Acts _ s (execCoreSignal core s) from .runIf rfl fun _ h => h.opSignal
  | .coreLoop core => show Acts _ s (execCoreLoop core s) from .runIf rfl fun _ h => h.opLoop
  | .coreEnd core => show Acts _ s (execCoreEnd core s) from .runIf rfl fun _ h => h.opEnd
  | .stepAdmit src => show Acts _ s (execStepAdmit src s) from .run rfl fun _ h => h.onCmd fun _ _ h => h.stepAdmitCmd
  | .admitInputRead src ok => show Acts _ s (execAdmitInputRead src ok s) from .run rfl fun _ h => h.admitInputRead
  | .stepAppend src => show Acts _ s (execStepAppend src s) from .run rfl fun _ h => h.onCmd fun _ _ h => h.stepAppendCmd
  | .stepWait src => show Acts _ s (execStepWait src s) from .run rfl fun _ h => h.onCmd fun _ _ h => h.stepWaitCmd
  | .stepEnd src => show Acts _ s (execStepEnd src s) from .run rfl fun _ h => h.onCmd fun _ _ h => h.stepEndCmd
  | .stepQuery src => show Acts _ s (execStepQuery src s) from .run rfl fun _ h => h.onCmd fun _ _ h => h.stepQueryCmd
  | .stepSet src => show Acts _ s (execStepSet src s) from .run rfl fun _ h => h.onCmd fun _ _ h => h.stepSetCmd
  | .stepBatch src => show Acts _ s (execStepBatch src s) from .run rfl fun _ h => h.onCmd fun _ _ h => h.stepBatchCmd
  | .stepPoolBind src => show Acts _ s (execStepPoolBind src s) from .run rfl fun _ h => h.onCmd fun _ _ h => h.poolBindCmd
  | .stepRingSet src => show Acts _ s (execStepRingSet src s) from .run rfl fun _ h => h.onCmd fun _ _ h => h.ringSetCmd
  | .stepBuild p => show Acts _ s (execStepBuild p s) from .runIf rfl fun _ h => h.stepBuild
  | .sampleRecordPrepare p => show Acts _ s (execSampleRecordPrepare p s) from .runIf rfl fun _ h => h.samplePrepare
  | .accountPhase p => show Acts _ s (execAccountPhase p s) from .runIf rfl fun _ h => h.accountPhase
  | .writePhase p => show Acts _ s (execWritePhase p s) from .runIf rfl fun _ h => h.writePhase
  | .outputCommit p => show Acts _ s (execOutputCommit p s) from .runIf rfl fun _ h => h.outputCommit
  | .budgetOpen src => show Acts _ s (execBudgetOpen src s) from .run rfl fun _ h => h.onCmd fun _ _ h => h.budgetOpenCmd
  | .budgetClose src => show Acts _ s (execBudgetClose src s) from .run rfl fun _ h => h.onCmd fun _ _ h => h.budgetCloseCmd
  | .budgetSet src => show Acts _ s (execBudgetSet src s) from .run rfl fun _ h => h.onCmd fun _ _ h => h.budgetSetCmd
  | .budgetQuery src => show Acts _ s (execBudgetQuery src s) from .run rfl fun _ h => h.onCmd fun _ _ h => h.budgetQueryCmd
  | .accountPeriodEnd a =>
    show Acts _ s (execAccountPeriodEnd a s) from .guarded rfl fun hc => .runAt hc rfl fun _ h => h.closePeriods
  | .prefixCreate src =>
    show Acts _ s (execPrefixCreate src s) from .run rfl fun _ h => h.onCmd fun _ _ h => h.prefixCreateCmd
  | .prefixDelete src =>
    show Acts _ s (execPrefixDelete src s) from .run rfl fun _ h => h.onCmd fun _ _ h => h.prefixDeleteCmd
  | .prefixFind src => show Acts _ s (execPrefixFind src s) from .run rfl fun _ h => h.onCmd fun _ _ h => h.prefixFindCmd
  | .prefixPlace src => show Acts _ s (execPrefixPlace src s) from .run rfl fun _ h => h.onCmd fun _ _ h => h.prefixPlaceCmd
  | .adapterLoad src => show Acts _ s (execAdapterLoad src s) from .run rfl fun _ h => h.onCmd fun _ _ h => h.adapterLoadCmd
  | .adapterRetire src =>
    show Acts _ s (execAdapterRetire src s) from .run rfl fun _ h => h.onCmd fun _ _ h => h.adapterRetireCmd
  | .adapterQuery src =>
    show Acts _ s (execAdapterQuery src s) from .run rfl fun _ h => h.onCmd fun _ _ h => h.adapterQueryCmd
  | .adapterPoolBind src =>
    show Acts _ s (execAdapterPoolBind src s) from .run rfl fun _ h => h.onCmd fun _ _ h => h.adapterPoolBindCmd
  | .specBind src => show Acts _ s (execSpecBind src s) from .run rfl fun _ h => h.onCmd fun _ _ h => h.specBindCmd
  | .mouthTokenizerLoad src =>
    show Acts _ s (execMouthTokenizerLoad src s) from .run rfl fun _ h => h.onCmd fun _ _ h => h.tokenizerLoadCmd
  | .mouthTokenizerUnload src =>
    show Acts _ s (execMouthTokenizerUnload src s) from .run rfl fun _ h => h.onCmd fun _ _ h => h.tokenizerUnloadCmd
  | .mouthGrammarLoad src =>
    show Acts _ s (execMouthGrammarLoad src s) from .run rfl fun _ h => h.onCmd fun _ _ h => h.grammarLoadCmd
  | .mouthGrammarUnload src =>
    show Acts _ s (execMouthGrammarUnload src s) from .run rfl fun _ h => h.onCmd fun _ _ h => h.grammarUnloadCmd
  | .mouthGrammarSet src =>
    show Acts _ s (execMouthGrammarSet src s) from .run rfl fun _ h => h.onCmd fun _ _ h => h.grammarSetCmd
  | .mouthStopLoad src => show Acts _ s (execMouthStopLoad src s) from .run rfl fun _ h => h.onCmd fun _ _ h => h.stopLoadCmd
  | .mouthTextSet src => show Acts _ s (execMouthTextSet src s) from .run rfl fun _ h => h.onCmd fun _ _ h => h.textSetCmd
  | .mouthTokenize src => show Acts _ s (execMouthTokenize src s) from .run rfl fun _ h => h.onCmd fun _ _ h => h.tokenizeCmd
  | .mouthCarryFlush src =>
    show Acts _ s (execMouthCarryFlush src s) from .run rfl fun _ h => h.onCmd fun _ _ h => h.carryFlushCmd
  | .nextMaskWrite p n => show Acts _ s (execNextMaskWrite p n s) from .runIf rfl fun _ h => h.nextMaskWrite
  | .boreIndexCreate src =>
    show Acts _ s (execBoreIndexCreate src s) from .run rfl fun _ h => h.onCmd fun _ _ h => h.boreCreateCmd
  | .boreIndexDrop src => show Acts _ s (execBoreIndexDrop src s) from .run rfl fun _ h => h.onCmd fun _ _ h => h.boreDropCmd
  | .boreIndexInfo src => show Acts _ s (execBoreIndexInfo src s) from .run rfl fun _ h => h.onCmd fun _ _ h => h.boreInfoCmd
  | .boreQuery src => show Acts _ s (execBoreQuery src s) from .run rfl fun _ h => h.onCmd fun _ _ h => h.boreQueryCmd
  | .boreInsert src => show Acts _ s (execBoreInsert src s) from .run rfl fun _ h => h.onCmd fun _ _ h => h.boreInsertCmd
  | .boreDelete src => show Acts _ s (execBoreDelete src s) from .run rfl fun _ h => h.onCmd fun _ _ h => h.boreDeleteCmd
  | .boreRepair src => show Acts _ s (execBoreRepair src s) from .run rfl fun _ h => h.onCmd fun _ _ h => h.boreRepairCmd
  | .boreRecordArrival reader node corrected failed =>
    show Acts _ s (execBoreRecordArrival reader node corrected failed s) from .run rfl fun _ h => h.recordArrival
  | .repairPass index shard => show Acts _ s (execRepairPass index shard s) from .runIf rfl fun _ h => h.repairPass
  | .shardOpen index shard => show Acts _ s (execShardOpen index shard s) from .runIf rfl fun _ h => h.shardOpen
  | .ftlHealth src => show Acts _ s (execFtlHealth src s) from .run rfl fun _ h => h.onCmd fun _ _ h => h.ftlHealthCmd
  | .ftlFlush src => show Acts _ s (execFtlFlush src s) from .run rfl fun _ h => h.onCmd fun _ _ h => h.ftlFlushCmd
  | .ftlScrub src => show Acts _ s (execFtlScrub src s) from .run rfl fun _ h => h.onCmd fun _ _ h => h.ftlScrubCmd
  | .writeAccept c =>
    show Acts _ s (execWriteAccept c s) from .runIf rfl fun _ h => h.writeAccept.finishMoves.deletesDone.boreRun
  | .programComplete c ok =>
    show Acts _ s (execProgramComplete c ok s) from .runIf rfl fun _ h => h.programComplete.boreArbiter
  | .eraseComplete c b ok => show Acts _ s (execEraseComplete c b ok s) from .runIf rfl fun _ h => h.eraseComplete
  | .journalFlush => show Acts _ s (execJournalFlush s) from .runAt rfl rfl fun _ h => h.journalFlush
  | .garbageCollection c => show Acts _ s (execGarbageCollection c s) from .runIf rfl fun _ h => h.garbage
  | .wearMove c => show Acts _ s (execWearMove c s) from .runIf rfl fun _ h => h.wearMove
  | .refresh c b => show Acts _ s (execRefresh c b s) from .runIf rfl fun _ h => h.refresh
  | .nandTempSample temps =>
    show Acts _ s (execNandTempSample temps s) from .guarded Bool.decide_eq_true.symm fun hc => .runAt hc rfl fun _ h =>
      h.nandTemp
  | .ftlRebuild holdsOk =>
    show Acts _ s (execFtlRebuild holdsOk s) from .run rfl fun _ h => h.when fun _ h => .ftlRebuild (.frame h)
  | .mirrorPair src => show Acts _ s (execMirrorPair src s) from .run rfl fun _ h => h.onCmd fun _ _ h => h.mirrorPairCmd
  | .mirrorStatus src =>
    show Acts _ s (execMirrorStatus src s) from .run rfl fun _ h => h.onCmd fun _ _ h => h.mirrorStatusCmd
  | .mirrorHandover src =>
    show Acts _ s (execMirrorHandover src s) from .run rfl fun _ h => h.onCmd fun _ _ h => h.mirrorHandoverCmd
  | .mirrorClaim src => show Acts _ s (execMirrorClaim src s) from .run rfl fun _ h => h.onCmd fun _ _ h => h.mirrorClaimCmd
  | .mirrorTakeover src =>
    show Acts _ s (execMirrorTakeover src s) from .run rfl fun _ h => h.onCmd fun _ _ h => h.mirrorTakeoverCmd
  | .mirrorFence src => show Acts _ s (execMirrorFence src s) from .run rfl fun _ h => h.onCmd fun _ _ h => h.mirrorFenceCmd
  | .mirrorResync src =>
    show Acts _ s (execMirrorResync src s) from .run rfl fun _ h => h.onCmd fun _ _ h => h.mirrorResyncCmd
  | .recSlots r => show Acts _ s (execRecSlots r s) from .run rfl fun _ h => h.recordIn fun _ _ h => h.inSequence
  | .recCopyShared r => show Acts _ s (execRecCopyShared r s) from .run rfl fun _ h => h.recordIn fun _ _ h => h.inSequence
  | .recHeader r => show Acts _ s (execRecHeader r s) from .run rfl fun _ h => h.recordIn fun _ _ h => h.inSequence
  | .recTruncate r => show Acts _ s (execRecTruncate r s) from .run rfl fun _ h => h.recordIn fun _ _ h => h.inSequence
  | .recEntry r => show Acts _ s (execRecEntry r s) from .run rfl fun _ h => h.recordIn fun _ _ h => h.inSequence
  | .recText r => show Acts _ s (execRecText r s) from .run rfl fun _ h => h.recordIn fun _ _ h => h.inSequence
  | .recAccount r => show Acts _ s (execRecAccount r s) from .run rfl fun _ h => h.recordIn fun _ _ h => h.inSequence
  | .recPrefix r => show Acts _ s (execRecPrefix r s) from .run rfl fun _ h => h.recordIn fun _ _ h => h.inSequence
  | .recOutput r => show Acts _ s (execRecOutput r s) from .run rfl fun _ h => h.recordIn fun _ _ h => h.inSequence
  | .recStepMark r => show Acts _ s (execRecStepMark r s) from .run rfl fun _ h => h.recordIn fun _ _ h => h.inSequence
  | .recCommitNote r => show Acts _ s (execRecCommitNote r s) from .run rfl fun _ h => h.recordIn fun _ _ h => h.inSequence
  | .recClaim r => show Acts _ s (execRecClaim r s) from .run rfl fun _ h => h.recordIn fun _ _ h => h.inSequence
  | .recHandover r => show Acts _ s (execRecHandover r s) from .run rfl fun _ h => h.recordIn fun _ _ h => h.inSequence
  | .recLeaseQuery r => show Acts _ s (execRecLeaseQuery r s) from .run rfl fun _ h => h.recordIn fun _ _ h => h.inSequence
  | .recSlotRequest r => show Acts _ s (execRecSlotRequest r s) from .run rfl fun _ h => h.recordIn fun _ _ h => h.inSequence
  | .recSlotGrant r => show Acts _ s (execRecSlotGrant r s) from .run rfl fun _ h => h.recordIn fun _ _ h => h.inSequence
  | .recHeartbeat r => show Acts _ s (execRecHeartbeat r s) from .run rfl fun _ h => h.recordIn fun _ _ h => h.takeBeat
  | .recAck r => show Acts _ s (execRecAck r s) from .run rfl fun _ h => h.recordIn fun _ _ h => .ite h.takeAck h
  | .recReplay r => show Acts _ s (execRecReplay r s) from .run rfl fun _ h => h.recordIn fun _ _ h => h.takeReplay
  | .recResyncTile r => show Acts _ s (execRecResyncTile r s) from .run rfl fun _ h => h.recordIn fun _ _ h => h.inSequence
  | .recFenceNote r => show Acts _ s (execRecFenceNote r s) from .run rfl fun _ h => h.recordIn fun _ _ h => h.inSequence
  | .recRefuse r => show Acts _ s (execRecRefuse r s) from .run rfl fun _ h => h.recordIn fun _ _ h => h.inSequence
  | .recHello r keys => show Acts _ s (execRecHello r keys s) from .run rfl fun _ h => h.recordIn fun _ _ h => h.takeHello
  | .recInput r => show Acts _ s (execRecInput r s) from .run rfl fun _ h => h.recordIn fun _ _ h => h.inSequence
  | .recReservedKind r =>
    show Acts _ s (execRecReservedKind r s) from .run rfl fun _ h => h.recordIn fun _ _ h => h.inSequence
  | .linkHeartbeatTick => show Acts _ s (execLinkHeartbeatTick s) from .runAt rfl rfl fun _ h => h.linkBeat
  | .netHeartbeatTick => show Acts _ s (execNetHeartbeatTick s) from .runAt rfl rfl fun _ h => h.netBeat
  | .ackSendTick => show Acts _ s (execAckSendTick s) from .run rfl fun _ h => h.ackTick
  | .linkSilent => show Acts _ s (execLinkSilent s) from .runAt rfl rfl fun _ h => h.linkSilent
  | .netSilent => show Acts _ s (execNetSilent s) from .runAt rfl rfl fun _ h => h.netSilent
  | .leaseLapse capsule => show Acts _ s (execLeaseLapse capsule s) from .runAt rfl rfl fun _ h => h.leaseLapse
  | .heldWriteTimeout held => show Acts _ s (execHeldWriteTimeout held s) from .runAt rfl rfl fun _ h => h.heldTimeout
  | .laneFailure lane => show Acts _ s (execLaneFailure lane s) from .runIf rfl fun _ h => h.laneFails
  | .partnerLinkRetrained lost => show Acts _ s (execPartnerLinkRetrained lost s) from .run rfl fun _ h => h.linkTrained
  | .ckptTargetSet src =>
    show Acts _ s (execCkptTargetSet src s) from .run rfl fun _ h => h.onCmd fun _ _ h => h.ckptTargetCmd
  | .ckptTake src => show Acts _ s (execCkptTake src s) from .run rfl fun _ h => h.onCmd fun _ _ h => h.ckptTakeCmd
  | .ckptAbort src => show Acts _ s (execCkptAbort src s) from .run rfl fun _ h => h.onCmd fun _ _ h => h.ckptAbortCmd
  | .ckptRelease src => show Acts _ s (execCkptRelease src s) from .run rfl fun _ h => h.onCmd fun _ _ h => h.ckptReleaseCmd
  | .ckptRestore src fetched =>
    show Acts _ s (execCkptRestore src fetched s) from .run rfl fun _ h => h.onCmd fun _ _ h => h.ckptRestoreCmd
  | .checkpointCut => show Acts _ s (execCheckpointCut s) from .run rfl fun _ h => h.checkpointCut
  | .cutWaitExpiry => show Acts _ s (execCutWaitExpiry s) from .runAt rfl rfl fun _ h => h.cutWaitExpiry
  | .checkpointCopyComplete => show Acts _ s (execCheckpointCopyComplete s) from .runAt rfl rfl fun _ h => h.copyComplete
  | .manifestWriteComplete => show Acts _ s (execManifestWriteComplete s) from .run rfl fun _ h => h.manifestComplete
  | .destinationTimeout => show Acts _ s (execDestinationTimeout s) from .runAt rfl rfl fun _ h => h.destinationTimeout
  | .failureWarning src count => show Acts _ s (execFailureWarning src count s) from .runIf rfl fun _ h => h.failureWarning
  | .strandLoad src => show Acts _ s (execStrandLoad src s) from .run rfl fun _ h => h.onCmd fun _ _ h => h.strandLoadCmd
  | .strandUnload src =>
    show Acts _ s (execStrandUnload src s) from .run rfl fun _ h => h.onCmd fun _ _ h => h.strandUnloadCmd
  | .strandStart src => show Acts _ s (execStrandStart src s) from .run rfl fun _ h => h.onCmd fun _ _ h => h.strandStartCmd
  | .strandStop src => show Acts _ s (execStrandStop src s) from .run rfl fun _ h => h.onCmd fun _ _ h => h.strandStopCmd
  | .strandJobQuery src =>
    show Acts _ s (execStrandJobQuery src s) from .run rfl fun _ h => h.onCmd fun _ _ h => h.strandJobQueryCmd
  | .strandNop t => show Acts _ s (execStrandNop t s) from .run rfl fun _ h => h.issue fun _ _ _ _ h => h.pass
  | .sAdd t => show Acts _ s (execSAdd t s) from .run rfl fun _ h => h.alu
  | .sSub t => show Acts _ s (execSSub t s) from .run rfl fun _ h => h.alu
  | .sMul t => show Acts _ s (execSMul t s) from .run rfl fun _ h => h.alu
  | .sMulhu t => show Acts _ s (execSMulhu t s) from .run rfl fun _ h => h.alu
  | .sDivu t => show Acts _ s (execSDivu t s) from .run rfl fun _ h => h.alu
  | .sRemu t => show Acts _ s (execSRemu t s) from .run rfl fun _ h => h.alu
  | .sAnd t => show Acts _ s (execSAnd t s) from .run rfl fun _ h => h.alu
  | .sOr t => show Acts _ s (execSOr t s) from .run rfl fun _ h => h.alu
  | .sXor t => show Acts _ s (execSXor t s) from .run rfl fun _ h => h.alu
  | .sShl t => show Acts _ s (execSShl t s) from .run rfl fun _ h => h.alu
  | .sShr t => show Acts _ s (execSShr t s) from .run rfl fun _ h => h.alu
  | .sSra t => show Acts _ s (execSSra t s) from .run rfl fun _ h => h.alu
  | .sSlt t => show Acts _ s (execSSlt t s) from .run rfl fun _ h => h.alu
  | .sSltu t => show Acts _ s (execSSltu t s) from .run rfl fun _ h => h.alu
  | .sSel t => show Acts _ s (execSSel t s) from .run rfl fun _ h => h.alu
  | .sPopc t => show Acts _ s (execSPopc t s) from .run rfl fun _ h => h.alu
  | .sAddi t => show Acts _ s (execSAddi t s) from .run rfl fun _ h => h.alu
  | .sAndi t => show Acts _ s (execSAndi t s) from .run rfl fun _ h => h.alu
  | .sOri t => show Acts _ s (execSOri t s) from .run rfl fun _ h => h.alu
  | .sXori t => show Acts _ s (execSXori t s) from .run rfl fun _ h => h.alu
  | .sShli t => show Acts _ s (execSShli t s) from .run rfl fun _ h => h.alu
  | .sShri t => show Acts _ s (execSShri t s) from .run rfl fun _ h => h.alu
  | .sSrai t => show Acts _ s (execSSrai t s) from .run rfl fun _ h => h.alu
  | .sLdi t => show Acts _ s (execSLdi t s) from .run rfl fun _ h => h.alu
  | .sLdih t => show Acts _ s (execSLdih t s) from .run rfl fun _ h => h.alu
  | .sBeq t => show Acts _ s (execSBeq t s) from .run rfl fun _ h => h.branch
  | .sBne t => show Acts _ s (execSBne t s) from .run rfl fun _ h => h.branch
  | .sBlt t => show Acts _ s (execSBlt t s) from .run rfl fun _ h => h.branch
  | .sBge t => show Acts _ s (execSBge t s) from .run rfl fun _ h => h.branch
  | .sBltu t => show Acts _ s (execSBltu t s) from .run rfl fun _ h => h.branch
  | .sBgeu t => show Acts _ s (execSBgeu t s) from .run rfl fun _ h => h.branch
  | .sJal t => show Acts _ s (execSJal t s) from .run rfl fun _ h => h.jal
  | .sJalr t => show Acts _ s (execSJalr t s) from .run rfl fun _ h => h.jalr
  | .sHalt t => show Acts _ s (execSHalt t s) from .run rfl fun _ h => h.issue fun _ _ _ _ h => h.haltThread
  | .sYield t => show Acts _ s (execSYield t s) from .run rfl fun _ h => h.issue fun _ _ _ _ h => h.pass
  | .sGets t => show Acts _ s (execSGets t s) from .run rfl fun _ h => h.issue fun _ _ _ _ h => h.retire
  | .sLd8u t => show Acts _ s (execSLd8u t s) from .run rfl fun _ h => h.load
  | .sLd16u t => show Acts _ s (execSLd16u t s) from .run rfl fun _ h => h.load
  | .sLd32u t => show Acts _ s (execSLd32u t s) from .run rfl fun _ h => h.load
  | .sLd32s t => show Acts _ s (execSLd32s t s) from .run rfl fun _ h => h.load
  | .sLd64 t => show Acts _ s (execSLd64 t s) from .run rfl fun _ h => h.load
  | .sSt8 t => show Acts _ s (execSSt8 t s) from .run rfl fun _ h => h.store
  | .sSt16 t => show Acts _ s (execSSt16 t s) from .run rfl fun _ h => h.store
  | .sSt32 t => show Acts _ s (execSSt32 t s) from .run rfl fun _ h => h.store
  | .sSt64 t => show Acts _ s (execSSt64 t s) from .run rfl fun _ h => h.store
  | .sAmoadd t => show Acts _ s (execSAmoadd t s) from .run rfl fun _ h => h.atomic
  | .sAmoswap t => show Acts _ s (execSAmoswap t s) from .run rfl fun _ h => h.atomic
  | .sAmocas t => show Acts _ s (execSAmocas t s) from .run rfl fun _ h => h.atomic
  | .sFence t => show Acts _ s (execSFence t s) from .run rfl fun _ h => h.fence
  | .sCld8u t => show Acts _ s (execSCld8u t s) from .run rfl fun _ h => h.capLoad
  | .sCld32u t => show Acts _ s (execSCld32u t s) from .run rfl fun _ h => h.capLoad
  | .sCld64 t => show Acts _ s (execSCld64 t s) from .run rfl fun _ h => h.capLoad
  | .sCst32 t => show Acts _ s (execSCst32 t s) from .run rfl fun _ h => h.capStore
  | .sCst64 t => show Acts _ s (execSCst64 t s) from .run rfl fun _ h => h.capStore
  | .sCrdb t => show Acts _ s (execSCrdb t s) from .run rfl fun _ h => h.crdb
  | .sEiss t => show Acts _ s (execSEiss t s) from .run rfl fun _ h => h.eiss
  | .sTacc t => show Acts _ s (execSTacc t s) from .run rfl fun _ h => h.tacc
  | .sRand t => show Acts _ s (execSRand t s) from .run rfl fun _ h => h.issue fun _ _ _ _ h => h.updThread.retire
  | .sRseed t => show Acts _ s (execSRseed t s) from .run rfl fun _ h => h.issue fun _ _ _ _ h => h.updThread.pass
  | .sLalloc t => show Acts _ s (execSLalloc t s) from .run rfl fun _ h => h.lalloc
  | .sLfree t => show Acts _ s (execSLfree t s) from .run rfl fun _ h => h.lfree
  | .sLsig t => show Acts _ s (execSLsig t s) from .run rfl fun _ h => h.ligPost fun _ _ _ _ h => h.ligSignal
  | .sLwait t => show Acts _ s (execSLwait t s) from .run rfl fun _ h => h.ligTakeOp
  | .sLtry t => show Acts _ s (execSLtry t s) from .run rfl fun _ h => h.ligTakeOp
  | .sLsend t => show Acts _ s (execSLsend t s) from .run rfl fun _ h => h.ligPost fun _ _ _ _ h => h.ligSend
  | .sLrecv t => show Acts _ s (execSLrecv t s) from .run rfl fun _ h => h.ligTakeOp
  | .loadReturn t => show Acts _ s (execLoadReturn t s) from .run rfl fun _ h => h.loadReturn
  | .hostAccessTimeout t => show Acts _ s (execHostAccessTimeout t s) from .runAt rfl rfl fun _ h => h.hostAccessTimeout
  | .ligAlloc src => show Acts _ s (execLigAlloc src s) from .run rfl fun _ h => h.onCmd fun _ _ h => h.ligAllocCmd
  | .ligFree src => show Acts _ s (execLigFree src s) from .run rfl fun _ h => h.onCmd fun _ _ h => h.ligFreeCmd
  | .ligSignal src => show Acts _ s (execLigSignal src s) from .run rfl fun _ h => h.onCmd fun _ _ h => h.ligSignalCmd
  | .ligQuery src => show Acts _ s (execLigQuery src s) from .run rfl fun _ h => h.onCmd fun _ _ h => h.ligQueryCmd
  | .lwaitTimeout t => show Acts _ s (execLwaitTimeout t s) from .runAt rfl rfl fun _ h => h.lwaitTimeout
  | .schedTableLoad src =>
    show Acts _ s (execSchedTableLoad src s) from .run rfl fun _ h => h.onCmd fun _ _ h => h.tableLoadCmd
  | .schedTableOff src => show Acts _ s (execSchedTableOff src s) from .run rfl fun _ h => h.onCmd fun _ _ h => h.tableOffCmd
  | .schedJobSet src => show Acts _ s (execSchedJobSet src s) from .run rfl fun _ h => h.onCmd fun _ _ h => h.jobSetCmd
  | .schedSuspend src => show Acts _ s (execSchedSuspend src s) from .run rfl fun _ h => h.suspendRow
  | .schedResume src => show Acts _ s (execSchedResume src s) from .run rfl fun _ h => h.onCmd fun _ _ h => h.resumeCmd
  | .schedPartitionQuery src =>
    show Acts _ s (execSchedPartitionQuery src s) from .run rfl fun _ h => h.onCmd fun _ _ h => h.partQueryCmd
  | .slotBoundary => show Acts _ s (execSlotBoundary s) from .runAt rfl rfl fun _ h => h.slotBoundary
  | .preemptWindowExpiry j => show Acts _ s (execPreemptWindowExpiry j s) from .runAt rfl rfl fun _ h => h.preemptExpiry
  | .reedDecision n => show Acts _ s (execReedDecision n s) from .runIf rfl fun _ h => h.reedDecision
  | .burstExpiry n => show Acts _ s (execBurstExpiry n s) from .guarded rfl fun hc => .runAt hc rfl fun _ h => h.reedBurst
  | .hdmRead addr n =>
    show Acts _ s (execHdmRead addr n s) from .ite (.run rfl fun _ h => h) (.ite (.fault rfl)
      (.run rfl fun _ h => h.hdmRead))
  | .hdmWrite addr n =>
    show Acts _ s (execHdmWrite addr n s) from .ite (.run rfl fun _ h => h) (.ite (.fault rfl)
      (.run rfl fun _ h => h.hdmWrite))
  | .functionLevelReset => show Acts _ s (execFunctionLevelReset s) from .run rfl fun _ h => h.when fun _ h => h.linkReset
  | .hostLinkDown => show Acts _ s (execHostLinkDown s) from .run rfl fun _ h => h.hostLinkDown
  | .hostLinkRetrained mode width =>
    show Acts _ s (execHostLinkRetrained mode width s) from .runIf rfl fun _ h => h.hostLinkTrained
  | .uncorrectableTransferError src =>
    show Acts _ s (execUncorrectableTransferError src s) from .run rfl fun _ h => h.transferFailed
  | .d3hotEntry => show Acts _ s (execD3hotEntry s) from .run rfl fun _ h => h.d3hotEntry
  | .d0Return => show Acts _ s (execD0Return s) from .run rfl fun _ h => h.d0Return
  | .hostMemoryTimeout src => show Acts _ s (execHostMemoryTimeout src s) from .runAt rfl rfl fun _ h => h.transferFailed
  | .execTimeout src => show Acts _ s (execExecTimeout src s) from .runAt rfl rfl fun _ h => h.timeoutExpiry
  | .msixHoldoffExpiry v =>
    show Acts _ s (execMsixHoldoffExpiry v s) from .guarded rfl fun hc => .runAt hc rfl fun _ h => h.holdoffEnd
  | .sessAdmit f => show Acts _ s (execSessAdmit f s) from .run rfl fun _ h => h.sessFrame
  | .sessAppend f => show Acts _ s (execSessAppend f s) from .run rfl fun _ h => h.sessFrame
  | .sessEnd f => show Acts _ s (execSessEnd f s) from .run rfl fun _ h => h.sessFrame
  | .sessAttach f => show Acts _ s (execSessAttach f s) from .run rfl fun _ h => h.sessFrame
  | .sessAck f => show Acts _ s (execSessAck f s) from .run rfl fun _ h => h.sessAckFrame
  | .netHeartbeat f => show Acts _ s (execNetHeartbeat f s) from .run rfl fun _ h => h.takeNetBeat
  | .fabricMap f => show Acts _ s (execFabricMap f s) from .run rfl fun _ h => h.mapFrame
  | .rdmaTargetingModule endpoint =>
    show Acts _ s (execRdmaTargetingModule endpoint s) from .run rfl fun _ h => h.rdmaTargeting
  | .cnp endpoint => show Acts _ s (execCnp endpoint s) from .run rfl fun _ h => h.cnp
  | .sessionRetransmit endpoint =>
    show Acts _ s (execSessionRetransmit endpoint s) from .runAt rfl rfl fun _ h => h.retransmit
  | .sessionAckTimer endpoint => show Acts _ s (execSessionAckTimer endpoint s) from .runAt rfl rfl fun _ h => h.ackTimer
  | .endpointDown endpoint => show Acts _ s (execEndpointDown endpoint s) from .runAt rfl rfl fun _ h => h.endpointDown
  | .mapDeliveryTimeout => show Acts _ s (execMapDeliveryTimeout s) from .runAt rfl rfl fun _ h => h.mapTimeout
  | .registerFrameDue => show Acts _ s (execRegisterFrameDue s) from .runAt rfl rfl fun _ h => h.registerFrame
  | .subportLinkChange sp up => show Acts _ s (execSubportLinkChange sp up s) from .runIf rfl fun _ h => h.subportChange
  | .transmitOpportunity sp => show Acts _ s (execTransmitOpportunity sp s) from .runIf rfl fun _ h => h.transmitFrom
  | .queueSampleTick => show Acts _ s (execQueueSampleTick s) from .runAt rfl rfl fun _ h => h.queueSample
  | .gateIntervalEnd sp =>
    show Acts _ s (execGateIntervalEnd sp s) from .guarded rfl fun hc => .runAt hc rfl fun _ h => h.gateEnd
  | .ptpAnnounce a => show Acts _ s (execPtpAnnounce a s) from .runIf rfl fun _ h => h.ptpAnnounce
  | .ptpTimingMessage offset delay =>
    show Acts _ s (execPtpTimingMessage offset delay s) from .runStep rfl rfl fun _ h => h.ptpTiming
  | .ptpAnnounceTimeout => show Acts _ s (execPtpAnnounceTimeout s) from .runAt rfl rfl fun _ h => h.ptpAnnounceTimeout
  | .bellPortSet src => show Acts _ s (execBellPortSet src s) from .run rfl fun _ h => h.onCmd fun _ _ h => h.bellPortSetCmd
  | .bellPortStatus src =>
    show Acts _ s (execBellPortStatus src s) from .run rfl fun _ h => h.onCmd fun _ _ h => h.bellPortStatusCmd
  | .bellQueueSet src =>
    show Acts _ s (execBellQueueSet src s) from .run rfl fun _ h => h.onCmd fun _ _ h => h.bellQueueSetCmd
  | .bellQueueSample src =>
    show Acts _ s (execBellQueueSample src s) from .run rfl fun _ h => h.onCmd fun _ _ h => h.bellQueueSampleCmd
  | .bellPolicerSet src =>
    show Acts _ s (execBellPolicerSet src s) from .run rfl fun _ h => h.onCmd fun _ _ h => h.bellPolicerSetCmd
  | .bellGateLoad src =>
    show Acts _ s (execBellGateLoad src s) from .run rfl fun _ h => h.onCmd fun _ _ h => h.bellGateLoadCmd
  | .bellEndpointQuery src =>
    show Acts _ s (execBellEndpointQuery src s) from .run rfl fun _ h => h.onCmd fun _ _ h => h.bellEndpointQueryCmd
  | .timeSet src => show Acts _ s (execTimeSet src s) from .runStep rfl rfl fun _ h => h.onCmd fun _ _ h => h.timeSetCmd
  | .timeStepAllow src =>
    show Acts _ s (execTimeStepAllow src s) from .run rfl fun _ h => h.onCmd fun _ _ h => h.timeStepAllowCmd
  | .secAttest src => show Acts _ s (execSecAttest src s) from .run rfl fun _ h => h.onCmd fun _ _ h => h.secAttestCmd
  | .secIdentity src => show Acts _ s (execSecIdentity src s) from .run rfl fun _ h => h.onCmd fun _ _ h => h.secIdentityCmd
  | .secImport src => show Acts _ s (execSecImport src s) from .run rfl fun _ h => h.onCmd fun _ _ h => h.secImportCmd
  | .enrolCredential g =>
    show Acts _ s (execEnrolCredential g s) from .run rfl fun _ h => h.mgmtIn fun _ _ h => h.enrolCredential
  | .revokeCredential g =>
    show Acts _ s (execRevokeCredential g s) from .run rfl fun _ h => h.mgmtIn fun _ _ h => h.revokeCredential
  | .enrolKey g => show Acts _ s (execEnrolKey g s) from .run rfl fun _ h => h.mgmtIn fun _ _ h => h.enrolKey
  | .removeKey g => show Acts _ s (execRemoveKey g s) from .run rfl fun _ h => h.mgmtIn fun _ _ h => h.removeKey
  | .setConfig g => show Acts _ s (execSetConfig g s) from .run rfl fun _ h => h.mgmtIn fun _ _ h => h.setConfig
  | .fwStage g => show Acts _ s (execFwStage g s) from .run rfl fun _ h => h.mgmtIn fun _ _ h => h.fwStage
  | .fwActivate g => show Acts _ s (execFwActivate g s) from .run rfl fun _ h => h.mgmtIn fun _ _ h => h.fwActivate
  | .fwCommit g => show Acts _ s (execFwCommit g s) from .run rfl fun _ h => h.mgmtIn fun _ _ h => h.fwCommit
  | .mgmtAttest g => show Acts _ s (execMgmtAttest g s) from .run rfl fun _ h => h.mgmtIn fun _ _ h => h.mgmtAttest
  | .evrecRead g => show Acts _ s (execEvrecRead g s) from .run rfl fun _ h => h.mgmtIn fun _ _ h => h.mgmtEvRead
  | .evrecClear g => show Acts _ s (execEvrecClear g s) from .run rfl fun _ h => h.mgmtIn fun _ _ h => h.mgmtEvClear
  | .mgmtReset g => show Acts _ s (execMgmtReset g s) from .runReset rfl rfl fun _ h => h.mgmtIn fun _ _ h => h.mgmtResetAct
  | .mgmtStatus g => show Acts _ s (execMgmtStatus g s) from .run rfl fun _ h => h.mgmtIn fun _ _ h => h.mgmtStatus
  | .mgmtMessageTimeout => show Acts _ s (execMgmtMessageTimeout s) from .run rfl fun _ h => h.mgmtMessageTimeout
  | .mgmtLockoutEnd => show Acts _ s (execMgmtLockoutEnd s) from .runAt rfl rfl fun _ h => h.mgmtLockoutEnd
  | .crookRestartEnd => show Acts _ s (execCrookRestartEnd s) from .run rfl fun _ h => h.crookRestartEnd
  | .attestHoldExpiry => show Acts _ s (execAttestHoldExpiry s) from .runAt rfl rfl fun _ h => h.attestHoldExpiry
  | .evrecNote src => show Acts _ s (execEvrecNote src s) from .run rfl fun _ h => h.onCmd fun _ _ h => h.noteCmd
  | .evrecRecordWrite =>
    show Acts _ s (execEvrecRecordWrite s) from .ite (.runPower rfl rfl fun _ h => h.recordWrite)
      (.run rfl fun _ h => h.recordWrite)
  | .rateSecondEnd => show Acts _ s (execRateSecondEnd s) from .runAt rfl rfl fun _ h => h.rateSecondEnd
  | .sectorEraseComplete => show Acts _ s (execSectorEraseComplete s) from .run rfl fun _ h => h.sectorErase
  | .checkConfig src => show Acts _ s (execCheckConfig src s) from .run rfl fun _ h => h.onCmd fun _ _ h => h.checkConfigCmd
  | .checkScan src => show Acts _ s (execCheckScan src s) from .run rfl fun _ h => h.onCmd fun _ _ h => h.checkScanCmd
  | .powerBreath src => show Acts _ s (execPowerBreath src s) from .run rfl fun _ h => h.onCmd fun _ _ h => h.powerBreathCmd
  | .breathWindowStart n => show Acts _ s (execBreathWindowStart n s) from .runAt rfl rfl fun _ h => h.breathStart
  | .breathWindowEnd n => show Acts _ s (execBreathWindowEnd n s) from .runAt rfl rfl fun _ h => h.breathEnd
  | .coreMonitorSample mv =>
    show Acts _ s (execCoreMonitorSample mv s) from .guarded Bool.decide_eq_true.symm fun hc => .runAt hc rfl fun _ h =>
      h.coreSample
  | .trimPeriodEnd => show Acts _ s (execTrimPeriodEnd s) from .run rfl fun _ h => h.trimEnd
  | .powerWindow watts => show Acts _ s (execPowerWindow watts s) from .runAt rfl rfl fun _ h => h.powerWindow
  | .thermalLimit junction => show Acts _ s (execThermalLimit junction s) from .run rfl fun _ h => h.thermalLimit
  | .thermalTrip => show Acts _ s (execThermalTrip s) from .runPower rfl rfl fun _ h => h.thermalTrip
  | .converterFault => show Acts _ s (execConverterFault s) from .runPower rfl rfl fun _ h => h.converterFault
  | .powerOn => show Acts _ s (execPowerOn s) from .runPower rfl rfl fun _ h => h.powerOn
  | .inputLost => show Acts _ s (execInputLost s) from .runPower rfl rfl fun _ h => h.inputLost
  | .inputOvervoltage => show Acts _ s (execInputOvervoltage s) from .runPower rfl rfl fun _ h => h.inputOvervoltage
  | .pwrEnFall => show Acts _ s (execPwrEnFall s) from .runPower rfl rfl fun _ h => h.pwrEnFall
  | .j3SenseBreak => show Acts _ s (execJ3SenseBreak s) from .runPower rfl rfl fun _ h => h.powerLoss
  | .inputReturn => show Acts _ s (execInputReturn s) from .runPower rfl rfl fun _ h => h.inputReturn
  | .holdupWorkEnd => show Acts _ s (execHoldupWorkEnd s) from .runPower rfl rfl fun _ h => h.holdupEnd
  | .resetNLow => show Acts _ s (execResetNLow s) from .runPower rfl rfl fun _ h => h.resetNLow
  | .perstNLow => show Acts _ s (execPerstNLow s) from .runPower rfl rfl fun _ h => h.perstNLow
  | .resetRelease x => show Acts _ s (execResetRelease x s) from .runPower rfl rfl fun _ h => h.resetRelease
  | .readySet => show Acts _ s (execReadySet s) from .run rfl fun _ h => h.readySet
  | .testDiag src failed cores strands units =>
    show Acts _ s (execTestDiag src failed cores strands units s) from .run rfl fun _ h => h.onCmd fun _ _ h => h.testDiagCmd
  | .testPerturb src => show Acts _ s (execTestPerturb src s) from .run rfl fun _ h => h.onCmd fun _ _ h => h.testPerturbCmd
  | .perturbSlotEnd n =>
    show Acts _ s (execPerturbSlotEnd n s) from .guarded rfl fun hc => .runAt hc rfl fun _ h => h.perturbEnd
  | .opHourTick =>
    show Acts _ s (execOpHourTick s) from .ite (.runPowerAt rfl rfl fun _ h => h.opHour) (.run rfl fun _ h => h)
  | .sweepPartnerQuery batch => show Acts _ s (execSweepPartnerQuery batch s) from .runIf rfl fun _ h => h.sweepQuery
  | .sweepQueryAnswer batch held => show Acts _ s (execSweepQueryAnswer batch held s) from .run rfl fun _ h => h.sweepAnswer
  | .repairFetchRequest capsule entry block =>
    show Acts _ s (execRepairFetchRequest capsule entry block s) from .run rfl fun _ h => h.repairFetch
  | .mirrorRecordCheckFail r =>
    show Acts _ s (execMirrorRecordCheckFail r s) from .run rfl fun _ h => h.recordIn fun _ _ h => h
  | .commandTimeBoundExpiry src =>
    show Acts _ s (execCommandTimeBoundExpiry src s) from .runAt rfl rfl fun _ h => h.timeBound
  | .hostWriteAcknowledged t => show Acts _ s (execHostWriteAcknowledged t s) from .run rfl fun _ h => h.hostWriteAck
  | .priorityFlowControl sp classes pause =>
    show Acts _ s (execPriorityFlowControl sp classes pause s) from .runIf rfl fun _ h => h.flowControl
  | .msixVectorUnmask v => show Acts _ s (execMsixVectorUnmask v s) from .runIf rfl fun _ h => h.vectorUnmask

end Sys2Proof.Machine
end

/-! ### What a tick makes of the time counter -/

section
namespace Sys2Proof.Machine
open Sys2Proof

theorem Module.foldl_clk {α : Type} {f : Module → α → Module} (hf : ∀ a x, (f a x).clk = a.clk) (l : List α) (m : Module) :
    (l.foldl f m).clk = m.clk :=
  List.foldlRecOn (motive := fun a => a.clk = m.clk) _ _ rfl fun a ha x _ => (hf a x).trans ha

@[simp] theorem Module.updThread_clk (t : Nat) (f : Thread → Thread) (m : Module) : (m.updThread t f).clk = m.clk := rfl

@[simp] theorem Module.updCore_clk (c : Nat) (f : Core → Core) (m : Module) : (m.updCore c f).clk = m.clk := rfl

@[simp] theorem Module.dropLines_clk (t : Nat) (m : Module) : (m.dropLines t).clk = m.clk := rfl

@[simp] theorem Module.ligPut_clk (i : Nat) (o : LigObj) (m : Module) : (m.ligPut i o).clk = m.clk := rfl

@[simp] theorem Module.ligWithdraw_clk (who : Party) (m : Module) : (m.ligWithdraw who).clk = m.clk := rfl

@[simp] theorem Module.wake_clk (w : LigWait) (st : Status) (msg : Nat) (m : Module) : (m.wake w st msg).clk = m.clk := by
  unfold Module.wake
  split
  · rw [updThread_clk]
    split <;> rfl
  · rfl

/-- Waking the waiters of an object leaves the counter, whatever the object becomes. -/
@[simp] theorem Module.foldl_wake_clk (ws : List LigWait) (m : Module) :
    (ws.foldl (fun (a : Module) w => a.wake w .ok 0) m).clk = m.clk :=
  foldl_clk (fun a w => a.wake_clk w .ok 0) ws m

@[simp] theorem Module.ligSignal_clk (i : Nat) (o : LigObj) (b : Nat) (m : Module) : (m.ligSignal i o b).1.clk = m.clk := by
  unfold Module.ligSignal
  extract_lets m1
  have h1 : m1.clk = m.clk := bump_clk _ _
  clear_value m1
  rw [← h1]
  repeat' split
  all_goals simp

@[simp] theorem Module.engineSignal_clk (h block : Nat) (m : Module) : (m.engineSignal h block).clk = m.clk := by
  unfold Module.engineSignal
  split
  · rfl
  · split <;> simp

@[simp] theorem Module.endLaunch_clk (id : Nat) (m : Module) : (m.endLaunch id).clk = m.clk := by
  unfold Module.endLaunch
  split
  · rfl
  · split <;> simp

@[simp] theorem Module.startNext_clk (c : Nat) (m : Module) : (m.startNext c).clk = m.clk := by
  unfold Module.startNext
  extract_lets
  split
  · split
    · rfl
    · split <;> rfl
  · rfl

@[simp] theorem Module.endProgram_clk (c fault : Nat) (m : Module) : (m.endProgram c fault).clk = m.clk := by
  unfold Module.endProgram
  extract_lets
  split
  · rfl
  · rw [startNext_clk, endLaunch_clk]
    split
    · rfl
    · exact event_clk ..

@[simp] theorem Module.progFault_clk (c code : Nat) (m : Module) : (m.progFault c code).clk = m.clk := by
  simp [Module.progFault]

@[simp] theorem Module.stopDue_clk (c : Nat) (m : Module) : (m.stopDue c).clk = m.clk := by
  unfold Module.stopDue
  split
  · next r _ =>
    split
    · rfl
    · cases r.stop <;> simp
  · rfl

@[simp] theorem Module.stopsDue_clk (m : Module) : m.stopsDue.clk = m.clk :=
  foldl_clk (fun (a : Module) (x : Nat × Core) => a.stopDue_clk x.1) _ m

@[simp] theorem Module.innerTick_clk (m : Module) : m.innerTick.clk = m.clk := by
  unfold Module.innerTick
  -- The list of the counters stays opaque, for the kernel would evaluate the fold over it.
  obtain ⟨l, e⟩ : ∃ l, l = innerCounters := ⟨_, rfl⟩
  rw [← e]
  extract_lets _ m1
  have h1 : m1.clk = m.clk := foldl_clk (fun a f => bumpBy_clk f _ a) l m
  exact h1

/-- A tick carries the fraction into the nanoseconds, and each stays within its register. -/
theorem Module.tick_fits {m : Module} (h : m.clk.fits = true) : m.tick.clk.fits = true := by
  unfold Module.tick
  split
  · exact Clk.fits_iff.2 ⟨Nat.mod_lt _ (by decide), Nat.mod_lt _ (by decide)⟩
  · exact h

/-! ### What every step keeps -/

/-- What a tick and every command or event keep, every step keeps. -/
theorem step_keeps {P : Module → Prop} (htick : ∀ m, P m → P m.tick.innerTick.stopsDue)
    (hexec : ∀ c m n, Moves c m n → P m → P n) {s t : State} (hs : P s.m) (ht : step s = .next t) : P t.m := by
  unfold step at ht
  split at ht
  · unfold tickStep at ht
    injection ht with ht
    subst ht
    dsimp only
    split
    · exact htick _ hs
    · exact hs
  · next c rest _ =>
    have ha := exec_acts c { s with pending := rest }
    rw [ht] at ha
    cases ha with
    | next _ hm => exact hexec c _ _ hm hs

end Sys2Proof.Machine
end

/-! ### The statements about every command and every step -/

section
open Sys2Proof Sys2Proof.Machine

/-- Settles O10: a tick reduces both parts of the counter, and a command or event moves it in one of the ways of ClockMoves. -/
theorem everyStepKeepsTheCounterInItsRegister : Obligations.EveryStepKeepsTheCounterInItsRegister := by
  unfold Obligations.EveryStepKeepsTheCounterInItsRegister
  intro s t hs ht
  refine step_keeps (P := fun m => m.clk.fits = true) (fun m h => ?_) (fun c m n hm => hm.clk.fits) hs ht
  rw [Module.stopsDue_clk, Module.innerTick_clk]
  exact Module.tick_fits h

/-- Settles O12: no operation of the model stores but by Mem's own writes, which keep the canonical form (Module.Canon). -/
theorem everyStepKeepsMemoryCanonical : Obligations.EveryStepKeepsMemoryCanonical := by
  unfold Obligations.EveryStepKeepsMemoryCanonical
  intro s t hs ht
  rw [Module.memWf_iff] at hs ⊢
  exact step_keeps (P := Module.Canon) (fun _ h => h.tick.innerTick.stopsDue) (fun _ _ _ hm => hm.canon) hs ht

/-- Settles O5: what a row answers tells whether its operands are well formed (Acts). -/
theorem refusedExactlyWhenIllFormed : Obligations.RefusedExactlyWhenIllFormed := by
  unfold Obligations.RefusedExactlyWhenIllFormed
  intro c s r
  generalize ho : exec c s = o
  have ha : Acts c s o := ho ▸ exec_acts c s
  cases ha with
  | next hc | fault hc => simp [hc]
  | refused hc => simp [hc, eq_comm]

/-- Settles O8: of the ways in which the counter moves, none lets elapsed time fall and stepping leaves it. -/
theorem elapsedTimeNeverFalls : Obligations.ElapsedTimeNeverFalls := by
  unfold Obligations.ElapsedTimeNeverFalls
  have moves : ∀ (c : Instr) (s t : State), exec c s = .next t → ClockMoves c s.m.clk t.m := by
    intro c s t ht
    have ha := exec_acts c s
    rw [ht] at ha
    cases ha with
    | next _ hm => exact hm.clk
  exact ⟨fun c s t ht => (moves c s t ht).mono_le, fun c s t ht => (moves c s t ht).mono_eq⟩

/-- Settles O13: the three memories hold no entry at reset, and what they do not list reads 0 (assumption 3). -/
theorem memoryCanonicalAtReset : Obligations.MemoryCanonicalAtReset :=
  ⟨Module.memWf_iff.2 .reset, fun _ => ⟨rfl, rfl, rfl⟩⟩

end

/-! ### Host writes to registers (R439) -/

section
namespace Sys2Proof.Machine
open Sys2Proof

theorem runReset_live {f : Module → Module} {s : State} (h : s.m.live = true) :
    runReset f s = .next { s with m := (f s.m).clkAfter s.m.clk } := by simp [runReset, h]

/-- The counter runs on over what leaves the module running. -/
theorem Module.clkAfter_live {m : Module} (old : Clk) (h : m.live = true) : m.clkAfter old = { m with clk := old } := by
  simp [Module.clkAfter, h]

@[simp] theorem Module.clkAfter_reg (old : Clk) (m : Module) (o : Nat) : (m.clkAfter old).reg o = m.reg o := rfl

@[simp] theorem Module.clkAfter_get (old : Clk) (m : Module) (f : Fld) : (m.clkAfter old).get f = m.get f := rfl

@[simp] theorem Module.clkAfter_host (old : Clk) (m : Module) : (m.clkAfter old).host = m.host := rfl

theorem Module.reg_set_other {f : Fld} {o : Nat} (v : Nat) (m : Module) (h : o ≠ f.off) : (m.set f v).reg o = m.reg o :=
  reg_setReg_other _ m h

@[simp] theorem Module.dropWrite_live (off : Nat) (m : Module) : (m.dropWrite off).live = m.live := by
  have hp : (m.dropWrite off).power = m.power := by
    unfold Module.dropWrite
    dsimp only
    split <;> simp
  simp [Module.live, hp]

theorem bits_lt (n hi lo : Nat) : bits n hi lo < 2 ^ (hi + 1 - lo) := Nat.mod_lt _ (by positivity)

/-- A whole write puts its low 64 bits in place of the register. -/
theorem mergeWrite_whole (old : Word) (v : Nat) : mergeWrite old 0 8 v = v % 2 ^ 64 := by
  simp [mergeWrite, setBits, Nat.div_eq_of_lt old.isLt, Nat.mod_one]

/-- A register write within BAR0 acts as registerWrite in the running module. -/
theorem exec_registerWrite {s : State} {off : Nat} (bytes value : Nat) (hoff : off < 0x2000000) (hl : s.m.live = true) :
    exec (.registerWrite off bytes value) s = .next { s with m := (registerWrite off bytes value s.m).clkAfter s.m.clk } := by
  change execRegisterWrite off bytes value s = _
  rw [execRegisterWrite, if_pos hoff, runReset_live hl]

/-- A register write that leaves the module running makes of the module what registerWrite makes of it. -/
theorem does_registerWrite {s : State} {off bytes value : Nat} {n : Module} (hoff : off < 0x2000000) (hl : s.m.live = true)
    (hn : registerWrite off bytes value s.m = n) (hnl : n.live = true) : Does (.registerWrite off bytes value) s n := by
  rw [Does, exec_registerWrite _ _ hoff hl, hn, Module.clkAfter_live _ hnl]

section
variable {m : Module} {off bytes value : Nat}

theorem registerWrite_barDown (h : m.barUp = false) : registerWrite off bytes value m = m := by
  simp [registerWrite, h]

/-- Above the mailbox slots a write that is not aligned or not of 4 or 8 bytes is dropped. -/
theorem registerWrite_unaligned (h : m.barUp = true) (hoff : 0x180000 ≤ off) (hw : regWriteOk (off % 8) bytes = false) :
    registerWrite off bytes value m = m.dropWrite off := by
  have hs : ¬(0x100000 ≤ off ∧ off < 0x180000) := by omega
  simp only [registerWrite, h, hw, if_neg hs]
  rfl

/-- A register that stands at off and that no row of its own writes: not a mailbox slot, OWNm, RESET, a ring tail, CURSOR or
WINDOW_CTRL. -/
def plainPlace (off : Nat) : Bool :=
  decide (¬(0x100000 ≤ off ∧ off < 0x180200)) && off != Reg.GLOBAL.RESET_KEY.off &&
    decide (¬((ringTail 0).off ≤ off ∧ off < (ringTail 8).off)) && off != Reg.EVREC.CURSOR_SEQ.off &&
    off != Reg.EVREC.WINDOW_CTRL_ADVANCE.off && off % 8 == 0

/-- An 8-byte write of a plain register is judged field by field. -/
theorem registerWrite_plain (h : m.barUp = true) (hp : plainPlace off = true) :
    registerWrite off 8 value m = plainWrite off 8 value m := by
  simp only [plainPlace, Bool.and_eq_true, bne_iff_ne, beq_iff_eq, decide_eq_true_eq] at hp
  obtain ⟨⟨⟨⟨⟨hmail, hreset⟩, hring⟩, hcursor⟩, hwindow⟩, halign⟩ := hp
  have hbase : off / 8 * 8 = off := by omega
  have hslot : ¬(0x100000 ≤ off ∧ off < 0x180000) := by omega
  have hown : ¬(0x180000 ≤ off ∧ off < 0x180200) := by omega
  simp [registerWrite, h, hbase, halign, regWriteOk, if_neg hslot, if_neg hown, if_neg hring, hreset, hcursor, hwindow]

/-- An 8-byte write of a plain register without a field that the host writes is dropped. -/
theorem plainWrite_none (hrows : (rowsAt (off / 8 * 8)).filter (fun r => r.fld.host && covers (off % 8) bytes r.fld) = []) :
    plainWrite off bytes value m = m.dropWrite off := by
  simp [plainWrite, hrows]

/-- A write of a plain register with one field that the host writes, which takes the value, is that field's write. -/
theorem plainWrite_one {r : RegRow} {n : Module}
    (hrows : (rowsAt (off / 8 * 8)).filter (fun r => r.fld.host && covers (off % 8) bytes r.fld) = [r])
    (hw : m.writeField (off / 8 * 8) (off % 8) bytes value r = some n) : plainWrite off bytes value m = n := by
  simp [plainWrite, hrows, hw]

end

/-- HOLDOFF_US takes the value written, and values above 1,000 as 1,000 (R457). -/
theorem registerWrite_holdoff {m : Module} (v : Nat) (h : m.barUp = true) :
    registerWrite Reg.GLOBAL.MSIX_CTRL_HOLDOFF_US.off 8 v m =
      m.set Reg.GLOBAL.MSIX_CTRL_HOLDOFF_US (clamp 0 1000 (v % 2 ^ 16)) := by
  have hbits : bits (mergeWrite (m.reg Reg.GLOBAL.MSIX_CTRL_HOLDOFF_US.off) 0 8 v) 15 0 = v % 2 ^ 16 := by
    rw [mergeWrite_whole, bits]
    omega
  rw [registerWrite_plain h (by decide)]
  refine plainWrite_one (r := ⟨Reg.GLOBAL.MSIX_CTRL_HOLDOFF_US, 1, 8⟩) (by decide) ?_
  rw [← hbits]
  rfl

/-- DONE_MASK loses the bits written as 1 (R439). -/
theorem registerWrite_doneMask {m : Module} (v : Nat) (h : m.barUp = true) :
    registerWrite Reg.MBOX.DONE_MASK_DONE.off 8 v m =
      m.set Reg.MBOX.DONE_MASK_DONE (m.get Reg.MBOX.DONE_MASK_DONE - (m.get Reg.MBOX.DONE_MASK_DONE &&& v % 2 ^ 64)) := by
  have hbits : bits (mergeWrite 0 0 8 v) 63 0 = v % 2 ^ 64 := by
    rw [mergeWrite_whole, bits]
    omega
  rw [registerWrite_plain h (by decide)]
  refine plainWrite_one (r := ⟨Reg.MBOX.DONE_MASK_DONE, 1, 8⟩) (by decide) ?_
  rw [← hbits]
  rfl

theorem registerWrite_ident {m : Module} (v : Nat) (h : m.barUp = true) :
    registerWrite Reg.GLOBAL.IDENT_PART.off 8 v m = m.dropWrite Reg.GLOBAL.IDENT_PART.off := by
  rw [registerWrite_plain h (by decide)]
  exact plainWrite_none (by decide)

end Sys2Proof.Machine
end

section
open Sys2Proof Sys2Proof.Machine

/-- Settles O21: a write is registerWrite in the running module, and each kind of write is one of its branches (R439). That a
write with the link down or in D3hot does nothing is assumption 24. -/
theorem registerWritesAreJudgedByField : Obligations.RegisterWritesAreJudgedByField := by
  unfold Obligations.RegisterWritesAreJudgedByField
  refine ⟨fun s off n v hoff hl => ⟨_, exec_registerWrite n v hoff hl⟩, fun s v hl hbar hwf => ⟨?_, ?_, ?_, ?_⟩,
    fun s off n v hoff hl hbar => does_registerWrite hoff hl (registerWrite_barDown hbar) hl⟩
  · refine ⟨_, exec_registerWrite 8 v (by decide) hl, ?_⟩
    dsimp only
    rw [registerWrite_holdoff v hbar]
    refine ⟨?_, rfl, fun o ho => Module.reg_set_other _ _ ho⟩
    rw [Module.clkAfter_get, Module.get_set_same _ _ _ hwf (by decide) (by decide)]
    simp only [Reg.GLOBAL.MSIX_CTRL_HOLDOFF_US, clamp]
    omega
  · refine ⟨_, exec_registerWrite 8 v (by decide) hl, ?_⟩
    dsimp only
    rw [registerWrite_doneMask v hbar]
    refine ⟨?_, fun o ho => Module.reg_set_other _ _ ho⟩
    rw [Module.clkAfter_get, Module.get_set_same _ _ _ hwf (by decide) (by decide)]
    exact Nat.mod_eq_of_lt (Nat.lt_of_le_of_lt (Nat.sub_le _ _) (bits_lt _ _ _))
  · exact does_registerWrite (by decide) hl (registerWrite_ident v hbar) ((Module.dropWrite_live _ _).trans hl)
  · intro off hlo hhi
    exact does_registerWrite hhi hl (registerWrite_unaligned hbar hlo (by simp [regWriteOk]))
      ((Module.dropWrite_live _ _).trans hl)

end

/-! ### Commands on capsules (R39, R57, R64) -/

section
namespace Sys2Proof.Machine
open Sys2Proof

/-- A mailbox command's row makes of the module what its meaning makes of it for the fresh command of its source. -/
theorem does_onCmd {i : Instr} {s : State} {src : Src} {op : Nat} {c : RunCmd} {f : RunCmd → Module → Module} {n : Module}
    (hi : exec i s = run (onCmd op src f) s) (h : Fresh s src op c) (hn : f c s.m = n) : Does i s n := by
  rw [Does, hi, run_onCmd h, hn]

/-- Checks that hold leave the verdict to those that follow. -/
theorem firstFail_append {α : Type} {l r : List (Bool × α)} (h : ∀ x ∈ l, x.1 = true) :
    firstFail (l ++ r) = firstFail r := by
  induction l with
  | nil => rfl
  | cons x xs ih =>
    obtain ⟨ok, a⟩ := x
    obtain ⟨rfl, hxs⟩ : ok = true ∧ ∀ y ∈ xs, y.1 = true := by simpa using h
    simpa [firstFail] using ih hxs

/-- A check that fails with BUSY completes the command with BUSY and changes nothing else. -/
theorem Module.verdict_busy (c : RunCmd) (m : Module) : m.verdict c (stop .busy) = m.fail c .busy := rfl

/-! #### Slots -/

@[simp] theorem Module.slot_updSlot_same (slot : Nat) (f : Capsule → Capsule) (m : Module) :
    (m.updSlot slot f).slot slot = f (m.slot slot) := by
  simp [Module.slot, Module.updSlot, KMap.getD, KMap.get_put_same]

theorem Module.slot_updSlot_other {slot o : Nat} (f : Capsule → Capsule) (m : Module) (h : o ≠ slot) :
    (m.updSlot slot f).slot o = m.slot o := by
  simp [Module.slot, Module.updSlot, KMap.getD, KMap.get_put_other _ _ h]

/-- The capsule that an ID names is what its slot holds. -/
theorem Module.capsule_eq_slot {m : Module} {id : Nat} (h : (m.capsule id).isSome = true) :
    m.capsule id = some (m.slot (id / 256)) := by
  unfold Module.capsule at h ⊢
  dsimp only at h ⊢
  split
  · rfl
  · next hc => rw [if_neg hc] at h; cases h

/-- An ID whose slot holds no live capsule names none (R57). -/
theorem Module.capsule_none {m : Module} {id : Nat} (h : liveState (m.slot (id / 256)).state = false) :
    m.capsule id = none := by
  simp [Module.capsule, h]

/-- The first checks of a capsule's command hold for an ID that names a live capsule (R40, R57). -/
theorem capChecks_pass {m : Module} {id : Nat} (off : Nat) (h : NamesCapsule m id) : ∀ x ∈ capChecks m id off, x.1 = true := by
  obtain ⟨hgen, hlive⟩ := h
  simp [capChecks, hgen, hlive]

/-- A command on a capsule that this module may write goes on, and is held no longer (R325). -/
theorem Module.heldOr_mayWrite {m : Module} {c : RunCmd} {id : Nat} {f : Module → Module} (hn : NamesCapsule m id)
    (hw : MayWrite m c (m.slot (id / 256))) : m.heldOr c id f = f (unheld c m) := by
  obtain ⟨-, -, hlease⟩ := hw
  have hgo : (m.lapsed (m.slot (id / 256)) && c.tries == 0) = false := by
    rcases hlease with h | h <;> simp [h]
  simp only [Module.heldOr, Module.capsule_eq_slot hn.2, hgo]
  rfl

/-! #### A slot that its capsule leaves (R41) -/

section
variable (slot : Nat) (m : Module)

/-- A slot that is left is blank but for the next generation, and for its retirement when that generation is 0xFF. -/
theorem Module.slot_freeSlot_same :
    (m.freeSlot slot).slot slot =
      if (m.slot slot).gen + 1 = 255 then
        { Capsule.blank with gen := (m.slot slot).gen + 1, state := 6, retiredAt := m.clk.mono }
      else { Capsule.blank with gen := (m.slot slot).gen + 1 } := by
  simp only [Module.freeSlot, beq_iff_eq]
  split <;> exact slot_updSlot_same ..

theorem Module.slot_freeSlot_other {o : Nat} (h : o ≠ slot) : (m.freeSlot slot).slot o = m.slot o := by
  unfold Module.freeSlot
  dsimp only
  split <;> exact slot_updSlot_other _ _ h

/-- A slot that is left is FREE or RETIRED, so it holds no live capsule. -/
theorem Module.liveState_freeSlot : liveState ((m.freeSlot slot).slot slot).state = false := by
  rw [slot_freeSlot_same]
  split <;> rfl

/-- The ID that named the capsule of a slot names none once the slot is left (R57). -/
theorem Module.capsule_freeSlot {g : Nat} (h : g < 256) : (m.freeSlot slot).capsule (slot * 256 + g) = none := by
  refine Module.capsule_none ?_
  have hslot : (slot * 256 + g) / 256 = slot := by omega
  rw [hslot]
  exact liveState_freeSlot slot m

end

/-! #### CAPSULE_DELETE (R67) -/

section
variable {c : RunCmd} {m m0 : Module} {id : Nat} {k : Capsule}

/-- A deletion whose checks hold passes through DELETING, gives up its frames and its slot, and completes with OK (R64). -/
theorem capsuleDeleteCmd_deletes (hid : id = u32 c.payload 0) (hm : m0 = m.loadHeader id) (hk : k = m0.slot (id / 256))
    (hz : allZero c.payload 4 4 = true) (hn : NamesCapsule m0 id) (hw : MayWrite m0 c k) (hs : k.state = 1 ∨ k.state = 4)
    (hr : m0.requestOf id = none) :
    capsuleDeleteCmd c m =
      (((((unheld c m0).writeCap id (fun k => { k with state := 5 })).releaseFrames id).freeSlot
        (id / 256)).finishMoves.ok c []) := by
  subst hid hm hk
  have hnamed := capChecks_pass 0 hn
  unfold capsuleDeleteCmd
  rw [Module.checked_act (by simpa using hz), Module.heldOr_mayWrite hn hw]
  obtain ⟨hfence, hown, -⟩ := hw
  intro x hx
  rcases List.mem_append.mp hx with hx | hx
  · exact hnamed x hx
  · simp only [List.mem_cons, List.not_mem_nil, or_false] at hx
    rcases hx with rfl | rfl | rfl
    · simp [hfence, hown]
    · simpa using hs
    · simp [hr]

/-- A deletion of an ACTIVE or PARKING capsule completes with BUSY (R65). -/
theorem capsuleDeleteCmd_busy (hid : id = u32 c.payload 0) (hm : m0 = m.loadHeader id) (hk : k = m0.slot (id / 256))
    (hz : allZero c.payload 4 4 = true) (hn : NamesCapsule m0 id) (hf : m0.fenced = false) (ho : m0.mayOwn k = true)
    (hs : k.state = 2 ∨ k.state = 3) : capsuleDeleteCmd c m = m0.fail c .busy := by
  subst hid hm hk
  rw [← Module.verdict_busy]
  refine Module.checked_fail (by simpa using hz) ?_
  rw [firstFail_append (capChecks_pass 0 hn)]
  rcases hs with hs | hs <;> simp [firstFail, hf, ho, hs]

end

end Sys2Proof.Machine
end

section
open Sys2Proof Sys2Proof.Machine

/-- Settles O28: a fresh deletion is capsuleDeleteCmd, whose checks all hold or stop at the state with BUSY (R65), and the slot
that it leaves is slot_freeSlot_same (R41). -/
theorem deletionAdvancesTheGeneration : Obligations.DeletionAdvancesTheGeneration := by
  unfold Obligations.DeletionAdvancesTheGeneration
  refine ⟨?_, fun m slot => ?_⟩
  · intro s src c k hfresh hz m0 hn hk
    exact ⟨fun hw hs hr => does_onCmd rfl hfresh (capsuleDeleteCmd_deletes rfl rfl hk hz hn hw hs hr),
      fun hf ho hs => does_onCmd rfl hfresh (capsuleDeleteCmd_busy rfl rfl hk hz hn hf ho hs)⟩
  · have hslot := Module.slot_freeSlot_same slot m
    have hother : ∀ o, o ≠ slot → (m.freeSlot slot).slot o = m.slot o := fun o => Module.slot_freeSlot_other slot m
    have hstale : ∀ g, g < 255 → (m.freeSlot slot).capsule (slot * 256 + g) = none :=
      fun g hg => Module.capsule_freeSlot slot m (Nat.lt_succ_of_lt hg)
    dsimp only
    by_cases hg : (m.slot slot).gen + 1 = 255
    · rw [if_pos hg] at hslot
      rw [hslot]
      exact ⟨rfl, rfl, rfl, fun _ => ⟨rfl, rfl⟩, fun h => absurd hg h, hother, hstale _⟩
    · rw [if_neg hg] at hslot
      rw [hslot]
      exact ⟨rfl, rfl, rfl, fun h => absurd h hg, fun _ => rfl, hother, hstale _⟩

end

/-! ### Rows that are no command of a mailbox, and a capsule command's first checks with its fields' ranges (R40, R57) -/

section
namespace Sys2Proof.Machine
open Sys2Proof

/-- An event that acts at once makes of the running module what its meaning makes of it. -/
theorem does_run {i : Instr} {s : State} {f : Module → Module} {n : Module} (hi : exec i s = run f s)
    (h : s.m.live = true) (hn : f s.m = n) : Does i s n := by
  rw [Does, hi, run_live h, hn]

/-- An event whose operands name places that the module has makes of the running module what its meaning makes of it. -/
theorem does_runIf {i : Instr} {s : State} {ok : Bool} {f : Module → Module} {n : Module} (hi : exec i s = runIf ok f s)
    (hok : ok = true) (h : s.m.live = true) (hn : f s.m = n) : Does i s n := by
  rw [Does, hi, runIf_live hok h, hn]

/-- A timed event makes of the running module, at the instant that it is due, what its meaning makes of it. -/
theorem doesAt_runAt {i : Instr} {s : State} {due : Nat} {g : Module → Nat} {f h : Module → Module}
    (hi : exec i s = runAt g f s) (hl : s.m.live = true) (hg : g s.m = due)
    (hf : f (s.m.advanceTo due) = h (s.m.advanceTo due)) : DoesAt i s due h := by
  subst hg
  rw [DoesAt, hi, runAt_live hl, hf]

@[simp] theorem Module.advanceTo_get (due : Nat) (m : Module) (f : Fld) : (m.advanceTo due).get f = m.get f := by
  simp only [Module.get, Module.reg, Module.advanceTo_regs]

/-- The first checks of a capsule's command hold for an ID that names a live capsule and fields in range (R40, R57). -/
theorem capChecks_ranges {m : Module} {id : Nat} {ranges : List (Bool × Verdict)} (off : Nat) (h : NamesCapsule m id)
    (hr : ∀ x ∈ ranges, x.1 = true) : ∀ x ∈ capChecks m id off ranges, x.1 = true := by
  obtain ⟨hgen, hlive⟩ := h
  simp only [capChecks, List.forall_mem_cons, List.forall_mem_append, List.not_mem_nil, false_imp_iff, implies_true, and_true]
  exact ⟨by simpa using hgen, hr, hlive⟩

end Sys2Proof.Machine
end

/-! ### The free slot of a half (R44) -/

section
namespace Sys2Proof.Machine
open Sys2Proof

theorem KMap.mem_of_get {α : Type} {m : KMap α} {k : Nat} {v : α} (h : m.get k = some v) : (k, v) ∈ m := by
  induction m with
  | nil => cases h
  | cons c rest ih =>
    obtain ⟨a, x⟩ := c
    simp only [KMap.get, beq_iff_eq] at h
    split at h
    · next ha => cases h; simp [ha]
    · exact List.mem_cons_of_mem _ (ih h)

/-- In a table whose keys rise, each entry is what a read of its key gives. -/
theorem KMap.get_of_mem {α : Type} {m : KMap α} {k : Nat} {v : α} (hwf : m.wf = true) (h : (k, v) ∈ m) : m.get k = some v := by
  induction m with
  | nil => cases h
  | cons c rest ih =>
    obtain ⟨a, x⟩ := c
    rcases List.mem_cons.mp h with h | h
    · cases h; simp [KMap.get]
    · have hlt : a < k := KMap.wf_above hwf _ h
      simpa [KMap.get, Nat.ne_of_lt hlt] using ih (KMap.wf_tail hwf) h

/-- The slots of a half that a creation passes over: those in use, and those that a grant holds. -/
def Module.takenIn (m : Module) (half : Nat) : List Nat :=
  (m.caps.slots.filter (fun (s, c) => s % 2 == half && c.state != 0)).map (·.1) ++
    m.caps.grants.filter (fun s => s % 2 == half)

theorem Module.mem_takenIn {m : Module} {half s : Nat} (hwf : m.caps.slots.wf = true) :
    s ∈ m.takenIn half ↔ s % 2 = half ∧ ((m.slot s).state ≠ 0 ∨ s ∈ m.caps.grants) := by
  have hused : s ∈ (m.caps.slots.filter (fun (s, c) => s % 2 == half && c.state != 0)).map (·.1) ↔
      s % 2 = half ∧ (m.slot s).state ≠ 0 := by
    simp only [List.mem_map, List.mem_filter, Bool.and_eq_true, beq_iff_eq, bne_iff_ne]
    constructor
    · rintro ⟨⟨s, c⟩, ⟨hmem, hhalf, hstate⟩, rfl⟩
      refine ⟨hhalf, ?_⟩
      rwa [Module.slot, KMap.getD, KMap.get_of_mem hwf hmem]
    · rintro ⟨hhalf, hstate⟩
      cases hget : m.caps.slots.get s with
      | none => exact absurd (by rw [Module.slot, KMap.getD, hget]; rfl) hstate
      | some c =>
        rw [Module.slot, KMap.getD, hget] at hstate
        exact ⟨(s, c), ⟨KMap.mem_of_get hget, hhalf, hstate⟩, rfl⟩
  simp only [Module.takenIn, List.mem_append, hused, List.mem_filter, beq_iff_eq]
  tauto

/-- The slot that a creation takes is the first of the half's slots that is not taken. -/
theorem Module.freeSlotOf_first {m : Module} {half slot : Nat} (h : m.freeSlotOf half = some slot) :
    slot < 2 ^ 24 ∧ slot ∉ m.takenIn half ∧ ∃ i, slot = 2 * i + half ∧ ∀ j < i, 2 * j + half ∈ m.takenIn half := by
  change (((List.range ((m.takenIn half).length + 1)).map (fun i => 2 * i + half)).find?
    (fun s => !(m.takenIn half).contains s)).filter (fun s => decide (s < 2 ^ 24)) = some slot at h
  rw [Option.filter_eq_some_iff, List.find?_map, Option.map_eq_some_iff] at h
  obtain ⟨⟨i, hfirst, rfl⟩, hlt⟩ := h
  obtain ⟨hfree, -, hlower⟩ := List.find?_range_eq_some.mp hfirst
  exact ⟨by simpa using hlt, by simpa using hfree, i, rfl, fun j hj => by simpa using hlower j hj⟩

end Sys2Proof.Machine
end

section
open Sys2Proof Sys2Proof.Machine

/-- Settles O27: a creation takes the first candidate of the half that is not taken (freeSlotOf_first), and with rising slot
numbers a slot is taken exactly when it is in use or granted (mem_takenIn). -/
theorem theLowestFreeSlotIsTaken : Obligations.TheLowestFreeSlotIsTaken := by
  unfold Obligations.TheLowestFreeSlotIsTaken
  intro m half slot hhalf hwf h
  obtain ⟨hlt, hfree, i, rfl, hlower⟩ := Module.freeSlotOf_first h
  have hmod : (2 * i + half) % 2 = half := by omega
  simp only [Module.mem_takenIn hwf, hmod, true_and, not_or, not_not] at hfree
  refine ⟨hlt, hmod, hfree.1, hfree.2, fun o ho hoh => ?_⟩
  obtain ⟨j, hj, rfl⟩ : ∃ j < i, o = 2 * j + half := ⟨o / 2, by omega, by omega⟩
  exact ((Module.mem_takenIn hwf).mp (hlower j hj)).2

end

/-! ### CAPSULE_PARK and CAPSULE_TRUNCATE (R70, R71) -/

section
namespace Sys2Proof.Machine
open Sys2Proof

section
variable {c : RunCmd} {m m0 : Module} {id : Nat} {k : Capsule}

/-- A park of an IDLE or PARKED capsule whose checks hold waits for the moves that it starts (R70). -/
theorem capsuleParkCmd_parks (hid : id = u32 c.payload 0) (hm : m0 = (m.loadHeader id).loadMap id)
    (hk : k = m0.slot (id / 256)) (hz : allZero c.payload 5 3 = true) (hn : NamesCapsule m0 id)
    (hlo : 1 ≤ u8 c.payload 4) (hhi : u8 c.payload 4 ≤ 3) (hw : MayWrite m0 c k) (hs : k.state = 1 ∨ k.state = 4)
    (hd : k.damaged = false) (hro : u8 c.payload 4 = 3 → m0.ftl.readOnly = false) (hr : m0.requestOf id = none) :
    capsuleParkCmd c m = ((unheld c m0).await c []).startPark id (u8 c.payload 4) k.state (some c.id) := by
  subst hid hm hk
  unfold capsuleParkCmd
  rw [Module.checked_act (by simpa using hz), Module.heldOr_mayWrite hn hw]
  · refine if_neg ?_
    rcases hs with hs | hs <;> simp [hs]
  obtain ⟨hfence, hown, -⟩ := hw
  refine List.forall_mem_append.mpr ⟨capChecks_ranges 0 hn (by simp [hlo, hhi]), ?_⟩
  simp only [List.forall_mem_cons, List.not_mem_nil, false_imp_iff, implies_true, and_true]
  refine ⟨by simp [hfence, hown], ?_, by simp [hd], ?_, by simp [hr]⟩
  · rcases hs with hs | hs <;> simp [hs]
  · by_cases h3 : u8 c.payload 4 = 3 <;> simp [h3, hro]

/-- A park of a PARKING capsule completes with BUSY (R65). -/
theorem capsuleParkCmd_busy (hid : id = u32 c.payload 0) (hm : m0 = (m.loadHeader id).loadMap id)
    (hk : k = m0.slot (id / 256)) (hz : allZero c.payload 5 3 = true) (hn : NamesCapsule m0 id)
    (hlo : 1 ≤ u8 c.payload 4) (hhi : u8 c.payload 4 ≤ 3) (hf : m0.fenced = false) (ho : m0.mayOwn k = true)
    (hs : k.state = 3) : capsuleParkCmd c m = m0.fail c .busy := by
  subst hid hm hk
  rw [← Module.verdict_busy]
  refine Module.checked_fail (by simpa using hz) ?_
  rw [firstFail_append (capChecks_ranges 0 hn (by simp [hlo, hhi]))]
  simp [firstFail, hf, ho, hs]

/-- A truncation whose checks hold cuts the capsule at once, or waits (R65, R71, R316). -/
theorem capsuleTruncateCmd_acts (hid : id = u32 c.payload 0) (hm : m0 = (m.loadHeader id).loadMap id)
    (hk : k = m0.slot (id / 256)) (hn : NamesCapsule m0 id) (hle : u32 c.payload 4 ≤ k.tokens) (hw : MayWrite m0 c k)
    (hs : k.state = 1 ∨ k.state = 2 ∨ k.state = 4) :
    capsuleTruncateCmd c m =
      if (unheld c m0).truncateWaits id (u32 c.payload 4) then (unheld c m0).await c [id, u32 c.payload 4]
      else (unheld c m0).truncateNow c id (u32 c.payload 4) := by
  subst hid hm hk
  unfold capsuleTruncateCmd
  rw [Module.checked_act (List.forall_mem_nil _), Module.heldOr_mayWrite hn hw]
  obtain ⟨hfence, hown, -⟩ := hw
  refine List.forall_mem_append.mpr ⟨capChecks_pass 0 hn, ?_⟩
  simp only [List.forall_mem_cons, List.not_mem_nil, false_imp_iff, implies_true, and_true]
  refine ⟨by simpa using hle, by simp [hfence, hown], ?_⟩
  rcases hs with hs | hs | hs <;> simp [hs]

/-- A truncation to more tokens than the capsule holds completes with BAD_FIELD for the count (R71). -/
theorem capsuleTruncateCmd_badField (hid : id = u32 c.payload 0) (hm : m0 = (m.loadHeader id).loadMap id)
    (hk : k = m0.slot (id / 256)) (hn : NamesCapsule m0 id) (hgt : k.tokens < u32 c.payload 4) :
    capsuleTruncateCmd c m = m0.badField c 4 := by
  subst hid hm hk
  refine Module.checked_fail (v := bad 4) (List.forall_mem_nil _) ?_
  rw [firstFail_append (capChecks_pass 0 hn)]
  simp [firstFail, Nat.not_le_of_gt hgt]

/-- A truncation of a PARKING capsule completes with BUSY (R65). -/
theorem capsuleTruncateCmd_busy (hid : id = u32 c.payload 0) (hm : m0 = (m.loadHeader id).loadMap id)
    (hk : k = m0.slot (id / 256)) (hn : NamesCapsule m0 id) (hle : u32 c.payload 4 ≤ k.tokens) (hf : m0.fenced = false)
    (ho : m0.mayOwn k = true) (hs : k.state = 3) : capsuleTruncateCmd c m = m0.fail c .busy := by
  subst hid hm hk
  rw [← Module.verdict_busy]
  refine Module.checked_fail (List.forall_mem_nil _) ?_
  rw [firstFail_append (capChecks_pass 0 hn)]
  simp [firstFail, hle, hf, ho, hs]

end

/-- A capsule that is cut to n tokens holds n of them, and neither pages nor shared pages beyond those that they fill (R71). -/
theorem Module.slot_truncateTo_bounds (m : Module) (id n : Nat) :
    ((m.truncateTo id n).slot (id / 256)).tokens = n ∧ ((m.truncateTo id n).slot (id / 256)).pages ≤ (n + 255) / 256 ∧
      ((m.truncateTo id n).slot (id / 256)).shared ≤ (n + 255) / 256 := by
  unfold Module.truncateTo Module.updCap
  dsimp only
  rw [Module.slot_updSlot_same]
  exact ⟨rfl, Nat.min_le_right .., Nat.min_le_right ..⟩

end Sys2Proof.Machine
end

section
open Sys2Proof Sys2Proof.Machine

/-- Settles O30: each outcome of a fresh park or truncation is one lemma about capsuleParkCmd or capsuleTruncateCmd, and the
cut takes the lesser of the old and the new bound of pages and of shared pages (slot_truncateTo_bounds). -/
theorem parkAndTruncateAct : Obligations.ParkAndTruncateAct := by
  unfold Obligations.ParkAndTruncateAct
  refine ⟨?_, ?_, fun m id n => Module.slot_truncateTo_bounds m id n⟩
  · intro s src c k hfresh hz m0 hn hk hlo hhi
    exact ⟨fun hw hs hd hro hr => does_onCmd rfl hfresh (capsuleParkCmd_parks rfl rfl hk hz hn hlo hhi hw hs hd hro hr),
      fun hf ho hs => does_onCmd rfl hfresh (capsuleParkCmd_busy rfl rfl hk hz hn hlo hhi hf ho hs)⟩
  · intro s src c k hfresh m0 hn hk
    refine ⟨fun hle hw hs => ?_, fun hgt => does_onCmd rfl hfresh (capsuleTruncateCmd_badField rfl rfl hk hn hgt),
      fun hle hf ho hs => does_onCmd rfl hfresh (capsuleTruncateCmd_busy rfl rfl hk hn hle hf ho hs)⟩
    have hacts := capsuleTruncateCmd_acts rfl rfl hk hn hle hw hs
    exact ⟨fun hnow => does_onCmd rfl hfresh (hacts.trans (by rw [hnow]; rfl)),
      fun hwait => does_onCmd rfl hfresh (hacts.trans (by rw [hwait]; rfl))⟩

end

/-! ### CAPSULE_REPAIR and the blocks that it fetches (R63, R576) -/

section
namespace Sys2Proof.Machine
open Sys2Proof

/-- The module with the repairs of capsule id changed by f. -/
def Module.updRepairs (id : Nat) (f : Repair → Repair) (m : Module) : Module :=
  { m with caps := { m.caps with repairs := m.caps.repairs.map (fun (q : Repair) => if q.capsule == id then f q else q) } }

section
variable {c : RunCmd} {m m0 : Module} {id : Nat} {left : List (Nat × Nat)}

/-- A repair whose checks hold loads the header and the map, and waits, asks for each damaged block, or fails (R63). -/
theorem capsuleRepairCmd_acts (hid : id = u32 c.payload 0) (hm : m0 = ((unheld c m).loadHeader id).loadMap id)
    (hl : left = m0.damagedBlocks id) (hz : allZero c.payload 4 4 = true) (hn : NamesCapsule m id)
    (hw : MayWrite m c (m.slot (id / 256))) :
    capsuleRepairCmd c m =
      if m0.caps.repairs.any (fun (r : Repair) => r.capsule == id) then unheld c m
      else if m0.linkOpen || left.isEmpty then
        (left.foldl (fun (a : Module) (p : Nat × Nat) => a.emit (.pair 1 [id, p.1, p.2] []))
          (({ m0 with caps := { m0.caps with repairs := m0.caps.repairs ++ [⟨id, c.id, left, false⟩] } } : Module).await
            c [])).endRepair id
      else m0.fail c .damaged := by
  subst hid hm hl
  unfold capsuleRepairCmd
  rw [Module.checked_act (by simpa using hz), Module.heldOr_mayWrite hn hw]
  obtain ⟨hfence, hown, -⟩ := hw
  exact List.forall_mem_append.mpr ⟨capChecks_pass 0 hn, by simp [hfence, hown]⟩

end

/-- A place below the two marks is an entry of the map, neither the header nor a list block. -/
theorem mapEntry_place {entry : Nat} (he : entry < 0xFFFFFFFE) :
    (entry == repairHeader) = false ∧ (entry == repairList) = false :=
  ⟨beq_eq_false_iff_ne.mpr (Nat.ne_of_lt (he.trans (by decide))), beq_eq_false_iff_ne.mpr (Nat.ne_of_lt he)⟩

section
variable {m : Module} {id entry block check : Nat} {b : Bytes} {ok : Bool} {r : Repair}

/-- A block that the partner could not read writes nothing and fails the repair (R63). -/
theorem repairArrival_unread
    (hr : m.caps.repairs.find? (fun (q : Repair) => q.capsule == id && q.left.contains (entry, block)) = some r) :
    repairArrival id entry block b check false m =
      (m.updRepairs id (fun q => { q with failed := true, left := r.left.erase (entry, block) })).endRepair id := by
  unfold repairArrival
  rw [hr]
  rfl

/-- Block k of a tile other than its header block is restored when its bytes pass their check value, and is damage when they
fail it (R62, R576). -/
theorem repairArrival_frameBlock
    (hr : m.caps.repairs.find? (fun (q : Repair) => q.capsule == id && q.left.contains (entry, block)) = some r)
    (he : entry < 0xFFFFFFFE) (hb : block % 4 ≠ 0) (hlen : b.length = 4096) :
    repairArrival id entry block b check true m =
      if crc32c b = check then
        ((m.restoreBlock id entry block b).updRepairs id
          (fun q => { q with left := r.left.erase (entry, block) })).endRepair id
      else
        ((m.damage id (nthD (m.slot (id / 256)).map entry 0xFFFFFFFF) block).updRepairs id
          (fun q => { q with failed := true, left := r.left.erase (entry, block) })).endRepair id := by
  obtain ⟨hheader, hlist⟩ := mapEntry_place he
  have hframe : decide (repairList ≤ entry) = false := decide_eq_false (Nat.not_le_of_gt he)
  unfold repairArrival
  rw [hr]
  simp only [hheader, hlist, hframe, hlen, beq_eq_false_iff_ne.mpr hb, Bool.false_eq_true, if_false, BEq.rfl, Bool.true_and]
  by_cases hcrc : crc32c b = check
  · rw [if_pos hcrc, beq_iff_eq.mpr hcrc]
    rfl
  · rw [if_neg hcrc, beq_eq_false_iff_ne.mpr hcrc]
    rfl

end

section
variable {m : Module} {id entry block : Nat}

theorem repairFetch_noCapsule (h : m.capsule id = none) :
    repairFetch id entry block m = m.emit (.pair 2 [id, entry, block, 0] []) := by
  unfold repairFetch
  rw [h]

/-- A good block of a frame is read and sent to the partner (R63). -/
theorem repairFetch_goodBlock {k : Capsule} {f : Frame} (hk : m.capsule id = some k) (he : entry < 0xFFFFFFFE)
    (hf : m.frame (nthD k.map entry 0xFFFFFFFF) = some f) (hb : f.bad.contains block = false) :
    repairFetch id entry block m = (m.touch (nthD k.map entry 0xFFFFFFFF)).emit
      (.pair 2 [id, entry, block, 1] (slice (f.tileBytes (block / 4)) (4096 * (block % 4)) 4096)) := by
  obtain ⟨hheader, hlist⟩ := mapEntry_place he
  unfold repairFetch
  rw [hk]
  simp only [hheader, hlist, hf, hb, Bool.false_eq_true, if_false]

end

end Sys2Proof.Machine
end

section
open Sys2Proof Sys2Proof.Machine

/-- Settles O31: a fresh repair takes one of the three branches of capsuleRepairCmd_acts, and what arrives and what the partner
asks for are one lemma for each kind of block. That no link counts as the partner lost and that a second repair waits are
assumptions 184 and 185. -/
theorem repairFetchesFromThePartner : Obligations.RepairFetchesFromThePartner := by
  unfold Obligations.RepairFetchesFromThePartner
  refine ⟨?_, ?_, ?_⟩
  · intro s src c k hfresh hz hn hk hw id m0 left
    subst hk
    have hacts := capsuleRepairCmd_acts rfl rfl rfl hz hn hw
    refine ⟨fun hsecond => does_onCmd rfl hfresh (hacts.trans (if_pos hsecond)), fun hfirst => ?_⟩
    have hasks := hacts.trans (if_neg (ne_true_of_eq_false hfirst))
    refine ⟨fun hask => does_onCmd rfl hfresh (hasks.trans (if_pos ?_)), fun hclosed hleft =>
      does_onCmd rfl hfresh (hasks.trans (if_neg (ne_true_of_eq_false ?_)))⟩
    · exact Bool.or_eq_true_iff.mpr (hask.imp_right List.isEmpty_iff.mpr)
    · exact Bool.or_eq_false_iff.mpr ⟨hclosed, List.isEmpty_eq_false_iff.mpr hleft⟩
  · intro s id entry block check b ok r hl hr left noted
    refine ⟨fun hok => ?_, fun hok he hb hlen => ?_⟩
    · subst hok
      exact does_run rfl hl (repairArrival_unread hr)
    · subst hok
      have harrives := repairArrival_frameBlock (check := check) hr he hb hlen
      exact ⟨fun hcrc => does_run rfl hl (harrives.trans (if_pos hcrc)),
        fun hcrc => does_run rfl hl (harrives.trans (if_neg hcrc))⟩
  · intro s id entry block hl
    exact ⟨fun hnone => does_run rfl hl (repairFetch_noCapsule hnone),
      fun k f hk he hf hb => does_run rfl hl (repairFetch_goodBlock hk he hf hb)⟩

end

/-! ### The table sweep (R42, R73) -/

section
namespace Sys2Proof.Machine
open Sys2Proof

/-- CAPSULE_SWEEP waits for the sweep that runs, and starts one where none does (R73). -/
theorem capsuleSweepCmd_eq (c : RunCmd) (m : Module) :
    capsuleSweepCmd c m = if m.caps.sweep.isSome then m.await c [] else (m.await c []).startSweep := rfl

/-- SWEEP_INTERVAL is due one interval after the last sweep started (R42). -/
theorem exec_sweepInterval (s : State) : exec .sweepInterval s =
    runAt (fun m => if m.get Reg.CAPS.SWEEP_CTRL_INTERVAL == 0 then 0
      else m.caps.lastSweep + sec (m.get Reg.CAPS.SWEEP_CTRL_INTERVAL)) sweepInterval s := rfl

theorem sweepInterval_starts {m : Module} (h : m.get Reg.CAPS.SWEEP_CTRL_INTERVAL ≠ 0) : sweepInterval m = m.startSweep := by
  simp [sweepInterval, h]

theorem sweepAnswer_running {m : Module} {batch held : List Nat} {w : Sweep} (h : m.caps.sweep = some w) :
    sweepAnswer batch held m =
      ((batch.filter (fun n => w.asked.contains n)).foldl
        (fun (a : Module) n => if !held.contains n && a.slotReady n then a.returnSlot n else a)
        { m with caps := { m.caps with
          sweep := some { w with asked := w.asked.filter (fun n => !batch.contains n) } } }).endSweep := by
  unfold sweepAnswer
  rw [h]

/-- What makes a slot ready to return (R42). -/
theorem Module.slotReady_iff {m : Module} {n : Nat} :
    m.slotReady n = true ↔ (m.slot n).state = 6 ∧
      (m.slot n).retiredAt + sec (Max.max 10 (m.get Reg.CAPS.SWEEP_CTRL_QUARANTINE_MIN)) ≤ m.clk.mono ∧
      m.holdsSlot n = false := by
  simp [Module.slotReady, and_assoc]

@[simp] theorem Module.transmit_caps (r : MirrorRec) (m : Module) : (m.transmit r).caps = m.caps := by
  unfold Module.transmit
  split <;> simp

@[simp] theorem Module.send_caps (kind part flags step capsule arg0 arg1 : Nat) (body : Bytes) (m : Module) :
    (m.send kind part flags step capsule arg0 arg1 body).caps = m.caps := by
  unfold Module.send
  split <;> simp

theorem KMap.get_upd_none {α : Type} {m : KMap α} {j : Nat} (k : Nat) (f : α → α) (h : m.get j = none) :
    (m.upd k f).get j = none := by
  by_cases hj : j = k
  · subst hj
    rw [KMap.get_upd_same, h]
    rfl
  · rw [KMap.get_upd_other m f hj, h]

/-- A record for a slot that was never used leaves it blank: there is no header whose MIRROR_SEQ could follow. -/
theorem Module.slot_mirrorSlot_unused {slot id : Nat} {m : Module} (kind part step arg0 arg1 : Nat) (body : Bytes)
    (h : m.caps.slots.get slot = none) : (m.mirrorSlot kind part step id arg0 arg1 body).slot slot = Capsule.blank := by
  have hget : (m.mirrorSlot kind part step id arg0 arg1 body).caps.slots.get slot = none := by
    unfold Module.mirrorSlot
    extract_lets _ _ m1
    have hcaps : m1.caps = m.caps := by
      dsimp only [m1]
      split <;> rfl
    clear_value m1
    split
    · exact KMap.get_upd_none _ _ (by rwa [Module.send_caps, hcaps])
    · rwa [hcaps]
  rw [Module.slot, KMap.getD, hget]
  rfl

/-- A slot that returns is one that was never used: FREE, generation 0 (R42, R45). -/
theorem Module.slot_returnSlot_same {m : Module} (slot : Nat) (h : m.caps.slots.wf = true) :
    (m.returnSlot slot).slot slot = Capsule.blank :=
  Module.slot_mirrorSlot_unused (m := { m with caps := { m.caps with slots := m.caps.slots.del slot } }) _ _ _ _ _ _
    (KMap.get_del_same slot h)

end Sys2Proof.Machine
end

section
open Sys2Proof Sys2Proof.Machine

/-- Settles O32: the rows of a sweep are each one lemma about their meaning, a slot is ready on slotReady_iff's three
conditions alone, and a slot that returns is blank (slot_returnSlot_same). -/
theorem sweepsReturnRetiredSlots : Obligations.SweepsReturnRetiredSlots := by
  unfold Obligations.SweepsReturnRetiredSlots
  refine ⟨fun s src c hfresh => ⟨fun hnone => ?_, fun hruns => ?_⟩, fun s hl hint => ?_, fun s batch hl hlen => ?_,
    fun s batch held w hl hw => does_run rfl hl (sweepAnswer_running hw), fun m n hready => ?_, fun m n hwf => ?_⟩
  · exact does_onCmd rfl hfresh ((capsuleSweepCmd_eq c s.m).trans (by rw [hnone]; rfl))
  · exact does_onCmd rfl hfresh ((capsuleSweepCmd_eq c s.m).trans (if_pos hruns))
  · exact doesAt_runAt (exec_sweepInterval s) hl (by simp [hint, sec, Nat.mul_comm])
      (sweepInterval_starts (by simpa using hint))
  · exact does_runIf rfl (decide_eq_true hlen) hl rfl
  · obtain ⟨hstate, hpast, hheld⟩ := Module.slotReady_iff.mp hready
    exact ⟨hstate, hheld, by rwa [Nat.mul_comm]⟩
  · rw [Module.slot_returnSlot_same n hwf]
    exact ⟨rfl, rfl⟩

end

/-! ### SLIDE_SCHEDULE (R85, R102) -/

section
namespace Sys2Proof.Machine
open Sys2Proof

/-- The entries that a SLIDE_SCHEDULE reads, each as its 32 bytes. -/
def Module.scheduleRaw (m : Module) (c : RunCmd) : List Bytes :=
  (List.range (u32 c.payload 8)).map (fun i => m.cmdRead c (u64 c.payload 0 + 32 * i) 32)

/-- The entries that a SLIDE_SCHEDULE reads. -/
def Module.scheduleEntries (m : Module) (c : RunCmd) : List PfEntry :=
  (m.scheduleRaw c).map (fun e => Machine.entryOf e (u8 c.payload 0x10))

/-- An entry has a field out of range, an ID of generation 0xFF or another STEP, or stands out of order (R85). -/
def Module.scheduleBad (m : Module) (c : RunCmd) : Bool :=
  !((m.scheduleRaw c).all entryFields) || (m.scheduleEntries c).any (fun e => e.capsule % 256 == 255) ||
    (m.scheduleEntries c).any (fun e => e.step != u32 c.payload 0x0C) || !entriesOrdered (m.scheduleEntries c)

/-- An entry names no capsule of the schedule's partition. -/
def Module.scheduleForeign (m : Module) (c : RunCmd) : Bool :=
  (m.scheduleEntries c).any (fun e => (m.capsule e.capsule).map (·.partition) != some (u8 c.payload 0x10))

theorem Module.scheduleForeign_iff {m : Module} {c : RunCmd} :
    m.scheduleForeign c = true ↔
      ∃ e ∈ m.scheduleEntries c, (m.capsule e.capsule).map (·.partition) ≠ some (u8 c.payload 0x10) := by
  simp only [Module.scheduleForeign, List.any_eq_true, bne_iff_ne]

/-- The module that has accepted a schedule for the step. -/
def Module.scheduleAccepted (m : Module) (c : RunCmd) : Module :=
  { m with slide := { m.slide with accepted := m.slide.accepted ++ [(u8 c.payload 0x10, u32 c.payload 0x0C)] } }

/-- An accepted schedule serves its step when that is published, and waits for it otherwise (R102). -/
def Module.takeSchedule (m : Module) (c : RunCmd) : Module :=
  match (m.pstep (u8 c.payload 0x10)).live.find? (fun x => x.num == u32 c.payload 0x0C) with
  | some x => ((m.scheduleAccepted c).takeEntries
      ((m.scheduleAccepted c).stepEntries (u8 c.payload 0x10) x.seqs (m.scheduleEntries c))).ok c []
  | none => ({ m.scheduleAccepted c with slide := { (m.scheduleAccepted c).slide with
      supplied := m.slide.supplied ++ [(u8 c.payload 0x10, u32 c.payload 0x0C, m.scheduleEntries c)] } } : Module).ok c []

section
variable {c : RunCmd} {m : Module} (hz : allZero c.payload 0x11 7 = true) (ha : u64 c.payload 0 % 32 = 0)
  (hlo : 1 ≤ u32 c.payload 8) (hhi : u32 c.payload 8 ≤ 131072) (hp : m.present (u8 c.payload 0x10) = true)
include hz ha hlo hhi hp

/-- A host schedule for a partition of more than eight attention cores is denied (R83). -/
theorem slideScheduleCmd_manyCores (hc : 8 < m.coreCount (u8 c.payload 0x10)) : slideScheduleCmd c m = m.fail c .denied := by
  refine Module.checked_fail (v := stop .denied) (by simpa using hz) ?_
  simp [firstFail, ha, hlo, hhi, Module.partOk, hp, Nat.not_le_of_gt hc]

variable (hc : m.coreCount (u8 c.payload 0x10) ≤ 8)
  (hmay : m.cmdMay c (u8 c.payload 0x10) (u64 c.payload 0) (32 * u32 c.payload 8) false = true)
include hc hmay

theorem slideScheduleCmd_busy (ht : (u8 c.payload 0x10, u32 c.payload 0x0C) ∈ m.slide.accepted) :
    slideScheduleCmd c m = m.fail c .busy := by
  refine Module.checked_fail (v := stop .busy) (by simpa using hz) ?_
  simp [firstFail, ha, hlo, hhi, Module.partOk, hp, hc, hmay, ht]

/-- A schedule that passes the checks of its payload is read whole, and refused whole or taken (R85, R102). -/
theorem slideScheduleCmd_reads (ht : (u8 c.payload 0x10, u32 c.payload 0x0C) ∉ m.slide.accepted)
    (hup : m.host.linkUp = true) (hd0 : m.host.d3hot = false) :
    slideScheduleCmd c m =
      if m.scheduleBad c then m.badField c 0 else if m.scheduleForeign c then m.fail c .denied else m.takeSchedule c := by
  unfold slideScheduleCmd
  rw [Module.checked_act (by simpa using hz)]
  · simp only [Module.withHost, hup, hd0, Bool.not_true, Bool.false_eq_true, if_false]
    rfl
  · simp [ha, hlo, hhi, Module.partOk, hp, hc, hmay, ht]

end

end Sys2Proof.Machine
end

section
open Sys2Proof Sys2Proof.Machine

/-- Settles O34: a schedule is denied for its cores, is BUSY, or is read whole, and then one of the branches of
slideScheduleCmd_reads applies. -/
theorem slideSchedulesAreCheckedWhole : Obligations.SlideSchedulesAreCheckedWhole := by
  unfold Obligations.SlideSchedulesAreCheckedWhole
  intro s src c hfresh hz addr n step p ha hlo hhi hp
  refine ⟨fun hmany => does_onCmd rfl hfresh (slideScheduleCmd_manyCores hz ha hlo hhi hp hmany), fun hc hmay =>
    ⟨fun htwice => does_onCmd rfl hfresh (slideScheduleCmd_busy hz ha hlo hhi hp hc hmay htwice), ?_⟩⟩
  intro hfirst hup hd0 raw es bad
  have hreads := slideScheduleCmd_reads hz ha hlo hhi hp hc hmay hfirst hup hd0
  refine ⟨fun hbad => does_onCmd rfl hfresh (hreads.trans (if_pos hbad)), fun hgood hforeign => ?_, fun hgood hown => ?_⟩
  · have hdenied : s.m.scheduleForeign c = true := Module.scheduleForeign_iff.mpr hforeign
    exact does_onCmd rfl hfresh ((hreads.trans (if_neg (ne_true_of_eq_false hgood))).trans (if_pos hdenied))
  · have hkept : s.m.scheduleForeign c = false := Bool.eq_false_iff.mpr fun h => by
      obtain ⟨e, he, hne⟩ := Module.scheduleForeign_iff.mp h
      exact hne (hown e he)
    have htaken := (hreads.trans (if_neg (ne_true_of_eq_false hgood))).trans (if_neg (ne_true_of_eq_false hkept))
    refine ⟨fun x hx => does_onCmd rfl hfresh (htaken.trans ?_), fun hx => does_onCmd rfl hfresh (htaken.trans ?_)⟩
    all_goals
      rw [Module.takeSchedule, hx]
      rfl

end

/-! ### Two statements that fail: CAPSULE_CREATE over a wide generation and CAPSULE_READ of no byte (R66, R69) -/

section
namespace Sys2Proof.Machine
open Sys2Proof

/-- What the response of a mailbox holds in DETAIL. -/
def Module.detailOf (m : Module) (b : Nat) : Option Nat := (m.box b).resp.map (·.detail)

/-- A mailbox command that completes with BAD_FIELD is answered with its field's place in the slot (R443). -/
theorem Module.detailOf_badField {b off : Nat} {c : RunCmd} {m : Module} (hs : c.src = .mbox b) (ha : c.answered = false) :
    (m.badField c off).detailOf b = some (0x40 + off) := by
  simp [Module.detailOf, Module.badField, Module.complete, hs, ha, Module.respond_box]

/-- An event that answers a state answers no other. -/
theorem detailOf_unique {i : Instr} {s : State} {m n : Module} (b : Nat) (hm : Does i s m) (hn : Does i s n) :
    m.detailOf b = n.detailOf b :=
  congrArg (fun t : State => t.m.detailOf b) (Host.Outcome.next.inj (hm.symm.trans hn))

/-- A read of no byte, or of more than 3,584, is refused for its LENGTH, whatever OFFSET names: the range of a field is judged
before the capsule's address space is (R69, assumption 46). -/
theorem capsuleReadCmd_badLength {c : RunCmd} {m : Module} (hz : allZero c.payload 4 4 = true)
    (hz' : allZero c.payload 0x14 4 = true) (hid : u32 c.payload 0 % 256 ≠ 255)
    (hn : ¬(1 ≤ u32 c.payload 0x10 ∧ u32 c.payload 0x10 ≤ 3584)) : capsuleReadCmd c m = m.badField c 0x10 := by
  unfold capsuleReadCmd
  refine Module.checked_fail (v := bad 0x10) (by simp [hz, hz']) ?_
  have hlength : (decide (1 ≤ u32 c.payload 0x10) && decide (u32 c.payload 0x10 ≤ 3584)) = false := by
    rw [← Bool.decide_and, decide_eq_false hn]
  simp only [capChecks, List.cons_append, firstFail, bne_iff_ne.mpr hid, hlength, if_true, Bool.false_eq_true, if_false]

/-- The module at reset, started up, in which one command runs. -/
def soleCommand (c : RunCmd) : Module :=
  { Module.reset with
    power := { PowerSt.reset with phase := .started }
    host := { HostSt.reset with running := [c] } }

/-- A command that mailbox 0 has just started. -/
def firstCommand (op : Nat) (p : Bytes) : RunCmd := ⟨0, .mbox 0, op, 0, 0, p, 0, .fresh, [], [], 0, 0, false, false⟩

/-- A read of no byte at the offset 2 ^ 36, above every layer, of capsule 0. -/
def emptyRead : RunCmd := firstCommand 0x0203 (leBytes 8 0 ++ leBytes 8 (2 ^ 36) ++ leBytes 8 0)

/-- The state in which capsule 0 is IDLE and the read of no byte is fresh. -/
def emptyReadState : State :=
  ⟨[], { soleCommand emptyRead with caps := { CapsSt.reset with slots := [(0, { Capsule.blank with state := 1 })] } }⟩

/-- A creation in partition 0 of a capsule of one layer and 16-byte slots, for account 0 and tokenizer 0, with no grammar. -/
def plainCreate : RunCmd :=
  firstCommand 0x0200 (leBytes 4 0x00010100 ++ leBytes 8 16 ++ leBytes 4 0xFFFFFFFF)

/-- The state in which that creation is fresh in a PAIRED module whose free slot 0 holds the generation 256, which no 8-bit
generation is, and whose slot 1 holds a header with MIRROR_SEQ 5. -/
def wideGeneration : State :=
  ⟨[], { soleCommand plainCreate with
    mirror := { MirrorSt.reset with state := 3 }
    mouth := { Module.reset.mouth with tokenizers := [(0, ⟨0, 0⟩)] }
    steps := { Module.reset.steps with accounts := [(0, ⟨0, 0, 0, 0, 0, 0, 0, 1, 0⟩)] }
    caps := { CapsSt.reset with
      slots := [(0, { Capsule.blank with gen := 256 }), (1, { Capsule.blank with mirrorSeq := 5 })] } }⟩

/-- MIRROR_SEQ of a slot in the state that an outcome answers. -/
def mirrorSeqAfter (slot : Nat) : Out → Option Nat
  | .next t => some (t.m.slot slot).mirrorSeq
  | _ => none

end Sys2Proof.Machine
end

section
open Sys2Proof Sys2Proof.Machine

/-- Refutes O26: the header of a created capsule is mirrored under the slot of its ID, slot * 256 + generation. A state may
hold a generation of 256 or more in a free slot, and then the record's number goes into MIRROR_SEQ of a higher slot: here slot
0 holds the generation 256 and slot 1's MIRROR_SEQ changes from 5 to 0. The statement lacks the premise that the slot's
generation is below 256 (R40, R41). -/
theorem not_capsuleCreationWritesTheHeader : ¬ Obligations.CapsuleCreationWritesTheHeader := by
  unfold Obligations.CapsuleCreationWritesTheHeader
  intro h
  obtain ⟨t, ht, hcreated⟩ :=
    h wideGeneration 0 0 plainCreate (by decide +kernel) (by decide +kernel) (by decide +kernel) (by decide +kernel)
      (by decide +kernel) (by decide +kernel) (by decide +kernel) (by decide +kernel) (by decide +kernel) (by decide +kernel)
      (by decide +kernel) (.inl (by decide +kernel)) (by decide +kernel) (by decide +kernel) (by decide +kernel)
      (by decide +kernel)
  obtain ⟨-, -, -, -, -, -, -, -, -, -, -, -, -, -, -, -, -, hother, -⟩ := hcreated
  have hseq : mirrorSeqAfter 1 (exec (.capsuleCreate (.mbox 0)) wideGeneration) = some 0 := by decide +kernel
  rw [ht, mirrorSeqAfter, hother 1 (by decide)] at hseq
  exact absurd hseq (by decide +kernel)

/-- Refutes O29: of a read whose OFFSET no region holds and whose LENGTH is 0, LENGTH is judged first
(capsuleReadCmd_badLength), so that DETAIL names the payload offset 0x10 and not 8. The clause lacks the premise that LENGTH is
in range. -/
theorem not_capsuleReadsReturnThisModulesCopy : ¬ Obligations.CapsuleReadsReturnThisModulesCopy := by
  unfold Obligations.CapsuleReadsReturnThisModulesCopy
  rintro ⟨-, hread⟩
  have hfresh : Fresh emptyReadState (.mbox 0) 0x0203 emptyRead := by decide +kernel
  have hstated : Does (.capsuleRead (.mbox 0)) emptyReadState (emptyReadState.m.badField emptyRead 8) :=
    (hread emptyReadState (.mbox 0) emptyRead _ hfresh (by decide +kernel) (by decide +kernel) (by decide +kernel) rfl
      (by decide +kernel) (by decide +kernel)).1 (by decide +kernel)
  have hactual : Does (.capsuleRead (.mbox 0)) emptyReadState (emptyReadState.m.badField emptyRead 0x10) :=
    does_onCmd rfl hfresh (capsuleReadCmd_badLength (by decide +kernel) (by decide +kernel) (by decide +kernel)
      (by decide +kernel))
  have hdetail := detailOf_unique 0 hstated hactual
  rw [Module.detailOf_badField rfl rfl, Module.detailOf_badField rfl rfl] at hdetail
  exact absurd hdetail (by decide)

end

/-! ### Host-memory transfers that fail, and commands that run too long (R99, R102, R447) -/

section
namespace Sys2Proof.Machine
open Sys2Proof

@[simp] theorem Module.advanceTo_cmdOf (due : Nat) (m : Module) (src : Src) : (m.advanceTo due).cmdOf src = m.cmdOf src := by
  simp [Module.cmdOf]

@[simp] theorem Module.advanceTo_hostUp (due : Nat) (m : Module) : (m.advanceTo due).hostUp = m.hostUp := by
  simp [Module.hostUp]

@[simp] theorem Module.advanceTo_usesHost (due : Nat) (m : Module) (c : RunCmd) :
    (m.advanceTo due).usesHost c = m.usesHost c := by
  simp [Module.usesHost]

@[simp] theorem Module.advanceTo_hostRetries (due : Nat) (m : Module) (c : RunCmd) :
    (m.advanceTo due).hostRetries c = m.hostRetries c := by
  simp [Module.hostRetries]

section
variable {m : Module} {src : Src} {c : RunCmd} (hc : m.cmdOf src = some c) (hu : m.usesHost c = true)
  (hup : m.hostUp = true)
include hc hu hup

/-- The attempts of a command's transfer end one after another, each as long as the first (R447). -/
theorem hostMemoryDue_attempt : hostMemoryDue src m = c.start + m.hostReadNs c * (c.reads + 1) := by
  simp [hostMemoryDue, hc, hu, hup]

theorem transferFailed_repeats (hr : c.reads < m.hostRetries c) :
    transferFailed src m = m.updCmd c.id (fun x => { x with reads := x.reads + 1 }) := by
  simp [transferFailed, hc, hu, hup, hr]

theorem transferFailed_last (hr : m.hostRetries c ≤ c.reads) (hf : c.stage = .fresh) :
    transferFailed src m = m.fail c .timeout := by
  simp [transferFailed, hc, hu, hup, Nat.not_lt_of_ge hr, hf]

end

/-- The command of a mailbox came through it. -/
theorem Module.fromMailbox_of_cmdOf {m : Module} {b : Nat} {c : RunCmd} (h : m.cmdOf (.mbox b) = some c) :
    c.fromMailbox = true := by
  have hsrc : c.src = .mbox b := by
    have hfound := List.find?_some h
    simp only [Bool.and_eq_true, beq_iff_eq] at hfound
    exact hfound.1
  simp [RunCmd.fromMailbox, hsrc]

section
variable {m : Module} {b : Nat} {c : RunCmd} (hc : m.cmdOf (.mbox b) = some c)
include hc

theorem timeoutExpiryDue_mbox :
    timeoutExpiryDue (.mbox b) m = c.start + 1000000000 * m.get Reg.MBOX.TIMEOUT_EXEC_S := by
  simp [timeoutExpiryDue, hc, Module.fromMailbox_of_cmdOf hc, sec, Nat.mul_comm]

theorem timeoutExpiry_mbox :
    timeoutExpiry (.mbox b) m = (m.answerTimeout c).set Reg.MBOX.STATUS_EXEC_TIMEOUT 1 := by
  simp [timeoutExpiry, hc, Module.fromMailbox_of_cmdOf hc]

end

end Sys2Proof.Machine
end

section
open Sys2Proof Sys2Proof.Machine

/-- Settles O24: the row of an error and that of a time-out are both transferFailed, which repeats the transfer or ends the
command; the counter's advance to a time-out leaves all that it depends on. -/
theorem failedTransfersEndInTimeout : Obligations.FailedTransfersEndInTimeout := by
  unfold Obligations.FailedTransfersEndInTimeout
  refine ⟨fun s src c hl hup hc hu hf => ⟨fun hr => ?_, fun hr => ?_⟩, fun s b c hl hc => ?_, fun m c => ⟨fun ho => ?_,
    fun ho => ?_⟩⟩
  · exact ⟨does_run rfl hl (transferFailed_repeats hc hu hup hr), doesAt_runAt rfl hl (hostMemoryDue_attempt hc hu hup)
      (transferFailed_repeats (by simpa using hc) (by simpa using hu) (by simpa using hup) (by simpa using hr))⟩
  · exact ⟨does_run rfl hl (transferFailed_last hc hu hup hr hf), doesAt_runAt rfl hl (hostMemoryDue_attempt hc hu hup)
      (transferFailed_last (by simpa using hc) (by simpa using hu) (by simpa using hup) (by simpa using hr) hf)⟩
  · exact doesAt_runAt rfl hl (timeoutExpiryDue_mbox hc) (timeoutExpiry_mbox (by simpa using hc))
  · simp [Module.hostRetries, Module.hostReadNs, ho]
  · simp [Module.hostRetries, Module.hostReadNs, ho, us, Nat.mul_comm]

end

/-! ### SLIDE_PLACE and the swap region (R97, R101, R103, R104) -/

section
namespace Sys2Proof.Machine
open Sys2Proof

/-- A placement of a whole capsule names its unshared frames (R101). -/
theorem placeEntries_whole (k : Capsule) (first count : Nat) : placeEntries k 0 first count = k.private_.map (·.1) := by
  simp [placeEntries]

/-- A failed check of a payload field completes the command with BAD_FIELD for it. -/
theorem Module.verdict_bad (c : RunCmd) (m : Module) (off : Nat) : m.verdict c (bad off) = m.badField c off := rfl

section
variable {c : RunCmd} {m m1 : Module} {id : Nat} {k : Capsule} {es : List Nat}

/-- A placement of a whole capsule whose checks hold replaces the earlier hints of its unshared frames, and is noted as a hint
or moves them (R80, R101). -/
theorem slidePlaceCmd_acts (hid : id = u32 c.payload 0) (hk : k = m.slot (id / 256)) (hes : es = k.private_.map (·.1))
    (hm1 : m1 = ((unheld c m).updCap id (Capsule.keepEntries es false)).dropHints id es)
    (hz : allZero c.payload 7 1 = true) (hz' : allZero c.payload 0x0C 4 = true) (hn : NamesCapsule m id)
    (hscope : u8 c.payload 4 = 0) (htier : u8 c.payload 5 ≤ 3)
    (hmode : u8 c.payload 6 = 2 ∨ u8 c.payload 6 = 0 ∧ c.fromMailbox = true)
    (hfirst : u16 c.payload 8 = 0) (hcount : u16 c.payload 0x0A = 0) (hw : MayWrite m c k)
    (hs : k.state = 1 ∨ k.state = 2 ∨ k.state = 4) (hd : k.damaged = false)
    (hro : u8 c.payload 5 = 3 → m.ftl.readOnly = false) :
    slidePlaceCmd c m =
      if u8 c.payload 6 == 2 then
        ({ m1 with slide := { m1.slide with hints := m1.slide.hints ++ [⟨id, es, u8 c.payload 5⟩] } } : Module).ok c []
      else ((es.map (fun i => nthD k.map i 0)).foldl (fun (a : Module) h =>
        if ((a.host.running.find? (fun x => x.id == c.id)).map (fun x => x.data.headD 0 == 0)).getD false
        then a.startMove (.place c.id) h (u8 c.payload 5) else a) (m1.await c [0])).checkPlace c.id := by
  subst hid hk hes hm1
  have hkeep : (u8 c.payload 6 == 1) = false := by rcases hmode with h | ⟨h, -⟩ <;> simp [h]
  unfold slidePlaceCmd
  rw [Module.checked_act (by simp [hz, hz']), Module.heldOr_mayWrite hn hw]
  · simp only [hscope, placeEntries_whole, hkeep]
  obtain ⟨hfence, hown, -⟩ := hw
  refine List.forall_mem_append.mpr ⟨capChecks_ranges 0 hn ?_, ?_⟩
  · simp only [List.forall_mem_cons, List.not_mem_nil, false_imp_iff, implies_true, and_true]
    refine ⟨by simp [hscope], by simpa using htier, ?_, by simp [hfirst], by simp [hcount], by simp [hscope]⟩
    rcases hmode with h | ⟨h, hmail⟩
    · simp [h]
    · simp [h, hmail]
  · simp only [List.forall_mem_cons, List.not_mem_nil, false_imp_iff, implies_true, and_true]
    refine ⟨by simp [hscope], by simp [hfence, hown], ?_, by simp [hd], ?_⟩
    · rcases hs with h | h | h <;> simp [h]
    · by_cases h3 : u8 c.payload 5 = 3 <;> simp [h3, hro]

end

section
variable {c : RunCmd} {m : Module} {id base size : Nat}

section
variable (hid : id = u8 c.payload 0) (hb : base = u64 c.payload 8) (hsz : size = u64 c.payload 0x10)
  (hz : allZero c.payload 1 7 = true) (hlim : id ≤ 15) (hbase : base % 2 ^ 21 = 0) (hsize : size % 2 ^ 21 = 0)
  (hpos : size ≠ 0) (hapart : (m.slide.extents.all (fun e => e.id == id || !overlap base size e.base e.size)) = true)
include hid hb hsz hz hlim hbase hsize hpos hapart

/-- A new extent that overlaps none stands behind the others, in the host-tier indexes too (R97, R103; assumption 71). -/
theorem slideSwapRegisterCmd_adds (hnew : ∀ e ∈ m.slide.extents, e.id ≠ id) :
    slideSwapRegisterCmd c m =
      ({ m with slide := { m.slide with extents := m.slide.extents ++
        [⟨id, base, size, m.slide.extents.foldl (fun a e => Max.max a (e.first + e.size / 131072)) 0⟩] } } : Module).ok
          c [] := by
  subst hid hb hsz
  unfold slideSwapRegisterCmd
  rw [Module.checked_act (by simpa using hz)]
  simp only [List.forall_mem_cons, List.not_mem_nil, false_imp_iff, implies_true, and_true]
  exact ⟨by simpa using hlim, beq_iff_eq.mpr hbase, Bool.and_eq_true_iff.mpr ⟨beq_iff_eq.mpr hsize, bne_iff_ne.mpr hpos⟩, hapart,
    by simpa using hnew⟩

/-- An extent that is registered already is BUSY (R103). -/
theorem slideSwapRegisterCmd_busy (htwice : ∃ e ∈ m.slide.extents, e.id = id) :
    slideSwapRegisterCmd c m = m.fail c .busy := by
  subst hid hb hsz
  rw [← Module.verdict_busy]
  unfold slideSwapRegisterCmd
  refine Module.checked_fail (by simpa using hz) ?_
  have hnew : (m.slide.extents.all fun e => e.id != u8 c.payload 0) = false := by simpa using htwice
  simp only [firstFail, decide_eq_true hlim, beq_iff_eq.mpr hbase, beq_iff_eq.mpr hsize, bne_iff_ne.mpr hpos, Bool.and_self,
    hapart, hnew, if_true, Bool.false_eq_true, if_false]

end

section
variable (hid : id = u8 c.payload 0) (hz : allZero c.payload 1 7 = true)
include hid hz

theorem slideSwapReleaseCmd_unknown (hnone : ∀ e ∈ m.slide.extents, e.id ≠ id) :
    slideSwapReleaseCmd c m = m.badField c 0 := by
  subst hid
  rw [← Module.verdict_bad]
  unfold slideSwapReleaseCmd
  refine Module.checked_fail (by simpa using hz) ?_
  have hany : (m.slide.extents.any fun e => e.id == u8 c.payload 0) = false := by simpa using hnone
  simp [firstFail, hany]

/-- The release of an extent that is not being released starts to move what stands in it and what is coming to it (R79, R98,
R104). -/
theorem slideSwapReleaseCmd_starts {e : Extent} {m0 : Module} (hfind : m.slide.extents.find? (fun x => x.id == id) = some e)
    (hidle : (m.slide.releases.any (fun r => r.extent == id)) = false)
    (hm0 : m0 = ({ m with slide := { m.slide with releases := m.slide.releases ++ [⟨id, c.id, 0⟩] } } : Module).await c []) :
    slideSwapReleaseCmd c m =
      ((((m0.caps.frames.keys.filter (fun h => e.holds h && !m0.slide.leaving.contains h)) ++
          (m0.slide.moves.vals.filter (fun v => e.holds v.target)).map (·.source)).foldl (fun (a : Module) h =>
        if (a.moveBar 3).isNone then a.startMove (.release id c.id) h 3
        else a.startMove (.release id c.id) h 1) m0).finishMoves).checkRelease id := by
  subst hid hm0
  have hany : (m.slide.extents.any fun x => x.id == u8 c.payload 0) = true :=
    List.any_eq_true.mpr ⟨e, List.mem_of_find?_eq_some hfind, by simpa using List.find?_some hfind⟩
  unfold slideSwapReleaseCmd
  rw [Module.checked_act (by simpa using hz) (by simpa using hany)]
  simp only [hfind, hidle, Bool.false_eq_true, if_false]

end

end

end Sys2Proof.Machine
end

section
open Sys2Proof Sys2Proof.Machine

/-- Settles O33: each outcome is one lemma about the meaning of its command; a placement in mode HINT and one in mode MOVE are
the branches of slidePlaceCmd_acts. -/
theorem slideCommandsPlaceAndRegister : Obligations.SlideCommandsPlaceAndRegister := by
  unfold Obligations.SlideCommandsPlaceAndRegister
  refine ⟨?_, ?_, ?_⟩
  · intro s src c k hfresh hz hz' hn hk hscope htier hfirst hcount hw hs hd hro es m1
    have hacts := fun hmode => slidePlaceCmd_acts rfl hk rfl rfl hz hz' hn hscope htier hmode hfirst hcount hw hs hd hro
    exact ⟨fun hmode => does_onCmd rfl hfresh ((hacts (.inl hmode)).trans (by rw [hmode]; rfl)),
      fun hmode hmail => does_onCmd rfl hfresh ((hacts (.inr ⟨hmode, hmail⟩)).trans (by rw [hmode]; rfl))⟩
  · intro s src c hfresh hz id base size hlim hbase hsize hpos hapart
    exact ⟨fun hnew => does_onCmd rfl hfresh (slideSwapRegisterCmd_adds rfl rfl rfl hz hlim hbase hsize hpos hapart hnew),
      fun htwice => does_onCmd rfl hfresh (slideSwapRegisterCmd_busy rfl rfl rfl hz hlim hbase hsize hpos hapart htwice)⟩
  · intro s src c hfresh hz
    exact ⟨fun hnone => does_onCmd rfl hfresh (slideSwapReleaseCmd_unknown rfl hz hnone),
      fun e hfind hidle => does_onCmd rfl hfresh (slideSwapReleaseCmd_starts rfl hz hfind hidle rfl)⟩

end

/-! ### Prefetch entries (R86 to R90) -/

section
namespace Sys2Proof.Machine
open Sys2Proof

/-- The counter that advances to an elapsed time has reached it. -/
theorem Module.le_advanceTo_mono (due : Nat) (m : Module) : due ≤ (m.advanceTo due).clk.mono := by
  by_cases h : m.clk.mono < due
  · exact (Module.advanceTo_due h).ge
  · exact (Nat.le_of_not_lt h).trans (m.advanceTo_mono due)

/-- The counter that advances to when it will show t shows t, or what it showed when it has passed t. -/
theorem Module.le_advanceTo_dueAt {t : Nat} (m : Module) (h : t < 2 ^ 64) : t ≤ (m.advanceTo (m.dueAt t)).clk.now := by
  by_cases hpast : t ≤ m.clk.now
  · have hnow : m.dueAt t = m.clk.mono := by simp [Module.dueAt, Nat.sub_eq_zero_of_le hpast]
    simpa [Module.advanceTo, hnow] using hpast
  · have hahead : m.clk.mono < m.dueAt t := by simp only [Module.dueAt]; omega
    have hd : m.clk.now + (m.dueAt t - m.clk.mono) = t := by simp only [Module.dueAt]; omega
    rw [Module.advanceTo, if_pos hahead]
    simp only [Clk.advance, hd, Nat.mod_eq_of_lt h, Nat.le_refl]

/-- The entries of the step of entry e that stand before the entry id in schedule order. -/
def Module.earlierEntries (m : Module) (id : Nat) (e : PfEntry) : List PfEntry :=
  (m.slide.entries.takeWhile (fun x => x.id != id)).filter (fun x => x.partition == e.partition && x.step == e.step)

section
variable {m : Module} {id : Nat} {e : PfEntry} (he : m.slide.entries.find? (fun x => x.id == id) = some e)
include he

/-- An entry is issued in its turn, once its fetches may be issued (R87). -/
theorem prefetchIssue_eq (hi : e.issued = false) (ha : e.arrived = false) :
    prefetchIssue id m =
      if (m.earlierEntries id e).all (fun x => x.issued || x.arrived) && m.mayIssue e then m.issueEntry e else m := by
  have hturn : (m.earlierEntries id e).any (fun x => !x.issued && !x.arrived) =
      !(m.earlierEntries id e).all (fun x => x.issued || x.arrived) := by
    simp only [List.not_all_eq_any_not, Bool.not_or]
  unfold Module.earlierEntries at hturn ⊢
  simp only [prefetchIssue, he, hi, ha, hturn, Bool.or_self, Bool.false_or, ← Bool.not_and,
    Bool.not_eq_true', ← Bool.not_eq_true, ite_not]

/-- A deadline that names an entry with its step finds it. -/
theorem Module.entryOf_ownStep : m.entryOf id e.step = some e := by
  simp [Module.entryOf, he]

/-- A deadline that names an entry with another step finds none (R85). -/
theorem Module.entryOf_otherStep {step : Nat} (hne : step ≠ e.step) : m.entryOf id step = none := by
  simp [Module.entryOf, he, Ne.symm hne]

/-- An entry that has not arrived when the counter passes its deadline misses (R89). -/
theorem prefetchDeadline_misses (ha : e.arrived = false) (hm : e.missed = false) (hpast : e.deadline < m.clk.now) :
    prefetchDeadline id e.step m = m.miss e := by
  simp [prefetchDeadline, Module.entryOf_ownStep he, ha, hm, Nat.not_le_of_gt hpast]

/-- A stall that has not been warned of is, and its event names the entry's request and how long it has lasted (R89). -/
theorem stallWarn_warns {t : Stall} (ht : m.slide.stalls.find? (fun x => x.entry == id) = some t) (hw : t.warned = false) :
    stallWarn id m =
      (({ m with slide := { m.slide with
        stalls := m.slide.stalls.map (fun (x : Stall) => if x.entry == id then { x with warned := true } else x) } } : Module).set
          Reg.SLIDE.STATUS_STALL_WARN 1).event 0x0302 e.partition 1 e.request (m.clk.mono - t.began) := by
  simp [stallWarn, ht, he, hw]

end

section
variable {m : Module} {e : PfEntry}

/-- A miss of a normal entry drops its sequence from the step (R89). -/
theorem Module.miss_normal (h : e.privileged = false) :
    m.miss e = (((m.updEntry e.id (fun x => { x with missed := true })).bump (missCause (m.missCauseOf e))).bump
      Reg.SLIDE.MISS_DROP_COUNT).leaveStep e.request := by
  simp [Module.miss, h]

/-- A miss of a privileged entry stalls its layer from now (R89). -/
theorem Module.miss_privileged_stalls (h : e.privileged = true) :
    (m.miss e).slide.stalls = m.slide.stalls ++ [⟨e.id, m.clk.mono, false⟩] := by
  simp [Module.miss, h, Module.updEntry]

/-- A miss of a privileged entry leaves every step as it is (R89). -/
theorem Module.miss_privileged_steps (h : e.privileged = true) : (m.miss e).steps = m.steps := by
  simp [Module.miss, h, Module.updEntry]

/-- An entry whose deadline comes within LOOKAHEAD_NS may be issued (R87). -/
theorem Module.mayIssue_near (h : e.deadline ≤ m.clk.now + m.get Reg.SLIDE.PF_WINDOW_LOOKAHEAD_NS) : m.mayIssue e = true := by
  simp [Module.mayIssue, h]

end

/-- STALL_WARN is due STALL_WARN_NS after the stall began (R89). -/
theorem exec_stallWarn (id : Nat) (s : State) : exec (.stallWarn id) s =
    runAt (fun m => ((m.slide.stalls.find? (fun t => t.entry == id)).map (fun t =>
      t.began + m.get Reg.SLIDE.MISS_CTRL_STALL_WARN_NS)).getD 0) (stallWarn id) s := rfl

/-- PREFETCH_DEADLINE is due when the counter has passed the deadline of the entry that it names (R86). -/
theorem exec_prefetchDeadline (id step : Nat) (s : State) : exec (.prefetchDeadline id step) s =
    runAt (fun m => ((m.entryOf id step).map (fun e => m.dueAt (e.deadline + 1))).getD 0) (prefetchDeadline id step) s := rfl

/-- A deadline that finds no entry changes nothing, the counter neither. -/
theorem prefetchDeadline_idle {id step : Nat} {s : State} (hl : s.m.live = true) (hnone : s.m.entryOf id step = none) :
    Idle (.prefetchDeadline id step) s := by
  rw [Idle, exec_prefetchDeadline, runAt_live hl]
  simp [hnone, Module.advanceTo, prefetchDeadline]

end Sys2Proof.Machine
end

section
open Sys2Proof Sys2Proof.Machine

/-- Settles O35: the issue of an entry has one condition (prefetchIssue_eq), the counter has passed the deadline at the instant
that PREFETCH_DEADLINE is due (le_advanceTo_dueAt), and each outcome of a miss and of a warning is one lemma. -/
theorem prefetchEntriesIssueAndMiss : Obligations.PrefetchEntriesIssueAndMiss := by
  unfold Obligations.PrefetchEntriesIssueAndMiss
  refine ⟨?_, ?_, ?_, fun m e hnear => Module.mayIssue_near hnear, ?_⟩
  · intro s id e hl he hi ha before
    have hissue := prefetchIssue_eq he hi ha
    refine ⟨fun hturn hmay => does_run rfl hl (hissue.trans (if_pos ?_)), fun hwait => does_run rfl hl (hissue.trans
      (if_neg ?_))⟩
    · exact Bool.and_eq_true_iff.mpr ⟨hturn, hmay⟩
    · exact ne_true_of_eq_false (Bool.and_eq_false_iff.mpr hwait)
  · intro s id e hl he ha hm hd
    refine ⟨doesAt_runAt (exec_prefetchDeadline id e.step s) hl ?_ (prefetchDeadline_misses (by simpa using he) ha hm ?_),
      fun step hne => prefetchDeadline_idle hl (Module.entryOf_otherStep he hne)⟩
    · simp [Module.entryOf_ownStep he, Module.dueAt]
    · exact s.m.le_advanceTo_dueAt hd
  · exact fun m e => ⟨Module.miss_normal, fun hp => ⟨Module.miss_privileged_stalls hp, Module.miss_privileged_steps hp⟩⟩
  · intro s id t e hl ht he hw
    refine ⟨_, (exec_stallWarn id s).trans (runAt_live hl), Module.advanceTo_mono _ _, ?_, ?_⟩
    · simpa [ht] using Module.le_advanceTo_mono (t.began + s.m.get Reg.SLIDE.MISS_CTRL_STALL_WARN_NS) s.m
    · dsimp only
      rw [stallWarn_warns (t := t) (e := e) (by simpa using he) (by simpa using ht) hw]
      simp

end

/-! ### Tiles that have been read, hints, the cascade to flash and host-tier time-outs (R75, R80, R95, R99, R578) -/

section
namespace Sys2Proof.Machine
open Sys2Proof

/-- Only what lies in host memory can have been written there by another than the module (R97). -/
theorem Module.hostTouched_otherTier (m : Module) {h : Nat} (f : Frame) (t : Nat) (ht : tierOf h ≠ 2) :
    m.hostTouched h f t = false := by
  simp [Module.hostTouched, ht]

section
variable {m : Module} {id corrected : Nat} {failed : Bool} {x : Xfer} (hx : m.slide.xfers.get id = some x)
include hx

theorem tileComplete_ungranted (hg : m.grantOf x = none) : tileComplete id corrected failed m = m := by
  simp [tileComplete, hx, hg]

/-- A tile for a core whose landing buffer is full waits (R90). -/
theorem tileComplete_full (hg : (m.grantOf x).isSome = true) (hcore : x.core < 64)
    (hfull : 96 ≤ (m.core x.core).landing.length) : tileComplete id corrected failed m = m.blockXfer id x := by
  have hgrant : (m.grantOf x).isNone = false := by simpa using hg
  simp [tileComplete, hx, hgrant, hcore, hfull]

/-- A tile for a move that passes its check is copied, and its transfer ends (R75). -/
theorem tileComplete_move {mv : Nat} {f : Frame} (hg : (m.grantOf x).isSome = true) (hwhy : x.why = .move mv)
    (hcore : 64 ≤ x.core) (hplace : x.place = none) (htier : tierOf x.source ≠ 2)
    (hf : (m.touch x.source).frame x.source = some f) (hgood : f.badIn (16384 * x.tile) 16384 = none) :
    tileComplete id corrected false m =
      (((((m.touch x.source).tickMove x.source x.tile).hbmArrivals).endXfer id).finishMoves).endRevives := by
  have hgrant : (m.grantOf x).isNone = false := by simpa using hg
  have hroom : ¬(x.core < 64 ∧ 96 ≤ (m.core x.core).landing.length) := fun h => Nat.not_lt_of_ge hcore h.1
  have hframe : (m.touch x.source).xferFrame x = some f := by simpa [Module.xferFrame, hplace] using hf
  have hhost := (m.touch x.source).hostTouched_otherTier f x.tile htier
  simp [tileComplete, hx, hgrant, hroom, hplace, hwhy, hframe, hhost, hgood, Option.filter]

end

section
variable {m : Module} {h : Hint} {rest : List Hint} (hh : m.slide.hints = h :: rest)
include hh

theorem hintMove_busy (hi : m.tierIdle h.tier = false) : hintMove m = m := by
  simp [hintMove, hh, hi]

/-- The hint of a capsule that is gone is forgotten (R80). -/
theorem hintMove_gone (hi : m.tierIdle h.tier = true) (hc : m.capsule h.capsule = none) :
    hintMove m = { m with slide := { m.slide with hints := rest } } := by
  have hgone : ({ m with slide := { m.slide with hints := rest } } : Module).capsule h.capsule = none := hc
  simp [hintMove, hh, hi, hgone]

/-- The oldest hint starts to move those of its frames that are unshared still (R80). -/
theorem hintMove_moves {c : Capsule} (hi : m.tierIdle h.tier = true) (hc : m.capsule h.capsule = some c)
    (hs : c.state = 1 ∨ c.state = 2 ∨ c.state = 4) (ho : m.owns c = true) :
    hintMove m = (h.entries.filterMap (fun i => if c.shared * c.layers ≤ i then c.map[i]? else none)).foldl
      (fun (a : Module) f => a.startMove .hint f h.tier) { m with slide := { m.slide with hints := rest } } := by
  have hfound : ({ m with slide := { m.slide with hints := rest } } : Module).capsule h.capsule = some c := hc
  have howns : ({ m with slide := { m.slide with hints := rest } } : Module).owns c = true := ho
  have hstate : (c.state == 3 || c.state == 5) = false := by rcases hs with h | h | h <;> simp [h]
  simp only [hintMove, hh, hi, hfound, howns, hstate, Bool.not_true, Bool.or_self, Bool.false_eq_true, if_false]

end

section
variable {m : Module}

theorem hostCascade_idle (h : m.slide.extents = [] ∨ m.get Reg.SLIDE.HOST_WATER_FREE_LOW ≤ m.tierFree 2) :
    hostCascade m = m := by
  rcases h with h | h <;> simp [hostCascade, h]

/-- Below FREE_LOW the least recently read frames of the host region start to move to flash (R95). -/
theorem hostCascade_moves (he : m.slide.extents ≠ []) (hlow : m.tierFree 2 < m.get Reg.SLIDE.HOST_WATER_FREE_LOW)
    (hflash : m.flag Reg.SLIDE.STATUS_FLASH_DEMOTE_OFF = false) :
    hostCascade m =
      ((sortBy (fun a b => decide (m.caps.lastRead.getD a 0 ≤ m.caps.lastRead.getD b 0))
          (m.caps.frames.keys.filter (fun h => tierOf h == 2 && !m.kept h &&
            m.slide.moves.vals.all (fun v => v.source != h)))).take
        (m.get Reg.SLIDE.HOST_WATER_FREE_TARGET -
          (m.tierFree 2 + (m.slide.moves.vals.filter (fun v => tierOf v.source == 2)).length))).foldl
        (fun (a : Module) h => a.startMove .cascade h 3) m := by
  have hregion : m.slide.extents.isEmpty = false := by simpa using he
  simp only [hostCascade, hregion, decide_eq_false (Nat.not_le_of_gt hlow), hflash, Bool.or_self, Bool.false_eq_true, if_false]

/-- A host-tier read that times out is repeated while fewer than RETRIES attempts have failed (R99). -/
theorem hostReadTimeout_repeats {id : Nat} {x : Xfer} (hx : m.slide.xfers.get id = some x) (ht : tierOf x.source = 2)
    (hr : x.tries < m.get Reg.SLIDE.HOST_CTRL_RETRIES) :
    hostReadTimeout id m = { m with slide := { m.slide with
      xfers := m.slide.xfers.put id { x with tries := x.tries + 1, issued := m.clk.mono } } } := by
  simp [hostReadTimeout, hx, ht, hr]

end

/-- HOST_TIER_READ_TIMEOUT is due TIMEOUT_NS after the read was issued (R99). -/
theorem exec_hostTierReadTimeout (id : Nat) (s : State) : exec (.hostTierReadTimeout id) s =
    runAt (fun m => ((m.slide.xfers.get id).map (fun x => x.issued + m.get Reg.SLIDE.HOST_CTRL_TIMEOUT_NS)).getD 0)
      (hostReadTimeout id) s := rfl

end Sys2Proof.Machine
end

section
open Sys2Proof Sys2Proof.Machine

/-- Settles O36: each outcome of a tile that has been read, of a hint, of the cascade and of a host-tier time-out is one lemma
about the meaning of its row. -/
theorem tilesLandAndMovesEnd : Obligations.TilesLandAndMovesEnd := by
  unfold Obligations.TilesLandAndMovesEnd
  refine ⟨?_, ?_, ?_, ?_⟩
  · intro s id corrected failed x hl hx
    refine ⟨fun hg => does_run rfl hl (tileComplete_ungranted hx hg),
      fun hg hcore hfull => does_run rfl hl (tileComplete_full hx hg hcore hfull), ?_⟩
    intro mv f hg hwhy hcore hplace htier hpass hf hgood
    subst hpass
    exact does_run rfl hl (tileComplete_move hx hg hwhy hcore hplace htier hf hgood)
  · intro s h rest hl hh
    exact ⟨fun hi => does_run rfl hl (hintMove_busy hh hi), fun hi hc => does_run rfl hl (hintMove_gone hh hi hc),
      fun c hi hc hs ho => does_run rfl hl (hintMove_moves hh hi hc hs ho)⟩
  · intro s hl
    exact ⟨fun hidle => does_run rfl hl (hostCascade_idle hidle),
      fun he hlow hflash => does_run rfl hl (hostCascade_moves he hlow hflash)⟩
  · intro s id x hl hx ht hr
    exact doesAt_runAt (exec_hostTierReadTimeout id s) hl (by simp [hx])
      (hostReadTimeout_repeats (by simpa using hx) ht (by simpa using hr))

end

/-! ### Queries, batches and walks of the attention cores (R107, R112, R121 to R123) -/

section
namespace Sys2Proof.Machine
open Sys2Proof

section
variable {m : Module} {k mode : Nat} (hn : (m.core k).nextMode = some mode)
include hn

/-- A core without work takes the mode that it is marked for (R123). -/
theorem coreModeDrained_drained (hd : m.drained k = true) : coreModeDrained k m = (m.setMode k mode).finishAssigns := by
  simp [coreModeDrained, hn, hd]

theorem coreModeDrained_working (hd : m.drained k = false) : coreModeDrained k m = m := by
  simp [coreModeDrained, hn, hd]

end

section
variable {m : Module} {e : Nat} {g : ModelMsg} {q : QueuePair} (hq : m.bell.qps.get e = some q) (he : q.error = false)
include hq he

/-- A query that fails its check value matches nothing (R123). -/
theorem queryMsg_badCheck (hc : g.check ≠ modelCrc g) : queryMsg e g m = m.orphan := by
  simp [queryMsg, hq, he, hc]

section
variable (hkind : g.kind = 1) (hlen : g.bytes = g.body.length) (hmax : 48 + g.body.length ≤ 262144)
  (hc : g.check = modelCrc g)
include hkind hlen hmax hc

/-- A sound query goes to the expected query or the command that it matches (R122). -/
theorem queryMsg_matched {m1 : Module} (hm : m.matchQuery g = some m1) : queryMsg e g m = m1 := by
  simp [queryMsg, hq, he, hkind, hlen, Nat.not_lt_of_ge hmax, ← hc, hm]

/-- A sound query that matches nothing is kept for WAIT_NS (R123). -/
theorem queryMsg_kept (hm : m.matchQuery g = none) :
    queryMsg e g m = { m with attn := { m.attn with
      orphans := m.attn.orphans ++ [(m.clk.mono + m.get Reg.ATTN.QUERY_CTRL_WAIT_NS, g)] } } := by
  simp [queryMsg, hq, he, hkind, hlen, Nat.not_lt_of_ge hmax, ← hc, hm]

end

end

/-! #### Batches and walks -/

@[simp] theorem Module.advanceTo_core (due k : Nat) (m : Module) : (m.advanceTo due).core k = m.core k := by
  simp [Module.core]

@[simp] theorem openBatch_advanceTo (due k : Nat) (m : Module) : openBatch k (m.advanceTo due) = openBatch k m := by
  simp [openBatch]

/-- Whether a batch may start does not depend on the time. -/
@[simp] theorem Module.advanceTo_mayStart (due k : Nat) (b : Batch) (m : Module) :
    (m.advanceTo due).mayStart k b = m.mayStart k b := by
  simp [Module.mayStart, Module.layerStalled]

theorem batchExpiry_open {m : Module} {k : Nat} {b : Batch} (hb : openBatch k m = some b) :
    batchExpiry k m = if m.mayStart k b then m.startBatch k b else m := by
  simp [batchExpiry, hb]

/-- BATCH_WAIT_EXPIRY is due WAIT_NS after the open batch was opened (R112). -/
theorem exec_batchWaitExpiry {k : Nat} (s : State) (hk : k < 64) : exec (.batchWaitExpiry k) s =
    runAt (fun m => ((openBatch k m).map (fun b => b.opened + m.get Reg.ATTN.BATCH_CTRL_WAIT_NS)).getD 0) (batchExpiry k) s :=
  if_pos hk

section
variable {m : Module} {k : Nat} (hlive : ∀ f ∈ (m.core k).fused, f.status = none) (hslice : m.inSlice k = false)
include hlive hslice

/-- With nothing cancelled and no program's slice running, a block boundary goes to the next walk at once, and takes one of the
blocks that may run by a free choice (R121, assumption 192). -/
theorem blockBoundary_eq :
    blockBoundary k m =
      (m.nextWalk k).elim (m.sendDone k) (fun f =>
        let r := m.choose (m.readyBlocks k f).length
        let b := nthD (m.readyBlocks k f) r.1 (.tiles [])
        (b.tileList.find? (fun p => (r.2.tileSlots k f.desc p.1 p.2).isNone)).elim
          (((r.2.groupBlock k b f).useTiles k f.desc b.tileList).sendDone k)
          (fun p => r.2.walkDamaged k f p.1 p.2)) := by
  have hstopped : (m.core k).fused.filterMap (fun f => f.status.map (fun st => (f.id, st))) = [] :=
    List.filterMap_eq_nil_iff.mpr fun f hf => by simp [hlive f hf]
  unfold blockBoundary
  simp only [hstopped, List.foldl_nil, hslice, Bool.false_eq_true, if_false]
  cases m.nextWalk k with
  | none => rfl
  | some f =>
    simp only [Option.elim_some]
    split <;> next h => simp [h]

theorem blockBoundary_noWalk (hn : m.nextWalk k = none) : blockBoundary k m = m.sendDone k := by
  simp [blockBoundary_eq hlive hslice, hn]

section
variable {f : FCmd} {i : Nat} {m1 : Module} {blk : KeyBlock} (hn : m.nextWalk k = some f)
  (hchoice : m.choose (m.readyBlocks k f).length = (i, m1)) (hblk : (m.readyBlocks k f)[i]? = some blk)
include hn hchoice hblk

/-- A block whose tiles all pass their check runs on its walk, and its tiles are used up (R121). -/
theorem blockBoundary_runs (ht : ∀ p ∈ blk.tileList, (m1.tileSlots k f.desc p.1 p.2).isSome = true) :
    blockBoundary k m = ((m1.groupBlock k blk f).useTiles k f.desc blk.tileList).sendDone k := by
  have hgood : blk.tileList.find? (fun p => (m1.tileSlots k f.desc p.1 p.2).isNone) = none :=
    List.find?_eq_none.mpr fun p hp => by simpa using Option.isSome_iff_ne_none.mp (ht p hp)
  simp [blockBoundary_eq hlive hslice, hn, hchoice, nthD, hblk, hgood]

/-- A block whose first tile fails its check ends the commands of its walk (R62, R121). -/
theorem blockBoundary_damaged {p t : Nat} {rest : List (Nat × Nat)} (hl : blk.tileList = (p, t) :: rest)
    (hbad : m1.tileSlots k f.desc p t = none) : blockBoundary k m = m1.walkDamaged k f p t := by
  simp [blockBoundary_eq hlive hslice, hn, hchoice, nthD, hblk, hl, hbad]

end

end

/-! #### Time-outs -/

/-- The counter stands at an instant that has passed. -/
theorem Module.advanceTo_past {due : Nat} {m : Module} (h : due ≤ m.clk.mono) : m.advanceTo due = m := by
  rw [Module.advanceTo, if_neg (Nat.not_lt_of_ge h)]

/-- A timed event whose instant has passed acts without moving the counter. -/
theorem does_of_doesAt {i : Instr} {s : State} {due : Nat} {f : Module → Module} (h : DoesAt i s due f)
    (hpast : due ≤ s.m.clk.mono) : Does i s (f s.m) := by
  rwa [DoesAt, Module.advanceTo_past hpast] at h

/-- A command whose wait has ended ends with TIMEOUT, and an expected query takes its sequence out of the step (R123). -/
def Module.endLate (m : Module) : Late → Module
  | .command c id => m.endFused c id .timeout
  | .expected e => (m.bump Reg.ATTN.QUERY_TIMEOUTS_COUNT).leaveStep e.request

theorem queryTimeout_ends {m : Module} {t : Nat} {x : Late} (h : firstLate m = some (t, x)) (ht : t ≤ m.clk.mono) :
    queryTimeout m = ((m.endLate x).set Reg.ATTN.STATUS_QUERY_TIMEOUT 1).blockEvent 4 := by
  simp only [queryTimeout, h, if_neg (Nat.not_lt_of_ge ht)]
  cases x <;> rfl

/-- QUERY_TIMEOUT is due when the first wait ends (R123). -/
theorem exec_queryTimeout (s : State) : exec .queryTimeout s =
    runAt (fun m => ((firstLate m).map (·.1)).getD 0) queryTimeout s := rfl

/-- QUERY_TIMEOUT acts at once when the wait that ends first has ended. -/
theorem does_queryTimeout {s : State} {t : Nat} {x : Late} (hl : s.m.live = true) (h : firstLate s.m = some (t, x))
    (ht : t ≤ s.m.clk.mono) :
    Does .queryTimeout s (((s.m.endLate x).set Reg.ATTN.STATUS_QUERY_TIMEOUT 1).blockEvent 4) := by
  have hat : DoesAt .queryTimeout s t queryTimeout := doesAt_runAt (exec_queryTimeout s) hl (by simp [h]) rfl
  rw [← queryTimeout_ends h ht]
  exact does_of_doesAt hat ht

@[simp] theorem firstOrphan_advanceTo (due : Nat) (m : Module) : firstOrphan (m.advanceTo due) = firstOrphan m := by
  simp [firstOrphan]

theorem orphanExpiry_expires {m : Module} {o : Nat × ModelMsg} (h : firstOrphan m = some o) (ho : o.1 ≤ m.clk.mono) :
    orphanExpiry m = ({ m with attn := { m.attn with orphans := m.attn.orphans.erase o } } : Module).orphan := by
  simp [orphanExpiry, h, ho]

/-- ORPHAN_QUERY_EXPIRY is due when the wait of the earliest frame ends (R123). -/
theorem exec_orphanQueryExpiry (s : State) : exec .orphanQueryExpiry s =
    runAt (fun m => ((firstOrphan m).map (·.1)).getD 0) orphanExpiry s := rfl

/-! #### Slices of a program in SHARED mode -/

/-- When the slice of the program on core k ends. -/
def sliceDue (k : Nat) (m : Module) : Nat :=
  match (m.core k).run with
  | some r => if (m.core k).mode == 2 then r.sliceStart + m.get Reg.ATTN.PROG_CTRL_SLICE_NS else 0
  | none => 0

/-- A slice that is over makes way for the fused commands of its core. -/
def sliceExpiry (k : Nat) (m : Module) : Module :=
  if (m.core k).mode == 2 && !m.inSlice k then m.newSlice k else m

theorem exec_programSliceExpiry {k : Nat} (s : State) (hk : k < 64) :
    exec (.programSliceExpiry k) s = runAt (sliceDue k) (sliceExpiry k) s := if_pos hk

section
variable {m : Module} {k : Nat} {r : CoreRun} (hr : (m.core k).run = some r) (hmode : (m.core k).mode = 2)
include hr hmode

theorem sliceDue_shared : sliceDue k m = r.sliceStart + m.get Reg.ATTN.PROG_CTRL_SLICE_NS := by
  simp [sliceDue, hr, hmode]

theorem sliceExpiry_over (hover : r.sliceStart + m.get Reg.ATTN.PROG_CTRL_SLICE_NS ≤ m.clk.mono) :
    sliceExpiry k m = m.newSlice k := by
  have hslice : m.inSlice k = false := by simp [Module.inSlice, hr, Nat.not_lt_of_ge hover]
  simp [sliceExpiry, hmode, hslice]

end

end Sys2Proof.Machine
end

section
open Sys2Proof Sys2Proof.Machine

/-- Settles O38: each outcome is one lemma about the meaning of its row; at the instant that a timed row is due its wait or its
slice is over (le_advanceTo_mono), and the counter's advance leaves the rest of what it depends on. -/
theorem walksAndQueriesProceed : Obligations.WalksAndQueriesProceed := by
  unfold Obligations.WalksAndQueriesProceed
  refine ⟨?_, ?_, ?_, ?_, ?_, ?_, ?_⟩
  · intro s k mode hl hk hn
    exact ⟨fun hd => does_runIf rfl (decide_eq_true hk) hl (coreModeDrained_drained hn hd),
      fun hd => does_runIf rfl (decide_eq_true hk) hl (coreModeDrained_working hn hd)⟩
  · intro s e g q hl hq he
    refine ⟨fun hc => does_run rfl hl (queryMsg_badCheck hq he hc), fun hkind hlen hmax hc => ?_⟩
    exact ⟨fun m1 hm => does_run rfl hl (queryMsg_matched hq he hkind hlen hmax hc hm),
      fun hm => does_run rfl hl (queryMsg_kept hq he hkind hlen hmax hc hm)⟩
  · intro s k b hl hk hb
    refine ⟨fun hmay => ?_, fun hmay => ?_⟩
    all_goals
      refine doesAt_runAt (exec_batchWaitExpiry s hk) hl (by simp [hb]) ?_
      rw [batchExpiry_open (by simpa using hb), Module.advanceTo_mayStart, hmay]
      rfl
  · intro s k hl hk hlive hslice
    refine ⟨fun hn => does_runIf rfl (decide_eq_true hk) hl (blockBoundary_noWalk hlive hslice hn),
      fun f i m1 blk hn hchoice hblk => ⟨fun ht => ?_, fun p t rest htiles hbad => ?_⟩⟩
    · exact does_runIf rfl (decide_eq_true hk) hl (blockBoundary_runs hlive hslice hn hchoice hblk ht)
    · exact does_runIf rfl (decide_eq_true hk) hl (blockBoundary_damaged hlive hslice hn hchoice hblk htiles hbad)
  · intro s t x hl hfirst ht
    have hends := does_queryTimeout hl hfirst ht
    cases x with
    | command c id => exact hends
    | expected e => exact hends
  · intro s o hl ho
    refine doesAt_runAt (exec_orphanQueryExpiry s) hl (by simp [ho]) ?_
    exact orphanExpiry_expires (by simpa using ho) (s.m.le_advanceTo_mono o.1)
  · intro s k r hl hk hr hmode
    refine doesAt_runAt (exec_programSliceExpiry s hk) hl (sliceDue_shared hr hmode) ?_
    refine sliceExpiry_over (r := r) (by simpa using hr) (by simpa using hmode) ?_
    rw [Module.advanceTo_get]
    exact s.m.le_advanceTo_mono _

end

/-! ### The commands of the attention cores (R109, R123, R126 to R132) -/

section
namespace Sys2Proof.Machine
open Sys2Proof

@[simp] theorem Module.core_updCore_same (k : Nat) (f : Core → Core) (m : Module) :
    (m.updCore k f).core k = f (m.core k) := by
  simp [Module.core, Module.updCore, KMap.getD, KMap.get_put_same]

/-- What becomes of a core depends on the core alone. -/
theorem Module.updCore_congr {k : Nat} {f g : Core → Core} {m : Module} (h : f (m.core k) = g (m.core k)) :
    m.updCore k f = m.updCore k g := by
  have hcores : m.attn.cores.put k (f (m.core k)) = m.attn.cores.put k (g (m.core k)) := by rw [h]
  exact congrArg (fun cores => ({ m with attn := { m.attn with cores := cores } } : Module)) hcores

/-- A command that reads or writes host memory goes on while the link is up and the module is not in D3hot. -/
theorem Module.withHost_up {c : RunCmd} {act : Module → Module} {m : Module} (hup : m.host.linkUp = true)
    (hd0 : m.host.d3hot = false) : m.withHost c act = act m := by
  simp [Module.withHost, hup, hd0]

/-! #### Models (R109, R126, R127) -/

/-- The model that a payload of ATTN_MODEL_REGISTER describes, without its windows. -/
def Model.ofPayload (b : Bytes) : Model :=
  ⟨u8 b 2, u8 b 3, u16 b 4, u8 b 6, u8 b 7, u16 b 8, u16 b 0x0A, u8 b 0x0C, u8 b 0x0D, u64 b 0x10, []⟩

/-- The fields of a model are in range, as R109 gives them. -/
structure Model.InRange (x : Model) : Prop where
  layers : 1 ≤ x.layers ∧ x.layers ≤ 127
  heads : 1 ≤ x.heads ∧ x.heads ≤ 128
  latentDim : (32 ≤ x.latentDim ∧ x.latentDim ≤ 384) ∧ x.latentDim % 32 = 0
  ropeDim : x.ropeDim = 0 ∨ x.ropeDim = 32 ∨ x.ropeDim = 64
  latFmt : x.latFmt = 1 ∨ x.latFmt = 2
  qkDim : (32 ≤ x.qkDim ∧ x.qkDim ≤ 256) ∧ x.qkDim % 32 = 0
  vDim : (32 ≤ x.vDim ∧ x.vDim ≤ 256) ∧ x.vDim % 32 = 0
  slot : x.ok = true
  upFmt : x.upFmt = 1 ∨ x.upFmt = 2
  upAddr : x.upAddr % 4096 = 0

section
variable {c : RunCmd} {m : Module}

/-- A model in range whose ID is free and whose up-projections its partition may read is stored, with windows of 0 where the
payload names no window array (R126). -/
theorem modelRegisterCmd_stores {id : Nat} {x : Model} (hid : id = u16 c.payload 0) (hx : x = Model.ofPayload c.payload)
    (hz : allZero c.payload 0x0E 2 = true) (hlim : id < 64) (hnew : m.attn.models.has id = false) (hr : x.InRange)
    (hp : m.present x.partition = true) (hmay : m.engineMay x.partition 0 x.upAddr x.upTotal = true)
    (hwin : u64 c.payload 0x18 = 0) :
    modelRegisterCmd c m =
      (({ m with attn := { m.attn with
          models := m.attn.models.put id { x with windows := List.replicate x.layers 0 } } } : Module).measure 4 id 0
        x.partition (m.hbm.rdN x.upAddr x.upTotal)).ok c [] := by
  unfold modelRegisterCmd
  extract_lets b idField y win
  obtain rfl : y = x := hx.symm
  clear_value y
  subst hid
  rw [Module.checked_act (by simpa using hz)]
  · rw [if_pos (beq_iff_eq.mpr hwin)]
  · obtain ⟨hlayers, hheads, hlat, hrope, hfmt, hqk, hv, hslot, hup, haddr⟩ := hr
    simp [b, idField, win, hlim, hnew, hlayers, hheads, hlat, or_assoc, hrope, hfmt, hqk, hv, hslot, hup, haddr,
      Module.partOk, hp, hmay, hwin]

section
variable (hz : allZero c.payload 2 6 = true) (hhas : m.attn.models.has (u16 c.payload 0) = true)
include hz hhas

theorem modelReleaseCmd_busy (hused : m.modelUsed (u16 c.payload 0) = true) : modelReleaseCmd c m = m.fail c .busy := by
  unfold modelReleaseCmd
  exact Module.checked_fail (v := stop .busy) (by simpa using hz) (by simp [firstFail, hhas, hused])

theorem modelReleaseCmd_removes (hidle : m.modelUsed (u16 c.payload 0) = false) :
    modelReleaseCmd c m =
      (({ m with attn := { m.attn with models := m.attn.models.del (u16 c.payload 0) } } : Module).unmeasure 4
        (u16 c.payload 0) (fun _ => false)).ok c [] := by
  unfold modelReleaseCmd
  exact Module.checked_act (by simpa using hz) (by simp [hhas, hidle])

end

/-! #### ATTN_SUBMIT (R128) -/

section
variable {n p addr sts : Nat} (haddr : addr = u64 c.payload 0) (hn : n = u32 c.payload 8) (hp : p = u8 c.payload 0x0C)
  (hsts : sts = u64 c.payload 0x10) (hz : allZero c.payload 0x0D 3 = true) (halign : addr % 64 = 0) (hlo : 1 ≤ n)
  (hhi : n ≤ 4096) (hpart : m.present p = true)
include haddr hn hp hz halign hlo hhi hpart

theorem submitCmd_manyCores (hcores : 8 < m.coreCount p) : submitCmd c m = m.fail c .denied := by
  subst haddr hn hp
  refine Module.checked_fail (v := stop .denied) (by simpa using hz) ?_
  simp [firstFail, halign, hlo, hhi, Module.partOk, hpart, Nat.not_le_of_gt hcores]

include hsts in
/-- A batch whose checks hold waits for its descriptors, which go to their cores or end with their statuses in order. -/
theorem submitCmd_queues (hcores : m.coreCount p ≤ 8) (hread : m.cmdMay c p addr (64 * n) false = true)
    (hwrite : m.cmdMay c p sts (2 * n) true = true) (hup : m.host.linkUp = true) (hd0 : m.host.d3hot = false) :
    submitCmd c m =
      ((List.range n).foldl
        (fun (a : Module) i => a.submitOne c.id p i (slice (m.cmdRead c addr (64 * n)) (64 * i) 64))
        (({ m with attn := { m.attn with submits := m.attn.submits.put c.id ⟨sts, n, []⟩ } } : Module).await c
          [])).adoptOrphans := by
  subst haddr hn hp hsts
  unfold submitCmd
  rw [Module.checked_act (by simpa using hz), Module.withHost_up hup hd0]
  simp [halign, hlo, hhi, Module.partOk, hpart, hcores, hread, hwrite]

end

/-! #### Core programs (R129 to R131) -/

/-- An image whose checks hold takes the lowest free handle, where one of the 1,024 is free (R129). -/
theorem programLoadCmd_acts {addr len n : Nat} (haddr : addr = u64 c.payload 0) (hlen : len = u32 c.payload 8)
    (hn : n = m.hbm.num addr 4) (halign : addr % 4096 = 0) (hend : addr + len ≤ hbmSize) (hops : 64 + 32 * n ≤ len)
    (hz : allZero (m.hbm.rdN (addr + 12) 52) 0 52 = true) (hentry : m.hbm.num (addr + 8) 4 < n)
    (hknown : ∀ i < n, opReserved (m.hbm.rdN (addr + 64 + 32 * i) 32) = false) :
    programLoadCmd c m =
      (m.attn.programs.lowestFree 0 1024).elim (m.fail c .noSpace) (fun h =>
        (({ m with attn := { m.attn with
            programs := m.attn.programs.put h ⟨addr, len, n, m.hbm.num (addr + 4) 4, m.hbm.num (addr + 8) 4⟩ } } :
          Module).measure 9 h 0 0xFF (m.hbm.rdN addr len)).ok c (leBytes 2 h)) := by
  subst haddr hlen hn
  unfold programLoadCmd
  rw [Module.checked_act (List.forall_mem_nil _)]
  · dsimp only
    cases m.attn.programs.lowestFree 0 1024 <;> rfl
  · have hmin : 64 ≤ u32 c.payload 8 := (Nat.le_add_right _ _).trans hops
    simpa [halign, hend, hmin, hops, hz, hentry] using hknown

/-- Core k can take a launch of the program g in partition p (R130). -/
structure Module.TakesLaunch (m : Module) (g : CoreProg) (p k : Nat) : Prop where
  part : m.corePart k = some p
  mode : (m.core k).mode = 2 ∨ (m.core k).mode = 3
  settled : (m.core k).nextMode = none
  room : (m.core k).progQueue.length < 16
  sram : g.sram ≤ m.sramSpace k

/-- Cores of one partition agree with the first of them, which stands in it. -/
theorem bind_head?_eq {f : Nat → Option Nat} {p : Nat} {l : List Nat} (h : ∀ k ∈ l, f k = some p) (hne : l ≠ []) :
    l.head?.bind f = some p := by
  cases l with
  | nil => exact absurd rfl hne
  | cons k ks => exact h k List.mem_cons_self

/-- A launch whose checks hold stands in the queue of each core of the mask (R130). -/
theorem programStartCmd_queues {p done base size oi : Nat} {g : CoreProg} {o : LigObj} (hz : allZero c.payload 0x0A 2 = true)
    (hmask : u64 c.payload 0 ≠ 0) (hg : m.attn.programs.get (u16 c.payload 8) = some g) (hdone : done = u32 c.payload 0x0C)
    (hobj : m.ligFind done = some (oi, o)) (hkind : o.kind = 3) (hown : o.partition = p) (hbase : base = u64 c.payload 0x10)
    (hsize : size = u64 c.payload 0x18) (halign : base % 4096 = 0 ∧ size % 4096 = 0)
    (hcores : ∀ k ∈ setBitsOf 64 (u64 c.payload 0), m.TakesLaunch g p k) (hmay : m.engineMay p 0 base size = true)
    (hsome : setBitsOf 64 (u64 c.payload 0) ≠ []) :
    programStartCmd c m =
      ((setBitsOf 64 (u64 c.payload 0)).foldl
        (fun (a : Module) k => (a.updCore k (fun x => { x with
          progQueue := x.progQueue ++ [⟨m.attn.nextLaunch, u16 c.payload 8, base, size⟩] })).startNext k)
        { m with attn := { m.attn with
          nextLaunch := m.attn.nextLaunch + 1,
          launches := m.attn.launches.put m.attn.nextLaunch
            ⟨(setBitsOf 64 (u64 c.payload 0)).length, done⟩ } }).ok c [] := by
  subst hdone hbase hsize hown
  have hpart := bind_head?_eq (fun k hk => (hcores k hk).part) hsome
  unfold programStartCmd
  rw [Module.checked_act (by simpa using hz)]
  simp only [List.forall_mem_cons, List.not_mem_nil, false_imp_iff, implies_true, and_true, hpart, hg, hobj, List.all_eq_true]
  refine ⟨by simpa using hmask, rfl, by simp [hkind], by simp [halign], by simp [halign], ?_, fun k hk => ?_, by simp,
    hmay, fun k hk => decide_eq_true (hcores k hk).room, fun k hk => decide_eq_true (hcores k hk).sram⟩
  · simpa using fun k hk => (hcores k hk).part
  · rcases (hcores k hk).mode with h | h <;> simp [h, (hcores k hk).settled]

theorem programStopCmd_tells (hmask : u64 c.payload 0 ≠ 0) :
    programStopCmd c m =
      ((setBitsOf 64 (u64 c.payload 0)).foldl (fun (a : Module) k => a.tellStop k) m).ok c [] := by
  unfold programStopCmd
  exact Module.checked_act (List.forall_mem_nil _) (by simp [hmask])

end

section
variable {m : Module} {k : Nat} {r : CoreRun}

/-- A program that is to stop does so at once unless it waits (R125, R131). -/
theorem Module.stopDue_run {code : Nat} (hr : (m.core k).run = some r) (hs : r.stop = some code) :
    m.stopDue k = if r.waiting then m else m.progFault k code := by
  simp [Module.stopDue, hr, hs]

/-- A running program that is not told to stop yet is told so, and stops at once unless it waits (R131). -/
theorem Module.tellStop_run (hr : (m.core k).run = some r) (hs : r.stop = none) :
    m.tellStop k =
      if r.waiting then m.updCore k (fun x => { x with run := some { r with stop := some 8 } })
      else (m.updCore k (fun x => { x with run := some { r with stop := some 8 } })).progFault k 8 := by
  have htold : m.updCore k (fun x => { x with
      run := x.run.map (fun r => if r.stop.isSome then r else { r with stop := some 8 }) }) =
        m.updCore k (fun x => { x with run := some { r with stop := some 8 } }) :=
    Module.updCore_congr (by simp [hr, hs])
  rw [Module.tellStop, htold]
  exact Module.stopDue_run (r := { r with stop := some 8 }) (by simp) rfl

end

/-! #### ATTN_CORE_ASSIGN (R123, R132) -/

/-- An assignment of cores of one partition changes those without work, marks the others, and waits for these (R132). -/
theorem coreAssignCmd_assigns {c : RunCmd} {m : Module} {p : Nat} (hz : allZero c.payload 9 7 = true)
    (hmask : u64 c.payload 0 ≠ 0) (hmode : u8 c.payload 8 ≤ 3)
    (hcores : ∀ k ∈ setBitsOf 64 (u64 c.payload 0), m.corePart k = some p) :
    coreAssignCmd c m =
      (((setBitsOf 64 (u64 c.payload 0)).foldl
        (fun (a : Module) k => if a.drained k then a.setMode k (u8 c.payload 8)
          else a.updCore k (fun x => { x with nextMode := some (u8 c.payload 8) })) m).await c
            [u64 c.payload 0]).finishAssigns := by
  unfold coreAssignCmd
  rw [Module.checked_act (by simpa using hz)]
  simp only [List.forall_mem_cons, List.not_mem_nil, false_imp_iff, implies_true, and_true, List.all_eq_true,
    Bool.and_eq_true]
  refine ⟨⟨by simpa using hmask, fun k hk => by simp [hcores k hk]⟩, decide_eq_true hmode, fun k hk => ?_⟩
  simp [hcores k hk, bind_head?_eq hcores (List.ne_nil_of_mem hk)]

end Sys2Proof.Machine
end

section
open Sys2Proof Sys2Proof.Machine

/-- Settles O37: each command whose checks hold is one lemma about its meaning, and a program that is told to stop is
tellStop_run. -/
theorem attentionCommandsAct : Obligations.AttentionCommandsAct := by
  unfold Obligations.AttentionCommandsAct
  refine ⟨?_, ?_, ?_, ?_, ?_, ?_, ?_, ?_⟩
  · intro s src c id x hfresh hz hid hlim hnew hx hl hl' hh hh' hd hd' hd32 hrope hfmt hq hq' hq32 hv hv' hv32 hslot hup hp
      haddr hmay hwin
    have hrange : x.InRange := ⟨⟨hl, hl'⟩, ⟨hh, hh'⟩, ⟨⟨hd, hd'⟩, hd32⟩, hrope, hfmt, ⟨⟨hq, hq'⟩, hq32⟩, ⟨⟨hv, hv'⟩, hv32⟩,
      hslot, hup, haddr⟩
    exact does_onCmd rfl hfresh (modelRegisterCmd_stores hid hx hz hlim hnew hrange hp hmay hwin)
  · intro s src c hfresh hz hhas
    exact ⟨fun hused => does_onCmd rfl hfresh (modelReleaseCmd_busy hz hhas hused),
      fun hidle => does_onCmd rfl hfresh (modelReleaseCmd_removes hz hhas hidle)⟩
  · intro s src n p addr sts c hfresh hz haddr hn hp hsts halign hlo hhi hpart
    exact ⟨fun hmany => does_onCmd rfl hfresh (submitCmd_manyCores haddr hn hp hz halign hlo hhi hpart hmany),
      fun hfew hread hwrite hup hd0 => does_onCmd rfl hfresh
        (submitCmd_queues haddr hn hp hsts hz halign hlo hhi hpart hfew hread hwrite hup hd0)⟩
  · intro s src c addr len n hfresh haddr hlen hn halign hend hops hz hentry hknown
    have hacts := programLoadCmd_acts haddr hlen hn halign hend hops hz hentry hknown
    refine ⟨fun hfull => does_onCmd rfl hfresh (hacts.trans (by rw [hfull]; rfl)), fun h g hfree hg => ?_⟩
    subst hg
    exact does_onCmd rfl hfresh (hacts.trans (by rw [hfree]; rfl))
  · intro s src c p done base size oi g o hfresh hz hmask hg hdone hobj hkind hown hbase hsize hbalign hsalign hcores hmay
      hsome
    have htake : ∀ k ∈ setBitsOf 64 (u64 c.payload 0), s.m.TakesLaunch g p k := fun k hk => by
      obtain ⟨hpart, hmode, hsettled, hroom, hsram⟩ := hcores k hk
      exact ⟨hpart, hmode, hsettled, hroom, hsram⟩
    exact does_onCmd rfl hfresh
      (programStartCmd_queues hz hmask hg hdone hobj hkind hown hbase hsize ⟨hbalign, hsalign⟩ htake hmay hsome)
  · exact fun s src c hfresh hmask => does_onCmd rfl hfresh (programStopCmd_tells hmask)
  · intro m k r hr hs
    have htold := Module.tellStop_run hr hs
    exact ⟨fun hwait => htold.trans (if_pos hwait), fun hgo => htold.trans (if_neg (ne_true_of_eq_false hgo))⟩
  · exact fun s src c p hfresh hz hmask hmode hcores => does_onCmd rfl hfresh (coreAssignCmd_assigns hz hmask hmode hcores)

end

/-! ### The operations of core programs (R124, R125, R131, R142, R144, R388) -/

section
namespace Sys2Proof.Machine
open Sys2Proof

/-- An operation's row makes of the module what its meaning makes of it on a core that runs a program. -/
theorem does_coreRow {i : Instr} {s : State} {c op : Nat} {r : CoreRun} {b : Bytes} {f : Module → Module} {n : Module}
    (hi : exec i s = runIf (decide (c < 64)) f s) (h : CoreOp s c op r b) (hn : f s.m = n) : Does i s n := by
  obtain ⟨hl, hc, -⟩ := h
  exact does_runIf hi (decide_eq_true hc) hl hn

section
variable {s : State} {c op : Nat} {r : CoreRun} {b : Bytes} {f : CoreRun → Bytes → Module → Module}

/-- A row acts on the next operation of its core's program when that has the row's opcode (R124). -/
theorem coreOp_runs (h : CoreOp s c op r b) : coreOp op f c s.m = f r b s.m := by
  obtain ⟨-, -, hr, hw, hs, hsus, hy, hop, rfl, hres, hcode⟩ := h
  simp [coreOp, hr, hw, hs, hsus, hy, Nat.not_le_of_gt hop, hres, hcode]

/-- A row stops a program that is to stop and does not wait (R131). -/
theorem coreOp_stops {m : Module} {code : Nat} (hr : (m.core c).run = some r) (hw : r.waiting = false)
    (hs : r.stop = some code) : coreOp op f c m = m.progFault c code := by
  simp [coreOp, hr, hw, hs, Module.stopDue_run hr hs]

/-- A row stops a program past its last operation or at a reserved one with fault 1 (R125, assumption 117). -/
theorem coreOp_reserved {m : Module} (hr : (m.core c).run = some r) (hw : r.waiting = false) (hs : r.stop = none)
    (hsus : r.suspended = false) (hy : m.yields c r = false)
    (hres : r.ops ≤ r.op ∨ opReserved (m.hbm.rdN (r.image + 64 + 32 * r.op) 32) = true) :
    coreOp op f c m = m.progFault c 1 := by
  simp [coreOp, hr, hw, hs, hsus, hy, hres]

end

/-- The ten rows of core programs are each coreOp for the row's opcode. -/
theorem exec_coreRow {i : Instr} {c : Nat} (s : State)
    (hi : i ∈ [Instr.coreLoad c, .coreStore c, .coreCapread c, .coreMatmul c, .coreVecop c, .coreFused c, .coreWait c,
      .coreSignal c, .coreLoop c, .coreEnd c]) :
    ∃ op f, exec i s = runIf (decide (c < 64)) (coreOp op f c) s := by
  simp only [List.mem_cons, List.not_mem_nil, or_false] at hi
  rcases hi with rfl | rfl | rfl | rfl | rfl | rfl | rfl | rfl | rfl | rfl
  all_goals exact ⟨_, _, rfl⟩

/-! #### Transfers between SRAM, HBM and capsules -/

section
variable {s : State} {c : Nat} {r : CoreRun} {b : Bytes}

section
variable (h : CoreOp s c 0x01 r b)
include h

theorem opLoad_outsideSram (hout : s.m.sramSpace c < u64 b 0x18 + u32 b 4) : opLoad c s.m = s.m.progFault c 2 := by
  rw [opLoad, coreOp_runs h]
  exact if_pos hout

variable (hin : u64 b 0x18 + u32 b 4 ≤ s.m.sramSpace c)
include hin

theorem opLoad_outsideHbm (hout : r.reaches (u64 b 0x10) (u32 b 4) = false) : opLoad c s.m = s.m.progFault c 3 := by
  rw [opLoad, coreOp_runs h]
  simp [Nat.not_lt_of_ge hin, hout]

theorem opLoad_copies (hreach : r.reaches (u64 b 0x10) (u32 b 4) = true) :
    opLoad c s.m = (s.m.wrSram c (u64 b 0x18) (s.m.hbm.rdN (u64 b 0x10) (u32 b 4))).nextOp c := by
  rw [opLoad, coreOp_runs h]
  simp [Nat.not_lt_of_ge hin, hreach]

end

theorem opStore_copies (h : CoreOp s c 0x02 r b) (hin : u64 b 0x18 + u32 b 4 ≤ s.m.sramSpace c)
    (hreach : r.reaches (u64 b 0x10) (u32 b 4) = true) :
    opStore c s.m =
      ({ s.m with hbm := s.m.hbm.wrN (u64 b 0x10) ((s.m.core c).sram.rdN (u64 b 0x18) (u32 b 4)) } : Module).nextOp c := by
  rw [opStore, coreOp_runs h]
  simp [Nat.not_lt_of_ge hin, hreach]

/-- A range of a good header is read as its bytes (R51). -/
theorem opCapread_header {k : Capsule} {o : Nat} (h : CoreOp s c 0x03 r b)
    (hin : u64 b 0x18 + u32 b 4 ≤ s.m.sramSpace c) (hk : s.m.capsule (u32 b 8) = some k) (hp : k.partition = r.partition)
    (hgood : k.headerBad = false) (hrange : k.range (u64 b 0x10) (u32 b 4) = some (.header o)) :
    opCapread c s.m =
      (s.m.wrSram c (u64 b 0x18) (slice (k.bytes (u32 b 8 / 256)) o (u32 b 4))).nextOp c := by
  rw [opCapread, coreOp_runs h]
  simp [Nat.not_lt_of_ge hin, hk, hp, hrange, hgood]

/-! #### Arithmetic -/

/-- The byte of a one-byte read is the number that stands there. -/
theorem u8_rdN_one (m : Mem) (a : Nat) : u8 (m.rdN a 1) 0 = m.num a 1 := rfl

/-- An INT8 product of one row and one column of length 1 is added to its accumulator and saturated (R142). -/
theorem opMatmul_int8Product (h : CoreOp s c 0x10 r b) (hf : u8 b 1 = 0x0B) (h0 : u32 b 4 = 1) (h1 : u32 b 8 = 1)
    (h2 : u32 b 0x0C = 1) (hA : u32 b 0x10 + 1 ≤ s.m.sramSpace c) (hB : u32 b 0x14 + 1 ≤ s.m.sramSpace c)
    (hdst : u64 b 0x18 + 4 ≤ s.m.sramSpace c) :
    opMatmul c s.m =
      ((s.m.wrSram c (u64 b 0x18) (leBytes 4 (trunc 32 (satI32
        (sext 32 ((s.m.core c).sram.num (u64 b 0x18) 4) + sext 8 ((s.m.core c).sram.num (u32 b 0x10) 1) *
          sext 8 ((s.m.core c).sram.num (u32 b 0x14) 1)))))).bumpBy
            Reg.ATTN.ARRAY_WAVES_COUNT (Config.matmulWaves 0x0B 1 1 1)).nextOp c := by
  rw [opMatmul, coreOp_runs h]
  simp [hf, h0, h1, h2, elemFmt, rowBytes, Nat.not_lt_of_ge hA, Nat.not_lt_of_ge hB, Nat.not_lt_of_ge hdst, dotInt, intRow,
    u8_rdN_one]

theorem opMatmul_outsideSram (h : CoreOp s c 0x10 r b) (hout : s.m.sramSpace c < u64 b 0x18 + 4 * u32 b 4 * u32 b 8) :
    opMatmul c s.m = s.m.progFault c 2 := by
  rw [opMatmul, coreOp_runs h]
  simp [hout]

/-- Function 0 adds its two operands, element by element, in FP32 (R124, R144; assumption 42). -/
theorem opVecop_adds (h : CoreOp s c 0x11 r b) (hfn : u16 b 2 = 0)
    (hx : u32 b 0x10 + rowBytes (u8 b 1) (u32 b 4) ≤ s.m.sramSpace c)
    (hy : u32 b 0x14 + rowBytes (u8 b 1) (u32 b 4) ≤ s.m.sramSpace c) (hdst : u64 b 0x18 + 4 * u32 b 4 ≤ s.m.sramSpace c) :
    opVecop c s.m =
      (s.m.wrSram c (u64 b 0x18) (fp32Bytes
        (((rowVals (u8 b 1) (u32 b 4) ((s.m.core c).sram.rdN (u32 b 0x10) (rowBytes (u8 b 1) (u32 b 4)))).zip
          (rowVals (u8 b 1) (u32 b 4) ((s.m.core c).sram.rdN (u32 b 0x14) (rowBytes (u8 b 1) (u32 b 4))))).map
          (fun p => add32 p.1 p.2)))).nextOp c := by
  rw [opVecop, coreOp_runs h]
  simp [hfn, Nat.not_lt_of_ge hx, Nat.not_lt_of_ge hy, Nat.not_lt_of_ge hdst, vecResult]

/-- A descriptor whose query and output lie in HBM and that passes its checks is queued, and the program waits (R125). -/
theorem opFused_queues {bs : Bytes} {d : Desc} (hbs : bs = s.m.hbm.rdN (u64 b 0x10) 64) (hd : d = Desc.parse bs)
    (h : CoreOp s c 0x20 r b) (hreach : r.reaches (u64 b 0x10) 64 = true) (hq : d.queryHbm = true) (ho : d.outHbm = true)
    (hok : s.m.descFault c d (u32 bs 0x24) = none) (hroom : (s.m.core c).fused.length < 64) :
    opFused c s.m =
      (s.m.updCore c (fun k => { k with run := k.run.map (fun r => { r with waiting := true }) })).pushFused c d
        (.program (s.m.core c).launch) none := by
  subst hd hbs
  rw [opFused, coreOp_runs h]
  simp [hreach, hq, ho, hok, Nat.not_le_of_gt hroom]

/-! #### Objects (R388) -/

theorem opWait_unnamed (h : CoreOp s c 0x30 r b) (hnone : s.m.ligFind (u32 b 4) = none) :
    opWait c s.m = s.m.progFault c 5 := by
  rw [opWait, coreOp_runs h]
  simp [hnone]

section
variable {i : Nat} {o : LigObj} (hobj : s.m.ligFind (u32 b 4) = some (i, o)) (huses : r.uses o = true)
include hobj huses

/-- A wait that takes nothing leaves the core among the waiters of its object, without a time-out. -/
theorem opWait_waits {o1 : LigObj} (h : CoreOp s c 0x30 r b) (htake : ligTake o false = .wait o1) :
    opWait c s.m =
      ((s.m.bump Reg.LIG.OPS_COUNT).ligPut i
        { o1 with waiters := o1.waiters ++ [⟨.core c, s.m.clk.mono, none, false⟩] }).updCore c (fun k =>
          { k with run := k.run.map (fun r => { r with waiting := true }) }) := by
  rw [opWait, coreOp_runs h]
  simp [hobj, huses, htake]

theorem opSignal_signals (h : CoreOp s c 0x31 r b) : opSignal c s.m = (s.m.ligSignal i o 1).1.nextOp c := by
  rw [opSignal, coreOp_runs h]
  simp [hobj, huses]

end

/-- An object of a program's partition that is not revoked and is no queue is the program's to use. -/
theorem CoreRun.uses_of {o : LigObj} (hp : o.partition = r.partition) (hrev : o.revokedJob = none) (hk : o.kind ≠ 4) :
    r.uses o = true := by
  simp [CoreRun.uses, hp, hrev, hk]

/-! #### LOOP and END -/

/-- A loop that runs some operations some times is pushed, or is one too deep (R124, R125). -/
theorem opLoop_acts (h : CoreOp s c 0x40 r b) (hn : u32 b 4 ≠ 0) (ht : u32 b 8 ≠ 0) :
    opLoop c s.m =
      if 4 ≤ r.loops.length then s.m.progFault c 7
      else s.m.updCore c (fun k => { k with run := k.run.map (fun r => { r with
        op := r.op + 1, loops := ⟨r.op + 1, r.op + u32 b 4, u32 b 8⟩ :: r.loops }) }) := by
  rw [opLoop, coreOp_runs h]
  simp [hn, ht]

theorem opEnd_ends (h : CoreOp s c 0xFF r b) : opEnd c s.m = s.m.endProgram c 0 := coreOp_runs h

end

end Sys2Proof.Machine
end

section
open Sys2Proof Sys2Proof.Machine

/-- Settles O39: each operation is one lemma about the meaning of its row, and what all ten rows do at a reserved operation or
at a stop is coreOp_reserved and coreOp_stops. The operand places of VECOP, the fault of a free object and that of a program
past its last operation are assumptions 42, 51 and 117. -/
theorem coreProgramsRunTheirOperations : Obligations.CoreProgramsRunTheirOperations := by
  unfold Obligations.CoreProgramsRunTheirOperations
  refine ⟨fun s c r b => ⟨?_, ?_, ?_, ?_, ?_, ?_, ?_, ?_, ?_, ?_, ?_, ?_⟩, ?_, ?_⟩
  · intro h
    exact ⟨fun hout => does_coreRow rfl h (opLoad_outsideSram h hout),
      fun hin hout => does_coreRow rfl h (opLoad_outsideHbm h hin hout),
      fun hin hreach => does_coreRow rfl h (opLoad_copies h hin hreach)⟩
  · exact fun h hin hreach => does_coreRow rfl h (opStore_copies h hin hreach)
  · exact fun k o h hin hk hp hgood hrange => does_coreRow rfl h (opCapread_header h hin hk hp hgood hrange)
  · exact fun h hf h0 h1 h2 hA hB hdst => does_coreRow rfl h (opMatmul_int8Product h hf h0 h1 h2 hA hB hdst)
  · exact fun h hout => does_coreRow rfl h (opMatmul_outsideSram h hout)
  · exact fun h hfn hx hy hdst => does_coreRow rfl h (opVecop_adds h hfn hx hy hdst)
  · intro h hreach bs d hq ho hok hroom
    exact does_coreRow rfl h (opFused_queues rfl rfl h hreach hq ho hok hroom)
  · exact fun h hnone => does_coreRow rfl h (opWait_unnamed h hnone)
  · exact fun i o o1 h hobj hp hrev hk htake =>
      does_coreRow rfl h (opWait_waits hobj (CoreRun.uses_of hp hrev hk) h htake)
  · exact fun i o h hobj hp hrev hk => does_coreRow rfl h (opSignal_signals hobj (CoreRun.uses_of hp hrev hk) h)
  · intro h hn ht
    have hacts := opLoop_acts h hn ht
    exact ⟨fun hdeep => does_coreRow rfl h (hacts.trans (if_pos hdeep)),
      fun hroom => does_coreRow rfl h (hacts.trans (if_neg (Nat.not_le_of_gt hroom)))⟩
  · exact fun h => does_coreRow rfl h (opEnd_ends h)
  · intro s c r i hl hc hr hw hs hsus hy hres hi
    obtain ⟨op, f, hrow⟩ := exec_coreRow s hi
    exact does_runIf hrow (decide_eq_true hc) hl (coreOp_reserved hr hw hs hsus hy hres)
  · intro s c code r i hl hc hr hw hs hi
    obtain ⟨op, f, hrow⟩ := exec_coreRow s hi
    exact does_runIf hrow (decide_eq_true hc) hl (coreOp_stops hr hw hs)

end

/-! ### The phases of a step (R161, R165, R172, R183, R188, R207, R239, R328) -/

section
namespace Sys2Proof.Machine
open Sys2Proof

section
variable {m : Module} {p : Nat}

/-! #### STEP_BUILD (R161, R165) -/

/-- A build may start only while at most one step lives and the write phase of that one has ended (R165). -/
theorem Module.mayBuild_live (h : m.mayBuild p = true) :
    (m.pstep p).live.length ≤ 1 ∧ ∀ x ∈ (m.pstep p).live, x.writing = true := by
  simp only [Module.mayBuild, Module.mayBuildNow, Bool.and_eq_true, List.all_eq_true, decide_eq_true_eq] at h
  obtain ⟨⟨⟨-, hwritten⟩, hroom⟩, -⟩ := h
  exact ⟨hroom, hwritten⟩

theorem stepBuild_held (h : m.mayBuild p = false) : stepBuild p m = m := by
  simp [stepBuild, h]

theorem stepBuild_manyCores (h : m.mayBuild p = true) (hc : 8 < m.coreCount p) : stepBuild p m = m.buildStep p := by
  simp [stepBuild, h, hc]

theorem stepBuild_fewCores (h : m.mayBuild p = true) (hc : m.coreCount p ≤ 8) : stepBuild p m = m.buildBatch p := by
  simp [stepBuild, h, Nat.not_lt_of_ge hc]

/-! #### SAMPLE_RECORD_PREPARE (R239) -/

theorem samplePrepare_eq :
    samplePrepare p m = (m.pstep p).live.foldl (fun (a : Module) l => l.seqs.foldl (fun (b : Module) q =>
      if q.kind ≠ 1 ∧ q.prepared = false ∧ q.dropped = false then b.prepareSeq p l.num q else b) a) m := by
  simp only [samplePrepare, Bool.and_eq_true, bne_iff_ne, Bool.not_eq_true', and_assoc]

/-! #### ACCOUNT_PHASE (R122, R188) -/

section
variable {l : LiveStep}
  (hl : (m.pstep p).live.find? (fun l => l.seqs.any (fun q => !q.dropped && !q.accounted)) = some l)
include hl

theorem accountPhase_accounts (h : ∀ q ∈ l.seqs, q.dropped = true ∨ m.layersDone p l.num q.request = true) :
    accountPhase p m = l.seqs.foldl (fun (a : Module) q =>
      if q.dropped = true ∨ q.accounted = true then a else a.accountSeq p l.num q) m := by
  have hall : l.seqs.all (fun q => q.dropped || m.layersDone p l.num q.request) = true := by simpa using h
  simp only [accountPhase, hl, hall, if_true, Bool.or_eq_true]

theorem accountPhase_waits {q : Seq} (hq : q ∈ l.seqs) (hd : q.dropped = false)
    (hn : m.layersDone p l.num q.request = false) : accountPhase p m = m := by
  have hall : l.seqs.all (fun q => q.dropped || m.layersDone p l.num q.request) = false :=
    List.all_eq_false.mpr ⟨q, hq, by simp [hd, hn]⟩
  simp [accountPhase, hl, hall]

end

/-! #### WRITE_PHASE (R183, R207, R319) -/

/-- Step l of partition p with its sequences written: its write phase has ended, and its OUTPUT record and mark have left. -/
def Module.writtenStep (p : Nat) (l : LiveStep) (m : Module) : Module :=
  let w := l.seqs.foldl (fun (a : Module) q => if q.dropped then a else a.writeSeq p l.num q) m
  let outs := (((w.pstep p).live.find? (fun x => x.num == l.num)).map (·.outputs)).getD []
  ((w.updPart p (fun x => { x with live := x.live.map (fun y => if y.num == l.num then
    { y with writing := true, writeEnd := w.clk.mono } else y) })).sendMark p l.num outs).finishMoves

/-- Without SOLO no step commits alone (R328). -/
theorem Module.commitsAlone_notSolo (l : LiveStep) (h : m.flag Reg.MIRROR.CTRL_SOLO = false) : m.commitsAlone l = false := by
  simp [Module.commitsAlone, h]

section
variable {l : LiveStep} (hl : (m.pstep p).live.find? (fun l => !l.writing) = some l)
include hl

theorem writePhase_unaccounted {q : Seq} (hq : q ∈ l.seqs) (hd : q.dropped = false) (ha : q.accounted = false) :
    writePhase p m = m := by
  have hall : l.seqs.all (fun q => q.dropped || (q.accounted && m.slotsReady p l.num q)) = false :=
    List.all_eq_false.mpr ⟨q, hq, by simp [hd, ha]⟩
  simp [writePhase, hl, hall]

theorem writePhase_awaitsFrames (h : m.awaitsFrames (l.seqs.filter (fun q => !q.dropped)) = true) : writePhase p m = m := by
  simp [writePhase, hl, h]

theorem writePhase_writes (hready : ∀ q ∈ l.seqs, q.dropped = true ∨ (q.accounted = true ∧ m.slotsReady p l.num q = true))
    (h : m.awaitsFrames (l.seqs.filter (fun q => !q.dropped)) = false)
    (hsolo : (m.writtenStep p l).flag Reg.MIRROR.CTRL_SOLO = false) : writePhase p m = m.writtenStep p l := by
  have hall : l.seqs.all (fun q => q.dropped || (q.accounted && m.slotsReady p l.num q)) = true := by simpa using hready
  simp only [writePhase, hl, hall, h, Bool.not_true, Bool.false_eq_true, if_false]
  split
  · next f _ =>
    have hwaits := Module.commitsAlone_notSolo f hsolo
    exact if_neg fun hc => absurd (Bool.and_eq_true_iff.mp hc).2 (ne_true_of_eq_false hwaits)
  · rfl

end

/-! #### OUTPUT_COMMIT (R172, R328) -/

section
variable {l : LiveStep} {rest : List LiveStep} (hl : (m.pstep p).live = l :: rest)
include hl

theorem outputCommit_marked (hw : l.writing = true) (hm : m.marked l = true) :
    outputCommit p m = (m.bumpBy Reg.MIRROR.COMMIT_WAIT_NS_COUNT (m.clk.mono - l.writeEnd)).commitStep p l := by
  simp [outputCommit, hl, hw, hm]

theorem outputCommit_alone (hw : l.writing = true) (hm : m.marked l = false) (ha : m.commitsAlone l = true) :
    outputCommit p m = m.commitStep p l := by
  simp [outputCommit, hl, hw, hm, ha]

theorem outputCommit_waits (h : l.writing = false ∨ (m.marked l = false ∧ m.commitsAlone l = false)) :
    outputCommit p m = m := by
  rcases h with hw | ⟨hm, ha⟩
  · simp [outputCommit, hl, hw]
  · simp [outputCommit, hl, hm, ha]

end

end

end Sys2Proof.Machine
end

section
open Sys2Proof Sys2Proof.Machine

/-- Settles O41: each clause is one lemma about the meaning of a phase's row, and what a build waits for is
Module.mayBuild_live. -/
theorem stepsRunTheirPhases : Obligations.StepsRunTheirPhases := by
  unfold Obligations.StepsRunTheirPhases
  intro s p hp hl
  have hrow : decide (p < 8) = true := decide_eq_true hp
  refine ⟨?_, ?_, ?_, Module.mayBuild_live, ?_, ?_, ?_, ?_⟩
  · exact fun hheld => does_runIf rfl hrow hl (stepBuild_held hheld)
  · exact fun hmay hcores => does_runIf rfl hrow hl (stepBuild_manyCores hmay hcores)
  · exact fun hmay hcores => does_runIf rfl hrow hl (stepBuild_fewCores hmay hcores)
  · exact does_runIf rfl hrow hl samplePrepare_eq
  · intro l hfind
    exact ⟨fun hdone => does_runIf rfl hrow hl (accountPhase_accounts hfind hdone),
      fun q hq hd hn => does_runIf rfl hrow hl (accountPhase_waits hfind hq hd hn)⟩
  · intro l hfind
    refine ⟨fun hready => ⟨fun hwait => does_runIf rfl hrow hl (writePhase_awaitsFrames hfind hwait), ?_⟩,
      fun q hq hd ha => does_runIf rfl hrow hl (writePhase_unaccounted hfind hq hd ha)⟩
    exact fun hgo hsolo => does_runIf rfl hrow hl (writePhase_writes hfind hready hgo hsolo)
  · intro l rest hlive
    exact ⟨fun hw hm => does_runIf rfl hrow hl (outputCommit_marked hlive hw hm),
      fun hw hm ha => does_runIf rfl hrow hl (outputCommit_alone hlive hw hm ha),
      fun h => does_runIf rfl hrow hl (outputCommit_waits hlive h)⟩

end

/-! ### A statement that fails: STEP_SET of a request whose entry is marked as touched (R157, R179) -/

section
namespace Sys2Proof.Machine
open Sys2Proof

@[simp] theorem Module.transmit_steps (r : MirrorRec) (m : Module) : (m.transmit r).steps = m.steps := by
  unfold Module.transmit
  split <;> simp

@[simp] theorem Module.send_steps (kind part flags step capsule arg0 arg1 : Nat) (body : Bytes) (m : Module) :
    (m.send kind part flags step capsule arg0 arg1 body).steps = m.steps := by
  unfold Module.send
  split <;> simp

@[simp] theorem Module.mirrorSlot_steps (kind part step id arg0 arg1 : Nat) (body : Bytes) (m : Module) :
    (m.mirrorSlot kind part step id arg0 arg1 body).steps = m.steps := by
  unfold Module.mirrorSlot
  extract_lets _ _ m1
  have hm1 : m1.steps = m.steps := by
    dsimp only [m1]
    split <;> rfl
  clear_value m1
  split
  · exact (Module.send_steps ..).trans hm1
  · exact hm1

@[simp] theorem Module.sendReq_steps (step i : Nat) (m : Module) : (m.sendReq step i).steps = m.steps := by
  unfold Module.sendReq
  split <;> simp

@[simp] theorem Module.setBox_steps (b : Nat) (x : Mailbox) (m : Module) : (m.setBox b x).steps = m.steps := by
  unfold Module.setBox
  dsimp only
  split <;> simp

@[simp] theorem Module.respond_steps (b : Nat) (c : RunCmd) (st : Status) (body : Bytes) (detail : Nat) (m : Module) :
    (m.respond b c st body detail).steps = m.steps := by
  unfold Module.respond
  dsimp only
  split <;> split <;> split <;> simp

/-- A mailbox command that completes leaves the request table alone. -/
theorem Module.ok_steps {b : Nat} {c : RunCmd} (body : Bytes) (m : Module) (hs : c.src = .mbox b) :
    (m.ok c body).steps = m.steps := by
  simp only [Module.ok, Module.complete, hs]
  split
  · rfl
  · rw [Module.respond_steps]
    rfl

@[simp] theorem Module.req_updReq_same (i : Nat) (f : Req → Req) (m : Module) :
    (m.updReq i f).steps.reqs.get i = (m.steps.reqs.get i).map f := KMap.get_upd_same _ _ _

/-- A change of a request that is in no step travels at once, and its entry is not marked as touched any more (R157). -/
theorem Module.req_touchReq_outside {m : Module} {i : Nat} {r : Req} (hr : m.steps.reqs.get i = some r) (hs : r.state ≠ 2) :
    (m.touchReq i).steps.reqs.get i = some { r with touched := false } := by
  simp [Module.touchReq, hr, hs]

/-- The entry that a command on a request names (R153). -/
theorem Module.req_of_request {m : Module} {i id : Nat} {r : Req} (h : m.request i id = some r) :
    m.steps.reqs.get i = some r :=
  (Option.filter_eq_some_iff.mp h).1

/-- The request with the fields that MASK of a STEP_SET payload names put to the payload's values (R179). -/
def Req.setBy (b : Bytes) (r : Req) : Req :=
  { r with
    priority := if bit (u8 b 8) 0 then u8 b 9 else r.priority
    deadline := if bit (u8 b 8) 1 then u64 b 0x10 else r.deadline
    maxTokens := if bit (u8 b 8) 2 then u32 b 0x0C else r.maxTokens }

/-- The first checks of a command on a request hold for one that its payload names, with fields in range (R153). -/
theorem reqChecks_pass {m : Module} {id i : Nat} {r : Req} {ranges : List (Bool × Verdict)} (hid : id % 256 ≠ 255)
    (hr : m.request i id = some r) (hranges : ∀ x ∈ ranges, x.1 = true) : ∀ x ∈ reqChecks m id i ranges, x.1 = true := by
  simp only [reqChecks, List.forall_mem_cons, List.forall_mem_append, List.not_mem_nil, false_imp_iff, implies_true, and_true]
  exact ⟨by simpa using hid, hranges, by simp [hr]⟩

/-- STEP_SET of a request outside a step changes the fields that MASK names, and clears the mark that the entry was touched. -/
theorem req_stepSetCmd {m : Module} {c : RunCmd} {b i : Nat} {r : Req} (hs : c.src = .mbox b)
    (hz : allZero c.payload 0x0A 2 = true) (hi : i = u32 c.payload 4) (hw : WritesRequest m c (u32 c.payload 0) i r)
    (hmask : u8 c.payload 8 ≤ 7) (hout : r.state ≠ 2) :
    (stepSetCmd c m).steps.reqs.get i = some { r.setBy c.payload with touched := false } := by
  obtain ⟨hid, hr, k, hk, hmay⟩ := hw
  have hn : NamesCapsule m (u32 c.payload 0) := ⟨hid, Option.isSome_of_mem hk⟩
  obtain rfl : k = m.slot (u32 c.payload 0 / 256) := Option.mem_unique hk (Module.capsule_eq_slot hn.2)
  have hfence : m.fenced = false := hmay.1
  have hchecks := reqChecks_pass (ranges := [(decide (u8 c.payload 8 ≤ 7), bad 8)]) hid hr (by simpa using hmask)
  subst hi
  unfold stepSetCmd
  rw [Module.checked_act (by simpa using hz), Module.heldOr_mayWrite hn hmay, Module.ok_steps _ _ hs]
  · refine Module.req_touchReq_outside (r := r.setBy c.payload) ?_ hout
    rw [Module.req_updReq_same]
    simp [unheld, Module.req_of_request hr, Req.setBy, hout]
  · simpa [hfence] using hchecks

/-- A STEP_SET of request 0 of capsule 0 whose MASK names no field. -/
def emptySet : RunCmd := firstCommand 0x0505 (leBytes 8 0 ++ leBytes 8 0 ++ leBytes 8 0)

/-- Request 0 of capsule 0, READY, whose entry is marked as touched. -/
def touchedReq : Req :=
  ⟨0, 1, 0, 0, 0, 0, 0, 0, 0, 0, [], [], 0, [], 0, 0, 1, 0, 0, 0, 0, false, false, false, ⟨0xFFFFFFFF, 0, 0, []⟩, none, none,
    none, none, false, false, false, true⟩

/-- The state in which that STEP_SET is fresh in a module that has lost its partner, so that no lease lapses. -/
def touchedState : State :=
  ⟨[], { soleCommand emptySet with
    mirror := { MirrorSt.reset with state := 5 }
    steps := { Module.reset.steps with reqs := [(0, touchedReq)] }
    caps := { CapsSt.reset with slots := [(0, { Capsule.blank with state := 2 })] } }⟩

end Sys2Proof.Machine
end

section
open Sys2Proof Sys2Proof.Machine

/-- Refutes O40: the STEP_SET clause says that no field but those of MASK changes in the entry. The row also clears the mark
that the entry was touched while in a step, for the change of a request outside a step travels at once (req_stepSetCmd). A
state may hold a READY request that is so marked, and then the mark goes. The clause lacks the premise that the entry is not
marked. -/
theorem not_requestCommandsAct : ¬ Obligations.RequestCommandsAct := by
  unfold Obligations.RequestCommandsAct
  rintro ⟨-, -, -, -, -, -, hset, -⟩
  have hfresh : Fresh touchedState (.mbox 0) 0x0505 emptySet := by decide +kernel
  have hz : allZero emptySet.payload 0x0A 2 = true := by decide +kernel
  have hi : 0 = u32 emptySet.payload 4 := by decide +kernel
  have hwrites : WritesRequest touchedState.m emptySet (u32 emptySet.payload 0) 0 touchedReq := by decide +kernel
  have hmask : u8 emptySet.payload 8 ≤ 7 := by decide +kernel
  have hout : touchedReq.state ≠ 2 := by decide
  obtain ⟨t, ht, hstated, -⟩ := hset touchedState 0 emptySet touchedReq 0 hfresh hz hi hwrites hmask hout
  have hactual := req_stepSetCmd (c := emptySet) rfl hz hi hwrites hmask hout
  have hdoes : Does (.stepSet (.mbox 0)) touchedState (stepSetCmd emptySet touchedState.m) := does_onCmd rfl hfresh rfl
  obtain rfl : t = _ := Host.Outcome.next.inj (ht.symm.trans hdoes)
  have hentries := Option.some.inj (hstated.symm.trans hactual)
  exact absurd (congrArg Req.touched hentries) (by decide)

end

/-! ### What a sequence accepts (R205, R206, R231, R240) -/

section
namespace Sys2Proof.Machine
open Sys2Proof

/-- The node of a sequence's tree under a node that has the token: the one that an accepted token matches (R205). -/
def Seq.childOf (q : Seq) (node token : Nat) : Option Nat :=
  (List.range q.tokens.length).find? (fun c => q.kind == 2 && c != 0 && nthD q.parents c 0xFF == node &&
    nthD q.tokens c 0 == token)

theorem Seq.childOf_some {q : Seq} {node token c : Nat} (h : q.childOf node token = some c) :
    q.kind = 2 ∧ nthD q.parents c 0xFF = node ∧ nthD q.tokens c 0 = token := by
  have hfound := List.find?_some h
  simp only [Bool.and_eq_true, beq_iff_eq] at hfound
  obtain ⟨⟨⟨hkind, -⟩, hparent⟩, htoken⟩ := hfound
  exact ⟨hkind, hparent, htoken⟩

/-- x and y hold the same tokens over the same path. -/
def Taken.sameWalk (x y : Taken) : Prop := x.accepted = y.accepted ∧ x.path = y.path

/-- z is x with the token of a hand-off for the node accepted, and the child that the token matches joined to the path. -/
structure Taken.Takes (q : Seq) (node : Nat) (h : HandOff) (x z : Taken) : Prop where
  handed : h ∈ q.hands
  node_eq : h.node = node
  accepted : z.accepted = x.accepted ++ [h.token]
  path : z.path = x.path ++ (q.childOf node h.token).toList

/-- What one node of a walk can do: the walk ends at it and takes nothing, or while a token is allowed it takes the token handed
off for the node, and ends there or goes on to the child that the token matches. -/
theorem walkTokens_succ (t : Option TokImage) (g : Option GramImage) (stops : List Bytes) (incl : Bool) (q : Seq)
    (fuel node : Nat) (left : Option Nat) (x : Taken) :
    (walkTokens t g stops incl q (fuel + 1) node left x).sameWalk x ∨
    left ≠ some 0 ∧ ∃ h z, Taken.Takes q node h x z ∧
      ((walkTokens t g stops incl q (fuel + 1) node left x).sameWalk z ∨
       ∃ c, q.childOf node h.token = some c ∧
        walkTokens t g stops incl q (fuel + 1) node left x = walkTokens t g stops incl q fuel c (left.map (· - 1)) z) := by
  rw [walkTokens]
  split
  · exact .inl ⟨rfl, rfl⟩
  next hleft =>
  split
  · exact .inl ⟨rfl, rfl⟩
  split
  · left
    split <;> exact ⟨rfl, rfl⟩
  next h hfind =>
  refine .inr ⟨by simpa using hleft, h, ?_⟩
  split
  next rel hold bads hit hdetok =>
  extract_lets isEnd y child z left1
  have hz : Taken.Takes q node h x z :=
    ⟨List.mem_of_find?_eq_some hfind, by simpa using List.find?_some hfind, rfl, rfl⟩
  refine ⟨z, hz, ?_⟩
  split
  · exact .inl ⟨rfl, rfl⟩
  split
  · exact .inl ⟨rfl, rfl⟩
  have hchild : q.childOf node h.token = child := rfl
  clear_value child
  cases child with
  | some c => exact .inr ⟨c, hchild, rfl⟩
  | none =>
    have hpath : x.path = z.path := (List.append_nil _).symm
    left
    dsimp only
    split
    · exact ⟨rfl, hpath⟩
    split <;> exact ⟨rfl, hpath⟩

section
variable (t : Option TokImage) (g : Option GramImage) (stops : List Bytes) (incl : Bool) (q : Seq)

/-- A walk takes at most one token for each node that its fuel lets it reach, and no more than are allowed (R206). -/
theorem walkTokens_accepted_length (fuel node : Nat) (left : Option Nat) (x : Taken) :
    (walkTokens t g stops incl q fuel node left x).accepted.length ≤ x.accepted.length + fuel ∧
    ∀ n, left = some n → (walkTokens t g stops incl q fuel node left x).accepted.length ≤ x.accepted.length + n := by
  induction fuel generalizing node left x with
  | zero => exact ⟨Nat.le_refl _, fun n _ => Nat.le_add_right _ n⟩
  | succ fuel ih =>
    rcases walkTokens_succ t g stops incl q fuel node left x with hends | ⟨hleft, h, z, htakes, hwalk⟩
    · rw [hends.1]
      exact ⟨Nat.le_add_right _ _, fun n _ => Nat.le_add_right _ n⟩
    have hz : z.accepted.length = x.accepted.length + 1 := by simp [htakes.accepted]
    have hpos : ∀ n, left = some n → 1 ≤ n := fun n hn => Nat.one_le_iff_ne_zero.mpr fun h0 => hleft (by rw [hn, h0])
    rcases hwalk with hends | ⟨c, -, hgoes⟩
    · rw [hends.1, hz]
      exact ⟨by omega, fun n hn => by have := hpos n hn; omega⟩
    · obtain ⟨hfuel, hlimit⟩ := ih c (left.map (· - 1)) z
      rw [hgoes]
      refine ⟨by omega, fun n hn => ?_⟩
      have hn1 := hlimit (n - 1) (by rw [hn]; rfl)
      have := hpos n hn
      omega

end

/-- What a sequence has accepted follows its tree: each token is the one handed off for its node of the path, and each later
node of the path is a child of the one before it with the token accepted there (R205, R240). -/
structure Taken.Follows (q : Seq) (x : Taken) : Prop where
  short : x.path.length ≤ x.accepted.length + 1
  handed : ∀ k, k < x.accepted.length → ∃ h ∈ q.hands, some h.node = x.path[k]? ∧ some h.token = x.accepted[k]?
  child : ∀ k c, k + 1 < x.path.length → x.path[k + 1]? = some c →
    q.kind = 2 ∧ some (nthD q.parents c 0xFF) = x.path[k]? ∧ some (nthD q.tokens c 0) = x.accepted[k]?

/-- A walk that follows the tree stands at a node: the path ends at it, and each node before it has given a token. -/
structure Taken.At (q : Seq) (node : Nat) (x : Taken) : Prop extends Taken.Follows q x where
  level : x.path.length = x.accepted.length + 1
  last : x.path[x.accepted.length]? = some node

theorem Taken.Follows.congr {q : Seq} {x y : Taken} (h : x.Follows q) (hy : y.sameWalk x) : y.Follows q := by
  obtain ⟨ha, hp⟩ := hy
  constructor <;> rw [ha, hp]
  exacts [h.short, h.handed, h.child]

section
variable {q : Seq} {node : Nat} {h : HandOff} {x z : Taken} (hx : x.At q node) (hz : Taken.Takes q node h x z)
include hx hz

/-- A token taken at the node where the walk stands is the one handed off for it, and leads to a child of that node. -/
theorem Taken.Takes.follows : z.Follows q where
  short := by
    have hone : (q.childOf node h.token).toList.length ≤ 1 := by cases q.childOf node h.token <;> simp
    simp only [hz.path, hz.accepted, List.length_append, List.length_singleton]
    have := hx.level
    omega
  handed k hk := by
    have hlen := hx.level
    rw [hz.accepted, List.length_append, List.length_singleton] at hk
    rw [hz.accepted, hz.path, List.getElem?_append_left (by omega)]
    rcases Nat.lt_succ_iff_lt_or_eq.mp hk with hlt | rfl
    · rw [List.getElem?_append_left hlt]
      exact hx.handed k hlt
    · exact ⟨h, hz.handed, by rw [hx.last, hz.node_eq], by simp⟩
  child k c hk hc := by
    have hlen := hx.level
    rw [hz.path] at hk hc ⊢
    rw [hz.accepted]
    rcases Nat.lt_or_ge (k + 1) x.path.length with hlt | hge
    · rw [List.getElem?_append_left hlt] at hc
      rw [List.getElem?_append_left (by omega), List.getElem?_append_left (by omega)]
      exact hx.child k c hlt hc
    · cases hnext : q.childOf node h.token with
      | none => simp [hnext] at hk; omega
      | some d =>
        obtain rfl : k = x.accepted.length := by simp [hnext] at hk; omega
        obtain rfl : d = c := by simpa [hnext, ← hlen] using hc
        obtain ⟨hkind, hparent, htoken⟩ := Seq.childOf_some hnext
        rw [List.getElem?_append_left (by omega), hx.last, hparent, htoken]
        exact ⟨hkind, rfl, by simp⟩

/-- The walk then stands at the child. -/
theorem Taken.Takes.at {c : Nat} (hc : q.childOf node h.token = some c) : z.At q c where
  toFollows := hz.follows hx
  level := by simp [hz.accepted, hz.path, hc, hx.level]
  last := by simp [hz.accepted, hz.path, hc, ← hx.level]

end

theorem walkTokens_follows (t : Option TokImage) (g : Option GramImage) (stops : List Bytes) (incl : Bool) (q : Seq)
    (fuel node : Nat) (left : Option Nat) (x : Taken) (hx : x.At q node) :
    (walkTokens t g stops incl q fuel node left x).Follows q := by
  induction fuel generalizing node left x with
  | zero => exact hx.toFollows
  | succ fuel ih =>
    rcases walkTokens_succ t g stops incl q fuel node left x with hends | ⟨-, h, z, htakes, hends | ⟨c, hc, hgoes⟩⟩
    · exact hx.congr hends
    · exact (htakes.follows hx).congr hends
    · rw [hgoes]
      exact ih c _ z (htakes.at hx hc)

/-- A walk that has taken nothing stands at the root. -/
theorem Taken.at_root (q : Seq) {x : Taken} (ha : x.accepted = []) (hp : x.path = [0]) : x.At q 0 where
  short := by simp [ha, hp]
  handed := by simp [ha]
  child := by simp [hp]
  level := by simp [ha, hp]
  last := by simp [ha, hp]

end Sys2Proof.Machine
end

section
open Sys2Proof Sys2Proof.Machine

/-- Settles O42: the walk keeps to the tree at each node that it reaches (walkTokens_follows), and its length is bounded by its
fuel and by the tokens allowed (walkTokens_accepted_length). -/
theorem acceptanceFollowsTheTree : Obligations.AcceptanceFollowsTheTree := by
  unfold Obligations.AcceptanceFollowsTheTree
  intro t g stops incl q fuel left state hold x
  obtain ⟨hfuel, hlimit⟩ := walkTokens_accepted_length t g stops incl q fuel 0 left
    ⟨[], [0], state, [], hold, 0, false, false, 0, 0⟩
  have hfollows : x.Follows q := walkTokens_follows t g stops incl q fuel 0 left _ (Taken.at_root q rfl rfl)
  simp only [List.length_nil, Nat.zero_add] at hfuel hlimit
  exact ⟨hfuel, hfollows.short, hlimit, hfollows.handed, hfollows.child⟩

end

/-! ### Ordered checks, one by one (R446) -/

section
namespace Sys2Proof.Machine
open Sys2Proof

section
variable {c : RunCmd} {m : Module} {ok : Bool} {v : Verdict} {rest : List (Bool × Verdict)} {act : Module → Module}

/-- A command whose reserved bytes are zero is judged by its own checks alone. -/
theorem Module.checked_reserved {reserved : List (Nat × Nat)} {checks : List (Bool × Verdict)}
    (h : ∀ r ∈ reserved, allZero c.payload r.1 r.2 = true) : m.checked c reserved checks act = m.checked c [] checks act := by
  rw [Module.checked, reservedOk_none.mpr h]
  rfl

/-- Checks are judged in order: the first decides, or leaves the command to the rest (R446). -/
theorem Module.checked_cons :
    m.checked c [] ((ok, v) :: rest) act = if ok then m.checked c [] rest act else m.verdict c v := by
  cases ok <;> rfl

theorem Module.checked_pass (h : ok = true) : m.checked c [] ((ok, v) :: rest) act = m.checked c [] rest act := by
  rw [checked_cons, if_pos h]

theorem Module.checked_nil : m.checked c [] [] act = act m := rfl

/-- A check that fails with DENIED, and not by the firewall, completes the command with DENIED and changes nothing else. -/
theorem Module.verdict_denied : m.verdict c (stop .denied) = m.fail c .denied := rfl

end

end Sys2Proof.Machine
end

/-! ### Accounts (R186, R187, R190, R209 to R212) -/

section
namespace Sys2Proof.Machine
open Sys2Proof

/-! #### The account table -/

/-- An account is what the account table holds. -/
theorem Module.account_of_accounts {m n : Module} (h : m.steps.accounts = n.steps.accounts) (a : Nat) :
    m.account a = n.account a := by
  rw [Module.account, h, Module.account]

@[simp] theorem Module.account_setAccount_same (a : Nat) (x : Account) (m : Module) : (m.setAccount a x).account a = x := by
  simp [Module.account, Module.setAccount, KMap.getD, KMap.get_put_same]

theorem Module.account_setAccount_other {a b : Nat} (x : Account) (m : Module) (h : b ≠ a) :
    (m.setAccount a x).account b = m.account b := by
  simp [Module.account, Module.setAccount, KMap.getD, KMap.get_put_other _ _ h]

@[simp] theorem Module.sendAccount_steps (step a : Nat) (m : Module) : (m.sendAccount step a).steps = m.steps := by
  unfold Module.sendAccount Module.mirrorPlain
  split <;> simp

@[simp] theorem Module.account_sendAccount (step a b : Nat) (m : Module) : (m.sendAccount step a).account b = m.account b :=
  Module.account_of_accounts (congrArg StepSt.accounts (Module.sendAccount_steps step a m)) b

@[simp] theorem Module.touchReq_accounts (i : Nat) (m : Module) : (m.touchReq i).steps.accounts = m.steps.accounts := by
  unfold Module.touchReq
  split
  · split
    · rfl
    · rw [Module.sendReq_steps]
      rfl
  · rfl

/-- That the requests of an account go on changes no account. -/
@[simp] theorem Module.easeReqs_accounts (a : Nat) (m : Module) : (m.easeReqs a).steps.accounts = m.steps.accounts := by
  unfold Module.easeReqs
  refine List.foldlRecOn (motive := fun n : Module => n.steps.accounts = m.steps.accounts) _ _ rfl fun n hn e _ => ?_
  dsimp only
  split
  · rw [Module.touchReq_accounts]
    exact hn
  · exact hn

/-- The easing of STRICT changes nothing of its account but the flags (R190). -/
theorem Module.account_easeStrict_same (a : Nat) (m : Module) :
    ∃ fl, (m.easeStrict a).account a = { m.account a with flags := fl } := by
  unfold Module.easeStrict
  dsimp only
  split
  · exact ⟨(m.account a).flags % 4, by rw [Module.account_of_accounts (Module.easeReqs_accounts _ _), account_setAccount_same]⟩
  · exact ⟨(m.account a).flags, rfl⟩

theorem Module.account_easeStrict_other {a b : Nat} (m : Module) (h : b ≠ a) : (m.easeStrict a).account b = m.account b := by
  unfold Module.easeStrict
  dsimp only
  split
  · rw [Module.account_of_accounts (Module.easeReqs_accounts _ _), account_setAccount_other _ _ h]
  · rfl

/-- An account that is not STRICT has nothing to ease. -/
theorem Module.easeStrict_notStrict {a : Nat} {m : Module} (h : (m.account a).strict = false) : m.easeStrict a = m := by
  simp [Module.easeStrict, h]

/-! #### The commands (R209 to R212) -/

section
variable {c : RunCmd} {m : Module} {a : Nat} {x : Account} (ha : a = u32 c.payload 0) (hlim : a ≤ 65535)
include ha hlim

section
variable (hz : allZero c.payload 6 2 = true) (hz' : allZero c.payload 0x14 4 = true)
  (hp : m.present (u8 c.payload 4) = true) (hfl : u8 c.payload 5 = 0 ∨ u8 c.payload 5 = 2)
  (hquota : u64 c.payload 8 ≤ 2 ^ 62) (hfence : m.fenced = false)
include hz hz' hp hfl hquota hfence

/-- The opening of a named account whose fields pass is judged by the module that serves the account and by the account in turn,
and one that passes gives it ALLOWANCE equal to QUOTA, no debits and a period that starts now (R209). -/
theorem budgetOpenCmd_eq :
    budgetOpenCmd c m =
      if m.serves a then
        if (m.account a).open_ = false then
          ((m.setAccount a ⟨u64 c.payload 8, (u64 c.payload 8 : Int), 0, 0, m.clk.now, u32 c.payload 0x10, u8 c.payload 4,
            1 + u8 c.payload 5, 0⟩).sendAccount 0 a).ok c (leBytes 4 a)
        else m.fail c .busy
      else m.fail c .denied := by
  subst ha
  have hnamed : (u32 c.payload 0 == 0xFFFFFFFF) = false := beq_false_of_ne (by omega)
  unfold budgetOpenCmd
  rw [Module.checked_reserved (by simp [hz, hz']), Module.checked_pass (by simp [hlim]), Module.checked_pass (by exact hp),
    Module.checked_pass (by simpa using hfl), Module.checked_pass (decide_eq_true hquota)]
  simp only [Module.checked_cons, Module.checked_nil, hnamed, hfence, Bool.not_false, Bool.true_and, Bool.false_or,
    Bool.false_eq_true, if_false, Option.isSome_some, if_true, Bool.not_eq_true', Module.verdict_busy, Module.verdict_denied]

end

section
variable (hx : x = m.account a) (ho : x.open_ = true) (hfence : m.fenced = false) (hs : m.serves a = true)
include hx ho hfence hs

theorem budgetCloseCmd_busy (hu : m.accountUsed a = true) : budgetCloseCmd c m = m.fail c .busy := by
  subst ha hx
  unfold budgetCloseCmd
  refine Module.checked_fail (v := stop .busy) (List.forall_mem_nil _) ?_
  simp [firstFail, hlim, ho, hfence, hs, hu]

theorem budgetCloseCmd_closes (hu : m.accountUsed a = false) :
    budgetCloseCmd c m = ((m.setAccount a { x with flags := x.flags - 1 }).sendAccount 0 a).ok c [] := by
  subst ha hx
  unfold budgetCloseCmd
  rw [Module.checked_act (List.forall_mem_nil _)]
  simp [hlim, ho, hfence, hs, hu]

/-- A change of an account without STRICT, that no flag qualifies and that brings no debt, gives the account and its balance
(R190, R211). -/
theorem budgetSetCmd_sets {y : Account} (hz : allZero c.payload 6 2 = true) (hmode : u8 c.payload 4 ≤ 2)
    (hfl : u8 c.payload 5 = 0) (hquota : u8 c.payload 4 = 0 → u64 c.payload 8 ≤ 2 ^ 62)
    (hperiod : u8 c.payload 4 = 2 → u64 c.payload 8 < 2 ^ 32)
    (hy : x.changed (u8 c.payload 4) (u64 c.payload 8) 0 m.clk.now = y) (hstrict : y.strict = false)
    (hdebt : x.balance < 0 ∨ 0 ≤ y.balance) :
    budgetSetCmd c m = ((m.setAccount a y).sendAccount 0 a).ok c (leBytes 8 (trunc 64 y.balance)) := by
  subst ha hx
  have hnew : ¬(0 ≤ (m.account (u32 c.payload 0)).balance ∧ y.balance < 0) := by omega
  have heased : (m.setAccount (u32 c.payload 0) y).easeStrict (u32 c.payload 0) = m.setAccount (u32 c.payload 0) y :=
    Module.easeStrict_notStrict (by rwa [Module.account_setAccount_same])
  unfold budgetSetCmd
  rw [Module.checked_act (by simpa using hz)]
  · simp only [hfl, hy, heased, Module.account_setAccount_same, ← Bool.decide_and, decide_eq_true_eq, if_neg hnew]
  simp only [List.forall_mem_cons, List.not_mem_nil, false_imp_iff, implies_true, and_true]
  refine ⟨by simp [hlim, ho], by simpa using hmode, by simp [hfl, bit], ?_, by simp [hfence, hs]⟩
  split
  · next h => simpa using hquota (by simpa using h)
  split
  · next h => simpa using hperiod (by simpa using h)
  · rfl

end

end

theorem budgetQueryCmd_answers {c : RunCmd} {m : Module} (hlim : u32 c.payload 0 ≤ 65535) :
    budgetQueryCmd c m =
      m.ok c ((m.account (u32 c.payload 0)).bytes ++ leBytes 8 (trunc 64 (m.account (u32 c.payload 0)).balance)) := by
  unfold budgetQueryCmd
  rw [Module.checked_act (List.forall_mem_nil _)]
  simpa using hlim

/-! #### What a BUDGET_SET without FLAGS makes of an account (R211) -/

section
variable {value now : Nat} {x : Account}

theorem Account.changed_quota :
    x.changed 0 value 0 now =
      { x with quota := value, allowance := satAllow (x.allowance + (value : Int) - (x.quota : Int)) } := by
  simp [Account.changed, bit]

theorem Account.changed_allowance :
    x.changed 1 value 0 now = { x with allowance := satAllow (x.allowance + sext 64 value) } := by
  simp [Account.changed, bit]

theorem Account.changed_period (h : value < 2 ^ 32) : x.changed 2 value 0 now = { x with periodS := value } := by
  simp [-Nat.reducePow, Account.changed, bit, Nat.mod_eq_of_lt h]

end

/-! #### Periods (R187) -/

theorem periodDue_open {m : Module} {a : Nat} {x : Account} (hx : x = m.account a) (ho : x.open_ = true)
    (hp : x.periodS ≠ 0) (hs : m.serves a = true) :
    periodDue a m = m.dueAt (x.periodStart + 1000000000 * x.periodS) := by
  subst hx
  simp [periodDue, ho, hp, hs, sec, Nat.mul_comm]

/-- An account that has n periods in a row closed: each closing caps ALLOWANCE at the debits and adds QUOTA (R187). -/
def Account.closed (n : Nat) (x : Account) : Account :=
  let d : Int := (x.debited0 : Int) + (x.debited1 : Int)
  { x with
    allowance := satAllow (Min.min (Min.min x.allowance d + (n : Int) * (x.quota : Int)) (d + (x.quota : Int)))
    periodStart := x.periodStart + n * (1000000000 * x.periodS) }

/-- Closing a period n times in a row caps ALLOWANCE at the debits once, and then adds QUOTA each time up to a QUOTA above
them. -/
theorem iterate_closing (d : Int) (quota : Nat) (al : Int) {n : Nat} (h : 1 ≤ n) :
    Nat.iterate (fun al => Min.min al d + (quota : Int)) n al =
      Min.min (Min.min al d + (n : Int) * (quota : Int)) (d + (quota : Int)) := by
  induction n, h using Nat.le_induction with
  | base => simp
  | succ n _ ih =>
    rw [Function.iterate_succ_apply', ih]
    push_cast
    rw [add_one_mul]
    omega

section
variable {m : Module} {a n : Nat} {x : Account} (hx : x = m.account a) (ho : x.open_ = true) (hp : x.periodS ≠ 0)
  (hs : m.serves a = true) (hn : 1 ≤ n) (hpast : x.periodStart + n * (1000000000 * x.periodS) ≤ m.clk.now)
  (hnext : m.clk.now < x.periodStart + (n + 1) * (1000000000 * x.periodS))
include hx ho hp hs hn hpast hnext

/-- The serving module closes all n whole periods that have passed in one step (R187). -/
theorem Module.closePeriods_closes :
    m.closePeriods a = ((m.setAccount a (x.closed n)).easeStrict a).sendAccount 0 a := by
  have hper : sec x.periodS = 1000000000 * x.periodS := Nat.mul_comm _ _
  have hone : 1000000000 * x.periodS ≤ n * (1000000000 * x.periodS) := Nat.le_mul_of_pos_left _ hn
  have hpassed : (m.clk.now - x.periodStart) / (1000000000 * x.periodS) = n :=
    Nat.div_eq_of_lt_le (by omega) (by omega)
  have hdue : ¬m.clk.now < x.periodStart + 1000000000 * x.periodS := by omega
  simp [Module.closePeriods, ← hx, hper, ho, hp, hs, hdue, hpassed, Account.closed]

/-- The closed account keeps all but ALLOWANCE, PERIOD_START and the flags. -/
theorem Module.account_closePeriods_same :
    ∃ fl, (m.closePeriods a).account a = { x.closed n with flags := fl } := by
  rw [closePeriods_closes hx ho hp hs hn hpast hnext, account_sendAccount]
  obtain ⟨fl, heased⟩ := Module.account_easeStrict_same a (m.setAccount a (x.closed n))
  exact ⟨fl, by rw [heased, account_setAccount_same]⟩

theorem Module.account_closePeriods_other {b : Nat} (hb : b ≠ a) : (m.closePeriods a).account b = m.account b := by
  rw [closePeriods_closes hx ho hp hs hn hpast hnext, account_sendAccount, account_easeStrict_other _ hb,
    account_setAccount_other _ _ hb]

end

end Sys2Proof.Machine
end

section
open Sys2Proof Sys2Proof.Machine

/-- Settles O43: each outcome of a command is one lemma about its meaning or a branch of budgetOpenCmd_eq, the row of a period's
end is due at periodDue_open, and what closing whole periods leaves is Account.closed, whose ALLOWANCE is that of R187's step
done n times (iterate_closing). -/
theorem accountsFollowTheirRules : Obligations.AccountsFollowTheirRules := by
  unfold Obligations.AccountsFollowTheirRules
  refine ⟨?_, ?_, ?_, ?_, ?_, ?_⟩
  · intro s src c a hfresh hz hz' ha hlim hp hfl hquota hfence
    have hopen := budgetOpenCmd_eq ha hlim hz hz' hp hfl hquota hfence
    exact ⟨fun hs => does_onCmd rfl hfresh (hopen.trans (if_neg (ne_true_of_eq_false hs))),
      fun hs ho => does_onCmd rfl hfresh ((hopen.trans (if_pos hs)).trans (if_neg (ne_false_of_eq_true ho))),
      fun hs ho => does_onCmd rfl hfresh ((hopen.trans (if_pos hs)).trans (if_pos ho))⟩
  · intro s src c a x hfresh ha hlim hx ho hfence hs
    exact ⟨fun hu => does_onCmd rfl hfresh (budgetCloseCmd_busy ha hlim hx ho hfence hs hu),
      fun hu => does_onCmd rfl hfresh (budgetCloseCmd_closes ha hlim hx ho hfence hs hu)⟩
  · intro s src c a x y hfresh hz ha hlim hx ho hstrict hfence hs hfl hmode hdebt
    have hsets := budgetSetCmd_sets (y := y) ha hlim hx ho hfence hs hz (hfl := hfl) (hdebt := hdebt)
    refine does_onCmd rfl hfresh ?_
    rcases hmode with ⟨hm, hquota, rfl⟩ | ⟨hm, rfl⟩ | ⟨hm, hperiod, rfl⟩
    · exact hsets (by omega) (fun _ => hquota) (by omega) (by rw [hm]; exact Account.changed_quota) hstrict
    · exact hsets (by omega) (by omega) (by omega) (by rw [hm]; exact Account.changed_allowance) hstrict
    · exact hsets (by omega) (by omega) (fun _ => hperiod) (by rw [hm]; exact Account.changed_period hperiod) hstrict
  · exact fun s src c hfresh hlim => does_onCmd rfl hfresh (budgetQueryCmd_answers hlim)
  · intro s a x ha hl hx ho hp hs
    exact doesAt_runAt (if_pos ha) hl (periodDue_open hx ho hp hs) rfl
  · intro m a n x _ hx ho hp hs hn hpast hnext d
    obtain ⟨fl, hclosed⟩ := Module.account_closePeriods_same hx ho hp hs hn hpast hnext
    refine ⟨?_, iterate_closing d x.quota x.allowance hn, ?_,
      fun b hb => Module.account_closePeriods_other hx ho hp hs hn hpast hnext hb⟩
    all_goals
      rw [hclosed]
      rfl

end

/-! ### Prefixes, adapters and speculation (R192 to R197, R213 to R219) -/

section
namespace Sys2Proof.Machine
open Sys2Proof

/-! #### Taking list blocks (R54) -/

/-- The list blocks taken so far with one more free block, any one of a pool of the size given. -/
def takeList (size : Nat) (taken : List Nat × Module) : List Nat × Module :=
  let (start, m) := taken.2.choose size
  match findFrom (fun i => i != 0 && !m.caps.lists.contains i) size size start with
  | some i => (taken.1 ++ [i], { m with caps := { m.caps with lists := m.caps.lists ++ [i] } })
  | none => (taken.1, m)

theorem Module.takeLists_eq (n : Nat) (m : Module) :
    m.takeLists n =
      if m.listsFree < n then (none, m)
      else
        let r := (List.range n).foldl (fun taken _ => takeList (m.get Reg.CAPS.LIST_POOL_SIZE_BLOCKS) taken) ([], m)
        (some r.1, r.2) := rfl

theorem takeList_steps (size : Nat) (taken : List Nat × Module) : (takeList size taken).2.steps = taken.2.steps := by
  unfold takeList
  dsimp only
  split <;> rfl

/-- Which block is taken does not depend on the commands that are held. -/
theorem takeList_unheld (c : RunCmd) (size : Nat) (taken : List Nat × Module) :
    takeList size (taken.map id (unheld c)) = (takeList size taken).map id (unheld c) := by
  have hchoose : (unheld c taken.2).choose size = (taken.2.choose size).map id (unheld c) := rfl
  unfold takeList
  simp only [Prod.map_snd, hchoose]
  have hlists : (unheld c (taken.2.choose size).2).caps.lists = (taken.2.choose size).2.caps.lists := rfl
  simp only [Prod.map_fst, id, hlists]
  split <;> rfl

/-- Taking list blocks changes none of the tables of requests, accounts and prefixes. -/
theorem Module.takeLists_steps (n : Nat) (m : Module) : (m.takeLists n).2.steps = m.steps := by
  rw [takeLists_eq]
  split
  · rfl
  · exact List.foldlRecOn (motive := fun taken : List Nat × Module => taken.2.steps = m.steps) _ _ rfl
      fun taken hsteps _ _ => (takeList_steps _ taken).trans hsteps

/-- Which blocks are taken does not depend on the commands that are held. -/
theorem Module.takeLists_unheld (c : RunCmd) (n : Nat) (m : Module) :
    (unheld c m).takeLists n = (m.takeLists n).map id (unheld c) := by
  have hfree : (unheld c m).listsFree = m.listsFree := rfl
  have hsize : (unheld c m).get Reg.CAPS.LIST_POOL_SIZE_BLOCKS = m.get Reg.CAPS.LIST_POOL_SIZE_BLOCKS := rfl
  rw [takeLists_eq, takeLists_eq, hfree, hsize]
  split
  · rfl
  · have hfold := List.foldl_hom (Prod.map id (unheld c)) (l := List.range n) (init := ([], m))
      (g₁ := fun taken _ => takeList (m.get Reg.CAPS.LIST_POOL_SIZE_BLOCKS) taken)
      (g₂ := fun taken _ => takeList (m.get Reg.CAPS.LIST_POOL_SIZE_BLOCKS) taken)
      (fun taken _ => takeList_unheld c _ taken)
    have hinit : (([], unheld c m) : List Nat × Module) = Prod.map id (unheld c) ([], m) := rfl
    rw [hinit, hfold]
    rfl

/-! #### PREFIX_CREATE (R194, R213) -/

section
variable {c : RunCmd} {m : Module} {id i g : Nat} {k : Capsule} {x : Model} {ls : List Nat} {m1 : Module}

/-- The record that a PREFIX_CREATE makes of capsule k (R193, R213). -/
def prefixOf (c : RunCmd) (m : Module) (g : Nat) (k : Capsule) (ls : List Nat) : Prefix :=
  ⟨g, k.partition, k.fmt, k.layers, u8 c.payload 6, k.slotBytes, k.tokenizer, u16 c.payload 4, k.pages, k.tokens, 0,
    u64 c.payload 8, k.map, ls, m.steps.prefixOrder⟩

/-- Each frame of a capsule's map stands in the share table with a count of 2 (R58, R194). -/
def Module.shareFrames (map : List Nat) (m : Module) : Module :=
  map.foldl (fun (a : Module) f =>
    ({ a with caps := { a.caps with share := a.caps.share.put f ⟨2, false⟩ } } : Module).updFrame f
      (fun r => { r with shared := true })) m

/-- A creation whose checks hold shares the capsule's frames with a new record, which has the free index of the own
half. -/
theorem prefixCreateCmd_creates (hz : allZero c.payload 7 1 = true) (hid : id = u32 c.payload 0) (hgen : id % 256 ≠ 255)
    (hk : m.capsule id = some k) (htier : u8 c.payload 6 ≤ 3) (hx : m.attn.models.get (u16 c.payload 4) = some x)
    (hlayers : x.layers = k.layers) (hfmt : x.latFmt = k.fmt) (hbytes : x.slotBytes = k.slotBytes) (hw : MayWrite m c k)
    (hs : k.state = 1 ∨ k.state = 4) (hr : m.requestOf id = none) (hd : k.damaged = false) (hcarry : k.carry = [])
    (hshared : k.shared = 0) (htokens : 1 ≤ k.tokens) (hroom : k.map.length ≤ m.shareFree)
    (hfree : m.freePrefix = some (i, g)) (hlists : m.takeLists (listBlocks k.map.length) = (some ls, m1)) :
    prefixCreateCmd c m =
      let h := i + g * 65536
      let shared := ((unheld c m).takeLists (listBlocks k.map.length)).2.shareFrames k.map
      (((({ shared with steps := { shared.steps with
          prefixes := shared.steps.prefixes.put i (prefixOf c m g k ls), prefixOrder := m.steps.prefixOrder + 1 } } :
        Module).writeCap id (fun q => { q with shared := q.pages, prefixHandle := h, keep := [] })).sendPrefix i
          id).followPrefix h).ok c (leBytes 4 h) := by
  have hn : NamesCapsule m id := ⟨hgen, by rw [hk]; rfl⟩
  obtain rfl : k = m.slot (id / 256) := Option.some.inj (hk.symm.trans (Module.capsule_eq_slot hn.2))
  subst hid
  have hsteps : m1.steps = m.steps := (congrArg (·.2.steps) hlists).symm.trans (Module.takeLists_steps _ m)
  have hindex : (unheld c m).freePrefix = some (i, g) := hfree
  have htaken : (unheld c m).takeLists (listBlocks (m.slot (u32 c.payload 0 / 256)).map.length) = (some ls, unheld c m1) := by
    rw [Module.takeLists_unheld, hlists]
    rfl
  have horder : (unheld c m1).steps.prefixOrder = m.steps.prefixOrder := congrArg StepSt.prefixOrder hsteps
  unfold prefixCreateCmd
  rw [Module.checked_act (by simpa using hz), Module.heldOr_mayWrite hn hw]
  · simp only [hindex, htaken, horder, Option.getD_some]
    rfl
  obtain ⟨hfence, hown, -⟩ := hw
  refine List.forall_mem_append.mpr ⟨capChecks_ranges 0 hn (by simpa using htier), ?_⟩
  simp only [List.forall_mem_cons, List.not_mem_nil, false_imp_iff, implies_true, and_true]
  exact ⟨by simp [hx, hlayers, hfmt, hbytes], by simp [hfence, hown], by simpa using hs, by simp [hr], by simp [hd],
    by simp [hcarry, hshared, htokens], by simp [hroom, hfree, hlists]⟩

end

/-! #### PREFIX_DELETE, PREFIX_FIND and PREFIX_PLACE (R196, R214, R215) -/

section
variable {c : RunCmd} {m : Module} {h : Nat} (hh : h = u32 c.payload 0)
include hh

theorem prefixDeleteCmd_stale (hnone : m.prefix_ h = none) : prefixDeleteCmd c m = m.fail c .stale := by
  subst hh
  unfold prefixDeleteCmd
  refine Module.checked_fail (v := stop .stale) (List.forall_mem_nil _) ?_
  simp [firstFail, hnone]

variable (hlive : (m.prefix_ h).isSome = true) (hs : m.serves h = true) (hfence : m.fenced = false)
include hlive hs hfence

theorem prefixDeleteCmd_deletes :
    prefixDeleteCmd c m = ((m.dropPrefix (h % 65536)).sendPrefix (h % 65536) capNone).ok c [] := by
  subst hh
  unfold prefixDeleteCmd
  rw [Module.checked_act (List.forall_mem_nil _)]
  simp [hlive, hs, hfence]

theorem prefixPlaceCmd_places (hz : allZero c.payload 5 3 = true) (htier : u8 c.payload 4 ≤ 3) :
    prefixPlaceCmd c m =
      ((({ m with steps := { m.steps with
          prefixes := m.steps.prefixes.upd (h % 65536) (fun x => { x with tier := u8 c.payload 4 }) } } : Module).sendPrefix
        (h % 65536) capNone).followPrefix h).ok c [] := by
  subst hh
  unfold prefixPlaceCmd
  rw [Module.checked_act (by simpa using hz)]
  simp [hlive, hs, hfence, htier]

end

/-- A handle names nothing once its record is freed (R196). -/
theorem Module.prefix_dropPrefix (h : Nat) (m : Module) : (m.dropPrefix (h % 65536)).prefix_ h = none := by
  unfold Module.prefix_ Module.dropPrefix
  cases hget : m.steps.prefixes.get (h % 65536) with
  | none => simp [hget]
  | some x => simp [KMap.get_put_same]

/-- The newer of two entries of the table of prefixes: the first where both have the same place in the order (R215). -/
def newerPrefix (best : Option (Nat × Prefix)) (y : Nat × Prefix) : Option (Nat × Prefix) :=
  match best with
  | none => some y
  | some z => if z.2.order < y.2.order then some y else some z

/-- The newest of some entries is one of them, and none of them is newer. -/
theorem foldl_newerPrefix (l : List (Nat × Prefix)) (z : Nat × Prefix) :
    ∃ y ∈ z :: l, l.foldl newerPrefix (some z) = some y ∧ ∀ w ∈ z :: l, w.2.order ≤ y.2.order := by
  induction l generalizing z with
  | nil => exact ⟨z, by simp, rfl, by simp⟩
  | cons w l ih =>
    have hnext : newerPrefix (some z) w = if z.2.order < w.2.order then some w else some z := rfl
    simp only [List.foldl_cons, hnext]
    split
    · next hnewer =>
      obtain ⟨y, hy, hfold, hmax⟩ := ih w
      refine ⟨y, List.mem_cons_of_mem _ hy, hfold, List.forall_mem_cons.mpr ⟨?_, hmax⟩⟩
      exact (Nat.le_of_lt hnewer).trans (hmax w (by simp))
    · next holder =>
      obtain ⟨y, hy, hfold, hmax⟩ := ih z
      obtain ⟨hz, hl⟩ := List.forall_mem_cons.mp hmax
      refine ⟨y, ?_, hfold, List.forall_mem_cons.mpr ⟨hz, List.forall_mem_cons.mpr ⟨?_, hl⟩⟩⟩
      · rcases List.mem_cons.mp hy with rfl | hy <;> simp [*]
      · exact (Nat.le_of_not_lt holder).trans hz

section
variable {c : RunCmd} {m : Module} {mine : List (Nat × Prefix)} (hz : allZero c.payload 1 7 = true)
  (hp : m.present (u8 c.payload 0) = true)
  (hmine : mine = m.steps.prefixes.filter
    (fun y => y.2.pages != 0 && y.2.partition == u8 c.payload 0 && y.2.name == u64 c.payload 8))
include hz hp hmine

theorem prefixFindCmd_eq :
    prefixFindCmd c m =
      (mine.foldl newerPrefix none).elim (m.fail c .exhausted) (fun y => m.ok c (prefixBytes m y.1 y.2)) := by
  unfold prefixFindCmd
  rw [Module.checked_act (by simpa using hz) (by simpa [Module.partOk] using hp)]
  subst hmine
  dsimp only
  split
  · next found =>
    rw [show List.foldl newerPrefix none _ = _ from found]
    rfl
  · next found =>
    rw [show List.foldl newerPrefix none _ = _ from found]
    rfl

theorem prefixFindCmd_none (hnone : mine = []) : prefixFindCmd c m = m.fail c .exhausted := by
  rw [prefixFindCmd_eq hz hp hmine, hnone]
  rfl

/-- A name that live prefixes of the partition have finds the newest of those (R215). -/
theorem prefixFindCmd_newest (hsome : mine ≠ []) :
    ∃ y ∈ mine, (∀ z ∈ mine, z.2.order ≤ y.2.order) ∧ prefixFindCmd c m = m.ok c (prefixBytes m y.1 y.2) := by
  have hfind := prefixFindCmd_eq hz hp hmine
  obtain ⟨z, l, rfl⟩ := List.exists_cons_of_ne_nil hsome
  obtain ⟨y, hy, hfold, hmax⟩ := foldl_newerPrefix l z
  have hnewest : (z :: l).foldl newerPrefix none = some y := hfold
  exact ⟨y, hy, hmax, by rw [hfind, hnewest]; rfl⟩

end

/-! #### Adapters (R197, R216 to R218) -/

/-- The module with an adapter put to a. -/
def Module.putAdapter (ad : Nat) (a : Adapter) (m : Module) : Module :=
  { m with steps := { m.steps with adapters := m.steps.adapters.put ad a } }

/-- The live versions of an adapter with a new one that is CURRENT: the one before is DRAINING (R197). -/
def withCurrent (live : List AdVersion) (v addr len : Nat) : List AdVersion :=
  live.map (fun x => if x.state == 1 then { x with state := 2 } else x) ++ [⟨v, 1, 0, addr, len⟩]

section
variable {c : RunCmd} {m : Module} {ad v p addr len : Nat} {a : Adapter} {live : List AdVersion}
  (hz : allZero c.payload 5 3 = true) (had : ad = u16 c.payload 0) (hv : v = u16 c.payload 2)
  (hp : p = u8 c.payload 4) (haddr : addr = u64 c.payload 8) (hlen : len = u64 c.payload 0x10) (hlim : ad ≤ 4095)
  (hlo : 1 ≤ v) (hhi : v ≤ 0xFFFE) (hpart : m.present p = true) (halign : addr % 4096 = 0) (hpos : len ≠ 0)
  (ha : m.steps.adapters.get ad = some a) (hnew : ∀ x ∈ a.versions, x.state ≠ 3 → x.version ≠ v)
  (hlive : live = a.versions.filter (fun x => x.state != 3))
include hz had hv hp haddr hlen hlim hlo hhi hpart halign hpos ha hnew hlive

/-- A load of a new version whose fields pass is judged by the adapter's live versions, its partition and the firewall in turn,
and one that passes makes its version CURRENT and the one before DRAINING (R216). -/
theorem adapterLoadCmd_eq :
    adapterLoadCmd c m =
      if live.length < 4 then
        if a.partition = p then
          if m.engineMay p 0 addr len then
            (((m.putAdapter ad ⟨p, withCurrent live v addr len⟩).updAdapter ad id).measure 5 ad v p
              (m.hbm.rdN addr len)).ok c []
          else m.verdict c stopFw
        else m.fail c .denied
      else m.fail c .busy := by
  have hversion : live.all (fun x => x.version != v) = true := by
    simpa [hlive, or_iff_not_imp_left] using hnew
  subst had hv hp haddr hlen hlive
  unfold adapterLoadCmd
  rw [Module.checked_reserved (by simpa using hz), Module.checked_pass (decide_eq_true hlim),
    Module.checked_pass (by simp only [ha, hlo, hhi, hversion, Option.map_some, Option.getD_some, decide_true, Bool.and_self]),
    Module.checked_pass (by exact hpart), Module.checked_pass (by simp [halign, hpos])]
  simp only [Module.checked_cons, Module.checked_nil, ha, Option.map_some, Option.getD_some, Option.isSome_some, Bool.true_or,
    decide_eq_true_eq, beq_iff_eq, if_true, Module.verdict_busy, Module.verdict_denied, Module.putAdapter, withCurrent]

end

section
variable {c : RunCmd} {m : Module}

theorem adapterRetireCmd_retires {x : AdVersion} (hcur : m.adCurrent (u16 c.payload 0) = some x) :
    adapterRetireCmd c m =
      (m.updAdapter (u16 c.payload 0) (fun x => if x.state == 1 then { x with state := 2 } else x)).ok c [] := by
  unfold adapterRetireCmd
  rw [Module.checked_act (List.forall_mem_nil _)]
  simp [hcur]

theorem adapterQueryCmd_unknown (hnone : m.steps.adapters.get (u16 c.payload 0) = none) :
    adapterQueryCmd c m = m.badField c 0 := by
  rw [← Module.verdict_bad]
  unfold adapterQueryCmd
  refine Module.checked_fail (List.forall_mem_nil _) ?_
  simp [firstFail, hnone]

/-- An adapter of at most four versions, all live, is answered whole (R217). -/
theorem adapterQueryCmd_answers {a : Adapter} (ha : m.steps.adapters.get (u16 c.payload 0) = some a)
    (hlive : ∀ x ∈ a.versions, x.state ≠ 3) (hfew : a.versions.length ≤ 4) :
    adapterQueryCmd c m =
      m.ok c (leBytes 2 (u16 c.payload 0) ++ leBytes 1 a.partition ++ zeros 5 ++
        padTo (a.versions.flatMap AdVersion.bytes) 128) := by
  have hkept : a.versions.filter (fun x => x.state != 3) = a.versions :=
    List.filter_eq_self.mpr fun x hx => bne_iff_ne.mpr (hlive x hx)
  have hfreed : a.versions.filter (fun x => x.state == 3) = [] :=
    List.filter_eq_nil_iff.mpr fun x hx => by simpa using hlive x hx
  unfold adapterQueryCmd
  rw [Module.checked_act (List.forall_mem_nil _) (by simp [ha])]
  simp only [ha, hkept, hfreed, List.drop_nil, List.append_nil, List.take_of_length_le hfew]

section
variable {p : Nat} (hp : p = u8 c.payload 0) (hpart : m.present p = true)
include hp hpart

section
variable (hz : allZero c.payload 1 3 = true)
include hz

theorem adapterPoolBindCmd_denied (hpool : (m.pstep p).pool = none) (hnext : (m.pstep p).nextPool = none) :
    adapterPoolBindCmd c m = m.fail c .denied := by
  subst hp
  unfold adapterPoolBindCmd
  refine Module.checked_fail (v := stop .denied) (by simpa using hz) ?_
  simp [firstFail, Module.partOk, hpart, hpool, hnext]

theorem adapterPoolBindCmd_binds (hpool : (m.pstep p).pool.isSome = true) :
    adapterPoolBindCmd c m =
      ((m.updPart p (fun x => { x with pinTable := some (u32 c.payload 4, u64 c.payload 8) })).setBit
        Reg.BUDGET.STATUS_PIN_BOUND p).ok c [] := by
  subst hp
  unfold adapterPoolBindCmd
  rw [Module.checked_act (by simpa using hz)]
  simp [Module.partOk, hpart, hpool]

end

/-! #### Speculation (R219) -/

variable (hz : allZero c.payload 3 1 = true) (hz' : allZero c.payload 0x14 4 = true)
include hz hz'

/-- Speculation ends whatever the other fields of the command hold (assumption 114). -/
theorem specBindCmd_ends (hoff : u8 c.payload 1 = 0) :
    specBindCmd c m =
      ((m.updPart p (fun x => { x with spec := none })).clearBit Reg.BUDGET.STATUS_SPEC_ON p).ok c [] := by
  subst hp
  unfold specBindCmd
  rw [Module.checked_act (by simp [hz, hz'])]
  · simp only [hoff, BEq.rfl, if_true]
  · simp [Module.partOk, hpart, hoff]

/-- Speculation whose fields pass is judged by the partition of its semaphore and the firewall in turn (R219). -/
theorem specBindCmd_eq {sem ring jobs i : Nat} {o : LigObj} (hsem : sem = u32 c.payload 4) (hring : ring = u64 c.payload 8)
    (hjobs : jobs = u32 c.payload 0x10) (hon : u8 c.payload 1 = 1) (hlo : 1 ≤ u8 c.payload 2) (hhi : u8 c.payload 2 ≤ 64)
    (hobj : m.ligFind sem = some (i, o)) (hkind : o.kind = 1) (halign : ring % 4096 = 0) (hpow : isPow2 jobs = true)
    (hjlo : 4096 ≤ jobs) (hjhi : jobs ≤ 262144) :
    specBindCmd c m =
      if o.partition = p then
        if m.engineMay p 0 ring (16 * jobs) then
          ((m.updPart p (fun x => { x with spec := some ⟨u8 c.payload 2, sem, ring, jobs, 0⟩ })).setBit
            Reg.BUDGET.STATUS_SPEC_ON p).ok c []
        else m.verdict c stopFw
      else m.fail c .denied := by
  subst hp hsem hring hjobs
  unfold specBindCmd
  rw [Module.checked_reserved (by simp [hz, hz']), Module.checked_pass (by exact hpart), Module.checked_pass (by simp [hon]),
    Module.checked_pass (by simp [hlo, hhi]), Module.checked_pass (by simp [hobj, hkind]),
    Module.checked_pass (by simp [halign]), Module.checked_pass (by simp [hpow, hjlo, hjhi])]
  have hone : (u8 c.payload 1 == 0) = false := by simp [hon]
  simp only [Module.checked_cons, Module.checked_nil, hone, hobj, Option.map_some, Bool.false_or, beq_iff_eq,
    Option.some.injEq, Bool.false_eq_true, if_false, Module.verdict_denied]

end

end

end Sys2Proof.Machine
end

section
open Sys2Proof Sys2Proof.Machine

/-- Settles O44: each outcome of a command is one lemma about its meaning; a load and a binding of speculation are the branches of
adapterLoadCmd_eq and specBindCmd_eq. That SPEC_BIND with ENABLE 0 completes whatever its other fields hold is assumption
114. -/
theorem prefixesAndAdaptersAct : Obligations.PrefixesAndAdaptersAct := by
  unfold Obligations.PrefixesAndAdaptersAct
  refine ⟨?_, ?_, ?_, ?_, ?_, ?_, ?_, ?_, ?_⟩
  · intro s src c id i g k x ls m1 hfresh hz hid hgen hk htier hx hlayers hfmt hbytes hw hs hr hd hcarry hshared htokens
      hroom hfree hlists
    exact does_onCmd rfl hfresh (prefixCreateCmd_creates hz hid hgen hk htier hx hlayers hfmt hbytes hw hs hr hd hcarry
      hshared htokens hroom hfree hlists)
  · intro s src c h hfresh hh
    exact ⟨fun hnone => does_onCmd rfl hfresh (prefixDeleteCmd_stale hh hnone), fun hlive hs hfence =>
      ⟨does_onCmd rfl hfresh (prefixDeleteCmd_deletes hh hlive hs hfence), fun _ => Module.prefix_dropPrefix h s.m⟩⟩
  · intro s src c hfresh hz hp mine
    refine ⟨fun hnone => does_onCmd rfl hfresh (prefixFindCmd_none hz hp rfl hnone), fun hsome => ?_⟩
    obtain ⟨y, hy, hmax, hfind⟩ := prefixFindCmd_newest hz hp rfl hsome
    exact ⟨y, hy, hmax, does_onCmd rfl hfresh hfind⟩
  · intro s src c h hfresh hz hh hlive htier hs hfence
    exact does_onCmd rfl hfresh (prefixPlaceCmd_places hh hlive hs hfence hz htier)
  · intro s src c ad v p addr len a hfresh hz had hv hp haddr hlen hlim hlo hhi hpart halign hpos ha hnew live
    have hload := adapterLoadCmd_eq hz had hv hp haddr hlen hlim hlo hhi hpart halign hpos ha hnew rfl
    refine ⟨fun hfull => does_onCmd rfl hfresh (hload.trans (if_neg (Nat.not_lt_of_ge hfull))), fun hroom hother => ?_,
      fun hroom hown hmay => ?_⟩
    · exact does_onCmd rfl hfresh ((hload.trans (if_pos hroom)).trans (if_neg hother))
    · exact does_onCmd rfl hfresh (((hload.trans (if_pos hroom)).trans (if_pos hown)).trans (if_pos hmay))
  · exact fun s src c x hfresh hcur => does_onCmd rfl hfresh (adapterRetireCmd_retires hcur)
  · exact fun s src c a hfresh => ⟨fun hnone => does_onCmd rfl hfresh (adapterQueryCmd_unknown hnone),
      fun ha hlive hfew => does_onCmd rfl hfresh (adapterQueryCmd_answers ha hlive hfew)⟩
  · intro s src c p hfresh hz hp hpart
    exact ⟨fun hpool hnext => does_onCmd rfl hfresh (adapterPoolBindCmd_denied hp hpart hz hpool hnext),
      fun hpool => does_onCmd rfl hfresh (adapterPoolBindCmd_binds hp hpart hz hpool)⟩
  · intro s src c p sem ring jobs i o hfresh hz hz' hp hpart hsem hring hjobs
    refine ⟨fun hoff => does_onCmd rfl hfresh (specBindCmd_ends hp hpart hz hz' hoff), ?_⟩
    intro hon hlo hhi hobj hkind halign hpow hjlo hjhi
    have hbind := specBindCmd_eq hp hpart hz hz' hsem hring hjobs hon hlo hhi hobj hkind halign hpow hjlo hjhi
    exact ⟨fun hother => does_onCmd rfl hfresh (hbind.trans (if_neg hother)),
      fun hown hmay => does_onCmd rfl hfresh ((hbind.trans (if_pos hown)).trans (if_pos hmay))⟩

end

/-! ### The Mouthpiece's commands, hand-offs and held text (R223, R228, R233, R236, R238, R240, R243 to R250) -/

section
namespace Sys2Proof.Machine
open Sys2Proof

/-! #### Tokenizers and grammars (R244, R245) -/

/-- The module with the image of tokenizer id stored and measured. -/
def Module.storeTokenizer (id addr len : Nat) (m : Module) : Module :=
  let m1 := m.measure 6 id 0 0xFF (m.hbm.rdN addr len)
  ({ m1 with mouth := { m1.mouth with tokenizers := m1.mouth.tokenizers.put id ⟨addr, len⟩ } } : Module).showTokenizers

/-- The module with the image of grammar id stored and measured. -/
def Module.storeGrammar (id addr len : Nat) (m : Module) : Module :=
  let m1 := m.measure 7 id 0 0xFF (m.hbm.rdN addr len)
  ({ m1 with mouth := { m1.mouth with grammars := m1.mouth.grammars.put id ⟨addr, len⟩ } } : Module).showGrammars

section
variable {c : RunCmd} {m : Module} {id addr len : Nat} (haddr : addr = u64 c.payload 8) (hlen : len = u64 c.payload 0x10)
  (halign : addr % 64 = 0) (hbase : addr < hbmSize) (hend : addr + len ≤ hbmSize)
include haddr hlen halign hbase hend

/-- A load whose place passes is judged by its ID, which must not be loaded, and then by the image (R223, R244). -/
theorem tokenizerLoadCmd_eq (hz : allZero c.payload 2 6 = true) (hid : id = u16 c.payload 0) (hlim : id < 64) :
    tokenizerLoadCmd c m =
      if m.mouth.tokenizers.has id then m.fail c .busy
      else if (TokImage.mk m.hbm addr).ok len then (m.storeTokenizer id addr len).ok c [] else m.badField c 8 := by
  subst haddr hlen hid
  unfold tokenizerLoadCmd
  rw [Module.checked_reserved (by simpa using hz), Module.checked_pass (decide_eq_true hlim),
    Module.checked_pass (by simp [halign, hbase]), Module.checked_pass (decide_eq_true hend), Module.checked_cons,
    Module.checked_cons, Module.checked_nil]
  simp only [Bool.not_eq_true', ← Bool.not_eq_true, ite_not, Module.verdict_busy, Module.verdict_bad, Module.storeTokenizer]

/-- A load whose place passes is judged by its ID and then by the image, against the tokenizer that it names (R236, R245). -/
theorem grammarLoadCmd_eq {g : GramImage} (hz : allZero c.payload 4 4 = true) (hid : id = u32 c.payload 0) (hlim : id < 1024)
    (hg : g = ⟨m.hbm, addr⟩) :
    grammarLoadCmd c m =
      if m.mouth.grammars.has id then m.fail c .busy
      else if g.ok len ((m.tokImage g.tokenizer).map (·.vocab)) then (m.storeGrammar id addr len).ok c []
      else m.badField c 8 := by
  subst haddr hlen hid hg
  unfold grammarLoadCmd
  rw [Module.checked_reserved (by simpa using hz), Module.checked_pass (decide_eq_true hlim),
    Module.checked_pass (by simp [halign, hbase]), Module.checked_pass (decide_eq_true hend), Module.checked_cons,
    Module.checked_cons, Module.checked_nil]
  simp only [Bool.not_eq_true', ← Bool.not_eq_true, ite_not, Module.verdict_busy, Module.verdict_bad, Module.storeGrammar]

end

/-- No live capsule of a list names an ID by f (R243). -/
theorem all_live_ne_iff {l : List Capsule} {f : Capsule → Nat} {id : Nat} :
    l.all (fun k => !liveState k.state || f k != id) = true ↔ ∀ k ∈ l, liveState k.state = true → f k ≠ id := by
  rw [List.all_eq_true]
  refine forall₂_congr fun k _ => ?_
  cases liveState k.state <;> simp

section
variable {c : RunCmd} {m : Module} {id : Nat}

section
variable (hz : allZero c.payload 2 6 = true) (hid : id = u16 c.payload 0) (hloaded : m.mouth.tokenizers.has id = true)
include hz hid hloaded

theorem tokenizerUnloadCmd_busy (hnamed : ∃ k ∈ m.caps.slots.vals, liveState k.state = true ∧ k.tokenizer = id) :
    tokenizerUnloadCmd c m = m.fail c .busy := by
  subst hid
  have hcheck : m.caps.slots.vals.all (fun k => !liveState k.state || k.tokenizer != u16 c.payload 0) = false := by
    obtain ⟨k, hk, hlive, hname⟩ := hnamed
    exact Bool.eq_false_iff.mpr fun hall => all_live_ne_iff.mp hall k hk hlive hname
  unfold tokenizerUnloadCmd
  rw [Module.checked_reserved (by simpa using hz), Module.checked_pass hloaded, Module.checked_cons, hcheck]
  rfl

theorem tokenizerUnloadCmd_unloads (hfree : ∀ k ∈ m.caps.slots.vals, liveState k.state = true → k.tokenizer ≠ id) :
    tokenizerUnloadCmd c m =
      (let m1 := m.unmeasure 6 id (fun _ => false)
       ({ m1 with mouth := { m1.mouth with tokenizers := m1.mouth.tokenizers.del id } } : Module).showTokenizers.ok c []) := by
  subst hid
  unfold tokenizerUnloadCmd
  rw [Module.checked_act (by simpa using hz)]
  simpa only [List.forall_mem_cons, List.not_mem_nil, false_imp_iff, implies_true, and_true, all_live_ne_iff]
    using ⟨hloaded, hfree⟩

end

theorem grammarUnloadCmd_unloads (hz : allZero c.payload 4 4 = true) (hid : id = u32 c.payload 0)
    (hloaded : m.mouth.grammars.has id = true)
    (hfree : ∀ k ∈ m.caps.slots.vals, liveState k.state = true → k.grammar ≠ id) :
    grammarUnloadCmd c m =
      (let m1 := m.unmeasure 7 id (fun _ => false)
       ({ m1 with mouth := { m1.mouth with grammars := m1.mouth.grammars.del id } } : Module).showGrammars.ok c []) := by
  subst hid
  unfold grammarUnloadCmd
  rw [Module.checked_act (by simpa using hz)]
  simpa only [List.forall_mem_cons, List.not_mem_nil, false_imp_iff, implies_true, and_true, all_live_ne_iff]
    using ⟨hloaded, hfree⟩

/-- A grammar that fits the capsule's tokenizer and holds the state is set at once, with the header's next transfer, or when
the request leaves its step: as the capsule has no request, one outside a step or one in a step (R243, R246). -/
theorem grammarSetCmd_eq {gid st : Nat} {k : Capsule} {g : GramImage} (hz : allZero c.payload 0x0C 4 = true)
    (hid : id = u32 c.payload 0) (hgid : gid = u32 c.payload 4) (hst : st = u32 c.payload 8) (hgen : id % 256 ≠ 255)
    (hk : m.capsule id = some k) (hg : m.gramImage gid = some g) (htok : g.tokenizer = k.tokenizer) (hsome : gid ≠ 0xFFFFFFFF)
    (hstate : st = 0xFFFFFFFF ∨ st < g.states) (hw : MayWrite m c k) :
    grammarSetCmd c m =
      let dest := if st = 0xFFFFFFFF then g.start else st
      let set (k : Capsule) : Capsule := { k with grammar := gid, grammarState := dest }
      (m.requestOf id).elim (((unheld c m).writeCap id set).ok c []) (fun x =>
        if x.2.state = 2 then ((unheld c m).updReq x.1 (fun r => { r with newGrammar := some (gid, dest) })).ok c []
        else ((unheld c m).writeText id set).ok c []) := by
  have hn : NamesCapsule m id := ⟨hgen, by rw [hk]; rfl⟩
  obtain rfl : k = m.slot (id / 256) := Option.some.inj (hk.symm.trans (Module.capsule_eq_slot hn.2))
  subst hid hgid hst
  have hreq : (unheld c m).requestOf (u32 c.payload 0) = m.requestOf (u32 c.payload 0) := rfl
  unfold grammarSetCmd
  rw [Module.checked_act (by simpa using hz), Module.heldOr_mayWrite hn hw]
  · simp only [hreq, hg, beq_iff_eq, if_neg hsome, Option.map_some, Option.getD_some]
    cases m.requestOf (u32 c.payload 0) <;> rfl
  · obtain ⟨hfence, hown, -⟩ := hw
    refine List.forall_mem_append.mpr ⟨capChecks_pass 0 hn, ?_⟩
    simpa [hg, htok, hsome, hfence, hown] using hstate

end

/-! #### Stop sets and text settings (R247, R248) -/

section
variable {c : RunCmd} {m : Module}

section
variable {set n : Nat} (hz : allZero c.payload 3 5 = true) (hset : set = u16 c.payload 0) (hn : n = u8 c.payload 2)
  (hlim : set < 4096) (hcount : n ≤ 16)
include hz hset hn hlim hcount

theorem stopLoadCmd_fault {v : Verdict} (hfault : stopFault c.payload n = some v) : stopLoadCmd c m = m.verdict c v := by
  subst hset hn
  unfold stopLoadCmd
  refine Module.checked_fail (by simpa using hz) ?_
  simp [firstFail, hlim, hcount, hfault]

/-- A set that no text record names, this module's or the partner's, is stored and its payload written to LPDDR (assumption 121:
also one of no string). -/
theorem stopLoadCmd_stores (hgood : stopFault c.payload n = none)
    (hown : ∀ r ∈ m.steps.reqs.vals, r.text.stopSet ≠ set ∧ r.newText.map (·.1) ≠ some set)
    (hshadow : ∀ x ∈ m.mirror.shadow.vals, u16 x.text 4 ≠ set) :
    stopLoadCmd c m =
      ({ m with
        mouth := { m.mouth with stops := m.mouth.stops.put set ((List.range n).map (fun i => (stopAt c.payload i).2)) }
        lpddr := m.lpddr.wrN (m.get Reg.MOUTH.STOP_BASE_BASE + 2048 * set) (slice c.payload 0 1160) } : Module).ok c [] := by
  subst hset hn
  have hfree : (m.steps.reqs.vals.all (fun r => r.text.stopSet != u16 c.payload 0 &&
      (r.newText.map (·.1)) != some (u16 c.payload 0)) &&
        m.mirror.shadow.vals.all (fun x => u16 x.text 4 != u16 c.payload 0)) = true := by
    simp only [Bool.and_eq_true, List.all_eq_true, bne_iff_ne]
    exact ⟨hown, hshadow⟩
  unfold stopLoadCmd
  rw [Module.checked_act (by simpa using hz)]
  · rfl
  · simp only [List.forall_mem_cons, List.not_mem_nil, false_imp_iff, implies_true, and_true]
    exact ⟨decide_eq_true hlim, decide_eq_true hcount, by rw [hgood]; rfl, hfree⟩

end

/-- Text settings whose fields pass are BUSY for a request that has ended, held for one in a step, and set in another (R243,
R248). -/
theorem textSetCmd_eq {i set fl : Nat} {r : Req} (hz : allZero c.payload 0x0B 5 = true) (hi : i = u32 c.payload 4)
    (hset : set = u16 c.payload 8) (hfl : fl = u8 c.payload 0x0A) (hlim : fl ≤ 3)
    (hw : WritesRequest m c (u32 c.payload 0) i r) (hstop : set = 0xFFFF ∨ m.mouth.stops.has set = true) :
    textSetCmd c m =
      if r.state = 5 then m.fail c .busy
      else if r.state = 2 then ((unheld c m).updReq i (fun r => { r with newText := some (set, fl) })).ok c []
      else (((unheld c m).updReq i (fun r => { r with text := { r.text with stopSet := set, flags := fl } })).touchReq
        i).ok c [] := by
  obtain ⟨hgen, hr, k, hk, hmay⟩ := hw
  have hn : NamesCapsule m (u32 c.payload 0) := ⟨hgen, Option.isSome_of_mem hk⟩
  obtain rfl : k = m.slot (u32 c.payload 0 / 256) := Option.mem_unique hk (Module.capsule_eq_slot hn.2)
  have hfence : m.fenced = false := hmay.1
  subst hi hset hfl
  have hreq := reqChecks_pass (ranges := [(decide (u8 c.payload 0x0A ≤ 3), bad 0x0A)]) hgen hr (by simpa using hlim)
  by_cases hend : r.state = 5
  · rw [if_pos hend, ← Module.verdict_busy]
    refine Module.checked_fail (by simpa using hz) ?_
    rw [firstFail_append hreq]
    simp [firstFail, hstop, hfence, hr, hend]
  · rw [if_neg hend]
    unfold textSetCmd
    rw [Module.checked_act (by simpa using hz), Module.heldOr_mayWrite hn hmay]
    · simp only [hr, Option.map_some, Option.getD_some, beq_iff_eq]
    · refine List.forall_mem_append.mpr ⟨hreq, ?_⟩
      simpa [hfence, hr, hend] using hstop

end

/-! #### What the answer to a mailbox command leaves alone (R444) -/

/-- The memories, the capsule table and the request table of the module. -/
def Module.contents (m : Module) : Mem × Mem × Mem × CapsSt × StepSt := (m.hostMem, m.hbm, m.lpddr, m.caps, m.steps)

@[simp] theorem Module.setBox_contents (b : Nat) (x : Mailbox) (m : Module) : (m.setBox b x).contents = m.contents := by
  unfold Module.setBox
  dsimp only
  split <;> simp [Module.contents]

@[simp] theorem Module.respond_contents (b : Nat) (c : RunCmd) (st : Status) (body : Bytes) (detail : Nat) (m : Module) :
    (m.respond b c st body detail).contents = m.contents := by
  unfold Module.respond
  extract_lets _ _ m1 m2 m3 m4
  have h1 : m1.contents = m.contents := setBox_contents ..
  have h2 : m2.contents = m1.contents := by simp [m2, Module.contents]
  have h3 : m3.contents = m2.contents := by
    dsimp only [m3]
    split <;> simp [Module.contents]
  have h4 : m4.contents = m3.contents := by
    dsimp only [m4]
    split <;> simp [Module.contents]
  rw [← h1, ← h2, ← h3, ← h4]
  split <;> simp [Module.contents]

section
variable {b : Nat} {c : RunCmd} {st : Status} {body : Bytes} {detail : Nat} {m : Module} (hs : c.src = .mbox b)
include hs

theorem Module.complete_contents : (m.complete c st body detail).contents = m.contents := by
  simp only [Module.complete, hs]
  split
  · rfl
  · rw [Module.respond_contents]
    rfl

theorem Module.complete_box (ha : c.answered = false) :
    (((m.complete c st body detail).box b).resp.map (fun r => (r.status, r.body))) = some (st.code, body) := by
  simp [Module.complete, hs, ha, Module.respond_box]

end

/-- The command of a source came from it and is not answered yet. -/
theorem Module.src_of_cmdOf {m : Module} {src : Src} {c : RunCmd} (h : m.cmdOf src = some c) :
    c.src = src ∧ c.answered = false := by
  simpa using List.find?_some h

/-! #### MOUTH_TOKENIZE (R249) -/

/-- The Mouthpiece counts a tokenized buffer: its bytes, its tokens and its replacements. -/
def Module.countTokenized (bytes tokens reps : Nat) (m : Module) : Module :=
  let m1 := (m.bumpBy Reg.MOUTH.BYTES_TOKENIZED_COUNT bytes).bumpBy Reg.MOUTH.TOKENS_PRODUCED_COUNT tokens
  if reps == 0 then m1 else (m1.bumpBy Reg.MOUTH.INPUT_INVALID_COUNT reps).set Reg.MOUTH.STATUS_INVALID 1

theorem Module.countTokenized_contents (bytes tokens reps : Nat) (m : Module) :
    (m.countTokenized bytes tokens reps).contents = m.contents := by
  unfold Module.countTokenized
  dsimp only
  split <;> simp [Module.contents]

/-- The write of a mailbox command goes to host memory. -/
theorem Module.cmdWrite_contents {c : RunCmd} {b : Nat} (addr : Nat) (bytes : Bytes) (m : Module) (hs : c.src = .mbox b) :
    (m.cmdWrite c addr bytes).contents = (m.contents.1.wrN addr bytes, m.contents.2) := by
  simp [Module.cmdWrite, Module.contents, hs]

section
variable {c : RunCmd} {m : Module} {b len max : Nat} {t : TokImage} {ts : List Nat} {reps : Nat}
  (hs : c.src = .mbox b) (hz : allZero c.payload 2 2 = true) (hz' : allZero c.payload 0x1C 4 = true)
  (ht : m.tokImage (u16 c.payload 0) = some t) (hlen : len = u32 c.payload 4) (hmax : max = u32 c.payload 0x18)
  (hlo : 1 ≤ len) (hhi : len ≤ 16777216) (hup : m.host.linkUp = true) (hd0 : m.host.d3hot = false)
  (htokens : t.tokenize [] (m.hostMem.rdN (u64 c.payload 8) len) = (ts, reps, []))
include hs hz hz' ht hlen hmax hlo hhi hup hd0 htokens

/-- A mailbox's buffer that ends with a whole character is tokenized as it stands; the tokens that fit are written, and all of
them are counted and answered. -/
theorem tokenizeCmd_writes :
    tokenizeCmd c m =
      ((m.countTokenized len ts.length reps).cmdWrite c (u64 c.payload 0x10) ((ts.take max).flatMap (leBytes 4))).complete c
        (if max < ts.length then .noSpace else .ok) (leBytes 4 ts.length ++ leBytes 4 reps) noDetail := by
  subst hlen hmax
  have hmbox : c.fromMailbox = true := by simp [RunCmd.fromMailbox, hs]
  have hhost : ∀ a, cmdNeedsHost c a = true := fun a => by simp [cmdNeedsHost, hs]
  have hread : m.cmdRead c (u64 c.payload 8) (u32 c.payload 4) = m.hostMem.rdN (u64 c.payload 8) (u32 c.payload 4) := by
    simp [Module.cmdRead, hs]
  unfold tokenizeCmd
  rw [Module.checked_act (by simp [hz, hz'])]
  · simp only [hhost, Bool.true_or, if_true, Module.withHost_up hup hd0, ht, hread, htokens, hmbox, List.isEmpty_nil]
    rfl
  · simp [ht, hlo, hhi, hmbox]

theorem tokenizeCmd_contents :
    (tokenizeCmd c m).contents =
      (m.hostMem.wrN (u64 c.payload 0x10) ((ts.take max).flatMap (leBytes 4)), m.hbm, m.lpddr, m.caps, m.steps) := by
  rw [tokenizeCmd_writes hs hz hz' ht hlen hmax hlo hhi hup hd0 htokens, Module.complete_contents hs,
    Module.cmdWrite_contents _ _ _ hs, Module.countTokenized_contents]
  rfl

end

/-! #### MOUTH_CARRY_FLUSH (R228, R250) -/

section
variable {c : RunCmd} {m : Module} {id : Nat} {k : Capsule} (hid : id = u32 c.payload 0) (hgen : id % 256 ≠ 255)
  (hk : m.capsule id = some k) (hw : MayWrite m c k)
include hid hgen hk hw

/-- With nothing carried the command completes; a carry that no request takes is discarded. -/
theorem carryFlushCmd_eq (hreq : k.carry ≠ [] → m.requestOf id = none) :
    carryFlushCmd c m =
      (if k.carry = [] then unheld c m else (unheld c m).flushCarry id).ok c (leBytes 1 k.carry.length) := by
  have hn : NamesCapsule m id := ⟨hgen, by rw [hk]; rfl⟩
  obtain rfl : k = m.slot (id / 256) := Option.some.inj (hk.symm.trans (Module.capsule_eq_slot hn.2))
  subst hid
  have hnone : (unheld c m).requestOf (u32 c.payload 0) = m.requestOf (u32 c.payload 0) := rfl
  unfold carryFlushCmd
  rw [Module.checked_act (List.forall_mem_nil _), Module.heldOr_mayWrite hn hw]
  · by_cases hempty : (m.slot (u32 c.payload 0 / 256)).carry = []
    · simp [hempty]
    · simp [hempty, hnone, hreq hempty]
  · obtain ⟨hfence, hown, -⟩ := hw
    refine List.forall_mem_append.mpr ⟨capChecks_pass 0 hn, ?_⟩
    by_cases hempty : (m.slot (u32 c.payload 0 / 256)).carry = []
    · simp [hfence, hown, hempty]
    · simp [hfence, hown, hreq hempty]

end

/-! #### NEXT_MASK_WRITE (R238, R240) -/

/-- The oldest unwritten hand-off of a request writes its next mask and counts (assumption 123: without a grammar the mask is
0xFFFFFFFE). -/
theorem nextMaskWrite_writes {m : Module} {p i : Nat} {l : LiveStep} {q : Seq} {h : HandOff}
    (hoff : (m.pstep p).live.findSome? (fun l => (l.seqs.find? (fun q => q.request == i)).bind (fun q =>
      (q.hands.find? (fun h => !h.written)).map (fun h => (l, q, h)))) = some (l, q, h)) :
    nextMaskWrite p i m =
      let a := m.sampleAddr i
      let mask := ((m.grammarOf q.capsule).map (fun g => g.maskOf h.next)).getD 0xFFFFFFFE
      let count := (m.hbm.num (a + 0x20) 4 + 1) % 2 ^ 32
      let h1 := (m.hbm.putNum (a + 0x1C) 4 mask).putNum (a + 0x20) 4 count
      (({ m with hbm := h1 } : Module).updSeq p l.num i (fun q => { q with
        hands := q.hands.map (fun x => if x.node == h.node then { x with written := true } else x) })).engineSignal h.flag
          7 := by
  unfold nextMaskWrite
  rw [hoff]

/-! #### What a token does to the held text (R231, R233) -/

section
variable {stops : List Bytes} {hold new : Bytes}

/-- Without a stop string the settled text is cut in two: the part released and the part held. -/
theorem detokStep_noStop (incl : Bool) (h : firstStop stops (settle (hold ++ new)).1 = none) :
    ∃ n, detokStep stops incl hold new =
      ((settle (hold ++ new)).1.take n, (settle (hold ++ new)).1.drop n, (settle (hold ++ new)).2, false) := by
  unfold detokStep
  simp only [h]
  exact ⟨_, rfl⟩

/-- With a stop string the text is released up to its end or its start, and nothing is held. -/
theorem detokStep_stop {first last : Nat} (incl : Bool) (h : firstStop stops (settle (hold ++ new)).1 = some (first, last)) :
    detokStep stops incl hold new =
      ((settle (hold ++ new)).1.take (if incl then last else first), [], (settle (hold ++ new)).2, true) := by
  unfold detokStep
  simp only [h]

end

end Sys2Proof.Machine
end

section
open Sys2Proof Sys2Proof.Machine

/-- Settles O45: each outcome of a command is one lemma about its meaning or a branch of its _eq lemma, and the settled text is
cut where detokStep_noStop and detokStep_stop say. The statement has no clause for the BUSY of a grammar's load or unload that
its words name; grammarLoadCmd_eq gives the load's. -/
theorem mouthpieceCommandsAct : Obligations.MouthpieceCommandsAct := by
  unfold Obligations.MouthpieceCommandsAct
  refine ⟨?_, ?_, ?_, ?_, ?_, ?_, ?_, ?_, ?_, ?_, ?_⟩
  · intro s src c id addr len hfresh hz hid haddr hlen hlim halign hbase hend
    have hload := tokenizerLoadCmd_eq (m := s.m) haddr hlen halign hbase hend hz hid hlim
    refine ⟨fun hloaded => does_onCmd rfl hfresh (hload.trans (if_pos hloaded)), fun hfree => ?_⟩
    have himage := hload.trans (if_neg (Bool.eq_false_iff.mp hfree))
    exact ⟨fun hbad => does_onCmd rfl hfresh (himage.trans (if_neg (Bool.eq_false_iff.mp hbad))),
      fun hok => does_onCmd rfl hfresh (himage.trans (if_pos hok))⟩
  · intro s src c id hfresh hz hid hloaded
    exact ⟨fun hnamed => does_onCmd rfl hfresh (tokenizerUnloadCmd_busy hz hid hloaded hnamed),
      fun hfree => does_onCmd rfl hfresh (tokenizerUnloadCmd_unloads hz hid hloaded hfree)⟩
  · intro s src c id addr len g hfresh hz hid haddr hlen hlim halign hbase hend hg hfree
    have himage := (grammarLoadCmd_eq (m := s.m) haddr hlen halign hbase hend hz hid hlim hg).trans
      (if_neg (Bool.eq_false_iff.mp hfree))
    exact ⟨fun hbad => does_onCmd rfl hfresh (himage.trans (if_neg (Bool.eq_false_iff.mp hbad))),
      fun hok => does_onCmd rfl hfresh (himage.trans (if_pos hok))⟩
  · exact fun s src c id hfresh hz hid hloaded hfree =>
      does_onCmd rfl hfresh (grammarUnloadCmd_unloads hz hid hloaded hfree)
  · intro s src c id gid st k g hfresh hz hid hgid hst hgen hk hg htok hsome hstate hw dest
    have hset := grammarSetCmd_eq hz hid hgid hst hgen hk hg htok hsome hstate hw
    refine ⟨fun hnone => ?_, fun i r hreq hin => ?_, fun i r hreq hout => ?_⟩
    · rw [hnone] at hset
      exact does_onCmd rfl hfresh hset
    · rw [hreq] at hset
      exact does_onCmd rfl hfresh (hset.trans (if_pos hin))
    · rw [hreq] at hset
      exact does_onCmd rfl hfresh (hset.trans (if_neg hout))
  · intro s src c set n hfresh hz hset hn hlim hcount
    exact ⟨fun v hfault => does_onCmd rfl hfresh (stopLoadCmd_fault hz hset hn hlim hcount hfault), fun hgood hown hshadow =>
      does_onCmd rfl hfresh (stopLoadCmd_stores hz hset hn hlim hcount hgood hown hshadow)⟩
  · intro s src c i set fl r hfresh hz hi hset hfl hlim hw hstop
    have htext := textSetCmd_eq hz hi hset hfl hlim hw hstop
    refine ⟨fun hend => does_onCmd rfl hfresh (htext.trans (if_pos hend)), fun hin => ?_, fun hout hlive =>
      does_onCmd rfl hfresh ((htext.trans (if_neg hlive)).trans (if_neg hout))⟩
    have hlive : r.state ≠ 5 := by omega
    exact does_onCmd rfl hfresh ((htext.trans (if_neg hlive)).trans (if_pos hin))
  · intro s b len max c t ts reps hfresh hz hz' ht hlen hmax hlo hhi hup hd0 htokens
    obtain ⟨hs, ha⟩ := Module.src_of_cmdOf hfresh.2.1
    have hcontents := tokenizeCmd_contents hs hz hz' ht hlen hmax hlo hhi hup hd0 htokens
    simp only [Module.contents, Prod.mk.injEq] at hcontents
    obtain ⟨hhost, hhbm, hlpddr, hcaps, hsteps⟩ := hcontents
    refine ⟨_, does_onCmd rfl hfresh rfl, hhost, ?_, hhbm, hlpddr, hcaps, hsteps⟩
    rw [tokenizeCmd_writes hs hz hz' ht hlen hmax hlo hhi hup hd0 htokens]
    exact Module.complete_box hs ha
  · intro s src c id k hfresh hid hgen hk hw
    exact ⟨fun hempty => does_onCmd rfl hfresh (by
        rw [carryFlushCmd_eq hid hgen hk hw (absurd hempty), if_pos hempty, hempty]; rfl),
      fun hcarry hnone => does_onCmd rfl hfresh (by
        rw [carryFlushCmd_eq hid hgen hk hw (fun _ => hnone), if_neg hcarry])⟩
  · exact fun s p i l q h hp hl hoff => does_runIf rfl (decide_eq_true hp) hl (nextMaskWrite_writes hoff)
  · intro stops incl hold new r
    cases hstop : firstStop stops (settle (hold ++ new)).1 with
    | none =>
      obtain ⟨n, hn⟩ := detokStep_noStop incl hstop
      have hr : r = _ := hn
      rw [hr]
      exact ⟨fun _ => List.take_append_drop n _, fun h => absurd h Bool.false_ne_true⟩
    | some place =>
      have hr : r = _ := detokStep_stop incl hstop
      rw [hr]
      exact ⟨fun h => absurd h.symm Bool.false_ne_true, fun _ => ⟨rfl, _, (List.take_append_drop _ _).symm⟩⟩

end

/-! ### The Bore units' commands and events (R255 to R285) -/

section
namespace Sys2Proof.Machine
open Sys2Proof

/-- A check that fails with READ_ONLY or NO_SPACE completes the command with that status and changes nothing else. -/
theorem Module.verdict_readOnly (c : RunCmd) (m : Module) : m.verdict c (stop .readOnly) = m.fail c .readOnly := rfl

theorem Module.verdict_noSpace (c : RunCmd) (m : Module) : m.verdict c (stop .noSpace) = m.fail c .noSpace := rfl

/-- A command goes on when it needs no host memory, and else while the link is up and the module is not in D3hot (R436, R437). -/
theorem Module.hostIf_up {c : RunCmd} {need : Bool} {act : Module → Module} {m : Module}
    (h : need = false ∨ (m.host.linkUp = true ∧ m.host.d3hot = false)) :
    (if need = true then m.withHost c act else act m) = act m := by
  rcases h with rfl | ⟨hup, hd0⟩
  · rfl
  · rw [withHost_up hup hd0, ite_self]

/-- A source and a destination that lie in HBM need no host memory. -/
theorem hostNeed_hbm {srcH dstH srcNeeds dstNeeds : Bool} {P : Prop} (h : (srcH = true ∧ dstH = true) ∨ P) :
    ((!srcH && srcNeeds) || (!dstH && dstNeeds)) = false ∨ P := by
  refine h.imp_left ?_
  rintro ⟨rfl, rfl⟩
  rfl

/-! #### BORE_INDEX_CREATE (R255, R258, R280) -/

/-- The index that a payload of BORE_INDEX_CREATE describes at an instant: its command creates it, and no shard is open yet. -/
def createdIndex (c : RunCmd) (now : Nat) : BoreIndex :=
  let b := c.payload
  ⟨u8 b 1, u8 b 2, u8 b 3, u16 b 4, u8 b 6, u8 b 7, recordBytes (u8 b 2) (u16 b 4) (u8 b 6) (u8 b 7), u32 b 8, u32 b 0x0C,
    u16 b 0x10, now, some c.id, none, List.replicate 32 BoreShard.blank⟩

/-- The fields of BORE_INDEX_CREATE pass (R255, R280). -/
structure CreateFields (m : Module) (b : Bytes) : Prop where
  reserved : allZero b 0x12 6 = true
  index : u8 b 0 < 16
  partition : m.present (u8 b 1) = true
  element : u8 b 2 ∈ [0x01, 0x02, 0x04, 0x05, 0x0B, 0x40]
  metric : u8 b 3 ≤ 2
  dims : vecBytes (u8 b 2) (u16 b 4) ≠ 0
  degree : 8 ≤ u8 b 6 ∧ u8 b 6 ≤ 64 ∧ u8 b 6 % 8 = 0
  sketch : 8 ≤ u8 b 7 ∧ u8 b 7 ≤ 64 ∧ u8 b 7 % 8 = 0
  capacity : 1 ≤ u32 b 8 ∧ u32 b 8 ≤ 134217727
  alpha : (fp32.decode (u32 b 0x0C)).isNan = false ∧ (fp32.decode (u32 b 0x0C)).lt (fp32.decode 0x3F800000) = false ∧
    (fp32.decode 0x40000000).lt (fp32.decode (u32 b 0x0C)) = false
  queue : 16 ≤ u16 b 0x10 ∧ u16 b 0x10 ≤ 1024

/-- Flash and the LPDDR pool hold the shards of a further index (R262, R280). -/
def Module.holdsIndex (m : Module) (x : BoreIndex) : Bool :=
  (List.range 32).all (fun k => decide (x.sectors ≤ m.chanFree k)) &&
    decide (m.bore.indexes.vals.foldl (fun n y => n + y.poolBytes) x.poolBytes ≤ m.get Reg.BORE.POOL_SIZE_BYTES)

theorem Module.holdsIndex_iff {m : Module} {x : BoreIndex} :
    m.holdsIndex x = true ↔ (∀ k, k < 32 → x.sectors ≤ m.chanFree k) ∧
      m.bore.indexes.vals.foldl (fun n y => n + y.poolBytes) x.poolBytes ≤ m.get Reg.BORE.POOL_SIZE_BYTES := by
  simp [Module.holdsIndex]

/-- The module with index i made, its extents reserved and its headers written, and the command that waits for it. -/
def Module.createIndex (c : RunCmd) (i : Nat) (x : BoreIndex) (m : Module) : Module :=
  let m0 := m.makeExtents ((List.range 32).map (fun k => (shardExt i k, k, x.sectors)))
  let m1 := { m0 with bore := { m0.bore with indexes := m0.bore.indexes.put i x } }
  let m2 := (List.range 32).foldl (fun (a : Module) k => (a.boreWrite (shardExt i k) [(0, x.header i k [])]).1) m1
  let body := leBytes 2 x.recordBytes ++ zeros 6 ++ leBytes 8 (32 * x.sectors * 4096)
  ((m2.await c []).updCmd c.id (fun r => { r with body := body })).boreRun

/-- A creation whose fields pass is judged by its number, by the flash and by the room. -/
theorem boreCreateCmd_eq {c : RunCmd} {m : Module} (hf : CreateFields m c.payload) :
    boreCreateCmd c m =
      (let i := u8 c.payload 0
       let x := createdIndex c m.clk.now
       if m.bore.indexes.has i || m.ftl.extents.has (shardExt i 0) then m.fail c .busy
       else if m.ftl.readOnly then m.fail c .readOnly
       else if m.holdsIndex x then m.createIndex c i x
       else m.fail c .noSpace) := by
  unfold boreCreateCmd
  rw [Module.checked_reserved (by simpa using hf.reserved), Module.checked_pass (decide_eq_true hf.index),
    Module.checked_pass (show m.partOk _ = true from hf.partition),
    Module.checked_pass (List.contains_iff_mem.mpr hf.element), Module.checked_pass (decide_eq_true hf.metric),
    Module.checked_pass (bne_iff_ne.mpr hf.dims), Module.checked_pass (by simpa [and_assoc] using hf.degree),
    Module.checked_pass (by simpa [and_assoc] using hf.sketch), Module.checked_pass (by simpa using hf.capacity),
    Module.checked_pass (by simpa [and_assoc] using hf.alpha), Module.checked_pass (by simpa using hf.queue),
    Module.checked_cons, Module.checked_cons, Module.checked_cons, Module.checked_nil, Module.verdict_busy,
    Module.verdict_readOnly, Module.verdict_noSpace]
  simp only [← Bool.not_or, Bool.not_eq_true', ← Bool.not_eq_true, ite_not]
  rfl

section
variable {c : RunCmd} {m : Module} (hf : CreateFields m c.payload)
include hf

theorem boreCreateCmd_busy (h : m.bore.indexes.has (u8 c.payload 0) = true) : boreCreateCmd c m = m.fail c .busy := by
  simp [boreCreateCmd_eq hf, h]

section
variable (hnew : m.bore.indexes.has (u8 c.payload 0) = false) (hext : m.ftl.extents.has (shardExt (u8 c.payload 0) 0) = false)
include hnew hext

theorem boreCreateCmd_readOnly (hro : m.ftl.readOnly = true) : boreCreateCmd c m = m.fail c .readOnly := by
  simp [boreCreateCmd_eq hf, hnew, hext, hro]

theorem boreCreateCmd_creates (hrw : m.ftl.readOnly = false) (hroom : m.holdsIndex (createdIndex c m.clk.now) = true) :
    boreCreateCmd c m = m.createIndex c (u8 c.payload 0) (createdIndex c m.clk.now) := by
  simp [boreCreateCmd_eq hf, hnew, hext, hrw, hroom]

end

end

/-! #### BORE_INDEX_DROP and BORE_INDEX_INFO (R281) -/

section
variable {c : RunCmd} {m : Module} {x : BoreIndex} (hget : m.bore.indexes.get (u8 c.payload 0) = some x)
include hget

theorem boreDropCmd_marks (hz : allZero c.payload 1 7 = true) (hdrop : x.dropping = none) :
    boreDropCmd c m =
      (({ m with bore := { m.bore with
        indexes := m.bore.indexes.upd (u8 c.payload 0) (fun x => { x with dropping := some c.id }) } } : Module).await c
          []).boreRun := by
  unfold boreDropCmd
  rw [Module.checked_act (by simpa using hz) (by simp [hget, hdrop])]

theorem boreInfoCmd_answers :
    boreInfoCmd c m =
      (let n (k : BoreShard) (v : Nat) : Nat := (k.states.vals.filter (· == v)).length
       m.ok c (slice (x.header (u8 c.payload 0) 0 (x.shard 0).entries) 0 256 ++ x.shards.flatMap (fun k =>
         leBytes 4 (n k 1) ++ leBytes 4 (n k 2) ++ leBytes 4 (n k 3) ++ leBytes 1 (b2n k.offline) ++ zeros 3))) := by
  unfold boreInfoCmd
  rw [Module.checked_act (List.forall_mem_nil _) (by simp [hget]), hget]

end

/-! #### BORE_QUERY (R257, R263, R277, R282) -/

/-- The shards that a mask names: all of them for 0. -/
def shardsOf (mask : Nat) : List Nat := if mask = 0 then List.range 32 else setBitsOf 32 mask

/-- The shards of a list that are online. -/
def BoreIndex.online (x : BoreIndex) (shards : List Nat) : List Nat := shards.filter (fun k => !(x.shard k).offline)

/-- The fields of BORE_QUERY on an index that is open pass, its places are the partition's, and each unit that it names has room
for a walk (R264, R279, R282). -/
structure QueryFields (m : Module) (c : RunCmd) (b : Bytes) (x : BoreIndex) : Prop where
  reserved : allZero b 7 1 = true ∧ allZero b 0x0A 2 = true ∧ allZero b 0x34 12 = true
  flags : u8 b 1 ≤ 7
  nodes : 1 ≤ u16 b 2 ∧ u16 b 2 ≤ u16 b 4
  queue : u16 b 4 ≤ 1024
  beam : u8 b 6 ≤ 8
  hops : u16 b 8 ≤ 1024
  source : u64 b 0x10 % 8 = 0
  answer : u64 b 0x18 % 16 = 0
  object : u32 b 0x30 = ligNone ∨ ∃ o, m.ligFind (u32 b 0x30) = some o ∧ o.2.kind = 3 ∧ o.2.partition = x.partition
  heard : bit (u8 b 1) 1 = true ∨ m.mute x.partition = false
  host : (bit (u8 b 1) 0 = true ∧ bit (u8 b 1) 1 = true) ∨ (m.host.linkUp = true ∧ m.host.d3hot = false)
  mayRead : m.boreMay c x.partition (bit (u8 b 1) 0) (u64 b 0x10) (roundUp (vecBytes x.element x.dims) 8 + x.sketchBytes)
    false = true
  mayWrite : m.boreMay c x.partition (bit (u8 b 1) 1) (u64 b 0x18) (16 + 16 * u16 b 2) true = true
  ready : x.ready = true
  room : ∀ k ∈ x.online (shardsOf (u32 b 0x0C)), m.unitWalks k < 64

/-- The vector of a query. -/
def Module.queryVec (m : Module) (c : RunCmd) (x : BoreIndex) : Bytes :=
  m.boreRead c (bit (u8 c.payload 1) 0) (u64 c.payload 0x10) (vecBytes x.element x.dims)

/-- The sketch of a query, behind its vector. -/
def Module.querySketch (m : Module) (c : RunCmd) (x : BoreIndex) : Bytes :=
  m.boreRead c (bit (u8 c.payload 1) 0) (u64 c.payload 0x10 + roundUp (vecBytes x.element x.dims) 8) x.sketchBytes

/-- The module with a query that waits for its walks, one on each of the shards that are online. -/
def Module.startQuery (c : RunCmd) (x : BoreIndex) (m : Module) : Module :=
  let b := c.payload
  let i := u8 b 0
  let beam := if u8 b 6 = 0 then m.get Reg.BORE.QUERY_CTRL_BEAM else u8 b 6
  let hops := if u16 b 8 = 0 then m.get Reg.BORE.QUERY_CTRL_MAX_HOPS else u16 b 8
  let shards := shardsOf (u32 b 0x0C)
  let online := x.online shards
  let q : BoreQuery := ⟨c.id, i, u16 b 2, u64 b 0x18, bit (u8 b 1) 1, u32 b 0x30, [], 0, false,
    decide (online.length < shards.length), false⟩
  let m1 := { (m.await c []) with bore := { m.bore with queries := m.bore.queries ++ [q] } }
  (online.foldl (fun (a : Module) u => a.startWalk (.query c.id) i u (m.queryVec c x) (m.querySketch c x) (u16 b 2) (u16 b 4)
    beam hops (bit (u8 b 1) 2) (u64 b 0x20) (u64 b 0x28)) m1).boreRun

/-- The object that a query names passes its three checks. -/
theorem objectChecks_pass {m : Module} {obj p : Nat}
    (h : obj = ligNone ∨ ∃ o, m.ligFind obj = some o ∧ o.2.kind = 3 ∧ o.2.partition = p) :
    (obj == ligNone || (m.ligFind obj).isSome) = true ∧
      (obj == ligNone || ((m.ligFind obj).map (·.2.kind)) == some 3) = true ∧
      (obj == ligNone || ((m.ligFind obj).map (·.2.partition)) == some p) = true := by
  rcases h with rfl | ⟨o, ho, hkind, hpart⟩
  · simp
  · simp [ho, hkind, hpart]

/-- A query whose fields pass is judged by its vector alone (R257). -/
theorem boreQueryCmd_eq {c : RunCmd} {m : Module} {x : BoreIndex} (hget : m.bore.indexes.get (u8 c.payload 0) = some x)
    (hf : QueryFields m c c.payload x) :
    boreQueryCmd c m =
      if vecBad x.metric x.element x.dims (m.queryVec c x) then m.badField c 0x10 else m.startQuery c x := by
  obtain ⟨hstale, hkind, hpart⟩ := objectChecks_pass hf.object
  obtain ⟨hpos, hle⟩ := hf.nodes
  unfold boreQueryCmd
  simp only [hget, Option.map_some, Option.getD_some, beq_iff_eq]
  rw [Module.checked_act (by simpa using hf.reserved), Module.hostIf_up (hostNeed_hbm hf.host)]
  · rfl
  · simp only [List.forall_mem_cons, List.not_mem_nil, false_imp_iff, implies_true, and_true, Bool.and_eq_true,
      decide_eq_true_eq, beq_iff_eq, List.all_eq_true]
    exact ⟨rfl, hf.flags, ⟨hpos, hle.trans hf.queue⟩, ⟨hle, hf.queue⟩, hf.beam, hf.hops, hf.source, hf.answer, hstale, hkind,
      hpart, by rcases hf.heard with h | h <;> simp [h], ⟨hf.mayRead, hf.mayWrite⟩, hf.ready, hf.room⟩

/-! #### BORE_INSERT (R257, R272, R283) -/

/-- The bytes of one entry of a batch. -/
def BoreIndex.entryBytes (x : BoreIndex) : Nat := roundUp (16 + x.sketchBytes + vecBytes x.element x.dims) 64

/-- The fields of BORE_INSERT on an index that is open and that no checkpoint copies pass, and its places are the partition's
(R279, R283, R349). -/
structure InsertFields (m : Module) (c : RunCmd) (b : Bytes) (x : BoreIndex) : Prop where
  reserved : allZero b 5 3 = true
  flags : u8 b 1 ≤ 3
  count : 1 ≤ u16 b 2 ∧ u16 b 2 ≤ 4096
  shard : u8 b 4 ≤ 31 ∨ u8 b 4 = 0xFF
  host : (bit (u8 b 1) 0 = true ∧ bit (u8 b 1) 1 = true) ∨ (m.host.linkUp = true ∧ m.host.d3hot = false)
  mayRead : m.boreMay c x.partition (bit (u8 b 1) 0) (u64 b 8) (x.entryBytes * u16 b 2) false = true
  mayWrite : m.boreMay c x.partition (bit (u8 b 1) 1) (u64 b 0x10) (8 * u16 b 2) true = true
  ready : x.ready = true
  uncopied : m.boreCopied (u8 b 0) = false

/-- Entry k of a batch is taken: it waits for its shard, or ends at once when its vector is out of range, flash is read-only or no
shard takes it (assumption 126: NO_SPACE, also for a named shard that is offline). -/
def Module.takeInsert (c : RunCmd) (x : BoreIndex) (k : Nat) (a : Module) : Module :=
  let b := c.payload
  let i := u8 b 0
  let e := a.boreRead c (bit (u8 b 1) 0) (u64 b 8 + x.entryBytes * k) x.entryBytes
  let v := slice e (16 + x.sketchBytes) (vecBytes x.element x.dims)
  let id := a.bore.nextInsert
  let entry (u : Nat) : BoreInsert := ⟨c.id, k, i, u, u64 e 0, u64 e 8, slice e 16 x.sketchBytes, v, 0, 0⟩
  let add (u : Nat) (a : Module) : Module := { a with bore := { a.bore with
    inserts := a.bore.inserts.put id (entry u), nextInsert := id + 1 } }
  if vecBad x.metric x.element x.dims v then (add 32 a).insertDone id nodeNone .badField
  else if a.ftl.readOnly then (add 32 a).insertDone id nodeNone .readOnly
  else
    match a.insertShard i (u8 b 4) with
    | some u => add u a
    | none => (add 32 a).insertDone id nodeNone .noSpace

theorem boreInsertCmd_takes {c : RunCmd} {m : Module} {x : BoreIndex} (hget : m.bore.indexes.get (u8 c.payload 0) = some x)
    (hf : InsertFields m c c.payload x) :
    boreInsertCmd c m =
      (let batch : BoreBatch := ⟨c.id, u8 c.payload 0, u16 c.payload 2, u64 c.payload 0x10, bit (u8 c.payload 1) 1, []⟩
       let m1 := { (m.await c []) with bore := { m.bore with batches := m.bore.batches ++ [batch] } }
       ((List.range (u16 c.payload 2)).foldl (fun (a : Module) k => a.takeInsert c x k) m1).boreRun) := by
  unfold boreInsertCmd
  simp only [hget, Option.map_some, Option.getD_some]
  rw [Module.checked_act (by simpa using hf.reserved), Module.hostIf_up (hostNeed_hbm hf.host)]
  · rfl
  · simp only [List.forall_mem_cons, List.not_mem_nil, false_imp_iff, implies_true, and_true, Bool.and_eq_true,
      Bool.or_eq_true, decide_eq_true_eq, beq_iff_eq, Bool.not_eq_true']
    exact ⟨rfl, hf.flags, hf.count, hf.shard, ⟨hf.mayRead, hf.mayWrite⟩, hf.ready, hf.uncopied⟩

/-! #### BORE_DELETE (R273, R284) -/

/-- The fields of BORE_DELETE on an index that is open and that no checkpoint copies pass, and its pairs are the partition's
(R279, R284, R349). -/
structure DeleteFields (m : Module) (c : RunCmd) (b : Bytes) (x : BoreIndex) : Prop where
  reserved : allZero b 1 1 = true ∧ allZero b 4 4 = true
  count : 1 ≤ u16 b 2 ∧ u16 b 2 ≤ 4096
  mayRead : m.cmdMay c x.partition (u64 b 8) (16 * u16 b 2) false = true
  ready : x.ready = true
  uncopied : m.boreCopied (u8 b 0) = false
  writable : m.ftl.readOnly = false
  host : m.host.linkUp = true ∧ m.host.d3hot = false

theorem boreDeleteCmd_deletes {c : RunCmd} {m : Module} {x : BoreIndex} (hget : m.bore.indexes.get (u8 c.payload 0) = some x)
    (hf : DeleteFields m c c.payload x) :
    boreDeleteCmd c m =
      (let pairs := m.cmdRead c (u64 c.payload 8) (16 * u16 c.payload 2)
       let r := (List.range (u16 c.payload 2)).foldl (fun (acc : Nat × Module) k =>
         let d := acc.2.deleteOne (u8 c.payload 0) (u32 pairs (16 * k)) (u64 pairs (16 * k + 8))
         (acc.1 + b2n d.1, d.2)) (0, m)
       ((r.2.await c [0xB0E, u8 c.payload 0, r.1, u16 c.payload 2 - r.1]).deletesDone).boreShow.boreArbiters) := by
  unfold boreDeleteCmd
  simp only [hget, Option.map_some, Option.getD_some]
  rw [Module.checked_reserved (by simpa using hf.reserved), Module.checked_pass Option.isSome_some,
    Module.checked_pass (by simpa using hf.count), Module.checked_pass hf.mayRead,
    Module.checked_pass (by simp [hf.ready, hf.uncopied]), Module.checked_pass (by simp [hf.writable]), Module.checked_nil,
    Module.hostIf_up (.inr hf.host)]

section
variable {m m1 : Module} {i node label : Nat} {x : BoreIndex} {rb : Bytes} (hget : m.bore.indexes.get i = some x)
  (honline : (x.shard (node % 32)).offline = false) (hlive : (x.shard (node % 32)).states.get (node / 32) = some 1)
  (hfetch : m.boreFetch i (node % 32) (node / 32) = (some rb, m1))
include hget honline hlive hfetch

/-- A LIVE node under another label is left as it stands. -/
theorem Module.deleteOne_otherLabel (hl : u64 rb 8 ≠ label) : m.deleteOne i node label = (false, m1) := by
  unfold Module.deleteOne
  simp [hget, honline, hlive, hfetch, hl]

/-- A LIVE node under its label becomes a TOMBSTONE once its record is stored. -/
theorem Module.deleteOne_stored {m2 : Module} (hl : u64 rb 8 = label)
    (hstore : m1.boreStore i (node % 32) (node / 32) (x.edit rb 2 (recNeighbours rb)) false = (m2, true)) :
    m.deleteOne i node label = (true, (m2.updShard i (node % 32) (fun k =>
      { k with states := k.states.put (node / 32) 2 })).bump Reg.BORE.DELETES_COUNT) := by
  unfold Module.deleteOne
  simp [hget, honline, hlive, hfetch, hl, hstore]

end

/-! #### BORE_REPAIR and REPAIR_PASS (R275, R285) -/

section
variable {c : RunCmd} {m : Module} {x : BoreIndex} (hget : m.bore.indexes.get (u8 c.payload 0) = some x)
  (hz : allZero c.payload 1 3 = true) (hready : x.ready = true) (hcopy : m.boreCopied (u8 c.payload 0) = false)
  (hrw : m.ftl.readOnly = false)
include hget hz hready hcopy hrw

/-- A repair whose fields pass starts a pass on each named shard that is online, and is done at once when there is none. -/
theorem boreRepairCmd_eq :
    boreRepairCmd c m =
      if x.online (shardsOf (u32 c.payload 4)) = [] then m.ok c (leBytes 4 0)
      else ((x.online (shardsOf (u32 c.payload 4))).foldl (fun (a : Module) k => a.startPass (u8 c.payload 0) k (some c.id))
        (m.await c [0])).boreRun := by
  unfold boreRepairCmd
  simp only [hget, Option.map_some, Option.getD_some]
  rw [Module.checked_act (by simpa using hz) (by simp [hready, hcopy, hrw])]
  simp only [List.isEmpty_iff, beq_iff_eq]
  rfl

end

/-- Tombstones that have reached their share of the LIVE records start a pass on a shard that has none. -/
theorem repairPass_starts {m : Module} {i k : Nat} {x : BoreIndex} (hget : m.bore.indexes.get i = some x)
    (hready : x.ready = true) (honline : (x.shard k).offline = false) (hauto : m.flag Reg.BORE.REPAIR_CTRL_AUTO = true)
    (hrw : m.ftl.readOnly = false) (hcopy : m.boreCopied i = false)
    (hidle : ∀ p ∈ m.bore.passes.vals, ¬(p.index = i ∧ p.shard = k))
    (htombs : 0 < ((x.shard k).states.vals.filter (· == 2)).length)
    (hshare : m.get Reg.BORE.REPAIR_CTRL_TOMB_PCT * ((x.shard k).states.vals.filter (· == 1)).length ≤
      100 * ((x.shard k).states.vals.filter (· == 2)).length) :
    repairPass i k m = (m.startPass i k none).boreRun := by
  have hnone : m.bore.passes.vals.all (fun p => !(p.index == i && p.shard == k)) = true := by
    simpa [List.all_eq_true, ← not_and_or] using hidle
  unfold repairPass
  simp only [hget, hready, honline, hauto, hrw, hcopy, hnone, decide_eq_true htombs, decide_eq_true hshare, Bool.not_false,
    Bool.and_self, if_true]

/-! #### BORE_RECORD_ARRIVAL (R263, R266) -/

theorem recordArrival_walk {m : Module} {id node corrected : Nat} {failed : Bool} {w : BoreWalk}
    (hw : m.bore.walks.get id = some w) (hread : w.reads.contains node = true) :
    recordArrival id node corrected failed m =
      (((m.boreMedia (w.places.get node) w.index (node / 32) corrected failed).boreExpand id node failed).boreDrop
        (w.places.get node) (((m.bore.indexes.get w.index).map (·.partition)).getD 8) w.shard).boreRun := by
  unfold recordArrival
  simp only [hw, hread, Bool.not_true]
  rfl

/-- What queueing neighbours leaves of a walk: what it found, its reads and its count stay, and no visited node is forgotten. -/
structure BoreWalk.Widens (w w' : BoreWalk) : Prop where
  found : w'.found = w.found
  reads : w'.reads = w.reads
  expansions : w'.expansions = w.expansions
  visited : ∀ n ∈ w.visited, n ∈ w'.visited

theorem BoreWalk.Widens.refl (w : BoreWalk) : w.Widens w := ⟨rfl, rfl, rfl, fun _ h => h⟩

theorem BoreWalk.Widens.trans {a b c : BoreWalk} (h : a.Widens b) (h' : b.Widens c) : a.Widens c :=
  ⟨h'.found.trans h.found, h'.reads.trans h.reads, h'.expansions.trans h.expansions, fun n hn => h'.visited n (h.visited n hn)⟩

theorem BoreWalk.visit_widens (sh : BoreShard) (w : BoreWalk) (n : Nat) : w.Widens (w.visit sh n) := by
  unfold BoreWalk.visit
  split
  · exact .refl w
  · exact ⟨rfl, rfl, rfl, fun _ h => List.mem_append_left _ h⟩

theorem BoreWalk.mem_visit (sh : BoreShard) (w : BoreWalk) (n : Nat) : n ∈ (w.visit sh n).visited := by
  unfold BoreWalk.visit
  split
  · next h => exact List.contains_iff_mem.mp h
  · exact List.mem_append_right _ (List.mem_singleton_self n)

/-- The walk with each node of a list visited. -/
def BoreWalk.visitAll (x : BoreIndex) (ns : List Nat) (w : BoreWalk) : BoreWalk :=
  ns.foldl (fun w n => w.visit (x.shard w.shard) n) w

theorem BoreWalk.visitAll_widens (x : BoreIndex) (ns : List Nat) (w : BoreWalk) : w.Widens (w.visitAll x ns) := by
  induction ns generalizing w with
  | nil => exact .refl w
  | cons n ns ih => exact (w.visit_widens _ n).trans (ih _)

theorem BoreWalk.mem_visitAll (x : BoreIndex) {ns : List Nat} {n : Nat} (hn : n ∈ ns) (w : BoreWalk) :
    n ∈ (w.visitAll x ns).visited := by
  induction ns generalizing w with
  | nil => cases hn
  | cons k ns ih =>
    rcases List.mem_cons.mp hn with rfl | hn
    · exact (visitAll_widens x ns _).visited _ (w.mem_visit _ n)
    · exact ih hn _

/-- A good record is offered when it is LIVE, passes the filter and its distance is no NaN (R263, R266). -/
def BoreWalk.offers (w : BoreWalk) (x : BoreIndex) (rb : Bytes) : Bool :=
  recState rb == 1 && w.passes (u64 rb 0x10) && !(fp32.decode (distOf x.metric x.element x.dims w.vec (x.recVector rb))).isNan

/-- A node as a walk finds it. -/
def BoreWalk.hit (w : BoreWalk) (x : BoreIndex) (node : Nat) (rb : Bytes) : BoreHit :=
  ⟨distOf x.metric x.element x.dims w.vec (x.recVector rb), node, u64 rb 8⟩

/-- A good record leaves the walk's reads, is offered, and its neighbours are queued. -/
theorem Module.boreExpand_good {m : Module} {id node : Nat} {w : BoreWalk} {x : BoreIndex} {rb : Bytes}
    (hw : m.bore.walks.get id = some w) (hx : m.bore.indexes.get w.index = some x)
    (hrb : m.boreRecordAt (w.places.get node) w.index w.shard (node / 32) = some rb) (hok : x.recOk rb = true) :
    ∃ w2 : BoreWalk, (m.boreExpand id node false).bore.walks.get id = some (w2.visitAll x (recNeighbours rb)) ∧
      w2.found = (if w.offers x rb then leastHits w.k (w.found ++ [w.hit x node rb]) else w.found) ∧
      w2.reads = w.reads.filter (· != node) ∧ w2.expansions = w.expansions ∧ w2.visited = w.visited := by
  unfold Module.boreExpand
  simp only [hw, hx, hrb, hok, Bool.not_true, Bool.or_self, Bool.false_eq_true, if_false, KMap.get_put_same]
  refine ⟨_, rfl, ?_⟩
  cases h : w.offers x rb <;> simp only [BoreWalk.offers] at h <;> simp [h, BoreWalk.hit]

/-! #### SHARD_OPEN (R277) -/

/-- What a sector reads as is the flash layer's alone. -/
theorem Module.boreSector_congr {m n : Module} (h : m.ftl = n.ftl) (ext k : Nat) : m.boreSector ext k = n.boreSector ext k := by
  simp only [Module.boreSector, Module.ftlRead, Module.ftlLoc, Module.chan, h]

section
variable {m : Module} {i k : Nat} {x : BoreIndex} (hget : m.bore.indexes.get i = some x) (hnew : (x.shard k).opened = false)
include hget hnew

/-- A shard whose header is not good stays offline, and the module reports it. -/
theorem shardOpen_offline (hbad : ∀ h, m.boreSector (shardExt i k) 0 = some h → headerOk h i k = false) :
    shardOpen i k m =
      (let m0 := m.bumpBy Reg.BORE.SECTOR_READS_COUNT x.sectors
       (((m0.updShard i k (fun r => { r with opened := true, offline := true })).set Reg.BORE.STATUS_SHARD_OFFLINE 1).event
         0x0802 x.partition 2 i k).finishCreates.boreShow.boreArbiters) := by
  have hnone : ((m.bumpBy Reg.BORE.SECTOR_READS_COUNT x.sectors).boreSector (shardExt i k) 0).filter
      (fun b => headerOk b i k) = none := by
    rw [Module.boreSector_congr (Module.bumpBy_ftl ..), Option.filter_eq_none_iff]
    exact fun h hh => Bool.eq_false_iff.mp (hbad h hh)
  unfold shardOpen
  simp only [hget, hnew, hnone, Bool.false_eq_true, if_false]

/-- A shard whose header is good holds what its records say, each PENDING one as a TOMBSTONE. -/
theorem shardOpen_opens {h : Bytes} (hsec : m.boreSector (shardExt i k) 0 = some h) (hgood : headerOk h i k = true) :
    shardOpen i k m =
      (let m0 := m.bumpBy Reg.BORE.SECTOR_READS_COUNT x.sectors
       let recs := (m0.writtenRecords i k x).filterMap (fun r => (m0.boreRecord i k r).map (fun b => (r, b)))
       let live := recs.filter (fun p => decide (1 ≤ recState p.2) && decide (recState p.2 ≤ 3))
       let m1 := live.foldl (fun (a : Module) p =>
         if recState p.2 == 3 then (a.boreStore i k p.1 (x.edit p.2 2 (recNeighbours p.2)) false).1 else a) m0
       let states := live.foldl (fun (t : KMap Nat) p => t.put p.1 (if recState p.2 == 3 then 2 else recState p.2)) []
       let sketches := live.foldl (fun (t : KMap Bytes) p => t.put p.1 (x.recSketch p.2)) []
       let entries := (List.range (Min.min (u8 h 0x0F) 64)).map (fun j => u32 h (0x100 + 4 * j))
       ((m1.updShard i k (fun _ => ⟨true, false, states, sketches, entries⟩)).finishCreates).boreShow.boreArbiters) := by
  have hsome : ((m.bumpBy Reg.BORE.SECTOR_READS_COUNT x.sectors).boreSector (shardExt i k) 0).filter
      (fun b => headerOk b i k) = some h := by
    rw [Module.boreSector_congr (Module.bumpBy_ftl ..), hsec, Option.filter_some, if_pos hgood]
  unfold shardOpen
  simp only [hget, hnew, hsome, Bool.false_eq_true, if_false]

end

/-! #### The k least of a list (R263, R265) -/

theorem mem_insertBy {α : Type} {le : α → α → Bool} {a b : α} {l : List α} : b ∈ insertBy le a l ↔ b = a ∨ b ∈ l := by
  induction l with
  | nil => simp [insertBy]
  | cons x xs ih =>
    unfold insertBy
    split
    · rw [List.mem_cons, ih, List.mem_cons, or_left_comm]
    · exact List.mem_cons

theorem mem_sortBy {α : Type} {le : α → α → Bool} {b : α} {l : List α} : b ∈ sortBy le l ↔ b ∈ l := by
  have go : ∀ (acc : List α), b ∈ l.foldl (fun acc a => insertBy le a acc) acc ↔ b ∈ l ∨ b ∈ acc := by
    induction l with
    | nil => simp
    | cons a l ih =>
      intro acc
      rw [List.foldl_cons, ih, mem_insertBy, List.mem_cons, or_left_comm, or_assoc]
  exact (go []).trans (by simp)

theorem length_leastHits_le (k : Nat) (l : List BoreHit) : (leastHits k l).length ≤ k := List.length_take_le _ _

theorem mem_of_mem_leastHits {k : Nat} {l : List BoreHit} {h : BoreHit} (hh : h ∈ leastHits k l) : h ∈ l :=
  mem_sortBy.mp (List.mem_of_mem_take hh)

end Sys2Proof.Machine
end

section
open Sys2Proof Sys2Proof.Machine

/-- Settles O46: each command whose fields pass is one lemma about its meaning, a record that a walk takes is
boreExpand_good with what queueing neighbours keeps (BoreWalk.visitAll_widens), a shard's opening turns on its header, and the
least of a list come from it since sorting keeps membership. An entry for a named shard that is offline ends with NO_SPACE by
assumption 126. -/
theorem boreCommandsAct : Obligations.BoreCommandsAct := by
  unfold Obligations.BoreCommandsAct
  refine ⟨?_, ?_, ?_, ?_, ?_, ?_, ?_, ?_, ?_, ?_, ?_, ?_, fun k l => ⟨length_leastHits_le k l, fun h => mem_of_mem_leastHits⟩⟩
  · intro s src c b i al x hfresh hb hz hi hal hx hlim hpart hel hmetric hdims hdeg hdeg' hdeg8 hsk hsk' hsk8 hcap hcap'
      hnan hone htwo hq hq'
    subst hb hi hal hx
    have hf : CreateFields s.m c.payload := ⟨hz, hlim, hpart, hel, hmetric, hdims, ⟨hdeg, hdeg', hdeg8⟩, ⟨hsk, hsk', hsk8⟩,
      ⟨hcap, hcap'⟩, ⟨hnan, hone, htwo⟩, hq, hq'⟩
    exact ⟨fun hhas => does_onCmd rfl hfresh (boreCreateCmd_busy hf hhas), fun hnew hext =>
      ⟨fun hro => does_onCmd rfl hfresh (boreCreateCmd_readOnly hf hnew hext hro), fun hrw hflash hpool =>
        does_onCmd rfl hfresh (boreCreateCmd_creates hf hnew hext hrw (Module.holdsIndex_iff.mpr ⟨hflash, hpool⟩))⟩⟩
  · intro s src c i x hfresh hz hi hget hdrop
    subst hi
    exact does_onCmd rfl hfresh (boreDropCmd_marks hget hz hdrop)
  · intro s src c i x hfresh hi hget
    subst hi
    exact does_onCmd rfl hfresh (boreInfoCmd_answers hget)
  · intro s src c b v sk i fl k beam hops srcH dstH x shards online hfresh hb hz hz' hz'' hi hfl hk hget hflags hpos hle hqueue
      hbeam8 hhops hsrc hdst hobj hsrcH hdstH hheard hhost hread hwrite hready hbeam hhops' hshards honline hroom hv hsk
    subst hb hi hfl hk hsrcH hdstH hbeam hhops' hshards honline hv hsk
    have hquery := boreQueryCmd_eq hget ⟨⟨hz, hz', hz''⟩, hflags, ⟨hpos, hle⟩, hqueue, hbeam8, hhops, hsrc, hdst, hobj, hheard,
      hhost, hread, hwrite, hready, hroom⟩
    exact ⟨fun hbad => does_onCmd rfl hfresh (hquery.trans (if_pos hbad)), fun hgood =>
      does_onCmd rfl hfresh (hquery.trans (if_neg (Bool.eq_false_iff.mp hgood)))⟩
  · intro s src c b i fl n srcH dstH x hfresh hb hz hi hfl hget hflags hpos hmax hshard hsrcH hdstH hhost hn hread hwrite
      hready hcopy
    subst hb hi hfl hsrcH hdstH hn
    exact does_onCmd rfl hfresh
      (boreInsertCmd_takes hget ⟨hz, hflags, ⟨hpos, hmax⟩, hshard, hhost, hread, hwrite, hready, hcopy⟩)
  · intro s src c b i x hfresh hb hz hz' hi hget hpos hmax hread hready hcopy hrw hup hd0
    subst hb hi
    exact does_onCmd rfl hfresh
      (boreDeleteCmd_deletes hget ⟨⟨hz, hz'⟩, ⟨hpos, hmax⟩, hread, hready, hcopy, hrw, hup, hd0⟩)
  · exact fun m i node label x rb m1 m2 hget honline hlive hfetch =>
      ⟨Module.deleteOne_otherLabel hget honline hlive hfetch, Module.deleteOne_stored hget honline hlive hfetch⟩
  · intro s src c i x shards hfresh hz hi hget hready hcopy hrw hshards
    subst hi hshards
    have hrepair := boreRepairCmd_eq hget hz hready hcopy hrw
    exact ⟨fun hnone => does_onCmd rfl hfresh (hrepair.trans (if_pos hnone)), fun hsome =>
      does_onCmd rfl hfresh (hrepair.trans (if_neg hsome))⟩
  · exact fun s id node corrected failed w hl hw hread => does_run rfl hl (recordArrival_walk hw hread)
  · intro m id node w x rb hw hx hrb hok
    obtain ⟨w2, hput, hfound, hreads, hexps, hvisited⟩ := Module.boreExpand_good hw hx hrb hok
    have hkeeps := BoreWalk.visitAll_widens x (recNeighbours rb) w2
    exact ⟨_, hput, hkeeps.found.trans hfound, hkeeps.reads.trans hreads, hkeeps.expansions.trans hexps,
      fun n hn => hkeeps.visited n (hvisited ▸ hn), fun n hn => BoreWalk.mem_visitAll x hn w2⟩
  · intro s i k x hi hk hl hget hready honline hauto hrw hcopy hidle n htombs hshare
    exact does_runIf rfl (by simp [hi, hk]) hl (repairPass_starts hget hready honline hauto hrw hcopy hidle htombs hshare)
  · intro s i k x hi hk hl hget hnew
    have hplace : (decide (i < 16) && decide (k < 32)) = true := by simp [hi, hk]
    exact ⟨fun hbad => does_runIf rfl hplace hl (shardOpen_offline hget hnew hbad), fun h hsec hgood =>
      does_runIf rfl hplace hl (shardOpen_opens hget hnew hsec hgood)⟩

end

/-! ### A statement that fails: NAND_TEMP_SAMPLE when a strand's flush waits (R306, R309, R371) -/

section
namespace Sys2Proof.Machine
open Sys2Proof

/-- A flush that the strand of issue 0 has handed to the flash layer, and that waits for every channel's flush record. -/
def strandFlush : RunCmd := { firstCommand 0x0901 [] with src := .eiss 0, stage := .waiting, data := [0x295] }

/-- The state in which that flush waits for channel 0, which has paused at 95 °C. Its completion block is the HBM from 0x8000,
where the first byte holds 1. -/
def strandFlushWaits : State :=
  ⟨[], { soleCommand strandFlush with
    hbm := [(0x8000, 1)]
    strand := { Module.reset.strand with issued := [(0, ⟨0, 0, 0, 0x4000008000, ligNone⟩)] }
    ftl := { FtlSt.reset with chans := [(0, { FChan.blank with temp := 95, paused := true })], due := [0] } }⟩

/-- A sample in which every channel stands at 25 °C. -/
def coolSample : List Int := List.replicate 32 25

/-- HBM in the state that an outcome answers. -/
def hbmAfter : Out → Option Mem
  | .next t => some t.m.hbm
  | _ => none

end Sys2Proof.Machine
end

section
open Sys2Proof Sys2Proof.Machine

/-- Refutes O47: the NAND_TEMP_SAMPLE clause says that HBM stays. A sample that finds the last due channel cooled runs its flush
and completes the commands that wait for one, and a command that a strand issued is answered in its completion block (R371): here
the block lies in HBM, and its first byte goes from 1 to 0, the code of OK. The clause lacks the premise that no command of a
strand waits for a flush; R371 lets strands issue none that does, but a state may hold one. -/
theorem not_flashKeepsWhatItAccepts : ¬ Obligations.FlashKeepsWhatItAccepts := by
  unfold Obligations.FlashKeepsWhatItAccepts
  rintro ⟨-, -, -, -, -, -, -, -, -, -, -, -, -, -, -, hsample, -⟩
  have hlive : strandFlushWaits.m.live = true := by decide +kernel
  obtain ⟨t, ht, -, -, -, -, -, hkept, -⟩ := hsample strandFlushWaits coolSample hlive (by decide) (by decide)
  have hwritten : hbmAfter (exec (.nandTempSample coolSample) strandFlushWaits) = some [] := by decide +kernel
  rw [ht, hbmAfter, hkept] at hwritten
  exact absurd hwritten (by decide +kernel)

end

/-! ### The mirror engine's commands, heartbeats, silences, leases and lanes (R312, R322 to R327, R334 to R339) -/

section
namespace Sys2Proof.Machine
open Sys2Proof

/-- The capsule that an ID names stands in its slot. -/
theorem Module.slot_of_capsule {m : Module} {id : Nat} {k : Capsule} (h : m.capsule id = some k) : m.slot (id / 256) = k := by
  rw [Module.capsule_eq_slot (Option.isSome_of_mem h)] at h
  exact Option.some.inj h

theorem namesCapsule_of_capsule {m : Module} {id : Nat} {k : Capsule} (hgen : id % 256 ≠ 255) (h : m.capsule id = some k) :
    NamesCapsule m id ∧ m.slot (id / 256) = k :=
  ⟨⟨hgen, Option.isSome_of_mem h⟩, Module.slot_of_capsule h⟩

/-! #### MIRROR_PAIR, MIRROR_FENCE and MIRROR_RESYNC (R334, R338, R339) -/

section
variable {c : RunCmd} {m : Module} (hz : allZero c.payload 1 7 = true)
include hz

theorem mirrorPairCmd_busy (hmode : u8 c.payload 0 ≤ 1) (hs : m.mirror.state ∈ [2, 3, 4]) :
    mirrorPairCmd c m = m.fail c .busy := by
  have hpairs : (m.mirror.state != 2 && m.mirror.state != 3 && m.mirror.state != 4) = false := by
    simpa [or_iff_not_imp_left] using hs
  unfold mirrorPairCmd
  rw [← Module.verdict_busy, Module.checked_fail (by simpa using hz)]
  simp [firstFail, hmode, hpairs]

section
variable (hnone : m.mirror.pairCmd = none)
include hnone

theorem mirrorPairCmd_solo (hone : u8 c.payload 0 = 1) (hs : m.mirror.state = 0) :
    mirrorPairCmd c m = m.enterLost.ok c [] := by
  unfold mirrorPairCmd
  rw [Module.checked_act (by simpa using hz) (by simp [hone, hs, hnone])]
  simp [hone]

theorem mirrorPairCmd_pairs (hzero : u8 c.payload 0 = 0) (hs : m.mirror.state ∈ [0, 5, 6]) :
    mirrorPairCmd c m =
      ((({ m with mirror := { m.mirror with expect := u64 c.payload 8, pairCmd := some c.id } } : Module).await c []).sendHello
        false) := by
  have hfree : m.mirror.state ≠ 2 ∧ m.mirror.state ≠ 3 ∧ m.mirror.state ≠ 4 := by
    simp only [List.mem_cons, List.not_mem_nil, or_false] at hs
    omega
  unfold mirrorPairCmd
  rw [Module.checked_act (by simpa using hz) (by simp [hzero, hfree, hnone])]
  simp [hzero]

end

theorem mirrorFenceCmd_busy (hmode : u8 c.payload 0 ≤ 1) (hs : m.mirror.state ∈ [0, 6]) :
    mirrorFenceCmd c m = m.fail c .busy := by
  have hserves : (m.mirror.state != 0 && m.mirror.state != 6) = false := by
    simpa [or_iff_not_imp_left] using hs
  unfold mirrorFenceCmd
  rw [← Module.verdict_busy, Module.checked_fail (by simpa using hz)]
  simp [firstFail, hmode, hserves]

section
variable (hs : m.mirror.state ∉ [0, 6])
include hs

/-- MIRROR_FENCE with NOW sends its note with ARG0 1 (assumption 143) and fences. -/
theorem mirrorFenceCmd_now (hone : u8 c.payload 0 = 1) :
    mirrorFenceCmd c m = ((m.send 0x15 0xFF 0 0 capNone 1 0 []).enterFenced).ok c [] := by
  unfold mirrorFenceCmd
  rw [Module.checked_act (by simpa using hz) (by simpa [hone] using hs)]
  simp [hone]

theorem mirrorFenceCmd_drains (hzero : u8 c.payload 0 = 0) (hd : m.mirror.draining = false) :
    mirrorFenceCmd c m =
      ((({ m with mirror := { m.mirror with draining := true, fenceCmd := some c.id } } : Module).await c []).drainOn) := by
  unfold mirrorFenceCmd
  rw [Module.checked_act (by simpa using hz) (by simpa [hzero, hd] using hs)]
  simp [hzero]

end

section
variable (hmode : u8 c.payload 0 ≤ 1)
include hmode

theorem mirrorResyncCmd_busy (hs : m.mirror.state ≠ 3) : mirrorResyncCmd c m = m.fail c .busy := by
  unfold mirrorResyncCmd
  rw [← Module.verdict_busy, Module.checked_fail (by simpa using hz)]
  simp [firstFail, hmode, hs]

/-- A PAIRED module in whose resync queue no slot stands becomes the source (R339). -/
theorem mirrorResyncCmd_starts (hs : m.mirror.state = 3) (hq : m.mirror.queue = []) :
    mirrorResyncCmd c m = (m.startResync (u8 c.payload 0 == 1) false).ok c [] := by
  unfold mirrorResyncCmd
  rw [Module.checked_act (by simpa using hz) (by simp [hmode, hs])]
  simp [hq]

end

end

/-! #### MIRROR_HANDOVER, MIRROR_CLAIM and MIRROR_TAKEOVER (R336, R337) -/

section
variable {c : RunCmd} {m : Module}

section
variable (hz : allZero c.payload 4 4 = true) (hn : NamesCapsule m (u32 c.payload 0))
include hz hn

section
variable {k : Capsule} (hk : m.slot (u32 c.payload 0 / 256) = k)
include hk

theorem mirrorHandoverCmd_denied (ho : m.owns k = false) : mirrorHandoverCmd c m = m.fail c .denied := by
  unfold mirrorHandoverCmd
  rw [← Module.verdict_denied, Module.checked_fail (by simpa using hz)]
  rw [firstFail_append (capChecks_pass 0 hn), hk]
  simp [firstFail, ho]

theorem mirrorHandoverCmd_busy (ho : m.owns k = true) (hs : m.mirror.state ≠ 3) :
    mirrorHandoverCmd c m = m.fail c .busy := by
  unfold mirrorHandoverCmd
  rw [← Module.verdict_busy, Module.checked_fail (by simpa using hz)]
  rw [firstFail_append (capChecks_pass 0 hn), hk]
  simp [firstFail, ho, hs]

/-- The lease of an owned capsule that is IDLE or PARKED goes to the partner of a PAIRED module, and the command waits. -/
theorem mirrorHandoverCmd_handsOver (ho : m.owns k = true) (hw : MayWrite m c k) (hks : k.state = 1 ∨ k.state = 4)
    (hs : m.mirror.state = 3) :
    mirrorHandoverCmd c m = ((unheld c m).handOver (u32 c.payload 0) (some c.id)).await c [] := by
  subst hk
  unfold mirrorHandoverCmd
  rw [Module.checked_act (by simpa using hz), Module.heldOr_mayWrite hn hw]
  rw [List.forall_mem_append]
  exact ⟨capChecks_pass 0 hn, by simp [ho, hs, hks]⟩

/-- A LOST module claims a capsule that it does not own. -/
theorem mirrorClaimCmd_claims (hs : m.mirror.state = 5) (ho : m.owns k = false) :
    mirrorClaimCmd c m = (m.claim (u32 c.payload 0) 0).ok c [] := by
  unfold mirrorClaimCmd
  rw [Module.checked_act (by simpa using hz), hk]
  · simp [ho]
  rw [List.forall_mem_append]
  exact ⟨capChecks_pass 0 hn, by simp [Module.lost, hs]⟩

end

theorem mirrorClaimCmd_denied (hs : m.mirror.state ≠ 5) : mirrorClaimCmd c m = m.fail c .denied := by
  unfold mirrorClaimCmd
  rw [← Module.verdict_denied, Module.checked_fail (by simpa using hz)]
  rw [firstFail_append (capChecks_pass 0 hn)]
  simp [firstFail, Module.lost, hs]

end

theorem mirrorTakeoverCmd_denied (hs : m.mirror.state ≠ 5) : mirrorTakeoverCmd c m = m.fail c .denied := by
  unfold mirrorTakeoverCmd
  rw [← Module.verdict_denied, Module.checked_fail (List.forall_mem_nil _)]
  simp [firstFail, Module.lost, hs]

theorem mirrorTakeoverCmd_takesOver (hs : m.mirror.state = 5) : mirrorTakeoverCmd c m = m.takeover.ok c [] := by
  unfold mirrorTakeoverCmd
  rw [Module.checked_act (List.forall_mem_nil _) (by simp [Module.lost, hs])]

end

/-! #### Heartbeats and silences (R316, R326, R327) -/

section
variable {m : Module}

/-- Link heartbeats leave LINK_HB_US apart (R326). -/
theorem exec_linkHeartbeatTick (s : State) : exec .linkHeartbeatTick s =
    runAt (fun m => m.mirror.lastTick + us (m.get Reg.MIRROR.HB_LINK_HB_US)) linkBeat s := rfl

theorem ackTick_due (h : m.mirror.ackDue = true) : ackTick m = m.sendAck := by simp [ackTick, h]

/-- Network heartbeats leave NET_HB_MS apart (R326). -/
theorem exec_netHeartbeatTick (s : State) : exec .netHeartbeatTick s =
    runAt (fun m => m.mirror.lastNetTick + ms (m.get Reg.MIRROR.HB_NET_HB_MS)) netBeat s := rfl

@[simp] theorem Module.advanceTo_ownEndpoint (due kind part serial : Nat) (m : Module) :
    (m.advanceTo due).ownEndpoint kind part serial = m.ownEndpoint kind part serial := by
  simp [Module.ownEndpoint]

/-- The network heartbeat goes to the partner's endpoint (R470). -/
theorem netBeat_sends {e : MapEntry} (h : m.ownEndpoint 5 0xFF m.mirror.partnerSerial = some e) :
    netBeat m =
      ({ m with mirror := { m.mirror with lastNetTick := m.clk.mono } } : Module).sessPut e.endpoint
        (((m.ownEndpoint 5 0xFF ownSerial).map (·.endpoint)).getD 0) 16 8 capNone
        (leBytes 1 m.mirror.state ++ leBytes 1 m.mirror.linkId ++ zeros 2 ++ leBytes 4 m.mirror.epoch ++
          leBytes 8 ownSerial ++ leBytes 8 m.clk.now) := by
  have hto : ({ m with mirror := { m.mirror with lastNetTick := m.clk.mono } } : Module).ownEndpoint 5 0xFF
      m.mirror.partnerSerial = some e := h
  simp only [netBeat, hto]
  rfl

/-- LINK_SILENT is due LINK_SILENT_MS after the last record (R326). -/
theorem exec_linkSilent (s : State) : exec .linkSilent s =
    runAt (fun m => if m.mirror.state == 2 || m.mirror.state == 3 then
      m.mirror.lastRecord + ms (m.get Reg.MIRROR.HB_LINK_SILENT_MS) else 0) linkSilent s := rfl

theorem linkSilent_down (hs : m.mirror.state = 2 ∨ m.mirror.state = 3)
    (hd : m.mirror.lastRecord + ms (m.get Reg.MIRROR.HB_LINK_SILENT_MS) ≤ m.clk.mono) :
    linkSilent m =
      ({ m with mirror := { m.mirror with before := m.mirror.state, state := 4 } } : Module).bump
        Reg.MIRROR.LINK_DOWNS_COUNT := by
  simp [linkSilent, hs, hd]

/-- NET_SILENT is due NET_SILENT_MS after the last network heartbeat (R326). -/
theorem exec_netSilent (s : State) : exec .netSilent s =
    runAt (fun m => if m.mirror.state == 4 then m.mirror.lastNet + ms (m.get Reg.MIRROR.HB_NET_SILENT_MS) else 0)
      netSilent s := rfl

theorem netSilent_judges (hs : m.mirror.state = 4)
    (hd : m.mirror.lastNet + ms (m.get Reg.MIRROR.HB_NET_SILENT_MS) ≤ m.clk.mono) :
    netSilent m = if m.etherDown then m.enterFenced else m.enterLost := by
  simp [netSilent, hs, hd]

/-- A network heartbeat of the partner is noted, and judges this module in LINK_DOWN (R326, R327). -/
theorem takeNetBeat_partner {m1 : Module} {f : SessFrame} {e : MapEntry} (hin : m.ingress 8 f = (m1, true))
    (hlen : 24 ≤ f.body.length) (he : m1.endpoint f.src = some e) (hkind : e.kind = 5)
    (hserial : e.serial = m1.mirror.partnerSerial) :
    takeNetBeat f m =
      (let m2 := { m1 with mirror := { m1.mirror with lastNet := m1.clk.mono, netPartnerState := u8 f.body 0 } }
       if m1.mirror.state ≠ 4 then m2
       else if m1.mirror.linkId = 1 then m2.enterFenced
       else if u8 f.body 0 = 6 then m2.enterLost
       else m2) := by
  simp [takeNetBeat, hin, Nat.not_lt_of_ge hlen, he, hkind, hserial]

end

/-! #### Lapsed leases and held writes (R324, R325) -/

section
variable {m : Module} {id : Nat}

theorem leaseDue_lapsed {k : Capsule} (hk : m.slot (id / 256) = k) (hlapsed : m.lapsed k = true) : leaseDue id m = 0 := by
  simp [leaseDue, hk, hlapsed]

/-- A lapsed lease asks the partner once, while a stream runs. -/
theorem leaseLapse_asks {k : Capsule} (hk : m.capsule id = some k) (hlapsed : m.lapsed k = true)
    (hs : m.mirror.state ∈ [2, 3, 4]) (hasked : m.mirror.asked.contains id = false) :
    leaseLapse id m =
      (let m1 := m.send 0x0E 0xFF 0 0 id 0 0 (k.bytes (id / 256))
       { m1 with mirror := { m1.mirror with asked := m1.mirror.asked ++ [id] } }) := by
  obtain rfl := Module.slot_of_capsule hk
  have hstream : m.streaming = true := by simpa [Module.streaming, or_assoc] using hs
  have hpartner : m.lost = false := by
    simp only [List.mem_cons, List.not_mem_nil, or_false] at hs
    simp only [Module.lost, beq_eq_false_iff_ne]
    omega
  simp only [leaseLapse, hk, hlapsed, hpartner, hstream, hasked]
  rfl

/-- HELD_WRITE_TIMEOUT is due two LEASE_MS after the write was held (R325). -/
theorem exec_heldWriteTimeout (cmd : Nat) (s : State) : exec (.heldWriteTimeout cmd) s =
    runAt (fun m => if m.mirror.state == 4 then 0 else
      ((m.mirror.held.find? (fun h => h.cmd == cmd)).map
        (fun h => h.since + 2 * ms (m.get Reg.MIRROR.LEASE_LEASE_MS))).getD 0) (heldTimeout cmd) s := rfl

/-- A write whose hold has ended goes on if this module owns the capsule, and is DENIED otherwise. -/
theorem heldTimeout_ends {h : HeldWrite} {c : RunCmd} (hh : m.mirror.held.find? (fun x => x.cmd == c.id) = some h)
    (hs : m.mirror.state ≠ 4) (hd : h.since + 2 * ms (m.get Reg.MIRROR.LEASE_LEASE_MS) ≤ m.clk.mono) (hid : c.id < 2 ^ 64)
    (hc : m.host.running.find? (fun x => x.id == c.id) = some c) :
    heldTimeout c.id m =
      if ((m.capsule h.capsule).map m.owns).getD false then (unheld c m).updCmd c.id (fun x => { x with tries := 1 })
      else (unheld c m).fail c .denied := by
  have hwaits : (m.mirror.state == 4 || decide (m.clk.mono < h.since + 2 * ms (m.get Reg.MIRROR.LEASE_LEASE_MS))) = false := by
    simpa [hs] using hd
  simp only [heldTimeout, hh, hwaits, hc, if_neg (Nat.not_le_of_gt hid), Bool.false_eq_true, if_false]
  rfl

end

/-! #### Lanes (R312) -/

/-- The lanes that the link runs on when those of a mask are lost. -/
def lanesLeft (lost : Nat) : Nat := if lost = 0 then 16 else if lost % 256 = 0 ∨ lost / 256 = 0 then 8 else 0

/-- The module whose link has been trained with the lanes of a mask lost. -/
def Module.trained (lost : Nat) (m : Module) : Module :=
  ({ m with mirror := { m.mirror with lanesLost := lost, lanes := lanesLeft lost } } : Module).set
    Reg.MIRROR.STATUS_LANE_DEGRADED (b2n (lanesLeft lost == 8))

/-- A link with lanes replays in RESYNC and PAIRED, and a module outside a pairing sends HELLO (assumption 132). -/
theorem linkTrained_eq {lost : Nat} (m : Module) (h : lost < 2 ^ 16) :
    linkTrained lost m =
      if lanesLeft lost = 0 then m.trained lost
      else if m.mirror.state = 2 ∨ m.mirror.state = 3 then (m.trained lost).sendReplay
      else if m.mirror.state = 5 ∨ m.mirror.state = 6 ∨ (m.mirror.state = 0 ∧ m.mirror.pairCmd.isSome) then
        (m.trained lost).sendHello false
      else m.trained lost := by
  have hmask : lost % 65536 = lost := Nat.mod_eq_of_lt h
  have hhigh : lost / 256 % 256 = lost / 256 := Nat.mod_eq_of_lt (by omega)
  simp [linkTrained, hmask, hhigh, Module.trained, lanesLeft, or_assoc]

/-! #### Time bounds (R334, R336, R338, R447) -/

/-- The time bound of a command that waits runs from its start. -/
theorem exec_commandTimeBoundExpiry (src : Src) (s : State) : exec (.commandTimeBoundExpiry src) s =
    runAt (fun m => match m.cmdOf src with
      | some c => if c.stage == .waiting then ((m.bound c).map (c.start + ·)).getD 0 else 0
      | none => 0) (timeBound src) s := rfl

@[simp] theorem Module.advanceTo_bound (due : Nat) (m : Module) (c : RunCmd) : (m.advanceTo due).bound c = m.bound c := by
  simp [Module.bound]

theorem timeBound_answers {m : Module} {src : Src} {c : RunCmd} {b : Nat} (hc : m.cmdOf src = some c)
    (hw : c.stage = .waiting) (hb : m.bound c = some b) (hd : c.start + b ≤ m.clk.mono) :
    timeBound src m = m.answerTimeout c := by
  simp [timeBound, hc, hb, hw, hd]

end Sys2Proof.Machine
end

section
open Sys2Proof Sys2Proof.Machine

/-- Settles O48: each command whose fields pass is one lemma about its meaning, and so is each timed event at the instant that it
is due, which the counter's advance leaves due (Module.le_advanceTo_mono). The note of MIRROR_FENCE with NOW carries ARG0 1 by
assumption 143, and a HELLO leaves at a retraining outside a pairing by assumption 132. -/
theorem mirrorCommandsAct : Obligations.MirrorCommandsAct := by
  unfold Obligations.MirrorCommandsAct
  refine ⟨?_, ?_, ?_, ?_, ?_, ?_, ?_, ?_, ?_, ?_, ?_, ?_, ?_, ?_⟩
  · intro s src c hfresh hz hmode
    exact ⟨fun hs => does_onCmd rfl hfresh (mirrorPairCmd_busy hz hmode hs), fun hnone =>
      ⟨fun hone hs => does_onCmd rfl hfresh (mirrorPairCmd_solo hz hnone hone hs),
        fun hzero hs => does_onCmd rfl hfresh (mirrorPairCmd_pairs hz hnone hzero hs)⟩⟩
  · exact fun s src c hfresh => does_onCmd rfl hfresh rfl
  · intro s src c id k hfresh hz hid hgen hcap
    subst hid
    obtain ⟨hn, hk⟩ := namesCapsule_of_capsule hgen hcap
    refine ⟨fun ho => does_onCmd rfl hfresh (mirrorHandoverCmd_denied hz hn hk ho),
      fun ho hs => does_onCmd rfl hfresh (mirrorHandoverCmd_busy hz hn hk ho hs), fun ho hw hks hs => ?_⟩
    subst hk
    exact does_onCmd rfl hfresh (mirrorHandoverCmd_handsOver hz hn rfl ho hw hks hs)
  · intro s src c id k hfresh hz hid hgen hcap
    subst hid
    obtain ⟨hn, hk⟩ := namesCapsule_of_capsule hgen hcap
    exact ⟨fun hs => does_onCmd rfl hfresh (mirrorClaimCmd_denied hz hn hs),
      fun hs ho => does_onCmd rfl hfresh (mirrorClaimCmd_claims hz hn hk hs ho)⟩
  · exact fun s src c hfresh => ⟨fun hs => does_onCmd rfl hfresh (mirrorTakeoverCmd_denied hs),
      fun hs => does_onCmd rfl hfresh (mirrorTakeoverCmd_takesOver hs)⟩
  · intro s src c hfresh hz hmode
    exact ⟨fun hs => does_onCmd rfl hfresh (mirrorFenceCmd_busy hz hmode hs), fun hs =>
      ⟨fun hone => does_onCmd rfl hfresh (mirrorFenceCmd_now hz hs hone),
        fun hzero hd => does_onCmd rfl hfresh (mirrorFenceCmd_drains hz hs hzero hd)⟩⟩
  · intro s src c hfresh hz hmode
    exact ⟨fun hs => does_onCmd rfl hfresh (mirrorResyncCmd_busy hz hmode hs),
      fun hs hq => does_onCmd rfl hfresh (mirrorResyncCmd_starts hz hmode hs hq)⟩
  · intro s hl
    refine ⟨?_, ?_, ?_, ?_, ?_⟩
    · exact doesAt_runAt (exec_linkHeartbeatTick s) hl (by simp [us, Nat.mul_comm]) rfl
    · exact fun hdue => does_run rfl hl (ackTick_due hdue)
    · exact fun e he => doesAt_runAt (exec_netHeartbeatTick s) hl (by simp [ms, Nat.mul_comm])
        (netBeat_sends (e := e) (by simpa using he))
    · intro hs
      refine doesAt_runAt (exec_linkSilent s) hl (by simp [hs, ms, Nat.mul_comm]) (linkSilent_down (by simpa using hs) ?_)
      simpa [ms, Nat.mul_comm] using Module.le_advanceTo_mono _ s.m
    · intro hs
      refine doesAt_runAt (exec_netSilent s) hl (by simp [hs, ms, Nat.mul_comm]) (netSilent_judges (by simpa using hs) ?_)
      simpa [ms, Nat.mul_comm] using Module.le_advanceTo_mono _ s.m
  · intro s f m1 e hl hin hlen he hkind hserial
    have hbeat := takeNetBeat_partner hin hlen he hkind hserial
    refine ⟨fun hs => ?_, fun hs hone => ?_, fun hs hzero => ⟨fun hfenced => ?_, fun hruns => ?_⟩⟩
    all_goals refine does_run rfl hl (hbeat.trans ?_)
    · simp [hs]
    · simp [hs, hone]
    · simp [hs, hzero, hfenced]
    · simp [hs, hzero, hruns]
  · intro s id k hl hcap hlapsed hs hasked
    have hdue := leaseDue_lapsed (Module.slot_of_capsule hcap) hlapsed
    have hat : DoesAt (.leaseLapse id) s 0 (leaseLapse id) := doesAt_runAt rfl hl hdue rfl
    have hdoes := does_of_doesAt hat (Nat.zero_le _)
    rwa [leaseLapse_asks hcap hlapsed hs hasked] at hdoes
  · intro s h c hl hh hs hid hc
    refine doesAt_runAt (exec_heldWriteTimeout c.id s) hl (by simp [hs, hh, ms, Nat.mul_comm])
      (heldTimeout_ends (by simpa using hh) (by simpa using hs) ?_ hid (by simpa using hc))
    simpa [ms, Nat.mul_comm] using Module.le_advanceTo_mono _ s.m
  · exact fun s n hl hn => does_runIf rfl (decide_eq_true hn) hl rfl
  · intro s lost n hl hlost hn
    obtain rfl : n = lanesLeft lost := hn
    have htrained := linkTrained_eq s.m hlost
    refine ⟨fun hnone => ?_, fun hsome hs => ?_, fun hsome hs => ?_⟩
    all_goals refine does_run rfl hl (htrained.trans ?_)
    · rw [if_pos hnone]
      rfl
    · rw [if_neg hsome, if_pos hs]
      rfl
    · have hout : ¬(s.m.mirror.state = 2 ∨ s.m.mirror.state = 3) := by omega
      rw [if_neg hsome, if_neg hout, if_pos (hs.imp_right .inl)]
      rfl
  · intro s src c b hl hc hw hb
    exact doesAt_runAt (exec_commandTimeBoundExpiry src s) hl (by simp [hc, hw, hb])
      (timeBound_answers (by simpa using hc) hw (by simpa using hb) (Module.le_advanceTo_mono _ s.m))

end

/-! ### A statement that fails: HELLO of a LINK_ID conflict while a pairing of no mailbox waits (R313, R444, R456) -/

section
namespace Sys2Proof.Machine
open Sys2Proof

/-- The number of a mailbox, far above the 64 that the module has, whose OWNm register would stand where MIRROR.STATUS stands. -/
def strayMailbox : Nat := (Reg.MIRROR.STATUS_ID_CONFLICT.off - Reg.MBOX.OWN_OWNER.off) / 8

/-- A MIRROR_PAIR that waits for the partner's HELLO, as if that mailbox had started it. -/
def strayPair : RunCmd := { firstCommand 0x0A00 (zeros 16) with src := .mbox strayMailbox, stage := .waiting }

/-- The module in which that command waits: LINK_ID is 0, as after reset. -/
def strayPairing : Module := { soleCommand strayPair with mirror := { MirrorSt.reset with pairCmd := some 0 } }

/-- A HELLO that answers, of a partner whose LINK_ID is 0 too. -/
def sameIdHello : MirrorRec := ⟨0, 0x17, 0xFF, 1, 0, capNone, 0, 0, zeros 64, 0⟩

end Sys2Proof.Machine
end

section
open Sys2Proof Sys2Proof.Machine

/-- Refutes O49: the last clause says that a HELLO with this module's own LINK_ID leaves STATUS.ID_CONFLICT set, in every module.
The row sets it and then answers the MIRROR_PAIR that waits with DENIED, and the answer clears OWNER of the command's mailbox
(R444). The module has 64 mailboxes and a run reaches no command of another, but a state may hold one: the OWNm register of
strayMailbox would stand where MIRROR.STATUS stands, so the answer clears ID_CONFLICT again. The clause lacks the premise that the
command which waits came through one of the 64. -/
theorem not_mirrorRecordsTakeEffect : ¬ Obligations.MirrorRecordsTakeEffect := by
  unfold Obligations.MirrorRecordsTakeEffect
  rintro ⟨-, -, -, -, -, -, hhello⟩
  obtain ⟨-, hset⟩ := hhello strayPairing sameIdHello [] (by decide +kernel) (by decide +kernel)
  have hcleared : (strayPairing.hello sameIdHello []).flag Reg.MIRROR.STATUS_ID_CONFLICT = false := by decide +kernel
  rw [hcleared] at hset
  exact Bool.false_ne_true hset

end

/-! ### How each row runs -/

section
namespace Sys2Proof.Machine
open Sys2Proof

/-- The ways in which a row c runs on a state. -/
inductive Way (c : Instr) : (State → Out) → Prop
  | acts {f : Module → Module} : Way c (run f)
  | placed {ok : Bool} {f : Module → Module} (hc : c.wf = ok) : Way c (runIf ok f)
  | steps {f : Module → Module} : Way c (runStep f)
  | resets {f : Module → Module} : Way c (runReset f)
  | timed {due : Module → Nat} {f : Module → Module} {o : State → Out} (ho : ∀ s, o s = runAt due f s) : Way c o
  | power {f : Module → Module} (hp : powerRow c = true) : Way c (runPower f)
  | powerAt {due : Module → Nat} {f : Module → Module} (hp : powerRow c = true) : Way c (runPowerAt due f)
  | guarded {p : Prop} [Decidable p] {o : State → Out} (hc : c.wf = decide p) (ho : Way c o) :
      Way c (fun s => if p then o s else .refused .illFormed)
  | either (t : Module → Bool) {o o' : State → Out} (ho : Way c o) (ho' : Way c o') :
      Way c (fun s => if t s.m = true then o s else o' s)
  | hdm {a n : Nat} {f : Module → Module} (hc : c = .hdmRead a n ∨ c = .hdmWrite a n) :
      Way c (fun s => if !s.m.live || !s.m.hdmUp then run id s
        else if lpddrSize < a + n then .fault .noSuchAddress else run f s)

/-- The way in which each row of the table runs. -/
theorem exec_way (c : Instr) : Way c (exec c) := by
  cases c with
  | mailboxSlotWrite _ _ _ | mailboxGo _ _ | ringTailWrite _ _ | coreModeDrained _ | blockBoundary _ | coreLoad _
    | coreStore _ | coreCapread _ | coreMatmul _ | coreVecop _ | coreFused _ | coreWait _ | coreSignal _ | coreLoop _
    | coreEnd _ | stepBuild _ | sampleRecordPrepare _ | accountPhase _ | writePhase _ | outputCommit _
    | nextMaskWrite _ _ | repairPass _ _ | shardOpen _ _ | writeAccept _ | programComplete _ _ | eraseComplete _ _ _
    | garbageCollection _ | wearMove _ | refresh _ _ | laneFailure _ | failureWarning _ _ | reedDecision _
    | hostLinkRetrained _ _ | subportLinkChange _ _ | transmitOpportunity _ | ptpAnnounce _ | sweepPartnerQuery _
    | priorityFlowControl _ _ _ | msixVectorUnmask _ =>
      exact .placed rfl
  | sweepInterval | prefetchDeadline _ _ | stallWarn _ | hostTierReadTimeout _ | queryTimeout | orphanQueryExpiry
    | journalFlush | linkHeartbeatTick | netHeartbeatTick | linkSilent | netSilent | leaseLapse _ | heldWriteTimeout _
    | cutWaitExpiry | checkpointCopyComplete | destinationTimeout | hostAccessTimeout _ | lwaitTimeout _ | slotBoundary
    | preemptWindowExpiry _ | hostMemoryTimeout _ | execTimeout _ | sessionRetransmit _ | sessionAckTimer _
    | endpointDown _ | mapDeliveryTimeout | registerFrameDue | queueSampleTick | ptpAnnounceTimeout | mgmtLockoutEnd
    | attestHoldExpiry | rateSecondEnd | breathWindowStart _ | breathWindowEnd _ | powerWindow _
    | commandTimeBoundExpiry _ =>
      exact .timed fun _ => by unfold exec; rfl
  | batchWaitExpiry _ | programSliceExpiry _ | accountPeriodEnd _ | burstExpiry _ | msixHoldoffExpiry _
    | gateIntervalEnd _ | perturbSlotEnd _ =>
      exact .guarded rfl (.timed fun _ => rfl)
  | nandTempSample _ | coreMonitorSample _ =>
      exact .guarded Bool.decide_eq_true.symm (.timed fun _ => rfl)
  | registerWrite _ _ _ =>
      exact .guarded rfl .resets
  | moduleReset _ | partitionReset _ | mgmtReset _ =>
      exact .resets
  | ptpTimingMessage _ _ | timeSet _ =>
      exact .steps
  | thermalTrip | converterFault | powerOn | inputLost | inputOvervoltage | pwrEnFall | j3SenseBreak | inputReturn
    | holdupWorkEnd | resetNLow | perstNLow | resetRelease _ =>
      exact .power rfl
  | evrecRecordWrite =>
      exact .either (fun m => m.power.phase == .holdup) (.power rfl) .acts
  | opHourTick =>
      exact .either (fun m => m.power.input) (.powerAt rfl) .acts
  | hdmRead a n =>
      exact .hdm (.inl rfl)
  | hdmWrite a n =>
      exact .hdm (.inr rfl)
  | mirrorRecordCheckFail r =>
      exact .acts (f := fun m => recordIn (fun _ => (m.plain r).check != recCrc (m.plain r)) (fun _ m => m) r m)
  | _ => exact .acts

/-! #### The queue -/

theorem withQueue_next (q : List Instr) (t : State) : withQueue q (.next t) = .next { t with pending := q } := rfl

/-- A way of running neither reads the queue nor changes it. -/
theorem Way.ignoresQueue {c : Instr} {o : State → Out} (h : Way c o) (s : State) (q : List Instr) :
    o { s with pending := q } = withQueue q (o s) := by
  induction h with
  | acts => unfold run; cases s.m.live <;> rfl
  | @placed ok =>
    cases ok with
    | true => unfold runIf run; cases s.m.live <;> rfl
    | false => rfl
  | steps => unfold runStep; cases s.m.live <;> rfl
  | resets => unfold runReset; cases s.m.live <;> rfl
  | timed ho => rw [ho, ho]; unfold runAt; cases s.m.live <;> rfl
  | power | powerAt => rfl
  | guarded _ _ ih => split <;> [exact ih; rfl]
  | either _ _ _ ih ih' => dsimp only; split <;> assumption
  | hdm =>
    dsimp only
    split
    · unfold run; cases s.m.live <;> rfl
    · split
      · rfl
      · unfold run; cases s.m.live <;> rfl

/-! #### A module that does not run -/

/-- A row that is none of the power block leaves a stopped module alone, or is refused for its operands. -/
theorem Way.stopped {c : Instr} {o : State → Out} (h : Way c o) {s : State} (hl : s.m.live = false)
    (hp : powerRow c = false) : o s = .next s ∨ (c.wf = false ∧ o s = .refused .illFormed) := by
  induction h with
  | acts => exact .inl (run_dead hl)
  | @placed ok f hc =>
    cases ok with
    | true => exact .inl (run_dead hl)
    | false => exact .inr ⟨hc, rfl⟩
  | steps => exact .inl (by simp [runStep, hl])
  | resets => exact .inl (by simp [runReset, hl])
  | timed ho => exact .inl ((ho s).trans (runAt_dead hl))
  | power h | powerAt h => exact absurd h (by simp [hp])
  | guarded hc _ ih =>
    dsimp only
    split
    · exact ih
    · exact .inr ⟨hc.trans (decide_eq_false ‹_›), rfl⟩
  | either _ _ _ ih ih' => dsimp only; split <;> assumption
  | hdm => exact .inl (by simp [hl, run_dead hl])

/-! #### Faults -/

/-- The only row that faults is an access beyond the HDM range. -/
theorem Way.fault {c : Instr} {o : State → Out} (h : Way c o) {s : State} {r : Fault} (ho : o s = .fault r) :
    r = .noSuchAddress ∧ s.m.live = true ∧ s.m.hdmUp = true ∧
      ∃ a n, (c = .hdmRead a n ∨ c = .hdmWrite a n) ∧ 2 ^ 40 < a + n := by
  induction h with
  | acts | steps | resets | power | powerAt => cases ho
  | timed hrun => rw [hrun] at ho; cases ho
  | @placed ok => cases ok <;> cases ho
  | guarded _ _ ih =>
    dsimp only at ho
    split at ho
    · exact ih ho
    · cases ho
  | either _ _ _ ih ih' =>
    dsimp only at ho
    split at ho
    · exact ih ho
    · exact ih' ho
  | @hdm a n f hc =>
    dsimp only at ho
    split at ho
    · cases ho
    · next hup =>
      split at ho
      · next hbig =>
        obtain ⟨hl, hh⟩ : s.m.live = true ∧ s.m.hdmUp = true := by simpa using hup
        cases ho
        exact ⟨rfl, hl, hh, a, n, hc, hbig⟩
      · cases ho

theorem exec_hdmRead (a n : Nat) (s : State) : exec (.hdmRead a n) s =
    if !s.m.live || !s.m.hdmUp then run id s
    else if lpddrSize < a + n then .fault .noSuchAddress else run (hdmRead a n) s := rfl

theorem exec_hdmWrite (a n : Nat) (s : State) : exec (.hdmWrite a n) s =
    if !s.m.live || !s.m.hdmUp then run id s
    else if lpddrSize < a + n then .fault .noSuchAddress else run hdmWrite s := rfl

/-! #### A run of the queue -/

/-- A row on a state is the row on a module alone, with the queue put back. -/
theorem exec_eq_withQueue (c : Instr) (q : List Instr) (m : Module) : exec c ⟨q, m⟩ = withQueue q (exec c ⟨[], m⟩) :=
  (exec_way c).ignoresQueue ⟨[], m⟩ q

theorem run_succ (M : Host.Core) (k : Nat) (s : M.State) : M.run (k + 1) s =
    match M.step s with
    | .next s' => M.run k s'
    | .fault r => .fault r
    | .refused r => .refused r := rfl

/-- A step with a command at the front of the queue runs it on the state that keeps the rest. -/
theorem core_run_cons (c : Instr) (q : List Instr) (m : Module) (k : Nat) :
    core.run (k + 1) ⟨c :: q, m⟩ =
      match exec c ⟨[], m⟩ with
      | .next t => core.run k ⟨q, t.m⟩
      | .fault r => .fault r
      | .refused r => .refused r := by
  refine (run_succ core k _).trans ?_
  have hstep : core.step ⟨c :: q, m⟩ = withQueue q (exec c ⟨[], m⟩) := exec_eq_withQueue c q m
  rw [hstep]
  cases exec c ⟨[], m⟩ <;> rfl

end Sys2Proof.Machine
end

/-! ### The statements about the queue, a stopped module, faults and the counter (R440, R476, R536) -/

section
open Sys2Proof Sys2Proof.Machine

/-- Settles O1: a step of a queue with c in front is exec of c on the rest, by the definition of step. -/
theorem stepRunsTheFrontCommand : Obligations.StepRunsTheFrontCommand := fun _ _ => rfl

/-- Settles O3: every row runs in one of the ways of Way, none of which touches the queue. -/
theorem execIgnoresTheQueue : Obligations.ExecIgnoresTheQueue := fun c s q => (exec_way c).ignoresQueue s q

/-- Settles O4, by induction on the commands: each step takes the one in front and leaves the others as they stand. -/
theorem queueIsServedInOrder : Obligations.QueueIsServedInOrder := by
  unfold Obligations.QueueIsServedInOrder
  intro cs
  induction cs with
  | nil => intro rest m; rfl
  | cons c cs ih =>
    intro rest m
    rw [List.length_cons, List.cons_append, core_run_cons, runAll]
    cases exec c ⟨[], m⟩ with
    | next t => exact ih rest t.m
    | fault r | refused r => rfl

/-- Settles O6: of the ways of Way, only that of an HDM access faults, and it does so beyond the range (R440). That it faults
there is assumption 12. -/
theorem faultsExactlyBeyondTheHdmRange : Obligations.FaultsExactlyBeyondTheHdmRange := by
  unfold Obligations.FaultsExactlyBeyondTheHdmRange
  intro c s r
  refine ⟨(exec_way c).fault, ?_⟩
  rintro ⟨rfl, hl, hh, a, n, hc, hbig⟩
  have hsize : lpddrSize < a + n := hbig
  rcases hc with rfl | rfl
  · simp [exec_hdmRead, hl, hh, hsize]
  · simp [exec_hdmWrite, hl, hh, hsize]

/-- Settles O7: a way of Way that acts on a stopped module belongs to a row of the power block. -/
theorem aStoppedModuleTakesOnlyPowerRows : Obligations.AStoppedModuleTakesOnlyPowerRows :=
  fun c _ hl hp => (exec_way c).stopped hl hp

/-- Settles O9: the ways of ClockMoves are the four of the statement. That a timed event advances the counter to the instant it
is due is assumption 2. -/
theorem theCounterMovesOnlyInFourWays : Obligations.TheCounterMovesOnlyInFourWays := by
  unfold Obligations.TheCounterMovesOnlyInFourWays
  intro c s t ht
  have ha := exec_acts c s
  rw [ht] at ha
  cases ha with
  | next _ hm =>
    cases hm.clk with
    | stays h => exact .inl h
    | advances _ d h => exact .inr (.inl ⟨d, h⟩)
    | steps hc _ hf hmono => exact .inr (.inr (.inl ⟨hc, hf, hmono⟩))
    | stops hl _ hn hf _ => exact .inr (.inr (.inr ⟨hl, hn, hf⟩))

/-- Settles O11: the counter stands at 0 at reset. -/
theorem counterFitsAtReset : Obligations.CounterFitsAtReset := ⟨Clk.fits_iff.2 ⟨by decide, by decide⟩, rfl⟩

end

/-! ### What only registers tell apart (R15 to R21) -/

section
namespace Sys2Proof.Machine
open Sys2Proof

/-- n is m with other register values: nothing else differs. -/
def Module.OnlyRegs (m n : Module) : Prop := n = { m with regs := n.regs }

namespace Module.OnlyRegs
variable {m n k : Module}

theorem refl (m : Module) : m.OnlyRegs m := rfl

theorem trans (h : m.OnlyRegs n) (h' : n.OnlyRegs k) : m.OnlyRegs k := by
  unfold OnlyRegs at *
  rw [h', h]

theorem setReg (h : m.OnlyRegs n) (off : Nat) (v : Word) : m.OnlyRegs (n.setReg off v) := h.trans rfl

theorem set (h : m.OnlyRegs n) (f : Fld) (v : Nat) : m.OnlyRegs (n.set f v) := h.trans rfl

theorem setBit (h : m.OnlyRegs n) (f : Fld) (i : Nat) : m.OnlyRegs (n.setBit f i) := h.trans rfl

theorem clearBit (h : m.OnlyRegs n) (f : Fld) (i : Nat) : m.OnlyRegs (n.clearBit f i) := h.trans rfl

theorem ite {p : Prop} [Decidable p] (h : m.OnlyRegs n) (h' : m.OnlyRegs k) : m.OnlyRegs (if p then n else k) := by
  split <;> assumption

theorem bumpBy (h : m.OnlyRegs n) (f : Fld) (i : Nat) : m.OnlyRegs (n.bumpBy f i) := .ite (h.setReg _ _) (h.setReg _ _)

theorem bump (h : m.OnlyRegs n) (f : Fld) : m.OnlyRegs (n.bump f) := h.bumpBy f 1

theorem foldl {α : Type} {f : Module → α → Module} (hf : ∀ (a : Module) x, a.OnlyRegs (f a x)) (l : List α) (m : Module) :
    m.OnlyRegs (l.foldl f m) :=
  List.foldlRecOn (motive := m.OnlyRegs) _ _ (refl m) fun a ha x _ => ha.trans (hf a x)

/-- What does not depend on the registers is the same. -/
theorem same {α : Type} (h : m.OnlyRegs n) (F : Module → α) (hF : ∀ r, F { m with regs := r } = F m := by intro _; rfl) :
    F n = F m := by
  rw [h]
  exact hF _

end Module.OnlyRegs

theorem Module.reg_bumpBy_other {f : Fld} {o : Nat} (i : Nat) (m : Module) (h : o ≠ f.off) : (m.bumpBy f i).reg o = m.reg o := by
  unfold Module.bumpBy
  dsimp only
  split <;> exact reg_setReg_other _ _ h

theorem Module.get_bump_other {f g : Fld} (m : Module) (h : g.off ≠ f.off) : (m.bump f).get g = m.get g := by
  rw [Module.get, Module.bump, reg_bumpBy_other _ _ h, Module.get]

theorem bits_zero (hi lo : Nat) : bits 0 hi lo = 0 := by simp [bits]

/-- A register that is put to anything but its reset value shows it, whatever the table of registers holds. -/
theorem Module.reg_setReg_held {off : Nat} {v : Word} (m : Module) (h : v ≠ regReset off) : (m.setReg off v).reg off = v := by
  simp [Module.reg, Module.setReg, h, KMap.get_put_same]

/-- The register that holds a field after it is put. -/
theorem Module.toNat_put (f : Fld) (v : Nat) (m : Module) (hf : f.lo ≤ f.hi) (hw : f.hi < 64) :
    (BitVec.ofNat 64 (setBits (m.reg f.off).toNat f.hi f.lo v)).toNat = setBits (m.reg f.off).toNat f.hi f.lo v := by
  rw [BitVec.toNat_ofNat, Nat.mod_eq_of_lt (setBits_lt _ _ _ _ hf hw (m.reg f.off).isLt)]

section
variable {f g : Fld} {v : Nat} {m : Module} (h0 : regReset f.off = 0) (hf : f.lo ≤ f.hi) (hw : f.hi < 64)
include h0 hf hw

/-- A register that resets to 0 shows a field that is put when some field of it is then not 0. -/
theorem Module.reg_set_held {hi lo : Nat} (hne : bits (setBits (m.reg f.off).toNat f.hi f.lo v) hi lo ≠ 0) :
    ((m.set f v).reg f.off).toNat = setBits (m.reg f.off).toNat f.hi f.lo v := by
  have hput := m.toNat_put f v hf hw
  have hheld : BitVec.ofNat 64 (setBits (m.reg f.off).toNat f.hi f.lo v) ≠ regReset f.off := by
    rw [h0]
    intro hz
    rw [hz] at hput
    rw [← hput] at hne
    exact hne (bits_zero hi lo)
  rw [Module.set, reg_setReg_held m hheld, hput]

/-- A field put to a value other than 0 in a register that resets to 0 reads as it was put. -/
theorem Module.get_set_nonzero (hv : v % 2 ^ (f.hi + 1 - f.lo) ≠ 0) : (m.set f v).get f = v % 2 ^ (f.hi + 1 - f.lo) := by
  have hread := bits_setBits_same (m.reg f.off).toNat f.hi f.lo v hf
  rw [Module.get, reg_set_held h0 hf hw (hread ▸ hv), hread]

/-- A field put beside one that is not 0, in a register that resets to 0, reads as it was put and leaves the other. -/
theorem Module.get_set_beside (ho : g.off = f.off) (hg : g.lo ≤ g.hi) (hd : f.hi < g.lo ∨ g.hi < f.lo) (hne : m.get g ≠ 0) :
    (m.set f v).get f = v % 2 ^ (f.hi + 1 - f.lo) ∧ (m.set f v).get g = m.get g := by
  have hother : bits (setBits (m.reg f.off).toNat f.hi f.lo v) g.hi g.lo = m.get g := by
    rw [bits_setBits_other _ _ _ _ _ _ hf hg hd, Module.get, ho]
  have hreg := reg_set_held h0 hf hw (hother ▸ hne)
  rw [Module.get, Module.get, ho, hreg]
  exact ⟨bits_setBits_same _ _ _ _ hf, hother⟩

end

/-! ### The tick (R476) -/

theorem Module.innerTick_onlyRegs (m : Module) :
    m.innerTick = { m with regs := m.innerTick.regs, ftl := { m.ftl with life := m.innerTick.ftl.life } } := by
  have h : m.OnlyRegs (innerCounters.foldl (fun (a : Module) f => a.bumpBy f (Config.innerCount f.off m.clk.mono)) m) :=
    .foldl (fun a f => (OnlyRegs.refl a).bumpBy f _) _ m
  unfold Module.innerTick
  dsimp only
  rw [h]

/-- Counters that advance leave every other register. -/
theorem Module.reg_foldl_bumpBy (n : Fld → Nat) (l : List Fld) (m : Module) {off : Nat} (h : off ∉ l.map (·.off)) :
    (l.foldl (fun (a : Module) f => a.bumpBy f (n f)) m).reg off = m.reg off :=
  List.foldlRecOn (motive := fun (a : Module) => a.reg off = m.reg off) _ _ rfl fun a ha _ hf =>
    (reg_bumpBy_other _ a fun e => h (List.mem_map.mpr ⟨_, hf, e.symm⟩)).trans ha

theorem Module.innerTick_reg_other (m : Module) {off : Nat} (h : off ∉ innerCounters.map (·.off)) :
    m.innerTick.reg off = m.reg off := by
  unfold Module.innerTick
  -- The list of the counters stays opaque, for the fold over it would be evaluated.
  obtain ⟨l, e⟩ : ∃ l, l = innerCounters := ⟨_, rfl⟩
  rw [← e] at h ⊢
  exact reg_foldl_bumpBy _ l m h

/-- With no program that is to stop none stops. -/
theorem Module.stopsDue_none {m : Module} (h : ∀ c k, (c, k) ∈ m.attn.cores → (k.run.bind (·.stop)) = none) : m.stopsDue = m := by
  have hnone : m.attn.cores.filter (fun (_, k) => (k.run.bind (·.stop)).isSome) = [] := by
    rw [List.filter_eq_nil_iff]
    rintro ⟨c, k⟩ hk
    simp [h c k hk]
  rw [Module.stopsDue, hnone]
  rfl

theorem step_empty {s : State} (h : s.pending = []) : step s = tickStep s := by
  unfold step
  rw [h]

theorem Module.tick_live {m : Module} (h : m.live = true) : m.tick = { m with clk := {
    now := (m.clk.now + (m.clk.frac + m.tickUnits) / 2 ^ 32) % 2 ^ 64
    frac := (m.clk.frac + m.tickUnits) % 2 ^ 32
    mono := m.clk.mono + (m.clk.frac + m.tickUnits) / 2 ^ 32 } } := by
  rw [Module.tick, if_pos h]

end Sys2Proof.Machine
end

section
open Sys2Proof Sys2Proof.Machine

/-- Settles O2: with an empty queue a step is tickStep, whose three parts are the tick of the counter, the counters inside the
blocks, which are registers alone and one figure of the flash's life, and the programs that are to stop. -/
theorem emptyQueueLetsTheCounterTick : Obligations.EmptyQueueLetsTheCounterTick := by
  unfold Obligations.EmptyQueueLetsTheCounterTick
  refine ⟨fun s hq => ⟨fun hl => ?_, fun hl => ⟨_, ?_, rfl, fun hnone => ?_⟩, fun hf => ?_⟩, fun m => ⟨?_, ?_, ?_⟩⟩
  · simp [step_empty hq, tickStep, hl]
  · rw [step_empty hq, tickStep, if_pos hl, Module.tick_live hl]
  · refine Module.stopsDue_none ?_
    rw [Module.innerTick_onlyRegs]
    exact hnone
  · simp [Module.tickUnits, hf, sext]
  · rw [Module.innerTick_onlyRegs]
  · rw [Module.innerTick_onlyRegs]
  · exact fun off h => m.innerTick_reg_other h

end

/-! ### Mailboxes: completion, slot writes and GO (R439, R441 to R451) -/

section
namespace Sys2Proof.Machine
open Sys2Proof

@[simp] theorem Module.dropCmd_box (id b : Nat) (m : Module) : (m.dropCmd id).box b = m.box b := rfl

@[simp] theorem Module.dropCmd_vec (id v : Nat) (m : Module) : (m.dropCmd id).vec v = m.vec v := rfl

section
variable {b : Nat} {c : RunCmd} (st : Status) (body : Bytes) (d : Nat) (m : Module)

/-- An unanswered command of a mailbox that completes leaves the list of those that run and is answered (R444). -/
theorem Module.complete_mbox (hs : c.src = .mbox b) (ha : c.answered = false) :
    m.complete c st body d = (m.dropCmd c.id).respond b c st body d := by
  simp [Module.complete, hs, ha]

theorem Module.setBox_onlyRegs (x : Mailbox) :
    ({ m with host := { m.host with boxes := m.host.boxes.put b x } } : Module).OnlyRegs (m.setBox b x) := by
  unfold Module.setBox
  dsimp only
  exact .ite (OnlyRegs.setBit (.set (.set (.set (.refl _) _ _) _ _) _ _) _ _)
    (OnlyRegs.clearBit (.set (.set (.set (.refl _) _ _) _ _) _ _) _ _)

/-- Mailbox b with the response of its command (R443). -/
def Module.answerBox (b : Nat) (c : RunCmd) (st : Status) (body : Bytes) (d : Nat) (m : Module) : Mailbox :=
  let x := m.box b
  let seq := (x.seq + 1) % 2 ^ 32
  { x with
    owner := false, running := false, seq := seq
    resp := some ⟨c.opcode, st.code, body.length, c.tag, m.clk.now, d, seq, body⟩ }

/-- The module in which mailbox b shows the answer, before its message (R444). -/
def Module.answer (b : Nat) (c : RunCmd) (st : Status) (body : Bytes) (d : Nat) (m : Module) : Module :=
  let m1 := m.setBox b (m.answerBox b c st body d)
  let m2 := (m1.setBit Reg.MBOX.DONE_MASK_DONE b).bump Reg.MBOX.COMMANDS_COUNT
  let m3 := if st == .badField then m2.bump Reg.MBOX.BAD_FIELDS_COUNT else m2
  if st == .timeout then m3.bump Reg.MBOX.TIMEOUTS_COUNT else m3

/-- An answer is followed by the mailbox's message unless the command is quiet. -/
theorem Module.respond_eq : m.respond b c st body d =
    if bit c.flags 0 || c.noMsix then m.answer b c st body d else (m.answer b c st body d).msix b := rfl

/-- An answer writes the mailbox and registers. -/
theorem Module.answer_onlyRegs : ({ m with
    host := { m.host with boxes := m.host.boxes.put b (m.answerBox b c st body d) } } : Module).OnlyRegs
      (m.answer b c st body d) := by
  unfold Module.answer
  extract_lets _ m1 m2 m3
  have h1 : OnlyRegs _ m1 := m.setBox_onlyRegs _
  have h2 : m1.OnlyRegs m2 := ((OnlyRegs.refl m1).setBit _ _).bump _
  have h3 : m2.OnlyRegs m3 := .ite (OnlyRegs.bump (.refl _) _) (.refl _)
  exact h1.trans (h2.trans (h3.trans (.ite (OnlyRegs.bump (.refl _) _) (.refl _))))

@[simp] theorem Module.respond_ftl : (m.respond b c st body d).ftl = m.ftl := by
  have hx := m.answer_onlyRegs (b := b) (c := c) st body d
  rw [respond_eq]
  split
  · exact hx.same Module.ftl
  · exact (msix_ftl _ _).trans (hx.same Module.ftl)

end

/-- A message on an unmasked vector leaves when the host link carries it. -/
theorem Module.msix_sends {v : Nat} {m : Module} (hm : (m.vec v).masked = false) (hl : m.host.linkUp = true)
    (hd : m.host.d3hot = false) : m.msix v = m.emit (.msix v) := by
  simp [Module.msix, hm, hl, hd]

theorem Module.msix_masked {v : Nat} {m : Module} (hm : (m.vec v).masked = true) :
    m.msix v = m.setVec v { m.vec v with pending := true } := by
  simp [Module.msix, hm]

@[simp] theorem Module.vec_setVec_same (v : Nat) (x : MsixVec) (m : Module) : (m.setVec v x).vec v = x := by
  simp [Module.vec, Module.setVec, KMap.getD, KMap.get_put_same]

section
variable {b : Nat} {m : Module}

theorem exec_mailboxGo (v : Nat) (s : State) (hb : b < 64) : exec (.mailboxGo b v) s = run (mailboxGo b v) s := by
  change runIf (decide (b < 64)) _ s = _
  rw [runIf, if_pos (decide_eq_true hb)]

theorem exec_mailboxSlotWrite {off : Nat} (data : Bytes) (s : State) (hb : b < 64) (ho : off < 0x2000) :
    exec (.mailboxSlotWrite b off data) s = run (slotWrite b off data) s := by
  change runIf (decide (b < 64) && decide (off < 0x2000)) _ s = _
  rw [runIf, if_pos (by simp [hb, ho])]

/-- The header and the payload that the slot of mailbox b holds (R442). -/
def Module.slotHeader (b : Nat) (m : Module) : Bytes := (m.box b).cmd.rdN 0 64

def Module.slotPayload (b : Nat) (m : Module) : Bytes := (m.box b).cmd.rdN 64 (Min.min (u32 (m.slotHeader b) 4) 4032)

/-- The command that the slot of mailbox b holds, as it starts (R444). -/
def Module.slotCommand (b : Nat) (m : Module) : RunCmd :=
  ⟨m.host.nextRun, .mbox b, u16 (m.slotHeader b) 0, u16 (m.slotHeader b) 2, u64 (m.slotHeader b) 8, m.slotPayload b, m.clk.mono,
    .fresh, [], [], 0, 0, false, false⟩

/-- The module in which that command runs behind the others, and its mailbox is the module's. -/
def Module.takeCommand (b : Nat) (m : Module) : Module :=
  let m1 := m.setBox b { m.box b with owner := true, running := true }
  { m1 with host := { m1.host with running := m1.host.running ++ [m.slotCommand b], nextRun := m.host.nextRun + 1 } }

theorem Module.takeCommand_eq : m.takeCommand b =
    (let m1 := m.setBox b { m.box b with owner := true, running := true }
     { m1 with host := { m1.host with running := m.host.running ++ [m.slotCommand b], nextRun := m.host.nextRun + 1 } }) := by
  unfold Module.takeCommand
  dsimp only
  rw [Module.setBox_running]

/-- A go on the host's own mailbox takes the command, and answers it at once when a check fails (R446). -/
theorem mailboxGo_takes {v : Nat} (hbar : m.barUp = true) (hv : bit v 0 = true) (ho : (m.box b).owner = false) :
    mailboxGo b v m = (((m.takeCommand b).commandCheck (m.slotHeader b) (m.slotPayload b)).map
      (fun x => (m.takeCommand b).complete (m.slotCommand b) x.1 [] x.2)).getD (m.takeCommand b) := by
  unfold mailboxGo
  -- The checks stay opaque, for they would be evaluated.
  obtain ⟨check, e⟩ : ∃ f, f = Module.commandCheck := ⟨_, rfl⟩
  rw [← e]
  rw [if_neg (by simp [hbar]), if_neg (by simp [hv]), if_neg (by simp [ho])]
  change (match check (m.takeCommand b) (m.slotHeader b) (m.slotPayload b) with
    | none => m.takeCommand b
    | some (st, d) => (m.takeCommand b).complete (m.slotCommand b) st [] d) = _
  cases check (m.takeCommand b) (m.slotHeader b) (m.slotPayload b) <;> rfl

end

/-! ### The checks 1 to 5 of a command (R446) -/

section
variable {m : Module} {h p : Bytes}

theorem Module.commandCheck_notReady (hr : m.flag Reg.GLOBAL.STATUS_READY = false) (hop : u16 h 0 ≠ 0) :
    m.commandCheck h p = some (.busy, 0xFFFFFFFF) := by
  have hbusy : (!m.flag Reg.GLOBAL.STATUS_READY && u16 h 0 != 0) = true := by simp [hr, hop]
  rw [Module.commandCheck]
  exact if_pos hbusy

/-- Checks 2 to 5, which a command meets when the module is ready, and NOP always (R453). -/
theorem Module.commandCheck_ready (hr : m.flag Reg.GLOBAL.STATUS_READY = true ∨ u16 h 0 = 0) :
    m.commandCheck h p =
      match payloadLen (u16 h 0) with
      | none => some (.badField, 0)
      | some n =>
        match headerBad h with
        | some d => some (.badField, d)
        | none =>
          if 4032 < u32 h 4 || u32 h 4 < n then some (.badField, 4)
          else if u16 h 0 == 0x1300 then none
          else (firstNonZero p n (u32 h 4 - n)).map (fun o => (Status.badField, 0x40 + o)) := by
  have hready : ¬((!m.flag Reg.GLOBAL.STATUS_READY && u16 h 0 != 0) = true) := by
    rcases hr with hr | hr <;> simp [hr]
  rw [Module.commandCheck]
  exact if_neg hready

end

/-! ### The host link and MSI-X (R434 to R437, R449) -/

theorem linkReset_quiets (m : Module) : ∀ c ∈ (linkReset m).host.running, c.fromMailbox = true → c.noMsix = true := by
  intro c hc hm
  simp only [linkReset, Module.bump_host, List.mem_map] at hc
  obtain ⟨c0, -, rfl⟩ := hc
  have h0 : c0.fromMailbox = true := hm
  simp [h0]

/-- A reset of the link leaves what is neither a register nor of the host attachment, and there the mailboxes. -/
theorem linkReset_onlyRegs (m : Module) : ({ m with host := (linkReset m).host } : Module).OnlyRegs (linkReset m) := by
  have h : Module.OnlyRegs _ (linkReset m) := (Module.OnlyRegs.refl _).bump _
  have hh := h.same Module.host
  rw [hh]
  exact h

/-- The module with its link trained in a mode on a width, and LINK showing it (R434, R457). -/
def Module.hostTrained (mode w : Nat) (m : Module) : Module :=
  let m1 : Module := { m with host := { m.host with linkUp := true, linkMode := mode, linkWidth := w, everUp := true } }
  let m2 := ((m1.set Reg.GLOBAL.LINK_MODE mode).set Reg.GLOBAL.LINK_WIDTH w).set Reg.GLOBAL.LINK_CXL_MEM
    (b2n (decide (4 ≤ mode)))
  if m.host.everUp then (m2.set Reg.GLOBAL.STATUS_LINK_RETRAINED 1).bump Reg.GLOBAL.LINK_RETRAINS_COUNT else m2

theorem hostLinkTrained_trains {mode w : Nat} {m : Module} (hd : m.host.linkUp = false) (hw : w = 4 ∨ w = 8 ∨ w = 16) :
    hostLinkTrained mode w m = (m.hostTrained mode w).hostResume := by
  have hwidth : (w == 4 || w == 8 || w == 16) = true := by rcases hw with rfl | rfl | rfl <;> rfl
  rw [hostLinkTrained, if_neg (by simp [hd]), if_pos hwidth]
  rfl

section
variable (mode w : Nat) (m : Module)

theorem Module.hostTrained_onlyRegs : ({ m with
    host := { m.host with linkUp := true, linkMode := mode, linkWidth := w, everUp := true } } : Module).OnlyRegs
      (m.hostTrained mode w) := by
  unfold Module.hostTrained
  dsimp only
  exact .ite (.bump (.set (.set (.set (.set (.refl _) _ _) _ _) _ _) _ _) _) (.set (.set (.set (.refl _) _ _) _ _) _ _)

theorem Module.hostTrained_cxlMem (h1 : 1 ≤ mode) (h6 : mode ≤ 6) :
    (m.hostTrained mode w).get Reg.GLOBAL.LINK_CXL_MEM = if 4 ≤ mode then 1 else 0 := by
  have hzero : regReset Reg.GLOBAL.LINK_MODE.off = 0 := by decide +kernel
  have hmod : mode % 2 ^ (3 + 1 - 0) = mode := Nat.mod_eq_of_lt (by omega)
  unfold Module.hostTrained
  extract_lets _ m1 m2
  have hmode : (m1.set Reg.GLOBAL.LINK_MODE mode).get Reg.GLOBAL.LINK_MODE = mode := by
    refine (Module.get_set_nonzero hzero (by decide) (by decide) ?_).trans hmod
    exact (ne_of_eq_of_ne hmod (by omega))
  obtain ⟨-, hmode'⟩ := Module.get_set_beside (f := Reg.GLOBAL.LINK_WIDTH) (g := Reg.GLOBAL.LINK_MODE) (v := w)
    (m := m1.set Reg.GLOBAL.LINK_MODE mode) hzero (by decide) (by decide) rfl (by decide) (by decide) (by omega)
  obtain ⟨hcxl, -⟩ := Module.get_set_beside (f := Reg.GLOBAL.LINK_CXL_MEM) (g := Reg.GLOBAL.LINK_MODE)
    (v := b2n (decide (4 ≤ mode))) (m := (m1.set Reg.GLOBAL.LINK_MODE mode).set Reg.GLOBAL.LINK_WIDTH w)
    hzero (by decide) (by decide) rfl (by decide) (by decide) (by omega)
  have hm2 : m2.get Reg.GLOBAL.LINK_CXL_MEM = if 4 ≤ mode then 1 else 0 := by
    refine hcxl.trans ?_
    by_cases h4 : 4 ≤ mode <;> simp [h4, b2n, Reg.GLOBAL.LINK_CXL_MEM]
  split
  · rw [Module.get_bump_other _ (by decide), Module.get_set_other _ _ (by decide), hm2]
  · exact hm2

end

/-- The module after a loss of its link: reset as a link reset leaves it, with no mode and no width (R437). -/
def Module.linkLost (m : Module) : Module :=
  let m1 := linkReset m
  let m2 : Module := { m1 with host := { m1.host with linkUp := false, linkMode := 0, linkWidth := 0, d3hot := false } }
  m2.setReg Reg.GLOBAL.LINK_MODE.off 0

theorem hostLinkDown_fails {m : Module} (h : m.host.linkUp = true) :
    hostLinkDown m = ((m.linkLost.waitingCmds 0x0500 (fun c => cmdNeedsHost c (u64 c.payload 0x28))).foldl
      (fun (a : Module) c => a.failAdmit c (stop .timeout)) m.linkLost).boreRun := by
  rw [hostLinkDown, if_neg (by simp [h])]
  rfl

theorem exec_hostLinkRetrained {mode w : Nat} (s : State) (h1 : 1 ≤ mode) (h6 : mode ≤ 6) (hw : w ≤ 16) :
    exec (.hostLinkRetrained mode w) s = run (hostLinkTrained mode w) s := by
  change runIf (decide (1 ≤ mode) && decide (mode ≤ 6) && decide (w ≤ 16)) _ s = _
  rw [runIf, if_pos (by simp [h1, h6, hw])]

theorem exec_msixHoldoffExpiry {v : Nat} (s : State) (hv : v < 128) :
    exec (.msixHoldoffExpiry v) s = runAt (holdoffDue v) (holdoffEnd v) s := if_pos hv

theorem exec_msixVectorUnmask {v : Nat} (s : State) (hv : v < 128) :
    exec (.msixVectorUnmask v) s = run (vectorUnmask v) s := by
  change runIf (decide (v < 128)) _ s = _
  rw [runIf, if_pos (decide_eq_true hv)]

@[simp] theorem Module.advanceTo_vec (due v : Nat) (m : Module) : (m.advanceTo due).vec v = m.vec v := by
  simp only [Module.vec, Module.advanceTo_host]

end Sys2Proof.Machine
end

/-! ### The statements about the host interface (R434 to R457) -/

section
open Sys2Proof Sys2Proof.Machine

/-- Settles O14: the tables at reset give the values that the manual states. -/
theorem resetLeavesTheStatedValues : Obligations.ResetLeavesTheStatedValues :=
  ⟨rfl, fun _ => rfl, by decide +kernel, by decide +kernel, by decide +kernel, by decide +kernel, by decide +kernel, rfl⟩

/-- Settles O15: a completion is respond on the module without the command (complete_mbox), whose mailbox is respond_box, and
whose contents stay (respond_contents). -/
theorem completionAnswersTheHost : Obligations.CompletionAnswersTheHost := by
  unfold Obligations.CompletionAnswersTheHost
  intro m b c st body d hs ha
  refine ⟨?_, fun off => rfl, rfl, rfl⟩
  intro n seq
  have hn : n = (m.dropCmd c.id).respond b c st body d := m.complete_mbox st body d hs ha
  have hcontents : n.contents = m.contents := Module.complete_contents hs
  simp only [Module.contents, Prod.mk.injEq] at hcontents
  obtain ⟨hhost, hhbm, hlpddr, hcaps, hsteps⟩ := hcontents
  refine ⟨?_, fun k hk => ?_, hhbm, hlpddr, hhost, hcaps, hsteps, ?_⟩
  · rw [hn, Module.respond_box]
    rfl
  · rw [hn, Module.respond_other _ _ _ _ _ hk, Module.dropCmd_box]
  · rw [hn, Module.respond_ftl]
    rfl

/-- Settles O16: respond_eq says when the message of the vector is sent, and msix_sends and msix_masked what becomes of it. -/
theorem completionSignalsItsVector : Obligations.CompletionSignalsItsVector := by
  unfold Obligations.CompletionSignalsItsVector
  intro m b c st body d hs ha n quiet
  obtain ⟨k, he⟩ : ∃ k, k = (m.dropCmd c.id).answer b c st body d := ⟨_, rfl⟩
  have hk := (m.dropCmd c.id).answer_onlyRegs (b := b) (c := c) st body d
  rw [← he] at hk
  have hn : n = if quiet then k else k.msix b := by
    rw [he]
    exact m.complete_mbox st body d hs ha
  have hout : k.out = m.out := hk.same Module.out
  have hvec : k.vec b = m.vec b := hk.same (fun a => a.vec b)
  have hup : k.host.linkUp = m.host.linkUp := hk.same (fun a => a.host.linkUp)
  have hd3 : k.host.d3hot = m.host.d3hot := hk.same (fun a => a.host.d3hot)
  refine ⟨fun hq => ?_, fun hq hm hl hd => ?_, fun hq hm => ?_⟩
  · rw [hn, if_pos hq, hout]
  · rw [hn, if_neg (by simp [hq]), Module.msix_sends (hvec ▸ hm) (hup ▸ hl) (hd3 ▸ hd), Module.emit_out, hout]
  · rw [hn, if_neg (by simp [hq]), Module.msix_masked (hvec ▸ hm)]
    exact ⟨hout, by simp⟩

/-- Settles O17: each case of a go is one branch of mailboxGo (R444, R446, R451). -/
theorem ownerWriteStartsTheCommand : Obligations.OwnerWriteStartsTheCommand := by
  unfold Obligations.OwnerWriteStartsTheCommand
  intro s b v hb hl hbar
  refine ⟨fun hv => ?_, fun hv ho => ?_, fun hv ho => ?_⟩
  · refine does_run (exec_mailboxGo v s hb) hl ?_
    simp [mailboxGo, hbar, hv, Fld.at, Reg.MBOX.OWN_OWNER]
  · refine does_run (exec_mailboxGo v s hb) hl ?_
    simp [mailboxGo, hbar, hv, ho]
  · intro slot h payload c taken m1
    have hgo := mailboxGo_takes (b := b) (v := v) hbar hv ho
    have htaken : s.m.takeCommand b = m1 := Module.takeCommand_eq
    rw [htaken] at hgo
    refine ⟨fun hc => does_run (exec_mailboxGo v s hb) hl (hgo.trans ?_),
      fun st d hc => does_run (exec_mailboxGo v s hb) hl (hgo.trans ?_)⟩
    · have hcheck : m1.commandCheck (s.m.slotHeader b) (s.m.slotPayload b) = none := hc
      rw [hcheck]
      rfl
    · have hcheck : m1.commandCheck (s.m.slotHeader b) (s.m.slotPayload b) = some (st, d) := hc
      rw [hcheck]
      rfl

/-- Settles O18: the first check is commandCheck_notReady, and the others follow in the order of commandCheck_ready. That
EVREC_NOTE's table has no fixed end is assumption 45. -/
theorem commandsAreCheckedInOrder : Obligations.CommandsAreCheckedInOrder := by
  unfold Obligations.CommandsAreCheckedInOrder
  intro m h p
  refine ⟨Module.commandCheck_notReady, fun hr => ?_, rfl⟩
  rw [Module.commandCheck_ready hr]
  refine ⟨fun hnone => by rw [hnone], fun n hn => ?_⟩
  rw [hn]
  refine ⟨fun d hd => by rw [hd], fun hd => ?_⟩
  rw [hd]
  dsimp only
  refine ⟨fun hlen => if_pos (by simpa using hlen), fun hle hge hop => ?_⟩
  rw [if_neg (by simp [hle, hge]), if_neg (by simpa using hop)]

/-- Settles O19: each kind of write is one branch of slotWrite. That a write to the response slot is counted under R439 is
assumption 25. -/
theorem slotWritesReachOnlyTheHostsSlot : Obligations.SlotWritesReachOnlyTheHostsSlot := by
  unfold Obligations.SlotWritesReachOnlyTheHostsSlot
  intro s b off data hb hoff hl hbar fits
  have hbad : (data.length == 0 || 64 < data.length || off / 64 != (off + data.length - 1) / 64 || 0x1000 ≤ off) = true ↔
      ¬fits := by
    simp only [fits, Bool.or_eq_true, beq_iff_eq, decide_eq_true_eq, bne_iff_ne]
    omega
  refine ⟨fun hf => ?_, fun hf ho => ?_, fun hf ho => ?_⟩
  all_goals refine does_run (exec_mailboxSlotWrite data s hb hoff) hl ?_
  all_goals rw [slotWrite, if_neg (by simp [hbar])]
  · exact if_pos (hbad.mpr hf)
  · exact (if_neg (fun h => hbad.mp h hf)).trans (if_pos ho)
  · exact (if_neg (fun h => hbad.mp h hf)).trans (if_neg (by simp [ho]))

/-- Settles O20: the rows of NOP and IDENTIFY complete the command with no body and with Module.identity. -/
theorem nopAndIdentifyComplete : Obligations.NopAndIdentifyComplete :=
  ⟨fun _ _ _ h => does_onCmd rfl h rfl, fun _ _ _ h => does_onCmd rfl h rfl⟩

/-- Settles O22: within the range an access is hdmRead or hdmWrite, and nothing when the range is absent (R440). The granularity of
grants and the write that leaves no offset are assumption 26. -/
theorem hdmReadsAreGuarded : Obligations.HdmReadsAreGuarded := by
  unfold Obligations.HdmReadsAreGuarded
  refine ⟨fun s a n hl hup hin => ?_, fun s a n hl hup => ?_⟩
  · have hread : exec (.hdmRead a n) s = run (hdmRead a n) s := by
      simp [exec_hdmRead, hl, hup, Nat.not_lt.mpr (show a + n ≤ lpddrSize from hin)]
    have hwrite : exec (.hdmWrite a n) s = run hdmWrite s := by
      simp [exec_hdmWrite, hl, hup, Nat.not_lt.mpr (show a + n ≤ lpddrSize from hin)]
    exact ⟨fun hmay => does_run hread hl (if_pos hmay), fun hmay => does_run hread hl (if_neg (by simp [hmay])),
      does_run hwrite hl rfl⟩
  · have hread : exec (.hdmRead a n) s = run id s := by simp [exec_hdmRead, hup]
    have hwrite : exec (.hdmWrite a n) s = run id s := by simp [exec_hdmWrite, hup]
    exact ⟨does_run hread hl rfl, does_run hwrite hl rfl⟩

/-- Settles O23: a reset of the link is linkReset, a loss linkLost and a training Module.hostTrained, each of which leaves all but the
host attachment and registers. -/
theorem linkResetsTouchOnlyTheCommandPlane : Obligations.LinkResetsTouchOnlyTheCommandPlane := by
  unfold Obligations.LinkResetsTouchOnlyTheCommandPlane
  refine ⟨fun s hl hup => ⟨?_, ?_, ?_⟩, fun s hl hd hup => ?_, fun s mode w hl hdown h1 h6 hw => ⟨fun hwidth => ?_, fun h4 h8 h16 => ?_⟩⟩
  · have h := linkReset_onlyRegs s.m
    exact ⟨_, does_run (f := when (fun m => m.host.linkUp) linkReset) rfl hl (if_pos hup), by simp [linkReset], linkReset_quiets s.m,
      by simp [linkReset], by simp [linkReset], h.same Module.caps, h.same Module.steps, h.same Module.bell⟩
  · exact does_run (f := d3hotEntry) rfl hl (if_pos hup)
  · have h := linkReset_onlyRegs s.m
    exact ⟨s.m.linkLost, rfl, rfl, rfl, by simp [Module.linkLost, linkReset], by simp [Module.linkLost, linkReset],
      h.same Module.caps, h.same Module.steps, h.same Module.bell, does_run rfl hl (hostLinkDown_fails hup)⟩
  · exact does_run (f := d0Return) rfl hl (if_pos hd)
  · have h := Module.hostTrained_onlyRegs mode w s.m
    exact ⟨s.m.hostTrained mode w, does_run (exec_hostLinkRetrained s h1 h6 hw) hl (hostLinkTrained_trains hdown hwidth),
      h.same (fun a => a.host.linkUp), h.same (fun a => a.host.linkMode), h.same (fun a => a.host.linkWidth),
      s.m.hostTrained_cxlMem mode w h1 h6, h.same Module.caps, h.same Module.bell⟩
  · refine does_run (exec_hostLinkRetrained s h1 h6 hw) hl ?_
    rw [hostLinkTrained, if_neg (by simp [hdown]), if_neg (by simp [h4, h8, h16])]

/-- Settles O25: the end of a holdoff is due HOLDOFF_US after the last message, and unmasking is vectorUnmask (R449). -/
theorem messagesWaitForTheirVector : Obligations.MessagesWaitForTheirVector := by
  unfold Obligations.MessagesWaitForTheirVector
  refine ⟨fun s v t0 hv hl hheld hsent => ?_, fun s v hv hl hbar => ⟨fun hp => ?_, fun hp => ?_⟩⟩
  · refine doesAt_runAt (exec_msixHoldoffExpiry s hv) hl ?_ ?_
    · simp only [holdoffDue, hheld, hsent, if_true, Option.getD_some, us]
      omega
    · rw [holdoffEnd, Module.advanceTo_vec]
      exact if_pos hheld
  · refine does_run (exec_msixVectorUnmask s hv) hl ?_
    rw [vectorUnmask, if_neg (by simp [hbar])]
    exact if_neg (by simp [hp])
  · obtain ⟨hup, hd3⟩ : s.m.host.linkUp = true ∧ s.m.host.d3hot = false := by simpa [Module.barUp] using hbar
    have hsends : vectorUnmask v s.m = (s.m.setVec v { s.m.vec v with masked := false, pending := false }).emit (.msix v) := by
      rw [vectorUnmask, if_neg (by simp [hbar])]
      exact (if_pos hp).trans (Module.msix_sends (by simp) hup hd3)
    refine ⟨_, does_run (exec_msixVectorUnmask s hv) hl hsends, rfl, ?_, ?_⟩
    · exact congrArg MsixVec.masked (Module.vec_setVec_same v _ s.m)
    · exact congrArg MsixVec.pending (Module.vec_setVec_same v _ s.m)

end

/-! ### Checkpoints: destinations, taking, warnings and restores (R342 to R360) -/

section
namespace Sys2Proof.Machine
open Sys2Proof

/-! #### CKPT_TARGET_SET (R345, R358) -/

/-- What CKPT_TARGET_SET does once its fields have passed: the destination of its kind is registered, where it can lie. -/
def registerTarget (c : RunCmd) (m : Module) : Module :=
  let b := c.payload
  if u8 b 1 == 0 then
    match m.localExtents (u64 b 0x10) with
    | none => m.fail c .noSpace
    | some (es, m1) => (m1.setTarget (u8 b 0) ⟨0, 0, 0, u64 b 0x10, 0, es, none⟩).ok c []
  else if u8 b 1 == 1 then
    let go (m : Module) : Module :=
      let es := extentList (m.cmdRead c (u64 b 8) 256)
      if !extentsOk es then m.badField c 8
      else if es.foldl (fun a e => a + e.2) 0 < u64 b 0x10 then m.badField c 0x10
      else (m.setTarget (u8 b 0) ⟨1, 0, u64 b 8, u64 b 0x10, 0, es, none⟩).ok c []
    if cmdNeedsHost c (u64 b 8) then m.withHost c go else go m
  else (m.setTarget (u8 b 0) ⟨2, u32 b 4, u64 b 8, u64 b 0x10, u32 b 0x18, [], none⟩).ok c []

/-- The fields of CKPT_TARGET_SET pass (R358). -/
structure TargetFields (b : Bytes) : Prop where
  reserved : allZero b 2 2 = true ∧ allZero b 0x1C 4 = true
  target : u8 b 0 < 8
  kind : u8 b 1 ≤ 2
  endpoint : u8 b 1 = 2 ∨ u32 b 4 = 0
  address : u8 b 1 ≠ 0 ∨ u64 b 8 = 0
  size : u64 b 0x10 ≠ 0
  key : u8 b 1 = 2 ∨ u32 b 0x18 = 0

section
variable {c : RunCmd} {m : Module} (hf : TargetFields c.payload)
include hf

/-- A registration whose fields pass is judged by the checkpoint that runs and by the kind of a REMOTE endpoint. -/
theorem ckptTargetCmd_eq : ckptTargetCmd c m =
    if ((m.ckpt.run.map (·.target)).getD 8) != u8 c.payload 0 then
      if u8 c.payload 1 != 2 || ((m.endpoint (u32 c.payload 4)).map (·.kind)) == some 6 then registerTarget c m
      else m.fail c .denied
    else m.fail c .busy := by
  unfold ckptTargetCmd
  rw [Module.checked_reserved (by simpa using hf.reserved), Module.checked_pass (decide_eq_true hf.target),
    Module.checked_pass (decide_eq_true hf.kind), Module.checked_pass (by simpa using hf.endpoint),
    Module.checked_pass (by simpa using hf.address), Module.checked_pass (by simpa using hf.size),
    Module.checked_pass (by simpa using hf.key), Module.checked_cons, Module.checked_cons, Module.checked_nil]
  rfl

theorem ckptTargetCmd_busy {r : CkRun} (hr : m.ckpt.run = some r) (ht : r.target = u8 c.payload 0) :
    ckptTargetCmd c m = m.fail c .busy := by
  simp [ckptTargetCmd_eq hf, hr, ht]

section
variable (hfree : ∀ r, m.ckpt.run = some r → r.target ≠ u8 c.payload 0)
include hfree

/-- No checkpoint uses the destination that a registration names. -/
theorem TargetFields.unused : ((m.ckpt.run.map (·.target)).getD 8) != u8 c.payload 0 := by
  have hlt := hf.target
  cases hr : m.ckpt.run with
  | none => simpa using Nat.ne_of_gt hlt
  | some r => simpa using hfree r hr

theorem ckptTargetCmd_registers (hk : u8 c.payload 1 ≠ 2 ∨ ∃ e, m.endpoint (u32 c.payload 4) = some e ∧ e.kind = 6) :
    ckptTargetCmd c m = registerTarget c m := by
  rw [ckptTargetCmd_eq hf, if_pos (hf.unused hfree), if_pos]
  rcases hk with hk | ⟨e, he, hk⟩
  · simp [hk]
  · simp [he, hk]

theorem ckptTargetCmd_denied (hk : u8 c.payload 1 = 2) (he : ∀ e, m.endpoint (u32 c.payload 4) = some e → e.kind ≠ 6) :
    ckptTargetCmd c m = m.fail c .denied := by
  rw [ckptTargetCmd_eq hf, if_pos (hf.unused hfree), if_neg]
  cases hget : m.endpoint (u32 c.payload 4) with
  | none => simp [hk]
  | some e => simp [hk, he e hget]

end

end

section
variable {c : RunCmd} {m : Module}

theorem registerTarget_local (hk : u8 c.payload 1 = 0) : registerTarget c m =
    match m.localExtents (u64 c.payload 0x10) with
    | none => m.fail c .noSpace
    | some (es, m1) => (m1.setTarget (u8 c.payload 0) ⟨0, 0, 0, u64 c.payload 0x10, 0, es, none⟩).ok c [] := by
  unfold registerTarget
  dsimp only
  rw [hk]
  rfl

theorem registerTarget_host {es : List (Nat × Nat)} (hk : u8 c.payload 1 = 1) (hup : m.host.linkUp = true)
    (hd : m.host.d3hot = false) (hes : es = extentList (m.cmdRead c (u64 c.payload 8) 256)) (hok : extentsOk es = true)
    (hsize : u64 c.payload 0x10 ≤ es.foldl (fun a e => a + e.2) 0) :
    registerTarget c m = (m.setTarget (u8 c.payload 0) ⟨1, 0, u64 c.payload 8, u64 c.payload 0x10, 0, es, none⟩).ok c [] := by
  subst hes
  unfold registerTarget
  dsimp only
  rw [Module.hostIf_up (.inr ⟨hup, hd⟩), hk, if_neg (by decide), if_pos (by decide), if_neg (by simp [hok]),
    if_neg (Nat.not_lt.mpr hsize)]

theorem registerTarget_remote (hk : u8 c.payload 1 = 2) : registerTarget c m =
    (m.setTarget (u8 c.payload 0) ⟨2, u32 c.payload 4, u64 c.payload 8, u64 c.payload 0x10, u32 c.payload 0x18, [], none⟩).ok
      c [] := by
  unfold registerTarget
  dsimp only
  rw [hk]
  rfl

/-! #### CKPT_TAKE, CKPT_ABORT and CKPT_RELEASE (R344, R346, R359, R360) -/

/-- A checkpoint whose fields pass is judged by the one that runs and, for a LOCAL destination, by the flash. -/
theorem ckptTakeCmd_eq {t : CkTarget} (hz : allZero c.payload 3 1 = true ∧ allZero c.payload 6 2 = true) (hi : u8 c.payload 0 < 8)
    (ht : m.ckpt.targets.get (u8 c.payload 0) = some t) (hs : u8 c.payload 1 ≤ 1)
    (hp : ∀ p ∈ setBitsOf 8 (u8 c.payload 2), m.present p = true) (hl : t.kind = 0 → u16 c.payload 4 = 0)
    (hx : ∀ i ∈ setBitsOf 16 (u16 c.payload 4), m.bore.indexes.has i = true) : ckptTakeCmd c m =
      if m.ckpt.run.isNone then
        if t.kind != 0 || !m.ftl.readOnly then
          (m.await c []).ckptStart (some c.id) (u8 c.payload 0) (u8 c.payload 1) (u8 c.payload 2) (u16 c.payload 4) 0
        else m.fail c .readOnly
      else m.fail c .busy := by
  have hloc : (!((m.ckpt.targets.get (u8 c.payload 0)).map (·.kind) == some 0)) = (t.kind != 0) := by rw [ht]; rfl
  have hidx : (t.kind != 0 || u16 c.payload 4 == 0) = true := by
    by_cases hk : t.kind = 0
    · simp [hk, hl hk]
    · simp [hk]
  unfold ckptTakeCmd
  dsimp only
  rw [Module.checked_reserved (by simpa using hz), hloc, Module.checked_pass (by simp [hi, ht]), Module.checked_pass (by simpa using hs),
    Module.checked_pass (by simpa [Module.partsOk] using hp), Module.checked_pass (by rw [hidx]; simpa using hx),
    Module.checked_cons, Module.checked_cons, Module.checked_nil]
  rfl

/-! #### CKPT_RESTORE (R354, R361) -/

section
variable {fetched : Option Bytes} (hz : allZero c.payload 3 5 = true ∧ allZero c.payload 0x1C 4 = true)
include hz

theorem ckptRestoreCmd_busy (hr : m.ckpt.run.isSome = true) : ckptRestoreCmd fetched c m = m.fail c .busy := by
  have hnone : m.ckpt.run.isNone = false := by simpa using hr
  unfold ckptRestoreCmd
  refine Module.checked_fail (v := stop .busy) (by simpa using hz) ?_
  simp [firstFail, hnone]

/-- A restore of an unpaired module whose fields pass reads its destination. -/
theorem ckptRestoreCmd_reads {t : CkTarget} (hr : m.ckpt.run = none) (hu : m.mirror.state = 0) (hi : u8 c.payload 0 < 8)
    (ht : m.ckpt.targets.get (u8 c.payload 0) = some t) (hs : u8 c.payload 1 ≤ 1)
    (hp : ∀ p ∈ setBitsOf 8 (u8 c.payload 2), m.present p = true) : ckptRestoreCmd fetched c m =
      if t.kind == 1 then m.withHost c (fun m => m.restoreFrom c t [])
      else if t.kind == 2 then
        match fetched with
        | none => m.fail c .timeout
        | some x => (m.enqueue (m.queueFor t.endpoint 17) (.read t.endpoint t.addr t.size)).restoreFrom c t x
      else m.restoreFrom c t [] := by
  unfold ckptRestoreCmd
  dsimp only
  rw [ht]
  refine (Module.checked_act (by simpa using hz) ?_).trans rfl
  simpa [hr, hu, hi, hs, Module.partsOk] using hp

end

/-- A restore from a LOCAL checkpoint whose manifest is well formed and fails its signature is DENIED (R354). -/
theorem Module.restoreFrom_unsigned {t : CkTarget} {l : CkLocal} {head : Bytes} {n : Nat} (ht : t.kind = 0)
    (hl : m.ckpt.local_.getLast? = some l) (hhead : head = slice l.manifest 0 128) (hn : n = u32 head 0x3C)
    (hversion : u32 head 0 = 1) (hscope : u8 head 4 ≤ 1) (hkind : u8 head 5 ≤ 2) (hlo : 1 ≤ n) (hhi : n ≤ 1048576)
    (hparts : m.partsOk (partMask (u8 c.payload 2) &&& u8 head 0x44) = true)
    (hsig : Config.edVerify (slice (slice l.manifest 0 (128 + 80 * n + 32)) (128 + 80 * n) 32)
      (slice l.manifest 0 (128 + 80 * n + 32)) (slice l.manifest (128 + 80 * n + 32) 64) = false) :
    m.restoreFrom c t [] = m.fail c .denied := by
  subst hn hhead
  have hform : (u32 (slice l.manifest 0 128) 0 != 1 || decide (1 < u8 (slice l.manifest 0 128) 4) ||
      decide (2 < u8 (slice l.manifest 0 128) 5) || u32 (slice l.manifest 0 128) 0x3C == 0 ||
      decide (1048576 < u32 (slice l.manifest 0 128) 0x3C)) = false := by
    simp only [Bool.or_eq_false_iff, decide_eq_false_iff_not, bne_eq_false_iff_eq, beq_eq_false_iff_ne]
    omega
  unfold Module.restoreFrom
  simp only [ht, hl, BEq.rfl, if_true, Option.map_some, Option.getD_some]
  rw [hform, if_neg Bool.false_ne_true, if_neg (by simp [hparts]), if_pos (by simp [hsig])]

end

/-! #### The end of a checkpoint (R346, R352) -/

theorem Module.reg_congr {m n : Module} {off : Nat} (h : m.regs = n.regs) : m.reg off = n.reg off := by
  rw [Module.reg, Module.reg, h]

/-- n is m but for the flash, registers other than those of the checkpoint unit, and the frees that wait for a hold. -/
def Module.Freed (m n : Module) : Prop :=
  n = { m with ftl := n.ftl, regs := n.regs, ckpt := { m.ckpt with deferred := n.ckpt.deferred } } ∧
    ∀ off, off ≠ Reg.FTL.WRITE_SEQ_NEXT.off → n.reg off = m.reg off

namespace Module.Freed
variable {m n k : Module}

theorem refl (m : Module) : m.Freed m := ⟨rfl, fun _ _ => rfl⟩

theorem trans (h : m.Freed n) (h' : n.Freed k) : m.Freed k := by
  obtain ⟨hn, hreg⟩ := h
  obtain ⟨hk, hreg'⟩ := h'
  refine ⟨?_, fun off ho => (hreg' off ho).trans (hreg off ho)⟩
  rw [hk, hn]

theorem foldl {α : Type} {f : Module → α → Module} (hf : ∀ (a : Module) x, a.Freed (f a x)) (l : List α) (m : Module) : m.Freed (l.foldl f m) :=
  List.foldlRecOn (motive := m.Freed) _ _ (refl m) fun a ha x _ => ha.trans (hf a x)

/-- A register of the flash is written. -/
theorem setSeq (v : Nat) (m : Module) : m.Freed (m.set Reg.FTL.WRITE_SEQ_NEXT v) := by
  obtain ⟨rs, hrs⟩ : ∃ rs, m.set Reg.FTL.WRITE_SEQ_NEXT v = { m with regs := rs } := ⟨_, rfl⟩
  refine ⟨?_, fun off ho => reg_set_other _ m ho⟩
  rw [hrs]

theorem change (c : Nat) (r : JRec) (m : Module) : m.Freed (m.change c r) := ⟨rfl, fun _ _ => rfl⟩

theorem takeSeq (m : Module) : m.Freed m.takeSeq.2 := by
  have h : m.Freed { m with ftl := { m.ftl with nextSeq := m.ftl.nextSeq + 1 } } := ⟨rfl, fun _ _ => rfl⟩
  exact h.trans (setSeq _ _)

theorem changeNow (c ext op logical : Nat) (m : Module) : m.Freed (m.changeNow c ext op logical) := by
  unfold Module.changeNow
  exact (takeSeq m).trans (change ..)

theorem ftlUnmap (ext logical : Nat) (m : Module) : m.Freed (m.ftlUnmap ext logical) := by
  unfold Module.ftlUnmap
  extract_lets chans _ m1
  have h1 : m.Freed m1 := ⟨rfl, fun _ _ => rfl⟩
  split
  · exact h1
  · refine h1.trans (.trans ?_ (changeNow ..))
    split <;> exact ⟨rfl, fun _ _ => rfl⟩

theorem runDeferred (m : Module) : m.Freed m.runDeferred := by
  unfold Module.runDeferred
  extract_lets go _ m1
  have h1 : m.Freed m1 := ⟨rfl, fun _ _ => rfl⟩
  exact h1.trans (.foldl (fun a i => ftlUnmap 0 i a) go m1)

end Module.Freed

theorem Module.ckptShow_onlyRegs (m : Module) : m.OnlyRegs m.ckptShow := (((OnlyRegs.refl m).set _ _).set _ _).set _ _

/-- STATUS.ABANDONED stays set when the unit shows its state. -/
theorem Module.ckptShow_abandoned {m : Module} (h : m.get Reg.CKPT.STATUS_ABANDONED = 1) :
    m.ckptShow.get Reg.CKPT.STATUS_ABANDONED = 1 := by
  have hzero : regReset Reg.CKPT.STATUS_STATE.off = 0 := by decide +kernel
  have keeps : ∀ (f : Fld) (v : Nat) (a : Module), f.off = Reg.CKPT.STATUS_STATE.off → f.lo ≤ f.hi → f.hi < 64 →
      (f.hi < Reg.CKPT.STATUS_ABANDONED.lo ∨ Reg.CKPT.STATUS_ABANDONED.hi < f.lo) → a.get Reg.CKPT.STATUS_ABANDONED = 1 →
      (a.set f v).get Reg.CKPT.STATUS_ABANDONED = 1 := by
    intro f v a ho hf hw hd ha
    exact (get_set_beside (ho ▸ hzero) hf hw (g := Reg.CKPT.STATUS_ABANDONED) ho.symm (by decide) hd (by omega)).2.trans ha
  unfold Module.ckptShow
  rw [get_set_other _ _ (by decide)]
  exact keeps _ _ _ rfl (by decide) (by decide) (by decide) (keeps _ _ _ rfl (by decide) (by decide) (by decide) h)

/-- A checkpoint that no command waits for ends: it is marked and counted, and its holds go (R352). -/
theorem Module.ckptEnds_noCmd {m : Module} {r : CkRun} (st : Status) (hr : m.ckpt.run = some r) (hc : r.cmd = none) :
    m.ckptEnds st = ((({ m with ckpt := { m.ckpt with run := none } } : Module).set Reg.CKPT.STATUS_ABANDONED 1).bump
      Reg.CKPT.FAILED_COUNT).runDeferred.ckptShow := by
  unfold Module.ckptEnds
  rw [hr]
  dsimp only
  rw [hc]
  rfl

theorem Module.ckptEnds_keeps {m : Module} {r : CkRun} (hr : m.ckpt.run = some r) (hc : r.cmd = none) :
    (m.ckptEnds .timeout).ckpt.run = none ∧ (m.ckptEnds .timeout).ckpt.local_ = m.ckpt.local_ ∧
    (m.ckptEnds .timeout).ckpt.targets = m.ckpt.targets ∧ (m.ckptEnds .timeout).hostMem = m.hostMem ∧
    (m.ckptEnds .timeout).caps = m.caps ∧ (m.ckptEnds .timeout).flag Reg.CKPT.STATUS_ABANDONED = true := by
  have hzero : regReset Reg.CKPT.STATUS_ABANDONED.off = 0 := by decide +kernel
  rw [ckptEnds_noCmd .timeout hr hc]
  obtain ⟨m0, hm0⟩ : ∃ m0, m0 = (({ m with ckpt := { m.ckpt with run := none } } : Module).set Reg.CKPT.STATUS_ABANDONED 1).bump
    Reg.CKPT.FAILED_COUNT := ⟨_, rfl⟩
  have h0 : ({ m with ckpt := { m.ckpt with run := none } } : Module).OnlyRegs m0 := hm0 ▸ ((OnlyRegs.refl _).set _ _).bump _
  have hset : m0.get Reg.CKPT.STATUS_ABANDONED = 1 := by
    rw [hm0, get_bump_other _ (by decide)]
    exact get_set_nonzero hzero (by decide) (by decide) (by decide)
  rw [← hm0]
  obtain ⟨hfreed, hregs⟩ := Freed.runDeferred m0
  have hshow := m0.runDeferred.ckptShow_onlyRegs
  have hck : m0.runDeferred.ckptShow.ckpt = { m.ckpt with run := none, deferred := m0.runDeferred.ckpt.deferred } := by
    rw [hshow.same Module.ckpt, hfreed, h0]
  refine ⟨?_, ?_, ?_, ?_, ?_, ?_⟩
  · rw [hck]
  · rw [hck]
  · rw [hck]
  · rw [hshow.same Module.hostMem, hfreed, h0]
  · rw [hshow.same Module.caps, hfreed, h0]
  · have hget : m0.runDeferred.get Reg.CKPT.STATUS_ABANDONED = 1 := by
      rw [Module.get, hregs _ (by decide)]
      exact hset
    simp [Module.flag, ckptShow_abandoned hget]

/-! #### The running checkpoint (R342, R344, R345, R351) -/

section
variable {m : Module} {r : CkRun} {t : CkTarget} (hr : m.ckpt.run = some r)
include hr

theorem checkpointCut_takes (ht : m.ckpt.targets.get r.target = some t) (hs : r.stage = 1)
    (hlive : ∀ p ∈ m.steps.parts.vals, p.live = []) : checkpointCut m = m.takeCut r t := by
  have hall : (r.stage == 1 && m.steps.parts.vals.all (fun p => p.live.isEmpty)) = true := by simpa [hs] using hlive
  simp only [checkpointCut, hr, ht, hall, if_true]

theorem cutWaitExpiry_ends (hs : r.stage = 1) : cutWaitExpiry m = m.ckptEnds .timeout := by
  simp [cutWaitExpiry, hr, hs]

theorem destinationTimeout_ends (hs : 2 ≤ r.stage) : destinationTimeout m = m.ckptEnds .timeout := by
  simp [destinationTimeout, hr, hs]

theorem destinationDue_copying (hs : 2 ≤ r.stage) :
    destinationDue m = r.lastAnswer + 1000000 * m.get Reg.CKPT.CTRL_TARGET_TIMEOUT_MS := by
  simp [destinationDue, hr, hs, ms, Nat.mul_comm]

theorem copyDue_copying (hs : r.stage = 2) : copyDue m =
    r.lastAnswer + ceilDiv (r.shards.foldl (fun a b => a + b.length) 0) (Max.max (m.get Reg.CKPT.CTRL_RATE_GBPS) 1) := by
  simp [copyDue, hr, hs]

section
variable (ht : m.ckpt.targets.get r.target = some t) (hk : t.kind = 1) (hup : m.host.linkUp = true) (hd : m.host.d3hot = false)
include ht hk hup hd

omit hr ht in
theorem Module.targetAnswers_host : m.targetAnswers t = true := by simp [Module.targetAnswers, hk, Module.hostUp, hup, hd]

/-- A HOST destination whose link carries takes the shards, and the manifest but for its last 4 KiB (R351). -/
theorem copyComplete_host (hs : r.stage = 2) : copyComplete m =
    (let total := r.shards.foldl (fun a b => a + b.length) 0
     let m1 := (shardPlaces r.offset r.shards).foldl (fun (a : Module) p => a.toTarget t p.1 p.2) m
     let man := m1.manifest r 1 0
     let m2 := r.slotsLeft.foldl (fun (a : Module) x => a.markCopied x)
       (m1.toTarget t (r.offset + shardSpan r.shards) (man.take (man.length - Min.min man.length 4096)))
     (({ m2 with ckpt := { m2.ckpt with
       run := some { r with stage := 3, slotsLeft := [], lastAnswer := m2.clk.mono } } } : Module).set Reg.CKPT.PROGRESS_BYTES
         total).ckptShow) := by
  simp [copyComplete, hr, ht, hs, hk, Module.targetAnswers_host hk hup hd, Module.previousId, manifestFirst]

/-- The last 4 KiB of the manifest seal a checkpoint in a HOST destination (R351, R352). -/
theorem manifestComplete_host (hs : r.stage = 3) (hc : r.cmd = none) : manifestComplete m =
    (let man := m.manifest r 1 0
     let k := man.length - Min.min man.length 4096
     let m1 := m.toTarget t (r.offset + shardSpan r.shards + k) (man.drop k)
     let t1 : CkTarget := { t with used := some (r.offset, shardSpan r.shards + roundUp man.length 4096) }
     let m2 := { m1 with ckpt := { m1.ckpt with run := none, targets := m1.ckpt.targets.put r.target t1 } }
     (((m2.set Reg.CKPT.LAST_ID_CHECKPOINT_ID r.id).bump Reg.CKPT.TAKEN_COUNT).runDeferred).ckptShow) := by
  simp [manifestComplete, hr, ht, hs, hk, hc, Module.targetAnswers_host hk hup hd, Module.previousId, manifestFirst]

end

end

@[simp] theorem Module.advanceTo_targetAnswers (due : Nat) (m : Module) (t : CkTarget) :
    (m.advanceTo due).targetAnswers t = m.targetAnswers t := by
  unfold Module.advanceTo
  split <;> rfl

theorem exec_cutWaitExpiry (s : State) : exec .cutWaitExpiry s =
    runAt (fun m => if (m.ckpt.run.map (·.stage)) == some 1 then cutWaitDue m else 0) cutWaitExpiry s := rfl

/-! #### Failure warnings (R353) -/

theorem exec_failureWarning {n : Nat} (count : Nat) (s : State) (hn : n < 8) :
    exec (.failureWarning n count) s = run (failureWarning n count) s := by
  change runIf (decide (n < 8)) _ s = _
  rw [runIf, if_pos (decide_eq_true hn)]

section
variable {m : Module} {n count : Nat}

theorem failureWarning_below (h : count ≤ m.get (Reg.CKPT.WARN_SRC_THRESHOLD.at 8 n)) : failureWarning n count m = m := by
  simp [failureWarning, Nat.not_lt.mpr h]

/-- The module in which a warning of a source has been counted, marked and recorded. -/
def Module.warned (n count : Nat) (m : Module) : Module :=
  (((m.bump (Reg.CKPT.WARN_COUNT_COUNT.at 8 n)).set Reg.CKPT.STATUS_WARNING 1).setBit Reg.CKPT.STATUS_WARN_SOURCES n).event
    0x0B01 0xFF 1 n count

@[simp] theorem Module.warned_ckpt : (m.warned n count).ckpt = m.ckpt := by simp [Module.warned]

@[simp] theorem Module.warned_clk : (m.warned n count).clk = m.clk := by simp [Module.warned]

section
variable (hn : n < 6) (he : m.flag (Reg.CKPT.WARN_SRC_ENABLE.at 8 n) = true)
  (h : m.get (Reg.CKPT.WARN_SRC_THRESHOLD.at 8 n) < count)
include hn he h

/-- A warning above the threshold of an enabled source, and the checkpoint that it may start (R353). -/
theorem failureWarning_above : failureWarning n count m =
    (let m1 := m.warned n count
     let t := m1.get Reg.CKPT.WARN_CTRL_TARGET
     let held := match m1.ckpt.lastWarn with
       | some x => decide (m1.clk.mono < x + sec (m1.get Reg.CKPT.WARN_CTRL_HOLDOFF_S))
       | none => false
     if m1.flag Reg.CKPT.WARN_CTRL_AUTO && m1.ckpt.run.isNone && !held && (m1.ckpt.targets.get t).isSome then
       ({ m1 with ckpt := { m1.ckpt with lastWarn := some m1.clk.mono } } : Module).ckptStart none t
         (m1.get Reg.CKPT.WARN_CTRL_SCOPE) 0 0 1
     else m1) := by
  rw [failureWarning, if_pos (by simp [hn, he, h])]
  rfl

theorem failureWarning_running (hr : m.ckpt.run.isSome = true) : failureWarning n count m = m.warned n count := by
  have hnone : m.ckpt.run.isNone = false := by simpa using hr
  rw [failureWarning_above hn he h]
  refine if_neg ?_
  simp [hnone]

theorem failureWarning_starts (hr : m.ckpt.run = none) (hw : m.ckpt.lastWarn = none)
    (ha : (m.warned n count).flag Reg.CKPT.WARN_CTRL_AUTO = true)
    (ht : m.ckpt.targets.has ((m.warned n count).get Reg.CKPT.WARN_CTRL_TARGET) = true) :
    failureWarning n count m =
      ({ m.warned n count with ckpt := { (m.warned n count).ckpt with lastWarn := some m.clk.mono } } : Module).ckptStart none
        ((m.warned n count).get Reg.CKPT.WARN_CTRL_TARGET) ((m.warned n count).get Reg.CKPT.WARN_CTRL_SCOPE) 0 0 1 := by
  have ht' : (m.ckpt.targets.get ((m.warned n count).get Reg.CKPT.WARN_CTRL_TARGET)).isSome = true := ht
  rw [failureWarning_above hn he h]
  dsimp only
  rw [Module.warned_ckpt, Module.warned_clk, hw, if_pos (by simp [ha, hr, ht'])]

end

end

/-! #### The shards of a stream (R347) -/

/-- The bytes of a shard that holds the records g. -/
def shardSize (g : List PartRec) : Nat := g.foldl (fun a x => a + x.rec_.size) 64

theorem shardSize_append (g : List PartRec) (x : PartRec) : shardSize (g ++ [x]) = shardSize g + x.rec_.size := by
  simp [shardSize]

/-- What packing has made of the records so far: those in full shards, those in the shard being filled, and its bytes. -/
structure Packed (recs : List PartRec) (p : List (List PartRec) × List PartRec × Nat) : Prop where
  all : (p.1 ++ [p.2.1]).flatten = recs
  fits : ∀ g ∈ p.1 ++ [p.2.1], shardSize g ≤ 268435456
  size : p.2.2 = shardSize p.2.1

/-- One record goes whole into the shard being filled, or begins the next one. -/
theorem Packed.pack {recs : List PartRec} {p : List (List PartRec) × List PartRec × Nat} {x : PartRec} (h : Packed recs p)
    (hx : 64 + x.rec_.size ≤ 268435456) : Packed (recs ++ [x])
      (if shardBytes < p.2.2 + x.rec_.size then (p.1 ++ [p.2.1], [x], shardHead + x.rec_.size)
        else (p.1, p.2.1 ++ [x], p.2.2 + x.rec_.size)) := by
  obtain ⟨hall, hfits, hsize⟩ := h
  split
  · refine ⟨by simp [← hall], fun g hg => ?_, by simp [shardSize, shardHead]⟩
    rcases List.mem_append.mp hg with hg | hg
    · exact hfits g hg
    · rw [List.mem_singleton.mp hg]
      simpa [shardSize] using hx
  · next hroom =>
    refine ⟨by simp [← hall], fun g hg => ?_, by rw [shardSize_append, hsize]⟩
    rcases List.mem_append.mp hg with hg | hg
    · exact hfits g (List.mem_append_left _ hg)
    · rw [List.mem_singleton.mp hg, shardSize_append, ← hsize]
      exact Nat.not_lt.mp hroom

theorem packShards_packs {recs : List PartRec} (h : ∀ x ∈ recs, 64 + x.rec_.size ≤ 268435456) :
    (packShards recs).flatten = recs ∧ ∀ g ∈ packShards recs, shardSize g ≤ 268435456 := by
  have hstart : Packed [] ([], [], shardHead) := ⟨rfl, by simp [shardSize], rfl⟩
  have hfold : ∀ (l done : List PartRec) (p : List (List PartRec) × List PartRec × Nat),
      (∀ x ∈ l, 64 + x.rec_.size ≤ 268435456) → Packed done p → Packed (done ++ l) (l.foldl (fun acc x =>
        if shardBytes < acc.2.2 + x.rec_.size then (acc.1 ++ [acc.2.1], [x], shardHead + x.rec_.size)
        else (acc.1, acc.2.1 ++ [x], acc.2.2 + x.rec_.size)) p) := by
    intro l
    induction l with
    | nil => intro done p _ hp; simpa using hp
    | cons x xs ih =>
      intro done p hl hp
      simpa using ih (done ++ [x]) _ (fun y hy => hl y (List.mem_cons_of_mem _ hy)) (hp.pack (hl x List.mem_cons_self))
  obtain ⟨hall, hfits, -⟩ := hfold recs [] _ h hstart
  exact ⟨hall, hfits⟩

end Sys2Proof.Machine
end

section
open Sys2Proof Sys2Proof.Machine

/-- Settles O50: each outcome of a command is one lemma about its meaning, each timed event is its meaning at the instant that it is
due, and packing keeps each record whole (Packed). The ends of extent lists and the endpoint that is no STORAGE are assumption 152,
and an abort in any stage is 153. -/
theorem checkpointsAreTakenAndRestored : Obligations.CheckpointsAreTakenAndRestored := by
  unfold Obligations.CheckpointsAreTakenAndRestored
  refine ⟨?_, ?_, ?_, ?_, ?_, ?_, ?_, fun m r hr hc => Module.ckptEnds_keeps hr hc, ?_, fun recs h => packShards_packs h⟩
  · rintro s src c b hfresh rfl hz2 hz1c hi hsize
    refine ⟨fun hk hep haddr hkey => ?_, fun hfree => ⟨fun hk hep hkey hup hd es hes hok hsz => ?_, fun hk => ?_⟩⟩
    · have hf : TargetFields c.payload := ⟨⟨hz2, hz1c⟩, hi, by omega, .inr hep, .inr haddr, hsize, .inr hkey⟩
      refine ⟨fun r hr ht => does_onCmd rfl hfresh (ckptTargetCmd_busy hf hr ht), fun hfree => ?_⟩
      have hreg := (ckptTargetCmd_registers hf hfree (.inl (by omega))).trans (registerTarget_local hk)
      exact ⟨fun hnone => does_onCmd rfl hfresh (hreg.trans (by rw [hnone])),
        fun es m1 hsome => does_onCmd rfl hfresh (hreg.trans (by rw [hsome]))⟩
    · have hf : TargetFields c.payload := ⟨⟨hz2, hz1c⟩, hi, by omega, .inr hep, .inl (by omega), hsize, .inr hkey⟩
      exact does_onCmd rfl hfresh ((ckptTargetCmd_registers hf hfree (.inl (by omega))).trans
        (registerTarget_host hk hup hd hes hok hsz))
    · have hf : TargetFields c.payload := ⟨⟨hz2, hz1c⟩, hi, by omega, .inl hk, .inl (by omega), hsize, .inl hk⟩
      exact ⟨fun he => does_onCmd rfl hfresh (ckptTargetCmd_denied hf hfree hk he), fun e he hke =>
        does_onCmd rfl hfresh ((ckptTargetCmd_registers hf hfree (.inr ⟨e, he, hke⟩)).trans (registerTarget_remote hk))⟩
  · rintro s src c b t hfresh rfl hz3 hz6 hi ht hs hp hl hx
    have heq := ckptTakeCmd_eq ⟨hz3, hz6⟩ hi ht hs hp hl hx
    refine ⟨fun hr => does_onCmd rfl hfresh (heq.trans (if_neg (by simpa using Option.isSome_iff_ne_none.mp hr))), fun hr => ?_⟩
    have hjudged := heq.trans (if_pos (by rw [hr]; rfl))
    exact ⟨fun hk hro => does_onCmd rfl hfresh (hjudged.trans (if_neg (by simp [hk, hro]))),
      fun hgo => does_onCmd rfl hfresh (hjudged.trans (if_pos (by simpa using hgo)))⟩
  · intro s src c hfresh
    exact ⟨fun hr => does_onCmd rfl hfresh (if_pos (by rw [hr]; rfl)),
      fun hr => does_onCmd rfl hfresh (if_neg (by simpa [← Option.ne_none_iff_isSome] using hr))⟩
  · intro s src c hfresh
    exact ⟨fun hr => does_onCmd rfl hfresh (if_pos hr), fun hr => does_onCmd rfl hfresh (if_neg (by rw [hr]; simp))⟩
  · rintro s src c b t fetched hfresh rfl hz3 hz1c
    refine ⟨fun hr => does_onCmd rfl hfresh (ckptRestoreCmd_busy ⟨hz3, hz1c⟩ hr), fun hr hu hi ht hs hp => ?_⟩
    have heq := ckptRestoreCmd_reads (fetched := fetched) ⟨hz3, hz1c⟩ hr hu hi ht hs hp
    refine ⟨fun hk => ?_, fun hk hup hd => ?_, fun hk hnone => ?_, fun x hk hsome => ?_⟩
    · exact does_onCmd rfl hfresh (heq.trans (by rw [hk]; rfl))
    · exact does_onCmd rfl hfresh (heq.trans (by rw [hk, if_pos (by decide), Module.withHost_up hup hd]))
    · exact does_onCmd rfl hfresh (heq.trans (by rw [hk, hnone]; rfl))
    · exact does_onCmd rfl hfresh (heq.trans (by rw [hk, hsome]; rfl))
  · intro m c t l head n ht hl hhead hn hversion hscope hkind hlo hhi hparts
    exact Module.restoreFrom_unsigned ht hl hhead hn hversion hscope hkind hlo hhi hparts
  · intro s r t hl hr ht
    have hrun : ∀ due, (s.m.advanceTo due).ckpt.run = some r := fun due => by rw [Module.advanceTo_ckpt, hr]
    have htarget : ∀ due, (s.m.advanceTo due).ckpt.targets.get r.target = some t := fun due => by rw [Module.advanceTo_ckpt, ht]
    refine ⟨fun hs hlive => ?_, fun hs => ?_, fun hs => ?_, fun hs hk hup hd => ?_, fun hs hk hup hd hc => ?_⟩
    · exact does_run rfl hl (checkpointCut_takes hr ht hs hlive)
    · refine doesAt_runAt (exec_cutWaitExpiry s) hl ?_ (cutWaitExpiry_ends (hrun _) hs)
      simp [hr, hs, cutWaitDue, ms, Nat.mul_comm]
    · exact doesAt_runAt rfl hl (destinationDue_copying hr hs) (destinationTimeout_ends (hrun _) hs)
    · exact doesAt_runAt rfl hl (copyDue_copying hr hs)
        (copyComplete_host (hrun _) (htarget _) hk (by simpa using hup) (by simpa using hd) hs)
    · exact does_run rfl hl (manifestComplete_host hr ht hk hup hd hs hc)
  · intro s n count hn hl
    refine ⟨fun hle => does_run (exec_failureWarning count s hn) hl (failureWarning_below hle), fun hn6 he hgt => ⟨fun hr => ?_,
      fun hr hw ha ht => ?_⟩⟩
    · exact does_run (exec_failureWarning count s hn) hl (failureWarning_running hn6 he hgt hr)
    · exact does_run (exec_failureWarning count s hn) hl (failureWarning_starts hn6 he hgt hr hw ha ht)

end


namespace Sys2Proof.Machine

open Sys2Proof

/-! ### The strand instructions: issue (R364, R368, R375) -/

/-- A value changed by the identity of what stands there is as it was. -/
theorem KMap.upd_id {α : Type} {m : KMap α} {k : Nat} {x : α} {f : α → α} (h : m.get k = some x) (hf : f x = x) :
    m.upd k f = m := by
  induction m with
  | nil => rfl
  | cons e rest ih =>
    obtain ⟨a, y⟩ := e
    rw [KMap.get] at h
    rw [KMap.upd]
    split <;> rename_i hk
    · rw [if_pos hk, Option.some.injEq] at h
      rw [h, hf]
    · rw [if_neg hk] at h
      rw [ih h]

/-- Two changes that agree on what stands at the key are one. -/
theorem KMap.upd_congr {α : Type} {m : KMap α} {k : Nat} {x : α} {f g : α → α} (h : m.get k = some x) (hf : f x = g x) :
    m.upd k f = m.upd k g := by
  induction m with
  | nil => rfl
  | cons e rest ih =>
    obtain ⟨a, y⟩ := e
    rw [KMap.get] at h
    rw [KMap.upd, KMap.upd]
    split <;> rename_i hk
    · rw [if_pos hk, Option.some.injEq] at h
      rw [h, hf]
    · rw [if_neg hk] at h
      rw [ih h]

theorem KMap.upd_upd {α : Type} (m : KMap α) (k : Nat) (f g : α → α) : (m.upd k f).upd k g = m.upd k (fun x => g (f x)) := by
  induction m with
  | nil => rfl
  | cons e rest ih =>
    obtain ⟨a, y⟩ := e
    by_cases hk : (a == k) = true <;> simp [KMap.upd, hk, ih]

namespace Module
variable {m n : Module} {t op : Nat} {th : Thread} {w : SWord}

theorem updThread_id {f : Thread → Thread} (h : m.strand.threads.get t = some th) (hf : f th = th) : m.updThread t f = m := by
  rw [updThread, KMap.upd_id h hf]

theorem updThread_congr {f g : Thread → Thread} (h : m.strand.threads.get t = some th) (hf : f th = g th) :
    m.updThread t f = m.updThread t g := by
  rw [updThread, KMap.upd_congr h hf, updThread]

theorem updThread_updThread (f g : Thread → Thread) (m : Module) :
    (m.updThread t f).updThread t g = m.updThread t (fun x => g (f x)) := by
  rw [updThread, updThread, updThread, KMap.upd_upd]

theorem updThread_get {f : Thread → Thread} (h : m.strand.threads.get t = some th) :
    (m.updThread t f).strand.threads.get t = some (f th) :=
  (KMap.get_upd_same ..).trans (by rw [h]; rfl)

theorem counted_onlyRegs (m : Module) : m.OnlyRegs m.counted := (OnlyRegs.refl m).bump _

theorem counted_strand (m : Module) : m.counted.strand = m.strand := (counted_onlyRegs m).same (·.strand)

theorem counted_clk (m : Module) : m.counted.clk = m.clk := (counted_onlyRegs m).same (·.clk)

theorem counted_get {f : Fld} (h : f.off ≠ Reg.STRAND.INSTRUCTIONS_COUNT.off) (m : Module) : m.counted.get f = m.get f :=
  get_bump_other m h

/-- The thread that stands in the module whose instructions are counted. -/
theorem counted_thread (h : m.strand.threads.get t = some th) : m.counted.strand.threads.get t = some th := by
  rw [counted_strand, h]

/-- A change of an issuing thread puts it to what the change makes of it. -/
theorem counted_updThread {f : Thread → Thread} {th' : Thread} (h : m.strand.threads.get t = some th) (hf : f th = th') :
    m.counted.updThread t f = m.withThread t th' :=
  updThread_congr (counted_thread h) hf

end Module

section
variable {m : Module} {s : State} {t op : Nat} {th : Thread} {w : SWord}
  {stalls : SWord → Thread → SVals → Module → Bool} {f : SWord → Thread → SVals → Module → Module}

theorem Issues.thread (h : Issues m t op th w) : m.strand.threads.get t = some th := h.2.1

theorem Issues.live (h : Issues m t op th w) : m.live = true := h.1

/-- An instruction that nothing holds up acts on the module that has counted it. -/
theorem issueWhen_acts (h : Issues m t op th w) (hst : stalls w th (th.vals w) m = false) :
    issueWhen op t stalls f m = f w th (th.vals w) m.counted := by
  obtain ⟨-, hth, hs, hw, hf, hop, hok, hr⟩ := h
  obtain ⟨word, hword, rfl⟩ := Option.map_eq_some_iff.1 hf
  have hcan : m.canIssue t = true := by simp [Module.canIssue, hth, hs, hw]
  have hany : (SWord.decode word).reads.any th.pendingReg = false :=
    List.any_eq_false.2 fun r hmem => by rw [hr r hmem]; exact Bool.false_ne_true
  have hgo : ¬((SWord.decode word).op.toNat != op || !(SWord.decode word).ok || (SWord.decode word).reads.any th.pendingReg ||
      stalls (SWord.decode word) th (th.vals (SWord.decode word)) m) = true := by
    simp [hop, hok, hst, hany]
  have hcount : (if th.wait == .none then m.bump Reg.STRAND.INSTRUCTIONS_COUNT else m) = m.counted := by
    rw [hw]
    exact if_pos (by decide)
  have hid : m.counted.updThread t (fun x => { x with wait := .none }) = m.counted :=
    Module.updThread_id (Module.counted_thread hth) (by cases th; cases hw; rfl)
  unfold issueWhen
  rw [if_neg (by simp [hcan])]
  simp only [hth, hword]
  rw [if_neg hgo, hcount, hid]

/-- An instruction that has to wait leaves the module alone. -/
theorem issueWhen_waits (h : Issues m t op th w) (hst : stalls w th (th.vals w) m = true) : issueWhen op t stalls f m = m := by
  obtain ⟨-, hth, hs, hw, hf, hop, hok, hr⟩ := h
  obtain ⟨word, hword, rfl⟩ := Option.map_eq_some_iff.1 hf
  have hcan : m.canIssue t = true := by simp [Module.canIssue, hth, hs, hw]
  simp [issueWhen, hcan, hth, hword, hst]

variable {i : Instr} {n : Module}

theorem does_issueWhen (hi : exec i s = run (issueWhen op t stalls f) s) (h : Issues s.m t op th w)
    (hst : stalls w th (th.vals w) s.m = false) (hn : f w th (th.vals w) s.m.counted = n) : Does i s n :=
  does_run hi h.live ((issueWhen_acts h hst).trans hn)

theorem idle_issueWhen (hi : exec i s = run (issueWhen op t stalls f) s) (h : Issues s.m t op th w)
    (hst : stalls w th (th.vals w) s.m = true) : Idle i s :=
  does_run hi h.live (issueWhen_waits h hst)

theorem does_issue (hi : exec i s = run (issue op t f) s) (h : Issues s.m t op th w)
    (hn : f w th (th.vals w) s.m.counted = n) : Does i s n :=
  does_issueWhen hi h rfl hn

/-- An instruction that changes its thread alone. -/
theorem does_issue_thread {g : Thread → Thread} {th' : Thread} (hi : exec i s = run (issue op t f) s) (h : Issues s.m t op th w)
    (hn : f w th (th.vals w) s.m.counted = s.m.counted.updThread t g) (hg : g th = th') : Does i s (s.m.withThread t th') :=
  does_issue hi h (hn.trans (Module.counted_updThread h.thread hg))

end

end Sys2Proof.Machine


namespace Sys2Proof.Machine

open Sys2Proof

/-! ### The strand instructions on registers and the program counter (R365, R368 to R370) -/

section
variable {s : State} {t op : Nat} {th : Thread} {w : SWord} {i : Instr}

/-- An instruction that computes D puts its value there and goes to the next word. -/
theorem does_alu {g : SVals → Word} {v : Word} (hi : exec i s = run (alu op t g) s) (h : Issues s.m t op th w)
    (hv : g (th.vals w) = v) : Does i s (s.m.withThread t { (th.setReg w.d.toNat v) with pc := (th.pc + 8) % 2 ^ 64 }) := by
  subst hv
  exact does_issue_thread hi h rfl rfl

theorem does_branch {g : SVals → Bool} {b : Bool} (hi : exec i s = run (branch op t g) s) (h : Issues s.m t op th w)
    (hv : g (th.vals w) = b) : Does i s (s.m.withThread t { th with
      pc := if b then (BitVec.ofNat 64 th.pc + 8 * w.imm.signExtend 64).toNat else (th.pc + 8) % 2 ^ 64 }) := by
  cases b
  · exact does_issue_thread hi h (by simp only [hv]; rfl) rfl
  · exact does_issue_thread hi h (by simp only [hv]; rfl) rfl

/-- An instruction that only goes on. -/
theorem does_pass (hi : exec i s = run (issue op t (fun _ _ _ m => m.pass t)) s) (h : Issues s.m t op th w) :
    Does i s (s.m.withThread t { th with pc := (th.pc + 8) % 2 ^ 64 }) :=
  does_issue_thread hi h rfl rfl

end

theorem divu_eq (a b : Word) :
    (if b == 0 then 0xFFFFFFFFFFFFFFFF else a / b) = if b = 0 then BitVec.allOnes 64 else BitVec.ofNat 64 (a.toNat / b.toNat) := by
  by_cases h : b = 0
  · simp [h]
  · simp only [beq_iff_eq, h, if_false]
    exact BitVec.eq_of_toNat_eq (by
      rw [BitVec.toNat_udiv, BitVec.toNat_ofNat, Nat.mod_eq_of_lt (lt_of_le_of_lt (Nat.div_le_self ..) a.isLt)])

theorem remu_eq (a b : Word) :
    (if b == 0 then a else a % b) = if b = 0 then a else BitVec.ofNat 64 (a.toNat % b.toNat) := by
  by_cases h : b = 0
  · simp [h]
  · simp only [beq_iff_eq, h, if_false]
    exact BitVec.eq_of_toNat_eq (by
      rw [BitVec.toNat_umod, BitVec.toNat_ofNat, Nat.mod_eq_of_lt (lt_of_le_of_lt (Nat.mod_le ..) a.isLt)])

theorem bword_eq (p : Prop) [Decidable p] (b : Bool) (h : b = decide p) : bword b = if p then 1 else 0 := by
  subst h
  simp [bword]

theorem popcount_eq (a : Word) : popcount 64 a.toNat = (List.range 64).countP (fun i => a.getLsbD i) := by
  rw [popcount, List.countP_eq_length_filter]
  exact congrArg (fun p => (List.filter p (List.range 64)).length) (funext fun i => Nat.testBit_eq_decide_div_mod_eq.symm)

theorem bne_word_eq (a b : Word) : (a != b) = decide (a ≠ b) := by
  rw [bne, beq_eq_decide, ← decide_not]

theorem not_slt_eq (a b : Word) : (!(a.slt b)) = decide (b.toInt ≤ a.toInt) := by
  rw [BitVec.slt, ← decide_not, decide_eq_decide, not_lt]

theorem not_ult_eq (a b : Word) : (!(a.ult b)) = decide (b.toNat ≤ a.toNat) := by
  rw [BitVec.ult, ← decide_not, decide_eq_decide, not_lt]

/-- The address that a jump leaves in D. -/
theorem link_eq (pc : Nat) : BitVec.ofNat 64 (nextPc pc) = BitVec.ofNat 64 (pc + 8) :=
  BitVec.eq_of_toNat_eq (by simp [nextPc])

theorem Thread.reg_zero (th : Thread) : th.reg 0 = 0 := rfl

theorem Thread.setReg_zero (v : Word) (th : Thread) : th.setReg 0 v = th := rfl

/-- What a key that is not there gives. -/
theorem KMap.getD_del_same {α : Type} {m : KMap α} (hwf : KMap.wf m = true) (k : Nat) (d : α) : (m.del k).getD k d = d := by
  rw [KMap.getD, KMap.get_del_same _ hwf]
  rfl

theorem Thread.reg_setReg_same {th : Thread} {d : Nat} (v : Word) (hwf : KMap.wf th.regs = true) (hd : d ≠ 0) :
    (th.setReg d v).reg d = v := by
  by_cases hv : v = 0#64
  · simp [Thread.setReg, Thread.reg, hd, hv, KMap.getD_del_same hwf]
  · simp [Thread.setReg, Thread.reg, hd, hv, KMap.getD, KMap.get_put_same]

theorem Thread.reg_setReg_other {th : Thread} {d r : Nat} (v : Word) (h : r ≠ d) : (th.setReg d v).reg r = th.reg r := by
  by_cases hd : d = 0
  · simp [Thread.setReg, hd]
  · by_cases hv : v = 0#64
    · simp [Thread.setReg, Thread.reg, hd, hv, KMap.getD, KMap.get_del_other _ h]
    · simp [Thread.setReg, Thread.reg, hd, hv, KMap.getD, KMap.get_put_other _ _ h]

/-- The special values of GETS (R370). -/
theorem specialValue_eq {m : Module} {t v k : Nat} {th : Thread} {j : Job} (hj : m.strand.jobs.get th.job = some j)
    (h : (k = 0 ∧ v = th.index) ∨ (k = 1 ∧ v = j.threads) ∨ (k = 2 ∧ v = th.job) ∨ (k = 3 ∧ v = j.partition) ∨
      (k = 4 ∧ v = t / 8) ∨ (k = 5 ∧ v = m.clk.now) ∨ (k = 6 ∧ v = m.get Reg.MIRROR.STATE_LINK_ID)) :
    specialValue m t th k = BitVec.ofNat 64 v := by
  rcases h with ⟨rfl, rfl⟩ | ⟨rfl, rfl⟩ | ⟨rfl, rfl⟩ | ⟨rfl, rfl⟩ | ⟨rfl, rfl⟩ | ⟨rfl, rfl⟩ | ⟨rfl, rfl⟩ <;>
    simp [specialValue, hj]

theorem does_gets {s : State} {t v : Nat} {th : Thread} {w : SWord} {j : Job} (h : Issues s.m t 0x3A th w)
    (hj : s.m.strand.jobs.get th.job = some j)
    (hv : (w.imm = 0 ∧ v = th.index) ∨ (w.imm = 1 ∧ v = j.threads) ∨ (w.imm = 2 ∧ v = th.job) ∨ (w.imm = 3 ∧ v = j.partition) ∨
      (w.imm = 4 ∧ v = t / 8) ∨ (w.imm = 5 ∧ v = s.m.clk.now) ∨ (w.imm = 6 ∧ v = s.m.get Reg.MIRROR.STATE_LINK_ID)) :
    Does (.sGets t) s (s.m.withThread t
      { (th.setReg w.d.toNat (BitVec.ofNat 64 v)) with pc := (th.pc + 8) % 2 ^ 64 }) := by
  have hval : specialValue s.m.counted t th w.imm.toNat = BitVec.ofNat 64 v := by
    refine specialValue_eq (j := j) (by rw [Module.counted_strand, hj]) ?_
    rw [Module.counted_clk, Module.counted_get (by decide)]
    rcases hv with ⟨hi, hv⟩ | ⟨hi, hv⟩ | ⟨hi, hv⟩ | ⟨hi, hv⟩ | ⟨hi, hv⟩ | ⟨hi, hv⟩ | ⟨hi, hv⟩ <;> simp [hi, hv]
  refine does_issue_thread rfl h (congrArg (fun v => Module.retire t w.d.toNat v s.m.counted) hval) rfl

/-- A program counter outside the image faults with ADDRESS. -/
theorem issue_noWord {m : Module} {t op : Nat} {th : Thread} {f} (hth : m.strand.threads.get t = some th)
    (hs : th.suspended = false) (hw : th.wait = .none) (hf : m.fetchWord t = none) :
    issue op t f m = m.strandFault t 0x02 th.pc := by
  have hcan : m.canIssue t = true := by simp [Module.canIssue, hth, hs, hw]
  simp [issue, issueWhen, hcan, hth, hf]

/-- A thread that reads a register in flight does not issue. -/
theorem issue_pending {m : Module} {t op : Nat} {th : Thread} {word : Word} {f} (hth : m.strand.threads.get t = some th)
    (hs : th.suspended = false) (hw : th.wait = .none) (hf : m.fetchWord t = some word)
    (hr : ∃ r ∈ (SWord.decode word).reads, th.pendingReg r = true) : issue op t f m = m := by
  have hcan : m.canIssue t = true := by simp [Module.canIssue, hth, hs, hw]
  have hany : (SWord.decode word).reads.any th.pendingReg = true := List.any_eq_true.2 hr
  simp [issue, issueWhen, hcan, hth, hf, hany]

theorem threadProg_counted (m : Module) (t : Nat) : m.counted.threadProg t = m.threadProg t :=
  (Module.counted_onlyRegs m).same (·.threadProg t)

theorem does_jalr {s : State} {t : Nat} {th : Thread} {w : SWord} {pr : StrandProg} (h : Issues s.m t 0x37 th w)
    (hp : s.m.threadProg t = some pr) :
    let dest := (th.reg w.a.toNat + w.imm.signExtend 64).toNat
    (dest % 8 = 0 ∧ 0x10000000 ≤ dest ∧ dest < 0x10000000 + 64 + 8 * pr.words → Does (.sJalr t) s (s.m.withThread t
      { (th.setReg w.d.toNat (BitVec.ofNat 64 (th.pc + 8))) with pc := dest })) ∧
    (¬(dest % 8 = 0 ∧ 0x10000000 ≤ dest ∧ dest < 0x10000000 + 64 + 8 * pr.words) →
      Does (.sJalr t) s (s.m.counted.strandFault t 0x04 dest)) := by
  intro dest
  have hsize : ((s.m.counted.threadProg t).map (·.bytes)).getD 0 = 64 + 8 * pr.words := by rw [threadProg_counted, hp]; rfl
  have hguard : (dest % 8 == 0 && decide (0x10000000 ≤ dest) && decide (dest < 0x10000000 + (64 + 8 * pr.words))) = true ↔
      (dest % 8 = 0 ∧ 0x10000000 ≤ dest ∧ dest < 0x10000000 + 64 + 8 * pr.words) := by
    rw [← Nat.add_assoc]
    simp [and_assoc]
  refine ⟨fun hd => does_issue_thread
    (g := fun x => { (x.setReg w.d.toNat (BitVec.ofNat 64 (nextPc th.pc))) with pc := dest }) rfl h ?_ ?_, fun hd => does_issue rfl h ?_⟩
  · dsimp only
    rw [hsize]
    exact if_pos (hguard.2 hd)
  · rw [link_eq]
  · dsimp only
    rw [hsize]
    exact if_neg fun hg => hd (hguard.1 hg)

theorem does_jal {s : State} {t : Nat} {th : Thread} {w : SWord} (h : Issues s.m t 0x36 th w) :
    Does (.sJal t) s (s.m.withThread t
      { (th.setReg w.d.toNat (BitVec.ofNat 64 (th.pc + 8))) with
        pc := (BitVec.ofNat 64 th.pc + 8 * w.imm.signExtend 64).toNat }) :=
  does_issue_thread rfl h rfl (by rw [link_eq]; rfl)

theorem does_rand {s : State} {t : Nat} {th : Thread} {w : SWord} (h : Issues s.m t 0x71 th w) :
    Does (.sRand t) s (s.m.withThread t
      { (th.setReg w.d.toNat (Config.rngNext th.rng).2) with rng := (Config.rngNext th.rng).1, pc := (th.pc + 8) % 2 ^ 64 }) := by
  refine does_issue_thread rfl h (Module.updThread_updThread ..) ?_
  unfold Thread.setReg
  split <;> rfl

theorem does_rseed {s : State} {t : Nat} {th : Thread} {w : SWord} (h : Issues s.m t 0x72 th w) :
    Does (.sRseed t) s (s.m.withThread t
      { th with rng := ((th.reg w.a.toNat).toNat, (th.reg w.b.toNat).toNat), pc := (th.pc + 8) % 2 ^ 64 }) :=
  does_issue_thread rfl h (Module.updThread_updThread ..) rfl

/-- Settles O51. That a program counter outside the image faults with ADDRESS is the model's reading (assumption 40). -/
theorem strandRegistersAndBranches : Obligations.StrandRegistersAndBranches := by
  unfold Obligations.StrandRegistersAndBranches
  refine ⟨?_, ?_, fun s t th w => ⟨fun h => does_pass rfl h, fun h => does_pass rfl h, fun h => does_issue rfl h rfl,
    does_jal, fun h pr hp => does_jalr h hp, fun h j hj v hv => does_gets h hj hv, does_rand, does_rseed⟩,
    fun s t th hl hth hs hw => ⟨fun hf => does_run rfl hl (issue_noWord hth hs hw hf),
      fun word hf hr => does_run rfl hl (issue_pending hth hs hw hf hr)⟩,
    fun th d r v => ⟨th.reg_zero, th.setReg_zero v, fun hwf hd => Thread.reg_setReg_same v hwf hd,
      fun hr => Thread.reg_setReg_other v hr⟩⟩
  · simp only [List.forall_mem_cons, List.not_mem_nil, false_implies, implies_true, and_true]
    exact ⟨fun s t th w h => does_alu rfl h rfl,
      fun s t th w h => does_alu rfl h rfl,
      fun s t th w h => does_alu rfl h rfl,
      fun s t th w h => does_alu rfl h rfl,
      fun s t th w h => does_alu rfl h (divu_eq ..),
      fun s t th w h => does_alu rfl h (remu_eq ..),
      fun s t th w h => does_alu rfl h rfl,
      fun s t th w h => does_alu rfl h rfl,
      fun s t th w h => does_alu rfl h rfl,
      fun s t th w h => does_alu rfl h rfl,
      fun s t th w h => does_alu rfl h rfl,
      fun s t th w h => does_alu rfl h rfl,
      fun s t th w h => does_alu rfl h (bword_eq _ _ rfl),
      fun s t th w h => does_alu rfl h (bword_eq _ _ rfl),
      fun s t th w h => does_alu rfl h (by simp [Thread.vals]),
      fun s t th w h => does_alu rfl h (congrArg (BitVec.ofNat 64) (popcount_eq _)),
      fun s t th w h => does_alu rfl h rfl,
      fun s t th w h => does_alu rfl h rfl,
      fun s t th w h => does_alu rfl h rfl,
      fun s t th w h => does_alu rfl h rfl,
      fun s t th w h => does_alu rfl h rfl,
      fun s t th w h => does_alu rfl h rfl,
      fun s t th w h => does_alu rfl h rfl,
      fun s t th w h => does_alu rfl h rfl,
      fun s t th w h => does_alu rfl h rfl⟩
  · simp only [List.forall_mem_cons, List.not_mem_nil, false_implies, implies_true, and_true]
    exact ⟨fun s t th w h => does_branch rfl h (beq_eq_decide ..), fun s t th w h => does_branch rfl h (bne_word_eq ..),
      fun s t th w h => does_branch rfl h rfl, fun s t th w h => does_branch rfl h (not_slt_eq ..),
      fun s t th w h => does_branch rfl h rfl, fun s t th w h => does_branch rfl h (not_ult_eq ..)⟩

end Sys2Proof.Machine


namespace Sys2Proof.Machine

open Sys2Proof

/-! ### The strand instructions on memory (R365, R366, R374) -/

section
variable {m : Module} {t a n : Nat} {write atomic : Bool} {th : Thread}

theorem strandCheck_counted : m.counted.strandCheck t a n write atomic = m.strandCheck t a n write atomic :=
  (Module.counted_onlyRegs m).same (·.strandCheck t a n write atomic)

theorem strandRead_counted : m.counted.strandRead t a n = m.strandRead t a n :=
  (Module.counted_onlyRegs m).same (·.strandRead t a n)

theorem threadPart_counted : m.counted.threadPart t = m.threadPart t :=
  (Module.counted_onlyRegs m).same (·.threadPart t)

theorem access_misaligned {go} (ha : a % n ≠ 0) : access t a n write atomic go m = m.strandFault t 0x01 a := by
  simp [access, ha]

theorem access_refused {go} {cause : Nat} (ha : a % n = 0) (hc : m.strandCheck t a n write atomic = some cause) :
    access t a n write atomic go m = m.accessFault t cause a := by
  simp [access, ha, hc]

theorem access_granted {go} (ha : a % n = 0) (hc : m.strandCheck t a n write atomic = none) (hh : isHostPlace a = false) :
    access t a n write atomic go m = go m := by
  simp [access, ha, hc, hh]

theorem hostStall_misaligned (ha : a % n ≠ 0) : hostStall t a n write atomic th m = false := by
  simp [hostStall, ha]

theorem hostStall_refused {cause : Nat} (hc : m.strandCheck t a n write atomic = some cause) :
    hostStall t a n write atomic th m = false := by
  simp [hostStall, hc]

theorem hostStall_local (hh : isHostPlace a = false) : hostStall t a n write atomic th m = false := by
  simp [hostStall, hh]

/-- An atomic to the HOST window is refused. -/
theorem not_isHostPlace_of_atomic (hc : m.strandCheck t a n true true = none) : isHostPlace a = false := by
  unfold isHostPlace
  split
  · rename_i x hp
    simp [Module.strandCheck, Module.strandCheckAs, hp] at hc
  · rfl

end

section
variable {s : State} {t op n : Nat} {th : Thread} {w : SWord} {i : Instr}

/-- A load: misaligned, refused by its window, or granted. -/
theorem does_load {g : Nat → Word} (hi : exec i s = run (load op t n g) s) (h : Issues s.m t op th w) (hl : th.loads.length < 8) :
    let a := (th.reg w.a.toNat + w.imm.signExtend 64).toNat
    (a % n ≠ 0 → Does i s (s.m.counted.strandFault t 0x01 a)) ∧
    (a % n = 0 → ∀ cause, s.m.strandCheck t a n false false = some cause → Does i s (s.m.counted.accessFault t cause a)) ∧
    (a % n = 0 → s.m.strandCheck t a n false false = none → isHostPlace a = false →
      (let got := s.m.counted.strandLoad t a n
       Does i s (got.2.updThread t (fun x => { x with
        loads := (x.loads.map (fun l => if l.reg = w.d.toNat then { l with reg := 0 } else l)) ++
          [⟨w.d.toNat, g (leNat got.1), false, th.pc, a, s.m.clk.mono, false⟩],
        pc := (x.pc + 8) % 2 ^ 64 })))) := by
  intro a
  have hstall (hs : hostStall t a n false false th s.m = false) :
      (decide (8 ≤ th.loads.length) || hostStall t a n false false th s.m) = false := by
    rw [hs, Bool.or_false, decide_eq_false_iff_not]
    omega
  refine ⟨fun ha => ?_, fun ha cause hc => ?_, fun ha hc hh => ?_⟩
  · exact does_issueWhen hi h (hstall (hostStall_misaligned ha)) (access_misaligned ha)
  · exact does_issueWhen hi h (hstall (hostStall_refused hc)) (access_refused ha (strandCheck_counted.trans hc))
  · refine does_issueWhen hi h (hstall (hostStall_local hh)) ((access_granted ha (strandCheck_counted.trans hc) hh).trans ?_)
    simp only [show isHostPlace (BitVec.toNat ((th.vals w).a + (th.vals w).imm)) = false from hh, Module.counted_clk, beq_iff_eq]
    rfl

/-- A store: misaligned, refused by its window, or granted. -/
theorem does_store (hi : exec i s = run (store op t n) s) (h : Issues s.m t op th w) :
    let a := (th.reg w.a.toNat + w.imm.signExtend 64).toNat
    (a % n ≠ 0 → Does i s (s.m.counted.strandFault t 0x01 a)) ∧
    (a % n = 0 → ∀ cause, s.m.strandCheck t a n true false = some cause → Does i s (s.m.counted.accessFault t cause a)) ∧
    (a % n = 0 → s.m.strandCheck t a n true false = none → isHostPlace a = false → Does i s
      ((s.m.counted.strandStore t a (leBytes n (th.reg w.b.toNat).toNat)).pass t)) := by
  intro a
  refine ⟨fun ha => ?_, fun ha cause hc => ?_, fun ha hc hh => ?_⟩
  · exact does_issueWhen hi h (hostStall_misaligned ha) (access_misaligned ha)
  · exact does_issueWhen hi h (hostStall_refused hc) (access_refused ha (strandCheck_counted.trans hc))
  · refine does_issueWhen hi h (hostStall_local hh) ((access_granted ha (strandCheck_counted.trans hc) hh).trans ?_)
    simp only [show isHostPlace (BitVec.toNat ((th.vals w).a + (th.vals w).imm)) = false from hh]
    rfl

/-- An atomic that is aligned: refused by its window, or granted. -/
theorem does_atomic {g : SVals → Word → Option Word} {k : Word → Word → Word → Option Word}
    (hi : exec i s = run (atomic op t g) s) (hg : ∀ v old, g v old = k old v.b v.c) (h : Issues s.m t op th w) :
    let a := (th.reg w.a.toNat + w.imm.signExtend 64).toNat
    let old := BitVec.ofNat 64 (leNat (s.m.strandRead t a 8))
    let new := k old (th.reg w.b.toNat) (th.reg w.c.toNat)
    (a % 8 = 0 → ∀ cause, s.m.strandCheck t a 8 true true = some cause → Does i s (s.m.counted.accessFault t cause a)) ∧
    (a % 8 = 0 → s.m.strandCheck t a 8 true true = none → Does i s
      (((new.elim s.m.counted (fun x => s.m.counted.strandStore t a (leBytes 8 x.toNat)))).retire t w.d.toNat old)) := by
  intro a old new
  refine ⟨fun ha cause hc => does_issue hi h (access_refused ha (strandCheck_counted.trans hc)), fun ha hc => ?_⟩
  refine does_issue hi h ((access_granted ha (strandCheck_counted.trans hc) (not_isHostPlace_of_atomic hc)).trans ?_)
  have hnew : new = g (th.vals w) (BitVec.ofNat 64 (leNat (s.m.counted.strandRead t a 8))) := by
    rw [hg, strandRead_counted]
    rfl
  have hold : old = BitVec.ofNat 64 (leNat (s.m.counted.strandRead t a 8)) := by rw [strandRead_counted]
  rw [hnew, hold]
  dsimp only
  change Module.retire t w.d.toNat _ _ = _
  congr 1
  change (match g (th.vals w) (BitVec.ofNat 64 (leNat (s.m.counted.strandRead t a 8))) with
    | some x => s.m.counted.strandStore t a (leBytes 8 x.toNat)
    | none => s.m.counted) = _
  cases g (th.vals w) (BitVec.ofNat 64 (leNat (s.m.counted.strandRead t a 8))) <;> rfl

end

end Sys2Proof.Machine


namespace Sys2Proof.Machine

open Sys2Proof

/-! ### What a strand's bytes read back as (R365, R374) -/

theorem Mem.rdN_wrN_same {m : Mem} (hm : m.wf = true) (a : Nat) (b : Bytes) : (m.wrN a b).rdN a b.length = b := by
  apply List.ext_getElem
  · simp [Mem.rdN]
  · intro i h1 h2
    simp only [Mem.rdN, List.getElem_map, List.getElem_range]
    exact rd_wrN_in hm a b i h2

/-- Bytes within a range that is read are read. -/
theorem slice_rdN (m : Mem) {a k o n : Nat} (h : o + n ≤ k) : slice (m.rdN a k) o n = m.rdN (a + o) n := by
  have hlen : ((m.rdN a k).drop o).take n = m.rdN (a + o) n := by
    apply List.ext_getElem
    · simp [Mem.rdN]
      omega
    · intro i h1 h2
      simp [Mem.rdN, Nat.add_assoc]
  rw [slice, hlen]
  simp [Mem.rdN, zeros]

section
variable {m : Module} {t a n : Nat} {b : Bytes} {th : Thread}

/-- The lines of the cache are no part of what memory holds. -/
theorem strandRead_lines (ls : List CacheLine) :
    Module.strandRead { m with strand := { m.strand with lines := ls } } t a n = m.strandRead t a n := rfl

/-- Bytes written at a writable address read back. -/
theorem strandRead_strandWrite (hm : m.memWf = true) (hth : m.strand.threads.get t = some th) (hs : th.slice.wf = true)
    (hc : m.strandCheck t a b.length true false = none) : (m.strandWrite t a b).strandRead t a b.length = b := by
  obtain ⟨hhbm, hlp, hhost⟩ := Module.memWf_iff.1 hm
  unfold Module.strandRead Module.strandWrite
  cases hp : place a with
  | slice o =>
    have hget := Module.updThread_get (f := fun th => { th with slice := th.slice.wrN o b }) hth
    dsimp only
    rw [hget]
    exact Mem.rdN_wrN_same hs o b
  | hbm p => exact Mem.rdN_wrN_same hhbm p b
  | lpddr p => exact Mem.rdN_wrN_same hlp p b
  | host p => exact Mem.rdN_wrN_same hhost p b
  | code o => simp [Module.strandCheck, Module.strandCheckAs, hp] at hc
  | capsule => simp [Module.strandCheck, Module.strandCheckAs, hp] at hc
  | reserved => simp [Module.strandCheck, Module.strandCheckAs, hp] at hc

/-- A cached address and the line it stands in lie in one window. -/
theorem slice_strandRead_line (hc : isCached a = true) (hn : a % 64 + n ≤ 64) :
    slice (m.strandRead t (a / 64 * 64) 64) (a % 64) n = m.strandRead t a n := by
  have ha : a = a / 64 * 64 + a % 64 := (Nat.div_add_mod' a 64).symm
  have hmod := Nat.mod_lt a (show 0 < 64 by omega)
  unfold isCached place at hc
  unfold Module.strandRead place
  split_ifs at hc with h1 h2 h3 h4 h5 h6 <;> simp only at hc
  · have hw : ¬a / 64 * 64 ≤ 0x7FFF ∧ ¬(0x10000000 ≤ a / 64 * 64 ∧ a / 64 * 64 ≤ 0x1FFFFFFF) ∧
        (0x4000000000 ≤ a / 64 * 64 ∧ a / 64 * 64 ≤ 0x87FFFFFFFF) := by omega
    rw [if_neg hw.1, if_neg hw.2.1, if_pos hw.2.2, if_neg h1, if_neg h2, if_pos h3]
    exact (slice_rdN _ hn).trans (congrArg (m.hbm.rdN · n) (by omega))
  · have hw : ¬a / 64 * 64 ≤ 0x7FFF ∧ ¬(0x10000000 ≤ a / 64 * 64 ∧ a / 64 * 64 ≤ 0x1FFFFFFF) ∧
        ¬(0x4000000000 ≤ a / 64 * 64 ∧ a / 64 * 64 ≤ 0x87FFFFFFFF) ∧
        (0x10000000000 ≤ a / 64 * 64 ∧ a / 64 * 64 ≤ 0x1FFFFFFFFFF) := by omega
    rw [if_neg hw.1, if_neg hw.2.1, if_neg hw.2.2.1, if_pos hw.2.2.2, if_neg h1, if_neg h2, if_neg h3, if_pos h4]
    exact (slice_rdN _ hn).trans (congrArg (m.lpddr.rdN · n) (by omega))

/-- A line that the cache does not hold is read from memory. -/
theorem takeLine_absent (h : ∀ l ∈ m.strand.lines, l.core = t / 8 → l.addr ≠ a) : (m.takeLine t a).1 = m.strandRead t a 64 := by
  have hnone : m.strand.lines.find? (fun l => l.core == t / 8 && l.addr == a) = none :=
    List.find?_eq_none.2 fun l hl => by simpa using h l hl
  simp only [Module.takeLine, hnone, lineBytes]
  split <;> rfl

/-- A line is read from memory, or taken as the cache of its core holds it. -/
theorem takeLine_bytes : (m.takeLine t a).1 = m.strandRead t a 64 ∨
    ∃ l ∈ m.strand.lines, l.core = t / 8 ∧ l.addr = a ∧ (m.takeLine t a).1 = l.bytes := by
  cases hf : m.strand.lines.find? (fun l => l.core == t / 8 && l.addr == a) with
  | none =>
    refine .inl (takeLine_absent fun l hl => ?_)
    simpa using List.find?_eq_none.1 hf l hl
  | some l =>
    have hmine : l.core = t / 8 ∧ l.addr = a := by simpa using List.find?_some hf
    simp only [Module.takeLine, hf, lineBytes]
    split
    · exact .inr ⟨l, List.mem_of_find?_eq_some hf, hmine.1, hmine.2, rfl⟩
    · exact .inl rfl

theorem strandLoad_uncached (h : isCached a = false) : m.strandLoad t a n = (m.strandRead t a n, m) := by
  rw [Module.strandLoad, if_neg (by simp [h])]

theorem strandLoad_cached (h : isCached a = true) :
    (m.strandLoad t a n).1 = slice (m.takeLine t (a / 64 * 64)).1 (a % 64) n := by
  rw [Module.strandLoad, if_pos h]
  rfl

/-- The bytes that a store puts into a line stand where it stored them. -/
theorem slice_patch {l : CacheLine} (ha : l.addr = a / 64 * 64) (hl : l.bytes.length = 64) (hb : a % 64 + b.length ≤ 64) :
    slice (l.patch a b).bytes (a % 64) b.length = b := by
  have hsum := Nat.div_add_mod' a 64
  have htake : ((l.patch a b).bytes.drop (a % 64)).take b.length = b := by
    apply List.ext_getElem
    · simp [CacheLine.patch, hl]
      omega
    · intro i h1 h2
      have hle : a ≤ l.addr + (a % 64 + i) := by omega
      have hix : l.addr + (a % 64 + i) - a = i := by omega
      simp [CacheLine.patch, hle, hix, h2]
  rw [slice, htake]
  simp [zeros]

theorem line_fits (hb : b.length ∈ [1, 2, 4, 8]) (ha : a % b.length = 0) : a % 64 + b.length ≤ 64 := by
  simp only [List.mem_cons, List.not_mem_nil, or_false] at hb
  rcases hb with h | h | h | h <;> rw [h] at ha ⊢ <;> omega

/-- Bytes stored read back through the cache of the core that stored them. -/
theorem strandLoad_strandStore (hm : m.memWf = true) (hth : m.strand.threads.get t = some th) (hs : th.slice.wf = true)
    (hc : m.strandCheck t a b.length true false = none) (hb : b.length ∈ [1, 2, 4, 8]) (ha : a % b.length = 0)
    (hlines : ∀ l ∈ m.strand.lines, l.bytes.length = 64) : ((m.strandStore t a b).strandLoad t a b.length).1 = b := by
  have hread : (m.strandStore t a b).strandRead t a b.length = b := strandRead_strandWrite hm hth hs hc
  have hfit := line_fits hb ha
  cases hcached : isCached a with
  | false => rw [strandLoad_uncached hcached, hread]
  | true =>
    rw [strandLoad_cached hcached]
    rcases takeLine_bytes (m := m.strandStore t a b) (t := t) (a := a / 64 * 64) with h | ⟨l, hl, hcore, haddr, h⟩
    · rw [h, slice_strandRead_line hcached hfit, hread]
    · have hstored : (m.strandStore t a b).strand.lines =
          m.strand.lines.map (fun l => if l.core == t / 8 then l.patch a b else l) := by
        unfold Module.strandStore Module.strandWrite
        cases place a <;> rfl
      rw [hstored] at hl
      obtain ⟨l0, hl0, rfl⟩ := List.mem_map.1 hl
      rw [h]
      by_cases hmine : (l0.core == t / 8) = true
      · rw [if_pos hmine] at haddr ⊢
        exact slice_patch haddr (hlines l0 hl0) hfit
      · rw [if_neg hmine] at hcore
        exact absurd hcore (by simpa using hmine)

end

/-! ### Fences (R374) -/

theorem does_fence {s : State} {t : Nat} {th : Thread} {w : SWord} (h : Issues s.m t 0x4C th w) :
    (th.loads ≠ [] → Idle (.sFence t) s) ∧
    (th.loads = [] → (w.imm = 0 ∨ th.stores = []) →
      Does (.sFence t) s (s.m.withThread t { th with pc := (th.pc + 8) % 2 ^ 64 })) ∧
    (th.loads = [] → w.imm = 1 → th.stores ≠ [] → Does (.sFence t) s (s.m.withThread t { th with wait := .fence })) := by
  refine ⟨fun hl => idle_issueWhen rfl h (by simpa using hl), fun hl hfree => ?_, fun hl hi hst => ?_⟩
  · have hgo : ¬(w.imm == 1#32 && !th.stores.isEmpty) = true := by rcases hfree with h0 | h0 <;> simp [h0]
    exact does_issueWhen rfl h (by simp [hl]) ((if_neg hgo).trans (Module.counted_updThread h.thread rfl))
  · have hgo : (w.imm == 1#32 && !th.stores.isEmpty) = true := by simp [hi, hst]
    exact does_issueWhen rfl h (by simp [hl]) ((if_pos hgo).trans (Module.counted_updThread h.thread rfl))

end Sys2Proof.Machine


namespace Sys2Proof.Machine

open Sys2Proof

/-! ### The strand instructions on capsules (R367, R372) -/

theorem not_bne {a b : Nat} (h : a = b) : ¬(a != b) = true := by simp [h]

section
variable {m : Module} {t id off n : Nat} {write : Bool}

theorem capFault_counted : m.counted.capFault t id off n write = m.capFault t id off n write :=
  (Module.counted_onlyRegs m).same (·.capFault t id off n write)

theorem slot_counted (i : Nat) : m.counted.slot i = m.slot i := (Module.counted_onlyRegs m).same (·.slot i)

theorem frame_counted (h : Nat) : m.counted.frame h = m.frame h := (Module.counted_onlyRegs m).same (·.frame h)

theorem capStall_refused {align cause : Nat} (hc : m.capFault t id off n write = some cause)
    (hh : write = true → m.storeHeld t id off n = false) : capStall t id off n align write m = false := by
  cases write
  · simp [capStall, hc]
  · simp [capStall, hc, hh rfl]

theorem capStall_local {align : Nat} (hn : m.capNeedsHost id off n = false)
    (hh : write = true → m.storeHeld t id off n = false) : capStall t id off n align write m = false := by
  cases write
  · simp [capStall, hn]
  · simp [capStall, hn, hh rfl]

/-- A store that is granted finds a capsule that its thread's partition owns here, live and not in motion, and a byte of one of
its own slots. -/
theorem capFault_none {k : Capsule} (hk : m.capsule id = some k) (hf : m.capFault t id off n true = none) :
    k.partition = m.threadPart t ∧ m.owns k = true ∧ m.fenced = false ∧ k.state ≠ 3 ∧ k.state ≠ 5 ∧
    (∀ i r, m.requestOf id = some (i, r) → r.state ≠ 2) ∧
    ∃ l g o, k.range off n = some (.frame l g o) ∧ k.shared ≤ g ∧ (Frame.slotOf o).isSome = true := by
  simp only [Module.capFault, hk] at hf
  split at hf
  · exact absurd hf (by simp)
  rename_i hpart
  cases hr : k.range off n with
  | none => simp [hr] at hf
  | some r =>
    cases r with
    | header o => simp [hr] at hf
    | map o => simp [hr] at hf
    | frame l g o =>
      simp only [hr, Bool.not_true, Bool.false_eq_true, if_false, ite_eq_right_iff, reduceCtorEq, imp_false, Bool.or_eq_true,
        not_or, decide_eq_true_eq, Bool.not_eq_true', Bool.not_eq_false, beq_iff_eq, Option.isNone_iff_eq_none,
        Nat.not_lt, Bool.not_eq_true] at hf
      obtain ⟨⟨⟨⟨⟨⟨hslot, hshared⟩, howns⟩, hfenced⟩, h3⟩, h5⟩, hreq⟩ := hf
      refine ⟨by simpa using hpart, howns, hfenced, h3, h5, fun i r hir => ?_, l, g, o, rfl, hshared, ?_⟩
      · simpa [hir] using hreq
      · exact Option.isSome_iff_ne_none.2 hslot

end

section
variable {s : State} {t op n : Nat} {th : Thread} {w : SWord} {i : Instr}

theorem does_capLoad (hi : exec i s = run (capLoad op t n) s) (h : Issues s.m t op th w) (hl : th.loads.length < 8) :
    let id := (th.reg w.a.toNat).toNat % 2 ^ 32
    let off := (th.reg w.b.toNat + w.imm.signExtend 64).toNat
    (off % n = 0 → ∀ cause, s.m.capFault t id off n false = some cause → Does i s (s.m.counted.strandFault t cause off)) ∧
    (off % n = 0 → s.m.capFault t id off n false = none → s.m.capNeedsHost id off n = false →
      ∀ b m1, s.m.counted.capBytes id off n = (some b, m1) → Does i s (m1.updThread t (fun x => { x with
        loads := (x.loads.map (fun l => if l.reg = w.d.toNat then { l with reg := 0 } else l)) ++
          [⟨w.d.toNat, BitVec.ofNat 64 (leNat b), false, th.pc, off, s.m.clk.mono, false⟩],
        pc := (x.pc + 8) % 2 ^ 64 }))) := by
  intro id off
  have hstall (hs : capStall t id off n n false s.m = false) :
      (decide (8 ≤ th.loads.length) || capStall t id off n n false s.m) = false := by
    rw [hs, Bool.or_false, decide_eq_false_iff_not]
    omega
  refine ⟨fun ha cause hc => ?_, fun ha hc hh b m1 hb => ?_⟩
  · refine does_issueWhen hi h (hstall (capStall_refused hc (by simp))) ((if_neg (not_bne ha)).trans ?_)
    change (match s.m.counted.capFault t id off n false with | some cause => _ | none => _) = _
    rw [capFault_counted, hc] <;> rfl
  · refine does_issueWhen hi h (hstall (capStall_local hh (by simp))) ((if_neg (not_bne ha)).trans ?_)
    change (match s.m.counted.capFault t id off n false with | some cause => _ | none => match s.m.counted.capBytes id off n with
      | (none, m1) => _ | (some b, m1) => _) = _
    rw [capFault_counted, hc, hb]
    simp only [Module.counted_clk, beq_iff_eq]
    rfl

theorem does_capStore (hi : exec i s = run (capStore op t n) s) (h : Issues s.m t op th w) :
    let id := (th.reg w.a.toNat).toNat % 2 ^ 32
    let off := (th.reg w.b.toNat + w.imm.signExtend 64).toNat
    (off % n = 0 → s.m.storeHeld t id off n = true → Idle i s) ∧
    (off % n = 0 → s.m.storeHeld t id off n = false → ∀ cause, s.m.capFault t id off n true = some cause →
      Does i s (s.m.counted.strandFault t cause off)) ∧
    (off % n = 0 → s.m.storeHeld t id off n = false → s.m.capFault t id off n true = none → s.m.capNeedsHost id off n = false →
      ∀ l g o f, (s.m.slot (id / 256)).range off n = some (.frame l g o) →
        s.m.frame ((s.m.slot (id / 256)).handle l g) = some f → f.badIn o n = none →
        Does i s ((s.m.counted.capWrite id l g o (leBytes n (th.reg w.c.toNat).toNat)).pass t)) := by
  intro id off
  refine ⟨fun ha hheld => ?_, fun ha hheld cause hc => ?_, fun ha hheld hc hh l g o f hrange hframe hbad => ?_⟩
  · exact idle_issueWhen hi h (show capStall t id off n n true s.m = true by simp [capStall, ha, hheld])
  · refine does_issueWhen hi h (capStall_refused hc fun _ => hheld) ((if_neg (not_bne ha)).trans ?_)
    change (match s.m.counted.capFault t id off n true with | some cause => _ | none => _) = _
    rw [capFault_counted, hc] <;> rfl
  · refine does_issueWhen hi h (capStall_local hh fun _ => hheld) ((if_neg (not_bne ha)).trans ?_)
    change (match s.m.counted.capFault t id off n true with | some cause => _ | none => match (s.m.counted.slot (id / 256)).range off n with
      | some (.frame l p o) => match (s.m.counted.frame ((s.m.counted.slot (id / 256)).handle l p)).bind (fun f => f.badIn o n) with
        | some b => _ | none => _
      | _ => _) = _
    rw [capFault_counted, hc]
    simp only [slot_counted, hrange, frame_counted, hframe, Option.bind_some, hbad]
    rfl

/-- CRDB: a length out of range, or a copy that is granted. -/
theorem does_crdb (h : Issues s.m t 0x55 th w) :
    let id := (th.reg w.a.toNat).toNat % 2 ^ 32
    let off := (th.reg w.b.toNat + w.imm.signExtend 64).toNat
    let n := (th.reg w.c.toNat).toNat
    let dst := (th.reg w.d.toNat).toNat
    ((n = 0 ∨ 4096 < n) → Does (.sCrdb t) s (s.m.counted.strandFault t 0x07 off)) ∧
    (1 ≤ n → n ≤ 4096 → s.m.capFault t id off n false = none → s.m.strandCheck t dst n true false = none →
      s.m.capNeedsHost id off n = false → isHostPlace dst = false → ∀ b m1, s.m.counted.capBytes id off n = (some b, m1) →
      Does (.sCrdb t) s ((m1.strandStore t dst b).pass t)) := by
  intro id off n dst
  refine ⟨fun hn => ?_, fun h1 h2 hc hs hh hp b m1 hb => ?_⟩
  · have hlen : (n == 0 || decide (4096 < n)) = true := by simpa using hn
    have hstall : (decide (1 ≤ n) && decide (n ≤ 4096)) = false := by
      rw [← Bool.not_eq_true, Bool.and_eq_true, decide_eq_true_eq, decide_eq_true_eq]
      omega
    refine does_issueWhen rfl h ?_ (if_pos hlen)
    simp only [Thread.vals]
    change (decide (1 ≤ n) && decide (n ≤ 4096) && _ && _ && _) = false
    rw [hstall, Bool.false_and, Bool.false_and, Bool.false_and]
  · have hlen : ¬(n == 0 || decide (4096 < n)) = true := by
      simp only [Bool.or_eq_true, beq_iff_eq, decide_eq_true_eq]
      omega
    have hstall : capStall t id off n 1 false s.m = false := capStall_local hh (by simp)
    refine does_issueWhen rfl h ?_ ((if_neg hlen).trans ?_)
    · change (_ && _ && _ && _ && (capStall t id off n 1 false s.m || (isHostPlace dst && _))) = false
      rw [hstall, hp, Bool.false_and, Bool.or_false, Bool.and_false]
    · change (match s.m.counted.capFault t id off n false with
        | some cause => _
        | none => match s.m.counted.strandCheck t dst n true false with
          | some cause => _
          | none => if (isHostPlace dst && !s.m.counted.hostUp) = true then _ else match s.m.counted.capBytes id off n with
            | (none, m1) => _
            | (some b, m1) => if isHostPlace dst = true then _ else _) = _
      rw [capFault_counted, hc, strandCheck_counted, hs]
      simp only [hp, hb, Bool.false_and, Bool.false_eq_true, if_false]
      rfl

end

end Sys2Proof.Machine


namespace Sys2Proof.Machine

open Sys2Proof

/-! ### Engine issue and the token hand-off (R371, R373) -/

theorem issueOpcode_of_ok {w : SWord} (hop : w.op.toNat = 0x60) (hok : w.ok = true) : issueOpcodes.contains w.imm.toNat = true := by
  have huse : opUse w.op.toNat = some ⟨true, true, true, true, .issue⟩ := by rw [hop]; decide
  unfold SWord.ok at hok
  rw [huse] at hok
  simp only [Bool.and_eq_true] at hok
  exact hok.2

theorem issueOpcode_lt {op : Nat} (h : issueOpcodes.contains op = true) : op % 2 ^ 16 = op := by
  have hmem : op ∈ issueOpcodes := by simpa using h
  simp only [issueOpcodes, List.mem_cons, List.not_mem_nil, or_false] at hmem
  omega

theorem exists_bump_regs (f : Fld) (m : Module) : ∃ rs, m.bump f = { m with regs := rs } :=
  ⟨_, (Module.OnlyRegs.refl m).bump f⟩

/-- What EISS does with a granted command that names no event flag (R371): the body of its instruction. -/
def issueGo (w : SWord) (th : Thread) (t op pay blk p : Nat) (m : Module) : Module :=
  let b := m.strandRead t pay (issueLen op)
  if (m.issueParts (fun i => (m.bore.indexes.get i).map (·.partition)) op b).any (· != p) then
    (m.bump Reg.STRAND.ISSUE_REFUSED_COUNT).retire t w.d.toNat (stWord .denied)
  else if m.get Reg.STRAND.CTRL_ISSUE_MAX ≤ (m.strand.issued.vals.filter (fun i => i.partition == p)).length then
    ((m.bump Reg.STRAND.ISSUE_REFUSED_COUNT).set Reg.STRAND.STATUS_ISSUE_FULL 1).retire t w.d.toNat (stWord .busy)
  else
    let k := m.strand.nextIssue
    let c : RunCmd := ⟨m.host.nextRun, .eiss k, op, 0, 0, b, m.clk.mono, .fresh, [], [], 0, 0, false, true⟩
    let m1 := { m with
      strand := { m.strand with issued := m.strand.issued.put k ⟨p, t, th.job, blk, ligNone⟩, nextIssue := k + 1 },
      host := { m.host with running := m.host.running ++ [c], nextRun := m.host.nextRun + 1 } }
    (m1.bump Reg.STRAND.ISSUES_COUNT).retire t w.d.toNat (stWord .ok)

section
variable {s : State} {t : Nat} {th : Thread} {w : SWord}

/-- An EISS whose block is aligned, whose payload and block are granted and whose event flag is NONE. -/
theorem exec_eiss (h : Issues s.m t 0x60 th w) :
    let op := w.imm.toNat
    let pay := (th.reg w.a.toNat).toNat
    let blk := (th.reg w.b.toNat).toNat
    blk % 64 = 0 → s.m.strandCheck t pay (issueLen op) false false = none → s.m.strandCheck t blk 64 true false = none →
    isHostPlace pay = false → (th.reg w.c.toNat).toNat = ligNone →
    Does (.sEiss t) s (issueGo w th t op pay blk (s.m.threadPart t) s.m.counted) := by
  intro op pay blk hblk hpay hgrant hhost hflag
  have hop : w.imm.toNat % 2 ^ 16 = op := issueOpcode_lt (issueOpcode_of_ok h.2.2.2.2.2.1 h.2.2.2.2.2.2.1)
  refine does_issueWhen rfl h ?_ ?_
  · change (isHostPlace pay && _ && _ && _ && _) = false
    rw [hhost, Bool.false_and, Bool.false_and, Bool.false_and, Bool.false_and]
  · dsimp only
    rw [hop]
    refine (if_neg (not_bne hblk)).trans ?_
    change (match s.m.counted.strandCheck t pay (issueLen op) false false, s.m.counted.strandCheck t blk 64 true false with
      | some cause, _ => _ | none, some cause => _ | none, none => if (isHostPlace pay && !s.m.counted.hostUp) = true then _ else _) = _
    rw [strandCheck_counted, strandCheck_counted, hpay, hgrant, hhost]
    refine (if_neg (by simp)).trans ((if_pos (by rw [show (th.vals w).c.toNat = ligNone from hflag]; rfl)).trans ?_)
    rw [threadPart_counted, show (th.vals w).c.toNat = ligNone from hflag]
    rfl

/-- A command of another partition is refused. -/
theorem issueGo_denied {m : Module} {op pay blk p : Nat}
    (hq : ∃ q ∈ m.issueParts (fun i => (m.bore.indexes.get i).map (·.partition)) op (m.strandRead t pay (issueLen op)), q ≠ p) :
    issueGo w th t op pay blk p m.counted =
      (m.counted.bump Reg.STRAND.ISSUE_REFUSED_COUNT).retire t w.d.toNat (BitVec.ofNat 64 Status.denied.code) := by
  have hparts : (m.counted.issueParts (fun i => (m.counted.bore.indexes.get i).map (·.partition)) op
      (m.counted.strandRead t pay (issueLen op))).any (· != p) = true := by
    rw [(Module.counted_onlyRegs m).same (fun m => m.issueParts (fun i => (m.bore.indexes.get i).map (·.partition)) op
      (m.strandRead t pay (issueLen op)))]
    obtain ⟨q, hmem, hne⟩ := hq
    exact List.any_eq_true.2 ⟨q, hmem, by simpa using hne⟩
  exact if_pos hparts

section
variable {op pay blk p : Nat} {m : Module}
  (hq : ∀ q ∈ m.issueParts (fun i => (m.bore.indexes.get i).map (·.partition)) op (m.strandRead t pay (issueLen op)), q = p)
include hq

theorem issueParts_own : ¬(m.counted.issueParts (fun i => (m.counted.bore.indexes.get i).map (·.partition)) op
    (m.counted.strandRead t pay (issueLen op))).any (· != p) = true := by
  rw [(Module.counted_onlyRegs m).same (fun m => m.issueParts (fun i => (m.bore.indexes.get i).map (·.partition)) op
    (m.strandRead t pay (issueLen op)))]
  simpa using hq

/-- With as many commands out as a partition may have, one more is refused. -/
theorem issueGo_busy (hfull : m.get Reg.STRAND.CTRL_ISSUE_MAX ≤ (m.strand.issued.vals.filter (fun i => i.partition == p)).length) :
    issueGo w th t op pay blk p m.counted =
      ((m.counted.bump Reg.STRAND.ISSUE_REFUSED_COUNT).set Reg.STRAND.STATUS_ISSUE_FULL 1).retire t w.d.toNat
        (BitVec.ofNat 64 Status.busy.code) := by
  refine (if_neg (issueParts_own hq)).trans (if_pos ?_)
  rw [Module.counted_get (by decide), Module.counted_strand]
  exact hfull

/-- A command that is granted and has room goes behind those that run, and the thread goes on. -/
theorem issueGo_queued (hth : m.strand.threads.get t = some th)
    (hroom : (m.strand.issued.vals.filter (fun i => i.partition == p)).length < m.get Reg.STRAND.CTRL_ISSUE_MAX) :
    ∃ c, (issueGo w th t op pay blk p m.counted).host.running = m.host.running ++ [c] ∧ c.opcode = op ∧
      c.payload = m.strandRead t pay (issueLen op) ∧ c.stage = .fresh ∧ c.src = .eiss m.strand.nextIssue ∧
      (issueGo w th t op pay blk p m.counted).strand.issued.get m.strand.nextIssue = some ⟨p, t, th.job, blk, ligNone⟩ ∧
      (issueGo w th t op pay blk p m.counted).strand.threads.get t =
        some { (th.setReg w.d.toNat 0) with pc := (th.pc + 8) % 2 ^ 64 } ∧
      (issueGo w th t op pay blk p m.counted).hbm = m.hbm ∧ (issueGo w th t op pay blk p m.counted).lpddr = m.lpddr ∧
      (issueGo w th t op pay blk p m.counted).hostMem = m.hostMem ∧ (issueGo w th t op pay blk p m.counted).caps = m.caps := by
  have hgo : ¬m.counted.get Reg.STRAND.CTRL_ISSUE_MAX ≤ (m.counted.strand.issued.vals.filter (fun i => i.partition == p)).length := by
    rw [Module.counted_get (by decide), Module.counted_strand]
    exact Nat.not_le.2 hroom
  rw [show issueGo w th t op pay blk p m.counted = _ from (if_neg (issueParts_own hq)).trans (if_neg hgo)]
  obtain ⟨rs, hrs⟩ : ∃ rs, m.counted = { m with regs := rs } := ⟨_, Module.counted_onlyRegs m⟩
  rw [hrs]
  dsimp only
  obtain ⟨rs', hrs'⟩ := exists_bump_regs Reg.STRAND.ISSUES_COUNT
    (({ m with
      regs := rs
      strand := { m.strand with
        issued := m.strand.issued.put m.strand.nextIssue ⟨p, t, th.job, blk, ligNone⟩, nextIssue := m.strand.nextIssue + 1 }
      host := { m.host with
        running := m.host.running ++ [⟨m.host.nextRun, .eiss m.strand.nextIssue, op, 0, 0,
          Module.strandRead { m with regs := rs } t pay (issueLen op), m.clk.mono, .fresh, [], [], 0, 0, false, true⟩]
        nextRun := m.host.nextRun + 1 } } : Module))
  rw [hrs']
  exact ⟨_, rfl, rfl, rfl, rfl, rfl, KMap.get_put_same .., Module.updThread_get hth, rfl, rfl, rfl, rfl⟩

end

/-- TACC without an event flag hands its token and writes the status. -/
theorem does_tacc (h : Issues s.m t 0x70 th w) (hflag : (th.reg w.c.toNat).toNat = ligNone) :
    let r := s.m.counted.handToken (s.m.threadPart t) ((th.reg w.a.toNat).toNat % 2 ^ 18) w.imm.toNat (th.reg w.b.toNat).toNat
      ligNone
    Does (.sTacc t) s (r.1.retire t w.d.toNat (BitVec.ofNat 64 r.2.code)) := by
  intro r
  refine does_issue rfl h ((if_pos (by rw [show (th.vals w).c.toNat = ligNone from hflag]; rfl)).trans ?_)
  dsimp only
  rw [threadPart_counted, show (th.vals w).c.toNat = ligNone from hflag]
  rfl

end

/-! ### The Ligature instructions (R386) -/

section
variable {m : Module} {t h i : Nat} {o : LigObj} {th : Thread} {w : SWord} {s : State}

theorem withObject_none {rev go} (hf : m.ligFind h = none) : withObject t h rev go m = m.strandFault t 0x0C h := by
  rw [withObject, hf]

/-- An object of the thread's partition that was not revoked is acted on. -/
theorem withObject_go {rev go} (hf : m.ligFind h = some (i, o)) (hp : o.partition = m.threadPart t) (hr : o.revokedJob = none) :
    withObject t h rev go m = go i o m := by
  simp [withObject, hf, hp, hr]

theorem ligFind_of_onlyRegs {n : Module} (ho : m.OnlyRegs n) : n.ligFind h = m.ligFind h := ho.same (·.ligFind h)

theorem threadPart_of_onlyRegs {n : Module} (ho : m.OnlyRegs n) : n.threadPart t = m.threadPart t := ho.same (·.threadPart t)

theorem does_lalloc (h : Issues s.m t 0x80 th w) :
    (∀ m1 h, s.m.counted.ligAlloc (s.m.threadPart t) (some th.job) (w.imm.toNat % 256) (w.imm.toNat / 256) = (m1, .inr h) →
      Does (.sLalloc t) s (m1.retire t w.d.toNat (BitVec.ofNat 64 h))) ∧
    (∀ m1 st, s.m.counted.ligAlloc (s.m.threadPart t) (some th.job) (w.imm.toNat % 256) (w.imm.toNat / 256) = (m1, .inl st) →
      Does (.sLalloc t) s (m1.retire t w.d.toNat (BitVec.ofNat 64 (2 ^ 63 + st.code)))) := by
  refine ⟨fun m1 h' he => does_issue rfl h ?_, fun m1 st he => does_issue rfl h ?_⟩
  all_goals
    dsimp only
    rw [threadPart_counted, he]

/-- The module that has counted an instruction and a Ligature operation. -/
theorem opsCounted_onlyRegs (m : Module) : m.OnlyRegs (m.counted.bump Reg.LIG.OPS_COUNT) := (Module.counted_onlyRegs m).bump _

section
variable (hf : s.m.ligFind (th.reg w.a.toNat).toNat = some (i, o)) (hp : o.partition = s.m.threadPart t) (hr : o.revokedJob = none)
include hf hp hr

theorem withObject_counted {rev go} : withObject t (th.reg w.a.toNat).toNat rev go s.m.counted = go i o s.m.counted :=
  withObject_go ((ligFind_of_onlyRegs (Module.counted_onlyRegs _)).trans hf)
    (hp.trans (threadPart_of_onlyRegs (Module.counted_onlyRegs _)).symm) hr

theorem withObject_opsCounted {rev go} : withObject t (th.reg w.a.toNat).toNat rev go (s.m.counted.bump Reg.LIG.OPS_COUNT) =
    go i o (s.m.counted.bump Reg.LIG.OPS_COUNT) :=
  withObject_go ((ligFind_of_onlyRegs (opsCounted_onlyRegs _)).trans hf)
    (hp.trans (threadPart_of_onlyRegs (opsCounted_onlyRegs _)).symm) hr

/-- LFREE: only the owning job's thread frees, and only what nothing waits for. -/
theorem does_lfree (h : Issues s.m t 0x81 th w) :
    let m1 := s.m.counted.bump Reg.LIG.OPS_COUNT
    (o.owner ≠ some th.job → Does (.sLfree t) s (m1.retire t w.d.toNat (BitVec.ofNat 64 Status.denied.code))) ∧
    (o.owner = some th.job → o.waiters ≠ [] → Does (.sLfree t) s (m1.retire t w.d.toNat (BitVec.ofNat 64 Status.busy.code))) ∧
    (o.owner = some th.job → o.waiters = [] → (∀ j, s.m.strand.jobs.get th.job = some j → j.window = none) →
      Does (.sLfree t) s ((m1.ligFreeIndex i).retire t w.d.toNat 0)) := by
  intro m1
  refine ⟨fun ho => does_issue rfl h ((withObject_opsCounted hf hp hr).trans (if_pos (by simpa using ho))),
    fun ho hw => does_issue rfl h ((withObject_opsCounted hf hp hr).trans ((if_neg (by simp [ho])).trans (if_pos (by simpa using hw)))),
    fun ho hw hwin => does_issue rfl h ((withObject_opsCounted hf hp hr).trans ((if_neg (by simp [ho])).trans
      ((if_neg (by simp [hw])).trans (if_neg ?_))))⟩
  have hjobs : ((m1.ligFreeIndex i).retire t w.d.toNat (stWord .ok)).strand.jobs = s.m.strand.jobs :=
    (opsCounted_onlyRegs s.m).same (·.strand.jobs)
  rw [hjobs]
  cases hj : s.m.strand.jobs.get th.job with
  | none => simp
  | some j => simp [hwin j hj]

theorem does_ligPost {op : Nat} {f : Nat → LigObj → Nat → Module → Module × Status} {ins : Instr}
    (hi : exec ins s = run (ligPost op t f) s) (h : Issues s.m t op th w) :
    let r := f i o (th.reg w.b.toNat).toNat s.m.counted
    Does ins s (r.1.retire t w.d.toNat (BitVec.ofNat 64 r.2.code)) := by
  intro r
  exact does_issue hi h (withObject_counted hf hp hr)

/-- What is there is taken at once, an acquire when it is OK (R374). -/
theorem does_take {op : Nat} {take : LigObj → Take} {ins : Instr} {o1 : LigObj} {woken : List LigWait} {st : Status} {msg : Nat}
    (hi : exec ins s = run (ligTakeOp op t false take) s) (h : Issues s.m t op th w) (ht : take o = .done o1 woken st msg) :
    let m2 := woken.foldl (fun (a : Module) x => a.wake x .ok 0) ((s.m.counted.bump Reg.LIG.OPS_COUNT).ligPut i o1)
    Does ins s ((if st = .ok then m2.dropLines t else m2).retire t w.d.toNat (BitVec.ofNat 64 st.code)) := by
  intro m2
  refine does_issue hi h ((withObject_opsCounted hf hp hr).trans ?_)
  simp only [ht, beq_iff_eq]
  rfl

/-- A message that is there is taken at once. -/
theorem does_lrecv {o1 : LigObj} {msg : Nat} (h : Issues s.m t 0x86 th w) (ht : ligTake o true = .done o1 [] .ok msg) :
    Does (.sLrecv t) s (((((s.m.counted.bump Reg.LIG.OPS_COUNT).ligPut i o1).dropLines t).updThread t
      (fun x => x.setReg w.d.toNat (BitVec.ofNat 64 msg))).retire t w.c.toNat 0) := by
  refine does_issue rfl h ((withObject_opsCounted hf hp hr).trans ?_)
  simp only [ht]
  rfl

/-- A thread that cannot take what it waits for stands among the waiters. -/
theorem does_lwait_waits {o1 : LigObj} (h : Issues s.m t 0x83 th w) (ht : ligTake o false = .wait o1) :
    Does (.sLwait t) s ((((s.m.counted.bump Reg.LIG.OPS_COUNT).ligPut i { o1 with waiters := o1.waiters ++ [⟨.thread t,
      s.m.clk.mono, if w.imm = 0 then none else some (1000 * w.imm.toNat), false⟩] }).updThread t
        (fun x => { x with wait := .lig i w.d.toNat w.c.toNat false })).bump Reg.LIG.WAITS_COUNT) := by
  have htimeout : (if w.imm.toNat = 0 then none else some (us w.imm.toNat)) = if w.imm = 0 then none else some (1000 * w.imm.toNat) := by
    rw [us, Nat.mul_comm]
    exact if_congr (BitVec.toNat_eq (y := 0)).symm rfl rfl
  have hclk : (s.m.counted.bump Reg.LIG.OPS_COUNT).clk = s.m.clk := (opsCounted_onlyRegs s.m).same (·.clk)
  refine does_issue rfl h ((withObject_opsCounted hf hp hr).trans ?_)
  simp only [ht, hclk, beq_iff_eq, htimeout]

theorem exec_lwait_waits {o1 : LigObj} (h : Issues s.m t 0x83 th w)
    (ht : ligTake o false = .wait o1) :
    ∃ u, exec (.sLwait t) s = .next u ∧ u.m.strand.threads.get t = some { th with wait := .lig i w.d.toNat w.c.toNat false } ∧
      u.m.lig.objs.get i = some { o1 with waiters := o1.waiters ++ [⟨.thread t, s.m.clk.mono,
        if w.imm = 0 then none else some (1000 * w.imm.toNat), false⟩] } ∧ u.m.hbm = s.m.hbm ∧ u.m.caps = s.m.caps := by
  refine ⟨_, does_lwait_waits hf hp hr h ht, ?_⟩
  obtain ⟨rs, hrs⟩ : ∃ rs, s.m.counted.bump Reg.LIG.OPS_COUNT = { s.m with regs := rs } := ⟨_, opsCounted_onlyRegs s.m⟩
  rw [hrs]
  dsimp only
  obtain ⟨rs', hrs'⟩ := exists_bump_regs Reg.LIG.WAITS_COUNT
    ((Module.ligPut i { o1 with waiters := o1.waiters ++ [⟨.thread t, s.m.clk.mono,
      if w.imm = 0 then none else some (1000 * w.imm.toNat), false⟩] } { s.m with regs := rs }).updThread t
      (fun x => { x with wait := .lig i w.d.toNat w.c.toNat false }))
  rw [hrs']
  exact ⟨Module.updThread_get h.thread, KMap.get_put_same .., rfl, rfl⟩

end

end

end Sys2Proof.Machine


namespace Sys2Proof.Machine

open Sys2Proof

/-! ### What the host link and memory answer to a strand (R366, R375) -/

theorem exec_hostAccessTimeout (s : State) (t : Nat) :
    exec (.hostAccessTimeout t) s = runAt (hostAccessDue t) (hostAccessTimeout t) s := rfl

section
variable {s : State} {t : Nat} {th : Thread} (hth : s.m.strand.threads.get t = some th)
include hth

theorem loadReturn_local {l : LoadInFlight} {rest : List LoadInFlight} (hl : th.loads = l :: rest) (hh : l.host = false)
    (hc : l.credited = false) : loadReturn t s.m = s.m.updThread t (fun x => { x with loads := rest, regs :=
      (if l.reg = 0 then x.regs else if l.value = 0 then x.regs.del l.reg else x.regs.put l.reg l.value) }) := by
  simp [loadReturn, hth, hl, hh, hc]

theorem hostWriteAck_answered {x : HostStore} {rest : List HostStore} (hs : th.stores = x :: rest) (hc : x.credited = false)
    (hup : s.m.hostUp = true) : hostWriteAck t s.m = s.m.updThread t (fun y =>
      if y.wait == .fence && rest.isEmpty then { y with stores := rest, wait := .none, pc := nextPc y.pc }
      else { y with stores := rest }) := by
  simp [hostWriteAck, hth, hs, hc, hup]

/-- The host's acknowledgement of the last HOST store lets a fence end, and otherwise takes the store off the list. -/
theorem does_hostWriteAck {x : HostStore} {rest : List HostStore} (hlive : s.m.live = true) (hs : th.stores = x :: rest)
    (hc : x.credited = false) (hup : s.m.hostUp = true) :
    (th.wait ≠ .fence → Does (.hostWriteAcknowledged t) s (s.m.updThread t (fun y => { y with stores := rest }))) ∧
    (th.wait = .fence → rest = [] → Does (.hostWriteAcknowledged t) s (s.m.updThread t (fun y =>
      { y with stores := [], wait := .none, pc := (y.pc + 8) % 2 ^ 64 }))) := by
  refine ⟨fun hw => ?_, fun hw hrest => ?_⟩
  · exact does_run rfl hlive ((hostWriteAck_answered hth hs hc hup).trans
      (Module.updThread_congr hth (if_neg (by simp [hw]))))
  · subst hrest
    exact does_run rfl hlive ((hostWriteAck_answered hth hs hc hup).trans
      (Module.updThread_congr hth (if_pos (by simp [hw]))))

/-- A HOST access that waits for the link and is not answered in time faults with HOST_LINK. -/
theorem doesAt_hostAccessTimeout {a start : Nat} (hlive : s.m.live = true) (hw : th.wait = .host a start) :
    DoesAt (.hostAccessTimeout t) s (start + 1000 * s.m.get Reg.STRAND.CTRL_HOST_TIMEOUT_US)
      (fun m => (m.updThread t (fun y => { y with pc := th.pc })).strandFault t 0x0A a) := by
  have haccess : th.hostAccess = some (start, th.pc, a) := by rw [Thread.hostAccess, hw]
  have hdue : hostAccessDue t s.m = start + 1000 * s.m.get Reg.STRAND.CTRL_HOST_TIMEOUT_US := by
    rw [hostAccessDue, hth, Option.bind_some, haccess, us, Nat.mul_comm]
  refine doesAt_runAt (exec_hostAccessTimeout s t) hlive hdue ?_
  rw [hostAccessTimeout, Module.advanceTo_strand, hth, Option.bind_some, haccess]

end

/-- Settles O52. MISALIGNED stands before ADDRESS by assumption 32, the 64-byte cache lines are assumption 33, and the held
capsule store is assumption 202. -/
theorem strandMemoryAndEngines : Obligations.StrandMemoryAndEngines := by
  unfold Obligations.StrandMemoryAndEngines
  refine ⟨?_, ?_, ?_, ?_, ?_, fun s t th w h => does_fence h, ?_, ?_, ?_, fun s t th w h => does_crdb h, ?_, fun s t th w h => does_tacc h,
    ?_, ?_⟩
  · simp only [List.forall_mem_cons, List.not_mem_nil, false_implies, implies_true, and_true]
    exact ⟨fun s t th w h hl => does_load rfl h hl, fun s t th w h hl => does_load rfl h hl, fun s t th w h hl => does_load rfl h hl,
      fun s t th w h hl => does_load (g := fun n => (BitVec.ofNat 32 n).signExtend 64) rfl h hl,
      fun s t th w h hl => does_load rfl h hl⟩
  · simp only [List.forall_mem_cons, List.not_mem_nil, false_implies, implies_true, and_true]
    exact ⟨fun s t th w h => does_store rfl h, fun s t th w h => does_store rfl h, fun s t th w h => does_store rfl h,
      fun s t th w h => does_store rfl h⟩
  · simp only [List.forall_mem_cons, List.not_mem_nil, false_implies, implies_true, and_true]
    exact ⟨fun s t th w h => does_atomic (k := fun old b _ => some (old + b)) rfl (fun _ _ => rfl) h,
      fun s t th w h => does_atomic (k := fun _ b _ => some b) rfl (fun _ _ => rfl) h,
      
      fun s t th w h => does_atomic (k := fun old b k => if old = k then some b else none) rfl
        (fun v old => by simp only [beq_iff_eq]) h⟩
  · intro m t a b th hm hth hs _ hc
    exact ⟨strandRead_strandWrite hm hth hs hc, fun hb ha hl => strandLoad_strandStore hm hth hs hc hb ha hl⟩
  · intro m t a n
    refine ⟨strandLoad_uncached, fun hc hl => ?_, fun l hl => ?_⟩
    · rw [strandLoad_cached hc, takeLine_absent hl]
    · simpa using (List.mem_filter.1 hl).2
  · simp only [List.forall_mem_cons, List.not_mem_nil, false_implies, implies_true, and_true]
    exact ⟨fun s t th w h hl => does_capLoad rfl h hl, fun s t th w h hl => does_capLoad rfl h hl, fun s t th w h hl => does_capLoad rfl h hl⟩
  · simp only [List.forall_mem_cons, List.not_mem_nil, false_implies, implies_true, and_true]
    exact ⟨fun s t th w h => does_capStore rfl h, fun s t th w h => does_capStore rfl h⟩
  · intro m t id off n k
    exact capFault_none
  · intro s t th w h op pay blk p b out hblk hpay hgrant hhost hflag
    have heq := exec_eiss h hblk hpay hgrant hhost hflag
    refine ⟨fun hq => ?_, fun hq => ⟨fun hfull => ?_, fun hroom => ?_⟩⟩
    · rw [issueGo_denied hq] at heq
      exact heq
    · rw [issueGo_busy hq hfull] at heq
      exact heq
    · obtain ⟨c, hrest⟩ := issueGo_queued (w := w) (blk := blk) hq h.thread hroom
      exact ⟨_, c, heq, hrest⟩
  · intro s t th w
    refine ⟨fun h m1 k => (does_lalloc h).1 m1 k, fun h m1 st => (does_lalloc h).2 m1 st,
      fun h hf => does_issue rfl h (withObject_none ((ligFind_of_onlyRegs (Module.counted_onlyRegs _)).trans hf)),
      fun i o hf hp hr => ⟨fun h => (does_lfree hf hp hr h).1, fun h => (does_lfree hf hp hr h).2.1,
        fun h => (does_lfree hf hp hr h).2.2, fun h => does_ligPost hf hp hr rfl h, fun h => does_ligPost hf hp hr rfl h,
        fun h o1 woken st msg ht => does_take hf hp hr rfl h ht, fun h o1 woken st msg ht => does_take hf hp hr rfl h ht,
        fun h o1 msg ht => does_lrecv hf hp hr h ht, fun o1 ht h => exec_lwait_waits hf hp hr h ht⟩⟩
  · intro s t th hlive hth
    exact ⟨fun l rest hl hh hc => does_run rfl hlive (loadReturn_local hth hl hh hc),
      fun x rest hs hc hup hd => does_hostWriteAck hth hlive hs hc (by rw [Module.hostUp, hup, hd]; rfl),
      fun a start hw => doesAt_hostAccessTimeout hth hlive hw⟩

end Sys2Proof.Machine


namespace Sys2Proof.Machine

open Sys2Proof

/-! ### A statement that fails: the address of a fault where a register is listed twice (R376) -/

/-- The only thread of a job. -/
def loneThread : Thread := ⟨0, 0, [], 0x10000040, [], (0, 0), [], [], .none, false⟩

/-- The job of that thread: it signals no object. -/
def loneJob : Job := ⟨0, 0, 0, 1, 0, false, ligNone, ligNone, false, 4, 0, none, false⟩

/-- The module in which that thread runs and LAST_FAULT_ADDR is listed twice, which no canonical table of registers does. -/
def twiceListed : Module :=
  { Module.reset with
    power := { PowerSt.reset with phase := .started }
    regs := [(Reg.STRAND.LAST_FAULT_ADDR_ADDR.off, 5), (Reg.STRAND.LAST_FAULT_ADDR_ADDR.off, 7)]
    strand := { Module.reset.strand with jobs := [(0, loneJob)], threads := [(0, loneThread)] } }

/-- Refutes O53: the last clause says that a fault leaves its address in LAST_FAULT_ADDR, in every module. A value equal to the
register's reset value is kept by taking the register off the list of those that differ from it. A table of registers that lists
a register twice, which no run reaches, then shows the second entry: a fault at address 0 shows 7. The clause lacks the premise
that the registers stand in canonical form. -/
theorem not_strandCommandsAct : ¬ Obligations.StrandCommandsAct := by
  unfold Obligations.StrandCommandsAct
  rintro ⟨-, -, -, -, -, hfault⟩
  obtain ⟨-, -, -, -, haddr, -⟩ := hfault twiceListed 0 1 0 loneThread loneJob (by decide) (by decide) (by decide) (by decide)
    (by decide) rfl rfl rfl (by decide +kernel) rfl rfl
  have hshown : (twiceListed.strandFault 0 1 0).get Reg.STRAND.LAST_FAULT_ADDR_ADDR = 7 := by decide +kernel
  rw [hshown] at haddr
  exact absurd haddr (by decide)

end Sys2Proof.Machine


namespace Sys2Proof.Machine

open Sys2Proof

/-! ### A statement that fails: SCHED_JOB_SET of a program without a notice flag (R383, R419) -/

/-- SCHED_JOB_SET of core program 0: class foreground, weight 1, NOTICE NONE. -/
def clearNotice : RunCmd := firstCommand 0x0E10 ([1, 0, 1, 0, 0, 0, 0, 0] ++ List.replicate 4 0xFF ++ zeros 4)

/-- The module in which that command runs. No generation is above 32,767, but here index 65,535 stands at 65,535, so NONE names an
object; a notice flag is set for its partition. -/
def noneNamed : Module :=
  { soleCommand clearNotice with
    lig := ⟨[(65535, ⟨3, 0, 0, 0, [], [], none, none, false⟩)], [(65535, 65535)]⟩
    attn := { AttnSt.reset with programs := [(0, ⟨0, 64, 1, 0, 0⟩)] }
    sched := { (soleCommand clearNotice).sched with notice := [(0, 5)] } }

/-- Refutes O54: the clause on SCHED_JOB_SET of a core program that no core runs says that with NOTICE NONE the notice flags stay as
they are. The row takes the flag's partition from the object that NOTICE names, and NONE is looked up like a handle. A run reaches
no generation above 32,767 (R383), but a state may hold one: then NONE names the object at index 65,535, and its partition's notice
flag goes. The clause lacks the premise that NONE names no object. -/
theorem not_objectsSchedulesAndPreemption : ¬ Obligations.ObjectsSchedulesAndPreemption := by
  unfold Obligations.ObjectsSchedulesAndPreemption
  rintro ⟨-, -, -, -, -, -, -, -, -, hset, -⟩
  obtain ⟨-, -, -, hprogram⟩ := hset ⟨[], noneNamed⟩ (.mbox 0) clearNotice clearNotice.payload 0 (by decide +kernel) rfl
    (by decide) (by decide) (by decide) (by decide) (by decide) (by decide)
  have hdoes := hprogram (by decide) (by decide) (by decide) (by decide)
  have hgone : (match exec (.schedJobSet (.mbox 0)) ⟨[], noneNamed⟩ with
    | .next t => t.m.sched.notice
    | _ => [(0, 5)]) = [] := by decide +kernel
  rw [hdoes] at hgone
  exact absurd hgone (by decide +kernel)

end Sys2Proof.Machine


namespace Sys2Proof.Machine

open Sys2Proof

/-! ### A statement that fails: the parameters of a check-value unit where a register is listed twice (R529, R530) -/

/-- The module at reset, but that SAVED of unit 0 is listed twice, which no canonical table of registers does. -/
def savedTwice : Module :=
  { Module.reset with regs := [((Reg.CHECK.SAVED_REG.at 64 0).off, 5), ((Reg.CHECK.SAVED_REG.at 64 0).off, 7)] }

/-- Refutes O57: the clause on setCheckCfg says that SAVED takes INIT in every module. A value equal to the register's reset value
is kept by taking the register off the list of those that differ from it. A table of registers that lists SAVED twice, which no run
reaches, then shows the second entry: with INIT 0xFFFFFFFF, the reset value, it shows 7. The clause lacks the premise that the registers stand in canonical
form. -/
theorem not_timeRecorderAndCheckUnitsAct : ¬ Obligations.TimeRecorderAndCheckUnitsAct := by
  unfold Obligations.TimeRecorderAndCheckUnitsAct
  rintro ⟨-, -, -, -, -, -, -, -, -, -, -, -, -, -, -, hcfg, -⟩
  obtain ⟨-, hsaved⟩ := hcfg savedTwice 0 8 ⟨32, 0x07, 0xFFFFFFFF, 0, false, false⟩ (by decide) (by decide) (by decide) (by decide) (by decide)
    (by decide) (by decide)
  have hshown : (savedTwice.setCheckCfg 0 8 ⟨32, 0x07, 0xFFFFFFFF, 0, false, false⟩).get (Reg.CHECK.SAVED_REG.at 64 0) = 7 := by
    decide +kernel
  rw [hshown] at hsaved
  exact absurd hsaved (by decide)

end Sys2Proof.Machine


namespace Sys2Proof.Machine

open Sys2Proof

/-! ### A statement that fails: READY after the power-loss signal where GLOBAL.STATUS is listed twice (R545) -/

/-- A started module whose GLOBAL.STATUS is listed twice, with READY set in both entries; no canonical table of registers has one
register twice. -/
def readyTwice : Module :=
  { Module.reset with
    power := { PowerSt.reset with phase := .started }
    regs := [(Reg.GLOBAL.STATUS_READY.off, 1), (Reg.GLOBAL.STATUS_READY.off, 1)] }

/-- Refutes O59: the clause on powerLoss says that READY is clear in every module that was started. A register whose new value is
its reset value is taken off the list of those that differ from it. A table of registers that lists GLOBAL.STATUS twice, which no
run reaches, then shows the second entry, whose READY is set. The clause lacks the premise that the registers stand in canonical
form. -/
theorem not_powerActsAndStaysHidden : ¬ Obligations.PowerActsAndStaysHidden := by
  unfold Obligations.PowerActsAndStaysHidden
  rintro ⟨-, -, -, -, -, hloss, -⟩
  obtain ⟨-, hready, -⟩ := hloss readyTwice rfl
  have hshown : readyTwice.powerLoss.get Reg.GLOBAL.STATUS_READY = 1 := by decide +kernel
  rw [hshown] at hready
  exact absurd hready (by decide)

end Sys2Proof.Machine


namespace Sys2Proof.Machine

open Sys2Proof

/-! ### The management port (R505, R506) -/

/-- A connection to the management port is open. -/
def Module.connected (m : Module) : Module := { m with secur := { m.secur with connected := true } }

/-- The connection is open and a credential's counter has risen to that of a request. -/
def Module.admitted (g : MgmtMsg) (k : Credential) (m : Module) : Module :=
  { m with secur := { m.secur with connected := true, creds := m.secur.creds.put g.credential { k with counter := g.counter } } }

/-- What an operation on the management port leaves, its response sent when there is one. -/
def mgmtServed (op : Nat) (g : MgmtMsg) : Module × Option (Status × Bytes) → Module
  | (m, some (st, body)) => m.mgmtAnswer op g.counter st body
  | (m, none) => m

section
variable {op : Nat} {first : Bool} {act : MgmtAct} {g : MgmtMsg} {m : Module}

/-- The port ignores every request during a lockout. -/
theorem mgmtIn_lockedOut (h : m.secur.lockout.isSome = true) : mgmtIn op first act g m = m := by
  simp [mgmtIn, h]

variable (hop : g.op = op) (hl : m.secur.lockout = none) (hlen : g.body.length ≤ 1048576)
include hop hl hlen

/-- A module without a credential serves no request but the first enrolment. -/
theorem mgmtIn_noCredential (hc : m.secur.creds = []) (hf : first = false) :
    mgmtIn op first act g m = m.connected.mgmtReject g 0 := by
  simp [mgmtIn, hop, hl, Nat.not_lt.2 hlen, hc, hf, Module.connected]

/-- A module without a credential serves the first enrolment with the claim code. -/
theorem mgmtIn_claimed (hc : m.secur.creds = []) (hf : first = true) (hclaim : slice g.body 32 12 = padTo Config.claimCode 12) :
    mgmtIn op first act g m = mgmtServed op g (act g m.connected) := by
  simp [mgmtIn, hop, hl, Nat.not_lt.2 hlen, hc, hf, hclaim, mgmtServed, Module.connected] <;> rfl

/-- A request under a credential that the module does not hold is rejected. -/
theorem mgmtIn_unknown (hc : m.secur.creds ≠ []) (hk : m.secur.creds.get g.credential = none) :
    mgmtIn op first act g m = m.connected.mgmtReject g 0 := by
  simp [mgmtIn, hop, hl, Nat.not_lt.2 hlen, hc, hk, Module.connected]

variable {k : Credential} (hk : m.secur.creds.get g.credential = some k)
include hk

omit hop hl hlen in
theorem Module.creds_held : m.secur.creds ≠ [] := by
  rintro h
  rw [h] at hk
  exact absurd hk nofun

/-- A request whose signature fails is rejected. -/
theorem mgmtIn_unsigned (hv : Config.edVerify k.key (mgmtBytes g) g.signature = false) :
    mgmtIn op first act g m = m.connected.mgmtReject g 0 := by
  simp [mgmtIn, hop, hl, Nat.not_lt.2 hlen, Module.creds_held hk, hk, hv, Module.connected]

variable (hv : Config.edVerify k.key (mgmtBytes g) g.signature = true)
include hv

/-- A replayed request is recorded and has no other effect (assumption 157). -/
theorem mgmtIn_replayed (hr : g.counter ≤ k.counter) :
    mgmtIn op first act g m = m.connected.event 0x1201 0xFF 1 g.credential 1 := by
  simp [mgmtIn, hop, hl, Nat.not_lt.2 hlen, Module.creds_held hk, hk, hv, hr, Module.connected]

/-- A request that passes raises its credential's counter and is served. -/
theorem mgmtIn_serves (hr : k.counter < g.counter) : mgmtIn op first act g m = mgmtServed op g (act g (m.admitted g k)) := by
  simp [mgmtIn, hop, hl, Nat.not_lt.2 hlen, Module.creds_held hk, hk, hv, Nat.not_le.2 hr, mgmtServed,
    Module.admitted] <;> rfl

end

/-! #### The thirteen requests -/

/-- A request of operation op that leaves the module running does what mgmtIn says, and only operation 1 may serve a module without
a credential. -/
def IsMgmtIn (op : Nat) (i : MgmtMsg → Instr) : Prop :=
  ∃ (first : Bool) (act : MgmtAct), (op ≠ 1 → first = false) ∧ ∀ (g : MgmtMsg) (s : State) (n : Module), s.m.live = true →
    mgmtIn op first act g s.m = n → n.live = true → Does (i g) s n

theorem isMgmtIn_of_run {op : Nat} {i : MgmtMsg → Instr} {first : Bool} {act : MgmtAct} (hf : op ≠ 1 → first = false)
    (hi : ∀ g s, exec (i g) s = run (mgmtIn op first act g) s) : IsMgmtIn op i :=
  ⟨first, act, hf, fun g s _ hs hn _ => does_run (hi g s) hs hn⟩

theorem isMgmtIn_reset : IsMgmtIn 12 .mgmtReset := by
  refine ⟨false, mgmtResetAct, fun _ => rfl, fun g s n hs hn hl => ?_⟩
  have hexec : exec (.mgmtReset g) s = runReset (mgmtIn 12 false mgmtResetAct g) s := rfl
  rw [Does, hexec, runReset_live hs, hn, Module.clkAfter_live _ hl]

/-- The thirteen requests by the code of their operation. -/
theorem isMgmtIn_of_mem : ∀ q ∈ ([(1, .enrolCredential), (2, .revokeCredential), (3, .enrolKey), (4, .removeKey), (5, .setConfig),
    (6, .fwStage), (7, .fwActivate), (8, .fwCommit), (9, .mgmtAttest), (10, .evrecRead), (11, .evrecClear), (12, .mgmtReset),
    (13, .mgmtStatus)] : List (Nat × (MgmtMsg → Instr))), IsMgmtIn q.1 q.2 := by
  simp only [List.forall_mem_cons, List.not_mem_nil, false_implies, implies_true, and_true]
  exact ⟨isMgmtIn_of_run (fun h => absurd rfl h) fun _ _ => rfl, isMgmtIn_of_run (fun _ => rfl) fun _ _ => rfl,
    isMgmtIn_of_run (fun _ => rfl) fun _ _ => rfl, isMgmtIn_of_run (fun _ => rfl) fun _ _ => rfl,
    isMgmtIn_of_run (fun _ => rfl) fun _ _ => rfl, isMgmtIn_of_run (fun _ => rfl) fun _ _ => rfl,
    isMgmtIn_of_run (fun _ => rfl) fun _ _ => rfl, isMgmtIn_of_run (fun _ => rfl) fun _ _ => rfl,
    isMgmtIn_of_run (fun _ => rfl) fun _ _ => rfl, isMgmtIn_of_run (fun _ => rfl) fun _ _ => rfl,
    isMgmtIn_of_run (fun _ => rfl) fun _ _ => rfl, isMgmtIn_reset, isMgmtIn_of_run (fun _ => rfl) fun _ _ => rfl⟩

@[simp] theorem Module.mgmtReject_power (g : MgmtMsg) (reason : Nat) (m : Module) : (m.mgmtReject g reason).power = m.power := by
  unfold Module.mgmtReject
  dsimp only
  split <;> simp

theorem Module.mgmtReject_live (g : MgmtMsg) (reason : Nat) (m : Module) : (m.mgmtReject g reason).live = m.live := by
  simp [Module.live]

/-- What the port does with a request before it looks at the operation (R506). -/
theorem mgmtRequest_checks {q : Nat × (MgmtMsg → Instr)} (hq : IsMgmtIn q.1 q.2) {s : State} {g : MgmtMsg} (hs : s.m.live = true)
    (hop : g.op = q.1) :
    (s.m.secur.lockout.isSome = true → Idle (q.2 g) s) ∧
    (s.m.secur.lockout = none → g.body.length ≤ 1048576 →
      (s.m.secur.creds ≠ [] → s.m.secur.creds.get g.credential = none → Does (q.2 g) s (s.m.connected.mgmtReject g 0)) ∧
      (s.m.secur.creds = [] → q.1 ≠ 1 → Does (q.2 g) s (s.m.connected.mgmtReject g 0)) ∧
      (∀ k, s.m.secur.creds.get g.credential = some k →
        (Config.edVerify k.key (mgmtBytes g) g.signature = false → Does (q.2 g) s (s.m.connected.mgmtReject g 0)) ∧
        (Config.edVerify k.key (mgmtBytes g) g.signature = true → g.counter ≤ k.counter →
          Does (q.2 g) s (s.m.connected.event 0x1201 0xFF 1 g.credential 1)))) := by
  obtain ⟨first, act, hf, hdoes⟩ := hq
  have hrej : (s.m.connected.mgmtReject g 0).live = true := (Module.mgmtReject_live _ _ _).trans hs
  have hev : (s.m.connected.event 0x1201 0xFF 1 g.credential 1).live = true := by simpa [Module.live, Module.connected] using hs
  refine ⟨fun hl => hdoes g s _ hs (mgmtIn_lockedOut hl) hs, fun hl hlen => ⟨fun hc hk => ?_, fun hc h1 => ?_, fun k hk =>
    ⟨fun hv => ?_, fun hv hr => ?_⟩⟩⟩
  · exact hdoes g s _ hs (mgmtIn_unknown hop hl hlen hc hk) hrej
  · exact hdoes g s _ hs (mgmtIn_noCredential hop hl hlen hc (hf h1)) hrej
  · exact hdoes g s _ hs (mgmtIn_unsigned hop hl hlen hk hv) hrej
  · exact hdoes g s _ hs (mgmtIn_replayed hop hl hlen hk hv hr) hev

end Sys2Proof.Machine


namespace Sys2Proof.Machine

open Sys2Proof

/-! ### What the operations of the management port do (R505 to R507) -/

section
variable {g : MgmtMsg} {m : Module}

/-! #### Credentials and keys (R505) -/

/-- A module with credentials takes another at counter 0. -/
theorem enrolCredential_takes {i : Nat} (hc : m.secur.creds ≠ []) (hlen : 32 ≤ g.body.length)
    (hi : m.secur.creds.lowestFree 0 8 = some i) : enrolCredential g m =
      ((({ m with secur := { m.secur with creds := m.secur.creds.put i ⟨slice g.body 0 32, 0⟩ } } : Module)).secShow,
        some (.ok, leBytes 1 i)) := by
  have hne : m.secur.creds.isEmpty = false := by simpa using hc
  simp only [enrolCredential, hi, if_neg (Nat.not_lt.2 hlen), hne, Bool.false_eq_true, if_false]

/-- The first credential stands at index 0, with the counter of the request that enrols it. -/
theorem enrolCredential_first (hc : m.secur.creds = []) (hlen : 32 ≤ g.body.length) : enrolCredential g m =
    ((({ m with secur := { m.secur with creds := [(0, ⟨slice g.body 0 32, g.counter⟩)] } } : Module)).secShow,
      some (.ok, leBytes 1 0)) := by
  have hi : m.secur.creds.lowestFree 0 8 = some 0 := by rw [hc]; rfl
  rw [enrolCredential, hi]
  simp only [if_neg (Nat.not_lt.2 hlen), hc, List.isEmpty_nil, if_true]
  rfl

theorem revokeCredential_last (hlen : g.body.length = 1) (hh : m.secur.creds.has (u8 g.body 0) = true)
    (h1 : m.secur.creds.length = 1) : revokeCredential g m = (m, only .busy) := by
  simp [revokeCredential, hlen, hh, h1]

theorem revokeCredential_takes (hlen : g.body.length = 1) (hh : m.secur.creds.has (u8 g.body 0) = true)
    (h1 : m.secur.creds.length ≠ 1) : revokeCredential g m =
      ((({ m with secur := { m.secur with creds := m.secur.creds.del (u8 g.body 0) } } : Module)).secShow, only .ok) := by
  simp [revokeCredential, hlen, hh, h1]

section
variable {key : Bytes} (hkey : key = slice g.body 8 32) (hlen : g.body.length = 40) (hz : allZero g.body 1 7 = true)
include hkey hlen hz

theorem enrolKey_fabric (h0 : u8 g.body 0 = 0) : enrolKey g m =
    ({ m with secur := { m.secur with fabricKey := some key } }, only .ok) := by
  simp [enrolKey, hlen, hz, h0, hkey]

theorem enrolKey_trusted (h1 : u8 g.body 0 = 1) (hnew : m.secur.trusted.contains key = false)
    (hroom : m.secur.trusted.length < 32) : enrolKey g m =
      ({ m with secur := { m.secur with trusted := m.secur.trusted ++ [key] } }, only .ok) := by
  have hnot : key ∉ m.secur.trusted := by simpa using hnew
  simp [enrolKey, hlen, hz, h1, ← hkey, hnot, Nat.not_le.2 hroom]

theorem removeKey_fabric (h0 : u8 g.body 0 = 0) (hf : m.secur.fabricKey = some key) : removeKey g m =
    ({ m with secur := { m.secur with fabricKey := none } }, only .ok) := by
  simp [removeKey, hlen, hz, h0, ← hkey, hf]

theorem removeKey_trusted (h1 : u8 g.body 0 = 1) (hold : m.secur.trusted.contains key = true) : removeKey g m =
    ({ m with secur := { m.secur with trusted := m.secur.trusted.filter (· != key) } }, only .ok) := by
  have hin : key ∈ m.secur.trusted := by simpa using hold
  simp [removeKey, hlen, hz, h1, ← hkey, hin]

end

/-! #### The configuration (R402, R497) -/

theorem setConfig_stores {n : Nat} {recs ranges : List Bytes} (hlen : g.body.length = 512 + 24 * n) (hn : n ≤ 256)
    (hrecs : recs = (List.range 8).map (fun i => slice g.body (64 * i) 64))
    (hranges : ranges = (List.range n).map (fun i => slice g.body (512 + 24 * i) 24)) (hr : ∀ r ∈ recs, partRecordOk r = true)
    (hw : ∀ r ∈ ranges, rangeOk r = true) : setConfig g m =
      ({ m with secur := { m.secur with storedParts := some (recs.map PartCfg.ofBytes),
                                        storedFw := ranges.map FwRange.ofBytes } }, only .ok) := by
  have hcount : (g.body.length - 512) / 24 = n := by omega
  have hbad : (decide (g.body.length < 512) || (g.body.length - 512) % 24 != 0 || decide (256 < n) || !recs.all partRecordOk ||
      !ranges.all rangeOk) = false := by
    rw [List.all_eq_true.2 hr, List.all_eq_true.2 hw]
    simp only [Bool.not_true, Bool.or_false, Bool.or_eq_false_iff, decide_eq_false_iff_not, bne_eq_false_iff_eq]
    omega
  unfold setConfig
  dsimp only
  rw [hcount, ← hrecs, ← hranges, hbad]
  rfl

/-! #### Firmware (R493, R494) -/

section
variable {kind : Nat} {image : Bytes} (hlen : 8 ≤ g.body.length) (hkind : kind = u8 g.body 0) (h12 : kind = 1 ∨ kind = 2)
  (hz : allZero g.body 2 6 = true) (hu : m.secur.update < 2) (himage : image = (m.secur.fw kind).upload ++ g.body.drop 8)
include hlen hkind h12 hz hu himage

/-- A part whose fields pass is kept; the last verifies the image. -/
theorem fwStage_eq (h1 : u8 g.body 1 ≤ 1) : fwStage g m =
    if u8 g.body 1 = 0 then (m.updFw kind (fun x => { x with upload := image }), only .ok)
    else if Config.imageSigned kind image = false ∨ Config.imageVersion image < (m.secur.fw kind).rollback then
      (m.updFw kind (fun x => { x with upload := [] }), only .denied)
    else ((m.updFw kind (fun x => { x with upload := [], staged := some ⟨Config.imageVersion image, Config.sha512 image⟩,
                                           selected := false })).setUpdate 1 (Config.imageVersion image), only .ok) := by
  have hok : (decide (g.body.length < 8) || !(kind == 1 || kind == 2) || decide (1 < u8 g.body 1) || !allZero g.body 2 6) = false := by
    rw [hz]
    rcases h12 with h | h <;> simp [h, hlen, h1]
  have htwice : (m.updFw kind (fun x => { x with upload := [] })).updFw kind (fun x => { x with
      staged := some ⟨Config.imageVersion image, Config.sha512 image⟩, selected := false }) =
      m.updFw kind (fun x => { x with upload := [], staged := some ⟨Config.imageVersion image, Config.sha512 image⟩,
                                      selected := false }) := by
    rcases h12 with h | h <;> rw [h] <;> rfl
  unfold fwStage
  dsimp only
  rw [← hkind, ← himage, hok, htwice]
  simp [Nat.not_le.2 hu]

theorem fwStage_part (h0 : u8 g.body 1 = 0) : fwStage g m =
    (m.updFw kind (fun x => { x with upload := image }), only .ok) := by
  rw [fwStage_eq hlen hkind h12 hz hu himage (by omega), if_pos h0]

theorem fwStage_refused (h1 : u8 g.body 1 = 1)
    (hbad : Config.imageSigned kind image = false ∨ Config.imageVersion image < (m.secur.fw kind).rollback) : fwStage g m =
      (m.updFw kind (fun x => { x with upload := [] }), only .denied) := by
  rw [fwStage_eq hlen hkind h12 hz hu himage (by omega), if_neg (by omega), if_pos hbad]

theorem fwStage_stages (h1 : u8 g.body 1 = 1) (hs : Config.imageSigned kind image = true)
    (hv : (m.secur.fw kind).rollback ≤ Config.imageVersion image) : fwStage g m =
      ((m.updFw kind (fun x => { x with upload := [], staged := some ⟨Config.imageVersion image, Config.sha512 image⟩,
                                        selected := false })).setUpdate 1 (Config.imageVersion image), only .ok) := by
  rw [fwStage_eq hlen hkind h12 hz hu himage (by omega), if_neg (by omega), if_neg (by simp [hs, hv])]

end

section
variable (hlen : g.body.length = 2)
include hlen

theorem fwActivate_selects {x : FwImage} (hu : m.secur.update = 1) (h0 : u8 g.body 1 = 0) (h12 : u8 g.body 0 = 1 ∨ u8 g.body 0 = 2)
    (hx : (m.secur.fw (u8 g.body 0)).staged = some x) : fwActivate g m =
      (m.updFw (u8 g.body 0) (fun y => { y with selected := true }), only .ok) := by
  rcases h12 with h | h <;> rw [h] at hx ⊢ <;> simp [fwActivate, hlen, hu, h0, h, hx]

/-- Dyone is not activated at once. -/
theorem fwActivate_dyone (h1 : u8 g.body 1 = 1) (hk : u8 g.body 0 = 1) : fwActivate g m = (m, only .badField) := by
  simp [fwActivate, hlen, h1, hk]

theorem fwActivate_restarts {x : FwImage} (hu : m.secur.update = 1) (h1 : u8 g.body 1 = 1) (hk : u8 g.body 0 = 2)
    (hx : m.secur.crook.staged = some x) : fwActivate g m =
      ((({ m with secur := { m.secur with restart := some m.clk.mono } } : Module).set Reg.GLOBAL.STATUS_READY 0).setUpdate 2
        x.version, only .ok) := by
  have hfw : (m.secur.fw 2).staged = some x := hx
  simp [fwActivate, hlen, hu, h1, hk, hfw]

end

/-- What FW_COMMIT makes of the slots of a kind (assumption 158). -/
def FwKind.committed (y : FwKind) : FwKind :=
  { y with
    old := none, staged := none, selected := false,
    rollback := if y.old.isSome then Max.max y.rollback (Min.min y.running.version 63) else y.rollback }

theorem fwCommit_busy (hb : g.body = []) (hu : m.secur.update ≠ 3) : fwCommit g m = (m, only .busy) := by
  simp [fwCommit, hb, hu]

theorem fwCommit_commits (hb : g.body = []) (hu : m.secur.update = 3) : fwCommit g m =
    (((m.updFw 1 FwKind.committed).updFw 2 FwKind.committed).setUpdate 0 m.secur.crook.running.version, only .ok) := by
  have hup : (fun y : FwKind => { (if y.old.isSome then
      { y with old := none, rollback := Max.max y.rollback (Min.min y.running.version 63) } else y) with
      staged := none, selected := false }) = FwKind.committed := by
    funext y
    obtain ⟨_, _, _, old, _, _⟩ := y
    cases old <;> rfl
  unfold fwCommit
  dsimp only
  rw [hup]
  simp only [hb, List.isEmpty_nil, Bool.not_true, Bool.false_eq_true, if_false, hu, bne_self_eq_false]
  rfl

/-! #### Attestation and the event records (R496, R522 to R524) -/

section
variable (hlen : g.body.length = 72) (hp : u8 g.body 0 = 0xFF ∨ m.present (u8 g.body 0) = true) (hz : allZero g.body 1 7 = true)
include hlen hp hz

theorem mgmtAttest_held (hu : m.secur.update = 2) : mgmtAttest g m =
    ({ m with secur := { m.secur with held := m.secur.held ++ [⟨u8 g.body 0, slice g.body 8 64, m.clk.mono, g.counter, none⟩] } },
      none) := by
  rcases hp with h | h <;> simp [mgmtAttest, hlen, Module.partOk, h, hz, hu]

theorem mgmtAttest_answers (hu : m.secur.update ≠ 2) : mgmtAttest g m =
    (m.bump Reg.SEC.ATTESTATIONS_COUNT, some (.ok, m.attReport (u8 g.body 0) (slice g.body 8 64) 0)) := by
  rcases hp with h | h <;> simp [mgmtAttest, hlen, Module.partOk, h, hz, hu, Module.signed]

end

theorem mgmtEvRead_answers (hlen : g.body.length = 16) (hn : u32 g.body 8 ≤ 1048576) (hz : allZero g.body 14 2 = true) :
    mgmtEvRead g m = (m, some (.ok, m.evRead (u64 g.body 0) (u32 g.body 8) (u8 g.body 12) (u8 g.body 13))) := by
  simp [mgmtEvRead, hlen, Nat.not_lt.2 hn, hz]

theorem mgmtEvClear_busy (hlen : g.body.length = 8) (hc : m.ev.clearing.isSome = true) : mgmtEvClear g m = (m, only .busy) := by
  simp [mgmtEvClear, hlen, hc]

theorem mgmtEvClear_clears (hlen : g.body.length = 8) (hc : m.ev.clearing = none) :
    mgmtEvClear g m = (m.evClear (u64 g.body 0) g.credential, only .ok) := by
  simp [mgmtEvClear, hlen, hc]

theorem mgmtResetAct_resets (hb : g.body = []) : mgmtResetAct g m = ((m.mgmtAnswer 12 g.counter .ok []).resetTo 4, none) := by
  simp [mgmtResetAct, hb]

end

end Sys2Proof.Machine


namespace Sys2Proof.Machine

open Sys2Proof

/-! ### Reports (R495, R508) -/

/-- The bytes behind a leading part are read from what follows it. -/
theorem slice_append_right {a b : Bytes} {off n : Nat} (h : a.length ≤ off) : slice (a ++ b) off n = slice b (off - a.length) n := by
  simp [slice, List.drop_append, List.drop_eq_nil_of_le h]

/-- A leading part is read whole from the front. -/
theorem slice_head {a b : Bytes} {n : Nat} (h : a.length = n) : slice (a ++ b) 0 n = a := by
  subst h
  rw [slice_append_left _ _ _ _ (Nat.zero_add _).le, slice_all]

theorem padTo_self {b : Bytes} {n : Nat} (h : b.length = n) : padTo b n = b := by simp [padTo, zeros, ← h]

/-- A report's fixed fields in their order, with what stands between them. -/
theorem Module.attReport_fields (m : Module) (p st : Nat) (nonce : Bytes) : ∃ mid mid' tail : Bytes,
    mid.length = 26 ∧ mid'.length = 8 ∧ m.attReport p nonce st = leBytes 4 1 ++ (leBytes 1 st ++ (leBytes 1 p ++ (mid ++
      (padTo nonce 64 ++ (mid' ++ (leBytes 4 (m.reportEntries p).length ++ tail)))))) := by
  unfold Module.attReport
  simp only [List.append_assoc]
  generalize b2n (m.mute p) + _ + 4 * _ = flags
  exact ⟨leBytes 2 flags ++ leBytes 8 ownSerial ++ leBytes 4 0x9208 ++ leBytes 4 Config.stepping.toNat ++ leBytes 8 m.clk.now,
    leBytes 4 m.mirror.epoch ++ leBytes 1 m.mirror.linkId ++ zeros 3, _, by simp, by simp, by simp only [List.append_assoc]; rfl⟩

theorem Module.attReport_reads (m : Module) {p st : Nat} {nonce : Bytes} (hp : p < 256) (hst : st < 256) (hn : nonce.length = 64)
    (he : (m.reportEntries p).length < 2 ^ 32) : u32 (m.attReport p nonce st) 0 = 1 ∧ u8 (m.attReport p nonce st) 4 = st ∧
      u8 (m.attReport p nonce st) 5 = p ∧ slice (m.attReport p nonce st) 0x20 64 = nonce ∧
      u32 (m.attReport p nonce st) 0x68 = (m.reportEntries p).length := by
  obtain ⟨mid, mid', tail, hmid, hmid', hr⟩ := m.attReport_fields p st nonce
  rw [hr]
  refine ⟨?_, ?_, ?_, ?_, ?_⟩
  · simp [u32, field, slice_head]
  · simp [u8, field, slice_append_right, slice_head, Nat.mod_eq_of_lt hst]
  · simp [u8, field, slice_append_right, slice_head, Nat.mod_eq_of_lt hp]
  · simp [slice_append_right, slice_head, hmid, padTo_self hn, hn]
  · simp [u32, field, slice_append_right, slice_head, hmid, hmid']
    exact he

/-! #### SEC_ATTEST (R496, R508) -/

section
variable {c : RunCmd} {m : Module}

theorem Module.attestTo_noSpace {state : Nat}
    (h : u32 c.payload 0x50 < (m.attReport (u8 c.payload 0) (slice c.payload 8 64) state).length) : m.attestTo c state =
      m.complete c .noSpace (leBytes 4 (m.attReport (u8 c.payload 0) (slice c.payload 8 64) state).length ++
        leBytes 4 (m.reportEntries (u8 c.payload 0)).length ++ leBytes 1 state) noDetail := by
  simp only [Module.attestTo, if_pos h]

theorem Module.attestTo_writes (h : (m.attReport (u8 c.payload 0) (slice c.payload 8 64) 0).length ≤ u32 c.payload 0x50) :
    m.attestTo c 0 =
      ((m.bump Reg.SEC.ATTESTATIONS_COUNT).cmdWrite c (u64 c.payload 0x48)
        (m.attReport (u8 c.payload 0) (slice c.payload 8 64) 0)).ok c
        (leBytes 4 (m.attReport (u8 c.payload 0) (slice c.payload 8 64) 0).length ++
          leBytes 4 (m.reportEntries (u8 c.payload 0)).length ++ leBytes 1 0) := by
  simp [Module.attestTo, if_neg (Nat.not_lt.2 h), Module.signed, Module.ok]

variable (hup : m.host.linkUp = true) (hd : m.host.d3hot = false)
include hup hd

/-- SEC_ATTEST whose fields pass is answered at once when no Crook restart runs. -/
theorem secAttestCmd_answers (h1 : allZero c.payload 1 7 = true) (h2 : allZero c.payload 0x54 4 = true)
    (hp : u8 c.payload 0 = 0xFF ∨ m.present (u8 c.payload 0) = true) (ha : u64 c.payload 0x48 % 8 = 0)
    (hu : m.secur.update ≠ 2) : secAttestCmd c m = m.attestTo c 0 := by
  unfold secAttestCmd
  dsimp only
  rw [Module.checked_act (by simp [h1, h2]) (by simpa [Module.partOk, ha] using hp), Module.hostIf_up (.inr ⟨hup, hd⟩)]
  simp [hu]

/-! #### SEC_IMPORT (R501, R510) -/

omit hup hd in
/-- An import that is refused or damaged counts and completes with its status (assumption 160). -/
theorem Module.importFails_stop {st : Status} (h : (st == .badField) = false) (m : Module) :
    m.importFails c (stop st) = (m.bump Reg.SEC.IMPORT_FAILS_COUNT).fail c st := by
  simp [Module.importFails, Module.verdict, Module.countDenial, stop, stopFw, stopMute, h]

omit hup hd in
/-- A refusal for the content of a Mute-mode partition counts twice. -/
theorem Module.importFails_mute (m : Module) : m.importFails c stopMute =
    ((m.bump Reg.SEC.IMPORT_FAILS_COUNT).bump Reg.SEC.CONTENT_DENIALS_COUNT).fail c .denied := by
  simp [Module.importFails, Module.verdict, Module.countDenial, stopFw, stopMute]

section
variable {x : Bytes} (hz : allZero c.payload 2 2 = true) (hp : m.present (u8 c.payload 0) = true) (hn : u64 c.payload 0x10 ≠ 0)
  (hd4 : u64 c.payload 0x18 % 4096 = 0)
include hz hp hn hd4

omit hup hd in
/-- A plain import into a partition in Mute mode is refused and counted twice (R501, assumption 160). -/
theorem secImportCmd_mute (h0 : u8 c.payload 1 = 0) (hfit : u64 c.payload 0x18 + u64 c.payload 0x10 ≤ hbmSize)
    (hm : m.mute (u8 c.payload 0) = true) : secImportCmd c m =
      ((m.bump Reg.SEC.IMPORT_FAILS_COUNT).bump Reg.SEC.CONTENT_DENIALS_COUNT).fail c .denied := by
  have hreserved : reservedOk c.payload [(2, 2)] = none := reservedOk_none.2 (by simpa using hz)
  unfold secImportCmd
  dsimp only
  rw [hreserved]
  simp [firstFail, Module.partOk, hp, h0, hn, hd4, hfit, hm, Module.importFails_mute]

/-- An import whose fields pass reads its content. -/
theorem secImportCmd_reads (h1 : u8 c.payload 1 ≤ 1) (hx : x = m.cmdRead c (u64 c.payload 8) (u64 c.payload 0x10))
    (hmay : m.cmdMay c (u8 c.payload 0) (u64 c.payload 8) (u64 c.payload 0x10) false = true)
    (hplain : u8 c.payload 1 = 0 → u64 c.payload 0x18 + u64 c.payload 0x10 ≤ hbmSize ∧ m.mute (u8 c.payload 0) = false ∧
      m.engineMay (u8 c.payload 0) 0 (u64 c.payload 0x18) (u64 c.payload 0x10) = true) :
    secImportCmd c m = m.importRead c x := by
  have hreserved : reservedOk c.payload [(2, 2)] = none := reservedOk_none.2 (by simpa using hz)
  have hchecks : firstFail [(m.partOk (u8 c.payload 0), bad 0), (decide (u8 c.payload 1 ≤ 1), bad 1),
      (u64 c.payload 0x10 != 0, bad 0x10), (u64 c.payload 0x18 % 4096 == 0, bad 0x18),
      (!(u8 c.payload 1 == 0) || decide (u64 c.payload 0x18 + u64 c.payload 0x10 ≤ hbmSize), bad 0x18),
      (!(u8 c.payload 1 == 0) || !m.mute (u8 c.payload 0), stopMute),
      (m.cmdMay c (u8 c.payload 0) (u64 c.payload 8) (u64 c.payload 0x10) false &&
        (!(u8 c.payload 1 == 0) || m.engineMay (u8 c.payload 0) 0 (u64 c.payload 0x18) (u64 c.payload 0x10)), stopFw)] = none := by
    rw [firstFail_none]
    by_cases h0 : u8 c.payload 1 = 0
    · obtain ⟨hfit, hm, hw⟩ := hplain h0
      simp [Module.partOk, hp, hn, hd4, hmay, h0, hfit, hm, hw]
    · simp [Module.partOk, hp, hn, hd4, hmay, h0, h1]
  unfold secImportCmd
  dsimp only
  rw [hreserved, hchecks, hx]
  exact Module.hostIf_up (.inr ⟨hup, hd⟩)

end

omit hup hd

theorem Module.importRead_plain {x : Bytes} (h0 : u8 c.payload 1 = 0) : m.importRead c x =
    (((({ m with hbm := m.hbm.wrN (u64 c.payload 0x18) x } : Module).measure 0x0A (u32 c.payload 4) 0 (u8 c.payload 0) x).bump
      Reg.SEC.IMPORTS_COUNT).ok c (padTo (Config.sha512 x) 64)) := by
  simp only [Module.importRead, h0, beq_self_eq_true, if_true, Module.imported]

/-- The header of an envelope around content for HBM is well formed, and its content fits. -/
structure SealedImage (x : Bytes) (dest : Nat) : Prop where
  version : u32 x 0 = 1
  content : u8 x 4 = 1
  reserved : allZero x 5 3 = true
  reserved' : allZero x 0x50 16 = true
  length : x.length = 0x60 + u64 x 0x48 + 16 * ceilDiv (u64 x 0x48) 65536
  fits : dest + u64 x 0x48 ≤ hbmSize

section
variable {x : Bytes} (h1 : u8 c.payload 1 = 1) (hx : SealedImage x (u64 c.payload 0x18))
include h1 hx

/-- An envelope for another module is refused. -/
theorem Module.importRead_otherKey (hk : slice x 0x28 32 ≠ padTo Config.sealingKey 32) : m.importRead c x =
    (m.bump Reg.SEC.IMPORT_FAILS_COUNT).fail c .denied := by
  obtain ⟨hv, ht, hz, hz', hlen, hfit⟩ := hx
  simp [Module.importRead, h1, hv, ht, hz, hz', sealedLen, hlen.symm, hfit, hk,
    Module.importFails_stop (show (Status.denied == .badField) = false from rfl)]

/-- An envelope that does not open leaves zeros at the destination. -/
theorem Module.importRead_damaged (hk : slice x 0x28 32 = padTo Config.sealingKey 32)
    (hw : m.engineMay (u8 c.payload 0) 0 (u64 c.payload 0x18) (u64 x 0x48) = true) (ho : Config.openSealed x = none) :
    m.importRead c x =
      (({ m with hbm := m.hbm.zeroN (u64 c.payload 0x18) (u64 x 0x48) } : Module).bump Reg.SEC.IMPORT_FAILS_COUNT).fail c
        .damaged := by
  obtain ⟨hv, ht, hz, hz', hlen, hfit⟩ := hx
  simp [Module.importRead, h1, hv, ht, hz, hz', sealedLen, hlen.symm, hfit, hk, hw, ho,
    Module.importFails_stop (show (Status.damaged == .badField) = false from rfl)]

/-- What an envelope holds is written and measured. -/
theorem Module.importRead_opens {y : Bytes} (hk : slice x 0x28 32 = padTo Config.sealingKey 32)
    (hw : m.engineMay (u8 c.payload 0) 0 (u64 c.payload 0x18) (u64 x 0x48) = true) (ho : Config.openSealed x = some y) :
    m.importRead c x =
      ((({ m with hbm := m.hbm.wrN (u64 c.payload 0x18) (slice y 0 (u64 x 0x48)) } : Module).measure 0x0A
        (u32 c.payload 4) 0 (u8 c.payload 0) (slice y 0 (u64 x 0x48))).bump Reg.SEC.IMPORTS_COUNT).ok c
          (padTo (Config.sha512 (slice y 0 (u64 x 0x48))) 64) := by
  obtain ⟨hv, ht, hz, hz', hlen, hfit⟩ := hx
  simp [Module.importRead, h1, hv, ht, hz, hz', sealedLen, hlen.symm, hfit, hk, hw, ho, Module.imported]

end

end

end Sys2Proof.Machine


namespace Sys2Proof.Machine

open Sys2Proof

/-! ### Restarts, held requests and time bounds of the management port (R494, R496, R506) -/

section
variable {m : Module}

/-- A Crook restart that answers no held request runs the staged image, which FW_COMMIT then confirms. -/
theorem crookRestartEnd_runs {x : FwImage} (hr : m.secur.restart.isSome = true) (hh : m.secur.held = [])
    (hx : m.secur.crook.staged = some x) : crookRestartEnd m =
      (((({ m with secur := { m.secur with restart := none, crook := { m.secur.crook with
        running := x, staged := none, selected := false, old := some m.secur.crook.running } } } : Module).measureFw 2).set
          Reg.GLOBAL.STATUS_READY 1).setUpdate 3 x.version) := by
  obtain ⟨t, ht⟩ := Option.isSome_iff_exists.1 hr
  have hm1 : ({ m.updFw 2 FwKind.boot with secur := { (m.updFw 2 FwKind.boot).secur with restart := none, held := [] } } : Module) =
      { m with secur := { m.secur with
        restart := none,
        crook := { m.secur.crook with
          running := x, staged := none, selected := false, old := some m.secur.crook.running } } } := by
    simp [Module.updFw, FwKind.boot, hx, hh]
  unfold crookRestartEnd
  rw [ht, hh]
  exact congrArg (fun n : Module => ((n.measureFw 2).set Reg.GLOBAL.STATUS_READY 1).setUpdate 3 n.secur.crook.running.version) hm1

theorem crookRestartEnd_idle (hr : m.secur.restart = none) : crookRestartEnd m = m := by
  unfold crookRestartEnd
  rw [hr]

/-- STATUS answers the registers of SEC and changes nothing (R507). -/
theorem mgmtStatus_answers (g : MgmtMsg) (m : Module) : mgmtStatus g m =
    (m, some (.ok, (List.range 13).flatMap (fun i => leBytes 8 (m.reg (0x1200000 + 8 * i)).toNat) ++
      (List.range 768).flatMap (fun i => leBytes 8 (m.reg (0x1201000 + 8 * i)).toNat))) := rfl

/-- A request of the management port that was held for 5 s gets a TRANSITIONAL report. -/
theorem attestHoldExpiry_answers {h : HeldAttest} {rest : List HeldAttest} (hh : m.secur.held = h :: rest) (hc : h.cmd = none) :
    attestHoldExpiry m =
      ((({ m with secur := { m.secur with held := rest } } : Module).bump Reg.SEC.ATTESTATIONS_COUNT).bump
        Reg.SEC.TRANSITIONAL_REPORTS_COUNT).mgmtAnswer 9 h.counter .transitional
        (({ m with secur := { m.secur with held := rest } } : Module).attReport h.partition h.nonce 1) := by
  unfold attestHoldExpiry
  rw [hh]
  simp [Module.answerHeld, hc, Module.signed]

end

/-- The instant at which a lockout ends. -/
def lockoutDue (m : Module) : Nat :=
  match m.secur.lockout with
  | some t => t + sec 10
  | none => 0

theorem exec_mgmtLockoutEnd (s : State) : exec .mgmtLockoutEnd s = runAt lockoutDue mgmtLockoutEnd s := rfl

/-! ### The statement (O58) -/

section
variable {s : State} {g : MgmtMsg} {k : Credential} (hs : s.m.live = true) (hl : s.m.secur.lockout = none)
  (hlen : g.body.length ≤ 1048576) (hk : s.m.secur.creds.get g.credential = some k)
  (hv : Config.edVerify k.key (mgmtBytes g) g.signature = true) (hr : k.counter < g.counter)
include hs hl hlen hk hv hr

/-- A request that passes does what its operation does to the module whose credential's counter has risen. -/
theorem mgmtRequest_serves {op : Nat} {first : Bool} {act : MgmtAct} {i : MgmtMsg → Instr} {n : Module} {r : Option (Status × Bytes)}
    (hi : exec (i g) s = run (mgmtIn op first act g) s) (hop : g.op = op) (hact : act g (s.m.admitted g k) = (n, r)) :
    Does (i g) s (mgmtServed op g (n, r)) :=
  does_run hi hs ((mgmtIn_serves hop hl hlen hk hv hr).trans (congrArg (mgmtServed op g) hact))

end

theorem KMap.put_ne_nil {α : Type} (m : KMap α) (k : Nat) (v : α) : m.put k v ≠ [] := by
  cases m with
  | nil => exact nofun
  | cons c rest =>
    unfold KMap.put
    split_ifs <;> exact nofun

/-- A module reset in the middle of a management request: the answer leaves first, and the counter starts again. -/
theorem mgmtReset_resets {s : State} {g : MgmtMsg} {k : Credential} (hs : s.m.live = true) (hl : s.m.secur.lockout = none)
    (hlen : g.body.length ≤ 1048576) (hk : s.m.secur.creds.get g.credential = some k)
    (hv : Config.edVerify k.key (mgmtBytes g) g.signature = true) (hr : k.counter < g.counter) (hop : g.op = 12) (hb : g.body = []) :
    exec (.mgmtReset g) s = .next { s with m :=
      { (((s.m.admitted g k).mgmtAnswer 12 g.counter .ok []).resetTo 4) with clk := ⟨0, 0, s.m.clk.mono⟩ } } := by
  have hexec : exec (.mgmtReset g) s = runReset (mgmtIn 12 false mgmtResetAct g) s := rfl
  rw [hexec, runReset_live hs, mgmtIn_serves hop hl hlen hk hv hr, mgmtResetAct_resets hb]
  simp [mgmtServed, Module.clkAfter, Module.live, Module.resetTo]

/-- Settles O58: a request on the management port passes its checks in order, and each operation then acts on the module whose
credential's counter has risen. A replay is recorded (assumption 157), FW_COMMIT gives up what is staged (assumption 158), and what
IMPORT_FAILS counts is assumption 160. -/
theorem securityAndManagementAct : Obligations.SecurityAndManagementAct := by
  unfold Obligations.SecurityAndManagementAct
  refine ⟨?_, ?_, ?_, ?_, ?_, ?_, ?_, ?_, ?_, ?_⟩
  · rintro s src c b p addr r hf rfl rfl rfl h1 h2 hp ha hu hup hd rfl
    have hat := secAttestCmd_answers hup hd h1 h2 hp ha hu
    exact ⟨fun hlt => does_onCmd rfl hf (hat.trans (Module.attestTo_noSpace hlt)),
      fun hle => does_onCmd rfl hf (hat.trans (Module.attestTo_writes hle))⟩
  · exact fun m p st nonce hp hst hn he => m.attReport_reads hp hst hn he
  · exact fun s src c hf => does_onCmd rfl hf rfl
  · rintro s src c b p sa n dest x hf rfl rfl rfl rfl rfl hz hp hn hd4 hup hd hx
    refine ⟨fun h0 hfit => ⟨fun hm => ?_, fun hm hmay hw => ?_⟩, fun h1 hmay hver hty hz3 hz16 hxlen hxfit => ?_⟩
    · exact does_onCmd rfl hf (secImportCmd_mute hz hp hn hd4 h0 hfit hm)
    · exact does_onCmd rfl hf ((secImportCmd_reads hup hd hz hp hn hd4 (by omega) hx hmay fun _ => ⟨hfit, hm, hw⟩).trans
        (Module.importRead_plain h0))
    · have hseal : SealedImage x (u64 c.payload 0x18) := ⟨hver, hty, hz3, hz16, hxlen, hxfit⟩
      have hread := secImportCmd_reads hup hd hz hp hn hd4 (by omega) hx hmay (by omega)
      refine ⟨fun hkey => does_onCmd rfl hf (hread.trans (Module.importRead_otherKey h1 hseal hkey)), fun hkey hw =>
        ⟨fun hopen => ?_, fun y plain hopen hplain => ?_⟩⟩
      · exact does_onCmd rfl hf (hread.trans (Module.importRead_damaged h1 hseal hkey hw hopen))
      · exact does_onCmd rfl hf (hread.trans ((Module.importRead_opens h1 hseal hkey hw hopen).trans (by rw [hplain])))
  · exact fun q hq s g hs hop => mgmtRequest_checks (isMgmtIn_of_mem q hq) hs hop
  · intro s g hs hop hl hc hlen h32 hclaim
    have hact := enrolCredential_first (m := s.m.connected) hc h32
    exact does_run rfl hs ((mgmtIn_claimed hop hl hlen hc rfl hclaim).trans (congrArg (mgmtServed 1 g) hact))
  · rintro s g k m1 b hs hl rfl hlen hk hv hr rfl
    have hserves := @mgmtRequest_serves s g k hs hl hlen hk hv hr
    refine ⟨?_, ?_, ?_, ?_, ?_, ?_, ?_, ?_, ?_, ?_, ?_, ?_⟩
    · exact fun hop h32 i hi => hserves rfl hop (enrolCredential_takes (KMap.put_ne_nil _ _ _) h32 hi)
    · exact fun hop h1 hh => ⟨fun hone => hserves rfl hop (revokeCredential_last h1 hh hone),
        fun hmore => hserves rfl hop (revokeCredential_takes h1 hh hmore)⟩
    · intro key hkey h40 hz
      exact ⟨fun hop h0 => hserves rfl hop (enrolKey_fabric hkey h40 hz h0),
        fun hop h1 hnew hroom => hserves rfl hop (enrolKey_trusted hkey h40 hz h1 hnew hroom),
        fun hop h0 hfab => hserves rfl hop (removeKey_fabric hkey h40 hz h0 hfab),
        fun hop h1 hold => hserves rfl hop (removeKey_trusted hkey h40 hz h1 hold)⟩
    · exact fun n recs ranges hop hn h256 hrecs hranges hokR hokW =>
        hserves rfl hop (setConfig_stores hn h256 hrecs hranges hokR hokW)
    · intro kind image hop h8 hkind h12 hz hu himage
      exact ⟨fun h0 => hserves rfl hop (fwStage_part h8 hkind h12 hz hu himage h0), fun h1 =>
        ⟨fun hbad => hserves rfl hop (fwStage_refused h8 hkind h12 hz hu himage h1 hbad),
          fun hsig hver => hserves rfl hop (fwStage_stages h8 hkind h12 hz hu himage h1 hsig hver)⟩⟩
    · intro x hop h2 hu
      exact ⟨fun h0 h12 hx => hserves rfl hop (fwActivate_selects h2 hu h0 h12 hx),
        fun h1 h0 => hserves rfl hop (fwActivate_dyone h2 h1 h0),
        fun h1 h0 hx => hserves rfl hop (fwActivate_restarts h2 hu h1 h0 hx)⟩
    · exact fun hop hb => ⟨fun hu => hserves rfl hop (fwCommit_busy hb hu), fun hu => hserves rfl hop (fwCommit_commits hb hu)⟩
    · exact fun hop h72 hp hz => ⟨fun hu => hserves rfl hop (mgmtAttest_held h72 hp hz hu),
        fun hu => hserves rfl hop (mgmtAttest_answers h72 hp hz hu)⟩
    · exact fun hop h16 hn hz => hserves rfl hop (mgmtEvRead_answers h16 hn hz)
    · exact fun hop h8 => ⟨fun hcl => hserves rfl hop (mgmtEvClear_busy h8 hcl), fun hcl => hserves rfl hop (mgmtEvClear_clears h8 hcl)⟩
    · exact fun hop hb => mgmtReset_resets hs hl hlen hk hv hr hop hb
    · exact fun hop => hserves rfl hop (mgmtStatus_answers _ _)
  · exact fun s x hs => ⟨fun hr => does_run rfl hs (crookRestartEnd_idle hr),
      fun hr hh hx => does_run rfl hs (crookRestartEnd_runs hr hh hx)⟩
  · intro s h rest hs hh hc
    refine doesAt_runAt rfl hs ?_ (attestHoldExpiry_answers ?_ hc)
    · simp [attestHoldDue, hh, sec]
    · simpa using hh
  · intro s hs
    refine ⟨does_run rfl hs rfl, fun t ht => doesAt_runAt (exec_mgmtLockoutEnd s) hs ?_ rfl⟩
    simp [lockoutDue, ht, sec]

end Sys2Proof.Machine


namespace Sys2Proof.Machine

open Sys2Proof

/-! ### Sessions as a table, and serial numbers (R24, R468) -/

/-- The later of two values put at a key stands. -/
theorem KMap.put_put {α : Type} (m : KMap α) (k : Nat) (v w : α) : (m.put k v).put k w = m.put k w := by
  induction m with
  | nil => simp [KMap.put]
  | cons c rest ih =>
    obtain ⟨a, x⟩ := c
    by_cases hlt : a < k
    · simp [KMap.put, hlt, ih]
    · by_cases heq : a = k
      · simp [KMap.put, heq]
      · simp [KMap.put, hlt, heq]

section
variable (m : Module) (k : Nat) (x y : Session)

@[simp] theorem Module.session_setSession_same : (m.setSession k x).session k = x := by
  simp [Module.session, Module.setSession, KMap.getD, KMap.get_put_same]

@[simp] theorem Module.setSession_setSession : (m.setSession k x).setSession k y = m.setSession k y := by
  simp [Module.setSession, KMap.put_put]

@[simp] theorem Module.setSession_clk : (m.setSession k x).clk = m.clk := rfl
@[simp] theorem Module.setSession_steps : (m.setSession k x).steps = m.steps := rfl
@[simp] theorem Module.setSession_caps : (m.setSession k x).caps = m.caps := rfl
@[simp] theorem Module.setSession_secur : (m.setSession k x).secur = m.secur := rfl
@[simp] theorem Module.setSession_mirror : (m.setSession k x).mirror = m.mirror := rfl

end

/-- A packet that enters a queue changes the queues and the count of waits only. -/
theorem Module.enqueue_queues (q : Nat) (p : Pkt) (m : Module) : ∃ queues,
    ({ m with bell := { m.bell with queues := queues } } : Module).OnlyRegs (m.enqueue q p) := by
  unfold Module.enqueue
  dsimp only
  split
  · exact ⟨_, (Module.OnlyRegs.refl _).bump _⟩
  · exact ⟨_, .refl _⟩

section
variable (q : Nat) (p : Pkt) (m : Module)

@[simp] theorem Module.enqueue_clk : (m.enqueue q p).clk = m.clk := by
  obtain ⟨queues, h⟩ := m.enqueue_queues q p
  exact h.same (·.clk)

@[simp] theorem Module.enqueue_steps : (m.enqueue q p).steps = m.steps := by
  obtain ⟨queues, h⟩ := m.enqueue_queues q p
  exact h.same (·.steps)

@[simp] theorem Module.enqueue_caps : (m.enqueue q p).caps = m.caps := by
  obtain ⟨queues, h⟩ := m.enqueue_queues q p
  exact h.same (·.caps)

@[simp] theorem Module.enqueue_session (k : Nat) : (m.enqueue q p).session k = m.session k := by
  obtain ⟨queues, h⟩ := m.enqueue_queues q p
  exact h.same (·.session k)

end

section
variable {a b : Nat}

theorem serialGE_self : serialGE a a = true := by simp [serialGE]

theorem serialGE_of_later (h : serialLater a b = true) : serialGE a b = true := by simp [serialGE, h]

theorem serialLater_ne (h : serialLater a b = true) : a ≠ b := by
  rintro rfl
  simp only [serialLater, Bool.and_eq_true, decide_eq_true_eq] at h
  omega

theorem serialUnordered_of_later (h : serialLater a b = true) : serialUnordered a b = false := by
  simp only [serialLater, Bool.and_eq_true, decide_eq_true_eq] at h
  simp only [serialUnordered, beq_eq_false_iff_ne]
  omega

/-- A number that another is later than is neither equal to that nor later, and the two compare. -/
theorem serial_of_earlier (h : serialLater b a = true) (ha : a < 2 ^ 32) (hb : b < 2 ^ 32) :
    serialGE a b = false ∧ serialUnordered a b = false := by
  simp only [serialLater, Bool.and_eq_true, decide_eq_true_eq] at h
  simp only [serialGE, serialLater, serialUnordered, Bool.or_eq_false_iff, beq_eq_false_iff_ne, Bool.and_eq_false_iff,
    decide_eq_false_iff_not]
  omega

end

/-! ### Frames that arrive (R463, R466) -/

/-- The map shows the address and port that a frame comes from. -/
def Module.Maps (m : Module) (f : SessFrame) : Prop := ∃ e ∈ m.bell.map.vals, e.address = f.srcAddr ∧ e.udpPort = f.srcPort

section
variable {type : Nat} {f : SessFrame} {m m1 : Module}

theorem Module.any_of_maps (h : m.Maps f) : m.bell.map.vals.any (fun x => x.address == f.srcAddr && x.udpPort == f.srcPort) = true := by
  simpa [Module.Maps] using h

theorem Module.any_of_unmapped (h : ∀ e ∈ m.bell.map.vals, ¬(e.address = f.srcAddr ∧ e.udpPort = f.srcPort)) :
    m.bell.map.vals.any (fun x => x.address == f.srcAddr && x.udpPort == f.srcPort) = false := by
  simpa using h

theorem Module.ingress_unknown (h : ∀ e ∈ m.bell.map.vals, ¬(e.address = f.srcAddr ∧ e.udpPort = f.srcPort)) :
    m.ingress type f = (m.bump Reg.BELL.RX_UNKNOWN_COUNT, false) := by
  simp only [Module.ingress, Module.any_of_unmapped h, Bool.not_false, if_true]

theorem Module.ingress_malformed (h : m.Maps f)
    (hbad : f.magic ≠ 0x4B46 ∨ f.version ≠ 1 ∨ f.type ≠ type ∨ f.length ≠ f.body.length ∨ f.check ≠ sessCrc f) :
    m.ingress type f = (m.bump Reg.BELL.RX_BAD_COUNT, false) := by
  have hb : (f.magic != 0x4B46 || f.version != 1 || f.type != type || f.length != f.body.length || f.check != sessCrc f) = true := by
    simpa [or_assoc] using hbad
  simp only [Module.ingress, Module.any_of_maps h, Bool.not_true, Bool.false_eq_true, if_false, hb, if_true]

/-- An ACK whose number compares with those of every retained frame releases what it covers. -/
theorem Module.sessAcked_releases {k ack : Nat} (h : ∀ r ∈ (m.session k).retained, serialUnordered ack r.seq = false) :
    m.sessAcked k ack = m.setSession k { m.session k with
      retained := (m.session k).retained.filter (fun r => !serialGE ack r.seq) } := by
  have hany : (m.session k).retained.any (fun r => serialUnordered ack r.seq) = false := by simpa using h
  simp only [Module.sessAcked, hany, Bool.false_eq_true, if_false]

@[simp] theorem Module.sessAcked_clk (k ack : Nat) (m : Module) : (m.sessAcked k ack).clk = m.clk := by
  unfold Module.sessAcked
  dsimp only
  split <;> simp

@[simp] theorem Module.sessAcked_secur (k ack : Nat) (m : Module) : (m.sessAcked k ack).secur = m.secur := by
  unfold Module.sessAcked
  dsimp only
  split <;> simp

/-- An ACK changes what a session retains and the registers. -/
theorem Module.sessAcked_bell (k ack : Nat) (m : Module) : ∃ x, (m.sessAcked k ack).bell = (m.setSession k x).bell ∨
    (m.sessAcked k ack).bell = m.bell := by
  unfold Module.sessAcked
  dsimp only
  split
  · exact ⟨m.session k, .inr (by simp)⟩
  · exact ⟨_, .inl rfl⟩

/-- A well-formed frame of a mapped source to an endpoint of this module's own, under no policer, is counted, and its ACK releases
what it covers. -/
theorem Module.ingress_passes (h : m.Maps f) (hm : f.magic = 0x4B46) (hv : f.version = 1) (ht : f.type = type)
    (hl : f.length = f.body.length) (hc : f.check = sessCrc f) (hp : ∀ x ∈ m.bell.policers.vals, x.endpoint ≠ f.src)
    (ho : m.bell.takenOver = false) (hd : (m.session f.src).down = false)
    (hs : ∀ r ∈ (m.session f.src).retained, serialUnordered f.ack r.seq = false) :
    m.ingress type f = ((m.bumpBy Reg.BELL.RX_BYTES_COUNT (32 + f.body.length)).setSession f.src { m.session f.src with
      retained := (m.session f.src).retained.filter (fun r => !serialGE f.ack r.seq) }, true) := by
  have hgood : (f.magic != 0x4B46 || f.version != 1 || f.type != type || f.length != f.body.length || f.check != sessCrc f) =
      false := by
    simp [hm, hv, ht, hl, ← hc]
  have hpolice : m.police f = (m, true) := by
    have hfind : m.bell.policers.find? (fun (_, x) => x.endpoint == f.src && f.src != 0) = none := by
      rw [List.find?_eq_none]
      intro c hcm
      have := hp c.2 (List.mem_map_of_mem hcm)
      simp [this]
    unfold Module.police
    rw [hfind]
  have hsess : ∀ b, ((m.bumpBy Reg.BELL.RX_BYTES_COUNT b).session f.src) = m.session f.src := fun b =>
    ((Module.OnlyRegs.refl m).bumpBy _ b).same (·.session f.src)
  have hkey : sessionKey f.src false = f.src := rfl
  unfold Module.ingress
  dsimp only
  rw [Module.any_of_maps h, hgood, hpolice, if_neg (by decide), if_neg (by decide)]
  dsimp only
  rw [Module.bumpBy_bell, ho, Bool.false_and, hkey, hsess, if_neg (by simp [hd])]
  rw [Module.sessAcked_releases (by rw [hsess]; exact hs), hsess]

/-- A frame that passes the checks at the module's edge is of the type asked for, and the time stands. -/
theorem Module.ingress_admits (h : m.ingress type f = (m1, true)) : f.type = type ∧ m1.clk = m.clk := by
  have hpolice : ∀ n b, m.police f = (n, b) → n.clk = m.clk := by
    intro n b hn
    unfold Module.police at hn
    split at hn
    · cases hn; rfl
    · dsimp only at hn
      split at hn <;> cases hn <;> simp
  unfold Module.ingress at h
  dsimp only at h
  split at h
  · cases h
  · split at h
    · cases h
    · rename_i hgood
      have htype : f.type = type := by
        by_contra hne
        exact hgood (by simp [hne])
      refine ⟨htype, ?_⟩
      split at h
      · cases h
      · rename_i n hn
        cases h
        have hclk := hpolice n true hn
        split <;> simpa using hclk

end

/-! ### Sequenced frames (R467, R468) -/

/-- An ACK is owed on session k, from now on unless one was owed before. -/
def Module.oweAck (k : Nat) (m : Module) : Module :=
  m.setSession k { m.session k with ackOwed := some ((m.session k).ackOwed.getD m.clk.mono) }

section
variable {k : Nat} {f : SessFrame} {m : Module}

/-- Frames wait while the next in order is not at hand. -/
theorem Module.drainSess_waits (n : Nat) (force : Bool) (h : ∀ g ∈ (m.session k).ahead, g.seq ≠ (m.session k).rxNext) :
    m.drainSess k n force = m := by
  cases n with
  | zero => rfl
  | succ n =>
    have hfind : (m.session k).ahead.find? (fun f => f.seq == (m.session k).rxNext) = none := by
      rw [List.find?_eq_none]
      intro g hg
      simpa using h g hg
    unfold Module.drainSess
    dsimp only
    rw [hfind]

variable (hflags : f.flags % 2 = 0) (hopen : (m.session k).rxOpen = true)
include hflags hopen

/-- A frame of a session whose numbering has begun is taken by its number. -/
theorem Module.takeFrame_ordered (hord : (f.seq != (m.session k).rxNext && serialUnordered f.seq (m.session k).rxNext) = false) :
    m.takeFrame k f =
      if serialGE f.seq (m.session k).rxNext then
        if (m.session k).ahead.any (fun g => g.seq == f.seq) ||
            decide (64 ≤ (m.session k).ahead.length && f.seq != (m.session k).rxNext) then m.oweAck k
        else (m.setSession k { m.session k with
          ahead := (m.session k).ahead ++ [f],
          ackOwed := some ((m.session k).ackOwed.getD m.clk.mono) }).drainSess k 66 false
      else (m.replyAgain k f.seq).oweAck k := by
  have hfresh : (f.flags % 2 == 1) = false := by simp [hflags]
  unfold Module.takeFrame
  dsimp only
  rw [hfresh, Bool.false_and]
  simp only [Bool.false_eq_true, if_false, hopen, Bool.not_true, hord, Module.oweAck, Module.session_setSession_same,
    Module.setSession_setSession]

/-- The next frame in order is applied at once when nothing waits ahead of it. -/
theorem Module.takeFrame_next (hseq : f.seq = (m.session k).rxNext) (hahead : (m.session k).ahead = [])
    (hblock : m.sessBlocked f = false) : m.takeFrame k f =
      ((({ m with mirror := { m.mirror with held := m.mirror.held.filter (fun h => h.cmd != sessHeldId k) } } : Module).setSession k
        { m.session k with
          rxNext := (f.seq + 1) % 2 ^ 32,
          ackOwed := some ((m.session k).ackOwed.getD m.clk.mono) }).applySess k f).drainSess k 65 false := by
  rw [Module.takeFrame_ordered hflags hopen (by simp [hseq]), if_pos (by rw [hseq]; exact serialGE_self), if_neg (by simp [hahead, hseq])]
  have hb : (m.setSession k { m.session k with
      ahead := (m.session k).ahead ++ [f], ackOwed := some ((m.session k).ackOwed.getD m.clk.mono) }).sessBlocked f = false := hblock
  rw [Module.drainSess]
  simp only [Module.session_setSession_same, hahead, List.nil_append, List.find?_cons, hseq, beq_self_eq_true]
  rw [hahead, List.nil_append] at hb
  rw [hb]
  simp only [Bool.false_and, Bool.false_eq_true, if_false, Option.getD_some]
  rw [← hseq]
  simp [Module.setSession, KMap.put_put]

/-- A frame ahead of a gap is held. -/
theorem Module.takeFrame_held (hlater : serialLater f.seq (m.session k).rxNext = true) (hroom : (m.session k).ahead.length < 64)
    (hnew : ∀ g ∈ (m.session k).ahead, g.seq ≠ f.seq ∧ g.seq ≠ (m.session k).rxNext) : m.takeFrame k f =
      m.setSession k { m.session k with
        ahead := (m.session k).ahead ++ [f], ackOwed := some ((m.session k).ackOwed.getD m.clk.mono) } := by
  have hany : (m.session k).ahead.any (fun g => g.seq == f.seq) = false := by
    simpa using fun g hg => (hnew g hg).1
  rw [Module.takeFrame_ordered hflags hopen (by simp [serialUnordered_of_later hlater]), if_pos (serialGE_of_later hlater),
    if_neg (by simp [hany, Nat.not_le.2 hroom])]
  refine Module.drainSess_waits _ _ ?_
  rw [Module.session_setSession_same]
  intro g hg
  rcases List.mem_append.1 hg with hold | hlast
  · exact (hnew g hold).2
  · rw [List.mem_singleton.1 hlast]
    exact serialLater_ne hlater

/-- A repeat is answered again, and an ACK is owed. -/
theorem Module.takeFrame_repeat (hlater : serialLater (m.session k).rxNext f.seq = true) (hseq : f.seq < 2 ^ 32)
    (hnext : (m.session k).rxNext < 2 ^ 32) : m.takeFrame k f = (m.replyAgain k f.seq).oweAck k := by
  obtain ⟨hge, hun⟩ := serial_of_earlier hlater hseq hnext
  rw [Module.takeFrame_ordered hflags hopen (by simp [hun]), if_neg (by simp [hge])]

omit hflags hopen

theorem Module.replyAgain_keeps (seq : Nat) (m : Module) :
    (m.replyAgain k seq).steps = m.steps ∧ (m.replyAgain k seq).caps = m.caps := by
  unfold Module.replyAgain
  split <;> simp

end

end Sys2Proof.Machine


namespace Sys2Proof.Machine

open Sys2Proof

/-! ### What a front end's frame does (R158, R177, R178, R467, R469) -/

/-- A field within the bytes taken is read from them. -/
theorem field_take {b : Bytes} {k off n : Nat} (h : off + n ≤ k) (hk : k ≤ b.length) : field (b.take k) off n = field b off n := by
  conv_rhs => rw [← List.take_append_drop k b]
  rw [field_append_left _ _ _ _ (by simpa [hk] using h)]

section
variable {m : Module} {k i : Nat} {f : SessFrame} {r : Req}

theorem Module.replyVerdict_denied : m.replyVerdict k f (stop .denied) i = m.reply k f .denied i := rfl

section
variable (hi : i = u32 f.body 0) (hid : f.capsule % 256 ≠ 255) (hr : m.request i f.capsule = some r)
include hi hid hr

/-- A frame about a request of another partition fails its checks with DENIED. -/
theorem Module.sessReq_other {n : Nat} (hn : n ≤ f.body.length) (hp : r.partition ≠ m.frontPart k)
    (more : List (Bool × Verdict)) : firstFail (m.sessReq k n f ++ more) = some (stop .denied) := by
  simp [Module.sessReq, firstFail, hn, hid, ← hi, hr, hp]

/-- A frame about a request of the front end's partition passes the checks on the request. -/
theorem Module.sessReq_own {n : Nat} (hn : n ≤ f.body.length) (hp : r.partition = m.frontPart k) :
    ∀ x ∈ m.sessReq k n f, x.1 = true := by
  simp [Module.sessReq, hn, hid, ← hi, hr, hp]

theorem Module.applyAppend_other (hn : 8 ≤ f.body.length) (hp : r.partition ≠ m.frontPart k) :
    m.applyAppend k f = m.reply k f .denied i := by
  unfold Module.applyAppend
  dsimp only
  rw [Module.sessReq_other hi hid hr hn hp, ← hi]
  exact Module.replyVerdict_denied

theorem Module.applyEnd_other (hn : 4 ≤ f.body.length) (hp : r.partition ≠ m.frontPart k) :
    m.applyEnd k f = m.reply k f .denied i := by
  unfold Module.applyEnd
  dsimp only
  rw [Module.sessReq_other hi hid hr hn hp, ← hi]
  exact Module.replyVerdict_denied

theorem Module.applyAttach_other (hn : 4 ≤ f.body.length) (hp : r.partition ≠ m.frontPart k) :
    m.applyAttach k f = m.reply k f .denied i := by
  have hfail := Module.sessReq_other hi hid hr hn hp []
  rw [List.append_nil] at hfail
  unfold Module.applyAttach
  dsimp only
  rw [hfail, ← hi]
  exact Module.replyVerdict_denied

theorem Module.applyAttach_own (hn : 4 ≤ f.body.length) (hp : r.partition = m.frontPart k) :
    m.applyAttach k f = ((m.updReq i (fun r => { r with return_ := k })).touchReq i).reply k f .ok i := by
  unfold Module.applyAttach
  dsimp only
  rw [firstFail_none.2 (Module.sessReq_own hi hid hr hn hp), ← hi]

variable (hlive : r.state ≠ 5) (hfence : m.fenced = false)
include hlive hfence

theorem Module.applyEnd_own (hn : 4 ≤ f.body.length) (hp : r.partition = m.frontPart k) :
    m.applyEnd k f = (m.endByHost i 3 none).reply k f .ok i := by
  unfold Module.applyEnd
  dsimp only
  rw [firstFail_append (Module.sessReq_own hi hid hr hn hp), ← hi]
  simp [firstFail, hr, hlive, hfence]

theorem Module.applyAppend_own {x : Input} (hn : 8 ≤ f.body.length) (hp : r.partition = m.frontPart k) (hkind : u8 f.body 4 ≤ 1)
    (hz : allZero f.body 5 3 = true) (hlen : u8 f.body 4 = 0 → (f.body.length - 8) % 4 = 0)
    (hx : x = m.parseInput f.capsule (u8 f.body 4) (f.body.drop 8)) (hok : x ≠ .bad) (hfit : m.inputFits r x.list.length = true) :
    m.applyAppend k f = (m.addInput i x).reply k f .ok i := by
  have hwhole : (u8 f.body 4 != 0 || (f.body.drop 8).length % 4 == 0) = true := by
    by_cases h0 : u8 f.body 4 = 0
    · simp [h0, hlen h0]
    · simp [h0]
  unfold Module.applyAppend
  dsimp only
  rw [firstFail_append (Module.sessReq_own hi hid hr hn hp), ← hi, ← hx, hwhole]
  simp [firstFail, hkind, hz, hr, hlive, hfence, hok, hfit]

end

/-- What becomes of an admission in a frame by the verdict of the checks on the module. -/
def Module.admitOutcome (k : Nat) (f : SessFrame) (a : Admit) (kind : Nat) (inp : Bytes) (m : Module) : Option Verdict → Module
  | some v => (((((m.choose (2 ^ 32)).2.loadHeader a.capsule).loadMap a.capsule).countRefused v.status).countDenial v).reply k f
      v.status (m.choose (2 ^ 32)).1
  | none => (m.admitNow a kind inp).1.reply k f .ok (m.admitNow a kind inp).2

/-- An admission in a frame whose fields pass is served by its checks on the module alone. -/
theorem Module.applyAdmit_checked {a : Admit} {b inp : Bytes} (hb : b = f.body) (hlen : 0x38 ≤ b.length) (hinp : inp = b.drop 0x38)
    (ha : a = { Admit.ofPayload (b.take 0x38) with return_ := k }) (hz1 : allZero b 0x0A 2 = true) (hz2 : allZero b 0x34 4 = true)
    (hid : a.capsule % 256 ≠ 255) (hp : m.present a.partition = true) (hfl : a.flags ≤ 3) (hkind : u8 b 7 ≤ 1) (hmodel : a.model < 64)
    (hret : u32 b 0x18 = f.src) (haddr : u64 b 0x28 = 0) (hin : u32 b 0x30 = inp.length) (hmax : inp.length ≤ 16777216)
    (hwhole : u8 b 7 = 0 → inp.length % 4 = 0) (htok : m.tokensOk a.capsule (u8 b 7) inp = true) (hfront : m.frontPart k = a.partition) :
    m.applyAdmit k f = m.admitOutcome k f a (u8 b 7) inp (m.admitFails a 8 0x20 0x1C 0x38 (u8 b 7) inp) := by
  have hpad : padTo (b.take 0x38) 0x38 = b.take 0x38 := padTo_self (by simp [hlen])
  have hsrc : (Admit.ofPayload (b.take 0x38)).return_ = f.src :=
    (field_take (off := 0x18) (n := 4) (by omega) hlen).trans hret
  have hres : reservedOk b [(0x0A, 2), (0x34, 4)] = none := reservedOk_none.2 (by simpa using ⟨hz1, hz2⟩)
  have hsize : (u8 b 7 != 0 || inp.length % 4 == 0) = true := by
    by_cases h0 : u8 b 7 = 0
    · simp [h0, hwhole h0]
    · simp [h0]
  obtain ⟨a0, ha0⟩ : ∃ a0, a0 = Admit.ofPayload (b.take 0x38) := ⟨_, rfl⟩
  rw [← ha0] at ha hsrc
  subst ha
  dsimp only at hid hp hfl hmodel htok hfront ⊢
  unfold Module.applyAdmit
  dsimp only
  rw [← hb, ← hinp, hpad, ← ha0, hsrc, hsize, hres]
  have hchecks : firstFail [(decide (0x38 ≤ b.length), bad 0), ((none : Option Verdict).isNone, bad 0),
      (a0.capsule % 256 != 255, bad 0), (m.partOk a0.partition, bad 4), (decide (a0.flags ≤ 3), bad 6), (decide (u8 b 7 ≤ 1), bad 7),
      (decide (a0.model < 64), bad 8), (f.src == f.src, bad 0x18), (u64 b 0x28 == 0, bad 0x28),
      (u32 b 0x30 == inp.length && decide (inp.length ≤ 16777216) && true, bad 0x30),
      (m.tokensOk a0.capsule (u8 b 7) inp, bad 0x38)] = none := by
    rw [firstFail_none]
    simp [hlen, hid, Module.partOk, hp, hfl, hkind, hmodel, haddr, hin, hmax, htok]
  rw [hchecks]
  simp only [hfront, bne_self_eq_false, Bool.false_eq_true, if_false]
  generalize m.admitFails _ _ _ _ _ _ _ = fails
  cases fails <;> rfl

end

/-! ### Frames that leave (R466, R468) -/

/-- A sequenced frame is numbered and retained, and acknowledges what has been received. -/
theorem Module.sessPut_retains (m : Module) (dst own q type cap : Nat) (body : Bytes) (h7 : type ≠ 7) (h8 : type ≠ 8) :
    ∃ r, ((m.sessPut dst own q type cap body).session dst).retained = (m.session dst).retained ++ [r] ∧
      r.seq = (m.session dst).txNext ∧ r.frame.seq = (m.session dst).txNext ∧ r.frame.type = type ∧ r.frame.src = own ∧
      r.frame.capsule = cap ∧ r.frame.body = body ∧ r.frame.check = sessCrc { r.frame with check := 0 } ∧
      r.frame.flags = (if (m.session dst).txFresh then 1 else 0) ∧
      ((m.sessPut dst own q type cap body).session dst).txNext = ((m.session dst).txNext + 1) % 2 ^ 32 ∧
      ((m.sessPut dst own q type cap body).session dst).ackOwed = none := by
  unfold Module.sessPut
  simp only [bne_iff_ne.2 h7, bne_iff_ne.2 h8, Bool.and_true, Bool.true_and, if_true, Module.enqueue_session,
    Module.session_setSession_same]
  exact ⟨_, rfl, rfl, rfl, rfl, rfl, rfl, rfl, rfl, rfl, trivial, trivial⟩

/-- The frame that falls due first is retained and none falls due before it. -/
theorem firstDue_least {l : List Retained} {r : Retained} (h : firstDue l = some r) :
    r ∈ l ∧ ∀ x ∈ l, r.sent + r.interval ≤ x.sent + x.interval := by
  induction l generalizing r with
  | nil => cases h
  | cons y ys ih =>
    unfold firstDue at h
    cases hys : firstDue ys with
    | none =>
      obtain rfl : y = r := by simpa [hys] using h
      have hnil : ys = [] := by
        cases ys with
        | nil => rfl
        | cons z zs =>
          unfold firstDue at hys
          cases hz : firstDue zs with
          | none => simp [hz] at hys
          | some w => rw [hz] at hys; dsimp only at hys; split at hys <;> cases hys
      simp [hnil]
    | some x =>
      obtain ⟨hx, hleast⟩ := ih hys
      rw [hys] at h
      dsimp only at h
      split at h
      · obtain rfl := Option.some.inj h
        refine ⟨List.mem_cons_self, fun z hz => ?_⟩
        rcases List.mem_cons.1 hz with rfl | hz
        · exact le_rfl
        · have := hleast z hz
          omega
      · obtain rfl := Option.some.inj h
        refine ⟨List.mem_cons_of_mem _ hx, fun z hz => ?_⟩
        rcases List.mem_cons.1 hz with rfl | hz
        · omega
        · exact hleast z hz

section
variable {m : Module} {k : Nat} {e : MapEntry} {x : Session}

@[simp] theorem Module.advanceTo_session (due : Nat) (m : Module) (k : Nat) : (m.advanceTo due).session k = m.session k := by
  simp [Module.session]

@[simp] theorem Module.advanceTo_endpoint (due : Nat) (m : Module) (k : Nat) : (m.advanceTo due).endpoint k = m.endpoint k := by
  simp [Module.endpoint]

/-- The retained frame that falls due first is repeated; its interval doubles up to 8 ms (assumption 88). -/
theorem retransmit_repeats {r : Retained} (hx : x = m.session k) (he : m.endpoint (k % 2 ^ 32) = some e)
    (hr : firstDue x.retained = some r) (hd : x.down = false) : retransmit k m =
      ((m.setSession k { x with retained := x.retained.map (fun y => if y.seq = r.seq then
        { y with sent := m.clk.mono, interval := Min.min (2 * y.interval) 8000000 } else y) }).enqueue
          (if e.partition < 8 then m.queueFor (k % 2 ^ 32) e.partition else 16) (.session (k % 2 ^ 32) r.frame)).bump
        Reg.BELL.RETRANSMITS_COUNT := by
  unfold retransmit
  dsimp only
  rw [← hx, he, hr]
  simp only [hd, Bool.false_eq_true, if_false, beq_iff_eq, decide_eq_true_eq, ms]

theorem ackTimer_acks {t : Nat} (ht : (m.session k).ackOwed = some t) : ackTimer k m = m.sessSend k 7 0xFFFFFFFF [] := by
  simp [ackTimer, ht]

/-- SESSION_ACK_TIMER falls due 100 µs after the frame that it acknowledges. -/
theorem exec_sessionAckTimer (s : State) : exec (.sessionAckTimer k) s =
    runAt (fun m => (((m.session k).ackOwed).map (· + us 100)).getD 0) (ackTimer k) s := rfl

/-! ### Endpoints that go down (R469) -/

/-- The records in the OUTPUT frames that a session retains. -/
def Session.unsent (x : Session) : Nat :=
  (x.retained.filter (fun r => r.frame.type == 6)).foldl (fun n r => n + countRecords (r.frame.body.length / 24 + 1) r.frame.body) 0

theorem endpointDown_fails {r : Retained} {rs : List Retained} (hx : x = m.session k) (he : m.endpoint (k % 2 ^ 32) = some e)
    (hr : x.retained = r :: rs) (hd : x.down = false)
    (hfail : m.get Reg.BELL.SESSION_RETAIN_MAX_KIB * 1024 ≤ x.retainedBytes ∨
      r.first + 1000000 * m.get Reg.BELL.SESSION_DOWN_MS ≤ m.clk.mono) :
    m.endpointFails k = true ∧ endpointDown k m =
      (let m1 := m.setSession k { x with retained := [], down := true, ackOwed := none }
       let m2 := m1.steps.reqs.foldl (fun (a : Module) q =>
         if q.2.return_ = k ∧ bit q.2.flags 2 = false ∧ q.2.reserved = none then a.waitReq q.1 else a) m1
       ((m2.bumpBy Reg.BELL.OUTPUT_LOST_COUNT x.unsent).set Reg.BELL.STATUS_ENDPOINT_DOWN 1).event 0x1002 e.partition 1 (k % 2 ^ 32)
         x.unsent) := by
  have hfails : m.endpointFails k = true := by
    rw [Nat.mul_comm 1000000] at hfail
    change _ ∨ r.first + ms (m.get Reg.BELL.SESSION_DOWN_MS) ≤ _ at hfail
    simpa [Module.endpointFails, ← hx, hr, hd, or_comm] using hfail
  have hfront : m.frontPart k = e.partition := by rw [Module.frontPart, he, Option.map_some, Option.getD_some]
  have hwait : (fun (a : Module) (q : Nat × Req) =>
      if q.2.return_ == k && !bit q.2.flags 2 && q.2.reserved.isNone then a.waitReq q.1 else a) =
      fun a q => if q.2.return_ = k ∧ bit q.2.flags 2 = false ∧ q.2.reserved = none then a.waitReq q.1 else a := by
    funext a q
    simp [and_assoc]
  refine ⟨hfails, ?_⟩
  unfold endpointDown
  rw [hfails, hfront, ← hx, if_neg (by simp)]
  dsimp only
  rw [← hwait]
  rfl

end

/-- A request that waits for its endpoint is WAITING, or is marked to wait when its step ends (R178). -/
theorem Module.waitReq_waits {m : Module} {i : Nat} {r : Req} (hr : m.steps.reqs.get i = some r) :
    (r.state = 1 → ∃ x, (m.waitReq i).steps.reqs.get i = some x ∧ x.state = 3) ∧
    ((r.state = 2 ∨ r.state = 4) → ∃ x, (m.waitReq i).steps.reqs.get i = some x ∧ x.state = r.state ∧ bit x.flags 5 = true) := by
  have hbit : bit (r.flags ||| 32) 5 = true := by
    have h32 : (32 : Nat).testBit 5 = true := by decide
    have hor : (r.flags ||| 32).testBit 5 = true := by rw [Nat.testBit_or, h32, Bool.or_true]
    rw [Nat.testBit_eq_decide_div_mod_eq] at hor
    simpa [bit] using hor
  refine ⟨fun h1 => ?_, fun h24 => ?_⟩
  · have hupd : (m.updReq i (fun r => { r with state := 3 })).steps.reqs.get i = some { r with state := 3 } := by simp [hr]
    refine ⟨{ r with state := 3, touched := false }, ?_, rfl⟩
    simp only [Module.waitReq, hr, h1, beq_self_eq_true, if_true]
    exact Module.req_touchReq_outside hupd (by simp)
  · have hupd : (m.updReq i (fun r => { r with flags := r.flags ||| 32 })).steps.reqs.get i =
        some { r with flags := r.flags ||| 32 } := by simp [hr]
    have hwait : m.waitReq i = (m.updReq i (fun r => { r with flags := r.flags ||| 32 })).touchReq i := by
      rcases h24 with h | h <;> simp [Module.waitReq, hr, h]
    rw [hwait]
    by_cases h2 : r.state = 2
    · refine ⟨{ r with flags := r.flags ||| 32, touched := true }, ?_, rfl, hbit⟩
      simp [Module.touchReq, h2, hr]
    · exact ⟨{ r with flags := r.flags ||| 32, touched := false }, Module.req_touchReq_outside hupd h2, rfl, hbit⟩

end Sys2Proof.Machine


namespace Sys2Proof.Machine

open Sys2Proof

/-! ### The fabric map (R461) -/

section
variable {m : Module} {f : SessFrame}

/-- A MAP body counts by the fabric key and by what is installed alone. -/
theorem Module.mapValid_congr {n : Module} (b : Bytes) (hk : n.secur.fabricKey = m.secur.fabricKey)
    (hi : n.bell.mapInstalled = m.bell.mapInstalled) (hv : n.bell.mapVersion = m.bell.mapVersion) : n.mapValid b = m.mapValid b := by
  rw [Module.mapValid, Module.mapValid, hk, hi, hv]

theorem Module.mapValid_signed {b : Bytes} (h : m.mapValid b = true) :
    (∃ key, m.secur.fabricKey = some key ∧ Config.edVerify key (b.take (b.length - 64)) (b.drop (b.length - 64)) = true) ∧
    (m.bell.mapInstalled = true → serialLater (u32 b 0) m.bell.mapVersion = true) := by
  simp only [Module.mapValid, Bool.and_eq_true, Bool.or_eq_true, Bool.not_eq_true'] at h
  obtain ⟨⟨-, hsig⟩, hver⟩ := h
  refine ⟨?_, fun hi => hver.resolve_left (by simp [hi])⟩
  cases hk : m.secur.fabricKey with
  | none => simp [hk] at hsig
  | some key => exact ⟨key, rfl, by simpa [hk] using hsig⟩

/-- The module that has counted a MAP frame, released what its ACK covers, and taken its number. -/
def Module.mapTaken (f : SessFrame) (m : Module) : Module :=
  let m1 := (m.bumpBy Reg.BELL.RX_BYTES_COUNT (32 + f.body.length)).sessAcked f.src f.ack
  let x := m1.session f.src
  m1.setSession f.src { x with
    rxOpen := true, rxNext := (f.seq + 1) % 2 ^ 32, down := false, ackOwed := some (x.ackOwed.getD m.clk.mono) }

@[simp] theorem Module.mapTaken_secur : (m.mapTaken f).secur = m.secur := by simp [Module.mapTaken]

theorem Module.mapTaken_bell : ∃ sessions, (m.mapTaken f).bell = { m.bell with sessions := sessions } := by
  obtain ⟨x, hx | hx⟩ := Module.sessAcked_bell f.src f.ack (m.bumpBy Reg.BELL.RX_BYTES_COUNT (32 + f.body.length))
  · exact ⟨_, by simp only [Module.mapTaken, Module.setSession, hx, Module.bumpBy_bell]; rfl⟩
  · exact ⟨_, by simp only [Module.mapTaken, Module.setSession, hx, Module.bumpBy_bell]; rfl⟩

@[simp] theorem Module.mapTaken_mapValid (b : Bytes) : (m.mapTaken f).mapValid b = m.mapValid b := by
  obtain ⟨sessions, hbell⟩ := m.mapTaken_bell (f := f)
  exact Module.mapValid_congr b (by rw [Module.mapTaken_secur]) (by rw [hbell]) (by rw [hbell])

@[simp] theorem Module.mapTaken_delivery : (m.mapTaken f).bell.delivery = m.bell.delivery := by
  obtain ⟨sessions, hbell⟩ := m.mapTaken_bell (f := f)
  rw [hbell]

theorem mapFrame_unknown (h : m.mapSource f = false) : mapFrame f m = m.bump Reg.BELL.RX_UNKNOWN_COUNT := by
  simp [mapFrame, h]

section
variable (hsrc : m.mapSource f = true) (hm : f.magic = 0x4B46) (hv : f.version = 1) (ht : f.type = 10)
  (hl : f.length = f.body.length) (hc : f.check = sessCrc f)
  (hord : m.bell.mapInstalled = false ∨ serialUnordered (u32 f.body 0) m.bell.mapVersion = false)
include hsrc hm hv ht hl hc hord

theorem mapFrame_rejects (h : m.mapValid f.body = false) : mapFrame f m = (m.mapTaken f).rejectMap (u32 f.body 0) f.srcAddr := by
  have hgood : (f.magic != 0x4B46 || f.version != 1 || f.type != 10 || f.length != f.body.length || f.check != sessCrc f) =
      false := by simp [hm, hv, ht, hl, ← hc]
  have hcmp : (m.bell.mapInstalled && serialUnordered (u32 f.body 0) m.bell.mapVersion) = false := by
    rcases hord with h | h <;> simp [h]
  unfold mapFrame
  simp only [hsrc, hgood, hcmp, h, Bool.not_true, Bool.not_false, Bool.false_eq_true, if_false, if_true]
  rfl

/-- The only part of a delivery installs the map. -/
theorem mapFrame_installs (h : m.mapValid f.body = true) (hd : m.bell.delivery = none) (hparts : u16 f.body 6 = 1) :
    mapFrame f m = (m.mapTaken f).installMap ⟨u32 f.body 0, 1, m.clk.mono,
      [(0, (List.range ((f.body.length - 72) / 32)).map (fun i => MapEntry.ofBytes (slice f.body (8 + 32 * i) 32)))]⟩ := by
  have hgood : (f.magic != 0x4B46 || f.version != 1 || f.type != 10 || f.length != f.body.length || f.check != sessCrc f) =
      false := by simp [hm, hv, ht, hl, ← hc]
  have hcmp : (m.bell.mapInstalled && serialUnordered (u32 f.body 0) m.bell.mapVersion) = false := by
    rcases hord with h | h <;> simp [h]
  have hpart : u16 f.body 4 = 0 := by
    have hlt : u16 f.body 4 < u16 f.body 6 := by
      simp only [Module.mapValid, Bool.and_eq_true, decide_eq_true_eq] at h
      obtain ⟨⟨⟨-, hlt⟩, -⟩, -⟩ := h
      exact hlt
    omega
  unfold mapFrame
  simp only [hsrc, hgood, hcmp, h, hd, hparts, hpart, Bool.not_true, Bool.false_eq_true, if_false]
  rfl

end

end

/-- Every entry of a table filled from a list is of the list. -/
theorem mem_foldl_put {es : List MapEntry} {t : KMap MapEntry} {e : MapEntry}
    (h : e ∈ (es.foldl (fun (t : KMap MapEntry) x => t.put x.endpoint x) t).vals) : e ∈ es ∨ e ∈ t.vals := by
  induction es generalizing t with
  | nil => exact .inr h
  | cons x xs ih =>
    rcases ih h with hx | hx
    · exact .inl (List.mem_cons_of_mem _ hx)
    · obtain ⟨c, hc, rfl⟩ := List.mem_map.1 hx
      rcases KMap.put_mem hc with rfl | hold
      · exact .inl List.mem_cons_self
      · exact .inr (List.mem_map_of_mem hold)

/-- An installed map shows the entries of its delivery that have an ID, and no delivery is open. -/
theorem Module.installMap_shows (m : Module) (v t : Nat) (es : List MapEntry) :
    (m.installMap ⟨v, 1, t, [(0, es)]⟩).bell.mapVersion = v ∧ (m.installMap ⟨v, 1, t, [(0, es)]⟩).bell.delivery = none ∧
      ∀ e ∈ (m.installMap ⟨v, 1, t, [(0, es)]⟩).bell.map.vals, e ∈ es ∧ e.endpoint ≠ 0 := by
  simp only [Module.installMap, Module.markRegistered, Module.set_bell]
  refine ⟨trivial, trivial, fun e he => ?_⟩
  rcases mem_foldl_put he with h | h
  · simpa [KMap.vals] using h
  · exact absurd h (by simp [KMap.vals])

/-- An incomplete delivery falls due a second after it began. -/
theorem exec_mapDeliveryTimeout (s : State) : exec .mapDeliveryTimeout s =
    runAt (fun m => (m.bell.delivery.map (fun d => d.started + sec 1)).getD 0) mapTimeout s := rfl

/-! ### REGISTER (R462) -/

/-- When the next REGISTER leaves. -/
def registerDue (m : Module) : Nat :=
  if m.namedEndpoints.all m.shown then 0 else ((m.bell.lastRegister).map (· + ms 100)).getD 0

theorem exec_registerFrameDue (s : State) : exec .registerFrameDue s = runAt registerDue registerFrame s := rfl

/-- What the map shows of the named endpoints stands while time passes. -/
@[simp] theorem Module.advanceTo_allShown (due : Nat) (m : Module) :
    (m.advanceTo due).namedEndpoints.all (m.advanceTo due).shown = m.namedEndpoints.all m.shown := by
  unfold Module.advanceTo
  split <;> rfl

theorem registerFrame_shown {m : Module} (h : m.namedEndpoints.all m.shown = true) : registerFrame m = m := by
  simp only [registerFrame, h, if_true]

theorem registerFrame_sends {m : Module} (h : m.namedEndpoints.all m.shown = false) (hi : m.bell.mapInstalled = false) :
    registerFrame m =
      (let m1 := m.sessPut (m.get Reg.BELL.FM_ADDR_ENDPOINT % 2 ^ 32) 0 16 9 capNone m.registerBody
       { m1 with bell := { m1.bell with lastRegister := some m.clk.mono } }) := by
  simp only [registerFrame, h, hi, Bool.false_and, Bool.false_eq_true, if_false]

end Sys2Proof.Machine


namespace Sys2Proof.Machine

open Sys2Proof

/-! ### The rows of session frames (R467) -/

/-- A row that does what the checks at the module's edge leave of a frame that they drop. -/
def DropsAtEdge (type : Nat) (i : SessFrame → Instr) : Prop :=
  ∀ (s : State) (f : SessFrame) (m1 : Module), s.m.live = true → s.m.ingress type (trimFrame f) = (m1, false) → Does (i f) s m1

/-- A row that takes a frame under its number and then does what ap says. -/
def TakesFrames (type : Nat) (i : SessFrame → Instr) (ap : Nat → SessFrame → Module → Module) : Prop :=
  (∀ f s, exec (i f) s = run (sessFrame type (trimFrame f)) s) ∧ ∀ k f m, f.type = type → Module.applySess k f m = ap k f m

theorem takesFrames_rows : ∀ p ∈ ([(1, .sessAdmit, Module.applyAdmit), (2, .sessAppend, Module.applyAppend),
    (3, .sessEnd, Module.applyEnd), (4, .sessAttach, Module.applyAttach)] :
      List (Nat × (SessFrame → Instr) × (Nat → SessFrame → Module → Module))), TakesFrames p.1 p.2.1 p.2.2 := by
  simp only [List.forall_mem_cons, List.not_mem_nil, false_implies, implies_true, and_true]
  refine ⟨⟨fun _ _ => rfl, fun k f m h => ?_⟩, ⟨fun _ _ => rfl, fun k f m h => ?_⟩, ⟨fun _ _ => rfl, fun k f m h => ?_⟩,
    ⟨fun _ _ => rfl, fun k f m h => ?_⟩⟩ <;> simp [Module.applySess, h]

section
variable {type : Nat} {i : SessFrame → Instr} {ap : Nat → SessFrame → Module → Module} (hrow : TakesFrames type i ap)
include hrow

theorem TakesFrames.drops : DropsAtEdge type i := fun s f m1 hs hin =>
  does_run (hrow.1 f s) hs (by rw [sessFrame, hin])

variable {s : State} {f0 f : SessFrame} {m1 : Module} (hs : s.m.live = true) (hf : f = trimFrame f0)
  (hin : s.m.ingress type f = (m1, true))
include hs hf hin

theorem TakesFrames.unknown (hk : m1.sessionOf f = none) : Does (i f0) s (m1.bump Reg.BELL.RX_UNKNOWN_COUNT) :=
  does_run (hrow.1 f0 s) hs (by rw [← hf, sessFrame, hin]; simp [hk])

/-- What a row makes of a frame of session k is what the session makes of it. -/
theorem TakesFrames.takes {k : Nat} {n : Module} (hk : m1.sessionOf f = some k) (hn : m1.takeFrame k f = n) : Does (i f0) s n :=
  does_run (hrow.1 f0 s) hs (by rw [← hf, sessFrame, hin]; simp [hk, hn])

/-- The frames of a session in the order of their numbers (R468). -/
theorem TakesFrames.inOrder {k : Nat} {x : Session} (hseq : f.seq < 2 ^ 32) (hk : m1.sessionOf f = some k) (hflags : f.flags % 2 = 0)
    (hopen : (m1.session k).rxOpen = true) (hx : x = m1.session k) :
    (f.seq = x.rxNext → x.ahead = [] → m1.sessBlocked f = false →
      (let m2 := { m1 with mirror := { m1.mirror with held := m1.mirror.held.filter (fun h => h.cmd != sessHeldId k) } }
       let m3 := m2.setSession k { x with rxNext := (f.seq + 1) % 2 ^ 32, ackOwed := some (x.ackOwed.getD s.m.clk.mono) }
       Does (i f0) s ((ap k f m3).drainSess k 65 false))) ∧
    (serialLater f.seq x.rxNext = true → x.ahead.length < 64 → (∀ g ∈ x.ahead, g.seq ≠ f.seq ∧ g.seq ≠ x.rxNext) →
      Does (i f0) s (m1.setSession k { x with ahead := x.ahead ++ [f], ackOwed := some (x.ackOwed.getD s.m.clk.mono) })) ∧
    (serialLater x.rxNext f.seq = true → x.rxNext < 2 ^ 32 → ∃ t, exec (i f0) s = .next t ∧ t.m.steps = m1.steps ∧
      t.m.caps = m1.caps ∧ t.m.account = m1.account) := by
  obtain ⟨htype, hclk⟩ := Module.ingress_admits hin
  subst hx
  rw [← hclk]
  refine ⟨fun hnext hahead hblock => ?_, fun hlater hroom hnew => ?_, fun hlater hnext => ?_⟩
  · refine hrow.takes hs hf hin hk ((Module.takeFrame_next hflags hopen hnext hahead hblock).trans ?_)
    rw [hrow.2 k f _ htype]
  · exact hrow.takes hs hf hin hk (Module.takeFrame_held hflags hopen hlater hroom hnew)
  · have htake := Module.takeFrame_repeat hflags hopen hlater hseq hnext
    have hdoes := hrow.takes hs hf hin hk htake
    obtain ⟨hsteps, hcaps⟩ := Module.replyAgain_keeps (k := k) f.seq m1
    refine ⟨_, hdoes, hsteps, hcaps, ?_⟩
    funext a
    exact congrArg (fun st : StepSt => ({ m1 with steps := st } : Module).account a) hsteps

end

theorem dropsAtEdge_rows : ∀ p ∈ ([(1, .sessAdmit), (2, .sessAppend), (3, .sessEnd), (4, .sessAttach), (7, .sessAck)] :
    List (Nat × (SessFrame → Instr))), DropsAtEdge p.1 p.2 := by
  have hrows := takesFrames_rows
  simp only [List.forall_mem_cons, List.not_mem_nil, false_implies, implies_true, and_true] at hrows ⊢
  obtain ⟨hadmit, happend, hend, hattach⟩ := hrows
  exact ⟨hadmit.drops, happend.drops, hend.drops, hattach.drops, fun s f m1 hs hin =>
    does_run rfl hs (f := sessAckFrame (trimFrame f)) (by rw [sessAckFrame, hin])⟩

/-- Settles O55: a frame that fails its checks is counted and no more; one that passes is taken under its number. Which retained frame
is repeated is assumption 88, the frame of a source that is no FRONT_END 91, the capsule of a frame 93, and the order of the parts
of a map 94. -/
theorem sessionsAreServedInOrder : Obligations.SessionsAreServedInOrder := by
  unfold Obligations.SessionsAreServedInOrder
  refine ⟨?_, ?_, ?_, ?_, ?_, ?_, ?_, ?_, ?_, ?_, ?_, ?_, ?_, ?_, ?_⟩
  · intro p hp s f hs
    have hdrops := dropsAtEdge_rows p hp
    refine ⟨fun hun => hdrops s f _ hs (Module.ingress_unknown hun), fun hmap hbad => ?_⟩
    refine hdrops s f _ hs (Module.ingress_malformed hmap ?_)
    have hlen : (trimFrame f).length ≠ (trimFrame f).body.length ↔ f.body.length < f.length := by
      simp only [trimFrame, List.length_take]
      omega
    rw [hlen]
    exact hbad
  · rintro m f type hmap hm hv ht hl hc hp ho hd hs
    have hsess : (m.bumpBy Reg.BELL.RX_BYTES_COUNT (32 + f.body.length)).session f.src = m.session f.src :=
      ((Module.OnlyRegs.refl m).bumpBy _ _).same (·.session f.src)
    dsimp only
    rw [hsess]
    exact Module.ingress_passes hmap hm hv ht hl hc hp ho hd hs
  · exact fun s f m1 hs hin => does_run rfl hs (f := sessAckFrame (trimFrame f)) (by rw [sessAckFrame, hin])
  · intro p hp s f0 f m1 k hs hf hin hseq
    have hrow := takesFrames_rows p hp
    exact ⟨fun hk => hrow.unknown hs hf hin hk, fun hk hflags hopen x hx => hrow.inOrder hs hf hin hseq hk hflags hopen hx⟩
  · exact fun m k n force h => Module.drainSess_waits n force h
  · rintro m k i f r hi hid hr
    refine ⟨fun hp => ⟨fun hn => Module.applyAppend_other hi hid hr hn hp, fun hn =>
      ⟨Module.applyEnd_other hi hid hr hn hp, Module.applyAttach_other hi hid hr hn hp⟩⟩, fun hp hn =>
      ⟨Module.applyAttach_own hi hid hr hn hp, fun hlive hfence => Module.applyEnd_own hi hid hr hlive hfence hn hp,
        fun x hn8 hkind hz hlen hlive hfence hx hok hfit =>
          Module.applyAppend_own hi hid hr hlive hfence hn8 hp hkind hz hlen hx hok hfit⟩⟩
  · rintro m k f a b inp hb hlen hinp ha hz1 hz2 hid hp hfl hkind hmodel hret haddr hin hmax hwhole htok hfront
    have hadmit := Module.applyAdmit_checked hb hlen hinp ha hz1 hz2 hid hp hfl hkind hmodel hret haddr hin hmax hwhole htok hfront
    exact ⟨fun hnone => hadmit.trans (by rw [hnone, Module.admitOutcome]), fun v hv => hadmit.trans (by rw [hv, Module.admitOutcome])⟩
  · exact fun m dst own q type cap body h7 h8 => m.sessPut_retains dst own q type cap body h7 h8
  · rintro s k e x hs hx he
    refine ⟨fun r hr hd => ?_, fun t ht => ?_, fun r rs hr hd hfail => ?_⟩
    · refine doesAt_runAt rfl hs ?_ (retransmit_repeats (by simpa using hx) (by simpa using he) hr hd)
      rw [retransmitDue, ← hx, hr, Option.map_some, Option.getD_some]
    · refine doesAt_runAt (exec_sessionAckTimer s) hs ?_ (ackTimer_acks (t := t) (by simpa [hx] using ht))
      rw [← hx, ht]
      rfl
    · obtain ⟨hfails, hdown⟩ := endpointDown_fails hx he hr hd hfail
      have hdue : endpointDue k s.m = 0 := by rw [endpointDue, hfails, if_pos rfl]
      have hat := doesAt_runAt (i := .endpointDown k) (h := endpointDown k) rfl hs hdue rfl
      rw [DoesAt, Module.advanceTo_past (Nat.zero_le _), hdown] at hat
      exact hat
  · exact fun l r h => firstDue_least h
  · exact fun m i r hr _ => Module.waitReq_waits hr
  · rintro s f b m2 hs hl rfl
    have hbody : f.body.take f.length = f.body := by rw [hl, List.take_length]
    have htrim : trimFrame f = f := congrArg (fun b => { f with body := b }) hbody
    have hexec : exec (.fabricMap f) s = run (mapFrame f) s := congrArg (fun g => run (mapFrame g) s) htrim
    refine ⟨fun hsrc => does_run hexec hs (mapFrame_unknown hsrc), fun hsrc hm hv ht hc hm2 hord => ?_⟩
    obtain rfl : m2 = s.m.mapTaken f := hm2
    rw [Module.mapTaken_mapValid, Module.mapTaken_delivery]
    refine ⟨fun h => does_run hexec hs (mapFrame_rejects hsrc hm hv ht hl hc hord h), fun h hd hparts => ?_⟩
    exact ⟨does_run hexec hs (mapFrame_installs hsrc hm hv ht hl hc hord h hd hparts), Module.installMap_shows _ _ _ _⟩
  · exact fun m b h => Module.mapValid_signed h
  · rintro s d hs hd
    refine doesAt_runAt (exec_mapDeliveryTimeout s) hs ?_ rfl
    rw [hd]
    rfl
  · intro s hs
    refine ⟨fun hall => ?_, fun hall hi => ?_⟩
    · have hdue : registerDue s.m = 0 := by rw [registerDue, hall, if_pos rfl]
      have hat := doesAt_runAt (h := registerFrame) (exec_registerFrameDue s) hs hdue rfl
      rw [DoesAt, Module.advanceTo_past (Nat.zero_le _), registerFrame_shown hall] at hat
      exact hat
    · refine doesAt_runAt (exec_registerFrameDue s) hs ?_ ?_
      · rw [registerDue, hall]
        rfl
      · rw [registerFrame_sends (by simpa using hall) (by simpa using hi), Module.advanceTo_get]

end Sys2Proof.Machine


namespace Sys2Proof.Machine

open Sys2Proof

/-! ### What a completion leaves alone (R443, R371) -/

/-- The threads by their jobs. -/
def StrandSt.places (s : StrandSt) : List (Nat × Nat) := s.threads.map (fun x => (x.1, x.2.job))

/-- The objects by their partitions. -/
def LigSt.owners (l : LigSt) : List (Nat × Nat) := l.objs.map (fun x => (x.1, x.2.partition))

/-- n is m but for the registers, the memories, the host attachment, the event queue, what has left the module, the objects, the
strands, the attention cores and the list of held writes: all that an answer, a signal or an event may reach. The jobs stand, and so does the job of each
thread; no object is new. -/
structure Module.Answers (m n : Module) : Prop where
  frame : n = { m with
    regs := n.regs, hbm := n.hbm, lpddr := n.lpddr, hostMem := n.hostMem, out := n.out, host := n.host, ev := n.ev, lig := n.lig,
    strand := n.strand, attn := n.attn, mirror := { m.mirror with held := n.mirror.held } }
  jobs : n.strand.jobs = m.strand.jobs
  places : n.strand.places = m.strand.places
  objs : m.lig.objs.wf = true → n.lig.objs.wf = true
  owners : n.lig.owners ⊆ m.lig.owners

/-- An update of a thread that leaves its job leaves the threads' places. -/
theorem StrandSt.places_upd {s : StrandSt} (t : Nat) {f : Thread → Thread} (hf : ∀ th, (f th).job = th.job) :
    (s.threads.upd t f).map (fun x => (x.1, x.2.job)) = s.places := by
  unfold StrandSt.places
  induction s.threads with
  | nil => rfl
  | cons c rest ih =>
    obtain ⟨a, x⟩ := c
    unfold KMap.upd
    split
    · simp [hf]
    · simp [ih]

/-- The object that a handle names stands at its index. -/
theorem Module.get_of_ligFind {m : Module} {obj i : Nat} {o : LigObj} (h : m.ligFind obj = some (i, o)) : m.lig.objs.get i = some o := by
  simp only [Module.ligFind, Option.ite_none_right_eq_some, Option.map_eq_some_iff, Prod.mk.injEq] at h
  obtain ⟨-, x, hx, rfl, rfl⟩ := h
  exact hx

namespace Module.Answers

variable {m n k : Module}

theorem refl (m : Module) : m.Answers m := ⟨rfl, rfl, rfl, id, List.Subset.refl _⟩

theorem trans (h : m.Answers n) (h' : n.Answers k) : m.Answers k :=
  ⟨by rw [h'.frame, h.frame], h'.jobs.trans h.jobs, h'.places.trans h.places, fun hw => h'.objs (h.objs hw),
    fun _ hz => h.owners (h'.owners hz)⟩

theorem of_onlyRegs (h : m.OnlyRegs n) : m.Answers n := by
  rw [Module.OnlyRegs] at h
  rw [h]
  exact ⟨rfl, rfl, rfl, id, List.Subset.refl _⟩

theorem ite {p : Prop} [Decidable p] (h : m.Answers n) (h' : m.Answers k) : m.Answers (if p then n else k) := by
  split
  · exact h
  · exact h'

theorem foldl {α : Type} {f : Module → α → Module} (hf : ∀ (a : Module) x, a.Answers (f a x)) (l : List α) (m : Module) :
    m.Answers (l.foldl f m) := by
  induction l generalizing m with
  | nil => exact refl m
  | cons x xs ih => exact (hf m x).trans (ih _)

/-- What an answer cannot reach is as before. -/
theorem same {α : Type} (h : m.Answers n) (F : Module → α) (hF : ∀ r a b c d e f g i j l, F { m with
    regs := r, hbm := a, lpddr := b, hostMem := c, out := d, host := e, ev := f, lig := g, strand := i, attn := j,
    mirror := { m.mirror with held := l } } = F m := by
      intros; rfl) : F n = F m := by
  rw [h.frame]
  exact hF _ _ _ _ _ _ _ _ _ _ _

theorem set (h : m.Answers n) (f : Fld) (v : Nat) : m.Answers (n.set f v) := h.trans (.of_onlyRegs ((OnlyRegs.refl n).set f v))
theorem setBit (h : m.Answers n) (f : Fld) (i : Nat) : m.Answers (n.setBit f i) := h.trans (.of_onlyRegs ((OnlyRegs.refl n).setBit f i))
theorem bump (h : m.Answers n) (f : Fld) : m.Answers (n.bump f) := h.trans (.of_onlyRegs ((OnlyRegs.refl n).bump f))
theorem bumpBy (h : m.Answers n) (f : Fld) (i : Nat) : m.Answers (n.bumpBy f i) := h.trans (.of_onlyRegs ((OnlyRegs.refl n).bumpBy f i))

/-- A change of the registers, the memories, the host attachment, the event queue, the cores or what has left. -/
theorem outside (h : m.Answers n) {r a b c d e f j} : m.Answers { n with
    regs := r, hbm := a, lpddr := b, hostMem := c, out := d, host := e, ev := f, attn := j } := h.trans ⟨rfl, rfl, rfl, id, List.Subset.refl _⟩

theorem msix (h : m.Answers n) (v : Nat) : m.Answers (n.msix v) := h.trans (.ite ⟨rfl, rfl, rfl, id, List.Subset.refl _⟩ ⟨rfl, rfl, rfl, id, List.Subset.refl _⟩)

theorem blockEvent (h : m.Answers n) (b : Nat) : m.Answers (n.blockEvent b) := by
  refine h.trans ?_
  have hvec : ∀ x, n.Answers (n.setVec (64 + b) x) := fun x => ⟨rfl, rfl, rfl, id, List.Subset.refl _⟩
  unfold Module.blockEvent
  dsimp only
  split
  · exact .ite (hvec _) ((hvec _).msix _)
  · exact (hvec _).msix _

theorem offer (h : m.Answers n) (type part sev : Nat) (body : Bytes) : m.Answers (n.offer type part sev body) := by
  refine h.trans ?_
  unfold Module.offer
  dsimp only
  split
  · exact ⟨rfl, rfl, rfl, id, List.Subset.refl _⟩
  · refine bump ?_ _
    exact ⟨rfl, rfl, rfl, id, List.Subset.refl _⟩
  · exact .ite (bump (refl n) _) (((bump (refl n) _).set _ _).trans ⟨rfl, rfl, rfl, id, List.Subset.refl _⟩)

theorem event (h : m.Answers n) (type part sev arg0 arg1 : Nat) : m.Answers (n.event type part sev arg0 arg1) :=
  h.trans (blockEvent (.ite (offer (refl n) _ _ _ _) (offer (refl n) _ _ _ _)) _)

theorem updThread (h : m.Answers n) (t : Nat) {f : Thread → Thread} (hf : ∀ th, (f th).job = th.job) : m.Answers (n.updThread t f) :=
  h.trans ⟨rfl, rfl, StrandSt.places_upd t hf, id, List.Subset.refl _⟩

/-- An object may be replaced by one of its partition. -/
theorem ligPut (h : m.Answers n) {i : Nat} {q : LigObj} (hq : n.lig.objs.get i = some q) {o : LigObj}
    (hp : q.partition = o.partition) : m.Answers (n.ligPut i o) := by
  refine h.trans ⟨rfl, rfl, rfl, fun hw => KMap.put_wf i o hw, fun z hz => ?_⟩
  obtain ⟨c, hc, rfl⟩ := List.mem_map.mp hz
  rcases KMap.put_mem hc with rfl | hc
  · exact List.mem_map.mpr ⟨(i, q), KMap.mem_of_get hq, by rw [hp]⟩
  · exact List.mem_map_of_mem (f := fun x : Nat × LigObj => (x.1, x.2.partition)) hc

/-! #### Signals (R387) -/

theorem wake (h : m.Answers n) (w : LigWait) (st : Status) (msg : Nat) : m.Answers (n.wake w st msg) := by
  have hjob : ∀ (r : Nat) (v : Word) (th : Thread), (th.setReg r v).job = th.job := by
    intro r v th
    unfold Thread.setReg
    split <;> rfl
  refine h.trans ?_
  unfold Module.wake
  split
  · have hlines : ∀ t, n.Answers (if st == .ok then n.dropLines t else n) := fun t => .ite ⟨rfl, rfl, rfl, id, List.Subset.refl _⟩ (refl n)
    refine updThread (hlines _) _ fun th => ?_
    split
    · dsimp only
      split
      · split <;> simp [hjob]
      · simp [hjob]
    · rfl
  · exact ⟨rfl, rfl, rfl, id, List.Subset.refl _⟩

theorem wakeAll (h : m.Answers n) (ws : List LigWait) (st : Status) (msg : Nat) :
    m.Answers (ws.foldl (fun (a : Module) w => a.wake w st msg) n) := h.trans (foldl (fun a w => wake (refl a) w st msg) ws n)

theorem serveCount_partition (n : Nat) (o : LigObj) (woken : List LigWait) : (serveCount n o woken).1.partition = o.partition := by
  induction n generalizing o woken with
  | zero => rfl
  | succ n ih =>
    unfold serveCount
    split
    · rfl
    · split
      · rfl
      · exact ih _ _

theorem ligSignal (h : m.Answers n) {i : Nat} {o : LigObj} (ho : n.lig.objs.get i = some o) (b : Nat) :
    m.Answers (n.ligSignal i o b).1 := by
  refine h.trans ?_
  unfold Module.ligSignal
  extract_lets n1
  have h1 : n.Answers n1 := bump (refl n) _
  have hput : ∀ x : LigObj, o.partition = x.partition → n.Answers (n1.ligPut i x) := fun x hx =>
    h1.ligPut (q := o) (by rw [← ho]; exact congrArg (fun l : LigSt => l.objs.get i) (Module.bump_lig _ n)) hx
  clear_value n1
  split_ifs
  · exact h1
  · exact (hput _ (serveCount_partition _ { o with value := o.value + b } _).symm).wakeAll _ _ _
  · exact h1
  · refine wakeAll (hput _ ?_) _ _ _
    rfl
  · exact hput _ rfl
  · exact hput _ rfl
  · split
    · exact hput _ rfl
    · refine wake (hput _ ?_) _ _ _
      rfl
  · refine wakeAll (hput _ ?_) _ _ _
    rfl
  · exact h1

theorem engineSignal (h : m.Answers n) (obj block : Nat) : m.Answers (n.engineSignal obj block) := by
  refine h.trans ?_
  unfold Module.engineSignal
  split
  · exact refl n
  · split
    · next i o hfind => exact ligSignal (refl n) (Module.get_of_ligFind hfind) _
    · exact event (set (bump (refl n) _) _ _) _ _ _ _ _

/-! #### Completions (R443, R371) -/

theorem strandWrite (h : m.Answers n) (t a : Nat) (b : Bytes) : m.Answers (n.strandWrite t a b) := by
  refine h.trans ?_
  unfold Module.strandWrite
  split
  · exact updThread (refl n) _ fun _ => rfl
  · exact ⟨rfl, rfl, rfl, id, List.Subset.refl _⟩
  · exact ⟨rfl, rfl, rfl, id, List.Subset.refl _⟩
  · exact ⟨rfl, rfl, rfl, id, List.Subset.refl _⟩
  · exact refl n

theorem finishIssued (h : m.Answers n) (i : Nat) (st : Status) (body : Bytes) : m.Answers (n.finishIssued i st body) := by
  refine h.trans ?_
  unfold Module.finishIssued
  split
  · exact refl n
  · refine engineSignal (strandWrite ?_ _ _ _) _ _
    exact ⟨rfl, rfl, rfl, id, List.Subset.refl _⟩

theorem respond (h : m.Answers n) (b : Nat) (c : RunCmd) (st : Status) (body : Bytes) (d : Nat) :
    m.Answers (n.respond b c st body d) := by
  have hans : n.Answers (n.answer b c st body d) :=
    trans (n := { n with host := { n.host with boxes := n.host.boxes.put b (n.answerBox b c st body d) } }) ⟨rfl, rfl, rfl, id, List.Subset.refl _⟩
      (.of_onlyRegs (n.answer_onlyRegs st body d))
  rw [Module.respond_eq]
  exact h.trans (.ite hans (hans.msix _))

theorem complete (h : m.Answers n) (c : RunCmd) (st : Status) (body : Bytes) (d : Nat) : m.Answers (n.complete c st body d) := by
  have hdrop : n.Answers (n.dropCmd c.id) := ⟨rfl, rfl, rfl, id, List.Subset.refl _⟩
  refine h.trans ?_
  unfold Module.complete
  dsimp only
  split
  · exact hdrop
  · split
    · exact hdrop.respond _ _ _ _ _
    · exact hdrop.finishIssued _ _ _

theorem ok (h : m.Answers n) (c : RunCmd) (body : Bytes) : m.Answers (n.ok c body) := h.complete _ _ _ _

end Module.Answers

end Sys2Proof.Machine


namespace Sys2Proof.Machine

open Sys2Proof

/-! ### The commands of the network ports (R480 to R484) -/

section
variable {m : Module} {c : RunCmd}

/-! #### BELL_PORT_SET and BELL_PORT_STATUS (R480) -/

section
variable {p : Nat} (hp : p = u8 c.payload 0) (hz : allZero c.payload 6 2 = true) (h3 : p ≤ 3) (hsplit : u8 c.payload 1 ≤ 3)
  (hmin : 1500 ≤ u16 c.payload 2) (hmax : u16 c.payload 2 ≤ 9000) (hvlan : bits (u16 c.payload 4) 14 12 = 0)
include hp hz h3 hsplit hmin hmax hvlan

theorem bellPortSetCmd_busy (h : ∃ i < 4, (m.subport (4 * p + i)).nextGates ≠ none) : bellPortSetCmd c m = m.fail c .busy := by
  obtain ⟨i, hi, hg⟩ := h
  have hall : ((List.range 4).map (fun s => 4 * p + s)).all (fun s => (m.subport s).nextGates.isNone) = false := by
    rw [List.all_eq_false]
    exact ⟨4 * p + i, List.mem_map.2 ⟨i, List.mem_range.2 hi, rfl⟩, by simpa using hg⟩
  unfold bellPortSetCmd
  dsimp only
  rw [← hp]
  refine Module.checked_fail (v := stop .busy) (by simpa using hz) ?_
  rw [hall]
  simp [firstFail, h3, hsplit, hmin, hmax, hvlan]

/-- The port's links go down, and the command waits for those that its split uses. -/
theorem bellPortSetCmd_waits (h : ∀ i < 4, (m.subport (4 * p + i)).nextGates = none) : bellPortSetCmd c m =
    (let m1 := { m with bell := { m.bell with ports := m.bell.ports.set p ⟨u8 c.payload 1, u16 c.payload 2, u16 c.payload 4⟩ } }
     let m2 := (List.range 4).foldl (fun (a : Module) i => a.setSubport (4 * p + i)
       { a.subport (4 * p + i) with up := false, lastChange := m.clk.now % 2 ^ 32 }) m1
     m2.await c (p :: ((List.range 4).map (fun i => 4 * p + i)).filter m1.subportUsed)) := by
  have hall : ((List.range 4).map (fun s => 4 * p + s)).all (fun s => (m.subport s).nextGates.isNone) = true := by
    rw [List.all_map, List.all_eq_true]
    exact fun i hi => by simp [h i (List.mem_range.1 hi)]
  unfold bellPortSetCmd
  dsimp only
  rw [← hp, Module.checked_act (by simpa using hz) (by rw [hall]; simp [h3, hsplit, hmin, hmax, hvlan])]
  rfl

end

theorem bellPortStatusCmd_shows {p : Nat} (hp : p = u8 c.payload 0) (hz : allZero c.payload 1 7 = true) (h3 : p ≤ 3) :
    bellPortStatusCmd c m = m.ok c ((List.range 4).flatMap (fun i =>
      let x := m.subport (4 * p + i)
      leBytes 1 (b2n x.up) ++ leBytes 2 (if x.up then m.subportRate (4 * p + i) / 125 else 0) ++ zeros 1 ++
        leBytes 4 x.lastChange)) := by
  unfold bellPortStatusCmd
  dsimp only
  rw [← hp, Module.checked_act (by simpa using hz) (by simp [h3])]

/-! #### BELL_QUEUE_SET and BELL_QUEUE_SAMPLE (R481, R482) -/

/-- The fields of a BELL_QUEUE_SET pass. -/
structure QueueFields (c : RunCmd) (m : Module) (q part bind : Nat) : Prop where
  queue : q = u16 c.payload 0
  partition : part = u8 c.payload 4
  binding : bind = u32 c.payload 8
  reserved : allZero c.payload 6 2 = true ∧ allZero c.payload 0x0C 4 = true
  inTable : q ≤ 4095
  ports : u8 c.payload 2 ≤ 15
  tc : u8 c.payload 3 ≤ 7
  served : part ≤ 7 ∨ part = 0xFF
  fixed : fixedPart q = none ∨ fixedPart q = some part ∧ bind = 0
  weight : 1 ≤ u8 c.payload 5
  rates : u64 c.payload 0x10 ≤ u64 c.payload 0x18
  buckets : 9000 ≤ u32 c.payload 0x20 ∧ 9000 ≤ u32 c.payload 0x24
  mtus : ∀ x ∈ m.bell.ports, x.mtu ≤ 9000

/-- A greatest element of a list of bounded ones is bounded. -/
theorem foldl_max_le {l : List Nat} {a n : Nat} (ha : a ≤ n) (h : ∀ x ∈ l, x ≤ n) : l.foldl Max.max a ≤ n := by
  induction l generalizing a with
  | nil => exact ha
  | cons x xs ih => exact ih (Nat.max_le.2 ⟨ha, h x List.mem_cons_self⟩) fun y hy => h y (List.mem_cons_of_mem _ hy)

/-- A queue takes the fields of a command, its buckets full. -/
def Module.queueSet (c : RunCmd) (q part bind : Nat) (m : Module) : Module :=
  m.setQueue q { m.queue q with
    portMask := u8 c.payload 2, tc := u8 c.payload 3, partition := part, weight := u8 c.payload 5, bind := bind,
    cir := u64 c.payload 0x10, pir := u64 c.payload 0x18, cbs := u32 c.payload 0x20, pbs := u32 c.payload 0x24,
    cLevel := u32 c.payload 0x20, pLevel := u32 c.payload 0x24, filled := m.clk.mono }

section
variable {q part bind : Nat} (h : QueueFields c m q part bind)
include h

/-- After its fields a command is judged by the endpoint that it binds and the queue that this is bound to. -/
theorem bellQueueSetCmd_eq (hknown : bind = 0 ∨ (m.endpoint bind).isSome = true) : bellQueueSetCmd c m =
    if bind == 0 || ((m.endpoint bind).map (fun x => x.partition == part || x.partition == 0xFF)).getD false then
      if bind == 0 || m.bell.queues.all (fun (k, x) => k == q || x.bind != bind) then (m.queueSet c q part bind).ok c []
      else m.fail c .busy
    else m.fail c .denied := by
  obtain ⟨hq, hpart, hbind, ⟨hz, hz'⟩, hin, hports, htc, hserved, hfixed, hweight, hrates, ⟨hcbs, hpbs⟩, hmtus⟩ := h
  have hmtu : ((m.bell.ports.zipIdx.filter (fun (_, i) => bit (u8 c.payload 2) i)).map (fun (p, _) => p.mtu)).foldl Max.max 1500 ≤
      9000 := by
    refine foldl_max_le (by decide) fun x hx => ?_
    obtain ⟨⟨y, i⟩, hy, rfl⟩ := List.mem_map.1 hx
    exact hmtus y (List.fst_mem_of_mem_zipIdx (List.mem_of_mem_filter hy))
  generalize hmax : ((m.bell.ports.zipIdx.filter (fun (_, i) => bit (u8 c.payload 2) i)).map (fun (p, _) => p.mtu)).foldl Max.max 1500 =
    mtu at hmtu
  have hfix : ((fixedPart q).isNone || fixedPart q == some part) = true ∧ ((fixedPart q).isNone || bind == 0) = true := by
    rcases hfixed with hf | ⟨hf, hb⟩
    · simp [hf]
    · simp [hf, hb]
  unfold bellQueueSetCmd
  dsimp only
  rw [← hq, ← hpart, ← hbind, hmax, Module.checked_reserved (by simpa using ⟨hz, hz'⟩), Module.checked_pass (by simpa using hin),
    Module.checked_pass (by simpa using hports), Module.checked_pass (by simpa using htc), Module.checked_pass (by simpa using hserved),
    Module.checked_pass hfix.1, Module.checked_pass (by simpa using hweight), Module.checked_pass hfix.2,
    Module.checked_pass (by simpa using hknown), Module.checked_pass (by simp [hrates]),
    Module.checked_pass (by simp only [Bool.or_eq_true, decide_eq_true_eq]; omega),
    Module.checked_pass (by simp only [Bool.or_eq_true, decide_eq_true_eq]; omega), Module.checked_cons, Module.checked_cons,
    Module.checked_nil]
  rfl

theorem bellQueueSetCmd_denied {e : MapEntry} (hb : bind ≠ 0) (he : m.endpoint bind = some e) (hp : e.partition ≠ part)
    (hall : e.partition ≠ 0xFF) : bellQueueSetCmd c m = m.fail c .denied := by
  rw [bellQueueSetCmd_eq h (.inr (by rw [he]; rfl)), if_neg (by simp [hb, he, hp, hall])]

theorem bellQueueSetCmd_busy {e : MapEntry} {k : Nat} {x : EgressQueue} (hb : bind ≠ 0) (he : m.endpoint bind = some e)
    (hp : e.partition = part ∨ e.partition = 0xFF) (hx : (k, x) ∈ m.bell.queues) (hk : k ≠ q) (hxb : x.bind = bind) :
    bellQueueSetCmd c m = m.fail c .busy := by
  have hbound : m.bell.queues.all (fun (k, x) => k == q || x.bind != bind) = false := by
    rw [List.all_eq_false]
    exact ⟨(k, x), hx, by simp [hk, hxb]⟩
  rw [bellQueueSetCmd_eq h (.inr (by rw [he]; rfl)), if_pos (by simpa [hb, he] using hp), hbound, if_neg (by simp [hb])]

theorem bellQueueSetCmd_sets (hb : bind = 0 ∨ ((∃ e, m.endpoint bind = some e ∧ (e.partition = part ∨ e.partition = 0xFF)) ∧
    ∀ y ∈ m.bell.queues, y.1 = q ∨ y.2.bind ≠ bind)) : bellQueueSetCmd c m = (m.queueSet c q part bind).ok c [] := by
  rcases hb with hb | ⟨⟨e, he, hp⟩, hfree⟩
  · rw [bellQueueSetCmd_eq h (.inl hb), if_pos (by simp [hb]), if_pos (by simp [hb])]
  · have hbound : m.bell.queues.all (fun (k, x) => k == q || x.bind != bind) = true := by
      rw [List.all_eq_true]
      exact fun y hy => by simpa using hfree y hy
    rw [bellQueueSetCmd_eq h (.inr (by rw [he]; rfl)), if_pos (by simp [he, hp]), if_pos (by simp [hbound])]

end

theorem bellQueueSampleCmd_samples {q : Nat} (hq : q = u16 c.payload 0) (hin : q ≤ 4095) (hz : allZero c.payload 2 6 = true) :
    bellQueueSampleCmd c m = (m.setQueue q { m.queue q with depthMax := 0, delayMax := 0 }).ok c
      (leBytes 4 (m.queue q).depthNow ++ leBytes 4 (m.queue q).depthMax ++ leBytes 4 (m.queue q).delayNow ++
        leBytes 4 (m.queue q).delayMax ++ leBytes 8 (m.queue q).framesSent) := by
  unfold bellQueueSampleCmd
  dsimp only
  rw [← hq, Module.checked_act (by simpa using hz) (by simpa using hin)]

/-! #### BELL_POLICER_SET (R483) -/

/-- The policer that a command describes, its buckets full. -/
def policerOf (c : RunCmd) (e : Nat) (m : Module) : Policer :=
  ⟨e, u8 c.payload 2 == 1, u64 c.payload 8, u64 c.payload 0x10, u32 c.payload 0x18, u32 c.payload 0x1C, u32 c.payload 0x18,
    u32 c.payload 0x1C, m.clk.mono, 0⟩

section
variable {k e : Nat} (hk : k = u16 c.payload 0) (he : e = u32 c.payload 4) (hin : k ≤ 1023) (hdrop : u8 c.payload 2 ≤ 1)
  (hz : allZero c.payload 3 1 = true) (hrates : u64 c.payload 8 ≤ u64 c.payload 0x10)
include hk he hin hdrop hz hrates

theorem bellPolicerSetCmd_eq (hkind : e = 0 ∨ ∃ x, m.endpoint e = some x ∧ x.kind = 1) : bellPolicerSetCmd c m =
    if e == 0 || m.bell.policers.all (fun (i, x) => i == k || x.endpoint != e) then
      ({ m with bell := { m.bell with policers := if e == 0 then m.bell.policers.del k else m.bell.policers.put k (policerOf c e m) } } : Module).ok c []
    else m.fail c .busy := by
  have hend : (e == 0 || ((m.endpoint e).map (fun x => x.kind == 1)).getD false) = true := by
    rcases hkind with h0 | ⟨x, hx, hx1⟩
    · simp [h0]
    · simp [hx, hx1]
  unfold bellPolicerSetCmd
  dsimp only
  rw [← hk, ← he, Module.checked_reserved (by simpa using hz), Module.checked_pass (by simpa using hin),
    Module.checked_pass (by simpa using hdrop), Module.checked_pass hend, Module.checked_pass (by simp [hrates]), Module.checked_cons,
    Module.checked_nil]
  rfl

theorem bellPolicerSetCmd_unbinds (h0 : e = 0) : bellPolicerSetCmd c m =
    ({ m with bell := { m.bell with policers := m.bell.policers.del k } } : Module).ok c [] := by
  rw [bellPolicerSetCmd_eq hk he hin hdrop hz hrates (.inl h0)]
  simp [h0]

variable {x : MapEntry} (h0 : e ≠ 0) (hx : m.endpoint e = some x) (hkind : x.kind = 1)
include h0 hx hkind

theorem bellPolicerSetCmd_busy (hother : ∃ y ∈ m.bell.policers, y.1 ≠ k ∧ y.2.endpoint = e) :
    bellPolicerSetCmd c m = m.fail c .busy := by
  obtain ⟨y, hy, hyk, hye⟩ := hother
  have hbound : m.bell.policers.all (fun (i, x) => i == k || x.endpoint != e) = false := by
    rw [List.all_eq_false]
    exact ⟨y, hy, by simp [hyk, hye]⟩
  rw [bellPolicerSetCmd_eq hk he hin hdrop hz hrates (.inr ⟨x, hx, hkind⟩), hbound, if_neg (by simp [h0])]

theorem bellPolicerSetCmd_sets (hfree : ∀ y ∈ m.bell.policers, y.1 = k ∨ y.2.endpoint ≠ e) : bellPolicerSetCmd c m =
    ({ m with bell := { m.bell with policers := m.bell.policers.put k (policerOf c e m) } } : Module).ok c [] := by
  have hbound : m.bell.policers.all (fun (i, x) => i == k || x.endpoint != e) = true := by
    rw [List.all_eq_true]
    exact fun y hy => by simpa using hfree y hy
  rw [bellPolicerSetCmd_eq hk he hin hdrop hz hrates (.inr ⟨x, hx, hkind⟩), hbound, if_pos (by simp), if_neg (by simp [h0])]

end

/-! #### BELL_GATE_LOAD and BELL_ENDPOINT_QUERY (R484) -/

section
variable {sp n addr : Nat} (hs : sp = u8 c.payload 0) (hn : n = u16 c.payload 2) (ha : addr = u64 c.payload 0x10)
  (hz : allZero c.payload 1 1 = true) (hz' : allZero c.payload 4 4 = true) (h15 : sp ≤ 15) (h1 : 1 ≤ n) (h256 : n ≤ 256)
include hs hn hz hz' h15 h1 h256

theorem bellGateLoadCmd_busy (h : (m.subport sp).nextGates ≠ none) : bellGateLoadCmd c m = m.fail c .busy := by
  have hnone : (m.subport sp).nextGates.isNone = false := by simpa [Option.isSome_iff_ne_none] using h
  unfold bellGateLoadCmd
  dsimp only
  rw [← hs, ← hn]
  refine Module.checked_fail (v := stop .busy) (by simpa using ⟨hz, hz'⟩) ?_
  simp [firstFail, h15, h1, h256, hnone]

include ha

theorem bellGateLoadCmd_waits {es : List Bytes} (h : (m.subport sp).nextGates = none) (hup : m.host.linkUp = true)
    (hd : m.host.d3hot = false) (hes : es = (List.range n).map (fun i => m.cmdRead c (addr + 8 * i) 8))
    (hok : ∀ e ∈ es, allZero e 1 3 = true ∧ 100 ≤ u32 e 4 ∧ u32 e 4 ≤ 1000000000) : bellGateLoadCmd c m =
      (m.setSubport sp { m.subport sp with
        nextGates := some ⟨u64 c.payload 8, es.map (fun e => (u8 e 0, u32 e 4))⟩ }).await c [sp] := by
  have hany : es.any (fun e => !allZero e 1 3 || decide (u32 e 4 < 100) || decide (1000000000 < u32 e 4)) = false := by
    rw [List.any_eq_false]
    intro e he
    obtain ⟨h3, hmin, hmax⟩ := hok e he
    simp [h3, hmin, hmax]
  unfold bellGateLoadCmd
  dsimp only
  rw [← hs, ← hn, ← ha, Module.checked_act (by simpa using ⟨hz, hz'⟩) (by simp [h15, h1, h256, h]), Module.withHost_up hup hd, ← hes,
    hany]
  rfl

end

section
variable {e : Nat} (he : e = u32 c.payload 0) (hz : allZero c.payload 4 4 = true)
include he hz

theorem bellEndpointQueryCmd_exhausted (h : m.endpoint e = none) : bellEndpointQueryCmd c m = m.fail c .exhausted := by
  unfold bellEndpointQueryCmd
  rw [Module.checked_act (by simpa using hz) (by simp), ← he]
  simp [h]

theorem bellEndpointQueryCmd_shows {x : MapEntry} (h : m.endpoint e = some x) : bellEndpointQueryCmd c m =
    m.ok c (mapBytes x ++ leBytes 4 m.bell.mapVersion) := by
  unfold bellEndpointQueryCmd
  rw [Module.checked_act (by simpa using hz) (by simp), ← he]
  simp [h]

end

end

end Sys2Proof.Machine


namespace Sys2Proof.Machine

open Sys2Proof

/-! ### Sub-ports (R458, R459) -/

section
variable {m n : Module} {s : Nat}

/-- A sub-port that the module has takes what is put there. -/
theorem Module.subport_setSubport_same (x : SubPort) (h : s < m.bell.subports.length) : (m.setSubport s x).subport s = x := by
  simp [Module.subport, Module.setSubport, nthD, h]

theorem Module.setSubport_setSubport (x y : SubPort) (m : Module) : (m.setSubport s x).setSubport s y = m.setSubport s y := by
  simp [Module.setSubport]

theorem Module.subport_congr (h : n.bell.subports = m.bell.subports) : n.subport s = m.subport s := by
  rw [Module.subport, h, Module.subport]

/-! #### Links (R471, R480) -/

/-- Sub-port s has changed, and REGISTER leaves anew. -/
def Module.linkChanged (s : Nat) (up : Bool) (m : Module) : Module :=
  let m1 := m.setSubport s { m.subport s with up := up && m.subportUsed s, lastChange := m.clk.now % 2 ^ 32 }
  { m1 with bell := { m1.bell with lastRegister := none } }

theorem subportChange_alone {up : Bool} (h : m.waitingCmds 0x1000 (fun c => (c.data.drop 1).contains s) = []) :
    subportChange s up m = m.linkChanged s up := by
  have hw : (m.linkChanged s up).waitingCmds 0x1000 (fun c => (c.data.drop 1).contains s) = [] := h
  unfold subportChange
  exact (congrArg (fun l => List.foldl _ (m.linkChanged s up) l) hw).trans rfl

/-- The last sub-port that a BELL_PORT_SET waits for completes it. -/
theorem subportChange_completes {up : Bool} {c : RunCmd} (h : m.waitingCmds 0x1000 (fun c => (c.data.drop 1).contains s) = [c])
    (hlast : ∀ i ∈ c.data.drop 1, i = s) : subportChange s up m = (m.linkChanged s up).ok c [] := by
  have hw : (m.linkChanged s up).waitingCmds 0x1000 (fun c => (c.data.drop 1).contains s) = [c] := h
  have hleft : ((c.data.drop 1).filter (· != s)).isEmpty = true := by
    rw [List.isEmpty_iff, List.filter_eq_nil_iff]
    exact fun i hi => by simp [hlast i hi]
  unfold subportChange
  refine (congrArg (fun l => List.foldl _ (m.linkChanged s up) l) hw).trans ?_
  rw [List.foldl_cons, List.foldl_nil, if_pos hleft]

end

/-! #### Priority flow control (R459) -/

/-- One class is paused or resumed where the mask names it. -/
def pauseClass (mask pause a i : Nat) : Nat :=
  if bit mask i then (if bit pause i then a ||| 2 ^ i else a - (if bit a i then 2 ^ i else 0)) else a

theorem bit_eq_testBit (n i : Nat) : bit n i = n.testBit i := by
  rw [Nat.testBit_eq_decide_div_mod_eq, bit]
  exact Bool.beq_eq_decide_eq _ _

/-- A set bit taken away leaves the others. -/
theorem testBit_sub_two_pow {a i : Nat} (h : a.testBit i = true) (j : Nat) :
    (a - 2 ^ i).testBit j = (a.testBit j && !decide (j = i)) := by
  obtain ⟨x, rfl⟩ := Nat.exists_eq_add_of_le (Nat.ge_two_pow_of_testBit h)
  rw [Nat.add_sub_cancel_left]
  have hx : x.testBit i = false := by simpa [Nat.testBit_two_pow_add_eq] using h
  rcases Nat.lt_trichotomy j i with hlt | rfl | hgt
  · simp [Nat.testBit_two_pow_add_gt hlt, Nat.ne_of_lt hlt]
  · simp [hx]
  · have hquot : (2 ^ i + x) / 2 ^ (i + 1) = x / 2 ^ (i + 1) := by
      have heven : x / 2 ^ i % 2 = 0 := by
        rw [Nat.testBit_eq_decide_div_mod_eq, decide_eq_false_iff_not] at hx
        omega
      rw [Nat.pow_succ, ← Nat.div_div_eq_div_mul, ← Nat.div_div_eq_div_mul, Nat.add_div_left _ (Nat.two_pow_pos i)]
      omega
    obtain ⟨d, rfl⟩ := Nat.exists_eq_add_of_lt hgt
    have hshift : ∀ y : Nat, y.testBit (i + d + 1) = (y / 2 ^ (i + 1)).testBit d := fun y => by
      rw [Nat.testBit_div_two_pow]
      congr 1
      omega
    rw [hshift, hshift, hquot]
    simp
    omega

/-- A pause or a resumption decides its own class and leaves the others. -/
theorem bit_pauseClass (mask pause a i j : Nat) : bit (pauseClass mask pause a i) j =
    if j = i ∧ bit mask i = true then bit pause i else bit a j := by
  unfold pauseClass
  by_cases hm : bit mask i = true
  · by_cases hj : j = i
    · subst hj
      by_cases hp : bit pause j = true
      · simp [hm, hp, bit_eq_testBit, Nat.testBit_or, Nat.testBit_two_pow_self]
      · by_cases ha : a.testBit j = true
        · simp [hm, hp, bit_eq_testBit, ha, testBit_sub_two_pow ha]
        · simp [hm, hp, bit_eq_testBit, ha]
    · by_cases hp : bit pause i = true
      · simp [hm, hp, hj, bit_eq_testBit, Nat.testBit_or, Ne.symm hj]
      · by_cases ha : a.testBit i = true
        · simp [hm, hp, hj, bit_eq_testBit, ha, testBit_sub_two_pow ha]
        · simp [hm, hp, hj, bit_eq_testBit, ha]
  · simp [hm]

theorem bit_foldl_pauseClass (mask pause : Nat) (l : List Nat) (a j : Nat) : bit (l.foldl (pauseClass mask pause) a) j =
    if j ∈ l ∧ bit mask j = true then bit pause j else bit a j := by
  induction l generalizing a with
  | nil => simp
  | cons i l ih =>
    rw [List.foldl_cons, ih, bit_pauseClass]
    by_cases hj : j = i
    · subst hj
      by_cases hm : bit mask j = true <;> simp [hm]
    · simp [hj]

/-- The classes that a frame names and BELL.PFC lists are paused or resumed; the others stand. -/
theorem flowControl_pauses (m : Module) (s classes pause : Nat) :
    ∃ n, flowControl s classes pause m = m.setSubport s { m.subport s with paused := n } ∧
      ∀ i < 8, bit n i = (if bit classes i = true ∧ bit (m.get Reg.BELL.PFC_CLASSES) i = true then bit pause i
        else bit (m.subport s).paused i) := by
  refine ⟨(List.range 8).foldl (pauseClass (classes &&& m.get Reg.BELL.PFC_CLASSES) pause) (m.subport s).paused, rfl, fun i hi => ?_⟩
  have hmask : bit (classes &&& m.get Reg.BELL.PFC_CLASSES) i = (bit classes i && bit (m.get Reg.BELL.PFC_CLASSES) i) := by
    simp [bit_eq_testBit]
  rw [bit_foldl_pauseClass, hmask]
  simp [hi]

/-! #### Samples (R474) -/

theorem queueSample_samples (m : Module) : queueSample m = { m with bell := { m.bell with
    lastSample := m.clk.mono,
    queues := m.bell.queues.mapV (fun _ x =>
      if m.mute x.partition then { x with depthNow := 0, depthMax := 0, delayNow := 0, delayMax := 0 }
      else
        let w := (x.frames.head?.map (fun f => m.clk.mono - f.since)).getD 0
        { x with depthNow := x.depth, depthMax := Max.max x.depthMax x.depth, delayNow := w,
                 delayMax := Max.max x.delayMax w }) } } := by
  unfold queueSample
  refine congrArg (fun g => { m with bell := { m.bell with lastSample := m.clk.mono, queues := m.bell.queues.mapV g } }) ?_
  funext _ x
  have hhead : ∀ l : List QFrame, l = [] ∨ ∃ f t, l = f :: t := fun l => by
    cases l with
    | nil => exact .inl rfl
    | cons f t => exact .inr ⟨f, t, rfl⟩
  rcases hhead x.frames with hx | ⟨f, t, hx⟩ <;> simp [hx]

/-! #### Gates (R475) -/

section
variable {m : Module} {s : Nat} {g : GateList}

theorem gateDue_running (hg : (m.subport s).gates = some g) : gateDue s m = m.clk.mono + (g.at m.clk.now).2 := by
  simp [gateDue, hg]

/-- The sub-port shows the states of a list's interval. -/
def Module.gateShown (s : Nat) (g : GateList) (m : Module) : Module :=
  m.setSubport s { m.subport s with gateState := (nthD g.entries (g.at m.clk.now).1 (255, 1)).1 ||| 128 }

theorem Module.gateNow_shows (hg : (m.subport s).gates = some g) : m.gateNow s = m.gateShown s g := by
  simp [Module.gateNow, hg, Module.gateShown]

theorem gateEnd_running (hg : (m.subport s).gates = some g) (hn : (m.subport s).nextGates = none) : gateEnd s m = m.gateShown s g := by
  have hswap : m.gateSwap s = m := by simp [Module.gateSwap, hn]
  rw [gateEnd, hswap, Module.gateNow_shows hg]

section
variable (hg : (m.subport s).gates = none) (hn : (m.subport s).nextGates = some g) (hb : g.baseTime ≤ m.clk.now)
include hg hn hb

theorem gateDue_begins : gateDue s m = m.clk.mono := by
  simp [gateDue, hg, hn, Module.dueAt, Nat.sub_eq_zero_of_le hb]

/-- The module in which a list has begun and the commands that waited for it have completed. -/
def Module.gateBegun (s : Nat) (g : GateList) (m : Module) : Module :=
  let m1 := m.setSubport s { m.subport s with gates := some g, nextGates := none }
  (m1.waitingCmds 0x1030 (fun c => c.data.headD 99 == s)).foldl (fun (a : Module) c => a.ok c []) m1

theorem gateEnd_begins (hs : s < m.bell.subports.length) : gateEnd s m =
    (m.gateBegun s g).setSubport s { (m.gateBegun s g).subport s with
      gateState := (nthD g.entries (g.at m.clk.now).1 (255, 1)).1 ||| 128 } := by
  have hswap : m.gateSwap s = m.gateBegun s g := by simp [Module.gateSwap, hg, hn, hb, Module.gateBegun]
  have hans : (m.setSubport s { m.subport s with gates := some g, nextGates := none }).Answers (m.gateBegun s g) :=
    .foldl (fun a c => (Module.Answers.refl a).ok c []) _ _
  have hclk : (m.gateBegun s g).clk = m.clk := hans.same (·.clk)
  have hgates : ((m.gateBegun s g).subport s).gates = some g := by
    rw [hans.same (·.subport s), Module.subport_setSubport_same _ hs]
  rw [gateEnd, hswap, Module.gateNow_shows hgates, Module.gateShown, hclk]

end

end

/-! #### Queue pairs (R463, R464) -/

theorem rdmaTargeting_fails {m : Module} {e : Nat} {qp : QueuePair} {x : MapEntry} (hq : m.bell.qps.get e = some qp)
    (hx : m.endpoint e = some x) (hp : x.partition < 8) : rdmaTargeting e m =
      (let m1 := m.enqueue (m.queueFor e (8 + x.partition)) (.nak e)
       (({ m1 with bell := { m1.bell with qps := m1.bell.qps.put e { qp with error := true } } }).bump
         Reg.BELL.QP_ERRORS_COUNT).set Reg.BELL.STATUS_QP_ERROR 1) := by
  unfold rdmaTargeting
  rw [hq, hx]
  simp only [Option.map_some, Option.getD_some, if_pos hp]

end Sys2Proof.Machine


namespace Sys2Proof.Machine

open Sys2Proof

/-! ### Transmission (R472) -/

/-- n has the HBM, capsules, steps and sub-ports of m. -/
structure Module.PortsAlike (m n : Module) : Prop where
  hbm : n.hbm = m.hbm
  caps : n.caps = m.caps
  steps : n.steps = m.steps
  subports : n.bell.subports = m.bell.subports

/-- A frame with its queue, as a transmission opportunity weighs it. -/
abbrev TxCand := Nat × EgressQueue × QFrame

/-- Frames that a transmission opportunity of sub-port s may take, each with its queue's number and state. -/
def Module.txCands (m : Module) (s : Nat) : List TxCand :=
  (m.bell.queues.mapV (fun _ x => x.fill m.clk.mono)).filterMap (fun (q, x) =>
    (m.headOn s x).bind (fun f =>
      if (f.pkt.ungated || m.gateFits s x.tc f.bytes) && m.flowFirst q f && !bit (m.subport s).paused x.tc &&
          (x.pir == 0 || decide (f.bytes ≤ x.pLevel)) then
        some (q, x, f) else none))

/-- A frame that its queue's committed bucket holds. -/
def TxCand.committed : TxCand → Bool := fun (_, x, f) => x.cir == 0 || decide (f.bytes ≤ x.cLevel)

/-- The committed frames, or all of them when none is. -/
def txPreferred (l : List TxCand) : List TxCand := if (l.filter TxCand.committed).isEmpty then l else l.filter TxCand.committed

/-- The highest class in a list. -/
def txTop (l : List TxCand) : Nat := l.foldl (fun a (_, x, _) => Max.max a x.tc) 0

/-- The frames of the highest class. -/
def txHighest (l : List TxCand) : List TxCand := l.filter (fun (_, x, _) => x.tc == txTop l)

/-- Rounds of the deficit round robin until a frame of x may leave. -/
def txNeed (x : EgressQueue) (f : QFrame) : Nat := ceilDiv (f.bytes - x.deficit) (Max.max x.weight 1 * 1500)

/-- The fewest rounds that any of the frames needs. -/
def txRounds : List TxCand → Nat
  | [] => 0
  | (_, x, f) :: rest => rest.foldl (fun a (_, y, g) => Min.min a (txNeed y g)) (txNeed x f)

/-- The frames that may leave after the fewest rounds. -/
def txReady (l : List TxCand) : List TxCand := l.filter (fun (_, x, f) => decide (txNeed x f ≤ txRounds l))

/-- A list of frames in cyclic order of their queues, after queue rr. -/
def txTurn (rr : Nat) (l : List TxCand) : List TxCand :=
  l.filter (fun (q, _, _) => decide (rr < q)) ++ l.filter (fun (q, _, _) => decide (q ≤ rr))

/-- The frames that may leave, in their order. -/
def Module.txOrder (m : Module) (s : Nat) : List TxCand := txTurn (m.subport s).rr (txReady (txHighest (txPreferred (m.txCands s))))

namespace Module.PortsAlike

variable {m n k : Module}

theorem refl (m : Module) : m.PortsAlike m := ⟨rfl, rfl, rfl, rfl⟩

theorem trans (h : m.PortsAlike n) (h' : n.PortsAlike k) : m.PortsAlike k :=
  ⟨h'.hbm.trans h.hbm, h'.caps.trans h.caps, h'.steps.trans h.steps, h'.subports.trans h.subports⟩

theorem bump (h : m.PortsAlike n) (f : Fld) : m.PortsAlike (n.bump f) where
  hbm := (Module.bump_hbm f n).trans h.hbm
  caps := (Module.bump_caps f n).trans h.caps
  steps := (Module.bump_steps f n).trans h.steps
  subports := by rw [Module.bump_bell, h.subports]

theorem setReed (h : m.PortsAlike n) (i : Nat) (x : ReedInst) : m.PortsAlike (n.setReed i x) where
  hbm := by rw [Module.setReed, Module.set_hbm, ← h.hbm]
  caps := by rw [Module.setReed, Module.set_caps, ← h.caps]
  steps := by rw [Module.setReed, Module.set_steps, ← h.steps]
  subports := by rw [Module.setReed, Module.set_bell, ← h.subports]

theorem reedRequest (h : m.PortsAlike n) (i r tag units : Nat) : m.PortsAlike (n.reedRequest i r tag units) := by
  unfold Module.reedRequest
  dsimp only
  split
  · exact h
  · exact h.setReed _ _

theorem dropOversize (s : Nat) (m : Module) : m.PortsAlike (m.dropOversize s) := by
  unfold Module.dropOversize
  suffices ∀ (l : KMap EgressQueue) (a : Module), m.PortsAlike a → m.PortsAlike (l.foldl _ a) from this _ m (refl m)
  intro l
  induction l with
  | nil => exact fun a ha => ha
  | cons z rest ih =>
    intro a ha
    refine ih _ ?_
    dsimp only
    split
    · split
      · exact bump (n := a.setQueue _ _) (ha.trans ⟨rfl, rfl, rfl, rfl⟩) _
      · exact ha
    · exact ha

theorem subport (h : m.PortsAlike n) (s : Nat) : n.subport s = m.subport s := Module.subport_congr h.subports

end Module.PortsAlike

/-! #### The choice -/

section
variable {l : List TxCand} {z : TxCand}

theorem tc_le_txTop (hz : z ∈ l) : z.2.1.tc ≤ txTop l := by
  have hmono : ∀ (l : List TxCand) (a : Nat), a ≤ l.foldl (fun a (_, x, _) => Max.max a x.tc) a ∧
      ∀ z ∈ l, z.2.1.tc ≤ l.foldl (fun a (_, x, _) => Max.max a x.tc) a := by
    intro l
    induction l with
    | nil => simp
    | cons y ys ih =>
      intro a
      obtain ⟨hacc, hall⟩ := ih (Max.max a y.2.1.tc)
      refine ⟨le_trans (le_max_left _ _) hacc, fun z hz => ?_⟩
      rcases List.mem_cons.mp hz with rfl | hz
      · exact le_trans (le_max_right _ _) hacc
      · exact hall z hz
  exact (hmono l 0).2 z hz

theorem exists_tc_txTop (hz : z ∈ l) : ∃ y ∈ l, y.2.1.tc = txTop l := by
  have hreach : ∀ (l : List TxCand) (a : Nat), l.foldl (fun a (_, x, _) => Max.max a x.tc) a = a ∨
      ∃ y ∈ l, y.2.1.tc = l.foldl (fun a (_, x, _) => Max.max a x.tc) a := by
    intro l
    induction l with
    | nil => simp
    | cons y ys ih =>
      intro a
      rcases ih (Max.max a y.2.1.tc) with h | ⟨w, hw, h⟩
      · rcases max_choice a y.2.1.tc with hm | hm
        · exact .inl (h.trans hm)
        · exact .inr ⟨y, by simp, (h.trans hm).symm⟩
      · exact .inr ⟨w, by simp [hw], h⟩
  rcases hreach l 0 with h | h
  · have : z.2.1.tc ≤ 0 := (tc_le_txTop hz).trans h.le
    exact ⟨z, hz, by rw [txTop, h]; omega⟩
  · exact h

theorem exists_txNeed_le_txRounds (hz : z ∈ l) : ∃ y ∈ l, txNeed y.2.1 y.2.2 ≤ txRounds l := by
  have hreach : ∀ (l : List TxCand) (a : Nat), l.foldl (fun a (_, y, g) => Min.min a (txNeed y g)) a = a ∨
      ∃ y ∈ l, txNeed y.2.1 y.2.2 = l.foldl (fun a (_, y, g) => Min.min a (txNeed y g)) a := by
    intro l
    induction l with
    | nil => simp
    | cons y ys ih =>
      intro a
      rcases ih (Min.min a (txNeed y.2.1 y.2.2)) with h | ⟨w, hw, h⟩
      · rcases min_choice a (txNeed y.2.1 y.2.2) with hm | hm
        · exact .inl (h.trans hm)
        · exact .inr ⟨y, by simp, (h.trans hm).symm⟩
      · exact .inr ⟨w, by simp [hw], h⟩
  cases l with
  | nil => cases hz
  | cons y ys =>
    rcases hreach ys (txNeed y.2.1 y.2.2) with h | ⟨w, hw, h⟩
    · exact ⟨y, by simp, h.ge⟩
    · exact ⟨w, by simp [hw], h.le⟩

theorem txPreferred_subset : txPreferred l ⊆ l := by
  unfold txPreferred
  split
  · exact fun _ h => h
  · exact fun _ hz => List.mem_of_mem_filter hz

theorem mem_txTurn {rr : Nat} : z ∈ txTurn rr l ↔ z ∈ l := by
  simp only [txTurn, List.mem_append, List.mem_filter, decide_eq_true_eq, ← and_or_left]
  exact and_iff_left (lt_or_ge rr z.1)

/-- With a committed frame in the list only committed ones are preferred. -/
theorem committed_of_mem_txPreferred {y : TxCand} (hz : z ∈ l) (hc : z.committed = true) (hy : y ∈ txPreferred l) :
    y.committed = true ∧ z ∈ txPreferred l := by
  have hmem : z ∈ l.filter TxCand.committed := List.mem_filter.mpr ⟨hz, hc⟩
  have hsome : (l.filter TxCand.committed).isEmpty = false := by
    rw [List.isEmpty_eq_false_iff]
    exact List.ne_nil_of_mem hmem
  rw [txPreferred, hsome] at hy ⊢
  exact ⟨(List.mem_filter.mp hy).2, hmem⟩

theorem txPreferred_ne_nil (hz : z ∈ l) : ∃ y, y ∈ txPreferred l := by
  unfold txPreferred
  split
  · exact ⟨z, hz⟩
  · next h => exact List.exists_mem_of_ne_nil _ (by simpa [List.isEmpty_iff] using h)

end

section
variable {m : Module} {s : Nat} {z : TxCand}

/-- What may leave is a candidate, of the highest class among the preferred ones. -/
theorem mem_of_mem_txOrder (h : z ∈ m.txOrder s) : z ∈ txPreferred (m.txCands s) ∧ ∀ y ∈ txPreferred (m.txCands s), y.2.1.tc ≤ z.2.1.tc := by
  have hhigh : z ∈ txHighest (txPreferred (m.txCands s)) := List.mem_of_mem_filter (mem_txTurn.mp h)
  obtain ⟨hpref, htop⟩ := List.mem_filter.mp hhigh
  exact ⟨hpref, fun y hy => (tc_le_txTop hy).trans (beq_iff_eq.mp htop).ge⟩

/-- As long as there is a candidate, one may leave. -/
theorem txOrder_ne_nil (h : z ∈ m.txCands s) : m.txOrder s ≠ [] := by
  obtain ⟨p, hp⟩ := txPreferred_ne_nil h
  obtain ⟨y, hy, htop⟩ := exists_tc_txTop hp
  have hhigh : y ∈ txHighest (txPreferred (m.txCands s)) := List.mem_filter.mpr ⟨hy, beq_iff_eq.mpr htop⟩
  obtain ⟨w, hw, hneed⟩ := exists_txNeed_le_txRounds hhigh
  have hready : w ∈ txReady (txHighest (txPreferred (m.txCands s))) := List.mem_filter.mpr ⟨hw, decide_eq_true hneed⟩
  exact List.ne_nil_of_mem (mem_txTurn.mpr hready)

theorem mem_txCands (q : Nat) (x : EgressQueue) (f : QFrame) : (q, x, f) ∈ m.txCands s ↔
    ∃ x0, (q, x0) ∈ m.bell.queues ∧ x = x0.fill m.clk.mono ∧ m.headOn s x = some f ∧
      (f.pkt.ungated = true ∨ m.gateFits s x.tc f.bytes = true) ∧ m.flowFirst q f = true ∧
      bit (m.subport s).paused x.tc = false ∧ (x.pir = 0 ∨ f.bytes ≤ x.pLevel) := by
  simp only [Module.txCands, KMap.mapV, List.mem_filterMap, List.mem_map, Prod.exists, Option.bind_eq_some_iff, Prod.mk.injEq,
    Option.ite_none_right_eq_some, Option.some.injEq, Bool.and_eq_true, Bool.or_eq_true, Bool.not_eq_true', beq_iff_eq,
    decide_eq_true_eq]
  constructor
  · rintro ⟨q', x', ⟨q0, x0, hmem, rfl, rfl⟩, f', hhead, ⟨⟨⟨hgate, hflow⟩, hpause⟩, hpeak⟩, rfl, rfl, rfl⟩
    exact ⟨x0, hmem, rfl, hhead, hgate, hflow, hpause, hpeak⟩
  · rintro ⟨x0, hmem, rfl, hhead, hgate, hflow, hpause, hpeak⟩
    exact ⟨q, _, ⟨q, x0, hmem, rfl, rfl⟩, f, hhead, ⟨⟨⟨hgate, hflow⟩, hpause⟩, hpeak⟩, rfl, rfl, rfl⟩

/-! #### What leaves -/

theorem transmit_down (h : (m.subport s).up = false) : transmit s m = m := by
  simp [transmit, h]

/-- Frame f of queue q stands before the arbiter of sub-port s, whose turn is past q; the queues are qs. -/
def Module.txPlaced (s q : Nat) (x : EgressQueue) (f : QFrame) (qs : KMap EgressQueue) (m : Module) : Module :=
  let m1 := { m with bell := { m.bell with queues := qs } }
  m1.setSubport s { m.subport s with
    atArbiter := (m.subport s).atArbiter ++ [((producer q x.partition f.pkt).1 * 16 + (producer q x.partition f.pkt).2, f)], rr := q }

/-- Frame f of queue q goes to the arbiter of sub-port s. -/
def Module.txSent (s q : Nat) (x : EgressQueue) (f : QFrame) (qs : KMap EgressQueue) (m : Module) : Module :=
  (m.txPlaced s q x f qs).reedRequest (72 + s) (producer q x.partition f.pkt).1 (producer q x.partition f.pkt).2 (ceilDiv f.bytes 64)

variable (hup : (m.subport s).up = true)
include hup

theorem transmit_nothing (h : (m.dropOversize s).txOrder s = []) : ∃ qs, transmit s m =
    { m.dropOversize s with bell := { (m.dropOversize s).bell with queues := qs } } := by
  unfold transmit
  rw [if_neg (by simp [hup])]
  extract_lets mo sp now qs cands committed c1 top c2 need rounds ready order
  rw [show order = [] from h]
  exact ⟨_, rfl⟩

theorem transmit_sends {q : Nat} {x : EgressQueue} {f : QFrame} {rest : List TxCand}
    (h : (m.dropOversize s).txOrder s = (q, x, f) :: rest) : ∃ qs, transmit s m = (m.dropOversize s).txSent s q x f qs := by
  unfold transmit
  rw [if_neg (by simp [hup])]
  extract_lets mo sp now qs cands committed c1 top c2 need rounds ready order
  rw [show order = (q, x, f) :: rest from h]
  exact ⟨_, rfl⟩

end

end Sys2Proof.Machine


namespace Sys2Proof.Machine

open Sys2Proof

/-! ### What a transmission opportunity leaves (R472) -/

section
variable {m : Module} {s q : Nat} {x : EgressQueue} {f : QFrame} {qs : KMap EgressQueue}

/-- The frame stands behind those of the arbiter, and HBM, capsules and steps are as before. -/
theorem Module.txSent_shows (h : s < m.bell.subports.length) :
    (m.txSent s q x f qs).hbm = m.hbm ∧ (m.txSent s q x f qs).caps = m.caps ∧ (m.txSent s q x f qs).steps = m.steps ∧
      ((m.txSent s q x f qs).subport s).atArbiter = (m.subport s).atArbiter ++
        [((producer q x.partition f.pkt).1 * 16 + (producer q x.partition f.pkt).2, f)] := by
  have hreq := (PortsAlike.refl (m.txPlaced s q x f qs)).reedRequest (72 + s) (producer q x.partition f.pkt).1
    (producer q x.partition f.pkt).2 (ceilDiv f.bytes 64)
  refine ⟨hreq.hbm, hreq.caps, hreq.steps, ?_⟩
  rw [Module.txSent, hreq.subport]
  simp [Module.txPlaced, Module.setSubport, Module.subport, nthD, h]

end

section
variable {m : Module} {s : Nat} (hup : (m.subport s).up = true) (hlen : s < m.bell.subports.length)
include hup

theorem transmit_without_candidate (hnone : ∀ z, z ∉ (m.dropOversize s).txCands s) :
    (transmit s m).hbm = m.hbm ∧ (transmit s m).caps = m.caps ∧ (transmit s m).steps = m.steps ∧
      ((transmit s m).subport s).atArbiter = (m.subport s).atArbiter := by
  have hkeep := Module.PortsAlike.dropOversize s m
  have hempty : (m.dropOversize s).txOrder s = [] := by
    cases horder : (m.dropOversize s).txOrder s with
    | nil => rfl
    | cons z rest =>
      have hz : z ∈ (m.dropOversize s).txOrder s := by rw [horder]; exact List.mem_cons_self
      exact absurd (txPreferred_subset (mem_of_mem_txOrder hz).1) (hnone z)
  obtain ⟨qs, hqs⟩ := transmit_nothing hup hempty
  rw [hqs]
  exact ⟨hkeep.hbm, hkeep.caps, hkeep.steps, congrArg SubPort.atArbiter (hkeep.subport s)⟩

include hlen in
/-- A candidate of the highest class among the preferred ones goes to the arbiter. -/
theorem transmit_with_candidate {z : TxCand} (hz : z ∈ (m.dropOversize s).txCands s) :
    ∃ q x f, (q, x, f) ∈ (m.dropOversize s).txOrder s ∧ (transmit s m).hbm = m.hbm ∧ (transmit s m).caps = m.caps ∧
      (transmit s m).steps = m.steps ∧ ((transmit s m).subport s).atArbiter = (m.subport s).atArbiter ++
        [((producer q x.partition f.pkt).1 * 16 + (producer q x.partition f.pkt).2, f)] := by
  have hkeep := Module.PortsAlike.dropOversize s m
  cases horder : (m.dropOversize s).txOrder s with
  | nil => exact absurd horder (txOrder_ne_nil hz)
  | cons y rest =>
    obtain ⟨q, x, f⟩ := y
    obtain ⟨qs, hqs⟩ := transmit_sends hup horder
    obtain ⟨hhbm, hcaps, hsteps, harb⟩ := Module.txSent_shows (m := m.dropOversize s) (s := s) (q := q) (x := x) (f := f) (qs := qs)
      (by rw [hkeep.subports]; exact hlen)
    rw [hqs, hhbm, hcaps, hsteps, harb, hkeep.subport]
    exact ⟨q, x, f, List.mem_cons_self, hkeep.hbm, hkeep.caps, hkeep.steps, rfl⟩

end

end Sys2Proof.Machine


namespace Sys2Proof.Machine

open Sys2Proof

/-! ### The Reed arbiters (R426, R427, R429) -/

section
variable {m n : Module} {i : Nat}

theorem Module.reedInst_congr (h : n.reed = m.reed) : n.reedInst i = m.reedInst i := by rw [Module.reedInst, h, Module.reedInst]

theorem Module.setReed_reed (x : ReedInst) : (m.setReed i x).reed = m.reed.put i x := by rw [Module.setReed, Module.set_reed]

theorem Module.reedInst_setReed (x : ReedInst) : (m.setReed i x).reedInst i = x := by
  rw [Module.reedInst, Module.setReed_reed, KMap.getD, KMap.get_put_same, Option.getD_some]

end

/-! #### The longest waiter -/

theorem longestWaiter_earliest {l : List ReedReq} (h : l ≠ []) :
    ∃ w ∈ l, longestWaiter l = some w ∧ ∀ r ∈ l, w.arrival ≤ r.arrival := by
  induction l with
  | nil => exact absurd rfl h
  | cons a rest ih =>
    cases hrest : longestWaiter rest with
    | none =>
      have hnil : rest = [] := by
        by_contra hne
        obtain ⟨w, -, hw, -⟩ := ih hne
        exact absurd (hrest.symm.trans hw) (by simp)
      subst hnil
      exact ⟨a, by simp, rfl, by simp⟩
    | some b =>
      have hne : rest ≠ [] := by
        rintro rfl
        exact absurd hrest (by simp [longestWaiter])
      obtain ⟨w, hmem, hw, hmin⟩ := ih hne
      obtain rfl : b = w := Option.some.inj (hrest.symm.trans hw)
      by_cases hc : (decide (a.arrival < b.arrival) || (a.arrival == b.arrival && decide (a.requester ≤ b.requester))) = true
      · have hab : a.arrival ≤ b.arrival := by
          simp only [Bool.or_eq_true, Bool.and_eq_true, decide_eq_true_eq, beq_iff_eq] at hc
          omega
        refine ⟨a, by simp, by simp only [longestWaiter, hrest, if_pos hc], fun r hr => ?_⟩
        rcases List.mem_cons.mp hr with rfl | hr
        · exact le_rfl
        · exact hab.trans (hmin r hr)
      · have hba : b.arrival ≤ a.arrival := by
          simp only [Bool.or_eq_true, decide_eq_true_eq, not_or] at hc
          omega
        refine ⟨b, by simp [hmem], by simp only [longestWaiter, hrest, if_neg hc], fun r hr => ?_⟩
        rcases List.mem_cons.mp hr with rfl | hr
        · exact hba
        · exact hmin r hr

/-! #### The choice by priority -/

section
variable {m : Module} {i : Nat} {x : ReedInst}

/-- Request a goes before request b: by priority, then in cyclic order, then by arrival. -/
def Module.reedBefore (m : Module) (i : Nat) (x : ReedInst) (a b : ReedReq) : Bool :=
  decide (m.prio i b.requester < m.prio i a.requester) || (m.prio i a.requester == m.prio i b.requester &&
    (decide (reedDistance x.lastHolder a.requester < reedDistance x.lastHolder b.requester) ||
      (reedDistance x.lastHolder a.requester == reedDistance x.lastHolder b.requester && decide (a.arrival ≤ b.arrival))))

/-- The better of what was best so far and one more request. -/
def Module.reedBetter (m : Module) (i : Nat) (x : ReedInst) (best : Option ReedReq) (r : ReedReq) : Option ReedReq :=
  best.elim (some r) (fun b => if m.reedBefore i x b r then some b else some r)

/-- Request r has no higher priority than w, and at the same one does not stand nearer behind the last holder. -/
def Module.ReedRank (m : Module) (i : Nat) (x : ReedInst) (w r : ReedReq) : Prop :=
  m.prio i r.requester ≤ m.prio i w.requester ∧ (m.prio i r.requester = m.prio i w.requester →
    reedDistance x.lastHolder w.requester ≤ reedDistance x.lastHolder r.requester)

theorem Module.ReedRank.refl (r : ReedReq) : m.ReedRank i x r r := ⟨le_rfl, fun _ => le_rfl⟩

theorem Module.ReedRank.trans {a b c : ReedReq} (h : m.ReedRank i x a b) (h' : m.ReedRank i x b c) : m.ReedRank i x a c := by
  obtain ⟨hab, hab'⟩ := h
  obtain ⟨hbc, hbc'⟩ := h'
  refine ⟨hbc.trans hab, fun heq => ?_⟩
  exact (hab' (by omega)).trans (hbc' (by omega))

theorem Module.reedRank_of_reedBefore {a b : ReedReq} (h : m.reedBefore i x a b = true) : m.ReedRank i x a b := by
  simp only [Module.reedBefore, Bool.or_eq_true, Bool.and_eq_true, decide_eq_true_eq, beq_iff_eq] at h
  constructor <;> omega

theorem Module.reedRank_of_not_reedBefore {a b : ReedReq} (h : ¬m.reedBefore i x a b = true) : m.ReedRank i x b a := by
  simp only [Module.reedBefore, Bool.or_eq_true, Bool.and_eq_true, decide_eq_true_eq, beq_iff_eq] at h
  constructor <;> omega

theorem Module.foldl_reedBetter (l : List ReedReq) (b : ReedReq) :
    ∃ w ∈ b :: l, l.foldl (m.reedBetter i x) (some b) = some w ∧ ∀ r ∈ b :: l, m.ReedRank i x w r := by
  induction l generalizing b with
  | nil => exact ⟨b, by simp, rfl, by simpa using ReedRank.refl b⟩
  | cons a rest ih =>
    by_cases hb : m.reedBefore i x b a = true
    · obtain ⟨w, hmem, hw, hall⟩ := ih b
      have hstep : m.reedBetter i x (some b) a = some b := if_pos hb
      refine ⟨w, ?_, by rw [List.foldl_cons, hstep, hw], fun r hr => ?_⟩
      · rcases List.mem_cons.mp hmem with rfl | hmem <;> simp [*]
      · rcases List.mem_cons.mp hr with rfl | hr
        · exact hall _ List.mem_cons_self
        · rcases List.mem_cons.mp hr with rfl | hr
          · exact (hall b List.mem_cons_self).trans (reedRank_of_reedBefore hb)
          · exact hall r (List.mem_cons_of_mem _ hr)
    · obtain ⟨w, hmem, hw, hall⟩ := ih a
      have hstep : m.reedBetter i x (some b) a = some a := if_neg hb
      refine ⟨w, List.mem_cons_of_mem _ hmem, by rw [List.foldl_cons, hstep, hw], fun r hr => ?_⟩
      rcases List.mem_cons.mp hr with rfl | hr
      · exact (hall a List.mem_cons_self).trans (reedRank_of_not_reedBefore hb)
      · exact hall r hr

theorem Module.reedChoice_by_arrival {cands : List ReedReq} (hp : m.flag (reedFld Reg.REED.CTRL_POLICY i) = true) :
    m.reedChoice i x cands = longestWaiter cands := by
  rw [Module.reedChoice, if_pos hp]

theorem Module.reedChoice_by_priority {cands : List ReedReq} (hp : m.flag (reedFld Reg.REED.CTRL_POLICY i) = false)
    (hne : cands ≠ []) : ∃ w ∈ cands, m.reedChoice i x cands = some w ∧ ∀ r ∈ cands, m.ReedRank i x w r := by
  have hfold : m.reedChoice i x cands = cands.foldl (m.reedBetter i x) none := by
    rw [Module.reedChoice, if_neg (by simp [hp])]
    refine congrArg (fun g => List.foldl g none cands) ?_
    funext best r
    cases best <;> rfl
  cases cands with
  | nil => exact absurd rfl hne
  | cons b rest =>
    obtain ⟨w, hmem, hw, hall⟩ := m.foldl_reedBetter (i := i) (x := x) rest b
    exact ⟨w, hmem, hfold.trans hw, hall⟩

/-- Some request is chosen while one is eligible. -/
theorem Module.reedChoice_some {cands : List ReedReq} (hne : cands ≠ []) : ∃ w ∈ cands, m.reedChoice i x cands = some w ∧
    (m.flag (reedFld Reg.REED.CTRL_POLICY i) = true → ∀ r ∈ cands, w.arrival ≤ r.arrival) ∧
    (m.flag (reedFld Reg.REED.CTRL_POLICY i) = false → ∀ r ∈ cands, m.ReedRank i x w r) := by
  cases hp : m.flag (reedFld Reg.REED.CTRL_POLICY i) with
  | true =>
    obtain ⟨w, hmem, hw, hmin⟩ := longestWaiter_earliest hne
    exact ⟨w, hmem, (reedChoice_by_arrival hp).trans hw, fun _ => hmin, by simp⟩
  | false =>
    obtain ⟨w, hmem, hw, hall⟩ := reedChoice_by_priority (x := x) hp hne
    exact ⟨w, hmem, hw, by simp, fun _ => hall⟩

end

/-! #### The grant -/

section
variable {m : Module} {lr : Nat → Nat} {i : Nat} {x : ReedInst} {cands : List ReedReq}

/-- The Nth grant without the longest waiter is due. -/
def Module.reedDue (m : Module) (i : Nat) (x : ReedInst) : Bool :=
  !m.flag (reedFld Reg.REED.CTRL_STARVE_MODE i) && decide (m.get (reedFld Reg.REED.CTRL_N i) ≤ x.nth + 1)

theorem Module.reedDecide_grants {pick longest : ReedReq} (hx : x = m.reedInst i) (hfree : x.holder = none)
    (hc : cands = x.waiting.filter (m.reedEligible lr i)) (hpick : m.reedChoice i x cands = some pick)
    (hlong : longestWaiter cands = some longest) : ∃ y win, y = (m.reedDecide lr i).reedInst i ∧
      win = (if m.reedDue i x then longest else pick) ∧ y.holder = some { win with waited := 0, flagged := false } ∧
      y.lastHolder = win.requester ∧ y.granted = m.clk.mono ∧ (m.reedDue i x = true → y.nth = 0) := by
  have hflags : ∀ (l : List ReedReq) (a : Module), (l.foldl (fun (a : Module) r =>
      ((a.setBit (reedFld Reg.REED.STATUS_STARVING i) r.requester).bump (reedFld Reg.REED.STARVE_FLAGS_COUNT i)).event
        0x0F02 0xFF 1 i r.requester) a).reed = a.reed := by
    intro l
    induction l with
    | nil => intro a; rfl
    | cons r rest ih => intro a; rw [List.foldl_cons, ih]; simp
  subst hx hc
  refine ⟨_, _, rfl, rfl, ?_⟩
  unfold Module.reedDecide
  simp only [hfree, hpick, hlong, Option.getD_some]
  rw [Module.reedInst_congr (hflags _ _), Module.reedInst_congr (Module.bump_reed _ _), Module.reedInst_setReed]
  refine ⟨rfl, rfl, rfl, fun hdue => ?_⟩
  simp only [Module.reedDue, Bool.and_eq_true, Bool.not_eq_true', decide_eq_true_eq] at hdue
  obtain ⟨hmode, hn⟩ := hdue
  simp [hmode, hn]

/-- A free arbiter grants by arrival when the Nth grant is due, and otherwise by its policy. -/
theorem Module.reedDecide_chooses (hx : x = m.reedInst i) (hfree : x.holder = none)
    (hc : cands = x.waiting.filter (m.reedEligible lr i)) (hne : cands ≠ []) :
    ∃ win ∈ cands, ∃ y, y = (m.reedDecide lr i).reedInst i ∧ y.holder = some { win with waited := 0, flagged := false } ∧
      y.lastHolder = win.requester ∧ y.granted = m.clk.mono ∧
      ((m.reedDue i x = true ∨ m.flag (reedFld Reg.REED.CTRL_POLICY i) = true) → ∀ r ∈ cands, win.arrival ≤ r.arrival) ∧
      (m.reedDue i x = true → y.nth = 0) ∧
      (m.reedDue i x = false → m.flag (reedFld Reg.REED.CTRL_POLICY i) = false → ∀ r ∈ cands, m.ReedRank i x win r) := by
  obtain ⟨pick, hpmem, hpick, harr, hrank⟩ := m.reedChoice_some (i := i) (x := x) hne
  obtain ⟨longest, hlmem, hlong, hmin⟩ := longestWaiter_earliest hne
  obtain ⟨y, win, hy, hwin, hholder, hlast, hgranted, hnth⟩ := reedDecide_grants hx hfree hc hpick hlong
  cases hdue : m.reedDue i x with
  | true =>
    obtain rfl : win = longest := by simpa [hdue] using hwin
    exact ⟨win, hlmem, y, hy, hholder, hlast, hgranted, fun _ => hmin, fun _ => hnth hdue, by simp⟩
  | false =>
    obtain rfl : win = pick := by simpa [hdue] using hwin
    exact ⟨win, hpmem, y, hy, hholder, hlast, hgranted, by simpa using harr, by simp, fun _ => hrank⟩

end

/-! #### The end of a grant -/

section
variable {m : Module} {i s : Nat} {h : ReedReq} {f : QFrame}

/-- The frame of the holder leaves, the only one before the arbiter. -/
theorem Module.egressGrant_sends (hh : (m.reedInst (72 + s)).holder = some h)
    (hat : (m.subport s).atArbiter = [(h.requester * 16 + h.tag, f)]) : m.egressGrant s =
      (((m.reedDrop (72 + s) h.requester h.tag).setSubport s { m.subport s with atArbiter := [] }).emit
        (.packet s f.pkt)).bumpBy Reg.BELL.TX_BYTES_COUNT f.bytes := by
  unfold Module.egressGrant
  simp only [hh, hat, List.find?_cons_of_pos, BEq.rfl, List.erase_cons_head, List.find?_nil]

/-- The holder of an arbiter, back among those that wait. -/
def ReedInst.again (x : ReedInst) (h : ReedReq) (now : Nat) : ReedInst :=
  { x with holder := none, waiting := x.waiting ++ [{ h with arrival := now, waited := 0, flagged := false }] }

variable (hh : (m.reedInst i).holder = some h) (hslot : m.flag (reedFld Reg.REED.CTRL_SLOT i) = false)
include hh hslot

theorem Module.reedBurst_cuts (hi : i < 89) : m.reedBurst i =
    (((m.setReed i ((m.reedInst i).again h m.clk.mono)).setBit (reedFld Reg.REED.STATUS_OVERSTAY i) h.requester).bump
      (reedFld Reg.REED.OVERSTAYS_COUNT i)).event 0x0F01 0xFF 2 i h.requester := by
  have hclass : reedPartClass i = false := decide_eq_false (by omega)
  unfold Module.reedBurst
  simp only [hh, hslot, hclass, Bool.false_eq_true, if_false]
  rfl

theorem Module.reedBurst_passes (hi : 89 ≤ i) : m.reedBurst i =
    (if (m.reedInst i).waiting = [] then m else m.setReed i ((m.reedInst i).again h m.clk.mono)) := by
  have hclass : reedPartClass i = true := decide_eq_true hi
  unfold Module.reedBurst
  by_cases hw : (m.reedInst i).waiting = []
  · simp [hh, hslot, hclass, hw]
  · simp only [hh, hslot, hclass, if_true, Bool.false_or, if_neg hw]
    rw [if_pos (by simp [hw])]
    rfl

end

end Sys2Proof.Machine


namespace Sys2Proof.Machine

open Sys2Proof

/-! ### The rows of the ports and of the arbiters -/

theorem exec_gateIntervalEnd {sp : Nat} (s : State) (h : sp < 16) : exec (.gateIntervalEnd sp) s = runAt (gateDue sp) (gateEnd sp) s :=
  if_pos h

theorem exec_burstExpiry {i : Nat} (s : State) (h : i < 93) : exec (.burstExpiry i) s = runAt (burstDue i) (Module.reedBurst i) s :=
  if_pos h

/-- The partition of a fixed queue, as its number says. -/
theorem fixedPart_of_number {q part bind : Nat} (h0 : q < 8 → part = q) (h8 : 8 ≤ q → q < 16 → part = q - 8)
    (h16 : 16 ≤ q → q < 18 → part = 0xFF) (hb : q < 18 → bind = 0) : fixedPart q = none ∨ fixedPart q = some part ∧ bind = 0 := by
  unfold fixedPart
  split
  · next h => exact .inr ⟨by rw [h0 h], hb (by omega)⟩
  · split
    · next h h' => exact .inr ⟨by rw [h8 (by omega) h'], hb (by omega)⟩
    · split
      · next h h' h'' => exact .inr ⟨by rw [h16 (by omega) h''], hb h''⟩
      · exact .inl rfl

section
variable {s : State} {sp : Nat} (hs : s.m.live = true) (hsp : sp < 16)
include hs hsp

theorem does_gateIntervalEnd_begins {g : GateList} (hg : (s.m.subport sp).gates = none) (hn : (s.m.subport sp).nextGates = some g)
    (hb : g.baseTime ≤ s.m.clk.now) (hlen : s.m.bell.subports.length = 16) : Does (.gateIntervalEnd sp) s
      ((s.m.gateBegun sp g).setSubport sp { (s.m.gateBegun sp g).subport sp with
        gateState := (nthD g.entries (g.at s.m.clk.now).1 (255, 1)).1 ||| 128 }) := by
  have hat := doesAt_runAt (h := gateEnd sp) (exec_gateIntervalEnd s hsp) hs (gateDue_begins hg hn hb) rfl
  rw [DoesAt, Module.advanceTo_past le_rfl, gateEnd_begins hg hn hb (by omega)] at hat
  exact hat

theorem exec_transmitOpportunity : exec (.transmitOpportunity sp) s =
    .next { s with m := { transmit sp s.m with clk := s.m.clk } } :=
  does_runIf (ok := decide (sp < 16)) (f := transmit sp) rfl (decide_eq_true hsp) hs rfl

theorem idle_transmitOpportunity (hdown : (s.m.subport sp).up = false) : Idle (.transmitOpportunity sp) s := by
  rw [Idle, exec_transmitOpportunity hs hsp, transmit_down hdown]

/-- What a transmission opportunity takes, told by any description ok of the candidates. -/
theorem exec_transmitOpportunity_takes (hup : (s.m.subport sp).up = true) (hlen : s.m.bell.subports.length = 16)
    {ok : TxCand → Prop} (hok : ∀ z, ok z ↔ z ∈ (s.m.dropOversize sp).txCands sp) :
    ∃ t, exec (.transmitOpportunity sp) s = .next t ∧ t.m.hbm = s.m.hbm ∧ t.m.caps = s.m.caps ∧ t.m.steps = s.m.steps ∧
      ((∀ z, ¬ok z) → (t.m.subport sp).atArbiter = (s.m.subport sp).atArbiter) ∧
      (∀ z, ok z → ∃ q x f, ok (q, x, f) ∧
        (t.m.subport sp).atArbiter = (s.m.subport sp).atArbiter ++
          [((producer q x.partition f.pkt).1 * 16 + (producer q x.partition f.pkt).2, f)] ∧
        ((z.2.1.cir = 0 ∨ z.2.2.bytes ≤ z.2.1.cLevel) → (x.cir = 0 ∨ f.bytes ≤ x.cLevel) ∧ z.2.1.tc ≤ x.tc)) := by
  have hcommitted : ∀ z : TxCand, z.committed = true ↔ z.2.1.cir = 0 ∨ z.2.2.bytes ≤ z.2.1.cLevel := by
    intro z
    simp [TxCand.committed]
  refine ⟨_, exec_transmitOpportunity hs hsp, ?_⟩
  by_cases hnone : ∀ z, z ∉ (s.m.dropOversize sp).txCands sp
  · obtain ⟨hhbm, hcaps, hsteps, harb⟩ := transmit_without_candidate hup hnone
    exact ⟨hhbm, hcaps, hsteps, fun _ => harb, fun z hz => absurd ((hok z).mp hz) (hnone z)⟩
  · obtain ⟨z0, hz0⟩ := not_forall_not.mp hnone
    obtain ⟨q, x, f, horder, hhbm, hcaps, hsteps, harb⟩ := transmit_with_candidate hup (by omega) hz0
    obtain ⟨hpref, htop⟩ := mem_of_mem_txOrder horder
    refine ⟨hhbm, hcaps, hsteps, fun h => absurd ((hok z0).mpr hz0) (h z0), fun z hz => ?_⟩
    refine ⟨q, x, f, (hok _).mpr (txPreferred_subset hpref), harb, fun hc => ?_⟩
    obtain ⟨hwin, hzpref⟩ := committed_of_mem_txPreferred ((hok z).mp hz) ((hcommitted z).mpr hc) hpref
    exact ⟨(hcommitted _).mp hwin, htop z hzpref⟩

end

section
variable {s : State} {i : Nat} {x : ReedInst} (hs : s.m.live = true) (hi : i < 93) (hx : x = s.m.reedInst i)
  (hslot : s.m.flag (reedFld Reg.REED.CTRL_SLOT i) = false)
include hs hi hx hslot

/-- At BURST_NS the arbiter stands as it did at the step's beginning. -/
theorem doesAt_burstExpiry {f : Module → Module} (hf : ∀ m : Module, m.reedInst i = x → m.flag (reedFld Reg.REED.CTRL_SLOT i) = false →
    m.reedBurst i = f m) : DoesAt (.burstExpiry i) s (x.granted + s.m.get (reedFld Reg.REED.BURST_BURST_NS i)) f := by
  refine doesAt_runAt (exec_burstExpiry s hi) hs (by rw [burstDue, hx]) (hf _ ?_ ?_)
  · rw [Module.reedInst_congr (Module.advanceTo_reed _ _), hx]
  · rw [Module.flag, Module.advanceTo_get]
    exact hslot

end

/-- Settles O56: each row of the ports and of the arbiters by its own lemma. That a list without an old one begins when BASE_TIME
has passed is assumption 124, and how a partition-class holder queues again 52. -/
theorem portsQueuesGatesAndArbiters : Obligations.PortsQueuesGatesAndArbiters := by
  unfold Obligations.PortsQueuesGatesAndArbiters
  refine ⟨?_, ?_, ?_, ?_, ?_, ?_, ?_, ?_, ?_, ?_, ?_, ?_, ?_, ?_, ?_, ?_, ?_⟩
  · rintro s src c b p hf rfl hp hz h3 hsplit hmin hmax hvlan
    exact ⟨fun h => does_onCmd rfl hf (bellPortSetCmd_busy hp hz h3 hsplit hmin hmax hvlan h),
      fun h => does_onCmd rfl hf (bellPortSetCmd_waits hp hz h3 hsplit hmin hmax hvlan h)⟩
  · exact fun s src c p hf hp hz h3 => does_onCmd rfl hf (bellPortStatusCmd_shows hp hz h3)
  · rintro s src c b q part bind hf rfl hq hpart hbind hz hz' hin hports htc hserved h0 h8 h16 hw hb hrates hcbs hpbs hmtu
    have hfields : QueueFields c s.m q part bind :=
      ⟨hq, hpart, hbind, ⟨hz, hz'⟩, hin, hports, htc, hserved, fixedPart_of_number h0 h8 h16 hb, hw, hrates, ⟨hcbs, hpbs⟩, hmtu⟩
    exact ⟨fun e hne he hp hp' => does_onCmd rfl hf (bellQueueSetCmd_denied hfields hne he hp hp'),
      fun e k x hne he hp hmem hk hbound => does_onCmd rfl hf (bellQueueSetCmd_busy hfields hne he hp hmem hk hbound),
      fun h => does_onCmd rfl hf (bellQueueSetCmd_sets hfields h)⟩
  · rintro s src c q hf hq hin hz x rfl
    exact does_onCmd rfl hf (bellQueueSampleCmd_samples hq hin hz)
  · rintro s src c b k e hf rfl hk he hin hdrop hz hrates
    refine ⟨fun h0 => does_onCmd rfl hf (bellPolicerSetCmd_unbinds hk he hin hdrop hz hrates h0), fun x hne hx hkind =>
      ⟨fun h => does_onCmd rfl hf (bellPolicerSetCmd_busy hk he hin hdrop hz hrates hne hx hkind h),
        fun h => does_onCmd rfl hf (bellPolicerSetCmd_sets hk he hin hdrop hz hrates hne hx hkind h)⟩⟩
  · rintro s src c b sp n addr hf rfl hsp hn ha hz hz' h15 h1 h256
    exact ⟨fun h => does_onCmd rfl hf (bellGateLoadCmd_busy hsp hn hz hz' h15 h1 h256 h),
      fun h hup hd es hes hok => does_onCmd rfl hf (bellGateLoadCmd_waits hsp hn ha hz hz' h15 h1 h256 h hup hd hes hok)⟩
  · exact fun s src c e hf he hz => ⟨fun h => does_onCmd rfl hf (bellEndpointQueryCmd_exhausted he hz h),
      fun x hx => does_onCmd rfl hf (bellEndpointQueryCmd_shows he hz hx)⟩
  · exact fun s sp up hs hsp => ⟨fun h => does_runIf (ok := decide (sp < 16)) rfl (decide_eq_true hsp) hs (subportChange_alone h),
      fun c h hlast => does_runIf (ok := decide (sp < 16)) rfl (decide_eq_true hsp) hs (subportChange_completes h hlast)⟩
  · intro s sp classes pause hs hsp _
    obtain ⟨n, hn, hbits⟩ := flowControl_pauses s.m sp classes pause
    exact ⟨n, does_runIf (ok := decide (sp < 16)) rfl (decide_eq_true hsp) hs hn, hbits⟩
  · exact fun s hs => doesAt_runAt (i := .queueSampleTick) (g := fun m => m.bell.lastSample + 10000) rfl hs rfl (queueSample_samples _)
  · intro s sp g hs hsp
    refine ⟨fun hg hn => ?_, fun hg hn hb hlen => does_gateIntervalEnd_begins hs hsp hg hn hb hlen⟩
    have hsub : ∀ due, (s.m.advanceTo due).subport sp = s.m.subport sp := fun due =>
      Module.subport_congr (congrArg BellSt.subports (Module.advanceTo_bell due s.m))
    exact doesAt_runAt (exec_gateIntervalEnd s hsp) hs (gateDue_running hg) (gateEnd_running (by rw [hsub, hg]) (by rw [hsub, hn]))
  · exact fun s e qp hs hq => ⟨does_run (f := cnp e) rfl hs rfl,
      fun x hx hp => does_run rfl hs (rdmaTargeting_fails hq hx hp)⟩
  · intro s sp hs hsp
    refine ⟨idle_transmitOpportunity hs hsp, ?_⟩
    rintro hup hlen _ m ok rfl hok
    refine exec_transmitOpportunity_takes hs hsp hup hlen fun z => ?_
    obtain ⟨q, x, f⟩ := z
    rw [hok, mem_txCands, (Module.PortsAlike.dropOversize sp s.m).subport]
  · rintro m lr i x cands hx hfree hc hne _
    obtain ⟨win, hmem, y, hy, hholder, hlast, hgranted, harr, hnth, hrank⟩ := Module.reedDecide_chooses hx hfree hc hne
    have hdue : m.reedDue i x = true ↔
        m.flag (reedFld Reg.REED.CTRL_STARVE_MODE i) = false ∧ m.get (reedFld Reg.REED.CTRL_N i) ≤ x.nth + 1 := by
      simp [Module.reedDue]
    rw [← Bool.not_eq_true] at hrank
    rw [hdue] at harr hnth hrank
    exact ⟨win, hmem, y, hy, hholder, hlast, hgranted, harr, hnth, hrank⟩
  · intro s i hs hi
    exact ⟨fun hout => does_runIf (ok := decide (i < 93)) rfl (decide_eq_true hi) hs (if_neg hout),
      fun h72 h88 => does_runIf (ok := decide (i < 93)) rfl (decide_eq_true hi) hs (if_pos ⟨h72, h88⟩)⟩
  · exact fun m sp h f hh hat => Module.egressGrant_sends hh hat
  · intro s i x h hs hi hx hh hslot
    refine ⟨fun h89 => doesAt_burstExpiry hs hi hx hslot fun m hm hms => ?_,
      fun h89 => doesAt_burstExpiry hs hi hx hslot fun m hm hms => ?_⟩
    · rw [Module.reedBurst_cuts (by rw [hm, hh]) hms h89, hm]
      rfl
    · rw [Module.reedBurst_passes (by rw [hm, hh]) hms h89, hm]
      rfl

end Sys2Proof.Machine


namespace Sys2Proof.Machine

open Sys2Proof

/-! ### What a partition's reset cannot reach (R565)

The layer follows that of the canonical form, function by function: each operation that a partition's reset runs may shrink the
threads and the objects, and leaves the pair state and the schedule tables. -/

/-- A job of m stands in n with its partition, or no thread of it is left there. -/
def StrandSt.Accounts (a b : StrandSt) : Prop := ∀ j x, b.jobs.get j = some x →
  (∃ y, a.jobs.get j = some y ∧ y.partition = x.partition) ∨ ∀ z ∈ a.places, z.2 ≠ j

/-- n has come from m: the power state, the pair state and the schedule tables stand, no thread and no object is new, and a job goes with its last
thread. -/
structure Module.Settles (m n : Module) : Prop where
  power : n.power = m.power
  pair : n.mirror.state = m.mirror.state
  bank0 : n.sched.bank0 = m.sched.bank0
  bank1 : n.sched.bank1 = m.sched.bank1
  threads : m.strand.threads.wf = true → n.strand.threads.wf = true
  places : n.strand.places ⊆ m.strand.places
  jobs : n.strand.Accounts m.strand
  objs : m.lig.objs.wf = true → n.lig.objs.wf = true
  owners : n.lig.owners ⊆ m.lig.owners

theorem StrandSt.Accounts.of_jobs {a b : StrandSt} (h : a.jobs = b.jobs) : a.Accounts b := fun _ x hx => .inl ⟨x, h ▸ hx, rfl⟩

/-- A table's order speaks of its keys alone. -/
theorem KMap.wf_of_keys {α β : Type} {a : KMap α} {b : KMap β} (h : a.map (·.1) = b.map (·.1)) (hb : b.wf = true) : a.wf = true := by
  induction a generalizing b with
  | nil => rfl
  | cons x xs ih =>
    cases b with
    | nil => cases h
    | cons y ys =>
      obtain ⟨hxy, hrest⟩ := List.cons.inj h
      have hxs := ih hrest (KMap.wf_tail hb)
      refine KMap.wf_cons hxs fun z hz => ?_
      have hmem : z.1 ∈ ys.map (·.1) := hrest ▸ List.mem_map_of_mem hz
      obtain ⟨w, hw, hwz⟩ := List.mem_map.mp hmem
      have hab : y.1 < w.1 := KMap.wf_above hb w hw
      dsimp only at hxy hwz
      omega

theorem StrandSt.keys_places (s : StrandSt) : s.places.map (·.1) = s.threads.map (·.1) := by
  simp [StrandSt.places, Function.comp_def]

namespace Module.Settles

variable {m₀ m : Module}

theorem refl (m : Module) : m.Settles m := ⟨rfl, rfl, rfl, rfl, id, fun _ h => h, .of_jobs rfl, id, List.Subset.refl _⟩

theorem trans {n : Module} (h : m₀.Settles m) (h' : m.Settles n) : m₀.Settles n where
  power := h'.power.trans h.power
  pair := h'.pair.trans h.pair
  bank0 := h'.bank0.trans h.bank0
  bank1 := h'.bank1.trans h.bank1
  threads hw := h'.threads (h.threads hw)
  places := fun z hz => h.places (h'.places hz)
  jobs j x hx := by
    rcases h.jobs j x hx with ⟨y, hy, hp⟩ | hnone
    · rcases h'.jobs j y hy with ⟨w, hw, hp'⟩ | hnone
      · exact .inl ⟨w, hw, hp'.trans hp⟩
      · exact .inr hnone
    · exact .inr fun z hz => hnone z (h'.places hz)
  objs hw := h'.objs (h.objs hw)
  owners := fun _ hz => h.owners (h'.owners hz)

theorem answers {n : Module} (h : m₀.Settles m) (ha : m.Answers n) : m₀.Settles n := by
  refine h.trans ⟨?_, ?_, ?_, ?_, fun hw => ?_, fun _ hz => ha.places ▸ hz, .of_jobs ha.jobs, ha.objs, ha.owners⟩
  · rw [ha.frame]
  · rw [ha.frame]
  · rw [ha.frame]
  · rw [ha.frame]
  · refine KMap.wf_of_keys ?_ hw
    rw [← StrandSt.keys_places, ha.places, StrandSt.keys_places]

/-- The relation speaks of the power state, the pair state, the schedule tables, the strands and the objects alone. -/
theorem frame {clk free regs hbm lpddr hostMem out parts host ev ptp bell lig strand sched attn reed firewall caps slide ftl
    steps mouth mirror ckpt bore secur power test} (h : m₀.Settles m)
    (hsame : (lig, strand, sched.bank0, sched.bank1, mirror.state, power) =
      (m.lig, m.strand, m.sched.bank0, m.sched.bank1, m.mirror.state, m.power)) :
    m₀.Settles (Module.mk clk free regs hbm lpddr hostMem out parts host ev ptp bell lig strand sched attn reed firewall caps slide ftl
      steps mouth mirror ckpt bore secur power test) := by
  simp only [Prod.mk.injEq] at hsame
  obtain ⟨rfl, rfl, hb0, hb1, hpair, hpower⟩ := hsame
  exact h.trans ⟨hpower, hpair, hb0, hb1, id, fun _ hz => hz, .of_jobs rfl, id, List.Subset.refl _⟩

theorem ite {c : Prop} [Decidable c] {a b : Module} (ha : m₀.Settles a) (hb : m₀.Settles b) : m₀.Settles (if c then a else b) := by
  split <;> assumption

theorem foldl {α : Type} {f : Module → α → Module} {l : List α} (h : m₀.Settles m)
    (hf : ∀ a x, m₀.Settles a → m₀.Settles (f a x)) : m₀.Settles (l.foldl f m) :=
  List.foldlRecOn _ _ h fun a ha x _ => hf a x ha

theorem foldl_snd {α β : Type} {f : α × Module → β → α × Module} {l : List β} {p : α × Module} (h : m₀.Settles p.2)
    (hf : ∀ p x, m₀.Settles p.2 → m₀.Settles (f p x).2) : m₀.Settles (l.foldl f p).2 :=
  List.foldlRecOn (motive := fun p => m₀.Settles p.2) _ _ h fun p hp x _ => hf p x hp

theorem of_snd {α : Type} {p : α × Module} {a : α} {b : Module} (e : p = (a, b)) (h : m₀.Settles p.2) : m₀.Settles b := by
  subst e; exact h

theorem of_fst {α : Type} {p : Module × α} {a : α} {b : Module} (e : p = (b, a)) (h : m₀.Settles p.1) : m₀.Settles b := by
  subst e; exact h

theorem getD {o : Option Module} (ho : IfSome m₀.Settles o) (h : m₀.Settles m) : m₀.Settles (o.getD m) := by
  cases o with
  | none => exact h
  | some a => exact ho a rfl

/-! #### Registers, messages and events -/

theorem set {f v} (h : m₀.Settles m) : m₀.Settles (m.set f v) := h.answers ((Answers.refl m).set _ _)
theorem setBit {f i} (h : m₀.Settles m) : m₀.Settles (m.setBit f i) := h.answers ((Answers.refl m).setBit _ _)
theorem clearBit {f i} (h : m₀.Settles m) : m₀.Settles (m.clearBit f i) := h.set
theorem bump {f} (h : m₀.Settles m) : m₀.Settles (m.bump f) := h.answers ((Answers.refl m).bump _)
theorem bumpBy {f i} (h : m₀.Settles m) : m₀.Settles (m.bumpBy f i) := h.answers ((Answers.refl m).bumpBy _ _)
theorem choose {k} (h : m₀.Settles m) : m₀.Settles (m.choose k).2 := .frame h rfl
theorem emit {e} (h : m₀.Settles m) : m₀.Settles (m.emit e) := .frame h rfl
theorem msix {v} (h : m₀.Settles m) : m₀.Settles (m.msix v) := h.answers ((Answers.refl m).msix _)
theorem blockEvent {b} (h : m₀.Settles m) : m₀.Settles (m.blockEvent b) := h.answers ((Answers.refl m).blockEvent _)

theorem event {type part sev arg0 arg1} (h : m₀.Settles m) : m₀.Settles (m.event type part sev arg0 arg1) :=
  h.answers ((Answers.refl m).event _ _ _ _ _)

theorem setReed {i x} (h : m₀.Settles m) : m₀.Settles (m.setReed i x) := .set (.frame h rfl)

theorem reedRequest {i requester tag units} (h : m₀.Settles m) : m₀.Settles (m.reedRequest i requester tag units) := .ite h h.setReed

theorem reedDrop {i requester tag} (h : m₀.Settles m) : m₀.Settles (m.reedDrop i requester tag) := by
  unfold Module.reedDrop
  extract_lets
  split
  · exact .ite h.setReed h.setReed
  · exact h.setReed

/-! #### Completions -/

theorem wake {w st msg} (h : m₀.Settles m) : m₀.Settles (m.wake w st msg) := h.answers ((Answers.refl m).wake _ _ _)
theorem engineSignal {obj block} (h : m₀.Settles m) : m₀.Settles (m.engineSignal obj block) := h.answers ((Answers.refl m).engineSignal _ _)
theorem strandWrite {t a b} (h : m₀.Settles m) : m₀.Settles (m.strandWrite t a b) := h.answers ((Answers.refl m).strandWrite _ _ _)
theorem complete {c st body d} (h : m₀.Settles m) : m₀.Settles (m.complete c st body d) := h.answers ((Answers.refl m).complete _ _ _ _)
theorem ok {c body} (h : m₀.Settles m) : m₀.Settles (m.ok c body) := h.complete
theorem fail {c st} (h : m₀.Settles m) : m₀.Settles (m.fail c st) := h.complete
theorem updCmd {id f} (h : m₀.Settles m) : m₀.Settles (m.updCmd id f) := .frame h rfl

theorem cmdWrite {c addr b} (h : m₀.Settles m) : m₀.Settles (m.cmdWrite c addr b) := by
  unfold Module.cmdWrite
  split
  · exact .frame h rfl
  · exact h.strandWrite

/-! #### Objects, threads and jobs -/

theorem updCore {c f} (h : m₀.Settles m) : m₀.Settles (m.updCore c f) := .frame h rfl

theorem ligFreeIndex {i} (h : m₀.Settles m) : m₀.Settles (m.ligFreeIndex i) :=
  h.trans ⟨rfl, rfl, rfl, rfl, id, fun _ hz => hz, .of_jobs rfl, KMap.del_wf i, List.map_subset _ (KMap.del_sub _ i)⟩

/-- A change of each object that leaves its partition. -/
theorem mapObjs {f : Nat → LigObj → LigObj} (hf : ∀ i o, (f i o).partition = o.partition) (h : m₀.Settles m) :
    m₀.Settles { m with lig := { m.lig with objs := m.lig.objs.mapV f } } := by
  have howners : (m.lig.objs.mapV f).map (fun x => (x.1, x.2.partition)) = m.lig.objs.map (fun x => (x.1, x.2.partition)) := by
    simp [KMap.mapV, Function.comp_def, hf]
  refine h.trans ⟨rfl, rfl, rfl, rfl, id, fun _ hz => hz, .of_jobs rfl, fun hw => KMap.wf_of_keys ?_ hw, fun z hz => ?_⟩
  · simp [KMap.mapV, Function.comp_def]
  · rw [LigSt.owners, ← howners]
    exact hz

theorem ligWithdraw {who} (h : m₀.Settles m) : m₀.Settles (m.ligWithdraw who) := by
  refine h.mapObjs fun _ o => ?_
  dsimp only
  split <;> rfl

theorem updJob {j} {f : Job → Job} (hf : ∀ x, (f x).partition = x.partition) (h : m₀.Settles m) : m₀.Settles (m.updJob j f) := by
  refine h.trans ⟨rfl, rfl, rfl, rfl, id, fun _ hz => hz, fun k x hx => .inl ?_, id, List.Subset.refl _⟩
  by_cases hk : k = j
  · subst hk
    exact ⟨f x, (KMap.get_upd_same _ _ _).trans (by rw [hx, Option.map_some]), hf x⟩
  · exact ⟨x, (KMap.get_upd_other _ _ hk).trans hx, rfl⟩

/-- A job may go when no thread of it is left. -/
theorem endJob {j} (hempty : m.jobEmpty j = true) (h : m₀.Settles m) : m₀.Settles (m.endJob j) := by
  unfold Module.endJob
  split
  · exact h
  · extract_lets m1 m2 _ m3
    have h1 : m.Settles m1 := (refl m).engineSignal
    have h2 : m.Settles m2 := h1.foldl fun a i ha => by
      split
      · exact .ligFreeIndex (ha.foldl fun _ _ hb => hb.wake)
      · exact ha
    have h3 : m.Settles m3 := h2.mapObjs fun _ o => by split <;> rfl
    refine h.trans (h3.trans ⟨rfl, rfl, rfl, rfl, id, fun _ hz => hz, fun k x hx => ?_, id, List.Subset.refl _⟩)
    by_cases hk : k = j
    · subst hk
      refine .inr fun z hz hzk => ?_
      obtain ⟨t, ht, rfl⟩ := List.mem_map.mp (h3.places hz)
      rw [Module.jobEmpty, List.all_eq_true] at hempty
      have hne : (t.2.job != k) = true := hempty t.2 (List.mem_map_of_mem ht)
      exact absurd hzk (bne_iff_ne.mp hne)
    · exact .inl ⟨x, (KMap.get_del_other _ hk).trans hx, rfl⟩

theorem dropThread {t} (h : m₀.Settles m) : m₀.Settles (m.dropThread t) := by
  unfold Module.dropThread
  split
  · exact h
  · extract_lets m1 _ m2
    have h1 : m₀.Settles m1 := h.ligWithdraw
    have h2 : m₀.Settles m2 :=
      h1.trans ⟨rfl, rfl, rfl, rfl, KMap.del_wf t, List.map_subset _ (KMap.del_sub _ t), .of_jobs rfl, id, List.Subset.refl _⟩
    split
    · exact h2.endJob ‹_›
    · exact h2

theorem faultOne {t cause addr} (h : m₀.Settles m) : m₀.Settles (m.faultOne t cause addr) := by
  unfold Module.faultOne
  split
  · exact h
  · extract_lets _ m1
    have h1 : m₀.Settles m1 := .ite h h.set.set.set.set.set
    exact .dropThread (.engineSignal (.updJob (fun _ => rfl) h1.set.bump.event))

theorem stopJob {j} (h : m₀.Settles m) : m₀.Settles (m.stopJob j) := by
  unfold Module.stopJob
  refine h.foldl (fun a x ha => ?_)
  split
  exact ha.faultOne

end Module.Settles

end Sys2Proof.Machine


namespace Sys2Proof.Machine.Module.Settles

open Sys2Proof

variable {m₀ m : Module}

/-! #### Programs of the attention cores -/

theorem endLaunch {id} (h : m₀.Settles m) : m₀.Settles (m.endLaunch id) := by
  unfold Module.endLaunch
  split
  · exact h
  · exact .ite (.engineSignal (.frame h rfl)) (.frame h rfl)

theorem startNext {c} (h : m₀.Settles m) : m₀.Settles (m.startNext c) := by
  unfold Module.startNext
  extract_lets
  split
  · split
    · exact h
    · split
      · exact h.updCore
      · exact h
  · exact h

theorem endProgram {c fault} (h : m₀.Settles m) : m₀.Settles (m.endProgram c fault) := by
  unfold Module.endProgram
  extract_lets _ m1
  have h1 : m₀.Settles m1 := h.ligWithdraw.updCore
  split
  · exact h
  · extract_lets m2
    have h2 : m₀.Settles m2 := .ite h1 h1.event
    exact h2.endLaunch.startNext

/-! #### The flash -/

theorem setChan {c x} (h : m₀.Settles m) : m₀.Settles (m.setChan c x) := .frame h rfl

theorem bookSweep {c} (h : m₀.Settles m) : m₀.Settles (m.bookSweep c) := .ite h h.setChan

theorem flushChan {clean c} (h : m₀.Settles m) : m₀.Settles (m.flushChan clean c) := by
  unfold Module.flushChan
  extract_lets _ _ _ _ _ _ _ _ _ _ _ _ _ m2
  have h2 : m₀.Settles m2 := .frame h.setChan rfl
  exact h2.bump.bumpBy.bookSweep

theorem takeSeq (h : m₀.Settles m) : m₀.Settles m.takeSeq.2 := .set (.frame h rfl)

theorem change {c r} (h : m₀.Settles m) : m₀.Settles (m.change c r) := h.setChan

theorem changeNow {c ext op logical} (h : m₀.Settles m) : m₀.Settles (m.changeNow c ext op logical) := h.takeSeq.change

theorem setLoc {ext logical p} (h : m₀.Settles m) : m₀.Settles (m.setLoc ext logical p) := .ite (.frame h rfl) (.frame h rfl)

theorem placeOn {c k n} (h : m₀.Settles m) : IfSome (fun r => m₀.Settles r.2) (m.placeOn c k n) := by
  unfold Module.placeOn
  split
  · exact .some h.setChan
  · split
    · exact .none
    · extract_lets m1
      have h1 : m₀.Settles m1 := h.flushChan
      exact IfSome.map (P := fun _ => True) (fun _ _ => trivial) fun _ _ => h1.setChan

theorem ftlAcceptOn {c ext logical content} (h : m₀.Settles m) :
    IfSome m₀.Settles (m.ftlAcceptOn c ext logical content) := by
  unfold Module.ftlAcceptOn
  extract_lets
  split
  · exact .none
  · refine h.placeOn.map fun r hr => ?_
    exact .bumpBy (.frame hr.takeSeq.setChan.setLoc rfl)

theorem ftlWrite {ext logical content} (h : m₀.Settles m) : m₀.Settles (m.ftlWrite ext logical content).1 := by
  unfold Module.ftlWrite
  split
  · exact h.bump (f := Reg.FTL.READ_ONLY_REFUSALS_COUNT)
  · extract_lets chan
    clear_value chan
    split
    · exact h
    · split
      · exact h.ftlAcceptOn.get ‹_›
      · exact h.setChan

theorem ftlUnmap {ext logical} (h : m₀.Settles m) : m₀.Settles (m.ftlUnmap ext logical) := by
  unfold Module.ftlUnmap
  extract_lets _ _ m1
  have h1 : m₀.Settles m1 := .frame h rfl
  split
  · exact h1
  · exact .changeNow (.ite (.frame h1 rfl) (.frame h1 rfl))

theorem checkSpare {c} (h : m₀.Settles m) : m₀.Settles (m.checkSpare c) := by
  unfold Module.checkSpare
  extract_lets _ m1
  have h1 : m₀.Settles m1 := .ite h.set.event h
  exact .ite (.event (.set (.set (.set (.frame h1 rfl))))) h1

theorem retireBlock {c b} (h : m₀.Settles m) : m₀.Settles (m.retireBlock c b) := by
  unfold Module.retireBlock
  split
  · exact h
  · exact .checkSpare (.frame h.setChan.bump.changeNow rfl)

theorem emptied {c} (h : m₀.Settles m) : m₀.Settles (m.emptied c) := by
  unfold Module.emptied
  refine h.foldl (fun a b ha => ?_)
  exact .ite ha.setChan.retireBlock ha.setChan

theorem readOver {p} (h : m₀.Settles m) : m₀.Settles (m.readOver p) := by
  unfold Module.readOver
  split
  · exact .ite h h.emptied
  · exact h

/-! #### Frames -/

theorem hostStore {h f} (hm : m₀.Settles m) : m₀.Settles (m.hostStore h f) := by
  unfold Module.hostStore
  split
  · exact hm
  · exact .frame hm rfl

theorem putFrame {h f} (hm : m₀.Settles m) : m₀.Settles (m.putFrame h f) := by
  unfold Module.putFrame
  split
  · exact hm.ftlWrite
  · exact .frame (ite hm.hostStore hm) rfl

theorem updFrame {h g} (hm : m₀.Settles m) : m₀.Settles (m.updFrame h g) := by
  unfold Module.updFrame
  split
  · exact hm.putFrame
  · exact hm

theorem allocFrame {tier} (h : m₀.Settles m) : m₀.Settles (m.allocFrame tier).2 := by
  unfold Module.allocFrame
  split
  · exact h
  · extract_lets
    split
    rename_i x stays m1 e
    have h1 : m₀.Settles m1 := .of_snd e h.choose
    split <;> exact h1

theorem freeFrame {h} (hm : m₀.Settles m) : m₀.Settles (m.freeFrame h) := by
  unfold Module.freeFrame
  extract_lets _ _ _ m1
  have h1 : m₀.Settles m1 := .frame hm rfl
  exact .ite (.ite (.frame h1 rfl) h1.ftlUnmap) (.frame h1 rfl)

/-! #### Records to the partner and capsules -/

theorem transmit {r} (h : m₀.Settles m) : m₀.Settles (m.transmit r) := .ite h.emit.bump.bumpBy h

theorem send {kind part flags step capsule arg0 arg1 body} (h : m₀.Settles m) :
    m₀.Settles (m.send kind part flags step capsule arg0 arg1 body) := by
  unfold Module.send
  split
  · exact h.transmit
  · extract_lets _ _ _ m1
    have h1 : m₀.Settles m1 := .frame h rfl
    exact h1.transmit

theorem mirrorSlot {kind part step id arg0 arg1 body} (h : m₀.Settles m) :
    m₀.Settles (m.mirrorSlot kind part step id arg0 arg1 body) := by
  unfold Module.mirrorSlot
  extract_lets _ _ m1
  have h1 : m₀.Settles m1 := .ite h (.frame h rfl)
  exact .ite (.frame h1.send rfl) h1

theorem mirrorPlain {kind part step arg0 arg1 body} (h : m₀.Settles m) :
    m₀.Settles (m.mirrorPlain kind part step arg0 arg1 body) := .ite h.send h

theorem updSlot {s f} (h : m₀.Settles m) : m₀.Settles (m.updSlot s f) := .frame h rfl

theorem updCap {id f} (h : m₀.Settles m) : m₀.Settles (m.updCap id f) := h.updSlot

theorem markCopied {slot} (h : m₀.Settles m) : m₀.Settles (m.markCopied slot) :=
  .ite h (.frame h rfl)

theorem ckptHeader {slot} (h : m₀.Settles m) : m₀.Settles (m.ckptHeader slot) := by
  unfold Module.ckptHeader
  split
  · exact .ite (.markCopied (.bump (.frame h rfl))) h
  · exact h

theorem sendHeader {step id} (h : m₀.Settles m) : m₀.Settles (m.sendHeader step id) := h.ckptHeader.mirrorSlot

theorem writeCap {id f} (h : m₀.Settles m) : m₀.Settles (m.writeCap id f) := h.updCap.sendHeader

theorem freeLists {ls} (h : m₀.Settles m) : m₀.Settles (m.freeLists ls) := .frame h rfl

theorem dropShare {h} (hm : m₀.Settles m) : m₀.Settles (m.dropShare h) := by
  unfold Module.dropShare
  split
  · exact hm
  · exact .ite (.freeFrame (.frame hm rfl)) (.frame hm rfl)

theorem truncateTo {id n} (h : m₀.Settles m) : m₀.Settles (m.truncateTo id n) := by
  unfold Module.truncateTo
  extract_lets _ _ _ m1 _ m2
  have h1 : m₀.Settles m1 := by
    unfold m1
    refine h.foldl (fun a x ha => ?_)
    split
    exact .ite ha.dropShare ha.freeFrame
  have h2 : m₀.Settles m2 := h1.foldl (fun _ _ ha => ha.updFrame)
  exact h2.freeLists.updCap

/-! #### Transfers and moves -/

theorem startXfer {x} (h : m₀.Settles m) : m₀.Settles (m.startXfer x) := by
  unfold Module.startXfer
  extract_lets _ _ _ m1
  have h1 : m₀.Settles m1 := .frame h rfl
  split
  exact h1.reedRequest

theorem checkLeaving {h} (hm : m₀.Settles m) : m₀.Settles (m.checkLeaving h) := .ite (.freeFrame (.frame hm rfl)) hm

theorem endXfer {id} (h : m₀.Settles m) : m₀.Settles (m.endXfer id) := by
  unfold Module.endXfer
  split
  · exact h
  · extract_lets _ m1 _ _ m2 m3
    have h1 : m₀.Settles m1 := .frame h rfl
    have h2 : m₀.Settles m2 := h1.reedDrop
    have h3 : m₀.Settles m3 := .ite h2.reedRequest h2
    exact h3.checkLeaving.readOver

theorem checkPark {id} (h : m₀.Settles m) : m₀.Settles (m.checkPark id) := by
  unfold Module.checkPark
  split
  · exact h
  · extract_lets _ _ answer _ m1
    have hanswer : ∀ st a, m₀.Settles a → m₀.Settles (answer st a) := by
      intro st a ha
      unfold answer
      split
      · exact ha.fail
      · exact ha
    have h1 : m₀.Settles m1 := .frame h rfl
    split
    · exact h
    · split
      · exact hanswer _ _ h1.writeCap
      · exact .ite h (hanswer _ _ h1.writeCap)

theorem checkPlace {cmd} (h : m₀.Settles m) : m₀.Settles (m.checkPlace cmd) := by
  unfold Module.checkPlace
  extract_lets
  split
  · exact .ite h h.fail
  · exact h

theorem checkRelease {extent} (h : m₀.Settles m) : m₀.Settles (m.checkRelease extent) := by
  unfold Module.checkRelease
  split
  · exact h
  · extract_lets _ _ _ _ m1
    have h1 : m₀.Settles m1 := .frame h rfl
    split
    · exact h
    · split
      · exact .ite h1.fail h1.ok
      · exact h1

theorem moveEnded {why} (h : m₀.Settles m) : m₀.Settles (m.moveEnded why) := by
  unfold Module.moveEnded
  split
  · exact h.checkPlace
  · exact h.checkPark
  · exact h.checkRelease
  · exact h

theorem moveFailed {why st} (h : m₀.Settles m) : m₀.Settles (m.moveFailed why st) := by
  unfold Module.moveFailed
  split
  · exact h.updCmd
  · exact .ite h (.frame h rfl)
  · exact h

theorem moveCounted {why target} (h : m₀.Settles m) : m₀.Settles (m.moveCounted why target) := by
  unfold Module.moveCounted
  split
  · exact .ite h.bump (.ite h.bump h)
  · exact h.bump
  · exact .frame h rfl
  · exact h

theorem renameShared {old new} (h : m₀.Settles m) : m₀.Settles (m.renameShared old new) := .frame h rfl

theorem rehome {old new} (h : m₀.Settles m) : m₀.Settles (m.rehome old new) :=
  .frame (checkLeaving (.frame (ite h.renameShared h.updCap) rfl)) rfl

theorem dropWait {i} (h : m₀.Settles m) : m₀.Settles (m.dropWait i) := .frame h rfl

theorem abortMove {id st} (h : m₀.Settles m) : m₀.Settles (m.abortMove id st) := by
  unfold Module.abortMove
  split
  · exact h
  · extract_lets _ _ _ m2 m3
    have h2 : m₀.Settles m2 := .frame (h.foldl (fun _ _ ha => ha.endXfer)) rfl
    have h3 : m₀.Settles m3 := .ite h2.dropWait h2
    exact .ite (.frame h3 rfl) h3.moveFailed.moveEnded

theorem finishMove {id} (h : m₀.Settles m) : m₀.Settles (m.finishMove id) := by
  unfold Module.finishMove
  split
  · exact h
  · split
    · exact h
    · split
      · exact h.abortMove
      · extract_lets done
        have hdone : ∀ a, m₀.Settles a → m₀.Settles (done a) := by
          intro a ha
          exact .moveEnded (.moveCounted (.rehome (.frame ha rfl)))
        split
        · split
          · exact hdone _ h
          · split
            · exact h
            · split
              all_goals
                rename_i x m1 e
                have h1 : m₀.Settles m1 := .of_fst e h.ftlWrite
              · exact hdone _ h1
              · exact h1
              · exact h1.abortMove
              · exact h1.abortMove
        · exact hdone _ h.putFrame

theorem startMove {why source tier} (h : m₀.Settles m) : m₀.Settles (m.startMove why source tier) := by
  unfold Module.startMove
  split
  · exact .frame h rfl
  · split
    · exact h
    · split
      · exact h.moveFailed
      · exact h
      · split
        · rename_i x m1 e
          have h1 : m₀.Settles m1 := .of_snd e h.allocFrame
          exact h1.moveFailed
        · rename_i x t m1 e
          have h1 : m₀.Settles m1 := .of_snd e h.allocFrame
          extract_lets _ _ _ m2 _ m3
          have h2 : m₀.Settles m2 := .frame h1 rfl
          have h3 : m₀.Settles m3 := h2.foldl (fun _ _ ha => ha.startXfer)
          exact .ite h3.finishMove h3

theorem finishMoves (h : m₀.Settles m) : m₀.Settles m.finishMoves := by
  unfold Module.finishMoves
  extract_lets _ _ _ _ m2 m3
  have h2 : m₀.Settles m2 := .frame (h.foldl (fun _ _ ha => ha.finishMove)) rfl
  have h3 : m₀.Settles m3 := h2.foldl (fun _ _ ha => ha.startMove.moveEnded)
  exact h3.foldl (fun _ _ ha => ha.checkRelease)

theorem endRevive {r} (h : m₀.Settles m) : m₀.Settles (m.endRevive r) := by
  unfold Module.endRevive
  extract_lets _ m1
  have h1 : m₀.Settles m1 := h.foldl (fun _ _ ha => ha.endXfer)
  exact .frame (h1.foldl (fun _ _ ha => ha.abortMove)) rfl

theorem startPark {id tier back cmd} (h : m₀.Settles m) : m₀.Settles (m.startPark id tier back cmd) := by
  unfold Module.startPark
  extract_lets _ _ _ _ _ m2 _ m3
  have h2 : m₀.Settles m2 := .frame (h.writeCap.foldl (fun _ _ ha => ha.endRevive)) rfl
  have h3 : m₀.Settles m3 := h2.foldl (fun _ _ ha => .ite ha ha.startMove)
  exact h3.checkPark

/-! #### Ports and sessions -/

theorem setQueue {q x} (h : m₀.Settles m) : m₀.Settles (m.setQueue q x) := .frame h rfl

theorem enqueue {q p} (h : m₀.Settles m) : m₀.Settles (m.enqueue q p) := .ite h.setQueue.bump h.setQueue

theorem setSession {e x} (h : m₀.Settles m) : m₀.Settles (m.setSession e x) := .frame h rfl

theorem sessPut {dst own q type capsule body} (h : m₀.Settles m) : m₀.Settles (m.sessPut dst own q type capsule body) :=
  h.setSession.enqueue

theorem sessSend {dst type capsule body} (h : m₀.Settles m) : m₀.Settles (m.sessSend dst type capsule body) := by
  unfold Module.sessSend
  split
  · exact h
  · exact h.sessPut

theorem toPool {p endpoint pkt} (h : m₀.Settles m) : m₀.Settles (m.toPool p endpoint pkt) := by
  unfold Module.toPool
  split
  · exact .ite h h.enqueue
  · exact h

/-! #### Requests and their inputs -/

theorem updPart {p f} (h : m₀.Settles m) : m₀.Settles (m.updPart p f) := .frame h rfl

theorem updReq {i f} (h : m₀.Settles m) : m₀.Settles (m.updReq i f) := .frame h rfl

theorem sendReq {step i} (h : m₀.Settles m) : m₀.Settles (m.sendReq step i) := by
  unfold Module.sendReq
  split
  · exact h
  · exact h.mirrorSlot.mirrorSlot

theorem touchReq {i} (h : m₀.Settles m) : m₀.Settles (m.touchReq i) := by
  unfold Module.touchReq
  split
  · exact .ite h.updReq h.updReq.sendReq
  · exact h

theorem writeText {id f} (h : m₀.Settles m) : m₀.Settles (m.writeText id f) := by
  unfold Module.writeText
  split
  · exact .ite h.writeCap h.updCap.sendHeader
  · exact h.writeCap

theorem fixBlocks {i fedBefore} (h : m₀.Settles m) : m₀.Settles (m.fixBlocks i fedBefore) := by
  unfold Module.fixBlocks
  split
  · exact h
  · extract_lets
    refine updReq (foldl_snd (.frame h rfl) fun acc _ hacc => ?_)
    split
    rename_i x start a e
    have ha : m₀.Settles a := .of_snd e hacc.choose
    split
    · exact .frame ha rfl
    · exact ha

theorem sendInput {i toks reset} (h : m₀.Settles m) : m₀.Settles (m.sendInput i toks reset) := by
  unfold Module.sendInput
  split
  · exact h
  · extract_lets
    refine h.foldl (fun a x ha => ?_)
    split
    exact ha.mirrorSlot

theorem appendInput {i toks} (h : m₀.Settles m) : m₀.Settles (m.appendInput i toks) := by
  unfold Module.appendInput
  split
  · exact h
  · exact .ite h h.updReq.fixBlocks.sendInput

/-! #### Accounts, adapters and prefixes -/

theorem setAccount {a x} (h : m₀.Settles m) : m₀.Settles (m.setAccount a x) := .frame h rfl

theorem sendAccount {step a} (h : m₀.Settles m) : m₀.Settles (m.sendAccount step a) := h.mirrorPlain

theorem unmeasure {kind id keep} (h : m₀.Settles m) : m₀.Settles (m.unmeasure kind id keep) := .frame h rfl

theorem updAdapter {ad f} (h : m₀.Settles m) : m₀.Settles (m.updAdapter ad f) := by
  unfold Module.updAdapter
  split
  · exact h
  · extract_lets _ _ m1
    have h1 : m₀.Settles m1 := h.bumpBy.unmeasure
    exact .ite (.frame h1 rfl) (.frame h1 rfl)

theorem pins {up ps} (h : m₀.Settles m) : m₀.Settles (m.pins up ps) := h.foldl (fun _ _ ha => ha.updAdapter)

theorem followPrefix {h} (hm : m₀.Settles m) : m₀.Settles (m.followPrefix h) := by
  unfold Module.followPrefix
  split
  · exact hm
  · exact hm.foldl (fun _ _ ha => ha.startMove)

/-! #### Token rings -/

theorem wrMem {tier addr b} (h : m₀.Settles m) : m₀.Settles (m.wrMem tier addr b) := .ite (.frame h rfl) (.ite (.frame h rfl) (.frame h rfl))

theorem ringBytes {r head b} (h : m₀.Settles m) : m₀.Settles (Machine.ringBytes r head b m) := h.wrMem.wrMem

theorem drainRing {p fuel} (h : m₀.Settles m) : m₀.Settles (m.drainRing p fuel) := by
  induction fuel generalizing m with
  | zero => exact h
  | succ fuel ih =>
    unfold Module.drainRing
    extract_lets
    split
    · extract_lets
      split
      · exact ih h.ringBytes.set.updPart
      · exact h
    · exact h

theorem ringFlag {p} (h : m₀.Settles m) : m₀.Settles (m.ringFlag p) := .ite h.setBit h.clearBit

theorem toRing {p recs} (h : m₀.Settles m) : m₀.Settles (m.toRing p recs) := by
  unfold Module.toRing
  split
  · exact h
  · extract_lets m1 m2
    have h1 : m₀.Settles m1 := h.updPart
    have h2 : m₀.Settles m2 := .ringFlag (.ite h1.drainRing h1)
    split
    · exact .ite h2.msix h2
    · exact h2

theorem release {p outs} (h : m₀.Settles m) : m₀.Settles (m.release p outs) := by
  unfold Module.release
  extract_lets _ _ _ m1
  have h1 : m₀.Settles m1 := by
    unfold m1
    refine h.bumpBy.foldl (fun a e ha => ?_)
    exact .ite (ha.foldl (fun _ _ hb => hb.sessSend)) ha.bumpBy
  exact h1.toRing

/-! #### The end of a request, and its steps -/

theorem freeReq {i} (h : m₀.Settles m) : m₀.Settles (m.freeReq i) := by
  unfold Module.freeReq
  split
  · exact h
  · extract_lets _ _ _ m2 _ _ _ m4
    have h2 : m₀.Settles m2 := .frame (ite h.pins h) rfl
    have h4 : m₀.Settles m4 := .endRevive (.frame h2.mirrorSlot rfl)
    split
    · split
      · exact h4.startPark.followPrefix
      · exact h4.writeCap.followPrefix
    · exact h4

theorem endNow {i reason status} (h : m₀.Settles m) : m₀.Settles (m.endNow i reason status) := by
  unfold Module.endNow
  extract_lets m1
  have h1 : m₀.Settles m1 := h.updReq
  split
  · extract_lets m2 m3
    have h2 : m₀.Settles m2 := h1.updReq
    have h3 : m₀.Settles m3 := .ite h2 h2.bumpBy.set
    exact h3.bumpBy.release.freeReq
  · exact h1

theorem updSeq {p num i f} (h : m₀.Settles m) : m₀.Settles (m.updSeq p num i f) := h.updPart

theorem toPoolRing {p b} (h : m₀.Settles m) : m₀.Settles (m.toPoolRing p b) := by
  unfold Module.toPoolRing
  split
  · exact h
  · split
    exact h.updPart.toPool

theorem amend {p s q} (h : m₀.Settles m) : m₀.Settles (m.amend p s q) := h.toPoolRing.bump

theorem takeGrammar {i} (h : m₀.Settles m) : m₀.Settles (m.takeGrammar i) := by
  unfold Module.takeGrammar
  split
  · exact h
  · split
    · exact h.updReq.writeText
    · exact h

theorem afterStep {i} (h : m₀.Settles m) : m₀.Settles (m.afterStep i) := by
  unfold Module.afterStep
  split
  · exact h
  · extract_lets m1
    have h1 : m₀.Settles m1 := h.updReq.appendInput.takeGrammar
    exact .ite h1.touchReq h1

theorem truncateNow {c id n} (h : m₀.Settles m) : m₀.Settles (m.truncateNow c id n) := by
  unfold Module.truncateNow
  extract_lets _ m1 m2
  have h1 : m₀.Settles m1 := h.truncateTo.mirrorSlot.sendHeader
  have h2 : m₀.Settles m2 := by
    unfold m2
    split
    · exact h1.updReq.touchReq
    · exact h1
  exact h2.finishMoves.ok

theorem runTruncates {id} (h : m₀.Settles m) : m₀.Settles (m.runTruncates id) :=
  h.foldl (fun _ _ ha => .ite ha ha.truncateNow)

theorem cancelWork {p num i} (h : m₀.Settles m) : m₀.Settles (m.cancelWork p num i) := .frame h.bumpBy.bumpBy.bumpBy rfl

theorem undebit {s q} (h : m₀.Settles m) : m₀.Settles (m.undebit s q) := by
  unfold Module.undebit
  split
  · split
    · exact h
    · exact h.setAccount.sendAccount
  · exact h

theorem leaveStep {i} (h : m₀.Settles m) : m₀.Settles (m.leaveStep i) := by
  unfold Module.leaveStep
  split
  · extract_lets _ _ _ _ _ m2 _ _ _ m4
    have h2 : m₀.Settles m2 := .foldl (.frame h.updSeq.undebit.updPart.amend.cancelWork rfl) (fun _ _ ha => ha.bumpBy)
    have h4 : m₀.Settles m4 := h2.updReq.afterStep.runTruncates
    exact .ite h4.endNow h4.touchReq
  · exact h

/-! #### Fused queries, and what stops with a partition -/

theorem updFused {core id f} (h : m₀.Settles m) : m₀.Settles (m.updFused core id f) := h.updCore

theorem joinBatch {core id} (h : m₀.Settles m) : m₀.Settles (m.joinBatch core id) := by
  unfold Module.joinBatch
  extract_lets
  split
  · exact h
  · exact .ite h.updCore h.updCore

theorem takeSlots {d ordinal base slotBytes block} (h : m₀.Settles m) :
    m₀.Settles (m.takeSlots d ordinal base slotBytes block) := by
  unfold Module.takeSlots
  extract_lets
  refine h.foldl (fun a j ha => ?_)
  extract_lets _ _ _ _ a1
  have ha1 : m₀.Settles a1 := .frame ha rfl
  exact .ite ha1 (.frame ha1 rfl)

theorem gotQuery {core id block} (h : m₀.Settles m) : m₀.Settles (m.gotQuery core id block) := by
  unfold Module.gotQuery
  split
  · exact h
  · extract_lets
    split
    extract_lets m1
    have h1 : m₀.Settles m1 := .ite h.takeSlots h
    exact h1.updFused.joinBatch

theorem submitDone {run index st} (h : m₀.Settles m) : m₀.Settles (m.submitDone run index st) := by
  unfold Module.submitDone
  split
  · extract_lets _ _ m1
    have h1 : m₀.Settles m1 := .frame h rfl
    exact .ite (.frame h rfl) h1.cmdWrite.complete
  · exact .frame h rfl
  · exact h

theorem countFused {st} (h : m₀.Settles m) : m₀.Settles (m.countFused st) := by
  unfold Module.countFused
  split
  · exact h.bump
  · extract_lets m1
    have h1 : m₀.Settles m1 := h.bump
    exact .ite h1.bump (.ite h1.bump h1)

theorem admitWaiting {core} (h : m₀.Settles m) : m₀.Settles (m.admitWaiting core) := by
  unfold Module.admitWaiting
  split
  · split
    · exact .leaveStep (.countFused (.frame h rfl))
    · split
      · extract_lets _ m1
        have h1 : m₀.Settles m1 := .frame h rfl
        split
        · exact h1.updCore.gotQuery
        · exact h1
      · exact h
  · exact h

theorem progFault {c code} (h : m₀.Settles m) : m₀.Settles (m.progFault c code) := h.endProgram.bump.set

theorem stopDue {c} (h : m₀.Settles m) : m₀.Settles (m.stopDue c) := by
  unfold Module.stopDue
  split
  · exact .ite h (.getD (IfSome.map (P := fun _ => True) (fun _ _ => trivial) fun _ _ => h.progFault) h)
  · exact h

theorem fusedOver {core launch st} (h : m₀.Settles m) : m₀.Settles (m.fusedOver core launch st) := by
  unfold Module.fusedOver
  split
  · exact h
  · exact .ite h (.ite h.updCore.stopDue (.progFault (.frame h rfl)))

theorem newSlice {c} (h : m₀.Settles m) : m₀.Settles (m.newSlice c) := .ite h.updCore.startNext h

theorem forgetWalks {core d} (h : m₀.Settles m) : m₀.Settles (m.forgetWalks core d) := h.updCore

theorem expectMet {id} (h : m₀.Settles m) : m₀.Settles (m.expectMet id) := .frame h rfl

theorem endFused {core id st} (h : m₀.Settles m) : m₀.Settles (m.endFused core id st) := by
  unfold Module.endFused
  split
  · exact h
  · extract_lets m1 m2
    have h1 : m₀.Settles m1 := h.updCore.countFused
    have h2 : m₀.Settles m2 := by
      unfold m2
      split
      · exact h1.submitDone
      · exact h1.fusedOver
      · exact .ite h1.expectMet (.ite h1 h1.leaveStep)
    exact h2.forgetWalks.admitWaiting.newSlice

theorem cancelFused {p} (h : m₀.Settles m) : m₀.Settles (m.cancelFused p) := by
  unfold Module.cancelFused
  extract_lets _ _ m1 m2
  have h1 : m₀.Settles m1 := .frame h rfl
  have h2 : m₀.Settles m2 := by
    unfold m2
    refine h1.foldl (fun a w ha => ?_)
    extract_lets b
    have hb : m₀.Settles b := ha.countFused
    split
    · exact hb.submitDone
    · exact hb
  exact h2.foldl (fun _ _ ha => ha.foldl (fun _ _ ha => ha.endFused))

theorem stopPrograms {p} (h : m₀.Settles m) : m₀.Settles (m.stopPrograms p) := by
  unfold Module.stopPrograms
  extract_lets
  refine h.foldl (fun a k ha => ?_)
  extract_lets _ a1
  have ha1 : m₀.Settles a1 := ha.updCore.foldl (fun _ _ hb => hb.endLaunch)
  exact .ite ha1.progFault ha1

/-! #### Perturbation slots -/

theorem perturbTime (h : m₀.Settles m) : m₀.Settles m.perturbTime := .frame (ite h h.bumpBy) rfl

theorem clearPerturb {p} (h : m₀.Settles m) : m₀.Settles (m.clearPerturb p) := .frame h.perturbTime rfl

end Sys2Proof.Machine.Module.Settles


namespace Sys2Proof.Machine

open Sys2Proof

/-! ### A partition's reset (R565) -/

namespace Module.Settles

variable {m₀ m n : Module}

theorem partReset_stops (p : Nat) (h : m₀.Settles m) : m₀.Settles (m.partReset p) := by
  unfold Module.partReset
  extract_lets m1 _ m2 _ m3 _ m4 m5
  have h1 : m₀.Settles m1 := h.clearPerturb.foldl (fun _ _ ha => ha.foldl (fun _ _ hb => hb.reedDrop))
  have h2 : m₀.Settles m2 := h1.foldl (fun _ _ ha => ha.leaveStep)
  have h3 : m₀.Settles m3 := .cancelFused (.stopPrograms (h2.foldl (fun _ _ ha => ha.stopJob)))
  have h4 : m₀.Settles m4 := h3.foldl (fun _ _ ha => ha.ligFreeIndex)
  have h5 : m₀.Settles m5 := h4.foldl (fun _ _ ha => ha.updCore)
  exact h5.setBit.blockEvent

/-- What one step of a fold takes out of a list stays out. -/
theorem foldl_leaves_out {α : Type} {F : Module → List (Nat × Nat)} {W : Module → Prop} {f : Module → α → Module}
    {P : α → Nat × Nat → Prop} (hkeep : ∀ (a : Module) x, a.Settles (f a x)) (hF : ∀ a b : Module, a.Settles b → F b ⊆ F a)
    (hW : ∀ a b : Module, a.Settles b → W a → W b) (hout : ∀ a x, W a → ∀ z ∈ F (f a x), ¬P x z) (l : List α) (hw : W m) :
    ∀ x ∈ l, ∀ z ∈ F (l.foldl f m), ¬P x z := by
  induction l generalizing m with
  | nil => simp
  | cons y ys ih =>
    intro x hx z hz
    have hrest : (f m y).Settles (ys.foldl f (f m y)) := (refl _).foldl fun a x ha => ha.trans (hkeep a x)
    rcases List.mem_cons.mp hx with rfl | hx
    · exact hout m x hw z (hF _ _ hrest hz)
    · exact ih (hW _ _ (hkeep m y) hw) x hx z hz

end Module.Settles

section
variable {m : Module}

/-- A key without a value stands nowhere in a table in rising order. -/
theorem KMap.ne_of_get_none {α : Type} {l : KMap α} {k : Nat} (hw : l.wf = true) (h : l.get k = none) {z : Nat × α} (hz : z ∈ l) :
    z.1 ≠ k := by
  rintro rfl
  exact absurd ((KMap.get_of_mem hw hz).symm.trans h) (by simp)

theorem dropThread_places (t : Nat) (hw : m.strand.threads.wf = true) : ∀ z ∈ (m.dropThread t).strand.places, z.1 ≠ t := by
  intro z hz
  unfold Module.dropThread at hz
  split at hz
  · next hnone =>
    obtain ⟨x, hx, rfl⟩ := List.mem_map.mp hz
    exact KMap.ne_of_get_none hw hnone hx
  · next th _ =>
    extract_lets m1 _ m2 at hz
    have h2 : m2.Settles (if m2.jobEmpty th.job then m2.endJob th.job else m2) := by
      split
      · exact (Module.Settles.refl m2).endJob ‹_›
      · exact .refl m2
    obtain ⟨x, hx, rfl⟩ := List.mem_map.mp (h2.places hz)
    exact KMap.ne_of_get_none (KMap.del_wf t hw) (KMap.get_del_same t hw) hx

theorem faultOne_places (t cause addr : Nat) (hw : m.strand.threads.wf = true) :
    ∀ z ∈ (m.faultOne t cause addr).strand.places, z.1 ≠ t := by
  intro z hz
  unfold Module.faultOne at hz
  split at hz
  · next hnone =>
    obtain ⟨x, hx, rfl⟩ := List.mem_map.mp hz
    exact KMap.ne_of_get_none hw hnone hx
  · extract_lets _ m1 at hz
    have h1 : m.Settles m1 := .ite (.refl m) (Module.Settles.refl m).set.set.set.set.set
    clear_value m1
    refine dropThread_places t (Module.Settles.threads (m := m) ?_ hw) z hz
    exact .engineSignal (.updJob (fun _ => rfl) h1.set.bump.event)

theorem stopJob_places (j : Nat) (hw : m.strand.threads.wf = true) : ∀ z ∈ (m.stopJob j).strand.places, z.2 ≠ j := by
  rintro z hz rfl
  obtain ⟨x, hx, rfl⟩ := List.mem_map.mp ((Module.Settles.refl m).stopJob.places hz)
  have hmem : x ∈ m.strand.threads.filter (fun (_, t) => t.job == x.2.job) := List.mem_filter.mpr ⟨hx, beq_self_eq_true _⟩
  exact Module.Settles.foldl_leaves_out (F := fun a => a.strand.places) (W := fun a => a.strand.threads.wf = true)
    (f := fun a (y : Nat × Thread) => a.faultOne y.1 0x0D 0) (P := fun y z => z.1 = y.1) (fun a _ => (Module.Settles.refl a).faultOne)
    (fun _ _ h => h.places) (fun _ _ h => h.threads) (fun a y ha => faultOne_places y.1 0x0D 0 ha) _ hw x hmem _ hz rfl

theorem ligFreeIndex_owners (i : Nat) (hw : m.lig.objs.wf = true) : ∀ z ∈ (m.ligFreeIndex i).lig.owners, z.1 ≠ i := by
  intro z hz
  obtain ⟨x, hx, rfl⟩ := List.mem_map.mp hz
  exact KMap.ne_of_get_none (KMap.del_wf i hw) (KMap.get_del_same i hw) hx

/-- No thread is left of a job that the partition had. -/
theorem stopJobs_places (p : Nat) (hw : m.strand.threads.wf = true) {j : Nat} {x : Job} (hx : m.strand.jobs.get j = some x)
    (hp : x.partition = p) :
    ∀ z ∈ (((m.strand.jobs.filter (fun (_, j) => j.partition == p)).map (·.1)).foldl (fun (a : Module) j => a.stopJob j) m).strand.places,
      z.2 ≠ j := by
  have hmem : j ∈ (m.strand.jobs.filter (fun (_, j) => j.partition == p)).map (·.1) :=
    List.mem_map.mpr ⟨(j, x), List.mem_filter.mpr ⟨KMap.mem_of_get hx, beq_iff_eq.mpr hp⟩, rfl⟩
  exact Module.Settles.foldl_leaves_out (F := fun a => a.strand.places) (W := fun a => a.strand.threads.wf = true)
    (P := fun j z => z.2 = j) (fun a _ => (Module.Settles.refl a).stopJob) (fun _ _ h => h.places) (fun _ _ h => h.threads)
    (fun a j ha => stopJob_places j ha) _ hw j hmem

/-- No object is left of the partition. -/
theorem freeObjs_owners (p : Nat) (hw : m.lig.objs.wf = true) :
    ∀ z ∈ (((m.lig.objs.filter (fun (_, o) => o.partition == p)).map (·.1)).foldl (fun (a : Module) i => a.ligFreeIndex i) m).lig.owners,
      z.2 ≠ p := by
  rintro z hz rfl
  have hkeep : m.Settles (((m.lig.objs.filter (fun (_, o) => o.partition == z.2)).map (·.1)).foldl
      (fun (a : Module) i => a.ligFreeIndex i) m) := (Module.Settles.refl m).foldl fun _ _ ha => ha.ligFreeIndex
  obtain ⟨x, hx, rfl⟩ := List.mem_map.mp (hkeep.owners hz)
  have hmem : x.1 ∈ (m.lig.objs.filter (fun (_, o) => o.partition == x.2.partition)).map (·.1) :=
    List.mem_map.mpr ⟨x, List.mem_filter.mpr ⟨hx, beq_self_eq_true _⟩, rfl⟩
  exact Module.Settles.foldl_leaves_out (F := fun a => a.lig.owners) (W := fun a => a.lig.objs.wf = true)
    (P := fun i z => z.1 = i) (fun a _ => (Module.Settles.refl a).ligFreeIndex) (fun _ _ h => h.owners) (fun _ _ h => h.objs)
    (fun a i ha => ligFreeIndex_owners i ha) _ hw _ hmem _ hz rfl

/-- A partition's reset leaves no thread of its jobs and no object of it. -/
theorem Module.partReset_clears (p : Nat) (hw : m.strand.threads.wf = true) (hobjs : m.lig.objs.wf = true) :
    (∀ z ∈ (m.partReset p).strand.places, ∀ j, m.strand.jobs.get z.2 = some j → j.partition ≠ p) ∧
    (∀ z ∈ (m.partReset p).lig.owners, z.2 ≠ p) := by
  unfold Module.partReset
  extract_lets m1 _ m2 _ m3 _ m4 m5
  have h2 : m.Settles m2 := ((Settles.refl m).clearPerturb.foldl (fun _ _ ha => ha.foldl (fun _ _ hb => hb.reedDrop))).foldl
    (fun _ _ ha => ha.leaveStep)
  have h3 : m2.Settles m3 := .cancelFused (.stopPrograms ((Settles.refl m2).foldl (fun _ _ ha => ha.stopJob)))
  have h5 : m4.Settles ((m5.setBit Reg.TEST.RESET_STATE_DONE p).blockEvent 22) :=
    ((Settles.refl m4).foldl (fun _ _ ha => ha.updCore)).setBit.blockEvent
  have h4 : m3.Settles m4 := (Settles.refl m3).foldl (fun _ _ ha => ha.ligFreeIndex)
  refine ⟨fun z hz j hj hp => ?_, fun z hz => ?_⟩
  · have hz2 := h3.places (h4.places (h5.places hz))
    rcases h2.jobs _ j hj with ⟨y, hy, hyp⟩ | hnone
    · have hstop := (Settles.cancelFused (p := p) (.stopPrograms (p := p) (.refl _))).places (h4.places (h5.places hz))
      exact stopJobs_places p (h2.threads hw) hy (hyp.trans hp) z hstop rfl
    · exact hnone z hz2 rfl
  · exact freeObjs_owners p (h3.objs (h2.objs hobjs)) z (h5.owners hz)

theorem Module.partReset_done (p : Nat) (hp : p < 8) : bit ((m.partReset p).get Reg.TEST.RESET_STATE_DONE) p = true := by
  obtain ⟨k, hk⟩ : ∃ k, m.partReset p = (Module.setBit Reg.TEST.RESET_STATE_DONE p k).blockEvent 22 := ⟨_, rfl⟩
  have hbit : ((k.get Reg.TEST.RESET_STATE_DONE ||| 2 ^ p) % 2 ^ 8).testBit p = true := by
    rw [Nat.testBit_mod_two_pow, Nat.testBit_or, Nat.testBit_two_pow_self, decide_eq_true hp, Bool.or_true, Bool.and_true]
  have hne : (k.get Reg.TEST.RESET_STATE_DONE ||| 2 ^ p) % 2 ^ 8 ≠ 0 := by
    intro h0
    rw [h0] at hbit
    simp at hbit
  have hget : (Module.setBit Reg.TEST.RESET_STATE_DONE p k).get Reg.TEST.RESET_STATE_DONE =
      (k.get Reg.TEST.RESET_STATE_DONE ||| 2 ^ p) % 2 ^ 8 :=
    Module.get_set_nonzero (f := Reg.TEST.RESET_STATE_DONE) (by decide) (by decide) (by decide) hne
  rw [hk, bit_eq_testBit, Module.get, Module.reg, Module.blockEvent_regs]
  exact (congrArg (fun v => v.testBit p) hget).trans hbit

end

end Sys2Proof.Machine


namespace Sys2Proof.Machine

open Sys2Proof

/-! ### What the flash does on input power (R299, R562) -/

/-- n is m but for the registers and the flash. -/
def Module.OnlyFlash (m n : Module) : Prop := n = { m with regs := n.regs, ftl := n.ftl }

namespace Module.OnlyFlash

variable {m₀ m : Module}

theorem refl (m : Module) : m.OnlyFlash m := rfl

theorem trans {n : Module} (h : m₀.OnlyFlash m) (h' : m.OnlyFlash n) : m₀.OnlyFlash n := by
  rw [OnlyFlash] at h h' ⊢
  rw [h', h]

/-- What is neither a register nor the flash is as before. -/
theorem same {α : Type} (h : m₀.OnlyFlash m) (F : Module → α) (hF : ∀ r f, F { m₀ with regs := r, ftl := f } = F m₀ := by
    intros; rfl) : F m = F m₀ := by
  rw [OnlyFlash] at h
  rw [h]
  exact hF _ _

theorem flash {r f} (h : m₀.OnlyFlash m) : m₀.OnlyFlash { m with regs := r, ftl := f } := h.trans rfl

theorem onlyRegs {n : Module} (h : m₀.OnlyFlash m) (hr : m.OnlyRegs n) : m₀.OnlyFlash n := by
  rw [OnlyRegs] at hr
  rw [hr]
  exact h.flash

theorem ite {c : Prop} [Decidable c] {a b : Module} (ha : m₀.OnlyFlash a) (hb : m₀.OnlyFlash b) : m₀.OnlyFlash (if c then a else b) := by
  split <;> assumption

theorem foldl {α : Type} {f : Module → α → Module} {l : List α} (h : m₀.OnlyFlash m)
    (hf : ∀ a x, m₀.OnlyFlash a → m₀.OnlyFlash (f a x)) : m₀.OnlyFlash (l.foldl f m) :=
  List.foldlRecOn _ _ h fun a ha x _ => hf a x ha

theorem bumpBy {f k} (h : m₀.OnlyFlash m) : m₀.OnlyFlash (m.bumpBy f k) := h.onlyRegs ((OnlyRegs.refl m).bumpBy f k)
theorem bump {f} (h : m₀.OnlyFlash m) : m₀.OnlyFlash (m.bump f) := h.onlyRegs ((OnlyRegs.refl m).bump f)
theorem setChan {c x} (h : m₀.OnlyFlash m) : m₀.OnlyFlash (m.setChan c x) := h.flash
theorem bookSweep {c} (h : m₀.OnlyFlash m) : m₀.OnlyFlash (m.bookSweep c) := .ite h h.setChan
theorem change {c r} (h : m₀.OnlyFlash m) : m₀.OnlyFlash (m.change c r) := h.setChan
theorem setLoc {ext logical p} (h : m₀.OnlyFlash m) : m₀.OnlyFlash (m.setLoc ext logical p) := .ite h.flash h.flash

theorem flushChan {clean c} (h : m₀.OnlyFlash m) : m₀.OnlyFlash (m.flushChan clean c) := by
  unfold Module.flushChan
  extract_lets _ _ _ _ _ _ _ _ _ _ _ _ _ m2
  have h2 : m₀.OnlyFlash m2 := h.flash
  exact h2.bump.bumpBy.bookSweep

theorem programmed {c u} (h : m₀.OnlyFlash m) : m₀.OnlyFlash (m.programmed c u) := by
  unfold Module.programmed
  extract_lets _ m1
  have h1 : m₀.OnlyFlash m1 := h.setChan
  split
  · exact .ite h1.setLoc.change h1
  · exact h1.change

theorem holdupFlush (h : m₀.OnlyFlash m) : m₀.OnlyFlash m.holdupFlush := by
  have hprograms : m₀.OnlyFlash m.holdupPrograms := by
    refine h.foldl fun a c ha => ?_
    extract_lets _ _ _ _ _ a1
    have ha1 : m₀.OnlyFlash a1 := ha.flash.bumpBy
    exact ha1.setChan.foldl fun _ _ hb => hb.programmed
  exact (hprograms.foldl fun _ _ ha => ha.flushChan).flash

end Module.OnlyFlash

/-! ### What the recorder keeps (R517) -/

/-- Every valid record of m is one of n, whose sectors stand in rising order when those of m do; and what a reset keeps of the
security block, the power block and the count of power cycles is as in m. -/
structure Module.Retains (m n : Module) : Prop where
  secur : n.secur = m.secur
  power : n.power = m.power
  cycles : n.ev.powerCycles = m.ev.powerCycles
  sectors : m.ev.sectors.wf = true → n.ev.sectors.wf = true
  records : m.ev.sectors.wf = true → ∀ r ∈ m.validRecords, r ∈ n.validRecords

section
variable {m : Module}

theorem mem_validRecords {r : EvRecord} : r ∈ m.validRecords ↔ ∃ z ∈ m.ev.sectors, (r, .valid) ∈ z.2.records := by
  simp only [Module.validRecords, KMap.vals, List.mem_flatMap, List.mem_map, List.mem_filterMap]
  constructor
  · rintro ⟨s, ⟨z, hz, rfl⟩, ⟨r', k⟩, hk, hr⟩
    obtain ⟨rfl, rfl⟩ : k = .valid ∧ r' = r := by simpa using hr
    exact ⟨z, hz, hk⟩
  · rintro ⟨z, hz, hr⟩
    exact ⟨z.2, ⟨z, hz, rfl⟩, (r, .valid), hr, by simp⟩

/-- A sector that is replaced by one with its records keeps every record. -/
theorem validRecords_putSector {i : Nat} {s : NorSector} {ev : EvSt} (hw : m.ev.sectors.wf = true)
    (hev : ev.sectors = m.ev.sectors.put i s) (hs : ∀ x, m.ev.sectors.get i = some x → ∀ r ∈ x.records, r ∈ s.records) :
    ∀ r ∈ m.validRecords, r ∈ ({ m with ev := ev } : Module).validRecords := by
  intro r hr
  obtain ⟨z, hz, hrz⟩ := mem_validRecords.mp hr
  refine mem_validRecords.mpr ?_
  have hget := KMap.get_of_mem hw hz
  by_cases hi : z.1 = i
  · refine ⟨(i, s), KMap.mem_of_get ?_, hs z.2 (hi ▸ hget) _ hrz⟩
    rw [hev, KMap.get_put_same]
  · refine ⟨z, KMap.mem_of_get ?_, hrz⟩
    rw [hev, KMap.get_put_other _ _ hi, hget]

theorem openSector_mem {z : Nat × NorSector} (h : m.openSector = some z) : z ∈ m.ev.sectors := by
  unfold Module.openSector at h
  suffices ∀ (l : KMap NorSector) (b : Option (Nat × NorSector)), l.foldl _ b = some z → b = some z ∨ z ∈ l from
    (this _ _ h).resolve_left (by simp)
  intro l
  induction l with
  | nil => exact fun b hb => .inl hb
  | cons y ys ih =>
    intro b hb
    rcases ih _ hb with hy | hy
    · dsimp only at hy
      split at hy
      · exact .inl hy
      · split at hy
        · split at hy
          · exact .inr (by simp [← Option.some.inj hy])
          · exact .inl hy
        · exact .inr (by simp [← Option.some.inj hy])
    · exact .inr (List.mem_cons_of_mem _ hy)

theorem lowestFree_go_le {α : Type} (l : KMap α) (k : Nat) : k ≤ KMap.lowestFree.go l k := by
  induction l generalizing k with
  | nil => exact le_rfl
  | cons x xs ih =>
    unfold KMap.lowestFree.go
    split
    · exact ih k
    · split
      · exact (Nat.le_succ k).trans (ih _)
      · exact le_rfl

/-- The lowest free key holds no value. -/
theorem get_lowestFree {α : Type} {l : KMap α} {lo hi i : Nat} (hw : l.wf = true) (h : l.lowestFree lo hi = some i) : l.get i = none := by
  have hgo : ∀ (l : KMap α) (k : Nat), l.wf = true → l.get (KMap.lowestFree.go l k) = none := by
    intro l
    induction l with
    | nil => exact fun _ _ => rfl
    | cons x xs ih =>
      intro k hw
      have hxs := KMap.wf_tail hw
      have habove := KMap.wf_above hw
      have hle := lowestFree_go_le xs k
      have hle' := lowestFree_go_le xs (k + 1)
      unfold KMap.lowestFree.go
      split
      · rw [KMap.get, if_neg (by simp; omega)]
        exact ih k hxs
      · split
        · next hk =>
          have hxk : x.1 = k := by simpa using hk
          rw [KMap.get, if_neg (by simp; omega)]
          exact ih (k + 1) hxs
        · next hlt hne =>
          refine KMap.get_above fun z hz => ?_
          have hne' : x.1 ≠ k := by simpa using hne
          rcases List.mem_cons.mp hz with rfl | hz
          · omega
          · have := habove z hz
            omega
  unfold KMap.lowestFree at h
  obtain ⟨-, rfl⟩ : _ ∧ KMap.lowestFree.go l lo = i := by simpa using h
  exact hgo l lo hw

end

namespace Module.Retains

variable {m₀ m : Module}

theorem refl (m : Module) : m.Retains m := ⟨rfl, rfl, rfl, id, fun _ _ h => h⟩

theorem trans {n : Module} (h : m₀.Retains m) (h' : m.Retains n) : m₀.Retains n :=
  ⟨h'.secur.trans h.secur, h'.power.trans h.power, h'.cycles.trans h.cycles, fun hw => h'.sectors (h.sectors hw),
    fun hw r hr => h'.records (h.sectors hw) r (h.records hw r hr)⟩

theorem of_same {n : Module} (hsec : n.secur = m.secur) (hpow : n.power = m.power) (hcyc : n.ev.powerCycles = m.ev.powerCycles)
    (hsect : n.ev.sectors = m.ev.sectors) : m.Retains n :=
  ⟨hsec, hpow, hcyc, fun hw => hsect ▸ hw, fun _ r hr => by rw [Module.validRecords, hsect]; exact hr⟩

theorem flash {n : Module} (h : m₀.Retains m) (hf : m.OnlyFlash n) : m₀.Retains n :=
  h.trans (.of_same (hf.same (·.secur)) (hf.same (·.power)) (hf.same (·.ev.powerCycles)) (hf.same (·.ev.sectors)))

theorem onlyRegs {n : Module} (h : m₀.Retains m) (hr : m.OnlyRegs n) : m₀.Retains n := h.flash ((OnlyFlash.refl m).onlyRegs hr)

theorem ite {c : Prop} [Decidable c] {a b : Module} (ha : m₀.Retains a) (hb : m₀.Retains b) : m₀.Retains (if c then a else b) := by
  split <;> assumption

theorem set {f v} (h : m₀.Retains m) : m₀.Retains (m.set f v) := h.onlyRegs ((OnlyRegs.refl m).set f v)
theorem bump {f} (h : m₀.Retains m) : m₀.Retains (m.bump f) := h.onlyRegs ((OnlyRegs.refl m).bump f)

theorem blockEvent {b} (h : m₀.Retains m) : m₀.Retains (m.blockEvent b) :=
  h.trans (.of_same (Module.blockEvent_secur b m) (Module.blockEvent_power b m) (congrArg EvSt.powerCycles (Module.blockEvent_ev b m))
    (congrArg EvSt.sectors (Module.blockEvent_ev b m)))

theorem offer {type part sev body} (h : m₀.Retains m) : m₀.Retains (m.offer type part sev body) := by
  refine h.trans ?_
  unfold Module.offer
  extract_lets _ _ m1 m2
  split
  · exact .of_same rfl rfl rfl rfl
  · refine bump ?_
    exact .of_same rfl rfl rfl rfl
  · have h1 : m.Retains m1 := bump (refl m)
    have h2 : m.Retains m2 := h1.set
    exact .ite h1 (h2.trans (.of_same rfl rfl rfl rfl))

theorem event {type part sev arg0 arg1} (h : m₀.Retains m) : m₀.Retains (m.event type part sev arg0 arg1) :=
  .blockEvent (.ite h.offer h.offer)

/-- A sector that is replaced by one with its records, or put at a free place, keeps what stands. -/
theorem putSector {i : Nat} {s : NorSector} {ev : EvSt} (hev : ev.sectors = m.ev.sectors.put i s) (hcyc : ev.powerCycles = m.ev.powerCycles)
    (hs : m.ev.sectors.wf = true → ∀ x, m.ev.sectors.get i = some x → ∀ r ∈ x.records, r ∈ s.records) (h : m₀.Retains m) :
    m₀.Retains { m with ev := ev } :=
  h.trans ⟨rfl, rfl, hcyc, fun hw => hev ▸ KMap.put_wf i s hw, fun hw => validRecords_putSector hw hev (hs hw)⟩

/-- An open sector is the one that stands at its place. -/
theorem records_of_open {i : Nat} {s x : NorSector} (ho : m.openSector = some (i, s)) (hw : m.ev.sectors.wf = true)
    (hx : m.ev.sectors.get i = some x) : x = s :=
  Option.some.inj (hx.symm.trans (KMap.get_of_mem hw (openSector_mem ho)))

theorem program {r} (h : m₀.Retains m) : m₀.Retains (m.program r) := by
  unfold Module.program
  extract_lets _ _ m0
  have h0 : m₀.Retains m0 := by
    unfold m0
    split
    · next i s ho =>
      refine .ite h (h.putSector rfl rfl fun hw x hx r hr => ?_)
      rw [records_of_open ho hw hx] at hr
      exact hr
    · exact h
  clear_value m0
  split
  · next i s ho =>
    refine h0.putSector rfl rfl fun hw x hx r hr => List.mem_append_left _ ?_
    rw [records_of_open ho hw hx] at hr
    exact hr
  · split
    · next i hfree =>
      refine putSector rfl rfl (fun hw x hx => ?_) (h0.trans ?_)
      · exact absurd (hx.symm.trans (get_lowestFree hw hfree)) (by simp)
      · exact .of_same rfl rfl rfl rfl
    · exact h0

theorem recordWrite (h : m₀.Retains m) : m₀.Retains (Machine.recordWrite m) := by
  have hlost : ∀ a, m₀.Retains a → m₀.Retains a.reportLost := by
    intro a ha
    unfold Module.reportLost
    split
    · exact ha
    · extract_lets m1
      have h1 : m₀.Retains m1 := ha.event
      exact h1.trans (.of_same rfl rfl rfl rfl)
  unfold Machine.recordWrite
  split
  · exact h
  · split
    · refine hlost _ (set (set (bump ?_)))
      exact h.program.trans (.of_same rfl rfl rfl rfl)
    · exact h.set.blockEvent

theorem writeQueue {k} (h : m₀.Retains m) : m₀.Retains (m.writeQueue k) := by
  induction k generalizing m with
  | zero => exact h
  | succ k ih =>
    unfold Module.writeQueue
    exact .ite h (ih h.recordWrite)

end Module.Retains

/-! ### A module's reset (R562, R563) -/

section
variable {m : Module}

/-- What the module holds when everything that a reset loses is about to go. -/
def Module.flushed (m : Module) : Module := m.holdupFlush.writeQueue m.holdupFlush.ev.queue.length

theorem Module.retains_flushed (m : Module) : m.Retains m.flushed :=
  ((Retains.refl m).flash (OnlyFlash.refl m).holdupFlush).writeQueue

theorem Module.resetTo_eq (cause : Nat) (m : Module) : m.resetTo cause =
    { m.flushed.wiped with power := { m.flushed.wiped.power with phase := .held, cause := cause } } := by
  rw [Module.resetTo, Module.flushed]

end

end Sys2Proof.Machine


namespace Sys2Proof.Machine

open Sys2Proof

/-! ### The rows of a module's reset (R560 to R563) -/

section
variable {m k : Module} {cause : Nat} {rn pn : Bool}

/-- What stands when k has lost what a reset loses, with the cause and the pins that hold it. -/
def Module.heldBy (cause : Nat) (rn pn : Bool) (k : Module) : Module :=
  { k.wiped with power := { k.wiped.power with phase := .held, cause := cause, resetN := rn, perstN := pn } }

theorem Module.clkAfter_heldBy (old : Clk) : (k.heldBy cause rn pn).clkAfter old =
    { k.heldBy cause rn pn with clk := ⟨0, 0, old.mono⟩ } := rfl

theorem Module.heldBy_own : { k.wiped with power := { k.wiped.power with phase := .held, cause := cause } } =
    k.heldBy cause k.power.resetN k.power.perstN := rfl

theorem Module.heldBy_resetN : { k.heldBy cause rn pn with power := { (k.heldBy cause rn pn).power with resetN := true } } =
    k.heldBy cause true pn := rfl

theorem Module.heldBy_perstN : { k.heldBy cause rn pn with power := { (k.heldBy cause rn pn).power with perstN := true } } =
    k.heldBy cause rn true := rfl

theorem Module.resetTo_heldBy (cause : Nat) (m : Module) :
    m.resetTo cause = m.flushed.heldBy cause m.flushed.power.resetN m.flushed.power.perstN := by
  rw [Module.resetTo_eq, Module.heldBy_own]

theorem resetNLow_live (h : m.live = true) : resetNLow m = m.flushed.heldBy 1 true m.flushed.power.perstN := by
  rw [resetNLow, if_pos h, Module.resetTo_heldBy, Module.heldBy_resetN]

theorem perstNLow_live (h : m.live = true) : perstNLow m = m.flushed.heldBy 2 m.flushed.power.resetN true := by
  rw [perstNLow, if_pos h, Module.resetTo_heldBy, Module.heldBy_perstN]

theorem resetWrite_module {v : Nat} (hbar : m.barUp = true) (hkey : v % 65536 = 0x5A5A) (hm : bit v 24 = true) :
    resetWrite v m = m.resetTo 3 := by
  have hkey' : bits v 15 0 = 0x5A5A := by simpa [bits] using hkey
  simp [resetWrite, hbar, hkey', hm]

theorem resetWrite_keyless {v : Nat} (hbar : m.barUp = true) (hkey : v % 65536 ≠ 0x5A5A) :
    resetWrite v m = m.dropWrite Reg.GLOBAL.RESET_KEY.off := by
  have hkey' : bits v 15 0 ≠ 0x5A5A := by simpa [bits] using hkey
  simp [resetWrite, hbar, hkey']

theorem resetWrite_partition {v p : Nat} (hbar : m.barUp = true) (hp : p < 8) (hv : v = 0x5A5A + 2 ^ (16 + p)) (hpres : m.present p = true) :
    resetWrite v m = m.partReset p := by
  have hparts : ∀ p < 8, bits (0x5A5A + 2 ^ (16 + p)) 15 0 = 0x5A5A ∧ bit (0x5A5A + 2 ^ (16 + p)) 24 = false ∧
      setBitsOf 8 (bits (0x5A5A + 2 ^ (16 + p)) 23 16) = [p] := by decide
  obtain ⟨hkey, hmod, hset⟩ := hparts p hp
  subst hv
  simp [resetWrite, hbar, hkey, hmod, hset, hpres]

/-- What a row leaves that resets the module with a cause. -/
theorem exec_reset_shows {s : State} {i : Instr} (hret : s.m.Retains k)
    (hexec : exec i s = .next { s with m := (k.heldBy cause rn pn).clkAfter s.m.clk }) :
    ∃ t, exec i s = .next t ∧ t.pending = s.pending ∧ t.m.power.phase = .held ∧ t.m.power.cause = cause ∧
      t.m.power.resetN = rn ∧ t.m.power.perstN = pn ∧ t.m.hbm = [] ∧ t.m.lpddr = [] ∧ t.m.caps = Module.reset.caps ∧
      t.m.steps = Module.reset.steps ∧ t.m.strand = Module.reset.strand ∧ t.m.mirror = Module.reset.mirror ∧ t.m.clk.now = 0 ∧
      t.m.secur.storedParts = s.m.secur.storedParts ∧ t.m.secur.creds = s.m.secur.creds ∧
      t.m.secur.stateKeys = s.m.secur.stateKeys ∧ t.m.power.margin = s.m.power.margin ∧
      t.m.ev.powerCycles = s.m.ev.powerCycles ∧
      (s.m.ev.sectors.wf = true → ∀ r ∈ s.m.validRecords, r ∈ t.m.validRecords) := by
  rw [Module.clkAfter_heldBy] at hexec
  have hparts : k.secur.storedParts = s.m.secur.storedParts := by rw [hret.secur]
  have hcreds : k.secur.creds = s.m.secur.creds := by rw [hret.secur]
  have hkeys : k.secur.stateKeys = s.m.secur.stateKeys := by rw [hret.secur]
  have hmargin : k.power.margin = s.m.power.margin := by rw [hret.power]
  exact ⟨_, hexec, rfl, rfl, rfl, rfl, rfl, rfl, rfl, rfl, rfl, rfl, rfl, rfl, hparts, hcreds, hkeys, hmargin, hret.cycles,
    hret.records⟩

/-- The three rows that reset a running module. -/
theorem exec_reset_rows {s : State} (hl : s.m.live = true) :
    exec .resetNLow s = .next { s with m := (s.m.flushed.heldBy 1 true s.m.power.perstN).clkAfter s.m.clk } ∧
    exec .perstNLow s = .next { s with m := (s.m.flushed.heldBy 2 s.m.power.resetN true).clkAfter s.m.clk } ∧
    ∀ v, s.m.host.linkUp = true → s.m.host.d3hot = false → v % 65536 = 0x5A5A → bit v 24 = true → exec (.moduleReset v) s =
      .next { s with m := (s.m.flushed.heldBy 3 s.m.power.resetN s.m.power.perstN).clkAfter s.m.clk } := by
  have hpower := s.m.retains_flushed.power
  refine ⟨?_, ?_, fun v hup hd hkey hm => ?_⟩
  · have hexec : exec .resetNLow s = runPower resetNLow s := rfl
    rw [hexec, runPower, resetNLow_live hl, hpower]
  · have hexec : exec .perstNLow s = runPower perstNLow s := rfl
    rw [hexec, runPower, perstNLow_live hl, hpower]
  · have hexec : exec (.moduleReset v) s = runReset (resetWrite v) s := rfl
    rw [hexec, runReset_live hl, resetWrite_module (by simp [Module.barUp, hup, hd]) hkey hm, Module.resetTo_heldBy, hpower]

end

end Sys2Proof.Machine


namespace Sys2Proof.Machine

open Sys2Proof

/-! ### What the start-up leaves alone (R564) -/

/-- n has the straps, the diagnostics, the configuration and the images of m, and shows the same SCHED.STATUS. -/
structure Module.SetUpAs (m n : Module) : Prop where
  power : n.power = m.power
  mirror : n.mirror = m.mirror
  test : n.test = m.test
  parts : n.parts = m.parts
  firewall : n.firewall = m.firewall
  dyone : n.secur.dyone = m.secur.dyone
  crook : n.secur.crook = m.secur.crook
  stored : n.secur.storedParts = m.secur.storedParts
  status : n.reg Reg.SCHED.STATUS_CONFIG_DEFAULT.off = m.reg Reg.SCHED.STATUS_CONFIG_DEFAULT.off

namespace Module.SetUpAs

variable {m₀ m : Module}

theorem refl (m : Module) : m.SetUpAs m := ⟨rfl, rfl, rfl, rfl, rfl, rfl, rfl, rfl, rfl⟩

theorem trans {n : Module} (h : m₀.SetUpAs m) (h' : m.SetUpAs n) : m₀.SetUpAs n :=
  ⟨h'.power.trans h.power, h'.mirror.trans h.mirror, h'.test.trans h.test, h'.parts.trans h.parts, h'.firewall.trans h.firewall,
    h'.dyone.trans h.dyone, h'.crook.trans h.crook, h'.stored.trans h.stored, h'.status.trans h.status⟩

theorem ite {c : Prop} [Decidable c] {a b : Module} (ha : m₀.SetUpAs a) (hb : m₀.SetUpAs b) : m₀.SetUpAs (if c then a else b) := by
  split <;> assumption

theorem foldl_mem {α : Type} {f : Module → α → Module} {l : List α} (h : m₀.SetUpAs m)
    (hf : ∀ a, ∀ x ∈ l, m₀.SetUpAs a → m₀.SetUpAs (f a x)) : m₀.SetUpAs (l.foldl f m) :=
  List.foldlRecOn _ _ h fun a ha x hx => hf a x hx ha

theorem foldl {α : Type} {f : Module → α → Module} {l : List α} (h : m₀.SetUpAs m)
    (hf : ∀ a x, m₀.SetUpAs a → m₀.SetUpAs (f a x)) : m₀.SetUpAs (l.foldl f m) := h.foldl_mem fun a x _ => hf a x

/-- A change of other registers. -/
theorem onlyRegs {n : Module} (h : m₀.SetUpAs m) (hr : m.OnlyRegs n)
    (hstatus : n.reg Reg.SCHED.STATUS_CONFIG_DEFAULT.off = m.reg Reg.SCHED.STATUS_CONFIG_DEFAULT.off) : m₀.SetUpAs n :=
  h.trans ⟨hr.same (·.power), hr.same (·.mirror), hr.same (·.test), hr.same (·.parts), hr.same (·.firewall), hr.same (·.secur.dyone),
    hr.same (·.secur.crook), hr.same (·.secur.storedParts), hstatus⟩

theorem sched {s} (h : m₀.SetUpAs m) : m₀.SetUpAs { m with sched := s } := h.trans ⟨rfl, rfl, rfl, rfl, rfl, rfl, rfl, rfl, rfl⟩

theorem set {f v} (hf : Reg.SCHED.STATUS_CONFIG_DEFAULT.off ≠ f.off) (h : m₀.SetUpAs m) : m₀.SetUpAs (m.set f v) :=
  h.onlyRegs ((OnlyRegs.refl m).set f v) (Module.reg_set_other v m hf)

theorem bumpBy {f k} (hf : Reg.SCHED.STATUS_CONFIG_DEFAULT.off ≠ f.off) (h : m₀.SetUpAs m) : m₀.SetUpAs (m.bumpBy f k) :=
  h.onlyRegs ((OnlyRegs.refl m).bumpBy f k) (Module.reg_bumpBy_other k m hf)

theorem bump {f} (hf : Reg.SCHED.STATUS_CONFIG_DEFAULT.off ≠ f.off) (h : m₀.SetUpAs m) : m₀.SetUpAs (m.bump f) := h.bumpBy hf

theorem blockEvent {b} (h : m₀.SetUpAs m) : m₀.SetUpAs (m.blockEvent b) :=
  h.trans ⟨blockEvent_power b m, blockEvent_mirror b m, blockEvent_test b m, blockEvent_parts b m, blockEvent_firewall b m,
    congrArg SecSt.dyone (blockEvent_secur b m), congrArg SecSt.crook (blockEvent_secur b m),
    congrArg SecSt.storedParts (blockEvent_secur b m), by rw [Module.reg, blockEvent_regs, Module.reg]⟩

theorem offer {type part sev body} (h : m₀.SetUpAs m) : m₀.SetUpAs (m.offer type part sev body) := by
  refine h.trans ?_
  unfold Module.offer
  extract_lets _ _ m1 m2
  split
  · exact ⟨rfl, rfl, rfl, rfl, rfl, rfl, rfl, rfl, rfl⟩
  · refine bump (by decide) ?_
    exact ⟨rfl, rfl, rfl, rfl, rfl, rfl, rfl, rfl, rfl⟩
  · have h1 : m.SetUpAs m1 := bump (by decide) (refl m)
    have h2 : m.SetUpAs m2 := h1.set (by decide)
    exact .ite h1 (h2.trans ⟨rfl, rfl, rfl, rfl, rfl, rfl, rfl, rfl, rfl⟩)

theorem event {type part sev arg0 arg1} (h : m₀.SetUpAs m) : m₀.SetUpAs (m.event type part sev arg0 arg1) :=
  .blockEvent (.ite h.offer h.offer)

theorem measure {kind id version part b} (h : m₀.SetUpAs m) : m₀.SetUpAs (m.measure kind id version part b) :=
  h.trans ⟨rfl, rfl, rfl, rfl, rfl, rfl, rfl, rfl, rfl⟩

theorem measureFw {kind} (h : m₀.SetUpAs m) : m₀.SetUpAs (m.measureFw kind) := h.trans ⟨rfl, rfl, rfl, rfl, rfl, rfl, rfl, rfl, rfl⟩

theorem setBases (h : m₀.SetUpAs m) : m₀.SetUpAs m.setBases := by
  have hbases : ∀ f ∈ crookBases, Reg.SCHED.STATUS_CONFIG_DEFAULT.off ≠ f.off := by decide
  have h1 : m₀.SetUpAs (crookBases.foldl (fun (a : Module) f => a.set f (Config.crookRegister f.off).toNat) m) :=
    h.foldl_mem fun a f hf ha => ha.set (hbases f hf)
  exact ((h1.set (by decide)).set (by decide)).set (by decide)

theorem evScan (h : m₀.SetUpAs m) : m₀.SetUpAs m.evScan := by
  unfold Module.evScan
  extract_lets _ _ _ _ _ _ m1
  have h1 : m₀.SetUpAs m1 := .set (by decide) (.set (by decide) (h.trans ⟨rfl, rfl, rfl, rfl, rfl, rfl, rfl, rfl, rfl⟩))
  exact .ite h1 (.event (.set (by decide) (.bumpBy (by decide) h1)))

theorem noSlots (h : m₀.SetUpAs m) : m₀.SetUpAs m.noSlots :=
  h.foldl fun a i ha => .ite (ha.set (by simp only [reedFld, Fld.at, Reg.SCHED.STATUS_CONFIG_DEFAULT, Reg.REED.STATUS_NO_SLOTS]; omega)) ha

theorem setPools (h : m₀.SetUpAs m) : m₀.SetUpAs m.setPools := by
  unfold Module.setPools
  extract_lets _ m1 m2
  have h1 : m₀.SetUpAs m1 := .set (by decide) (.set (by decide) h)
  have h2 : m₀.SetUpAs m2 := h1.foldl_mem fun a p hp ha => by
    have hp8 : p < 8 := List.mem_range.mp hp
    refine .set ?_ (.set ?_ (.set ?_ ha)) <;>
      simp only [Fld.at, Reg.SCHED.STATUS_CONFIG_DEFAULT, Reg.SLIDE.HBM_QUOTA_FRAMES, Reg.STEP.ENTRY_QUOTA_ENTRIES, Reg.LIG.QUOTA_OBJECTS] <;>
      omega
  exact h2.sched

theorem secShow (h : m₀.SetUpAs m) : m₀.SetUpAs m.secShow := by
  unfold Module.secShow
  extract_lets _ m1 m2
  have h1 : m₀.SetUpAs m1 := .set (by decide) (.set (by decide) (.set (by decide) (.set (by decide) (.set (by decide) (.set (by decide) h)))))
  have h2 : m₀.SetUpAs m2 := .set (by decide) (.set (by decide) (.set (by decide) (.set (by decide) (.set (by decide) h1))))
  refine h2.foldl fun a i ha => ?_
  split
  · refine .set ?_ (.set ?_ (.set ?_ (.set ?_ (.set ?_ ha)))) <;>
      simp only [Fld.at, Reg.SCHED.STATUS_CONFIG_DEFAULT, Reg.SEC.RANGE_BASE_BASE, Reg.SEC.RANGE_SIZE_SIZE, Reg.SEC.RANGE_ATTR_PARTITION,
        Reg.SEC.RANGE_ATTR_TIER, Reg.SEC.RANGE_ATTR_ACCESS] <;> omega
  · exact ha

theorem setUpdate {st version} (h : m₀.SetUpAs m) : m₀.SetUpAs (m.setUpdate st version) :=
  secShow (event (h.trans ⟨rfl, rfl, rfl, rfl, rfl, rfl, rfl, rfl, rfl⟩))

end Module.SetUpAs

end Sys2Proof.Machine


namespace Sys2Proof.Machine

open Sys2Proof

/-! ### The configuration at a start (R403, R490) -/

/-- The stored configuration passes the checks of R403. -/
def SecSt.configFits (s : SecSt) : Bool := (s.storedParts.map configOk).getD false

/-- n has the straps, the diagnostics and the images of m; its configuration is the stored one only where that passes, and the
default one else, which SCHED.STATUS then tells. -/
structure Module.Configures (m n : Module) : Prop where
  power : n.power = m.power
  mirror : n.mirror = m.mirror
  test : n.test = m.test
  dyone : n.secur.dyone = m.secur.dyone
  crook : n.secur.crook = m.secur.crook
  parts : n.parts = PartCfg.default ∨ ∃ ps, m.secur.storedParts = some ps ∧ configOk ps = true ∧ n.parts = ps
  unfit : ∀ ps, m.secur.storedParts = some ps → configOk ps = false →
    n.parts = PartCfg.default ∧ n.get Reg.SCHED.STATUS_CONFIG_DEFAULT = 1 ∧ n.firewall = []

section
variable {m n : Module}

/-- The module with a configuration and a firewall record in place, and what SCHED.STATUS and SEC.STATUS say of them. -/
def Module.configWith (ps : List PartCfg) (ranges : List FwRange) (unfit fwUnfit : Bool) (m : Module) : Module :=
  (({ m with parts := ps, firewall := ranges, sched := { m.sched with configDefault := unfit } } : Module).set
    Reg.SCHED.STATUS_CONFIG_DEFAULT (b2n unfit)).set Reg.SEC.STATUS_FIREWALL_DEFAULT (b2n fwUnfit)

theorem Module.configWith_parts {ps ranges unfit fwUnfit} :
    (m.configWith ps ranges unfit fwUnfit).parts = ps := by
  rw [Module.configWith, Module.set_parts, Module.set_parts]

theorem Module.configWith_firewall {ps ranges unfit fwUnfit} :
    (m.configWith ps ranges unfit fwUnfit).firewall = ranges := by
  rw [Module.configWith, Module.set_firewall, Module.set_firewall]

theorem Module.configWith_power {ps ranges unfit fwUnfit} :
    (m.configWith ps ranges unfit fwUnfit).power = m.power := by
  rw [Module.configWith, Module.set_power, Module.set_power]

theorem Module.configWith_mirror {ps ranges unfit fwUnfit} :
    (m.configWith ps ranges unfit fwUnfit).mirror = m.mirror := by
  rw [Module.configWith, Module.set_mirror, Module.set_mirror]

theorem Module.configWith_test {ps ranges unfit fwUnfit} :
    (m.configWith ps ranges unfit fwUnfit).test = m.test := by
  rw [Module.configWith, Module.set_test, Module.set_test]

theorem Module.configWith_secur {ps ranges unfit fwUnfit} :
    (m.configWith ps ranges unfit fwUnfit).secur = m.secur := by
  rw [Module.configWith, Module.set_secur, Module.set_secur]

theorem Module.configWith_status {ps ranges fwUnfit} :
    (m.configWith ps ranges true fwUnfit).get Reg.SCHED.STATUS_CONFIG_DEFAULT = 1 := by
  rw [Module.configWith, Module.get_set_other _ _ (by decide), Module.get_set_nonzero (by decide) (by decide) (by decide) (by decide)]
  rfl

theorem Module.applyConfig_setUp (m : Module) : ∃ fit fw, fit = m.secur.configFits ∧ (m.configWith
    (if fw then (if fit then m.secur.storedParts.getD PartCfg.default else PartCfg.default) else PartCfg.default)
    (if fit && fw then m.secur.storedFw else []) (!fit || !fw) (!fw)).SetUpAs m.applyConfig := by
  unfold Module.applyConfig
  extract_lets fit ps fw parts ranges _ m1 m2 m3 m4 m5 m6
  have hfit : fit = m.secur.configFits := by
    unfold fit SecSt.configFits
    cases m.secur.storedParts <;> rfl
  refine ⟨fit, fw, hfit, ?_⟩
  have h2 : Module.SetUpAs (m.configWith parts ranges (!fit || !fw) (!fw)) m2 := .refl _
  have h3 : Module.SetUpAs (m.configWith parts ranges (!fit || !fw) (!fw)) m3 := .ite h2.event h2
  have h4 : Module.SetUpAs (m.configWith parts ranges (!fit || !fw) (!fw)) m4 := .ite h3 h3.event
  have h5 : Module.SetUpAs (m.configWith parts ranges (!fit || !fw) (!fw)) m5 :=
    h4.foldl fun a p ha => ha.trans ⟨rfl, rfl, rfl, rfl, rfl, rfl, rfl, rfl, rfl⟩
  have h6 : Module.SetUpAs (m.configWith parts ranges (!fit || !fw) (!fw)) m6 := h5.measure
  refine .ite (Module.SetUpAs.noSlots (h6.foldl fun a i ha => ha.set ?_)) h6
  simp only [reedFld, Fld.at, Reg.SCHED.STATUS_CONFIG_DEFAULT, Reg.REED.CTRL_SLOT]
  omega

theorem Module.configures_applyConfig (m : Module) : m.Configures m.applyConfig := by
  obtain ⟨fit, fw, hfit, hset⟩ := m.applyConfig_setUp
  refine ⟨hset.power.trans configWith_power, hset.mirror.trans configWith_mirror, hset.test.trans configWith_test,
    hset.dyone.trans (congrArg SecSt.dyone configWith_secur), hset.crook.trans (congrArg SecSt.crook configWith_secur), ?_,
    fun ps hps hbad => ?_⟩
  · rw [hset.parts, configWith_parts]
    cases hfw : fw with
    | false => exact .inl (by simp)
    | true =>
      cases hf : fit with
      | false => exact .inl (by simp)
      | true =>
        rw [hf] at hfit
        cases hstored : m.secur.storedParts with
        | none => simp [SecSt.configFits, hstored] at hfit
        | some ps =>
          exact .inr ⟨ps, rfl, by simpa [SecSt.configFits, hstored] using hfit.symm, by simp⟩
  · obtain rfl : fit = false := by rw [hfit, SecSt.configFits, hps, Option.map_some, Option.getD_some, hbad]
    refine ⟨?_, ?_, by simp [hset.firewall, configWith_firewall]⟩
    · rw [hset.parts, configWith_parts]
      simp
    · rw [Module.get, hset.status]
      exact Module.configWith_status

theorem Module.Configures.of_setUp {k a b : Module} (hka : k.SetUpAs a) (h : a.Configures b) (hbn : b.SetUpAs n) : k.Configures n where
  power := (hbn.power.trans h.power).trans hka.power
  mirror := (hbn.mirror.trans h.mirror).trans hka.mirror
  test := (hbn.test.trans h.test).trans hka.test
  dyone := (hbn.dyone.trans h.dyone).trans hka.dyone
  crook := (hbn.crook.trans h.crook).trans hka.crook
  parts := by
    rw [hbn.parts, ← hka.stored]
    exact h.parts
  unfit ps hps hbad := by
    obtain ⟨hparts, hstatus, hfw⟩ := h.unfit ps (hka.stored.trans hps) hbad
    refine ⟨hbn.parts.trans hparts, ?_, hbn.firewall.trans hfw⟩
    rw [Module.get, hbn.status]
    exact hstatus

end

/-! ### The start (R490, R493, R564) -/

section
variable {m : Module} {x : StartIn} {d k : FwKind}

/-- The images of a kind after a start; where one waited for its commit, nothing is staged any more. -/
def FwKind.settled (waited : Bool) (k : FwKind) : FwKind := if waited then { k with staged := none, selected := false } else k

theorem FwKind.settled_running (waited : Bool) (k : FwKind) : (k.settled waited).running = k.running := by
  unfold FwKind.settled
  split <;> rfl

/-- The straps have been read and the images chosen. -/
def Module.booting (x : StartIn) (d k : FwKind) (m : Module) : Module :=
  let m1 := (({ m with power := { m.power with resetN := false, perstN := false } } : Module).readStart x).startTimers
  { m1 with
    secur := { m1.secur with dyone := d.settled (m.secur.update == 3), crook := k.settled (m.secur.update == 3), log := [] }
    power := { m1.power with phase := .started } }

theorem resetRelease_stays (hph : m.power.phase = .held) (hin : m.power.input = true) (hen : m.power.pwrEn = true)
    (h : m.secur.dyone.start x.dyone x.dyoneOther = none ∨ m.secur.crook.start x.crook x.crookOther = none) :
    resetRelease x m = ({ m with power := { m.power with resetN := false, perstN := false } } : Module).fault 1 := by
  unfold resetRelease
  rw [if_neg (by simp [hph, hin, hen])]
  extract_lets _ m0
  rcases h with h | h
  · rw [show m0.secur.dyone.start x.dyone x.dyoneOther = none from h]
  · rw [show m0.secur.crook.start x.crook x.crookOther = none from h]
    split
    · next hsome => cases hsome
    · rfl

theorem resetRelease_starts (hph : m.power.phase = .held) (hin : m.power.input = true) (hen : m.power.pwrEn = true)
    (hd : m.secur.dyone.start x.dyone x.dyoneOther = some d) (hk : m.secur.crook.start x.crook x.crookOther = some k) :
    (m.booting x d k).Configures (resetRelease x m) := by
  unfold resetRelease
  rw [if_neg (by simp [hph, hin, hen])]
  extract_lets _ m0 was m1 done
  split
  · next d' k' hd' hk' =>
    obtain rfl : d' = d := Option.some.inj (hd'.symm.trans hd)
    obtain rfl : k' = k := Option.some.inj (hk'.symm.trans hk)
    extract_lets m2 m3 m4 st
    have h2 : m2 = m.booting x d' k' := rfl
    clear_value m2
    subst h2
    have h3 : (Module.booting x d' k' m).SetUpAs ((Module.booting x d' k' m).measureFw 1).setBases.evScan :=
      (Module.SetUpAs.refl _).measureFw.setBases.evScan
    have h4 : m3.SetUpAs m4 := (Module.SetUpAs.refl m3).measureFw.setPools
    exact .of_setUp h3 (Module.configures_applyConfig _) (.secShow (.ite h4 h4.setUpdate))
  · next hnone => exact (hnone d k hd hk).elim

end

end Sys2Proof.Machine


namespace Sys2Proof.Machine

open Sys2Proof

/-! ### The straps, the images and READY (R493, R538, R564) -/

/-- The bands of CAP_SEL with their caps (R538). -/
def capBands : List (Nat × Nat × Nat) :=
  [(900, 1100, 1200), (1800, 2200, 1300), (2710, 3310, 1400), (3620, 4420, 1500), (4550, 5450, 1600), (5600, 6480, 1700),
    (6530, 7430, 1800), (7560, 8560, 1900), (8610, 9570, 2000)]

theorem capOf_some (r : Nat) :
    capOf (some r) = (capBands.find? (fun x => decide (x.1 ≤ r) && decide (r ≤ x.2.1))).map (fun x => x.2.2) := rfl

theorem capOf_1600 (r : Nat) : capOf (some r) = some 1600 ↔ 4550 ≤ r ∧ r ≤ 5450 := by
  rw [capOf_some]
  constructor
  · intro h
    obtain ⟨x, hx, hw⟩ := Option.map_eq_some_iff.mp h
    have hband : ∀ x ∈ capBands, x.2.2 = 1600 → x.1 = 4550 ∧ x.2.1 = 5450 := by decide
    obtain ⟨hlo, hhi⟩ := hband x (List.mem_of_find?_eq_some hx) hw
    simpa [hlo, hhi] using List.find?_some hx
  · rintro ⟨hlo, hhi⟩
    have hbefore : ∀ x ∈ capBands.take 4, ¬(decide (x.1 ≤ r) && decide (r ≤ x.2.1)) = true := by
      have hbelow : ∀ x ∈ capBands.take 4, x.2.1 < 4550 := by decide
      intro x hx
      have := hbelow x hx
      simp
      omega
    have hfind : capBands.find? (fun x => decide (x.1 ≤ r) && decide (r ≤ x.2.1)) = some (4550, 5450, 1600) :=
      List.find?_eq_some_iff_append.mpr ⟨by simp [hlo, hhi], capBands.take 4, capBands.drop 5, rfl, fun x hx => by
        rw [Bool.not_eq_true', ← Bool.not_eq_true]
        exact hbefore x hx⟩
    rw [hfind]
    rfl

theorem FwKind.mem_tries {k : FwKind} {a b ok : Bool} {x : FwImage} (h : (x, ok) ∈ k.tries a b) :
    (k.old = some x ∨ x = k.running) ∨ k.old = none ∧ k.staged = some x := by
  unfold FwKind.tries at h
  split at h
  · next o ho =>
    rcases List.mem_cons.mp h with h | h
    · exact .inl (.inl (ho.trans (congrArg some (congrArg Prod.fst h).symm)))
    · exact .inl (.inr (congrArg Prod.fst (List.mem_singleton.mp h)))
  · next ho =>
    split at h
    · next y hy =>
      have hxy : x = y ∨ x = k.running := by
        split at h <;> simp only [List.mem_cons, Prod.mk.injEq, List.not_mem_nil, or_false] at h
        · exact h.imp And.left And.left
        · exact (h.imp And.left And.left).symm
      exact hxy.elim (fun e => .inr ⟨ho, hy.trans (congrArg some e.symm)⟩) (fun e => .inl (.inr e))
    · exact .inl (.inr (congrArg Prod.fst (List.mem_singleton.mp h)))

/-- A start runs an image that the kind holds and that is not rolled back. -/
theorem FwKind.start_running {k k1 : FwKind} {a b : Bool} (h : k.start a b = some k1) :
    k.rollback ≤ k1.running.version ∧ (k1.running = k.running ∨ k.staged = some k1.running ∨ k.old = some k1.running) := by
  unfold FwKind.start at h
  split at h
  · cases h
  · next x ok hfind =>
    have hroll : k.rollback ≤ x.version := by
      have hp := List.find?_some hfind
      simp only [Bool.and_eq_true, decide_eq_true_eq] at hp
      exact hp.2
    have hmem := FwKind.mem_tries (List.mem_of_find?_eq_some hfind)
    dsimp only at h
    split at h
    · next hold =>
      obtain rfl := Option.some.inj h
      refine ⟨hroll, ?_⟩
      rcases hmem with (ho | hx) | ⟨hnone, -⟩
      · exact .inr (.inr ho)
      · exact .inl hx
      · simp [hnone] at hold
    · next hold =>
      split at h
      · next hboot =>
        obtain ⟨hs, -⟩ : k.staged = some x ∧ x ≠ k.running := by simpa using hboot
        have hrun : k1.running = x := by
          rw [← Option.some.inj h, FwKind.boot, hs]
        exact ⟨hrun ▸ hroll, .inr (.inl (hrun ▸ hs))⟩
      · next hboot =>
        have hx : x = k.running := by
          rcases hmem with (ho | hx) | ⟨-, hs⟩
          · simp [ho] at hold
          · exact hx
          · simpa [hs] using hboot
        obtain rfl := Option.some.inj h
        exact ⟨hx ▸ hroll, .inl rfl⟩

section
variable {m : Module}

theorem Module.reedDrop_clk (i requester tag : Nat) (m : Module) : (m.reedDrop i requester tag).clk = m.clk := by
  have hput : ∀ x, (m.setReed i x).clk = m.clk := fun x => by rw [Module.setReed, Module.set_clk]
  unfold Module.reedDrop
  dsimp only
  split
  · split <;> exact hput _
  · exact hput _

theorem Module.reedRequest_clk (i requester tag units : Nat) (m : Module) : (m.reedRequest i requester tag units).clk = m.clk := by
  unfold Module.reedRequest
  dsimp only
  split
  · rfl
  · rw [Module.setReed, Module.set_clk]

theorem Module.findIndexes_clk (m : Module) : m.findIndexes.clk = m.clk := by
  have harbiter : ∀ (a : Module) u, (a.boreArbiter u).clk = a.clk := fun a u => by
    unfold Module.boreArbiter
    dsimp only
    rw [Module.foldl_clk fun b t => b.reedRequest_clk _ _ _ _, Module.foldl_clk fun b (r : ReedReq) => b.reedDrop_clk _ _ _]
  rw [Module.findIndexes, Module.boreArbiters, Module.foldl_clk harbiter]

theorem Module.findIndexes_power (m : Module) : m.findIndexes.power = m.power := by
  have harbiter : ∀ a u, m.Settles a → m.Settles (Module.boreArbiter a u) := fun a u ha =>
    (ha.foldl fun _ _ hb => hb.reedDrop).foldl fun _ _ hb => hb.reedRequest
  unfold Module.findIndexes Module.boreArbiters
  extract_lets found
  exact (Settles.foldl (.frame (.refl m) rfl) harbiter).power

theorem readySet_idle (h : m.power.rebuilt = false ∨ ∃ i ∈ [2, 4, 5], bit m.test.failed i = true) : readySet m = m := by
  rw [readySet, if_pos]
  rcases h with h | ⟨i, hi, hb⟩
  · simp [h]
  · have hstop : stopsStart m.test.failed = true := by
      simp only [List.mem_cons, List.not_mem_nil, or_false] at hi
      rcases hi with rfl | rfl | rfl <;> simp [stopsStart, hb]
    simp [hstop]

theorem readySet_sets (hup : m.power.up = false) (hr : m.power.rebuilt = true) (h : ∀ i ∈ [2, 4, 5], bit m.test.failed i = false) :
    readySet m = (
      let m1 := (m.findIndexes.event 0x0001 0xFF 0 m.power.cause m.secur.crook.running.version).set Reg.GLOBAL.STATUS_READY 1
      { m1 with power := { m1.power with up := true, startMs := (m.clk.mono - m.power.released) / 1000000 } }) := by
  have hstop : stopsStart m.test.failed = false := by
    simp [stopsStart, h 2 (by decide), h 4 (by decide), h 5 (by decide)]
  rw [readySet, if_neg (by simp [hup, hr, hstop])]
  dsimp only
  rw [Module.set_clk, Module.event_clk, Module.findIndexes_clk, Module.set_power, Module.event_power, Module.findIndexes_power]

end

end Sys2Proof.Machine


namespace Sys2Proof.Machine

open Sys2Proof

/-! ### Diagnostics (R573) -/

/-- n is m but for the registers, the attention cores and the strands: what the tests of the cores empty. -/
def Module.OnlyCores (m n : Module) : Prop := n = { m with regs := n.regs, attn := n.attn, strand := n.strand }

namespace Module.OnlyCores

variable {m n : Module}

theorem same {α : Type} (h : m.OnlyCores n) (F : Module → α)
    (hF : ∀ r a s, F { m with regs := r, attn := a, strand := s } = F m := by intros; rfl) : F n = F m := by
  rw [OnlyCores] at h
  rw [h]
  exact hF _ _ _

theorem trans {k : Module} (h : m.OnlyCores n) (h' : n.OnlyCores k) : m.OnlyCores k := by
  rw [OnlyCores] at h h' ⊢
  rw [h', h]

theorem onlyRegs {k : Module} (h : m.OnlyCores n) (hr : n.OnlyRegs k) : m.OnlyCores k := by
  rw [OnlyRegs] at hr
  refine h.trans ?_
  rw [OnlyCores, hr]

theorem updCore {i f} (h : m.OnlyCores n) : m.OnlyCores (n.updCore i f) := h.trans rfl
theorem setMode {i mode} (h : m.OnlyCores n) : m.OnlyCores (n.setMode i mode) := h.updCore.onlyRegs ((OnlyRegs.refl _).set _ _)

end Module.OnlyCores

/-- The findings once the tests of mask have run, of which those of f failed. -/
def TestSt.after (mask f cores units : Nat) (strands : List Nat) (t : TestSt) : TestSt := { t with
  failed := (t.failed - (t.failed &&& mask)) + f
  cores := if bit mask 0 then (if bit f 0 then cores % 2 ^ 64 else 0) else t.cores
  strands := if bit mask 1 then (if bit f 1 then strands.filter (fun x => decide (x < 1024)) else []) else t.strands
  units := if bit mask 3 then (if bit f 3 then units % 2 ^ 16 else 0) else t.units }

section
variable {m : Module} {mask faulty : Nat}

/-- Test 0 empties the attention cores, and turns off those that it finds at fault. -/
def Module.testCores (mask faulty : Nat) (m : Module) : Module :=
  if bit mask 0 then m.attn.cores.keys.foldl (fun (a : Module) k =>
    let b := a.updCore k (fun x => { x with sram := [] })
    if bit faulty k then b.setMode k 0 else b) m else m

/-- Test 1 empties the local stores of the strands. -/
def Module.testStrands (mask : Nat) (m : Module) : Module :=
  if bit mask 1 then
    { m with strand := { m.strand with threads := m.strand.threads.mapV (fun _ x => { x with slice := [] }) } } else m

/-- Test 2 frees every object. -/
def Module.testObjs (mask : Nat) (m : Module) : Module :=
  if bit mask 2 then m.lig.objs.keys.foldl (fun (a : Module) i => a.ligFreeIndex i) m else m

/-- Test 4 overwrites the staging buffer of checkpoints. -/
def Module.testStage (mask : Nat) (m : Module) : Module :=
  if bit mask 4 then { m with hbm := m.hbm.zeroN (m.get Reg.CKPT.STAGE_BASE_BASE) (56 * 2 ^ 20) } else m

/-- Test 6 overwrites the memories. -/
def Module.testMemories (mask : Nat) (m : Module) : Module := if bit mask 6 then { m with hbm := [], lpddr := [] } else m

theorem Module.testCores_onlyCores : m.OnlyCores (m.testCores mask faulty) := by
  unfold Module.testCores
  split
  · refine List.foldlRecOn (motive := fun a => m.OnlyCores a) _ _ rfl fun a ha k _ => ?_
    dsimp only
    split
    · exact ha.updCore.setMode
    · exact ha.updCore
  · rfl

theorem Module.testStrands_onlyCores : m.OnlyCores (m.testStrands mask) := by
  unfold Module.testStrands
  split <;> rfl

theorem Module.testObjs_others : m.testObjs mask = { m with lig := (m.testObjs mask).lig } := by
  unfold Module.testObjs
  split
  · refine List.foldlRecOn (motive := fun (a : Module) => a = { m with lig := a.lig }) _ _ rfl fun a ha i _ => ?_
    rw [ha]
    rfl
  · rfl

/-- Freed one by one, the objects are all gone. -/
theorem Module.foldl_ligFreeIndex_keys (hw : m.lig.objs.wf = true) :
    (m.lig.objs.keys.foldl (fun (a : Module) i => a.ligFreeIndex i) m).lig.objs = [] := by
  have hkeep : m.Settles (m.lig.objs.keys.foldl (fun (a : Module) i => a.ligFreeIndex i) m) :=
    (Settles.refl m).foldl fun _ _ ha => ha.ligFreeIndex
  have hout := Settles.foldl_leaves_out (F := fun a => a.lig.owners) (W := fun a => a.lig.objs.wf = true)
    (P := fun i z => z.1 = i) (fun a _ => (Settles.refl a).ligFreeIndex) (fun _ _ h => h.owners) (fun _ _ h => h.objs)
    (fun a i ha => ligFreeIndex_owners i ha) m.lig.objs.keys hw
  refine List.eq_nil_iff_forall_not_mem.mpr fun z hz => ?_
  have hz' := List.mem_map_of_mem (f := fun x : Nat × LigObj => (x.1, x.2.partition)) hz
  obtain ⟨x, hx, hxz⟩ := List.mem_map.mp (hkeep.owners hz')
  exact hout x.1 (List.mem_map_of_mem hx) _ hz' (congrArg Prod.fst hxz).symm

/-- The module once the tests of mask have run. -/
def Module.tested (mask f cores units : Nat) (strands : List Nat) (m : Module) : Module :=
  let t1 := m.test.after mask f cores units strands
  ((((({ m with test := t1 } : Module).testCores mask t1.cores).testStrands mask).testObjs mask).testStage mask).testMemories mask

/-- The module once tests 0 and 1 have run. -/
def Module.coresTested (mask f cores units : Nat) (strands : List Nat) (m : Module) : Module :=
  let t1 := m.test.after mask f cores units strands
  (({ m with test := t1 } : Module).testCores mask t1.cores).testStrands mask

section
variable (f cores units : Nat) (strands : List Nat)

theorem Module.coresTested_onlyCores :
    ({ m with test := m.test.after mask f cores units strands } : Module).OnlyCores (m.coresTested mask f cores units strands) :=
  testCores_onlyCores.trans testStrands_onlyCores

/-- The tests leave what is neither a register nor the findings, the cores, the strands, the objects or a memory. -/
theorem Module.tested_same {α : Type} (F : Module → α)
    (hF : ∀ t r a s l h d, F { m with test := t, regs := r, attn := a, strand := s, lig := l, hbm := h, lpddr := d } =
      F { m with test := t } := by intros; rfl) :
    F (m.tested mask f cores units strands) = F { m with test := m.test.after mask f cores units strands } := by
  have hcores := m.coresTested_onlyCores (mask := mask) f cores units strands
  have hobjs := (m.coresTested mask f cores units strands).testObjs_others (mask := mask)
  have hmem : ∀ n : Module, (n.testStage mask).testMemories mask =
      { n with hbm := ((n.testStage mask).testMemories mask).hbm, lpddr := ((n.testStage mask).testMemories mask).lpddr } := by
    intro n
    unfold Module.testStage Module.testMemories
    split <;> split <;> rfl
  rw [OnlyCores] at hcores
  have htested : m.tested mask f cores units strands =
      (((m.coresTested mask f cores units strands).testObjs mask).testStage mask).testMemories mask := rfl
  rw [htested, hmem, hobjs, hcores]
  exact hF _ _ _ _ _ _ _

theorem Module.tested_hbm (h4 : bit mask 4 = false) (h6 : bit mask 6 = false) :
    (m.tested mask f cores units strands).hbm = m.hbm := by
  have hcores := m.coresTested_onlyCores (mask := mask) f cores units strands
  have htested : m.tested mask f cores units strands = (m.coresTested mask f cores units strands).testObjs mask := by
    simp [Module.tested, Module.coresTested, testStage, testMemories, h4, h6]
  rw [htested, testObjs_others]
  exact hcores.same (·.hbm)

theorem Module.tested_lpddr (h6 : bit mask 6 = false) : (m.tested mask f cores units strands).lpddr = m.lpddr := by
  have hcores := m.coresTested_onlyCores (mask := mask) f cores units strands
  have htested : m.tested mask f cores units strands = ((m.coresTested mask f cores units strands).testObjs mask).testStage mask := by
    simp [Module.tested, Module.coresTested, testMemories, h6]
  have hstage : ∀ n : Module, (n.testStage mask).lpddr = n.lpddr := by
    intro n
    unfold Module.testStage
    split <;> rfl
  rw [htested, hstage, testObjs_others]
  exact hcores.same (·.lpddr)

theorem Module.tested_memories (h6 : bit mask 6 = true) :
    (m.tested mask f cores units strands).hbm = [] ∧ (m.tested mask f cores units strands).lpddr = [] := by
  constructor <;> rw [Module.tested, testMemories, if_pos h6]

theorem Module.tested_objs (h2 : bit mask 2 = true) (hw : m.lig.objs.wf = true) :
    (m.tested mask f cores units strands).lig.objs = [] := by
  have hlig : (m.coresTested mask f cores units strands).lig = m.lig :=
    (m.coresTested_onlyCores (mask := mask) f cores units strands).same (·.lig)
  have hmem : ∀ n : Module, ((n.testStage mask).testMemories mask).lig = n.lig := by
    intro n
    unfold Module.testStage Module.testMemories
    split <;> split <;> rfl
  have htested : m.tested mask f cores units strands =
      (((m.coresTested mask f cores units strands).testObjs mask).testStage mask).testMemories mask := rfl
  rw [htested, hmem, testObjs, if_pos h2]
  exact foldl_ligFreeIndex_keys (hlig ▸ hw)

end

/-! #### The command -/

section
variable {c : RunCmd} {failed cores units f : Nat} {strands : List Nat} (hz : allZero c.payload 1 7 = true)
  (hmask : mask = u8 c.payload 0)
include hz hmask

theorem testDiagCmd_reserved (h7 : bit mask 7 = true) : testDiagCmd failed cores strands units c m = m.badField c 0 := by
  subst hmask
  unfold testDiagCmd
  exact Module.checked_fail (v := bad 0) (by simpa using hz) (by simp [firstFail, h7])

theorem testDiagCmd_paired (h7 : bit mask 7 = false) (h6 : bit mask 6 = true) (hpair : m.mirror.state ≠ 0) :
    testDiagCmd failed cores strands units c m = m.fail c .busy := by
  subst hmask
  unfold testDiagCmd
  exact Module.checked_fail (v := stop .busy) (by simpa using hz) (by simp [firstFail, h7, h6, hpair])

/-- A selection that the checks admit runs its tests and answers what failed. -/
theorem testDiagCmd_tests (h7 : bit mask 7 = false) (hf : f = failed &&& mask)
    (h6 : bit mask 6 = true → m.mirror.state = 0 ∧ ∀ k ∈ m.caps.slots.vals, k.state = 0 ∨ k.state = 6) :
    testDiagCmd failed cores strands units c m = (m.tested mask f cores units strands).complete c (if f = 0 then .ok else .damaged)
      (leBytes 1 f ++ zeros 7 ++ leBytes 8 (if bit mask 0 then (m.test.after mask f cores units strands).cores else 0)) noDetail := by
  have hstatus : (if f == 0 then Status.ok else .damaged) = if f = 0 then .ok else .damaged := by simp only [beq_iff_eq]
  have hempty : (!bit mask 6 || (m.mirror.state == 0 && m.caps.slots.vals.all (fun k => k.state == 0 || k.state == 6))) = true := by
    cases hb : bit mask 6 with
    | false => rfl
    | true => simpa using h6 hb
  rw [← hstatus]
  subst hmask hf
  unfold testDiagCmd
  refine (Module.checked_act (by simpa using hz) ?_).trans rfl
  simpa [h7] using hempty

end

/-- The answer of a mailbox command leaves the findings, the capsules, the objects and the memories of the module. -/
theorem Module.complete_leaves {b : Nat} {c : RunCmd} {st : Status} {body : Bytes} {d : Nat} (hs : c.src = .mbox b) :
    (m.complete c st body d).test = m.test ∧ (m.complete c st body d).caps = m.caps ∧ (m.complete c st body d).lig = m.lig ∧
    (m.complete c st body d).hbm = m.hbm ∧ (m.complete c st body d).lpddr = m.lpddr := by
  have hans : m.Answers (m.complete c st body d) := (Answers.refl m).complete c st body d
  have hcontents := Module.complete_contents (st := st) (body := body) (detail := d) (m := m) hs
  simp only [Module.contents, Prod.mk.injEq] at hcontents
  obtain ⟨-, hhbm, hlpddr, -, -⟩ := hcontents
  refine ⟨hans.same (·.test), hans.same (·.caps), ?_, hhbm, hlpddr⟩
  simp only [Module.complete, hs]
  split
  · rfl
  · have hx := (m.dropCmd c.id).answer_onlyRegs (b := b) (c := c) st body d
    rw [Module.respond_eq]
    split
    · exact hx.same (·.lig)
    · exact (Module.msix_lig _ _).trans (hx.same (·.lig))

end

end Sys2Proof.Machine


namespace Sys2Proof.Machine

open Sys2Proof

/-! ### Perturbation (R570, R571) -/

/-- A path with a mode that it allows and an amount in that mode's range (R570). -/
def PerturbFits (path mode amount : Nat) : Prop :=
  path ∈ [1, 3, 4, 7, 8] ∧ mode = 1 ∧ amount ≤ 10000000 ∨ path = 5 ∧ mode = 1 ∧ amount ≤ 1000000 ∨
    path ∈ [2, 10, 11] ∧ mode = 2 ∧ amount ≤ 90 ∨ path ∈ [6, 9] ∧ mode = 0 ∧ amount ≤ 1000

theorem PerturbFits.path_ne_zero {path mode amount : Nat} (h : PerturbFits path mode amount) : path ≠ 0 := by
  rintro rfl
  simp [PerturbFits] at h

theorem PerturbFits.perturbOk {path mode amount : Nat} (h : PerturbFits path mode amount) (hlo : 1 ≤ amount) :
    perturbOk path mode amount = none := by
  simp only [PerturbFits, List.mem_cons, List.not_mem_nil, or_false] at h
  rcases h with ⟨rfl | rfl | rfl | rfl | rfl, rfl, hhi⟩ | ⟨rfl, rfl, hhi⟩ | ⟨rfl | rfl | rfl, rfl, hhi⟩ | ⟨rfl | rfl, rfl, hhi⟩ <;>
    exact if_pos ⟨hlo, hhi⟩

theorem ite_not_bool {α : Type} (ok : Bool) (x y : α) : (if !ok then x else y) = if ok then y else x := by
  cases ok <;> rfl

section
variable {m : Module}

theorem Module.perturbTime_clk (m : Module) : m.perturbTime.clk = m.clk := by
  unfold Module.perturbTime
  dsimp only
  split
  · rfl
  · rw [Module.bumpBy_clk]

/-- The module with other perturbation slots, the time with any slot active counted. -/
def Module.withSlots (slots : KMap Perturb) (m : Module) : Module :=
  { m.perturbTime with test := { m.perturbTime.test with slots := slots } }

theorem Module.debugLocked_iff : m.debugLocked = true ↔ ∃ q < 8, m.mute q = true := by
  simp [Module.debugLocked]

section
variable {c : RunCmd} {b : Bytes} {n path p : Nat} (hb : b = c.payload) (hn : n = u8 b 0) (hpath : path = u8 b 1)
  (hp : p = u8 b 3) (hn15 : n ≤ 15) (hz : allZero b 0x0C 4 = true)
include hb hn hpath hp hn15 hz

theorem testPerturbCmd_clears (h0 : path = 0) (hmode : u8 b 2 = 0) (hp0 : p = 0) (hamount : u32 b 4 = 0) (hms : u32 b 8 = 0) :
    testPerturbCmd c m = (m.withSlots (m.perturbTime.test.slots.del n)).ok c [] := by
  subst hb hn hpath hp
  unfold testPerturbCmd
  dsimp only
  rw [Module.checked_act (by simpa using hz) (by simp [h0, hn15, hmode, hp0, hamount, hms])]
  simp [h0, Module.withSlots]

/-- Fields in range leave a slot to the checks on Mute-mode partitions. -/
theorem testPerturbCmd_sets (hfit : PerturbFits path (u8 b 2) (u32 b 4)) (hlo : 1 ≤ u32 b 4) (hms : 1 ≤ u32 b 8)
    (hms' : u32 b 8 ≤ 600000) (hpart : p = 0xFF ∨ m.present p = true) :
    testPerturbCmd c m =
      if p != 0xFF && m.mute p then m.fail c .denied
      else if p == 0xFF && m.debugLocked && path != 6 && path != 10 then m.fail c .denied
      else (m.withSlots (m.perturbTime.test.slots.put n ⟨path, u8 b 2, if p = 0xFF then 8 else p, u32 b 4,
        (m.clk.now + u32 b 8 * 1000000) % 2 ^ 64⟩)).ok c [] := by
  have hok := hfit.perturbOk hlo
  have h0 : (path == 0) = false := by simpa using hfit.path_ne_zero
  have hwhere : (p == 0xFF || m.partOk p) = true := by simpa [Module.partOk] using hpart
  subst hb hn hpath hp
  unfold testPerturbCmd
  dsimp only
  rw [h0, Module.checked_reserved (by simpa using hz)]
  simp only [hok, Bool.false_eq_true, if_false, hwhere, Bool.false_or]
  rw [Module.checked_pass (by simpa using hn15), Module.checked_pass (by decide), Module.checked_pass (by decide),
    Module.checked_pass (by decide), Module.checked_pass (by decide), Module.checked_pass (by simp [hms, hms']), Module.checked_cons,
    Module.checked_cons, Module.checked_nil, Module.verdict_denied, ite_not_bool, ite_not_bool, ms]
  simp only [beq_iff_eq, Module.withSlots, Module.perturbTime_clk]

end

/-- A slot whose END_NS has come ends (R570). -/
theorem perturbEnd_ends {n : Nat} {x : Perturb} (hx : m.test.slots.get n = some x) (hend : x.endNs ≤ m.clk.now) :
    perturbEnd n m = (m.withSlots (m.perturbTime.test.slots.del n)).set Reg.TEST.STATUS_EXPIRED 1 := by
  rw [perturbEnd, hx]
  exact if_neg (Nat.not_lt_of_ge hend)

theorem exec_perturbSlotEnd {s : State} {n : Nat} {x : Perturb} (hl : s.m.live = true) (hn : n < 16)
    (hx : s.m.test.slots.get n = some x) (hend : x.endNs ≤ s.m.clk.now) : Does (.perturbSlotEnd n) s (perturbEnd n s.m) := by
  have hexec : exec (.perturbSlotEnd n) s =
      runAt (fun m => ((m.test.slots.get n).map (fun x => m.dueAt x.endNs)).getD 0) (perturbEnd n) s := if_pos hn
  refine does_of_doesAt (due := s.m.dueAt x.endNs) (doesAt_runAt hexec hl ?_ rfl) ?_
  · simp [hx]
  · simp [Module.dueAt, Nat.sub_eq_zero_of_le hend]

end

end Sys2Proof.Machine


namespace Sys2Proof.Machine

open Sys2Proof

/-! ### The rows of resets and of the start (R560 to R568) -/

section
variable {s : State}

/-- A write without the key is dropped (R561). -/
theorem does_resetWrite_keyless {i : Instr} {v : Nat} (hi : exec i s = runReset (resetWrite v) s) (hl : s.m.live = true)
    (hup : s.m.host.linkUp = true) (hd : s.m.host.d3hot = false) (hkey : v % 65536 ≠ 0x5A5A) :
    Does i s (s.m.dropWrite Reg.GLOBAL.RESET_KEY.off) := by
  rw [Does, hi, runReset_live hl, resetWrite_keyless (by simp [Module.barUp, hup, hd]) hkey,
    Module.clkAfter_live _ ((Module.dropWrite_live _ _).trans hl)]

theorem exec_moduleReset {v : Nat} (hl : s.m.live = true) (hup : s.m.host.linkUp = true) (hd : s.m.host.d3hot = false)
    (hkey : v % 65536 = 0x5A5A) (hm : bit v 24 = true) :
    exec (.moduleReset v) s = .next { s with m := { s.m.resetTo 3 with clk := ⟨0, 0, s.m.clk.mono⟩ } } := by
  have hexec : exec (.moduleReset v) s = runReset (resetWrite v) s := rfl
  rw [hexec, runReset_live hl, resetWrite_module (by simp [Module.barUp, hup, hd]) hkey hm, Module.resetTo_heldBy,
    Module.clkAfter_heldBy]

theorem does_partitionReset {v p : Nat} (hl : s.m.live = true) (hup : s.m.host.linkUp = true) (hd : s.m.host.d3hot = false)
    (hp : p < 8) (hv : v = 0x5A5A + 2 ^ (16 + p)) (hpres : s.m.present p = true) :
    Does (.partitionReset v) s (s.m.partReset p) := by
  have hexec : exec (.partitionReset v) s = runReset (resetWrite v) s := rfl
  have hlive : (s.m.partReset p).live = true := by
    rw [Module.live, ((Module.Settles.refl s.m).partReset_stops p).power]
    exact hl
  rw [Does, hexec, runReset_live hl, resetWrite_partition (by simp [Module.barUp, hup, hd]) hp hv hpres,
    Module.clkAfter_live _ hlive]

/-- A partition's reset leaves none of its threads and objects, and neither the pair state nor the schedule tables change (R565). -/
theorem Module.partReset_shows {m : Module} {p : Nat} (hp : p < 8) (hw : m.strand.threads.wf = true) (hobjs : m.lig.objs.wf = true) :
    (∀ t th j, (m.partReset p).strand.threads.get t = some th → m.strand.jobs.get th.job = some j → j.partition ≠ p) ∧
    (∀ i o, (m.partReset p).lig.objs.get i = some o → o.partition ≠ p) ∧
    bit ((m.partReset p).get Reg.TEST.RESET_STATE_DONE) p = true ∧ (m.partReset p).mirror.state = m.mirror.state ∧
    (m.partReset p).sched.bank0 = m.sched.bank0 ∧ (m.partReset p).sched.bank1 = m.sched.bank1 := by
  obtain ⟨hthreads, howners⟩ := Module.partReset_clears p hw hobjs
  have hkeep := (Settles.refl m).partReset_stops p
  refine ⟨fun t th j ht hj => hthreads (t, th.job) ?_ j hj, fun i o ho => howners (i, o.partition) ?_, m.partReset_done p hp,
    hkeep.pair, hkeep.bank0, hkeep.bank1⟩
  · exact List.mem_map_of_mem (f := fun x : Nat × Thread => (x.1, x.2.job)) (KMap.mem_of_get ht)
  · exact List.mem_map_of_mem (f := fun x : Nat × LigObj => (x.1, x.2.partition)) (KMap.mem_of_get ho)

section
variable {x : StartIn}

theorem exec_resetRelease (x : StartIn) (s : State) :
    exec (.resetRelease x) s = .next { s with m := (resetRelease x s.m).clkAfter s.m.clk } := rfl

/-- With no image of a kind that passes, the module stays in reset with fault BOOT. -/
theorem exec_resetRelease_stays (hph : s.m.power.phase = .held) (hin : s.m.power.input = true) (hen : s.m.power.pwrEn = true)
    (h : s.m.secur.dyone.start x.dyone x.dyoneOther = none ∨ s.m.secur.crook.start x.crook x.crookOther = none) :
    ∃ t, exec (.resetRelease x) s = .next t ∧ t.m.power.phase = .held ∧ t.m.power.faultCause = 1 ∧ t.m.faultLow = true := by
  refine ⟨_, exec_resetRelease x s, ?_⟩
  rw [resetRelease_stays hph hin hen h]
  exact ⟨hph, rfl, rfl⟩

/-- What the straps, the quick tests and the images make of a module that starts. -/
theorem Module.booting_shows {m : Module} {d k : FwKind} : (m.booting x d k).power.phase = .started ∧
    (m.booting x d k).power.cause = m.power.cause ∧ (m.booting x d k).power.capW = (capOf x.capSel).getD 1200 ∧
    (m.booting x d k).power.capDefault = (capOf x.capSel).isNone ∧
    (m.booting x d k).mirror.linkId = b2n (inBand 9000 11000 x.pairId) ∧
    (m.booting x d k).power.holdupLow = decide (x.holdup < 3000) ∧ (m.booting x d k).test.failed = x.failed % 64 ∧
    (m.booting x d k).secur.dyone.running = d.running ∧ (m.booting x d k).secur.crook.running = k.running ∧
    (m.booting x d k).secur.storedParts = m.secur.storedParts :=
  ⟨rfl, rfl, rfl, rfl, rfl, rfl, rfl, d.settled_running _, k.settled_running _, rfl⟩

theorem b2n_inBand (lo hi : Nat) (r : Option Nat) : b2n (inBand lo hi r) = if ∃ y, r = some y ∧ lo ≤ y ∧ y ≤ hi then 1 else 0 := by
  cases r <;> simp [inBand, b2n]

/-- With an image of each kind that passes, the module starts. -/
theorem exec_resetRelease_starts {d k : FwKind} (hph : s.m.power.phase = .held) (hin : s.m.power.input = true)
    (hen : s.m.power.pwrEn = true) (hd : s.m.secur.dyone.start x.dyone x.dyoneOther = some d)
    (hk : s.m.secur.crook.start x.crook x.crookOther = some k) :
    ∃ t, exec (.resetRelease x) s = .next t ∧ t.m.power.phase = .started ∧ t.m.power.cause = s.m.power.cause ∧
      t.m.power.capW = (capOf x.capSel).getD 1200 ∧ t.m.power.capDefault = (capOf x.capSel).isNone ∧
      t.m.mirror.linkId = (if ∃ r, x.pairId = some r ∧ 9000 ≤ r ∧ r ≤ 11000 then 1 else 0) ∧
      t.m.power.holdupLow = decide (x.holdup < 3000) ∧ t.m.test.failed = x.failed % 64 ∧
      t.m.secur.dyone.running = d.running ∧ t.m.secur.crook.running = k.running ∧
      (t.m.parts = PartCfg.default ∨ ∃ ps, s.m.secur.storedParts = some ps ∧ configOk ps = true ∧ t.m.parts = ps) ∧
      (∀ ps, s.m.secur.storedParts = some ps → configOk ps = false →
        t.m.parts = PartCfg.default ∧ t.m.get Reg.SCHED.STATUS_CONFIG_DEFAULT = 1 ∧ t.m.firewall = []) := by
  have hstart := resetRelease_starts hph hin hen hd hk
  obtain ⟨hphase, hcause, hcap, hdefault, hlink, hholdup, hfailed, hdyone, hcrook, hstored⟩ :=
    Module.booting_shows (m := s.m) (x := x) (d := d) (k := k)
  have hparts := hstart.parts
  have hunfit := hstart.unfit
  rw [hstored] at hparts hunfit
  refine ⟨_, exec_resetRelease x s, ?_⟩
  exact ⟨(congrArg PowerSt.phase hstart.power).trans hphase, (congrArg PowerSt.cause hstart.power).trans hcause,
    (congrArg PowerSt.capW hstart.power).trans hcap, (congrArg PowerSt.capDefault hstart.power).trans hdefault,
    (congrArg MirrorSt.linkId hstart.mirror).trans (hlink.trans (b2n_inBand _ _ _)),
    (congrArg PowerSt.holdupLow hstart.power).trans hholdup, (congrArg TestSt.failed hstart.test).trans hfailed,
    (congrArg FwKind.running hstart.dyone).trans hdyone, (congrArg FwKind.running hstart.crook).trans hcrook, hparts, hunfit⟩

end

/-! ### The commands of the test block (R571, R573) -/

theorem bit_of_lt {n i : Nat} (h : n < 2 ^ i) : bit n i = false := by
  rw [bit_eq_testBit, Nat.testBit_lt_two_pow h]

theorem src_of_fresh {src : Src} {op : Nat} {c : RunCmd} (h : Fresh s src op c) : c.src = src := by
  obtain ⟨-, hcmd, -⟩ := h
  exact (Module.src_of_cmdOf hcmd).1

section
variable {b mask f failed cores units : Nat} {strands : List Nat} {c : RunCmd} (hc : Fresh s (.mbox b) 0x1600 c)
  (hz : allZero c.payload 1 7 = true) (hmask : mask = u8 c.payload 0) (hf : f = failed &&& mask)
include hc hz hmask

theorem does_testDiag_reserved (h7 : bit mask 7 = true) :
    Does (.testDiag (.mbox b) failed cores strands units) s (s.m.badField c 0) :=
  does_onCmd rfl hc (testDiagCmd_reserved hz hmask h7)

theorem does_testDiag_paired (h7 : mask < 128) (h6 : bit mask 6 = true) (hpair : s.m.mirror.state ≠ 0) :
    Does (.testDiag (.mbox b) failed cores strands units) s (s.m.fail c .busy) :=
  does_onCmd rfl hc (testDiagCmd_paired hz hmask (bit_of_lt h7) h6 hpair)

include hf

/-- The tests of an admitted selection run, and their answer is written. -/
theorem exec_testDiag (h7 : bit mask 7 = false)
    (h6 : bit mask 6 = true → s.m.mirror.state = 0 ∧ ∀ k ∈ s.m.caps.slots.vals, k.state = 0 ∨ k.state = 6) :
    Does (.testDiag (.mbox b) failed cores strands units) s ((s.m.tested mask f cores units strands).complete c
      (if f = 0 then .ok else .damaged)
      (leBytes 1 f ++ zeros 7 ++ leBytes 8 (if bit mask 0 then (s.m.test.after mask f cores units strands).cores else 0)) noDetail) :=
  does_onCmd rfl hc (testDiagCmd_tests hz hmask h7 hf h6)

theorem does_testDiag_scan (hscan : mask = 0x28) : Does (.testDiag (.mbox b) failed cores strands units) s
    (({ s.m with test := { s.m.test with
      failed := (s.m.test.failed - (s.m.test.failed &&& mask)) + f,
      units := if bit f 3 = true then units % 2 ^ 16 else 0 } } : Module).complete c (if f = 0 then .ok else .damaged)
      (leBytes 1 f ++ zeros 7 ++ leBytes 8 0) noDetail) := by
  have h := exec_testDiag (cores := cores) (units := units) (strands := strands) hc hz hmask hf (by rw [hscan]; decide)
    (fun h6 => absurd h6 (by rw [hscan]; decide))
  rw [hscan] at h ⊢
  exact h

/-- Tests 0 to 5 leave the capsules and the external memory alone; HBM is written in test 4 alone, and test 2 frees every
object. -/
theorem exec_testDiag_within (h : mask < 64) : ∃ t, exec (.testDiag (.mbox b) failed cores strands units) s = .next t ∧
    t.m.test.failed = (s.m.test.failed - (s.m.test.failed &&& mask)) + f ∧ t.m.caps = s.m.caps ∧ t.m.lpddr = s.m.lpddr ∧
    (bit mask 4 = false → t.m.hbm = s.m.hbm) ∧
    (bit mask 0 = true → t.m.test.cores = (if bit f 0 = true then cores % 2 ^ 64 else 0)) ∧
    (bit mask 2 = true → s.m.lig.objs.wf = true → t.m.lig.objs = []) := by
  have h6 : bit mask 6 = false := bit_of_lt h
  obtain ⟨htest, hcaps, hlig, hhbm, hlpddr⟩ := Module.complete_leaves (m := s.m.tested mask f cores units strands)
    (st := if f = 0 then .ok else .damaged)
    (body := leBytes 1 f ++ zeros 7 ++ leBytes 8 (if bit mask 0 then (s.m.test.after mask f cores units strands).cores else 0))
    (d := noDetail) (src_of_fresh hc)
  have hfound := htest.trans (Module.tested_same f cores units strands (·.test))
  refine ⟨_, exec_testDiag hc hz hmask hf (bit_of_lt (Nat.lt_of_lt_of_le h (by decide))) (fun h' => absurd (h6.symm.trans h') (by decide)),
    congrArg TestSt.failed hfound, hcaps.trans (Module.tested_same f cores units strands (·.caps)),
    hlpddr.trans (Module.tested_lpddr f cores units strands h6),
    fun h4 => hhbm.trans (Module.tested_hbm f cores units strands h4 h6), fun h0 => ?_,
    fun h2 hw => (congrArg LigSt.objs hlig).trans (Module.tested_objs f cores units strands h2 hw)⟩
  refine (congrArg TestSt.cores hfound).trans ?_
  simp [TestSt.after, h0]

/-- Test 6 leaves both memories empty. -/
theorem exec_testDiag_memories (h : mask = 64) (hpair : s.m.mirror.state = 0)
    (hempty : ∀ k ∈ s.m.caps.slots.vals, k.state = 0 ∨ k.state = 6) :
    ∃ t, exec (.testDiag (.mbox b) failed cores strands units) s = .next t ∧ t.m.hbm = [] ∧ t.m.lpddr = [] := by
  have h6 : bit mask 6 = true := by rw [h]; decide
  obtain ⟨-, -, -, hhbm, hlpddr⟩ := Module.complete_leaves (m := s.m.tested mask f cores units strands)
    (st := if f = 0 then .ok else .damaged)
    (body := leBytes 1 f ++ zeros 7 ++ leBytes 8 (if bit mask 0 then (s.m.test.after mask f cores units strands).cores else 0))
    (d := noDetail) (src_of_fresh hc)
  obtain ⟨hnohbm, hnolpddr⟩ := Module.tested_memories f cores units strands (m := s.m) h6
  exact ⟨_, exec_testDiag hc hz hmask hf (by rw [h]; decide) (fun _ => ⟨hpair, hempty⟩), hhbm.trans hnohbm, hlpddr.trans hnolpddr⟩

end

section
variable {src : Src} {c : RunCmd} {b : Bytes} {n path p : Nat} (hc : Fresh s src 0x1610 c) (hb : b = c.payload) (hn : n = u8 b 0)
  (hpath : path = u8 b 1) (hp : p = u8 b 3) (hn15 : n ≤ 15) (hz : allZero b 0x0C 4 = true)
include hc hb hn hpath hp hn15 hz

theorem does_testPerturb_clear (h0 : path = 0) (hmode : u8 b 2 = 0) (hp0 : p = 0) (hamount : u32 b 4 = 0) (hms : u32 b 8 = 0) :
    Does (.testPerturb src) s ((s.m.withSlots (s.m.perturbTime.test.slots.del n)).ok c []) :=
  does_onCmd rfl hc (testPerturbCmd_clears hb hn hpath hp hn15 hz h0 hmode hp0 hamount hms)

variable (hfit : PerturbFits path (u8 b 2) (u32 b 4)) (hlo : 1 ≤ u32 b 4) (hms : 1 ≤ u32 b 8) (hms' : u32 b 8 ≤ 600000)
include hfit hlo hms hms'

/-- A slot is set for a partition that is not in Mute mode, or for all where none is or the path is one that Mute mode allows, and
is DENIED otherwise. -/
theorem does_testPerturb_set :
    (s.m.present p = true → s.m.mute p = true → Does (.testPerturb src) s (s.m.fail c .denied)) ∧
    (p = 0xFF → (∃ q < 8, s.m.mute q = true) → path ≠ 6 → path ≠ 10 → Does (.testPerturb src) s (s.m.fail c .denied)) ∧
    ((s.m.present p = true ∧ s.m.mute p = false) ∨ (p = 0xFF ∧ (path = 6 ∨ path = 10 ∨ ∀ q < 8, s.m.mute q = false)) →
      Does (.testPerturb src) s ((s.m.withSlots (s.m.perturbTime.test.slots.put n ⟨path, u8 b 2, if p = 0xFF then 8 else p,
        u32 b 4, (s.m.clk.now + u32 b 8 * 1000000) % 2 ^ 64⟩)).ok c [])) := by
  have hsets := testPerturbCmd_sets (m := s.m) hb hn hpath hp hn15 hz hfit hlo hms hms'
  have hone : s.m.present p = true → p ≠ 0xFF := by
    rintro hpres rfl
    simp [Module.present] at hpres
  refine ⟨fun hpres hmute => does_onCmd rfl hc ((hsets (.inr hpres)).trans ?_),
    fun hall hmute h6 h10 => does_onCmd rfl hc ((hsets (.inl hall)).trans ?_), ?_⟩
  · rw [if_pos (by simp [hone hpres, hmute])]
  · rw [if_neg (by simp [hall]), if_pos (by simp [hall, h6, h10, Module.debugLocked_iff.mpr hmute])]
  · rintro (⟨hpres, hmute⟩ | ⟨hall, hpaths⟩)
    · refine does_onCmd rfl hc ((hsets (.inr hpres)).trans ?_)
      rw [if_neg (by simp [hmute]), if_neg (by simp [hone hpres])]
    · refine does_onCmd rfl hc ((hsets (.inl hall)).trans ?_)
      rw [if_neg (by simp [hall]), if_neg]
      rcases hpaths with h6 | h10 | hnone
      · simp [h6]
      · simp [h10]
      · have hfree : s.m.debugLocked = false := by
          rw [← Bool.not_eq_true, Module.debugLocked_iff]
          rintro ⟨q, hq, hmute⟩
          simp [hnone q hq] at hmute
        simp [hfree]

end

theorem idle_readySet (hl : s.m.live = true) (h : s.m.power.rebuilt = false ∨ ∃ i ∈ [2, 4, 5], bit s.m.test.failed i = true) :
    Idle .readySet s := by
  have hexec : exec .readySet s = run readySet s := rfl
  rw [Idle, hexec, run_live hl, readySet_idle h]

end

end Sys2Proof.Machine

section
open Sys2Proof Sys2Proof.Machine

/-- Settles O60: a reset writes what the flash and the recorder hold and then loses the rest (Module.resetTo_heldBy); a partition's
reset stops its jobs and frees its objects (Module.partReset_shows); a start reads straps and images and applies the configuration
that passes (resetRelease_starts). That test 6 leaves both memories empty and test 2 frees every object is assumption 172. -/
theorem resetsStartUpAndDiagnosticsAct : Obligations.ResetsStartUpAndDiagnosticsAct := by
  unfold Obligations.ResetsStartUpAndDiagnosticsAct
  refine ⟨fun s hl p hp hbar => ?_, fun s v hl hup hd => ⟨fun hkey => ⟨?_, ?_⟩, ?_, ?_⟩, fun m p hp hthreads _ hobjs => ?_,
    fun s x hph hin hen => ⟨?_, ?_⟩, capOf_1600, fun k a b k1 => FwKind.start_running, fun s hl => ⟨?_, ?_⟩,
    fun s b c failed cores units mask f strands hc hmask hz hf => ⟨?_, ?_, ?_, ?_, ?_⟩,
    fun s src c b n path p hc hb hn hpath hp hn15 hz => ⟨?_, ?_⟩, ?_⟩
  · obtain ⟨hreset, hperst, hwrite⟩ := exec_reset_rows hl
    have hkeep := s.m.retains_flushed
    simp only [List.mem_cons, List.not_mem_nil, or_false] at hp
    rcases hp with rfl | rfl | rfl
    · simpa using exec_reset_shows hkeep hreset
    · simpa using exec_reset_shows hkeep hperst
    · obtain ⟨hup, hd⟩ := hbar rfl
      simpa using exec_reset_shows hkeep (hwrite _ hup hd (by decide) (by decide))
  · exact does_resetWrite_keyless rfl hl hup hd hkey
  · exact does_resetWrite_keyless rfl hl hup hd hkey
  · exact exec_moduleReset hl hup hd
  · exact fun p => does_partitionReset hl hup hd
  · exact Module.partReset_shows hp hthreads hobjs
  · exact exec_resetRelease_stays hph hin hen
  · exact fun d k => exec_resetRelease_starts hph hin hen
  · exact fun hup hr htests => does_run rfl hl (readySet_sets hup hr htests)
  · exact idle_readySet hl
  · exact does_testDiag_reserved hc hz hmask
  · exact does_testDiag_paired hc hz hmask
  · exact does_testDiag_scan hc hz hmask hf
  · exact exec_testDiag_within hc hz hmask hf
  · exact exec_testDiag_memories hc hz hmask hf
  · exact does_testPerturb_clear hc hb hn hpath hp hn15 hz
  · exact does_testPerturb_set hc hb hn hpath hp hn15 hz
  · exact fun s n x hl hn hx hend => perturbEnd_ends hx hend ▸ exec_perturbSlotEnd hl hn hx hend

end
